-- ==== Sys2Proof/Word.lean ====
section
/-! DEFINITION. The word and byte types (R8: every register is 64 bits wide; R7: memories are bytes). -/

namespace Sys2Proof

/-- A 64-bit register or memory word (R8). -/
abbrev Word := BitVec 64

/-- One byte of a memory or of a frame (R7). -/
abbrev Byte := BitVec 8

end Sys2Proof
end

