-- ==== Sys2Proof/Machine/Fields.lean ====
section
/-! DEFINITION. Bit fields of a 64-bit register (R6): a range [hi:lo] includes both ends, bit 0 is the
least significant bit, a field of width n holds 0 to 2^n − 1 unsigned or two's complement signed. -/

namespace Sys2Proof.Machine

/-- A field of a register: the register's Rhizome address and the field's bit range (R6, R8). -/
structure Fld where
  addr : Nat
  hi : Nat
  lo : Nat
deriving DecidableEq, Repr

/-- Width of a field. -/
def Fld.width (f : Fld) : Nat := f.hi + 1 - f.lo

/-- Bits [hi:lo] of `w` as an unsigned value (R6, R15). -/
def bitsOf (w : Word) (hi lo : Nat) : Nat := w.toNat / 2 ^ lo % 2 ^ (hi + 1 - lo)

/-- `w` with bits [hi:lo] replaced by the low bits of `v`. -/
def putBits (w : Word) (hi lo v : Nat) : Word :=
  BitVec.ofNat 64 (w.toNat % 2 ^ lo + v % 2 ^ (hi + 1 - lo) * 2 ^ lo + w.toNat / 2 ^ (hi + 1) * 2 ^ (hi + 1))

/-- The value of the low `n` bits of `v` read as two's complement (R6, R15). -/
def signed (n v : Nat) : Int :=
  if v % 2 ^ n < 2 ^ (n - 1) then (v % 2 ^ n : Nat) else (v % 2 ^ n : Nat) - (2 ^ n : Nat)

/-- The low `n` bits of `i` in two's complement, as an unsigned value. -/
def unsign (n : Nat) (i : Int) : Nat := (i % (2 ^ n : Nat)).toNat

/-- `x` clamped to the range lo to hi (R15). -/
def clampInt (x lo hi : Int) : Int := if x < lo then lo else if hi < x then hi else x

/-- `x` saturated to a signed field of `n` bits. -/
def satSigned (n : Nat) (x : Int) : Int := clampInt x (-(2 ^ (n - 1) : Nat)) ((2 ^ (n - 1) : Nat) - 1)

/-- `x` saturated to an unsigned field of `n` bits. -/
def satUnsigned (n x : Nat) : Nat := if x < 2 ^ n then x else 2 ^ n - 1

/-- 1 for true, 0 for false. -/
def b2n (b : Bool) : Nat := if b then 1 else 0

/-- Bit `i` of a number. -/
def bitAt (v i : Nat) : Bool := v / 2 ^ i % 2 == 1

/-- `v` with bit `i` set to `b`. -/
def setBitAt (v i : Nat) (b : Bool) : Nat :=
  if bitAt v i then (if b then v else v - 2 ^ i) else (if b then v + 2 ^ i else v)

/-- Division that truncates toward zero (R15). -/
def quotT (a b : Int) : Int := a.tdiv b

/-- Arithmetic right shift by `n` (R15): division rounding down. -/
def sarInt (a : Int) (n : Nat) : Int := a.fdiv (2 ^ n : Nat)

/-- The bytes of `v`, `n` of them, least significant first (R7). -/
def bytesLE : Nat → Nat → List Byte
  | 0, _ => []
  | n + 1, v => BitVec.ofNat 8 (v % 256) :: bytesLE n (v / 256)

/-- The value of bytes given least significant first (R7). -/
def natOfLE : List Byte → Nat
  | [] => 0
  | b :: t => b.toNat + 256 * natOfLE t

/-- The value of bytes given most significant first (R7: fields of frames on a wire). -/
def natOfBE (l : List Byte) : Nat := l.foldl (fun a b => a * 256 + b.toNat) 0

/-- The bytes of `v`, `n` of them, most significant first (R7). -/
def bytesBE (n v : Nat) : List Byte := (bytesLE n v).reverse

end Sys2Proof.Machine
end

