-- ==== Sys2Proof/Machine/Operands.lean ====
section
/-! DEFINITION. Rook operand forms: instruction words and immediates (R155 to R157, R174), and the
values that the ALU, bit-field, multiply and divide instructions compute (R163 to R166, R173). -/

namespace Sys2Proof.Machine

/-! ## Immediates (R157) -/

/-- imm15 sign-extended, and zero-extended. -/
def imm15s (i : BitVec 15) : Word := i.signExtend 64
def imm15z (i : BitVec 15) : Word := i.zeroExtend 64

/-- off15 and off25 as signed counts of instructions. -/
def off15 (i : BitVec 15) : Int := i.toInt
def off25 (i : BitVec 25) : Int := i.toInt

/-! ## Instruction words (Table R155) -/

/-- Format R, U, I, S and B words from opcode and fields. -/
def wordRRR (op a b c : Nat) : Nat := op * 2 ^ 25 + a * 2 ^ 20 + b * 2 ^ 15 + c * 2 ^ 10
def wordI (op a b imm : Nat) : Nat := op * 2 ^ 25 + a * 2 ^ 20 + b * 2 ^ 15 + imm % 2 ^ 15
def wordJ (op off : Nat) : Nat := op * 2 ^ 25 + off % 2 ^ 25

/-- Reserved fields of each defined opcode as a mask; none for an undefined opcode (R155, R156, R174). -/
def rookReserved (op : Nat) : Option Nat :=
  let r := 0x3FF
  let u := 0x7FFF
  if op == 0x07 || op == 0x0A || (decide (0x18 ≤ op) && decide (op ≤ 0x1B)) then some u
  else if (decide (0x01 ≤ op) && decide (op ≤ 0x0E)) || (decide (0x10 ≤ op) && decide (op ≤ 0x17)) then some r
  else if decide (0x20 ≤ op) && decide (op ≤ 0x25) then some 0
  else if decide (0x26 ≤ op) && decide (op ≤ 0x29) then some 0x7F00
  else if decide (0x2A ≤ op) && decide (op ≤ 0x2C) then some 0x7000
  else if op == 0x2D || op == 0x2E then some 0x30000
  else if decide (0x30 ≤ op) && decide (op ≤ 0x34) then some r
  else if (decide (0x40 ≤ op) && decide (op ≤ 0x46)) || (decide (0x48 ≤ op) && decide (op ≤ 0x4B)) then some 0
  else if op == 0x50 || op == 0x51 then some 0
  else if op == 0x52 then some 0xF8000
  else if decide (0x60 ≤ op) && decide (op ≤ 0x67) then some 0
  else if op == 0x68 || op == 0x69 then some 0x1F07FFF
  else if op == 0x6A then some 0x1FFFFFF
  else if op == 0x70 then some 0xFFFE0
  else if op == 0x71 then some 0x1F07FE0
  else if op == 0x72 || op == 0x73 || op == 0x75 || op == 0x76 then some 0x1FFFFFF
  else if op == 0x74 then some 0x1FF8000
  else none

/-- The word has an undefined opcode or a non-zero reserved field (R156). -/
def rookUndefined (w : Nat) : Bool :=
  match rookReserved (w / 2 ^ 25 % 128) with
  | none => true
  | some m => w &&& m != 0

/-! ## ALU values (R163, R164, R173) -/

/-- The signed value of a word put back in 64 bits. -/
def ofI (i : Int) : Word := BitVec.ofInt 64 i

/-- Signed saturation at MIN and MAX (R15, R163). -/
def sat64 (i : Int) : Int := clampInt i (-(2 ^ 63)) (2 ^ 63 - 1)

/-- 1 or 0 in a register. -/
def ofB (b : Bool) : Word := BitVec.ofNat 64 (b2n b)

/-- Shifts by a count of 0 to 255 (R173): 64 or more leaves 0, or copies of bit 63. -/
def shl64 (a : Word) (n : Nat) : Word := if 64 ≤ n then 0 else a <<< n
def shr64 (a : Word) (n : Nat) : Word := if 64 ≤ n then 0 else a >>> n
def sar64 (a : Word) (n : Nat) : Word := a.sshiftRight (if 63 < n then 63 else n)
def rol64 (a : Word) (n : Nat) : Word := a.rotateLeft (n % 64)
def ror64 (a : Word) (n : Nat) : Word := a.rotateRight (n % 64)

/-- Leading and trailing zeros of `a`, and its 1 bits; 64 zeros when a = 0. -/
def clz64 (a : Word) : Nat := ((List.range 64).find? fun i => a.getLsbD (63 - i)).getD 64
def ctz64 (a : Word) : Nat := ((List.range 64).find? fun i => a.getLsbD i).getD 64
def popc64 (a : Word) : Nat := ((List.range 64).filter fun i => a.getLsbD i).length

/-- Byte order reversed. -/
def bswap64 (a : Word) : Word := BitVec.ofNat 64 (natOfBE (bytesLE 8 a.toNat))

/-! ## Bit fields (R164, R165) -/

/-- The field of `len` bits at `pos`; bits above 63 read 0. -/
def extField (a : Word) (pos len : Nat) : Nat := a.toNat / 2 ^ pos % 2 ^ len

/-- INS: the low `len` bits of `a` at `pos` of `d`; bits that would land above 63 are discarded. -/
def insField (d a : Word) (pos len : Nat) : Word :=
  let hi := min 64 (pos + len)
  BitVec.ofNat 64 (d.toNat % 2 ^ pos + a.toNat % 2 ^ (hi - pos) * 2 ^ pos + d.toNat / 2 ^ hi * 2 ^ hi)

/-- MOVK: one 16-bit part of `d` replaced. -/
def movkField (d : Word) (hw imm : Nat) : Word := putBits d (16 * hw + 15) (16 * hw) imm

/-! ## Multiply and divide (R166, R173) -/

def mulLow (a b : Word) : Word := a * b
def mulHigh (a b : Word) : Word := ofI ((a.toInt * b.toInt).fdiv (2 ^ 64))
def mulHighU (a b : Word) : Word := BitVec.ofNat 64 (a.toNat * b.toNat / 2 ^ 64)

/-- Quotient and remainder for a divisor other than 0: truncation toward zero, the remainder with the
sign of the dividend; MIN by −1 gives MIN and 0. -/
def divSigned (a b : Word) : Word × Word := (ofI (a.toInt.tdiv b.toInt), ofI (a.toInt.tmod b.toInt))
def divUnsigned (a b : Word) : Word × Word :=
  (BitVec.ofNat 64 (a.toNat / b.toNat), BitVec.ofNat 64 (a.toNat % b.toNat))

end Sys2Proof.Machine
end

