-- ==== Sys2Proof/Syntax.lean ====
section
/-! DEFINITION. The commands the block takes and the data they carry. -/

namespace Sys2Proof

/-- What a MAC meets in a received frame beyond its bytes (Table R102). -/
inductive MacFault where
  | none
  | fcs
  | code
  /-- Cut short by link loss. -/
  | cut
  /-- A reassembly error of a preempted frame. -/
  | assembly
deriving DecidableEq, Repr

/-- An edge of SYNC_IN: LT in 0.5 ns, its direction, and at how many CLK_TIME edges after it the pin still reads the new
level (R90). -/
structure SyncEdge where
  at2 : Nat
  rising : Bool
  held : Nat
deriving DecidableEq, Repr

/-- What pins bring in STANDBY (Table R494): signal energy on the PHYs of FP 0 to 3, and the direction of an edge of
SYNC_IN. -/
structure WakePins where
  energy : BitVec 4
  rising : Bool
deriving DecidableEq, Repr

/-- A transmit FIFO that runs dry: the port, and the bytes of the frame that are on the wire (R104). -/
structure Underrun where
  p : Fin 10
  sent : Nat
deriving DecidableEq, Repr

/-- A verdict as it becomes known (R202): the buffer, the CLK_ENG cycles that the engine's WAIT has lasted since it last
counted, and whether it falls in the issue cycle of the next instruction (R206). -/
structure VerdictAt where
  b : Fin 2
  cycles : Nat
  atIssue : Bool
deriving DecidableEq, Repr

/-- How a domain loses power: power-good dropped, or (`reached` false) never came; whether a write into the filling copy
is cut short by it (R39, R490). -/
structure PowerLoss where
  reached : Bool
  aborting : Bool
deriving DecidableEq, Repr

/-- What a monitor of the safety island finds (Table R339): whether both cores issue an action alike and how many CLK_SAFE
cycles apart (R337), a count of CLK_SAFE over 1,600 cycles of the RC reference, how long in µs that reference stands
still, VDD_SAFE in 0.1 mV (R338), an uncorrectable word of a core's 192 KiB of SRAM (R336), the outcome of a self-test,
and whether the readback of the cut line is right. -/
inductive SfiFinding where
  | compare (same : Bool) (apart : Nat)
  | clock (count : Nat)
  | rcStop (micros : Nat)
  | supply (tenths : Nat)
  | mem (core : Fin 2) (word : Fin 24576)
  | selftest (pass : Bool)
  | cutLine (right : Bool)
deriving DecidableEq, Repr

/-- Readbacks of the safe outputs within a test pulse, and whether that of the cut line is right (R348). -/
structure PulseRead where
  levels : BitVec 8
  cutOk : Bool
deriving DecidableEq, Repr

/-- How a Cabinet Bus frame fares at the receiver (R228). -/
inductive CbVerdict where
  | good
  /-- It contains /E/ or an invalid code group. -/
  | code
  | crc
  /-- A reserved value, or a LEN that its slot does not allow. -/
  | fmt
deriving DecidableEq, Repr

/-- What a foreign master sends: a CSF, a STARTUP with its HOP and ATTEMPT, an ENUM with its SPACING (R244, R247). -/
inductive ForeignKind where
  | csf
  | startup (hop attempt : BitVec 8)
  | enum (spacing : BitVec 16)
deriving DecidableEq, Repr

/-- A good frame of a foreign master: its ID and what it is. -/
structure ForeignFrame where
  id : BitVec 5
  what : ForeignKind
deriving DecidableEq, Repr

/-- A CAN frame as received: format code (Table R267), flags, identifier, LEN or DLC, the XL fields of
offset 0x10 of Table R276, and the payload. -/
structure CanFrame where
  fmt : BitVec 2
  ide : Bool
  rmt : Bool
  brs : Bool
  /-- ESI, or SEC for XL. -/
  esi : Bool
  id : BitVec 29
  len : BitVec 12
  xl : Word
  bytes : List Byte
deriving DecidableEq, Repr

/-- The age in ns of a CAN frame at its validity point: since the sample point of SOF, and since its evaluation by the
filters began (R273, R282). -/
structure CanAge where
  sof : Nat
  eval : Nat
deriving DecidableEq, Repr

/-- How a transmit attempt ends (R268, R280, R281). -/
inductive CanEnd where
  | sent
  | lostArbitration
  /-- An error: its LEC code, whether ISO 11898-1 exempts it from raising TEC, and whether it was a bit error
  in the control or data field after arbitration was won. -/
  | error (lec : BitVec 3) (exempt inField : Bool)
deriving DecidableEq, Repr

/-- A ring descriptor as fetched from host memory (Table R390), with the bytes of its buffer for a transmit
ring. -/
structure HostDesc where
  part : Fin 6
  w0 : Word
  w1 : Word
  bytes : List Byte
deriving DecidableEq, Repr

/-- How a start-up step ends (R454): its code, whether it fails, µs from reset release, DETAIL where the step reads
it from outside, the domain that did not power up, the banks that cannot be repaired, and the repair records the
alternate way of step 0x07 finds (bank, pair). -/
structure StepOut where
  step : Nat
  fails : Bool
  micros : Nat
  detail : Nat
  power : Option Nat
  banks : List Nat
  repairs : List (Nat × Nat)
deriving DecidableEq, Repr

/-- Levels at an access: TAMPER_N high, and the mesh intact (R471). -/
structure AccPins where
  tamperHigh : Bool
  meshIntact : Bool
deriving DecidableEq, Repr

/-- What a march test finds in a bank: failing cells, and the failing column pairs that spare F does not cover
(R516, R517). -/
structure MarchBank where
  bank : Fin 80
  cells : Nat
  pairs : List Nat
deriving DecidableEq, Repr

/-- The commands of the block: one constructor for each row of spec/opcode_table.json. The table gives
no operands; each constructor's operands are what the rule it cites needs to know of the event. -/
inductive Instr where
  /-- CYCLE_BOUNDARY (R21): The nominal cycle boundary falls and takes effect at the next CLK_TIME edge; every unit keyed to the boundary acts there. -/
  | cycleBoundary
  /-- CB_IN (R25): At phase CB_IN the CBC sends the cycle-start frame on every active segment. -/
  | cbIn
  /-- ROOK_IN (R25): At phase ROOK_IN every RUNNING Rook receives the sticky CYC_START event. -/
  | rookIn
  /-- ACE_DISP (R25): At phase ACE_DISP the ACE opens dispatch and makes ready every axis whose feedback landed earlier. -/
  | aceDisp
  /-- ACE_DL (R324): At phase ACE_DL the ACE abandons unfinished samples and writes their repeated outputs with OUT_LATE. -/
  | aceDl
  /-- CB_OUT (R238): At phase CB_OUT the CBC reads every slice source in one snapshot and sends the output summation frame. -/
  | cbOut
  /-- ETH_TX (R214): At phase ETH_TX the Rooks release held cyclic frames to their engine ports in engine and buffer order. -/
  | ethTx
  /-- PI_SWAP (R31): The process image publishes the filling device copy, activates committed host slices and opens the next filling copy. -/
  | piSwap
  /-- HOST_WD_EXPIRE (R387): A partition's count of PI_SWAPs without a commit reaches WD_CYC; HOST_LOST sets and, with WD_ACT SAFESTOP, a safe stop is requested. -/
  | hostWdExpire (p : Fin 6)
  /-- HOST_NOTE (R25): At phase HOST_NOTE the HIC raises cycle notifications and the NTU, PEA, CBC and CANB take their cycle status snapshots. -/
  | hostNote
  /-- CYC_APPLY (R23): A write of 1 to NTU_CYC_CTL.APPLY checks the shadow bank and either arms the swap or sets APPLY_REFUSED. -/
  | cycApply
  /-- CYC_RUN_WRITE (R24): A write that changes NTU_CYC_CTL.RUN starts or stops the cycle generator, or is refused in SAFEOP, OP and SAFESTOP. -/
  | cycRunWrite (run : Bool)
  /-- SYNC_IN_EDGE (R37): A counted SYNC_IN edge is timestamped and classified against the nearest boundary, and its error may pull the cycle. -/
  | syncInEdge (e : SyncEdge)
  /-- SYNC_WINDOW_CLOSE (R37): At boundary plus LEN/4 no further edge can belong to the boundary, and NO_EDGE and LOCKED settle. -/
  | syncWindowClose
  /-- HOST_COMMIT_WRITE (R386): A partition writes 1 to HIC_PARTp_COMMIT.COMMIT to request a commit of its staging slice. -/
  | hostCommitWrite (p : Fin 6)
  /-- HOST_COMMIT_REGISTER (R386): The HIC registers a commit once all earlier staging writes of the partition have landed, and sets PENDING. -/
  | hostCommitRegister (p : Fin 6)
  /-- STARTUP_COMPLETE (R53): Everything that STARTUP waits for is brought up, and the device moves to PREOP. -/
  | startupComplete
  /-- STARTUP_TIMEOUT (R52): STARTUP does not complete within STARTUP_TMO × 10 ms and the device returns to CONFIG. -/
  | startupTimeout
  /-- LT_TRIM_WRITE (R70): A write of NTU_LT_TRIM changes the local time base rate from the next CLK_TIME edge without a step. -/
  | ltTrimWrite (trim : BitVec 32)
  /-- TD_MEAS_WRITE (R74): The MGP writes an offset measurement to NTU_TDx_MEAS, replacing any unconsumed one. -/
  | tdMeasWrite (x : Fin 2) (e : Word)
  /-- SERVO_CONSUME (R74): The domain servo consumes a measurement, steps or updates its rate, and updates the domain state. -/
  | servoConsume (x : Fin 2)
  /-- TD_HOLDOVER_TIMEOUT (R73): A LOCKED domain consumes no measurement for four measurement intervals and enters HOLDOVER. -/
  | tdHoldoverTimeout (x : Fin 2)
  /-- TD_FREE_TIMEOUT (R73): HOLDOVER lasts HOLD_MS ms and the domain enters FREE. -/
  | tdFreeTimeout (x : Fin 2)
  /-- TD_HOLD (R73): A write of 1 to NTU_TDx_CTL.HOLD puts a LOCKED domain into HOLDOVER. -/
  | tdHold (x : Fin 2)
  /-- CASTLING_GO (R77): A write of 1 to NTU_CAST_CTL.GO starts castling to the other domain or sets REFUSED. -/
  | castlingGo
  /-- CASTLING_DONE (R78): The served time reaches the target domain; SRC is rewritten, CASTLING clears and DONE sets. -/
  | castlingDone
  /-- SNAP_TAKE (R72): A write of 1 to NTU_SNAP_CTL.TAKE snapshots LT, TD-A and TD-B and increments NTU_SNAP_SEQ. -/
  | snapTake
  /-- TXTS_POP (R85): A read of NTU_TXTSp_POP removes the head transmit timestamp record and latches its nanoseconds. -/
  | txtsPop (p : Fin 10)
  /-- SYNC_OUT_ASSERT (R91): SYNC_OUT asserts at the boundary plus OFFSET. -/
  | syncOutAssert
  /-- SYNC_OUT_DEASSERT (R91): SYNC_OUT deasserts after WIDTH × 8 ns or at the next boundary. -/
  | syncOutDeassert
  /-- PPS_ASSERT (R92): PPS_OUT asserts when the selected time crosses a whole second plus OFFSET. -/
  | ppsAssert
  /-- PPS_DEASSERT (R92): PPS_OUT deasserts after WIDTH µs. -/
  | ppsDeassert
  /-- PORT_ENABLE (R98): Writing EPC_PORTp_CTL.EN = 1 in OFF starts the port, or latches PENDING during STOPPING. -/
  | portEnable (p : Fin 10)
  /-- PORT_DISABLE (R99): Writing EN = 0 moves the port to STOPPING. -/
  | portDisable (p : Fin 10)
  /-- PORT_STOP_DONE (R99): The port finishes its shutdown, enters OFF and restarts if PENDING is set. -/
  | portStopDone (p : Fin 10)
  /-- LINK_UP (R98): The link is established at SPEED and the port enters UP. -/
  | linkUp (p : Fin 10)
  /-- LINK_DOWN (R98): The link drops in UP; the port returns to LINK_WAIT and the SWC drops its queues. -/
  | linkDown (p : Fin 10)
  /-- SPEED_STEP (R111): An uplink with STEP_EN steps one rate down after 2 s in LINK_WAIT or three link drops in 10 s. -/
  | speedStep (p : Fin 10)
  /-- MAC_FRAME_RECEIVE (R102): A MAC receives a frame, discards and counts it if faulty, or passes it to the SWC. -/
  | macFrameReceive (p : Fin 10) (frags : List (List Byte)) (fault : MacFault) (raw2 : Nat)
  /-- PAUSE_EXPIRE (R106): The pause timer runs out and the transmitter resumes. -/
  | pauseExpire (p : Fin 10)
  /-- TX_UNDERRUN (R104): The transmit FIFO runs empty mid-frame; the MAC ends the frame with a bad FCS and raises THR. -/
  | txUnderrun (u : Underrun)
  /-- EPC_CNT_READ (R109): A read of EPC_PORTp_CNT returns the counters at one edge and clears them. -/
  | epcCntRead (p : Fin 10)
  /-- PREEMPT_VERIFY_DONE (R139): IEEE 802.3br verification succeeds and preemption becomes active on the port. -/
  | preemptVerifyDone (p : Fin 10)
  /-- SWC_FRAME_INGRESS (R114): The SWC takes its classification and forwarding decision for a frame once its first 96 bytes have arrived. -/
  | swcFrameIngress
  /-- AGING_SWEEP (R122): Every AGE_S seconds the SWC removes non-static FST entries with HIT 0 and clears HIT in the others. -/
  | agingSweep
  /-- EGRESS_FRAME_START (R133): An egress port selects the next frame by class, gate, guard and credit and starts its transmission. -/
  | egressFrameStart (p : Fin 16) (corr : BitVec 8) (bad : Bool)
  /-- MAC_FRAME_TX_END (R86): A MAC completes transmission of a frame, with one-step insertion and a transmit timestamp where applicable. -/
  | macFrameTxEnd (p : Fin 16) (raw2 : Nat)
  /-- GCL_ENTRY_ADVANCE (R135): The interval of a gate control list entry runs out and the next entry's gate states take effect. -/
  | gclEntryAdvance (p : Fin 16)
  /-- STREAM_GATE_ADVANCE (R130): The interval of a stream gate entry runs out and the next entry takes effect. -/
  | streamGateAdvance (g : Fin 64)
  /-- GATE_STARVE (R137): A frame has stood at the head of its queue for one full cycle without starting and is discarded. -/
  | gateStarve (p : Fin 16) (c : Fin 8)
  /-- UPD_OP (R125): A write of SWC_UPD_OP stages one table operation in the update batch. -/
  | updOp (table op : BitVec 4) (index : BitVec 14)
  /-- UPD_READ (R127): An update operation with OP = READ loads DATA0 to DATA4 with the entry at once. -/
  | updRead (table : BitVec 4) (index : BitVec 14)
  /-- SWC_COMMIT (R125): A write of 1 to SWC_GEN_CTL.COMMIT checks the batch and applies it with a generation increment, or fails it. -/
  | swcCommit
  /-- COMMIT_HOLD_RELEASE (R126): The last holder of a versioned list or gate releases it and a waiting COMMIT proceeds. -/
  | commitHoldRelease
  /-- SWC_ABORT (R125): A write of 1 to SWC_GEN_CTL.ABORT discards the staged batch. -/
  | swcAbort
  /-- GCL_APPLY (R134): A write of 1 to SWC_PORTp_GCL_CTL.APPLY checks the shadow gate list and arms or refuses its swap. -/
  | gclApply (p : Fin 16)
  /-- MIR_CONS_WRITE (R146): A write of SWC_MIR_CONS releases consumed mirror records or is refused with CFG_ERR. -/
  | mirConsWrite (count : BitVec 32)
  /-- FREE_LIST_AUDIT (R531): Every 1 ms the SWC counts free and held cells and starts a recovery on a mismatch. -/
  | freeListAudit (mismatch : Bool)
  /-- SWC_RECOVERY (R531): The SWC stops ingress, ends and discards every frame, rebuilds its free list and resumes. -/
  | swcRecovery
  /-- ADD (R163): Rook instruction: rd = a + b. -/
  | add (n : Fin 24) (rd rs1 rs2 : BitVec 5)
  /-- SUB (R163): Rook instruction: rd = a − b. -/
  | sub (n : Fin 24) (rd rs1 rs2 : BitVec 5)
  /-- AND (R163): Rook instruction: rd = a AND b. -/
  | and (n : Fin 24) (rd rs1 rs2 : BitVec 5)
  /-- OR (R163): Rook instruction: rd = a OR b. -/
  | or (n : Fin 24) (rd rs1 rs2 : BitVec 5)
  /-- XOR (R163): Rook instruction: rd = a XOR b. -/
  | xor (n : Fin 24) (rd rs1 rs2 : BitVec 5)
  /-- ANDN (R163): Rook instruction: rd = a AND NOT b. -/
  | andn (n : Fin 24) (rd rs1 rs2 : BitVec 5)
  /-- NEG (R163): Rook instruction: rd = −a, with OV for MIN. -/
  | neg (n : Fin 24) (rd rs1 : BitVec 5)
  /-- ADDS (R163): Rook instruction: saturating add, setting OV on saturation. -/
  | adds (n : Fin 24) (rd rs1 rs2 : BitVec 5)
  /-- SUBS (R163): Rook instruction: saturating subtract, setting OV on saturation. -/
  | subs (n : Fin 24) (rd rs1 rs2 : BitVec 5)
  /-- NEGS (R163): Rook instruction: saturating negate. -/
  | negs (n : Fin 24) (rd rs1 : BitVec 5)
  /-- MIN (R163): Rook instruction: signed minimum. -/
  | min (n : Fin 24) (rd rs1 rs2 : BitVec 5)
  /-- MAX (R163): Rook instruction: signed maximum. -/
  | max (n : Fin 24) (rd rs1 rs2 : BitVec 5)
  /-- MINU (R163): Rook instruction: unsigned minimum. -/
  | minu (n : Fin 24) (rd rs1 rs2 : BitVec 5)
  /-- MAXU (R163): Rook instruction: unsigned maximum. -/
  | maxu (n : Fin 24) (rd rs1 rs2 : BitVec 5)
  /-- SLT (R163): Rook instruction: signed set-less-than. -/
  | slt (n : Fin 24) (rd rs1 rs2 : BitVec 5)
  /-- SLTU (R163): Rook instruction: unsigned set-less-than. -/
  | sltu (n : Fin 24) (rd rs1 rs2 : BitVec 5)
  /-- SEQ (R163): Rook instruction: set-if-equal. -/
  | seq (n : Fin 24) (rd rs1 rs2 : BitVec 5)
  /-- SHL (R163): Rook instruction: logical left shift by b[7:0]. -/
  | shl (n : Fin 24) (rd rs1 rs2 : BitVec 5)
  /-- SHR (R163): Rook instruction: logical right shift by b[7:0]. -/
  | shr (n : Fin 24) (rd rs1 rs2 : BitVec 5)
  /-- SAR (R163): Rook instruction: arithmetic right shift by b[7:0]. -/
  | sar (n : Fin 24) (rd rs1 rs2 : BitVec 5)
  /-- ROL (R163): Rook instruction: rotate left by b[7:0] mod 64. -/
  | rol (n : Fin 24) (rd rs1 rs2 : BitVec 5)
  /-- ROR (R163): Rook instruction: rotate right by b[7:0] mod 64. -/
  | ror (n : Fin 24) (rd rs1 rs2 : BitVec 5)
  /-- CLZ (R163): Rook instruction: count leading zeros. -/
  | clz (n : Fin 24) (rd rs1 : BitVec 5)
  /-- CTZ (R163): Rook instruction: count trailing zeros. -/
  | ctz (n : Fin 24) (rd rs1 : BitVec 5)
  /-- POPC (R163): Rook instruction: population count. -/
  | popc (n : Fin 24) (rd rs1 : BitVec 5)
  /-- BSWAP (R163): Rook instruction: reverse byte order. -/
  | bswap (n : Fin 24) (rd rs1 : BitVec 5)
  /-- ADDI (R164): Rook instruction: add sign-extended immediate. -/
  | addi (n : Fin 24) (rd rs1 : BitVec 5) (imm : BitVec 15)
  /-- ANDI (R164): Rook instruction: AND with zero-extended immediate. -/
  | andi (n : Fin 24) (rd rs1 : BitVec 5) (imm : BitVec 15)
  /-- ORI (R164): Rook instruction: OR with zero-extended immediate. -/
  | ori (n : Fin 24) (rd rs1 : BitVec 5) (imm : BitVec 15)
  /-- XORI (R164): Rook instruction: XOR with zero-extended immediate. -/
  | xori (n : Fin 24) (rd rs1 : BitVec 5) (imm : BitVec 15)
  /-- SLTI (R164): Rook instruction: signed compare with immediate. -/
  | slti (n : Fin 24) (rd rs1 : BitVec 5) (imm : BitVec 15)
  /-- SLTUI (R164): Rook instruction: unsigned compare with immediate. -/
  | sltui (n : Fin 24) (rd rs1 : BitVec 5) (imm : BitVec 15)
  /-- SHLI (R164): Rook instruction: logical left shift by count. -/
  | shli (n : Fin 24) (rd rs1 : BitVec 5) (count : BitVec 8)
  /-- SHRI (R164): Rook instruction: logical right shift by count. -/
  | shri (n : Fin 24) (rd rs1 : BitVec 5) (count : BitVec 8)
  /-- SARI (R164): Rook instruction: arithmetic right shift by count. -/
  | sari (n : Fin 24) (rd rs1 : BitVec 5) (count : BitVec 8)
  /-- RORI (R164): Rook instruction: rotate right by count. -/
  | rori (n : Fin 24) (rd rs1 : BitVec 5) (count : BitVec 8)
  /-- EXT (R165): Rook instruction: extract a zero-extended bit field. -/
  | ext (n : Fin 24) (rd rs1 : BitVec 5) (pos len1 : BitVec 6)
  /-- EXTS (R165): Rook instruction: extract a sign-extended bit field. -/
  | exts (n : Fin 24) (rd rs1 : BitVec 5) (pos len1 : BitVec 6)
  /-- INS (R165): Rook instruction: insert a bit field into rd. -/
  | ins (n : Fin 24) (rd rs1 : BitVec 5) (pos len1 : BitVec 6)
  /-- MOVZ (R164): Rook instruction: load a shifted 16-bit immediate, zeroing the rest. -/
  | movz (n : Fin 24) (rd : BitVec 5) (hw : BitVec 2) (imm : BitVec 16)
  /-- MOVK (R164): Rook instruction: replace one 16-bit half of rd. -/
  | movk (n : Fin 24) (rd : BitVec 5) (hw : BitVec 2) (imm : BitVec 16)
  /-- MUL (R166): Rook instruction: low 64 bits of a × b. -/
  | mul (n : Fin 24) (rd rs1 rs2 : BitVec 5)
  /-- MULH (R166): Rook instruction: high 64 bits of the signed product. -/
  | mulh (n : Fin 24) (rd rs1 rs2 : BitVec 5)
  /-- MULHU (R166): Rook instruction: high 64 bits of the unsigned product. -/
  | mulhu (n : Fin 24) (rd rs1 rs2 : BitVec 5)
  /-- DIV (R173): Rook instruction: signed divide with remainder, DZ and OV handling. -/
  | div (n : Fin 24) (rd rs1 rs2 : BitVec 5)
  /-- DIVU (R173): Rook instruction: unsigned divide with remainder and DZ handling. -/
  | divu (n : Fin 24) (rd rs1 rs2 : BitVec 5)
  /-- LDB (R167): Rook instruction: load zero-extended byte from D-space. -/
  | ldb (n : Fin 24) (rd rs1 : BitVec 5) (imm : BitVec 15)
  /-- LDH (R167): Rook instruction: load zero-extended halfword. -/
  | ldh (n : Fin 24) (rd rs1 : BitVec 5) (imm : BitVec 15)
  /-- LDW (R167): Rook instruction: load zero-extended word. -/
  | ldw (n : Fin 24) (rd rs1 : BitVec 5) (imm : BitVec 15)
  /-- LDD (R167): Rook instruction: load doubleword. -/
  | ldd (n : Fin 24) (rd rs1 : BitVec 5) (imm : BitVec 15)
  /-- LDBS (R167): Rook instruction: load sign-extended byte. -/
  | ldbs (n : Fin 24) (rd rs1 : BitVec 5) (imm : BitVec 15)
  /-- LDHS (R167): Rook instruction: load sign-extended halfword. -/
  | ldhs (n : Fin 24) (rd rs1 : BitVec 5) (imm : BitVec 15)
  /-- LDWS (R167): Rook instruction: load sign-extended word. -/
  | ldws (n : Fin 24) (rd rs1 : BitVec 5) (imm : BitVec 15)
  /-- STB (R167): Rook instruction: store byte, buffered inside a speculative region. -/
  | stb (n : Fin 24) (rs2 rs1 : BitVec 5) (imm : BitVec 15)
  /-- STH (R167): Rook instruction: store halfword. -/
  | sth (n : Fin 24) (rs2 rs1 : BitVec 5) (imm : BitVec 15)
  /-- STW (R167): Rook instruction: store word. -/
  | stw (n : Fin 24) (rs2 rs1 : BitVec 5) (imm : BitVec 15)
  /-- STD (R167): Rook instruction: store doubleword. -/
  | std (n : Fin 24) (rs2 rs1 : BitVec 5) (imm : BitVec 15)
  /-- IN (R168): Rook instruction: read an IO word from the local window or the process-image port. -/
  | ioIn (n : Fin 24) (rd rs1 : BitVec 5) (imm : BitVec 15)
  /-- OUT (R168): Rook instruction: write an IO word to the local window or the process-image port. -/
  | ioOut (n : Fin 24) (rs2 rs1 : BitVec 5) (imm : BitVec 15)
  /-- WAIT (R169): Rook instruction: pause issue until a masked event bit is set. -/
  | wait (n : Fin 24) (rd : BitVec 5) (imm : BitVec 15)
  /-- WAIT_WAKE (R169): A waiting Rook WAIT finds its condition true and issue resumes in the next cycle. -/
  | waitWake (n : Fin 24) (cycles : Nat)
  /-- BEQ (R170): Rook instruction: branch when equal, with two delay slots. -/
  | beq (n : Fin 24) (rs1 rs2 : BitVec 5) (off : BitVec 15)
  /-- BNE (R170): Rook instruction: branch when not equal. -/
  | bne (n : Fin 24) (rs1 rs2 : BitVec 5) (off : BitVec 15)
  /-- BLT (R170): Rook instruction: branch when signed less. -/
  | blt (n : Fin 24) (rs1 rs2 : BitVec 5) (off : BitVec 15)
  /-- BGE (R170): Rook instruction: branch when signed greater or equal. -/
  | bge (n : Fin 24) (rs1 rs2 : BitVec 5) (off : BitVec 15)
  /-- BLTU (R170): Rook instruction: branch when unsigned less. -/
  | bltu (n : Fin 24) (rs1 rs2 : BitVec 5) (off : BitVec 15)
  /-- BGEU (R170): Rook instruction: branch when unsigned greater or equal. -/
  | bgeu (n : Fin 24) (rs1 rs2 : BitVec 5) (off : BitVec 15)
  /-- JMP (R170): Rook instruction: jump relative. -/
  | jmp (n : Fin 24) (off : BitVec 25)
  /-- CALL (R175): Rook instruction: push a return address and jump relative. -/
  | call (n : Fin 24) (off : BitVec 25)
  /-- JR (R170): Rook instruction: jump to register. -/
  | jr (n : Fin 24) (rs1 : BitVec 5)
  /-- CALLR (R175): Rook instruction: push a return address and jump to register. -/
  | callr (n : Fin 24) (rs1 : BitVec 5)
  /-- RET (R175): Rook instruction: pop the return stack and jump. -/
  | ret (n : Fin 24)
  /-- MFS (R154): Rook instruction: read a special register. -/
  | mfs (n : Fin 24) (rd sr : BitVec 5)
  /-- MTS (R154): Rook instruction: write a special register. -/
  | mts (n : Fin 24) (rs1 sr : BitVec 5)
  /-- SPEC (R179): Rook instruction: drain writes in flight, record w8 to w31 and RSP, and open a speculative region. -/
  | spec (n : Fin 24)
  /-- BRK (R172): Rook instruction: trap with cause BREAK. -/
  | brk (n : Fin 24)
  /-- SVC (R172): Rook instruction: trap with cause SVC and the code in TVAL. -/
  | svc (n : Fin 24) (code : BitVec 15)
  /-- RTE (R188): Rook instruction: return from a trap with the recorded pending transfer. -/
  | rte (n : Fin 24)
  /-- HALT (R189): Rook instruction: stop issue, squash any open region and halt the engine. -/
  | halt (n : Fin 24)
  /-- PIPELINE_WRITE_READY (R160): A Rook register write in flight reaches its ready cycle and is applied to the register file. -/
  | pipelineWriteReady (n : Fin 24)
  /-- ENGINE_ENABLE (R193): Writing PEA_Rn_CTL.EN = 1 starts a Rook engine, stores the enable, or latches PENDING. -/
  | engineEnable (n : Fin 24)
  /-- ENGINE_START_DONE (R193): A Rook engine completes STARTING after 16 cycles and runs from START. -/
  | engineStartDone (n : Fin 24)
  /-- ENGINE_DISABLE (R194): Writing EN = 0 moves a Rook engine to STOPPING. -/
  | engineDisable (n : Fin 24)
  /-- ENGINE_STOP_DONE (R194): A Rook engine finishes shutdown, enters OFF and restarts if PENDING is set. -/
  | engineStopDone (n : Fin 24)
  /-- EP_DISPATCH (R197): An engine port dispatches the frame at the head of a class queue to an engine's free receive buffer, or drops it. -/
  | epDispatch (k : Fin 4)
  /-- RX_RELEASE (R201): A write of 1 to RX_RELEASE frees the current receive buffer, aborting a frame still arriving. -/
  | rxRelease (n : Fin 24)
  /-- EV_CLR (R199): A write to EV_CLR clears the selected sticky event bits. -/
  | evClr (n : Fin 24) (mask : BitVec 64)
  /-- ROOK_TIMER_EXPIRE (R199): LT reaches a Rook's TIMER value and the sticky TIMER event sets. -/
  | rookTimerExpire (n : Fin 24)
  /-- PCRC_INIT_WRITE (R203): A write to PCRC_INIT restarts the programmable CRC computation. -/
  | pcrcInitWrite (n : Fin 24) (v : BitVec 64)
  /-- PCRC_FEED (R203): A write to PCRC_FEED feeds 8 bytes into the programmable CRC. -/
  | pcrcFeed (n : Fin 24) (v : BitVec 64)
  /-- PCRC_FEEDB (R203): A write to PCRC_FEEDB feeds one byte into the programmable CRC. -/
  | pcrcFeedb (n : Fin 24) (v : BitVec 8)
  /-- FRAME_VERDICT (R202): A Rook receive frame's verdict becomes known six cycles after its last byte and ends any bound speculative region. -/
  | frameVerdict (n : Fin 24) (v : VerdictAt)
  /-- DRAIN_LAND (R205): A Rook drain lands whole in the filling device copy, sets FRESH bits and COMMITTED. -/
  | drainLand (n : Fin 24)
  /-- TX_GO (R213): A write of TXb_CMD with GO = 1 hands a transmit buffer to the hardware, held or sent at once. -/
  | txGo (n : Fin 24) (b : Fin 2) (cmd : BitVec 64)
  /-- TX_BUFFER_DONE (R213): Every copy of a transmitted frame finishes or is discarded; the buffer reaches DONE or DROPPED. -/
  | txBufferDone (n : Fin 24) (b : Fin 2)
  /-- CB_SEG_ENABLE (R250): Writing CBC_SEGs_CTL.EN = 1 starts a segment in a mode that allows it, or latches PENDING. -/
  | cbSegEnable (g : Fin 4)
  /-- CB_SEG_DISABLE (R258): Writing EN = 0, or a mode change that makes the segment OFF, moves it to STOPPING. -/
  | cbSegDisable (g : Fin 4)
  /-- CB_SEG_STOP_DONE (R258): After /I/ for 1 µs the segment turns its transmitter off and enters OFF, restarting if PENDING. -/
  | cbSegStopDone (g : Fin 4)
  /-- CB_LISTEN_EXPIRE (R244): The master's listen time passes in silence and it sends a STARTUP frame. -/
  | cbListenExpire (g : Fin 4)
  /-- CB_FOREIGN_MASTER (R244): A good CSF or STARTUP from another master during listen or back-off puts the master into BACKUP. -/
  | cbForeignMaster (g : Fin 4) (f : ForeignFrame)
  /-- CB_BACKUP_TAKEOVER (R244): A master in BACKUP counts CSF_LOSS missing CSFs and listens again to start the segment. -/
  | cbBackupTakeover (g : Fin 4)
  /-- CB_ECHO_RECEIVE (R245): A good STARTUP echo arrives, giving LINE_HOPS, and the master sends ENUM. -/
  | cbEchoReceive (g : Fin 4) (v : CbVerdict) (hop : BitVec 8) (ns : Nat)
  /-- CB_ECHO_TIMEOUT (R246): No good echo arrives within 10 µs; the master backs off or the segment enters FAULT after eight attempts. -/
  | cbEchoTimeout (g : Fin 4) (signal : Bool) (ns : Nat)
  /-- CB_BACKOFF_EXPIRE (R246): The back-off time ends and the master listens again with ATTEMPT raised. -/
  | cbBackoffExpire (g : Fin 4)
  /-- CB_ENUM_RSP_RECEIVE (R247): An ENUM_RSP arrives and the master computes the node's hop delay. -/
  | cbEnumRspReceive (g : Fin 4) (v : CbVerdict) (id : BitVec 5) (hop kind : BitVec 8) (caps : BitVec 16) (uid : BitVec 32) (rx2 : Nat)
  /-- CB_ENUM_WINDOW_END (R247): The last ENUM response window closes and the master proceeds to configure the enumerated nodes. -/
  | cbEnumWindowEnd (g : Fin 4)
  /-- CB_CONF_ACK_RECEIVE (R249): A node's CONF_ACK arrives and the node counts as configured or refused. -/
  | cbConfAckReceive (g : Fin 4) (v : CbVerdict) (id : BitVec 5) (result : BitVec 8) (sgen : BitVec 16)
  /-- CB_CONF_ACK_TIMEOUT (R249): No CONF_ACK arrives by 2 µs after the expected instant; the CONF is retried or the start-up or bank fails. -/
  | cbConfAckTimeout (g : Fin 4)
  /-- CB_SYNC_ENTRY (R250): Every REQUIRED node is configured and the segment sends CSFs from the next boundary and enters SYNC. -/
  | cbSyncEntry (g : Fin 4)
  /-- CB_REPLY_RECEIVE (R236): A reply /S/ arrives in a slot and is accepted, classified early or late, and its deviation taken. -/
  | cbReplyReceive (g : Fin 4) (e : Fin 4096) (v : CbVerdict) (dev2 : Int) (nodeErr safe : Bool) (bytes : List Byte) (clashes : Nat)
  /-- CB_SLOT_END (R236): A reply slot's guard ends with no reply and SLOT_MISS counts. -/
  | cbSlotEnd (g : Fin 4) (e : Fin 4096)
  /-- CB_AREQ_SLOT (R240): At an ACYC_REQ entry the CBC sends the oldest queued acyclic request of the node. -/
  | cbAreqSlot (g : Fin 4) (e : Fin 4096)
  /-- CB_ARSP_RECEIVE (R240): An ARSP arrives in an ACYC_REPLY slot and is returned to the MGP. -/
  | cbArspReceive (g : Fin 4) (e : Fin 4096) (v : CbVerdict) (dev2 : Int) (bytes : List Byte) (clashes : Nat)
  /-- CB_AREQ_TIMEOUT (R240): An acyclic request unanswered for 64 cycles is returned to the MGP as timed out. -/
  | cbAreqTimeout (g : Fin 4) (node : BitVec 5)
  /-- CB_BABBLE (R257): A code group outside every window counts BABBLE and records its time and estimated hop. -/
  | cbBabble (g : Fin 4)
  /-- CB_SCHED_APPLY (R233): A write of 1 to CBC_SCHED_CTL.APPLY checks the shadow schedule and sends CONFs or refuses it. -/
  | cbSchedApply
  /-- CAN_ENABLE (R264): A channel with EN = 1 in a mode that allows it moves from OFF to STARTING. -/
  | canEnable (n : Fin 6)
  /-- CAN_BUS_INTEGRATED (R263): A STARTING channel sees 11 consecutive recessive bits and becomes ACTIVE. -/
  | canBusIntegrated (n : Fin 6)
  /-- CAN_DISABLE (R264): Writing EN = 0 moves a channel to STOPPING. -/
  | canDisable (n : Fin 6)
  /-- CAN_STOP_DONE (R264): The channel flushes its queue, resets its counters and indices, and enters OFF. -/
  | canStopDone (n : Fin 6)
  /-- CAN_TXQ_PUSH (R267): A write of CANn_TXQ_W2 pushes a descriptor to the transmit queue or is refused with PUSH_RESULT. -/
  | canTxqPush (who : Fin 33) (n : Fin 6) (w2 : Word)
  /-- CAN_CANCEL (R270): A write of CANn_TXQ with CANCEL = 1 removes the selected entries or marks the running attempt late. -/
  | canCancel (n : Fin 6) (tag mask : BitVec 16)
  /-- CAN_ATTEMPT_START (R268): The head entry's payload is fetched and an attempt's SOF starts at the bit timing logic. -/
  | canAttemptStart (n : Fin 6)
  /-- CAN_ATTEMPT_END (R269): A transmit attempt ends sent, lost or in error; the entry leaves or is retried and a transmit event is written. -/
  | canAttemptEnd (n : Fin 6) (how : CanEnd)
  /-- CAN_CYCLIC_TRIGGER (R271): A cyclic message triggers at boundary plus OFFSET, captures its data and enqueues an entry or counts CYC_OVERRUN. -/
  | canCyclicTrigger (n : Fin 6) (k : Fin 32)
  /-- CAN_FRAME_RX (R275): A received frame reaches its validity point and its filter action stores, writes or discards it. -/
  | canFrameRx (n : Fin 6) (f : CanFrame) (age : CanAge)
  /-- CAN_FILTER_APPLY (R274): A write of 1 to CANn_FLT.APPLY checks the inactive filter bank and arms or refuses its switch. -/
  | canFilterApply (n : Fin 6)
  /-- CAN_FILTER_SWITCH (R274): ACTIVE switches banks in the first cycle in which no evaluation runs. -/
  | canFilterSwitch (n : Fin 6)
  /-- CAN_REC_REQ (R280): A write of 1 to REC_REQ starts bus-off recovery. -/
  | canRecReq (n : Fin 6)
  /-- CAN_RECOVERY_DONE (R280): After 128 occurrences of 11 recessive bits the channel returns to ACTIVE with counters at 0. -/
  | canRecoveryDone (n : Fin 6)
  /-- PAWN_ENABLE (R288): Writing PIA_Pn_CTL.EN = 1 moves a Pawn engine to STARTING or latches PENDING. -/
  | pawnEnable (n : Fin 32)
  /-- PAWN_START_DONE (R288): A Pawn engine completes STARTING and runs, or waits with READY for GO. -/
  | pawnStartDone (n : Fin 32)
  /-- PAWN_DISABLE (R289): Writing EN = 0 stops a Pawn engine, idles its pins and empties its FIFOs. -/
  | pawnDisable (n : Fin 32)
  /-- PAWN_STOP_DONE (R289): A Pawn engine enters OFF after 4 cycles and restarts if PENDING is set. -/
  | pawnStopDone (n : Fin 32)
  /-- GROUP_GO (R300): A write of GO releases the named waiting engines of a group together. -/
  | groupGo (g : Fin 4) (mask : BitVec 8)
  /-- GROUP_DIVRST (R300): A write of DIVRST restarts the dividers of the named running engines. -/
  | groupDivrst (g : Fin 4) (mask : BitVec 8)
  /-- PINS_WRITE (R291): Pawn instruction: write the output or direction bits with MASK. -/
  | pinsWrite (n : Fin 32) (pads : BitVec 8) (tgt : BitVec 2) (mask : BitVec 8)
  /-- PINS_SET (R291): Pawn instruction: set output or direction bits. -/
  | pinsSet (n : Fin 32) (pads : BitVec 8) (tgt : BitVec 2) (mask : BitVec 8)
  /-- PINS_CLEAR (R291): Pawn instruction: clear output or direction bits. -/
  | pinsClear (n : Fin 32) (pads : BitVec 8) (tgt : BitVec 2) (mask : BitVec 8)
  /-- PINS_TOGGLE (R291): Pawn instruction: toggle output or direction bits. -/
  | pinsToggle (n : Fin 32) (pads : BitVec 8) (tgt : BitVec 2) (mask : BitVec 8)
  /-- SHIFT (R291): Pawn instruction: shift one bit through SH, in and out, and decrement BC. -/
  | shift (n : Fin 32) (pads : BitVec 8) (dirn oen ien : Bool) (obit ibit : BitVec 3)
  /-- PAWN_WAIT (R292): Pawn instruction: repeat each tick until a level, edge, flag, count or FIFO condition holds. -/
  | pawnWait (n : Fin 32) (pads : BitVec 8) (cond : BitVec 3) (pol : Bool) (arg : BitVec 4)
  /-- LDI (R291): Pawn instruction: load an immediate byte into A, B or BC. -/
  | ldi (n : Fin 32) (pads : BitVec 8) (dst byte : BitVec 2) (imm : BitVec 8)
  /-- MOV (R292): Pawn instruction: move a transformed source to a destination. -/
  | mov (n : Fin 32) (pads : BitVec 8) (dst src : BitVec 3) (xf : BitVec 2)
  /-- FIFO_PULL (R291): Pawn instruction: pop the TX FIFO head into SH, or set TX_UNDER. -/
  | fifoPull (n : Fin 32) (pads : BitVec 8)
  /-- FIFO_PUSH (R291): Pawn instruction: push SH into the RX FIFO, or set RX_OVER. -/
  | fifoPush (n : Fin 32) (pads : BitVec 8)
  /-- PAWN_JMP (R294): Pawn instruction: jump to ADDR when the condition holds. -/
  | pawnJmp (n : Fin 32) (pads : BitVec 8) (cond : BitVec 3) (target : BitVec 6)
  /-- DJNZ (R291): Pawn instruction: decrement A or B and jump while not zero. -/
  | djnz (n : Fin 32) (pads : BitVec 8) (reg : BitVec 1) (target : BitVec 6)
  /-- FLAG_SET (R301): Pawn instruction: set a shared flag. -/
  | flagSet (n : Fin 32) (pads : BitVec 8) (idx : BitVec 4)
  /-- FLAG_CLEAR (R301): Pawn instruction: clear a shared flag. -/
  | flagClear (n : Fin 32) (pads : BitVec 8) (idx : BitVec 4)
  /-- FLAG_NOTE (R291): Pawn instruction: set the engine's NOTE interrupt bit. -/
  | flagNote (n : Fin 32) (pads : BitVec 8)
  /-- PAWN_UNDEFINED (R293): A Pawn engine executes an undefined encoding, halts and sets FAULT. -/
  | pawnUndefined (n : Fin 32) (pads : BitVec 8)
  /-- PROG_ARM (R295): A write of 1 to PIA_Pn_PROG.ARM requests a bank swap, done at once if the engine is OFF. -/
  | progArm (n : Fin 32)
  /-- SWAP_NOW (R296): A write of 1 to SWAP_NOW forces the program bank swap at the next tick or at once. -/
  | swapNow (n : Fin 32)
  /-- TXF_PUSH (R298): A host write of PIA_Pn_TXF pushes a word to the TX FIFO or counts HOST_DROP. -/
  | txfPush (n : Fin 32) (data : BitVec 32)
  /-- RXF_POP (R298): A host read of PIA_Pn_RXF pops a word from the RX FIFO. -/
  | rxfPop (n : Fin 32)
  /-- PIA_FLAG_SET_WRITE (R301): A host write to PIA_FLAG_SET sets shared flags. -/
  | piaFlagSetWrite (flags : BitVec 16)
  /-- PIA_FLAG_CLR_WRITE (R301): A host write to PIA_FLAG_CLR clears shared flags. -/
  | piaFlagClrWrite (flags : BitVec 16)
  /-- OUTPUT_LINK_TRIGGER (R306): An output link triggers at boundary plus OFFSET and pushes its item or counts PI_OVERRUN. -/
  | outputLinkTrigger (n : Fin 32)
  /-- ACE_DEADLINE (R318): An axis's dispatch deadline passes without landing and it becomes ready with extrapolated feedback. -/
  | aceDeadline (k : Fin 64)
  /-- ACE_DISPATCH (R319): A lane accepts a ready axis, reads its setpoint and feedback, and starts its sample. -/
  | aceDispatch (lane : Fin 4) (ecc : Fin 3)
  /-- ACE_RESULT_LAND (R324): A sample completes and its result item lands in the filling copy with its FRESH bit. -/
  | aceResultLand (k : Fin 64)
  /-- ACE_BANK_APPLY (R331): A write of 1 to ACE_BANK_CTL.APPLY starts the check of the named axes' shadow banks. -/
  | aceBankApply
  /-- ACE_APPLY_CHECK_DONE (R331): The ACE bank check completes and either refuses the banks or arms the swap. -/
  | aceApplyCheckDone
  /-- ACE_COPY (R333): A write of 1 to ACE_BANK_CTL.COPY starts copying an axis's active bank into its shadow. -/
  | aceCopy (axis : Fin 64)
  /-- ACE_COPY_DONE (R333): The bank copy completes and COPY_DONE sets. -/
  | aceCopyDone
  /-- SFI_TICK_START (R340): A safety tick starts: inputs, DSL captures and mode are sampled and the tick's logic runs. -/
  | sfiTickStart (raw : BitVec 24) (readback : BitVec 8)
  /-- SFI_OUTPUT_SWITCH (R340): At 150 µs into the tick the SFI switches safe outputs, demand lines and the global stop line. -/
  | sfiOutputSwitch
  /-- SFI_TICK_OVERRUN (R339): Tick logic is not complete by 150 µs and the SFI enters SAFE_FAULT. -/
  | sfiTickOverrun
  /-- SFI_FAULT_DETECT (R339): A compare, clock, supply, memory, self-test or cut-test fault cuts the safe outputs and puts the SFI in SAFE_FAULT. -/
  | sfiFaultDetect (e : SfiFinding)
  /-- SFI_PERIODIC_SELFTEST (R339): The periodic self-test of comparator, cut line, input stages and island SRAM runs at least every 10 min. -/
  | sfiPeriodicSelftest (pass : Bool)
  /-- OUT_TEST_PULSE (R348): An energised output channel is switched off for OUT_TP_W and its readbacks are checked. -/
  | outTestPulse (q : Fin 4) (b : Fin 2) (readback : PulseRead) (inp : BitVec 24)
  /-- DSL_WATCHDOG_EXPIRE (R356): CONN_WD elapses without an accepted DATA and the connection enters FAIL. -/
  | dslWatchdogExpire (c : Fin 512)
  /-- STO_ACK_TIMEOUT (R365): A drive does not report STO_ACTIVE within AX_STO_ACK and a STO_ACK violation latches. -/
  | stoAckTimeout (k : Fin 64)
  /-- SS1_TIME_EXPIRE (R367): The SS1 time of an axis's ramp runs out and the ramp ends in STO or SOS. -/
  | ss1TimeExpire (k : Fin 64)
  /-- SBC_DELAY_EXPIRE (R365): The brake delay after STO runs out and AXIS_CMD.SBC is set. -/
  | sbcDelayExpire (k : Fin 64)
  /-- HOST_ACCESS (R382): A host register or memory access passes through the firewall, is permitted or denied, and is counted and latched if denied. -/
  | hostAccess (p : Fin 6) (bar2 write : Bool) (a : BitVec 27) (n : BitVec 13) (bytes : List Byte) (pins : AccPins)
  /-- MEM_WRITE (R380): xSPI command: write 8 to 256 bytes at a BAR2 offset. -/
  | memWrite (h : Fin 2) (a : BitVec 32) (words : List (BitVec 64))
  /-- MEM_READ (R380): xSPI command: read from a BAR2 offset until CS# rises. -/
  | memRead (h : Fin 2) (a : BitVec 32) (n : BitVec 16)
  /-- REG_WRITE (R381): xSPI command: posted Rhizome register write, or OVERLAP while BUSY. -/
  | regWrite (h : Fin 2) (a : BitVec 32) (v : BitVec 64) (pins : AccPins)
  /-- REG_READ (R381): xSPI command: start a Rhizome register read, or OVERLAP while BUSY. -/
  | regRead (h : Fin 2) (a : BitVec 32)
  /-- RESULT (R381): xSPI command: return the status word and last read data, clearing DENIED and OVERLAP. -/
  | result (h : Fin 2)
  /-- PCIE_LINK_RESET (R379): PCIE_PERST_N, a hot reset or a link-down acts as PARTITION_RESET of partitions 0 to 3. -/
  | pcieLinkReset
  /-- FUNCTION_LEVEL_RESET (R379): A PCIe Function Level Reset acts as PARTITION_RESET of that function's partition. -/
  | functionLevelReset (p : Fin 4)
  /-- HIC_SLICE_WRITE (R385): The owner writes HIC_PARTp_SLICE in CONFIG, resetting the partition's active and staging copies. -/
  | hicSliceWrite (p : Fin 6) (off : BitVec 8) (len : Fin 257)
  /-- HP_FRAME_DELIVER (R388): HP delivers a good frame into a matching partition's receive ring, or drops it on ring exhaustion. -/
  | hpFrameDeliver (descs : List HostDesc)
  /-- HIC_TX_POST (R393): A write of TX_TAIL makes descriptors available and the HIC passes their frames to HP ingress. -/
  | hicTxPost (p : Fin 6) (tail : BitVec 16) (descs : List HostDesc)
  /-- HIC_TX_COMPLETE (R393): The SWC has taken a whole frame and the HIC completes its descriptors and advances TX_HEAD. -/
  | hicTxComplete (p : Fin 6)
  /-- HIC_PRST_WRITE (R419): A write of 1 to HIC_PARTp_DCP.PRST starts PARTITION_RESET of that partition. -/
  | hicPrstWrite (p : Fin 6)
  /-- DCP_SQ_DOORBELL (R402): A write of SQ_TAIL submits entries to a DCP submission queue. -/
  | dcpSqDoorbell (p : Fin 6) (q : Fin 4) (tail : BitVec 16)
  /-- DCP_FETCH (R402): The MGP fetches an eligible submission entry, checks it under R405 and starts it. -/
  | dcpFetch (p : Fin 6) (q : Fin 4) (entry payload : List Byte) (entryBad payBad : Bool)
  /-- DCP_START_TIMEOUT (R409): An eligible command has not started within TMO ms and completes with TIMEOUT. -/
  | dcpStartTimeout (p : Fin 6) (q : Fin 4) (entry : List Byte)
  /-- DCP_COMPLETION (R402): A command completes; the MGP writes its reply payload and completion entry and advances CQ_TAIL. -/
  | dcpCompletion (slot : Fin 25)
  /-- DCP_FRAME_COMMAND (R410): In DEGRADED a command frame reaching MP is queued, run in order and answered by a frame. -/
  | dcpFrameCommand
  /-- NOP (R411): DCP command 0x0000: no operation. -/
  | nop (slot : Fin 25)
  /-- IDENTIFY (R412): DCP command 0x0001: return the identification reply. -/
  | identify (slot : Fin 25)
  /-- DEVICE_RESET (R420): DCP command 0x0002: complete with OK and reset the device 1 ms later. -/
  | deviceReset (slot : Fin 25)
  /-- DEVICE_RESET_ASSERT (R420): 1 ms after DEVICE_RESET or a life-cycle advance, a rank 2 reset begins a start. -/
  | deviceResetAssert
  /-- PARTITION_RESET (R419): DCP command 0x0003: reset the sender's or a named partition. -/
  | partitionReset (slot : Fin 25)
  /-- RESTORE_FACTORY (R421): DCP command 0x0004: erase the configuration area of MRAM. -/
  | restoreFactory (slot : Fin 25)
  /-- LIFECYCLE_ADVANCE (R465): DCP command 0x0005: wipe the vault, program life-cycle fuses and reset. -/
  | lifecycleAdvance (slot : Fin 25)
  /-- MODE_GET (R411): DCP command 0x0100: return SYSCTL_MODE and SYSCTL_MODE_CFG. -/
  | modeGet (slot : Fin 25)
  /-- MODE_SET (R45): DCP command 0x0101: request a mode transition, checked against Table R45. -/
  | modeSet (slot : Fin 25)
  /-- MODE_CFG_SET (R588): DCP command 0x0102: store and write SYSCTL_MODE_CFG. -/
  | modeCfgSet (slot : Fin 25)
  /-- CONN_SET (R413): DCP command 0x0200: record a connection in the registry. -/
  | connSet (slot : Fin 25)
  /-- CONN_CLEAR (R413): DCP command 0x0201: remove a connection from the registry. -/
  | connClear (slot : Fin 25)
  /-- CONN_GET (R413): DCP command 0x0202: return a connection record. -/
  | connGet (slot : Fin 25)
  /-- SAFEVAL_SET (R414): DCP command 0x0203: write a connection's safe value into every store that serves it. -/
  | safevalSet (slot : Fin 25)
  /-- GRANT (R415): DCP command 0x0204: open a firewall window or grant G commands to a partition. -/
  | grant (slot : Fin 25)
  /-- REVOKE (R411): DCP command 0x0205: close a window or withdraw a G grant. -/
  | revoke (slot : Fin 25)
  /-- SLICE_SET (R587): DCP command 0x0206: set a partition's host slice. -/
  | sliceSet (slot : Fin 25)
  /-- CFG_STORE (R411): DCP command 0x0207: store the configuration in MRAM. -/
  | cfgStore (slot : Fin 25)
  /-- CFG_CHECK (R413): DCP command 0x0208: report registry and safe-value inconsistencies. -/
  | cfgCheck (slot : Fin 25)
  /-- SWC_LOAD (R411): DCP command 0x0300: apply one SWC update batch. -/
  | swcLoad (slot : Fin 25)
  /-- ROOK_SETUP (R587): DCP command 0x0301: set an engine's binding, grants and dispatch entries. -/
  | rookSetup (slot : Fin 25)
  /-- CB_AREQ (R240): DCP command 0x0302: queue an acyclic Cabinet Bus request and return its response. -/
  | cbAreq (slot : Fin 25)
  /-- NET_ACYC (R411): DCP command 0x0303: pass an acyclic service request to a spore instance. -/
  | netAcyc (slot : Fin 25) (answer : Option (List Byte))
  /-- PTP_SET (R411): DCP command 0x0304: configure a PTP instance of a time domain. -/
  | ptpSet (slot : Fin 25)
  /-- RELAY_SET (R360): DCP command 0x0305: set a DSL ETH relay entry. -/
  | relaySet (slot : Fin 25)
  /-- NET_STATUS (R411): DCP command 0x0306: return port, segment and channel states. -/
  | netStatus (slot : Fin 25)
  /-- AXIS_SET (R587): DCP command 0x0400: write an axis's configuration registers. -/
  | axisSet (slot : Fin 25)
  /-- AXIS_GET (R587): DCP command 0x0401: return an axis's status and snapshot registers. -/
  | axisGet (slot : Fin 25)
  /-- BANK_WRITE (R587): DCP command 0x0402: write an axis's shadow coefficients or tables. -/
  | bankWrite (slot : Fin 25)
  /-- BANK_APPLY (R331): DCP command 0x0403: apply the shadow banks of the named axes. -/
  | bankApply (slot : Fin 25)
  /-- BANK_COPY (R333): DCP command 0x0404: copy an axis's active bank to its shadow. -/
  | bankCopy (slot : Fin 25)
  /-- SAFE_PDU (R362): DCP command 0x0500: pass a parameter channel PDU to the SFI and return its PARAM_ACK. -/
  | safePdu (slot : Fin 25)
  /-- SAFE_VIEW (R411): DCP command 0x0501: return the SFI register view. -/
  | safeView (slot : Fin 25)
  /-- SPORE_LOAD (R216): DCP command 0x0600: verify a spore and load it into OFF engines. -/
  | sporeLoad (slot : Fin 25) (signed cut : Bool)
  /-- IMAGE_WRITE (R416): DCP command 0x0601: write part of a device image into the non-booted slot. -/
  | imageWrite (slot : Fin 25)
  /-- IMAGE_COMMIT (R463): DCP command 0x0602: verify a slot and make it bootable and preferred. -/
  | imageCommit (slot : Fin 25) (signed : Bool)
  /-- IMAGE_INFO (R411): DCP command 0x0603: return the state of both image slots. -/
  | imageInfo (slot : Fin 25)
  /-- EVENT_READ (R543): DCP command 0x0700: return event log records. -/
  | eventRead (slot : Fin 25)
  /-- JOURNAL_READ (R459): DCP command 0x0701: return the boot journal records of the last two starts. -/
  | journalRead (slot : Fin 25)
  /-- BIST_RUN (R545): DCP command 0x0702: run a built-in self-test. -/
  | bistRun (slot : Fin 25) (fails : BitVec 32) (first : BitVec 64)
  /-- MARCH_RUN (R515): DCP command 0x0703: run a destructive or transparent march test on banks. -/
  | marchRun (slot : Fin 25) (found : List MarchBank)
  /-- TEMP_READ (R576): DCP command 0x0704: return the hottest junction temperature. -/
  | tempRead (slot : Fin 25) (tj : BitVec 64)
  /-- CAL_GET (R417): DCP command 0x0800: return a calibration value. -/
  | calGet (slot : Fin 25)
  /-- CAL_SET (R417): DCP command 0x0801: store a user calibration value and write the register. -/
  | calSet (slot : Fin 25)
  /-- CAL_CLEAR (R417): DCP command 0x0802: discard user calibration and restore factory values. -/
  | calClear (slot : Fin 25)
  /-- FACTORY_WRITE (R466): DCP command 0x0803: write an unwritten block of the factory area. -/
  | factoryWrite (slot : Fin 25)
  /-- MGP_WATCHDOG_EXPIRE (R529): The MGP watchdog goes 100 ms without refresh and the CRP restarts MGP firmware. -/
  | mgpWatchdogExpire
  /-- MGP_RESTART_DONE (R529): The restarted MGP completes the commands it had fetched with OK or INTERNAL. -/
  | mgpRestartDone
  /-- MB_POST (R427): A write of POST copies the staging buffer into the message buffer, stamps it and rings the receiver's doorbell. -/
  | mbPost (who : Fin 33) (m : Fin 128) (len : BitVec 9)
  /-- MB_ACK (R429): The receiver's acknowledge write empties the mailbox and stores or drops the acknowledge. -/
  | mbAck (who : Fin 33) (m : Fin 128) (epoch seq code : BitVec 16)
  /-- MB_TIMEOUT (R430): No accepted acknowledge arrives within TMO µs; TIMEOUT sets and ACK takes code 0xFFF1. -/
  | mbTimeout (m : Fin 128)
  /-- SEM_TAKE (R436): A read of MQF_SEMs attempts to take the semaphore and returns GRANTED or TAKEN. -/
  | semTake (who : Fin 33) (n : Fin 64)
  /-- SEM_RELEASE (R436): A write of REL = 1 frees the semaphore or counts REL_DENIED. -/
  | semRelease (who : Fin 33) (n : Fin 64)
  /-- PQ_WR (R439): A writer pushes a word into the open packet, opening it, reserving items or dropping it. -/
  | pqWr (who : Fin 33) (k : Fin 64) (data : BitVec 32) (vb : BitVec 2) (commit : Bool)
  /-- PQ_COMMIT (R440): A COMMIT writes the packet header, any gap marker, and advances PUT, or is deferred inside a region. -/
  | pqCommit (who : Fin 33) (k : Fin 64)
  /-- PQ_REWIND (R440): A REWIND discards the open packet. -/
  | pqRewind (who : Fin 33) (k : Fin 64)
  /-- PQ_FLUSH (R445): A FLUSH empties the unit at once, discarding the open packet and committed items. -/
  | pqFlush (who : Fin 33) (k : Fin 64)
  /-- PQ_RD0_POP (R444): A read of PQk_RD0 returns and pops the item at GET and latches its upper half. -/
  | pqRd0Pop (who : Fin 33) (k : Fin 64)
  /-- PQ_ENABLE (R446): Writing PQk_CTL.EN = 1 starts the unit or latches PENDING. -/
  | pqEnable (k : Fin 64)
  /-- PQ_DISABLE (R446): Writing EN = 0 moves the unit to STOPPING. -/
  | pqDisable (k : Fin 64)
  /-- PQ_STOP_DONE (R446): The unit completes its shutdown, resets PUT and GET and enters OFF. -/
  | pqStopDone (k : Fin 64)
  /-- POR_N_ASSERT (R449): A recognised low on POR_N holds every domain in reset. -/
  | porNAssert
  /-- POR_N_RELEASE (R449): Release of POR_N begins a start with CAUSE POWER_ON or POR. -/
  | porNRelease (rose : Bool)
  /-- SYSRST_N_ASSERT (R450): SYSRST_N low for 10 ms counts as asserted and resets every domain except PD_AON. -/
  | sysrstNAssert
  /-- SYSRST_N_RELEASE (R450): SYSRST_N high for 10 ms counts as released and begins a start with CAUSE SYSRST. -/
  | sysrstNRelease
  /-- RST_STUCK (R451): SYSRST_N low for more than 8 s latches RST_STUCK, masks the pin and begins a DEGRADED start. -/
  | rstStuck
  /-- SYSRST_UNMASK (R451): A masked SYSRST_N stands high for 100 ms and is unmasked. -/
  | sysrstUnmask
  /-- AON_POWER_LOSS (R528): Loss of VDD_AON power-good acts as POR_N. -/
  | aonPowerLoss
  /-- BOOT_START (R453): The fiddlehead begins a start of the selected kind and runs its steps in order. -/
  | bootStart (out : List StepOut) (hang : Option Nat)
  /-- BOOT_STEP_TIMEOUT (R454): A start-up step exceeds its maximum time and ends with result TIMEOUT. -/
  | bootStepTimeout (out : List StepOut) (hang : Option Nat)
  /-- BOOT_WATCHDOG_EXPIRE (R456): The 2 s boot watchdog expires and the start counts as failed. -/
  | bootWatchdogExpire
  /-- STATUS_FRAME_TOGGLE (R540): While BOOT has halted, STATUS alternates every 500 ms between the two frames of the failed step code. -/
  | statusFrameToggle
  /-- TAMPER_PIN (R470): TAMPER_N low for FILT × 10 µs is detected as a tamper and starts a vault wipe. -/
  | tamperPin
  /-- TAMPER_MESH (R470): An open or short of the tamper mesh is detected and starts a vault wipe. -/
  | tamperMesh
  /-- JTAG_TOKEN (R468): A token presented through the JTAG security instruction opens debug access or requests RMA entry. -/
  | jtagToken (kind : Fin 3) (valid : Bool)
  /-- VAULT_WIPE (R512): A write of 1 to MEM_VAULT_CTL.WIPE starts a vault wipe. -/
  | vaultWipe (p : Fin 6)
  /-- VAULT_WIPE_DONE (R512): The vault wipe completes and WIPED sets. -/
  | vaultWipeDone
  /-- CLOCK_MONITOR_WINDOW (R475): A 1,024-cycle REFCLK window ends and each derived clock's count is checked for a clock fault. -/
  | clockMonitorWindow (c0 c1 c2 c3 c4 c5 : BitVec 32) (locked : Bool)
  /-- PLL_RELOCK_ATTEMPT (R476): A PLL relock attempt ends; on success the DEGRADED domains restart and the device enters DEGRADED. -/
  | pllRelockAttempt (ok : Bool)
  /-- DOMAIN_POWER_UP_DONE (R487): A domain's power-up sequence completes and it is ON. -/
  | domainPowerUpDone (d : Fin 10)
  /-- DOMAIN_POWER_DOWN_DONE (R488): A domain's power-down completes and it is OFF, restarting if PENDING. -/
  | domainPowerDownDone (d : Fin 10)
  /-- DOMAIN_POWER_FAIL (R490): A domain's power-good drops or does not arrive in time; the domain and its dependants open and may force DEGRADED. -/
  | domainPowerFail (d : Fin 10) (f : PowerLoss)
  /-- WAKE_TIMER_EXPIRE (R494): The STANDBY wake timer runs out and wakes the device. -/
  | wakeTimerExpire
  /-- WAKE_EVENT (R494): An armed wake source fires during STANDBY and the device wakes into a WARM start. -/
  | wakeEvent (mask : BitVec 5) (pins : WakePins) (ms : BitVec 32)
  /-- BANK_TARGET_WRITE (R503): A write of MEM_BANK_CFGr.TARGET starts a bank state change. -/
  | bankTargetWrite (b : Fin 80) (target : BitVec 2)
  /-- BANK_CHANGE_DONE (R503): A bank completes its change to ON, RETENTION or OFF, then moves on to any newer target. -/
  | bankChangeDone (b : Fin 80)
  /-- PATROL_SCRUB (R510): The patrol scrubber reads a line in an idle cycle and corrects it, setting SCRUB_LATE if a pass runs late. -/
  | patrolScrub (line : Fin 1310720) (s0 s1 s2 s3 : BitVec 8) (late : Bool)
  /-- REGISTER_WRITE (R9): A write to a register with no row of its own acts by field access type, with reserved-value and lock checks. -/
  | registerWrite (who : Fin 33) (a : BitVec 32) (v : BitVec 64) (lo hi : Bool) (pins : AccPins)
  /-- ROOK_UNDEFINED_INSTRUCTION (R156): A Rook issues a word with an undefined opcode or a non-zero reserved field and traps with cause ILLEGAL. -/
  | rookUndefinedInstruction (n : Fin 24) (word : BitVec 32)
  /-- ROOK_ISPACE_FETCH (R170): A Rook fetches from an address outside I-space and traps with cause ISPACE. -/
  | rookIspaceFetch (n : Fin 24)
  /-- FRER_RECOVERY_RESET (R132): A FRER recovery function receives no frame for RESET_MS and resets its sequence recovery history. -/
  | frerRecoveryReset (f : Fin 1024)
  /-- PORT_CALIBRATION_DONE (R97): A port's SerDes or PHY finishes powering up and calibrating and moves from STARTING to LINK_WAIT. -/
  | portCalibrationDone (p : Fin 10)
  /-- NEGOTIATION_FAIL (R96): The link partner does not offer the configured speed, NEG_FAIL sets and negotiation repeats. -/
  | negotiationFail (p : Fin 10)
  /-- CAN_RECEIVE_ERROR (R280): A CAN channel detects an error in a frame it receives, raises REC, records LEC and may change its error state. -/
  | canReceiveError (n : Fin 6) (lec : BitVec 3) (big : Bool)
  /-- CB_LISTEN_ONLY_FRAME (R250): A listen-only segment in SERVICE decodes a frame from its upstream pair and counts CRC_ERR, FMT_ERR and CODE_ERR. -/
  | cbListenOnlyFrame (g : Fin 4) (v : CbVerdict)
  /-- MP_FRAME_RECEIVE (R89): A frame delivered to MP is taken by the MGP, software-timestamped, and passed to its stack or relayed into the SFI relay window. -/
  | mpFrameReceive
  /-- DEBUG_HALT (R468): A JTAG debugger halts a Rook or Bishop core, stopping its connections or putting the SFI into SAFE_FAULT with cause COMPARE. -/
  | debugHalt (target : Fin 25)
  /-- BOUNDARY_SCAN_INSTRUCTION (R469): An IEEE 1149.1 or 1149.6 instruction arrives at the TAP and acts, or acts as BYPASS outside BOOT, PROVISION and SERVICE. -/
  | boundaryScanInstruction (instr : Fin 8)
  /-- SUPPLY_LEAVES_RANGE (R562): VDD_CORE or VDD_MRAM leaves its range; the MRAM controller starts no new word write and the running one ends within 1 µs. -/
  | supplyLeavesRange
deriving DecidableEq, Repr

end Sys2Proof
end

