-- ==== Sys2Proof/Decode.lean ====
section
/-! DEFINITION. Decoding of words. The rows of the opcode table give no bits, so no table word spells a command. The
spec itself gives words to two families: the instructions of a Rook engine (Tables R155 and R174) and of a Pawn engine
(Table R291). Each has its decoder here, and after it the encoder from the same tables. -/

namespace Sys2Proof

/-- The command that a word of `nbits` bits spells by the table: none, since no row gives bits. -/
def decodeTableWord (_nbits _w : Nat) : Option Instr := none

/-! ## Rook instructions -/

/-- The instruction that a word of I-space stands for on engine `n` (Tables R155 and R174): none for a word with an
undefined opcode or a non-zero reserved field, which is ROOK_UNDEFINED_INSTRUCTION (R156). -/
def rookDecode (n : Fin 24) (w : BitVec 32) : Option Instr :=
  let d : BitVec 5 := w.extractLsb' 20 5
  let a : BitVec 5 := w.extractLsb' 15 5
  let b : BitVec 5 := w.extractLsb' 10 5
  let imm : BitVec 15 := w.extractLsb' 0 15
  let count : BitVec 8 := w.extractLsb' 0 8
  let pos : BitVec 6 := w.extractLsb' 6 6
  let len1 : BitVec 6 := w.extractLsb' 0 6
  let hw : BitVec 2 := w.extractLsb' 18 2
  let imm16 : BitVec 16 := w.extractLsb' 0 16
  let off : BitVec 25 := w.extractLsb' 0 25
  let sr : BitVec 5 := w.extractLsb' 0 5
  if Machine.rookUndefined w.toNat then none
  else match (w.extractLsb' 25 7).toNat with
  | 0x01 => some (.add n d a b)
  | 0x02 => some (.sub n d a b)
  | 0x03 => some (.and n d a b)
  | 0x04 => some (.or n d a b)
  | 0x05 => some (.xor n d a b)
  | 0x06 => some (.andn n d a b)
  | 0x07 => some (.neg n d a)
  | 0x08 => some (.adds n d a b)
  | 0x09 => some (.subs n d a b)
  | 0x0A => some (.negs n d a)
  | 0x0B => some (.min n d a b)
  | 0x0C => some (.max n d a b)
  | 0x0D => some (.minu n d a b)
  | 0x0E => some (.maxu n d a b)
  | 0x10 => some (.slt n d a b)
  | 0x11 => some (.sltu n d a b)
  | 0x12 => some (.seq n d a b)
  | 0x13 => some (.shl n d a b)
  | 0x14 => some (.shr n d a b)
  | 0x15 => some (.sar n d a b)
  | 0x16 => some (.rol n d a b)
  | 0x17 => some (.ror n d a b)
  | 0x18 => some (.clz n d a)
  | 0x19 => some (.ctz n d a)
  | 0x1A => some (.popc n d a)
  | 0x1B => some (.bswap n d a)
  | 0x20 => some (.addi n d a imm)
  | 0x21 => some (.andi n d a imm)
  | 0x22 => some (.ori n d a imm)
  | 0x23 => some (.xori n d a imm)
  | 0x24 => some (.slti n d a imm)
  | 0x25 => some (.sltui n d a imm)
  | 0x26 => some (.shli n d a count)
  | 0x27 => some (.shri n d a count)
  | 0x28 => some (.sari n d a count)
  | 0x29 => some (.rori n d a count)
  | 0x2A => some (.ext n d a pos len1)
  | 0x2B => some (.exts n d a pos len1)
  | 0x2C => some (.ins n d a pos len1)
  | 0x2D => some (.movz n d hw imm16)
  | 0x2E => some (.movk n d hw imm16)
  | 0x30 => some (.mul n d a b)
  | 0x31 => some (.mulh n d a b)
  | 0x32 => some (.mulhu n d a b)
  | 0x33 => some (.div n d a b)
  | 0x34 => some (.divu n d a b)
  | 0x40 => some (.ldb n d a imm)
  | 0x41 => some (.ldh n d a imm)
  | 0x42 => some (.ldw n d a imm)
  | 0x43 => some (.ldd n d a imm)
  | 0x44 => some (.ldbs n d a imm)
  | 0x45 => some (.ldhs n d a imm)
  | 0x46 => some (.ldws n d a imm)
  | 0x48 => some (.stb n d a imm)
  | 0x49 => some (.sth n d a imm)
  | 0x4A => some (.stw n d a imm)
  | 0x4B => some (.std n d a imm)
  | 0x50 => some (.ioIn n d a imm)
  | 0x51 => some (.ioOut n d a imm)
  | 0x52 => some (.wait n d imm)
  | 0x60 => some (.beq n d a imm)
  | 0x61 => some (.bne n d a imm)
  | 0x62 => some (.blt n d a imm)
  | 0x63 => some (.bge n d a imm)
  | 0x64 => some (.bltu n d a imm)
  | 0x65 => some (.bgeu n d a imm)
  | 0x66 => some (.jmp n off)
  | 0x67 => some (.call n off)
  | 0x68 => some (.jr n a)
  | 0x69 => some (.callr n a)
  | 0x6A => some (.ret n)
  | 0x70 => some (.mfs n d sr)
  | 0x71 => some (.mts n a sr)
  | 0x72 => some (.spec n)
  | 0x73 => some (.brk n)
  | 0x74 => some (.svc n imm)
  | 0x75 => some (.rte n)
  | 0x76 => some (.halt n)
  | _ => none

/-- Words of formats R and U, of I, S, B and SH, of BF, of M and of J (Table R155). -/
def rookR (op : BitVec 7) (d a b : BitVec 5) : BitVec 32 := op ++ d ++ a ++ b ++ 0#10
def rookI (op : BitVec 7) (d a : BitVec 5) (imm : BitVec 15) : BitVec 32 := op ++ d ++ a ++ imm
def rookSh (op : BitVec 7) (d a : BitVec 5) (count : BitVec 8) : BitVec 32 := op ++ d ++ a ++ 0#7 ++ count
def rookBf (op : BitVec 7) (d a : BitVec 5) (pos len1 : BitVec 6) : BitVec 32 := op ++ d ++ a ++ 0#3 ++ pos ++ len1
def rookM (op : BitVec 7) (d : BitVec 5) (hw : BitVec 2) (imm : BitVec 16) : BitVec 32 := op ++ d ++ hw ++ 0#2 ++ imm
def rookJ (op : BitVec 7) (off : BitVec 25) : BitVec 32 := op ++ off

/-- The engine and the word of a Rook instruction; none for every other command. -/
def rookEncode : Instr → Option (Fin 24 × BitVec 32)
  | .add n d a b => some (n, rookR 0x01 d a b)
  | .sub n d a b => some (n, rookR 0x02 d a b)
  | .and n d a b => some (n, rookR 0x03 d a b)
  | .or n d a b => some (n, rookR 0x04 d a b)
  | .xor n d a b => some (n, rookR 0x05 d a b)
  | .andn n d a b => some (n, rookR 0x06 d a b)
  | .neg n d a => some (n, rookR 0x07 d a 0)
  | .adds n d a b => some (n, rookR 0x08 d a b)
  | .subs n d a b => some (n, rookR 0x09 d a b)
  | .negs n d a => some (n, rookR 0x0A d a 0)
  | .min n d a b => some (n, rookR 0x0B d a b)
  | .max n d a b => some (n, rookR 0x0C d a b)
  | .minu n d a b => some (n, rookR 0x0D d a b)
  | .maxu n d a b => some (n, rookR 0x0E d a b)
  | .slt n d a b => some (n, rookR 0x10 d a b)
  | .sltu n d a b => some (n, rookR 0x11 d a b)
  | .seq n d a b => some (n, rookR 0x12 d a b)
  | .shl n d a b => some (n, rookR 0x13 d a b)
  | .shr n d a b => some (n, rookR 0x14 d a b)
  | .sar n d a b => some (n, rookR 0x15 d a b)
  | .rol n d a b => some (n, rookR 0x16 d a b)
  | .ror n d a b => some (n, rookR 0x17 d a b)
  | .clz n d a => some (n, rookR 0x18 d a 0)
  | .ctz n d a => some (n, rookR 0x19 d a 0)
  | .popc n d a => some (n, rookR 0x1A d a 0)
  | .bswap n d a => some (n, rookR 0x1B d a 0)
  | .addi n d a imm => some (n, rookI 0x20 d a imm)
  | .andi n d a imm => some (n, rookI 0x21 d a imm)
  | .ori n d a imm => some (n, rookI 0x22 d a imm)
  | .xori n d a imm => some (n, rookI 0x23 d a imm)
  | .slti n d a imm => some (n, rookI 0x24 d a imm)
  | .sltui n d a imm => some (n, rookI 0x25 d a imm)
  | .shli n d a count => some (n, rookSh 0x26 d a count)
  | .shri n d a count => some (n, rookSh 0x27 d a count)
  | .sari n d a count => some (n, rookSh 0x28 d a count)
  | .rori n d a count => some (n, rookSh 0x29 d a count)
  | .ext n d a pos len1 => some (n, rookBf 0x2A d a pos len1)
  | .exts n d a pos len1 => some (n, rookBf 0x2B d a pos len1)
  | .ins n d a pos len1 => some (n, rookBf 0x2C d a pos len1)
  | .movz n d hw imm => some (n, rookM 0x2D d hw imm)
  | .movk n d hw imm => some (n, rookM 0x2E d hw imm)
  | .mul n d a b => some (n, rookR 0x30 d a b)
  | .mulh n d a b => some (n, rookR 0x31 d a b)
  | .mulhu n d a b => some (n, rookR 0x32 d a b)
  | .div n d a b => some (n, rookR 0x33 d a b)
  | .divu n d a b => some (n, rookR 0x34 d a b)
  | .ldb n d a imm => some (n, rookI 0x40 d a imm)
  | .ldh n d a imm => some (n, rookI 0x41 d a imm)
  | .ldw n d a imm => some (n, rookI 0x42 d a imm)
  | .ldd n d a imm => some (n, rookI 0x43 d a imm)
  | .ldbs n d a imm => some (n, rookI 0x44 d a imm)
  | .ldhs n d a imm => some (n, rookI 0x45 d a imm)
  | .ldws n d a imm => some (n, rookI 0x46 d a imm)
  | .stb n d a imm => some (n, rookI 0x48 d a imm)
  | .sth n d a imm => some (n, rookI 0x49 d a imm)
  | .stw n d a imm => some (n, rookI 0x4A d a imm)
  | .std n d a imm => some (n, rookI 0x4B d a imm)
  | .ioIn n d a imm => some (n, rookI 0x50 d a imm)
  | .ioOut n d a imm => some (n, rookI 0x51 d a imm)
  | .wait n d imm => some (n, rookI 0x52 d 0 imm)
  | .beq n d a imm => some (n, rookI 0x60 d a imm)
  | .bne n d a imm => some (n, rookI 0x61 d a imm)
  | .blt n d a imm => some (n, rookI 0x62 d a imm)
  | .bge n d a imm => some (n, rookI 0x63 d a imm)
  | .bltu n d a imm => some (n, rookI 0x64 d a imm)
  | .bgeu n d a imm => some (n, rookI 0x65 d a imm)
  | .jmp n off => some (n, rookJ 0x66 off)
  | .call n off => some (n, rookJ 0x67 off)
  | .jr n a => some (n, rookI 0x68 0 a 0)
  | .callr n a => some (n, rookI 0x69 0 a 0)
  | .ret n => some (n, rookJ 0x6A 0)
  | .mfs n d sr => some (n, rookI 0x70 d 0 (0#10 ++ sr))
  | .mts n a sr => some (n, rookI 0x71 0 a (0#10 ++ sr))
  | .spec n => some (n, rookJ 0x72 0)
  | .brk n => some (n, rookJ 0x73 0)
  | .svc n code => some (n, rookI 0x74 0 0 code)
  | .rte n => some (n, rookJ 0x75 0)
  | .halt n => some (n, rookJ 0x76 0)
  | _ => none

/-! ## Pawn instructions -/

/-- The instruction that a word of a program bank stands for on engine `n` (Table R291), with the levels `pads` of its
input group; an undefined opcode, a reserved FN and a non-zero reserved field are PAWN_UNDEFINED (R293). Reserved values
of an enumerated field are judged where the instruction runs. -/
def pawnDecode (n : Fin 32) (pads : BitVec 8) (w : BitVec 16) : Instr :=
  let bad : Instr := .pawnUndefined n pads
  let tgt : BitVec 2 := w.extractLsb' 8 2
  let mask : BitVec 8 := w.extractLsb' 0 8
  let fn : BitVec 2 := w.extractLsb' 10 2
  let cond : BitVec 3 := w.extractLsb' 9 3
  let adr : BitVec 6 := w.extractLsb' 0 6
  let top : Bool := w.getLsbD 11
  match (w.extractLsb' 12 4).toNat with
  | 1 => match fn.toNat with
    | 0 => .pinsWrite n pads tgt mask
    | 1 => .pinsSet n pads tgt mask
    | 2 => .pinsClear n pads tgt mask
    | _ => .pinsToggle n pads tgt mask
  | 2 => if w.extractLsb' 0 3 != 0 then bad
    else .shift n pads top (w.getLsbD 10) (w.getLsbD 9) (w.extractLsb' 6 3) (w.extractLsb' 3 3)
  | 3 => if w.extractLsb' 4 4 != 0 then bad else .pawnWait n pads cond (w.getLsbD 8) (w.extractLsb' 0 4)
  | 4 => .ldi n pads fn tgt mask
  | 5 => if w.extractLsb' 0 4 != 0 then bad else .mov n pads cond (w.extractLsb' 6 3) (w.extractLsb' 4 2)
  | 6 => if w.extractLsb' 0 11 != 0 then bad else if top then .fifoPush n pads else .fifoPull n pads
  | 7 => if w.extractLsb' 6 3 != 0 then bad else .pawnJmp n pads cond adr
  | 8 => if w.extractLsb' 6 5 != 0 then bad else .djnz n pads (w.extractLsb' 11 1) adr
  | 9 => if w.extractLsb' 4 6 != 0 then bad
    else match fn.toNat with
    | 0 => .flagSet n pads (w.extractLsb' 0 4)
    | 1 => .flagClear n pads (w.extractLsb' 0 4)
    | 2 => if w.extractLsb' 0 4 != 0 then bad else .flagNote n pads
    | _ => bad
  | _ => bad

/-- The engine, the pads and the word of a Pawn instruction; none for PAWN_UNDEFINED, which many words stand for, and
for every other command. -/
def pawnEncode : Instr → Option (Fin 32 × BitVec 8 × BitVec 16)
  | .pinsWrite n p tgt mask => some (n, p, 0x1#4 ++ 0#2 ++ tgt ++ mask)
  | .pinsSet n p tgt mask => some (n, p, 0x1#4 ++ 1#2 ++ tgt ++ mask)
  | .pinsClear n p tgt mask => some (n, p, 0x1#4 ++ 2#2 ++ tgt ++ mask)
  | .pinsToggle n p tgt mask => some (n, p, 0x1#4 ++ 3#2 ++ tgt ++ mask)
  | .shift n p dirn oen ien obit ibit =>
    some (n, p, 0x2#4 ++ BitVec.ofBool dirn ++ BitVec.ofBool oen ++ BitVec.ofBool ien ++ obit ++ ibit ++ 0#3)
  | .pawnWait n p cond pol arg => some (n, p, 0x3#4 ++ cond ++ BitVec.ofBool pol ++ 0#4 ++ arg)
  | .ldi n p dst byte imm => some (n, p, 0x4#4 ++ dst ++ byte ++ imm)
  | .mov n p dst src xf => some (n, p, 0x5#4 ++ dst ++ src ++ xf ++ 0#4)
  | .fifoPull n p => some (n, p, 0x6000)
  | .fifoPush n p => some (n, p, 0x6800)
  | .pawnJmp n p cond target => some (n, p, 0x7#4 ++ cond ++ 0#3 ++ target)
  | .djnz n p reg target => some (n, p, 0x8#4 ++ reg ++ 0#5 ++ target)
  | .flagSet n p idx => some (n, p, 0x9#4 ++ 0#2 ++ 0#6 ++ idx)
  | .flagClear n p idx => some (n, p, 0x9#4 ++ 1#2 ++ 0#6 ++ idx)
  | .flagNote n p => some (n, p, 0x9800)
  | _ => none

end Sys2Proof
end

