-- ==== Sys2Proof/Config.lean ====
section
/-! DEFINITION. What the spec leaves open. A free value has no body: no proof can see what it is. -/

namespace Sys2Proof

/-- The n-th free 64-bit value: a result, a measurement or a field that the spec leaves undefined or
does not state. The step reads the counter `State.free` and advances it. -/
opaque Config.freeValue : Nat → Word

/-- The free value that a deterministic but unstated function gives for its operands: `tag` says which
function (a digest, a signature check, a key), the list its operands. -/
opaque Config.freeFn : Nat → List Nat → Word

end Sys2Proof
end

