-- ==== Sys2Proof/Machine/Maps.lean ====
section
/-! DEFINITION. Sparse maps: a list of (key, value) pairs in ONE canonical form, keys strictly rising
and no entry equal to what an unlisted key reads as. Every memory, the register map and every indexed
table of the block is one of these, so equal contents are equal data. -/

namespace Sys2Proof.Machine

/-- The value at key `k`; an unlisted key reads as `d k`. -/
def mapGet {α : Type} (d : Nat → α) : List (Nat × α) → Nat → α
  | [], k => d k
  | e :: t, k => if e.1 = k then e.2 else mapGet d t k

/-- The map without key `k`. -/
def mapErase {α : Type} : List (Nat × α) → Nat → List (Nat × α)
  | [], _ => []
  | e :: t, k => if e.1 = k then mapErase t k else e :: mapErase t k

/-- `k` listed with `v`, before the first larger key. -/
def mapInsert {α : Type} : List (Nat × α) → Nat → α → List (Nat × α)
  | [], k, v => [(k, v)]
  | e :: t, k, v => if k < e.1 then (k, v) :: e :: t else e :: mapInsert t k v

/-- The map with `v` at key `k`; writing what an unlisted key reads as removes the entry. -/
def mapPut {α : Type} [DecidableEq α] (d : Nat → α) (m : List (Nat × α)) (k : Nat) (v : α) :
    List (Nat × α) :=
  if v = d k then mapErase m k else mapInsert (mapErase m k) k v

/-- Every key of `m` lies above `k`. -/
def keysAbove {α : Type} (k : Nat) : List (Nat × α) → Bool
  | [] => true
  | e :: t => decide (k < e.1) && keysAbove k t

/-- The canonical form: keys strictly rising, no entry equal to what an unlisted key reads as. -/
def mapWf {α : Type} [DecidableEq α] (d : Nat → α) : List (Nat × α) → Bool
  | [] => true
  | e :: t => decide (e.2 ≠ d e.1) && keysAbove e.1 t && mapWf d t

end Sys2Proof.Machine
end

