-- ==== Sys2Proof/Machine/RegTable.lean ====
section
/-! DEFINITION. The register tables of the unit chapters as data (R8, R9, R547): address, repetition,
and for each field its bits, access type, reset value, the values a write may carry (empty: every
value) and whether only the owner may change it (R376). -/

namespace Sys2Proof.Machine

/-- The seven access types of Table R9. -/
inductive Acc where
  | rw | ro | wo | w1c | w1s | rc | rwl
deriving DecidableEq, Repr

/-- One row of a register table. `ok` lists the ranges of accepted values; empty accepts all (R12). -/
structure FieldDef where
  hi : Nat
  lo : Nat
  acc : Acc
  reset : Nat
  ok : List (Nat × Nat)
  owner : Bool
deriving DecidableEq, Repr

/-- One register table: base address, (count, stride) of each index, and its fields. -/
structure RegDef where
  base : Nat
  dims : List (Nat × Nat)
  fields : List FieldDef
deriving DecidableEq, Repr

/-- The registers of the SYSCTL. -/
def regTableSYSCTL : List RegDef :=
  [
   -- SYSCTL_MODE
   ⟨0x00000100, [], [
      ⟨47, 32, .ro, 0x0, [], false⟩, ⟨31, 24, .ro, 0x2, [], false⟩, ⟨19, 16, .ro, 0x1, [], false⟩,
      ⟨11, 8, .ro, 0x0, [], false⟩, ⟨4, 4, .ro, 0x0, [], false⟩, ⟨3, 0, .ro, 0x1, [], false⟩]⟩,
   -- SYSCTL_MODE_CFG
   ⟨0x00000108, [], [
      ⟨63, 63, .w1s, 0x0, [], true⟩, ⟨39, 32, .rwl, 0x64, [(1, 255)], false⟩,
      ⟨23, 20, .rwl, 0xF, [(0, 9), (15, 15)], false⟩, ⟨19, 16, .rwl, 0x8, [(0, 9), (15, 15)], false⟩]⟩,
   -- SYSCTL_RST_STAT
   ⟨0x00000110, [], [
      ⟨11, 8, .ro, 0x0, [], false⟩, ⟨7, 7, .ro, 0x0, [], false⟩, ⟨6, 6, .ro, 0x0, [], false⟩,
      ⟨5, 5, .ro, 0x0, [], false⟩]⟩,
   -- SYSCTL_FAULT_CFG
   ⟨0x00000200, [], [
      ⟨63, 63, .w1s, 0x0, [], true⟩, ⟨47, 40, .rwl, 0x1, [(1, 255)], false⟩, ⟨8, 8, .rw, 0x0, [], true⟩,
      ⟨7, 0, .rwl, 0x9F, [], false⟩]⟩,
   -- SYSCTL_FAULT_STAT
   ⟨0x00000208, [], [
      ⟨59, 56, .ro, 0x0, [], false⟩, ⟨55, 48, .ro, 0x0, [], false⟩, ⟨47, 32, .rc, 0x0, [], false⟩,
      ⟨31, 16, .rc, 0x0, [], false⟩, ⟨15, 8, .w1c, 0x0, [], false⟩, ⟨0, 0, .ro, 0x0, [], false⟩]⟩,
   -- SYSCTL_EVLOG
   ⟨0x00000210, [], [
      ⟨63, 32, .ro, 0x0, [], false⟩, ⟨31, 16, .rc, 0x0, [], false⟩, ⟨15, 0, .rc, 0x0, [], false⟩]⟩]

/-- The registers of the CRP. -/
def regTableCRP : List RegDef :=
  [
   -- CRP_PLL_STAT
   ⟨0x00101000, [], [
      ⟨63, 48, .rc, 0x0, [], false⟩, ⟨1, 1, .ro, 0x0, [], false⟩, ⟨0, 0, .ro, 0x0, [], false⟩]⟩,
   -- CRP_CLKMON
   ⟨0x00101008, [], [
      ⟨63, 32, .ro, 0x0, [], false⟩, ⟨5, 0, .w1c, 0x0, [], false⟩]⟩,
   -- CRP_PD_STAT
   ⟨0x00101010, [], [
      ⟨41, 32, .ro, 0x0, [], false⟩, ⟨2, 0, .ro, 0x2, [], false⟩, ⟨5, 3, .ro, 0x0, [], false⟩,
      ⟨8, 6, .ro, 0x0, [], false⟩, ⟨11, 9, .ro, 0x0, [], false⟩, ⟨14, 12, .ro, 0x0, [], false⟩,
      ⟨17, 15, .ro, 0x0, [], false⟩, ⟨20, 18, .ro, 0x0, [], false⟩, ⟨23, 21, .ro, 0x0, [], false⟩,
      ⟨26, 24, .ro, 0x0, [], false⟩, ⟨29, 27, .ro, 0x0, [], false⟩]⟩,
   -- CRP_PD_FAIL
   ⟨0x00101018, [], [
      ⟨25, 24, .ro, 0x0, [], false⟩, ⟨23, 20, .ro, 0x0, [], false⟩, ⟨9, 0, .ro, 0x0, [], false⟩]⟩,
   -- CRP_WAKE_CFG
   ⟨0x00101020, [], [
      ⟨11, 8, .rw, 0x0, [], false⟩, ⟨4, 0, .rw, 0x0, [], false⟩]⟩,
   -- CRP_WAKE_TMR
   ⟨0x00101028, [], [
      ⟨31, 0, .rw, 0x3E8, [(1, 4294967295)], false⟩]⟩,
   -- CRP_WAKE_STAT
   ⟨0x00101030, [], [
      ⟨63, 32, .ro, 0x0, [], false⟩, ⟨8, 8, .w1c, 0x0, [], false⟩, ⟨4, 0, .w1c, 0x0, [], false⟩]⟩]

/-- The registers of the MEM. -/
def regTableMEM : List RegDef :=
  [
   -- MEM_BANK_CFGr
   ⟨0x00201000, [(3, 0x8)], [
      ⟨1, 0, .rw, 0x1, [(0, 2)], false⟩, ⟨3, 2, .rw, 0x1, [(0, 2)], false⟩, ⟨5, 4, .rw, 0x1, [(0, 2)], false⟩,
      ⟨7, 6, .rw, 0x1, [(0, 2)], false⟩, ⟨9, 8, .rw, 0x1, [(0, 2)], false⟩,
      ⟨11, 10, .rw, 0x1, [(0, 2)], false⟩, ⟨13, 12, .rw, 0x1, [(0, 2)], false⟩,
      ⟨15, 14, .rw, 0x1, [(0, 2)], false⟩, ⟨17, 16, .rw, 0x1, [(0, 2)], false⟩,
      ⟨19, 18, .rw, 0x1, [(0, 2)], false⟩, ⟨21, 20, .rw, 0x1, [(0, 2)], false⟩,
      ⟨23, 22, .rw, 0x1, [(0, 2)], false⟩, ⟨25, 24, .rw, 0x1, [(0, 2)], false⟩,
      ⟨27, 26, .rw, 0x1, [(0, 2)], false⟩, ⟨29, 28, .rw, 0x1, [(0, 2)], false⟩,
      ⟨31, 30, .rw, 0x1, [(0, 2)], false⟩, ⟨33, 32, .rw, 0x1, [(0, 2)], false⟩,
      ⟨35, 34, .rw, 0x1, [(0, 2)], false⟩, ⟨37, 36, .rw, 0x1, [(0, 2)], false⟩,
      ⟨39, 38, .rw, 0x1, [(0, 2)], false⟩, ⟨41, 40, .rw, 0x1, [(0, 2)], false⟩,
      ⟨43, 42, .rw, 0x1, [(0, 2)], false⟩, ⟨45, 44, .rw, 0x1, [(0, 2)], false⟩,
      ⟨47, 46, .rw, 0x1, [(0, 2)], false⟩, ⟨49, 48, .rw, 0x1, [(0, 2)], false⟩,
      ⟨51, 50, .rw, 0x1, [(0, 2)], false⟩, ⟨53, 52, .rw, 0x1, [(0, 2)], false⟩,
      ⟨55, 54, .rw, 0x1, [(0, 2)], false⟩, ⟨57, 56, .rw, 0x1, [(0, 2)], false⟩,
      ⟨59, 58, .rw, 0x1, [(0, 2)], false⟩, ⟨61, 60, .rw, 0x1, [(0, 2)], false⟩,
      ⟨63, 62, .rw, 0x1, [(0, 2)], false⟩]⟩,
   -- MEM_BANK_STATr
   ⟨0x00201018, [(3, 0x8)], [
      ⟨1, 0, .ro, 0x1, [], false⟩, ⟨3, 2, .ro, 0x1, [], false⟩, ⟨5, 4, .ro, 0x1, [], false⟩,
      ⟨7, 6, .ro, 0x1, [], false⟩, ⟨9, 8, .ro, 0x1, [], false⟩, ⟨11, 10, .ro, 0x1, [], false⟩,
      ⟨13, 12, .ro, 0x1, [], false⟩, ⟨15, 14, .ro, 0x1, [], false⟩, ⟨17, 16, .ro, 0x1, [], false⟩,
      ⟨19, 18, .ro, 0x1, [], false⟩, ⟨21, 20, .ro, 0x1, [], false⟩, ⟨23, 22, .ro, 0x1, [], false⟩,
      ⟨25, 24, .ro, 0x1, [], false⟩, ⟨27, 26, .ro, 0x1, [], false⟩, ⟨29, 28, .ro, 0x1, [], false⟩,
      ⟨31, 30, .ro, 0x1, [], false⟩, ⟨33, 32, .ro, 0x1, [], false⟩, ⟨35, 34, .ro, 0x1, [], false⟩,
      ⟨37, 36, .ro, 0x1, [], false⟩, ⟨39, 38, .ro, 0x1, [], false⟩, ⟨41, 40, .ro, 0x1, [], false⟩,
      ⟨43, 42, .ro, 0x1, [], false⟩, ⟨45, 44, .ro, 0x1, [], false⟩, ⟨47, 46, .ro, 0x1, [], false⟩,
      ⟨49, 48, .ro, 0x1, [], false⟩, ⟨51, 50, .ro, 0x1, [], false⟩, ⟨53, 52, .ro, 0x1, [], false⟩,
      ⟨55, 54, .ro, 0x1, [], false⟩, ⟨57, 56, .ro, 0x1, [], false⟩, ⟨59, 58, .ro, 0x1, [], false⟩,
      ⟨61, 60, .ro, 0x1, [], false⟩, ⟨63, 62, .ro, 0x1, [], false⟩]⟩,
   -- MEM_RETm
   ⟨0x00201030, [(2, 0x8)], [
      ⟨63, 0, .rw, 0x0, [], false⟩]⟩,
   -- MEM_BANK_PENDm
   ⟨0x00201040, [(2, 0x8)], [
      ⟨63, 0, .ro, 0x0, [], false⟩]⟩,
   -- MEM_BANK_FAILm
   ⟨0x00201050, [(2, 0x8)], [
      ⟨63, 0, .ro, 0x0, [], false⟩]⟩,
   -- MEM_ECC_LOG
   ⟨0x00201060, [], [
      ⟨63, 63, .w1c, 0x0, [], false⟩, ⟨62, 62, .ro, 0x0, [], false⟩, ⟨54, 48, .ro, 0x0, [], false⟩,
      ⟨31, 24, .ro, 0x0, [], false⟩, ⟨15, 0, .ro, 0x0, [], false⟩]⟩,
   -- MEM_ECC_CNT
   ⟨0x00201068, [], [
      ⟨63, 48, .rc, 0x0, [], false⟩, ⟨47, 32, .rc, 0x0, [], false⟩, ⟨31, 16, .rc, 0x0, [], false⟩,
      ⟨15, 0, .rc, 0x0, [], false⟩]⟩,
   -- MEM_SCRUB
   ⟨0x00201070, [], [
      ⟨16, 16, .w1c, 0x0, [], false⟩, ⟨7, 0, .rw, 0xA, [], false⟩]⟩,
   -- MEM_VAULT_CTL
   ⟨0x00201078, [], [
      ⟨0, 0, .wo, 0x0, [], true⟩]⟩,
   -- MEM_VAULT_STAT
   ⟨0x00201080, [], [
      ⟨63, 48, .rc, 0x0, [], false⟩, ⟨7, 4, .ro, 0x0, [], false⟩, ⟨2, 2, .ro, 0x0, [], false⟩,
      ⟨1, 1, .w1c, 0x0, [], false⟩, ⟨0, 0, .ro, 0x0, [], false⟩]⟩,
   -- MEM_MARCH_STAT
   ⟨0x00201088, [], [
      ⟨55, 48, .ro, 0x0, [], false⟩, ⟨47, 40, .ro, 0x0, [], false⟩, ⟨31, 16, .ro, 0x0, [], false⟩,
      ⟨3, 3, .ro, 0x0, [], false⟩, ⟨2, 2, .ro, 0x0, [], false⟩, ⟨0, 0, .ro, 0x0, [], false⟩]⟩]

/-- The registers of the HIC. -/
def regTableHIC : List RegDef :=
  [
   -- HIC_PARTp_SLICE
   ⟨0x00301000, [(6, 0x100)], [
      ⟨40, 32, .rw, 0x0, [(0, 256)], true⟩, ⟨7, 0, .rw, 0x0, [], true⟩]⟩,
   -- HIC_PARTp_CTL
   ⟨0x00301008, [(6, 0x100)], [
      ⟨47, 32, .rw, 0x0, [], true⟩, ⟨17, 16, .rw, 0x0, [(0, 1)], true⟩, ⟨10, 8, .rw, 0x1, [], true⟩,
      ⟨3, 3, .rw, 0x0, [], false⟩, ⟨2, 2, .rw, 0x0, [], false⟩, ⟨1, 1, .rw, 0x0, [], false⟩]⟩,
   -- HIC_PARTp_COMMIT
   ⟨0x00301010, [(6, 0x100)], [
      ⟨2, 2, .w1c, 0x0, [], false⟩, ⟨1, 1, .ro, 0x0, [], false⟩, ⟨0, 0, .wo, 0x0, [], false⟩]⟩,
   -- HIC_PARTp_MAC
   ⟨0x00301018, [(6, 0x100)], [
      ⟨47, 0, .rw, 0x0, [], true⟩]⟩,
   -- HIC_PARTp_RXBASE
   ⟨0x00301020, [(6, 0x100)], [
      ⟨63, 4, .rw, 0x0, [], false⟩]⟩,
   -- HIC_PARTp_TXBASE
   ⟨0x00301028, [(6, 0x100)], [
      ⟨63, 4, .rw, 0x0, [], false⟩]⟩,
   -- HIC_PARTp_RING
   ⟨0x00301030, [(6, 0x100)], [
      ⟨63, 60, .rw, 0x6, [(6, 12)], false⟩, ⟨59, 56, .rw, 0x6, [(6, 12)], false⟩, ⟨1, 1, .rw, 0x0, [], false⟩,
      ⟨0, 0, .rw, 0x0, [], false⟩]⟩,
   -- HIC_PARTp_IDX
   ⟨0x00301038, [(6, 0x100)], [
      ⟨63, 48, .ro, 0x0, [], false⟩, ⟨47, 32, .rw, 0x0, [], false⟩, ⟨31, 16, .ro, 0x0, [], false⟩,
      ⟨15, 0, .rw, 0x0, [], false⟩]⟩,
   -- HIC_PARTp_IRQ
   ⟨0x00301040, [(6, 0x100)], [
      ⟨44, 32, .rw, 0x1FFF, [], false⟩, ⟨12, 0, .w1c, 0x0, [], false⟩]⟩,
   -- HIC_PARTp_IVEC0
   ⟨0x00301048, [(6, 0x100)], [
      ⟨5, 0, .rw, 0x0, [], false⟩, ⟨13, 8, .rw, 0x1, [], false⟩, ⟨21, 16, .rw, 0x2, [], false⟩,
      ⟨29, 24, .rw, 0x3, [], false⟩, ⟨37, 32, .rw, 0x4, [], false⟩, ⟨45, 40, .rw, 0x5, [], false⟩,
      ⟨53, 48, .rw, 0x6, [], false⟩, ⟨61, 56, .rw, 0x7, [], false⟩]⟩,
   -- HIC_PARTp_IVEC1
   ⟨0x00301050, [(6, 0x100)], [
      ⟨5, 0, .rw, 0x8, [], false⟩, ⟨13, 8, .rw, 0x9, [], false⟩, ⟨21, 16, .rw, 0xA, [], false⟩,
      ⟨29, 24, .rw, 0xB, [], false⟩, ⟨37, 32, .rw, 0xC, [], false⟩]⟩,
   -- HIC_PARTp_CNT
   ⟨0x00301058, [(6, 0x100)], [
      ⟨63, 48, .rc, 0x0, [], false⟩, ⟨47, 40, .rc, 0x0, [], false⟩, ⟨39, 32, .rc, 0x0, [], false⟩,
      ⟨31, 24, .rc, 0x0, [], false⟩, ⟨15, 0, .rc, 0x0, [], false⟩]⟩,
   -- HIC_PARTp_DCP
   ⟨0x00301060, [(6, 0x100)], [
      ⟨1, 1, .ro, 0x0, [], false⟩, ⟨0, 0, .wo, 0x0, [], false⟩]⟩,
   -- HIC_PARTp_SQq_BASE
   ⟨0x00301080, [(6, 0x100), (4, 0x20)], [
      ⟨63, 5, .rw, 0x0, [], false⟩]⟩,
   -- HIC_PARTp_CQq_BASE
   ⟨0x00301088, [(6, 0x100), (4, 0x20)], [
      ⟨63, 4, .rw, 0x0, [], false⟩]⟩,
   -- HIC_PARTp_Qq_CTL
   ⟨0x00301090, [(6, 0x100), (4, 0x20)], [
      ⟨63, 60, .rw, 0x4, [(4, 10)], false⟩, ⟨47, 32, .rw, 0x0, [], false⟩, ⟨31, 16, .ro, 0x0, [], false⟩,
      ⟨15, 15, .ro, 0x0, [], false⟩, ⟨14, 14, .ro, 0x0, [], false⟩, ⟨1, 1, .ro, 0x0, [], false⟩,
      ⟨0, 0, .rw, 0x0, [], false⟩]⟩,
   -- HIC_PARTp_Qq_IDX
   ⟨0x00301098, [(6, 0x100), (4, 0x20)], [
      ⟨63, 48, .ro, 0x0, [], false⟩, ⟨47, 32, .rw, 0x0, [], false⟩, ⟨31, 16, .ro, 0x0, [], false⟩,
      ⟨15, 0, .rw, 0x0, [], false⟩]⟩,
   -- HIC_FWw_BASE
   ⟨0x00302000, [(64, 0x10)], [
      ⟨63, 63, .rw, 0x0, [], true⟩, ⟨62, 62, .rw, 0x0, [], true⟩, ⟨31, 3, .rw, 0x0, [], true⟩]⟩,
   -- HIC_FWw_LIM
   ⟨0x00302008, [(64, 0x10)], [
      ⟨63, 58, .rw, 0x0, [], true⟩, ⟨57, 52, .rw, 0x0, [], true⟩, ⟨31, 3, .rw, 0x0, [], true⟩]⟩,
   -- HIC_STAT
   ⟨0x00303000, [], [
      ⟨63, 48, .rc, 0x0, [], false⟩, ⟨40, 40, .ro, 0x0, [], false⟩, ⟨39, 37, .ro, 0x0, [], false⟩,
      ⟨36, 36, .ro, 0x0, [], false⟩, ⟨32, 32, .w1c, 0x0, [], false⟩, ⟨31, 0, .ro, 0x0, [], false⟩]⟩]

/-- The registers of the MQF. -/
def regTableMQF : List RegDef :=
  [
   -- MQF_MBm_CFG
   ⟨0x00401000, [(128, 0x20)], [
      ⟨63, 63, .rw, 0x0, [], false⟩, ⟨55, 50, .rw, 0x0, [(0, 6), (8, 32)], false⟩,
      ⟨49, 44, .rw, 0x0, [(0, 6), (8, 32)], false⟩, ⟨43, 39, .rw, 0x0, [], false⟩,
      ⟨38, 38, .rw, 0x0, [], false⟩, ⟨37, 33, .rw, 0x0, [], false⟩, ⟨19, 0, .rw, 0x0, [(0, 1000000)], false⟩]⟩,
   -- MQF_MBm_STAT
   ⟨0x00401008, [(128, 0x20)], [
      ⟨63, 48, .ro, 0x0, [], false⟩, ⟨47, 32, .ro, 0x0, [], false⟩, ⟨31, 23, .ro, 0x0, [], false⟩,
      ⟨7, 6, .ro, 0x0, [], false⟩, ⟨5, 5, .w1c, 0x0, [], false⟩, ⟨4, 4, .w1c, 0x0, [], false⟩,
      ⟨3, 3, .w1c, 0x0, [], false⟩, ⟨0, 0, .ro, 0x0, [], false⟩]⟩,
   -- MQF_MBm_ACK
   ⟨0x00401010, [(128, 0x20)], [
      ⟨63, 48, .rw, 0x0, [], false⟩, ⟨47, 32, .rw, 0x0, [], false⟩, ⟨16, 16, .ro, 0x0, [], false⟩,
      ⟨15, 0, .rw, 0x0, [], false⟩]⟩,
   -- MQF_MBm_CMD
   ⟨0x00401018, [(128, 0x20)], [
      ⟨63, 63, .wo, 0x0, [], false⟩, ⟨8, 0, .wo, 0x0, [], false⟩]⟩,
   -- MQF_DBa_PEND
   ⟨0x00402000, [(33, 0x10)], [
      ⟨31, 0, .w1c, 0x0, [], false⟩]⟩,
   -- MQF_DBa_MASK
   ⟨0x00402008, [(33, 0x10)], [
      ⟨31, 0, .rw, 0xFFFFFFFF, [], false⟩]⟩,
   -- MQF_SEMs
   ⟨0x00403000, [(64, 0x10)], [
      ⟨63, 63, .wo, 0x0, [], false⟩, ⟨15, 8, .ro, 0x0, [], false⟩, ⟨5, 0, .ro, 0x0, [], false⟩]⟩,
   -- MQF_SEMs_PEEK
   ⟨0x00403008, [(64, 0x10)], [
      ⟨6, 6, .ro, 0x0, [], false⟩, ⟨5, 0, .ro, 0x0, [], false⟩]⟩,
   -- MQF_EPOCHa
   ⟨0x00404000, [(33, 0x8)], [
      ⟨15, 0, .ro, 0x0, [], false⟩]⟩,
   -- MQF_CNT
   ⟨0x00405000, [], [
      ⟨63, 48, .rc, 0x0, [], false⟩, ⟨47, 32, .rc, 0x0, [], false⟩, ⟨31, 16, .rc, 0x0, [], false⟩,
      ⟨15, 0, .rc, 0x0, [], false⟩]⟩,
   -- MQF_STAGING
   ⟨0x00410000, [(128, 0x200), (32, 0x8)], [
      ⟨63, 0, .rw, 0x0, [], false⟩]⟩,
   -- MQF_MESSAGE
   ⟨0x00410100, [(128, 0x200), (32, 0x8)], [
      ⟨63, 0, .ro, 0x0, [], false⟩]⟩]

/-- The registers of the PQ. -/
def regTablePQ : List RegDef :=
  [
   -- PQk_CFG
   ⟨0x00501000, [(64, 0x40)], [
      ⟨63, 58, .rw, 0x0, [(0, 6), (8, 32)], false⟩, ⟨57, 52, .rw, 0x0, [(0, 6), (8, 32)], false⟩,
      ⟨51, 47, .rw, 0x6, [(6, 16)], false⟩, ⟨31, 0, .rw, 0x0, [], false⟩]⟩,
   -- PQk_CTL
   ⟨0x00501008, [(64, 0x40)], [
      ⟨3, 3, .wo, 0x0, [], false⟩, ⟨2, 2, .wo, 0x0, [], false⟩, ⟨1, 1, .wo, 0x0, [], false⟩,
      ⟨0, 0, .rw, 0x0, [], false⟩]⟩,
   -- PQk_STAT
   ⟨0x00501010, [(64, 0x40)], [
      ⟨63, 44, .ro, 0x0, [], false⟩, ⟨43, 24, .ro, 0x0, [], false⟩, ⟨9, 9, .ro, 0x0, [], false⟩,
      ⟨8, 8, .ro, 0x0, [], false⟩, ⟨7, 7, .ro, 0x0, [], false⟩, ⟨2, 0, .ro, 0x0, [], false⟩]⟩,
   -- PQk_IDX
   ⟨0x00501018, [(64, 0x40)], [
      ⟨63, 32, .ro, 0x0, [], false⟩, ⟨31, 0, .rw, 0x0, [], false⟩]⟩,
   -- PQk_WR
   ⟨0x00501020, [(64, 0x40)], [
      ⟨63, 63, .wo, 0x0, [], false⟩, ⟨33, 32, .wo, 0x0, [], false⟩, ⟨31, 0, .wo, 0x0, [], false⟩]⟩,
   -- PQk_RD0
   ⟨0x00501028, [(64, 0x40)], [
      ⟨63, 0, .rc, 0x0, [], false⟩]⟩,
   -- PQk_RD1
   ⟨0x00501030, [(64, 0x40)], [
      ⟨63, 0, .ro, 0x0, [], false⟩]⟩,
   -- PQk_CNT
   ⟨0x00501038, [(64, 0x40)], [
      ⟨63, 48, .rc, 0x0, [], false⟩, ⟨47, 32, .rc, 0x0, [], false⟩, ⟨31, 16, .rc, 0x0, [], false⟩,
      ⟨15, 0, .rc, 0x0, [], false⟩]⟩]

/-- The registers of the PEA. -/
def regTablePEA : List RegDef :=
  [
   -- PEA_Rn_CTL
   ⟨0x01000000, [(24, 0x40000)], [
      ⟨47, 32, .rw, 0x0, [], false⟩, ⟨10, 8, .rw, 0x7, [(0, 3), (7, 7)], false⟩, ⟨0, 0, .rw, 0x0, [], false⟩]⟩,
   -- PEA_Rn_STAT
   ⟨0x01000008, [(24, 0x40000)], [
      ⟨63, 48, .ro, 0x0, [], false⟩, ⟨41, 40, .ro, 0x0, [], false⟩, ⟨39, 32, .ro, 0x0, [], false⟩,
      ⟨10, 10, .ro, 0x0, [], false⟩, ⟨9, 9, .w1c, 0x0, [], false⟩, ⟨8, 8, .ro, 0x0, [], false⟩,
      ⟨7, 7, .ro, 0x0, [], false⟩, ⟨2, 0, .ro, 0x0, [], false⟩]⟩,
   -- PEA_Rn_PIRD
   ⟨0x01000010, [(24, 0x40000)], [
      ⟨53, 32, .rw, 0x0, [], false⟩, ⟨21, 0, .rw, 0x0, [], false⟩]⟩,
   -- PEA_Rn_PIWR
   ⟨0x01000018, [(24, 0x40000)], [
      ⟨53, 32, .rw, 0x0, [], false⟩, ⟨21, 0, .rw, 0x0, [], false⟩]⟩,
   -- PEA_Rn_CNT
   ⟨0x01000020, [(24, 0x40000)], [
      ⟨63, 48, .rc, 0x0, [], false⟩, ⟨47, 32, .rc, 0x0, [], false⟩, ⟨31, 24, .rc, 0x0, [], false⟩,
      ⟨23, 16, .rc, 0x0, [], false⟩, ⟨15, 8, .rc, 0x0, [], false⟩, ⟨7, 0, .rc, 0x0, [], false⟩]⟩,
   -- PEA_EPk_CTL
   ⟨0x01601000, [(4, 0x80)], [
      ⟨1, 0, .rw, 0x0, [(0, 2)], false⟩]⟩,
   -- PEA_EPk_STAT
   ⟨0x01601008, [(4, 0x80)], [
      ⟨63, 48, .rc, 0x0, [], false⟩, ⟨23, 0, .ro, 0x0, [], false⟩]⟩,
   -- PEA_EPk_DISPj
   ⟨0x01601010, [(4, 0x80), (8, 0x8)], [
      ⟨7, 7, .rw, 0x0, [], false⟩, ⟨15, 15, .rw, 0x0, [], false⟩, ⟨23, 23, .rw, 0x0, [], false⟩,
      ⟨31, 31, .rw, 0x0, [], false⟩, ⟨39, 39, .rw, 0x0, [], false⟩, ⟨47, 47, .rw, 0x0, [], false⟩,
      ⟨55, 55, .rw, 0x0, [], false⟩, ⟨63, 63, .rw, 0x0, [], false⟩, ⟨4, 0, .rw, 0x0, [(0, 23)], false⟩,
      ⟨12, 8, .rw, 0x0, [(0, 23)], false⟩, ⟨20, 16, .rw, 0x0, [(0, 23)], false⟩,
      ⟨28, 24, .rw, 0x0, [(0, 23)], false⟩, ⟨36, 32, .rw, 0x0, [(0, 23)], false⟩,
      ⟨44, 40, .rw, 0x0, [(0, 23)], false⟩, ⟨52, 48, .rw, 0x0, [(0, 23)], false⟩,
      ⟨60, 56, .rw, 0x0, [(0, 23)], false⟩]⟩,
   -- PEA_CMAP_IDX
   ⟨0x01602000, [], [
      ⟨11, 0, .rw, 0x0, [], false⟩]⟩,
   -- PEA_CMAP_DATA
   ⟨0x01602008, [], [
      ⟨63, 63, .rw, 0x0, [], false⟩, ⟨62, 62, .rw, 0x0, [], false⟩, ⟨61, 57, .rw, 0x0, [(0, 23)], false⟩,
      ⟨21, 5, .rw, 0x0, [], false⟩, ⟨4, 0, .rw, 0x0, [], false⟩]⟩]

/-- The registers of the EPC. -/
def regTableEPC : List RegDef :=
  [
   -- EPC_PORTp_CTL
   ⟨0x02001000, [(10, 0x40)], [
      ⟨33, 32, .rw, 0x0, [], false⟩, ⟨31, 16, .rw, 0x600, [(64, 9216)], false⟩, ⟨12, 12, .rw, 0x0, [], false⟩,
      ⟨11, 11, .rw, 0x0, [], false⟩, ⟨10, 10, .rw, 0x0, [], false⟩, ⟨9, 9, .rw, 0x1, [], false⟩,
      ⟨7, 4, .rw, 0x2, [(0, 5)], false⟩, ⟨3, 1, .rw, 0x1, [(0, 5)], false⟩, ⟨0, 0, .rw, 0x0, [], false⟩]⟩,
   -- EPC_PORTp_STAT
   ⟨0x02001008, [(10, 0x40)], [
      ⟨31, 24, .rc, 0x0, [], false⟩, ⟨23, 20, .ro, 0x0, [], false⟩, ⟨16, 16, .ro, 0x0, [], false⟩,
      ⟨8, 8, .ro, 0x0, [], false⟩, ⟨7, 7, .ro, 0x0, [], false⟩, ⟨2, 0, .ro, 0x0, [], false⟩]⟩,
   -- EPC_PORTp_TXTHR
   ⟨0x02001010, [(10, 0x40)], [
      ⟨7, 0, .rw, 0x1, [(1, 144)], false⟩]⟩,
   -- EPC_PORTp_CNT
   ⟨0x02001018, [(10, 0x40)], [
      ⟨63, 56, .rc, 0x0, [], false⟩, ⟨55, 48, .rc, 0x0, [], false⟩, ⟨47, 40, .rc, 0x0, [], false⟩,
      ⟨39, 32, .rc, 0x0, [], false⟩, ⟨31, 24, .rc, 0x0, [], false⟩, ⟨23, 16, .rc, 0x0, [], false⟩,
      ⟨15, 8, .rc, 0x0, [], false⟩, ⟨7, 0, .rc, 0x0, [], false⟩]⟩]

/-- The registers of the SWC. -/
def regTableSWC : List RegDef :=
  [
   -- SWC_GEN_CTL
   ⟨0x02101000, [], [
      ⟨47, 32, .rw, 0x12C, [], false⟩, ⟨2, 2, .wo, 0x0, [], false⟩, ⟨1, 1, .wo, 0x0, [], false⟩]⟩,
   -- SWC_GEN_STAT
   ⟨0x02101008, [], [
      ⟨63, 48, .ro, 0x0, [], false⟩, ⟨47, 40, .ro, 0x0, [], false⟩, ⟨37, 32, .ro, 0x0, [], false⟩,
      ⟨31, 28, .ro, 0x0, [], false⟩, ⟨3, 3, .ro, 0x0, [], false⟩, ⟨2, 2, .ro, 0x0, [], false⟩,
      ⟨1, 1, .w1c, 0x0, [], false⟩, ⟨0, 0, .w1c, 0x0, [], false⟩]⟩,
   -- SWC_UPD_OP
   ⟨0x02101010, [], [
      ⟨63, 60, .wo, 0x0, [], false⟩, ⟨59, 56, .wo, 0x0, [], false⟩, ⟨13, 0, .wo, 0x0, [], false⟩]⟩,
   -- SWC_UPD_DATAk
   ⟨0x02101018, [(5, 0x8)], [
      ⟨63, 0, .rw, 0x0, [], false⟩]⟩,
   -- SWC_BUF_RESV
   ⟨0x02101100, [], [
      ⟨7, 0, .rw, 0x0, [], false⟩, ⟨15, 8, .rw, 0x0, [], false⟩, ⟨23, 16, .rw, 0x0, [], false⟩,
      ⟨31, 24, .rw, 0x0, [], false⟩, ⟨39, 32, .rw, 0x0, [], false⟩, ⟨47, 40, .rw, 0x0, [], false⟩,
      ⟨55, 48, .rw, 0x0, [], false⟩, ⟨63, 56, .rw, 0x0, [], false⟩]⟩,
   -- SWC_BUF_STAT
   ⟨0x02101108, [], [
      ⟨63, 48, .ro, 0x8000, [], false⟩, ⟨47, 32, .rc, 0x8000, [], false⟩, ⟨31, 16, .rc, 0x0, [], false⟩]⟩,
   -- SWC_CNT0
   ⟨0x02101110, [], [
      ⟨63, 48, .rc, 0x0, [], false⟩, ⟨47, 32, .rc, 0x0, [], false⟩, ⟨31, 16, .rc, 0x0, [], false⟩,
      ⟨15, 0, .rc, 0x0, [], false⟩]⟩,
   -- SWC_CNT1
   ⟨0x02101118, [], [
      ⟨63, 48, .rc, 0x0, [], false⟩, ⟨47, 32, .rc, 0x0, [], false⟩, ⟨31, 16, .rc, 0x0, [], false⟩,
      ⟨15, 0, .rc, 0x0, [], false⟩]⟩,
   -- SWC_MIR_CTL
   ⟨0x02101200, [], [
      ⟨63, 48, .rw, 0x0, [], false⟩, ⟨47, 32, .rw, 0x0, [], false⟩, ⟨2, 2, .rw, 0x1, [], false⟩,
      ⟨1, 1, .rw, 0x0, [], false⟩, ⟨0, 0, .rw, 0x0, [], false⟩]⟩,
   -- SWC_MIR_BASE
   ⟨0x02101208, [], [
      ⟨31, 0, .rw, 0x0, [], false⟩]⟩,
   -- SWC_MIR_PROD
   ⟨0x02101210, [], [
      ⟨31, 0, .ro, 0x0, [], false⟩]⟩,
   -- SWC_MIR_CONS
   ⟨0x02101218, [], [
      ⟨31, 0, .rw, 0x0, [], false⟩]⟩,
   -- SWC_MIR_STAT
   ⟨0x02101220, [], [
      ⟨63, 48, .rc, 0x0, [], false⟩, ⟨0, 0, .ro, 0x0, [], false⟩]⟩,
   -- SWC_TCAM_CFG
   ⟨0x02101300, [], [
      ⟨7, 0, .rw, 0x0, [(0, 80)], false⟩]⟩,
   -- SWC_PORTp_CTL
   ⟨0x02104000, [(16, 0x100)], [
      ⟨63, 48, .rw, 0x0, [], false⟩, ⟨47, 40, .rw, 0x0, [], false⟩, ⟨39, 28, .rw, 0x1, [(1, 4094)], false⟩,
      ⟨26, 24, .rw, 0x0, [], false⟩, ⟨1, 1, .rw, 0x0, [], false⟩, ⟨0, 0, .rw, 0x0, [], false⟩]⟩,
   -- SWC_PORTp_PCPMAP
   ⟨0x02104008, [(16, 0x100)], [
      ⟨31, 0, .rw, 0x76543210, [], false⟩]⟩,
   -- SWC_PORTp_MAXSDU0
   ⟨0x02104010, [(16, 0x100)], [
      ⟨15, 0, .rw, 0x0, [(0, 0), (64, 9216)], false⟩, ⟨31, 16, .rw, 0x0, [(0, 0), (64, 9216)], false⟩,
      ⟨47, 32, .rw, 0x0, [(0, 0), (64, 9216)], false⟩, ⟨63, 48, .rw, 0x0, [(0, 0), (64, 9216)], false⟩]⟩,
   -- SWC_PORTp_MAXSDU1
   ⟨0x02104018, [(16, 0x100)], [
      ⟨15, 0, .rw, 0x0, [(0, 0), (64, 9216)], false⟩, ⟨31, 16, .rw, 0x0, [(0, 0), (64, 9216)], false⟩,
      ⟨47, 32, .rw, 0x0, [(0, 0), (64, 9216)], false⟩, ⟨63, 48, .rw, 0x0, [(0, 0), (64, 9216)], false⟩]⟩,
   -- SWC_PORTp_QLIM
   ⟨0x02104020, [(16, 0x100)], [
      ⟨7, 0, .rw, 0x0, [], false⟩, ⟨15, 8, .rw, 0x0, [], false⟩, ⟨23, 16, .rw, 0x0, [], false⟩,
      ⟨31, 24, .rw, 0x0, [], false⟩, ⟨39, 32, .rw, 0x0, [], false⟩, ⟨47, 40, .rw, 0x0, [], false⟩,
      ⟨55, 48, .rw, 0x0, [], false⟩, ⟨63, 56, .rw, 0x0, [], false⟩]⟩,
   -- SWC_PORTp_QAV
   ⟨0x02104028, [(16, 0x100)], [
      ⟨63, 32, .rw, 0x0, [], false⟩, ⟨31, 0, .rw, 0x0, [], false⟩]⟩,
   -- SWC_PORTp_PRE
   ⟨0x02104030, [(16, 0x100)], [
      ⟨9, 9, .ro, 0x0, [], false⟩, ⟨8, 8, .ro, 0x0, [], false⟩, ⟨7, 0, .rw, 0x0, [], false⟩]⟩,
   -- SWC_PORTp_GCL_CTL
   ⟨0x02104038, [(16, 0x100)], [
      ⟨58, 48, .ro, 0x0, [], false⟩, ⟨42, 32, .rw, 0x1, [(1, 1024)], false⟩, ⟨4, 4, .ro, 0x0, [], false⟩,
      ⟨3, 3, .w1c, 0x0, [], false⟩, ⟨2, 2, .ro, 0x0, [], false⟩, ⟨1, 1, .wo, 0x0, [], false⟩,
      ⟨0, 0, .rw, 0x0, [], false⟩]⟩,
   -- SWC_PORTp_CNT
   ⟨0x02104040, [(16, 0x100)], [
      ⟨63, 48, .rc, 0x0, [], false⟩, ⟨47, 32, .rc, 0x0, [], false⟩, ⟨31, 16, .rc, 0x0, [], false⟩,
      ⟨15, 0, .rc, 0x0, [], false⟩]⟩,
   -- SWC_GCLp
   ⟨0x02108000, [(16, 0x2000), (1024, 0x8)], [
      ⟨63, 61, .rw, 0x0, [], false⟩, ⟨55, 48, .rw, 0x0, [], false⟩, ⟨31, 0, .rw, 0x0, [], false⟩]⟩]

/-- The registers of the NTU. -/
def regTableNTU : List RegDef :=
  [
   -- NTU_LT_TRIM
   ⟨0x02401000, [], [
      ⟨63, 63, .w1s, 0x0, [], true⟩, ⟨31, 0, .rwl, 0x0, [(0, 1073742), (4293893554, 4294967295)], false⟩]⟩,
   -- NTU_SNAP_CTL
   ⟨0x02401008, [], [
      ⟨0, 0, .wo, 0x0, [], false⟩]⟩,
   -- NTU_SNAP_SEQ
   ⟨0x02401010, [], [
      ⟨63, 0, .ro, 0x0, [], false⟩]⟩,
   -- NTU_SNAP_LT
   ⟨0x02401018, [], [
      ⟨63, 0, .ro, 0x0, [], false⟩]⟩,
   -- NTU_SNAP_TDA
   ⟨0x02401020, [], [
      ⟨63, 0, .ro, 0x0, [], false⟩]⟩,
   -- NTU_SNAP_TDB
   ⟨0x02401028, [], [
      ⟨63, 0, .ro, 0x0, [], false⟩]⟩,
   -- NTU_SNAP_FRAC
   ⟨0x02401030, [], [
      ⟨47, 32, .ro, 0x0, [], false⟩, ⟨31, 16, .ro, 0x0, [], false⟩, ⟨15, 0, .ro, 0x0, [], false⟩]⟩,
   -- NTU_TDx_CTL
   ⟨0x02401100, [(2, 0x80)], [
      ⟨63, 56, .rw, 0x0, [], false⟩, ⟨55, 52, .rw, 0x2, [], false⟩, ⟨51, 48, .rw, 0x6, [], false⟩,
      ⟨47, 32, .rw, 0x2710, [], false⟩, ⟨5, 5, .wo, 0x0, [], false⟩, ⟨4, 4, .rw, 0x0, [], false⟩,
      ⟨1, 1, .rw, 0x1, [], false⟩, ⟨0, 0, .rw, 0x0, [], false⟩]⟩,
   -- NTU_TDx_THR
   ⟨0x02401108, [(2, 0x80)], [
      ⟨63, 32, .rw, 0x3E8, [(1, 4294967295)], false⟩, ⟨31, 0, .rw, 0x64, [(1, 4294967295)], false⟩]⟩,
   -- NTU_TDx_MEAS
   ⟨0x02401110, [(2, 0x80)], [
      ⟨63, 0, .wo, 0x0, [], false⟩]⟩,
   -- NTU_TDx_OFFSET
   ⟨0x02401118, [(2, 0x80)], [
      ⟨63, 0, .ro, 0x0, [], false⟩]⟩,
   -- NTU_TDx_RATE
   ⟨0x02401120, [(2, 0x80)], [
      ⟨31, 0, .ro, 0x0, [], false⟩]⟩,
   -- NTU_TDx_STAT
   ⟨0x02401128, [(2, 0x80)], [
      ⟨63, 48, .rc, 0x0, [], false⟩, ⟨47, 40, .rc, 0x0, [], false⟩, ⟨39, 32, .rc, 0x0, [], false⟩,
      ⟨31, 8, .ro, 0x0, [], false⟩, ⟨2, 0, .ro, 0x0, [], false⟩]⟩,
   -- NTU_CAST_CTL
   ⟨0x02401200, [], [
      ⟨25, 16, .rw, 0x64, [(1, 1000)], false⟩, ⟨8, 8, .rw, 0x0, [], false⟩, ⟨0, 0, .wo, 0x0, [], false⟩]⟩,
   -- NTU_CAST_STAT
   ⟨0x02401208, [], [
      ⟨63, 32, .ro, 0x0, [], false⟩, ⟨3, 3, .w1c, 0x0, [], false⟩, ⟨2, 2, .w1c, 0x0, [], false⟩,
      ⟨1, 1, .ro, 0x0, [], false⟩, ⟨0, 0, .ro, 0x0, [], false⟩]⟩,
   -- NTU_SYNCIN_CFG
   ⟨0x02401300, [], [
      ⟨7, 4, .rw, 0x2, [(1, 15)], false⟩, ⟨0, 0, .rw, 0x0, [], false⟩]⟩,
   -- NTU_SYNCIN_TS
   ⟨0x02401308, [], [
      ⟨63, 1, .ro, 0x0, [], false⟩, ⟨0, 0, .ro, 0x0, [], false⟩]⟩,
   -- NTU_SYNCOUT_CFG
   ⟨0x02401310, [], [
      ⟨63, 32, .rw, 0x0, [], false⟩, ⟨31, 8, .rw, 0x8, [(1, 16777215)], false⟩, ⟨1, 1, .rw, 0x0, [], false⟩,
      ⟨0, 0, .rw, 0x0, [], false⟩]⟩,
   -- NTU_PPS_CFG
   ⟨0x02401318, [], [
      ⟨63, 32, .rw, 0x0, [(0, 999999999)], false⟩, ⟨31, 12, .rw, 0x2710, [(1, 500000)], false⟩,
      ⟨6, 4, .rw, 0x0, [(0, 3)], false⟩, ⟨1, 1, .rw, 0x0, [], false⟩, ⟨0, 0, .rw, 0x0, [], false⟩]⟩,
   -- NTU_PORTp_LAT
   ⟨0x02402000, [(10, 0x20)], [
      ⟨63, 32, .rw, 0x0, [], false⟩, ⟨31, 0, .rw, 0x0, [], false⟩]⟩,
   -- NTU_PORTp_ASYM
   ⟨0x02402008, [(10, 0x20)], [
      ⟨31, 0, .rw, 0x0, [], false⟩]⟩,
   -- NTU_PORTp_CFG
   ⟨0x02402010, [(10, 0x20)], [
      ⟨3, 3, .rw, 0x0, [], false⟩, ⟨2, 2, .rw, 0x0, [], false⟩, ⟨1, 1, .rw, 0x0, [], false⟩,
      ⟨0, 0, .rw, 0x0, [], false⟩]⟩,
   -- NTU_PORTp_STAT
   ⟨0x02402018, [(10, 0x20)], [
      ⟨23, 16, .rc, 0x0, [], false⟩, ⟨15, 8, .rc, 0x0, [], false⟩, ⟨7, 0, .rc, 0x0, [], false⟩]⟩,
   -- NTU_TXTSp_NS
   ⟨0x02403000, [(10, 0x10)], [
      ⟨63, 0, .ro, 0x0, [], false⟩]⟩,
   -- NTU_TXTSp_POP
   ⟨0x02403008, [(10, 0x10)], [
      ⟨63, 63, .rc, 0x0, [], false⟩, ⟨47, 32, .rc, 0x0, [], false⟩, ⟨15, 0, .rc, 0x0, [], false⟩]⟩,
   -- NTU_CYC_CTL
   ⟨0x02410000, [], [
      ⟨4, 4, .wo, 0x0, [], false⟩, ⟨3, 2, .rw, 0x0, [(0, 2)], false⟩, ⟨1, 1, .rw, 0x0, [], false⟩,
      ⟨0, 0, .rw, 0x0, [], false⟩]⟩,
   -- NTU_CYC_LEN
   ⟨0x02410008, [], [
      ⟨31, 0, .rw, 0xF4240, [], false⟩]⟩,
   -- NTU_CYC_PULL
   ⟨0x02410010, [], [
      ⟨7, 0, .rw, 0x19, [(1, 25)], false⟩]⟩,
   -- NTU_CYC_STAT
   ⟨0x02410018, [], [
      ⟨63, 48, .rc, 0x0, [], false⟩, ⟨47, 40, .rc, 0x0, [], false⟩, ⟨35, 35, .ro, 0x0, [], false⟩,
      ⟨34, 34, .ro, 0x0, [], false⟩, ⟨33, 33, .w1c, 0x0, [], false⟩, ⟨32, 32, .ro, 0x0, [], false⟩,
      ⟨31, 0, .ro, 0x0, [], false⟩]⟩,
   -- NTU_CYC_COUNT
   ⟨0x02410020, [], [
      ⟨63, 0, .ro, 0x0, [], false⟩]⟩,
   -- NTU_CYC_PHASEn
   ⟨0x02410040, [(8, 0x8)], [
      ⟨31, 0, .rw, 0x0, [], false⟩]⟩]

/-- The registers of the CBC. -/
def regTableCBC : List RegDef :=
  [
   -- CBC_SCHED_CTL
   ⟨0x02801000, [], [
      ⟨0, 0, .wo, 0x0, [], false⟩]⟩,
   -- CBC_SCHED_STAT
   ⟨0x02801008, [], [
      ⟨63, 48, .ro, 0x0, [], false⟩, ⟨47, 44, .ro, 0x0, [], false⟩, ⟨43, 32, .ro, 0x0, [], false⟩,
      ⟨3, 3, .ro, 0x0, [], false⟩, ⟨2, 2, .w1c, 0x0, [], false⟩, ⟨1, 1, .ro, 0x0, [], false⟩]⟩,
   -- CBC_SNAP_SEQ
   ⟨0x02801010, [], [
      ⟨63, 0, .ro, 0x0, [], false⟩]⟩,
   -- CBC_SEGs_CTL
   ⟨0x02802000, [(4, 0x100)], [
      ⟨63, 40, .rw, 0x0, [], false⟩, ⟨39, 34, .rw, 0xF, [], false⟩, ⟨33, 30, .rw, 0xF, [], false⟩,
      ⟨29, 29, .rw, 0x1, [], false⟩, ⟨23, 20, .rw, 0x3, [(1, 15)], false⟩,
      ⟨15, 8, .rw, 0x6, [(1, 255)], false⟩, ⟨0, 0, .rw, 0x0, [], false⟩]⟩,
   -- CBC_SEGs_TIMING
   ⟨0x02802008, [(4, 0x100)], [
      ⟨47, 32, .rw, 0x14, [(1, 65535)], false⟩, ⟨23, 16, .rw, 0xF, [(2, 255)], false⟩,
      ⟨7, 0, .rw, 0xA, [(1, 253)], false⟩]⟩,
   -- CBC_SEGs_SYNC
   ⟨0x02802010, [(4, 0x100)], [
      ⟨63, 56, .rw, 0x4, [(1, 255)], false⟩, ⟨55, 48, .rw, 0x20, [(1, 255)], false⟩,
      ⟨47, 44, .rw, 0x4, [], false⟩, ⟨43, 42, .rw, 0x0, [(0, 2)], false⟩, ⟨41, 41, .rw, 0x0, [], false⟩]⟩,
   -- CBC_SEGs_STAT
   ⟨0x02802018, [(4, 0x100)], [
      ⟨63, 40, .ro, 0x0, [], false⟩, ⟨39, 36, .ro, 0x0, [], false⟩, ⟨35, 30, .ro, 0x0, [], false⟩,
      ⟨29, 25, .ro, 0x0, [], false⟩, ⟨19, 16, .ro, 0x0, [], false⟩, ⟨7, 7, .ro, 0x0, [], false⟩,
      ⟨2, 0, .ro, 0x0, [], false⟩]⟩,
   -- CBC_SEGs_ST
   ⟨0x02802020, [(4, 0x100)], [
      ⟨63, 0, .ro, 0x0, [], false⟩]⟩,
   -- CBC_SEGs_CNT0
   ⟨0x02802028, [(4, 0x100)], [
      ⟨63, 48, .rc, 0x0, [], false⟩, ⟨47, 32, .rc, 0x0, [], false⟩, ⟨31, 16, .rc, 0x0, [], false⟩,
      ⟨15, 0, .rc, 0x0, [], false⟩]⟩,
   -- CBC_SEGs_CNT1
   ⟨0x02802030, [(4, 0x100)], [
      ⟨63, 48, .rc, 0x0, [], false⟩, ⟨47, 32, .rc, 0x0, [], false⟩, ⟨31, 16, .rc, 0x0, [], false⟩,
      ⟨15, 0, .rc, 0x0, [], false⟩]⟩,
   -- CBC_SEGs_BABBLE
   ⟨0x02802038, [(4, 0x100)], [
      ⟨63, 56, .ro, 0x0, [], false⟩, ⟨47, 0, .ro, 0x0, [], false⟩]⟩,
   -- CBC_SEGs_NODES
   ⟨0x02802040, [(4, 0x100)], [
      ⟨17, 1, .rw, 0x0, [], false⟩]⟩,
   -- CBC_SEGs_SLICEk
   ⟨0x02802080, [(4, 0x100), (16, 0x8)], [
      ⟨63, 63, .rw, 0x0, [], false⟩, ⟨62, 62, .rw, 0x0, [], false⟩, ⟨59, 48, .rw, 0x0, [], false⟩,
      ⟨16, 0, .rw, 0x0, [], false⟩]⟩,
   -- CBC_SEGs_NODEi
   ⟨0x02804000, [(4, 0x100), (32, 0x8)], [
      ⟨63, 63, .ro, 0x0, [], false⟩, ⟨62, 62, .ro, 0x0, [], false⟩, ⟨61, 61, .ro, 0x0, [], false⟩,
      ⟨60, 60, .ro, 0x0, [], false⟩, ⟨59, 59, .ro, 0x0, [], false⟩, ⟨58, 54, .ro, 0x0, [], false⟩,
      ⟨53, 52, .ro, 0x0, [], false⟩, ⟨51, 36, .ro, 0x0, [], false⟩, ⟨31, 0, .ro, 0x0, [], false⟩]⟩,
   -- CBC_SAFE
   ⟨0x02810000, [(4, 0x400), (16, 0x40), (8, 0x8)], [
      ⟨63, 0, .rw, 0x0, [], false⟩]⟩,
   -- CBC_SCHED_SHADOW
   ⟨0x02820000, [(4096, 0x10), (2, 0x8)], [
      ⟨63, 0, .rw, 0x0, [], false⟩]⟩,
   -- CBC_SCHED_ACTIVE
   ⟨0x02830000, [(4096, 0x10), (2, 0x8)], [
      ⟨63, 0, .ro, 0x0, [], false⟩]⟩]

/-- The registers of the CANB. -/
def regTableCANB : List RegDef :=
  [
   -- CANn_CTL
   ⟨0x02900000, [(6, 0x10000)], [
      ⟨15, 15, .wo, 0x0, [], false⟩, ⟨14, 14, .rw, 0x1, [], false⟩, ⟨13, 13, .rw, 0x0, [], false⟩,
      ⟨12, 12, .rw, 0x0, [], false⟩, ⟨11, 11, .rw, 0x1, [], false⟩, ⟨10, 10, .rw, 0x0, [], false⟩,
      ⟨9, 9, .rw, 0x0, [], false⟩, ⟨0, 0, .rw, 0x0, [], false⟩]⟩,
   -- CANn_NBT
   ⟨0x02900008, [(6, 0x10000)], [
      ⟨37, 32, .rw, 0x1, [(1, 32)], false⟩, ⟨28, 20, .rw, 0x7F, [(2, 256)], false⟩,
      ⟨15, 8, .rw, 0x20, [(1, 128)], false⟩, ⟨7, 0, .rw, 0x20, [(1, 128)], false⟩]⟩,
   -- CANn_DBT
   ⟨0x02900010, [(6, 0x10000)], [
      ⟨61, 56, .rw, 0x0, [], false⟩, ⟨55, 50, .rw, 0x1, [(1, 63)], false⟩,
      ⟨49, 44, .rw, 0x1, [(1, 63)], false⟩, ⟨43, 43, .rw, 0x0, [], false⟩, ⟨39, 33, .rw, 0x0, [], false⟩,
      ⟨32, 32, .rw, 0x0, [], false⟩, ⟨29, 24, .rw, 0x1, [(1, 32)], false⟩,
      ⟨21, 16, .rw, 0x1F, [(1, 32)], false⟩, ⟨12, 8, .rw, 0x8, [(1, 16)], false⟩,
      ⟨4, 0, .rw, 0x8, [(1, 16)], false⟩]⟩,
   -- CANn_STAT
   ⟨0x02900018, [(6, 0x10000)], [
      ⟨40, 32, .ro, 0x0, [], false⟩, ⟨31, 24, .ro, 0x0, [], false⟩, ⟨19, 17, .ro, 0x0, [], false⟩,
      ⟨9, 8, .ro, 0x0, [], false⟩, ⟨7, 7, .ro, 0x0, [], false⟩, ⟨2, 0, .ro, 0x0, [], false⟩]⟩,
   -- CANn_MEM
   ⟨0x02900020, [(6, 0x10000)], [
      ⟨35, 34, .rw, 0x1, [], false⟩, ⟨33, 32, .rw, 0x1, [], false⟩, ⟨31, 0, .rw, 0x0, [], false⟩]⟩,
   -- CANn_FLT
   ⟨0x02900028, [(6, 0x10000)], [
      ⟨41, 32, .ro, 0x0, [], false⟩, ⟨5, 4, .rw, 0x0, [(0, 2)], false⟩, ⟨3, 3, .w1c, 0x0, [], false⟩,
      ⟨2, 2, .ro, 0x0, [], false⟩, ⟨1, 1, .ro, 0x0, [], false⟩, ⟨0, 0, .wo, 0x0, [], false⟩]⟩,
   -- CANn_IDX
   ⟨0x02900030, [(6, 0x10000)], [
      ⟨62, 56, .rw, 0x0, [], false⟩, ⟨54, 48, .ro, 0x0, [], false⟩, ⟨46, 40, .rw, 0x0, [], false⟩,
      ⟨38, 32, .ro, 0x0, [], false⟩, ⟨30, 24, .rw, 0x0, [], false⟩, ⟨22, 16, .ro, 0x0, [], false⟩]⟩,
   -- CANn_TXQ
   ⟨0x02900038, [(6, 0x10000)], [
      ⟨63, 63, .wo, 0x0, [], false⟩, ⟨47, 32, .wo, 0x0, [], false⟩, ⟨31, 16, .wo, 0x0, [], false⟩,
      ⟨14, 12, .ro, 0x0, [], false⟩, ⟨8, 8, .ro, 0x0, [], false⟩, ⟨6, 0, .ro, 0x0, [], false⟩]⟩,
   -- CANn_TXQ_W0
   ⟨0x02900040, [(6, 0x10000)], [
      ⟨63, 0, .wo, 0x0, [], false⟩]⟩,
   -- CANn_TXQ_W1
   ⟨0x02900048, [(6, 0x10000)], [
      ⟨63, 0, .wo, 0x0, [], false⟩]⟩,
   -- CANn_TXQ_W2
   ⟨0x02900050, [(6, 0x10000)], [
      ⟨63, 0, .wo, 0x0, [], false⟩]⟩,
   -- CANn_CNT
   ⟨0x02900058, [(6, 0x10000)], [
      ⟨63, 48, .rc, 0x0, [], false⟩, ⟨47, 32, .rc, 0x0, [], false⟩, ⟨31, 16, .rc, 0x0, [], false⟩,
      ⟨15, 0, .rc, 0x0, [], false⟩]⟩,
   -- CANn_SIDC
   ⟨0x02900060, [(6, 0x10000)], [
      ⟨61, 60, .ro, 0x0, [], false⟩, ⟨59, 59, .ro, 0x0, [], false⟩, ⟨28, 0, .ro, 0x0, [], false⟩]⟩,
   -- CANn_CYCk
   ⟨0x02900100, [(6, 0x10000), (32, 0x8)], [
      ⟨63, 63, .rw, 0x0, [], false⟩, ⟨62, 62, .rw, 0x0, [], false⟩, ⟨61, 52, .rw, 0x0, [], false⟩,
      ⟨48, 32, .rw, 0x0, [], false⟩, ⟨31, 0, .rw, 0x0, [], false⟩]⟩,
   -- CANn_PIMAPk
   ⟨0x02900200, [(6, 0x10000), (32, 0x8)], [
      ⟨63, 63, .rw, 0x0, [], false⟩, ⟨62, 58, .rw, 0x0, [], false⟩, ⟨57, 46, .rw, 0x0, [], false⟩,
      ⟨16, 0, .rw, 0x0, [], false⟩]⟩,
   -- CANn_SNAP_STAT
   ⟨0x02900400, [(6, 0x10000)], [
      ⟨40, 32, .ro, 0x0, [], false⟩, ⟨31, 24, .ro, 0x0, [], false⟩, ⟨19, 17, .ro, 0x0, [], false⟩,
      ⟨9, 8, .ro, 0x0, [], false⟩, ⟨7, 7, .ro, 0x0, [], false⟩, ⟨2, 0, .ro, 0x0, [], false⟩]⟩,
   -- CANn_SNAP_IDX
   ⟨0x02900408, [(6, 0x10000)], [
      ⟨62, 56, .ro, 0x0, [], false⟩, ⟨54, 48, .ro, 0x0, [], false⟩, ⟨46, 40, .ro, 0x0, [], false⟩,
      ⟨38, 32, .ro, 0x0, [], false⟩, ⟨30, 24, .ro, 0x0, [], false⟩, ⟨22, 16, .ro, 0x0, [], false⟩]⟩,
   -- CANn_SNAP_CNT
   ⟨0x02900410, [(6, 0x10000)], [
      ⟨63, 48, .ro, 0x0, [], false⟩, ⟨47, 32, .ro, 0x0, [], false⟩, ⟨31, 16, .ro, 0x0, [], false⟩,
      ⟨15, 0, .ro, 0x0, [], false⟩]⟩,
   -- CANB_SNAP_SEQ
   ⟨0x02961000, [], [
      ⟨63, 0, .ro, 0x0, [], false⟩]⟩]

/-- The registers of the PIA. -/
def regTablePIA : List RegDef :=
  [
   -- PIA_Gg_CTL
   ⟨0x02A01000, [(4, 0x40)], [
      ⟨23, 16, .wo, 0x0, [], false⟩, ⟨15, 8, .wo, 0x0, [], false⟩, ⟨0, 0, .rw, 0x0, [], false⟩]⟩,
   -- PIA_FLAG_SET
   ⟨0x02A01100, [], [
      ⟨15, 0, .w1s, 0x0, [], false⟩]⟩,
   -- PIA_FLAG_CLR
   ⟨0x02A01108, [], [
      ⟨15, 0, .w1c, 0x0, [], false⟩]⟩,
   -- PIA_PIOi_CFG
   ⟨0x02A02000, [(96, 0x8)], [
      ⟨15, 15, .rw, 0x0, [], false⟩, ⟨12, 8, .rw, 0x0, [], false⟩, ⟨7, 6, .rw, 0x0, [(0, 2)], false⟩,
      ⟨5, 4, .rw, 0x0, [(0, 2)], false⟩, ⟨3, 3, .rw, 0x0, [], false⟩]⟩,
   -- PIA_Pn_CTL
   ⟨0x02A04000, [(32, 0x200)], [
      ⟨7, 7, .rw, 0x0, [], false⟩, ⟨0, 0, .rw, 0x0, [], false⟩]⟩,
   -- PIA_Pn_STAT
   ⟨0x02A04008, [(32, 0x200)], [
      ⟨57, 52, .ro, 0x0, [], false⟩, ⟨51, 46, .ro, 0x0, [], false⟩, ⟨45, 45, .ro, 0x0, [], false⟩,
      ⟨44, 44, .ro, 0x0, [], false⟩, ⟨43, 40, .ro, 0x0, [], false⟩, ⟨39, 36, .ro, 0x0, [], false⟩,
      ⟨11, 11, .w1c, 0x0, [], false⟩, ⟨10, 10, .w1c, 0x0, [], false⟩, ⟨9, 9, .w1c, 0x0, [], false⟩,
      ⟨8, 8, .ro, 0x0, [], false⟩, ⟨7, 7, .ro, 0x0, [], false⟩, ⟨2, 0, .ro, 0x0, [], false⟩]⟩,
   -- PIA_Pn_CLKDIV
   ⟨0x02A04010, [(32, 0x200)], [
      ⟨47, 32, .rw, 0x1, [(1, 65535)], false⟩, ⟨15, 0, .rw, 0x1, [(1, 65535)], false⟩]⟩,
   -- PIA_Pn_PINS
   ⟨0x02A04018, [(32, 0x200)], [
      ⟨26, 20, .rw, 0x0, [(0, 95)], false⟩, ⟨14, 8, .rw, 0x0, [(0, 95)], false⟩,
      ⟨3, 0, .rw, 0x0, [(0, 8)], false⟩]⟩,
   -- PIA_Pn_PROG
   ⟨0x02A04020, [(32, 0x200)], [
      ⟨63, 63, .w1s, 0x0, [], false⟩, ⟨62, 62, .wo, 0x0, [], false⟩, ⟨55, 50, .ro, 0x0, [], false⟩,
      ⟨49, 44, .ro, 0x0, [], false⟩, ⟨43, 38, .ro, 0x0, [], false⟩, ⟨23, 18, .rw, 0x0, [], false⟩,
      ⟨17, 12, .rw, 0x3F, [], false⟩, ⟨11, 6, .rw, 0x0, [], false⟩]⟩,
   -- PIA_Pn_TXF
   ⟨0x02A04028, [(32, 0x200)], [
      ⟨31, 0, .wo, 0x0, [], false⟩]⟩,
   -- PIA_Pn_RXF
   ⟨0x02A04030, [(32, 0x200)], [
      ⟨63, 63, .rc, 0x0, [], false⟩, ⟨31, 0, .rc, 0x0, [], false⟩]⟩,
   -- PIA_Pn_PIIN
   ⟨0x02A04038, [(32, 0x200)], [
      ⟨63, 63, .rw, 0x0, [], false⟩, ⟨59, 48, .rw, 0x0, [], false⟩, ⟨43, 41, .rw, 0x0, [], false⟩,
      ⟨16, 0, .rw, 0x0, [], false⟩]⟩,
   -- PIA_Pn_PIOUT
   ⟨0x02A04040, [(32, 0x200)], [
      ⟨63, 63, .rw, 0x0, [], false⟩, ⟨62, 61, .rw, 0x0, [(0, 2)], false⟩, ⟨60, 51, .rw, 0x0, [], false⟩,
      ⟨50, 48, .rw, 0x0, [], false⟩, ⟨40, 24, .rw, 0x0, [], false⟩, ⟨22, 0, .rw, 0x0, [], false⟩]⟩,
   -- PIA_Pn_CNT
   ⟨0x02A04048, [(32, 0x200)], [
      ⟨63, 48, .rc, 0x0, [], false⟩, ⟨47, 32, .rc, 0x0, [], false⟩, ⟨31, 16, .rc, 0x0, [], false⟩,
      ⟨15, 0, .rc, 0x0, [], false⟩]⟩,
   -- PIA_SAFE
   ⟨0x02A04080, [(32, 0x200), (4, 0x8)], [
      ⟨63, 0, .rw, 0x0, [], false⟩]⟩,
   -- PIA_SHADOW
   ⟨0x02A04100, [(32, 0x200), (16, 0x8)], [
      ⟨63, 0, .rw, 0x0, [], false⟩]⟩,
   -- PIA_ACTIVE
   ⟨0x02A04180, [(32, 0x200), (16, 0x8)], [
      ⟨63, 0, .ro, 0x0, [], false⟩]⟩]

/-- The registers of the ACE. -/
def regTableACE : List RegDef :=
  [
   -- ACE_BANK_CTL
   ⟨0x03001000, [], [
      ⟨13, 8, .rw, 0x0, [], false⟩, ⟨2, 2, .wo, 0x0, [], false⟩, ⟨1, 1, .wo, 0x0, [], false⟩]⟩,
   -- ACE_BANK_STAT
   ⟨0x03001008, [], [
      ⟨63, 48, .ro, 0x0, [], false⟩, ⟨45, 40, .ro, 0x0, [], false⟩, ⟨39, 36, .ro, 0x0, [], false⟩,
      ⟨4, 4, .w1c, 0x0, [], false⟩, ⟨3, 3, .ro, 0x0, [], false⟩, ⟨2, 2, .w1c, 0x0, [], false⟩,
      ⟨1, 1, .ro, 0x0, [], false⟩, ⟨0, 0, .w1c, 0x0, [], false⟩]⟩,
   -- ACE_APPLY_MASK
   ⟨0x03001010, [], [
      ⟨63, 0, .rw, 0x0, [], false⟩]⟩,
   -- ACE_SNAP_SEQ
   ⟨0x03001018, [], [
      ⟨63, 0, .ro, 0x0, [], false⟩]⟩,
   -- ACE_SNAP_EXTRAP
   ⟨0x03001020, [], [
      ⟨63, 0, .ro, 0x0, [], false⟩]⟩,
   -- ACE_SNAP_OUTLATE
   ⟨0x03001028, [], [
      ⟨63, 0, .ro, 0x0, [], false⟩]⟩,
   -- ACE_AXk_CFG
   ⟨0x03002000, [(64, 0x80)], [
      ⟨63, 63, .rw, 0x0, [], false⟩, ⟨62, 61, .rw, 0x0, [], false⟩, ⟨60, 55, .rw, 0x0, [], false⟩,
      ⟨54, 48, .rw, 0x40, [(16, 64)], false⟩, ⟨47, 36, .rw, 0x0, [], false⟩, ⟨16, 0, .rw, 0x0, [], false⟩]⟩,
   -- ACE_AXk_IO
   ⟨0x03002008, [(64, 0x80)], [
      ⟨63, 52, .rw, 0x0, [], false⟩, ⟨48, 32, .rw, 0x0, [], false⟩, ⟨16, 0, .rw, 0x0, [], false⟩]⟩,
   -- ACE_AXk_TIME
   ⟨0x03002010, [(64, 0x80)], [
      ⟨63, 60, .rw, 0x4, [(1, 15)], false⟩, ⟨31, 0, .rw, 0x0, [], false⟩]⟩,
   -- ACE_AXk_STOP
   ⟨0x03002018, [(64, 0x80)], [
      ⟨63, 63, .rw, 0x0, [], false⟩, ⟨55, 48, .rw, 0x10, [], false⟩, ⟨47, 32, .rw, 0x400, [(1, 65535)], false⟩,
      ⟨31, 0, .rw, 0x0, [], false⟩]⟩,
   -- ACE_AXk_STAT
   ⟨0x03002020, [(64, 0x80)], [
      ⟨57, 56, .ro, 0x0, [], false⟩, ⟨55, 52, .ro, 0x0, [], false⟩, ⟨51, 48, .ro, 0x0, [], false⟩,
      ⟨47, 46, .ro, 0x0, [], false⟩, ⟨15, 15, .ro, 0x0, [], false⟩, ⟨14, 14, .ro, 0x0, [], false⟩,
      ⟨7, 7, .w1c, 0x0, [], false⟩, ⟨6, 6, .w1c, 0x0, [], false⟩, ⟨5, 5, .w1c, 0x0, [], false⟩,
      ⟨4, 4, .w1c, 0x0, [], false⟩, ⟨3, 3, .w1c, 0x0, [], false⟩, ⟨2, 2, .w1c, 0x0, [], false⟩,
      ⟨1, 1, .w1c, 0x0, [], false⟩]⟩,
   -- ACE_AXk_SPOS
   ⟨0x03002028, [(64, 0x80)], [
      ⟨63, 0, .ro, 0x0, [], false⟩]⟩,
   -- ACE_AXk_SERR
   ⟨0x03002030, [(64, 0x80)], [
      ⟨63, 0, .ro, 0x0, [], false⟩]⟩,
   -- ACE_AXk_SOUT
   ⟨0x03002038, [(64, 0x80)], [
      ⟨63, 0, .ro, 0x0, [], false⟩]⟩,
   -- ACE_AXk_SINT
   ⟨0x03002040, [(64, 0x80)], [
      ⟨63, 0, .ro, 0x0, [], false⟩]⟩,
   -- ACE_COEF_SHADOW
   ⟨0x03010000, [(64, 0x200), (64, 0x8)], [
      ⟨63, 0, .rw, 0x0, [], false⟩]⟩,
   -- ACE_COEF_ACTIVE
   ⟨0x03018000, [(64, 0x200), (64, 0x8)], [
      ⟨63, 0, .ro, 0x0, [], false⟩]⟩,
   -- ACE_TAB_SHADOW
   ⟨0x03100000, [(64, 0x4000), (2048, 0x8)], [
      ⟨63, 0, .rw, 0x0, [], false⟩]⟩,
   -- ACE_TAB_ACTIVE
   ⟨0x03200000, [(64, 0x4000), (2048, 0x8)], [
      ⟨63, 0, .ro, 0x0, [], false⟩]⟩]

/-- The registers of the SFI. -/
def regTableSFI : List RegDef :=
  [
   -- SFI_STAT
   ⟨0x04001000, [], [
      ⟨63, 56, .ro, 0x0, [], false⟩, ⟨19, 16, .ro, 0x0, [], false⟩, ⟨8, 8, .ro, 0x0, [], false⟩,
      ⟨2, 0, .ro, 0x0, [], false⟩]⟩,
   -- SFI_PSET
   ⟨0x04001008, [], [
      ⟨63, 32, .ro, 0x0, [], false⟩, ⟨31, 0, .ro, 0x0, [], false⟩]⟩,
   -- SFI_SNAP_SEQ
   ⟨0x04001010, [], [
      ⟨63, 0, .ro, 0x0, [], false⟩]⟩,
   -- SFI_IN
   ⟨0x04001018, [], [
      ⟨59, 48, .ro, 0x0, [], false⟩, ⟨47, 36, .ro, 0x0, [], false⟩, ⟨35, 24, .ro, 0x0, [], false⟩,
      ⟨23, 0, .ro, 0x0, [], false⟩]⟩,
   -- SFI_OUT
   ⟨0x04001020, [], [
      ⟨23, 20, .ro, 0x0, [], false⟩, ⟨19, 16, .ro, 0x0, [], false⟩, ⟨15, 8, .ro, 0x0, [], false⟩,
      ⟨7, 0, .ro, 0x0, [], false⟩]⟩,
   -- SFI_ZONE
   ⟨0x04001028, [], [
      ⟨31, 16, .ro, 0x0, [], false⟩, ⟨15, 0, .ro, 0x0, [], false⟩]⟩,
   -- SFI_CNT
   ⟨0x04001030, [], [
      ⟨63, 48, .ro, 0x0, [], false⟩, ⟨47, 32, .ro, 0x0, [], false⟩, ⟨31, 16, .ro, 0x0, [], false⟩,
      ⟨15, 0, .ro, 0x0, [], false⟩]⟩,
   -- SFI_AXk
   ⟨0x04002000, [(64, 0x8)], [
      ⟨63, 63, .ro, 0x0, [], false⟩, ⟨62, 62, .ro, 0x0, [], false⟩, ⟨61, 61, .ro, 0x0, [], false⟩,
      ⟨60, 60, .ro, 0x0, [], false⟩, ⟨59, 59, .ro, 0x0, [], false⟩, ⟨58, 58, .ro, 0x0, [], false⟩,
      ⟨57, 54, .ro, 0x0, [], false⟩, ⟨53, 51, .ro, 0x0, [], false⟩, ⟨47, 40, .ro, 0x0, [], false⟩,
      ⟨39, 38, .ro, 0x0, [], false⟩, ⟨31, 0, .ro, 0x0, [], false⟩]⟩,
   -- SFI_CONNc
   ⟨0x04004000, [(512, 0x8)], [
      ⟨63, 61, .ro, 0x0, [], false⟩, ⟨60, 60, .ro, 0x0, [], false⟩, ⟨59, 56, .ro, 0x0, [], false⟩,
      ⟨47, 32, .ro, 0x0, [], false⟩, ⟨31, 24, .ro, 0x0, [], false⟩, ⟨23, 16, .ro, 0x0, [], false⟩,
      ⟨15, 8, .ro, 0x0, [], false⟩, ⟨7, 0, .ro, 0x0, [], false⟩]⟩]

/-- The registers of the SEC. -/
def regTableSEC : List RegDef :=
  [
   -- SEC_LC
   ⟨0x05001000, [], [
      ⟨29, 24, .ro, 0x0, [], false⟩, ⟨21, 16, .ro, 0x0, [], false⟩, ⟨3, 0, .ro, 0x0, [], false⟩]⟩,
   -- SEC_BOOT
   ⟨0x05001008, [], [
      ⟨63, 32, .ro, 0x0, [], false⟩, ⟨15, 13, .ro, 0x0, [], false⟩, ⟨11, 8, .ro, 0x0, [], false⟩,
      ⟨7, 6, .ro, 0x0, [], false⟩, ⟨5, 4, .ro, 0x0, [], false⟩, ⟨1, 1, .ro, 0x0, [], false⟩,
      ⟨0, 0, .ro, 0x0, [], false⟩]⟩,
   -- SEC_TAMPER_CFG
   ⟨0x05001010, [], [
      ⟨63, 63, .w1s, 0x0, [], true⟩, ⟨7, 4, .rwl, 0x5, [(1, 15)], false⟩, ⟨1, 1, .rwl, 0x0, [], false⟩,
      ⟨0, 0, .rwl, 0x0, [], false⟩]⟩,
   -- SEC_TAMPER_STAT
   ⟨0x05001018, [], [
      ⟨63, 48, .ro, 0x0, [], false⟩, ⟨2, 2, .w1c, 0x0, [], false⟩, ⟨1, 1, .w1c, 0x0, [], false⟩,
      ⟨0, 0, .w1c, 0x0, [], false⟩]⟩,
   -- SEC_DBG
   ⟨0x05001020, [], [
      ⟨63, 63, .w1s, 0x0, [], true⟩, ⟨0, 0, .rwl, 0x0, [], false⟩]⟩]

/-- Every unit's table, by the unit's base (Table R547). -/
def regTable (base : Nat) : List RegDef :=
  if base = 0x00000000 then regTableSYSCTL else
  if base = 0x00100000 then regTableCRP else
  if base = 0x00200000 then regTableMEM else
  if base = 0x00300000 then regTableHIC else
  if base = 0x00400000 then regTableMQF else
  if base = 0x00500000 then regTablePQ else
  if base = 0x01000000 then regTablePEA else
  if base = 0x02000000 then regTableEPC else
  if base = 0x02100000 then regTableSWC else
  if base = 0x02400000 then regTableNTU else
  if base = 0x02800000 then regTableCBC else
  if base = 0x02900000 then regTableCANB else
  if base = 0x02A00000 then regTablePIA else
  if base = 0x03000000 then regTableACE else
  if base = 0x04000000 then regTableSFI else
  if base = 0x05000000 then regTableSEC else
  []

end Sys2Proof.Machine
end

