-- ==== Sys2Proof/Machine/Regs.lean ====
section
/-! DEFINITION. The registers of the Rhizome (R8, R547): one address function for each register of the
unit chapters' tables and one `Fld` for each field. The names are the manual's. -/

namespace Sys2Proof.Machine

/-- SYSCTL_MODE. -/
@[inline] def SYSCTL_MODE : Nat := 0x00000100
@[inline] def SYSCTL_MODE_TRANSITIONS : Fld := ⟨SYSCTL_MODE, 47, 32⟩
@[inline] def SYSCTL_MODE_CAUSE : Fld := ⟨SYSCTL_MODE, 31, 24⟩
@[inline] def SYSCTL_MODE_TARGET : Fld := ⟨SYSCTL_MODE, 19, 16⟩
@[inline] def SYSCTL_MODE_PREV : Fld := ⟨SYSCTL_MODE, 11, 8⟩
@[inline] def SYSCTL_MODE_PENDING : Fld := ⟨SYSCTL_MODE, 4, 4⟩
@[inline] def SYSCTL_MODE_MODE : Fld := ⟨SYSCTL_MODE, 3, 0⟩
/-- SYSCTL_MODE_CFG. -/
@[inline] def SYSCTL_MODE_CFG : Nat := 0x00000108
@[inline] def SYSCTL_MODE_CFG_LOCK : Fld := ⟨SYSCTL_MODE_CFG, 63, 63⟩
@[inline] def SYSCTL_MODE_CFG_STARTUP_TMO : Fld := ⟨SYSCTL_MODE_CFG, 39, 32⟩
@[inline] def SYSCTL_MODE_CFG_DEG_PORT1 : Fld := ⟨SYSCTL_MODE_CFG, 23, 20⟩
@[inline] def SYSCTL_MODE_CFG_DEG_PORT0 : Fld := ⟨SYSCTL_MODE_CFG, 19, 16⟩
/-- SYSCTL_RST_STAT. -/
@[inline] def SYSCTL_RST_STAT : Nat := 0x00000110
@[inline] def SYSCTL_RST_STAT_LAST_RESET : Fld := ⟨SYSCTL_RST_STAT, 11, 8⟩
@[inline] def SYSCTL_RST_STAT_SYSRST_MASKED : Fld := ⟨SYSCTL_RST_STAT, 7, 7⟩
@[inline] def SYSCTL_RST_STAT_RST_STUCK : Fld := ⟨SYSCTL_RST_STAT, 6, 6⟩
@[inline] def SYSCTL_RST_STAT_SYSRST_LEVEL : Fld := ⟨SYSCTL_RST_STAT, 5, 5⟩
/-- SYSCTL_FAULT_CFG. -/
@[inline] def SYSCTL_FAULT_CFG : Nat := 0x00000200
@[inline] def SYSCTL_FAULT_CFG_LOCK : Fld := ⟨SYSCTL_FAULT_CFG, 63, 63⟩
@[inline] def SYSCTL_FAULT_CFG_INV_LIMIT : Fld := ⟨SYSCTL_FAULT_CFG, 47, 40⟩
@[inline] def SYSCTL_FAULT_CFG_SW_FAULT : Fld := ⟨SYSCTL_FAULT_CFG, 8, 8⟩
@[inline] def SYSCTL_FAULT_CFG_STOP_EN : Fld := ⟨SYSCTL_FAULT_CFG, 7, 0⟩
/-- SYSCTL_FAULT_STAT. -/
@[inline] def SYSCTL_FAULT_STAT : Nat := 0x00000208
@[inline] def SYSCTL_FAULT_STAT_LAST_SRC : Fld := ⟨SYSCTL_FAULT_STAT, 59, 56⟩
@[inline] def SYSCTL_FAULT_STAT_INV_RUN : Fld := ⟨SYSCTL_FAULT_STAT, 55, 48⟩
@[inline] def SYSCTL_FAULT_STAT_STOP_COUNT : Fld := ⟨SYSCTL_FAULT_STAT, 47, 32⟩
@[inline] def SYSCTL_FAULT_STAT_MGP_RESTARTS : Fld := ⟨SYSCTL_FAULT_STAT, 31, 16⟩
@[inline] def SYSCTL_FAULT_STAT_SEEN : Fld := ⟨SYSCTL_FAULT_STAT, 15, 8⟩
@[inline] def SYSCTL_FAULT_STAT_PIN : Fld := ⟨SYSCTL_FAULT_STAT, 0, 0⟩
/-- SYSCTL_EVLOG. -/
@[inline] def SYSCTL_EVLOG : Nat := 0x00000210
@[inline] def SYSCTL_EVLOG_NEXT_SEQ : Fld := ⟨SYSCTL_EVLOG, 63, 32⟩
@[inline] def SYSCTL_EVLOG_MERGED : Fld := ⟨SYSCTL_EVLOG, 31, 16⟩
@[inline] def SYSCTL_EVLOG_OVERFLOW : Fld := ⟨SYSCTL_EVLOG, 15, 0⟩
/-- CRP_PLL_STAT. -/
@[inline] def CRP_PLL_STAT : Nat := 0x00101000
@[inline] def CRP_PLL_STAT_LOL_COUNT : Fld := ⟨CRP_PLL_STAT, 63, 48⟩
@[inline] def CRP_PLL_STAT_WIDE : Fld := ⟨CRP_PLL_STAT, 1, 1⟩
@[inline] def CRP_PLL_STAT_LOCKED : Fld := ⟨CRP_PLL_STAT, 0, 0⟩
/-- CRP_CLKMON. -/
@[inline] def CRP_CLKMON : Nat := 0x00101008
@[inline] def CRP_CLKMON_LAST_COUNT : Fld := ⟨CRP_CLKMON, 63, 32⟩
@[inline] def CRP_CLKMON_FAULT : Fld := ⟨CRP_CLKMON, 5, 0⟩
/-- CRP_PD_STAT. -/
@[inline] def CRP_PD_STAT : Nat := 0x00101010
@[inline] def CRP_PD_STAT_PENDING : Fld := ⟨CRP_PD_STAT, 41, 32⟩
@[inline] def CRP_PD_STAT_STATE (e : Nat) : Fld := ⟨CRP_PD_STAT, 3 * e + 2, 3 * e + 0⟩
/-- CRP_PD_FAIL. -/
@[inline] def CRP_PD_FAIL : Nat := 0x00101018
@[inline] def CRP_PD_FAIL_CAUSE : Fld := ⟨CRP_PD_FAIL, 25, 24⟩
@[inline] def CRP_PD_FAIL_FIRST : Fld := ⟨CRP_PD_FAIL, 23, 20⟩
@[inline] def CRP_PD_FAIL_FAILED : Fld := ⟨CRP_PD_FAIL, 9, 0⟩
/-- CRP_WAKE_CFG. -/
@[inline] def CRP_WAKE_CFG : Nat := 0x00101020
@[inline] def CRP_WAKE_CFG_ENERGY_PORTS : Fld := ⟨CRP_WAKE_CFG, 11, 8⟩
@[inline] def CRP_WAKE_CFG_EN : Fld := ⟨CRP_WAKE_CFG, 4, 0⟩
/-- CRP_WAKE_TMR. -/
@[inline] def CRP_WAKE_TMR : Nat := 0x00101028
@[inline] def CRP_WAKE_TMR_MS : Fld := ⟨CRP_WAKE_TMR, 31, 0⟩
/-- CRP_WAKE_STAT. -/
@[inline] def CRP_WAKE_STAT : Nat := 0x00101030
@[inline] def CRP_WAKE_STAT_ENTRY_MS : Fld := ⟨CRP_WAKE_STAT, 63, 32⟩
@[inline] def CRP_WAKE_STAT_DURING_ENTRY : Fld := ⟨CRP_WAKE_STAT, 8, 8⟩
@[inline] def CRP_WAKE_STAT_SOURCE : Fld := ⟨CRP_WAKE_STAT, 4, 0⟩
/-- MEM_BANK_CFGr. -/
@[inline] def MEM_BANK_CFGr (i : Nat) : Nat := 0x00201000 + 0x8 * i
@[inline] def MEM_BANK_CFGr_TARGET (i e : Nat) : Fld := ⟨MEM_BANK_CFGr i, 2 * e + 1, 2 * e + 0⟩
/-- MEM_BANK_STATr. -/
@[inline] def MEM_BANK_STATr (i : Nat) : Nat := 0x00201018 + 0x8 * i
@[inline] def MEM_BANK_STATr_STATE (i e : Nat) : Fld := ⟨MEM_BANK_STATr i, 2 * e + 1, 2 * e + 0⟩
/-- MEM_RETm. -/
@[inline] def MEM_RETm (i : Nat) : Nat := 0x00201030 + 0x8 * i
@[inline] def MEM_RETm_BANKS (i : Nat) : Fld := ⟨MEM_RETm i, 63, 0⟩
/-- MEM_BANK_PENDm. -/
@[inline] def MEM_BANK_PENDm (i : Nat) : Nat := 0x00201040 + 0x8 * i
@[inline] def MEM_BANK_PENDm_BANKS (i : Nat) : Fld := ⟨MEM_BANK_PENDm i, 63, 0⟩
/-- MEM_BANK_FAILm. -/
@[inline] def MEM_BANK_FAILm (i : Nat) : Nat := 0x00201050 + 0x8 * i
@[inline] def MEM_BANK_FAILm_BANKS (i : Nat) : Fld := ⟨MEM_BANK_FAILm i, 63, 0⟩
/-- MEM_ECC_LOG. -/
@[inline] def MEM_ECC_LOG : Nat := 0x00201060
@[inline] def MEM_ECC_LOG_VALID : Fld := ⟨MEM_ECC_LOG, 63, 63⟩
@[inline] def MEM_ECC_LOG_UE : Fld := ⟨MEM_ECC_LOG, 62, 62⟩
@[inline] def MEM_ECC_LOG_BANK : Fld := ⟨MEM_ECC_LOG, 54, 48⟩
@[inline] def MEM_ECC_LOG_SYNDROME : Fld := ⟨MEM_ECC_LOG, 31, 24⟩
@[inline] def MEM_ECC_LOG_WORD : Fld := ⟨MEM_ECC_LOG, 15, 0⟩
/-- MEM_ECC_CNT. -/
@[inline] def MEM_ECC_CNT : Nat := 0x00201068
@[inline] def MEM_ECC_CNT_CE : Fld := ⟨MEM_ECC_CNT, 63, 48⟩
@[inline] def MEM_ECC_CNT_UE : Fld := ⟨MEM_ECC_CNT, 47, 32⟩
@[inline] def MEM_ECC_CNT_NOT_ON : Fld := ⟨MEM_ECC_CNT, 31, 16⟩
@[inline] def MEM_ECC_CNT_VAULT_DENY : Fld := ⟨MEM_ECC_CNT, 15, 0⟩
/-- MEM_SCRUB. -/
@[inline] def MEM_SCRUB : Nat := 0x00201070
@[inline] def MEM_SCRUB_SCRUB_LATE : Fld := ⟨MEM_SCRUB, 16, 16⟩
@[inline] def MEM_SCRUB_SCRUB_S : Fld := ⟨MEM_SCRUB, 7, 0⟩
/-- MEM_VAULT_CTL. -/
@[inline] def MEM_VAULT_CTL : Nat := 0x00201078
@[inline] def MEM_VAULT_CTL_WIPE : Fld := ⟨MEM_VAULT_CTL, 0, 0⟩
/-- MEM_VAULT_STAT. -/
@[inline] def MEM_VAULT_STAT : Nat := 0x00201080
@[inline] def MEM_VAULT_STAT_WIPES : Fld := ⟨MEM_VAULT_STAT, 63, 48⟩
@[inline] def MEM_VAULT_STAT_LAST_TRIG : Fld := ⟨MEM_VAULT_STAT, 7, 4⟩
@[inline] def MEM_VAULT_STAT_SEALED : Fld := ⟨MEM_VAULT_STAT, 2, 2⟩
@[inline] def MEM_VAULT_STAT_WIPED : Fld := ⟨MEM_VAULT_STAT, 1, 1⟩
@[inline] def MEM_VAULT_STAT_WIPING : Fld := ⟨MEM_VAULT_STAT, 0, 0⟩
/-- MEM_MARCH_STAT. -/
@[inline] def MEM_MARCH_STAT : Nat := 0x00201088
@[inline] def MEM_MARCH_STAT_BANK : Fld := ⟨MEM_MARCH_STAT, 55, 48⟩
@[inline] def MEM_MARCH_STAT_SEGMENT : Fld := ⟨MEM_MARCH_STAT, 47, 40⟩
@[inline] def MEM_MARCH_STAT_FAILS : Fld := ⟨MEM_MARCH_STAT, 31, 16⟩
@[inline] def MEM_MARCH_STAT_ALGO : Fld := ⟨MEM_MARCH_STAT, 3, 3⟩
@[inline] def MEM_MARCH_STAT_TRANSPARENT : Fld := ⟨MEM_MARCH_STAT, 2, 2⟩
@[inline] def MEM_MARCH_STAT_RUNNING : Fld := ⟨MEM_MARCH_STAT, 0, 0⟩
/-- HIC_PARTp_SLICE. -/
@[inline] def HIC_PARTp_SLICE (i : Nat) : Nat := 0x00301000 + 0x100 * i
@[inline] def HIC_PARTp_SLICE_LEN (i : Nat) : Fld := ⟨HIC_PARTp_SLICE i, 40, 32⟩
@[inline] def HIC_PARTp_SLICE_OFF (i : Nat) : Fld := ⟨HIC_PARTp_SLICE i, 7, 0⟩
/-- HIC_PARTp_CTL. -/
@[inline] def HIC_PARTp_CTL (i : Nat) : Nat := 0x00301008 + 0x100 * i
@[inline] def HIC_PARTp_CTL_WD_CYC (i : Nat) : Fld := ⟨HIC_PARTp_CTL i, 47, 32⟩
@[inline] def HIC_PARTp_CTL_WD_ACT (i : Nat) : Fld := ⟨HIC_PARTp_CTL i, 17, 16⟩
@[inline] def HIC_PARTp_CTL_TX_PCP_MAX (i : Nat) : Fld := ⟨HIC_PARTp_CTL i, 10, 8⟩
@[inline] def HIC_PARTp_CTL_GRP_EN (i : Nat) : Fld := ⟨HIC_PARTp_CTL i, 3, 3⟩
@[inline] def HIC_PARTp_CTL_MODE_EN (i : Nat) : Fld := ⟨HIC_PARTp_CTL i, 2, 2⟩
@[inline] def HIC_PARTp_CTL_NOTE_EN (i : Nat) : Fld := ⟨HIC_PARTp_CTL i, 1, 1⟩
/-- HIC_PARTp_COMMIT. -/
@[inline] def HIC_PARTp_COMMIT (i : Nat) : Nat := 0x00301010 + 0x100 * i
@[inline] def HIC_PARTp_COMMIT_HOST_LOST (i : Nat) : Fld := ⟨HIC_PARTp_COMMIT i, 2, 2⟩
@[inline] def HIC_PARTp_COMMIT_PENDING (i : Nat) : Fld := ⟨HIC_PARTp_COMMIT i, 1, 1⟩
@[inline] def HIC_PARTp_COMMIT_COMMIT (i : Nat) : Fld := ⟨HIC_PARTp_COMMIT i, 0, 0⟩
/-- HIC_PARTp_MAC. -/
@[inline] def HIC_PARTp_MAC (i : Nat) : Nat := 0x00301018 + 0x100 * i
@[inline] def HIC_PARTp_MAC_MAC (i : Nat) : Fld := ⟨HIC_PARTp_MAC i, 47, 0⟩
/-- HIC_PARTp_RXBASE. -/
@[inline] def HIC_PARTp_RXBASE (i : Nat) : Nat := 0x00301020 + 0x100 * i
@[inline] def HIC_PARTp_RXBASE_BASE (i : Nat) : Fld := ⟨HIC_PARTp_RXBASE i, 63, 4⟩
/-- HIC_PARTp_TXBASE. -/
@[inline] def HIC_PARTp_TXBASE (i : Nat) : Nat := 0x00301028 + 0x100 * i
@[inline] def HIC_PARTp_TXBASE_BASE (i : Nat) : Fld := ⟨HIC_PARTp_TXBASE i, 63, 4⟩
/-- HIC_PARTp_RING. -/
@[inline] def HIC_PARTp_RING (i : Nat) : Nat := 0x00301030 + 0x100 * i
@[inline] def HIC_PARTp_RING_RX_SIZE (i : Nat) : Fld := ⟨HIC_PARTp_RING i, 63, 60⟩
@[inline] def HIC_PARTp_RING_TX_SIZE (i : Nat) : Fld := ⟨HIC_PARTp_RING i, 59, 56⟩
@[inline] def HIC_PARTp_RING_TX_EN (i : Nat) : Fld := ⟨HIC_PARTp_RING i, 1, 1⟩
@[inline] def HIC_PARTp_RING_RX_EN (i : Nat) : Fld := ⟨HIC_PARTp_RING i, 0, 0⟩
/-- HIC_PARTp_IDX. -/
@[inline] def HIC_PARTp_IDX (i : Nat) : Nat := 0x00301038 + 0x100 * i
@[inline] def HIC_PARTp_IDX_RX_HEAD (i : Nat) : Fld := ⟨HIC_PARTp_IDX i, 63, 48⟩
@[inline] def HIC_PARTp_IDX_RX_TAIL (i : Nat) : Fld := ⟨HIC_PARTp_IDX i, 47, 32⟩
@[inline] def HIC_PARTp_IDX_TX_HEAD (i : Nat) : Fld := ⟨HIC_PARTp_IDX i, 31, 16⟩
@[inline] def HIC_PARTp_IDX_TX_TAIL (i : Nat) : Fld := ⟨HIC_PARTp_IDX i, 15, 0⟩
/-- HIC_PARTp_IRQ. -/
@[inline] def HIC_PARTp_IRQ (i : Nat) : Nat := 0x00301040 + 0x100 * i
@[inline] def HIC_PARTp_IRQ_MASK (i : Nat) : Fld := ⟨HIC_PARTp_IRQ i, 44, 32⟩
@[inline] def HIC_PARTp_IRQ_PEND (i : Nat) : Fld := ⟨HIC_PARTp_IRQ i, 12, 0⟩
/-- HIC_PARTp_IVEC0. -/
@[inline] def HIC_PARTp_IVEC0 (i : Nat) : Nat := 0x00301048 + 0x100 * i
@[inline] def HIC_PARTp_IVEC0_VEC (i e : Nat) : Fld := ⟨HIC_PARTp_IVEC0 i, 8 * e + 5, 8 * e + 0⟩
/-- HIC_PARTp_IVEC1. -/
@[inline] def HIC_PARTp_IVEC1 (i : Nat) : Nat := 0x00301050 + 0x100 * i
@[inline] def HIC_PARTp_IVEC1_VEC (i e : Nat) : Fld := ⟨HIC_PARTp_IVEC1 i, 8 * e + 5, 8 * e + 0⟩
/-- HIC_PARTp_CNT. -/
@[inline] def HIC_PARTp_CNT (i : Nat) : Nat := 0x00301058 + 0x100 * i
@[inline] def HIC_PARTp_CNT_DISCARDS (i : Nat) : Fld := ⟨HIC_PARTp_CNT i, 63, 48⟩
@[inline] def HIC_PARTp_CNT_RX_DROP (i : Nat) : Fld := ⟨HIC_PARTp_CNT i, 47, 40⟩
@[inline] def HIC_PARTp_CNT_TX_SPOOF (i : Nat) : Fld := ⟨HIC_PARTp_CNT i, 39, 32⟩
@[inline] def HIC_PARTp_CNT_TX_LEN (i : Nat) : Fld := ⟨HIC_PARTp_CNT i, 31, 24⟩
@[inline] def HIC_PARTp_CNT_FW_DENY (i : Nat) : Fld := ⟨HIC_PARTp_CNT i, 15, 0⟩
/-- HIC_PARTp_DCP. -/
@[inline] def HIC_PARTp_DCP (i : Nat) : Nat := 0x00301060 + 0x100 * i
@[inline] def HIC_PARTp_DCP_PRST_BUSY (i : Nat) : Fld := ⟨HIC_PARTp_DCP i, 1, 1⟩
@[inline] def HIC_PARTp_DCP_PRST (i : Nat) : Fld := ⟨HIC_PARTp_DCP i, 0, 0⟩
/-- HIC_PARTp_SQq_BASE. -/
@[inline] def HIC_PARTp_SQq_BASE (i j : Nat) : Nat := 0x00301080 + 0x100 * i + 0x20 * j
@[inline] def HIC_PARTp_SQq_BASE_BASE (i j : Nat) : Fld := ⟨HIC_PARTp_SQq_BASE i j, 63, 5⟩
/-- HIC_PARTp_CQq_BASE. -/
@[inline] def HIC_PARTp_CQq_BASE (i j : Nat) : Nat := 0x00301088 + 0x100 * i + 0x20 * j
@[inline] def HIC_PARTp_CQq_BASE_BASE (i j : Nat) : Fld := ⟨HIC_PARTp_CQq_BASE i j, 63, 4⟩
/-- HIC_PARTp_Qq_CTL. -/
@[inline] def HIC_PARTp_Qq_CTL (i j : Nat) : Nat := 0x00301090 + 0x100 * i + 0x20 * j
@[inline] def HIC_PARTp_Qq_CTL_SIZE (i j : Nat) : Fld := ⟨HIC_PARTp_Qq_CTL i j, 63, 60⟩
@[inline] def HIC_PARTp_Qq_CTL_TMO (i j : Nat) : Fld := ⟨HIC_PARTp_Qq_CTL i j, 47, 32⟩
@[inline] def HIC_PARTp_Qq_CTL_LAST_SEQ (i j : Nat) : Fld := ⟨HIC_PARTp_Qq_CTL i j, 31, 16⟩
@[inline] def HIC_PARTp_Qq_CTL_SEQ_VALID (i j : Nat) : Fld := ⟨HIC_PARTp_Qq_CTL i j, 15, 15⟩
@[inline] def HIC_PARTp_Qq_CTL_LAST_OK (i j : Nat) : Fld := ⟨HIC_PARTp_Qq_CTL i j, 14, 14⟩
@[inline] def HIC_PARTp_Qq_CTL_FAULT (i j : Nat) : Fld := ⟨HIC_PARTp_Qq_CTL i j, 1, 1⟩
@[inline] def HIC_PARTp_Qq_CTL_EN (i j : Nat) : Fld := ⟨HIC_PARTp_Qq_CTL i j, 0, 0⟩
/-- HIC_PARTp_Qq_IDX. -/
@[inline] def HIC_PARTp_Qq_IDX (i j : Nat) : Nat := 0x00301098 + 0x100 * i + 0x20 * j
@[inline] def HIC_PARTp_Qq_IDX_SQ_HEAD (i j : Nat) : Fld := ⟨HIC_PARTp_Qq_IDX i j, 63, 48⟩
@[inline] def HIC_PARTp_Qq_IDX_SQ_TAIL (i j : Nat) : Fld := ⟨HIC_PARTp_Qq_IDX i j, 47, 32⟩
@[inline] def HIC_PARTp_Qq_IDX_CQ_TAIL (i j : Nat) : Fld := ⟨HIC_PARTp_Qq_IDX i j, 31, 16⟩
@[inline] def HIC_PARTp_Qq_IDX_CQ_HEAD (i j : Nat) : Fld := ⟨HIC_PARTp_Qq_IDX i j, 15, 0⟩
/-- HIC_FWw_BASE. -/
@[inline] def HIC_FWw_BASE (i : Nat) : Nat := 0x00302000 + 0x10 * i
@[inline] def HIC_FWw_BASE_EN (i : Nat) : Fld := ⟨HIC_FWw_BASE i, 63, 63⟩
@[inline] def HIC_FWw_BASE_SPACE (i : Nat) : Fld := ⟨HIC_FWw_BASE i, 62, 62⟩
@[inline] def HIC_FWw_BASE_BASE (i : Nat) : Fld := ⟨HIC_FWw_BASE i, 31, 3⟩
/-- HIC_FWw_LIM. -/
@[inline] def HIC_FWw_LIM (i : Nat) : Nat := 0x00302008 + 0x10 * i
@[inline] def HIC_FWw_LIM_RD (i : Nat) : Fld := ⟨HIC_FWw_LIM i, 63, 58⟩
@[inline] def HIC_FWw_LIM_WR (i : Nat) : Fld := ⟨HIC_FWw_LIM i, 57, 52⟩
@[inline] def HIC_FWw_LIM_LIMIT (i : Nat) : Fld := ⟨HIC_FWw_LIM i, 31, 3⟩
/-- HIC_STAT. -/
@[inline] def HIC_STAT : Nat := 0x00303000
@[inline] def HIC_STAT_HP_NOMATCH : Fld := ⟨HIC_STAT, 63, 48⟩
@[inline] def HIC_STAT_DENY_SPACE : Fld := ⟨HIC_STAT, 40, 40⟩
@[inline] def HIC_STAT_DENY_PART : Fld := ⟨HIC_STAT, 39, 37⟩
@[inline] def HIC_STAT_DENY_WR : Fld := ⟨HIC_STAT, 36, 36⟩
@[inline] def HIC_STAT_VALID : Fld := ⟨HIC_STAT, 32, 32⟩
@[inline] def HIC_STAT_DENY_ADDR : Fld := ⟨HIC_STAT, 31, 0⟩
/-- MQF_MBm_CFG. -/
@[inline] def MQF_MBm_CFG (i : Nat) : Nat := 0x00401000 + 0x20 * i
@[inline] def MQF_MBm_CFG_EN (i : Nat) : Fld := ⟨MQF_MBm_CFG i, 63, 63⟩
@[inline] def MQF_MBm_CFG_SENDER (i : Nat) : Fld := ⟨MQF_MBm_CFG i, 55, 50⟩
@[inline] def MQF_MBm_CFG_RECEIVER (i : Nat) : Fld := ⟨MQF_MBm_CFG i, 49, 44⟩
@[inline] def MQF_MBm_CFG_DB_BIT (i : Nat) : Fld := ⟨MQF_MBm_CFG i, 43, 39⟩
@[inline] def MQF_MBm_CFG_ACK_DB_EN (i : Nat) : Fld := ⟨MQF_MBm_CFG i, 38, 38⟩
@[inline] def MQF_MBm_CFG_ACK_DB (i : Nat) : Fld := ⟨MQF_MBm_CFG i, 37, 33⟩
@[inline] def MQF_MBm_CFG_TMO (i : Nat) : Fld := ⟨MQF_MBm_CFG i, 19, 0⟩
/-- MQF_MBm_STAT. -/
@[inline] def MQF_MBm_STAT (i : Nat) : Nat := 0x00401008 + 0x20 * i
@[inline] def MQF_MBm_STAT_SENDER_EPOCH (i : Nat) : Fld := ⟨MQF_MBm_STAT i, 63, 48⟩
@[inline] def MQF_MBm_STAT_SEQ (i : Nat) : Fld := ⟨MQF_MBm_STAT i, 47, 32⟩
@[inline] def MQF_MBm_STAT_LEN (i : Nat) : Fld := ⟨MQF_MBm_STAT i, 31, 23⟩
@[inline] def MQF_MBm_STAT_REASON (i : Nat) : Fld := ⟨MQF_MBm_STAT i, 7, 6⟩
@[inline] def MQF_MBm_STAT_TIMEOUT (i : Nat) : Fld := ⟨MQF_MBm_STAT i, 5, 5⟩
@[inline] def MQF_MBm_STAT_COLLISION (i : Nat) : Fld := ⟨MQF_MBm_STAT i, 4, 4⟩
@[inline] def MQF_MBm_STAT_ACK_LATE (i : Nat) : Fld := ⟨MQF_MBm_STAT i, 3, 3⟩
@[inline] def MQF_MBm_STAT_FULL (i : Nat) : Fld := ⟨MQF_MBm_STAT i, 0, 0⟩
/-- MQF_MBm_ACK. -/
@[inline] def MQF_MBm_ACK (i : Nat) : Nat := 0x00401010 + 0x20 * i
@[inline] def MQF_MBm_ACK_EPOCH (i : Nat) : Fld := ⟨MQF_MBm_ACK i, 63, 48⟩
@[inline] def MQF_MBm_ACK_SEQ (i : Nat) : Fld := ⟨MQF_MBm_ACK i, 47, 32⟩
@[inline] def MQF_MBm_ACK_VALID (i : Nat) : Fld := ⟨MQF_MBm_ACK i, 16, 16⟩
@[inline] def MQF_MBm_ACK_CODE (i : Nat) : Fld := ⟨MQF_MBm_ACK i, 15, 0⟩
/-- MQF_MBm_CMD. -/
@[inline] def MQF_MBm_CMD (i : Nat) : Nat := 0x00401018 + 0x20 * i
@[inline] def MQF_MBm_CMD_POST (i : Nat) : Fld := ⟨MQF_MBm_CMD i, 63, 63⟩
@[inline] def MQF_MBm_CMD_LEN (i : Nat) : Fld := ⟨MQF_MBm_CMD i, 8, 0⟩
/-- MQF_DBa_PEND. -/
@[inline] def MQF_DBa_PEND (i : Nat) : Nat := 0x00402000 + 0x10 * i
@[inline] def MQF_DBa_PEND_PEND (i : Nat) : Fld := ⟨MQF_DBa_PEND i, 31, 0⟩
/-- MQF_DBa_MASK. -/
@[inline] def MQF_DBa_MASK (i : Nat) : Nat := 0x00402008 + 0x10 * i
@[inline] def MQF_DBa_MASK_MASK (i : Nat) : Fld := ⟨MQF_DBa_MASK i, 31, 0⟩
/-- MQF_SEMs. -/
@[inline] def MQF_SEMs (i : Nat) : Nat := 0x00403000 + 0x10 * i
@[inline] def MQF_SEMs_REL (i : Nat) : Fld := ⟨MQF_SEMs i, 63, 63⟩
@[inline] def MQF_SEMs_RESULT (i : Nat) : Fld := ⟨MQF_SEMs i, 15, 8⟩
@[inline] def MQF_SEMs_HOLDER (i : Nat) : Fld := ⟨MQF_SEMs i, 5, 0⟩
/-- MQF_SEMs_PEEK. -/
@[inline] def MQF_SEMs_PEEK (i : Nat) : Nat := 0x00403008 + 0x10 * i
@[inline] def MQF_SEMs_PEEK_HELD (i : Nat) : Fld := ⟨MQF_SEMs_PEEK i, 6, 6⟩
@[inline] def MQF_SEMs_PEEK_HOLDER (i : Nat) : Fld := ⟨MQF_SEMs_PEEK i, 5, 0⟩
/-- MQF_EPOCHa. -/
@[inline] def MQF_EPOCHa (i : Nat) : Nat := 0x00404000 + 0x8 * i
@[inline] def MQF_EPOCHa_EPOCH (i : Nat) : Fld := ⟨MQF_EPOCHa i, 15, 0⟩
/-- MQF_CNT. -/
@[inline] def MQF_CNT : Nat := 0x00405000
@[inline] def MQF_CNT_STALE_ACK : Fld := ⟨MQF_CNT, 63, 48⟩
@[inline] def MQF_CNT_COLLISIONS : Fld := ⟨MQF_CNT, 47, 32⟩
@[inline] def MQF_CNT_TIMEOUTS : Fld := ⟨MQF_CNT, 31, 16⟩
@[inline] def MQF_CNT_REL_DENIED : Fld := ⟨MQF_CNT, 15, 0⟩
/-- MQF_STAGING. -/
@[inline] def MQF_STAGING (i j : Nat) : Nat := 0x00410000 + 0x200 * i + 0x8 * j
@[inline] def MQF_STAGING_W (i j : Nat) : Fld := ⟨MQF_STAGING i j, 63, 0⟩
/-- MQF_MESSAGE. -/
@[inline] def MQF_MESSAGE (i j : Nat) : Nat := 0x00410100 + 0x200 * i + 0x8 * j
@[inline] def MQF_MESSAGE_W (i j : Nat) : Fld := ⟨MQF_MESSAGE i j, 63, 0⟩
/-- PQk_CFG. -/
@[inline] def PQk_CFG (i : Nat) : Nat := 0x00501000 + 0x40 * i
@[inline] def PQk_CFG_WRITER (i : Nat) : Fld := ⟨PQk_CFG i, 63, 58⟩
@[inline] def PQk_CFG_READER (i : Nat) : Fld := ⟨PQk_CFG i, 57, 52⟩
@[inline] def PQk_CFG_SIZE (i : Nat) : Fld := ⟨PQk_CFG i, 51, 47⟩
@[inline] def PQk_CFG_BASE (i : Nat) : Fld := ⟨PQk_CFG i, 31, 0⟩
/-- PQk_CTL. -/
@[inline] def PQk_CTL (i : Nat) : Nat := 0x00501008 + 0x40 * i
@[inline] def PQk_CTL_FLUSH (i : Nat) : Fld := ⟨PQk_CTL i, 3, 3⟩
@[inline] def PQk_CTL_REWIND (i : Nat) : Fld := ⟨PQk_CTL i, 2, 2⟩
@[inline] def PQk_CTL_COMMIT (i : Nat) : Fld := ⟨PQk_CTL i, 1, 1⟩
@[inline] def PQk_CTL_EN (i : Nat) : Fld := ⟨PQk_CTL i, 0, 0⟩
/-- PQk_STAT. -/
@[inline] def PQk_STAT (i : Nat) : Nat := 0x00501010 + 0x40 * i
@[inline] def PQk_STAT_GAP_COUNT (i : Nat) : Fld := ⟨PQk_STAT i, 63, 44⟩
@[inline] def PQk_STAT_OPEN_LEN (i : Nat) : Fld := ⟨PQk_STAT i, 43, 24⟩
@[inline] def PQk_STAT_DROPPING (i : Nat) : Fld := ⟨PQk_STAT i, 9, 9⟩
@[inline] def PQk_STAT_OPEN (i : Nat) : Fld := ⟨PQk_STAT i, 8, 8⟩
@[inline] def PQk_STAT_PENDING (i : Nat) : Fld := ⟨PQk_STAT i, 7, 7⟩
@[inline] def PQk_STAT_STATE (i : Nat) : Fld := ⟨PQk_STAT i, 2, 0⟩
/-- PQk_IDX. -/
@[inline] def PQk_IDX (i : Nat) : Nat := 0x00501018 + 0x40 * i
@[inline] def PQk_IDX_PUT (i : Nat) : Fld := ⟨PQk_IDX i, 63, 32⟩
@[inline] def PQk_IDX_GET (i : Nat) : Fld := ⟨PQk_IDX i, 31, 0⟩
/-- PQk_WR. -/
@[inline] def PQk_WR (i : Nat) : Nat := 0x00501020 + 0x40 * i
@[inline] def PQk_WR_COMMIT (i : Nat) : Fld := ⟨PQk_WR i, 63, 63⟩
@[inline] def PQk_WR_VB (i : Nat) : Fld := ⟨PQk_WR i, 33, 32⟩
@[inline] def PQk_WR_DATA (i : Nat) : Fld := ⟨PQk_WR i, 31, 0⟩
/-- PQk_RD0. -/
@[inline] def PQk_RD0 (i : Nat) : Nat := 0x00501028 + 0x40 * i
@[inline] def PQk_RD0_DATA (i : Nat) : Fld := ⟨PQk_RD0 i, 63, 0⟩
/-- PQk_RD1. -/
@[inline] def PQk_RD1 (i : Nat) : Nat := 0x00501030 + 0x40 * i
@[inline] def PQk_RD1_DATA (i : Nat) : Fld := ⟨PQk_RD1 i, 63, 0⟩
/-- PQk_CNT. -/
@[inline] def PQk_CNT (i : Nat) : Nat := 0x00501038 + 0x40 * i
@[inline] def PQk_CNT_DROPS (i : Nat) : Fld := ⟨PQk_CNT i, 63, 48⟩
@[inline] def PQk_CNT_REWINDS (i : Nat) : Fld := ⟨PQk_CNT i, 47, 32⟩
@[inline] def PQk_CNT_FLUSHES (i : Nat) : Fld := ⟨PQk_CNT i, 31, 16⟩
@[inline] def PQk_CNT_EMPTY_POP (i : Nat) : Fld := ⟨PQk_CNT i, 15, 0⟩
/-- PEA_Rn_CTL. -/
@[inline] def PEA_Rn_CTL (i : Nat) : Nat := 0x01000000 + 0x40000 * i
@[inline] def PEA_Rn_CTL_START (i : Nat) : Fld := ⟨PEA_Rn_CTL i, 47, 32⟩
@[inline] def PEA_Rn_CTL_BIND (i : Nat) : Fld := ⟨PEA_Rn_CTL i, 10, 8⟩
@[inline] def PEA_Rn_CTL_EN (i : Nat) : Fld := ⟨PEA_Rn_CTL i, 0, 0⟩
/-- PEA_Rn_STAT. -/
@[inline] def PEA_Rn_STAT (i : Nat) : Nat := 0x01000008 + 0x40000 * i
@[inline] def PEA_Rn_STAT_HALT_PC (i : Nat) : Fld := ⟨PEA_Rn_STAT i, 63, 48⟩
@[inline] def PEA_Rn_STAT_HALT_REASON (i : Nat) : Fld := ⟨PEA_Rn_STAT i, 41, 40⟩
@[inline] def PEA_Rn_STAT_HALT_CAUSE (i : Nat) : Fld := ⟨PEA_Rn_STAT i, 39, 32⟩
@[inline] def PEA_Rn_STAT_NET_UP (i : Nat) : Fld := ⟨PEA_Rn_STAT i, 10, 10⟩
@[inline] def PEA_Rn_STAT_LIO_ERR (i : Nat) : Fld := ⟨PEA_Rn_STAT i, 9, 9⟩
@[inline] def PEA_Rn_STAT_SPECA (i : Nat) : Fld := ⟨PEA_Rn_STAT i, 8, 8⟩
@[inline] def PEA_Rn_STAT_PENDING (i : Nat) : Fld := ⟨PEA_Rn_STAT i, 7, 7⟩
@[inline] def PEA_Rn_STAT_STATE (i : Nat) : Fld := ⟨PEA_Rn_STAT i, 2, 0⟩
/-- PEA_Rn_PIRD. -/
@[inline] def PEA_Rn_PIRD (i : Nat) : Nat := 0x01000010 + 0x40000 * i
@[inline] def PEA_Rn_PIRD_HI (i : Nat) : Fld := ⟨PEA_Rn_PIRD i, 53, 32⟩
@[inline] def PEA_Rn_PIRD_LO (i : Nat) : Fld := ⟨PEA_Rn_PIRD i, 21, 0⟩
/-- PEA_Rn_PIWR. -/
@[inline] def PEA_Rn_PIWR (i : Nat) : Nat := 0x01000018 + 0x40000 * i
@[inline] def PEA_Rn_PIWR_HI (i : Nat) : Fld := ⟨PEA_Rn_PIWR i, 53, 32⟩
@[inline] def PEA_Rn_PIWR_LO (i : Nat) : Fld := ⟨PEA_Rn_PIWR i, 21, 0⟩
/-- PEA_Rn_CNT. -/
@[inline] def PEA_Rn_CNT (i : Nat) : Nat := 0x01000020 + 0x40000 * i
@[inline] def PEA_Rn_CNT_COMMITS (i : Nat) : Fld := ⟨PEA_Rn_CNT i, 63, 48⟩
@[inline] def PEA_Rn_CNT_SQUASHES (i : Nat) : Fld := ⟨PEA_Rn_CNT i, 47, 32⟩
@[inline] def PEA_Rn_CNT_OVERFLOWS (i : Nat) : Fld := ⟨PEA_Rn_CNT i, 31, 24⟩
@[inline] def PEA_Rn_CNT_PI_LATE (i : Nat) : Fld := ⟨PEA_Rn_CNT i, 23, 16⟩
@[inline] def PEA_Rn_CNT_PARTIAL_ITEM (i : Nat) : Fld := ⟨PEA_Rn_CNT i, 15, 8⟩
@[inline] def PEA_Rn_CNT_TX_IGNORED (i : Nat) : Fld := ⟨PEA_Rn_CNT i, 7, 0⟩
/-- PEA_EPk_CTL. -/
@[inline] def PEA_EPk_CTL (i : Nat) : Nat := 0x01601000 + 0x80 * i
@[inline] def PEA_EPk_CTL_KEY_SRC (i : Nat) : Fld := ⟨PEA_EPk_CTL i, 1, 0⟩
/-- PEA_EPk_STAT. -/
@[inline] def PEA_EPk_STAT (i : Nat) : Nat := 0x01601008 + 0x80 * i
@[inline] def PEA_EPk_STAT_DISP_DROP (i : Nat) : Fld := ⟨PEA_EPk_STAT i, 63, 48⟩
@[inline] def PEA_EPk_STAT_BOUND (i : Nat) : Fld := ⟨PEA_EPk_STAT i, 23, 0⟩
/-- PEA_EPk_DISPj. -/
@[inline] def PEA_EPk_DISPj (i j : Nat) : Nat := 0x01601010 + 0x80 * i + 0x8 * j
@[inline] def PEA_EPk_DISPj_VALID (i j e : Nat) : Fld := ⟨PEA_EPk_DISPj i j, 8 * e + 7, 8 * e + 7⟩
@[inline] def PEA_EPk_DISPj_ENGINE (i j e : Nat) : Fld := ⟨PEA_EPk_DISPj i j, 8 * e + 4, 8 * e + 0⟩
/-- PEA_CMAP_IDX. -/
@[inline] def PEA_CMAP_IDX : Nat := 0x01602000
@[inline] def PEA_CMAP_IDX_INDEX : Fld := ⟨PEA_CMAP_IDX, 11, 0⟩
/-- PEA_CMAP_DATA. -/
@[inline] def PEA_CMAP_DATA : Nat := 0x01602008
@[inline] def PEA_CMAP_DATA_VALID : Fld := ⟨PEA_CMAP_DATA, 63, 63⟩
@[inline] def PEA_CMAP_DATA_DIR : Fld := ⟨PEA_CMAP_DATA, 62, 62⟩
@[inline] def PEA_CMAP_DATA_OWNER : Fld := ⟨PEA_CMAP_DATA, 61, 57⟩
@[inline] def PEA_CMAP_DATA_OFFSET : Fld := ⟨PEA_CMAP_DATA, 21, 5⟩
@[inline] def PEA_CMAP_DATA_LEN : Fld := ⟨PEA_CMAP_DATA, 4, 0⟩
/-- EPC_PORTp_CTL. -/
@[inline] def EPC_PORTp_CTL (i : Nat) : Nat := 0x02001000 + 0x40 * i
@[inline] def EPC_PORTp_CTL_ADD_FRAG_SIZE (i : Nat) : Fld := ⟨EPC_PORTp_CTL i, 33, 32⟩
@[inline] def EPC_PORTp_CTL_MAX_LEN (i : Nat) : Fld := ⟨EPC_PORTp_CTL i, 31, 16⟩
@[inline] def EPC_PORTp_CTL_STEP_EN (i : Nat) : Fld := ⟨EPC_PORTp_CTL i, 12, 12⟩
@[inline] def EPC_PORTp_CTL_PREEMPT_EN (i : Nat) : Fld := ⟨EPC_PORTp_CTL i, 11, 11⟩
@[inline] def EPC_PORTp_CTL_PAUSE_EN (i : Nat) : Fld := ⟨EPC_PORTp_CTL i, 10, 10⟩
@[inline] def EPC_PORTp_CTL_AN_EN (i : Nat) : Fld := ⟨EPC_PORTp_CTL i, 9, 9⟩
@[inline] def EPC_PORTp_CTL_SPEED (i : Nat) : Fld := ⟨EPC_PORTp_CTL i, 7, 4⟩
@[inline] def EPC_PORTp_CTL_IF (i : Nat) : Fld := ⟨EPC_PORTp_CTL i, 3, 1⟩
@[inline] def EPC_PORTp_CTL_EN (i : Nat) : Fld := ⟨EPC_PORTp_CTL i, 0, 0⟩
/-- EPC_PORTp_STAT. -/
@[inline] def EPC_PORTp_STAT (i : Nat) : Nat := 0x02001008 + 0x40 * i
@[inline] def EPC_PORTp_STAT_STEPS (i : Nat) : Fld := ⟨EPC_PORTp_STAT i, 31, 24⟩
@[inline] def EPC_PORTp_STAT_CUR_SPEED (i : Nat) : Fld := ⟨EPC_PORTp_STAT i, 23, 20⟩
@[inline] def EPC_PORTp_STAT_PAUSED (i : Nat) : Fld := ⟨EPC_PORTp_STAT i, 16, 16⟩
@[inline] def EPC_PORTp_STAT_NEG_FAIL (i : Nat) : Fld := ⟨EPC_PORTp_STAT i, 8, 8⟩
@[inline] def EPC_PORTp_STAT_PENDING (i : Nat) : Fld := ⟨EPC_PORTp_STAT i, 7, 7⟩
@[inline] def EPC_PORTp_STAT_STATE (i : Nat) : Fld := ⟨EPC_PORTp_STAT i, 2, 0⟩
/-- EPC_PORTp_TXTHR. -/
@[inline] def EPC_PORTp_TXTHR (i : Nat) : Nat := 0x02001010 + 0x40 * i
@[inline] def EPC_PORTp_TXTHR_THR (i : Nat) : Fld := ⟨EPC_PORTp_TXTHR i, 7, 0⟩
/-- EPC_PORTp_CNT. -/
@[inline] def EPC_PORTp_CNT (i : Nat) : Nat := 0x02001018 + 0x40 * i
@[inline] def EPC_PORTp_CNT_LINK_DOWN (i : Nat) : Fld := ⟨EPC_PORTp_CNT i, 63, 56⟩
@[inline] def EPC_PORTp_CNT_TX_PAUSED (i : Nat) : Fld := ⟨EPC_PORTp_CNT i, 55, 48⟩
@[inline] def EPC_PORTp_CNT_TX_UNDERRUN (i : Nat) : Fld := ⟨EPC_PORTp_CNT i, 47, 40⟩
@[inline] def EPC_PORTp_CNT_RX_CTRL_DROP (i : Nat) : Fld := ⟨EPC_PORTp_CNT i, 39, 32⟩
@[inline] def EPC_PORTp_CNT_RX_OVERSIZE (i : Nat) : Fld := ⟨EPC_PORTp_CNT i, 31, 24⟩
@[inline] def EPC_PORTp_CNT_RX_RUNT (i : Nat) : Fld := ⟨EPC_PORTp_CNT i, 23, 16⟩
@[inline] def EPC_PORTp_CNT_RX_CODE_ERR (i : Nat) : Fld := ⟨EPC_PORTp_CNT i, 15, 8⟩
@[inline] def EPC_PORTp_CNT_RX_FCS_ERR (i : Nat) : Fld := ⟨EPC_PORTp_CNT i, 7, 0⟩
/-- SWC_GEN_CTL. -/
@[inline] def SWC_GEN_CTL : Nat := 0x02101000
@[inline] def SWC_GEN_CTL_AGE_S : Fld := ⟨SWC_GEN_CTL, 47, 32⟩
@[inline] def SWC_GEN_CTL_ABORT : Fld := ⟨SWC_GEN_CTL, 2, 2⟩
@[inline] def SWC_GEN_CTL_COMMIT : Fld := ⟨SWC_GEN_CTL, 1, 1⟩
/-- SWC_GEN_STAT. -/
@[inline] def SWC_GEN_STAT : Nat := 0x02101008
@[inline] def SWC_GEN_STAT_GEN : Fld := ⟨SWC_GEN_STAT, 63, 48⟩
@[inline] def SWC_GEN_STAT_STAGED : Fld := ⟨SWC_GEN_STAT, 47, 40⟩
@[inline] def SWC_GEN_STAT_FAIL_INDEX : Fld := ⟨SWC_GEN_STAT, 37, 32⟩
@[inline] def SWC_GEN_STAT_RESULT : Fld := ⟨SWC_GEN_STAT, 31, 28⟩
@[inline] def SWC_GEN_STAT_HOLD_WAIT : Fld := ⟨SWC_GEN_STAT, 3, 3⟩
@[inline] def SWC_GEN_STAT_BUSY : Fld := ⟨SWC_GEN_STAT, 2, 2⟩
@[inline] def SWC_GEN_STAT_DONE : Fld := ⟨SWC_GEN_STAT, 1, 1⟩
@[inline] def SWC_GEN_STAT_FAIL : Fld := ⟨SWC_GEN_STAT, 0, 0⟩
/-- SWC_UPD_OP. -/
@[inline] def SWC_UPD_OP : Nat := 0x02101010
@[inline] def SWC_UPD_OP_TABLE : Fld := ⟨SWC_UPD_OP, 63, 60⟩
@[inline] def SWC_UPD_OP_OP : Fld := ⟨SWC_UPD_OP, 59, 56⟩
@[inline] def SWC_UPD_OP_INDEX : Fld := ⟨SWC_UPD_OP, 13, 0⟩
/-- SWC_UPD_DATAk. -/
@[inline] def SWC_UPD_DATAk (i : Nat) : Nat := 0x02101018 + 0x8 * i
@[inline] def SWC_UPD_DATAk_DATA (i : Nat) : Fld := ⟨SWC_UPD_DATAk i, 63, 0⟩
/-- SWC_BUF_RESV. -/
@[inline] def SWC_BUF_RESV : Nat := 0x02101100
@[inline] def SWC_BUF_RESV_RESV (e : Nat) : Fld := ⟨SWC_BUF_RESV, 8 * e + 7, 8 * e + 0⟩
/-- SWC_BUF_STAT. -/
@[inline] def SWC_BUF_STAT : Nat := 0x02101108
@[inline] def SWC_BUF_STAT_FREE : Fld := ⟨SWC_BUF_STAT, 63, 48⟩
@[inline] def SWC_BUF_STAT_LOW_WATER : Fld := ⟨SWC_BUF_STAT, 47, 32⟩
@[inline] def SWC_BUF_STAT_ECC_CORR : Fld := ⟨SWC_BUF_STAT, 31, 16⟩
/-- SWC_CNT0. -/
@[inline] def SWC_CNT0 : Nat := 0x02101110
@[inline] def SWC_CNT0_STOMPED : Fld := ⟨SWC_CNT0, 63, 48⟩
@[inline] def SWC_CNT0_BUF_ECC : Fld := ⟨SWC_CNT0, 47, 32⟩
@[inline] def SWC_CNT0_UNKNOWN_DROP : Fld := ⟨SWC_CNT0, 31, 16⟩
@[inline] def SWC_CNT0_TCAM_DROP : Fld := ⟨SWC_CNT0, 15, 0⟩
/-- SWC_CNT1. -/
@[inline] def SWC_CNT1 : Nat := 0x02101118
@[inline] def SWC_CNT1_QCI_SDU : Fld := ⟨SWC_CNT1, 63, 48⟩
@[inline] def SWC_CNT1_QCI_GATE : Fld := ⟨SWC_CNT1, 47, 32⟩
@[inline] def SWC_CNT1_METER_RED : Fld := ⟨SWC_CNT1, 31, 16⟩
@[inline] def SWC_CNT1_FRER_ELIM : Fld := ⟨SWC_CNT1, 15, 0⟩
/-- SWC_MIR_CTL. -/
@[inline] def SWC_MIR_CTL : Nat := 0x02101200
@[inline] def SWC_MIR_CTL_IN_MASK : Fld := ⟨SWC_MIR_CTL, 63, 48⟩
@[inline] def SWC_MIR_CTL_EG_MASK : Fld := ⟨SWC_MIR_CTL, 47, 32⟩
@[inline] def SWC_MIR_CTL_SERVICE : Fld := ⟨SWC_MIR_CTL, 2, 2⟩
@[inline] def SWC_MIR_CTL_DROPS : Fld := ⟨SWC_MIR_CTL, 1, 1⟩
@[inline] def SWC_MIR_CTL_EN : Fld := ⟨SWC_MIR_CTL, 0, 0⟩
/-- SWC_MIR_BASE. -/
@[inline] def SWC_MIR_BASE : Nat := 0x02101208
@[inline] def SWC_MIR_BASE_BASE : Fld := ⟨SWC_MIR_BASE, 31, 0⟩
/-- SWC_MIR_PROD. -/
@[inline] def SWC_MIR_PROD : Nat := 0x02101210
@[inline] def SWC_MIR_PROD_COUNT : Fld := ⟨SWC_MIR_PROD, 31, 0⟩
/-- SWC_MIR_CONS. -/
@[inline] def SWC_MIR_CONS : Nat := 0x02101218
@[inline] def SWC_MIR_CONS_COUNT : Fld := ⟨SWC_MIR_CONS, 31, 0⟩
/-- SWC_MIR_STAT. -/
@[inline] def SWC_MIR_STAT : Nat := 0x02101220
@[inline] def SWC_MIR_STAT_LOST : Fld := ⟨SWC_MIR_STAT, 63, 48⟩
@[inline] def SWC_MIR_STAT_FULL : Fld := ⟨SWC_MIR_STAT, 0, 0⟩
/-- SWC_TCAM_CFG. -/
@[inline] def SWC_TCAM_CFG : Nat := 0x02101300
@[inline] def SWC_TCAM_CFG_P_OFFSET : Fld := ⟨SWC_TCAM_CFG, 7, 0⟩
/-- SWC_PORTp_CTL. -/
@[inline] def SWC_PORTp_CTL (i : Nat) : Nat := 0x02104000 + 0x100 * i
@[inline] def SWC_PORTp_CTL_FLOOD (i : Nat) : Fld := ⟨SWC_PORTp_CTL i, 63, 48⟩
@[inline] def SWC_PORTp_CTL_IN_LIM (i : Nat) : Fld := ⟨SWC_PORTp_CTL i, 47, 40⟩
@[inline] def SWC_PORTp_CTL_PVID (i : Nat) : Fld := ⟨SWC_PORTp_CTL i, 39, 28⟩
@[inline] def SWC_PORTp_CTL_DEF_PCP (i : Nat) : Fld := ⟨SWC_PORTp_CTL i, 26, 24⟩
@[inline] def SWC_PORTp_CTL_LEARN_EN (i : Nat) : Fld := ⟨SWC_PORTp_CTL i, 1, 1⟩
@[inline] def SWC_PORTp_CTL_CT_EN (i : Nat) : Fld := ⟨SWC_PORTp_CTL i, 0, 0⟩
/-- SWC_PORTp_PCPMAP. -/
@[inline] def SWC_PORTp_PCPMAP (i : Nat) : Nat := 0x02104008 + 0x100 * i
@[inline] def SWC_PORTp_PCPMAP_MAP (i : Nat) : Fld := ⟨SWC_PORTp_PCPMAP i, 31, 0⟩
/-- SWC_PORTp_MAXSDU0. -/
@[inline] def SWC_PORTp_MAXSDU0 (i : Nat) : Nat := 0x02104010 + 0x100 * i
@[inline] def SWC_PORTp_MAXSDU0_SDU (i e : Nat) : Fld := ⟨SWC_PORTp_MAXSDU0 i, 16 * e + 15, 16 * e + 0⟩
/-- SWC_PORTp_MAXSDU1. -/
@[inline] def SWC_PORTp_MAXSDU1 (i : Nat) : Nat := 0x02104018 + 0x100 * i
@[inline] def SWC_PORTp_MAXSDU1_SDU (i e : Nat) : Fld := ⟨SWC_PORTp_MAXSDU1 i, 16 * e + 15, 16 * e + 0⟩
/-- SWC_PORTp_QLIM. -/
@[inline] def SWC_PORTp_QLIM (i : Nat) : Nat := 0x02104020 + 0x100 * i
@[inline] def SWC_PORTp_QLIM_LIM (i e : Nat) : Fld := ⟨SWC_PORTp_QLIM i, 8 * e + 7, 8 * e + 0⟩
/-- SWC_PORTp_QAV. -/
@[inline] def SWC_PORTp_QAV (i : Nat) : Nat := 0x02104028 + 0x100 * i
@[inline] def SWC_PORTp_QAV_IDLE5 (i : Nat) : Fld := ⟨SWC_PORTp_QAV i, 63, 32⟩
@[inline] def SWC_PORTp_QAV_IDLE4 (i : Nat) : Fld := ⟨SWC_PORTp_QAV i, 31, 0⟩
/-- SWC_PORTp_PRE. -/
@[inline] def SWC_PORTp_PRE (i : Nat) : Nat := 0x02104030 + 0x100 * i
@[inline] def SWC_PORTp_PRE_ACTIVE (i : Nat) : Fld := ⟨SWC_PORTp_PRE i, 9, 9⟩
@[inline] def SWC_PORTp_PRE_HOLD (i : Nat) : Fld := ⟨SWC_PORTp_PRE i, 8, 8⟩
@[inline] def SWC_PORTp_PRE_PREEMPTABLE (i : Nat) : Fld := ⟨SWC_PORTp_PRE i, 7, 0⟩
/-- SWC_PORTp_GCL_CTL. -/
@[inline] def SWC_PORTp_GCL_CTL (i : Nat) : Nat := 0x02104038 + 0x100 * i
@[inline] def SWC_PORTp_GCL_CTL_ACTIVE_LEN (i : Nat) : Fld := ⟨SWC_PORTp_GCL_CTL i, 58, 48⟩
@[inline] def SWC_PORTp_GCL_CTL_LEN (i : Nat) : Fld := ⟨SWC_PORTp_GCL_CTL i, 42, 32⟩
@[inline] def SWC_PORTp_GCL_CTL_ACTIVE_EN (i : Nat) : Fld := ⟨SWC_PORTp_GCL_CTL i, 4, 4⟩
@[inline] def SWC_PORTp_GCL_CTL_APPLY_REFUSED (i : Nat) : Fld := ⟨SWC_PORTp_GCL_CTL i, 3, 3⟩
@[inline] def SWC_PORTp_GCL_CTL_APPLY_PENDING (i : Nat) : Fld := ⟨SWC_PORTp_GCL_CTL i, 2, 2⟩
@[inline] def SWC_PORTp_GCL_CTL_APPLY (i : Nat) : Fld := ⟨SWC_PORTp_GCL_CTL i, 1, 1⟩
@[inline] def SWC_PORTp_GCL_CTL_EN (i : Nat) : Fld := ⟨SWC_PORTp_GCL_CTL i, 0, 0⟩
/-- SWC_PORTp_CNT. -/
@[inline] def SWC_PORTp_CNT (i : Nat) : Nat := 0x02104040 + 0x100 * i
@[inline] def SWC_PORTp_CNT_IN_DROP (i : Nat) : Fld := ⟨SWC_PORTp_CNT i, 63, 48⟩
@[inline] def SWC_PORTp_CNT_QLIM_DROP (i : Nat) : Fld := ⟨SWC_PORTp_CNT i, 47, 32⟩
@[inline] def SWC_PORTp_CNT_SDU_DROP (i : Nat) : Fld := ⟨SWC_PORTp_CNT i, 31, 16⟩
@[inline] def SWC_PORTp_CNT_GATE_STARVE (i : Nat) : Fld := ⟨SWC_PORTp_CNT i, 15, 0⟩
/-- SWC_GCLp. -/
@[inline] def SWC_GCLp (i j : Nat) : Nat := 0x02108000 + 0x2000 * i + 0x8 * j
@[inline] def SWC_GCLp_W (i j : Nat) : Fld := ⟨SWC_GCLp i j, 63, 0⟩
/-- NTU_LT_TRIM. -/
@[inline] def NTU_LT_TRIM : Nat := 0x02401000
@[inline] def NTU_LT_TRIM_LOCK : Fld := ⟨NTU_LT_TRIM, 63, 63⟩
@[inline] def NTU_LT_TRIM_TRIM : Fld := ⟨NTU_LT_TRIM, 31, 0⟩
/-- NTU_SNAP_CTL. -/
@[inline] def NTU_SNAP_CTL : Nat := 0x02401008
@[inline] def NTU_SNAP_CTL_TAKE : Fld := ⟨NTU_SNAP_CTL, 0, 0⟩
/-- NTU_SNAP_SEQ. -/
@[inline] def NTU_SNAP_SEQ : Nat := 0x02401010
@[inline] def NTU_SNAP_SEQ_VALUE : Fld := ⟨NTU_SNAP_SEQ, 63, 0⟩
/-- NTU_SNAP_LT. -/
@[inline] def NTU_SNAP_LT : Nat := 0x02401018
@[inline] def NTU_SNAP_LT_VALUE : Fld := ⟨NTU_SNAP_LT, 63, 0⟩
/-- NTU_SNAP_TDA. -/
@[inline] def NTU_SNAP_TDA : Nat := 0x02401020
@[inline] def NTU_SNAP_TDA_VALUE : Fld := ⟨NTU_SNAP_TDA, 63, 0⟩
/-- NTU_SNAP_TDB. -/
@[inline] def NTU_SNAP_TDB : Nat := 0x02401028
@[inline] def NTU_SNAP_TDB_VALUE : Fld := ⟨NTU_SNAP_TDB, 63, 0⟩
/-- NTU_SNAP_FRAC. -/
@[inline] def NTU_SNAP_FRAC : Nat := 0x02401030
@[inline] def NTU_SNAP_FRAC_TDB_FRAC : Fld := ⟨NTU_SNAP_FRAC, 47, 32⟩
@[inline] def NTU_SNAP_FRAC_TDA_FRAC : Fld := ⟨NTU_SNAP_FRAC, 31, 16⟩
@[inline] def NTU_SNAP_FRAC_LT_FRAC : Fld := ⟨NTU_SNAP_FRAC, 15, 0⟩
/-- NTU_TDx_CTL. -/
@[inline] def NTU_TDx_CTL (i : Nat) : Nat := 0x02401100 + 0x80 * i
@[inline] def NTU_TDx_CTL_PTP_DOMAIN (i : Nat) : Fld := ⟨NTU_TDx_CTL i, 63, 56⟩
@[inline] def NTU_TDx_CTL_KP_SHIFT (i : Nat) : Fld := ⟨NTU_TDx_CTL i, 55, 52⟩
@[inline] def NTU_TDx_CTL_KI_SHIFT (i : Nat) : Fld := ⟨NTU_TDx_CTL i, 51, 48⟩
@[inline] def NTU_TDx_CTL_HOLD_MS (i : Nat) : Fld := ⟨NTU_TDx_CTL i, 47, 32⟩
@[inline] def NTU_TDx_CTL_HOLD (i : Nat) : Fld := ⟨NTU_TDx_CTL i, 5, 5⟩
@[inline] def NTU_TDx_CTL_PROFILE (i : Nat) : Fld := ⟨NTU_TDx_CTL i, 4, 4⟩
@[inline] def NTU_TDx_CTL_STEP_EN (i : Nat) : Fld := ⟨NTU_TDx_CTL i, 1, 1⟩
@[inline] def NTU_TDx_CTL_EN (i : Nat) : Fld := ⟨NTU_TDx_CTL i, 0, 0⟩
/-- NTU_TDx_THR. -/
@[inline] def NTU_TDx_THR (i : Nat) : Nat := 0x02401108 + 0x80 * i
@[inline] def NTU_TDx_THR_STEP_THR (i : Nat) : Fld := ⟨NTU_TDx_THR i, 63, 32⟩
@[inline] def NTU_TDx_THR_LOCK_THR (i : Nat) : Fld := ⟨NTU_TDx_THR i, 31, 0⟩
/-- NTU_TDx_MEAS. -/
@[inline] def NTU_TDx_MEAS (i : Nat) : Nat := 0x02401110 + 0x80 * i
@[inline] def NTU_TDx_MEAS_ERR (i : Nat) : Fld := ⟨NTU_TDx_MEAS i, 63, 0⟩
/-- NTU_TDx_OFFSET. -/
@[inline] def NTU_TDx_OFFSET (i : Nat) : Nat := 0x02401118 + 0x80 * i
@[inline] def NTU_TDx_OFFSET_OFF (i : Nat) : Fld := ⟨NTU_TDx_OFFSET i, 63, 0⟩
/-- NTU_TDx_RATE. -/
@[inline] def NTU_TDx_RATE (i : Nat) : Nat := 0x02401120 + 0x80 * i
@[inline] def NTU_TDx_RATE_RATE (i : Nat) : Fld := ⟨NTU_TDx_RATE i, 31, 0⟩
/-- NTU_TDx_STAT. -/
@[inline] def NTU_TDx_STAT (i : Nat) : Nat := 0x02401128 + 0x80 * i
@[inline] def NTU_TDx_STAT_STEPS (i : Nat) : Fld := ⟨NTU_TDx_STAT i, 63, 48⟩
@[inline] def NTU_TDx_STAT_STEP_BLOCKED (i : Nat) : Fld := ⟨NTU_TDx_STAT i, 47, 40⟩
@[inline] def NTU_TDx_STAT_MEAS_OVERRUN (i : Nat) : Fld := ⟨NTU_TDx_STAT i, 39, 32⟩
@[inline] def NTU_TDx_STAT_LAST_ERR (i : Nat) : Fld := ⟨NTU_TDx_STAT i, 31, 8⟩
@[inline] def NTU_TDx_STAT_STATE (i : Nat) : Fld := ⟨NTU_TDx_STAT i, 2, 0⟩
/-- NTU_CAST_CTL. -/
@[inline] def NTU_CAST_CTL : Nat := 0x02401200
@[inline] def NTU_CAST_CTL_SLEW : Fld := ⟨NTU_CAST_CTL, 25, 16⟩
@[inline] def NTU_CAST_CTL_AUTO : Fld := ⟨NTU_CAST_CTL, 8, 8⟩
@[inline] def NTU_CAST_CTL_GO : Fld := ⟨NTU_CAST_CTL, 0, 0⟩
/-- NTU_CAST_STAT. -/
@[inline] def NTU_CAST_STAT : Nat := 0x02401208
@[inline] def NTU_CAST_STAT_REMAIN : Fld := ⟨NTU_CAST_STAT, 63, 32⟩
@[inline] def NTU_CAST_STAT_DONE : Fld := ⟨NTU_CAST_STAT, 3, 3⟩
@[inline] def NTU_CAST_STAT_REFUSED : Fld := ⟨NTU_CAST_STAT, 2, 2⟩
@[inline] def NTU_CAST_STAT_TARGET : Fld := ⟨NTU_CAST_STAT, 1, 1⟩
@[inline] def NTU_CAST_STAT_CASTLING : Fld := ⟨NTU_CAST_STAT, 0, 0⟩
/-- NTU_SYNCIN_CFG. -/
@[inline] def NTU_SYNCIN_CFG : Nat := 0x02401300
@[inline] def NTU_SYNCIN_CFG_FILT : Fld := ⟨NTU_SYNCIN_CFG, 7, 4⟩
@[inline] def NTU_SYNCIN_CFG_EDGE : Fld := ⟨NTU_SYNCIN_CFG, 0, 0⟩
/-- NTU_SYNCIN_TS. -/
@[inline] def NTU_SYNCIN_TS : Nat := 0x02401308
@[inline] def NTU_SYNCIN_TS_NS : Fld := ⟨NTU_SYNCIN_TS, 63, 1⟩
@[inline] def NTU_SYNCIN_TS_HALF : Fld := ⟨NTU_SYNCIN_TS, 0, 0⟩
/-- NTU_SYNCOUT_CFG. -/
@[inline] def NTU_SYNCOUT_CFG : Nat := 0x02401310
@[inline] def NTU_SYNCOUT_CFG_OFFSET : Fld := ⟨NTU_SYNCOUT_CFG, 63, 32⟩
@[inline] def NTU_SYNCOUT_CFG_WIDTH : Fld := ⟨NTU_SYNCOUT_CFG, 31, 8⟩
@[inline] def NTU_SYNCOUT_CFG_POL : Fld := ⟨NTU_SYNCOUT_CFG, 1, 1⟩
@[inline] def NTU_SYNCOUT_CFG_EN : Fld := ⟨NTU_SYNCOUT_CFG, 0, 0⟩
/-- NTU_PPS_CFG. -/
@[inline] def NTU_PPS_CFG : Nat := 0x02401318
@[inline] def NTU_PPS_CFG_OFFSET : Fld := ⟨NTU_PPS_CFG, 63, 32⟩
@[inline] def NTU_PPS_CFG_WIDTH : Fld := ⟨NTU_PPS_CFG, 31, 12⟩
@[inline] def NTU_PPS_CFG_SRC : Fld := ⟨NTU_PPS_CFG, 6, 4⟩
@[inline] def NTU_PPS_CFG_POL : Fld := ⟨NTU_PPS_CFG, 1, 1⟩
@[inline] def NTU_PPS_CFG_EN : Fld := ⟨NTU_PPS_CFG, 0, 0⟩
/-- NTU_PORTp_LAT. -/
@[inline] def NTU_PORTp_LAT (i : Nat) : Nat := 0x02402000 + 0x20 * i
@[inline] def NTU_PORTp_LAT_TX_LAT (i : Nat) : Fld := ⟨NTU_PORTp_LAT i, 63, 32⟩
@[inline] def NTU_PORTp_LAT_RX_LAT (i : Nat) : Fld := ⟨NTU_PORTp_LAT i, 31, 0⟩
/-- NTU_PORTp_ASYM. -/
@[inline] def NTU_PORTp_ASYM (i : Nat) : Nat := 0x02402008 + 0x20 * i
@[inline] def NTU_PORTp_ASYM_ASYM (i : Nat) : Fld := ⟨NTU_PORTp_ASYM i, 31, 0⟩
/-- NTU_PORTp_CFG. -/
@[inline] def NTU_PORTp_CFG (i : Nat) : Nat := 0x02402010 + 0x20 * i
@[inline] def NTU_PORTp_CFG_TS_DOMAIN (i : Nat) : Fld := ⟨NTU_PORTp_CFG i, 3, 3⟩
@[inline] def NTU_PORTp_CFG_ASYM_EN (i : Nat) : Fld := ⟨NTU_PORTp_CFG i, 2, 2⟩
@[inline] def NTU_PORTp_CFG_TC_EN (i : Nat) : Fld := ⟨NTU_PORTp_CFG i, 1, 1⟩
@[inline] def NTU_PORTp_CFG_ONESTEP_EN (i : Nat) : Fld := ⟨NTU_PORTp_CFG i, 0, 0⟩
/-- NTU_PORTp_STAT. -/
@[inline] def NTU_PORTp_STAT (i : Nat) : Nat := 0x02402018 + 0x20 * i
@[inline] def NTU_PORTp_STAT_CF_SAT (i : Nat) : Fld := ⟨NTU_PORTp_STAT i, 23, 16⟩
@[inline] def NTU_PORTp_STAT_ONESTEP_SKIP (i : Nat) : Fld := ⟨NTU_PORTp_STAT i, 15, 8⟩
@[inline] def NTU_PORTp_STAT_TXTS_OVF (i : Nat) : Fld := ⟨NTU_PORTp_STAT i, 7, 0⟩
/-- NTU_TXTSp_NS. -/
@[inline] def NTU_TXTSp_NS (i : Nat) : Nat := 0x02403000 + 0x10 * i
@[inline] def NTU_TXTSp_NS_NS (i : Nat) : Fld := ⟨NTU_TXTSp_NS i, 63, 0⟩
/-- NTU_TXTSp_POP. -/
@[inline] def NTU_TXTSp_POP (i : Nat) : Nat := 0x02403008 + 0x10 * i
@[inline] def NTU_TXTSp_POP_VALID (i : Nat) : Fld := ⟨NTU_TXTSp_POP i, 63, 63⟩
@[inline] def NTU_TXTSp_POP_TAG (i : Nat) : Fld := ⟨NTU_TXTSp_POP i, 47, 32⟩
@[inline] def NTU_TXTSp_POP_FRAC (i : Nat) : Fld := ⟨NTU_TXTSp_POP i, 15, 0⟩
/-- NTU_CYC_CTL. -/
@[inline] def NTU_CYC_CTL : Nat := 0x02410000
@[inline] def NTU_CYC_CTL_APPLY : Fld := ⟨NTU_CYC_CTL, 4, 4⟩
@[inline] def NTU_CYC_CTL_SRC : Fld := ⟨NTU_CYC_CTL, 3, 2⟩
@[inline] def NTU_CYC_CTL_PULL_EN : Fld := ⟨NTU_CYC_CTL, 1, 1⟩
@[inline] def NTU_CYC_CTL_RUN : Fld := ⟨NTU_CYC_CTL, 0, 0⟩
/-- NTU_CYC_LEN. -/
@[inline] def NTU_CYC_LEN : Nat := 0x02410008
@[inline] def NTU_CYC_LEN_LEN : Fld := ⟨NTU_CYC_LEN, 31, 0⟩
/-- NTU_CYC_PULL. -/
@[inline] def NTU_CYC_PULL : Nat := 0x02410010
@[inline] def NTU_CYC_PULL_SLEW_MAX : Fld := ⟨NTU_CYC_PULL, 7, 0⟩
/-- NTU_CYC_STAT. -/
@[inline] def NTU_CYC_STAT : Nat := 0x02410018
@[inline] def NTU_CYC_STAT_SYNC_OUTSIDE : Fld := ⟨NTU_CYC_STAT, 63, 48⟩
@[inline] def NTU_CYC_STAT_SYNC_EXTRA : Fld := ⟨NTU_CYC_STAT, 47, 40⟩
@[inline] def NTU_CYC_STAT_LOCKED : Fld := ⟨NTU_CYC_STAT, 35, 35⟩
@[inline] def NTU_CYC_STAT_NO_EDGE : Fld := ⟨NTU_CYC_STAT, 34, 34⟩
@[inline] def NTU_CYC_STAT_APPLY_REFUSED : Fld := ⟨NTU_CYC_STAT, 33, 33⟩
@[inline] def NTU_CYC_STAT_APPLY_PENDING : Fld := ⟨NTU_CYC_STAT, 32, 32⟩
@[inline] def NTU_CYC_STAT_LAST_ERR : Fld := ⟨NTU_CYC_STAT, 31, 0⟩
/-- NTU_CYC_COUNT. -/
@[inline] def NTU_CYC_COUNT : Nat := 0x02410020
@[inline] def NTU_CYC_COUNT_CYCLE : Fld := ⟨NTU_CYC_COUNT, 63, 0⟩
/-- NTU_CYC_PHASEn. -/
@[inline] def NTU_CYC_PHASEn (i : Nat) : Nat := 0x02410040 + 0x8 * i
@[inline] def NTU_CYC_PHASEn_OFFSET (i : Nat) : Fld := ⟨NTU_CYC_PHASEn i, 31, 0⟩
/-- CBC_SCHED_CTL. -/
@[inline] def CBC_SCHED_CTL : Nat := 0x02801000
@[inline] def CBC_SCHED_CTL_APPLY : Fld := ⟨CBC_SCHED_CTL, 0, 0⟩
/-- CBC_SCHED_STAT. -/
@[inline] def CBC_SCHED_STAT : Nat := 0x02801008
@[inline] def CBC_SCHED_STAT_SGEN : Fld := ⟨CBC_SCHED_STAT, 63, 48⟩
@[inline] def CBC_SCHED_STAT_REASON : Fld := ⟨CBC_SCHED_STAT, 47, 44⟩
@[inline] def CBC_SCHED_STAT_FAIL_INDEX : Fld := ⟨CBC_SCHED_STAT, 43, 32⟩
@[inline] def CBC_SCHED_STAT_NO_INDEX : Fld := ⟨CBC_SCHED_STAT, 3, 3⟩
@[inline] def CBC_SCHED_STAT_APPLY_REFUSED : Fld := ⟨CBC_SCHED_STAT, 2, 2⟩
@[inline] def CBC_SCHED_STAT_APPLY_PENDING : Fld := ⟨CBC_SCHED_STAT, 1, 1⟩
/-- CBC_SNAP_SEQ. -/
@[inline] def CBC_SNAP_SEQ : Nat := 0x02801010
@[inline] def CBC_SNAP_SEQ_SEQ : Fld := ⟨CBC_SNAP_SEQ, 63, 0⟩
/-- CBC_SEGs_CTL. -/
@[inline] def CBC_SEGs_CTL (i : Nat) : Nat := 0x02802000 + 0x100 * i
@[inline] def CBC_SEGs_CTL_APPLY_OFF (i : Nat) : Fld := ⟨CBC_SEGs_CTL i, 63, 40⟩
@[inline] def CBC_SEGs_CTL_STRIDE_M1 (i : Nat) : Fld := ⟨CBC_SEGs_CTL i, 39, 34⟩
@[inline] def CBC_SEGs_CTL_COUNT_M1 (i : Nat) : Fld := ⟨CBC_SEGs_CTL i, 33, 30⟩
@[inline] def CBC_SEGs_CTL_SUM_EN (i : Nat) : Fld := ⟨CBC_SEGs_CTL i, 29, 29⟩
@[inline] def CBC_SEGs_CTL_CSF_LOSS (i : Nat) : Fld := ⟨CBC_SEGs_CTL i, 23, 20⟩
@[inline] def CBC_SEGs_CTL_CORR_LIM (i : Nat) : Fld := ⟨CBC_SEGs_CTL i, 15, 8⟩
@[inline] def CBC_SEGs_CTL_EN (i : Nat) : Fld := ⟨CBC_SEGs_CTL i, 0, 0⟩
/-- CBC_SEGs_TIMING. -/
@[inline] def CBC_SEGs_TIMING (i : Nat) : Nat := 0x02802008 + 0x100 * i
@[inline] def CBC_SEGs_TIMING_T_LISTEN (i : Nat) : Fld := ⟨CBC_SEGs_TIMING i, 47, 32⟩
@[inline] def CBC_SEGs_TIMING_G (i : Nat) : Fld := ⟨CBC_SEGs_TIMING i, 23, 16⟩
@[inline] def CBC_SEGs_TIMING_W (i : Nat) : Fld := ⟨CBC_SEGs_TIMING i, 7, 0⟩
/-- CBC_SEGs_SYNC. -/
@[inline] def CBC_SEGs_SYNC (i : Nat) : Nat := 0x02802010 + 0x100 * i
@[inline] def CBC_SEGs_SYNC_STEER_LIM (i : Nat) : Fld := ⟨CBC_SEGs_SYNC i, 63, 56⟩
@[inline] def CBC_SEGs_SYNC_CORR_MAX (i : Nat) : Fld := ⟨CBC_SEGs_SYNC i, 55, 48⟩
@[inline] def CBC_SEGs_SYNC_RKI_SHIFT (i : Nat) : Fld := ⟨CBC_SEGs_SYNC i, 47, 44⟩
@[inline] def CBC_SEGs_SYNC_STEER (i : Nat) : Fld := ⟨CBC_SEGs_SYNC i, 43, 42⟩
@[inline] def CBC_SEGs_SYNC_MASTER_TK (i : Nat) : Fld := ⟨CBC_SEGs_SYNC i, 41, 41⟩
/-- CBC_SEGs_STAT. -/
@[inline] def CBC_SEGs_STAT (i : Nat) : Nat := 0x02802018 + 0x100 * i
@[inline] def CBC_SEGs_STAT_LAST_C (i : Nat) : Fld := ⟨CBC_SEGs_STAT i, 63, 40⟩
@[inline] def CBC_SEGs_STAT_NMEAS (i : Nat) : Fld := ⟨CBC_SEGs_STAT i, 39, 36⟩
@[inline] def CBC_SEGs_STAT_LINE_HOPS (i : Nat) : Fld := ⟨CBC_SEGs_STAT i, 35, 30⟩
@[inline] def CBC_SEGs_STAT_ACTIVE_MASTER (i : Nat) : Fld := ⟨CBC_SEGs_STAT i, 29, 25⟩
@[inline] def CBC_SEGs_STAT_FAIL (i : Nat) : Fld := ⟨CBC_SEGs_STAT i, 19, 16⟩
@[inline] def CBC_SEGs_STAT_PENDING (i : Nat) : Fld := ⟨CBC_SEGs_STAT i, 7, 7⟩
@[inline] def CBC_SEGs_STAT_STATE (i : Nat) : Fld := ⟨CBC_SEGs_STAT i, 2, 0⟩
/-- CBC_SEGs_ST. -/
@[inline] def CBC_SEGs_ST (i : Nat) : Nat := 0x02802020 + 0x100 * i
@[inline] def CBC_SEGs_ST_NS (i : Nat) : Fld := ⟨CBC_SEGs_ST i, 63, 0⟩
/-- CBC_SEGs_CNT0. -/
@[inline] def CBC_SEGs_CNT0 (i : Nat) : Nat := 0x02802028 + 0x100 * i
@[inline] def CBC_SEGs_CNT0_CRC_ERR (i : Nat) : Fld := ⟨CBC_SEGs_CNT0 i, 63, 48⟩
@[inline] def CBC_SEGs_CNT0_FMT_ERR (i : Nat) : Fld := ⟨CBC_SEGs_CNT0 i, 47, 32⟩
@[inline] def CBC_SEGs_CNT0_CODE_ERR (i : Nat) : Fld := ⟨CBC_SEGs_CNT0 i, 31, 16⟩
@[inline] def CBC_SEGs_CNT0_SLOT_MISS (i : Nat) : Fld := ⟨CBC_SEGs_CNT0 i, 15, 0⟩
/-- CBC_SEGs_CNT1. -/
@[inline] def CBC_SEGs_CNT1 (i : Nat) : Nat := 0x02802030 + 0x100 * i
@[inline] def CBC_SEGs_CNT1_SLOT_EARLY (i : Nat) : Fld := ⟨CBC_SEGs_CNT1 i, 63, 48⟩
@[inline] def CBC_SEGs_CNT1_SLOT_LATE (i : Nat) : Fld := ⟨CBC_SEGs_CNT1 i, 47, 32⟩
@[inline] def CBC_SEGs_CNT1_ADDR_CLASH (i : Nat) : Fld := ⟨CBC_SEGs_CNT1 i, 31, 16⟩
@[inline] def CBC_SEGs_CNT1_BABBLE (i : Nat) : Fld := ⟨CBC_SEGs_CNT1 i, 15, 0⟩
/-- CBC_SEGs_BABBLE. -/
@[inline] def CBC_SEGs_BABBLE (i : Nat) : Nat := 0x02802038 + 0x100 * i
@[inline] def CBC_SEGs_BABBLE_HOP (i : Nat) : Fld := ⟨CBC_SEGs_BABBLE i, 63, 56⟩
@[inline] def CBC_SEGs_BABBLE_TIME (i : Nat) : Fld := ⟨CBC_SEGs_BABBLE i, 47, 0⟩
/-- CBC_SEGs_NODES. -/
@[inline] def CBC_SEGs_NODES (i : Nat) : Nat := 0x02802040 + 0x100 * i
@[inline] def CBC_SEGs_NODES_REQUIRED (i : Nat) : Fld := ⟨CBC_SEGs_NODES i, 17, 1⟩
/-- CBC_SEGs_SLICEk. -/
@[inline] def CBC_SEGs_SLICEk (i j : Nat) : Nat := 0x02802080 + 0x100 * i + 0x8 * j
@[inline] def CBC_SEGs_SLICEk_EN (i j : Nat) : Fld := ⟨CBC_SEGs_SLICEk i j, 63, 63⟩
@[inline] def CBC_SEGs_SLICEk_SRC (i j : Nat) : Fld := ⟨CBC_SEGs_SLICEk i j, 62, 62⟩
@[inline] def CBC_SEGs_SLICEk_CONN (i j : Nat) : Fld := ⟨CBC_SEGs_SLICEk i j, 59, 48⟩
@[inline] def CBC_SEGs_SLICEk_PI_OFF (i j : Nat) : Fld := ⟨CBC_SEGs_SLICEk i j, 16, 0⟩
/-- CBC_SEGs_NODEi. -/
@[inline] def CBC_SEGs_NODEi (i j : Nat) : Nat := 0x02804000 + 0x100 * i + 0x8 * j
@[inline] def CBC_SEGs_NODEi_PRESENT (i j : Nat) : Fld := ⟨CBC_SEGs_NODEi i j, 63, 63⟩
@[inline] def CBC_SEGs_NODEi_REMOVED (i j : Nat) : Fld := ⟨CBC_SEGs_NODEi i j, 62, 62⟩
@[inline] def CBC_SEGs_NODEi_DUP (i j : Nat) : Fld := ⟨CBC_SEGs_NODEi i j, 61, 61⟩
@[inline] def CBC_SEGs_NODEi_NODE_ERR (i j : Nat) : Fld := ⟨CBC_SEGs_NODEi i j, 60, 60⟩
@[inline] def CBC_SEGs_NODEi_SAFE (i j : Nat) : Fld := ⟨CBC_SEGs_NODEi i j, 59, 59⟩
@[inline] def CBC_SEGs_NODEi_HOP (i j : Nat) : Fld := ⟨CBC_SEGs_NODEi i j, 58, 54⟩
@[inline] def CBC_SEGs_NODEi_CLASH_RUN (i j : Nat) : Fld := ⟨CBC_SEGs_NODEi i j, 53, 52⟩
@[inline] def CBC_SEGs_NODEi_LAST_DEV (i j : Nat) : Fld := ⟨CBC_SEGs_NODEi i j, 51, 36⟩
@[inline] def CBC_SEGs_NODEi_DELAY (i j : Nat) : Fld := ⟨CBC_SEGs_NODEi i j, 31, 0⟩
/-- CBC_SAFE. -/
@[inline] def CBC_SAFE (i j k : Nat) : Nat := 0x02810000 + 0x400 * i + 0x40 * j + 0x8 * k
@[inline] def CBC_SAFE_W (i j k : Nat) : Fld := ⟨CBC_SAFE i j k, 63, 0⟩
/-- CBC_SCHED_SHADOW. -/
@[inline] def CBC_SCHED_SHADOW (i j : Nat) : Nat := 0x02820000 + 0x10 * i + 0x8 * j
@[inline] def CBC_SCHED_SHADOW_W (i j : Nat) : Fld := ⟨CBC_SCHED_SHADOW i j, 63, 0⟩
/-- CBC_SCHED_ACTIVE. -/
@[inline] def CBC_SCHED_ACTIVE (i j : Nat) : Nat := 0x02830000 + 0x10 * i + 0x8 * j
@[inline] def CBC_SCHED_ACTIVE_W (i j : Nat) : Fld := ⟨CBC_SCHED_ACTIVE i j, 63, 0⟩
/-- CANn_CTL. -/
@[inline] def CANn_CTL (i : Nat) : Nat := 0x02900000 + 0x10000 * i
@[inline] def CANn_CTL_REC_REQ (i : Nat) : Fld := ⟨CANn_CTL i, 15, 15⟩
@[inline] def CANn_CTL_AUTO_REC (i : Nat) : Fld := ⟨CANn_CTL i, 14, 14⟩
@[inline] def CANn_CTL_ERRSIG_OFF (i : Nat) : Fld := ⟨CANn_CTL i, 13, 13⟩
@[inline] def CANn_CTL_LOM (i : Nat) : Fld := ⟨CANn_CTL i, 12, 12⟩
@[inline] def CANn_CTL_PXE (i : Nat) : Fld := ⟨CANn_CTL i, 11, 11⟩
@[inline] def CANn_CTL_XL_EN (i : Nat) : Fld := ⟨CANn_CTL i, 10, 10⟩
@[inline] def CANn_CTL_FD_EN (i : Nat) : Fld := ⟨CANn_CTL i, 9, 9⟩
@[inline] def CANn_CTL_EN (i : Nat) : Fld := ⟨CANn_CTL i, 0, 0⟩
/-- CANn_NBT. -/
@[inline] def CANn_NBT (i : Nat) : Nat := 0x02900008 + 0x10000 * i
@[inline] def CANn_NBT_NBRP (i : Nat) : Fld := ⟨CANn_NBT i, 37, 32⟩
@[inline] def CANn_NBT_NTSEG1 (i : Nat) : Fld := ⟨CANn_NBT i, 28, 20⟩
@[inline] def CANn_NBT_NTSEG2 (i : Nat) : Fld := ⟨CANn_NBT i, 15, 8⟩
@[inline] def CANn_NBT_NSJW (i : Nat) : Fld := ⟨CANn_NBT i, 7, 0⟩
/-- CANn_DBT. -/
@[inline] def CANn_DBT (i : Nat) : Nat := 0x02900010 + 0x10000 * i
@[inline] def CANn_DBT_PWMO (i : Nat) : Fld := ⟨CANn_DBT i, 61, 56⟩
@[inline] def CANn_DBT_PWML (i : Nat) : Fld := ⟨CANn_DBT i, 55, 50⟩
@[inline] def CANn_DBT_PWMS (i : Nat) : Fld := ⟨CANn_DBT i, 49, 44⟩
@[inline] def CANn_DBT_TMS_EN (i : Nat) : Fld := ⟨CANn_DBT i, 43, 43⟩
@[inline] def CANn_DBT_TDCO (i : Nat) : Fld := ⟨CANn_DBT i, 39, 33⟩
@[inline] def CANn_DBT_TDC_EN (i : Nat) : Fld := ⟨CANn_DBT i, 32, 32⟩
@[inline] def CANn_DBT_DBRP (i : Nat) : Fld := ⟨CANn_DBT i, 29, 24⟩
@[inline] def CANn_DBT_DTSEG1 (i : Nat) : Fld := ⟨CANn_DBT i, 21, 16⟩
@[inline] def CANn_DBT_DTSEG2 (i : Nat) : Fld := ⟨CANn_DBT i, 12, 8⟩
@[inline] def CANn_DBT_DSJW (i : Nat) : Fld := ⟨CANn_DBT i, 4, 0⟩
/-- CANn_STAT. -/
@[inline] def CANn_STAT (i : Nat) : Nat := 0x02900018 + 0x10000 * i
@[inline] def CANn_STAT_TEC (i : Nat) : Fld := ⟨CANn_STAT i, 40, 32⟩
@[inline] def CANn_STAT_REC (i : Nat) : Fld := ⟨CANn_STAT i, 31, 24⟩
@[inline] def CANn_STAT_LEC (i : Nat) : Fld := ⟨CANn_STAT i, 19, 17⟩
@[inline] def CANn_STAT_ERR_STATE (i : Nat) : Fld := ⟨CANn_STAT i, 9, 8⟩
@[inline] def CANn_STAT_PENDING (i : Nat) : Fld := ⟨CANn_STAT i, 7, 7⟩
@[inline] def CANn_STAT_STATE (i : Nat) : Fld := ⟨CANn_STAT i, 2, 0⟩
/-- CANn_MEM. -/
@[inline] def CANn_MEM (i : Nat) : Nat := 0x02900020 + 0x10000 * i
@[inline] def CANn_MEM_DSIZE1 (i : Nat) : Fld := ⟨CANn_MEM i, 35, 34⟩
@[inline] def CANn_MEM_DSIZE0 (i : Nat) : Fld := ⟨CANn_MEM i, 33, 32⟩
@[inline] def CANn_MEM_BASE (i : Nat) : Fld := ⟨CANn_MEM i, 31, 0⟩
/-- CANn_FLT. -/
@[inline] def CANn_FLT (i : Nat) : Nat := 0x02900028 + 0x10000 * i
@[inline] def CANn_FLT_FAIL_INDEX (i : Nat) : Fld := ⟨CANn_FLT i, 41, 32⟩
@[inline] def CANn_FLT_NOMATCH (i : Nat) : Fld := ⟨CANn_FLT i, 5, 4⟩
@[inline] def CANn_FLT_APPLY_REFUSED (i : Nat) : Fld := ⟨CANn_FLT i, 3, 3⟩
@[inline] def CANn_FLT_APPLY_PENDING (i : Nat) : Fld := ⟨CANn_FLT i, 2, 2⟩
@[inline] def CANn_FLT_ACTIVE (i : Nat) : Fld := ⟨CANn_FLT i, 1, 1⟩
@[inline] def CANn_FLT_APPLY (i : Nat) : Fld := ⟨CANn_FLT i, 0, 0⟩
/-- CANn_IDX. -/
@[inline] def CANn_IDX (i : Nat) : Nat := 0x02900030 + 0x10000 * i
@[inline] def CANn_IDX_TXEV_GET (i : Nat) : Fld := ⟨CANn_IDX i, 62, 56⟩
@[inline] def CANn_IDX_TXEV_PUT (i : Nat) : Fld := ⟨CANn_IDX i, 54, 48⟩
@[inline] def CANn_IDX_F1_GET (i : Nat) : Fld := ⟨CANn_IDX i, 46, 40⟩
@[inline] def CANn_IDX_F1_PUT (i : Nat) : Fld := ⟨CANn_IDX i, 38, 32⟩
@[inline] def CANn_IDX_F0_GET (i : Nat) : Fld := ⟨CANn_IDX i, 30, 24⟩
@[inline] def CANn_IDX_F0_PUT (i : Nat) : Fld := ⟨CANn_IDX i, 22, 16⟩
/-- CANn_TXQ. -/
@[inline] def CANn_TXQ (i : Nat) : Nat := 0x02900038 + 0x10000 * i
@[inline] def CANn_TXQ_CANCEL (i : Nat) : Fld := ⟨CANn_TXQ i, 63, 63⟩
@[inline] def CANn_TXQ_MASK (i : Nat) : Fld := ⟨CANn_TXQ i, 47, 32⟩
@[inline] def CANn_TXQ_TAG (i : Nat) : Fld := ⟨CANn_TXQ i, 31, 16⟩
@[inline] def CANn_TXQ_PUSH_RESULT (i : Nat) : Fld := ⟨CANn_TXQ i, 14, 12⟩
@[inline] def CANn_TXQ_HEAD_TX (i : Nat) : Fld := ⟨CANn_TXQ i, 8, 8⟩
@[inline] def CANn_TXQ_COUNT (i : Nat) : Fld := ⟨CANn_TXQ i, 6, 0⟩
/-- CANn_TXQ_W0. -/
@[inline] def CANn_TXQ_W0 (i : Nat) : Nat := 0x02900040 + 0x10000 * i
@[inline] def CANn_TXQ_W0_WORD (i : Nat) : Fld := ⟨CANn_TXQ_W0 i, 63, 0⟩
/-- CANn_TXQ_W1. -/
@[inline] def CANn_TXQ_W1 (i : Nat) : Nat := 0x02900048 + 0x10000 * i
@[inline] def CANn_TXQ_W1_WORD (i : Nat) : Fld := ⟨CANn_TXQ_W1 i, 63, 0⟩
/-- CANn_TXQ_W2. -/
@[inline] def CANn_TXQ_W2 (i : Nat) : Nat := 0x02900050 + 0x10000 * i
@[inline] def CANn_TXQ_W2_WORD (i : Nat) : Fld := ⟨CANn_TXQ_W2 i, 63, 0⟩
/-- CANn_CNT. -/
@[inline] def CANn_CNT (i : Nat) : Nat := 0x02900058 + 0x10000 * i
@[inline] def CANn_CNT_SUSP_ID_COLL (i : Nat) : Fld := ⟨CANn_CNT i, 63, 48⟩
@[inline] def CANn_CNT_LOST (i : Nat) : Fld := ⟨CANn_CNT i, 47, 32⟩
@[inline] def CANn_CNT_PI_DROP (i : Nat) : Fld := ⟨CANn_CNT i, 31, 16⟩
@[inline] def CANn_CNT_CYC_OVERRUN (i : Nat) : Fld := ⟨CANn_CNT i, 15, 0⟩
/-- CANn_SIDC. -/
@[inline] def CANn_SIDC (i : Nat) : Nat := 0x02900060 + 0x10000 * i
@[inline] def CANn_SIDC_FMT (i : Nat) : Fld := ⟨CANn_SIDC i, 61, 60⟩
@[inline] def CANn_SIDC_IDE (i : Nat) : Fld := ⟨CANn_SIDC i, 59, 59⟩
@[inline] def CANn_SIDC_ID (i : Nat) : Fld := ⟨CANn_SIDC i, 28, 0⟩
/-- CANn_CYCk. -/
@[inline] def CANn_CYCk (i j : Nat) : Nat := 0x02900100 + 0x10000 * i + 0x8 * j
@[inline] def CANn_CYCk_EN (i j : Nat) : Fld := ⟨CANn_CYCk i j, 63, 63⟩
@[inline] def CANn_CYCk_SRC (i j : Nat) : Fld := ⟨CANn_CYCk i j, 62, 62⟩
@[inline] def CANn_CYCk_PERIOD_M1 (i j : Nat) : Fld := ⟨CANn_CYCk i j, 61, 52⟩
@[inline] def CANn_CYCk_PI_OFF (i j : Nat) : Fld := ⟨CANn_CYCk i j, 48, 32⟩
@[inline] def CANn_CYCk_OFFSET (i j : Nat) : Fld := ⟨CANn_CYCk i j, 31, 0⟩
/-- CANn_PIMAPk. -/
@[inline] def CANn_PIMAPk (i j : Nat) : Nat := 0x02900200 + 0x10000 * i + 0x8 * j
@[inline] def CANn_PIMAPk_EN (i j : Nat) : Fld := ⟨CANn_PIMAPk i j, 63, 63⟩
@[inline] def CANn_PIMAPk_LEN_M1 (i j : Nat) : Fld := ⟨CANn_PIMAPk i j, 62, 58⟩
@[inline] def CANn_PIMAPk_CONN (i j : Nat) : Fld := ⟨CANn_PIMAPk i j, 57, 46⟩
@[inline] def CANn_PIMAPk_PI_OFF (i j : Nat) : Fld := ⟨CANn_PIMAPk i j, 16, 0⟩
/-- CANn_SNAP_STAT. -/
@[inline] def CANn_SNAP_STAT (i : Nat) : Nat := 0x02900400 + 0x10000 * i
@[inline] def CANn_SNAP_STAT_TEC (i : Nat) : Fld := ⟨CANn_SNAP_STAT i, 40, 32⟩
@[inline] def CANn_SNAP_STAT_REC (i : Nat) : Fld := ⟨CANn_SNAP_STAT i, 31, 24⟩
@[inline] def CANn_SNAP_STAT_LEC (i : Nat) : Fld := ⟨CANn_SNAP_STAT i, 19, 17⟩
@[inline] def CANn_SNAP_STAT_ERR_STATE (i : Nat) : Fld := ⟨CANn_SNAP_STAT i, 9, 8⟩
@[inline] def CANn_SNAP_STAT_PENDING (i : Nat) : Fld := ⟨CANn_SNAP_STAT i, 7, 7⟩
@[inline] def CANn_SNAP_STAT_STATE (i : Nat) : Fld := ⟨CANn_SNAP_STAT i, 2, 0⟩
/-- CANn_SNAP_IDX. -/
@[inline] def CANn_SNAP_IDX (i : Nat) : Nat := 0x02900408 + 0x10000 * i
@[inline] def CANn_SNAP_IDX_TXEV_GET (i : Nat) : Fld := ⟨CANn_SNAP_IDX i, 62, 56⟩
@[inline] def CANn_SNAP_IDX_TXEV_PUT (i : Nat) : Fld := ⟨CANn_SNAP_IDX i, 54, 48⟩
@[inline] def CANn_SNAP_IDX_F1_GET (i : Nat) : Fld := ⟨CANn_SNAP_IDX i, 46, 40⟩
@[inline] def CANn_SNAP_IDX_F1_PUT (i : Nat) : Fld := ⟨CANn_SNAP_IDX i, 38, 32⟩
@[inline] def CANn_SNAP_IDX_F0_GET (i : Nat) : Fld := ⟨CANn_SNAP_IDX i, 30, 24⟩
@[inline] def CANn_SNAP_IDX_F0_PUT (i : Nat) : Fld := ⟨CANn_SNAP_IDX i, 22, 16⟩
/-- CANn_SNAP_CNT. -/
@[inline] def CANn_SNAP_CNT (i : Nat) : Nat := 0x02900410 + 0x10000 * i
@[inline] def CANn_SNAP_CNT_SUSP_ID_COLL (i : Nat) : Fld := ⟨CANn_SNAP_CNT i, 63, 48⟩
@[inline] def CANn_SNAP_CNT_LOST (i : Nat) : Fld := ⟨CANn_SNAP_CNT i, 47, 32⟩
@[inline] def CANn_SNAP_CNT_PI_DROP (i : Nat) : Fld := ⟨CANn_SNAP_CNT i, 31, 16⟩
@[inline] def CANn_SNAP_CNT_CYC_OVERRUN (i : Nat) : Fld := ⟨CANn_SNAP_CNT i, 15, 0⟩
/-- CANB_SNAP_SEQ. -/
@[inline] def CANB_SNAP_SEQ : Nat := 0x02961000
@[inline] def CANB_SNAP_SEQ_SEQ : Fld := ⟨CANB_SNAP_SEQ, 63, 0⟩
/-- PIA_Gg_CTL. -/
@[inline] def PIA_Gg_CTL (i : Nat) : Nat := 0x02A01000 + 0x40 * i
@[inline] def PIA_Gg_CTL_DIVRST (i : Nat) : Fld := ⟨PIA_Gg_CTL i, 23, 16⟩
@[inline] def PIA_Gg_CTL_GO (i : Nat) : Fld := ⟨PIA_Gg_CTL i, 15, 8⟩
@[inline] def PIA_Gg_CTL_MODE (i : Nat) : Fld := ⟨PIA_Gg_CTL i, 0, 0⟩
/-- PIA_FLAG_SET. -/
@[inline] def PIA_FLAG_SET : Nat := 0x02A01100
@[inline] def PIA_FLAG_SET_FLAGS : Fld := ⟨PIA_FLAG_SET, 15, 0⟩
/-- PIA_FLAG_CLR. -/
@[inline] def PIA_FLAG_CLR : Nat := 0x02A01108
@[inline] def PIA_FLAG_CLR_FLAGS : Fld := ⟨PIA_FLAG_CLR, 15, 0⟩
/-- PIA_PIOi_CFG. -/
@[inline] def PIA_PIOi_CFG (i : Nat) : Nat := 0x02A02000 + 0x8 * i
@[inline] def PIA_PIOi_CFG_OWNED (i : Nat) : Fld := ⟨PIA_PIOi_CFG i, 15, 15⟩
@[inline] def PIA_PIOi_CFG_ENGINE (i : Nat) : Fld := ⟨PIA_PIOi_CFG i, 12, 8⟩
@[inline] def PIA_PIOi_CFG_IDLE (i : Nat) : Fld := ⟨PIA_PIOi_CFG i, 7, 6⟩
@[inline] def PIA_PIOi_CFG_PULL (i : Nat) : Fld := ⟨PIA_PIOi_CFG i, 5, 4⟩
@[inline] def PIA_PIOi_CFG_INV (i : Nat) : Fld := ⟨PIA_PIOi_CFG i, 3, 3⟩
/-- PIA_Pn_CTL. -/
@[inline] def PIA_Pn_CTL (i : Nat) : Nat := 0x02A04000 + 0x200 * i
@[inline] def PIA_Pn_CTL_HOLD (i : Nat) : Fld := ⟨PIA_Pn_CTL i, 7, 7⟩
@[inline] def PIA_Pn_CTL_EN (i : Nat) : Fld := ⟨PIA_Pn_CTL i, 0, 0⟩
/-- PIA_Pn_STAT. -/
@[inline] def PIA_Pn_STAT (i : Nat) : Nat := 0x02A04008 + 0x200 * i
@[inline] def PIA_Pn_STAT_FAULT_PC (i : Nat) : Fld := ⟨PIA_Pn_STAT i, 57, 52⟩
@[inline] def PIA_Pn_STAT_PC (i : Nat) : Fld := ⟨PIA_Pn_STAT i, 51, 46⟩
@[inline] def PIA_Pn_STAT_BANK (i : Nat) : Fld := ⟨PIA_Pn_STAT i, 45, 45⟩
@[inline] def PIA_Pn_STAT_WAITING (i : Nat) : Fld := ⟨PIA_Pn_STAT i, 44, 44⟩
@[inline] def PIA_Pn_STAT_TX_LEVEL (i : Nat) : Fld := ⟨PIA_Pn_STAT i, 43, 40⟩
@[inline] def PIA_Pn_STAT_RX_LEVEL (i : Nat) : Fld := ⟨PIA_Pn_STAT i, 39, 36⟩
@[inline] def PIA_Pn_STAT_TX_UNDER (i : Nat) : Fld := ⟨PIA_Pn_STAT i, 11, 11⟩
@[inline] def PIA_Pn_STAT_RX_OVER (i : Nat) : Fld := ⟨PIA_Pn_STAT i, 10, 10⟩
@[inline] def PIA_Pn_STAT_FAULT (i : Nat) : Fld := ⟨PIA_Pn_STAT i, 9, 9⟩
@[inline] def PIA_Pn_STAT_READY (i : Nat) : Fld := ⟨PIA_Pn_STAT i, 8, 8⟩
@[inline] def PIA_Pn_STAT_PENDING (i : Nat) : Fld := ⟨PIA_Pn_STAT i, 7, 7⟩
@[inline] def PIA_Pn_STAT_STATE (i : Nat) : Fld := ⟨PIA_Pn_STAT i, 2, 0⟩
/-- PIA_Pn_CLKDIV. -/
@[inline] def PIA_Pn_CLKDIV (i : Nat) : Nat := 0x02A04010 + 0x200 * i
@[inline] def PIA_Pn_CLKDIV_DEN (i : Nat) : Fld := ⟨PIA_Pn_CLKDIV i, 47, 32⟩
@[inline] def PIA_Pn_CLKDIV_NUM (i : Nat) : Fld := ⟨PIA_Pn_CLKDIV i, 15, 0⟩
/-- PIA_Pn_PINS. -/
@[inline] def PIA_Pn_PINS (i : Nat) : Nat := 0x02A04018 + 0x200 * i
@[inline] def PIA_Pn_PINS_IN_BASE (i : Nat) : Fld := ⟨PIA_Pn_PINS i, 26, 20⟩
@[inline] def PIA_Pn_PINS_OUT_BASE (i : Nat) : Fld := ⟨PIA_Pn_PINS i, 14, 8⟩
@[inline] def PIA_Pn_PINS_OUT_CNT (i : Nat) : Fld := ⟨PIA_Pn_PINS i, 3, 0⟩
/-- PIA_Pn_PROG. -/
@[inline] def PIA_Pn_PROG (i : Nat) : Nat := 0x02A04020 + 0x200 * i
@[inline] def PIA_Pn_PROG_ARM (i : Nat) : Fld := ⟨PIA_Pn_PROG i, 63, 63⟩
@[inline] def PIA_Pn_PROG_SWAP_NOW (i : Nat) : Fld := ⟨PIA_Pn_PROG i, 62, 62⟩
@[inline] def PIA_Pn_PROG_A_ENTRY (i : Nat) : Fld := ⟨PIA_Pn_PROG i, 55, 50⟩
@[inline] def PIA_Pn_PROG_A_WRAP_TOP (i : Nat) : Fld := ⟨PIA_Pn_PROG i, 49, 44⟩
@[inline] def PIA_Pn_PROG_A_WRAP_BOTTOM (i : Nat) : Fld := ⟨PIA_Pn_PROG i, 43, 38⟩
@[inline] def PIA_Pn_PROG_S_ENTRY (i : Nat) : Fld := ⟨PIA_Pn_PROG i, 23, 18⟩
@[inline] def PIA_Pn_PROG_S_WRAP_TOP (i : Nat) : Fld := ⟨PIA_Pn_PROG i, 17, 12⟩
@[inline] def PIA_Pn_PROG_S_WRAP_BOTTOM (i : Nat) : Fld := ⟨PIA_Pn_PROG i, 11, 6⟩
/-- PIA_Pn_TXF. -/
@[inline] def PIA_Pn_TXF (i : Nat) : Nat := 0x02A04028 + 0x200 * i
@[inline] def PIA_Pn_TXF_DATA (i : Nat) : Fld := ⟨PIA_Pn_TXF i, 31, 0⟩
/-- PIA_Pn_RXF. -/
@[inline] def PIA_Pn_RXF (i : Nat) : Nat := 0x02A04030 + 0x200 * i
@[inline] def PIA_Pn_RXF_VALID (i : Nat) : Fld := ⟨PIA_Pn_RXF i, 63, 63⟩
@[inline] def PIA_Pn_RXF_DATA (i : Nat) : Fld := ⟨PIA_Pn_RXF i, 31, 0⟩
/-- PIA_Pn_PIIN. -/
@[inline] def PIA_Pn_PIIN (i : Nat) : Nat := 0x02A04038 + 0x200 * i
@[inline] def PIA_Pn_PIIN_EN (i : Nat) : Fld := ⟨PIA_Pn_PIIN i, 63, 63⟩
@[inline] def PIA_Pn_PIIN_CONN (i : Nat) : Fld := ⟨PIA_Pn_PIIN i, 59, 48⟩
@[inline] def PIA_Pn_PIIN_LEN_M1 (i : Nat) : Fld := ⟨PIA_Pn_PIIN i, 43, 41⟩
@[inline] def PIA_Pn_PIIN_PI_OFF (i : Nat) : Fld := ⟨PIA_Pn_PIIN i, 16, 0⟩
/-- PIA_Pn_PIOUT. -/
@[inline] def PIA_Pn_PIOUT (i : Nat) : Nat := 0x02A04040 + 0x200 * i
@[inline] def PIA_Pn_PIOUT_EN (i : Nat) : Fld := ⟨PIA_Pn_PIOUT i, 63, 63⟩
@[inline] def PIA_Pn_PIOUT_SRC (i : Nat) : Fld := ⟨PIA_Pn_PIOUT i, 62, 61⟩
@[inline] def PIA_Pn_PIOUT_PERIOD_M1 (i : Nat) : Fld := ⟨PIA_Pn_PIOUT i, 60, 51⟩
@[inline] def PIA_Pn_PIOUT_LEN_M1 (i : Nat) : Fld := ⟨PIA_Pn_PIOUT i, 50, 48⟩
@[inline] def PIA_Pn_PIOUT_PI_OFF (i : Nat) : Fld := ⟨PIA_Pn_PIOUT i, 40, 24⟩
@[inline] def PIA_Pn_PIOUT_OFFSET (i : Nat) : Fld := ⟨PIA_Pn_PIOUT i, 22, 0⟩
/-- PIA_Pn_CNT. -/
@[inline] def PIA_Pn_CNT (i : Nat) : Nat := 0x02A04048 + 0x200 * i
@[inline] def PIA_Pn_CNT_PI_OVERRUN (i : Nat) : Fld := ⟨PIA_Pn_CNT i, 63, 48⟩
@[inline] def PIA_Pn_CNT_HOST_DROP (i : Nat) : Fld := ⟨PIA_Pn_CNT i, 47, 32⟩
@[inline] def PIA_Pn_CNT_SWAPS (i : Nat) : Fld := ⟨PIA_Pn_CNT i, 31, 16⟩
@[inline] def PIA_Pn_CNT_PI_DROP (i : Nat) : Fld := ⟨PIA_Pn_CNT i, 15, 0⟩
/-- PIA_SAFE. -/
@[inline] def PIA_SAFE (i j : Nat) : Nat := 0x02A04080 + 0x200 * i + 0x8 * j
@[inline] def PIA_SAFE_W (i j : Nat) : Fld := ⟨PIA_SAFE i j, 63, 0⟩
/-- PIA_SHADOW. -/
@[inline] def PIA_SHADOW (i j : Nat) : Nat := 0x02A04100 + 0x200 * i + 0x8 * j
@[inline] def PIA_SHADOW_W (i j : Nat) : Fld := ⟨PIA_SHADOW i j, 63, 0⟩
/-- PIA_ACTIVE. -/
@[inline] def PIA_ACTIVE (i j : Nat) : Nat := 0x02A04180 + 0x200 * i + 0x8 * j
@[inline] def PIA_ACTIVE_W (i j : Nat) : Fld := ⟨PIA_ACTIVE i j, 63, 0⟩
/-- ACE_BANK_CTL. -/
@[inline] def ACE_BANK_CTL : Nat := 0x03001000
@[inline] def ACE_BANK_CTL_COPY_AXIS : Fld := ⟨ACE_BANK_CTL, 13, 8⟩
@[inline] def ACE_BANK_CTL_COPY : Fld := ⟨ACE_BANK_CTL, 2, 2⟩
@[inline] def ACE_BANK_CTL_APPLY : Fld := ⟨ACE_BANK_CTL, 1, 1⟩
/-- ACE_BANK_STAT. -/
@[inline] def ACE_BANK_STAT : Nat := 0x03001008
@[inline] def ACE_BANK_STAT_BGEN : Fld := ⟨ACE_BANK_STAT, 63, 48⟩
@[inline] def ACE_BANK_STAT_FAIL_AXIS : Fld := ⟨ACE_BANK_STAT, 45, 40⟩
@[inline] def ACE_BANK_STAT_REASON : Fld := ⟨ACE_BANK_STAT, 39, 36⟩
@[inline] def ACE_BANK_STAT_COPY_DONE : Fld := ⟨ACE_BANK_STAT, 4, 4⟩
@[inline] def ACE_BANK_STAT_COPY_BUSY : Fld := ⟨ACE_BANK_STAT, 3, 3⟩
@[inline] def ACE_BANK_STAT_APPLY_REFUSED : Fld := ⟨ACE_BANK_STAT, 2, 2⟩
@[inline] def ACE_BANK_STAT_APPLY_PENDING : Fld := ⟨ACE_BANK_STAT, 1, 1⟩
@[inline] def ACE_BANK_STAT_APPLY_DONE : Fld := ⟨ACE_BANK_STAT, 0, 0⟩
/-- ACE_APPLY_MASK. -/
@[inline] def ACE_APPLY_MASK : Nat := 0x03001010
@[inline] def ACE_APPLY_MASK_VALUE : Fld := ⟨ACE_APPLY_MASK, 63, 0⟩
/-- ACE_SNAP_SEQ. -/
@[inline] def ACE_SNAP_SEQ : Nat := 0x03001018
@[inline] def ACE_SNAP_SEQ_VALUE : Fld := ⟨ACE_SNAP_SEQ, 63, 0⟩
/-- ACE_SNAP_EXTRAP. -/
@[inline] def ACE_SNAP_EXTRAP : Nat := 0x03001020
@[inline] def ACE_SNAP_EXTRAP_VALUE : Fld := ⟨ACE_SNAP_EXTRAP, 63, 0⟩
/-- ACE_SNAP_OUTLATE. -/
@[inline] def ACE_SNAP_OUTLATE : Nat := 0x03001028
@[inline] def ACE_SNAP_OUTLATE_VALUE : Fld := ⟨ACE_SNAP_OUTLATE, 63, 0⟩
/-- ACE_AXk_CFG. -/
@[inline] def ACE_AXk_CFG (i : Nat) : Nat := 0x03002000 + 0x80 * i
@[inline] def ACE_AXk_CFG_EN (i : Nat) : Fld := ⟨ACE_AXk_CFG i, 63, 63⟩
@[inline] def ACE_AXk_CFG_LANE (i : Nat) : Fld := ⟨ACE_AXk_CFG i, 62, 61⟩
@[inline] def ACE_AXk_CFG_FB_LSB (i : Nat) : Fld := ⟨ACE_AXk_CFG i, 60, 55⟩
@[inline] def ACE_AXk_CFG_FB_BITS (i : Nat) : Fld := ⟨ACE_AXk_CFG i, 54, 48⟩
@[inline] def ACE_AXk_CFG_FB_CONN (i : Nat) : Fld := ⟨ACE_AXk_CFG i, 47, 36⟩
@[inline] def ACE_AXk_CFG_FB_OFF (i : Nat) : Fld := ⟨ACE_AXk_CFG i, 16, 0⟩
/-- ACE_AXk_IO. -/
@[inline] def ACE_AXk_IO (i : Nat) : Nat := 0x03002008 + 0x80 * i
@[inline] def ACE_AXk_IO_RES_CONN (i : Nat) : Fld := ⟨ACE_AXk_IO i, 63, 52⟩
@[inline] def ACE_AXk_IO_RES_OFF (i : Nat) : Fld := ⟨ACE_AXk_IO i, 48, 32⟩
@[inline] def ACE_AXk_IO_SP_OFF (i : Nat) : Fld := ⟨ACE_AXk_IO i, 16, 0⟩
/-- ACE_AXk_TIME. -/
@[inline] def ACE_AXk_TIME (i : Nat) : Nat := 0x03002010 + 0x80 * i
@[inline] def ACE_AXk_TIME_EXTRAP_MAX (i : Nat) : Fld := ⟨ACE_AXk_TIME i, 63, 60⟩
@[inline] def ACE_AXk_TIME_DEADLINE (i : Nat) : Fld := ⟨ACE_AXk_TIME i, 31, 0⟩
/-- ACE_AXk_STOP. -/
@[inline] def ACE_AXk_STOP (i : Nat) : Nat := 0x03002018 + 0x80 * i
@[inline] def ACE_AXk_STOP_FN (i : Nat) : Fld := ⟨ACE_AXk_STOP i, 63, 63⟩
@[inline] def ACE_AXk_STOP_SSTILL (i : Nat) : Fld := ⟨ACE_AXk_STOP i, 55, 48⟩
@[inline] def ACE_AXk_STOP_SS1_CYC (i : Nat) : Fld := ⟨ACE_AXk_STOP i, 47, 32⟩
@[inline] def ACE_AXk_STOP_DECEL (i : Nat) : Fld := ⟨ACE_AXk_STOP i, 31, 0⟩
/-- ACE_AXk_STAT. -/
@[inline] def ACE_AXk_STAT (i : Nat) : Nat := 0x03002020 + 0x80 * i
@[inline] def ACE_AXk_STAT_STOP_STATE (i : Nat) : Fld := ⟨ACE_AXk_STAT i, 57, 56⟩
@[inline] def ACE_AXk_STAT_EXTRAP_RUN (i : Nat) : Fld := ⟨ACE_AXk_STAT i, 55, 52⟩
@[inline] def ACE_AXk_STAT_ONTIME_RUN (i : Nat) : Fld := ⟨ACE_AXk_STAT i, 51, 48⟩
@[inline] def ACE_AXk_STAT_HIST (i : Nat) : Fld := ⟨ACE_AXk_STAT i, 47, 46⟩
@[inline] def ACE_AXk_STAT_READY (i : Nat) : Fld := ⟨ACE_AXk_STAT i, 15, 15⟩
@[inline] def ACE_AXk_STAT_SFI_STO (i : Nat) : Fld := ⟨ACE_AXk_STAT i, 14, 14⟩
@[inline] def ACE_AXk_STAT_SP_ERR (i : Nat) : Fld := ⟨ACE_AXk_STAT i, 7, 7⟩
@[inline] def ACE_AXk_STAT_FB_LOST (i : Nat) : Fld := ⟨ACE_AXk_STAT i, 6, 6⟩
@[inline] def ACE_AXk_STAT_OUT_LATE (i : Nat) : Fld := ⟨ACE_AXk_STAT i, 5, 5⟩
@[inline] def ACE_AXk_STAT_EXTRAP (i : Nat) : Fld := ⟨ACE_AXk_STAT i, 4, 4⟩
@[inline] def ACE_AXk_STAT_ARITH (i : Nat) : Fld := ⟨ACE_AXk_STAT i, 3, 3⟩
@[inline] def ACE_AXk_STAT_ISAT (i : Nat) : Fld := ⟨ACE_AXk_STAT i, 2, 2⟩
@[inline] def ACE_AXk_STAT_OSAT (i : Nat) : Fld := ⟨ACE_AXk_STAT i, 1, 1⟩
/-- ACE_AXk_SPOS. -/
@[inline] def ACE_AXk_SPOS (i : Nat) : Nat := 0x03002028 + 0x80 * i
@[inline] def ACE_AXk_SPOS_VALUE (i : Nat) : Fld := ⟨ACE_AXk_SPOS i, 63, 0⟩
/-- ACE_AXk_SERR. -/
@[inline] def ACE_AXk_SERR (i : Nat) : Nat := 0x03002030 + 0x80 * i
@[inline] def ACE_AXk_SERR_VALUE (i : Nat) : Fld := ⟨ACE_AXk_SERR i, 63, 0⟩
/-- ACE_AXk_SOUT. -/
@[inline] def ACE_AXk_SOUT (i : Nat) : Nat := 0x03002038 + 0x80 * i
@[inline] def ACE_AXk_SOUT_VALUE (i : Nat) : Fld := ⟨ACE_AXk_SOUT i, 63, 0⟩
/-- ACE_AXk_SINT. -/
@[inline] def ACE_AXk_SINT (i : Nat) : Nat := 0x03002040 + 0x80 * i
@[inline] def ACE_AXk_SINT_VALUE (i : Nat) : Fld := ⟨ACE_AXk_SINT i, 63, 0⟩
/-- ACE_COEF_SHADOW. -/
@[inline] def ACE_COEF_SHADOW (i j : Nat) : Nat := 0x03010000 + 0x200 * i + 0x8 * j
@[inline] def ACE_COEF_SHADOW_W (i j : Nat) : Fld := ⟨ACE_COEF_SHADOW i j, 63, 0⟩
/-- ACE_COEF_ACTIVE. -/
@[inline] def ACE_COEF_ACTIVE (i j : Nat) : Nat := 0x03018000 + 0x200 * i + 0x8 * j
@[inline] def ACE_COEF_ACTIVE_W (i j : Nat) : Fld := ⟨ACE_COEF_ACTIVE i j, 63, 0⟩
/-- ACE_TAB_SHADOW. -/
@[inline] def ACE_TAB_SHADOW (i j : Nat) : Nat := 0x03100000 + 0x4000 * i + 0x8 * j
@[inline] def ACE_TAB_SHADOW_W (i j : Nat) : Fld := ⟨ACE_TAB_SHADOW i j, 63, 0⟩
/-- ACE_TAB_ACTIVE. -/
@[inline] def ACE_TAB_ACTIVE (i j : Nat) : Nat := 0x03200000 + 0x4000 * i + 0x8 * j
@[inline] def ACE_TAB_ACTIVE_W (i j : Nat) : Fld := ⟨ACE_TAB_ACTIVE i j, 63, 0⟩
/-- SFI_STAT. -/
@[inline] def SFI_STAT : Nat := 0x04001000
@[inline] def SFI_STAT_FAULT_CAUSE : Fld := ⟨SFI_STAT, 63, 56⟩
@[inline] def SFI_STAT_MODE_SEEN : Fld := ⟨SFI_STAT, 19, 16⟩
@[inline] def SFI_STAT_GSTOP : Fld := ⟨SFI_STAT, 8, 8⟩
@[inline] def SFI_STAT_STATE : Fld := ⟨SFI_STAT, 2, 0⟩
/-- SFI_PSET. -/
@[inline] def SFI_PSET : Nat := 0x04001008
@[inline] def SFI_PSET_FSCRC : Fld := ⟨SFI_PSET, 63, 32⟩
@[inline] def SFI_PSET_VERSION : Fld := ⟨SFI_PSET, 31, 0⟩
/-- SFI_SNAP_SEQ. -/
@[inline] def SFI_SNAP_SEQ : Nat := 0x04001010
@[inline] def SFI_SNAP_SEQ_SEQ : Fld := ⟨SFI_SNAP_SEQ, 63, 0⟩
/-- SFI_IN. -/
@[inline] def SFI_IN : Nat := 0x04001018
@[inline] def SFI_IN_TP_FAULT : Fld := ⟨SFI_IN, 59, 48⟩
@[inline] def SFI_IN_DISC : Fld := ⟨SFI_IN, 47, 36⟩
@[inline] def SFI_IN_RELEASED : Fld := ⟨SFI_IN, 35, 24⟩
@[inline] def SFI_IN_RAW : Fld := ⟨SFI_IN, 23, 0⟩
/-- SFI_OUT. -/
@[inline] def SFI_OUT : Nat := 0x04001020
@[inline] def SFI_OUT_ENERGISED : Fld := ⟨SFI_OUT, 23, 20⟩
@[inline] def SFI_OUT_PAIR_FAULT : Fld := ⟨SFI_OUT, 19, 16⟩
@[inline] def SFI_OUT_READBACK : Fld := ⟨SFI_OUT, 15, 8⟩
@[inline] def SFI_OUT_COMMANDED : Fld := ⟨SFI_OUT, 7, 0⟩
/-- SFI_ZONE. -/
@[inline] def SFI_ZONE : Nat := 0x04001028
@[inline] def SFI_ZONE_ACK_WAIT : Fld := ⟨SFI_ZONE, 31, 16⟩
@[inline] def SFI_ZONE_DEMAND : Fld := ⟨SFI_ZONE, 15, 0⟩
/-- SFI_CNT. -/
@[inline] def SFI_CNT : Nat := 0x04001030
@[inline] def SFI_CNT_DISC_EVENTS : Fld := ⟨SFI_CNT, 63, 48⟩
@[inline] def SFI_CNT_TP_FAULTS : Fld := ⟨SFI_CNT, 47, 32⟩
@[inline] def SFI_CNT_WD_EXPIRED : Fld := ⟨SFI_CNT, 31, 16⟩
@[inline] def SFI_CNT_AX_VIOL : Fld := ⟨SFI_CNT, 15, 0⟩
/-- SFI_AXk. -/
@[inline] def SFI_AXk (i : Nat) : Nat := 0x04002000 + 0x8 * i
@[inline] def SFI_AXk_EN (i : Nat) : Fld := ⟨SFI_AXk i, 63, 63⟩
@[inline] def SFI_AXk_STO_CMD (i : Nat) : Fld := ⟨SFI_AXk i, 62, 62⟩
@[inline] def SFI_AXk_SBC_CMD (i : Nat) : Fld := ⟨SFI_AXk i, 61, 61⟩
@[inline] def SFI_AXk_DRV_STO (i : Nat) : Fld := ⟨SFI_AXk i, 60, 60⟩
@[inline] def SFI_AXk_REFERENCED (i : Nat) : Fld := ⟨SFI_AXk i, 59, 59⟩
@[inline] def SFI_AXk_VIOL (i : Nat) : Fld := ⟨SFI_AXk i, 58, 58⟩
@[inline] def SFI_AXk_VIOL_FN (i : Nat) : Fld := ⟨SFI_AXk i, 57, 54⟩
@[inline] def SFI_AXk_STATE (i : Nat) : Fld := ⟨SFI_AXk i, 53, 51⟩
@[inline] def SFI_AXk_ACTIVE (i : Nat) : Fld := ⟨SFI_AXk i, 47, 40⟩
@[inline] def SFI_AXk_SLS_SEL (i : Nat) : Fld := ⟨SFI_AXk i, 39, 38⟩
@[inline] def SFI_AXk_VEL (i : Nat) : Fld := ⟨SFI_AXk i, 31, 0⟩
/-- SFI_CONNc. -/
@[inline] def SFI_CONNc (i : Nat) : Nat := 0x04004000 + 0x8 * i
@[inline] def SFI_CONNc_STATE (i : Nat) : Fld := ⟨SFI_CONNc i, 63, 61⟩
@[inline] def SFI_CONNc_FS (i : Nat) : Fld := ⟨SFI_CONNc i, 60, 60⟩
@[inline] def SFI_CONNc_LAST_ERR (i : Nat) : Fld := ⟨SFI_CONNc i, 59, 56⟩
@[inline] def SFI_CONNc_SEQ (i : Nat) : Fld := ⟨SFI_CONNc i, 47, 32⟩
@[inline] def SFI_CONNc_CRC_ERR (i : Nat) : Fld := ⟨SFI_CONNc i, 31, 24⟩
@[inline] def SFI_CONNc_SEQ_ERR (i : Nat) : Fld := ⟨SFI_CONNc i, 23, 16⟩
@[inline] def SFI_CONNc_WD_EXP (i : Nat) : Fld := ⟨SFI_CONNc i, 15, 8⟩
@[inline] def SFI_CONNc_FMT_ERR (i : Nat) : Fld := ⟨SFI_CONNc i, 7, 0⟩
/-- SEC_LC. -/
@[inline] def SEC_LC : Nat := 0x05001000
@[inline] def SEC_LC_KEY_REVOKED : Fld := ⟨SEC_LC, 29, 24⟩
@[inline] def SEC_LC_SVN : Fld := ⟨SEC_LC, 21, 16⟩
@[inline] def SEC_LC_STATE : Fld := ⟨SEC_LC, 3, 0⟩
/-- SEC_BOOT. -/
@[inline] def SEC_BOOT : Nat := 0x05001008
@[inline] def SEC_BOOT_START_NO : Fld := ⟨SEC_BOOT, 63, 32⟩
@[inline] def SEC_BOOT_KIND : Fld := ⟨SEC_BOOT, 15, 13⟩
@[inline] def SEC_BOOT_FAIL_COUNT : Fld := ⟨SEC_BOOT, 11, 8⟩
@[inline] def SEC_BOOT_SLOT_B : Fld := ⟨SEC_BOOT, 7, 6⟩
@[inline] def SEC_BOOT_SLOT_A : Fld := ⟨SEC_BOOT, 5, 4⟩
@[inline] def SEC_BOOT_PREFERRED : Fld := ⟨SEC_BOOT, 1, 1⟩
@[inline] def SEC_BOOT_ACTIVE : Fld := ⟨SEC_BOOT, 0, 0⟩
/-- SEC_TAMPER_CFG. -/
@[inline] def SEC_TAMPER_CFG : Nat := 0x05001010
@[inline] def SEC_TAMPER_CFG_LOCK : Fld := ⟨SEC_TAMPER_CFG, 63, 63⟩
@[inline] def SEC_TAMPER_CFG_FILT : Fld := ⟨SEC_TAMPER_CFG, 7, 4⟩
@[inline] def SEC_TAMPER_CFG_MESH_EN : Fld := ⟨SEC_TAMPER_CFG, 1, 1⟩
@[inline] def SEC_TAMPER_CFG_PIN_EN : Fld := ⟨SEC_TAMPER_CFG, 0, 0⟩
/-- SEC_TAMPER_STAT. -/
@[inline] def SEC_TAMPER_STAT : Nat := 0x05001018
@[inline] def SEC_TAMPER_STAT_COUNT : Fld := ⟨SEC_TAMPER_STAT, 63, 48⟩
@[inline] def SEC_TAMPER_STAT_WIPED : Fld := ⟨SEC_TAMPER_STAT, 2, 2⟩
@[inline] def SEC_TAMPER_STAT_MESH : Fld := ⟨SEC_TAMPER_STAT, 1, 1⟩
@[inline] def SEC_TAMPER_STAT_PIN : Fld := ⟨SEC_TAMPER_STAT, 0, 0⟩
/-- SEC_DBG. -/
@[inline] def SEC_DBG : Nat := 0x05001020
@[inline] def SEC_DBG_LOCK : Fld := ⟨SEC_DBG, 63, 63⟩
@[inline] def SEC_DBG_ROOK_EN : Fld := ⟨SEC_DBG, 0, 0⟩

end Sys2Proof.Machine
end

