-- ==== Sys2Proof/Machine/RegMap.lean ====
section
/-! DEFINITION. The Rhizome address space (R547 to R550): unit blocks, common blocks, the register at
an address, its reset value and the power domain that holds it. -/

namespace Sys2Proof.Machine

/-- A unit of Table R547: base, last address, common block and the power domain d of its registers. -/
structure UnitDef where
  base : Nat
  last : Nat
  common : Nat
  dom : Nat
deriving DecidableEq, Repr

/-- Table R547. Domains are numbered as in Table R485. -/
def unitTable : List UnitDef :=
  [⟨0x00000000, 0x000FFFFF, 0x00000000, 2⟩, ⟨0x00100000, 0x001FFFFF, 0x00100000, 0⟩,
   ⟨0x00200000, 0x002FFFFF, 0x00200000, 2⟩, ⟨0x00300000, 0x003FFFFF, 0x00300000, 3⟩,
   ⟨0x00400000, 0x004FFFFF, 0x00400000, 2⟩, ⟨0x00500000, 0x005FFFFF, 0x00500000, 2⟩,
   ⟨0x01000000, 0x01FFFFFF, 0x01600000, 2⟩, ⟨0x02000000, 0x020FFFFF, 0x02000000, 6⟩,
   ⟨0x02100000, 0x023FFFFF, 0x02100000, 6⟩, ⟨0x02400000, 0x027FFFFF, 0x02400000, 6⟩,
   ⟨0x02800000, 0x028FFFFF, 0x02800000, 8⟩, ⟨0x02900000, 0x029FFFFF, 0x02960000, 8⟩,
   ⟨0x02A00000, 0x02FFFFFF, 0x02A00000, 8⟩, ⟨0x03000000, 0x03FFFFFF, 0x03000000, 7⟩,
   ⟨0x04000000, 0x04FFFFFF, 0x04000000, 1⟩, ⟨0x05000000, 0x05FFFFFF, 0x05000000, 2⟩]

/-- The unit whose block holds an address, if any (R547). -/
def unitAt (a : Nat) : Option UnitDef :=
  unitTable.find? fun u => decide (u.base ≤ a) && decide (a ≤ u.last)

/-- Unit bases by name. -/
def uSYSCTL : Nat := 0x00000000
def uCRP : Nat := 0x00100000
def uMEM : Nat := 0x00200000
def uHIC : Nat := 0x00300000
def uMQF : Nat := 0x00400000
def uPQ : Nat := 0x00500000
def uPEA : Nat := 0x01000000
def uEPC : Nat := 0x02000000
def uSWC : Nat := 0x02100000
def uNTU : Nat := 0x02400000
def uCBC : Nat := 0x02800000
def uCANB : Nat := 0x02900000
def uPIA : Nat := 0x02A00000
def uACE : Nat := 0x03000000
def uSFI : Nat := 0x04000000
def uSEC : Nat := 0x05000000

/-- Address of the common block of the unit at `base` (Table R547). -/
def commonOf (base : Nat) : Nat :=
  if base = uPEA then 0x01600000 else if base = uCANB then 0x02960000 else base

/-- The UNIT code of a unit: bits [27:20] of its base (R541, R550). -/
def unitCode (base : Nat) : Nat := base / 2 ^ 20 % 256

/-- The power domain d that holds the register at `a` (Table R547). SYSCTL_RST_STAT and the two tamper
registers lie in PD_AON; the block of engine n lies in PD_ENGA or PD_ENGB. -/
def domOf (a : Nat) : Nat :=
  if a / 8 = SYSCTL_RST_STAT / 8 then 0
  else if a / 8 = SEC_TAMPER_CFG / 8 ∨ a / 8 = SEC_TAMPER_STAT / 8 then 0
  else match unitAt a with
    | none => 0
    | some u =>
      if u.base = uPEA ∧ a < 0x01600000 then (if (a - uPEA) / 0x40000 < 12 then 4 else 5) else u.dom

/-- Offset `off` inside a repeated register: its indices lie in range. -/
def dimsHit : List (Nat × Nat) → Nat → Bool
  | [], off => off == 0
  | d :: t, off => decide (off / d.2 < d.1) && dimsHit t (off % d.2)

/-- The register of table `t` at address `a`. -/
def findReg (t : List RegDef) (a : Nat) : Option RegDef :=
  t.find? fun r => decide (r.base ≤ a) && dimsHit r.dims (a - r.base)

/-- The six registers of every common block (Table R550). -/
def commonDef (off : Nat) : Option RegDef :=
  if off = 0x00 then some ⟨0, [], [⟨63, 48, .ro, 0x9960, [], false⟩, ⟨47, 44, .ro, 0, [], false⟩,
    ⟨39, 32, .ro, 0, [], false⟩, ⟨1, 1, .ro, 0, [], false⟩, ⟨0, 0, .ro, 0, [], false⟩]⟩
  else if off = 0x08 then some ⟨0, [], [⟨31, 24, .ro, 0x10, [], false⟩, ⟨23, 16, .ro, 0x01, [], false⟩]⟩
  else if off = 0x10 then some ⟨0, [], [⟨63, 63, .w1s, 0, [], true⟩]⟩
  else if off = 0x18 then some ⟨0, [], [⟨55, 32, .ro, 0, [], false⟩, ⟨3, 3, .ro, 0, [], false⟩,
    ⟨2, 2, .ro, 0, [], false⟩, ⟨1, 1, .ro, 0, [], false⟩, ⟨0, 0, .w1c, 0, [], false⟩]⟩
  else if off = 0x20 then some ⟨0, [], [⟨63, 0, .w1c, 0, [], false⟩]⟩
  else if off = 0x28 then some ⟨0, [], [⟨63, 0, .rw, 0xFFFFFFFFFFFFFFFF, [], false⟩]⟩
  else none

/-- Banks 80 and above do not exist: MEM_BANK_CFG2 and MEM_BANK_STAT2 keep 16 fields, and with m = 1
the bank bitmaps keep bits [15:0] (ch. 18, MEM registers). -/
def trimReg (a : Nat) (r : RegDef) : RegDef :=
  if a = MEM_BANK_CFGr 2 ∨ a = MEM_BANK_STATr 2 then { r with fields := r.fields.take 16 }
  else if a = MEM_RETm 1 ∨ a = MEM_BANK_PENDm 1 ∨ a = MEM_BANK_FAILm 1 then
    { r with fields := r.fields.map fun f => { f with hi := 15 } }
  else r

/-- The register at an aligned Rhizome address (R547). -/
def regAt (a : Nat) : Option RegDef :=
  match unitAt a with
  | none => none
  | some u =>
    if u.common ≤ a ∧ a < u.common + 0x30 then commonDef (a - u.common)
    else (findReg (regTable u.base) a).map (trimReg a)

/-- The reset values of a register's fields put together. -/
def fieldsReset : List FieldDef → Word
  | [] => 0
  | f :: t => putBits (fieldsReset t) f.hi f.lo f.reset

/-- The reset value of the register at `a` (R8, R553). EPC_PORTp_CTL has its own values for the uplinks. -/
def regReset (a : Nat) : Word :=
  match regAt a with
  | none => 0
  | some r =>
    if a = EPC_PORTp_CTL 8 ∨ a = EPC_PORTp_CTL 9 then
      putBits (putBits (fieldsReset r.fields) 7 4 5) 3 1 3
    else fieldsReset r.fields

/-- Common block registers of the unit at `base`. -/
def cID (base : Nat) : Nat := commonOf base
def cUCTL_LOCK (base : Nat) : Fld := ⟨commonOf base + 0x10, 63, 63⟩
def cUSTAT_CFG_ERR (base : Nat) : Fld := ⟨commonOf base + 0x18, 0, 0⟩
def cUSTAT_CFG_ERR_OFF (base : Nat) : Fld := ⟨commonOf base + 0x18, 55, 32⟩
def cISTAT (base : Nat) : Fld := ⟨commonOf base + 0x20, 63, 0⟩
def cIMASK (base : Nat) : Fld := ⟨commonOf base + 0x28, 63, 0⟩

end Sys2Proof.Machine
end

