-- ==== Sys2Proof/Machine/Units.lean ====
section
/-! DEFINITION. The state of each unit beyond its registers, as plain data: what the chapters name and
no register shows. Registers themselves live in ONE map (`State.regs`). Indexed tables are sparse maps
(`Maps.lean`). -/

namespace Sys2Proof.Machine

/-! ## Operating modes (chapter 02) -/

/-- An accepted mode transition that has not yet taken effect (R48 to R50). -/
structure PendMode where
  target : Nat
  cause : Nat
  /-- Rank of Table R50. -/
  rank : Nat
  /-- The started DCP command (its slot) whose reply waits for the transition (R49). -/
  reply : Option Nat
  /-- LT in ns at acceptance (the 2 µs of R48). -/
  acceptedNs : Nat
deriving DecidableEq, Repr

/-! ## Start-up, journal and life cycle (chapter 16) -/

/-- A boot journal record (Table R459). -/
structure JournalRec where
  start : Nat
  step : Nat
  way : Nat
  result : Nat
  time : Nat
  detail : Nat
deriving DecidableEq, Repr

/-- Start-up state held in PD_AON, the fuses and the journal (R449 to R466). -/
structure BootSt where
  /-- POR_N recognised low: every domain held in reset (R449). -/
  porHeld : Bool
  /-- SYSRST_N counts as asserted (R450). -/
  sysrstHeld : Bool
  /-- A start is under way: from reset release to HANDOVER (R453). -/
  running : Bool
  /-- Kind of the current or last start (Table R453). -/
  kind : Nat
  /-- CAUSE the start took (Table R67). -/
  cause : Nat
  /-- The step under way in a start that is running (Table R454). -/
  step : Nat
  /-- µs from reset release at which the step under way began. -/
  micros : Nat
  /-- Code of the failed step while BOOT has halted (R457, R528). -/
  halted : Option Nat
  /-- STATUS shows the second frame of a halted BOOT (R540). -/
  statusFrame : Bool
  /-- A failed start wants the next one: RETRY or DEGRADED (R456), or a reset has been released. -/
  nextKind : Option Nat
  nextCause : Nat
  /-- The fiddlehead serves the command channel itself (R457). -/
  romServes : Bool
  /-- Step codes whose effect is absent for this start (R455). -/
  skipped : List Nat
  /-- A reset of rank 2 that falls 1 ms after a completion (R420, R465): its LAST_RESET value. -/
  resetDue : Option Nat
  /-- Journal ring, newest record first (R459). -/
  journal : List JournalRec
  startNo : Nat
  failCount : Nat
  preferred : Nat
  active : Nat
  /-- SLOT_A and SLOT_B states (R463): 0 EMPTY, 1 NOT_BOOTABLE, 2 BOOTABLE. -/
  slotA : Nat
  slotB : Nat
  /-- Life-cycle state fuses (Table R464). -/
  lifeCycle : Nat
  /-- Security version fuses (R463). -/
  svn : Nat
  /-- Unurn keys revoked by fuse, bit 0 key 0, bit 1 key 1 (R461). -/
  unurnRevoked : Nat
  /-- Blocks of the factory area already written, by block number (R466). -/
  factoryWritten : List Nat
  /-- JTAG token accepted in this start: debug access open (R467). -/
  tokenOpen : Bool
  /-- Spores loaded: SRAM offset, length and engine mask (R46, R216). -/
  spores : List (Nat × Nat × Nat)
  /-- The instruction in force at the TAP (R469). -/
  tap : Nat
deriving DecidableEq, Repr

/-- A record of the event log (Table R541). -/
structure EventRec where
  seq : Nat
  start : Nat
  time : Nat
  code : Nat
  unit : Nat
  cls : Nat
  mode : Nat
  detail : Nat
deriving DecidableEq, Repr

/-! ## Clocks and power (chapter 17) -/

/-- CRP state (R473 to R497). -/
structure CrpSt where
  /-- A clock fault has gated the derived clocks and the PLL is being relocked (R476). -/
  relocking : Bool
  /-- The last relock attempt failed (FAULT_N, R539). -/
  relockFailed : Bool
  /-- Wake sources armed: the device is in STANDBY with entry complete (R494). -/
  armed : Bool
  /-- STANDBY entry is under way (R493). -/
  entering : Bool
  /-- Wake sources latched during entry (R495). -/
  latched : Nat
  /-- PD_MEM failed during STANDBY: the next wake is COLD (R490). -/
  memLost : Bool
  /-- VDD_CORE or VDD_MRAM has left its range: no MRAM word write starts (R562). -/
  mramStop : Bool
  /-- CRP_WAKE_CFG, CRP_WAKE_TMR and NTU_SYNCIN_CFG.EDGE as they stood at the latest STANDBY entry (R494, R497). -/
  wakeCfg : Nat
  wakeMs : Nat
  wakeFall : Bool
deriving DecidableEq, Repr

/-! ## Memory system (chapter 18) -/

/-- A running change of a bank (R503, R506): the state it leads to and the newest target. -/
structure BankRun where
  dest : Nat
  target : Nat
deriving DecidableEq, Repr

/-- A record of the repair table (R519). -/
structure RepairRec where
  bank : Nat
  pending : Bool
  pair : Nat
deriving DecidableEq, Repr

/-- MEM state (R498 to R524). -/
structure MemSt where
  /-- Running bank changes, by bank. -/
  runs : List (Nat × Option BankRun)
  /-- SRAM words that are uncorrectable until fully written (R509), by byte offset / 8: the syndrome a
  read reports plus 1; 0 for a good word. -/
  badWords : List (Nat × Nat)
  /-- The key under which the vault is sealed is in PD_AON (R511, R512). -/
  sealKey : Bool
  /-- A sealed copy of the key store exists in the configuration area (R511). -/
  sealedCopy : Bool
  /-- Key store bytes sealed, as cells at vault offsets. -/
  sealedStore : List Host.Cell
  /-- A wipe that a tamper started, for SEC_TAMPER_STAT.WIPED (R471). -/
  tamperWipe : Bool
  /-- Repair table (R519). -/
  repair : List RepairRec
  /-- Banks whose spare S is in use. -/
  spareUsed : List Nat
deriving DecidableEq, Repr

/-! ## Host interface (chapter 13) -/

/-- An xSPI host port (R380, R381). -/
structure XspiPort where
  ready : Bool
  busy : Bool
  denied : Bool
  overlap : Bool
  /-- The access under way is a read. -/
  reading : Bool
  data : Word
deriving DecidableEq, Repr

/-- A frame taken from a transmit ring: word 1 of each of its descriptors, and whether it is discarded. -/
structure HicTx where
  words : List Nat
  dropped : Bool
deriving DecidableEq, Repr

/-- Per-partition host state (R385 to R396). -/
structure PartSt where
  /-- Frames taken whose descriptors have still to complete, in ring order (R393). -/
  txq : List HicTx
  /-- Consecutive PI_SWAPs without a commit (R387). -/
  wdCount : Nat
  /-- A COMMIT write waits for its registration (R386). -/
  commitAsked : Bool
  /-- A commit was registered since the previous PI_SWAP (R387). -/
  committed : Bool
  /-- Index (0 or 1) of the host copy that is active for the partition's slice (R31, R586). -/
  activeCopy : Nat
deriving DecidableEq, Repr

/-! ## The network cycle and the process image (chapter 01) -/

/-- A bank of cycle generator settings: NTU_CYC_LEN, NTU_CYC_PULL, SRC, PULL_EN and the phases (R22). -/
structure CycBank where
  len : Nat
  slewMax : Nat
  src : Nat
  pullEn : Bool
  phases : List Nat
deriving DecidableEq, Repr

/-- The cycle generator (R21 to R38). Instants are LT in units of 2^−32 ns. -/
structure CycSt where
  act : CycBank
  /-- Nominal instant of the latest boundary; of RUN being set while none has fallen. -/
  nominal : Nat
  /-- The CLK_TIME edge at which the latest boundary took effect. -/
  edge : Nat
  /-- The correction c of the current cycle in ns (R37, R79). -/
  corr : Int
  /-- A boundary has fallen since RUN was set. -/
  started : Bool
  /-- Error in 0.5 ns of the first edge that belongs to the latest boundary (R37). -/
  used : Option Int
  /-- The same for the boundary to come. -/
  usedNext : Option Int
  /-- The window of the latest boundary has closed. -/
  closed : Bool
  /-- Of each of the last 8 closed windows, newest first: an edge with |e| < 8 ns was used. -/
  good : List Bool
  /-- The domain named by SRC has stepped: the time of that domain at which the next boundary falls (R76). -/
  stepNom : Option Int
  /-- Time of the source at the latest boundary's nominal instant, in units of 2^−32 ns (R21). -/
  srcNom : Int
  /-- Phases that have acted since the latest boundary, bit n for phase n (R25). -/
  phased : Nat
deriving DecidableEq, Repr

/-- The process image (R31 to R39). -/
structure ImageSt where
  /-- The filling device copy: 0 IN_A, 1 IN_B. -/
  filling : Nat
  /-- Reason bits [4:2] collected for the filling copy (Table R39). -/
  reasons : Nat
  /-- The next published image carries RESTART (Table R39). -/
  restart : Bool
  /-- EXTRAP and OUT_LATE words of the current cycle (R28, R30). -/
  extrap : Nat
  outLate : Nat
deriving DecidableEq, Repr

/-! ## Network time (chapter 03) -/

/-- A time domain's servo state (R71 to R75). -/
structure TdSt where
  /-- OFF_x in units of 2^−32 ns. -/
  off : Int
  /-- The integrator of R74. -/
  iacc : Int
  /-- A measurement written and not yet consumed, in 2^−16 ns. -/
  meas : Option Int
  /-- LT in ns at which the last measurement was consumed. -/
  lastAt : Option Nat
  /-- The last measurement interval in ns. -/
  interval : Nat
  /-- Consecutive measurements beyond and within LOCK_THR. -/
  outRun : Nat
  inRun : Nat
  /-- LT in ns at which HOLDOVER was entered. -/
  holdAt : Nat
deriving DecidableEq, Repr

/-- A transmit timestamp record (R85). -/
structure TxTs where
  tag : Nat
  ns : Nat
  frac : Nat
deriving DecidableEq, Repr

/-- The NTU (R69 to R93). -/
structure NtuSt where
  /-- LT in units of 2^−32 ns: 64 bits of ns, 16 visible and 16 hidden fraction bits (R69). -/
  lt : Nat
  tdA : TdSt
  tdB : TdSt
  /-- The domain castling started from, and R in units of 10^−7 × 2^−32 ns (R78). -/
  castFrom : Nat
  castR : Int
  cyc : CycSt
  /-- NTU_SYNCOUT_CFG as it took effect at the latest boundary (R91), and whether the pulse is on. -/
  syncOut : Word
  syncOutOn : Bool
  /-- PPS pulse on, and LT in ns at which the last pulse began (R92). -/
  ppsOn : Bool
  ppsLast : Option Nat
  /-- Transmit timestamp FIFOs by port (R85). -/
  txts : List (Nat × List TxTs)
deriving DecidableEq, Repr

/-! ## Ethernet ports and the switch core (chapters 04, 05) -/

/-- A frame, from its arrival at the SWC to the release of its last copy. Bytes exclude the FCS. -/
structure EthFrame where
  bytes : List Byte
  /-- FCS wrong, or the frame was stomped (R143). -/
  bad : Bool
  /-- Stomped by a buffer fault or cut off: the verdict is ABORTED (R202). -/
  aborted : Bool
  ingress : Nat
  /-- LT in ns at its first byte. -/
  born : Nat
  /-- Generation count at its first byte (R124), not wrapped. -/
  gen : Nat
  /-- Ten times the ns that a byte takes at its ingress; 0 where the frame is there at once. -/
  bt : Nat
  /-- CT_EN and TC_EN of its ingress at its first byte (R93, R150), and the count of writes of SWC_PORTp
  registers by then. -/
  ct : Bool
  tc : Bool
  pgen : Nat
  /-- Receive timestamp in LT, units of 2^−16 ns (R82, R83). -/
  ts : Option Nat
  tsReq : Bool
  tag : Nat
  /-- The Rook transmit buffer it came from: 2 × engine + buffer. -/
  origin : Option Nat
  cls : Nat
  stream : Option Nat
  tcam : Option Nat
  rlist : Option Nat
  gate : Option Nat
  /-- Egress ports decided. -/
  egress : Nat
  /-- Sequence number of the R-TAG, and the egresses on which it is inserted (R132). -/
  rtag : Option Nat
  rtagPorts : Nat
  /-- Engine ports on which it goes cut-through (R143). -/
  ctPorts : Nat
  /-- Cells taken from the reservation of its class and from the pool (R140). -/
  res : Nat
  pool : Nat
  /-- Some copy finished transmission. -/
  sent : Bool
  /-- Reasons for which the mirror ring has its record (R147). -/
  mirs : List Nat
  /-- For a Rook's frame, the lowest port whose copy has ended and its transmit timestamp, and whether it has been
  returned (R215). -/
  stamp : Option (Nat × Nat)
  stampOut : Bool
deriving DecidableEq, Repr

/-- The tables that the decision of R114 reads. -/
structure SwTables where
  fst : List (Nat × (Word × Word))
  tcam : List (Nat × List Word)
  rlist : List (Nat × Word)
  filter : List (Nat × Word)
  meter : List (Nat × (Word × Word))
  gate : List (Nat × Word)
  frer : List (Nat × Word)
  /-- Generation at which a stream filter was last written: the life of its BLOCKED (R129). -/
  fgen : List (Nat × Nat)
deriving DecidableEq, Repr

/-- A staged table operation (R125). -/
structure UpdOp where
  table : Nat
  op : Nat
  index : Nat
  data : List Word
deriving DecidableEq, Repr

/-- Token buckets of a flow meter in units of 1/8,000,000 byte (R131). -/
structure MeterSt where
  bc : Nat
  be : Nat
  last : Nat
  full : Bool
  red : Bool
deriving DecidableEq, Repr

/-- A FRER function (R132): next sequence number; recovery number, history, TakeAny, last acceptance. -/
structure FrerSt where
  next : Nat
  recov : Nat
  hist : List Bool
  takeAny : Bool
  last : Nat
deriving DecidableEq, Repr

/-- A frame in transmission on a port: LT in ns at which the MAC starts it (R103), NTU_PORTp_CFG, _LAT and _ASYM as
they stood when its first byte reached the port (R93), and OFF of the domain that CFG names at its start, in 2^−16 ns
(R86). -/
structure TxCur where
  frame : Nat
  cls : Nat
  stomp : Bool
  startNs : Nat
  cfg : Word
  lat : Word
  asym : Word
  off : Int
deriving DecidableEq, Repr

/-- The SWC (R112 to R150). Keys of queues are 8 × port + class. -/
structure SwcSt where
  tables : SwTables
  /-- Generations counted without wrapping. -/
  genAbs : Nat
  /-- Earlier tables, by generation, that frames not yet decided still need (R124). -/
  versions : List (Nat × SwTables)
  /-- Generation at which a replication list (key n) or gate (key 1024 + g) last changed (R126). -/
  changed : List (Nat × Nat)
  batch : List UpdOp
  meters : List (Nat × MeterSt)
  frers : List (Nat × FrerSt)
  /-- Meters and FRER functions rewritten at a generation that no frame of it has been decided yet: they start anew
  when one is, so that no frame of an earlier generation sees it (R124). -/
  resets : List (Nat × UpdOp)
  /-- Stream filters that are BLOCKED: handle, and the generation that wrote the filter (R129). -/
  blocked : List (Nat × Nat)
  /-- Writes of SWC_PORTp registers counted, and of those made while a frame waits for its decision the count, the
  address and the value before (R150). -/
  pgen : Nat
  pold : List (Nat × Nat × Word)
  /-- LT in ns of the latest aging sweep (R122). -/
  ageAt : Nat
  /-- Frames whose decision is still to be taken, in arrival order. -/
  arrived : List EthFrame
  frames : List (Nat × Option EthFrame)
  nextId : Nat
  queues : List (Nat × List Nat)
  headAt : List (Nat × Nat)
  tx : List (Nat × Option TxCur)
  /-- A preempted frame that is to resume (R133). -/
  held : List (Nat × Option TxCur)
  /-- Active gate lists, key 1024 × port + entry, and the entry in force. -/
  gcl : List (Nat × Word)
  gclPos : List (Nat × Nat)
  /-- Credits in 10^−6 bit and the LT in ns they stand for (R138). -/
  credit : List (Nat × Int)
  creditAt : List (Nat × Nat)
  learnAt : Option Nat
  recovering : Bool
  /-- Rook transmit buffers whose last copy has left, with whether any was sent. -/
  txDone : List (Nat × Bool)
  /-- Frames handed to HP and MP and not yet taken. -/
  hp : List EthFrame
  mp : List EthFrame
  /-- Frames sent on external ports, newest first: the block's frame output. -/
  wire : List (Nat × List Byte)
  /-- Receive buffer that an engine port is filling, 2 × engine + buffer (R197). -/
  epRx : List (Nat × Option Nat)
deriving DecidableEq, Repr

/-- An EPC port beyond its registers (R97 to R111). -/
structure EpcPort where
  /-- Quanta in ns that a pause still has to count, once the frame in transmission has ended (R106). -/
  pauseHold : Option Nat
  pauseUntil : Nat
  pauseFrom : Nat
  waitSince : Nat
  drops : List Nat
  stepOn : Bool
deriving DecidableEq, Repr

/-! ## Rook engines (chapters 06, 07) -/

/-- A write in flight (R160): destination 0 to 31 a register, 32 REM, 33 sticky flags to set in ESR,
64 + n special register n; `key` is 2 × ready cycle, + 1 for the flags, which apply last (R161). -/
structure Flight where
  dst : Nat
  value : Word
  key : Nat
deriving DecidableEq, Repr

/-- A commit-buffer entry (R180): a D-space store of `width` bytes, or a port word (`width` 0). -/
structure CommitEnt where
  addr : Nat
  width : Nat
  data : Word
deriving DecidableEq, Repr

/-- An open speculative region (R179, R204): recorded registers and RSP, and the bound buffer. -/
structure SpecRec where
  regs : List (Nat × Word)
  rsp : Word
  buf : Nat
deriving DecidableEq, Repr

/-- PCRC configuration (R203). -/
structure PcrcCfg where
  cfg : Word
  range : Word
  init : Word
  xor : Word
deriving DecidableEq, Repr

/-- A receive buffer (R200, R201). -/
structure RxBuf where
  held : Bool
  /-- The frame's bytes with the FCS, and how many are readable. -/
  data : List Byte
  bytes : Nat
  /-- LT in ns at the frame's first byte, and ten times the ns that a byte of it takes (R201). -/
  born : Nat
  bt : Nat
  ended : Bool
  verdict : Nat
  ingress : Nat
  cls : Nat
  stream : Option Nat
  gen : Nat
  ts : Option Nat
  bad : Bool
  aborted : Bool
  pcrc : PcrcCfg
deriving DecidableEq, Repr

/-- A transmit buffer (R213 to R215). -/
structure TxBuf where
  mem : List Host.Cell
  cmd : Word
  state : Nat
  tsV : Bool
  tsPort : Nat
  wrIgn : Bool
  ns : Nat
  frac : Nat
deriving DecidableEq, Repr

/-- A Rook engine beyond its PEA registers, I-space and D-space. -/
structure RookSt where
  w : List (Nat × Word)
  pc : Nat
  /-- Delay-slot position of the next instruction (0: none) and where execution goes after the slots. -/
  slot : Nat
  tgt : Nat
  /-- The transfer whose slots issue is RTE (R188). -/
  rte : Bool
  esr : Word
  tpc : Word
  tbt : Word
  tval : Word
  tvb : Word
  rsp : Word
  rem : Word
  cyc : Nat
  /-- Return stack (R175). -/
  rstk : List (Nat × Word)
  flight : List Flight
  spec : Option SpecRec
  commit : List CommitEnt
  /-- A WAIT that waits: rd and mask. -/
  wait : Option (Nat × Nat)
  /-- A verdict that squashes the region falls in the issue cycle of the next instruction (R206). -/
  squashDue : Bool
  /-- Sticky event bits (R199). -/
  ev : Nat
  cycle : Word
  timer : Word
  rxThr : Nat
  rx0 : RxBuf
  rx1 : RxBuf
  /-- CUR, and the buffer the next frame fills. -/
  cur : Nat
  fill : Nat
  pcrc : PcrcCfg
  pcrcReg : Nat
  tx0 : TxBuf
  tx1 : TxBuf
  /-- Drains handed over and not yet landed, oldest first (R205). -/
  drains : List (List (Nat × Word))
  /-- Cycle of the latest port access and of its slot (R208, R209). -/
  ioIssue : Option Nat
  ioSlot : Nat
  mbSel : Nat
  pqSel : Nat
  /-- The spore loaded: identity of its instance, and listen-only (R218). -/
  inst : Option Nat
  listenOnly : Bool
  /-- Halted by a debugger (R468): nothing issues until the engine starts again. -/
  dbg : Bool
deriving DecidableEq, Repr

/-! ## Cabinet Bus (chapter 08) -/

/-- What the master holds of a node, of which CBC_SEGs_NODEi is the snapshot (R247, R248, R256, R259). -/
structure CbNode where
  present : Bool
  removed : Bool
  dup : Bool
  err : Bool
  safe : Bool
  /-- Hop number; 0: not enumerated. -/
  hop : Nat
  run : Nat
  /-- d of the latest accepted reply in 0.5 ns. -/
  dev : Int
  /-- One-way delay in 2^−8 ns. -/
  delay : Nat
deriving DecidableEq, Repr

/-- A CONF that is to be sent or waits for its CONF_ACK (R249). -/
structure CbConf where
  node : Nat
  tries : Nat
  sent : Bool
  /-- LT of its /S/. -/
  at32 : Nat
  sgen : Nat
deriving DecidableEq, Repr

/-- A queued acyclic request (R240): the DCP run that waits for it, its TAG and data, whether its AREQ has
been sent, and the cycles it has waited. -/
structure CbReq where
  slot : Nat
  node : Nat
  tag : Nat
  data : List Byte
  sent : Bool
  age : Nat
deriving DecidableEq, Repr

/-- A segment beyond its registers. -/
structure CbSeg where
  /-- Listening after a failed echo has not begun yet (R246). -/
  backoff : Bool
  /-- LT at which the present phase began: the listen time, the STARTUP or ENUM /S/, the stop. -/
  since : Nat
  attempt : Nat
  /-- The receive pair has held synchronisation in some attempt (R246). -/
  signal : Bool
  /-- The hop number that a backup takes from the STARTUP it echoes (R244, R245). -/
  hop : Nat
  /-- Within STARTUP: 0 echo, 1 enumeration, 2 configuration, 3 complete. -/
  stage : Nat
  nodes : List (Nat × CbNode)
  confq : List CbConf
  /-- Generation that the CONFs of the present start-up carry. -/
  cgen : Nat
  /-- SYNC has been entered and the next boundary has still to fall (R250). -/
  waitBnd : Bool
  /-- Consecutive CSFs since bring-up began, to 8 (R250). -/
  csfs : Nat
  /-- The next CSF carries RESTART (R227). -/
  restart : Bool
  csfSent : Bool
  /-- LT of the latest CSF's /S/, segment time there in units of 2^−32 ns. -/
  csfLt : Nat
  csfSt : Int
  /-- OFF_seg at LT `offAt`, in units of 2^−8 ns, what the rate has added to it beyond those in 2^−64 ns, and the
  segment rate (R252). -/
  off : Int
  offRem : Nat
  offAt : Nat
  rate : Int
  /-- Deviations of the cycle in 2^−8 ns (R253). -/
  devs : List Int
  /-- Schedule entries whose slot is settled in this cycle. -/
  done : List Nat
  /-- IDs that clashed in this cycle, hops that delivered a good reply, and hops that did not. -/
  clashed : List Nat
  goodHops : List Nat
  badHops : List Nat
  babbled : Bool
  /-- The active copy of CBC_SEGs_CTL's shadowed fields (R233). -/
  ctl : Word
  reqs : List CbReq
  /-- Frames sent in this cycle or since start-up began, newest first: LT of the /S/ and bytes. -/
  line : List (Nat × List Byte)
deriving DecidableEq, Repr

/-! ## CAN channels (chapter 09) -/

/-- An entry of a transmit queue (R267 to R271). -/
structure CanEnt where
  w0 : Word
  w1 : Word
  tag : Nat
  addr : Nat
  /-- Cyclic message it came from. -/
  cyc : Option Nat
  /-- The payload once it is captured or fetched. -/
  data : Option (List Byte)
  attempts : Nat
  /-- LT in ns at the SOF of the latest attempt. -/
  sof : Nat
  /-- A cancel arrived too late for the attempt on the bus (R270). -/
  late : Bool
deriving DecidableEq, Repr

/-- A channel beyond its registers. -/
structure CanCh where
  /-- Staged descriptor words 0 and 1 by initiator. -/
  stage : List (Nat × (Word × Word))
  queue : List CanEnt
  /-- Records were lost since the last one: FIFO 0, FIFO 1, transmit events (R277). -/
  gap0 : Bool
  gap1 : Bool
  gapT : Bool
  /-- CANn_CYCk as they took effect at the latest boundary, and the messages triggered since. -/
  cyc : List (Nat × Word)
  fired : List Nat
  recovering : Bool
  /-- Frames sent, newest first: descriptor words 0 and 1, payload. -/
  wire : List (Word × Word × List Byte)
  /-- LT in ns of the latest switch of the filter bank (R274). -/
  switched : Option Nat
deriving DecidableEq, Repr

/-! ## Pawn engines (chapter 10) -/

/-- A Pawn engine beyond its registers (R285, R290). -/
structure PawnSt where
  a : BitVec 32
  b : BitVec 32
  sh : BitVec 32
  bc : Nat
  /-- Direction and output bits of the output group. -/
  dir : BitVec 8
  out : BitVec 8
  tx : List (BitVec 32)
  rx : List (BitVec 32)
  /-- The input group at the engine's previous tick; none before the first. -/
  prev : Option (BitVec 8)
  /-- The divider's accumulator. -/
  acc : Nat
  /-- SWAP_NOW waits for the next tick (R296). -/
  swapNow : Bool
  /-- The output link has triggered in this cycle. -/
  fired : Bool
deriving DecidableEq, Repr

/-! ## Axis control (chapter 11) -/

/-- A stop ramp (R327): p, the carried fraction f, v. -/
structure Ramp where
  p : Int
  f : Int
  v : Int
deriving DecidableEq, Repr

/-- A sample in flight: everything its completion leaves (R315, R324 to R327). -/
structure AxSample where
  /-- LT at dispatch, and at the end of the 1,440 CLK_ENG cycles that follow (R26). -/
  start : Nat
  ends : Nat
  x : Option Int
  e : Option Int
  i : Int
  vf : Int
  isat : Bool
  osat : Bool
  arith : Bool
  w0 : Word
  w1 : Word
  ramp : Option Ramp
  still : Nat
  stop : Nat
  /-- R and V_SET when the sample ran R315 with ENABLE = 1 under host setpoints. -/
  prev : Option (Int × Int)
deriving DecidableEq, Repr

/-- An axis beyond its registers (R309 to R329). STOP_STATE, HIST and the run counts are fields of
ACE_AXk_STAT. -/
structure AxSt where
  /-- ACE_AXk_TIME and ACE_AXk_STOP as they took effect at the latest boundary (R335). -/
  time : Word
  stop : Word
  /-- LT of the latest write to the pair, and what the pair held before the writes of that CLK_TIME cycle (R335). -/
  wrote : Option (Nat × Word × Word)
  h0 : Int
  h1 : Int
  h2 : Int
  /-- Cycle number of h0. -/
  h0c : Nat
  i : Int
  vf : Int
  /-- A cycle's sample was abandoned and none has completed since (R322). -/
  broken : Bool
  /-- The counted landing of the cycle: LT and word 0 of the item (R318). -/
  land : Option (Nat × Word)
  /-- The deadline has passed with no landing. -/
  ext : Bool
  /-- The cycle's sample: 0 none, 1 in flight, 2 complete, 3 abandoned. -/
  phase : Nat
  sample : Option AxSample
  ramp : Option Ramp
  still : Nat
  prev : Option (Int × Int)
  /-- The item last written since EN was set (R324). -/
  last : Option (Word × Word)
  /-- The active bank has an uncorrectable error (R532). -/
  bankBad : Bool
deriving DecidableEq, Repr

/-- A lane: its round-robin pointer and the LT at which it last accepted an axis (R319). -/
structure LaneSt where
  ptr : Nat
  last : Option Nat
deriving DecidableEq, Repr

/-- The ACE. -/
structure AceSt where
  axes : List (Nat × AxSt)
  lanes : List (Nat × LaneSt)
  /-- Axes named at the pending APPLY, and whether its check has passed (R331). -/
  mask : Nat
  checked : Bool
  /-- DCP runs that wait for the APPLY and the COPY. -/
  applyReply : Option Nat
  /-- Samples since the first SAFESTOP cycle (R327). -/
  ssN : Nat
  /-- ACE_DL has acted in this cycle. -/
  dlDone : Bool
  /-- The axis that the running COPY names (R333). -/
  copyAxis : Nat
deriving DecidableEq, Repr

/-! ## Mailboxes and packet queues (chapter 15) -/

/-- A packet of a queue unit: its number, its bytes, and whether it is being dropped (R439 to R443). -/
structure Packet where
  seq : Nat
  bytes : List Byte
  dropped : Bool
  /-- A dropped packet already counted because it overran the ring (R442). -/
  counted : Bool
deriving DecidableEq, Repr

/-- A packet queue unit beyond PQk_STAT and PQk_IDX (R438 to R446). -/
structure PqSt where
  /-- Packets opened since the unit last entered STARTING. -/
  opened : Nat
  /-- The open packet. -/
  cur : Option Packet
  /-- Packets whose commit waits for a region's verdict, oldest first (R441). -/
  deferred : List Packet
  /-- Number of the first packet dropped awaiting a gap marker (R443). -/
  gapFirst : Nat
  /-- The next item written is the first after a FLUSH (R443). -/
  flushed : Bool
deriving DecidableEq, Repr

/-- The MQF (R424 to R448). -/
structure MqfSt where
  /-- Pair sequence counts, keyed 64 × sender + receiver (R427). -/
  pairSeq : List (Nat × Nat)
  /-- Semaphore holders: 0 free, otherwise agent + 1 (R436). -/
  sems : List (Nat × Nat)
  /-- Mailboxes whose timeout runs (R427, R430). -/
  timing : List (Nat × Bool)
  pq : List (Nat × PqSt)
deriving DecidableEq, Repr

/-! ## Safety island (chapter 12) -/

/-- A parameter record (R362): ID, INDEX, VALUE. -/
structure SfiRec where
  id : Nat
  idx : Nat
  val : Nat
deriving DecidableEq, Repr

/-- A parameter set with its FSCRC and version (R363). -/
structure SfiSet where
  recs : List SfiRec
  fscrc : Nat
  version : Nat
deriving DecidableEq, Repr

/-- A safe input pair (R343 to R346). -/
structure SfiPair where
  run : Nat
  latched : Bool
  seenSafe : Bool
  tpFault : Bool
  /-- Channels that have passed a pulse check since TP_FAULT set. -/
  passA : Bool
  passB : Bool
  /-- Consecutive ticks released, for the acknowledge event (R345). -/
  press : Nat
  released : Bool
deriving DecidableEq, Repr

/-- A DSL connection at the SFI (R355 to R357). Ticks count time. -/
structure SfiConn where
  /-- State of Table R356. -/
  st : Nat
  last : Option Nat
  okRun : Nat
  /-- Tick of the last accepted DATA, or of entry into START. -/
  since : Nat
  fs : Bool
  data : List Byte
  /-- Ticks of the CRC failures of the last 1,000 ticks, newest first. -/
  crcTicks : List Nat
  lastErr : Nat
  crcErr : Nat
  seqErr : Nat
  wdExp : Nat
  fmtErr : Nat
  /-- Production: begun, SEQ of the current PDU, START PDUs still to send, the current PDU. -/
  prod : Bool
  txSeq : Nat
  starts : Nat
  pdu : List Byte
deriving DecidableEq, Repr

/-- An axis as the SFI supervises it (R365 to R369). -/
structure SfiAxis where
  /-- State of Table R366, and the tick of entry. -/
  st : Nat
  ent : Nat
  /-- |v| and position at entry. -/
  v0 : Nat
  x0 : Int
  /-- The ramp of an SS1 or SS2 request that still stands has ended. -/
  ended1 : Bool
  ended2 : Bool
  sdiRef : Option Int
  viol : Bool
  violFn : Nat
  /-- The latched violation leads to STO. -/
  violSto : Bool
  /-- Tick since which AXIS_CMD.STO is 1. -/
  stoAt : Option Nat
  /-- Tick since which the STO function is requested, for STO_ACK; the drive has reported since. -/
  ackFrom : Option Nat
  acked : Bool
  sbc : Bool
  drvSto : Bool
  referenced : Bool
  active : Nat
  slsSel : Nat
  vel : Int
deriving DecidableEq, Repr

/-- The safety island (R336 to R374). -/
structure SfiSt where
  /-- STATE of SFI_STAT. -/
  st : Nat
  cause : Nat
  /-- The mode sampled at the tick start (R341). -/
  seen : Nat
  par : SfiSet
  /-- A committed set that activates at the next tick. -/
  next : Option SfiSet
  /-- The download under way: TOTAL and the records that have arrived. -/
  load : Option (Nat × List SfiRec)
  /-- The parameter channel (R362). -/
  chan : SfiConn
  tick : Nat
  /-- LT, in units of 2^−32 ns, of the latest tick start. -/
  tickAt : Nat
  /-- A tick is under way, and its outputs have still to be switched. -/
  inTick : Bool
  due : Bool
  raw : Nat
  readback : Nat
  pairs : List (Nat × SfiPair)
  conns : List (Nat × SfiConn)
  axes : List (Nat × SfiAxis)
  zDemand : Nat
  zWait : Nat
  /-- Ticks the acknowledge signal of a connection has been released; an event fell in this tick. -/
  press : Nat
  ack : Bool
  /-- Output pairs: wanted energised by this tick, energised, PAIR_FAULT. -/
  want : Nat
  on : Nat
  fault : Nat
  /-- The global stop demand, and the line to the mode logic. -/
  gstop : Bool
  line : Bool
  /-- The cut line de-energises every safe output (R339). -/
  cut : Bool
  /-- Captured PDUs of PI inputs by connection (R359). -/
  captures : List (Nat × Option (List Byte))
  /-- The relay window's slots in use: connection and PDU, oldest first (R360). -/
  rx : List (Nat × List Byte)
  tx : List (Nat × List Byte)
  cntDisc : Nat
  cntTp : Nat
  cntWd : Nat
  cntViol : Nat
  /-- Energised channels 2q + b with the LT at which their latest test pulse began (R348). -/
  pulses : List (Nat × Nat)
  /-- Words of the SRAMs of Bishop A and B in which an uncorrectable error was found: core and word (R336, R339). -/
  ramBad : List (Nat × Nat)
deriving DecidableEq, Repr

/-! ## Dapex Command Protocol (chapter 14) -/

/-- The outcome of a command: STATUS (Table R418) and reply payload. -/
structure DcpResult where
  status : Nat
  reply : List Byte
deriving DecidableEq, Repr

/-- A command that has been fetched (R402, R405). Slots 0 to 23 are queue 4p + q, slot 24 the frame
channel of R410. -/
structure DcpRun where
  slot : Nat
  part : Nat
  opcode : Nat
  flags : Nat
  tag : Nat
  len : Nat
  seq : Nat
  raddr : Nat
  payload : List Byte
  /-- The checks of R405 have been made (R408: a command may wait before that). -/
  started : Bool
  gap : Bool
  /-- No completion is posted: PARTITION_RESET ended the queue (R419). -/
  silent : Bool
  /-- The outcome once known; the completion has still to be posted. -/
  result : Option DcpResult
deriving DecidableEq, Repr

/-- A record of the connection registry (R413). -/
structure ConnRec where
  unit : Nat
  dir : Nat
  agent : Nat
  len : Nat
  off : Nat
deriving DecidableEq, Repr

/-- A stored configuration area (Table R521): register values, registry, relay table and SWC tables. -/
structure StoredCfg where
  regs : List (Nat × Word)
  conns : List (Nat × Option ConnRec)
  relay : List (Nat × List Byte)
  tables : SwTables
deriving DecidableEq, Repr

/-- A command frame that waits (R410): source address, VLAN tags, command header and payload. -/
structure DcpFrame where
  src : Nat
  vlan : List Byte
  body : List Byte
deriving DecidableEq, Repr

/-- The MGP's command processing and what it keeps (R398 to R423, R587, R588). -/
structure DcpSt where
  runs : List DcpRun
  /-- Slot served last (R407). -/
  rr : Nat
  /-- Passes through the CQ since EN was set, by slot (R402). -/
  pass : List (Nat × Nat)
  frames : List DcpFrame
  /-- Source and tags of the frame command that runs. -/
  frameOf : Option DcpFrame
  /-- Bit p: partition p may issue G commands (R415). -/
  grants : Nat
  conns : List (Nat × Option ConnRec)
  /-- Safe value of a connection; the empty list stands for all zeros (R414). -/
  safe : List (Nat × List Word)
  /-- Stored configuration, if a valid copy exists (R411, R554). -/
  stored : Option StoredCfg
  /-- Stored SYSCTL_MODE_CFG, SYSCTL_FAULT_CFG and SEC_TAMPER_CFG, if valid (R68, R546). -/
  storedMode : Option (Word × Word × Word)
  /-- The stored safety parameter set, if a copy passes its CRC (R363). -/
  storedSafe : Option SfiSet
  /-- User calibration values by 256 × item + index (R417). -/
  cal : List (Nat × Option Nat)
  /-- PTP configuration by domain (PTP_SET). -/
  ptp : List (Nat × List Byte)
  /-- ETH relay entries by SFI connection (R360). -/
  relay : List (Nat × List Byte)
  /-- MGP firmware is being restarted (R529), and LT in ns of the watchdog expiries, newest first. -/
  restarting : Bool
  expiries : List Nat
deriving DecidableEq, Repr

end Sys2Proof.Machine
end

