-- ==== Sys2Proof/Machine/State.lean ====
section
/-! DEFINITION. The state of the block, as plain data, the reasons a command can stop, and the machine
right after reset. -/

namespace Sys2Proof.Machine

/-- The block has no fault: the spec lets no command and no access stop it (R547, R548, R383, R505
answer every access; every trap, halt and refusal is a state). So this type has no constructor. -/
inductive Fault where
deriving DecidableEq, Repr

/-- Why a command is not executed. -/
inductive Refusal where
  /-- Raised by exec for a command that has no meaning yet. Safe: nothing is claimed of it. -/
  | notModelled (mnemonic : String)
deriving DecidableEq, Repr

/-- The state of the block. -/
structure State where
  /-- Commands waiting, first in, first out. -/
  pending : List Instr
  /-- The ordering code (R1): false DPX9960-A, true DPX9960-S. -/
  variantS : Bool
  /-- The model's own counter of free values. -/
  free : Nat
  /-- Every register, keyed by Rhizome address; unlisted: at its reset value. -/
  regs : List (Nat × Word)
  /-- Shared SRAM by byte offset (R498); unlisted: 0. -/
  sram : List Host.Cell
  /-- MRAM image slots and factory area by byte offset (R520); unlisted: 0. -/
  mram : List Host.Cell
  /-- Rook memories (I-space, D-space, buffers) by their Rhizome-side address; unlisted: 0. -/
  pmem : List Host.Cell
  pendMode : Option PendMode
  /-- LT, in units of 2^−32 ns, at the latest mode change (R52). -/
  modeAt : Nat
  boot : BootSt
  crp : CrpSt
  mem : MemSt
  /-- Event log ring, newest record first (R541). -/
  evlog : List EventRec
  /-- Records not written since the last one (R542). -/
  evLost : Nat
  xspi : List (Nat × XspiPort)
  parts : List (Nat × PartSt)
  /-- MSI-X messages sent: function and vector, newest first (R395). -/
  msix : List (Nat × Nat)
  /-- Writes into host memory, newest first: partition, bus address, bytes (R390, R398). -/
  dma : List (Nat × Nat × List Byte)
  ntu : NtuSt
  image : ImageSt
  epc : List (Nat × EpcPort)
  swc : SwcSt
  rooks : List (Nat × RookSt)
  /-- The PEA's connection map (R210). -/
  cmap : List (Nat × Word)
  cbc : List (Nat × CbSeg)
  can : List (Nat × CanCh)
  pawns : List (Nat × PawnSt)
  ace : AceSt
  sfi : SfiSt
  mqf : MqfSt
  dcp : DcpSt
  /-- The value the last read returned to its initiator: the block's read data output. -/
  readData : Word
  /-- The bytes that the last memory read returned to its initiator (R378, R380). -/
  readBytes : List Byte
  /-- The completion of the last read through PCIe is poisoned: EP is set (R533). -/
  readPoison : Bool
deriving DecidableEq, Repr

def BootSt.reset : BootSt :=
  ⟨false, false, false, 0, 2, 0, 0, none, false, some 0, 2, false, [], none, [], 0, 0, 0, 0, 2, 0,
   1, 0, 0, [], false, [], 0⟩

def CrpSt.reset : CrpSt := ⟨false, false, false, false, 0, false, false, 0, 0, false⟩

def MemSt.reset : MemSt := ⟨[], [], false, false, [], false, [], []⟩

def XspiPort.reset : XspiPort := ⟨false, false, false, false, false, 0⟩

def PartSt.reset : PartSt := ⟨[], 0, false, false, 0⟩

def CycBank.reset : CycBank := ⟨1000000, 25, 0, false, [0, 0, 0, 0, 0, 0, 0, 0]⟩

def CycSt.reset : CycSt := ⟨CycBank.reset, 0, 0, 0, false, none, none, true, [], none, 0, 0⟩

def ImageSt.reset : ImageSt := ⟨0, 0, false, 0, 0⟩

def TdSt.reset : TdSt := ⟨0, 0, none, none, 0, 0, 0, 0⟩

def NtuSt.reset : NtuSt := ⟨0, TdSt.reset, TdSt.reset, 0, 0, CycSt.reset, 0x800, false, false, none, []⟩

def PqSt.reset : PqSt := ⟨0, none, [], 0, false⟩

def EpcPort.reset : EpcPort := ⟨none, 0, 0, 0, [], false⟩

def EthFrame.blank : EthFrame :=
  { bytes := [], bad := false, aborted := false, ingress := 0, born := 0, gen := 0, bt := 0, ct := false, tc := false,
    pgen := 0, ts := none, tsReq := false, tag := 0, origin := none, cls := 0, stream := none, tcam := none,
    rlist := none, gate := none, egress := 0, rtag := none, rtagPorts := 0, ctPorts := 0, res := 0, pool := 0,
    sent := false, mirs := [], stamp := none, stampOut := false }

def SwTables.reset : SwTables := ⟨[], [], [], [], [], [], [], []⟩

def MeterSt.reset : MeterSt := ⟨0, 0, 0, true, false⟩

def FrerSt.reset : FrerSt := ⟨0, 0, [], true, 0⟩

def SwcSt.reset : SwcSt :=
  { tables := SwTables.reset, genAbs := 0, versions := [], changed := [], batch := [], meters := [], frers := [],
    resets := [], blocked := [], pgen := 0, pold := [], ageAt := 0, arrived := [], frames := [], nextId := 0,
    queues := [], headAt := [], tx := [], held := [], gcl := [], gclPos := [], credit := [], creditAt := [],
    learnAt := none, recovering := false, txDone := [], hp := [], mp := [], wire := [], epRx := [] }

def PcrcCfg.reset : PcrcCfg := ⟨0, 0, 0, 0⟩

def RxBuf.reset : RxBuf := ⟨false, [], 0, 0, 0, false, 0, 0, 0, none, 0, none, false, false, PcrcCfg.reset⟩

def TxBuf.reset : TxBuf := ⟨[], 0, 0, false, 0, false, 0, 0⟩

def RookSt.reset : RookSt :=
  ⟨[], 0, 0, 0, false, 0, 0, 0, 0, 0, 0, 0, 0, [], [], none, [], none, false, 0, 0, 0, 0, RxBuf.reset, RxBuf.reset, 0, 0,
   PcrcCfg.reset, 0, TxBuf.reset, TxBuf.reset, [], none, 0, 0, 0, none, false, false⟩

def CbNode.reset : CbNode := ⟨false, false, false, false, false, 0, 0, 0, 0⟩

/-- The active shadowed fields are those of CBC_SEGs_CTL's reset value. -/
def CbSeg.reset : CbSeg :=
  ⟨false, 0, 0, false, 0, 0, [], [], 0, false, 0, false, false, 0, 0, 0, 0, 0, 0, [], [], [], [], [], false,
   0x3FE0300600, [], []⟩

def CanCh.reset : CanCh := ⟨[], [], false, false, false, [], [], false, [], none⟩

def PawnSt.reset : PawnSt := ⟨0, 0, 0, 0, 0, 0, [], [], none, 0, false, false⟩

/-- TIME and STOP at the reset values of their registers. -/
def AxSt.reset : AxSt :=
  ⟨0x4000000000000000, 0x0010040000000000, none, 0, 0, 0, 0, 0, 0, false, none, false, 0, none, none, 0, none, none, false⟩

def LaneSt.reset : LaneSt := ⟨0, none⟩

def AceSt.reset : AceSt := ⟨[], [], 0, false, none, 0, false, 0⟩

def MqfSt.reset : MqfSt := ⟨[], [], [], []⟩

def SfiPair.reset : SfiPair := ⟨0, false, false, false, false, false, 0, false⟩

def SfiConn.reset : SfiConn := ⟨0, none, 0, 0, false, [], [], 0, 0, 0, 0, 0, false, 0, 0, []⟩

/-- An axis is in STO until the SFI lets it leave (R369). -/
def SfiAxis.reset : SfiAxis :=
  ⟨4, 0, 0, 0, false, false, none, false, 0, false, none, none, false, false, false, false, 0, 0, 0⟩

def SfiSt.reset : SfiSt :=
  ⟨0, 0, 0, ⟨[], 0, 0⟩, none, none, SfiConn.reset, 0, 0, false, false, 0, 0, [], [], [], 0, 0, 0, false, 0, 0, 0,
   false, false, false, [], [], [], 0, 0, 0, 0, [], []⟩

def DcpSt.reset : DcpSt :=
  ⟨[], 0, [], [], none, 0, [], [], none, none, none, [], [], [], false, []⟩

/-- The machine right after reset: no register is listed, so each reads the reset value of its table (R553). What no
register table shows has values that the model names (DESIGN CHOICE, log 2, 3 and 5). -/
def State.reset : State :=
  { pending := [], variantS := true, free := 0, regs := [], sram := [], mram := [], pmem := [],
    pendMode := none, modeAt := 0, boot := BootSt.reset, crp := CrpSt.reset, mem := MemSt.reset, evlog := [], evLost := 0,
    xspi := [], parts := [], msix := [], dma := [], ntu := NtuSt.reset, image := ImageSt.reset,
    epc := [], swc := SwcSt.reset, rooks := [], cmap := [], cbc := [], can := [], pawns := [], ace := AceSt.reset, sfi := SfiSt.reset, mqf := MqfSt.reset, dcp := DcpSt.reset, readData := 0, readBytes := [], readPoison := false }

end Sys2Proof.Machine
end

