-- ==== Sys2Proof/Machine/Ops.lean ====
section
/-! DEFINITION. The named operations every family uses: registers and fields, saturating counters,
memories, free values, event log, host events, configuration errors, mode requests and power. -/

namespace Sys2Proof.Machine

/-! ## The parts of the state, replaced one at a time -/

def State.putPending (s : State) (v : List Instr) : State := { s with pending := v }
def State.putVariantS (s : State) (v : Bool) : State := { s with variantS := v }
def State.putFree (s : State) (v : Nat) : State := { s with free := v }
def State.putRegs (s : State) (v : List (Nat × Word)) : State := { s with regs := v }
def State.putSram (s : State) (v : List Host.Cell) : State := { s with sram := v }
def State.putMram (s : State) (v : List Host.Cell) : State := { s with mram := v }
def State.putPmem (s : State) (v : List Host.Cell) : State := { s with pmem := v }
def State.putPendMode (s : State) (v : Option PendMode) : State := { s with pendMode := v }
def State.putModeAt (s : State) (v : Nat) : State := { s with modeAt := v }
def State.putBoot (s : State) (v : BootSt) : State := { s with boot := v }
def State.putCrp (s : State) (v : CrpSt) : State := { s with crp := v }
def State.putMem (s : State) (v : MemSt) : State := { s with mem := v }
def State.putEvlog (s : State) (v : List EventRec) : State := { s with evlog := v }
def State.putEvLost (s : State) (v : Nat) : State := { s with evLost := v }
def State.putXspi (s : State) (v : List (Nat × XspiPort)) : State := { s with xspi := v }
def State.putParts (s : State) (v : List (Nat × PartSt)) : State := { s with parts := v }
def State.putMsix (s : State) (v : List (Nat × Nat)) : State := { s with msix := v }
def State.putDma (s : State) (v : List (Nat × Nat × List Byte)) : State := { s with dma := v }
def State.putNtu (s : State) (v : NtuSt) : State := { s with ntu := v }
def State.putImage (s : State) (v : ImageSt) : State := { s with image := v }
def State.putEpc (s : State) (v : List (Nat × EpcPort)) : State := { s with epc := v }
def State.putSwc (s : State) (v : SwcSt) : State := { s with swc := v }
def State.putRooks (s : State) (v : List (Nat × RookSt)) : State := { s with rooks := v }
def State.putCmap (s : State) (v : List (Nat × Word)) : State := { s with cmap := v }
def State.putCbc (s : State) (v : List (Nat × CbSeg)) : State := { s with cbc := v }
def State.putCan (s : State) (v : List (Nat × CanCh)) : State := { s with can := v }
def State.putPawns (s : State) (v : List (Nat × PawnSt)) : State := { s with pawns := v }
def State.putAce (s : State) (v : AceSt) : State := { s with ace := v }
def State.putSfi (s : State) (v : SfiSt) : State := { s with sfi := v }
def State.putMqf (s : State) (v : MqfSt) : State := { s with mqf := v }
def State.putDcp (s : State) (v : DcpSt) : State := { s with dcp := v }
def State.putReadData (s : State) (v : Word) : State := { s with readData := v }
def State.putReadBytes (s : State) (v : List Byte) : State := { s with readBytes := v }
def State.putReadPoison (s : State) (v : Bool) : State := { s with readPoison := v }

/-! ## Registers -/

/-- The register at address `a`. -/
def State.reg (s : State) (a : Nat) : Word := mapGet regReset s.regs a

/-- The state with `v` in the register at `a`. -/
def State.setReg (s : State) (a : Nat) (v : Word) : State := s.putRegs (mapPut regReset s.regs a v)

/-- A field's value, unsigned. -/
def State.rd (s : State) (f : Fld) : Nat := bitsOf (s.reg f.addr) f.hi f.lo

/-- A field's value, two's complement (R6). -/
def State.rdI (s : State) (f : Fld) : Int := signed f.width (s.rd f)

/-- A one-bit field as a Bool. -/
def State.bit (s : State) (f : Fld) : Bool := s.rd f == 1

/-- Write a field: its other bits keep their values. -/
def State.wr (s : State) (f : Fld) (v : Nat) : State :=
  s.setReg f.addr (putBits (s.reg f.addr) f.hi f.lo v)

/-- Write a one-bit field. -/
def State.wrB (s : State) (f : Fld) (b : Bool) : State := s.wr f (b2n b)

/-- Write a signed field, saturating where the value does not fit. -/
def State.wrI (s : State) (f : Fld) (v : Int) : State := s.wr f (unsign f.width (satSigned f.width v))

/-- Add `n` to a saturating counter field. -/
def State.incBy (s : State) (f : Fld) (n : Nat) : State := s.wr f (satUnsigned f.width (s.rd f + n))

/-- Add 1 to a saturating counter field. -/
def State.inc (s : State) (f : Fld) : State := s.incBy f 1

/-- Add 1 to a counter field that wraps. -/
def State.incWrap (s : State) (f : Fld) : State := s.wr f (s.rd f + 1)

/-- Set the bits `m` of a field (W1S style, or a status latch). -/
def State.orF (s : State) (f : Fld) (m : Nat) : State := s.wr f (s.rd f ||| m)

/-- The registers whose address satisfies `p` return to their reset values (R553). -/
def State.resetRegs (s : State) (p : Nat → Bool) : State :=
  s.putRegs (s.regs.filter fun e => !p e.1)

/-! ## Memories -/

/-- An unlisted byte of a memory reads 0: banks are zeroed at start (Table R454, step 0x08). -/
def memByte (m : List Host.Cell) (a : Nat) : Byte := mapGet (fun _ => (0 : Byte)) m a

def memPut (m : List Host.Cell) (a : Nat) (b : Byte) : List Host.Cell := mapPut (fun _ => (0 : Byte)) m a b

/-- `n` bytes from `a` up. -/
def memBytes (m : List Host.Cell) (a : Nat) : Nat → List Byte
  | 0 => []
  | n + 1 => memByte m a :: memBytes m (a + 1) n

/-- Bytes stored from `a` up. -/
def memPutBytes (m : List Host.Cell) (a : Nat) : List Byte → List Host.Cell
  | [] => m
  | b :: t => memPutBytes (memPut m a b) (a + 1) t

/-- The canonical form of a memory. -/
def memWf (m : List Host.Cell) : Bool := mapWf (fun _ => (0 : Byte)) m

/-- The 64-bit little-endian word at `a` (R7). -/
def memWord (m : List Host.Cell) (a : Nat) : Word := BitVec.ofNat 64 (natOfLE (memBytes m a 8))

def memPutWord (m : List Host.Cell) (a : Nat) (w : Word) : List Host.Cell :=
  memPutBytes m a (bytesLE 8 w.toNat)

/-! ## Free values -/

/-- The next free value and the state with the counter advanced. -/
def State.takeFree (s : State) : Word × State := (Config.freeValue s.free, (s.putFree (s.free + 1)))

/-! ## Time -/

/-- LT in ns (R69). -/
def State.ltNs (s : State) : Nat := s.ntu.lt / 2 ^ 32

/-! ## Power domains (R485, R486) -/

def State.domState (s : State) (d : Nat) : Nat := s.rd (CRP_PD_STAT_STATE d)

/-- A domain is ON. -/
def State.domOn (s : State) (d : Nat) : Bool := s.domState d == 2

/-- The domain that holds the register at `a` is ON (R548). -/
def State.powered (s : State) (a : Nat) : Bool := s.domOn (domOf a)

/-! ## Mode (R40) -/

def State.mode (s : State) : Nat := s.rd SYSCTL_MODE_MODE

/-- SAFEOP, OP or SAFESTOP. -/
def State.cyclicMode (s : State) : Bool := s.mode == 6 || s.mode == 7 || s.mode == 9

/-- SAFEOP or OP. -/
def State.liveMode (s : State) : Bool := s.mode == 6 || s.mode == 7

/-- The unit present: the SFI is absent on the DPX9960-A (R2). -/
def State.sfiHere (s : State) : Bool := s.variantS

/-! ## Host events (R394, R395) -/

/-- Event source `src` of partition `p` is signalled: pending and not masked. -/
def State.signalled (s : State) (p src : Nat) : Bool :=
  bitAt (s.rd (HIC_PARTp_IRQ_PEND p)) src && !bitAt (s.rd (HIC_PARTp_IRQ_MASK p)) src

/-- The MSI-X vector of source `src` (R395). -/
def State.vecOf (s : State) (p src : Nat) : Nat :=
  if src < 8 then s.rd (HIC_PARTp_IVEC0_VEC p src) else s.rd (HIC_PARTp_IVEC1_VEC p (src - 8))

/-- The PCIe link of this start did not train: no access of partitions 0 to 3 arrives (R455). -/
def State.pcieDead (s : State) (p : Nat) : Bool := decide (p < 4) && s.boot.skipped.contains 4

/-- Set a partition's event bit; partitions 0 to 3 send their MSI-X vector when the event becomes
signalled (R394, R395). The HIC's registers hold nothing while PD_HOST is not ON (R548). -/
def State.raiseEvent (s : State) (p src : Nat) : State :=
  if !s.domOn 3 then s
  else
    let was := s.signalled p src
    let s1 := s.orF (HIC_PARTp_IRQ_PEND p) (2 ^ src)
    if s1.signalled p src && !was && decide (p < 4) && !s.pcieDead p then
      s1.putMsix ((p, s1.vecOf p src) :: s1.msix)
    else s1

/-- HSP0_INT_N or HSP1_INT_N is low: any event of partition 4 or 5 is signalled (R395). -/
def State.hspIntLow (s : State) (p : Nat) : Bool := (List.range 13).any fun src => s.signalled p src

/-! ## Unit interrupt status and configuration errors (R550, R551) -/

/-- Set ISTAT bits of the unit at `base`; a unit with an unmasked bit raises UNIT of partition 0. -/
def State.setIstat (s : State) (base m : Nat) : State :=
  let s1 := s.orF (cISTAT base) m
  if s1.rd (cISTAT base) &&& (2 ^ 64 - 1 - s1.rd (cIMASK base)) != 0 then s1.raiseEvent 0 12 else s1

/-- A write at `addr` was refused: CFG_ERR of its unit sets, and CFG_ERR_OFF takes the offset of the
first refusal since CFG_ERR was cleared (R551). -/
def State.cfgErr (s : State) (addr : Nat) : State :=
  match unitAt addr with
  | none => s
  | some u =>
    let s1 := if s.bit (cUSTAT_CFG_ERR u.base) then s else s.wr (cUSTAT_CFG_ERR_OFF u.base) (addr - u.base)
    s1.wrB (cUSTAT_CFG_ERR u.base) true

/-! ## Event log (R541, R542) -/

/-- SEQ of the next record: it succeeds that of the newest one (R541). -/
def State.nextSeq (s : State) : Nat :=
  match s.evlog.head? with
  | none => 0
  | some e => (e.seq + 1) % 2 ^ 32

/-- The record was written in this start at most `ns` before `time`. -/
def State.loggedWithin (s : State) (e : EventRec) (time ns : Nat) : Bool :=
  e.start == s.boot.startNo && decide (e.time ≤ time) && decide (time < e.time + ns)

/-- One record at the head of the log. -/
def State.logPush (s : State) (code unit cls detail time : Nat) : State :=
  let r : EventRec := ⟨s.nextSeq, s.boot.startNo, time, code, unit, cls, s.mode, detail⟩
  (s.wr SYSCTL_EVLOG_NEXT_SEQ ((r.seq + 1) % 2 ^ 32)).putEvlog ((r :: s.evlog).take 28672)

/-- The log writes at most 1,000 records per second, merges a repeat of one CODE and UNIT within 10 ms,
and follows a loss with a LOG_OVERFLOW record (R542). -/
def State.logRec (s : State) (code unit cls detail time : Nat) : State :=
  let same := s.evlog.any fun e => e.code == code && e.unit == unit && s.loggedWithin e time 10000000
  let recent := (s.evlog.filter fun e => s.loggedWithin e time 1000000000).length
  if same && decide (0 < time) then s.inc SYSCTL_EVLOG_MERGED
  else if decide (1000 ≤ recent) && decide (0 < time) then
    (s.inc SYSCTL_EVLOG_OVERFLOW).putEvLost (s.evLost + 1)
  else
    let s1 := if s.evLost = 0 then s else (s.logPush 0x0FFF (unitCode uSYSCTL) 0 s.evLost time).putEvLost 0
    s1.logPush code unit cls detail time

/-- Log an event of the unit at `base` at the present LT. -/
def State.logEvent (s : State) (code base cls detail : Nat) : State :=
  s.logRec code (unitCode base) cls detail s.ltNs

/-! ## Mode requests (R48 to R51, R526) -/

/-- The transition from `a` to `b` waits for a cycle boundary: into or out of SAFEOP, OP or SAFESTOP
(R48). -/
def waitsBoundary (a b : Nat) : Bool :=
  let c := fun m => m == 6 || m == 7 || m == 9
  c a || c b

/-- The error detail that names nothing (R403). -/
def noDetail : List Byte := [0xFF, 0xFF, 0, 0, 0xFF, 0xFF, 0xFF, 0xFF]

/-- The command started in `slot` has its outcome; its completion is still to be posted (R402). A failure
without a detail of its own carries one that names nothing (R403). -/
def State.dcpResult (s : State) (slot status : Nat) (reply : List Byte) : State :=
  let reply := if status != 0 && reply.isEmpty then noDetail else reply
  s.putDcp { s.dcp with runs := s.dcp.runs.map fun r =>
      if r.slot = slot ∧ r.result = none then { r with result := some ⟨status, reply⟩ } else r }

/-- Accept a transition: PENDING, TARGET (R49). A pending transition of lower rank is withdrawn (R50);
one of equal or higher rank (a smaller number) stands and the new trigger has no effect. The reply of a
withdrawn MODE_SET carries SUPERSEDED. -/
def State.acceptMode (s : State) (target cause rank : Nat) (reply : Option Nat) : State :=
  let go : State :=
    (s.putPendMode (some ⟨target, cause, rank, reply, s.ltNs⟩)) |>.wr SYSCTL_MODE_TARGET target
      |>.wrB SYSCTL_MODE_PENDING true
  match s.pendMode with
  | none => go
  | some p =>
    if rank < p.rank then (match p.reply with | none => go | some slot => go.dcpResult slot 0x0206 [])
    else s

/-- A fault of source `src` of Table R526: SEEN in any mode; with its STOP_EN bit it is logged, and in SAFEOP or OP it
is a fault requiring a safe stop, a trigger of rank 4 with CAUSE FAULT (R526). -/
def State.safeStopFault (s : State) (src : Nat) : State :=
  let s1 := s.orF SYSCTL_FAULT_STAT_SEEN (2 ^ src)
  if !bitAt (s1.rd SYSCTL_FAULT_CFG_STOP_EN) src then s1
  else if s1.liveMode then
    let s2 := (s1.wr SYSCTL_FAULT_STAT_LAST_SRC src).inc SYSCTL_FAULT_STAT_STOP_COUNT
    (s2.logEvent 0x0020 uSYSCTL 3 src).acceptMode 9 0x0B 4 none
  else s1.logEvent 0x0020 uSYSCTL 3 src

/-! ## Agents (R375, R425) -/

/-- Agent indices of Table R424: 0 to 5 the partitions, 6 the MGP, 7 the SFI, 8 the ACE, 9 + n Rook n. -/
def agMGP : Nat := 6
def agSFI : Nat := 7
def agACE : Nat := 8
def agRook (n : Nat) : Nat := 9 + n

/-! ## Shared SRAM on the fabric (R499, R505, R508, R509) -/

/-- State of bank `b` (Table R503): 0 OFF, 1 ON, 2 RETENTION, 3 CHANGING; OFF while PD_MEM is not ON. -/
def State.bankState (s : State) (b : Nat) : Nat :=
  if !s.domOn 9 then 0 else s.rd (MEM_BANK_STATr_STATE (b / 32) (b % 32))

/-- Note an ECC error: the log keeps the first uncorrectable one since VALID was cleared, otherwise the
latest corrected one (R508). -/
def State.eccLog (s : State) (ue : Bool) (word syndrome : Nat) : State :=
  if s.bit MEM_ECC_LOG_VALID && s.bit MEM_ECC_LOG_UE then s
  else ((((s.wrB MEM_ECC_LOG_VALID true).wrB MEM_ECC_LOG_UE ue).wr MEM_ECC_LOG_BANK (word / 0x10000)).wr
    MEM_ECC_LOG_SYNDROME syndrome).wr MEM_ECC_LOG_WORD (word % 0x10000)

/-- Reason bits that the image of the cycle in progress carries from here on (Table R39). -/
def State.imageReason (s : State) (m : Nat) : State := s.putImage { s.image with reasons := s.image.reasons ||| m }

/-- An uncorrectable word was read or found: counted, logged, MEM interrupt bit 0, MEM_UE (R508, R542);
one found in the filling copy marks the image of the cycle ECC_UE (R39). -/
def State.eccUe (s : State) (word syndrome : Nat) : State :=
  let s := if word / 0x20000 == s.image.filling then s.imageReason 4 else s
  ((((s.inc MEM_ECC_CNT_UE).eccLog true word syndrome).setIstat uMEM 1).logEvent 0x0100 uMEM 1
    (word / 0x10000 + word % 0x10000 * 2 ^ 16))

/-- May the requester touch this offset: only the MGP and SEC reach the vault B76 to B79 (R499). -/
def vaultOff (off : Nat) : Bool := decide (0x2600000 ≤ off)

/-- A fabric read of the 64-bit word at `off`: data, uncorrectable mark, state. -/
def State.sramRead (s : State) (mgp : Bool) (off : Nat) : Word × Bool × State :=
  if vaultOff off && !mgp then (0, true, s.inc MEM_ECC_CNT_VAULT_DENY)
  else if s.bankState (off / 0x80000) ≠ 1 then (0, true, s.inc MEM_ECC_CNT_NOT_ON)
  else if vaultOff off && s.bit MEM_VAULT_STAT_WIPING then (0, false, s)
  else
    let w := memWord s.sram (off / 8 * 8)
    let bad := mapGet (fun _ => 0) s.mem.badWords (off / 8)
    if bad ≠ 0 then (w, true, s.eccUe (off / 8) (bad - 1)) else (w, false, s)

/-- Store bytes inside one 64-bit word. A partial write of an uncorrectable word leaves it so and counts
UE; a whole one clears the error (R509). -/
def State.sramWriteWord (s : State) (mgp : Bool) (off : Nat) (bytes : List Byte) : State :=
  if vaultOff off && !mgp then s.inc MEM_ECC_CNT_VAULT_DENY
  else if s.bankState (off / 0x80000) ≠ 1 then s.inc MEM_ECC_CNT_NOT_ON
  else if vaultOff off && s.bit MEM_VAULT_STAT_WIPING then s
  else
    let bad := mapGet (fun _ => 0) s.mem.badWords (off / 8)
    let s1 := s.putSram (memPutBytes s.sram off bytes)
    if bad = 0 then s1
    else if decide (8 ≤ bytes.length) then
      s1.putMem { s1.mem with badWords := mapPut (fun _ => 0) s1.mem.badWords (off / 8) 0 }
    else s1.inc MEM_ECC_CNT_UE

/-- Store a run of bytes, word by word; `n` bounds the words touched. -/
def State.sramWriteN (s : State) (mgp : Bool) (off : Nat) (bytes : List Byte) : Nat → State
  | 0 => s
  | n + 1 =>
    if bytes.isEmpty then s
    else
      let k := 8 - off % 8
      (s.sramWriteWord mgp off (bytes.take k)).sramWriteN mgp (off + k) (bytes.drop k) n

/-- Store a run of bytes in shared SRAM. -/
def State.sramWrite (s : State) (mgp : Bool) (off : Nat) (bytes : List Byte) : State :=
  s.sramWriteN mgp off bytes (bytes.length + 1)

/-- Read `n` consecutive 64-bit words; the mark says whether any was uncorrectable. -/
def State.sramReadWords (s : State) (mgp : Bool) (off : Nat) : Nat → List Word × Bool × State
  | 0 => ([], false, s)
  | n + 1 =>
    let (w, u, s1) := s.sramRead mgp off
    let (ws, us, s2) := s1.sramReadWords mgp (off + 8) n
    (w :: ws, u || us, s2)

/-- The bytes of words, each least significant first. -/
def wordsBytes (ws : List Word) : List Byte := ws.flatMap fun w => bytesLE 8 w.toNat

/-- Read `n` bytes at any offset. -/
def State.sramReadBytes (s : State) (mgp : Bool) (off n : Nat) : List Byte × Bool × State :=
  let (ws, u, s1) := s.sramReadWords mgp (off / 8 * 8) ((off % 8 + n + 7) / 8)
  (((wordsBytes ws).drop (off % 8)).take n, u, s1)

end Sys2Proof.Machine
end

