-- ==== Sys2Proof/Machine/AceBank.lean ====
section
/-! DEFINITION. The coefficient banks of the ACE (chapter 11, R330 to R334), and windows of registers that
are copied or exchanged whole. -/

namespace Sys2Proof.Machine

/-! ## Windows of registers -/

/-- The listed registers of the window of `len` bytes at `base`, as offset and value. -/
def State.window (s : State) (base len : Nat) : List (Nat × Word) :=
  s.regs.filterMap fun e =>
    if decide (base ≤ e.1) && decide (e.1 < base + len) then some (e.1 - base, e.2) else none

/-- The window at `base` holds `w`, and its reset value elsewhere. -/
def State.setWindow (s : State) (base len : Nat) (w : List (Nat × Word)) : State :=
  w.foldl (fun s e => s.setReg (base + e.1) e.2)
    (s.resetRegs fun a => decide (base ≤ a) && decide (a < base + len))

/-- The window at `dst` takes the contents of the one at `src`. -/
def State.copyWindow (s : State) (src dst len : Nat) : State := s.setWindow dst len (s.window src len)

/-- Two windows exchange their contents. -/
def State.swapWindow (s : State) (a b len : Nat) : State :=
  (s.setWindow a len (s.window b len)).setWindow b len (s.window a len)

/-! ## Axes and lanes -/

def State.axis (s : State) (k : Nat) : AxSt := mapGet (fun _ => AxSt.reset) s.ace.axes k

def State.setAxis (s : State) (k : Nat) (x : AxSt) : State :=
  s.putAce { s.ace with axes := mapPut (fun _ => AxSt.reset) s.ace.axes k x }

def State.axisUpd (s : State) (k : Nat) (f : AxSt → AxSt) : State := s.setAxis k (f (s.axis k))

/-! ## Banks -/

/-- Bytes of one axis in the coefficient windows and in the table windows. -/
def coefLen : Nat := 0x200
def tabLen : Nat := 0x4000

/-- Axes named in a mask. -/
def maskAxes (m : Nat) : List Nat := (List.range 64).filter fun k => bitAt m k

/-- Reserved bits of coefficient word `w` (Table R330). -/
def coefReserved (w : Nat) (v : Word) : Bool :=
  if w ≤ 3 then bitsOf v 63 37 != 0
  else if w == 4 then bitsOf v 63 37 != 0 || bitsOf v 31 6 != 0
  else if w == 5 then false
  else if w == 6 then bitsOf v 61 37 != 0
  else if w == 7 then bitsOf v 62 37 != 0
  else if w == 8 then bitsOf v 63 4 != 0
  else if w ≤ 15 then v != 0
  else if w ≤ 47 then false
  else if w == 48 then bitsOf v 63 32 != 0
  else v != 0

/-- The lowest failing condition of Table R331 for the shadow bank of axis `k`; 0 when it passes. -/
def State.bankCheck (s : State) (k : Nat) : Nat :=
  let w := fun j => s.reg (ACE_COEF_SHADOW k j)
  if (List.range 64).any fun j => coefReserved j (w j) then 1
  else if decide (signed 32 (bitsOf (w 5) 63 32) ≤ signed 32 (bitsOf (w 5) 31 0)) then 2
  else if (bitsOf (w 6) 63 63 == 1 && bitsOf (w 6) 31 0 == 0)
      || (bitsOf (w 7) 63 63 == 1 && bitsOf (w 7) 31 0 == 0) then 3
  else if s.bit ACE_BANK_STAT_COPY_BUSY && s.ace.copyAxis == k then 4
  else 0

/-- The pending APPLY ends; a DCP command that waited for it is answered. -/
def State.applyEnd (s : State) (status : Nat) (reply : List Byte) : State :=
  let r := s.ace.applyReply
  let s := (s.wrB ACE_BANK_STAT_APPLY_PENDING false).setIstat uACE 1
  let s := s.putAce { s.ace with mask := 0, checked := false, applyReply := none }
  match r with
  | none => s
  | some slot => s.dcpResult slot status reply

/-- The swap of the named axes' banks (R331). -/
def State.bankSwap (s : State) : State :=
  let one := fun (s : State) (k : Nat) =>
    ((s.swapWindow (ACE_COEF_SHADOW k 0) (ACE_COEF_ACTIVE k 0) coefLen).swapWindow (ACE_TAB_SHADOW k 0)
      (ACE_TAB_ACTIVE k 0) tabLen).axisUpd k fun x => { x with bankBad := false }
  let s := (maskAxes s.ace.mask).foldl one s
  ((s.incWrap ACE_BANK_STAT_BGEN).wrB ACE_BANK_STAT_APPLY_DONE true).applyEnd 0 []

/-- A checked swap takes place: at a boundary, or at once while the cycle generator is stopped. -/
def State.bankSwapDue (s : State) : State := if s.ace.checked then s.bankSwap else s

/-- A write of 1 to APPLY (R331, R332); `reply` is a DCP run that waits for the outcome. -/
def State.bankApply (s : State) (reply : Option Nat) : State :=
  if s.bit ACE_BANK_STAT_APPLY_PENDING then s.cfgErr ACE_BANK_CTL
  else
    let s := s.wrB ACE_BANK_STAT_APPLY_PENDING true
    s.putAce { s.ace with mask := s.rd ACE_APPLY_MASK_VALUE, checked := false, applyReply := reply }

/-- The check completes (R331). -/
def State.bankChecked (s : State) (running : Bool) : State :=
  match (maskAxes s.ace.mask).find? fun k => s.bankCheck k != 0 with
  | some k =>
    let r := s.bankCheck k
    let s := ((s.wrB ACE_BANK_STAT_APPLY_REFUSED true).wr ACE_BANK_STAT_REASON r).wr ACE_BANK_STAT_FAIL_AXIS k
    s.applyEnd 0x0305 (bytesLE 2 0xFFFF ++ bytesLE 2 r ++ bytesLE 4 k)
  | none =>
    let s := s.putAce { s.ace with checked := true }
    if running then s else s.bankSwap

/-- The shadow windows of axis `k` take no write now (R332, R333). -/
def State.bankLocked (s : State) (k : Nat) : Bool :=
  (s.bit ACE_BANK_STAT_APPLY_PENDING && bitAt s.ace.mask k)
    || (s.bit ACE_BANK_STAT_COPY_BUSY && s.ace.copyAxis == k)

/-- A write of 1 to COPY for `axis` (R333): whether it starts, and the state. -/
def State.bankCopy (s : State) (axis : Nat) : Bool × State :=
  if s.bit ACE_BANK_STAT_COPY_BUSY || (s.bit ACE_BANK_STAT_APPLY_PENDING && bitAt s.ace.mask axis) then
    (false, s.cfgErr ACE_BANK_CTL)
  else
    let s := (s.wr ACE_BANK_CTL_COPY_AXIS axis).wrB ACE_BANK_STAT_COPY_BUSY true
    (true, (s.putAce { s.ace with copyAxis := axis }))

/-- The copy completes (R333). -/
def State.bankCopied (s : State) : State :=
  let k := s.ace.copyAxis
  let s := (s.copyWindow (ACE_COEF_ACTIVE k 0) (ACE_COEF_SHADOW k 0) coefLen).copyWindow (ACE_TAB_ACTIVE k 0)
    (ACE_TAB_SHADOW k 0) tabLen
  ((s.wrB ACE_BANK_STAT_COPY_BUSY false).wrB ACE_BANK_STAT_COPY_DONE true).setIstat uACE 2

end Sys2Proof.Machine
end

