-- ==== Sys2Proof/Machine/Mem.lean ====
section
/-! DEFINITION. The memory system: bank states, ECC, scrubbing, the vault and its wipes (chapter 18,
R498 to R524, R585), and tamper (R470, R471). -/

namespace Sys2Proof.Machine

/-! ## Bank contents -/

/-- The bytes and the error marks of offsets `lo` to `hi` − 1 are gone: the range reads 0 with valid
check bits. -/
def State.sramClear (s : State) (lo hi : Nat) : State :=
  (s.putSram (s.sram.filter fun c => !(decide (lo ≤ c.1) && decide (c.1 < hi)))).putMem { s.mem with badWords := s.mem.badWords.filter fun c =>
      !(decide (lo ≤ 8 * c.1) && decide (8 * c.1 < hi)) }

/-- Bank `b` loses its content; one of B00 to B03 marks the image of the cycle PD_LOSS (R39). -/
def State.bankClear (s : State) (b : Nat) : State :=
  (if decide (b < 4) then s.imageReason 8 else s).sramClear (b * 0x80000) ((b + 1) * 0x80000)

/-! ## Bank power states (R503 to R507) -/

def bankStatFld (b : Nat) : Fld := MEM_BANK_STATr_STATE (b / 32) (b % 32)
def bankTargetFld (b : Nat) : Fld := MEM_BANK_CFGr_TARGET (b / 32) (b % 32)
def bankPendFld (b : Nat) : Fld := ⟨MEM_BANK_PENDm (b / 64), b % 64, b % 64⟩
def bankFailFld (b : Nat) : Fld := ⟨MEM_BANK_FAILm (b / 64), b % 64, b % 64⟩
def bankRetFld (b : Nat) : Fld := ⟨MEM_RETm (b / 64), b % 64, b % 64⟩

def State.bankRun (s : State) (b : Nat) : Option BankRun := mapGet (fun _ => none) s.mem.runs b

def State.setBankRun (s : State) (b : Nat) (r : Option BankRun) : State :=
  s.putMem { s.mem with runs := mapPut (fun _ => none) s.mem.runs b r }

/-- Banks that accept TARGET = ON only: the process image and the vault (R504). -/
def bankFixed (b : Nat) : Bool := decide (b < 8) || decide (76 ≤ b)

/-- Start the change of bank `b` toward `target`. From OFF every change leads to ON first (Table R503). -/
def State.bankBegin (s : State) (b target : Nat) : State :=
  let cur := s.rd (bankStatFld b)
  if cur = target ∨ s.bit (bankFailFld b) then s
  else
    let to_ := if cur = 0 then 1 else target
    (s.setBankRun b (some ⟨to_, target⟩)).wr (bankStatFld b) 3

/-- A new target for bank `b` (R503, R506). PENDING shows a change that leads to OFF while the new target
is ON or RETENTION. -/
def State.bankMove (s : State) (b target : Nat) : State :=
  match s.bankRun b with
  | some r => (s.setBankRun b (some { r with target := target })).wrB (bankPendFld b) (r.dest == 0 && target != 0)
  | none => s.bankBegin b target

/-- A write of TARGET of bank `b` (R503, R504, R524). -/
def bankTarget (b target : Nat) (s : State) : State :=
  if !s.powered (MEM_BANK_CFGr 0) then s
  else if s.rd (bankTargetFld b) = target then s
  else if target = 3 ∨ (bankFixed b ∧ target ≠ 1) then s.cfgErr (MEM_BANK_CFGr (b / 32))
  else
    let s := s.wr (bankTargetFld b) target
    if s.domOn 9 then s.bankMove b target else s

/-- BANK_TARGET_WRITE (R503). -/
def execBankTargetWrite (b : Fin 80) (target : BitVec 2) (s : State) : Host.Outcome State Fault Refusal :=
  .next (bankTarget b target.toNat s)

/-- The running change of bank `b` completes; a newer target then starts its own change. A bank that
reaches OFF has lost its content and one that comes from OFF is zeroed (R503, R506). -/
def bankDone (b : Nat) (s : State) : State :=
  match s.bankRun b with
  | none => s
  | some r =>
    let s := (s.setBankRun b none).wr (bankStatFld b) r.dest
    let s := s.wrB (bankPendFld b) false
    let s := if r.dest = 0 then s.bankClear b else s
    if r.target ≠ r.dest then s.bankBegin b r.target else s

/-- BANK_CHANGE_DONE (R503). -/
def execBankChangeDone (b : Fin 80) (s : State) : Host.Outcome State Fault Refusal := .next (bankDone b s)

/-- All banks enter the state PD_MEM gives them: STANDBY entry keeps retained banks in RETENTION and
turns the others OFF (R507). -/
def State.banksStandby (s : State) : State :=
  (List.range 80).foldl (fun t b =>
    if t.bit (bankRetFld b) ∧ t.rd (bankStatFld b) ≠ 0 then (t.setBankRun b none).wr (bankStatFld b) 2
    else ((t.setBankRun b none).wr (bankStatFld b) 0).bankClear b) s

/-! ## ECC and scrubbing (R508 to R510, R585) -/

/-- What a syndrome means (R585): 0 no error, 1 corrected, 2 uncorrectable. -/
def syndromeKind (syn : Nat) : Nat :=
  let low := syn % 128
  if syn = 0 then 0
  else if 128 ≤ syn then (if low ≤ 71 then 1 else 2)
  else 2

/-- One word of a scrubbed line, with the syndrome the read gave. -/
def State.scrubWord (s : State) (word syn : Nat) : State :=
  if syndromeKind syn = 0 then s
  else if syndromeKind syn = 1 then (s.inc MEM_ECC_CNT_CE).eccLog false word syn
  else
    let s := s.putMem { s.mem with badWords := mapPut (fun _ => 0) s.mem.badWords word (syn + 1) }
    s.eccUe word syn

/-- PATROL_SCRUB (R510): the scrubber reads line `line` of 32 bytes; `syn` are the syndromes of its four
words and `late` says the pass did not finish in SCRUB_S seconds. -/
def execPatrolScrub (line : Fin 1310720) (s0 s1 s2 s3 : BitVec 8) (late : Bool) (s : State) :
    Host.Outcome State Fault Refusal :=
  if s.rd MEM_SCRUB_SCRUB_S = 0 ∨ s.bankState (line.val / 16384) ≠ 1 then .next s
  else
    let w := line.val * 4
    let s := ((s.scrubWord w s0.toNat).scrubWord (w + 1) s1.toNat).scrubWord (w + 2) s2.toNat
    let s := s.scrubWord (w + 3) s3.toNat
    .next (if late then (s.wrB MEM_SCRUB_SCRUB_LATE true).setIstat uMEM 8 else s)

/-! ## The vault (R511 to R513) -/

/-- Start a vault wipe with trigger `trig` (LAST_TRIG). It zeroes the four banks and clears the sealing
key, so no sealed copy can be opened any more. A trigger that arrives while a wipe runs joins it. -/
def State.vaultWipe (s : State) (trig : Nat) : State :=
  let s := (s.sramClear 0x2600000 0x2800000).wrB MEM_VAULT_STAT_SEALED false
  let s := s.putMem { s.mem with sealKey := false, tamperWipe := s.mem.tamperWipe || trig == 1 }
  if s.bit MEM_VAULT_STAT_WIPING then s
  else
    let s := ((s.wrB MEM_VAULT_STAT_WIPING true).wr MEM_VAULT_STAT_LAST_TRIG trig).inc MEM_VAULT_STAT_WIPES
    s.logEvent 0x0110 uMEM 1 trig

/-- VAULT_WIPE (R512): partition `p` writes 1 to MEM_VAULT_CTL.WIPE, an owner field (R376). -/
def execVaultWipe (p : Fin 6) (s : State) : Host.Outcome State Fault Refusal :=
  if p.val ≠ 0 ∨ !s.powered MEM_VAULT_CTL then .next s else .next (s.vaultWipe 3)

/-- VAULT_WIPE_DONE (R512, R513): WIPED sets; a tamper wipe also sets SEC_TAMPER_STAT.WIPED (R471). -/
def vaultWipeDone (s : State) : State :=
  if !s.bit MEM_VAULT_STAT_WIPING then s
  else
    let s := ((s.wrB MEM_VAULT_STAT_WIPING false).wrB MEM_VAULT_STAT_WIPED true).setIstat uMEM 4
    if s.mem.tamperWipe then
      (s.wrB SEC_TAMPER_STAT_WIPED true).putMem { s.mem with tamperWipe := false }
    else s

/-- VAULT_WIPE_DONE (R512). -/
def execVaultWipeDone (s : State) : Host.Outcome State Fault Refusal := .next (vaultWipeDone s)

/-! ## Tamper (R470, R471) -/

/-- LT of a tamper's record; 0 while the event is held in PD_AON (Table R541). -/
def State.tamperTime (s : State) : Nat := if s.domOn 2 then s.ltNs else 0

/-- A detected tamper: the source bit, the count, the latch that step 0x0A reads, the wipe and the log
record. In STANDBY, with the vault banks in RETENTION, they turn OFF (Table R512). -/
def State.tamper (s : State) (src : Fld) (bitNo : Nat) : State :=
  let s := (s.wrB src true).inc SEC_TAMPER_STAT_COUNT
  let s := s.logRec 0x0120 (unitCode uSEC) 1 (2 ^ bitNo) s.tamperTime
  let s := s.vaultWipe 1
  if s.domState 9 == 4 then
    let s := (List.range 4).foldl (fun t i => t.wr (bankStatFld (76 + i)) 0) s
    vaultWipeDone s
  else s

/-- TAMPER_PIN (R470): TAMPER_N has been low for FILT × 10 µs. -/
def execTamperPin (s : State) : Host.Outcome State Fault Refusal :=
  if s.bit SEC_TAMPER_CFG_PIN_EN && !s.boot.porHeld then .next (s.tamper SEC_TAMPER_STAT_PIN 0) else .next s

/-- TAMPER_MESH (R470): the sequence on TMESH_B differs from the one driven on TMESH_A. -/
def execTamperMesh (s : State) : Host.Outcome State Fault Refusal :=
  if s.bit SEC_TAMPER_CFG_MESH_EN && !s.boot.porHeld then .next (s.tamper SEC_TAMPER_STAT_MESH 1) else .next s

end Sys2Proof.Machine
end

