-- ==== Sys2Proof/Machine/Mqf.lean ====
section
/-! DEFINITION. Mailboxes, doorbells, semaphores and packet queues (chapter 15, R424 to R448). -/

namespace Sys2Proof.Machine

/-! ## Doorbells (R435) -/

/-- The signalled doorbell word of agent `a`: PEND and not MASK. The SFI (7) has none. -/
def State.doorbell (s : State) (a : Nat) : Nat :=
  if a = agSFI then 0
  else s.rd (MQF_DBa_PEND_PEND a) &&& (2 ^ 32 - 1 - s.rd (MQF_DBa_MASK_MASK a))

/-- Set doorbell bit `b` of agent `a`; a non-zero signalled word raises DOORBELL of a host (R435). -/
def State.ring (s : State) (a b : Nat) : State :=
  let s1 := s.orF (MQF_DBa_PEND_PEND a) (2 ^ b)
  if decide (a < 6) && s1.doorbell a != 0 then s1.raiseEvent a 9 else s1

/-! ## Mailboxes (R426 to R434) -/

/-- Epoch of an agent (R425). -/
def State.epoch (s : State) (a : Nat) : Nat := s.rd (MQF_EPOCHa_EPOCH a)

def State.setTiming (s : State) (m : Nat) (b : Bool) : State :=
  s.putMqf { s.mqf with timing := mapPut (fun _ => false) s.mqf.timing m b }

/-- Copy the 32 staging words of mailbox `m` into its message buffer (R427). -/
def State.copyStaging (s : State) (m : Nat) : State :=
  (List.range 32).foldl (fun t w => t.setReg (MQF_MESSAGE m w) (t.reg (MQF_STAGING m w))) s

/-- Ring the sender's ACK_DB when ACK_DB_EN is 1. -/
def State.ringAck (s : State) (m : Nat) : State :=
  if s.bit (MQF_MBm_CFG_ACK_DB_EN m) then
    s.ring (s.rd (MQF_MBm_CFG_SENDER m)) (s.rd (MQF_MBm_CFG_ACK_DB m))
  else s

/-- A POST of agent `who` at mailbox `m` (R426 to R428). -/
def mbPost (who m len : Nat) (s : State) : State :=
  if !s.bit (MQF_MBm_CFG_EN m) || s.rd (MQF_MBm_CFG_SENDER m) != who then s
  else if len = 0 ∨ 256 < len then s.cfgErr (MQF_MBm_CMD m)
  else
    let rcv := s.rd (MQF_MBm_CFG_RECEIVER m)
    let key := 64 * who + rcv
    let n := (mapGet (fun _ => 0) s.mqf.pairSeq key + 1) % 65536
    let s := if s.bit (MQF_MBm_STAT_FULL m) then
        (s.wrB (MQF_MBm_STAT_COLLISION m) true).inc MQF_CNT_COLLISIONS else s
    let s := s.putMqf { s.mqf with pairSeq := mapPut (fun _ => 0) s.mqf.pairSeq key n }
    let s := (s.copyStaging m).wrB (MQF_MBm_STAT_FULL m) true
    let s := (s.wr (MQF_MBm_STAT_LEN m) len).wr (MQF_MBm_STAT_SEQ m) n
    let s := s.wr (MQF_MBm_STAT_SENDER_EPOCH m) (s.epoch who)
    let s := (s.wrB (MQF_MBm_ACK_VALID m) false).wrB (MQF_MBm_STAT_ACK_LATE m) false
    (s.setTiming m (s.rd (MQF_MBm_CFG_TMO m) != 0)).ring rcv (s.rd (MQF_MBm_CFG_DB_BIT m))

/-- MB_POST (R427): `who` writes POST = 1 with LEN to mailbox `m`. -/
def execMbPost (who : Fin 33) (m : Fin 128) (len : BitVec 9) (s : State) :
    Host.Outcome State Fault Refusal :=
  .next (mbPost who m len.toNat s)

/-- An acknowledge write of agent `who` (R429). While the message waits VALID is 1 only after its
timeout (R430), which makes the acknowledge late. -/
def mbAck (who m epoch seq code : Nat) (s : State) : State :=
  if !s.bit (MQF_MBm_CFG_EN m) || s.rd (MQF_MBm_CFG_RECEIVER m) != who then s
  else if 0xFFF0 ≤ code then s.cfgErr (MQF_MBm_ACK m)
  else if !s.bit (MQF_MBm_STAT_FULL m) || s.rd (MQF_MBm_STAT_SEQ m) != seq then s.inc MQF_CNT_STALE_ACK
  else
    let s := (s.wrB (MQF_MBm_STAT_FULL m) false).setTiming m false
    if epoch != s.epoch (s.rd (MQF_MBm_CFG_SENDER m)) then s.inc MQF_CNT_STALE_ACK
    else
      let late := s.bit (MQF_MBm_ACK_VALID m)
      let s := ((s.wr (MQF_MBm_ACK_CODE m) code).wr (MQF_MBm_ACK_EPOCH m) epoch).wr (MQF_MBm_ACK_SEQ m) seq
      let s := s.wrB (MQF_MBm_ACK_VALID m) true
      (if late then s.wrB (MQF_MBm_STAT_ACK_LATE m) true else s).ringAck m

/-- MB_ACK (R429). -/
def execMbAck (who : Fin 33) (m : Fin 128) (epoch seq code : BitVec 16) (s : State) :
    Host.Outcome State Fault Refusal :=
  .next (mbAck who m epoch.toNat seq.toNat code.toNat s)

/-- MB_TIMEOUT (R430): the timeout of mailbox `m` runs out; the message stays deliverable. -/
def execMbTimeout (m : Fin 128) (s : State) : Host.Outcome State Fault Refusal :=
  if !mapGet (fun _ => false) s.mqf.timing m || !s.bit (MQF_MBm_CFG_EN m) then .next s
  else
    let s := (s.setTiming m false).wrB (MQF_MBm_STAT_TIMEOUT m) true
    let s := (s.wr (MQF_MBm_STAT_REASON m) 1).inc MQF_CNT_TIMEOUTS
    let s := (s.wr (MQF_MBm_ACK_CODE m) 0xFFF1).wrB (MQF_MBm_ACK_VALID m) true
    .next (s.ringAck m)

/-! ## Semaphores (R436, R437) -/

def State.semHolder (s : State) (n : Nat) : Nat := mapGet (fun _ => 0) s.mqf.sems n

def State.setSem (s : State) (n holder : Nat) : State :=
  s.putMqf { s.mqf with sems := mapPut (fun _ => 0) s.mqf.sems n holder }

/-- A read of MQF_SEMs is a take attempt; the value read and the state after it (R436). The SFI takes
nothing (R549). -/
def semTake (who n : Nat) (s : State) : Word × State :=
  let h := s.semHolder n
  let val := fun (r holder : Nat) => BitVec.ofNat 64 (r * 256 + holder)
  if who = agSFI then (if h = 0 then 0 else val 2 (h - 1), s)
  else if h = 0 ∨ h = who + 1 then (val 1 who, s.setSem n (who + 1))
  else (val 2 (h - 1), s)

/-- SEM_TAKE (R436): the value read goes to the block's read data. -/
def execSemTake (who : Fin 33) (n : Fin 64) (s : State) : Host.Outcome State Fault Refusal :=
  if !s.domOn 2 then .next (s.putReadData 0)
  else
    let (v, t) := semTake who n s
    .next (t.putReadData v)

/-- A write of REL = 1 (R436). -/
def semRelease (who n : Nat) (s : State) : State :=
  if s.semHolder n = who + 1 ∨ who = 0 then s.setSem n 0 else s.inc MQF_CNT_REL_DENIED

/-- SEM_RELEASE (R436). -/
def execSemRelease (who : Fin 33) (n : Fin 64) (s : State) : Host.Outcome State Fault Refusal :=
  .next (if s.domOn 2 then semRelease who n s else s)

/-! ## Packet queue units (R438 to R446) -/

def State.pq (s : State) (k : Nat) : PqSt := mapGet (fun _ => PqSt.reset) s.mqf.pq k

def State.setPq (s : State) (k : Nat) (q : PqSt) : State :=
  s.putMqf { s.mqf with pq := mapPut (fun _ => PqSt.reset) s.mqf.pq k q }

/-- Items of the ring. -/
def State.pqSize (s : State) (k : Nat) : Nat := 2 ^ s.rd (PQk_CFG_SIZE k)

/-- Items used: PUT − GET modulo 2^32. -/
def State.pqUsed (s : State) (k : Nat) : Nat :=
  (s.rd (PQk_IDX_PUT k) + 2 ^ 32 - s.rd (PQk_IDX_GET k)) % 2 ^ 32

/-- Data items of a packet of `n` bytes. -/
def pqItems (n : Nat) : Nat := (n + 15) / 16

/-- Items that packets awaiting a deferred commit have reserved (R441). -/
def pqReserved (ps : List Packet) : Nat := (ps.map fun p => if p.dropped then 0 else 1 + pqItems p.bytes.length).sum

/-- PQk_STAT shows the open packet. -/
def State.pqShow (s : State) (k : Nat) : State :=
  let q := s.pq k
  let (o, d, n) := match q.cur with
    | none => (false, false, 0)
    | some p => (true, p.dropped, p.bytes.length)
  ((s.wrB (PQk_STAT_OPEN k) o).wrB (PQk_STAT_DROPPING k) d).wr (PQk_STAT_OPEN_LEN k) n

/-- Unit RUNNING. -/
def State.pqRunning (s : State) (k : Nat) : Bool := s.rd (PQk_STAT_STATE k) == 2

/-- A header item (Table R443). -/
def pqHeader (seq type lastVb count : Nat) (flushed : Bool) (time : Nat) : List Byte :=
  bytesLE 8 (seq % 2 ^ 32 * 2 ^ 32 + type * 2 ^ 28 + b2n flushed * 2 ^ 27 + lastVb * 2 ^ 20 + count % 2 ^ 20)
    ++ bytesLE 8 time

/-- Write one item at index `n` of the ring (R438). -/
def State.pqPutItem (s : State) (k n : Nat) (bytes : List Byte) : State :=
  s.sramWrite false (s.rd (PQk_CFG_BASE k) + 16 * (n % s.pqSize k)) (bytes ++ List.replicate (16 - bytes.length) 0)

/-- Write consecutive data items; `n` bounds their number. -/
def State.pqPutData (s : State) (k i : Nat) (bytes : List Byte) : Nat → State
  | 0 => s
  | n + 1 =>
    if bytes.isEmpty then s
    else (s.pqPutItem k i (bytes.take 16)).pqPutData k (i + 1) (bytes.drop 16) n

/-- A packet was dropped: DROPS and GAP_COUNT count it, and the gap starts at its number (R442). -/
def State.pqCountDrop (s : State) (k seq : Nat) : State :=
  let q := s.pq k
  let s := if s.rd (PQk_STAT_GAP_COUNT k) = 0 then s.setPq k { q with gapFirst := seq } else s
  (s.inc (PQk_CNT_DROPS k)).inc (PQk_STAT_GAP_COUNT k)

/-- Publish a whole packet: a pending gap marker first, then the header and the data, then PUT
(R440, R442, R443). -/
def State.pqPublish (s : State) (k : Nat) (p : Packet) : State :=
  if p.counted then s
  else if p.dropped then s.pqCountDrop k p.seq
  else
    let gap := s.rd (PQk_STAT_GAP_COUNT k)
    let q := s.pq k
    let put := s.rd (PQk_IDX_PUT k)
    let len := p.bytes.length
    let (s, put, fl) :=
      if gap = 0 then (s, put, q.flushed)
      else ((s.pqPutItem k put (pqHeader q.gapFirst 2 0 gap q.flushed s.ltNs)).wr (PQk_STAT_GAP_COUNT k) 0,
        put + 1, false)
    let s := s.pqPutItem k put (pqHeader p.seq 1 (len % 16) len fl s.ltNs)
    let s := s.pqPutData k (put + 1) p.bytes (pqItems len)
    (s.wr (PQk_IDX_PUT k) (put + 1 + pqItems len)).setPq k { q with flushed := false }

/-- Does the ring have room for the open packet with `n` data items, its header, what deferred packets
reserved, and a pending gap marker (R442). -/
def State.pqRoom (s : State) (k n : Nat) : Bool :=
  let gap := if s.rd (PQk_STAT_GAP_COUNT k) = 0 then 0 else 1
  decide (s.pqUsed k + pqReserved (s.pq k).deferred + 1 + n + gap ≤ s.pqSize k)

/-- End the open packet of unit `k`; `region` defers it to the region's verdict (R440, R441). -/
def pqCommit (who k : Nat) (region : Bool) (s : State) : State :=
  let q := s.pq k
  if s.rd (PQk_CFG_WRITER k) != who || !s.pqRunning k then s
  else match q.cur with
    | none => s
    | some p =>
      let s1 := s.setPq k { q with cur := none }
      let s2 := if region then s1.setPq k { q with cur := none, deferred := q.deferred ++ [p] }
        else s1.pqPublish k p
      s2.pqShow k

/-- A write of PQk_WR (R439, R442). `vb` is VB, `commit` COMMIT. -/
def pqWrite (who k data vb : Nat) (commit region : Bool) (s : State) : State :=
  if s.rd (PQk_CFG_WRITER k) != who || !s.pqRunning k then s
  else if vb ≠ 0 ∧ !commit then s.cfgErr (PQk_WR k)
  else
    let q := s.pq k
    let fresh := q.cur.isNone
    let p : Packet := match q.cur with | some p => p | none => ⟨q.opened, [], false, false⟩
    let opened := if fresh then (q.opened + 1) % 2 ^ 32 else q.opened
    let bytes := p.bytes ++ (bytesLE 4 data).take (if vb = 0 then 4 else vb)
    let n := pqItems bytes.length
    let dropped := p.dropped || !s.pqRoom k n
    -- a dropped packet that overruns 2^SIZE − 2 data items is counted at once (R442)
    let past := dropped && !p.counted && decide (s.pqSize k - 2 < n)
    let s1 := s.setPq k { q with cur := some ⟨p.seq, bytes, dropped, p.counted || past⟩, opened := opened }
    let s2 := (if past then s1.pqCountDrop k p.seq else s1).pqShow k
    if commit then pqCommit who k region s2 else s2

/-- Discard the open packet; REWINDS counts it (R440). -/
def State.pqDiscardOpen (s : State) (k : Nat) : State :=
  let q := s.pq k
  if q.cur.isNone then s
  else ((s.setPq k { q with cur := none }).inc (PQk_CNT_REWINDS k)).pqShow k

/-- Is agent `who` a Rook with an open speculative region. -/
def State.inRegion (s : State) (who : Nat) : Bool :=
  decide (9 ≤ who) && decide (who ≤ 32) && s.bit (PEA_Rn_STAT_SPECA (who - 9))

/-- PQ_WR (R439). -/
def execPqWr (who : Fin 33) (k : Fin 64) (data : BitVec 32) (vb : BitVec 2) (commit : Bool) (s : State) :
    Host.Outcome State Fault Refusal :=
  .next (pqWrite who k data.toNat vb.toNat commit (s.inRegion who) s)

/-- PQ_COMMIT (R440). -/
def execPqCommit (who : Fin 33) (k : Fin 64) (s : State) : Host.Outcome State Fault Refusal :=
  .next (pqCommit who k (s.inRegion who) s)

/-- REWIND of the writer (R440). -/
def pqRewind (who k : Nat) (s : State) : State :=
  if s.rd (PQk_CFG_WRITER k) != who || !s.pqRunning k then s else s.pqDiscardOpen k

/-- PQ_REWIND (R440). -/
def execPqRewind (who : Fin 33) (k : Fin 64) (s : State) : Host.Outcome State Fault Refusal :=
  .next (pqRewind who k s)

/-- FLUSH of the writer, the reader or partition 0 (R438, R445). -/
def pqFlush (who k : Nat) (s : State) : State :=
  if !(s.rd (PQk_CFG_WRITER k) == who || s.rd (PQk_CFG_READER k) == who || who == 0) || !s.pqRunning k then s
  else
    let q := s.pq k
    let s := s.setPq k { q with cur := none, deferred := [], flushed := true }
    let s := (s.wr (PQk_IDX_GET k) (s.rd (PQk_IDX_PUT k))).wr (PQk_STAT_GAP_COUNT k) 0
    (s.inc (PQk_CNT_FLUSHES k)).pqShow k

/-- PQ_FLUSH (R445). -/
def execPqFlush (who : Fin 33) (k : Fin 64) (s : State) : Host.Outcome State Fault Refusal :=
  .next (pqFlush who k s)

/-- A write of PQk_CTL with these command bits. What comes with a FLUSH is discarded with it (R445), and a REWIND leaves no
packet for the COMMIT (DESIGN CHOICE, log 92). -/
def pqCtl (who k : Nat) (region flush rewind commit : Bool) (s : State) : State :=
  if flush then pqFlush who k s
  else if rewind then pqRewind who k s
  else if commit then pqCommit who k region s
  else s

/-- A read of PQk_RD0: the value, and the state with GET advanced and RD1 latched (R444). An agent other
than READER reads 0 and moves nothing (R438). -/
def pqPop (who k : Nat) (s : State) : Word × State :=
  if s.rd (PQk_CFG_READER k) != who || !s.pqRunning k then (0, s)
  else if s.pqUsed k = 0 then (0, (s.setReg (PQk_RD1 k) 0).inc (PQk_CNT_EMPTY_POP k))
  else
    let at_ := s.rd (PQk_CFG_BASE k) + 16 * (s.rd (PQk_IDX_GET k) % s.pqSize k)
    let (w0, _, s) := s.sramRead false at_
    let (w1, _, s) := s.sramRead false (at_ + 8)
    (w0, (s.setReg (PQk_RD1 k) w1).incWrap (PQk_IDX_GET k))

/-- PQ_RD0_POP (R444). A read by the SFI pops nothing (R549). -/
def execPqRd0Pop (who : Fin 33) (k : Fin 64) (s : State) : Host.Outcome State Fault Refusal :=
  let (v, t) := pqPop who k s
  .next ((if who.val == agSFI then s else t).putReadData v)

/-- STARTING ends at once in RUNNING with the unit empty and PKT_SEQ restarted (R443, R446). -/
def State.pqStart (s : State) (k : Nat) : State :=
  ((s.setPq k PqSt.reset).wr (PQk_STAT_STATE k) 2).pqShow k

/-- EN = 1 (R446): starts from OFF, or latches PENDING in STOPPING. Held OFF while PD_MEM is off. -/
def pqEnable (k : Nat) (s : State) : State :=
  let s := s.wrB (PQk_CTL_EN k) true
  if s.rd (PQk_STAT_STATE k) = 3 then s.wrB (PQk_STAT_PENDING k) true
  else if s.rd (PQk_STAT_STATE k) = 0 ∧ s.domOn 9 then s.pqStart k
  else s

/-- PQ_ENABLE (R446). -/
def execPqEnable (k : Fin 64) (s : State) : Host.Outcome State Fault Refusal :=
  .next (if s.domOn 2 then pqEnable k s else s)

/-- EN = 0 (R446). -/
def pqDisable (k : Nat) (s : State) : State :=
  let s := s.wrB (PQk_CTL_EN k) false
  if s.rd (PQk_STAT_STATE k) = 3 then s.wrB (PQk_STAT_PENDING k) false
  else if s.rd (PQk_STAT_STATE k) = 1 ∨ s.rd (PQk_STAT_STATE k) = 2 then s.wr (PQk_STAT_STATE k) 3
  else s

/-- PQ_DISABLE (R446). -/
def execPqDisable (k : Fin 64) (s : State) : Host.Outcome State Fault Refusal :=
  .next (if s.domOn 2 then pqDisable k s else s)

/-- Unit `k` is OFF: the open packet is gone, PUT and GET are 0. Only PQk_CFG survives (R446). -/
def State.pqOff (s : State) (k : Nat) : State :=
  let s := ((s.setPq k PqSt.reset).setReg (PQk_IDX k) 0).setReg (PQk_STAT k) 0
  (s.setReg (PQk_CNT k) 0).setReg (PQk_RD1 k) 0

/-- While PD_MEM is off every unit is held OFF (R41, R446). -/
def State.pqHold (s : State) : State :=
  (List.range 64).foldl (fun t k => if t.rd (PQk_STAT_STATE k) = 0 then t else t.pqOff k) s

/-- The shutdown completes; PENDING starts again (R446). -/
def pqStopDone (k : Nat) (s : State) : State :=
  if s.rd (PQk_STAT_STATE k) ≠ 3 then s
  else
    let pend := s.bit (PQk_STAT_PENDING k)
    let s := s.pqOff k
    if pend ∧ s.domOn 9 then s.pqStart k else s

/-- PQ_STOP_DONE (R446). -/
def execPqStopDone (k : Fin 64) (s : State) : Host.Outcome State Fault Refusal := .next (pqStopDone k s)

/-- The region of engine `e` commits: deferred packets take effect, in order (R441). -/
def State.pqRegionCommit (s : State) (e : Nat) : State :=
  (List.range 64).foldl (fun t k =>
    if t.rd (PQk_CFG_WRITER k) = agRook e ∧ (t.pq k).deferred ≠ [] then
      let ps := (t.pq k).deferred
      ps.foldl (fun u p => u.pqPublish k p) (t.setPq k { t.pq k with deferred := [] })
    else t) s

/-- The region of engine `e` is squashed: every packet it has open or deferred is rewound (R441). -/
def State.pqRegionSquash (s : State) (e : Nat) : State :=
  (List.range 64).foldl (fun t k =>
    let q := t.pq k
    if t.rd (PQk_CFG_WRITER k) = agRook e ∧ (q.deferred ≠ [] ∨ q.cur.isSome) then
      ((t.setPq k { q with cur := none, deferred := [] }).incBy (PQk_CNT_REWINDS k)
        (q.deferred.length + (if q.cur.isSome then 1 else 0))).pqShow k
    else t) s

/-! ## Agent resets (R425, R431, R432) -/

/-- Reset of the sender of mailbox `m` (R432). -/
def State.mbSenderReset (s : State) (m : Nat) : State :=
  let s := (List.range 32).foldl (fun t w => t.setReg (MQF_STAGING m w) 0) s
  let s := (s.setTiming m false).wrB (MQF_MBm_STAT_TIMEOUT m) false
  (s.wrB (MQF_MBm_STAT_COLLISION m) false).wrB (MQF_MBm_STAT_ACK_LATE m) false

/-- Reset of the receiver of mailbox `m` (R431). -/
def State.mbReceiverReset (s : State) (m : Nat) : State :=
  let s := (s.wrB (MQF_MBm_STAT_FULL m) false).setTiming m false
  let s := (s.wrB (MQF_MBm_STAT_TIMEOUT m) true).wr (MQF_MBm_STAT_REASON m) 2
  let s := (s.wr (MQF_MBm_ACK_CODE m) 0xFFF0).wrB (MQF_MBm_ACK_VALID m) true
  s.ringAck m

/-- A reset of agent `a`: its epoch advances, mailboxes that name it (those in use) follow R432 and
R431, its doorbell clears, its semaphores are released and its open packets rewound (R425). -/
def State.agentReset (s : State) (a : Nat) : State :=
  let s := s.incWrap (MQF_EPOCHa_EPOCH a)
  let s := (List.range 128).foldl (fun t m =>
    if !t.bit (MQF_MBm_CFG_EN m) then t
    else
      let t := if t.rd (MQF_MBm_CFG_SENDER m) = a then t.mbSenderReset m else t
      if t.rd (MQF_MBm_CFG_RECEIVER m) = a then t.mbReceiverReset m else t) s
  let s := s.wr (MQF_DBa_PEND_PEND a) 0
  let s := s.putMqf { s.mqf with sems := s.mqf.sems.filter fun e => e.2 != a + 1 }
  (List.range 64).foldl (fun t k => if t.rd (PQk_CFG_WRITER k) = a then t.pqDiscardOpen k else t) s

end Sys2Proof.Machine
end

