-- ==== Sys2Proof/Machine/Power.lean ====
section
/-! DEFINITION. Power domains: what a domain loses, powering up and down, failures (R485 to R492, R553). -/

namespace Sys2Proof.Machine

/-- The register at `a` takes its reset value when domain `d` powers up (R553). ID and VER are constants. -/
def State.resetDomRegs (s : State) (d : Nat) : State := s.resetRegs fun a => domOf a == d

/-- The contents of domain `d` are lost: its registers and the state of the units in it (Table R485). The image of the
cycle in progress keeps its reasons, and a loss by PD_MEM is one of them (Table R39). -/
def State.domainLost (s : State) (d : Nat) : State :=
  let s := s.resetDomRegs d
  match d with
  | 1 => s.putSfi SfiSt.reset
  | 2 =>
    let s := (((s.putMqf MqfSt.reset).putCmap []).putEvLost 0).putPendMode none
    (s.putModeAt 0).putDcp
      { s.dcp with runs := [], pass := [], frames := [], frameOf := none, grants := 0, conns := [], safe := [],
                   relay := [], ptp := [], restarting := false, expiries := [] }
  | 3 => (s.putXspi []).putParts []
  | 4 => (s.putRooks (s.rooks.filter fun e => !decide (e.1 < 12))).putPmem
      (s.pmem.filter fun c => !decide (c.1 < 0x01300000))
  | 5 => (s.putRooks (s.rooks.filter fun e => decide (e.1 < 12))).putPmem
      (s.pmem.filter fun c => !(decide (0x01300000 ≤ c.1) && decide (c.1 < 0x01600000)))
  | 6 => ((s.putNtu NtuSt.reset).putEpc []).putSwc SwcSt.reset
  | 7 => s.putAce AceSt.reset
  | 8 => ((s.putCbc []).putCan []).putPawns []
  | 9 =>
    let lost := decide (2 ≤ s.domState 9) && s.domState 9 != 6
    ((s.putSram []).putImage { ImageSt.reset with reasons := s.image.reasons ||| b2n lost * 8 }).putMem
      { s.mem with runs := [], badWords := [] }
  | _ => s

def State.setDom (s : State) (d st : Nat) : State := s.wr (CRP_PD_STAT_STATE d) st

/-- Domains that `d` requires (Table R485). -/
def domRequires : Nat → List Nat
  | 0 => []
  | 1 => [0]
  | 2 => [0]
  | 3 => [2, 9]
  | 4 => [2, 9, 6]
  | 5 => [2, 9, 6]
  | 6 => [2]
  | 7 => [2, 9]
  | 8 => [2, 9, 6]
  | _ => [2]

/-- Domains that require `d`, directly or through others (R490). -/
def domDependants : Nat → List Nat
  | 0 => [1, 2, 3, 4, 5, 6, 7, 8, 9]
  | 2 => [3, 4, 5, 6, 7, 8, 9]
  | 6 => [4, 5, 8]
  | 9 => [3, 4, 5, 7, 8]
  | _ => []

/-- The order in which domains power up (R485); down is the reverse. -/
def domOrder : List Nat := [0, 1, 2, 9, 6, 3, 4, 5, 7, 8]

/-- Outside the DEGRADED set PD_AON, PD_SAFE, PD_MGT, PD_NET (R41). -/
def outsideDegraded (d : Nat) : Bool := !(d == 0 || d == 1 || d == 2 || d == 6)

/-- Domain `d` is ON, out of reset, its registers at their reset values (R487). -/
def State.domainOn (s : State) (d : Nat) : State :=
  if s.domOn d then s else (s.domainLost d).setDom d 2

/-- Domain `d` is OFF at once, contents lost (R488). PD_SAFE stays off on the DPX9960-A (R41). -/
def State.domainOff (s : State) (d : Nat) : State :=
  if d == 0 then s else (s.domainLost d).setDom d 0

/-- Agents that the power-down of their domain resets (Table R425): the ACE and the Rooks. That of PD_MGT takes
the MQF with it. -/
def domAgents (d : Nat) : List Nat :=
  if d == 7 then [agACE] else if d == 4 then (List.range 12).map agRook
  else if d == 5 then (List.range 12).map fun n => agRook (12 + n) else []

/-- The order in which STANDBY entry powers domains down (R493). -/
def standbyOrder : List Nat := [8, 7, 5, 4, 3, 6, 1]

/-- The next domain of the STANDBY entry that is still powered. -/
def State.standbyNext (s : State) : Option Nat :=
  standbyOrder.find? fun d => s.domState d != 0 && s.domState d != 6

end Sys2Proof.Machine
end

