-- ==== Sys2Proof/Machine/Ntu.lean ====
section
/-! DEFINITION. Network time and the cycle generator (chapters 01 and 03, R21 to R24, R37, R69 to R93).
Instants are LT values in units of 2^−32 ns. -/

namespace Sys2Proof.Machine

/-! ## The local time base and the domains (R69 to R71) -/

/-- A nanosecond in LT units. -/
def nsU : Nat := 2 ^ 32

/-- LT's advance at one CLK_TIME edge: 4 ns plus TRIM × 2^−32 × 4 ns (R70). -/
def State.ltStep (s : State) : Nat := (4 * (nsU : Int) + 4 * s.rdI NTU_LT_TRIM_TRIM).toNat

def State.td (s : State) (x : Nat) : TdSt := if x = 0 then s.ntu.tdA else s.ntu.tdB

def State.setTd (s : State) (x : Nat) (t : TdSt) : State :=
  if x = 0 then s.putNtu { s.ntu with tdA := t } else s.putNtu { s.ntu with tdB := t }

/-- State code of domain `x` (Table R73). -/
def State.tdState (s : State) (x : Nat) : Nat := s.rd (NTU_TDx_STAT_STATE x)

/-- Domain `x` is LOCKED. -/
def State.tdLocked (s : State) (x : Nat) : Bool := s.tdState x == 2

/-- OFF_x's change at one CLK_TIME edge: RATE_x × 2^−32 × 4 ns; it holds while DISABLED (R71, R73). -/
def State.offStep (s : State) (x : Nat) : Int := if s.tdState x == 0 then 0 else 4 * s.rdI (NTU_TDx_RATE_RATE x)

/-- TD_x = LT + OFF_x (R71). -/
def State.tdTime (s : State) (x : Nat) : Int := (s.ntu.lt : Int) + (s.td x).off

/-- Castling runs. -/
def State.castling (s : State) : Bool := s.bit NTU_CAST_STAT_CASTLING

/-- The target of the running or last castling. -/
def State.castTarget (s : State) : Nat := s.rd NTU_CAST_STAT_TARGET

/-- The time that the cycle generator follows: LT, the domain SRC names, or the served time (R77, R79).
With SRC at the local base the served time is LT (DESIGN CHOICE, log 20). -/
def State.served (s : State) : Int :=
  if s.castling then s.tdTime s.ntu.castFrom + s.ntu.castR / 10000000
  else if s.ntu.cyc.act.src == 1 then s.tdTime 0
  else if s.ntu.cyc.act.src == 2 then s.tdTime 1
  else s.ntu.lt

/-- The served time's advance at one edge while no castling runs. -/
def State.servedStep (s : State) : Int :=
  (s.ltStep : Int) + (if s.ntu.cyc.act.src == 1 then s.offStep 0
    else if s.ntu.cyc.act.src == 2 then s.offStep 1 else 0)

/-! ## One CLK_TIME edge (R69, R71, R78) -/

/-- D − R in units of 10^−7 × 2^−32 ns. -/
def State.castGap (s : State) : Int :=
  ((s.td s.castTarget).off - (s.td s.ntu.castFrom).off) * 10000000 - s.ntu.castR

/-- The largest move of R at one edge: SLEW × 10^−7 × 4 ns (R78). -/
def State.castStep (s : State) : Int := s.rd NTU_CAST_CTL_SLEW * 4 * (nsU : Int)

/-- Castling's part of an edge: R moves toward D; at |D − R| ≤ step it completes (R78). REMAIN shows the rest in ns,
truncated toward zero (DESIGN CHOICE, log 87). -/
def State.castEdge (s : State) : State :=
  if !s.castling then s
  else
    let g := s.castGap
    let st := s.castStep
    if decide (g.natAbs ≤ st.natAbs) then
      let s := s.putNtu { s.ntu with
        castR := 0
        cyc := { s.ntu.cyc with act := { s.ntu.cyc.act with src := s.castTarget + 1 } } }
      let s := s.wr NTU_CYC_CTL_SRC (s.castTarget + 1)
      let s := (s.wrB NTU_CAST_STAT_CASTLING false).wrB NTU_CAST_STAT_DONE true
      s.wr NTU_CAST_STAT_REMAIN 0
    else
      let s := s.putNtu { s.ntu with castR := s.ntu.castR + (if g < 0 then -st else st) }
      s.wrI NTU_CAST_STAT_REMAIN (quotT s.castGap (10000000 * (nsU : Int)))

/-- LT and the offsets advance by `n` edges. -/
def State.ltEdges (s : State) (n : Nat) : State :=
  let a := s.ntu.tdA
  let b := s.ntu.tdB
  s.putNtu { s.ntu with
      lt := s.ntu.lt + n * s.ltStep
      tdA := { a with off := a.off + n * s.offStep 0 }
      tdB := { b with off := b.off + n * s.offStep 1 } }

/-- One CLK_TIME edge. It changes nothing while PD_NET is not ON. -/
def State.edge1 (s : State) : State := if s.domOn 6 then (s.ltEdges 1).castEdge else s

/-- `n` CLK_TIME edges: one by one while castling runs, otherwise at once. -/
def State.edges (s : State) : Nat → State
  | 0 => s
  | n + 1 => if s.castling then s.edge1.edges n else if s.domOn 6 then s.ltEdges (n + 1) else s

/-- Edges until LT reaches the instant `t`: the first edge at or after it. -/
def State.edgesTo (s : State) (t : Nat) : Nat := (t - s.ntu.lt + s.ltStep - 1) / s.ltStep

/-- Time moves forward to the first CLK_TIME edge at or after the instant `t`. -/
def State.advanceTo (s : State) (t : Nat) : State := s.edges (s.edgesTo t)

/-- Edges, at most `n`, until the served time reaches `t`. -/
def State.untilServed (s : State) (t : Int) : Nat → State
  | 0 => s
  | n + 1 => if decide (t ≤ s.served) then s else s.edge1.untilServed t n

/-- Ceiling of a quotient of a non-negative or negative value by a positive one, never below 0. -/
def ceilDiv (a b : Int) : Nat := ((a + b - 1) / b).toNat

/-- Time moves forward to the first edge at which the served time is at or after `t`. -/
def State.advanceServed (s : State) (t : Int) : State :=
  if s.castling then s.untilServed t (ceilDiv (t - s.served) (2 * (nsU : Int)))
  else s.edges (ceilDiv (t - s.served) s.servedStep)

/-! ## Castling (R77, R80, R81) -/

/-- A start of castling to domain `to`; `src` is the tracked domain in force. -/
def State.castStart (s : State) (dest : Nat) : State :=
  let src := s.ntu.cyc.act.src
  if s.castling || !(src == 1 || src == 2) || src == dest + 1 || !s.tdLocked dest then
    s.wrB NTU_CAST_STAT_REFUSED true
  else
    let s := s.putNtu { s.ntu with castFrom := src - 1, castR := 0 }
    let s := (s.wr NTU_CAST_STAT_TARGET dest).wrB NTU_CAST_STAT_CASTLING true
    s.wrI NTU_CAST_STAT_REMAIN (quotT s.castGap (10000000 * (nsU : Int)))

/-- A write of 1 to GO: castle to the domain that SRC does not name (R77). -/
def State.castGo (s : State) : State :=
  s.castStart (if s.ntu.cyc.act.src == 1 then 1 else 0)

/-- CASTLING_GO (R77). -/
def execCastlingGo (s : State) : Host.Outcome State Fault Refusal :=
  .next (if s.domOn 6 then s.castGo else s)

/-- Edges, at most `n`, until castling has completed. -/
def State.untilCast (s : State) : Nat → State
  | 0 => s
  | n + 1 => if s.castling then s.edge1.untilCast n else s

/-- Edges that castling needs: the gap over the step less the drift of D. -/
def State.castEdges (s : State) : Nat :=
  let d := (s.offStep s.castTarget - s.offStep s.ntu.castFrom).natAbs * 10000000
  let st := s.castStep.natAbs
  s.castGap.natAbs / (if d < st then st - d else st) + 2

/-- CASTLING_DONE (R78): time runs to the edge at which the served time reaches the target. -/
def execCastlingDone (s : State) : Host.Outcome State Fault Refusal :=
  .next (if s.domOn 6 then s.untilCast s.castEdges else s)

/-! ## Domain states (R73) -/

/-- Domain `x` enters state `st`; when it is the domain named by SRC, AUTO starts castling, which is refused while
one runs (R77, R80). -/
def State.tdEnter (s : State) (x st : Nat) : State :=
  let s := s.wr (NTU_TDx_STAT_STATE x) st
  let s := s.setTd x { s.td x with outRun := 0, inRun := 0, holdAt := s.ltNs }
  if s.bit NTU_CAST_CTL_AUTO && s.ntu.cyc.act.src == x + 1 && (st == 1 || st == 3 || st == 4) then
    s.castStart (1 - x)
  else s

/-- HOLDOVER; HOLD_MS of 0 enters FREE at once. -/
def State.tdHoldover (s : State) (x : Nat) : State :=
  s.tdEnter x (if s.rd (NTU_TDx_CTL_HOLD_MS x) == 0 then 4 else 3)

/-- Domain `x` is bound (R75). -/
def State.tdBound (s : State) (x : Nat) : Bool :=
  s.cyclicMode &&
    (s.ntu.cyc.act.src == x + 1
      || (s.castling && (s.ntu.castFrom == x || s.castTarget == x))
      || (List.range 4).any fun g => s.bit (CBC_SEGs_CTL_EN g) && s.rd (CBC_SEGs_SYNC_STEER g) == x + 1)

/-- The time that NTU_PPS_CFG.SRC selects is that of a domain that is DISABLED (R92). -/
def State.ppsDead (s : State) : Bool :=
  let k := s.rd NTU_PPS_CFG_SRC
  (k == 1 && s.tdState 0 == 0) || (k == 2 && s.tdState 1 == 0)

/-- A pulse of PPS_OUT ends where its domain has become DISABLED (R92). -/
def State.ppsStop (s : State) : State := s.putNtu { s.ntu with ppsOn := s.ntu.ppsOn && !s.ppsDead }

/-- EN of domain `x` is set or cleared: ACQUIRE or DISABLED (R73). The first measurement after EN is set
has no dt (R74). -/
def State.tdEnable (s : State) (x : Nat) (en : Bool) : State :=
  if en then
    if s.tdState x == 0 then (s.setTd x { s.td x with lastAt := none, interval := 0 }).tdEnter x 1 else s
  else (s.wr (NTU_TDx_STAT_STATE x) 0).ppsStop

/-- A write of 1 to HOLD: a LOCKED domain enters HOLDOVER (R73). -/
def State.tdHold (s : State) (x : Nat) : State := if s.tdLocked x then s.tdHoldover x else s

/-- TD_HOLD (R73). -/
def execTdHold (x : Fin 2) (s : State) : Host.Outcome State Fault Refusal :=
  .next (if s.domOn 6 then s.tdHold x else s)

/-- TD_HOLDOVER_TIMEOUT (R73): no measurement for 4 × the last measurement interval. -/
def execTdHoldoverTimeout (x : Fin 2) (s : State) : Host.Outcome State Fault Refusal :=
  match (s.td x).lastAt with
  | none => .next s
  | some t =>
    if !s.domOn 6 || !s.tdLocked x || (s.td x).interval == 0 then .next s
    else .next ((s.advanceTo ((t + 4 * (s.td x).interval) * nsU)).tdHoldover x)

/-- TD_FREE_TIMEOUT (R73): HOLDOVER has lasted HOLD_MS ms. -/
def execTdFreeTimeout (x : Fin 2) (s : State) : Host.Outcome State Fault Refusal :=
  if !s.domOn 6 || s.tdState x != 3 then .next s
  else
    .next ((s.advanceTo (((s.td x).holdAt + s.rd (NTU_TDx_CTL_HOLD_MS x) * 1000000) * nsU)).tdEnter x 4)

/-! ## Measurements and the servo (R74, R75) -/

/-- The MGP writes measurement `e`, signed, in units of 2^−16 ns. -/
def State.tdMeas (s : State) (x : Nat) (e : Int) : State :=
  let s := if (s.td x).meas.isSome then s.inc (NTU_TDx_STAT_MEAS_OVERRUN x) else s
  s.setTd x { s.td x with meas := some e }

/-- TD_MEAS_WRITE (R74). -/
def execTdMeasWrite (x : Fin 2) (e : Word) (s : State) : Host.Outcome State Fault Refusal :=
  .next (if s.domOn 6 then s.tdMeas x e.toInt else s)

/-- The state transitions of a measurement within (`good`) or beyond LOCK_THR (Table R73). -/
def State.tdJudge (s : State) (x : Nat) (good : Bool) : State :=
  let t := s.td x
  let s1 := s.setTd x (if good then { t with inRun := t.inRun + 1, outRun := 0 }
    else { t with outRun := t.outRun + 1, inRun := 0 })
  let st := s.tdState x
  if st == 1 && good && decide (8 ≤ t.inRun + 1) then s1.tdEnter x 2
  else if st == 2 && !good && decide (4 ≤ t.outRun + 1) then s1.tdEnter x 1
  else if decide (3 ≤ st) then s1.tdEnter x (if good then 2 else 1)
  else s1

/-- The quotient of R74; a measurement interval of 0 ns gives a free value (DESIGN CHOICE, log 21). -/
def State.servoErr (s : State) (e dt : Int) : Int × State :=
  if dt == 0 then let (w, t) := s.takeFree; (w.toInt, t)
  else (quotT (clampInt e (-(2 ^ 46)) (2 ^ 46) * 2 ^ 16) dt, s)

/-- The length in force. -/
def State.cycLen (s : State) : Nat := s.ntu.cyc.act.len

/-- The boundary after a step (R76): the first multiple of LEN of the served time that is not past and lies at least
LEN/2 after the previous boundary, with the time left to that instant taken at the present rates. Before the first
boundary the instant RUN was set stands for the previous one (DESIGN CHOICE, log 87). -/
def State.stepTarget (s : State) : Int :=
  let len : Int := (s.cycLen : Int) * nsU
  let wait : Int := (s.ntu.cyc.nominal : Int) + len / 2 - s.ntu.lt
  let t := s.served + (if wait < 0 then 0 else (wait * s.servedStep + s.ltStep - 1) / s.ltStep)
  (t + len - 1) / len * len

/-- OFF_x −= e, with the step counted; the domain named by SRC asks for the boundary of R76. -/
def State.tdStep (s : State) (x : Nat) (e : Int) : State :=
  let s := (s.setTd x { s.td x with off := (s.td x).off - e * 65536 }).inc (NTU_TDx_STAT_STEPS x)
  if s.ntu.cyc.act.src == x + 1 then s.putNtu { s.ntu with cyc := { s.ntu.cyc with stepNom := some s.stepTarget } }
  else s

/-- The servo consumes measurement `e` (R74, R75). -/
def State.servo (s : State) (x : Nat) (e : Int) : State :=
  let now := s.ltNs
  let t := s.td x
  let dt := t.lastAt.map fun l => ((now : Int) - l)
  let s := s.setTd x { t with meas := none, lastAt := some now, interval := (dt.getD 0).toNat }
  let s := s.wrI (NTU_TDx_STAT_LAST_ERR x) (quotT e 65536)
  let s := s.tdJudge x (decide (e.natAbs ≤ s.rd (NTU_TDx_THR_LOCK_THR x) * 65536))
  let beyond := decide (s.rd (NTU_TDx_THR_STEP_THR x) * 65536 < e.natAbs)
  if beyond && s.tdState x == 1 && s.bit (NTU_TDx_CTL_STEP_EN x) && !s.tdBound x then s.tdStep x e
  else
    let s := if beyond then s.inc (NTU_TDx_STAT_STEP_BLOCKED x) else s
    match dt with
    | none => s
    | some d =>
      let (ferr, s) := s.servoErr e d
      let i := clampInt ((s.td x).iacc + sarInt ferr (s.rd (NTU_TDx_CTL_KI_SHIFT x))) (-1073742) 1073742
      let r := clampInt (-(i + sarInt ferr (s.rd (NTU_TDx_CTL_KP_SHIFT x)))) (-1073742) 1073742
      (s.setTd x { s.td x with iacc := i }).wrI (NTU_TDx_RATE_RATE x) r

/-- SERVO_CONSUME (R74): the pending measurement of an enabled domain is consumed. -/
def execServoConsume (x : Fin 2) (s : State) : Host.Outcome State Fault Refusal :=
  match (s.td x).meas with
  | none => .next s
  | some e => .next (if s.domOn 6 && s.tdState x != 0 then s.servo x e else s)

/-! ## Trim and snapshots (R70, R72) -/

/-- LT_TRIM_WRITE (R70): a locked or out-of-range TRIM leaves the register unchanged (R10, R93). -/
def execLtTrimWrite (trim : BitVec 32) (s : State) : Host.Outcome State Fault Refusal :=
  if !s.domOn 6 || s.bit NTU_LT_TRIM_LOCK || s.bit (cUCTL_LOCK uNTU) then .next s
  else if decide (1073742 < trim.toInt.natAbs) then .next (s.cfgErr NTU_LT_TRIM)
  else .next (s.wr NTU_LT_TRIM_TRIM trim.toNat)

/-- The whole nanoseconds and the 16-bit fraction of a time (R5). -/
def timeNs (t : Int) : Nat := unsign 64 (t.fdiv (2 ^ 32))
def timeFrac (t : Int) : Nat := unsign 16 (t.fdiv (2 ^ 16))

/-- A snapshot of LT, TD-A and TD-B at one edge (R72). -/
def State.snapTime (s : State) : State :=
  let s := s.incWrap NTU_SNAP_SEQ_VALUE
  let s := ((s.wr NTU_SNAP_LT_VALUE s.ltNs).wr NTU_SNAP_TDA_VALUE (timeNs (s.tdTime 0))).wr
    NTU_SNAP_TDB_VALUE (timeNs (s.tdTime 1))
  ((s.wr NTU_SNAP_FRAC_LT_FRAC (timeFrac s.ntu.lt)).wr NTU_SNAP_FRAC_TDA_FRAC (timeFrac (s.tdTime 0))).wr
    NTU_SNAP_FRAC_TDB_FRAC (timeFrac (s.tdTime 1))

/-- SNAP_TAKE (R72). -/
def execSnapTake (s : State) : Host.Outcome State Fault Refusal :=
  .next (if s.domOn 6 then s.snapTime else s)

/-! ## Transmit timestamp FIFOs (R85) -/

def State.txts (s : State) (p : Nat) : List TxTs := mapGet (fun _ => []) s.ntu.txts p

def State.setTxts (s : State) (p : Nat) (l : List TxTs) : State :=
  s.putNtu { s.ntu with txts := mapPut (fun _ => []) s.ntu.txts p l }

/-- A record arrives; a full FIFO of 16 drops it. -/
def State.txtsPush (s : State) (p : Nat) (r : TxTs) : State :=
  if decide (16 ≤ (s.txts p).length) then s.inc (NTU_PORTp_STAT_TXTS_OVF p)
  else s.setTxts p (s.txts p ++ [r])

/-- A read of NTU_TXTSp_POP: the value read and the state after it. -/
def State.txtsPop (s : State) (p : Nat) : Word × State :=
  match s.txts p with
  | [] => (0, s)
  | r :: t =>
    (BitVec.ofNat 64 (2 ^ 63 + r.tag % 65536 * 2 ^ 32 + r.frac % 65536),
     (s.setTxts p t).setReg (NTU_TXTSp_NS p) (BitVec.ofNat 64 r.ns))

/-- TXTS_POP (R85). -/
def execTxtsPop (p : Fin 10) (s : State) : Host.Outcome State Fault Refusal :=
  if !s.domOn 6 then .next (s.putReadData 0)
  else let (v, t) := s.txtsPop p; .next (t.putReadData v)

/-! ## The cycle generator (R21 to R24, R37) -/

/-- RUN. -/
def State.cycRun (s : State) : Bool := s.bit NTU_CYC_CTL_RUN

/-- A boundary has fallen and the generator runs: phases occur. -/
def State.cycLive (s : State) : Bool := s.domOn 6 && s.cycRun && s.ntu.cyc.started

def State.setCyc (s : State) (c : CycSt) : State := s.putNtu { s.ntu with cyc := c }

/-- The source is the local base. -/
def State.cycLocal (s : State) : Bool := s.ntu.cyc.act.src == 0

/-- For a tracked source, the served time of the next nominal boundary: the next multiple of LEN, or
after a step the one that R76 names (R21, R76). -/
def State.nextServed (s : State) : Int :=
  let c := s.ntu.cyc
  let len : Int := (s.cycLen : Int) * nsU
  c.stepNom.getD ((c.srcNom / len + 1) * len)

/-- LT at the next nominal boundary, as far as the present rates tell (R21, R37). -/
def State.nextNominal (s : State) : Nat :=
  let c := s.ntu.cyc
  if s.cycLocal then (c.nominal + ((s.cycLen : Int) + c.corr) * nsU).toNat
  else ((s.ntu.lt : Int) + (s.nextServed - s.served) * s.ltStep / s.servedStep).toNat

/-- Time moves to the edge at which the next boundary takes effect; also its nominal instant. -/
def State.toBoundary (s : State) : Nat × State :=
  if s.cycLocal then (s.nextNominal, s.advanceTo s.nextNominal)
  else
    let target := s.nextServed
    let t := s.advanceServed target
    (((t.ntu.lt : Int) - (t.served - target) * t.ltStep / t.servedStep).toNat, t)

/-- The correction c of R37 for an error `e2` in 0.5 ns: e clamped to ±8 × SLEW_MAX and rounded to the
nearest multiple of 8 ns, ties away from zero. Applied only with the local base and PULL_EN. -/
def pullCorr (b : CycBank) (e2 : Int) : Int :=
  if b.pullEn && b.src == 0 then
    let c := clampInt e2 (-(16 * b.slewMax : Nat)) (16 * b.slewMax : Nat)
    let m : Int := ((c.natAbs + 8) / 16 * 8 : Nat)
    if c < 0 then -m else m
  else 0

/-- An edge with |e| ≤ LEN/4 belongs to the boundary (R37). -/
def edgeBelongs (len : Nat) (e2 : Int) : Bool := decide (2 * e2.natAbs ≤ len)

/-- The shadow bank: the registers as written (R22). -/
def State.cycShadow (s : State) : CycBank :=
  ⟨s.rd NTU_CYC_LEN_LEN, s.rd NTU_CYC_PULL_SLEW_MAX, s.rd NTU_CYC_CTL_SRC, s.bit NTU_CYC_CTL_PULL_EN,
   (List.range 8).map fun n => s.rd (NTU_CYC_PHASEn_OFFSET n)⟩

/-- The conditions of R23 on a shadow bank, against the active bank in a cyclic mode. -/
def cycBankOk (b act : CycBank) (cyclic : Bool) : Bool :=
  let o := fun n => b.phases.getD n 0
  decide (12500 ≤ b.len) && decide (b.len ≤ 64000000)
    && (b.phases.all fun x => x % 8 == 0)
    && decide (o 2 ≤ o 3) && decide (o 3 ≤ o 4) && decide (o 3 ≤ o 6) && decide (o 6 ≤ o 7)
    && (b.phases.all fun x => decide (x + (if b.pullEn then 8 * b.slewMax else 8) ≤ b.len))
    && (!cyclic || (b.len == act.len && b.src == act.src && b.pullEn == act.pullEn))

/-- A write of 1 to APPLY (R22, R23). -/
def State.cycApply (s : State) : State :=
  if s.bit NTU_CYC_STAT_APPLY_PENDING then s.cfgErr NTU_CYC_CTL
  else if cycBankOk s.cycShadow s.ntu.cyc.act s.cyclicMode then s.wrB NTU_CYC_STAT_APPLY_PENDING true
  else s.wrB NTU_CYC_STAT_APPLY_REFUSED true

/-- CYC_APPLY (R23). -/
def execCycApply (s : State) : Host.Outcome State Fault Refusal :=
  .next (if s.domOn 6 then s.cycApply else s)

/-- With the generator stopped no gate list runs, and none holds preemptable traffic (R135, R139). -/
def State.holdsOff (s : State) : State := (List.range 16).foldl (fun t p => t.wrB (SWC_PORTp_PRE_HOLD p) false) s

/-- A write of RUN (R24, R583). RUN set: the first boundary counts from here, COUNT restarts and the
next published image carries RESTART (Table R39); the collection of its reasons begins here (DESIGN CHOICE, log 87, on
R31: no PI_SWAP precedes it). A stop lets a checked bank swap take place (R331). The instant of RUN
stands for the previous boundary until the first one falls (DESIGN CHOICE, log 87, on R76). -/
def State.cycSetRun (s : State) (run : Bool) : State :=
  if s.cycRun == run then s
  else if s.cyclicMode then s.wrB NTU_CYC_STAT_APPLY_REFUSED true
  else
    let s := s.wrB NTU_CYC_CTL_RUN run
    let c := s.ntu.cyc
    if run then
      let s := s.setCyc { c with
        nominal := s.ntu.lt, edge := s.ntu.lt, corr := 0, started := false
        used := none, usedNext := none, closed := true, stepNom := none, srcNom := s.served, phased := 0 }
      (s.wr NTU_CYC_COUNT_CYCLE 0).putImage { s.image with restart := true, reasons := 0 }
    else ((s.setCyc { c with started := false, used := none, usedNext := none, closed := true }).holdsOff).bankSwapDue

/-- CYC_RUN_WRITE (R24). -/
def execCycRunWrite (run : Bool) (s : State) : Host.Outcome State Fault Refusal :=
  .next (if s.domOn 6 then s.cycSetRun run else s)

/-- The window of the latest boundary closes: NO_EDGE and LOCKED settle (R37). -/
def State.windowClose (s : State) : State :=
  let c := s.ntu.cyc
  if c.closed || !c.started then s
  else
    let ok := match c.used with
      | none => false
      | some e => decide (e.natAbs < 16)
    let good := (ok :: c.good).take 8
    let s := s.setCyc { c with closed := true, good := good }
    (s.wrB NTU_CYC_STAT_NO_EDGE c.used.isNone).wrB NTU_CYC_STAT_LOCKED (good.length == 8 && good.all id)

/-- SYNC_WINDOW_CLOSE (R37): at the first CLK_TIME edge at or after b + LEN/4. -/
def execSyncWindowClose (s : State) : Host.Outcome State Fault Refusal :=
  if !s.cycLive then .next s
  else .next ((s.advanceTo (s.ntu.cyc.nominal + s.cycLen * nsU / 4)).windowClose)

/-- The error in 0.5 ns of an edge at `at2` (LT in 0.5 ns) against the instant `b`, which is first rounded down to
0.5 ns (DESIGN CHOICE, log 87: no rule says how an instant between two steps of 0.5 ns is taken). -/
def edgeErr (at2 b : Nat) : Int := (at2 : Int) - ((b : Int) / 2 ^ 31)

/-- An edge is classified against the latest boundary while its window is open, and otherwise against
the boundary to come (R37). -/
def State.syncClassify (s : State) (at2 : Nat) : State :=
  let c := s.ntu.cyc
  let e := edgeErr at2 c.nominal
  let e' := edgeErr at2 s.nextNominal
  if c.started && edgeBelongs s.cycLen e then
    if c.used.isSome then s.inc NTU_CYC_STAT_SYNC_EXTRA
    else (s.setCyc { c with used := some e, corr := pullCorr c.act e }).wrI NTU_CYC_STAT_LAST_ERR e
  else if edgeBelongs s.cycLen e' then
    if c.usedNext.isSome then s.inc NTU_CYC_STAT_SYNC_EXTRA
    else (s.setCyc { c with usedNext := some e' }).wrI NTU_CYC_STAT_LAST_ERR e'
  else s.inc NTU_CYC_STAT_SYNC_OUTSIDE

/-- SYNC_IN_EDGE (R37, R90): an edge of the pin counts when EDGE selects it and the pin still reads its level at the
next FILT CLK_TIME edges, and its timestamp is held
from the FILT-th CLK_TIME edge after it; any other edge is ignored. -/
def execSyncInEdge (e : SyncEdge) (s : State) : Host.Outcome State Fault Refusal :=
  if !s.domOn 6 || e.rising == s.bit NTU_SYNCIN_CFG_EDGE || decide (e.held < s.rd NTU_SYNCIN_CFG_FILT) then .next s
  else
    let s := s.edges (s.edgesTo (e.at2 * 2 ^ 31) + (s.rd NTU_SYNCIN_CFG_FILT - 1))
    let s := s.setReg (NTU_SYNCIN_TS) (BitVec.ofNat 64 e.at2)
    .next (if s.cycRun then s.syncClassify e.at2 else s)

/-- The swap of the shadow bank at a boundary (R22); a SRC that moves from one tracked domain to the
other starts castling instead (R77). One to the local base leaves a castling that runs alone, and its completion then
writes its target to SRC (DESIGN CHOICE, log 87). -/
def State.cycSwap (s : State) : State :=
  if !s.bit NTU_CYC_STAT_APPLY_PENDING then s
  else
    let b := s.cycShadow
    let old := s.ntu.cyc.act
    let cast := old.src != 0 && b.src != 0 && b.src != old.src
    let s := s.wrB NTU_CYC_STAT_APPLY_PENDING false
    let s := s.setCyc { s.ntu.cyc with act := if cast then { b with src := old.src } else b }
    if cast then s.castStart (b.src - 1) else s

/-- The NTU's part of a boundary: it falls at its nominal instant and takes effect at the first edge at
or after it (R21, R22, R37, R91). -/
def State.ntuBoundary (s : State) : State :=
  let s := s.windowClose
  let (nom, s) := s.toBoundary
  let s := s.cycSwap
  let c := s.ntu.cyc
  let nomServed := s.served - ((s.ntu.lt : Int) - nom)
  let s := s.setCyc { c with
    nominal := nom, edge := s.ntu.lt, started := true, closed := false, stepNom := none, phased := 0
    used := c.usedNext, usedNext := none
    corr := match c.usedNext with | none => 0 | some e => pullCorr c.act e
    srcNom := if s.cycLocal then nomServed else ((nomServed + nsU / 2) / nsU) * nsU }
  let s := s.incWrap NTU_CYC_COUNT_CYCLE
  s.putNtu { s.ntu with syncOut := s.reg NTU_SYNCOUT_CFG, syncOutOn := false }

/-- Time moves to phase `n` of the current cycle (R25): offsets count from the boundary's edge. -/
def State.toPhase (s : State) (n : Nat) : State :=
  s.advanceTo (s.ntu.cyc.edge + s.ntu.cyc.act.phases.getD n 0 * nsU)

/-! ## SYNC_OUT and PPS_OUT (R91, R92) -/

/-- SYNC_OUT_ASSERT (R91): at the nominal boundary plus OFFSET × 0.5 ns. A pulse whose OFFSET falls at or
after the next boundary does not occur. -/
def execSyncOutAssert (s : State) : Host.Outcome State Fault Refusal :=
  let w := s.ntu.syncOut
  let t := s.ntu.cyc.nominal + bitsOf w 63 32 * 2 ^ 31
  if !s.cycLive || bitsOf w 0 0 == 0 || decide (s.nextNominal ≤ t) then .next s
  else
    let s := s.advanceTo t
    .next (s.putNtu { s.ntu with syncOutOn := true })

/-- SYNC_OUT_DEASSERT (R91): WIDTH × 8 ns after the assertion, or at the next boundary. -/
def execSyncOutDeassert (s : State) : Host.Outcome State Fault Refusal :=
  let w := s.ntu.syncOut
  let t := s.ntu.cyc.nominal + bitsOf w 63 32 * 2 ^ 31 + bitsOf w 31 8 * 8 * nsU
  if !s.domOn 6 || !s.ntu.syncOutOn then .next s
  else
    let s := s.advanceTo (min t s.nextNominal)
    .next (s.putNtu { s.ntu with syncOutOn := false })

/-- The level of SYNC_OUT: POL selects the polarity. -/
def State.syncOutPin (s : State) : Bool := s.ntu.syncOutOn != (bitsOf s.ntu.syncOut 1 1 == 1)

/-- The time PPS_OUT follows (NTU_PPS_CFG.SRC). -/
def State.ppsTime (s : State) : Int :=
  let k := s.rd NTU_PPS_CFG_SRC
  if k == 1 then s.tdTime 0 else if k == 2 then s.tdTime 1 else if k == 3 then s.served else s.ntu.lt

/-- Its advance at one edge while no castling runs. -/
def State.ppsStep (s : State) : Int :=
  let k := s.rd NTU_PPS_CFG_SRC
  if k == 1 then (s.ltStep : Int) + s.offStep 0 else if k == 2 then (s.ltStep : Int) + s.offStep 1
  else if k == 3 then s.servedStep else s.ltStep

/-- PPS_ASSERT (R92): at the next instant at which the selected time is a whole second plus OFFSET; two
pulses never begin less than 500 ms of LT apart. -/
def execPpsAssert (s : State) : Host.Outcome State Fault Refusal :=
  if !s.domOn 6 || !s.bit NTU_PPS_CFG_EN || s.ppsDead then .next s
  else
    let sec : Int := 1000000000 * nsU
    let off : Int := s.rd NTU_PPS_CFG_OFFSET * nsU
    let target := ((s.ppsTime - off + sec - 1) / sec) * sec + off
    let s := if s.rd NTU_PPS_CFG_SRC == 3 then s.advanceServed target
      else s.edges (ceilDiv (target - s.ppsTime) s.ppsStep)
    let near := match s.ntu.ppsLast with
      | none => false
      | some l => decide (s.ltNs < l + 500000000)
    if near then .next s
    else .next (s.putNtu { s.ntu with ppsOn := true, ppsLast := some s.ltNs })

/-- PPS_DEASSERT (R92): WIDTH µs after the pulse began. -/
def execPpsDeassert (s : State) : Host.Outcome State Fault Refusal :=
  match s.ntu.ppsLast with
  | none => .next s
  | some l =>
    if !s.domOn 6 || !s.ntu.ppsOn then .next s
    else
      let s := s.advanceTo ((l + s.rd NTU_PPS_CFG_WIDTH * 1000) * nsU)
      .next (s.putNtu { s.ntu with ppsOn := false })

/-- The level of PPS_OUT: deasserted while the selected domain is DISABLED (R92). -/
def State.ppsPin (s : State) : Bool := (s.ntu.ppsOn && !s.ppsDead) != s.bit NTU_PPS_CFG_POL

end Sys2Proof.Machine
end

