-- ==== Sys2Proof/Machine/Frame.lean ====
section
/-! DEFINITION. Ethernet frames: tags, the frame key of Table R116, PTP recognition and fix-up (R83,
R86 to R88), the FST hash (R118). Offsets count from the first byte of the destination address. -/

namespace Sys2Proof.Machine

/-- Byte `i` of a frame; a byte that the frame does not have reads 0. -/
def byteAt (l : List Byte) (i : Nat) : Nat := (l.getD i 0).toNat

/-- `n` bytes at offset `o` as a value, first byte most significant (R7). -/
def beAt (l : List Byte) (o n : Nat) : Nat := natOfBE ((List.range n).map fun i => l.getD (o + i) 0)

/-- The frame with `b` in place of its bytes from offset `o`. -/
def putBytes (l : List Byte) (o : Nat) (b : List Byte) : List Byte :=
  l.take o ++ b.take (l.length - o) ++ l.drop (o + b.length)

/-- Length on the wire: the bytes and the FCS. -/
def EthFrame.len (f : EthFrame) : Nat := f.bytes.length + 4

def frDa (l : List Byte) : Nat := beAt l 0 6
def frSa (l : List Byte) : Nat := beAt l 6 6

/-- A VLAN tag type: 0x8100 or 0x88A8 (PRESUMED, log 27). -/
def isTag (t : Nat) : Bool := t == 0x8100 || t == 0x88A8

/-- Number of VLAN tags, at most two. -/
def tagCount (l : List Byte) : Nat :=
  if isTag (beAt l 12 2) then (if isTag (beAt l 16 2) then 2 else 1) else 0

/-- Offset of the EtherType after up to two VLAN tags. -/
def etOff (l : List Byte) : Nat := 12 + 4 * tagCount l

def etherType (l : List Byte) : Nat := beAt l (etOff l) 2

/-- VID and PCP of step 1 of R114. -/
def frVid (l : List Byte) (pvid : Nat) : Nat :=
  if tagCount l = 0 then pvid
  else if beAt l 14 2 % 4096 = 0 then pvid else beAt l 14 2 % 4096

def frPcp (l : List Byte) (defPcp : Nat) : Nat := if tagCount l = 0 then defPcp else beAt l 14 2 / 8192

/-- Ten times the ns per byte `bt`: bytes of `n` that have arrived at LT `now`, the first of them at `born`. -/
def arrivedBytes (n born bt now : Nat) : Nat := if bt == 0 then n else min n ((now - born) * 10 / bt)

/-- LT in ns at which the first `k` bytes have arrived, or the whole frame. -/
def EthFrame.arriveAt (f : EthFrame) (k : Nat) : Nat := f.born + (min k f.len * f.bt + 9) / 10

/-- Ingress of a frame outside the device. -/
def EthFrame.external (f : EthFrame) : Bool := decide (f.ingress < 10)

/-! ## The FCS -/

/-- CRC-32 of IEEE 802.3 over bytes, in reflected form. -/
def crc32Bit (c : Nat) : Nat := if c % 2 == 1 then (c / 2) ^^^ 0xEDB88320 else c / 2
def crc32Byte (c b : Nat) : Nat := (List.range 8).foldl (fun c _ => crc32Bit c) (c ^^^ b)
def crc32 (l : List Byte) : Nat := 0xFFFFFFFF - l.foldl (fun c b => crc32Byte c b.toNat) 0xFFFFFFFF

/-- The FCS as it goes on the wire; a bad frame carries its complement (R104). -/
def fcsBytes (l : List Byte) (bad : Bool) : List Byte :=
  bytesLE 4 (if bad then 0xFFFFFFFF - crc32 l else crc32 l)

/-! ## R-TAGs (R132) -/

/-- An R-TAG after the VLAN tags. -/
def hasRtag (l : List Byte) : Bool := etherType l == 0xF1C1

/-- The frame without its R-TAG, and with one of sequence number `q`. -/
def stripRtag (l : List Byte) : List Byte := l.take (etOff l) ++ l.drop (etOff l + 6)
def insertRtag (l : List Byte) (q : Nat) : List Byte :=
  l.take (etOff l) ++ [0xF1, 0xC1, 0, 0] ++ bytesBE 2 (q % 65536) ++ l.drop (etOff l)

/-- The bytes of the copy on port `p`: with the R-TAG where its replication list asks for one. -/
def EthFrame.copyBytes (f : EthFrame) (p : Nat) : List Byte :=
  match f.rtag with
  | none => f.bytes
  | some q => if bitAt f.rtagPorts p then insertRtag f.bytes q else f.bytes

/-! ## Frame key (Table R116) -/

/-- Offset of the UDP or TCP header, if the frame carries one. -/
def l4Off (l : List Byte) : Option Nat :=
  let n := etOff l + 2
  if etherType l == 0x0800 then
    if byteAt l (n + 9) == 17 || byteAt l (n + 9) == 6 then some (n + 4 * (byteAt l n % 16)) else none
  else if etherType l == 0x86DD then
    if byteAt l (n + 6) == 17 || byteAt l (n + 6) == 6 then some (n + 40) else none
  else none

/-- IPPROTO of the key. -/
def ipProto (l : List Byte) : Nat :=
  if etherType l == 0x0800 then byteAt l (etOff l + 11)
  else if etherType l == 0x86DD then byteAt l (etOff l + 8) else 0

/-- The 128-bit key of a frame; only its first 96 bytes count. -/
def frameKey (frame : List Byte) (ingress vid pcp pOff : Nat) : Nat :=
  let l := frame.take 96
  let e := etherType l
  ingress % 16 * 2 ^ 124 + vid % 4096 * 2 ^ 112 + pcp % 8 * 2 ^ 109 + b2n (decide (0 < tagCount l)) * 2 ^ 108
    + b2n (e == 0x0800) * 2 ^ 107 + b2n (e == 0x86DD) * 2 ^ 106 + e * 2 ^ 88 + frDa l * 2 ^ 40
    + ipProto l * 2 ^ 32 + (match l4Off l with | none => 0 | some o => beAt l (o + 2) 2) * 2 ^ 16
    + beAt l (etOff l + 2 + pOff) 2

/-! ## FST hash (R118) -/

/-- One step of the CRC-16 with polynomial 0x1021. -/
def crc16Bit (c : Nat) : Nat := if 0x8000 ≤ c then (c * 2 % 65536) ^^^ 0x1021 else c * 2 % 65536

def crc16Byte (c b : Nat) : Nat :=
  crc16Bit (crc16Bit (crc16Bit (crc16Bit (crc16Bit (crc16Bit (crc16Bit (crc16Bit (c ^^^ (b * 256)))))))))

/-- CRC-16 with initial value 0xFFFF, no reflection, no final XOR. -/
def crc16 (l : List Byte) : Nat := l.foldl (fun c b => crc16Byte c b.toNat) 0xFFFF

/-- The bucket of a (VID, MAC) pair. -/
def fstBucket (vid mac : Nat) : Nat := crc16 (bytesBE 2 vid ++ bytesBE 6 mac) % 4096

/-! ## PTP (R87) -/

/-- Where a PTP header lies and how the frame carries it: 0 IEEE 802.3, 1 UDP over IPv4, 2 over IPv6. -/
structure PtpPos where
  off : Nat
  encap : Nat
deriving DecidableEq, Repr

/-- A PTP event message in one of the encapsulations of R87. -/
def ptpPos (l : List Byte) : Option PtpPos :=
  let n := etOff l + 2
  if etherType l == 0x88F7 then some ⟨n, 0⟩
  else if etherType l == 0x0800 && byteAt l (n + 9) == 17 && beAt l (n + 4 * (byteAt l n % 16) + 2) 2 == 319 then
    some ⟨n + 4 * (byteAt l n % 16) + 8, 1⟩
  else if etherType l == 0x86DD && byteAt l (n + 6) == 17 && beAt l (n + 42) 2 == 319 then some ⟨n + 48, 2⟩
  else none

/-- The UDP header that the IPv6 extension headers from type `h` at offset `o` lead to: hop-by-hop, routing,
destination options and fragment. -/
def ipv6Udp (l : List Byte) (h o : Nat) : Nat → Option Nat
  | 0 => none
  | n + 1 =>
    if h == 17 then some o
    else if h == 0 || h == 43 || h == 60 then ipv6Udp l (byteAt l o) (o + 8 * (byteAt l (o + 1) + 1)) n
    else if h == 44 then ipv6Udp l (byteAt l o) (o + 8) n
    else none

/-- A PTP message behind IPv6 extension headers, which no encapsulation of R87 takes: `encap` 3. It stands for the IPv6
frames whose next header is not UDP that ONESTEP_SKIP counts (R87; DEDUCED, log 88). -/
def ptpHidden (l : List Byte) : Option PtpPos :=
  let n := etOff l + 2
  if etherType l != 0x86DD || byteAt l (n + 6) == 17 then none
  else match ipv6Udp l (byteAt l (n + 6)) (n + 40) 8 with
    | none => none
    | some o => if beAt l (o + 2) 2 == 319 then some ⟨o + 8, 3⟩ else none

/-- The PTP message of a frame at egress, changeable or not. -/
def ptpAny (l : List Byte) : Option PtpPos := (ptpPos l).or (ptpHidden l)

/-- An IPv4 header with options, and an IPv6 header whose next header is not UDP, is not changed (R87). -/
def ptpPlain (l : List Byte) (p : PtpPos) : Bool :=
  p.encap != 3 && (p.encap != 1 || byteAt l (etOff l + 2) % 16 == 5)

/-- The twoStepFlag of a PTP message is 0: the one-step flag that R86 names (PRESUMED, log 88). -/
def ptpOneStep (l : List Byte) (p : PtpPos) : Bool := byteAt l (p.off + 6) / 2 % 2 == 0

/-- The message type of a recognised PTP message. -/
def ptpType (l : List Byte) (p : PtpPos) : Nat := byteAt l p.off % 16

/-- Messages that have an event class: Sync, Delay_Req, Pdelay_Req, Pdelay_Resp. -/
def ptpEvent (l : List Byte) : Bool :=
  match ptpPos l with
  | none => false
  | some p => decide (ptpType l p < 4)

def ptpCf (l : List Byte) (p : PtpPos) : Int := signed 64 (beAt l (p.off + 8) 8)

/-- One's complement sum of two 16-bit values. -/
def add1c (a b : Nat) : Nat := (a + b) % 65536 + (a + b) / 65536

/-- The incremental checksum update of RFC 1624: HC' = ~(~HC + ~m + m'), over the 16-bit words that
change from `old` to `new_`. -/
def rfc1624 (hc : Nat) : List Nat → List Nat → Nat
  | m :: ms, n :: ns => rfc1624 (65535 - add1c (add1c (65535 - hc) (65535 - m)) n) ms ns
  | _, _ => hc

/-- The 16-bit words of a 64-bit value, most significant first. -/
def words16 (v : Nat) : List Nat := [v / 2 ^ 48 % 65536, v / 2 ^ 32 % 65536, v / 2 ^ 16 % 65536, v % 65536]

/-- The frame with `cf` as its correctionField and the UDP checksum kept right; an IPv4 checksum of 0
stays 0. -/
def setCf (l : List Byte) (p : PtpPos) (cf : Int) : List Byte :=
  let old := beAt l (p.off + 8) 8
  let new_ := unsign 64 cf
  let l1 := putBytes l (p.off + 8) (bytesBE 8 new_)
  if p.encap == 0 then l1
  else
    let ck := beAt l (p.off - 2) 2
    if p.encap == 1 && ck == 0 then l1
    else
      let odd := p.off % 2
      let ck' := rfc1624 ck (words16 old) (words16 new_)
      putBytes l1 (p.off - 2) (bytesBE 2 (if ck' == 0 && odd == 0 then 0xFFFF else ck'))

/-- correctionField + d; on overflow, in either direction, 0x7FFF_FFFF_FFFF_FFFF (R86). Also whether it overflowed. -/
def addCf (cf d : Int) : Int × Bool :=
  if 2 ^ 63 ≤ cf + d || cf + d < -(2 ^ 63) then (2 ^ 63 - 1, true) else (cf + d, false)

/-- A correction `d` added to a recognised message: frame, and whether it saturated. -/
def fixCf (l : List Byte) (p : PtpPos) (d : Int) : List Byte × Bool :=
  let r := addCf (ptpCf l p) d
  (setCf l p r.1, r.2)

end Sys2Proof.Machine
end

