-- ==== Sys2Proof/Machine/SfiPar.lean ====
section
/-! DEFINITION. The safety island's parameters, its CRC and PDUs, and the check of a PDU (R353 to R356,
R362 to R364). -/

namespace Sys2Proof.Machine

/-! ## Parameters (R364) -/

/-- Zone parameters take NONE where no record gives them. -/
def zoneIds : List Nat := [0x201, 0x610, 0x611, 0x620, 0x630, 0x640, 0x650, 0x660]

/-- The value of parameter `id` at `idx` in the records `r`; the last record of it counts (DEDUCED, log 53). -/
def parGet (r : List SfiRec) (id idx : Nat) : Nat :=
  match r.reverse.find? fun e => e.id == id && e.idx == idx with
  | some e => e.val
  | none => if zoneIds.contains id then 0xFF else 0

/-- All values of a parameter that takes one record per entry. -/
def parAll (r : List SfiRec) (id idx : Nat) : List Nat :=
  (r.filter fun e => e.id == id && e.idx == idx).map SfiRec.val

def parHas (r : List SfiRec) (id idx : Nat) : Bool := r.any fun e => e.id == id && e.idx == idx

/-- The active set's value. -/
def SfiSt.get (x : SfiSt) (id idx : Nat) : Nat := parGet x.par.recs id idx

/-- How many indices parameter `id` has; 0 for an unknown one (Table R364). -/
def parCount (id : Nat) : Nat :=
  if id == 0x001 then 1
  else if id == 0x100 || id == 0x101 || id == 0x102 then 12
  else if decide (0x200 ≤ id) && decide (id ≤ 0x204) then 4
  else if id == 0x300 || id == 0x301 then 16
  else if (decide (0x400 ≤ id) && decide (id ≤ 0x405)) || id == 0x501 then 512
  else if id == 0x500 then 160
  else if id == 0x640 || id == 0x641 then 256
  else if (decide (0x600 ≤ id) && decide (id ≤ 0x605)) || (decide (0x610 ≤ id) && decide (id ≤ 0x615))
      || id == 0x620 || (decide (0x630 ≤ id) && decide (id ≤ 0x632))
      || (decide (0x650 ≤ id) && decide (id ≤ 0x652)) || (decide (0x660 ≤ id) && decide (id ≤ 0x662)) then 64
  else 0

/-- A record names a parameter and an index of it. -/
def SfiRec.known (e : SfiRec) : Bool :=
  decide (e.idx < parCount e.id) && (e.id != 0x500 || decide (32 ≤ e.idx))

def within (v lo hi : Nat) : Bool := decide (lo ≤ v) && decide (v ≤ hi)

def zoneOk (v : Nat) : Bool := decide (v < 16) || v == 0xFE || v == 0xFF

/-- Connections that some record names. -/
def parConns (r : List SfiRec) : List Nat :=
  (List.range 512).filter fun c => r.any fun e => within e.id 0x400 0x405 && e.idx == c

/-- Signal `n` is defined by a record, and an ACK pair is no member (R345, R349). -/
def signalOk (r : List SfiRec) (n : Nat) : Bool :=
  if decide (n < 12) then parHas r 0x100 n && parGet r 0x100 n != 3 else within n 32 159 && parHas r 0x500 n

def pairOk (r : List SfiRec) (p : Nat) : Bool :=
  let t := parGet r 0x102 p
  parGet r 0x100 p == 0
    || (decide (parGet r 0x100 p ≤ 3) && within (parGet r 0x101 p) 2 2000
        && (t == 0xFF || (decide (t < 4) && parGet r 0x200 t == 2)))

def outOk (r : List SfiRec) (q : Nat) : Bool :=
  let role := parGet r 0x200 q
  role == 0
    || (decide (role ≤ 2) && zoneOk (parGet r 0x201 q) && within (parGet r 0x202 q) 100 1000
        && parGet r 0x202 q % 10 == 0 && within (parGet r 0x203 q) 10 1000 && decide (parGet r 0x204 q ≤ 1))

def zoneParOk (r : List SfiRec) (z : Nat) : Bool :=
  (parAll r 0x300 z).all (signalOk r) && decide (parGet r 0x301 z ≤ 1)

def connOk (r : List SfiRec) (c : Nat) : Bool :=
  let kind := parGet r 0x401 c
  let tr := parGet r 0x403 c
  let len := parGet r 0x404 c
  within kind 1 4 && within (parGet r 0x402 c) 1 1000
    && (if bitAt tr 31 then tr == 2 ^ 31 else decide (tr < 2 ^ 29) && decide (0x80 ≤ tr % 2 ^ 17))
    && (if decide (kind ≤ 2) then within len 1 64 else if kind == 3 then len == 16 else len == 4)
    && (decide (kind ≤ 2) || decide (parGet r 0x405 c < 64))
    && (parAll r 0x501 c).all fun v =>
        bitsOf (BitVec.ofNat 64 v) 31 30 == 0 && bitsOf (BitVec.ofNat 64 v) 23 19 == 0
          && bitsOf (BitVec.ofNat 64 v) 15 4 == 0

def sigSrcOk (v : Nat) : Bool :=
  let w : Word := BitVec.ofNat 64 v
  bitsOf w 31 25 == 0 && bitsOf w 15 14 == 0 && bitsOf w 7 3 == 0

/-- The parameters of an enabled axis, those of a function only where something can request it. -/
def axisParOk (r : List SfiRec) (k : Nat) : Bool :=
  let g := fun id => parGet r id k
  let ss := g 0x611 != 0xFF || g 0x620 != 0xFF || g 0x601 == 1 || g 0x602 == 1
  let sos := g 0x630 != 0xFF || g 0x620 != 0xFF
  let sbc : Word := BitVec.ofNat 64 (g 0x603)
  g 0x600 == 0
    || (g 0x600 == 1 && decide (g 0x601 ≤ 1) && decide (g 0x602 ≤ 1)
        && bitsOf sbc 30 16 == 0 && decide (bitsOf sbc 15 0 ≤ 1000) && within (g 0x604) 1 1000
        && [0x610, 0x611, 0x620, 0x630, 0x650, 0x660].all (fun id => zoneOk (g id))
        && (List.range 4).all (fun j => zoneOk (parGet r 0x640 (4 * k + j)))
        && (!ss || (decide (g 0x612 ≤ 1) && within (g 0x613) 1 60000 && (g 0x612 == 0 || decide (1 ≤ g 0x614))))
        && (!sos || within (g 0x631) 1 (2 ^ 31 - 1))
        && (g 0x650 == 0xFF || decide (signed 32 (g 0x651) < signed 32 (g 0x652)))
        && (g 0x660 == 0xFF || decide (g 0x661 ≤ 1)))

/-- The parameter identity of this device, which IDENTIFY reports (R362, R412). -/
def parIdent : Nat := (Config.freeFn 2 []).toNat % 2 ^ 32

/-- No two entries are equal. -/
def allDiffer : List Nat → Bool
  | [] => true
  | a :: t => !t.contains a && allDiffer t

/-- Every rule of R364 for a set of records. -/
def parSetOk (r : List SfiRec) : Bool :=
  let ack := parGet r 0x001 0
  let cs := parConns r
  let ids := cs.map fun c => parGet r 0x400 c
  let axes := fun kind => (cs.filter fun c => parGet r 0x401 c == kind).map fun c => parGet r 0x405 c
  (ack == 2 ^ 32 - 1 || decide (ack < 12) || within ack 32 159)
    && (List.range 12).all (pairOk r) && (List.range 4).all (outOk r) && (List.range 16).all (zoneParOk r)
    && cs.all (connOk r) && ((r.filter fun e => e.id == 0x500).all fun e => sigSrcOk e.val)
    && (List.range 64).all (axisParOk r)
    && ids.all (fun i => i != 0) && allDiffer (parIdent :: ids) && allDiffer (axes 3) && allDiffer (axes 4)

/-! ## The CRC and PDUs (R353, R354) -/

/-- One bit of the reflected CRC-32C. -/
def crc32cBit (c : Nat) : Nat := if c % 2 == 1 then (c / 2) ^^^ 0x82F63B78 else c / 2

def crc32cByte (c b : Nat) : Nat :=
  crc32cBit (crc32cBit (crc32cBit (crc32cBit (crc32cBit (crc32cBit (crc32cBit (crc32cBit (c ^^^ b))))))))

/-- CRC-32C of a run of bytes. -/
def crc32c (l : List Byte) : Nat := (l.foldl (fun c b => crc32cByte c b.toNat) 0xFFFFFFFF) ^^^ 0xFFFFFFFF

/-- dsl_crc: the identity, most significant byte first, then the bytes. -/
def dslCrc (ident : Nat) (l : List Byte) : Nat := crc32c (bytesBE 4 ident ++ l)

/-- A PDU of Table R353. -/
def dslPdu (ident kind : Nat) (fs : Bool) (wdx seq : Nat) (data : List Byte) : List Byte :=
  let head := BitVec.ofNat 8 (0x20 + kind * 4 + b2n fs * 2) :: BitVec.ofNat 8 data.length :: (bytesBE 2 wdx ++ bytesBE 2 seq)
  head ++ data ++ bytesBE 4 (dslCrc ident (head ++ data))

/-- The outcome of the checks of Table R355. -/
inductive DslOutcome where
  | fmt | crc | wdx | seq | repeated | start | data
deriving DecidableEq, Repr

/-- The checks of Table R355, in order; `lenOk kind len` says which KIND and LEN the connection takes. -/
def dslCheck (ident wdx : Nat) (lenOk : Nat → Nat → Bool) (last : Option Nat) (p : List Byte) : DslOutcome :=
  let hdr := byteAt p 0
  let len := byteAt p 1
  let kind := hdr / 4 % 8
  if hdr / 32 != 1 || hdr % 2 != 0 || !lenOk kind len || decide (p.length < 10 + len) then .fmt
  else if beAt p (6 + len) 4 != dslCrc ident (p.take (6 + len)) then .crc
  else if beAt p 2 2 != wdx then .wdx
  else if kind == 1 then .start
  else match last with
    | none => .seq
    | some l =>
      let d := (beAt p 4 2 + 65536 - l) % 65536
      if d == 0 then .repeated else if decide (d ≤ 255) then .data else .seq

def sat8 (n : Nat) : Nat := min 255 n

/-- The connection after a PDU with this outcome at tick `t` (R355, R356). -/
def SfiConn.take (x : SfiConn) (o : DslOutcome) (p : List Byte) (t : Nat) : SfiConn :=
  let seq := beAt p 4 2
  let fs := bitAt (byteAt p 0) 1
  match o with
  | .fmt => { x with fmtErr := sat8 (x.fmtErr + 1), lastErr := 1, okRun := 0 }
  | .crc =>
    let ticks := t :: x.crcTicks.filter fun e => decide (t < e + 1000)
    { x with
      crcErr := sat8 (x.crcErr + 1)
      lastErr := 2
      okRun := 0
      crcTicks := ticks
      st := if decide (8 ≤ ticks.length) then 3 else x.st }
  | .wdx => { x with fmtErr := sat8 (x.fmtErr + 1), lastErr := 3, okRun := 0, st := 3 }
  | .seq => { x with seqErr := sat8 (x.seqErr + 1), lastErr := 4, okRun := 0 }
  | .repeated => x
  | .start =>
    { x with
      st := 1
      last := some seq
      okRun := 0
      since := t
      fs := fs
      crcErr := 0
      seqErr := 0
      wdExp := 0
      fmtErr := 0 }
  | .data =>
    { x with
      last := some seq
      okRun := x.okRun + 1
      since := t
      fs := fs
      data := (p.drop 6).take (byteAt p 1)
      st := if x.st == 1 && decide (2 ≤ x.okRun) then 2 else x.st }

/-! ## Captures (R359) -/

/-- Connection `c` is an input of the SFI, or an output. -/
def SfiSt.isInput (x : SfiSt) (c : Nat) : Bool := x.get 0x401 c == 1 || x.get 0x401 c == 3
def SfiSt.isOutput (x : SfiSt) (c : Nat) : Bool := x.get 0x401 c == 2 || x.get 0x401 c == 4
def SfiSt.isEth (x : SfiSt) (c : Nat) : Bool := bitAt (x.get 0x403 c) 31

/-- The registry connection and the word offset of a PI connection's item. -/
def SfiSt.piConn (x : SfiSt) (c : Nat) : Nat := x.get 0x403 c / 2 ^ 17 % 2 ^ 12
def SfiSt.piOff (x : SfiSt) (c : Nat) : Nat := x.get 0x403 c % 2 ^ 17

def SfiSt.conn (x : SfiSt) (c : Nat) : SfiConn := mapGet (fun _ => SfiConn.reset) x.conns c

def SfiSt.setConn (x : SfiSt) (c : Nat) (y : SfiConn) : SfiSt :=
  { x with conns := mapPut (fun _ => SfiConn.reset) x.conns c y }

/-- The connections of the active set. -/
def SfiSt.connList (x : SfiSt) : List Nat := parConns x.par.recs

/-- Item `item` of the registry landed: the SFI captures the PDU of each DSL input it carries, from the
filling copy at `base`. -/
def State.sfiCapture (s : State) (base item : Nat) : State :=
  if !s.domOn 1 || s.sfi.par.recs.isEmpty then s
  else
    let x := s.sfi
    let hit := x.connList.filter fun c => x.isInput c && !x.isEth c && x.piConn c == item
    let caps := hit.foldl (fun m c =>
      mapPut (fun _ => none) m c (some (memBytes s.sram (base + 8 * x.piOff c) (10 + x.get 0x404 c)))) x.captures
    s.putSfi { x with captures := caps }

end Sys2Proof.Machine
end

