-- ==== Sys2Proof/Machine/Image.lean ====
section
/-! DEFINITION. The process image (R31 to R36, R207, R586): its copies, items, freshness, swaps. -/

namespace Sys2Proof.Machine

/-- Bases of the copies in shared SRAM. -/
def State.fillBase (s : State) : Nat := s.image.filling * 0x100000
def State.pubBase (s : State) : Nat := (1 - s.image.filling) * 0x100000

def State.part (s : State) (p : Nat) : PartSt := mapGet (fun _ => PartSt.reset) s.parts p

def State.setPart (s : State) (p : Nat) (x : PartSt) : State :=
  s.putParts (mapPut (fun _ => PartSt.reset) s.parts p x)

/-- The partition whose slice holds byte `off` of the host region (R385). -/
def State.sliceOwner (s : State) (off : Nat) : Option Nat :=
  (List.range 6).find? fun p =>
    decide (4096 * s.rd (HIC_PARTp_SLICE_OFF p) ≤ off)
      && decide (off < 4096 * (s.rd (HIC_PARTp_SLICE_OFF p) + s.rd (HIC_PARTp_SLICE_LEN p)))

/-- Shared SRAM offset of byte `off` of the host region's active copy; in no slice it is OUT_A (R586). -/
def State.hostActive (s : State) (off : Nat) : Nat :=
  match s.sliceOwner off with
  | none => 0x200000 + off
  | some p => 0x200000 + (s.part p).activeCopy * 0x100000 + off

/-- The same of the staging copy. -/
def State.hostStaging (s : State) (off : Nat) : Nat :=
  match s.sliceOwner off with
  | none => 0x300000 + off
  | some p => 0x200000 + (1 - (s.part p).activeCopy) * 0x100000 + off

/-- Shared SRAM offset of an offset of the role view (R207); none in the staging range. -/
def State.roleAddr (s : State) (off : Nat) : Option Nat :=
  if off < 0x100000 then some (s.fillBase + off)
  else if off < 0x200000 then some (s.pubBase + (off - 0x100000))
  else if off < 0x300000 then some (s.hostActive (off - 0x200000))
  else none

/-- FRESH bit `c` of the filling copy (Table R35). -/
def State.freshBit (s : State) (c : Nat) : Bool :=
  bitAt (memByte s.sram (s.fillBase + 0x40 + c / 8)).toNat (c % 8)

/-- LT at the axis's deadline (R28). -/
def State.axisDeadline (s : State) (k : Nat) : Nat := s.ntu.cyc.edge + bitsOf (s.axis k).time 31 0 * nsU

/-- Axis `k` takes the landing of its feedback connection: only the first one of a cycle in SAFEOP, OP or
SAFESTOP counts (R318); one after the deadline is late. It ends a run of cycles without landing (R323). -/
def State.axisLand (s : State) (c k : Nat) : State :=
  let x := s.axis k
  if s.bit (ACE_AXk_CFG_EN k) && s.rd (ACE_AXk_CFG_FB_CONN k) == c && x.land.isNone then
    (s.setAxis k { x with
      land := some (s.ntu.lt, memWord s.sram (s.fillBase + 8 * s.rd (ACE_AXk_CFG_FB_OFF k)))
      ext := x.ext || decide (s.axisDeadline k < s.ntu.lt) }).wr (ACE_AXk_STAT_EXTRAP_RUN k) 0
  else s

/-- Feedback landing at every axis that connection `c` serves. -/
def State.aceLand (s : State) (c : Nat) : State :=
  if !s.domOn 7 || !s.cyclicMode || !s.cycLive then s
  else (List.range 64).foldl (fun s k => s.axisLand c k) s

/-- FRESH bit `c` sets, which is the landing of its connection. -/
def State.setFresh (s : State) (c : Nat) : State :=
  let a := s.fillBase + 0x40 + c / 8
  ((s.sramWrite false a [BitVec.ofNat 8 (setBitAt (memByte s.sram a).toNat (c % 8) true)]).aceLand c).sfiCapture s.fillBase c

/-- An item lands whole in the filling copy at byte offset `off`, and its FRESH bit sets at the same edge
(R34). No byte lands outside the copy (DEDUCED, log 47). -/
def State.landItem (s : State) (c off : Nat) (bytes : List Byte) : State :=
  (s.sramWrite false (s.fillBase + off) (bytes.take (0x100000 - off))).setFresh c

/-- A payload padded with zero bytes to whole 64-bit words. -/
def padWords (b : List Byte) : List Byte := b ++ List.replicate ((8 - b.length % 8) % 8) 0

/-- Bytes at byte offset `off` of the active host copies, a 64-bit word at a time, and whether one was bad: `n`
bytes in at most `k` words. -/
def State.hostWords (s : State) (off n : Nat) : Nat → List Byte × Bool × State
  | 0 => ([], false, s)
  | k + 1 =>
    if n == 0 then ([], false, s)
    else
      let m := min n (8 - off % 8)
      let (b, u, s1) := s.sramReadBytes false (s.hostActive off) m
      let (r, v, s2) := s1.hostWords (off + m) (n - m) k
      (b ++ r, u || v, s2)

/-- `n` bytes at byte offset `off` of the active host copies, and whether a word was bad. -/
def State.hostBytes (s : State) (off n : Nat) : List Byte × Bool × State := s.hostWords off n (n / 8 + 2)

/-- `len` bytes of the process image at byte offset `off`, and whether a word was bad: the host region's active copy
or the filling copy. -/
def State.imageSource (s : State) (host : Bool) (off len : Nat) : List Byte × Bool × State :=
  if host then s.hostBytes off len else s.sramReadBytes false (s.fillBase + off) len

/-- The published copy has an uncorrectable word (R39, R533). -/
def State.copyBad (s : State) (base : Nat) : Bool :=
  s.mem.badWords.any fun e => decide (base ≤ 8 * e.1) && decide (8 * e.1 < base + 0x100000)

/-- A bank of B00 to B03, or PD_MEM, is not ON. -/
def State.imagePdLoss (s : State) : Bool := (List.range 4).any fun b => s.bankState b != 1

/-- The VALIDITY word of the copy being published (Table R39). -/
def State.validity (s : State) : Nat :=
  let r := s.image.reasons ||| (if s.copyBad s.fillBase then 4 else 0) ||| (if s.imagePdLoss then 8 else 0)
    ||| (if s.image.restart then 2 else 0)
  if r == 0 then 0 else r + 1

end Sys2Proof.Machine
end

