-- ==== Sys2Proof/Machine/Can.lean ====
section
/-! DEFINITION. The CAN channels (chapter 09, R260 to R283). -/

namespace Sys2Proof.Machine

def State.can_ (s : State) (n : Nat) : CanCh := mapGet (fun _ => CanCh.reset) s.can n

def State.setCan (s : State) (n : Nat) (x : CanCh) : State :=
  s.putCan (mapPut (fun _ => CanCh.reset) s.can n x)

def State.canUpd (s : State) (n : Nat) (f : CanCh → CanCh) : State := s.setCan n (f (s.can_ n))

def State.canState (s : State) (n : Nat) : Nat := s.rd (CANn_STAT_STATE n)

/-- The mode lets a channel be on the bus (R265). -/
def State.canAllowed (s : State) : Bool := s.mode == 4 || s.mode == 5 || s.cyclicMode || s.mode == 11

/-- Listen-only: LOM or SERVICE (R279). -/
def State.canListen (s : State) (n : Nat) : Bool := s.bit (CANn_CTL_LOM n) || s.mode == 11

/-- Interrupt bit `b` of channel `n` (R283). -/
def State.canIrq (s : State) (n b : Nat) : State := s.setIstat uCANB (2 ^ (8 * n + b))

/-! ## The message area (R266) -/

def State.canBase (s : State) (n : Nat) : Nat := s.rd (CANn_MEM_BASE n)

/-- A DSIZE code in bytes. -/
def canDs (c : Nat) : Nat := if c == 0 then 8 else if c == 1 then 64 else if c == 2 then 256 else 2048

/-- Offset of receive FIFO `f`, and its data size. -/
def State.canFifo (s : State) (n f : Nat) : Nat × Nat :=
  let d0 := canDs (s.rd (CANn_MEM_DSIZE0 n))
  if f == 0 then (s.canBase n + 0x9000, d0)
  else (s.canBase n + 0x9000 + 64 * (32 + d0), canDs (s.rd (CANn_MEM_DSIZE1 n)))

/-- Distance of two counts modulo 128. -/
def dist128 (put get : Nat) : Nat := (put + 128 - get) % 128

/-! ## Transmit events (R269, R277) -/

/-- A record for an entry that leaves the queue with `status`. -/
def State.canEvent (s : State) (n : Nat) (e : CanEnt) (status : Nat) : State :=
  let put := s.rd (CANn_IDX_TXEV_PUT n)
  if decide (64 ≤ dist128 put (s.rd (CANn_IDX_TXEV_GET n))) then
    (s.inc (CANn_CNT_LOST n)).canUpd n fun x => { x with gapT := true }
  else
    let w1 := e.tag * 2 ^ 48 + b2n (s.can_ n).gapT * 2 ^ 47 + b2n e.cyc.isSome * 2 ^ 46 + (e.cyc.getD 0) * 2 ^ 41
      + status * 2 ^ 32 + min e.attempts 255
    let s := s.sramWrite false (s.canBase n + 0x8C00 + put % 64 * 16) (bytesLE 8 (if e.attempts == 0 then 0 else e.sof) ++ bytesLE 8 w1)
    let s := s.canUpd n fun x => { x with gapT := false }
    (s.incWrap (CANn_IDX_TXEV_PUT n)).canIrq n 3

/-- The queue is `q`; COUNT follows. -/
def State.canSetQ (s : State) (n : Nat) (q : List CanEnt) : State :=
  (s.canUpd n fun x => { x with queue := q }).wr (CANn_TXQ_COUNT n) q.length

/-- Entries of a list that satisfy `p` leave with `status`, in queue order. -/
def State.canLeave (s : State) (n status : Nat) (p : CanEnt → Bool) (l : List CanEnt) : State :=
  (l.filter p).foldl (fun s e => s.canEvent n e status) s

/-- Entries that satisfy `p` leave the queue FLUSHED. -/
def State.canFlush (s : State) (n : Nat) (p : CanEnt → Bool) : State :=
  let q := (s.can_ n).queue
  let s := (s.canSetQ n (q.filter fun e => !p e)).canLeave n 6 p q
  match q with
  | [] => s
  | h :: _ => if p h then s.wrB (CANn_TXQ_HEAD_TX n) false else s

/-! ## Enable, disable, modes (R261, R264, R265) -/

/-- The conditions of Table R261 on the settings of channel `n`. -/
def State.canBitsOk (s : State) (n : Nat) : Bool :=
  let nb := s.rd (CANn_NBT_NBRP n) * (1 + s.rd (CANn_NBT_NTSEG1 n) + s.rd (CANn_NBT_NTSEG2 n))
  let db := s.rd (CANn_DBT_DBRP n) * (1 + s.rd (CANn_DBT_DTSEG1 n) + s.rd (CANn_DBT_DTSEG2 n))
  let fd := s.bit (CANn_CTL_FD_EN n)
  let xl := s.bit (CANn_CTL_XL_EN n)
  decide (80 ≤ nb) && decide (nb ≤ 8000)
    && decide (s.rd (CANn_NBT_NSJW n) ≤ s.rd (CANn_NBT_NTSEG2 n))
    && decide (s.rd (CANn_DBT_DSJW n) ≤ s.rd (CANn_DBT_DTSEG2 n))
    && (!fd || (decide (db ≤ nb) && decide (10 ≤ db)))
    && (!(xl && !fd) || decide (db ≤ nb))
    && decide (4 ≤ db)
    && (decide (80 ≤ db) || s.bit (CANn_DBT_TDC_EN n))
    && (!s.bit (CANn_CTL_ERRSIG_OFF n) || xl)
    && (!s.bit (CANn_DBT_TMS_EN n) || (xl && s.bit (CANn_CTL_ERRSIG_OFF n)))

/-- EN is written 1. -/
def State.canEnable (s : State) (n : Nat) : State :=
  if s.bit (CANn_CTL_EN n) then s
  else if !s.canBitsOk n then s.cfgErr (CANn_CTL n)
  else
    let s := s.wrB (CANn_CTL_EN n) true
    if s.canState n == 4 then s.wrB (CANn_STAT_PENDING n) true
    else if s.canState n == 0 && s.canAllowed then s.wr (CANn_STAT_STATE n) 1
    else s

/-- CAN_ENABLE (R261, R264). -/
def execCanEnable (n : Fin 6) (s : State) : Host.Outcome State Fault Refusal :=
  .next (if s.domOn 8 then s.canEnable n else s)

/-- CAN_BUS_INTEGRATED (R263). -/
def execCanBusIntegrated (n : Fin 6) (s : State) : Host.Outcome State Fault Refusal :=
  .next (if s.domOn 8 && s.canState n == 1 then s.wr (CANn_STAT_STATE n) 2 else s)

/-- The channel goes STOPPING. -/
def State.canStop (s : State) (n : Nat) : State :=
  if s.canState n == 0 || s.canState n == 4 then s else s.wr (CANn_STAT_STATE n) 4

/-- EN is written 0. -/
def State.canDisable (s : State) (n : Nat) : State :=
  ((s.wrB (CANn_CTL_EN n) false).wrB (CANn_STAT_PENDING n) false).canStop n

/-- CAN_DISABLE (R264). -/
def execCanDisable (n : Fin 6) (s : State) : Host.Outcome State Fault Refusal :=
  .next (if s.domOn 8 then s.canDisable n else s)

/-- What a shutdown does not keep (R264): the queue, the status, the indices, the counters. -/
def State.canClear (s : State) (n : Nat) : State :=
  let s := (s.canFlush n fun _ => true).canUpd n fun x => { CanCh.reset with cyc := x.cyc, wire := x.wire }
  s.resetRegs fun a => a == CANn_STAT n || a == CANn_IDX n || a == CANn_TXQ n || a == CANn_CNT n || a == CANn_SIDC n

/-- CAN_STOP_DONE (R264): the frame on the bus has ended; the channel is OFF and starts again if PENDING. -/
def execCanStopDone (n : Fin 6) (s : State) : Host.Outcome State Fault Refusal :=
  if !s.domOn 8 || s.canState n != 4 || s.bit (CANn_TXQ_HEAD_TX n) then .next s
  else
    let s := s.canClear n
    .next (if s.bit (CANn_CTL_EN n) && s.canAllowed then s.wr (CANn_STAT_STATE n) 1 else s)

/-- Channel `n` at the entry of mode `m` (R265); SYSCTL_MODE.MODE still shows the mode left. -/
def State.canMode1 (s : State) (m n : Nat) : State :=
  let cyc := fun (k : Nat) => k == 6 || k == 7 || k == 9
  let s := if cyc s.mode && m != s.mode then s.canFlush n fun e => e.cyc.isSome else s
  let s := if m == 11 then s.canFlush n fun _ => true else s
  if m == 1 || m == 2 || m == 3 then s.canStop n
  else if s.canState n == 0 && s.bit (CANn_CTL_EN n) && (m == 4 || m == 5 || cyc m || m == 11) then
    s.wr (CANn_STAT_STATE n) 1
  else s

/-- The CANB at the entry of mode `m`. -/
def State.canMode (s : State) (m : Nat) : State :=
  if !s.domOn 8 then s else (List.range 6).foldl (fun s n => s.canMode1 m n) s

/-! ## The transmit queue (R267, R268, R270) -/

/-- A payload length that format `fmt` allows (Table R260). -/
def canLenOk (fmt len : Nat) : Bool :=
  if fmt == 0 then decide (len ≤ 8)
  else if fmt == 1 then decide (len ≤ 8) || [12, 16, 20, 24, 32, 48, 64].contains len
  else decide (1 ≤ len) && decide (len ≤ 2048)

/-- Descriptor words 0 and 1 obey Tables R260 and R267 and their format is enabled. -/
def State.canDescOk (s : State) (n : Nat) (w0 w1 : Word) : Bool :=
  let fmt := bitsOf w0 62 61
  let ide := bitsOf w0 60 60 == 1
  let rmt := bitsOf w0 59 59 == 1
  let brs := bitsOf w0 58 58 == 1
  (fmt == 0 || (fmt == 1 && s.bit (CANn_CTL_FD_EN n)) || (fmt == 2 && s.bit (CANn_CTL_XL_EN n)))
    && !(ide && fmt == 2) && (!rmt || fmt == 0) && (!brs || fmt == 1)
    && bitsOf w0 57 41 == 0 && canLenOk fmt (bitsOf w0 40 29)
    && (ide || bitsOf w0 28 11 == 0) && (fmt == 2 || w1 == 0) && bitsOf w1 47 32 == 0

/-- A push by initiator `who` (R267). -/
def State.canPush (s : State) (n who : Nat) (w2 : Word) : State :=
  let x := s.can_ n
  let w := mapGet (fun _ => ((0 : Word), (0 : Word))) x.stage who
  if decide (64 ≤ x.queue.length) then s.wr (CANn_TXQ_PUSH_RESULT n) 1
  else if !s.canDescOk n w.1 w.2 || bitsOf w2 47 32 != 0 || bitsOf w2 2 0 != 0 then s.wr (CANn_TXQ_PUSH_RESULT n) 2
  else if s.canListen n then s.wr (CANn_TXQ_PUSH_RESULT n) 3
  else
    (s.canSetQ n (x.queue ++ [⟨w.1, w.2, bitsOf w2 63 48, bitsOf w2 31 0, none, none, 0, 0, false⟩])).wr
      (CANn_TXQ_PUSH_RESULT n) 0

/-- CAN_TXQ_PUSH (R267). -/
def execCanTxqPush (who : Fin 33) (n : Fin 6) (w2 : Word) (s : State) : Host.Outcome State Fault Refusal :=
  .next (if s.domOn 8 then s.canPush n who w2 else s)

/-- A write of staging word 0 or 1 by initiator `who`, in the bits `m` of the halves addressed (R13). -/
def State.canStage (s : State) (n who i : Nat) (v m : Word) : State :=
  s.canUpd n fun x =>
    let w := mapGet (fun _ => ((0 : Word), (0 : Word))) x.stage who
    let w' := if i == 0 then ((w.1 &&& ~~~m) ||| (v &&& m), w.2) else (w.1, (w.2 &&& ~~~m) ||| (v &&& m))
    { x with stage := mapPut (fun _ => ((0 : Word), (0 : Word))) x.stage who w' }

/-- A cancel (R270): entries behind the head and a head with no attempt on the bus leave CANCELLED; an
attempt on the bus runs on, marked late. -/
def State.canCancel (s : State) (n tag mask : Nat) : State :=
  let q := (s.can_ n).queue
  let sel := fun (e : CanEnt) => e.tag &&& mask == tag &&& mask
  let onBus := s.bit (CANn_TXQ_HEAD_TX n)
  match q with
  | [] => s
  | h :: t =>
    if onBus then
      let h := if sel h then { h with late := true } else h
      (s.canSetQ n (h :: t.filter fun e => !sel e)).canLeave n 3 sel t
    else (s.canSetQ n (q.filter fun e => !sel e)).canLeave n 3 sel q

/-- CAN_CANCEL (R270). -/
def execCanCancel (n : Fin 6) (tag mask : BitVec 16) (s : State) : Host.Outcome State Fault Refusal :=
  .next (if s.domOn 8 then s.canCancel n tag.toNat mask.toNat else s)

/-- The head entry's payload is in the transmit buffer; none when its read met an uncorrectable error. -/
def State.canFetch (s : State) (e : CanEnt) : Option CanEnt × State :=
  match e.data with
  | some _ => (some e, s)
  | none =>
    if bitsOf e.w0 59 59 == 1 then (some { e with data := some [] }, s)
    else
      let (b, u, s) := s.sramReadBytes false e.addr (bitsOf e.w0 40 29)
      if u then (none, s) else (some { e with data := some b }, s)

/-- From the start of a bit to its sample point, in ns: CLK_CAN cycles of 12.5 ns (R261, R282). -/
def State.canSofNs (s : State) (n : Nat) : Nat := s.rd (CANn_NBT_NBRP n) * (1 + s.rd (CANn_NBT_NTSEG1 n)) * 25 / 2

/-- CAN_ATTEMPT_START (R268, R282): the head's SOF starts; its timestamp is that of its sample point. -/
def execCanAttemptStart (n : Fin 6) (s : State) : Host.Outcome State Fault Refusal :=
  match (s.can_ n).queue with
  | [] => .next s
  | h :: t =>
    if !s.domOn 8 || s.canState n != 2 || s.bit (CANn_TXQ_HEAD_TX n) || s.canListen n then .next s
    else
      match s.canFetch h with
      | (none, s) => .next ((s.canSetQ n t).canEvent n h 7)
      | (some e, s) =>
        let e := { e with attempts := e.attempts + 1, sof := s.ltNs + s.canSofNs n }
        .next ((s.canSetQ n (e :: t)).wrB (CANn_TXQ_HEAD_TX n) true)

/-! ## Error counters (R280, R281) -/

/-- The error state follows TEC and REC; a change sets bit 4, BUS_OFF bit 5, the log and the fault source. -/
def State.canErrState (s : State) (n : Nat) : State :=
  let tec := s.rd (CANn_STAT_TEC n)
  let st := if decide (256 ≤ tec) then 2 else if decide (128 ≤ tec) || decide (128 ≤ s.rd (CANn_STAT_REC n)) then 1 else 0
  if st == s.rd (CANn_STAT_ERR_STATE n) then s
  else
    let s := (s.wr (CANn_STAT_ERR_STATE n) st).canIrq n 4
    if st != 2 then s
    else
      let s := if s.canState n == 2 then s.wr (CANn_STAT_STATE n) 3 else s
      let s := s.canUpd n fun x => { x with recovering := s.bit (CANn_CTL_AUTO_REC n) }
      let s := (s.canIrq n 5).logEvent 0x0402 uCANB 2 n
      if (List.range 32).any fun k => s.bit (CANn_CYCk_EN n k) then s.safeStopFault 5 else s

/-- The head entry leaves with `status`. -/
def State.canPop (s : State) (n status : Nat) (h : CanEnt) (t : List CanEnt) : State :=
  (s.canSetQ n t).canEvent n h status

/-- CAN_ATTEMPT_END (R268 to R270, R280, R281). -/
def execCanAttemptEnd (n : Fin 6) (how : CanEnd) (s : State) : Host.Outcome State Fault Refusal :=
  match (s.can_ n).queue with
  | [] => .next s
  | h :: t =>
    if !s.domOn 8 || !s.bit (CANn_TXQ_HEAD_TX n) then .next s
    else
      let s := s.wrB (CANn_TXQ_HEAD_TX n) false
      let shot := bitsOf h.w0 63 63 == 1
      match how with
      | .sent =>
        let s := s.wr (CANn_STAT_TEC n) (s.rd (CANn_STAT_TEC n) - 1)
        let s := s.canUpd n fun x => { x with wire := (h.w0, h.w1, h.data.getD []) :: x.wire }
        .next ((s.canPop n (if h.late then 2 else 1) h t).canErrState n)
      | .lostArbitration =>
        .next (if h.late then s.canPop n 3 h t else if shot then s.canPop n 4 h t else s)
      | .error lec exempt inField =>
        let s := s.wr (CANn_STAT_LEC n) lec.toNat
        let s := if inField && (lec == 4 || lec == 5) then
            let s := (s.inc (CANn_CNT_SUSP_ID_COLL n)).wr (CANn_SIDC_FMT n) (bitsOf h.w0 62 61)
            ((s.wr (CANn_SIDC_IDE n) (bitsOf h.w0 60 60)).wr (CANn_SIDC_ID n) (bitsOf h.w0 28 0)).canIrq n 6
          else s
        let s := if exempt then s else s.wr (CANn_STAT_TEC n) (s.rd (CANn_STAT_TEC n) + 8)
        let s := if h.late then s.canPop n 3 h t else if shot then s.canPop n 5 h t else s
        .next (s.canErrState n)

/-- CAN_REC_REQ (R280). -/
def execCanRecReq (n : Fin 6) (s : State) : Host.Outcome State Fault Refusal :=
  .next (if s.domOn 8 && s.canState n == 3 then s.canUpd n fun x => { x with recovering := true } else s)

/-- CAN_RECOVERY_DONE (R280). -/
def execCanRecoveryDone (n : Fin 6) (s : State) : Host.Outcome State Fault Refusal :=
  if !s.domOn 8 || s.canState n != 3 || !(s.can_ n).recovering then .next s
  else
    let s := s.canUpd n fun x => { x with recovering := false }
    .next ((((s.wr (CANn_STAT_STATE n) 2).wr (CANn_STAT_TEC n) 0).wr (CANn_STAT_REC n) 0).canErrState n)

/-! ## Cyclic messages (R265, R271) -/

/-- The safe value of cyclic message `k`: `len` bytes. -/
def State.canSafe (s : State) (n k len : Nat) : List Byte × State :=
  let r := s.sramReadBytes false (s.canBase n + 0x8000 + 64 * k) len
  (r.1, r.2.2)

/-- The data that cyclic message `k` captures: `len` bytes. -/
def State.canCapture (s : State) (n k len : Nat) (w : Word) : List Byte × State :=
  let host := bitsOf w 62 62 == 1
  let off := bitsOf w 48 32 * 8
  if s.mode == 6 || (s.mode == 9 && host) then s.canSafe n k len
  else
    let (b, u, s) := s.imageSource host off len
    if u then s.canSafe n k len else (b, s)

/-- The data of message `k`: a remote frame (bit 59 of its template) carries none. -/
def State.canData (s : State) (n k len : Nat) (w0 w : Word) : List Byte × State :=
  if bitsOf w0 59 59 == 1 then ([], s) else s.canCapture n k len w

/-- The trigger of message `k`. A template that breaks R260, R267 or a LEN of 64 enqueues nothing. -/
def State.canTrigger (s : State) (n k : Nat) (w : Word) : State :=
  let s := s.canUpd n fun x => { x with fired := k :: x.fired }
  let (ws, _, s) := s.sramReadWords false (s.canBase n + 0x8800 + 32 * k) 3
  let w0 := ws.getD 0 0
  let w1 := ws.getD 1 0
  let w2 := ws.getD 2 0
  let len := bitsOf w0 40 29
  let q := (s.can_ n).queue
  if decide (64 ≤ q.length) || (q.any fun e => e.cyc == some k) || !s.canDescOk n w0 w1 || decide (64 < len) then
    s.inc (CANn_CNT_CYC_OVERRUN n)
  else
    let r := s.canData n k len w0 w
    r.2.canSetQ n (q ++ [⟨w0, w1, bitsOf w2 63 48, 0, some k, some r.1, 0, 0, false⟩])

/-- CAN_CYCLIC_TRIGGER (R271): at the boundary + OFFSET, in a cycle whose number is a multiple of the period. -/
def execCanCyclicTrigger (n : Fin 6) (k : Fin 32) (s : State) : Host.Outcome State Fault Refusal :=
  let x := s.can_ n
  let w := mapGet (fun _ => (0 : Word)) x.cyc k
  let t := s.ntu.cyc.edge + bitsOf w 31 0 * nsU
  if !s.domOn 8 || !s.cycLive || !s.cyclicMode || s.canState n == 0 || s.canState n == 4 || bitsOf w 63 63 == 0
      || x.fired.contains k.val || s.rd NTU_CYC_COUNT_CYCLE % (bitsOf w 61 52 + 1) != 0
      || decide (s.nextNominal ≤ t) then .next s
  else .next ((s.advanceTo t).canTrigger n k w)

/-- The CANB's part of a boundary: CANn_CYCk take effect. -/
def State.canBoundary (s : State) : State :=
  if !s.domOn 8 then s
  else (List.range 6).foldl (fun s n => s.canUpd n fun x =>
    { x with
      fired := []
      cyc := (List.range 32).foldl (fun m k => mapPut (fun _ => (0 : Word)) m k (s.reg (CANn_CYCk n k))) x.cyc }) s

/-! ## Filters (R272 to R274) -/

/-- Element `i` of filter bank `b`. -/
def State.canElem (s : State) (n b i : Nat) : Word × Word × State :=
  let a := s.canBase n + 0x4000 * b + 16 * i
  let (w0, _, s) := s.sramRead false a
  let (w1, _, s) := s.sramRead false (a + 8)
  (w0, w1, s)

/-- A reserved value or a non-zero reserved field in an element; SKIP is checked for TYPE only. -/
def elemBad (w0 w1 : Word) : Bool :=
  let type := bitsOf w0 63 61
  let act := bitsOf w0 60 58
  let fmt := bitsOf w0 57 56
  if type == 4 then false
  else decide (4 < type) || act == 4 || act == 7 || fmt == 3 || bitsOf w0 49 0 != 0
    || bitsOf w1 63 61 != 0 || bitsOf w1 31 29 != 0
    || ((fmt == 0 || fmt == 2) && (bitsOf w1 60 43 != 0 || bitsOf w1 28 11 != 0))

/-- The first bad element of a bank, from `i`, before its first END. -/
def State.canBankBad (s : State) (n b i : Nat) : Nat → Option Nat × State
  | 0 => (none, s)
  | k + 1 =>
    let (w0, w1, s) := s.canElem n b i
    if bitsOf w0 63 61 == 0 then (none, s)
    else if elemBad w0 w1 then (some i, s)
    else s.canBankBad n b (i + 1) k

/-- A write of 1 to APPLY. -/
def State.canFltApply (s : State) (n : Nat) : State :=
  match s.canBankBad n (1 - s.rd (CANn_FLT_ACTIVE n)) 0 1024 with
  | (some i, s) => ((s.wrB (CANn_FLT_APPLY_REFUSED n) true).wr (CANn_FLT_FAIL_INDEX n) i).canIrq n 7
  | (none, s) => s.wrB (CANn_FLT_APPLY_PENDING n) true

/-- CAN_FILTER_APPLY (R274). -/
def execCanFilterApply (n : Fin 6) (s : State) : Host.Outcome State Fault Refusal :=
  .next (if s.domOn 8 then s.canFltApply n else s)

/-- CAN_FILTER_SWITCH (R274): no evaluation runs. A frame whose evaluation began before it is judged by the old bank. -/
def execCanFilterSwitch (n : Fin 6) (s : State) : Host.Outcome State Fault Refusal :=
  if !s.domOn 8 || !s.bit (CANn_FLT_APPLY_PENDING n) then .next s
  else
    let s := s.canUpd n fun x => { x with switched := some s.ltNs }
    .next (((s.wr (CANn_FLT_ACTIVE n) (1 - s.rd (CANn_FLT_ACTIVE n))).wrB (CANn_FLT_APPLY_PENDING n) false).canIrq n 7)

/-- The element matches the frame (R273). -/
def elemMatch (w0 w1 : Word) (f : CanFrame) : Bool :=
  let type := bitsOf w0 63 61
  let fmt := if f.fmt == 2 then 2 else if f.ide then 1 else 0
  let key := f.id.toNat
  let id1 := bitsOf w1 60 32
  let id2 := bitsOf w1 28 0
  bitsOf w0 57 56 == fmt && (!f.rmt || bitsOf w0 55 55 == 1)
    && (if type == 1 then decide (id1 ≤ key) && decide (key ≤ id2)
        else if type == 2 then key == id1 || key == id2
        else if type == 3 then key &&& id2 == id1 &&& id2
        else false)

/-- The bank on which an evaluation that began at LT `t` ns runs (R274). -/
def State.canBankAt (s : State) (n t : Nat) : Nat :=
  let a := s.rd (CANn_FLT_ACTIVE n)
  match (s.can_ n).switched with
  | none => a
  | some w => if decide (t < w) then 1 - a else a

/-- The first matching element of bank `b` from `i`, with its word 0. -/
def State.canSearch (s : State) (n b i : Nat) (f : CanFrame) : Nat → Option (Nat × Word) × State
  | 0 => (none, s)
  | k + 1 =>
    let (w0, w1, s) := s.canElem n b i
    if bitsOf w0 63 61 == 0 then (none, s)
    else if elemMatch w0 w1 f then (some (i, w0), s)
    else s.canSearch n b (i + 1) f k

/-! ## Reception (R275 to R278) -/

/-- A receive record is written to FIFO `q`, or dropped when it is full. -/
def State.canStore (s : State) (n q : Nat) (f : CanFrame) (sof : Nat) (elem : Option Nat) : State :=
  let putF := if q == 0 then CANn_IDX_F0_PUT n else CANn_IDX_F1_PUT n
  let getF := if q == 0 then CANn_IDX_F0_GET n else CANn_IDX_F1_GET n
  let put := s.rd putF
  if decide (64 ≤ dist128 put (s.rd getF)) then
    (s.inc (CANn_CNT_LOST n)).canUpd n fun x => if q == 0 then { x with gap0 := true } else { x with gap1 := true }
  else
    let (base, ds) := s.canFifo n q
    let x := s.can_ n
    let gap := if q == 0 then x.gap0 else x.gap1
    let w := b2n gap * 2 ^ 63 + b2n (decide (ds < f.len.toNat) && !f.rmt) * 2 ^ 62 + f.fmt.toNat * 2 ^ 60 + b2n f.ide * 2 ^ 59
      + b2n f.rmt * 2 ^ 58 + b2n f.brs * 2 ^ 57 + b2n f.esi * 2 ^ 56 + b2n elem.isNone * 2 ^ 55
      + elem.getD 0 * 2 ^ 44 + f.len.toNat * 2 ^ 29 + f.id.toNat
    let d := if f.rmt then [] else (f.bytes.take f.len.toNat).take ds
    let rec_ := bytesLE 8 sof ++ bytesLE 8 w ++ bytesLE 8 (if f.fmt == 2 then f.xl.toNat else 0) ++ bytesLE 8 0
      ++ d ++ List.replicate (ds - d.length) 0
    let s := s.sramWrite false (base + put % 64 * (32 + ds)) rec_
    let s := s.canUpd n fun x => if q == 0 then { x with gap0 := false } else { x with gap1 := false }
    (s.incWrap putF).canIrq n q

/-- The PI action through map `m` (R278). -/
def State.canPi (s : State) (n m : Nat) (f : CanFrame) : State :=
  if !s.bit (CANn_PIMAPk_EN n m) || !s.cyclicMode then s.inc (CANn_CNT_PI_DROP n)
  else
    let len := (s.rd (CANn_PIMAPk_LEN_M1 n m) + 1) * 8
    let d := (f.bytes.take f.len.toNat).take len
    s.landItem (s.rd (CANn_PIMAPk_CONN n m)) (s.rd (CANn_PIMAPk_PI_OFF n m) * 8) (d ++ List.replicate (len - d.length) 0)

/-- The action of filter bank `b` on a valid frame whose SOF was at LT `sof` ns. -/
def State.canAct (s : State) (n b : Nat) (f : CanFrame) (sof : Nat) : State :=
  match s.canSearch n b 0 f 1024 with
  | (none, s) =>
    let a := s.rd (CANn_FLT_NOMATCH n)
    if a == 1 || a == 2 then s.canStore n (a - 1) f sof none else s
  | (some (i, w0), s) =>
    let a := bitsOf w0 60 58
    if a == 1 || a == 2 then s.canStore n (a - 1) f sof (some i)
    else if a == 5 || a == 6 then (s.canStore n (a - 5) f sof (some i)).canIrq n 2
    else if a == 3 then s.canPi n (bitsOf w0 54 50) f
    else s

/-- The format of a received frame is enabled. -/
def State.canFmtOn (s : State) (n : Nat) (f : CanFrame) : Bool :=
  f.fmt == 0 || (f.fmt == 1 && s.bit (CANn_CTL_FD_EN n)) || (f.fmt == 2 && s.bit (CANn_CTL_XL_EN n))

/-- REC after a good frame: one less, or from above 127 a value of 119 to 127 that ISO 11898-1 leaves open (PRESUMED,
log 49). -/
def State.canRecGood (s : State) (n : Nat) : State :=
  let r := s.rd (CANn_STAT_REC n)
  if r == 0 then s
  else if decide (r ≤ 127) then s.wr (CANn_STAT_REC n) (r - 1)
  else
    let (w, s) := s.takeFree
    s.wr (CANn_STAT_REC n) (119 + w.toNat % 9)

/-- The channel is receiving. -/
def State.canHears (s : State) (n : Nat) : Bool := s.domOn 8 && (s.canState n == 2 || s.canState n == 4)

/-- CAN_FRAME_RX (R273 to R275, R280, R282): a frame reaches its validity point. -/
def execCanFrameRx (n : Fin 6) (f : CanFrame) (age : CanAge) (s : State) : Host.Outcome State Fault Refusal :=
  if !s.canHears n || !s.canFmtOn n f then .next s
  else
    let s := if s.canListen n then s else (s.canRecGood n).canErrState n
    .next (s.canAct n (s.canBankAt n (s.ltNs - age.eval)) f (s.ltNs - age.sof))

/-- CAN_RECEIVE_ERROR (R279, R280): error `lec` in a received frame; `big` says that ISO 11898-1 adds 8 to REC
rather than 1. -/
def execCanReceiveError (n : Fin 6) (lec : BitVec 3) (big : Bool) (s : State) : Host.Outcome State Fault Refusal :=
  if !s.canHears n then .next s
  else
    let s := s.wr (CANn_STAT_LEC n) lec.toNat
    .next (if s.canListen n then s
      else (s.wr (CANn_STAT_REC n) (min 255 (s.rd (CANn_STAT_REC n) + (if big then 8 else 1)))).canErrState n)

/-! ## Snapshot (R283) -/

/-- CANn_STAT, CANn_IDX and CANn_CNT are copied at HOST_NOTE. -/
def State.canSnap (s : State) : State :=
  if !s.domOn 8 then s
  else
    let one := fun (s : State) (n : Nat) =>
      ((s.setReg (CANn_SNAP_STAT n) (s.reg (CANn_STAT n))).setReg (CANn_SNAP_IDX n) (s.reg (CANn_IDX n))).setReg
        (CANn_SNAP_CNT n) (s.reg (CANn_CNT n))
    ((List.range 6).foldl one s).incWrap CANB_SNAP_SEQ_SEQ

end Sys2Proof.Machine
end

