-- ==== Sys2Proof/Machine/CbcSched.lean ====
section
/-! DEFINITION. Cabinet Bus schedule entries, frames and the check of a schedule bank (chapter 08, R225,
R226, R231 to R234, R249). -/

namespace Sys2Proof.Machine

/-! ## Frames (R225, R226) -/

/-- One step of the CRC of R226: a byte enters at the top, eight shifts. -/
def cbCrcByte (crc : Nat) (b : Byte) : Nat :=
  (List.range 8).foldl (fun c _ => (if decide (2 ^ 31 ≤ c) then (c * 2 % 2 ^ 32) ^^^ 0x04C11DB7 else c * 2 % 2 ^ 32))
    (crc ^^^ (b.toNat * 2 ^ 24))

/-- CRC-32 of R226 over header and payload, in wire order. -/
def cbCrc (l : List Byte) : Nat := (l.foldl cbCrcByte 0xFFFFFFFF) ^^^ 0xFFFFFFFF

/-- A frame as sent, without /S/ and /T/ (Table R225). -/
def cbFrame (type flags addr : Nat) (payload : List Byte) : List Byte :=
  let h := [BitVec.ofNat 8 (type * 16 + flags), BitVec.ofNat 8 (addr * 8 + payload.length / 256),
    BitVec.ofNat 8 (payload.length % 256)] ++ payload
  h ++ bytesBE 4 (cbCrc h)

/-- Line time of a frame with `len` payload bytes, in ns (R225). -/
def cbNs (len : Nat) : Nat := (len + 9) * 8

/-! ## Schedule entries (Table R232) -/

structure SchedEnt where
  idx : Nat
  w0 : Word
  w1 : Word
deriving DecidableEq, Repr

def SchedEnt.seg (e : SchedEnt) : Nat := bitsOf e.w0 62 61
/-- 0 CYC_REPLY, 1 ACYC_REPLY, 2 ACYC_REQ. -/
def SchedEnt.type (e : SchedEnt) : Nat := bitsOf e.w0 60 58
def SchedEnt.node (e : SchedEnt) : Nat := bitsOf e.w0 57 53
def SchedEnt.tk (e : SchedEnt) : Bool := bitsOf e.w0 52 52 == 1
def SchedEnt.plen (e : SchedEnt) : Nat := bitsOf e.w0 42 32
/-- Start in ns from the boundary. -/
def SchedEnt.start (e : SchedEnt) : Nat := bitsOf e.w0 22 0 * 8
def SchedEnt.piEn (e : SchedEnt) : Bool := bitsOf e.w1 63 63 == 1
def SchedEnt.conn (e : SchedEnt) : Nat := bitsOf e.w1 59 48
def SchedEnt.piOff (e : SchedEnt) : Nat := bitsOf e.w1 16 0
def SchedEnt.isReply (e : SchedEnt) : Bool := e.type == 0 || e.type == 1

/-- Entry `i` of the bank at `base`. -/
def State.schedEnt (s : State) (base i : Nat) : SchedEnt := ⟨i, s.reg (base + 16 * i), s.reg (base + 16 * i + 8)⟩

/-- Entries of a bank with VALID = 1, in index order: a word 0 at its reset value is not valid. -/
def State.schedValid (s : State) (base : Nat) : List SchedEnt :=
  s.regs.filterMap fun e =>
    if decide (base ≤ e.1) && decide (e.1 < base + 0x10000) && (e.1 - base) % 16 == 0 && bitsOf e.2 63 63 == 1 then
      some (s.schedEnt base ((e.1 - base) / 16))
    else none

def schedShadowBase : Nat := CBC_SCHED_SHADOW 0 0
def schedActiveBase : Nat := CBC_SCHED_ACTIVE 0 0

/-- Valid entries of segment `g`, in the bank at `base`. -/
def State.segEnts (s : State) (base g : Nat) : List SchedEnt := (s.schedValid base).filter fun e => e.seg == g

/-! ## The segments' live state -/

def State.seg (s : State) (g : Nat) : CbSeg := mapGet (fun _ => CbSeg.reset) s.cbc g

def State.setSeg (s : State) (g : Nat) (x : CbSeg) : State :=
  s.putCbc (mapPut (fun _ => CbSeg.reset) s.cbc g x)

def CbSeg.node (x : CbSeg) (i : Nat) : CbNode := mapGet (fun _ => CbNode.reset) x.nodes i

def CbSeg.setNode (x : CbSeg) (i : Nat) (n : CbNode) : CbSeg :=
  { x with nodes := mapPut (fun _ => CbNode.reset) x.nodes i n }

def State.segState (s : State) (g : Nat) : Nat := s.rd (CBC_SEGs_STAT_STATE g)

def State.setSegState (s : State) (g st : Nat) : State := s.wr (CBC_SEGs_STAT_STATE g) st

/-- SYNC or CYCLIC. -/
def State.segRuns (s : State) (g : Nat) : Bool := s.segState g == 3 || s.segState g == 4

/-- OFF_seg at LT `t` in 2^−8 ns with what lies beyond in 2^−64 ns: it advances at the segment rate (R252). What the rate
adds is not lost between corrections (DESIGN CHOICE, log 46). -/
def CbSeg.offTo (x : CbSeg) (t : Nat) : Int × Nat :=
  let tot := (x.offRem : Int) + x.rate * ((t : Int) - x.offAt)
  (x.off + tot / 2 ^ 56, (tot % 2 ^ 56).toNat)

/-- The segment's time ST at LT `t`, in units of 2^−32 ns (R252). -/
def CbSeg.stAt (x : CbSeg) (t : Nat) : Int := (t : Int) + (x.offTo t).1 * 2 ^ 24

/-! ## The check of R234 -/

/-- The cycle generator bank that will be active in the following cycle (R233). -/
def State.nextCycBank (s : State) : CycBank :=
  if s.bit NTU_CYC_STAT_APPLY_PENDING then s.cycShadow else s.ntu.cyc.act

def CycBank.phase (b : CycBank) (n : Nat) : Nat := b.phases.getD n 0

/-- Length in ns of the SUM of segment `g`, by a CBC_SEGs_CTL value. -/
def sumNs (ctl : Word) : Nat := (39 + (bitsOf ctl 33 30 + 1) * (bitsOf ctl 39 34 + 1)) * 8

/-- An activity on the line in units of 2^−8 ns: the entry it comes from, its start and its end. -/
structure CbAct where
  ent : Option Nat
  lo : Nat
  hi : Nat
deriving DecidableEq, Repr

/-- A reply's arrival interval; for a node not measured, the union over delays of 0 to 680 ns (R234). -/
def State.replyAct (s : State) (e : SchedEnt) : CbAct :=
  let n := (s.seg e.seg).node e.node
  let d := if n.hop == 0 then (0, 680 * 256) else (n.delay, n.delay)
  ⟨some e.idx, e.start * 256 + d.1, e.start * 256 + d.2 + cbNs e.plen * 256⟩

/-- Downstream activities of segment `g` (R234). -/
def downActs (b : CycBank) (g : Nat) (ctl : Word) (es : List SchedEnt) : List CbAct :=
  ⟨none, b.phase 0 * 256, (b.phase 0 + 352) * 256⟩
    :: (if bitsOf ctl 29 29 == 1 then [⟨none, b.phase 4 * 256, (b.phase 4 * 256) + sumNs ctl * 256⟩] else [])
    ++ es.filterMap fun e =>
      if e.seg == g && e.type == 2 then some ⟨some e.idx, e.start * 256, (e.start + cbNs e.plen) * 256⟩ else none

/-- A reserved value or non-zero reserved field, PLEN or PI_OFF out of range (Table R234, 0x1). PI_OFF is
also out of range when the payload would pass the end of the region (DEDUCED, log 44). -/
def SchedEnt.bad (e : SchedEnt) : Bool :=
  decide (2 < e.type) || e.node == 0 || decide (17 < e.node) || (e.tk && e.type != 0)
    || bitsOf e.w0 51 43 != 0 || bitsOf e.w0 31 23 != 0
    || (if e.type == 2 then decide (e.plen < 4) || decide (128 < e.plen)
        else e.plen == 0 || decide (512 < e.plen))
    || bitsOf e.w1 62 60 != 0 || bitsOf e.w1 47 17 != 0 || (e.piEn && e.type != 0)
    || (e.piEn && (decide (e.piOff < 0x80) || decide (0x20000 < e.piOff + (e.plen + 7) / 8)))

/-- Two intervals, each extended by `x` after its end, overlap. -/
def actsMeet (x : Nat) (a b : CbAct) : Bool := decide (a.lo < b.hi + x) && decide (b.lo < a.hi + x)

/-- The entries, or none for an activity without one, in some pair of a list that overlaps. -/
def meetPairs (x : Nat) : List CbAct → List (Option Nat)
  | [] => []
  | a :: t => (t.filter (actsMeet x a)).flatMap (fun b => [a.ent, b.ent]) ++ meetPairs x t

/-- Entries beyond the first `n` of a list. -/
def beyond (n : Nat) (l : List SchedEnt) : List (Option Nat) := (l.drop n).map fun e => some e.idx

/-- The failures of condition `r` of Table R234 on segment `g`: for each the entry, or none. The `es` are
the valid entries of the bank, `b` the cycle generator bank. The entry that makes a group too large is the
one named for SLOTS and TK_COUNT (DEDUCED, log 45). -/
def State.segFails (s : State) (b : CycBank) (es : List SchedEnt) (g r : Nat) : List (Option Nat) :=
  let mine := es.filter fun e => e.seg == g
  let ctl := s.reg (CBC_SEGs_CTL g)
  let replies := (mine.filter SchedEnt.isReply).map s.replyAct
  let downs := downActs b g ctl mine
  let limit := (b.len - (if b.pullEn then 8 * b.slewMax else 0) - 680) * 256
  match r with
  | 2 => mine.flatMap fun e => (mine.filter fun f => f.start == e.start && f.idx != e.idx).map fun f => some f.idx
  | 3 => (mine.filter fun e => decide (e.start < b.phase 0 + 352)).map fun e => some e.idx
  | 4 => meetPairs (s.rd (CBC_SEGs_TIMING_G g) * 8 * 256) replies ++ meetPairs (16 * 256) downs
  | 5 => ((replies ++ downs).filter fun a => decide (limit < a.hi)).map CbAct.ent
  | 6 => if bitsOf ctl 63 40 != 0 && decide (bitsOf ctl 63 40 * 8 + b.phase 0 < b.phase 4 + sumNs ctl + 696)
      then [none] else []
  | 7 => (List.range 17).flatMap fun i => beyond 4 (mine.filter fun e => e.isReply && e.node == i + 1)
  | 8 => beyond (if s.bit (CBC_SEGs_SYNC_MASTER_TK g) then 7 else 8) (mine.filter SchedEnt.tk)
  | _ => []

/-- Failures of condition `r` over the bank: BAD_ENTRY entry by entry, the others for every segment that is
enabled or has a valid entry. -/
def State.schedFails (s : State) (es : List SchedEnt) (r : Nat) : List (Option Nat) :=
  if r == 1 then (es.filter SchedEnt.bad).map fun e => some e.idx
  else (List.range 4).flatMap fun g =>
    if s.bit (CBC_SEGs_CTL_EN g) || es.any fun e => e.seg == g then s.segFails s.nextCycBank es g r else []

/-- The lowest entry named by failures, none when none names an entry. -/
def lowestEnt (l : List (Option Nat)) : Option Nat :=
  l.foldl (fun a x => match a, x with
    | none, x => x
    | some a, none => some a
    | some a, some b => some (min a b)) none

/-- The lowest failing REASON of a bank and what it names (R234). -/
def State.schedCheck (s : State) (es : List SchedEnt) : Option (Nat × Option Nat) :=
  (List.range 8).findSome? fun k =>
    let l := s.schedFails es (k + 1)
    if l.isEmpty then none else some (k + 1, lowestEnt l)

/-- A refusal: the active bank is unchanged, APPLY_PENDING clears and what waits for the bank ends (R233,
R234). -/
def State.schedRefuse (s : State) (reason : Nat) (ent : Option Nat) : State :=
  let s := ((s.wr CBC_SCHED_STAT_REASON reason).wr CBC_SCHED_STAT_FAIL_INDEX (ent.getD 0)).wrB
    CBC_SCHED_STAT_NO_INDEX ent.isNone
  let s := (s.wrB CBC_SCHED_STAT_APPLY_REFUSED true).wrB CBC_SCHED_STAT_APPLY_PENDING false
  (List.range 4).foldl (fun s g => if s.segRuns g then s.setSeg g { s.seg g with confq := [] } else s) s

/-! ## Slots of a node (R231, R235, R249) -/

/-- The slot fields of a CONF for node `i`: bytes 4 to 28 of its payload, anchor-relative. -/
def confSlots (es : List SchedEnt) (cbIn i : Nat) : List Byte :=
  let mine := (es.filter fun e => e.isReply && e.node == i).take 4
  let one := fun (e : SchedEnt) =>
    bytesBE 3 ((e.start - cbIn) / 8) ++ [BitVec.ofNat 8 (128 + e.type)] ++ bytesBE 2 e.plen
  let l := mine.flatMap one
  l ++ List.replicate (24 - l.length) 0 ++ [BitVec.ofNat 8 (b2n (mine.any SchedEnt.tk))]

/-- The CONF payload for node `i` of segment `g` (Table R231), for the pending bank or the active one. -/
def State.confPayload (s : State) (g i : Nat) (pending : Bool) (sgen : Nat) : List Byte :=
  let base := if pending then schedShadowBase else schedActiveBase
  let b := if pending then s.nextCycBank else s.ntu.cyc.act
  bytesBE 4 ((s.seg g).node i).delay ++ confSlots (s.segEnts base g) (b.phase 0) i
    ++ [BitVec.ofNat 8 (s.rd (CBC_SEGs_CTL_CORR_LIM g))] ++ bytesBE 2 sgen

/-- The enumerated nodes of segment `g` whose slots the pending bank changes (R233, R249); one whose ID answered twice is
never configured (R248). -/
def State.changedNodes (s : State) (g : Nat) : List Nat :=
  ((List.range 17).map (· + 1)).filter fun i =>
    ((s.seg g).node i).hop != 0 && !((s.seg g).node i).dup
      && confSlots (s.segEnts schedActiveBase g) (s.ntu.cyc.act.phase 0) i
        != confSlots (s.segEnts schedShadowBase g) (s.nextCycBank.phase 0) i

end Sys2Proof.Machine
end

