-- ==== Sys2Proof/Machine/Cbc.lean ====
section
/-! DEFINITION. The Cabinet Bus segments (chapter 08, R221 to R259): start-up, the cycle, synchronisation,
faults, the schedule swap. The DPX9960 is ID 0 on every segment. -/

namespace Sys2Proof.Machine

/-! ## Shared steps -/

/-- Discards are counted by what failed (R228). -/
def State.cbCount (s : State) (g : Nat) (v : CbVerdict) : State :=
  match v with
  | .good => s
  | .code => s.inc (CBC_SEGs_CNT0_CODE_ERR g)
  | .crc => s.inc (CBC_SEGs_CNT0_CRC_ERR g)
  | .fmt => s.inc (CBC_SEGs_CNT0_FMT_ERR g)

/-- The segment of index `g` after a change. -/
def State.segUpd (s : State) (g : Nat) (f : CbSeg → CbSeg) : State := s.setSeg g (f (s.seg g))

/-- The master sends a frame with its /S/ at LT `t`. -/
def State.cbSend (s : State) (g t : Nat) (l : List Byte) : State :=
  s.segUpd g fun x => { x with line := (t, l) :: x.line }

/-- The time of the domain that STEER names; during castling the served time stands for the one that SRC names (R79,
R252). -/
def State.steerTime (s : State) (g : Nat) : Option Int :=
  let k := s.rd (CBC_SEGs_SYNC_STEER g)
  if k == 0 then none
  else if s.castling && s.ntu.castFrom == k - 1 then some s.served
  else some (s.tdTime (k - 1))

/-- SHUT DOWN: the segment keeps CBC_SEGs_CTL, TIMING, SYNC, NODES, the slice registers and the safe-value
window, and the requests that the MGP has queued (R258). -/
def State.segClear (s : State) (g : Nat) : State :=
  let x := s.seg g
  let s := s.setSeg g { CbSeg.reset with ctl := x.ctl, reqs := x.reqs }
  s.resetRegs fun a => a == CBC_SEGs_STAT g || a == CBC_SEGs_ST g || a == CBC_SEGs_CNT0 g || a == CBC_SEGs_CNT1 g
    || a == CBC_SEGs_BABBLE g || (decide (CBC_SEGs_NODEi g 0 ≤ a) && decide (a < CBC_SEGs_NODEi g 32))

/-- LISTEN begins, with the first attempt to come (R244). -/
def State.segStart (s : State) (g : Nat) : State :=
  let s := (s.segClear g).setSegState g 1
  s.segUpd g fun x => { x with attempt := 1, since := s.ntu.lt }

/-- LISTEN again with the first attempt, the counters as they stand (R244). -/
def State.segListen (s : State) (g : Nat) : State :=
  (s.setSegState g 1).segUpd g fun x => { x with attempt := 1, backoff := false, since := s.ntu.lt }

/-- STOPPING: what the pending bank wanted of the segment ends with it (R258). -/
def State.segStop (s : State) (g : Nat) : State :=
  if s.segState g == 0 || s.segState g == 7 then s
  else (s.setSegState g 7).segUpd g fun x => { x with since := s.ntu.lt, confq := [], csfs := 0, stage := 0 }

/-- The listen-only segment of SERVICE (R250). -/
def State.segListenOnly (s : State) (g : Nat) : State := (s.segClear g).setSegState g 1

/-- FAULT: logged, and a fault of source CB_NODE (R246, R249, R526, R542). -/
def State.segFault (s : State) (g fail : Nat) : State :=
  let s := (s.setSegState g 6).wr (CBC_SEGs_STAT_FAIL g) fail
  let s := s.segUpd g fun x => { x with confq := [], stage := 0 }
  (s.logEvent 0x0403 uCBC 2 (g + fail * 2 ^ 16)).safeStopFault 4

/-! ## EN and the mode (R250, R258) -/

/-- EN is written 1. -/
def State.segEnable (s : State) (g : Nat) : State :=
  let s := s.wrB (CBC_SEGs_CTL_EN g) true
  if s.segState g == 7 then s.wrB (CBC_SEGs_STAT_PENDING g) true
  else if s.segState g == 0 && (s.mode == 5 || s.cyclicMode) then s.segStart g
  else if s.segState g == 0 && s.mode == 11 then s.segListenOnly g
  else s

/-- CB_SEG_ENABLE (R250). -/
def execCbSegEnable (g : Fin 4) (s : State) : Host.Outcome State Fault Refusal :=
  .next (if s.domOn 8 then s.segEnable g else s)

/-- EN is written 0; a listen-only segment has nothing to shut down. -/
def State.segDisable (s : State) (g : Nat) : State :=
  let s := (s.wrB (CBC_SEGs_CTL_EN g) false).wrB (CBC_SEGs_STAT_PENDING g) false
  if s.mode == 11 && s.segState g == 1 then s.segClear g else s.segStop g

/-- CB_SEG_DISABLE (R258). -/
def execCbSegDisable (g : Fin 4) (s : State) : Host.Outcome State Fault Refusal :=
  .next (if s.domOn 8 then s.segDisable g else s)

/-- CB_SEG_STOP_DONE (R250, R258): 1 µs after the stop the segment is OFF; it restarts if PENDING where the mode lets a
segment run, and in SERVICE an enabled one listens. -/
def execCbSegStopDone (g : Fin 4) (s : State) : Host.Outcome State Fault Refusal :=
  if !s.domOn 8 || s.segState g != 7 then .next s
  else
    let s := s.advanceTo ((s.seg g).since + 1000 * nsU)
    let again := s.bit (CBC_SEGs_STAT_PENDING g)
    let s := s.segClear g
    .next (if s.mode == 11 && s.bit (CBC_SEGs_CTL_EN g) then s.segListenOnly g
      else if again && (s.mode == 4 || s.mode == 5 || s.cyclicMode) then s.segStart g else s)

/-- What a mode does to segment `g` (Table R250). -/
def State.segMode (s : State) (m g : Nat) : State :=
  let st := s.segState g
  let en := s.bit (CBC_SEGs_CTL_EN g)
  if m == 3 then (if s.mode == 11 && st == 1 then s.segClear g else s.segStop g)
  else if m == 4 then (if !en then s else if st == 0 then s.segStart g
    else if st == 7 then s.wrB (CBC_SEGs_STAT_PENDING g) true else s)
  else if m == 5 then (if st == 4 then (s.setSegState g 3).segUpd g fun x => { x with restart := true } else s)
  else if m == 11 then (if st == 0 && en then s.segListenOnly g else s.segStop g)
  else if m == 6 || m == 7 || m == 9 then (if st == 3 then s.setSegState g 4 else s)
  else s

/-- The CBC at the entry of mode `m`; SYSCTL_MODE.MODE still shows the mode left. -/
def State.cbcMode (s : State) (m : Nat) : State :=
  if !s.domOn 8 then s else (List.range 4).foldl (fun s g => s.segMode m g) s

/-! ## Listening and the echo (R244 to R246, R252) -/

/-- A STARTUP goes out; OFF_seg is set (R244, R252). -/
def State.segStartup (s : State) (g : Nat) : State :=
  let lt := s.ntu.lt
  let s := (s.setSegState g 2).wr (CBC_SEGs_STAT_ACTIVE_MASTER g) 0
  let off : Int := match s.steerTime g with
    | none => 0
    | some t => t - lt
  let s := s.segUpd g fun x =>
    { x with stage := 0, since := lt, off := off.fdiv (2 ^ 24), offRem := 0, offAt := lt, rate := 0 }
  s.cbSend g lt (cbFrame 6 0 0 [0, BitVec.ofNat 8 (s.seg g).attempt, 0, 0])

/-- The segment is listening as a master may: not the listen-only segment of SERVICE. -/
def State.segListens (s : State) (g : Nat) : Bool := s.domOn 8 && s.segState g == 1 && s.mode != 11

/-- CB_LISTEN_EXPIRE (R244): T_LISTEN has passed in silence. -/
def execCbListenExpire (g : Fin 4) (s : State) : Host.Outcome State Fault Refusal :=
  if !s.segListens g || (s.seg g).backoff then .next s
  else .next ((s.advanceTo ((s.seg g).since + s.rd (CBC_SEGs_TIMING_T_LISTEN g) * 1000 * nsU)).segStartup g)

/-- The line end's echo of a STARTUP that carries `hop`: with one hop more, which is its own hop number (R245). -/
def State.segEcho (s : State) (g id hop attempt : Nat) : State :=
  let s := s.segUpd g fun x => { x with hop := (hop + 1) % 256 }
  s.cbSend g s.ntu.lt (cbFrame 6 0 id [BitVec.ofNat 8 (hop + 1), BitVec.ofNat 8 attempt, 0, 0])

/-- A backup answers an ENUM with KIND 0x02, T_TURN and its share of SPACING after it arrives (R244, R247). Its UID and
CAPS are the device's own, which no rule gives. -/
def State.segEnumRsp (s : State) (g spacing : Nat) : State :=
  let h := (s.seg g).hop
  let s := s.advanceTo (s.ntu.lt + (400 + (h - 1) * spacing * 8) * nsU)
  s.cbSend g s.ntu.lt (cbFrame 8 0 0 ([BitVec.ofNat 8 h, 2] ++ bytesBE 2 ((Config.freeFn 9 [g]).toNat % 2)
    ++ bytesBE 4 (Config.freeFn 8 [g]).toNat))

/-- CB_FOREIGN_MASTER (R244, R245): a good frame from the master with ID `f.id`; a reserved ID is a format error (R228).
While listening or backing off, a CSF or a STARTUP leads to BACKUP; in BACKUP a STARTUP is echoed and an ENUM
answered. -/
def execCbForeignMaster (g : Fin 4) (f : ForeignFrame) (s : State) : Host.Outcome State Fault Refusal :=
  let listens := s.segListens g
  let backup := s.domOn 8 && s.segState g == 5
  if !listens && !backup then .next s
  else if f.id.toNat == 0 || decide (17 < f.id.toNat) then .next (s.cbCount g .fmt)
  else
    let t := (s.setSegState g 5).wr (CBC_SEGs_STAT_ACTIVE_MASTER g) f.id.toNat
    let t := t.segUpd g fun x => { x with backoff := false }
    match f.what with
    | .csf => .next t
    | .startup hop attempt => .next (t.segEcho g f.id.toNat hop.toNat attempt.toNat)
    | .enum spacing => .next (if backup then s.segEnumRsp g spacing.toNat else s)

/-- CB_BACKUP_TAKEOVER (R244): CSF_LOSS CSFs have been missed. -/
def execCbBackupTakeover (g : Fin 4) (s : State) : Host.Outcome State Fault Refusal :=
  .next (if s.domOn 8 && s.segState g == 5 then s.segListen g else s)

/-- ENUM goes out: two code groups of /I/ after the echo's 13 (R247). -/
def State.segEnum (s : State) (g : Nat) : State :=
  let s := s.advanceTo (s.ntu.lt + (cbNs 4 + 16) * nsU)
  let s := s.segUpd g fun x => { x with stage := 1, since := s.ntu.lt, nodes := [] }
  s.cbSend g s.ntu.lt (cbFrame 7 0 0 [0, 40, 0, 0])

/-- CB_ECHO_RECEIVE (R245): an echo that arrives `ns` after the master's /S/; only a good one within 10 µs
ends the wait. -/
def execCbEchoReceive (g : Fin 4) (v : CbVerdict) (hop : BitVec 8) (ns : Nat) (s : State) :
    Host.Outcome State Fault Refusal :=
  if !s.domOn 8 || s.segState g != 2 || (s.seg g).stage != 0 then .next s
  else if v != .good then .next (s.cbCount g v)
  else if decide (10000 < ns) then .next s
  else
    let s := s.advanceTo ((s.seg g).since + ns * nsU)
    let s := s.segUpd g fun x => { x with signal := true }
    .next ((s.wr (CBC_SEGs_STAT_LINE_HOPS g) (min hop.toNat 63)).segEnum g)

/-- CB_ECHO_TIMEOUT (R246): the echo has failed `ns` after the /S/, at the latest at 10 µs; `signal` says
whether the receive pair held synchronisation in this attempt. The eighth failure is a FAULT. -/
def execCbEchoTimeout (g : Fin 4) (signal : Bool) (ns : Nat) (s : State) : Host.Outcome State Fault Refusal :=
  if !s.domOn 8 || s.segState g != 2 || (s.seg g).stage != 0 then .next s
  else
    let s := s.advanceTo ((s.seg g).since + min ns 10000 * nsU)
    let s := s.segUpd g fun x => { x with signal := x.signal || signal }
    let x := s.seg g
    if decide (8 ≤ x.attempt) then .next (s.segFault g (if x.signal then 1 else 2))
    else .next ((s.setSegState g 1).setSeg g { x with backoff := true, since := s.ntu.lt })

/-- CB_BACKOFF_EXPIRE (R246): ID × 8 µs, nothing for ID 0; the master listens again. -/
def execCbBackoffExpire (g : Fin 4) (s : State) : Host.Outcome State Fault Refusal :=
  if !s.segListens g || !(s.seg g).backoff then .next s
  else .next (s.segUpd g fun x =>
    { x with backoff := false, attempt := x.attempt + 1, since := s.ntu.lt })

/-! ## Enumeration (R247, R248) -/

/-- The instant, in 0.5 ns after the ENUM's /S/, up to which responses are taken (R247). -/
def enumLimit2 (hops : Nat) : Nat := 2 * (2 * hops * 40 + 400 + (hops - 1) * 320 + 2000)

/-- delay_h of R247 in 2^−8 ns, for a response received `rx2` × 0.5 ns after the ENUM's /S/. -/
def enumDelay (rx2 hop : Nat) : Nat := (rx2 * 128 - (400 + (hop - 1) * 320) * 256) / 2

/-- CB_ENUM_RSP_RECEIVE (R247, R248). -/
def execCbEnumRspReceive (g : Fin 4) (v : CbVerdict) (id : BitVec 5) (hop kind : BitVec 8) (caps : BitVec 16)
    (_uid : BitVec 32) (rx2 : Nat) (s : State) : Host.Outcome State Fault Refusal :=
  if !s.domOn 8 || s.segState g != 2 || (s.seg g).stage != 1 then .next s
  else if v != .good then .next (s.cbCount g v)
  else if id.toNat == 0 || decide (17 < id.toNat) || hop.toNat == 0 || decide (17 < hop.toNat)
      || !(kind.toNat == 1 || kind.toNat == 2) || decide (1 < caps.toNat) then .next (s.cbCount g .fmt)
  else if decide (enumLimit2 (s.rd (CBC_SEGs_STAT_LINE_HOPS g)) < rx2) then .next s
  else
    let s := s.advanceTo ((s.seg g).since + rx2 * 2 ^ 31)
    let x := s.seg g
    let n := x.node id.toNat
    if n.hop == 0 then
      .next (s.setSeg g (x.setNode id.toNat
        { n with hop := hop.toNat, delay := enumDelay rx2 hop.toNat }))
    else if n.hop == hop.toNat then .next s
    else .next ((s.setSeg g (x.setNode id.toNat { n with dup := true })).inc (CBC_SEGs_CNT1_ADDR_CLASH g))

/-! ## Configuration (R249, R250) -/

/-- The CONF at the head of the queue goes out with its /S/ at LT `t`. -/
def State.confSend (s : State) (g t : Nat) (pending : Bool) : State :=
  match (s.seg g).confq with
  | [] => s
  | c :: q =>
    let s := s.segUpd g fun x =>
      { x with confq := { c with tries := c.tries + 1, sent := true, at32 := t } :: q }
    s.cbSend g t (cbFrame 9 0 c.node (s.confPayload g c.node pending c.sgen))

/-- Start-up configures for the pending bank while no segment runs, because it then swaps first (R233). -/
def State.confForPending (s : State) : Bool :=
  s.bit CBC_SCHED_STAT_APPLY_PENDING && !(List.range 4).any fun g => s.segRuns g

/-- SGEN of the generation to come. -/
def State.nextSgen (s : State) : Nat := (s.rd CBC_SCHED_STAT_SGEN + 1) % 65536

/-- The next CONF of a start-up, or its end. -/
def State.confNext (s : State) (g : Nat) : State :=
  if (s.seg g).confq.isEmpty then s.segUpd g fun x => { x with stage := 3 }
  else s.confSend g s.ntu.lt ((s.seg g).cgen != s.rd CBC_SCHED_STAT_SGEN)

/-- Configuration begins: a CONF for each enumerated node with an entry in the active or a pending bank; an
ID that answered from two hops gets none (R248, R249). -/
def State.confBegin (s : State) (g : Nat) : State :=
  let pend := s.confForPending
  let gen := if pend then s.nextSgen else s.rd CBC_SCHED_STAT_SGEN
  let es := s.segEnts schedActiveBase g
    ++ (if s.bit CBC_SCHED_STAT_APPLY_PENDING then s.segEnts schedShadowBase g else [])
  let x := s.seg g
  let ids := ((List.range 17).map (· + 1)).filter fun i =>
    (x.node i).hop != 0 && !(x.node i).dup && es.any fun e => e.node == i
  let s := s.setSeg g { x with stage := 2, cgen := gen, confq := ids.map fun i => ⟨i, 0, false, 0, gen⟩ }
  s.confNext g

/-- CB_ENUM_WINDOW_END (R247, R249): the last response window has closed. -/
def execCbEnumWindowEnd (g : Fin 4) (s : State) : Host.Outcome State Fault Refusal :=
  if !s.domOn 8 || s.segState g != 2 || (s.seg g).stage != 1 then .next s
  else
    let t := (s.seg g).since + enumLimit2 (s.rd (CBC_SEGs_STAT_LINE_HOPS g)) * 2 ^ 31
    .next ((s.advanceTo t).confBegin g)

/-- ID `i` is REQUIRED. -/
def State.segRequired (s : State) (g i : Nat) : Bool := bitAt (s.rd (CBC_SEGs_NODES_REQUIRED g)) (i - 1)

/-- The acknowledgement of CONF `c`, at the head of the queue, is missing or REFUSED (R249). -/
def State.confFail (s : State) (g : Nat) (c : CbConf) (q : List CbConf) : State :=
  if s.segState g == 2 then
    if decide (c.tries < 3) then s.confNext g
    else if s.segRequired g c.node then s.segFault g 3
    else (s.segUpd g fun x => { x with confq := q }).confNext g
  else if decide (c.tries < 3) then s.segUpd g fun x => { x with confq := { c with sent := false } :: q }
  else s.schedRefuse 9 none

/-- CB_CONF_ACK_RECEIVE (R249). -/
def execCbConfAckReceive (g : Fin 4) (v : CbVerdict) (id : BitVec 5) (result : BitVec 8) (sgen : BitVec 16)
    (s : State) : Host.Outcome State Fault Refusal :=
  match (s.seg g).confq with
  | [] => .next s
  | c :: q =>
    if !s.domOn 8 || !c.sent || c.node != id.toNat then .next s
    else if v != .good then .next (s.cbCount g v)
    else if decide (1 < result.toNat) || sgen.toNat != c.sgen then .next (s.cbCount g .fmt)
    else if result.toNat == 1 then .next (s.confFail g c q)
    else
      let s := s.segUpd g fun x => { x.setNode c.node { x.node c.node with present := true } with confq := q }
      .next (if s.segState g == 2 then s.confNext g else s)

/-- CB_CONF_ACK_TIMEOUT (R249): 2 µs after the expected instant. -/
def execCbConfAckTimeout (g : Fin 4) (s : State) : Host.Outcome State Fault Refusal :=
  match (s.seg g).confq with
  | [] => .next s
  | c :: q =>
    if !s.domOn 8 || !c.sent then .next s
    else
      let d := ((s.seg g).node c.node).delay
      .next ((s.advanceTo (c.at32 + 2 * d * 2 ^ 24 + 2400 * nsU)).confFail g c q)

/-- CB_SYNC_ENTRY (R250): every REQUIRED ID is configured and the cycle generator runs; CSFs follow from the
next boundary. A bank that still waits covers this segment too, unless its nodes were configured for that very
bank (R233). -/
def execCbSyncEntry (g : Fin 4) (s : State) : Host.Outcome State Fault Refusal :=
  let x := s.seg g
  let all := (List.range 17).all fun i => !s.segRequired g (i + 1) || (x.node (i + 1)).present
  if !s.domOn 8 || s.segState g != 2 || x.stage != 3 || !all || !s.cycRun then .next s
  else
    let s := s.setSegState g (if s.cyclicMode then 4 else 3)
    let q := if s.bit CBC_SCHED_STAT_APPLY_PENDING && x.cgen != s.nextSgen then
        (s.changedNodes g).map fun i => (⟨i, 0, false, 0, s.nextSgen⟩ : CbConf) else []
    .next (s.setSeg g { x with waitBnd := true, csfs := 0, restart := true, csfSent := false, confq := q })

/-! ## The schedule swap (R233) -/

/-- A write of 1 to APPLY: the check, and CONFs for the nodes whose slots change. -/
def State.schedApply (s : State) : State :=
  if s.bit CBC_SCHED_STAT_APPLY_PENDING then s.cfgErr CBC_SCHED_CTL
  else
    match s.schedCheck (s.schedValid schedShadowBase) with
    | some (r, e) => s.schedRefuse r e
    | none =>
      let s := s.wrB CBC_SCHED_STAT_APPLY_PENDING true
      (List.range 4).foldl (fun s g => if s.segRuns g then
        s.segUpd g fun x => { x with confq := (s.changedNodes g).map fun i => ⟨i, 0, false, 0, s.nextSgen⟩ }
        else s) s

/-- CB_SCHED_APPLY (R233). -/
def execCbSchedApply (s : State) : Host.Outcome State Fault Refusal :=
  .next (if s.domOn 8 then s.schedApply else s)

/-- The registers of the active bank take the shadow bank's values. -/
def State.schedCopy (s : State) : State :=
  let sh := s.regs.filter fun e => decide (schedShadowBase ≤ e.1) && decide (e.1 < schedShadowBase + 0x10000)
  let s := s.resetRegs fun a => decide (schedActiveBase ≤ a) && decide (a < schedActiveBase + 0x10000)
  sh.foldl (fun s e => s.setReg (e.1 - schedShadowBase + schedActiveBase) e.2) s

/-- Every CONF that the pending bank needs has been acknowledged. -/
def State.schedReady (s : State) : Bool :=
  (List.range 4).all fun g => !s.segRuns g || (s.seg g).confq.isEmpty

/-- The swap at a boundary: the table, the shadowed fields of every CBC_SEGs_CTL, SGEN. Removed slots return
(R256); a start-up configured for another generation configures again. -/
def State.schedSwap (s : State) : State :=
  if !s.bit CBC_SCHED_STAT_APPLY_PENDING || !s.schedReady then s
  else
    let s := (s.schedCopy.incWrap CBC_SCHED_STAT_SGEN).wrB CBC_SCHED_STAT_APPLY_PENDING false
    (List.range 4).foldl (fun s g =>
      let s := s.segUpd g fun x =>
        { x with
          ctl := s.reg (CBC_SEGs_CTL g)
          nodes := (List.range 17).foldl (fun m i =>
            let n := mapGet (fun _ => CbNode.reset) m (i + 1)
            mapPut (fun _ => CbNode.reset) m (i + 1)
              (if n.removed then { n with removed := false, run := 0 } else n)) x.nodes }
      if s.segState g == 2 && decide (2 ≤ (s.seg g).stage) && (s.seg g).cgen != s.rd CBC_SCHED_STAT_SGEN then
        s.confBegin g
      else s) s

/-! ## Boundary and CSF (R235, R252 to R254) -/

/-- The babble estimate (R257): the lowest hop whose reply was lost or corrupted, when every lower hop
delivered; otherwise 0. -/
def babbleHop (good bad : List Nat) : Nat :=
  match (List.range 18).find? fun h => bad.contains h with
  | none => 0
  | some h => if (List.range h).all (fun k => k == 0 || good.contains k) then h else 0

/-- A segment at a boundary: the estimate settles, the cycle's lists empty, requests age (R240, R257). -/
def State.segBoundary (s : State) (g : Nat) : State :=
  let x := s.seg g
  let s := if x.babbled then s.wr (CBC_SEGs_BABBLE_HOP g) (babbleHop x.goodHops x.badHops) else s
  let run := s.segRuns g
  s.setSeg g { x with
    waitBnd := false
    restart := x.restart || (run && !x.csfSent)
    csfs := if x.csfSent then x.csfs else 0
    csfSent := false
    done := []
    clashed := []
    goodHops := []
    badHops := []
    babbled := false
    line := if run then [] else x.line
    reqs := x.reqs.map fun r => { r with age := r.age + 1 } }

/-- The CBC's part of a boundary. -/
def State.cbcBoundary (s : State) : State :=
  if !s.domOn 8 then s else ((List.range 4).foldl (fun s g => s.segBoundary g) s).schedSwap

/-- A value placed in an ascending list. -/
def insertAsc (v : Int) : List Int → List Int
  | [] => [v]
  | a :: t => if v ≤ a then v :: a :: t else a :: insertAsc v t

/-- The fault-tolerant average of 1 to 8 values (R253). -/
def fta (d : List Int) : Int :=
  let n := d.length
  let k := if n ≤ 2 then 0 else if n ≤ 6 then 1 else 2
  quotT (((d.foldr insertAsc []).drop k).take (n - 2 * k)).sum ((n - 2 * k : Nat) : Int)

/-- The CSF payload (Table R229). -/
def State.csfPayload (s : State) (g : Nat) (anchor c dr : Int) (n : Nat) : List Byte :=
  bytesBE 8 (s.rd NTU_CYC_COUNT_CYCLE) ++ bytesBE 8 (unsign 64 anchor) ++ bytesBE 4 (unsign 32 c)
    ++ bytesBE 4 (unsign 32 dr) ++ bytesBE 4 s.cycLen ++ bytesBE 2 (s.rd CBC_SCHED_STAT_SGEN)
    ++ [BitVec.ofNat 8 s.mode, BitVec.ofNat 8 (s.segState g), BitVec.ofNat 8 (s.rd (CBC_SEGs_SYNC_STEER g)),
        BitVec.ofNat 8 n, BitVec.ofNat 8 (s.rd (CBC_SEGs_CTL_CSF_LOSS g))]

/-- The corrections of R254 and the CSF. -/
def State.segCsf (s : State) (g : Nat) : State :=
  let x := s.seg g
  let lt := s.ntu.lt
  let n := min x.devs.length 8
  let m : Int := if x.restart || n == 0 then 0 else fta (x.devs.take 8)
  let st := x.stAt lt
  let lim : Int := s.rd (CBC_SEGs_SYNC_STEER_LIM g) * 256
  let steer : Int := match s.steerTime g with
    | none => 0
    | some t => clampInt ((t - st).fdiv (2 ^ 24)) (-lim) lim
  let cmax : Int := s.rd (CBC_SEGs_SYNC_CORR_MAX g) * 256
  let c := clampInt (steer - m) (-cmax) cmax
  let dr := sarInt (quotT (-m * 2 ^ 24) s.cycLen) (s.rd (CBC_SEGs_SYNC_RKI_SHIFT g))
  let st' := st + c * 2 ^ 24
  let s := s.setSegState g (if s.cyclicMode then 4 else 3)
  let s := s.setSeg g { x with
    off := (x.offTo lt).1 + c
    offRem := (x.offTo lt).2
    offAt := lt
    rate := clampInt (x.rate + dr) (-1073742) 1073742
    csfLt := lt
    csfSt := st'
    csfSent := true
    csfs := if x.restart then 1 else min 8 (x.csfs + 1)
    restart := false
    devs := if s.bit (CBC_SEGs_SYNC_MASTER_TK g) then [0] else [] }
  let s := (s.wrI (CBC_SEGs_STAT_LAST_C g) c).wr (CBC_SEGs_STAT_NMEAS g) n
  s.cbSend g lt (cbFrame 1 (if x.restart then 8 else 0) 0 (s.csfPayload g (st'.fdiv (2 ^ 32)) c dr n))

/-! ## SUM and the reconfiguration window (R238, R239, R249) -/

/-- The axis whose results connection `c` carries. -/
def State.axisOfConn (s : State) (c : Nat) : Option Nat :=
  (List.range 64).find? fun a => s.bit (ACE_AXk_CFG_EN a) && s.rd (ACE_AXk_IO_RES_CONN a) == c

/-- A slice as filled: its bytes and the VALID, HOLD, EXTRAP and OUT_LATE bits. -/
structure SliceOut where
  bytes : List Byte
  valid : Bool
  hold : Bool
  extrap : Bool
  outLate : Bool
deriving DecidableEq, Repr

/-- Slice `k` of segment `g` (Table R238); an uncorrectable source gives the safe value (Table R533). -/
def State.sliceOut (s : State) (g k stride : Nat) : SliceOut × State :=
  if !s.bit (CBC_SEGs_SLICEk_EN g k) then (⟨List.replicate stride 0, false, false, false, false⟩, s)
  else
    let host := s.bit (CBC_SEGs_SLICEk_SRC g k)
    let conn := s.rd (CBC_SEGs_SLICEk_CONN g k)
    let off := s.rd (CBC_SEGs_SLICEk_PI_OFF g k) * 8
    let ax := s.axisOfConn conn
    let ex := match ax with | none => false | some a => bitAt s.image.extrap a
    let ol := match ax with | none => false | some a => bitAt s.image.outLate a
    let safe := (wordsBytes ((List.range 8).map fun j => s.reg (CBC_SAFE g k j))).take stride
    if s.mode == 6 || (s.mode == 9 && host) then (⟨safe, false, true, ex, ol⟩, s)
    else
      let (b, u, s) := s.imageSource host off stride
      if u then (⟨safe, false, true, ex, ol⟩, s)
      else (⟨b, host || s.freshBit conn, false, ex, ol⟩, s)

/-- The first `n` slices in one snapshot. -/
def State.slicesOut (s : State) (g stride : Nat) : Nat → List SliceOut × State
  | 0 => ([], s)
  | n + 1 =>
    let (l, s) := s.slicesOut g stride n
    let (x, s) := s.sliceOut g n stride
    (l ++ [x], s)

/-- One bit per slice. -/
def sliceBits (l : List SliceOut) (f : SliceOut → Bool) : Nat :=
  l.foldr (fun x a => 2 * a + b2n (f x)) 0

/-- The SUM of segment `g` (Table R230). -/
def State.segSum (s : State) (g : Nat) : State :=
  let x := s.seg g
  let stride := bitsOf x.ctl 39 34 + 1
  let count := bitsOf x.ctl 33 30 + 1
  let aoff := bitsOf x.ctl 63 40
  let (l, s) := s.slicesOut g stride count
  let apply : Int := if aoff == 0 then 0 else x.csfSt.fdiv (2 ^ 32) + aoff * 8
  let p := bytesBE 8 (s.rd NTU_CYC_COUNT_CYCLE) ++ bytesBE 8 (unsign 64 apply)
    ++ bytesBE 2 (sliceBits l SliceOut.valid) ++ bytesBE 2 (sliceBits l SliceOut.hold)
    ++ bytesBE 2 (sliceBits l SliceOut.extrap) ++ bytesBE 2 (sliceBits l SliceOut.outLate)
    ++ bytesBE 2 (s.rd CBC_SCHED_STAT_SGEN)
    ++ [BitVec.ofNat 8 s.mode, BitVec.ofNat 8 count, BitVec.ofNat 8 stride, 0]
    ++ l.flatMap SliceOut.bytes
  s.cbSend g s.ntu.lt (cbFrame 2 0 0 p)

/-- Reply entries of segment `g` that are in the schedule: not taken out by R248 or R256. -/
def State.slotsIn (s : State) (g : Nat) : List SchedEnt :=
  (s.segEnts schedActiveBase g).filter fun e =>
    let n := (s.seg g).node e.node
    e.isReply && !n.removed && !n.dup

/-- The instant, in 2^−8 ns from the boundary, at which a CONF for a node with delay `d` fits into the
reconfiguration window that begins at `from_` and ends at `lim` (R249). -/
def confPlace (busy : List CbAct) (from_ lim g d : Nat) : Option Nat :=
  let turn := 2 * d + 400 * 256
  let clear := fun t => busy.all fun a =>
    !(decide (t < a.hi) && decide (a.lo < t + cbNs 32 * 256 + g))
      && !(decide (t + turn < a.hi) && decide (a.lo < t + turn + cbNs 4 * 256 + g))
  let ok := fun t => decide (from_ ≤ t) && clear t && decide (t + turn + cbNs 4 * 256 ≤ lim)
    && decide (t + cbNs 32 * 256 ≤ lim)
  let cands := (from_ :: busy.flatMap fun a => [a.hi, a.hi - turn]).filter ok
  cands.foldl (fun m t => match m with
    | none => some t
    | some u => some (min u t)) none

/-- Segment `g` sends a SUM in this cycle. -/
def State.segSums (s : State) (g : Nat) : Bool := s.segState g == 4 && bitsOf (s.seg g).ctl 29 29 == 1

/-- The CONF of this cycle, if one waits and fits. -/
def State.segReconf (s : State) (g : Nat) : State :=
  let x := s.seg g
  match x.confq with
  | [] => s
  | c :: _ =>
    if c.sent || !s.bit CBC_SCHED_STAT_APPLY_PENDING then s
    else
      let b := s.ntu.cyc.act
      let sum := s.segSums g
      let downs := downActs b g (if sum then x.ctl else 0) (s.segEnts schedActiveBase g)
      let start := if sum then (b.phase 4 * 256) + sumNs x.ctl * 256 else (downs.map CbAct.hi).foldl max 0
      let lim := (b.len - (if b.pullEn then 8 * b.slewMax else 0) - 680) * 256
      let busy := downs ++ (s.slotsIn g).map s.replyAct
      match confPlace busy start lim (s.rd (CBC_SEGs_TIMING_G g) * 8 * 256) (x.node c.node).delay with
      | none => s
      | some t => s.confSend g (s.ntu.cyc.edge + t * 2 ^ 24) true

/-- Phase CB_IN: the CSF on every segment in SYNC or CYCLIC; where no SUM follows, the window opens after the
other downstream frames. -/
def State.cbcIn (s : State) : State :=
  if !s.domOn 8 then s
  else (List.range 4).foldl (fun s g =>
    if s.segRuns g && !(s.seg g).waitBnd then
      let s := s.segCsf g
      if s.segSums g then s else s.segReconf g
    else s) s

/-- Phase CB_OUT: the SUM on every CYCLIC segment that sends one, then the window. -/
def State.cbcOut (s : State) : State :=
  if !s.domOn 8 then s
  else (List.range 4).foldl (fun s g =>
    if s.segRuns g && (s.seg g).csfSent && s.segSums g then (s.segSum g).segReconf g else s) s

/-! ## Reply slots (R236, R237, R256) -/

/-- Expected arrival of an entry's reply in 2^−8 ns after the anchor. -/
def State.replyExp (s : State) (e : SchedEnt) : Nat :=
  (e.start - s.ntu.cyc.act.phase 0) * 256 + ((s.seg e.seg).node e.node).delay

/-- End of the slot's guard, in 2^−8 ns after the anchor. -/
def State.guardEnd (s : State) (e : SchedEnt) : Nat :=
  s.replyExp e + (cbNs e.plen + s.rd (CBC_SEGs_TIMING_G e.seg) * 8) * 256

/-- The slot of entry `i` is open in this cycle: the entry, when it is in the schedule, the CSF has been sent
and the slot is not settled. -/
def State.openSlot (s : State) (g i : Nat) : Option SchedEnt :=
  let x := s.seg g
  if !s.domOn 8 || !s.segRuns g || !x.csfSent || x.done.contains i then none
  else (s.slotsIn g).find? fun e => e.idx == i

/-- How an /S/ with deviation `dev2` (0.5 ns) is classified (Table R236): 0 accepted, 1 early, 2 late; none
outside the slot. -/
def State.slotClass (s : State) (e : SchedEnt) (dev2 : Int) : Option Nat :=
  let w : Int := s.rd (CBC_SEGs_TIMING_W e.seg) * 16
  let arr : Int := (s.replyExp e : Int) + dev2 * 128
  let prev := ((s.slotsIn e.seg).filter fun f => decide (s.replyExp f < s.replyExp e)).map s.guardEnd
  if decide (arr < (prev.foldl max 0 : Nat)) || decide ((s.guardEnd e : Int) ≤ arr) then none
  else if decide (dev2 < -w) then some 1
  else if decide (w < dev2) then some 2
  else some 0

/-- A clash in a slot of ID `i` (R256): at the third consecutive cycle its slots leave the schedule; a
REQUIRED node of a CYCLIC segment is a fault (R526). -/
def State.cbClash (s : State) (g i : Nat) : State :=
  let s := s.inc (CBC_SEGs_CNT1_ADDR_CLASH g)
  let x := s.seg g
  if x.clashed.contains i then s
  else
    let n := x.node i
    let run := min 3 (n.run + 1)
    let x := { x with clashed := i :: x.clashed }
    if decide (run < 3) || n.removed then s.setSeg g (x.setNode i { n with run := run })
    else
      let s := s.setSeg g (x.setNode i { n with run := run, removed := true })
      let s := s.logEvent 0x0403 uCBC 1 (g + i * 2 ^ 8)
      if s.segRequired g i && s.segState g == 4 then s.safeStopFault 4 else s

/-- `n` further clashes in the slot. -/
def State.cbClashes (s : State) (g i : Nat) : Nat → State
  | 0 => s
  | n + 1 => (s.cbClash g i).cbClashes g i n

/-- The slot of `e` is settled; whether its hop delivered a good reply. A node that was never enumerated has no hop. -/
def State.slotDone (s : State) (e : SchedEnt) (good : Bool) : State :=
  s.segUpd e.seg fun x =>
    let h := (x.node e.node).hop
    { x with
      done := e.idx :: x.done
      goodHops := if good && h != 0 then h :: x.goodHops else x.goodHops
      badHops := if good || h == 0 then x.badHops else h :: x.badHops }

/-- Time moves to the arrival of a reply's /S/, `dev2` × 0.5 ns from the expected instant. -/
def State.toReply (s : State) (e : SchedEnt) (dev2 : Int) : State :=
  s.advanceTo (((s.seg e.seg).csfLt : Int) + s.replyExp e * 2 ^ 24 + dev2 * 2 ^ 31).toNat

/-- What is wrong with a reply counts (R228), and a CRC or format failure is a clash (R256). -/
def State.cbBad (s : State) (g i : Nat) (v : CbVerdict) : State :=
  let s := s.cbCount g v
  if v == .crc || v == .fmt then s.cbClash g i else s

/-- A reply in the slot of `e`: early, late, bad, or good; a good one goes on to `k`. An early or late one counts what
else is wrong with it too. -/
def State.cbReply (s : State) (e : SchedEnt) (v : CbVerdict) (dev2 : Int) (clashes : Nat)
    (k : State → State) : State :=
  let g := e.seg
  match s.slotClass e dev2 with
  | none => s
  | some 0 =>
    let s := s.toReply e dev2
    if v != .good then
      ((s.slotDone e false).cbBad g e.node v).cbClashes g e.node clashes
    else
      let s := (k s).slotDone e true
      let s := s.segUpd g fun x => x.setNode e.node { x.node e.node with dev := clampInt dev2 (-32768) 32767 }
      if clashes != 0 then s.cbClashes g e.node clashes
      else s.segUpd g fun x => x.setNode e.node { x.node e.node with run := 0 }
  | some c =>
    let s := (s.toReply e dev2).inc (if c == 1 then CBC_SEGs_CNT1_SLOT_EARLY g else CBC_SEGs_CNT1_SLOT_LATE g)
    ((s.slotDone e false).cbBad g e.node v).cbClashes g e.node clashes

/-- What an accepted good CYC_REPLY does: flags, the timekeeper's deviation (R253), the process image
(R237). -/
def State.cycReply (e : SchedEnt) (dev2 : Int) (nodeErr safe : Bool) (bytes : List Byte) (s : State) : State :=
  let g := e.seg
  let s := s.segUpd g fun x =>
    { x.setNode e.node { x.node e.node with err := nodeErr, safe := safe } with
      devs := if e.tk then x.devs ++ [dev2 * 128] else x.devs }
  if e.piEn && s.segState g == 4 then
    (s.advanceTo (s.ntu.lt + cbNs e.plen * nsU)).landItem e.conn (e.piOff * 8) (padWords bytes)
  else s

/-- CB_REPLY_RECEIVE (R236, R237, R253, R256): `dev2` is the deviation in 0.5 ns, `clashes` counts further
/S/ and code groups other than /I/ up to the end of the guard. -/
def execCbReplyReceive (g : Fin 4) (e : Fin 4096) (v : CbVerdict) (dev2 : Int) (nodeErr safe : Bool)
    (bytes : List Byte) (clashes : Nat) (s : State) : Host.Outcome State Fault Refusal :=
  match s.openSlot g e with
  | none => .next s
  | some x =>
    if x.type != 0 then .next s
    else
      let v := if v == .good && bytes.length != x.plen then .fmt else v
      .next (s.cbReply x v dev2 clashes (State.cycReply x dev2 nodeErr safe bytes))

/-- CB_SLOT_END (R236): the guard ends with no reply. -/
def execCbSlotEnd (g : Fin 4) (e : Fin 4096) (s : State) : Host.Outcome State Fault Refusal :=
  match s.openSlot g e with
  | none => .next s
  | some x =>
    let s := s.advanceTo ((s.seg g).csfLt + s.guardEnd x * 2 ^ 24)
    if x.type == 0 then .next ((s.slotDone x false).inc (CBC_SEGs_CNT0_SLOT_MISS g))
    else .next (s.segUpd g fun y => { y with done := x.idx :: y.done })

/-! ## Acyclic exchange (R240) -/

/-- The MGP queues a request: the AREQ payload, TAG first. -/
def State.cbQueue (s : State) (g node slot : Nat) (data : List Byte) : State :=
  s.segUpd g fun x => { x with reqs := x.reqs ++ [⟨slot, node, natOfBE (data.take 2), data, false, 0⟩] }

/-- The first request that satisfies `p` changed by `f`. -/
def reqFirst (p : CbReq → Bool) (f : CbReq → List CbReq) : List CbReq → List CbReq
  | [] => []
  | r :: t => if p r then f r ++ t else r :: reqFirst p f t

/-- CB_AREQ_SLOT (R240): the oldest queued request of the entry's node goes out. -/
def execCbAreqSlot (g : Fin 4) (e : Fin 4096) (s : State) : Host.Outcome State Fault Refusal :=
  let x := s.seg g
  if !s.domOn 8 || !s.segRuns g || !x.csfSent then .next s
  else
    match (s.segEnts schedActiveBase g).find? fun y => y.idx == e.val && y.type == 2 with
    | none => .next s
    | some y =>
      let p := fun (r : CbReq) => r.node == y.node && !r.sent
      match x.reqs.find? p with
      | none => .next s
      | some r =>
        let s := s.advanceTo (s.ntu.cyc.edge + y.start * nsU)
        let s := s.segUpd g fun x => { x with reqs := reqFirst p (fun r => [{ r with sent := true }]) x.reqs }
        .next (s.cbSend g s.ntu.lt (cbFrame 4 0 y.node r.data))

/-- An accepted good ARSP: TAG 0 reports nothing; otherwise the request with its TAG is answered. -/
def State.arsp (e : SchedEnt) (bytes : List Byte) (s : State) : State :=
  let tag := natOfBE (bytes.take 2)
  let p := fun (r : CbReq) => r.node == e.node && r.sent && r.tag == tag
  match (s.seg e.seg).reqs.find? p with
  | none => s
  | some r =>
    if tag == 0 then s
    else (s.segUpd e.seg fun x => { x with reqs := reqFirst p (fun _ => []) x.reqs }).dcpResult r.slot 0 bytes

/-- CB_ARSP_RECEIVE (R240). -/
def execCbArspReceive (g : Fin 4) (e : Fin 4096) (v : CbVerdict) (dev2 : Int) (bytes : List Byte) (clashes : Nat)
    (s : State) : Host.Outcome State Fault Refusal :=
  match s.openSlot g e with
  | none => .next s
  | some x =>
    if x.type != 1 then .next s
    else
      let n := bytes.length
      let v := if v == .good && (decide (n < 4) || decide (min x.plen 128 < n)) then .fmt else v
      .next (s.cbReply x v dev2 clashes (State.arsp x bytes))

/-- CB_AREQ_TIMEOUT (R240): a request of the node unanswered for 64 cycles; without cycles it ends as well (DEDUCED, log 61). -/
def execCbAreqTimeout (g : Fin 4) (node : BitVec 5) (s : State) : Host.Outcome State Fault Refusal :=
  let p := fun (r : CbReq) => r.node == node.toNat && (decide (64 ≤ r.age) || !s.cycLive)
  match (s.seg g).reqs.find? p with
  | none => .next s
  | some r =>
    .next ((s.segUpd g fun x => { x with reqs := reqFirst p (fun _ => []) x.reqs }).dcpResult r.slot 0x0307 [])

/-! ## Babble, listen-only, snapshots (R250, R257, R259) -/

/-- CB_BABBLE (R257): once per cycle. -/
def execCbBabble (g : Fin 4) (s : State) : Host.Outcome State Fault Refusal :=
  let x := s.seg g
  if !s.domOn 8 || s.segState g == 0 || (s.mode == 11) || x.babbled then .next s
  else
    let s := (s.inc (CBC_SEGs_CNT1_BABBLE g)).wr (CBC_SEGs_BABBLE_TIME g) s.ltNs
    let s := s.wr (CBC_SEGs_BABBLE_HOP g) (babbleHop x.goodHops x.badHops)
    .next (s.setSeg g { x with babbled := true })

/-- CB_LISTEN_ONLY_FRAME (R228, R250): a frame heard while the segment sends none, which is in SERVICE, while listening and
as backup: what is discarded counts, and nothing else happens. -/
def execCbListenOnlyFrame (g : Fin 4) (v : CbVerdict) (s : State) : Host.Outcome State Fault Refusal :=
  .next (if s.domOn 8 && (s.segState g == 1 || s.segState g == 5) then s.cbCount g v else s)

/-- CBC_SEGs_NODEi as the snapshot shows a node. -/
def CbNode.word (n : CbNode) : Word :=
  BitVec.ofNat 64 (b2n n.present * 2 ^ 63 + b2n n.removed * 2 ^ 62 + b2n n.dup * 2 ^ 61 + b2n n.err * 2 ^ 60
    + b2n n.safe * 2 ^ 59 + n.hop % 32 * 2 ^ 54 + n.run % 4 * 2 ^ 52 + unsign 16 n.dev * 2 ^ 36
    + n.delay % 2 ^ 32)

/-- The status snapshot at HOST_NOTE (R259). -/
def State.cbcSnap (s : State) : State :=
  if !s.domOn 8 then s
  else
    let one := fun (s : State) (g : Nat) =>
      let x := s.seg g
      let s := s.wr (CBC_SEGs_ST_NS g) (unsign 64 ((x.stAt s.ntu.lt).fdiv (2 ^ 32)))
      (List.range 17).foldl (fun s i => s.setReg (CBC_SEGs_NODEi g (i + 1)) (x.node (i + 1)).word) s
    ((List.range 4).foldl one s).incWrap CBC_SNAP_SEQ_SEQ

end Sys2Proof.Machine
end

