-- ==== Sys2Proof/Machine/SwcCore.lean ====
section
/-! DEFINITION. The switch core's shared operations: ports, mirror ring, frame store, tables, gate lists,
shapers (chapter 05, R112 to R149). -/

namespace Sys2Proof.Machine

/-! ## The Rook engines behind the engine ports -/

def State.rook (s : State) (n : Nat) : RookSt := mapGet (fun _ => RookSt.reset) s.rooks n

def State.setRook (s : State) (n : Nat) (r : RookSt) : State :=
  s.putRooks (mapPut (fun _ => RookSt.reset) s.rooks n r)

def State.rookUpd (s : State) (n : Nat) (f : RookSt → RookSt) : State := s.setRook n (f (s.rook n))

def RookSt.rx (r : RookSt) (b : Nat) : RxBuf := if b == 0 then r.rx0 else r.rx1
def RookSt.setRx (r : RookSt) (b : Nat) (x : RxBuf) : RookSt :=
  if b == 0 then { r with rx0 := x } else { r with rx1 := x }
def RookSt.tx (r : RookSt) (b : Nat) : TxBuf := if b == 0 then r.tx0 else r.tx1
def RookSt.setTxb (r : RookSt) (b : Nat) (x : TxBuf) : RookSt :=
  if b == 0 then { r with tx0 := x } else { r with tx1 := x }

/-- Bytes of a receive buffer that are readable at LT `now`: the engine port delivers them as they arrive (R201). -/
def RxBuf.readable (x : RxBuf) (now : Nat) : Nat :=
  if x.ended || !x.held then x.bytes else arrivedBytes x.data.length x.born x.bt now

/-! ## Ports (R112, R196) -/

/-- Rook `n` is RUNNING. -/
def State.rookRunning (s : State) (n : Nat) : Bool :=
  s.domOn (if n < 12 then 4 else 5) && s.rd (PEA_Rn_STAT_STATE n) == 2

/-- A sticky event sets in a RUNNING engine (R199). -/
def State.rookEvent (s : State) (n bit : Nat) : State :=
  if s.rookRunning n then s.rookUpd n fun r => { r with ev := r.ev ||| 2 ^ bit } else s

/-- Port `p` is up. -/
def State.swPortUp (s : State) (p : Nat) : Bool :=
  if p < 10 then s.rd (EPC_PORTp_STAT_STATE p) == 3
  else if p < 14 then (List.range 24).any fun n => s.rookRunning n && s.rd (PEA_Rn_CTL_BIND n) == p - 10
  else if p == 14 then s.domOn 3 else true

/-- The ports up, as a mask. -/
def State.upMask (s : State) : Nat :=
  (List.range 16).foldl (fun m p => if s.swPortUp p then m + 2 ^ p else m) 0

/-- Ten times the ns a byte takes on port `p`; 0 on the ports inside the device (DESIGN CHOICE, log 29). -/
def State.byteTime10 (s : State) (p : Nat) : Nat :=
  if 10 ≤ p then 0
  else match s.rd (EPC_PORTp_STAT_CUR_SPEED p) with
    | 0 => 8000
    | 1 => 800
    | 2 => 80
    | 3 => 32
    | 4 => 16
    | _ => 8

/-- MAX_LEN of a port; the ports inside the device take whole frames of any length. -/
def State.portMaxLen (s : State) (p : Nat) : Nat := if 10 ≤ p then 9216 else s.rd (EPC_PORTp_CTL_MAX_LEN p)

/-- A register of SWC_PORTp as it stood after `g` writes of such registers: what governs a frame whose first byte
arrived then (R150). -/
def State.portWord (s : State) (g a : Nat) : Word :=
  match s.swc.pold.find? fun e => decide (g ≤ e.1) && e.2.1 == a with
  | some e => e.2.2
  | none => s.reg a

/-- A field of it. -/
def State.portRd (s : State) (g : Nat) (f : Fld) : Nat := bitsOf (s.portWord g f.addr) f.hi f.lo

/-- A write changes the SWC_PORTp register at `a`, which held `w`. The old value is kept while a frame waits for its
decision (R150). -/
def State.portLog (s : State) (a : Nat) (w : Word) : State :=
  if s.swc.arrived.isEmpty then s
  else s.putSwc { s.swc with pgen := s.swc.pgen + 1, pold := s.swc.pold ++ [(s.swc.pgen, a, w)] }

/-- SWC_PORTp_MAXSDU of a class for a frame of port-register count `g`, MAX_LEN when 0 (R137). -/
def State.maxSdu (s : State) (g p c : Nat) : Nat :=
  let v := s.portRd g (if c < 4 then SWC_PORTp_MAXSDU0_SDU p c else SWC_PORTp_MAXSDU1_SDU p (c - 4))
  if v == 0 then s.portMaxLen p else v

/-- Port `p` of the EPC beyond its registers. -/
def State.epcPort (s : State) (p : Nat) : EpcPort := mapGet (fun _ => EpcPort.reset) s.epc p

def State.setEpcPort (s : State) (p : Nat) (e : EpcPort) : State :=
  s.putEpc (mapPut (fun _ => EpcPort.reset) s.epc p e)

/-! ## Mirror capture ring (R146 to R149) -/

/-- Number of set bits of a port mask. -/
def maskCount (m : Nat) : Nat := ((List.range 16).filter fun p => bitAt m p).length

/-- The lowest set bit of a port mask. -/
def maskLow (m : Nat) : Nat := ((List.range 16).filter fun p => bitAt m p).headD 0

/-- The record of Table R148. Frame bytes and lengths take in the FCS. -/
def mirRecord (f : EthFrame) (reason time count : Nat) : List Byte :=
  let egv := maskCount f.egress == 1
  let info := f.gen % 65536 * 2 ^ 48 + reason * 2 ^ 40 + f.ingress * 2 ^ 36
    + (if egv then maskLow f.egress else 0) * 2 ^ 32 + f.cls * 2 ^ 29
    + b2n (decide (128 < f.len)) * 2 ^ 28 + b2n f.bad * 2 ^ 27 + b2n egv * 2 ^ 26 + f.len % 16384
  let origin := count % 2 ^ 32 * 2 ^ 32
    + (match f.stream with | none => 0 | some n => 2 ^ 20 + n * 2 ^ 10)
    + (match f.tcam with | none => 0 | some i => 2 ^ 9 + i)
  bytesLE 8 time ++ bytesLE 8 info ++ bytesLE 8 origin ++ bytesLE 8 0
    ++ (f.bytes ++ fcsBytes f.bytes f.bad ++ List.replicate 128 0).take 128

/-- Records written and not yet consumed. -/
def State.mirUsed (s : State) : Nat := (s.rd SWC_MIR_PROD_COUNT + 2 ^ 32 - s.rd SWC_MIR_CONS_COUNT) % 2 ^ 32

/-- Write one mirror record; a full ring drops it. -/
def State.mirror (s : State) (f : EthFrame) (reason time : Nat) : State :=
  if !s.bit SWC_MIR_CTL_EN then s
  else if s.mirUsed == 2048 then s.inc SWC_MIR_STAT_LOST
  else
    let n := s.rd SWC_MIR_PROD_COUNT
    let s := s.sramWrite false (s.rd SWC_MIR_BASE_BASE + 160 * (n % 2048)) (mirRecord f reason time n)
    let s := s.incWrap SWC_MIR_PROD_COUNT
    s.wrB SWC_MIR_STAT_FULL (s.mirUsed == 2048)

/-- A dropped frame, recorded when DROPS is set (R147). -/
def State.mirDrop (s : State) (f : EthFrame) (reason : Nat) : State :=
  if s.bit SWC_MIR_CTL_DROPS then s.mirror f reason f.born else s

/-- A write of SWC_MIR_CONS: accepted when the new count lies from CONS to PROD (R146). -/
def State.mirCons (s : State) (v : Nat) : State :=
  if decide ((v + 2 ^ 32 - s.rd SWC_MIR_CONS_COUNT) % 2 ^ 32 ≤ s.mirUsed) then
    let s := s.wr SWC_MIR_CONS_COUNT v
    s.wrB SWC_MIR_STAT_FULL (s.mirUsed == 2048)
  else s.cfgErr SWC_MIR_CONS

/-! ## The frame store (R140) -/

def State.setSwc (s : State) (w : SwcSt) : State := s.putSwc w

def State.frame (s : State) (id : Nat) : Option EthFrame := mapGet (fun _ => none) s.swc.frames id

def State.putFrame (s : State) (id : Nat) (f : Option EthFrame) : State :=
  s.setSwc { s.swc with frames := mapPut (fun _ => none) s.swc.frames id f }

/-- Queue of port `p` and class `c`. -/
def State.queue (s : State) (p c : Nat) : List Nat := mapGet (fun _ => []) s.swc.queues (8 * p + c)

/-- A record of a stored frame: one for each frame and reason (R147). -/
def State.mirrorOnce (s : State) (id reason : Nat) : State :=
  match s.frame id with
  | none => s
  | some f =>
    if !s.bit SWC_MIR_CTL_EN || f.mirs.contains reason then s
    else (s.mirror f reason f.born).putFrame id (some { f with mirs := reason :: f.mirs })

/-- The same for a drop, when DROPS is set. -/
def State.mirDropOnce (s : State) (id reason : Nat) : State :=
  if s.bit SWC_MIR_CTL_DROPS then s.mirrorOnce id reason else s

/-- A queue changes; a new head starts to stand there now (R137). -/
def State.setQueue (s : State) (p c : Nat) (q : List Nat) : State :=
  let old := (s.queue p c).head?
  let w := s.swc
  let ha := if q.head? != old then mapPut (fun _ => 0) w.headAt (8 * p + c) (if q.isEmpty then 0 else s.ltNs)
    else w.headAt
  s.setSwc { w with queues := mapPut (fun _ => []) w.queues (8 * p + c) q, headAt := ha }

def State.txCur (s : State) (p : Nat) : Option TxCur := mapGet (fun _ => none) s.swc.tx p
def State.txHeld (s : State) (p : Nat) : Option TxCur := mapGet (fun _ => none) s.swc.held p

def State.setTx (s : State) (p : Nat) (t : Option TxCur) : State :=
  s.setSwc { s.swc with tx := mapPut (fun _ => none) s.swc.tx p t }

def State.setHeld (s : State) (p : Nat) (t : Option TxCur) : State :=
  s.setSwc { s.swc with held := mapPut (fun _ => none) s.swc.held p t }

/-- Cells of a frame of `n` bytes: 256 bytes each. -/
def cellsOf (n : Nat) : Nat := (n + 255) / 256

/-- All frames stored. -/
def State.storedFrames (s : State) : List EthFrame := s.swc.frames.filterMap fun e => e.2

def sumNat (l : List Nat) : Nat := l.foldl (· + ·) 0

/-- Cells held altogether, by class from reservations, and by ingress port. -/
def State.cellsUsed (s : State) : Nat := sumNat (s.storedFrames.map fun f => f.res + f.pool)
def State.cellsPool (s : State) : Nat := sumNat (s.storedFrames.map fun f => f.pool)
def State.cellsRes (s : State) (c : Nat) : Nat :=
  sumNat ((s.storedFrames.filter fun f => f.cls == c).map fun f => f.res)
def State.cellsIn (s : State) (p : Nat) : Nat :=
  sumNat ((s.storedFrames.filter fun f => f.ingress == p).map fun f => f.res + f.pool)

/-- Cells reserved for a class, and for all. -/
def State.resvCells (s : State) (c : Nat) : Nat := 64 * s.rd (SWC_BUF_RESV_RESV c)
def State.resvAll (s : State) : Nat := sumNat ((List.range 8).map s.resvCells)

/-- FREE and LOW_WATER follow the cells held. -/
def State.freeUpdate (s : State) : State :=
  let fr := 32768 - s.cellsUsed
  let s := s.wr SWC_BUF_STAT_FREE fr
  if decide (fr < s.rd SWC_BUF_STAT_LOW_WATER) then s.wr SWC_BUF_STAT_LOW_WATER fr else s

/-- Cells for a frame: from the reservation of its class, then the pool; none when the pool or IN_LIM does not allow it
(R140). -/
def State.takeCells (s : State) (f : EthFrame) : Option (Nat × Nat) :=
  let k := cellsOf f.len
  let r := min k (s.resvCells f.cls - s.cellsRes f.cls)
  let lim := 64 * s.portRd f.pgen (SWC_PORTp_CTL_IN_LIM f.ingress)
  if lim != 0 && decide (lim < s.cellsIn f.ingress + k) then none
  else if decide (32768 - s.resvAll < s.cellsPool + (k - r)) then none
  else some (r, k - r)

/-- Some queue or transmitter still refers to a frame. -/
def State.frameHeld (s : State) (id : Nat) : Bool :=
  (s.swc.queues.any fun q => q.2.any fun i => i == id)
    || (s.swc.tx.any fun t => match t.2 with | none => false | some c => c.frame == id)
    || (s.swc.held.any fun t => match t.2 with | none => false | some c => c.frame == id)

/-- Port `p` still has a copy of the frame to send. -/
def State.portHolds (s : State) (p id : Nat) : Bool :=
  ((List.range 8).any fun c => (s.queue p c).contains id)
    || (match s.txCur p with | none => false | some c => c.frame == id)
    || (match s.txHeld p with | none => false | some c => c.frame == id)

/-- A transmit timestamp returns to a Rook's buffer (R215). -/
def State.rookTxStamp (s : State) (o p ts : Nat) : State :=
  let t := (s.rook (o / 2)).tx (o % 2)
  (s.rookUpd (o / 2) fun r => r.setTxb (o % 2) { t with
    tsV := true, tsPort := p, ns := ts / 65536, frac := ts % 65536 }).rookEvent (o / 2) 6

/-- The timestamp of the copy on the lowest port that transmits the frame returns once no lower port has a copy left
(R215). -/
def State.stampSettle (s : State) (id : Nat) : State :=
  match s.frame id with
  | none => s
  | some f =>
    match f.stamp, f.origin with
    | some (p, ts), some o =>
      if f.stampOut || (List.range p).any fun q => s.portHolds q id then s
      else (s.putFrame id (some { f with stampOut := true })).rookTxStamp o p ts
    | _, _ => s

/-- The cells of a frame return to the pool, and a Rook's transmit buffer becomes DONE or DROPPED (R213). -/
def State.frameFree (s : State) (id : Nat) : State :=
  match s.frame id with
  | none => s
  | some f =>
    let s := s.putFrame id none
    let s := match f.origin with
      | none => s
      | some o => s.setSwc { s.swc with txDone := s.swc.txDone ++ [(o, f.sent)] }
    s.freeUpdate

/-- An egress has finished with a frame: its cells return when no other still needs it. -/
def State.frameRelease (s : State) (id : Nat) : State :=
  let s := s.stampSettle id
  if s.frameHeld id then s else s.frameFree id

/-- A frame of a Rook's transmit buffer went nowhere: DROPPED (R213). -/
def State.swTxDropped (s : State) (f : EthFrame) : State :=
  match f.origin with
  | none => s
  | some o => s.setSwc { s.swc with txDone := s.swc.txDone ++ [(o, false)] }

/-- A frame dropped whole: counter, mirror record, and DROPPED for a Rook's transmit buffer (R213). -/
def State.swDrop (s : State) (f : EthFrame) (reason : Nat) (cnt : Fld) : State :=
  ((s.inc cnt).mirDrop f reason).swTxDropped f

/-- Frame `id` leaves queue (`p`, `c`). -/
def State.unqueue (s : State) (p c id : Nat) : State := s.setQueue p c ((s.queue p c).filter fun i => i != id)

/-- A copy is discarded under R145: it counts IN_DROP of its ingress. -/
def State.discardCopy (s : State) (reason id : Nat) : State :=
  match s.frame id with
  | none => s
  | some f => ((s.inc (SWC_PORTp_CNT_IN_DROP f.ingress)).mirDropOnce id reason).frameRelease id

/-- Every frame queued for egress `p` is discarded (R145). -/
def State.swFlush (s : State) (p : Nat) : State :=
  let ids := (List.range 8).flatMap fun c => s.queue p c
  let s := (List.range 8).foldl (fun t c => t.setQueue p c []) s
  ids.foldl (fun t i => t.discardCopy 0x1A i) s

/-- The frame that fills a receive buffer ends early: its verdict will be ABORTED (R202). -/
def State.rxCut (s : State) (e : Nat) : State :=
  s.rookUpd (e / 2) fun r =>
    let x := r.rx (e % 2)
    if x.ended then r
    else r.setRx (e % 2) { x with bytes := x.readable s.ltNs, ended := true, aborted := true }

/-- The engine port `p` delivers nothing more of the frame it carries. -/
def State.epCut (s : State) (p : Nat) : State :=
  match mapGet (fun _ => none) s.swc.epRx p with
  | none => s
  | some e => (s.setSwc { s.swc with epRx := mapPut (fun _ => none) s.swc.epRx p none }).rxCut e

/-- Egress `p` is down: every frame queued for it is discarded, and its transmission ends (R145). -/
def State.swPortDown (s : State) (p : Nat) : State :=
  let s := (s.swFlush p).epCut p
  let txs := [s.txCur p, s.txHeld p].filterMap fun t => t.map fun c => c.frame
  let s := (s.setTx p none).setHeld p none
  txs.foldl (fun t i => t.discardCopy 0x1A i) s

/-- A frame's first byte reaches the SWC: it is tagged with the current generation (R124), and what its ingress port
asks for is taken (R93, R150). During a recovery it is dropped (R531). -/
def State.swArrive (s : State) (f : EthFrame) : State :=
  let i := f.ingress
  let f := { f with
    gen := s.swc.genAbs, born := s.ltNs, bt := s.byteTime10 i, pgen := s.swc.pgen
    ct := s.bit (SWC_PORTp_CTL_CT_EN i), tc := decide (i < 10) && s.bit (NTU_PORTp_CFG_TC_EN i) }
  if !s.domOn 6 then s
  else if s.swc.recovering then s.swDrop f 0x1A (SWC_PORTp_CNT_IN_DROP i)
  else s.setSwc { s.swc with arrived := s.swc.arrived ++ [f] }

/-! ## Tables and generations (R124 to R127) -/

def SwTables.fstAt (t : SwTables) (i : Nat) : Word × Word := mapGet (fun _ => (0, 0)) t.fst i
def SwTables.tcamAt (t : SwTables) (i : Nat) : List Word := mapGet (fun _ => []) t.tcam i
def SwTables.rlistAt (t : SwTables) (i : Nat) : Word := mapGet (fun _ => 0) t.rlist i
def SwTables.filterAt (t : SwTables) (i : Nat) : Word := mapGet (fun _ => 0) t.filter i
def SwTables.meterAt (t : SwTables) (i : Nat) : Word × Word := mapGet (fun _ => (0, 0)) t.meter i
def SwTables.gateAt (t : SwTables) (i : Nat) : Word := mapGet (fun _ => 0) t.gate i
def SwTables.frerAt (t : SwTables) (i : Nat) : Word := mapGet (fun _ => 0) t.frer i

def SwTables.setFst (t : SwTables) (i : Nat) (e : Word × Word) : SwTables :=
  { t with fst := mapPut (fun _ => (0, 0)) t.fst i e }

/-- The valid entry of the bucket whose VID and MAC equal the key (R119). -/
def SwTables.fstFind (t : SwTables) (vid mac : Nat) : Option Nat :=
  ((List.range 4).map fun w => 4 * fstBucket vid mac + w).find? fun i =>
    let e := (t.fstAt i).1
    bitsOf e 63 63 == 1 && bitsOf e 59 48 == vid && bitsOf e 47 0 == mac

/-- A change of the tables: the generation increments, and the tables it replaces stay as long as a
frame not yet decided carries an earlier generation. -/
def State.newGen (s : State) (t : SwTables) : State :=
  let w := s.swc
  let keep := if w.arrived.isEmpty then [] else w.versions ++ [(w.genAbs, w.tables)]
  (s.setSwc { w with tables := t, genAbs := w.genAbs + 1, versions := keep }).wr SWC_GEN_STAT_GEN (w.genAbs + 1)

/-- The tables of generation `g`: the current ones, or the version that held then. -/
def State.tablesAt (s : State) (g : Nat) : SwTables :=
  match s.swc.versions.find? fun v => v.1 == g with
  | none => s.swc.tables
  | some v => v.2

/-- Words are 0 from bit `hi` down to `lo`. -/
def zeroBits (w : Word) (hi lo : Nat) : Bool := bitsOf w hi lo == 0

/-- Index of a table in range (SWC_UPD_OP). -/
def updIndexOk (table i : Nat) : Bool :=
  if table == 0 then decide (i < 16384) else if table == 1 || table == 4 then decide (i < 256) else decide (i < 1024)

/-- No reserved value and no reserved field (R125). -/
def updEntryOk (table : Nat) (d : List Word) : Bool :=
  let w0 := d.getD 0 0
  let w1 := d.getD 1 0
  match table with
  | 0 => decide (bitsOf w0 61 60 < 2) && zeroBits w1 47 26
  | 1 => zeroBits (d.getD 4 0) 44 16
  | 2 => zeroBits w0 61 16
  | 3 => zeroBits w0 29 0 && (bitsOf w0 44 31 == 0 || (decide (64 ≤ bitsOf w0 44 31) && decide (bitsOf w0 44 31 ≤ 9216)))
  | 4 => zeroBits w1 19 0
  | 5 => zeroBits w0 58 32 && bitsOf w0 31 0 % 8 == 0
  | _ => zeroBits w0 38 0 && (decide (bitsOf w0 63 62 < 2)
      || (decide (2 ≤ bitsOf w0 60 55) && decide (bitsOf w0 60 55 ≤ 32) && decide (1 ≤ bitsOf w0 54 39)))

/-- Entry `i` of a table becomes `d`. -/
def SwTables.put (t : SwTables) (table i : Nat) (d : List Word) : SwTables :=
  let w0 := d.getD 0 0
  match table with
  | 0 => t.setFst i (w0, d.getD 1 0)
  | 1 => { t with tcam := mapPut (fun _ => []) t.tcam i d }
  | 2 => { t with rlist := mapPut (fun _ => 0) t.rlist i w0 }
  | 3 => { t with filter := mapPut (fun _ => 0) t.filter i w0 }
  | 4 => { t with meter := mapPut (fun _ => (0, 0)) t.meter i (w0, d.getD 1 0) }
  | 5 => { t with gate := mapPut (fun _ => 0) t.gate i w0 }
  | _ => { t with frer := mapPut (fun _ => 0) t.frer i w0 }

/-- The way an INSERT takes: the key's own, a way not VALID, the learned entry with HIT 0 and the lowest
way, else the learned entry with the lowest way (R125). -/
def SwTables.insertWay (t : SwTables) (vid mac : Nat) : Option Nat :=
  let ways := (List.range 4).map fun w => 4 * fstBucket vid mac + w
  match t.fstFind vid mac with
  | some i => some i
  | none =>
    match ways.find? fun i => bitsOf (t.fstAt i).1 63 63 == 0 with
    | some i => some i
    | none =>
      let learned := ways.filter fun i => bitsOf (t.fstAt i).1 62 62 == 0
      match learned.find? fun i => bitsOf (t.fstAt i).2 48 48 == 0 with
      | some i => some i
      | none => learned.head?

/-- Another way of the bucket that holds index `i` has a valid entry with the same key (R119). -/
def SwTables.fstTwin (t : SwTables) (i vid mac : Nat) : Bool :=
  ((List.range 4).map fun w => i / 4 * 4 + w).any fun j =>
    let e := (t.fstAt j).1
    j != i && bitsOf e 63 63 == 1 && bitsOf e 59 48 == vid && bitsOf e 47 0 == mac

/-- One staged operation: the tables after it, or its failure code (Table of SWC_GEN_STAT.RESULT). -/
def SwTables.apply (t : SwTables) (o : UpdOp) : Nat × SwTables :=
  let w0 := o.data.getD 0 0
  let key := (bitsOf w0 59 48, bitsOf w0 47 0)
  if o.op == 0 then
    if !updIndexOk o.table o.index || !updEntryOk o.table o.data then (3, t)
    else if o.table == 0 && bitsOf w0 63 63 == 1
        && t.fstTwin o.index key.1 key.2 then (3, t)
    else (0, t.put o.table o.index o.data)
  else if o.op == 1 then
    if !updIndexOk o.table o.index then (3, t) else (0, t.put o.table o.index [])
  else if o.table != 0 || !updEntryOk 0 o.data then (3, t)
  else if o.op == 2 then
    match t.insertWay key.1 key.2 with
    | none => (1, t)
    | some i => (0, t.put 0 i o.data)
  else
    match t.fstFind key.1 key.2 with
    | none => (2, t)
    | some i => (0, t.put 0 i [])

/-- The operations in order: the tables, or the position and the code of the first failure. -/
def SwTables.applyAll (t : SwTables) : List UpdOp → Nat → Nat × Nat × SwTables
  | [], _ => (0, 0, t)
  | o :: r, i =>
    let a := t.apply o
    if a.1 != 0 then (a.1, i, t) else SwTables.applyAll a.2 r (i + 1)

/-- A replication list or gate of the batch whose previous version a frame still holds (R126). -/
def State.batchHeld (s : State) : Bool :=
  s.swc.batch.any fun o =>
    (o.table == 2 && s.storedFrames.any fun f => f.rlist == some o.index
      && decide (f.gen < mapGet (fun _ => 0) s.swc.changed o.index))
    || (o.table == 5 && s.storedFrames.any fun f => f.gate == some (o.index / 16)
      && decide (f.gen < mapGet (fun _ => 0) s.swc.changed (1024 + o.index / 16)))

/-- A rewritten meter or FRER function starts anew. -/
def State.runReset (s : State) (o : UpdOp) : State :=
  let w := s.swc
  if o.table == 4 then
    let m := { MeterSt.reset with red := bitsOf (o.data.getD 1 0) 20 20 == 1 }
    s.setSwc { w with meters := mapPut (fun _ => MeterSt.reset) w.meters o.index m }
  else s.setSwc { w with frers := mapPut (fun _ => FrerSt.reset) w.frers o.index FrerSt.reset }

/-- Those rewritten up to generation `g` start anew (R124). -/
def State.resetsTo (s : State) (g : Nat) : State :=
  let due := s.swc.resets.filter fun e => decide (e.1 ≤ g)
  let s := s.setSwc { s.swc with resets := s.swc.resets.filter fun e => !decide (e.1 ≤ g) }
  due.foldl (fun t e => t.runReset e.2) s

/-- The generation at which a list, a gate or a filter changed, and the meters and FRER functions that start anew: at
once while no frame waits for its decision, otherwise with the first frame of the new generation. -/
def State.opReset (s : State) (o : UpdOp) : State :=
  let w := s.swc
  let g := w.genAbs + 1
  if o.table == 2 then s.setSwc { w with changed := mapPut (fun _ => 0) w.changed o.index g }
  else if o.table == 5 then s.setSwc { w with changed := mapPut (fun _ => 0) w.changed (1024 + o.index / 16) g }
  else if o.table == 4 || o.table == 6 then
    (if w.arrived.isEmpty then s.runReset o else s.setSwc { w with resets := w.resets ++ [(g, o)] })
  else s

/-- The stream filters that a batch writes have a new life from generation `g` on (R129). -/
def SwTables.stampFilters (t : SwTables) (g : Nat) (b : List UpdOp) : SwTables :=
  { t with fgen := (b.filter fun o => o.table == 3).foldl (fun m o => mapPut (fun _ => 0) m o.index g) t.fgen }

/-- BLOCKED of stream filter `n` in tables `t` (R129). -/
def State.sfBlocked (s : State) (t : SwTables) (n : Nat) : Bool :=
  bitsOf (t.filterAt n) 61 61 == 1 || s.swc.blocked.contains (n, mapGet (fun _ => 0) t.fgen n)

/-- MARK_RED of flow meter `k` in the current generation (R131). -/
def State.meterRed (s : State) (k : Nat) : Bool :=
  if s.swc.resets.any fun e => e.2.table == 4 && e.2.index == k then bitsOf (s.swc.tables.meterAt k).2 20 20 == 1
  else (mapGet (fun _ => MeterSt.reset) s.swc.meters k).red

/-- COMMIT: check, and then apply whole or fail whole (R125). -/
def State.swCommit (s : State) : State :=
  let r := s.swc.tables.applyAll s.swc.batch 0
  let clear := fun (s : State) => (((s.setSwc { s.swc with batch := [] }).wr SWC_GEN_STAT_STAGED 0).wrB
    SWC_GEN_STAT_HOLD_WAIT false).wrB SWC_GEN_STAT_BUSY false
  if r.1 != 0 then
    (((clear s).wrB SWC_GEN_STAT_FAIL true).wr SWC_GEN_STAT_RESULT r.1).wr SWC_GEN_STAT_FAIL_INDEX r.2.1
  else if s.batchHeld then (s.wrB SWC_GEN_STAT_HOLD_WAIT true).wrB SWC_GEN_STAT_BUSY true
  else
    let t := s.swc.batch.foldl (fun t o => t.opReset o) s
    let t := clear (t.newGen (r.2.2.stampFilters (s.swc.genAbs + 1) s.swc.batch))
    (t.wr SWC_GEN_STAT_RESULT 0).wrB SWC_GEN_STAT_DONE true

/-- SWC_COMMIT (R125): a COMMIT that already waits is not repeated. -/
def execSwcCommit (s : State) : Host.Outcome State Fault Refusal :=
  .next (if !s.domOn 6 || s.bit SWC_GEN_STAT_BUSY then s else s.swCommit)

/-- COMMIT_HOLD_RELEASE (R126): a waiting COMMIT proceeds once no previous version is held. -/
def execCommitHoldRelease (s : State) : Host.Outcome State Fault Refusal :=
  .next (if s.domOn 6 && s.bit SWC_GEN_STAT_HOLD_WAIT then s.swCommit else s)

/-- ABORT discards the staged batch (R125). -/
def State.swAbort (s : State) : State :=
  (((s.setSwc { s.swc with batch := [] }).wr SWC_GEN_STAT_STAGED 0).wrB SWC_GEN_STAT_HOLD_WAIT false).wrB
    SWC_GEN_STAT_BUSY false

/-- SWC_ABORT (R125). -/
def execSwcAbort (s : State) : Host.Outcome State Fault Refusal :=
  .next (if s.domOn 6 then s.swAbort else s)

/-- The five data words of the update window. -/
def State.updData (s : State) : List Word := (List.range 5).map fun k => s.reg (SWC_UPD_DATAk k)

/-- Words that an entry of a table has. -/
def updWords (table : Nat) : Nat := if table == 0 || table == 4 then 2 else if table == 1 then 5 else 1

/-- An operation with OP = READ: the entry as it stands in the current generation (R127). -/
def State.updRead (s : State) (table i : Nat) : State :=
  if !updIndexOk table i then (s.wrB SWC_GEN_STAT_FAIL true).wr SWC_GEN_STAT_RESULT 3
  else
    let t := s.swc.tables
    let d : List Word := match table with
      | 0 => [(t.fstAt i).1, (t.fstAt i).2]
      | 1 => t.tcamAt i
      | 2 => [t.rlistAt i]
      | 3 => [putBits (t.filterAt i) 61 61 (b2n (s.sfBlocked t i))]
      | 4 => [(t.meterAt i).1, putBits (t.meterAt i).2 20 20 (b2n (s.meterRed i))]
      | 5 => [t.gateAt i]
      | _ => [t.frerAt i]
    (List.range 5).foldl (fun u k => u.setReg (SWC_UPD_DATAk k) (d.getD k 0)) s

/-- A write of SWC_UPD_OP (R125, R127, R150): a reserved TABLE or OP is refused. -/
def State.updOp (s : State) (table op index : Nat) : State :=
  if decide (6 < table) || !(decide (op < 4) || op == 8) then s.cfgErr SWC_UPD_OP
  else if op == 8 then s.updRead table index
  else if decide (64 ≤ s.swc.batch.length) then (s.wrB SWC_GEN_STAT_FAIL true).wr SWC_GEN_STAT_RESULT 4
  else
    let o : UpdOp := ⟨table, op, index, s.updData.take (updWords table)⟩
    let s := s.setSwc { s.swc with batch := s.swc.batch ++ [o] }
    s.wr SWC_GEN_STAT_STAGED s.swc.batch.length

/-- UPD_OP (R125): one staged operation. -/
def execUpdOp (table : BitVec 4) (op : BitVec 4) (index : BitVec 14) (s : State) :
    Host.Outcome State Fault Refusal :=
  .next (if s.domOn 6 then s.updOp table.toNat op.toNat index.toNat else s)

/-- UPD_READ (R127). -/
def execUpdRead (table : BitVec 4) (index : BitVec 14) (s : State) : Host.Outcome State Fault Refusal :=
  .next (if s.domOn 6 then s.updOp table.toNat 8 index.toNat else s)

/-- MIR_CONS_WRITE (R146). -/
def execMirConsWrite (count : BitVec 32) (s : State) : Host.Outcome State Fault Refusal :=
  .next (if s.domOn 6 then s.mirCons count.toNat else s)

/-! ## Learning and aging (R122) -/

/-- The bit of an FST entry's HIT. -/
def hitBit : Nat := 48

/-- The source address of a good frame is learned, moved or hit. At most one address per µs is learned. A new entry
starts with HIT 1, since the frame that made it matched it (DESIGN CHOICE, log 89). -/
def State.learn (s : State) (g ingress vid sa : Nat) : State :=
  if s.portRd g (SWC_PORTp_CTL_LEARN_EN ingress) == 0 || bitAt sa 40 then s
  else
    let t := s.swc.tables
    let slow := match s.swc.learnAt with
      | none => true
      | some l => decide (l + 1000 ≤ s.ltNs)
    let learned := fun (i : Nat) (e : Word × Word) =>
      let u := s.setSwc { s.swc with learnAt := some s.ltNs }
      u.newGen (t.setFst i e)
    match t.fstFind vid sa with
    | some i =>
      let e := t.fstAt i
      let hit := putBits e.2 hitBit hitBit 1
      if bitsOf e.1 62 62 == 0 && bitsOf e.2 15 0 != 2 ^ ingress && slow then
        learned i (e.1, putBits hit 15 0 (2 ^ ingress))
      else s.setSwc { s.swc with tables := t.setFst i (e.1, hit) }
    | none =>
      let ways := (List.range 4).map fun w => 4 * fstBucket vid sa + w
      match ways.find? fun i => bitsOf (t.fstAt i).1 63 63 == 0 with
      | none => s
      | some i =>
        if !slow then s
        else learned i (BitVec.ofNat 64 (2 ^ 63 + vid % 4096 * 2 ^ 48 + sa % 2 ^ 48), BitVec.ofNat 64 (2 ^ 48 + 2 ^ ingress))

/-- One entry of the aging sweep. -/
def State.ageEntry (s : State) (e : Nat × (Word × Word)) : State :=
  if bitsOf e.2.1 63 63 == 0 then s
  else if bitsOf e.2.1 62 62 == 0 && bitsOf e.2.2 48 48 == 0 then s.newGen (s.swc.tables.setFst e.1 (0, 0))
  else s.setSwc { s.swc with tables := s.swc.tables.setFst e.1 (e.2.1, putBits e.2.2 48 48 0) }

/-- The sweep of every entry, at the present time. -/
def State.ageAll (s : State) : State :=
  let s := s.setSwc { s.swc with ageAt := s.ltNs }
  s.swc.tables.fst.foldl (fun t e => t.ageEntry e) s

/-- AGING_SWEEP (R122): AGE_S seconds after the latest sweep, non-STATIC entries with HIT 0 leave and HIT clears in the
others; AGE_S = 0 disables aging. -/
def execAgingSweep (s : State) : Host.Outcome State Fault Refusal :=
  .next (if !s.domOn 6 || s.rd SWC_GEN_CTL_AGE_S == 0 then s
    else (s.advanceTo ((s.swc.ageAt + s.rd SWC_GEN_CTL_AGE_S * 1000000000) * nsU)).ageAll)

/-! ## Gate control lists (R134 to R136) -/

def State.gclWord (s : State) (p i : Nat) : Word := mapGet (fun _ => 0) s.swc.gcl (1024 * p + i)
def State.gclLen (s : State) (p : Nat) : Nat := s.rd (SWC_PORTp_GCL_CTL_ACTIVE_LEN p)
def State.gclIdx (s : State) (p : Nat) : Nat := mapGet (fun _ => 0) s.swc.gclPos p
def State.setGclIdx (s : State) (p i : Nat) : State :=
  s.setSwc { s.swc with gclPos := mapPut (fun _ => 0) s.swc.gclPos p i }

/-- The active list of port `p` runs. -/
def State.gclRuns (s : State) (p : Nat) : Bool :=
  s.cycLive && s.bit (SWC_PORTp_GCL_CTL_ACTIVE_EN p) && s.gclLen p != 0

/-- Offset from the boundary at which entry `i` starts. -/
def State.gclStart (s : State) (p i : Nat) : Nat :=
  sumNat ((List.range i).map fun j => bitsOf (s.gclWord p j) 31 0)

/-- The gate of class `c` in entry `i`. -/
def State.gclOpen (s : State) (p i c : Nat) : Bool := bitAt (bitsOf (s.gclWord p i) 55 48) c

/-- The gate of class `c` on port `p` is open now (R135). -/
def State.gateOpen (s : State) (p c : Nat) : Bool :=
  if s.mode == 5 && (c == 7 || c == 2) then false
  else if s.gclRuns p then s.gclOpen p (s.gclIdx p) c else true

/-- Times to a gate's close count in units of 10^−7 ns, in which the bound of R79 is a whole number. -/
def unit7 : Nat := 10000000

/-- Time by which R136 counts the last entry shorter, in 10^−7 ns: the bound of R79 at 250 ppm where SRC names a
domain. -/
def State.gclSlack (s : State) : Nat :=
  let a := s.ntu.cyc.act
  if a.src != 0 then 4 * unit7 + a.len * (2500 + s.rd NTU_CAST_CTL_SLEW)
  else if a.pullEn then 8 * a.slewMax * unit7 else 0

/-- Start of the first entry from `i` on, below `n`, in which class `c` is closed. -/
def State.gclCloses (s : State) (p c i : Nat) : Nat → Option Nat
  | 0 => none
  | n + 1 => if s.gclOpen p i c then s.gclCloses p c (i + 1) n else some (s.gclStart p i)

/-- ns since the latest boundary took effect. -/
def State.cycNow (s : State) : Nat := (s.ntu.lt - s.ntu.cyc.edge) / nsU

/-- Time since the latest boundary took effect, in 10^−7 ns rounded up. -/
def State.cycNow7 (s : State) : Nat := ((s.ntu.lt - s.ntu.cyc.edge) * unit7 + nsU - 1) / nsU

/-- Time in 10^−7 ns until the open gate of class `c` next closes, across entries and across the boundary;
none while it never closes (R136). -/
def State.gateLeft (s : State) (p c : Nat) : Option Nat :=
  if !s.gclRuns p then none
  else
    let i := s.gclIdx p
    let n := s.gclLen p
    let later := (s.gclCloses p c 0 n).map fun u => s.cycLen * unit7 - s.gclSlack - s.cycNow7 + u * unit7
    match s.gclCloses p c (i + 1) (n - (i + 1)) with
    | some t => if t < s.cycLen then some (t * unit7 - s.cycNow7) else later
    | none => later

/-- Preemption is active on the port and the class is preemptable (R139). -/
def State.preemptable (s : State) (p c : Nat) : Bool :=
  s.bit (SWC_PORTp_PRE_ACTIVE p) && bitAt (s.rd (SWC_PORTp_PRE_PREEMPTABLE p)) c

/-- The guard of R136 for a frame of `len` bytes. -/
def State.guardOk (s : State) (p c len : Nat) : Bool :=
  let l := if s.preemptable p c then (s.rd (EPC_PORTp_CTL_ADD_FRAG_SIZE p) + 1) * 64 else len
  match s.gateLeft p c with
  | none => true
  | some t => decide ((l + 20) * s.byteTime10 p * (unit7 / 10) ≤ t)

/-- The shadow entries of port `p` pass the checks of R134. -/
def State.gclOk (s : State) (p : Nat) : Bool :=
  let n := s.rd (SWC_PORTp_GCL_CTL_LEN p)
  decide (1 ≤ n) && decide (n ≤ 1024) && (List.range n).all fun i =>
    let w := s.reg (SWC_GCLp p i)
    bitsOf w 31 0 != 0 && bitsOf w 31 0 % 8 == 0 && decide (bitsOf w 63 61 < 3)

/-- A write of 1 to APPLY (R134). -/
def State.gclApply (s : State) (p : Nat) : State :=
  if s.bit (SWC_PORTp_GCL_CTL_APPLY_PENDING p) then s.cfgErr (SWC_PORTp_GCL_CTL p)
  else if s.gclOk p then s.wrB (SWC_PORTp_GCL_CTL_APPLY_PENDING p) true
  else s.wrB (SWC_PORTp_GCL_CTL_APPLY_REFUSED p) true

/-- GCL_APPLY (R134). -/
def execGclApply (p : Fin 16) (s : State) : Host.Outcome State Fault Refusal :=
  .next (if s.domOn 6 then s.gclApply p else s)

/-- Set-And-Hold-MAC and Set-And-Release-MAC of the entry in force (R139). -/
def State.gclHold (s : State) (p : Nat) : State :=
  let op := bitsOf (s.gclWord p (s.gclIdx p)) 63 61
  if !s.bit (SWC_PORTp_PRE_ACTIVE p) then s.wrB (SWC_PORTp_PRE_HOLD p) false
  else if op == 1 then s.wrB (SWC_PORTp_PRE_HOLD p) true
  else if op == 2 then s.wrB (SWC_PORTp_PRE_HOLD p) false
  else s

/-- A boundary: an armed bank swaps in whole and the list restarts (R134, R135). -/
def State.gclBoundary (s : State) (p : Nat) : State :=
  let s := if !s.bit (SWC_PORTp_GCL_CTL_APPLY_PENDING p) then s
    else
      let n := s.rd (SWC_PORTp_GCL_CTL_LEN p)
      let bank := (List.range n).foldl (fun m i => mapPut (fun _ => 0) m (1024 * p + i) (s.reg (SWC_GCLp p i)))
        (s.swc.gcl.filter fun e => e.1 / 1024 != p)
      let s := s.setSwc { s.swc with gcl := bank }
      ((s.wr (SWC_PORTp_GCL_CTL_ACTIVE_LEN p) n).wrB (SWC_PORTp_GCL_CTL_ACTIVE_EN p)
        (s.bit (SWC_PORTp_GCL_CTL_EN p))).wrB (SWC_PORTp_GCL_CTL_APPLY_PENDING p) false
  let s := s.setGclIdx p 0
  if s.gclRuns p then s.gclHold p else s.wrB (SWC_PORTp_PRE_HOLD p) false

/-! ## Credit-based shaper (R138) -/

def State.credit (s : State) (p c : Nat) : Int := mapGet (fun _ => 0) s.swc.credit (8 * p + c)

/-- idleSlope of STREAM_A (5) or STREAM_B (4) in kbit/s. -/
def State.idleSlope (s : State) (p c : Nat) : Nat :=
  if c == 5 then s.rd (SWC_PORTp_QAV_IDLE5 p) else s.rd (SWC_PORTp_QAV_IDLE4 p)

/-- The rate of port `p` in kbit/s. -/
def State.portRate (s : State) (p : Nat) : Nat :=
  if s.byteTime10 p == 0 then 0 else 80000000 / s.byteTime10 p

/-- The credit of one class brought up to now: it is frozen while the gate is closed or the port is paused, falls at
sendSlope while a frame of the class is sent, rises at idleSlope while one waits or the credit is negative, and a
positive credit resets to 0 when the queue empties. -/
def State.creditClass (s : State) (p c : Nat) : State :=
  let dt := s.ltNs - mapGet (fun _ => 0) s.swc.creditAt (8 * p + c)
  let idle := s.idleSlope p c
  let cr := s.credit p c
  let sending := match s.txCur p with | none => false | some t => t.cls == c
  let empty := (s.queue p c).isEmpty
  let cr' : Int :=
    if idle == 0 then 0
    else if !s.gateOpen p c || (decide (p < 10) && s.bit (EPC_PORTp_STAT_PAUSED p)) then cr
    else if sending then cr + ((idle : Int) - s.portRate p) * dt
    else if empty then (if 0 ≤ cr then 0 else min 0 (cr + (idle : Int) * dt))
    else cr + (idle : Int) * dt
  let w := s.swc
  s.setSwc { w with credit := mapPut (fun _ => 0) w.credit (8 * p + c) cr'
                    creditAt := mapPut (fun _ => 0) w.creditAt (8 * p + c) s.ltNs }

/-- Both shaped classes of port `p`. -/
def State.creditPort (s : State) (p : Nat) : State := (s.creditClass p 4).creditClass p 5

def State.creditOk (s : State) (p c : Nat) : Bool :=
  !(c == 4 || c == 5) || s.idleSlope p c == 0 || decide (0 ≤ s.credit p c)

/-- A preemptable frame in transmission whose gate has closed, or that is held, is preempted and resumes later
(R136, R139). -/
def State.preemptNow (s : State) (p : Nat) : State :=
  match s.txCur p with
  | none => s
  | some t =>
    if s.preemptable p t.cls && (s.txHeld p).isNone && (!s.gateOpen p t.cls || s.bit (SWC_PORTp_PRE_HOLD p)) then
      (s.setHeld p (some t)).setTx p none
    else s

/-- GCL_ENTRY_ADVANCE (R135): the interval of the entry in force runs out. The last entry holds, and an
entry that would start at or after the boundary does not occur. -/
def execGclEntryAdvance (p : Fin 16) (s : State) : Host.Outcome State Fault Refusal :=
  let i := s.gclIdx p + 1
  let t := s.ntu.cyc.edge + s.gclStart p i * nsU
  if !s.domOn 6 || !s.gclRuns p || decide (s.gclLen p ≤ i) || decide (s.nextNominal ≤ t) then .next s
  else
    let s := (s.advanceTo t).creditPort p
    .next (((s.setGclIdx p i).gclHold p).preemptNow p)

/-! ## Stream gates (R130) -/

/-- INTERVAL of entry `i` of stream gate `g`. -/
def SwTables.sgInterval (t : SwTables) (g i : Nat) : Nat := bitsOf (t.gateAt (16 * g + i)) 31 0

/-- The entry of stream gate `g` in force `off` ns after entry `i` began; an entry with INTERVAL 0 ends the list. -/
def SwTables.sgWalk (t : SwTables) (g : Nat) : Nat → Nat → Nat → Nat
  | 0, i, _ => i
  | n + 1, i, off =>
    let v := t.sgInterval g i
    if v == 0 || decide (off < v) || t.sgInterval g (i + 1) == 0 then i else t.sgWalk g n (i + 1) (off - v)

/-- The entry of stream gate `g` of tables `t` in force now: the list restarts at every boundary. -/
def State.sgIdx (s : State) (t : SwTables) (g : Nat) : Nat := if s.cycLive then t.sgWalk g 15 0 s.cycNow else 0

/-- STREAM_GATE_ADVANCE (R130): time runs to where the next entry of stream gate `g` takes effect. -/
def execStreamGateAdvance (g : Fin 64) (s : State) : Host.Outcome State Fault Refusal :=
  let t := s.swc.tables
  let i := s.sgIdx t g
  let at_ := s.ntu.cyc.edge + sumNat ((List.range (i + 1)).map fun j => t.sgInterval g j) * nsU
  if !s.domOn 6 || !s.cycLive || decide (15 ≤ i) || t.sgInterval g i == 0 || t.sgInterval g (i + 1) == 0
      || decide (s.nextNominal ≤ at_) then .next s
  else .next (s.advanceTo at_)

/-- The SWC's part of a boundary: every gate list restarts. -/
def State.swcBoundary (s : State) : State :=
  (List.range 16).foldl (fun t p => ((t.creditPort p).gclBoundary p).preemptNow p) s

end Sys2Proof.Machine
end

