-- ==== Sys2Proof/Machine/SwcIngress.lean ====
section
/-! DEFINITION. The switch core's decision for a frame (R114 to R123), per-stream filtering and policing
(R129 to R131), FRER (R132), placing of copies (R137, R140, R141, R143). -/

namespace Sys2Proof.Machine

/-! ## The decision (R114 to R121) -/

/-- What the decision gives. `drop` is a mirror reason when the frame is dropped outright. -/
structure SwDecision where
  cls : Nat
  ports : Nat
  stream : Option Nat
  tcam : Option Nat
  rlist : Option Nat
  mirror : Bool
  drop : Option Nat
deriving DecidableEq, Repr

/-- The lowest TCAM entry that matches a key (R116). -/
def SwTables.tcamFind (t : SwTables) (key : Nat) : Option (Nat × Word) :=
  (t.tcam.find? fun e =>
    let w := fun k => (e.2.getD k 0).toNat
    let k128 := w 1 * 2 ^ 64 + w 0
    let m128 := w 3 * 2 ^ 64 + w 2
    (key ^^^ k128) &&& m128 == 0 && bitsOf (e.2.getD 4 0) 63 63 == 1).map fun e => (e.1, e.2.getD 4 0)

/-- 01-80-C2-00-00-0n. -/
def reservedDa (da : Nat) : Bool := da / 16 == 0x0180C200000

/-- The fixed traps of Table R115: the class, for a frame sent to MP only. The row of PTP concerns external ports,
whose TC_EN it names, and MP's own frames meet no trap, which would leave them no egress (DEDUCED, log 28). -/
def swTrap (l : List Byte) (mp external tcEn : Bool) : Option Nat :=
  if mp then none
  else if frDa l == 0x0180C200000E || (external && (ptpPos l).isSome && !tcEn) then some 3
  else if reservedDa (frDa l) && !((ptpPos l).isSome && tcEn) then some 1
  else none

/-- The fixed default class of Table R115. -/
def swDefault (l : List Byte) : Option Nat :=
  if (ptpPos l).isSome then some 3
  else if etherType l == 0x88B6 then some 1
  else if etherType l == 0x88B5 then some 6
  else none

/-- The decision of R114, steps 1 to 7 but for the ingress port's removal from the mask. A TCAM COPY on an unknown
destination adds its ports to the flood of MGMT and BE, and alone carries a frame of another class, which UNKNOWN_DROP
does not count then (DESIGN CHOICE, log 89). -/
def State.swDecide (s : State) (t : SwTables) (f : EthFrame) : SwDecision :=
  let i := f.ingress
  let vid := frVid f.bytes (s.portRd f.pgen (SWC_PORTp_CTL_PVID i))
  let pcp := frPcp f.bytes (s.portRd f.pgen (SWC_PORTp_CTL_DEF_PCP i))
  match swTrap f.bytes (i == 15) f.external f.tc with
  | some c => ⟨c, 2 ^ 15, none, none, none, false, none⟩
  | none =>
    let hit := t.tcamFind (frameKey f.bytes i vid pcp (s.rd SWC_TCAM_CFG_P_OFFSET))
    let act : Word := match hit with | none => 0 | some h => h.2
    let fst := t.fstFind vid (frDa f.bytes)
    let fw : Word × Word := match fst with | none => (0, 0) | some j => t.fstAt j
    let cls := if bitsOf act 60 60 == 1 then bitsOf act 59 57
      else if fst.isSome && bitsOf fw.2 52 52 == 1 then bitsOf fw.2 51 49
      else match swDefault f.bytes with
        | some c => c
        | none => s.portRd f.pgen (SWC_PORTp_PCPMAP_MAP i) / 2 ^ (4 * pcp) % 8
    let op := bitsOf act 62 61
    let isList := fst.isSome && bitsOf fw.1 61 60 == 1
    let rl := if isList && op != 2 then some (bitsOf fw.2 25 16) else none
    let lw := t.rlistAt (bitsOf fw.2 25 16)
    let flood := cls == 1 || cls == 0
    let base := if op == 2 then bitsOf act 15 0
      else if isList then (if bitsOf lw 63 63 == 1 then bitsOf lw 15 0 else 0)
      else if fst.isSome then bitsOf fw.2 15 0
      else if flood then s.portRd f.pgen (SWC_PORTp_CTL_FLOOD i) else 0
    let ports := if op == 3 then base ||| bitsOf act 15 0 else base
    let stream := if bitsOf act 56 56 == 1 then some (bitsOf act 55 46)
      else if fst.isSome && bitsOf fw.2 63 63 == 1 then some (bitsOf fw.2 62 53) else none
    let drop := if op == 1 then some 0x17
      else if fst.isNone && op == 0 && !flood then some 0x18 else none
    ⟨cls, ports, stream, hit.map fun h => h.1, rl, bitsOf act 45 45 == 1, drop⟩

/-- May a frame of class `c` go from port `i` to port `e` in this mode (Table R123)? -/
def State.swFilter (s : State) (i e c : Nat) : Bool :=
  let ext := fun p => decide (p < 10)
  let step := fun p => decide (p < 10) && (s.epcPort p).stepOn
  let m := s.mode
  let deg := fun p => p == 15 || p == s.rd SYSCTL_MODE_CFG_DEG_PORT0 || p == s.rd SYSCTL_MODE_CFG_DEG_PORT1
  if m == 3 && c != 1 then false
  else if m == 0xB && ((ext i && ext e) || (ext i && e == 15 && c != 1)
      || ((i == 8 || i == 9 || e == 8 || e == 9) && c != 1) || decide (e < 8)) then false
  else if m == 8 && !(deg i && deg e && (c == 1 || c == 6)) then false
  else if (step i || step e) && c != 1 then false
  else true

/-! ## Per-stream filtering and policing (R129 to R131) -/

/-- Flow meter `k`: is a frame of `len` bytes red, and is it dropped, as red or as yellow (R131)? -/
def State.meterRun (s : State) (w : Word × Word) (k len : Nat) : (Bool × Bool) × State :=
  let u := 8000000
  let m := mapGet (fun _ => MeterSt.reset) s.swc.meters k
  let cbs := bitsOf w.2 63 44 * u
  let ebs := bitsOf w.2 43 24 * u
  let dt := s.ltNs - m.last
  let bcAll := if m.full then cbs else m.bc + bitsOf w.1 63 32 * dt
  let past := bcAll - cbs
  let bc := min bcAll cbs
  let be := if m.full then ebs
    else min ebs (m.be + bitsOf w.1 31 0 * dt + (if bitsOf w.2 23 23 == 1 then past else 0))
  let need := len * u
  let marked := bitsOf w.2 21 21 == 1 && m.red
  let put := fun (m' : MeterSt) => s.setSwc { s.swc with meters := mapPut (fun _ => MeterSt.reset) s.swc.meters k m' }
  if marked then ((true, true), put { m with bc := bc, be := be, last := s.ltNs, full := false })
  else if decide (need ≤ bc) then ((false, false), put ⟨bc - need, be, s.ltNs, false, m.red⟩)
  else if decide (need ≤ be) then ((false, bitsOf w.2 22 22 == 1), put ⟨bc, be - need, s.ltNs, false, m.red⟩)
  else ((true, true), put ⟨bc, be, s.ltNs, false, m.red || bitsOf w.2 21 21 == 1⟩)

/-- Entry in force of stream gate `g` under tables `t`. -/
def State.sgWord (s : State) (t : SwTables) (g : Nat) : Word := t.gateAt (16 * g + s.sgIdx t g)

/-- Stream filter of handle `n` (R129): the mirror reason of a drop, the class after the gate's IPV, the
gate, and the state. -/
def State.streamFilter (s : State) (t : SwTables) (n cls len : Nat) : Option Nat × Nat × Option Nat × State :=
  let w := t.filterAt n
  if bitsOf w 63 63 == 0 then (none, cls, none, s)
  else if s.sfBlocked t n then (some 0x14, cls, none, s.inc SWC_CNT1_QCI_SDU)
  else if bitsOf w 44 31 != 0 && decide (bitsOf w 44 31 < len) then
    let s := s.inc SWC_CNT1_QCI_SDU
    (some 0x14, cls, none,
      if bitsOf w 62 62 == 1 then
        s.setSwc { s.swc with blocked := (n, mapGet (fun _ => 0) t.fgen n) :: s.swc.blocked }
      else s)
  else
    let gate := if bitsOf w 60 60 == 1 then some (bitsOf w 59 54) else none
    let gw : Word := match gate with | none => 0 | some g => s.sgWord t g
    if gate.isSome && bitsOf gw 63 63 == 0 then (some 0x15, cls, gate, s.inc SWC_CNT1_QCI_GATE)
    else
      let cls := if gate.isSome && bitsOf gw 62 62 == 1 then bitsOf gw 61 59 else cls
      if bitsOf w 53 53 == 1 then
        let r := s.meterRun (t.meterAt (bitsOf w 52 45)) (bitsOf w 52 45) len
        (if r.1.2 then some 0x16 else none, cls, gate, if r.1.1 then r.2.inc SWC_CNT1_METER_RED else r.2)
      else (none, cls, gate, s)

/-! ## FRER (R132) -/

/-- Recovery: is a frame of sequence number `q` accepted? The vector algorithm keeps a history of `h`
numbers, the match algorithm compares with the last one accepted (IEEE 802.1CB; PRESUMED, log 32). -/
def frerRecover (vector : Bool) (h q now : Nat) (r : FrerSt) : Bool × FrerSt :=
  let fresh := { r with recov := q, hist := true :: List.replicate (h - 1) false, takeAny := false, last := now }
  if r.takeAny then (true, fresh)
  else if !vector then (if q == r.recov then (false, r) else (true, { r with recov := q, last := now }))
  else
    let d : Int := signed 16 ((q + 65536 - r.recov) % 65536)
    if (h : Int) ≤ d ∨ d ≤ -(h : Int) then (false, r)
    else if d ≤ 0 then
      let i := d.natAbs
      if r.hist.getD i false then (false, r)
      else (true, { r with hist := r.hist.set i true, last := now })
    else
      (true, { r with
        recov := q
        hist := (true :: (List.replicate (d.toNat - 1) false ++ r.hist)).take h
        last := now })

/-- FRER function `n` on a frame (R132): eliminated, the bytes after it, the sequence number generated. -/
def State.frerRun (s : State) (t : SwTables) (n : Nat) (bytes : List Byte) : Bool × List Byte × Option Nat × State :=
  let w := t.frerAt n
  let fn := bitsOf w 63 62
  let r := mapGet (fun _ => FrerSt.reset) s.swc.frers n
  let put := fun (r' : FrerSt) => s.setSwc { s.swc with frers := mapPut (fun _ => FrerSt.reset) s.swc.frers n r' }
  if fn == 0 then (false, bytes, none, s)
  else if fn == 1 then (false, bytes, some r.next, put { r with next := (r.next + 1) % 65536 })
  else if !hasRtag bytes then (false, bytes, none, s)
  else
    let a := frerRecover (fn == 2) (bitsOf w 60 55) (beAt bytes (etOff bytes + 4) 2) s.ltNs r
    if a.1 then (false, if bitsOf w 61 61 == 1 then stripRtag bytes else bytes, none, put a.2)
    else (true, bytes, none, (put a.2).inc SWC_CNT1_FRER_ELIM)

/-- FRER_RECOVERY_RESET (R132): no frame of the stream was accepted for RESET_MS ms. -/
def execFrerRecoveryReset (f : Fin 1024) (s : State) : Host.Outcome State Fault Refusal :=
  let w := s.swc.tables.frerAt f
  let r := mapGet (fun _ => FrerSt.reset) s.swc.frers f
  if !s.domOn 6 || decide (bitsOf w 63 62 < 2) || r.takeAny then .next s
  else
    let s := s.advanceTo ((r.last + bitsOf w 54 39 * 1000000) * nsU)
    let r := { r with takeAny := true, hist := [] }
    .next (s.setSwc { s.swc with frers := mapPut (fun _ => FrerSt.reset) s.swc.frers f r })

/-! ## Placing the copies (R137, R140, R141, R143) -/

/-- Transmission on `p` may start: up, not paused, no transmitter of a field port in SERVICE (R63). -/
def State.txAllowed (s : State) (p : Nat) : Bool :=
  s.swPortUp p && !(decide (p < 10) && s.bit (EPC_PORTp_STAT_PAUSED p)) && !(s.mode == 0xB && decide (p < 8))

/-- The length that the guard of R136 takes: the frame's own once all of it has arrived, otherwise MAXSDU of its
class. -/
def State.guardLen (s : State) (p : Nat) (f : EthFrame) : Nat :=
  if decide (f.arriveAt f.len ≤ s.ltNs) then f.len else s.maxSdu f.pgen p f.cls

/-- A frame may start on port `p`: all of it is there, or it goes cut-through there (R143). -/
def State.frameHere (s : State) (p : Nat) (f : EthFrame) : Bool :=
  decide (f.arriveAt f.len ≤ s.ltNs) || bitAt f.ctPorts p

/-- The head of queue (`p`, `c`) meets the conditions of R133. -/
def State.classReady (s : State) (p c : Nat) : Bool :=
  match (s.queue p c).head? with
  | none => false
  | some id =>
    match s.frame id with
    | none => false
    | some f => s.frameHere p f && s.txAllowed p && s.gateOpen p c && s.guardOk p c (s.guardLen p f) && s.creditOk p c
        && !(s.preemptable p c && s.bit (SWC_PORTp_PRE_HOLD p))

/-- Cells that wait in queue (`p`, `c`). -/
def State.queueCells (s : State) (p c : Nat) : Nat :=
  sumNat ((s.queue p c).map fun i => match s.frame i with | none => 0 | some f => f.res + f.pool)

/-- OFF of a domain at LT `at_` ns, in units of 2^−16 ns. -/
def State.off16 (s : State) (x at_ : Nat) : Int :=
  ((s.td x).off + ((at_ * nsU : Nat) - (s.ntu.lt : Int)) * s.offStep x / s.ltStep).fdiv 65536

/-- LT in ns at which the MAC of port `p` starts a frame given to it now: THR × 64 bytes of it, or all of it, are in the
transmit FIFO (R103), and ONESTEP_EN holds the first 64 bytes (R86). -/
def State.macStart (s : State) (p : Nat) (f : EthFrame) : Nat :=
  if decide (10 ≤ p) then s.ltNs
  else max s.ltNs (f.arriveAt (64 * s.rd (EPC_PORTp_TXTHR_THR p)))
    + (if s.bit (NTU_PORTp_CFG_ONESTEP_EN p) then 64 * s.byteTime10 p / 10 else 0)

/-- Port `p` takes a frame for transmission. -/
def State.txOpen (s : State) (p id : Nat) (f : EthFrame) (stomp : Bool) : TxCur :=
  let n := s.macStart p f
  let w := fun (a : Nat) => if decide (p < 10) then s.reg a else 0
  ⟨id, f.cls, stomp, n, w (NTU_PORTp_CFG p), w (NTU_PORTp_LAT p), w (NTU_PORTp_ASYM p),
    s.off16 (bitsOf (w (NTU_PORTp_CFG p)) 3 3) n⟩

/-- A higher class than `c` is ready on port `p`. -/
def State.higherReady (s : State) (p c : Nat) : Bool := (List.range 8).any fun d => decide (c < d) && s.classReady p d

/-- The transmitter of port `p` can take a frame of class `c`: it is idle, or the frame preempts the one it sends; a
preempted frame comes before every other preemptable one (R133, R144). -/
def State.txFree (s : State) (p c : Nat) : Bool :=
  match s.txCur p with
  | some t => !s.preemptable p c && s.preemptable p t.cls && (s.txHeld p).isNone
  | none => (s.txHeld p).isNone || !s.preemptable p c

/-- The conditions of R143 for frame `f` on egress `p`: it could start there at once. -/
def State.canCut (s : State) (p : Nat) (f : EthFrame) : Bool :=
  f.ct && decide (p < 14) && (s.queue p f.cls).isEmpty && s.txFree p f.cls && s.txAllowed p && s.gateOpen p f.cls
    && s.guardOk p f.cls (s.guardLen p f) && s.creditOk p f.cls && !s.higherReady p f.cls
    && !(s.preemptable p f.cls && s.bit (SWC_PORTp_PRE_HOLD p))

/-- It starts there; a preemptable frame in transmission yields. -/
def State.cutStart (s : State) (id p : Nat) (f : EthFrame) : State :=
  let s := match s.txCur p with
    | none => s
    | some t => s.setHeld p (some t)
  s.setTx p (some (s.txOpen p id f f.bad))

/-- A copy on its egress (R141, R143). One that can go cut-through starts at once; on an engine port, whose dispatch
takes it from its queue, it is marked. Otherwise it is queued, or discarded where the frame turns out bad. -/
def State.enqueueCopy (s : State) (id p : Nat) (f : EthFrame) : State :=
  let s := s.creditPort p
  if s.canCut p f && (f.bad || decide (p < 10)) then s.cutStart id p f
  else if f.bad then s
  else
    let s := if s.canCut p f then s.putFrame id (some { f with ctPorts := f.ctPorts + 2 ^ p }) else s
    s.setQueue p f.cls (s.queue p f.cls ++ [id])

/-- One copy of frame `id` goes to egress `p`, or is refused and counted (R137, R141). -/
def State.placeCopy (s : State) (id p : Nat) : State :=
  match s.frame id with
  | none => s
  | some f =>
    let lim := 16 * s.portRd f.pgen (SWC_PORTp_QLIM_LIM p f.cls)
    if !f.bad && decide (s.maxSdu f.pgen p f.cls < f.len) then
      (s.inc (SWC_PORTp_CNT_SDU_DROP p)).mirDropOnce id 0x12
    else if lim != 0 && decide (lim ≤ s.queueCells p f.cls) then
      (s.inc (SWC_PORTp_CNT_QLIM_DROP p)).mirDropOnce id 0x11
    else s.enqueueCopy id p f

/-- The ports of a mask, lowest first. -/
def maskPorts (m : Nat) : List Nat := (List.range 16).filter fun p => bitAt m p

/-- The copies of a decided frame: cells, queues and cut-through starts. One that turns out bad lives on only where it
had started, and ends stomped there (R143). -/
def State.swForward (s : State) (f : EthFrame) : State :=
  match s.takeCells f with
  | none => s.swDrop f 0x10 (SWC_PORTp_CNT_IN_DROP f.ingress)
  | some c =>
    let id := s.swc.nextId
    let f := { f with res := c.1, pool := c.2 }
    let s := s.setSwc { s.swc with nextId := id + 1 }
    let s := (s.putFrame id (some f)).freeUpdate
    let s := (maskPorts f.egress).foldl (fun t p => t.placeCopy id p) s
    let s := if f.bad && s.frameHeld id then (s.inc SWC_CNT0_STOMPED).mirDropOnce id 0x1B else s
    s.frameRelease id

/-- The records of an arriving frame (R147). -/
def State.mirIngress (s : State) (f : EthFrame) (tcam : Bool) : State :=
  let s := if tcam then s.mirror f 0x01 f.born else s
  let s := if bitAt (s.rd SWC_MIR_CTL_IN_MASK) f.ingress then s.mirror f 0x02 f.born else s
  if s.mode == 0xB && s.bit SWC_MIR_CTL_SERVICE && decide (f.ingress < 10) then s.mirror f 0x04 f.born else s

/-- Does the class carry a hardware timestamp (R82)? -/
def tsClass (cls : Nat) (bytes : List Byte) : Bool := cls == 7 || cls == 2 || (cls == 3 && ptpEvent bytes)

/-- The stream filter where the decision names a stream (R129). -/
def State.swStreamStage (s : State) (t : SwTables) (d : SwDecision) (len : Nat) :
    Option Nat × Nat × Option Nat × State :=
  match d.stream with
  | none => (none, d.cls, none, s)
  | some n => s.streamFilter t n d.cls len

/-- FRER where the stream's filter entry asks for it (R129, R132). -/
def State.swFrerStage (s : State) (t : SwTables) (f : EthFrame) : Bool × List Byte × Option Nat × State :=
  match f.stream with
  | none => (false, f.bytes, none, s)
  | some n =>
    if bitsOf (t.filterAt n) 63 63 == 1 && bitsOf (t.filterAt n) 30 30 == 1 then s.frerRun t n f.bytes
    else (false, f.bytes, none, s)

/-- The filters of R123 exclude a frame from every port, whatever its destination. -/
def State.swExcluded (s : State) (f : EthFrame) : Bool :=
  (List.range 16).all fun e => e == f.ingress || !s.swFilter f.ingress e f.cls

/-- A MAC Control frame: no MAC sends one for the frame of a port inside the device (R106, R107). -/
def macControl (l : List Byte) : Bool := beAt l 12 2 == 0x8808

/-- From the mode filter of R123 on: dropped, delivered nowhere, or forwarded. -/
def State.swDeliver (s : State) (f : EthFrame) : State :=
  let keep := (maskPorts f.egress).filter fun e => s.swFilter f.ingress e f.cls
  let keep' := keep.filter fun e => !(macControl f.bytes && decide (e < 10))
  if keep.isEmpty && (f.egress != 0 || s.swExcluded f) then s.swDrop f 0x19 (SWC_PORTp_CNT_IN_DROP f.ingress)
  else if keep'.isEmpty then s.swTxDropped f
  else s.swForward { f with egress := keep'.foldl (fun m p => m + 2 ^ p) 0 }

/-- FRER, then delivery; the R-TAG goes on the copies of a replication list that asks for it (R132). -/
def State.swAfterFilter (s : State) (t : SwTables) (f : EthFrame) : State :=
  let fr := s.swFrerStage t f
  let list : Word := match f.rlist with | none => 0 | some r => t.rlistAt r
  let tagged := if bitsOf list 63 62 == 3 then bitsOf list 15 0 else 0
  if fr.1 then fr.2.2.2.swTxDropped f
  else fr.2.2.2.swDeliver { f with bytes := fr.2.1, rtag := fr.2.2.1, rtagPorts := tagged }

/-- Stream filter, then the rest: a frame the filter drops is mirrored with its reason. -/
def State.swDecided (s : State) (t : SwTables) (d : SwDecision) (f : EthFrame) : State :=
  let q := s.swStreamStage t d f.len
  let f := { f with cls := q.2.1, gate := q.2.2.1, ts := if tsClass q.2.1 f.bytes then f.ts else none }
  match q.1 with
  | some r => (q.2.2.2.mirDrop f r).swTxDropped f
  | none => q.2.2.2.swAfterFilter t f

/-- The whole ingress path of one frame, decided by the tables `t` of its generation. -/
def State.swIngress (s : State) (t : SwTables) (f : EthFrame) : State :=
  let d := s.swDecide t f
  let vid := frVid f.bytes (s.portRd f.pgen (SWC_PORTp_CTL_PVID f.ingress))
  let s := if f.bad then s else s.learn f.pgen f.ingress vid (frSa f.bytes)
  let f := { f with
    cls := d.cls, stream := d.stream, tcam := d.tcam, rlist := d.rlist
    egress := (d.ports % 65536 &&& s.upMask) - (if bitAt (d.ports &&& s.upMask) f.ingress then 2 ^ f.ingress else 0) }
  let s := s.mirIngress f d.mirror
  match d.drop with
  | some r => s.swDrop f r (if r == 0x17 then SWC_CNT0_TCAM_DROP else SWC_CNT0_UNKNOWN_DROP)
  | none => s.swDecided t d f

/-- The oldest frame that waits is taken, with `r` left: tables of generations that none of these needs go. -/
def State.swTaken (s : State) (r : List EthFrame) : State :=
  s.setSwc { s.swc with
    arrived := r
    versions := s.swc.versions.filter fun v => r.any fun g => g.gen == v.1 }

/-- No frame waits for its decision: what was rewritten starts anew, and old values of port registers go. -/
def State.swIdle (s : State) : State :=
  let s := s.resetsTo s.swc.genAbs
  s.setSwc { s.swc with pold := [] }

/-- The decision for frame `f` with the others `r` left waiting. What was rewritten starts anew for the first frame of
its generation, and at the latest when no frame waits (R124). -/
def State.swTake (s : State) (f : EthFrame) (r : List EthFrame) : State :=
  let s := ((s.resetsTo f.gen).swTaken r).swIngress (s.tablesAt f.gen) f
  if r.isEmpty then s.swIdle else s

/-- SWC_FRAME_INGRESS (R114): the decision for the frame that has waited longest, once its first 96 bytes, or all of
it, have arrived. -/
def execSwcFrameIngress (s : State) : Host.Outcome State Fault Refusal :=
  match s.swc.arrived with
  | [] => .next s
  | f :: r => .next (if s.domOn 6 then (s.advanceTo (f.arriveAt 96 * nsU)).swTake f r else s)

/-! ## Discards and recovery (R137, R145, R531) -/

/-- The instant at which the head of queue `c` of port `p` has stood one full cycle. -/
def State.starveAt (s : State) (p c : Nat) : Nat := (mapGet (fun _ => 0) s.swc.headAt (8 * p + c) + s.cycLen) * nsU

/-- The head `id` of queue `c` of port `p` is discarded for starving (R137). -/
def State.starved (s : State) (p c id : Nat) : State :=
  let s := (s.inc (SWC_PORTp_CNT_GATE_STARVE p)).mirDropOnce id 0x13
  ((s.creditPort p).unqueue p c id).frameRelease id

/-- GATE_STARVE (R137): the head of a queue has stood one full cycle without starting. -/
def execGateStarve (p : Fin 16) (c : Fin 8) (s : State) : Host.Outcome State Fault Refusal :=
  match s.queue p c with
  | [] => .next s
  | id :: _ =>
    if !s.domOn 6 || (decide (p.val < 10) && s.bit (EPC_PORTp_STAT_PAUSED p)) then .next s
    else
      let s := s.advanceTo (s.starveAt p c)
      match s.frame id with
      | none => .next s
      | some _ => .next (s.starved p c id)

/-- The frame that external port `p` sends, or has had to interrupt, ends with an inverted FCS (R104, R531). -/
def State.wireStomp (s : State) (p : Nat) : State :=
  [s.txCur p, s.txHeld p].foldl (fun s t =>
    match t.bind fun c => s.frame c.frame with
    | none => s
    | some f => s.setSwc { s.swc with wire := (p, f.copyBytes p ++ fcsBytes (f.copyBytes p) true) :: s.swc.wire }) s

/-- A recovery (R531): ingress stops, frames in transmission end stomped, every frame is discarded, those that wait for
their decision among them, the free list is rebuilt and ingress resumes; the next published image carries RESTART. -/
def State.swRecover (s : State) : State :=
  let s := (List.range 10).foldl (fun t p => t.wireStomp p) s
  let s := (List.range 4).foldl (fun t k => t.epCut (10 + k)) s
  let ids := s.swc.frames.filterMap fun e => e.2.map fun _ => e.1
  let wait := s.swc.arrived
  let w := s.swc
  let s := s.setSwc { w with
    queues := [], tx := [], held := [], headAt := [], recovering := false, arrived := [], versions := [] }
  let s := wait.foldl (fun t f => t.swDrop f 0x1A (SWC_PORTp_CNT_IN_DROP f.ingress)) s
  let s := (ids.foldl (fun t i => t.discardCopy 0x1A i) s).freeUpdate
  let s := s.swIdle
  s.putImage { s.image with restart := true }

/-- FREE_LIST_AUDIT (R531): a mismatch of free and held cells starts a recovery. -/
def execFreeListAudit (mismatch : Bool) (s : State) : Host.Outcome State Fault Refusal :=
  if !s.domOn 6 || !mismatch || s.swc.recovering then .next s
  else
    let s := s.setSwc { s.swc with recovering := true }
    .next ((s.logEvent 0x0300 uSWC 2 2).safeStopFault 1)

/-- SWC_RECOVERY (R531): an uncorrectable error in descriptors, free list or pointers, or an audit
mismatch, runs its course. -/
def execSwcRecovery (s : State) : Host.Outcome State Fault Refusal :=
  if !s.domOn 6 then .next s
  else
    let s := if s.swc.recovering then s else (s.logEvent 0x0300 uSWC 2 1).safeStopFault 1
    .next s.swRecover

end Sys2Proof.Machine
end

