-- ==== Sys2Proof/Machine/Epc.lean ====
section
/-! DEFINITION. Ethernet ports (chapter 04, R94 to R111): states, reception, pause, underrun, speed
stepping. -/

namespace Sys2Proof.Machine

def State.epcState (s : State) (p : Nat) : Nat := s.rd (EPC_PORTp_STAT_STATE p)

/-! ## States (R97 to R100) -/

/-- Only the designated ports of R59 are enabled in DEGRADED. -/
def State.portDesignated (s : State) (p : Nat) : Bool :=
  s.mode != 8 || p == s.rd SYSCTL_MODE_CFG_DEG_PORT0 || p == s.rd SYSCTL_MODE_CFG_DEG_PORT1

/-- STARTING; the rate in use returns to SPEED (R98, R111). -/
def State.portStart (s : State) (p : Nat) : State :=
  let s := (s.wr (EPC_PORTp_STAT_STATE p) 1).wr (EPC_PORTp_STAT_CUR_SPEED p) (s.rd (EPC_PORTp_CTL_SPEED p))
  s.setEpcPort p { EpcPort.reset with stepOn := s.bit (EPC_PORTp_CTL_STEP_EN p) }

/-- A write of EN = 1 (R98, R100). -/
def State.portEnable (s : State) (p : Nat) : State :=
  if !s.portDesignated p then s
  else
    let s := s.wrB (EPC_PORTp_CTL_EN p) true
    if s.epcState p == 0 then s.portStart p
    else if s.epcState p == 4 then s.wrB (EPC_PORTp_STAT_PENDING p) true
    else s

/-- PORT_ENABLE (R98). -/
def execPortEnable (p : Fin 10) (s : State) : Host.Outcome State Fault Refusal :=
  .next (if s.domOn 6 then s.portEnable p else s)

/-- The frames that port `p` is receiving and that have not been decided are discarded (R99). -/
def State.rxDiscard (s : State) (p : Nat) : State :=
  s.setSwc { s.swc with
    arrived := s.swc.arrived.filter fun f => !(f.ingress == p && decide (s.ltNs < f.arriveAt f.len)) }

/-- Preemption is over on port `p`: no class is preemptable, and none is held (R139). -/
def State.preOff (s : State) (p : Nat) : State := (s.wrB (SWC_PORTp_PRE_ACTIVE p) false).wrB (SWC_PORTp_PRE_HOLD p) false

/-- The ability that port `p` advertises: full duplex at SPEED alone, and symmetric pause where PAUSE_EN asks for it
on the integrated PHY and on 1000BASE-X; none where Table R94 has no negotiation or AN_EN is 0 (R96). -/
def State.portAdvert (s : State) (p : Nat) : Option (Nat × Bool) :=
  let itf := s.rd (EPC_PORTp_CTL_IF p)
  if s.bit (EPC_PORTp_CTL_AN_EN p) && (decide (itf < 3) || itf == 4) then
    some (s.rd (EPC_PORTp_CTL_SPEED p), s.bit (EPC_PORTp_CTL_PAUSE_EN p) && (itf == 0 || itf == 2))
  else none

/-- A write of EN = 0: STOPPING; during STOPPING it clears PENDING (R99, R100). The frames queued for the port are
discarded (R145); the MAC completes the frame in transmission and its fragments, and discards one in reception. -/
def State.portDisable (s : State) (p : Nat) : State :=
  let s := s.wrB (EPC_PORTp_CTL_EN p) false
  if s.epcState p == 4 then s.wrB (EPC_PORTp_STAT_PENDING p) false
  else if s.epcState p == 0 then s
  else
    let s := s.wr (EPC_PORTp_STAT_STATE p) 4
    let s := (s.wrB (EPC_PORTp_STAT_PAUSED p) false).preOff p
    (s.rxDiscard p).swFlush p

/-- PORT_DISABLE (R99). -/
def execPortDisable (p : Fin 10) (s : State) : Host.Outcome State Fault Refusal :=
  .next (if s.domOn 6 then s.portDisable p else s)

/-- The MAC of port `p` still has a frame, or fragments of one, to complete. -/
def State.macBusy (s : State) (p : Nat) : Bool := (s.txCur p).isSome || (s.txHeld p).isSome

/-- PORT_STOP_DONE (R99, R100): once the MAC has completed what it sends, OFF with only CTL and TXTHR kept; a latched
enable starts the port. -/
def execPortStopDone (p : Fin 10) (s : State) : Host.Outcome State Fault Refusal :=
  if !s.domOn 6 || s.epcState p != 4 || s.macBusy p then .next s
  else
    let pend := s.bit (EPC_PORTp_STAT_PENDING p)
    let s := (s.setReg (EPC_PORTp_STAT p) 0).setReg (EPC_PORTp_CNT p) 0
    let s := s.setEpcPort p EpcPort.reset
    .next (if pend then s.portStart p else s)

/-- PORT_CALIBRATION_DONE (R97): STARTING to LINK_WAIT. -/
def execPortCalibrationDone (p : Fin 10) (s : State) : Host.Outcome State Fault Refusal :=
  if !s.domOn 6 || s.epcState p != 1 then .next s
  else
    let s := s.wr (EPC_PORTp_STAT_STATE p) 2
    .next (s.setEpcPort p { s.epcPort p with waitSince := s.ltNs })

/-- LINK_UP (R98): the link is established. -/
def execLinkUp (p : Fin 10) (s : State) : Host.Outcome State Fault Refusal :=
  if !s.domOn 6 || s.epcState p != 2 then .next s
  else
    let s := (s.wr (EPC_PORTp_STAT_STATE p) 3).wrB (EPC_PORTp_STAT_NEG_FAIL p) false
    .next (s.setEpcPort p { s.epcPort p with stepOn := s.bit (EPC_PORTp_CTL_STEP_EN p) })

/-- The link drops (R98): LINK_WAIT, LINK_DOWN counts, the SWC treats the port as down. -/
def State.linkDown (s : State) (p : Nat) : State :=
  let s := (s.wr (EPC_PORTp_STAT_STATE p) 2).inc (EPC_PORTp_CNT_LINK_DOWN p)
  let s := (s.wrB (EPC_PORTp_STAT_PAUSED p) false).preOff p
  let e := s.epcPort p
  (s.setEpcPort p { e with
    waitSince := s.ltNs, drops := (s.ltNs :: e.drops).take 3, pauseUntil := 0, pauseHold := none }).swPortDown p

/-- LINK_DOWN (R98). -/
def execLinkDown (p : Fin 10) (s : State) : Host.Outcome State Fault Refusal :=
  .next (if s.domOn 6 && s.epcState p == 3 then s.linkDown p else s)

/-- NEGOTIATION_FAIL (R96): the partner does not offer the speed that the port advertises. -/
def execNegotiationFail (p : Fin 10) (s : State) : Host.Outcome State Fault Refusal :=
  .next (if s.domOn 6 && s.epcState p == 2 && (s.portAdvert p).isSome then
    s.wrB (EPC_PORTp_STAT_NEG_FAIL p) true else s)

/-- PREEMPT_VERIFY_DONE (R139). -/
def execPreemptVerifyDone (p : Fin 10) (s : State) : Host.Outcome State Fault Refusal :=
  .next (if s.domOn 6 && s.epcState p == 3 && s.bit (EPC_PORTp_CTL_PREEMPT_EN p) then
    s.wrB (SWC_PORTp_PRE_ACTIVE p) true else s)

/-- Three drops within 10 s (R111). -/
def threeDrops (e : EpcPort) (now : Nat) : Bool :=
  match e.drops with
  | [_, _, t] => decide (now ≤ t + 10000000000)
  | _ => false

/-- SPEED_STEP (R111): an uplink under USXGMII in LINK_WAIT steps one rate down, after three drops within
10 s or when LINK_WAIT has lasted 2 s; at 2.5 Gbit/s it steps no further. The count of drops starts anew with each
step (DESIGN CHOICE, log 89). -/
def execSpeedStep (p : Fin 10) (s : State) : Host.Outcome State Fault Refusal :=
  let e := s.epcPort p
  let cur := s.rd (EPC_PORTp_STAT_CUR_SPEED p)
  if !s.domOn 6 || s.epcState p != 2 || !e.stepOn || s.rd (EPC_PORTp_CTL_IF p) != 4 || !(cur == 5 || cur == 4) then
    .next s
  else
    let s := if threeDrops e s.ltNs then s else s.advanceTo ((e.waitSince + 2000000000) * nsU)
    let s := (s.wr (EPC_PORTp_STAT_CUR_SPEED p) (cur - 1)).inc (EPC_PORTp_STAT_STEPS p)
    .next ((s.setEpcPort p { e with waitSince := s.ltNs, drops := [] }).swPortDown p)

/-! ## Receive (R102, R106) -/

/-- The port's own MAC address: assigned in production, not stated by the spec (DESIGN CHOICE, log 33). -/
def portMac (p : Nat) : Nat := (Config.freeFn 1 [p]).toNat % 2 ^ 48

/-- Quanta of 512 bit times on port `p`, in ns. -/
def State.quantaNs (s : State) (p q : Nat) : Nat := q * 512 * s.byteTime10 p / 80

/-- Time paused, from `t0` to now, is not counted at the head of a queue (R137): a head that came up within it counts
from now. -/
def State.shiftHeads (s : State) (p t0 : Nat) : State :=
  s.setSwc { s.swc with headAt := s.swc.headAt.map fun e =>
    if e.1 / 8 == p then (e.1, e.2 + (s.ltNs - max t0 e.2)) else e }

/-- The pause of port `p` ends. -/
def State.pauseEnd (s : State) (p : Nat) : State :=
  if s.bit (EPC_PORTp_STAT_PAUSED p) then
    ((s.creditPort p).wrB (EPC_PORTp_STAT_PAUSED p) false).shiftHeads p (s.epcPort p).pauseFrom
  else s

/-- A received PAUSE that is obeyed (R106): its quanta count once the frame in transmission, with its fragments, has
ended. A further one restarts the timer; quanta 0 ends the pause at once. -/
def State.pauseRx (s : State) (p q : Nat) : State :=
  let s := (s.inc (EPC_PORTp_CNT_TX_PAUSED p)).creditPort p
  let e := s.epcPort p
  if q == 0 then (s.pauseEnd p).setEpcPort p { e with pauseHold := none }
  else
    let t0 := if s.bit (EPC_PORTp_STAT_PAUSED p) then e.pauseFrom else s.ltNs
    let e := if s.macBusy p then { e with pauseFrom := t0, pauseHold := some (s.quantaNs p q) }
      else { e with pauseFrom := t0, pauseHold := none, pauseUntil := s.ltNs + s.quantaNs p q }
    (s.setEpcPort p e).wrB (EPC_PORTp_STAT_PAUSED p) true

/-- The frame that port `p` was sending has ended: the quanta of a pause that waited for it begin to count. -/
def State.pauseArm (s : State) (p : Nat) : State :=
  let e := s.epcPort p
  match e.pauseHold with
  | none => s
  | some q => if s.macBusy p then s else s.setEpcPort p { e with pauseHold := none, pauseUntil := s.ltNs + q }

/-- PAUSE_EXPIRE (R106): the quanta have run out. -/
def execPauseExpire (p : Fin 10) (s : State) : Host.Outcome State Fault Refusal :=
  if !s.domOn 6 || !s.bit (EPC_PORTp_STAT_PAUSED p) || (s.epcPort p).pauseHold.isSome then .next s
  else .next ((s.advanceTo ((s.epcPort p).pauseUntil * nsU)).pauseEnd p)

/-- The receive timestamp: raw value − RX_LAT (R83), in units of 2^−16 ns. -/
def State.rxStamp (s : State) (p raw : Nat) : Nat := raw - s.rd (NTU_PORTp_LAT_RX_LAT p) * 256

/-- ASYM is added to the correctionField of received Sync and Pdelay_Resp messages (R83); an overflow counts in
CF_SAT. -/
def State.rxAsym (s : State) (p : Nat) (l : List Byte) : List Byte × State :=
  match ptpPos l with
  | none => (l, s)
  | some q =>
    if s.bit (NTU_PORTp_CFG_ASYM_EN p) && (ptpType l q == 0 || ptpType l q == 3) then
      let r := fixCf l q (s.rdI (NTU_PORTp_ASYM_ASYM p) * 256)
      (r.1, if r.2 then s.inc (NTU_PORTp_STAT_CF_SAT p) else s)
    else (l, s)

/-- What goes on to the SWC of a frame whose fault shows after its first 96 bytes: a bad frame, which a port with CT_EN
may have begun to forward (R102, R143). No MAC Control frame goes on (R106). -/
def State.macBad (s : State) (p : Nat) (f : EthFrame) (cut : Bool) : State :=
  if s.bit (SWC_PORTp_CTL_CT_EN p) && decide (96 ≤ f.bytes.length) && !macControl f.bytes then
    s.swArrive { f with bad := true, aborted := cut }
  else s

/-- A MAC Control frame: a PAUSE that is obeyed, or counted and discarded (R106). -/
def State.macCtrl (s : State) (p : Nat) (l : List Byte) : State :=
  if beAt l 14 2 == 1 && s.bit (EPC_PORTp_CTL_PAUSE_EN p) && (frDa l == 0x0180C2000001 || frDa l == portMac p) then
    s.pauseRx p (beAt l 16 2)
  else s.inc (EPC_PORTp_CNT_RX_CTRL_DROP p)

/-- A frame that the MAC has received (R102, R106), counted and discarded when faulty. -/
def State.macReceive (s : State) (p : Nat) (bytes : List Byte) (fault : MacFault) (raw : Nat) : State :=
  let len := bytes.length + 4
  let f : EthFrame := { EthFrame.blank with bytes := bytes, ingress := p, ts := some (s.rxStamp p raw) }
  if fault == .fcs || fault == .assembly then (s.inc (EPC_PORTp_CNT_RX_FCS_ERR p)).macBad p f false
  else if fault == .cut then (s.inc (EPC_PORTp_CNT_RX_FCS_ERR p)).macBad p f true
  else if fault == .code then (s.inc (EPC_PORTp_CNT_RX_CODE_ERR p)).macBad p f false
  else if decide (len < 64) then s.inc (EPC_PORTp_CNT_RX_RUNT p)
  else if decide (s.portMaxLen p < len) then (s.inc (EPC_PORTp_CNT_RX_OVERSIZE p)).macBad p f false
  else if macControl bytes then s.macCtrl p bytes
  else
    let r := s.rxAsym p bytes
    r.2.swArrive { f with bytes := r.1 }

/-- The fault that the MAC sees in a frame of `n` fragments: only a port with PREEMPT_EN reassembles, and to another a
fragment is a symbol within no frame (PRESUMED, log 88). -/
def State.fragFault (s : State) (p n : Nat) (fault : MacFault) : MacFault :=
  if decide (1 < n) && !s.bit (EPC_PORTp_CTL_PREEMPT_EN p) then .code else fault

/-- MAC_FRAME_RECEIVE (R102): the fragments that the frame arrives in, one where it is not preempted, without the FCS
and the mCRCs; what was wrong with it; and the raw timestamp in LT, units of 0.5 ns (R84). The command stands at the
frame's first byte, and the others follow at the port's rate. -/
def execMacFrameReceive (p : Fin 10) (frags : List (List Byte)) (fault : MacFault) (raw2 : Nat) (s : State) :
    Host.Outcome State Fault Refusal :=
  .next (if s.domOn 6 && s.epcState p == 3 then
    s.macReceive p frags.flatten (s.fragFault p frags.length fault) (raw2 * 2 ^ 15) else s)

/-! ## Transmit (R103, R104) -/

/-- THR rises by 1 until THR × 64 reaches MAX_LEN (R104). -/
def State.thrRaise (s : State) (p : Nat) : State :=
  let thr := s.rd (EPC_PORTp_TXTHR_THR p)
  if decide (thr * 64 < s.rd (EPC_PORTp_CTL_MAX_LEN p)) then s.wr (EPC_PORTp_TXTHR_THR p) (thr + 1) else s

/-- The first `n` bytes of a copy have gone out, and the complement of the FCS over them ends it (R104). -/
def State.wireCut (s : State) (p id n : Nat) : State :=
  match s.frame id with
  | none => s
  | some f =>
    let l := (f.copyBytes p).take n
    s.setSwc { s.swc with wire := (p, l ++ fcsBytes l true) :: s.swc.wire }

/-- TX_UNDERRUN (R104): the transmit FIFO has run empty after `sent` bytes. The frame ends with an inverted FCS, THR
rises, and the rest is discarded. -/
def execTxUnderrun (u : Underrun) (s : State) : Host.Outcome State Fault Refusal :=
  let p := u.p
  match s.txCur p with
  | none => .next s
  | some t =>
    if !s.domOn 6 || !(s.epcState p == 3 || s.epcState p == 4) then .next s
    else
      let s := (((s.inc (EPC_PORTp_CNT_TX_UNDERRUN p)).creditPort p).wireCut p t.frame u.sent).thrRaise p
      .next (((s.setTx p none).frameRelease t.frame).pauseArm p)

/-- EPC_CNT_READ (R109): the eight counters as they stand, then cleared. -/
def execEpcCntRead (p : Fin 10) (s : State) : Host.Outcome State Fault Refusal :=
  if !s.domOn 6 then .next (s.putReadData 0)
  else .next ((s.setReg (EPC_PORTp_CNT p) 0).putReadData (s.reg (EPC_PORTp_CNT p)))

end Sys2Proof.Machine
end

