-- ==== Sys2Proof/Machine/Flags.lean ====
section
/-! DEFINITION. The sticky flags of a Rook engine (R161, R173, R190): when an instruction sets OV, DZ or
RSE. -/

namespace Sys2Proof.Machine

/-- Flag bits of ESR (Table R190). -/
def flOV : Nat := 1
def flDZ : Nat := 2
def flRSE : Nat := 4

/-- MIN, the most negative 64-bit value. -/
def minWord : Word := 0x8000000000000000

/-- OV of NEG: the operand is MIN. -/
def ovNeg (a : Word) : Bool := a == minWord

/-- OV of a saturating result: the exact value lies outside MIN to MAX. -/
def ovSat (exact : Int) : Bool := exact != sat64 exact

/-- OV of a signed division: MIN by −1. -/
def ovDiv (a b : Word) : Bool := a == minWord && b == 0xFFFFFFFFFFFFFFFF

/-- DZ: the divisor is 0. -/
def dzDiv (b : Word) : Bool := b == 0

/-- The flag word of OV. -/
def ovFlag (b : Bool) : Nat := if b then flOV else 0

end Sys2Proof.Machine
end

