-- ==== Sys2Proof/Machine/Rook.lean ====
section
/-! DEFINITION. The Rook engine's shared operations (chapter 06): writes in flight, control flow, traps,
speculative regions, D-space, and its IO space (chapter 07, R198 to R214). -/

namespace Sys2Proof.Machine

/-! ## The engine -/

/-- Rhizome-side addresses of the engine's memories; both live in `pmem`. -/
def ispaceAddr (n a : Nat) : Nat := uPEA + 0x40000 * n + 0x10000 + a
def dspaceAddr (n a : Nat) : Nat := uPEA + 0x40000 * n + 0x20000 + a

/-- General register `i`; w0 reads 0 (R151). -/
def RookSt.getW (r : RookSt) (i : Nat) : Word := if i == 0 then 0 else mapGet (fun _ => 0) r.w i

/-- A register takes a value; a write to w0 is discarded (R151). -/
def RookSt.putW (r : RookSt) (i : Nat) (v : Word) : RookSt :=
  if i == 0 then r else { r with w := mapPut (fun _ => 0) r.w i v }

/-- TIN, SPECA and the other bits of ESR (Table R190). -/
def RookSt.esrBit (r : RookSt) (b : Nat) : Bool := bitAt r.esr.toNat b
def RookSt.setEsr (r : RookSt) (b : Nat) (v : Bool) : RookSt :=
  { r with esr := putBits r.esr b b (b2n v) }
def RookSt.tin (r : RookSt) : Bool := r.esrBit 8

def RookSt.top (r : RookSt) : Nat := bitsOf r.rsp 3 0
def RookSt.count (r : RookSt) : Nat := bitsOf r.rsp 8 4
def rspWord (top count : Nat) : Word := BitVec.ofNat 64 (count * 16 + top % 16)

/-! ## Writes in flight (R160, R161) -/

/-- What an MTS to special register `k` writes: its RW fields (Table R154, R190, R191). -/
def RookSt.putSr (r : RookSt) (k : Nat) (v : Word) : RookSt :=
  match k with
  | 0 => { r with esr := (r.esr &&& ~~~(0x3003F : Word)) ||| (v &&& 0x3003F) }
  | 1 => { r with tpc := v &&& 0xFFFC }
  | 2 => { r with tbt := v &&& 0xFFFC }
  | 4 => { r with tvb := v &&& 0xFC00 }
  | 5 => { r with rsp := v &&& 0x1FF }
  | _ => r

def RookSt.applyFlight (r : RookSt) (f : Flight) : RookSt :=
  if f.dst < 32 then r.putW f.dst f.value
  else if f.dst == 32 then { r with rem := f.value }
  else if f.dst == 33 then { r with esr := r.esr ||| f.value }
  else r.putSr (f.dst - 64) f.value

/-- The write takes its place behind those ready no later (R160). -/
def insertFlight (f : Flight) : List Flight → List Flight
  | [] => [f]
  | g :: t => if f.key < g.key then f :: g :: t else g :: insertFlight f t

/-- A write issued now and ready at distance `d`. -/
def RookSt.produce (r : RookSt) (dst : Nat) (v : Word) (d : Nat) : RookSt :=
  { r with flight := insertFlight ⟨dst, v, 2 * (r.cyc + d)⟩ r.flight }

/-- Sticky flags `m` set at distance `d`. -/
def RookSt.produceFlags (r : RookSt) (m d : Nat) : RookSt :=
  if m == 0 then r
  else { r with flight := insertFlight ⟨33, BitVec.ofNat 64 m, 2 * (r.cyc + d) + 1⟩ r.flight }

/-- Every write ready in cycle `c` or earlier is applied, in order. -/
def RookSt.applyTo (r : RookSt) (c : Nat) : RookSt :=
  (r.flight.takeWhile fun f => decide (f.key / 2 ≤ c)).foldl RookSt.applyFlight
    { r with flight := r.flight.dropWhile fun f => decide (f.key / 2 ≤ c) }

/-- The ready cycle of the last write in flight. -/
def RookSt.lastReady (r : RookSt) : Nat := r.flight.foldl (fun m f => max m (f.key / 2)) 0

/-- Every write in flight is applied. -/
def RookSt.drainAll (r : RookSt) : RookSt := r.applyTo r.lastReady

/-! ## Control flow (R170, R171, R187, R188) -/

/-- Resume after RTE's delay slots: at TPC with the pending transfer recorded; TIN clears. -/
def RookSt.resume (r : RookSt) : RookSt :=
  let r := r.applyTo r.cyc
  { r.setEsr 8 false with
    pc := bitsOf r.tpc 15 0, slot := bitsOf r.esr 17 16, tgt := bitsOf r.tbt 15 0, rte := false }

/-- The instruction has issued: the next cycle, and the next address. -/
def RookSt.next (r : RookSt) : RookSt :=
  let r := { r with cyc := r.cyc + 1 }
  if r.slot == 0 then { r with pc := r.pc + 4 }
  else if r.slot == 1 then { r with pc := r.pc + 4, slot := 2 }
  else if r.rte then r.resume
  else { r with pc := r.tgt, slot := 0 }

/-- A control transfer has issued: two delay slots, then `t`. -/
def RookSt.transfer (r : RookSt) (t : Nat) : RookSt :=
  { r with cyc := r.cyc + 1, pc := r.pc + 4, slot := 1, tgt := t, rte := false }

/-- An address plus 4 × a signed count of instructions, modulo 2^64 (R157). -/
def RookSt.relative (r : RookSt) (off : Int) : Nat := unsign 64 ((r.pc : Int) + 4 * off)

/-! ## Halts and squashes (R181, R186, R189) -/

/-- SPECA in ESR and in PEA_Rn_STAT. -/
def State.setSpeca (s : State) (n : Nat) (v : Bool) : State :=
  (s.rookUpd n fun r => r.setEsr 9 v).wrB (PEA_Rn_STAT_SPECA n) v

/-- Steps 1 to 4 of R181: writes applied, w8 to w31 and RSP restored, commit buffer discarded, SPECA and
SOVF cleared. Nothing when no region is open. -/
def State.rookSquash (s : State) (n : Nat) : State :=
  let r := s.rook n
  match r.spec with
  | none => s.setRook n r.drainAll
  | some p =>
    let r := r.drainAll
    let low := r.w.filter fun e => decide (e.1 < 8)
    let r := { r with w := low ++ p.regs, rsp := p.rsp, commit := [], spec := none }
    ((s.setRook n (r.setEsr 10 false)).setSpeca n false).pqRegionSquash n

/-- A squash at frame end or by a trap: an open region counts in SQUASHES. -/
def State.rookSquashCnt (s : State) (n : Nat) : State :=
  if (s.rook n).spec.isSome then (s.rookSquash n).inc (PEA_Rn_CNT_SQUASHES n) else s.rookSquash n

/-- A connection of the map: valid, and owned by engine `n`. -/
def cmapOwner (w : Word) : Option Nat := if bitsOf w 63 63 == 1 then some (bitsOf w 61 57) else none

/-- After a change of engine states, an engine port that is no longer up follows R145 (R196). -/
def State.epCheck (s : State) (n : Nat) : State :=
  let k := s.rd (PEA_Rn_CTL_BIND n)
  if k < 4 && !s.swPortUp (10 + k) then s.swPortDown (10 + k) else s

/-- A halt (R189, R195): HALTED, reason and cause recorded, PEA interrupt bit n, event log, and the fault
source ROOK_HALT when the engine owns a valid connection (Table R526). -/
def State.rookHalt (s : State) (n reason cause pc : Nat) : State :=
  let s := (s.wr (PEA_Rn_STAT_STATE n) 3).wr (PEA_Rn_STAT_HALT_PC n) pc
  let s := (s.wr (PEA_Rn_STAT_HALT_REASON n) reason).wr (PEA_Rn_STAT_HALT_CAUSE n) cause
  let s := s.setIstat uPEA (2 ^ n)
  let s := (s.logEvent 0x0400 uPEA 2 (n + reason * 2 ^ 8 + cause * 2 ^ 16 + pc % 65536 * 2 ^ 32)).epCheck n
  if s.cmap.any fun e => cmapOwner e.2 == some n then s.safeStopFault 2 else s

/-- Trap entry (R185): cause, TVAL. While TIN is 1 the engine halts with DOUBLE (R186). -/
def State.rookTrap (s : State) (n cause : Nat) (val : Word) : State :=
  let r := s.rook n
  if r.tin then s.rookHalt n 2 cause r.pc
  else
    let resumeAt := max (r.cyc + 6) (r.lastReady + 1)
    let open_ := r.spec.isSome
    let s := s.rookSquashCnt n
    let r' := s.rook n
    let r' := if open_ then r'.setEsr 5 true else r'
    let esr := putBits (putBits (putBits r'.esr 17 16 r.slot) 31 24 cause) 8 8 1
    s.setRook n { r' with
      esr := esr
      tpc := BitVec.ofNat 64 (r.pc % 65536 / 4 * 4)
      tbt := if r.slot == 0 then r'.tbt else BitVec.ofNat 64 (r.tgt % 65536 / 4 * 4)
      tval := val
      pc := bitsOf r'.tvb 15 0 + 32 * cause
      slot := 0
      rte := false
      cyc := resumeAt }

/-- The squash of a region at frame end (R181): steps 1 to 4, then the vector SQUASH. A WAIT ends. -/
def State.rookSquashVector (s : State) (n : Nat) : State :=
  let last := (s.rook n).lastReady
  let s := s.rookSquashCnt n
  let r := s.rook n
  let esr := putBits (putBits (putBits r.esr 17 16 r.slot) 31 24 0x10) 8 8 1
  s.setRook n { r with
    esr := esr
    tpc := BitVec.ofNat 64 (r.pc % 65536 / 4 * 4)
    tbt := if r.slot == 0 then r.tbt else BitVec.ofNat 64 (r.tgt % 65536 / 4 * 4)
    tval := 0
    pc := bitsOf r.tvb 15 0 + 32 * 0x10
    slot := 0
    rte := false
    wait := none
    squashDue := false
    cyc := max r.cyc (last + 1) }

/-- A verdict that fell in this issue cycle ends the region, unless the instruction has trapped, whose entry has
squashed it already (R206). -/
def State.rookSquashNow (s : State) (n : Nat) : State :=
  let s' := s.rookUpd n fun r => { r with squashDue := false }
  if (s.rook n).squashDue && (s.rook n).spec.isSome && s.rookRunning n then s'.rookSquashVector n else s'

/-- An engine issues: RUNNING, powered, not waiting. Ready writes are applied first (R160), and an address
outside I-space traps ISPACE instead (R170, R184). `body` sees the engine in its issue cycle. -/
def State.rookIssue (s : State) (n : Nat) (body : State → RookSt → State) : State :=
  let r := s.rook n
  if !s.rookRunning n || r.wait.isSome || r.dbg then s
  else
    let r := r.applyTo r.cyc
    let s := s.setRook n r
    let s := if 0x10000 ≤ r.pc then s.rookTrap n 0x08 (BitVec.ofNat 64 r.pc) else body s r
    if r.squashDue then s.rookSquashNow n else s

/-- A computing instruction: value and flags, ready at distance `d`. -/
def State.rookAlu (s : State) (n rd d : Nat) (f : RookSt → Word × Nat) : State :=
  s.rookIssue n fun s r =>
    let v := f r
    s.setRook n ((r.produce rd v.1 d).produceFlags v.2 d).next

/-- A control transfer (R170): SLOT in a delay slot, ALIGN for a target that is not a multiple of 4.
`word` is the instruction word, `target` none when the branch is not taken. -/
def State.rookBranch (s : State) (n word : Nat) (target : RookSt → Option Nat) : State :=
  s.rookIssue n fun s r =>
    if r.slot != 0 then s.rookTrap n 0x03 (BitVec.ofNat 64 word)
    else match target r with
      | none => s.setRook n (r.transfer (r.pc + 12))
      | some t =>
        if t % 4 != 0 then s.rookTrap n 0x05 (BitVec.ofNat 64 t) else s.setRook n (r.transfer t)

/-! ## The return stack (R175 to R178) -/

/-- CALL and CALLR: push the address + 12 and jump. -/
def State.rookCall (s : State) (n word : Nat) (target : RookSt → Nat) : State :=
  s.rookIssue n fun s r =>
    let t := target r
    let ret : Word := BitVec.ofNat 64 (r.pc + 12)
    if r.slot != 0 then s.rookTrap n 0x03 (BitVec.ofNat 64 word)
    else if t % 4 != 0 then s.rookTrap n 0x05 (BitVec.ofNat 64 t)
    else if r.count == 16 && r.spec.isSome then s.rookTrap n 0x0C 0
    else if r.count == 16 && r.esrBit 4 then s.rookTrap n 0x09 ret
    else
      let r := { r with rstk := mapPut (fun _ => 0) r.rstk r.top ret
                        rsp := rspWord (r.top + 1) (min 16 (r.count + 1)) }
      s.setRook n (r.transfer t)

/-- RET: pop and jump. A pop at COUNT = 0 in WRAP mode sets RSE; the flag is ready at distance 1. -/
def State.rookRet (s : State) (n word : Nat) : State :=
  s.rookIssue n fun s r =>
    let top := (r.top + 15) % 16
    let t := (mapGet (fun _ => 0) r.rstk top).toNat
    let recorded := match r.spec with | none => none | some p => some (bitsOf p.rsp 8 4)
    if r.slot != 0 then s.rookTrap n 0x03 (BitVec.ofNat 64 word)
    else if recorded == some r.count then s.rookTrap n 0x0C 0
    else if r.count == 0 && r.esrBit 4 then s.rookTrap n 0x0A 0
    else if t % 4 != 0 then s.rookTrap n 0x05 (BitVec.ofNat 64 t)
    else
      let r1 := { r with rsp := rspWord top (r.count - 1) }
      s.setRook n ((if r.count == 0 then r1.produceFlags flRSE 1 else r1).transfer t)

/-! ## D-space (R162, R167, R180) -/

/-- A store overlaid on the byte at `a`. -/
def overlayByte (a : Nat) (b : Byte) (c : CommitEnt) : Byte :=
  if c.width != 0 && decide (c.addr ≤ a) && decide (a < c.addr + c.width) then
    BitVec.ofNat 8 (c.data.toNat / 2 ^ (8 * (a - c.addr)))
  else b

/-- Byte `a` of D-space as an LD sees it: buffered stores merged over D-space. -/
def State.dByte (s : State) (n a : Nat) : Byte :=
  (s.rook n).commit.foldl (fun b c => overlayByte a b c) (memByte s.pmem (dspaceAddr n a))

/-- `w` bytes from `a`. -/
def State.dRead (s : State) (n a w : Nat) : Nat := natOfLE ((List.range w).map fun i => s.dByte n (a + i))

/-- `w` bytes stored to D-space. -/
def State.dWrite (s : State) (n a w : Nat) (v : Word) : State :=
  s.putPmem (memPutBytes s.pmem (dspaceAddr n a) (bytesLE w v.toNat))

/-- One commit-buffer entry; the 33rd store sets SOVF and is discarded (R180). -/
def State.rookBuffer (s : State) (n : Nat) (c : CommitEnt) : State :=
  let r := s.rook n
  if decide (32 ≤ r.commit.length) then
    let s := if r.esrBit 10 then s else s.inc (PEA_Rn_CNT_OVERFLOWS n)
    s.rookUpd n fun r => r.setEsr 10 true
  else s.setRook n { r with commit := r.commit ++ [c] }

/-- An LD of `w` bytes; ALIGN, then DSPACE (R167). -/
def State.rookLoad (s : State) (n rd rs1 w : Nat) (imm : BitVec 15) (sign : Bool) : State :=
  s.rookIssue n fun s r =>
    let a := (r.getW rs1 + imm15s imm).toNat
    if a % w != 0 then s.rookTrap n 0x05 (BitVec.ofNat 64 a)
    else if 0x20000 ≤ a then s.rookTrap n 0x06 (BitVec.ofNat 64 a)
    else
      let v := s.dRead n a w
      s.setRook n (r.produce rd (if sign then ofI (signed (8 * w) v) else BitVec.ofNat 64 v) 3).next

/-- An ST of `w` bytes (R167). -/
def State.rookStore (s : State) (n rs2 rs1 w : Nat) (imm : BitVec 15) : State :=
  s.rookIssue n fun s r =>
    let a := (r.getW rs1 + imm15s imm).toNat
    if a % w != 0 then s.rookTrap n 0x05 (BitVec.ofNat 64 a)
    else if 0x20000 ≤ a then s.rookTrap n 0x06 (BitVec.ofNat 64 a)
    else
      let v := r.getW rs2
      let s := if r.spec.isSome then s.rookBuffer n ⟨a, w, v⟩ else s.dWrite n a w v
      s.rookUpd n RookSt.next

/-! ## CRC units (R202, R203) -/

/-- The low `w` bits of `v` in reverse order. -/
def reflectBits (w v : Nat) : Nat := (List.range w).foldl (fun a i => a * 2 + v / 2 ^ i % 2) 0

/-- Width of the programmable CRC. -/
def PcrcCfg.width (c : PcrcCfg) : Nat := 8 * 2 ^ bitsOf c.cfg 31 30

def PcrcCfg.mask (c : PcrcCfg) : Nat := 2 ^ c.width
def PcrcCfg.start (c : PcrcCfg) : Nat := bitsOf c.init 31 0 % c.mask

/-- One byte fed (R203). -/
def PcrcCfg.feed (c : PcrcCfg) (reg : Nat) (b : Byte) : Nat :=
  let w := c.width
  let x := if bitsOf c.cfg 29 29 == 1 then reflectBits 8 b.toNat else b.toNat
  (List.range 8).foldl (fun r _ =>
    if r / 2 ^ (w - 1) % 2 == 1 then ((r * 2) ^^^ bitsOf c.cfg 63 32) % c.mask else r * 2 % c.mask)
    ((reg ^^^ (x * 2 ^ (w - 8))) % c.mask)

def PcrcCfg.result (c : PcrcCfg) (reg : Nat) : Nat :=
  let r := if bitsOf c.cfg 28 28 == 1 then reflectBits c.width reg else reg
  (r ^^^ bitsOf c.xor 31 0) % c.mask

/-- The programmable CRC over frame bytes START to END − 1, as far as they have arrived. -/
def PcrcCfg.crcOf (c : PcrcCfg) (l : List Byte) : Nat :=
  c.result (((l.take (bitsOf c.range 45 32)).drop (bitsOf c.range 13 0)).foldl c.feed c.start)

/-- The programmable check of a frame fails (R203). -/
def PcrcCfg.fails (c : PcrcCfg) (l : List Byte) : Bool :=
  if bitsOf c.cfg 26 26 == 0 || bitsOf c.cfg 27 27 == 0 then false
  else
    let e := bitsOf c.range 45 32
    let k := c.width / 8
    decide (l.length < e + k) || beAt l e k != c.crcOf l

/-! ## Events (Table R199) -/

/-- The event word of engine `n`: sticky bits and level bits. -/
def State.rookEvents (s : State) (n : Nat) : Nat :=
  let r := s.rook n
  let c := r.rx r.cur
  let lvl := b2n c.held * 4 + b2n (c.held && (c.ended || decide (r.rxThr ≤ c.readable s.ltNs))) * 8
    + b2n (c.held && c.verdict != 0) * 16 + b2n (s.doorbell (agRook n) != 0) * 512
  (r.ev &&& 0x1E3) ||| lvl

/-! ## Transmit (R213, R214) -/

/-- The transmit buffer's frame enters the SWC at the engine port its engine is bound to; an unbound
engine cannot transmit, and its frame is DROPPED at once (R197). -/
def State.txEnter (s : State) (n b : Nat) : State :=
  let t := (s.rook n).tx b
  let bind := s.rd (PEA_Rn_CTL_BIND n)
  if 4 ≤ bind then
    (s.rookUpd n fun r => r.setTxb b { t with state := 4 }).rookEvent n 5
  else
    let s := s.rookUpd n fun r => r.setTxb b { t with state := 2 }
    s.swArrive { EthFrame.blank with
      bytes := memBytes t.mem 0 (bitsOf t.cmd 13 0), ingress := 10 + bind
      tsReq := bitsOf t.cmd 61 61 == 1, tag := bitsOf t.cmd 47 32, origin := some (2 * n + b) }

/-- The buffer belongs to the hardware from GO until DONE or DROPPED. -/
def TxBuf.busy (t : TxBuf) : Bool := t.state == 1 || t.state == 2

/-- A write that the buffer's owner makes while it belongs to the hardware (R213). -/
def State.txIgnored (s : State) (n b : Nat) : State :=
  (s.rookUpd n fun r => r.setTxb b { r.tx b with wrIgn := true }).inc (PEA_Rn_CNT_TX_IGNORED n)

/-- A reserved value written to a local location (R198). -/
def State.lioErr (s : State) (n : Nat) : State := s.wrB (PEA_Rn_STAT_LIO_ERR n) true

/-- A write of TXb_CMD (R213): reserved bits are dropped (R11), and a cyclic frame of a bound engine is HELD until
ETH_TX (R214). -/
def State.txCmd (s : State) (n b : Nat) (v : Word) : State :=
  let t := (s.rook n).tx b
  let go := bitsOf v 63 63 == 1
  if t.busy then s.txIgnored n b
  else if go && (decide (bitsOf v 13 0 < 60) || decide (9212 < bitsOf v 13 0)) then s.lioErr n
  else
    let s := s.rookUpd n fun r => r.setTxb b { t with cmd := v &&& 0xE000FFFF00003FFF }
    if !go then s
    else
      let s := s.rookUpd n fun r => r.setTxb b { r.tx b with wrIgn := false, tsV := false, tsPort := 15, state := 1 }
      if bitsOf v 62 62 == 1 && decide (s.rd (PEA_Rn_CTL_BIND n) < 4) then s else s.txEnter n b

/-! ## Receive (R201) -/

/-- RX_RELEASE: the current buffer is freed and CUR moves on; a frame still arriving is ABORTED. -/
def State.rxRelease (s : State) (n : Nat) : State :=
  let r := s.rook n
  let c := r.rx r.cur
  if !c.held then s
  else
    let c := { c with held := false, aborted := c.aborted || !c.ended, bytes := 0 }
    s.setRook n { r.setRx r.cur c with cur := 1 - r.cur }

/-! ## The local IO window (Table R198, R447) -/

/-- RXb_STAT (Table R200) at LT `now`. -/
def rxbStat (x : RxBuf) (now : Nat) : Word :=
  BitVec.ofNat 64 (x.verdict * 2 ^ 61 + x.ingress * 2 ^ 57 + x.cls * 2 ^ 54
    + (match x.stream with | none => 0 | some h => 2 ^ 53 + h * 2 ^ 43) + x.gen % 65536 * 2 ^ 27 + x.readable now)

def txbStat (t : TxBuf) : Word :=
  BitVec.ofNat 64 (t.state * 2 ^ 61 + b2n t.tsV * 2 ^ 60 + (if t.tsV then t.tsPort else 0) * 2 ^ 56
    + b2n t.wrIgn * 2 ^ 55 + t.frac % 65536)

/-- Word `k` of a receive buffer; bytes not yet arrived read 0. -/
def rxWord (x : RxBuf) (o now : Nat) : Word :=
  BitVec.ofNat 64 (natOfLE (((x.data.take (x.readable now)).drop o).take 8))

/-- The PCRC settings in force: those of the frame in the current buffer, taken when it began; with no frame there,
those written (R203; DEDUCED, log 90). -/
def RookSt.pcrcNow (r : RookSt) : PcrcCfg := if (r.rx r.cur).held then (r.rx r.cur).pcrc else r.pcrc

/-- A location of the MQF part whose read changes nothing. -/
def State.lioMqfVal (s : State) (n a : Nat) : Word :=
  let r := s.rook n
  let who := agRook n
  let m := r.mbSel
  let k := r.pqSel
  let mbOn := s.bit (MQF_MBm_CFG_EN m)
  if a == 0x500 then BitVec.ofNat 64 m
  else if a == 0x520 then s.reg (MQF_DBa_PEND who)
  else if a == 0x530 then s.reg (MQF_DBa_MASK who)
  else if a == 0x580 then BitVec.ofNat 64 k
  else if a < 0x500 then (if mbOn then s.reg (MQF_MESSAGE m ((a - 0x400) / 8)) else 0)
  else if a == 0x508 then (if mbOn then s.reg (MQF_MBm_STAT m) else 0)
  else if a == 0x518 then (if mbOn then s.reg (MQF_MBm_ACK m) else 0)
  else if !s.pqRunning k then 0
  else if a == 0x590 then s.reg (PQk_CTL k) &&& 1
  else if a == 0x598 then s.reg (PQk_STAT k)
  else if a == 0x5A0 then s.reg (PQk_IDX k)
  else if a == 0x5B0 then (if s.rd (PQk_CFG_READER k) == who then s.reg (PQk_RD1 k) else 0)
  else 0

/-- MQF part of an IN: value and state. A semaphore read takes it, a queue read pops. -/
def State.lioMqfIn (s : State) (n a : Nat) : Word × State :=
  if 0x600 ≤ a then semTake (agRook n) ((a - 0x600) / 8) s
  else if a == 0x5A8 && s.pqRunning (s.rook n).pqSel then pqPop (agRook n) (s.rook n).pqSel s
  else (s.lioMqfVal n a, s)

/-- PQ_CTL of an OUT, whose EN is not writable (R447). -/
def State.lioPqCtl (s : State) (n k : Nat) (region : Bool) (v : Word) : State :=
  pqCtl (agRook n) k region (bitsOf v 3 3 == 1) (bitsOf v 2 2 == 1) (bitsOf v 1 1 == 1) s

/-- Queue part of an OUT. -/
def State.lioPqOut (s : State) (n a : Nat) (v : Word) : State :=
  let r := s.rook n
  if !s.pqRunning r.pqSel then s
  else if a == 0x588 then
    pqWrite (agRook n) r.pqSel (bitsOf v 31 0) (bitsOf v 33 32) (bitsOf v 63 63 == 1) r.spec.isSome s
  else if a == 0x590 then s.lioPqCtl n r.pqSel r.spec.isSome v
  else s

/-- Mailbox part of an OUT. -/
def State.lioMbOut (s : State) (n m a : Nat) (v : Word) : State :=
  let who := agRook n
  if a == 0x510 then (if bitsOf v 63 63 == 1 then mbPost who m (bitsOf v 8 0) s else s)
  else if a == 0x518 then mbAck who m (bitsOf v 63 48) (bitsOf v 47 32) (bitsOf v 15 0) s
  else if s.bit (MQF_MBm_CFG_EN m) && s.rd (MQF_MBm_CFG_SENDER m) == who then
    s.setReg (MQF_STAGING m ((a - 0x400) / 8)) v
  else s

/-- MQF part of an OUT. -/
def State.lioMqfOut (s : State) (n a : Nat) (v : Word) : State :=
  let r := s.rook n
  let who := agRook n
  if 0x600 ≤ a then (if bitsOf v 63 63 == 1 then semRelease who ((a - 0x600) / 8) s else s)
  else if a == 0x500 then s.setRook n { r with mbSel := bitsOf v 6 0 }
  else if a == 0x580 then s.setRook n { r with pqSel := bitsOf v 5 0 }
  else if a == 0x528 then s.wr (MQF_DBa_PEND_PEND who) (s.rd (MQF_DBa_PEND_PEND who) &&& (2 ^ 32 - 1 - bitsOf v 31 0))
  else if a == 0x530 then s.wr (MQF_DBa_MASK_MASK who) (bitsOf v 31 0)
  else if a < 0x500 || a == 0x510 || a == 0x518 then s.lioMbOut n r.mbSel a v
  else s.lioPqOut n a v

/-- An IN from the local window: value and state. -/
def State.lioIn (s : State) (n a : Nat) : Word × State :=
  let r := s.rook n
  if 0x4000 ≤ a then
    if a < 0x7000 then (rxWord r.rx0 (a - 0x4000) s.ltNs, s)
    else if a < 0xA000 then (rxWord r.rx1 (a - 0x7000) s.ltNs, s)
    else if a < 0xD000 then (memWord r.tx0.mem (a - 0xA000), s)
    else (memWord r.tx1.mem (a - 0xD000), s)
  else if 0x400 ≤ a && a < 0x800 then s.lioMqfIn n a
  else
    let tsf := fun (x : RxBuf) => match x.ts with
      | none => (0 : Word)
      | some t => BitVec.ofNat 64 (2 ^ 16 + t % 65536)
    let ts := fun (x : RxBuf) => BitVec.ofNat 64 (x.ts.getD 0 / 65536)
    let v : Word := match a with
      | 0x00 => BitVec.ofNat 64 (s.rookEvents n)
      | 0x10 => r.cycle
      | 0x18 => BitVec.ofNat 64 s.ltNs
      | 0x20 => r.timer
      | 0x40 => BitVec.ofNat 64 (b2n r.rx1.held * 4 + b2n r.rx0.held * 2 + r.cur)
      | 0x48 => BitVec.ofNat 64 r.rxThr
      | 0x58 => BitVec.ofNat 64 (s.rd (PEA_Rn_STAT_NET_UP n))
      | 0x80 => rxbStat r.rx0 s.ltNs
      | 0xA0 => rxbStat r.rx1 s.ltNs
      | 0x88 => ts r.rx0
      | 0xA8 => ts r.rx1
      | 0x90 => tsf r.rx0
      | 0xB0 => tsf r.rx1
      | 0x100 => r.pcrc.cfg
      | 0x108 => r.pcrc.range
      | 0x110 => r.pcrc.init
      | 0x118 => r.pcrc.xor
      | 0x130 =>
        let c := r.rx r.cur
        BitVec.ofNat 64 (if bitsOf r.pcrcNow.cfg 26 26 == 1 then r.pcrcNow.crcOf (c.data.take (c.readable s.ltNs))
          else r.pcrcNow.result r.pcrcReg)
      | 0x200 => r.tx0.cmd
      | 0x220 => r.tx1.cmd
      | 0x208 => txbStat r.tx0
      | 0x228 => txbStat r.tx1
      | 0x210 => BitVec.ofNat 64 r.tx0.ns
      | 0x230 => BitVec.ofNat 64 r.tx1.ns
      | _ => 0
    (v, s)

/-- PCRC_INIT: the value, and with AUTO = 0 a restart (R203). -/
def State.pcrcInit (s : State) (n : Nat) (v : Word) : State :=
  s.rookUpd n fun r =>
    let w : Word := BitVec.ofNat 64 (bitsOf v 31 0)
    { r with
      pcrc := { r.pcrc with init := w }
      pcrcReg := if bitsOf r.pcrcNow.cfg 26 26 == 0 then { r.pcrcNow with init := w }.start else r.pcrcReg }

/-- Bytes fed with AUTO = 0. -/
def State.pcrcFeed (s : State) (n : Nat) (l : List Byte) : State :=
  s.rookUpd n fun r =>
    if bitsOf r.pcrcNow.cfg 26 26 == 0 then { r with pcrcReg := l.foldl r.pcrcNow.feed r.pcrcReg } else r

/-- EV_CLR: each 1 clears that sticky event (R199). -/
def State.evClr (s : State) (n m : Nat) : State :=
  s.rookUpd n fun r => { r with ev := r.ev &&& (0x1E3 - (m &&& 0x1E3)) }

/-- An OUT to transmit buffer `b` at offset `o`. -/
def State.txPut (s : State) (n b o : Nat) (v : Word) : State :=
  if ((s.rook n).tx b).busy then s.txIgnored n b
  else s.rookUpd n fun r => r.setTxb b { r.tx b with mem := memPutWord (r.tx b).mem o v }

/-- An OUT to the local window. -/
def State.lioOut (s : State) (n a : Nat) (v : Word) : State :=
  if 0xD000 ≤ a then s.txPut n 1 (a - 0xD000) v
  else if 0xA000 ≤ a then s.txPut n 0 (a - 0xA000) v
  else if 0x400 ≤ a && a < 0x800 then s.lioMqfOut n a v
  else match a with
    | 0x08 => s.evClr n v.toNat
    | 0x20 => s.rookUpd n fun r => { r with timer := v, ev := r.ev &&& 0x163 }
    | 0x48 => s.rookUpd n fun r => { r with rxThr := bitsOf v 13 0 }
    | 0x50 => if bitsOf v 0 0 == 1 then s.rxRelease n else s
    | 0x58 => s.wr (PEA_Rn_STAT_NET_UP n) (bitsOf v 0 0)
    | 0x100 =>
      if bitsOf v 31 30 == 3 then s.lioErr n
      else s.rookUpd n fun r => { r with pcrc := { r.pcrc with cfg := v &&& 0xFFFFFFFFFC000000 } }
    | 0x108 => s.rookUpd n fun r => { r with pcrc := { r.pcrc with range := v &&& 0x00003FFF00003FFF } }
    | 0x110 => s.pcrcInit n v
    | 0x118 => s.rookUpd n fun r => { r with pcrc := { r.pcrc with xor := v &&& 0xFFFFFFFF } }
    | 0x120 => s.pcrcFeed n (bytesLE 8 v.toNat)
    | 0x128 => s.pcrcFeed n (bytesLE 1 v.toNat)
    | 0x200 => s.txCmd n 0 v
    | 0x220 => s.txCmd n 1 v
    | _ => s

/-! ## The process-image port (R207 to R212) -/

/-- Entry `w` of the connection map is valid and covers byte `o` of the device (`dir` 0) or host (1) region. -/
def connCovers (w : Word) (dir o : Nat) : Bool :=
  bitsOf w 63 63 == 1 && bitsOf w 62 62 == dir
    && decide (8 * bitsOf w 21 5 ≤ o) && decide (o < 8 * (bitsOf w 21 5 + bitsOf w 4 0 + 1))

/-- Some valid entry covers the byte. -/
def State.connAny (s : State) (dir o : Nat) : Bool := s.cmap.any fun e => connCovers e.2 dir o

/-- The lowest valid entry of engine `n` that covers the byte: entries may overlap. -/
def State.connAt (s : State) (n dir o : Nat) : Option (Nat × Word) :=
  s.cmap.find? fun e => connCovers e.2 dir o && bitsOf e.2 61 57 == n

/-- The engine's connection at an offset of the role view. -/
def State.connRole (s : State) (n off : Nat) : Option (Nat × Word) :=
  if off < 0x100000 then s.connAt n 0 off
  else if 0x200000 ≤ off && off < 0x300000 then s.connAt n 1 (off - 0x200000) else none

/-- May engine `n` read the port at role offset `off` (Table R210)? -/
def State.piInOk (s : State) (n off : Nat) : Bool :=
  off < 0x300000 &&
    ((s.rd (PEA_Rn_PIRD_LO n) ≤ off && off < s.rd (PEA_Rn_PIRD_HI n)) || (s.connRole n off).isSome)

/-- May engine `n` write it, inside a region or outside one? -/
def State.piOutOk (s : State) (n off : Nat) (region : Bool) : Bool :=
  let inWr := s.rd (PEA_Rn_PIWR_LO n) ≤ off && off < s.rd (PEA_Rn_PIWR_HI n)
  off < 0x100000 && (if region then inWr || (s.connAt n 0 off).isSome else inWr && !s.connAny 0 off)

/-- The port word at role offset `off`: in SAFEOP and SAFESTOP an output connection gives its safe value
(R212); an uncorrectable word gives 0 (R533). -/
def State.piRead (s : State) (n off : Nat) : Word × State :=
  let safe := if (s.mode == 6 || s.mode == 9) && decide (0x200000 ≤ off) then s.connRole n off else none
  match safe with
  | some e => ((mapGet (fun _ => []) s.dcp.safe e.1).getD ((off - 0x200000) / 8 - bitsOf e.2 21 5) 0, s)
  | none =>
    match s.roleAddr off with
    | none => (0, s)
    | some a => let (w, u, s') := s.sramRead false a; (if u then 0 else w, s')

/-- A port access takes its slot (R208, R209): the slot's cycle, and whether it was late. -/
def RookSt.ioTake (r : RookSt) : Bool × RookSt :=
  let late := match r.ioIssue with | none => false | some c => decide (r.cyc < c + 8)
  let slot := if late then max r.cyc (r.ioSlot + 8) else r.cyc
  (late, { r with ioIssue := some r.cyc, ioSlot := slot })

/-- Words of a drain that one input connection covers. -/
def drainOf (e : Nat × Word) (d : List (Nat × Word)) : List (Nat × Word) :=
  d.filter fun w => decide (8 * bitsOf e.2 21 5 ≤ w.1) && decide (w.1 < 8 * (bitsOf e.2 21 5 + bitsOf e.2 4 0 + 1))

/-- Every word of an input connection is in the drain. -/
def drainCovers (e : Nat × Word) (d : List (Nat × Word)) : Bool :=
  (List.range (bitsOf e.2 4 0 + 1)).all fun i => d.any fun w => w.1 == 8 * (bitsOf e.2 21 5 + i)

/-- A drain lands at one edge (R205, R211): whole items with their FRESH bits, words outside every
connection; words of a connection covered in part are discarded and counted. -/
def State.drainLand (s : State) (n : Nat) (d : List (Nat × Word)) : State :=
  let conns := s.cmap.filter fun e => bitsOf e.2 63 63 == 1 && bitsOf e.2 62 62 == 0 && !(drainOf e d).isEmpty
  let part := conns.filter fun e => !drainCovers e d
  let whole := conns.filter fun e => drainCovers e d
  let keep := d.filter fun w => !part.any fun e => !(drainOf e [w]).isEmpty
  let s := keep.foldl (fun t w => t.sramWrite false (t.fillBase + w.1) (bytesLE 8 w.2.toNat)) s
  let s := whole.foldl (fun t e => t.setFresh e.1) s
  s.incBy (PEA_Rn_CNT_PARTIAL_ITEM n) part.length

/-- The drains of engine `n` land, oldest first, each with COMMITTED. -/
def State.drainsLand (s : State) (n : Nat) : List (List (Nat × Word)) → State
  | [] => s
  | d :: r => ((((s.rookUpd n fun q => { q with drains := r }).drainLand n d).rookEvent n 8)).drainsLand n r

/-- Before an access of engine `n` to the port, the drains that it handed over earlier have landed: its port accesses
take effect in issue order (R162, R208). -/
def State.portOrder (s : State) (n : Nat) : State := s.drainsLand n (s.rook n).drains

/-- IN from local IO: ready at distance 4. -/
def State.rookLioIn (s : State) (n rd a : Nat) : State :=
  let (v, s) := s.lioIn n a
  s.setRook n (((s.rook n).produce rd v 4).next)

/-- IN through the process image port: the value is there from the port's slot on. -/
def State.rookPiIn (s : State) (n rd off : Nat) : State :=
  let (v, s) := (s.portOrder n).piRead n off
  let (late, r) := (s.rook n).ioTake
  let s := s.setRook n ((r.produce rd v (r.ioSlot + 12 - r.cyc)).next)
  if late then s.inc (PEA_Rn_CNT_PI_LATE n) else s

/-- First address of the process image port in I/O space, and its window (R168). -/
def ioPiBase : Nat := 0x80000000
def ioPiOff (a : Nat) : Nat := a - ioPiBase

/-- The local window of I/O space (R168, R198). -/
def ioLocal (a : Nat) : Bool := decide (a < 0x10000)

def ioPiAt (a : Nat) : Bool := decide (ioPiBase ≤ a) && decide (a < ioPiBase + 0x400000)

/-- IN (R168): ALIGN, IOSPACE, PI_RANGE. -/
def State.rookIn (s : State) (n rd rs1 : Nat) (imm : BitVec 15) : State :=
  s.rookIssue n fun s r =>
    let a := (r.getW rs1 + imm15s imm).toNat
    if a % 8 != 0 then s.rookTrap n 0x05 (BitVec.ofNat 64 a)
    else if ioLocal a then
      s.rookLioIn n rd a
    else if !ioPiAt a then s.rookTrap n 0x07 (BitVec.ofNat 64 a)
    else
      if !s.piInOk n (ioPiOff a) then s.rookTrap n 0x0E (BitVec.ofNat 64 a)
      else s.rookPiIn n rd (ioPiOff a)

/-- OUT through the process image port outside a region. -/
def State.rookPiOut (s : State) (n off : Nat) (v : Word) : State :=
  let s := s.portOrder n
  let s := s.sramWrite false (s.fillBase + off) (bytesLE 8 v.toNat)
  let (late, r) := (s.rook n).ioTake
  let s := s.setRook n r.next
  if late then s.inc (PEA_Rn_CNT_PI_LATE n) else s

/-- OUT (R168, R180): local IO at once; the port outside a region at its slot, inside one buffered. -/
def State.rookOut (s : State) (n rs2 rs1 : Nat) (imm : BitVec 15) : State :=
  s.rookIssue n fun s r =>
    let a := (r.getW rs1 + imm15s imm).toNat
    let v := r.getW rs2
    if a % 8 != 0 then s.rookTrap n 0x05 (BitVec.ofNat 64 a)
    else if ioLocal a then (s.lioOut n a v).rookUpd n RookSt.next
    else if !ioPiAt a then s.rookTrap n 0x07 (BitVec.ofNat 64 a)
    else if !s.piOutOk n (ioPiOff a) r.spec.isSome then s.rookTrap n 0x0E (BitVec.ofNat 64 a)
    else if r.spec.isSome then (s.rookBuffer n ⟨ioPiOff a, 0, v⟩).rookUpd n RookSt.next
    else s.rookPiOut n (ioPiOff a) v

end Sys2Proof.Machine
end

