-- ==== Sys2Proof/Machine/RookCtl.lean ====
section
/-! DEFINITION. Rook loads, stores, IO, control transfers and system instructions (R167 to R172, R175 to
R189). -/

namespace Sys2Proof.Machine

/-- LDB (R167): 1 byte at a + sext(imm15), zero-extended. -/
def execLdb (n : Fin 24) (rd rs1 : BitVec 5) (imm : BitVec 15) (s : State) : Host.Outcome State Fault Refusal :=
  .next (s.rookLoad n rd.toNat rs1.toNat 1 imm false)

/-- LDH (R167): 2 bytes at a + sext(imm15), zero-extended. -/
def execLdh (n : Fin 24) (rd rs1 : BitVec 5) (imm : BitVec 15) (s : State) : Host.Outcome State Fault Refusal :=
  .next (s.rookLoad n rd.toNat rs1.toNat 2 imm false)

/-- LDW (R167): 4 bytes at a + sext(imm15), zero-extended. -/
def execLdw (n : Fin 24) (rd rs1 : BitVec 5) (imm : BitVec 15) (s : State) : Host.Outcome State Fault Refusal :=
  .next (s.rookLoad n rd.toNat rs1.toNat 4 imm false)

/-- LDD (R167): 8 bytes at a + sext(imm15), zero-extended. -/
def execLdd (n : Fin 24) (rd rs1 : BitVec 5) (imm : BitVec 15) (s : State) : Host.Outcome State Fault Refusal :=
  .next (s.rookLoad n rd.toNat rs1.toNat 8 imm false)

/-- LDBS (R167): 1 byte at a + sext(imm15), sign-extended. -/
def execLdbs (n : Fin 24) (rd rs1 : BitVec 5) (imm : BitVec 15) (s : State) : Host.Outcome State Fault Refusal :=
  .next (s.rookLoad n rd.toNat rs1.toNat 1 imm true)

/-- LDHS (R167): 2 bytes at a + sext(imm15), sign-extended. -/
def execLdhs (n : Fin 24) (rd rs1 : BitVec 5) (imm : BitVec 15) (s : State) : Host.Outcome State Fault Refusal :=
  .next (s.rookLoad n rd.toNat rs1.toNat 2 imm true)

/-- LDWS (R167): 4 bytes at a + sext(imm15), sign-extended. -/
def execLdws (n : Fin 24) (rd rs1 : BitVec 5) (imm : BitVec 15) (s : State) : Host.Outcome State Fault Refusal :=
  .next (s.rookLoad n rd.toNat rs1.toNat 4 imm true)

/-- STB (R167): the low 1 byte of w[rs2] stored at a + sext(imm15). -/
def execStb (n : Fin 24) (rs2 rs1 : BitVec 5) (imm : BitVec 15) (s : State) : Host.Outcome State Fault Refusal :=
  .next (s.rookStore n rs2.toNat rs1.toNat 1 imm)

/-- STH (R167): the low 2 bytes of w[rs2] stored at a + sext(imm15). -/
def execSth (n : Fin 24) (rs2 rs1 : BitVec 5) (imm : BitVec 15) (s : State) : Host.Outcome State Fault Refusal :=
  .next (s.rookStore n rs2.toNat rs1.toNat 2 imm)

/-- STW (R167): the low 4 bytes of w[rs2] stored at a + sext(imm15). -/
def execStw (n : Fin 24) (rs2 rs1 : BitVec 5) (imm : BitVec 15) (s : State) : Host.Outcome State Fault Refusal :=
  .next (s.rookStore n rs2.toNat rs1.toNat 4 imm)

/-- STD (R167): the low 8 bytes of w[rs2] stored at a + sext(imm15). -/
def execStd (n : Fin 24) (rs2 rs1 : BitVec 5) (imm : BitVec 15) (s : State) : Host.Outcome State Fault Refusal :=
  .next (s.rookStore n rs2.toNat rs1.toNat 8 imm)

/-- IN (R168). -/
def execIoIn (n : Fin 24) (rd rs1 : BitVec 5) (imm : BitVec 15) (s : State) : Host.Outcome State Fault Refusal :=
  .next (s.rookIn n rd.toNat rs1.toNat imm)

/-- OUT (R168). -/
def execIoOut (n : Fin 24) (rs2 rs1 : BitVec 5) (imm : BitVec 15) (s : State) : Host.Outcome State Fault Refusal :=
  .next (s.rookOut n rs2.toNat rs1.toNat imm)

/-- WAIT (R168, R169): takes one cycle when an event of the mask is set, and otherwise pauses issue; a mask
of 0 traps ILLEGAL. -/
def State.rookWait (s : State) (n rd : Nat) (imm : BitVec 15) : State :=
  s.rookIssue n fun s r =>
    let m := (imm15s imm).toNat
    if m == 0 then s.rookTrap n 0x02 (BitVec.ofNat 64 (wordI 0x52 rd 0 imm.toNat))
    else
      let e := s.rookEvents n &&& m
      if e != 0 then s.setRook n ((r.produce rd (BitVec.ofNat 64 e) 1).next)
      else s.setRook n { r.next with wait := some (rd, m) }

/-- WAIT (R169). -/
def execWait (n : Fin 24) (rd : BitVec 5) (imm : BitVec 15) (s : State) : Host.Outcome State Fault Refusal :=
  .next (s.rookWait n rd.toNat imm)

/-- WAIT_WAKE (R169): after `cycles` further cycles a waiting WAIT finds its condition true; its result is
ready, and issue resumes, in the cycle after. -/
def execWaitWake (n : Fin 24) (cycles : Nat) (s : State) : Host.Outcome State Fault Refusal :=
  let r := s.rook n
  match r.wait with
  | none => .next s
  | some (rd, m) =>
    let e := s.rookEvents n &&& m
    if !s.rookRunning n || e == 0 then .next s
    else
      let r := { r with cyc := r.cyc + cycles, wait := none }
      .next (s.setRook n { (r.produce rd (BitVec.ofNat 64 e) 1) with cyc := r.cyc + 1 })

/-- BEQ (R170). -/
def execBeq (n : Fin 24) (rs1 rs2 : BitVec 5) (off : BitVec 15) (s : State) : Host.Outcome State Fault Refusal :=
  .next (s.rookBranch n (wordI 0x60 rs1.toNat rs2.toNat off.toNat) fun r =>
    let a := r.getW rs1.toNat
    let b := r.getW rs2.toNat
    if a == b then some (r.relative (off15 off)) else none)

/-- BNE (R170). -/
def execBne (n : Fin 24) (rs1 rs2 : BitVec 5) (off : BitVec 15) (s : State) : Host.Outcome State Fault Refusal :=
  .next (s.rookBranch n (wordI 0x61 rs1.toNat rs2.toNat off.toNat) fun r =>
    let a := r.getW rs1.toNat
    let b := r.getW rs2.toNat
    if a != b then some (r.relative (off15 off)) else none)

/-- BLT (R170). -/
def execBlt (n : Fin 24) (rs1 rs2 : BitVec 5) (off : BitVec 15) (s : State) : Host.Outcome State Fault Refusal :=
  .next (s.rookBranch n (wordI 0x62 rs1.toNat rs2.toNat off.toNat) fun r =>
    let a := r.getW rs1.toNat
    let b := r.getW rs2.toNat
    if decide (a.toInt < b.toInt) then some (r.relative (off15 off)) else none)

/-- BGE (R170). -/
def execBge (n : Fin 24) (rs1 rs2 : BitVec 5) (off : BitVec 15) (s : State) : Host.Outcome State Fault Refusal :=
  .next (s.rookBranch n (wordI 0x63 rs1.toNat rs2.toNat off.toNat) fun r =>
    let a := r.getW rs1.toNat
    let b := r.getW rs2.toNat
    if decide (b.toInt ≤ a.toInt) then some (r.relative (off15 off)) else none)

/-- BLTU (R170). -/
def execBltu (n : Fin 24) (rs1 rs2 : BitVec 5) (off : BitVec 15) (s : State) : Host.Outcome State Fault Refusal :=
  .next (s.rookBranch n (wordI 0x64 rs1.toNat rs2.toNat off.toNat) fun r =>
    let a := r.getW rs1.toNat
    let b := r.getW rs2.toNat
    if decide (a.toNat < b.toNat) then some (r.relative (off15 off)) else none)

/-- BGEU (R170). -/
def execBgeu (n : Fin 24) (rs1 rs2 : BitVec 5) (off : BitVec 15) (s : State) : Host.Outcome State Fault Refusal :=
  .next (s.rookBranch n (wordI 0x65 rs1.toNat rs2.toNat off.toNat) fun r =>
    let a := r.getW rs1.toNat
    let b := r.getW rs2.toNat
    if decide (b.toNat ≤ a.toNat) then some (r.relative (off15 off)) else none)

/-- JMP (R170). -/
def execJmp (n : Fin 24) (off : BitVec 25) (s : State) : Host.Outcome State Fault Refusal :=
  .next (s.rookBranch n (wordJ 0x66 off.toNat) fun r => some (r.relative (off25 off)))

/-- CALL (R170, R175). -/
def execCall (n : Fin 24) (off : BitVec 25) (s : State) : Host.Outcome State Fault Refusal :=
  .next (s.rookCall n (wordJ 0x67 off.toNat) fun r => r.relative (off25 off))

/-- JR (R170). -/
def execJr (n : Fin 24) (rs1 : BitVec 5) (s : State) : Host.Outcome State Fault Refusal :=
  .next (s.rookBranch n (wordI 0x68 0 rs1.toNat 0) fun r => some (r.getW rs1.toNat).toNat)

/-- CALLR (R170, R175). -/
def execCallr (n : Fin 24) (rs1 : BitVec 5) (s : State) : Host.Outcome State Fault Refusal :=
  .next (s.rookCall n (wordI 0x69 0 rs1.toNat 0) fun r => (r.getW rs1.toNat).toNat)

/-- RET (R170, R175). -/
def execRet (n : Fin 24) (s : State) : Host.Outcome State Fault Refusal :=
  .next (s.rookRet n (wordJ 0x6A 0))

/-- Special register `k` as MFS reads it (Table R154). -/
def RookSt.getSr (r : RookSt) (k : Nat) : Option Word :=
  match k with
  | 0 => some r.esr
  | 1 => some r.tpc
  | 2 => some r.tbt
  | 3 => some r.tval
  | 4 => some r.tvb
  | 5 => some r.rsp
  | 6 => some r.rem
  | 7 => some (BitVec.ofNat 64 r.cyc)
  | _ => none

/-- MFS (R154, R172): a number that is not listed traps ILLEGAL. -/
def execMfs (n : Fin 24) (rd sr : BitVec 5) (s : State) : Host.Outcome State Fault Refusal :=
  .next (s.rookIssue n fun s r =>
    match r.getSr sr.toNat with
    | none => s.rookTrap n 0x02 (BitVec.ofNat 64 (0x70 * 2 ^ 25 + rd.toNat * 2 ^ 20 + sr.toNat))
    | some v => s.setRook n (r.produce rd.toNat v 1).next)

/-- A value that an MTS may write (R154, R177, R190). -/
def mtsOk (k : Nat) (v : Word) : Bool :=
  match k with
  | 0 => bitsOf v 17 16 != 3
  | 1 => true
  | 2 => true
  | 4 => true
  | 5 => decide (bitsOf v 8 4 ≤ 16)
  | _ => false

/-- MTS (R154, R161, R172): ready at distance 1. -/
def execMts (n : Fin 24) (rs1 sr : BitVec 5) (s : State) : Host.Outcome State Fault Refusal :=
  .next (s.rookIssue n fun s r =>
    let v := r.getW rs1.toNat
    if mtsOk sr.toNat v then s.setRook n (r.produce (64 + sr.toNat) v 1).next
    else s.rookTrap n 0x02 (BitVec.ofNat 64 (0x71 * 2 ^ 25 + rs1.toNat * 2 ^ 15 + sr.toNat)))

/-- The region of engine `n` commits (R204): D-space stores in order, port entries to the drain, deferred
packets (R441). The drain counts as a port access of this cycle, and in PI_LATE when it is late (R208, R209). -/
def State.rookCommit (s : State) (n : Nat) : State :=
  let r := s.rook n
  let stores := r.commit.filter fun c => c.width != 0
  let drain := (r.commit.filter fun c => c.width == 0).map fun c => (c.addr, c.data)
  let s := stores.foldl (fun t c => t.dWrite n c.addr c.width c.data) s
  let r := { r with spec := none, commit := [], drains := if drain.isEmpty then r.drains else r.drains ++ [drain] }
  let s := if !drain.isEmpty && r.ioTake.1 then s.inc (PEA_Rn_CNT_PI_LATE n) else s
  let r := if drain.isEmpty then r else r.ioTake.2
  let s := (s.setRook n r).setSpeca n false
  (s.inc (PEA_Rn_CNT_COMMITS n)).pqRegionCommit n

/-- The verdict of the frame that a region is bound to applies (R204): GOOD with no overflow commits,
everything else squashes. -/
def State.rookVerdict (s : State) (n verdict : Nat) : State :=
  if verdict == 1 && !(s.rook n).esrBit 10 then s.rookCommit n else s.rookSquashVector n

/-- SPEC (R179, R204): issue pauses until every write in flight is applied; w8 to w31 and RSP are recorded.
A region over a frame whose verdict is known ends in the cycle after. -/
def execSpec (n : Fin 24) (s : State) : Host.Outcome State Fault Refusal :=
  .next (s.rookIssue n fun s r =>
    if r.spec.isSome || r.tin then s.rookTrap n 0x0B 0
    else
      let c := max r.cyc r.lastReady
      let r := { r.drainAll with cyc := c }
      let rec_ : SpecRec := ⟨r.w.filter fun e => decide (8 ≤ e.1), r.rsp, r.cur⟩
      let s := (s.setRook n { r.next with spec := some rec_, commit := [] }).setSpeca n true
      let x := (s.rook n).rx r.cur
      if x.held && x.verdict != 0 then s.rookVerdict n x.verdict else s)

/-- BRK (R172). -/
def execBrk (n : Fin 24) (s : State) : Host.Outcome State Fault Refusal :=
  .next (s.rookIssue n fun s _ => s.rookTrap n 0x01 0)

/-- SVC (R172). -/
def execSvc (n : Fin 24) (code : BitVec 15) (s : State) : Host.Outcome State Fault Refusal :=
  .next (s.rookIssue n fun s _ => s.rookTrap n 0x0D (BitVec.ofNat 64 code.toNat))

/-- RTE (R172, R188): ILLEGAL with TIN = 0, SLOT in a delay slot; otherwise its two delay slots issue and
execution resumes at TPC. -/
def execRte (n : Fin 24) (s : State) : Host.Outcome State Fault Refusal :=
  .next (s.rookIssue n fun s r =>
    let word : Word := BitVec.ofNat 64 (wordJ 0x75 0)
    if r.slot != 0 then s.rookTrap n 0x03 word
    else if !r.tin then s.rookTrap n 0x02 word
    else s.setRook n { r.transfer 0 with rte := true })

/-- HALT (R183, R189): issue stops once every write in flight is applied; an open region is squashed. -/
def execHalt (n : Fin 24) (s : State) : Host.Outcome State Fault Refusal :=
  .next (s.rookIssue n fun s r =>
    (s.rookSquash n).rookHalt n 1 0 r.pc)

/-- PIPELINE_WRITE_READY (R160): the writes of engine `n` whose ready cycle has come are applied. -/
def execPipelineWriteReady (n : Fin 24) (s : State) : Host.Outcome State Fault Refusal :=
  .next (if s.rookRunning n then s.rookUpd n fun r => r.applyTo r.cyc else s)

/-- ROOK_UNDEFINED_INSTRUCTION (R156): the word has an undefined opcode or a non-zero reserved field, and
traps ILLEGAL. A word that is defined raises nothing. -/
def execRookUndefinedInstruction (n : Fin 24) (word : BitVec 32) (s : State) : Host.Outcome State Fault Refusal :=
  .next (if rookUndefined word.toNat then
    s.rookIssue n fun s _ => s.rookTrap n 0x02 (BitVec.ofNat 64 word.toNat) else s)

/-- ROOK_ISPACE_FETCH (R170, R184): a fetch outside I-space traps ISPACE. -/
def execRookIspaceFetch (n : Fin 24) (s : State) : Host.Outcome State Fault Refusal :=
  .next (s.rookIssue n fun s _ => s)

end Sys2Proof.Machine
end

