-- ==== Sys2Proof/Machine/Pea.lean ====
section
/-! DEFINITION. Rook engine states, engine ports, receive and transmit buffers, verdicts and drains
(chapter 07, R192 to R218). -/

namespace Sys2Proof.Machine

/-! ## Engine states (R192 to R195) -/

def engDom (n : Nat) : Nat := if n < 12 then 4 else 5

def State.engState (s : State) (n : Nat) : Nat := s.rd (PEA_Rn_STAT_STATE n)

/-- The mode holds engine `n` OFF (R193, R218). -/
def State.engHeld (s : State) (n : Nat) : Bool :=
  s.mode == 3 || (s.mode == 0xB && !(s.rook n).listenOnly)

/-- Everything of an engine but its spore and the drains handed over returns to its reset (R193, R194). -/
def State.engClear (s : State) (n : Nat) : State :=
  s.rookUpd n fun r => { RookSt.reset with inst := r.inst, listenOnly := r.listenOnly, drains := r.drains }

/-- STARTING (R193). -/
def State.engStart (s : State) (n : Nat) : State :=
  ((s.engClear n).wr (PEA_Rn_STAT_STATE n) 1).wrB (PEA_Rn_STAT_NET_UP n) false

/-- A write of EN = 1 (R193, R194). -/
def State.engEnable (s : State) (n : Nat) : State :=
  let s := s.wrB (PEA_Rn_CTL_EN n) true
  if s.engState n == 4 then s.wrB (PEA_Rn_STAT_PENDING n) true
  else if s.engState n == 0 && !s.engHeld n then s.engStart n
  else s

/-- ENGINE_ENABLE (R193). -/
def execEngineEnable (n : Fin 24) (s : State) : Host.Outcome State Fault Refusal :=
  .next (if s.domOn (engDom n) then s.engEnable n else s)

/-- ENGINE_START_DONE (R193): RUNNING from START. -/
def execEngineStartDone (n : Fin 24) (s : State) : Host.Outcome State Fault Refusal :=
  if !s.domOn (engDom n) || s.engState n != 1 then .next s
  else
    let s := s.wr (PEA_Rn_STAT_STATE n) 2
    .next (s.rookUpd n fun r => { r with pc := s.rd (PEA_Rn_CTL_START n), cyc := 0 })

/-- STOPPING (R194): the region is squashed without vectoring, frames in the receive buffers and cyclic
frames held for ETH_TX are discarded. Its entry is a reset of the engine as an agent (R425). -/
def State.engStop (s : State) (n : Nat) : State :=
  let s := (s.rookSquash n).wr (PEA_Rn_STAT_STATE n) 4
  let drop := fun (t : TxBuf) => if t.state == 1 then { t with state := 4 } else t
  let s := s.rookUpd n fun r => { r with
    rx0 := { r.rx0 with held := false }, rx1 := { r.rx1 with held := false }
    tx0 := drop r.tx0, tx1 := drop r.tx1, wait := none }
  (s.epCheck n).agentReset (agRook n)

/-- A write of EN = 0 (R194). -/
def State.engDisable (s : State) (n : Nat) : State :=
  let s := s.wrB (PEA_Rn_CTL_EN n) false
  if s.engState n == 4 then s.wrB (PEA_Rn_STAT_PENDING n) false
  else if s.engState n == 0 then s
  else s.engStop n

/-- ENGINE_DISABLE (R194). -/
def execEngineDisable (n : Fin 24) (s : State) : Host.Outcome State Fault Refusal :=
  .next (if s.domOn (engDom n) then s.engDisable n else s)

/-- ENGINE_STOP_DONE (R194): OFF; only CTL, PIRD, PIWR, the memories and the HALT fields survive. -/
def execEngineStopDone (n : Fin 24) (s : State) : Host.Outcome State Fault Refusal :=
  if !s.domOn (engDom n) || s.engState n != 4 then .next s
  else
    let pend := s.bit (PEA_Rn_STAT_PENDING n)
    let s := (s.engClear n).wr (PEA_Rn_STAT_STATE n) 0
    let s := (s.wrB (PEA_Rn_STAT_PENDING n) false).wrB (PEA_Rn_STAT_NET_UP n) false
    let s := (s.wrB (PEA_Rn_STAT_LIO_ERR n) false).setReg (PEA_Rn_CNT n) 0
    .next (if pend && s.bit (PEA_Rn_CTL_EN n) && !s.engHeld n then s.engStart n else s)

/-- The reaction of engine `n` to a mode just entered (R193, R218). -/
def State.engMode (s : State) (n : Nat) : State :=
  if !s.domOn (engDom n) then s
  else if s.engHeld n then
    (if s.engState n == 0 || s.engState n == 4 then s.wrB (PEA_Rn_STAT_PENDING n) false else s.engStop n)
  else if (s.mode == 4 || s.mode == 0xB) && s.bit (PEA_Rn_CTL_EN n) then s.engEnable n
  else s

/-- Every engine's reaction to a mode just entered. -/
def State.enginesMode (s : State) : State := (List.range 24).foldl (fun t n => t.engMode n) s

/-! ## Engine ports (R196, R197) -/

/-- BOUND of engine port `k`. -/
def State.epBound (s : State) (k : Nat) : Nat :=
  (List.range 24).foldl (fun m n => if s.rd (PEA_Rn_CTL_BIND n) == k then m + 2 ^ n else m) 0

/-- The dispatch entry of a frame: the engine, if the entry is valid and the engine RUNNING; one that is not bound to
this port cannot receive. -/
def State.epEngine (s : State) (k : Nat) (f : EthFrame) : Option Nat :=
  let src := s.rd (PEA_EPk_CTL_KEY_SRC k)
  let e := if src == 1 then (match f.stream with | none => 0 | some h => h % 64)
    else if src == 2 then f.ingress else 0
  let n := s.rd (PEA_EPk_DISPj_ENGINE k (e / 8) (e % 8))
  if s.bit (PEA_EPk_DISPj_VALID k (e / 8) (e % 8)) && n < 24 && s.rookRunning n
      && s.rd (PEA_Rn_CTL_BIND n) == k then some n else none

/-- The buffer the next frame fills: alternately, the other when that one is held. -/
def RookSt.freeBuf (r : RookSt) : Option Nat :=
  if !(r.rx r.fill).held then some r.fill else if !(r.rx (1 - r.fill)).held then some (1 - r.fill) else none

/-- A frame begins in a receive buffer, from port `p`. -/
def State.rxBegin (s : State) (n b : Nat) (f : EthFrame) (p : Nat) (bad : Bool) : State :=
  let l := f.copyBytes p
  s.rookUpd n fun r =>
    let x : RxBuf :=
      { held := true, data := l ++ fcsBytes l bad, bytes := 0, born := f.born, bt := f.bt, ended := false, verdict := 0
        ingress := f.ingress, cls := f.cls, stream := f.stream, gen := f.gen, ts := f.ts
        bad := bad, aborted := f.aborted, pcrc := r.pcrc }
    let r1 := r.setRx b x
    { r1 with fill := 1 - b, cur := if (r.rx (1 - b)).held then 1 - b else b }

/-- Engine port `k` begins a frame in buffer `b` of engine `n`. -/
def State.epBegin (s : State) (k n b : Nat) (f : EthFrame) (bad : Bool) : State :=
  (s.setSwc { s.swc with epRx := mapPut (fun _ => none) s.swc.epRx (10 + k) (some (2 * n + b)) }).rxBegin n b f (10 + k) bad

/-- Dispatch at engine port `k` from class `c` down, `c` + 1 classes left: a frame without a valid entry or
a RUNNING engine is dropped; one whose engine has no free buffer waits. -/
def State.epDispatch (s : State) (k : Nat) : Nat → State
  | 0 => s
  | c + 1 =>
    let p := 10 + k
    if !s.classReady p c then s.epDispatch k c
    else match (s.queue p c).head? with
      | none => s
      | some id =>
        match s.frame id with
        | none => s
        | some f =>
          match s.epEngine k f with
          | none =>
            (((s.creditPort p).unqueue p c id).inc (PEA_EPk_STAT_DISP_DROP k)).frameRelease id
          | some n =>
            match (s.rook n).freeBuf with
            | none => s.epDispatch k c
            | some b =>
              let s := ((s.creditPort p).unqueue p c id).setTx p (some (s.txOpen p id f false))
              s.epBegin k n b f false

/-- A stomped frame that engine port `k` transmits cut-through begins in a buffer of its engine, if one is free
(R143). -/
def State.epStomp (s : State) (k : Nat) (t : TxCur) : State :=
  if !t.stomp || (mapGet (fun _ => none) s.swc.epRx (10 + k)).isSome then s
  else match s.frame t.frame with
    | none => s
    | some f =>
      match s.epEngine k f with
      | none => s
      | some n =>
        match (s.rook n).freeBuf with
        | none => s
        | some b => s.epBegin k n b f true

/-- Engine port `k` starts a frame, with the credits of now. -/
def State.epStart (s : State) (k : Nat) : State :=
  match s.txCur (10 + k) with
  | some t => s.epStomp k t
  | none => (s.creditPort (10 + k)).epDispatch k 8

/-- EP_DISPATCH (R197): the frame at the head of a class queue goes to its engine. -/
def execEpDispatch (k : Fin 4) (s : State) : Host.Outcome State Fault Refusal :=
  .next (if s.domOn 6 then s.epStart k else s)

/-- The engine port has delivered the last byte of the frame it carries. A stomped frame that had not
begun in a buffer begins there now, if one is free. -/
def State.epEnd (s : State) (k : Nat) : State :=
  match mapGet (fun _ => none) s.swc.epRx (10 + k) with
  | none => s
  | some e =>
    let s := s.setSwc { s.swc with epRx := mapPut (fun _ => none) s.swc.epRx (10 + k) none }
    s.rookUpd (e / 2) fun r =>
      let x := r.rx (e % 2)
      r.setRx (e % 2) { x with ended := true, bytes := if x.held then x.data.length else 0 }

/-! ## Local window events as commands -/

/-- RX_RELEASE (R201). -/
def execRxRelease (n : Fin 24) (s : State) : Host.Outcome State Fault Refusal :=
  .next (if s.rookRunning n then s.rxRelease n else s)

/-- EV_CLR (R199). -/
def execEvClr (n : Fin 24) (mask : BitVec 64) (s : State) : Host.Outcome State Fault Refusal :=
  .next (if s.rookRunning n then s.evClr n mask.toNat else s)

/-- ROOK_TIMER_EXPIRE (R198, R199): LT reaches TIMER. -/
def execRookTimerExpire (n : Fin 24) (s : State) : Host.Outcome State Fault Refusal :=
  .next (if s.rookRunning n then
    (s.advanceTo ((s.rook n).timer.toNat * nsU)).rookEvent n 7 else s)

/-- PCRC_INIT_WRITE (R203). -/
def execPcrcInitWrite (n : Fin 24) (v : BitVec 64) (s : State) : Host.Outcome State Fault Refusal :=
  .next (if s.rookRunning n then s.pcrcInit n v else s)

/-- PCRC_FEED (R203): 8 bytes, [7:0] first. -/
def execPcrcFeed (n : Fin 24) (v : BitVec 64) (s : State) : Host.Outcome State Fault Refusal :=
  .next (if s.rookRunning n then s.pcrcFeed n (bytesLE 8 v.toNat) else s)

/-- PCRC_FEEDB (R203). -/
def execPcrcFeedb (n : Fin 24) (v : BitVec 8) (s : State) : Host.Outcome State Fault Refusal :=
  .next (if s.rookRunning n then s.pcrcFeed n [v] else s)

/-- TX_GO (R213): a write of TXb_CMD. -/
def execTxGo (n : Fin 24) (b : Fin 2) (cmd : BitVec 64) (s : State) : Host.Outcome State Fault Refusal :=
  .next (if s.rookRunning n then s.txCmd n b (putBits cmd 63 63 1) else s)

/-- The buffer of engine `n` becomes DONE or DROPPED, with TX_DONE, if it is SENDING (R199, R213). -/
def State.txFinish (s : State) (n b : Nat) (sent : Bool) : State :=
  if ((s.rook n).tx b).state == 2 then
    (s.rookUpd n fun r => r.setTxb b { r.tx b with state := if sent then 3 else 4 }).rookEvent n 5
  else s

/-- TX_BUFFER_DONE (R213): every copy of the buffer's frame has finished or been discarded. -/
def execTxBufferDone (n : Fin 24) (b : Fin 2) (s : State) : Host.Outcome State Fault Refusal :=
  match s.swc.txDone.find? fun e => e.1 == 2 * n.val + b.val with
  | none => .next s
  | some e => .next ((s.setSwc { s.swc with txDone := s.swc.txDone.erase e }).txFinish n b e.2)

/-! ## Verdicts and drains (R202 to R206, R211) -/

/-- The verdict of a frame that has ended (R202). -/
def RxBuf.judge (x : RxBuf) : Nat :=
  if x.aborted || !x.ended then 4
  else if x.bad then 2
  else if x.pcrc.fails x.data then 3
  else 1

/-- A WAIT that waits has seen `cycles` further cycles. -/
def RookSt.waited (r : RookSt) (cycles : Nat) : RookSt := if r.wait.isSome then { r with cyc := r.cyc + cycles } else r

/-- A verdict ends the region of engine `n`. One that squashes and falls in the issue cycle of the next instruction
(`atIssue`) waits for it, so that a trap of that instruction carries it out; GOOD commits first (R206). -/
def State.verdictEnds (s : State) (n v : Nat) (atIssue : Bool) : State :=
  if atIssue && (s.rook n).wait.isNone && !(v == 1 && !(s.rook n).esrBit 10) then
    s.rookUpd n fun r => { r with squashDue := true }
  else s.rookVerdict n v

/-- FRAME_VERDICT (R202, R204): the verdict of a received frame becomes known and ends the region bound to it. A frame
that no engine port fills any more and that never ended is ABORTED. -/
def execFrameVerdict (n : Fin 24) (v : VerdictAt) (s : State) : Host.Outcome State Fault Refusal :=
  let b := v.b
  let x := (s.rook n).rx b
  let filling := s.swc.epRx.any fun e => e.2 == some (2 * n.val + b.val)
  if filling || x.data.isEmpty && !x.aborted || x.verdict != 0 || !s.domOn (engDom n) then .next s
  else
    let j := x.judge
    let s := s.rookUpd n fun r => (r.setRx b { x with verdict := j, ended := true }).waited v.cycles
    match (s.rook n).spec with
    | none => .next s
    | some p => .next (if p.buf == b.val && s.rookRunning n then s.verdictEnds n j v.atIssue else s)

/-- DRAIN_LAND (R205): the oldest drain of engine `n` lands, whatever the engine has done since. -/
def execDrainLand (n : Fin 24) (s : State) : Host.Outcome State Fault Refusal :=
  match (s.rook n).drains with
  | [] => .next s
  | d :: r =>
    if !s.domOn (engDom n) then .next s
    else
      let s := s.rookUpd n fun q => { q with drains := r }
      .next ((s.drainLand n d).rookEvent n 8)

/-! ## Phases ROOK_IN and ETH_TX (R25, R199, R214) -/

/-- CYC_START in every RUNNING engine, with the cycle number. -/
def State.rooksCycStart (s : State) : State :=
  let c : Word := s.reg NTU_CYC_COUNT &&& 0x7FFFFFFFFFFFFFFF
  (List.range 24).foldl (fun t n =>
    if t.rookRunning n then (t.rookUpd n fun r => { r with cycle := c }).rookEvent n 0 else t) s

/-- A held cyclic frame of buffer `b` is released, also where its engine has halted since (R214). -/
def State.txRelease (s : State) (n b : Nat) : State :=
  if s.domOn (engDom n) && ((s.rook n).tx b).state == 1 then s.txEnter n b else s

/-- ETH_TX in every RUNNING engine; held frames enter their ports in engine and buffer order. -/
def State.rooksEthTx (s : State) : State :=
  (List.range 24).foldl (fun t n => ((t.rookEvent n 1).txRelease n 0).txRelease n 1) s

end Sys2Proof.Machine
end

