-- ==== Sys2Proof/Machine/Frames.lean ====
section
/-! DEFINITION. Egress: selection and start of frames (R133, R136, R139), their end with one-step insertion,
residence correction, asymmetry and timestamps (R83 to R88, R215). -/

namespace Sys2Proof.Machine

/-- The highest class of port `p`, below `c`, that is ready and satisfies `ok`. -/
def State.pickClass (s : State) (p : Nat) (ok : Nat → Bool) : Nat → Option Nat
  | 0 => none
  | c + 1 => if s.classReady p c && ok c then some c else s.pickClass p ok c

/-- The head of queue (`p`, `c`) starts. -/
def State.startFrame (s : State) (p c : Nat) : State :=
  match (s.queue p c).head? with
  | none => s
  | some id =>
    match s.frame id with
    | none => s
    | some f => ((s.creditPort p).unqueue p c id).setTx p (some (s.txOpen p id f false))

/-- A preempted frame may resume on port `p`: its gate is open and it is not held. A pause lets it be completed (R106),
and so does the shutdown of the port, which no gate delays (R99). -/
def State.resumeOk (s : State) (p c : Nat) : Bool :=
  let st := s.rd (EPC_PORTp_STAT_STATE p)
  st == 4 || (st == 3 && !(s.mode == 0xB && decide (p < 8)) && s.gateOpen p c && !s.bit (SWC_PORTp_PRE_HOLD p))

/-- Select and start (R133), with the credits of now. A frame in transmission that is preemptable yields to an express
class that is ready; a preempted frame resumes before any other preemptable frame starts. -/
def State.egressStart (s : State) (p : Nat) : State :=
  let s := s.creditPort p
  let express := fun c => !s.preemptable p c
  match s.txCur p with
  | some t =>
    if s.preemptable p t.cls && (s.txHeld p).isNone then
      match s.pickClass p express 8 with
      | some c => (s.setHeld p (some t)).startFrame p c
      | none => s
    else s
  | none =>
    match s.txHeld p with
    | some h =>
      match s.pickClass p express 8 with
      | some c => s.startFrame p c
      | none =>
        if s.resumeOk p h.cls then (s.setHeld p none).setTx p (some h) else s
    | none =>
      match s.pickClass p (fun _ => true) 8 with
      | some c => s.startFrame p c
      | none => s

/-! ## Cell errors (R142, R143) -/

/-- A frame that turns out bad while port `p` transmits it: the port ends it stomped, an engine port's
receive buffer turns bad, and HP and MP discard it. -/
def State.stompCur (s : State) (id p : Nat) : State :=
  match s.txCur p with
  | none => s
  | some t =>
    if t.frame != id then s
    else if decide (14 ≤ p) then (s.creditPort p).setTx p none
    else match (if decide (p < 10) then none else mapGet (fun _ => none) s.swc.epRx p) with
      | none => s.setTx p (some { t with stomp := true })
      | some e => s.rookUpd (e / 2) fun r =>
        let x := r.rx (e % 2)
        let l := x.data.take (x.data.length - 4)
        if x.held then r.setRx (e % 2) { x with data := l ++ fcsBytes l true, bad := true, aborted := true } else r

/-- The same where its transmission has been preempted. -/
def State.stompTx (s : State) (id p : Nat) : State :=
  (s.setHeld p ((s.txHeld p).map fun c => if c.frame == id then { c with stomp := true } else c)).stompCur id p

/-- An uncorrectable error in a cell of frame `id` (R142): the egresses that transmit it stomp it, every other
egress discards it, and STOMPED counts it once. -/
def State.cellFault (s : State) (id : Nat) : State :=
  match s.frame id with
  | none => s
  | some f =>
    let s := (s.putFrame id (some { f with bad := true, aborted := true })).inc SWC_CNT0_BUF_ECC
    let s := s.mirDropOnce id 0x1C
    let s := (maskPorts f.egress).foldl (fun t p => ((t.creditPort p).unqueue p f.cls id).stompTx id p) s
    let s := if s.frameHeld id then (s.inc SWC_CNT0_STOMPED).mirDropOnce id 0x1B else s
    s.frameRelease id

/-- The cells of the frame that port `p` now transmits are read: `corr` corrected errors, and (`bad`) one that
cannot be corrected. -/
def State.cellRead (s : State) (p corr : Nat) (bad : Bool) : State :=
  let s := s.incBy SWC_BUF_STAT_ECC_CORR corr
  if !bad then s
  else match s.txCur p with
    | none => s
    | some t => s.cellFault t.frame

/-- LT in ns at which the first of the heads of port `p` that are still arriving will be there; now if there is none. -/
def State.headsHere (s : State) (p : Nat) : Nat :=
  ((List.range 8).filterMap fun c =>
    match (s.queue p c).head?.bind s.frame with
    | none => none
    | some f => if decide (s.ltNs < f.arriveAt f.len) then some (f.arriveAt f.len) else none).foldl
      (fun m t => if m == s.ltNs then t else min m t) s.ltNs

/-- Where port `p` is idle and no class is ready, time runs to the arrival of a head that is still coming in. -/
def State.awaitHead (s : State) (p : Nat) : State :=
  if s.macBusy p || (List.range 8).any fun c => s.classReady p c then s else s.advanceTo (s.headsHere p * nsU)

/-- Port `p` starts a frame; an engine port dispatches it (R133, R197). -/
def State.portStartFrame (s : State) (p : Nat) : State :=
  let s := s.awaitHead p
  if decide (10 ≤ p) && decide (p < 14) then s.epStart (p - 10) else s.egressStart p

/-- EGRESS_FRAME_START (R133): on an engine port the dispatch of R197. The errors met in the cells that the port
reads are operands (DESIGN CHOICE, log 78). -/
def execEgressFrameStart (p : Fin 16) (corr : BitVec 8) (bad : Bool) (s : State) : Host.Outcome State Fault Refusal :=
  .next (if s.domOn 6 then (s.portStartFrame p).cellRead p corr.toNat bad else s)

/-! ## Fix-ups at the transmit timestamp point -/

/-- One-step insertion (R86) of a Sync at `q` with timestamp `ts` and OFF of the domain at the timestamp point: the
frame, and 0 done, 1 skipped, 2 saturated. -/
def oneStepFix (l : List Byte) (q : PtpPos) (ts : Nat) (off : Int) : List Byte × Nat :=
  let td : Int := (ts : Int) + off
  let ns := td.fdiv 65536
  let fr := td - ns * 65536
  let ds := quotT ns 1000000000 - (beAt l (q.off + 34) 6 : Int)
  if ds < -4 ∨ 4 < ds then (l, 1)
  else
    let diff := ds * 1000000000 + (ns - quotT ns 1000000000 * 1000000000) - (beAt l (q.off + 40) 4 : Int)
    let r := fixCf l q (diff * 65536 + fr)
    (r.1, if r.2 then 2 else 0)

/-- One-step insertion at port `p`: the frame, and the counters of what could not be inserted. -/
def State.txOneStep (s : State) (p : Nat) (t : TxCur) (l : List Byte) (q : PtpPos) (ts : Nat) : List Byte × State :=
  let r := oneStepFix l q ts t.off
  (r.1, if r.2 == 1 then s.inc (NTU_PORTp_STAT_ONESTEP_SKIP p)
    else if r.2 == 2 then s.inc (NTU_PORTp_STAT_CF_SAT p) else s)

/-- A correction `d` at port `p`: the frame, and CF_SAT on overflow. -/
def State.txAddCf (s : State) (p : Nat) (l : List Byte) (q : PtpPos) (d : Int) : List Byte × State :=
  let r := fixCf l q d
  (r.1, if r.2 then s.inc (NTU_PORTp_STAT_CF_SAT p) else s)

/-- Residence time at port `p` of a frame that came in at `rx` (R88). -/
def State.txResidence (s : State) (p : Nat) (t : TxCur) (l : List Byte) (q : PtpPos) (ts rx : Nat) :
    List Byte × State :=
  let d : Int := (ts : Int) - rx
  s.txAddCf p l q (d + sarInt (d * s.rdI (NTU_TDx_RATE_RATE (bitsOf t.cfg 3 3))) 32)

/-- What the port's settings ask for a message: one-step insertion for a Sync that its sender marks (R86), residence
time between external ports (R88), asymmetry (R83). -/
def txAsks (t : TxCur) (f : EthFrame) (l : List Byte) (q : PtpPos) : Bool × Bool × Bool :=
  let ty := ptpType l q
  (bitsOf t.cfg 0 0 == 1 && !f.external && ty == 0 && ptpOneStep l q,
   bitsOf t.cfg 1 1 == 1 && f.external && f.tc && decide (ty < 4) && f.ts.isSome,
   bitsOf t.cfg 2 2 == 1 && (ty == 1 || ty == 2))

/-- The frame as it leaves port `p` with transmit timestamp `ts` (2^−16 ns), and the state with the port's
counters: one-step insertion, residence time and asymmetry, or ONESTEP_SKIP (R83, R86 to R88). -/
def State.txFix (s : State) (p : Nat) (t : TxCur) (f : EthFrame) (l : List Byte) (ts : Nat) : List Byte × State :=
  match ptpAny l with
  | none => (l, s)
  | some q =>
    let (sync, tc, asym) := txAsks t f l q
    if !(sync || tc || asym) then (l, s)
    else if !ptpPlain l q || s.preemptable p f.cls then (l, s.inc (NTU_PORTp_STAT_ONESTEP_SKIP p))
    else
      let r := if sync then s.txOneStep p t l q ts else (l, s)
      let r := if tc then r.2.txResidence p t r.1 q ts (f.ts.getD 0) else r
      if asym then r.2.txAddCf p r.1 q (-(signed 32 (bitsOf t.asym 31 0) * 256)) else r

/-- The bytes that go out: a stomped frame goes as it is. -/
def State.txBytes (s : State) (p : Nat) (t : TxCur) (f : EthFrame) (l : List Byte) (ts : Nat) : List Byte × State :=
  if t.stomp then (l, s) else s.txFix p t f l ts

/-- The transmit timestamp of a copy on external port `p` (R82, R85, R215): a PTP event message with a request goes to
the port's FIFO, and one of a cyclic class to the Rook that sent it, from the lowest port. No other class carries one
(R89, Table R113). -/
def State.txStamp (s : State) (p id : Nat) (f : EthFrame) (ts : Nat) : State :=
  if f.cls == 3 && ptpEvent f.bytes then
    (if f.tsReq then s.txtsPush p ⟨f.tag, ts / 65536, ts % 65536⟩ else s)
  else if !tsClass f.cls f.bytes || f.origin.isNone then s
  else
    let best := match f.stamp with
      | none => (p, ts)
      | some e => if decide (p < e.1) then (p, ts) else e
    s.putFrame id ((s.frame id).map fun g => { g with stamp := some best })

/-- A copy leaves external port `p`. -/
def State.txWire (s : State) (p : Nat) (t : TxCur) (f : EthFrame) (raw : Nat) : State :=
  let ts := raw + bitsOf t.lat 63 32 * 256
  let r := s.txBytes p t f (f.copyBytes p) ts
  let s := r.2.setSwc { r.2.swc with wire := (p, r.1 ++ fcsBytes r.1 t.stomp) :: r.2.swc.wire }
  if t.stomp then s else s.txStamp p t.frame f ts

/-- A copy leaves engine port `10 + k`. A stomped one that had not begun in a buffer begins there now, if one is free. -/
def State.txEngine (s : State) (k : Nat) (t : TxCur) (f : EthFrame) : State :=
  let s := s.epEnd k
  if !t.stomp then s
  else match s.epEngine k f with
    | none => s.inc (PEA_EPk_STAT_DISP_DROP k)
    | some n =>
      match (s.rook n).freeBuf with
      | none => s
      | some b =>
        let s := s.rxBegin n b f (10 + k) true
        s.rookUpd n fun r => r.setRx b { r.rx b with ended := true, bytes := (r.rx b).data.length }

/-- LT in ns at which port `p` has sent the whole of a frame that began at `t.startNs`, its preamble included, and the
frame has arrived. -/
def State.txDoneAt (s : State) (p : Nat) (t : TxCur) (f : EthFrame) : Nat :=
  max (f.arriveAt f.len) (t.startNs + ((f.copyBytes p).length + 12) * s.byteTime10 p / 10)

/-- The frame that port `p` transmits has gone out. HP and MP take only whole good frames (R143). -/
def State.txOver (s : State) (p raw : Nat) (t : TxCur) (f : EthFrame) : State :=
  let s := (s.creditPort p).setTx p none
  let s := if bitAt (s.rd SWC_MIR_CTL_EG_MASK) p then s.mirrorOnce t.frame 0x03 else s
  let s := if decide (p < 10) then s.txWire p t f raw
    else if decide (p < 14) then s.txEngine (p - 10) t f
    else if p == 14 then s.setSwc { s.swc with hp := s.swc.hp ++ [{ f with bytes := f.copyBytes p }] }
    else s.setSwc { s.swc with mp := s.swc.mp ++ [{ f with bytes := f.copyBytes p }] }
  let s := s.putFrame t.frame ((s.frame t.frame).map fun g => { g with sent := true })
  (s.frameRelease t.frame).pauseArm p

/-- The transmission on port `p` ends; `raw` is the timestamp in LT, units of 2^−16 ns. -/
def State.txEnd (s : State) (p raw : Nat) : State :=
  match s.txCur p with
  | none => s
  | some t =>
    match s.frame t.frame with
    | none => s.setTx p none
    | some f => (s.advanceTo (s.txDoneAt p t f * nsU)).txOver p raw t f

/-- MAC_FRAME_TX_END (R86): the transmission on port `p` completes; the raw timestamp is in LT, units of 0.5 ns
(R84). -/
def execMacFrameTxEnd (p : Fin 16) (raw2 : Nat) (s : State) : Host.Outcome State Fault Refusal :=
  .next (if s.domOn 6 then s.txEnd p (raw2 * 2 ^ 15) else s)

end Sys2Proof.Machine
end

