-- ==== Sys2Proof/Machine/Hic.lean ====
section
/-! DEFINITION. Partitions: firewall windows, host slices, commits, rings, partition reset (chapter 13,
R375 to R397; R32, R586). -/

namespace Sys2Proof.Machine

def State.partUpd (s : State) (p : Nat) (f : PartSt → PartSt) : State := s.setPart p (f (s.part p))

/-! ## The firewall (R382, R383) -/

/-- An enabled window of the space lets partition `p` at all of `lo` to `hi`, exclusive. -/
def State.fwWindow (s : State) (p : Nat) (mem write : Bool) (lo hi : Nat) : Bool :=
  (List.range 64).any fun w =>
    s.bit (HIC_FWw_BASE_EN w) && s.bit (HIC_FWw_BASE_SPACE w) == mem
      && decide (8 * s.rd (HIC_FWw_BASE_BASE w) ≤ lo) && decide (hi ≤ 8 * s.rd (HIC_FWw_LIM_LIMIT w))
      && bitAt (s.rd (if write then HIC_FWw_LIM_WR w else HIC_FWw_LIM_RD w)) p

/-- A denial (R383): counted, latched, raised at the partition and at partition 0. -/
def State.fwDeny (s : State) (p : Nat) (mem write : Bool) (addr : Nat) : State :=
  let s := s.inc (HIC_PARTp_CNT_FW_DENY p)
  let s := if s.bit HIC_STAT_VALID then s
    else ((((s.wrB HIC_STAT_VALID true).wrB HIC_STAT_DENY_SPACE mem).wr HIC_STAT_DENY_PART p).wrB
      HIC_STAT_DENY_WR write).wr HIC_STAT_DENY_ADDR addr
  let s := s.raiseEvent p 10
  if p == 0 then s else s.raiseEvent 0 10

/-! ## Host slices (R385, R586) -/

/-- The slice value may stand beside the other partitions' slices. -/
def State.sliceFits (s : State) (p off len : Nat) : Bool :=
  len == 0 || (List.range 6).all fun q =>
    q == p || s.rd (HIC_PARTp_SLICE_LEN q) == 0
      || decide (off + len ≤ s.rd (HIC_PARTp_SLICE_OFF q))
      || decide (s.rd (HIC_PARTp_SLICE_OFF q) + s.rd (HIC_PARTp_SLICE_LEN q) ≤ off)

/-- A slice takes effect: OUT_A is active, OUT_B staging, and no commit is pending (R586). -/
def State.setSlice (s : State) (p off len : Nat) : State :=
  let s := (s.wr (HIC_PARTp_SLICE_OFF p) off).wr (HIC_PARTp_SLICE_LEN p) len
  (s.wrB (HIC_PARTp_COMMIT_PENDING p) false).partUpd p fun x =>
    { x with commitAsked := false, committed := false, activeCopy := 0 }

/-- A write of HIC_PARTp_SLICE by the owner (R385, R583). -/
def State.sliceWrite (s : State) (p off len : Nat) : State :=
  let same := s.rd (HIC_PARTp_SLICE_OFF p) == off && s.rd (HIC_PARTp_SLICE_LEN p) == len
  if same then s
  else if s.mode != 3 || decide (256 < off + len) || !s.sliceFits p off len then s.cfgErr (HIC_PARTp_SLICE p)
  else s.setSlice p off len

/-- HIC_SLICE_WRITE (R385). -/
def execHicSliceWrite (p : Fin 6) (off : BitVec 8) (len : Fin 257) (s : State) : Host.Outcome State Fault Refusal :=
  .next (if s.domOn 3 then s.sliceWrite p off.toNat len else s)

/-! ## Commits and the watchdog (R32, R386, R387) -/

/-- A write of 1 to COMMIT; a second one while PENDING is 1 is ignored (R386). -/
def State.commitAsk (s : State) (p : Nat) : State :=
  if s.bit (HIC_PARTp_COMMIT_PENDING p) then s else s.partUpd p fun x => { x with commitAsked := true }

/-- HOST_COMMIT_WRITE (R386). -/
def execHostCommitWrite (p : Fin 6) (s : State) : Host.Outcome State Fault Refusal :=
  .next (if s.domOn 3 && !s.pcieDead p then s.commitAsk p else s)

/-- HOST_COMMIT_REGISTER (R386): every earlier staging write has landed. -/
def execHostCommitRegister (p : Fin 6) (s : State) : Host.Outcome State Fault Refusal :=
  if !s.domOn 3 || !(s.part p).commitAsked then .next s
  else .next ((s.wrB (HIC_PARTp_COMMIT_PENDING p) true).partUpd p fun x =>
    { x with commitAsked := false, committed := true })

/-- The commit of partition `p` is taken: its slice changes copies (R31). -/
def State.takeCommit (s : State) (p : Nat) : State :=
  (s.wrB (HIC_PARTp_COMMIT_PENDING p) false).partUpd p fun x => { x with activeCopy := 1 - x.activeCopy }

/-- The commits that this PI_SWAP takes: the partitions' slices change copies (R31). The mask goes into
HOST_COMMIT. -/
def State.takeCommits (s : State) : Nat × State :=
  let ps := (List.range 6).filter fun p => s.bit (HIC_PARTp_COMMIT_PENDING p)
  (ps.foldl (fun m p => m + 2 ^ p) 0, ps.foldl (fun s p => s.takeCommit p) s)

/-- The count of partition `p` has reached WD_CYC (R387, R525). -/
def State.hostLost (s : State) (p : Nat) : State :=
  let s := ((s.wrB (HIC_PARTp_COMMIT_HOST_LOST p) true).raiseEvent 0 11).logEvent 0x0700 uHIC 3 p
  if s.rd (HIC_PARTp_CTL_WD_ACT p) == 1 && s.liveMode then s.acceptMode 9 0x0B 4 none else s

/-- The judgement of a PI_SWAP for partition `p` (R387). -/
def State.wdJudge (s : State) (p : Nat) : State :=
  let x := s.part p
  let wd := s.rd (HIC_PARTp_CTL_WD_CYC p)
  let n := if wd == 0 || !s.liveMode || x.committed then 0 else x.wdCount + 1
  let s := s.setPart p { x with wdCount := n, committed := false }
  if n != 0 && n == wd then s.hostLost p else s

/-- HOST_WD_EXPIRE (R387): the count of a partition that does not commit reaches WD_CYC. -/
def execHostWdExpire (p : Fin 6) (s : State) : Host.Outcome State Fault Refusal :=
  let wd := s.rd (HIC_PARTp_CTL_WD_CYC p)
  if !s.domOn 3 || wd == 0 || !s.liveMode || (s.part p).committed || decide (wd ≤ (s.part p).wdCount) then .next s
  else .next ((s.partUpd p fun x => { x with wdCount := wd }).hostLost p)

/-! ## Memory of a partition (R390, R398) -/

/-- Bytes stored in a partition's memory: host memory for 0 to 3, shared SRAM for 4 and 5. -/
def State.hostWrite (s : State) (p addr : Nat) (b : List Byte) : State :=
  if decide (p < 4) then s.putDma ((p, addr, b) :: s.dma) else s.sramWrite false addr b

/-- The buffer of `n` bytes may be used by the HIC for partition `p`: for 4 and 5 it lies inside a window. -/
def State.bufOk (s : State) (p : Nat) (write : Bool) (addr n : Nat) : Bool :=
  decide (p < 4) || s.fwWindow p true write addr (addr + n)

/-- A descriptor: from host memory as the command gives it, or from shared SRAM. -/
def State.descAt (s : State) (p base i : Nat) (l : List HostDesc) (j : Nat) : Word × Word × State :=
  if decide (p < 4) then match l[j]? with
    | some d => (d.w0, d.w1, s)
    | none => (0, 0, s)
  else
    let (ws, _, s) := s.sramReadWords false (16 * base + 16 * i) 2
    (ws.getD 0 0, ws.getD 1 0, s)

/-! ## Receive rings (R388, R391, R392) -/

/-- How the filling of a receive ring ends. -/
inductive RxEnd where
  /-- Index and bytes of each descriptor, first one first. -/
  | whole (l : List (Nat × Nat))
  | exhausted
  | denied
deriving DecidableEq, Repr

/-- Fill descriptors from index `i` on with `data` (R391). -/
def State.rxFill (s : State) (p : Nat) (descs : List HostDesc) (i : Nat) (data : List Byte)
    (done : List (Nat × Nat)) : Nat → RxEnd × State
  | 0 => (.exhausted, s)
  | n + 1 =>
    if data.isEmpty then (.whole done.reverse, s)
    else if i == s.rd (HIC_PARTp_IDX_RX_TAIL p) then (.exhausted, s)
    else
      let (w0, w1, s) := s.descAt p (s.rd (HIC_PARTp_RXBASE_BASE p)) i descs done.length
      let len := bitsOf w1 13 0
      if !s.bufOk p true w0.toNat len then (.denied, s.fwDeny p true true w0.toNat)
      else
        let part := data.take len
        (s.hostWrite p w0.toNat part).rxFill p descs ((i + 1) % 2 ^ s.rd (HIC_PARTp_RING_RX_SIZE p)) (data.drop len)
          ((i, part.length) :: done) n

/-- The completions: second to last, then the first (R391). -/
def State.rxComplete (s : State) (p : Nat) (l : List (Nat × Nat)) : State :=
  let n := l.length
  let put := fun (s : State) (e : (Nat × Nat) × Nat) =>
    s.hostWrite p (16 * s.rd (HIC_PARTp_RXBASE_BASE p) + 16 * e.1.1 + 8)
      (bytesLE 8 (b2n (e.2 == 0) * 2 ^ 62 + b2n (e.2 + 1 == n) * 2 ^ 61 + e.1.2))
  let z := l.zip (List.range n)
  let s := (z.drop 1 ++ z.take 1).foldl put s
  let s := s.wr (HIC_PARTp_IDX_RX_HEAD p) ((s.rd (HIC_PARTp_IDX_RX_HEAD p) + n) % 2 ^ s.rd (HIC_PARTp_RING_RX_SIZE p))
  s.raiseEvent p 2

/-- A frame for partition `p` (R391, R392). A ring that is not enabled has no descriptor. -/
def State.rxDeliver (s : State) (p : Nat) (descs : List HostDesc) (f : EthFrame) : State :=
  let mine := descs.filter fun d => d.part.val == p
  let r := if s.bit (HIC_PARTp_RING_RX_EN p) then s.rxFill p mine (s.rd (HIC_PARTp_IDX_RX_HEAD p)) f.bytes [] 1024
    else (.exhausted, s)
  match r.1 with
  | .whole l => r.2.rxComplete p l
  | .denied => r.2.wrB (HIC_PARTp_RING_RX_EN p) false
  | .exhausted =>
    let s := (r.2.inc (HIC_PARTp_CNT_RX_DROP p)).raiseEvent p 4
    if s.bit SWC_MIR_CTL_DROPS then s.mirror f 0x20 s.ltNs else s

/-- The partitions a frame is for (R388). -/
def State.hpTargets (s : State) (f : EthFrame) : List Nat :=
  (List.range 6).filter fun p =>
    if bitAt (byteAt f.bytes 0) 0 then s.bit (HIC_PARTp_CTL_GRP_EN p) else s.rd (HIC_PARTp_MAC_MAC p) == frDa f.bytes

/-- HP_FRAME_DELIVER (R388): the oldest frame at HP; `descs` are the descriptors fetched from host memory, in
order. -/
def execHpFrameDeliver (descs : List HostDesc) (s : State) : Host.Outcome State Fault Refusal :=
  match s.swc.hp with
  | [] => .next s
  | f :: r =>
    let s := s.setSwc { s.swc with hp := r }
    if !s.domOn 3 then .next s
    else match s.hpTargets f with
      | [] => .next (s.inc HIC_STAT_HP_NOMATCH)
      | l => .next (l.foldl (fun s p => s.rxDeliver p descs f) s)

/-! ## Transmit rings (R389, R393) -/

/-- The first frame taken completes: its descriptors are written back and TX_HEAD advances. -/
def State.txDoneOne (s : State) (p : Nat) : State :=
  match (s.part p).txq with
  | [] => s
  | t :: r =>
    let size := 2 ^ s.rd (HIC_PARTp_RING_TX_SIZE p)
    let head := s.rd (HIC_PARTp_IDX_TX_HEAD p)
    let n := t.words.length
    let s := (t.words.zip (List.range n)).foldl (fun s e =>
      s.hostWrite p (16 * s.rd (HIC_PARTp_TXBASE_BASE p) + 16 * ((head + e.2) % size) + 8)
        (bytesLE 8 (setBitAt (setBitAt e.1 63 false) 60 t.dropped))) s
    let s := s.wr (HIC_PARTp_IDX_TX_HEAD p) ((head + n) % size)
    (s.partUpd p fun x => { x with txq := r }).raiseEvent p 3

/-- Discarded frames at the front complete at once. -/
def State.txFlush (s : State) (p : Nat) : Nat → State
  | 0 => s
  | n + 1 => match (s.part p).txq with
    | t :: _ => if t.dropped then (s.txDoneOne p).txFlush p n else s
    | [] => s

def State.hicTxPut (s : State) (p : Nat) (t : HicTx) : State := s.partUpd p fun x => { x with txq := x.txq ++ [t] }

/-- A whole frame of partition `p` (R389): passed to HP ingress or discarded. -/
def State.txFrame (s : State) (p : Nat) (words : List Nat) (b : List Byte) : State :=
  let spoof := frSa b != s.rd (HIC_PARTp_MAC_MAC p)
    || decide (s.rd (HIC_PARTp_CTL_TX_PCP_MAX p) < frPcp b (s.rd (SWC_PORTp_CTL_DEF_PCP 14)))
  let len := decide (b.length < 60) || decide (9212 < b.length)
  if spoof then (s.inc (HIC_PARTp_CNT_TX_SPOOF p)).hicTxPut p ⟨words, true⟩
  else if len then (s.inc (HIC_PARTp_CNT_TX_LEN p)).hicTxPut p ⟨words, true⟩
  else (s.swArrive { EthFrame.blank with bytes := b, ingress := 14 }).hicTxPut p ⟨words, false⟩

/-- The bytes of a transmit buffer: host memory as the command gives it, or shared SRAM. -/
def State.txData (s : State) (p : Nat) (descs : List HostDesc) (j addr len : Nat) : List Byte × State :=
  if decide (p < 4) then (match descs[j]? with | some d => d.bytes.take len | none => [], s)
  else
    let r := s.sramReadBytes false addr len
    (r.1, r.2.2)

/-- A frame under way ends without its LAST descriptor: TX_LEN (R393). -/
def State.txCut (s : State) (p : Nat) (cur : Option (List Nat × List Byte)) : State :=
  match cur with
  | none => s
  | some c => (s.inc (HIC_PARTp_CNT_TX_LEN p)).hicTxPut p ⟨c.1, true⟩

/-- One descriptor taken: the frame under way after it, and the state. -/
def State.txTake (s : State) (p : Nat) (w1 : Word) (data : List Byte) (cur : Option (List Nat × List Byte)) :
    Option (List Nat × List Byte) × State :=
  let last := bitsOf w1 61 61 == 1
  if bitsOf w1 62 62 == 1 then
    if last then (none, (s.txCut p cur).txFrame p [w1.toNat] data)
    else (some ([w1.toNat], data), s.txCut p cur)
  else
    match cur with
    | none => (none, (s.inc (HIC_PARTp_CNT_TX_LEN p)).hicTxPut p ⟨[w1.toNat], true⟩)
    | some c =>
      if last then (none, s.txFrame p (c.1 ++ [w1.toNat]) (c.2 ++ data))
      else (some (c.1 ++ [w1.toNat], c.2 ++ data), s)

/-- Take descriptors from index `i` up to TX_TAIL (R393); `cur` is the frame under way. -/
def State.txFetch (s : State) (p : Nat) (descs : List HostDesc) (i j : Nat) (cur : Option (List Nat × List Byte)) :
    Nat → State
  | 0 => s
  | n + 1 =>
    if i == s.rd (HIC_PARTp_IDX_TX_TAIL p) then s
    else
      let d := s.descAt p (s.rd (HIC_PARTp_TXBASE_BASE p)) i descs j
      let len := bitsOf d.2.1 13 0
      if !d.2.2.bufOk p false d.1.toNat len then
        (d.2.2.fwDeny p true false d.1.toNat).wrB (HIC_PARTp_RING_TX_EN p) false
      else
        let b := d.2.2.txData p descs j d.1.toNat len
        let r := b.2.txTake p d.2.1 b.1 cur
        r.2.txFetch p descs ((i + 1) % 2 ^ s.rd (HIC_PARTp_RING_TX_SIZE p)) (j + 1) r.1 n

/-- The HIC takes the descriptors that are available. -/
def State.txRun (s : State) (p : Nat) (descs : List HostDesc) : State :=
  if !s.bit (HIC_PARTp_RING_TX_EN p) then s
  else
    let size := 2 ^ s.rd (HIC_PARTp_RING_TX_SIZE p)
    let taken := sumNat ((s.part p).txq.map fun t => t.words.length)
    (s.txFetch p descs ((s.rd (HIC_PARTp_IDX_TX_HEAD p) + taken) % size) 0 none size).txFlush p 4096

/-- HIC_TX_POST (R393): a write of TX_TAIL; `descs` are the descriptors the HIC fetches from host memory. -/
def execHicTxPost (p : Fin 6) (tail : BitVec 16) (descs : List HostDesc) (s : State) :
    Host.Outcome State Fault Refusal :=
  if !s.domOn 3 || s.pcieDead p then .next s
  else if !s.bit (HIC_PARTp_RING_TX_EN p) || decide (2 ^ s.rd (HIC_PARTp_RING_TX_SIZE p) ≤ tail.toNat) then
    .next (s.cfgErr (HIC_PARTp_IDX p))
  else .next ((s.wr (HIC_PARTp_IDX_TX_TAIL p) tail.toNat).txRun p (descs.filter fun d => d.part == p))

/-- HIC_TX_COMPLETE (R393): the SWC has taken the frame. -/
def execHicTxComplete (p : Fin 6) (s : State) : Host.Outcome State Fault Refusal :=
  .next (if s.domOn 3 then (s.txDoneOne p).txFlush p 4096 else s)

/-! ## Partition reset (R396, R419) -/

/-- Queues of partition `p` (R419): entries not started are discarded, started commands end in silence, EN,
FAULT and the indices clear. -/
def State.queuesReset (s : State) (p : Nat) : State :=
  let s := s.putDcp { s.dcp with
    runs := (s.dcp.runs.filter fun r => r.started || r.slot == 24 || r.part != p).map fun r =>
      if r.slot != 24 && r.part == p then { r with silent := true } else r }
  (List.range 4).foldl (fun s q =>
    let s := (s.wrB (HIC_PARTp_Qq_CTL_EN p q) false).wrB (HIC_PARTp_Qq_CTL_FAULT p q) false
    s.setReg (HIC_PARTp_Qq_IDX p q) 0) s

/-- PARTITION_RESET of partition `p` (R396). -/
def State.partitionReset (s : State) (p : Nat) : State :=
  if !s.domOn 3 then s
  else
    let s := (s.wrB (HIC_PARTp_RING_TX_EN p) false).wrB (HIC_PARTp_RING_RX_EN p) false
    let s := s.setReg (HIC_PARTp_IDX p) 0
    let s := s.wr (HIC_PARTp_IRQ_PEND p) 0
    let s := (s.wrB (HIC_PARTp_COMMIT_PENDING p) false).wrB (HIC_PARTp_COMMIT_HOST_LOST p) false
    let s := s.partUpd p fun x => { x with txq := [], commitAsked := false, committed := false }
    (s.agentReset p).queuesReset p

/-- PCIE_LINK_RESET (R379). -/
def execPcieLinkReset (s : State) : Host.Outcome State Fault Refusal :=
  .next ((((s.partitionReset 0).partitionReset 1).partitionReset 2).partitionReset 3)

/-- FUNCTION_LEVEL_RESET (R379). -/
def execFunctionLevelReset (p : Fin 4) (s : State) : Host.Outcome State Fault Refusal :=
  .next (if s.pcieDead p then s else s.partitionReset p)

/-- HIC_PRST_WRITE (R419): the reset completes at once, so PRST_BUSY is 0 again. -/
def execHicPrstWrite (p : Fin 6) (s : State) : Host.Outcome State Fault Refusal := .next (s.partitionReset p)

/-! ## Completion of queued commands (R401 to R404) -/

def State.dropRun (s : State) (slot : Nat) : State :=
  s.putDcp { s.dcp with runs := s.dcp.runs.filter fun q => q.slot != slot }

def State.qSize (s : State) (p q : Nat) : Nat := 2 ^ s.rd (HIC_PARTp_Qq_CTL_SIZE p q)

/-- A fetch or a completion entry meets a window or DMA failure (R423). -/
def State.qFault (s : State) (p q addr : Nat) (write : Bool) : State :=
  ((s.wrB (HIC_PARTp_Qq_CTL_EN p q) false).wrB (HIC_PARTp_Qq_CTL_FAULT p q) true).fwDeny p true write addr

/-- The completion entry, without its last two bytes. -/
def cqEntry (r : DcpRun) (len status head : Nat) : List Byte :=
  bytesLE 2 r.opcode ++ [BitVec.ofNat 8 (b2n r.gap), BitVec.ofNat 8 r.part] ++ bytesLE 2 r.tag ++ bytesLE 2 len
    ++ bytesLE 2 r.seq ++ bytesLE 2 status ++ bytesLE 2 head

/-- The sequence record of a queue (R404). -/
def State.seqRecord (s : State) (r : DcpRun) (status : Nat) : State :=
  let q := r.slot % 4
  if status == 2 then s
  else ((s.wr (HIC_PARTp_Qq_CTL_LAST_SEQ r.part q) r.seq).wrB (HIC_PARTp_Qq_CTL_SEQ_VALID r.part q) true).wrB
    (HIC_PARTp_Qq_CTL_LAST_OK r.part q) (status == 0)

/-- The completion of a queue's command is posted. -/
def State.qComplete (s : State) (r : DcpRun) (x : DcpResult) : State :=
  let p := r.part
  let q := r.slot % 4
  let s := (s.dropRun r.slot).seqRecord r x.status
  if r.silent then s
  else
    let pay := if r.raddr == 0 || !s.bufOk p true r.raddr 4096 then [] else x.reply.take 4096
    let tail := s.rd (HIC_PARTp_Qq_IDX_CQ_TAIL p q)
    let addr := 16 * s.rd (HIC_PARTp_CQq_BASE_BASE p q) + 16 * tail
    let s := if pay.isEmpty then s else s.hostWrite p r.raddr pay
    if !s.bufOk p true addr 16 then s.qFault p q addr true
    else
      let pass := mapGet (fun _ => 0) s.dcp.pass r.slot
      let phase := 1 - pass % 2
      let s := s.hostWrite p addr (cqEntry r pay.length x.status (s.rd (HIC_PARTp_Qq_IDX_SQ_HEAD p q)))
      let s := s.hostWrite p (addr + 14) [BitVec.ofNat 8 phase, BitVec.ofNat 8 q]
      let next := (tail + 1) % s.qSize p q
      let s := s.wr (HIC_PARTp_Qq_IDX_CQ_TAIL p q) next
      let s := if next == 0 then s.putDcp { s.dcp with pass := mapPut (fun _ => 0) s.dcp.pass r.slot (pass + 1) }
        else s
      if r.flags % 2 == 1 then s else s.raiseEvent p (5 + q)

/-- The outcomes that are known are posted, before the queues lose power. -/
def State.postAll (s : State) : State :=
  if !s.domOn 3 || s.dcp.restarting then s
  else s.dcp.runs.foldl (fun s r => match r.result with
    | none => s
    | some x => if r.slot == 24 then s else s.qComplete r x) s

end Sys2Proof.Machine
end

