-- ==== Sys2Proof/Machine/Pawn.lean ====
section
/-! DEFINITION. Pawn engines and programmable pins (chapter 10, R284 to R308). A Pawn instruction is one tick
of an engine: the command carries the instruction's fields and the levels at the input group's pads. -/

namespace Sys2Proof.Machine

def State.pawn (s : State) (n : Nat) : PawnSt := mapGet (fun _ => PawnSt.reset) s.pawns n

def State.setPawn (s : State) (n : Nat) (x : PawnSt) : State :=
  s.putPawns (mapPut (fun _ => PawnSt.reset) s.pawns n x)

def State.pawnUpd (s : State) (n : Nat) (f : PawnSt → PawnSt) : State := s.setPawn n (f (s.pawn n))

def State.pawnState (s : State) (n : Nat) : Nat := s.rd (PIA_Pn_STAT_STATE n)

/-- Engines run in this mode (Table R307). -/
def State.pawnAllowed (s : State) : Bool := s.mode == 4 || s.mode == 5 || s.cyclicMode || s.mode == 11

/-- Group MODE of engine `n` is FLAGS (R300). -/
def State.pawnFlags (s : State) (n : Nat) : Bool := s.bit (PIA_Gg_CTL_MODE (n / 8))

/-! ## Pins (R302 to R304) -/

/-- Pins of the output group of engine `n`. -/
def State.outPins (s : State) (n : Nat) : List Nat :=
  (List.range (s.rd (PIA_Pn_PINS_OUT_CNT n))).map fun b => s.rd (PIA_Pn_PINS_OUT_BASE n) + b

/-- Output-group bits that exist. -/
def State.outMask (s : State) (n : Nat) : BitVec 8 := BitVec.ofNat 8 (2 ^ s.rd (PIA_Pn_PINS_OUT_CNT n) - 1)

/-- Engine `n` owns pin `i`. -/
def State.ownsPin (s : State) (n i : Nat) : Bool :=
  s.bit (PIA_PIOi_CFG_OWNED i) && s.rd (PIA_PIOi_CFG_ENGINE i) == n

/-- What the DPX9960 does at a pin. -/
inductive PinOut where
  | drive (level : Bool)
  /-- Not driven, pulled up or down. -/
  | pull (up : Bool)
  /-- Not driven, no pull. -/
  | float
deriving DecidableEq, Repr

/-- The level that the configuration and the owner of pin `i` drive; none is high impedance. A pin of a RUNNING
owner that lies outside its output group has no direction bit and is not driven. -/
def State.pinLevel (s : State) (i : Nat) : Option Bool :=
  let n := s.rd (PIA_PIOi_CFG_ENGINE i)
  let x := s.pawn n
  let k := i - s.rd (PIA_Pn_PINS_OUT_BASE n)
  let inv := s.bit (PIA_PIOi_CFG_INV i)
  let idle := s.rd (PIA_PIOi_CFG_IDLE i)
  if s.bit (PIA_PIOi_CFG_OWNED i) && s.pawnState n == 2 then
    if (s.outPins n).contains i && x.dir.getLsbD k then some (x.out.getLsbD k != inv) else none
  else if idle == 0 then none else some ((idle == 2) != inv)

/-- Pin `i` as Table R304 leaves it: with PD_FIELD off and in SERVICE it stands at its reset state, high impedance
with no pull; otherwise it is driven, or PULL applies (R63, R304, R489). -/
def State.pinDrive (s : State) (i : Nat) : PinOut :=
  if !s.domOn 8 || s.mode == 11 then .float
  else match s.pinLevel i with
    | some b => .drive b
    | none =>
      let p := s.rd (PIA_PIOi_CFG_PULL i)
      if p == 1 then .pull true else if p == 2 then .pull false else .float

/-- The input group read from pad levels: INV inverts, pins above PIO95 read 0 (R290, R304). -/
def State.inGroup (s : State) (n : Nat) (pads : BitVec 8) : BitVec 8 :=
  BitVec.ofNat 8 ((List.range 8).foldr (fun k v =>
    let i := s.rd (PIA_Pn_PINS_IN_BASE n) + k
    2 * v + b2n (decide (i < 96) && (pads.getLsbD k != s.bit (PIA_PIOi_CFG_INV i)))) 0)

/-! ## FIFO levels and the input link (R298, R305, R307) -/

/-- TX_LEVEL and RX_LEVEL follow the FIFOs. -/
def State.pawnLevels (s : State) (n : Nat) : State :=
  (s.wr (PIA_Pn_STAT_TX_LEVEL n) (s.pawn n).tx.length).wr (PIA_Pn_STAT_RX_LEVEL n) (s.pawn n).rx.length

/-- The input link takes an item once the RX FIFO holds it: written to the process image in SAFEOP, OP and
SAFESTOP, discarded in other modes. -/
def State.inLink (s : State) (n : Nat) : State :=
  let len := s.rd (PIA_Pn_PIIN_LEN_M1 n) + 1
  let x := s.pawn n
  if !s.bit (PIA_Pn_PIIN_EN n) || decide (x.rx.length < len) then s
  else
    let bytes := padWords ((x.rx.take len).flatMap fun w => bytesLE 4 w.toNat)
    let s := (s.setPawn n { x with rx := x.rx.drop len }).pawnLevels n
    if s.cyclicMode then s.landItem (s.rd (PIA_Pn_PIIN_CONN n)) (s.rd (PIA_Pn_PIIN_PI_OFF n) * 8) bytes
    else s.inc (PIA_Pn_CNT_PI_DROP n)

/-! ## Program banks (R295, R296) -/

/-- The banks exchange roles with their ENTRY, WRAP_BOTTOM and WRAP_TOP. -/
def State.pawnSwap (s : State) (n : Nat) : State :=
  let sw := fun (s : State) (j : Nat) =>
    (s.setReg (PIA_SHADOW n j) (s.reg (PIA_ACTIVE n j))).setReg (PIA_ACTIVE n j) (s.reg (PIA_SHADOW n j))
  let ex := fun (s : State) (p : Fld × Fld) => (s.wr p.1 (s.rd p.2)).wr p.2 (s.rd p.1)
  let s := (List.range 16).foldl sw s
  let s := [(PIA_Pn_PROG_A_ENTRY n, PIA_Pn_PROG_S_ENTRY n), (PIA_Pn_PROG_A_WRAP_TOP n, PIA_Pn_PROG_S_WRAP_TOP n),
    (PIA_Pn_PROG_A_WRAP_BOTTOM n, PIA_Pn_PROG_S_WRAP_BOTTOM n)].foldl ex s
  ((s.wrB (PIA_Pn_PROG_ARM n) false).inc (PIA_Pn_CNT_SWAPS n)).wr (PIA_Pn_STAT_BANK n)
    (1 - s.rd (PIA_Pn_STAT_BANK n))

/-! ## Engine states (R287 to R289) -/

/-- STARTING: registers reset, PC at ENTRY, the output group loaded from the IDLE states (R288). -/
def State.pawnStart (s : State) (n : Nat) : State :=
  let idle := (s.outPins n).map fun i => s.rd (PIA_PIOi_CFG_IDLE i)
  let bits := fun (f : Nat → Bool) => BitVec.ofNat 8 (idle.foldr (fun i v => 2 * v + b2n (f i)) 0)
  let s := s.pawnUpd n fun x =>
    { x with a := 0, b := 0, sh := 0, bc := 0, prev := none, swapNow := false,
             dir := bits (fun i => i != 0), out := bits (fun i => i == 2) }
  let s := (s.wr (PIA_Pn_STAT_PC n) (s.rd (PIA_Pn_PROG_A_ENTRY n))).wrB (PIA_Pn_STAT_READY n) false
  s.wr (PIA_Pn_STAT_STATE n) 1

/-- RUNNING: the divider restarts (R285). -/
def State.pawnRun (s : State) (n : Nat) : State :=
  let s := s.pawnUpd n fun x =>
    { x with acc := s.rd (PIA_Pn_CLKDIV_DEN n) - s.rd (PIA_Pn_CLKDIV_NUM n), prev := none }
  (s.wrB (PIA_Pn_STAT_READY n) false).wr (PIA_Pn_STAT_STATE n) 2

/-- EN is written 1. -/
def State.pawnEnable (s : State) (n : Nat) : State :=
  if !(s.outPins n).all (fun i => s.ownsPin n i) then s.cfgErr (PIA_Pn_CTL n)
  else
    let s := s.wrB (PIA_Pn_CTL_EN n) true
    if s.pawnState n == 4 then s.wrB (PIA_Pn_STAT_PENDING n) true
    else if s.pawnState n == 0 && s.pawnAllowed then s.pawnStart n
    else s

/-- PAWN_ENABLE (R288). -/
def execPawnEnable (n : Fin 32) (s : State) : Host.Outcome State Fault Refusal :=
  .next (if s.domOn 8 then s.pawnEnable n else s)

/-- PAWN_START_DONE (R288): the engine runs, or with HOLD waits for GO. -/
def execPawnStartDone (n : Fin 32) (s : State) : Host.Outcome State Fault Refusal :=
  if !s.domOn 8 || s.pawnState n != 1 || s.bit (PIA_Pn_STAT_READY n) then .next s
  else .next (if s.bit (PIA_Pn_CTL_HOLD n) then s.wrB (PIA_Pn_STAT_READY n) true else s.pawnRun n)

/-- STOPPING: no ticks, the FIFOs empty (R289). -/
def State.pawnStop (s : State) (n : Nat) : State :=
  if s.pawnState n == 0 || s.pawnState n == 4 then s
  else
    let s := (s.pawnUpd n fun x => { x with tx := [], rx := [], swapNow := false }).pawnLevels n
    ((s.wrB (PIA_Pn_STAT_READY n) false).wrB (PIA_Pn_STAT_WAITING n) false).wr (PIA_Pn_STAT_STATE n) 4

/-- EN is written 0. -/
def State.pawnDisable (s : State) (n : Nat) : State :=
  ((s.wrB (PIA_Pn_CTL_EN n) false).wrB (PIA_Pn_STAT_PENDING n) false).pawnStop n

/-- PAWN_DISABLE (R289). -/
def execPawnDisable (n : Fin 32) (s : State) : Host.Outcome State Fault Refusal :=
  .next (if s.domOn 8 then s.pawnDisable n else s)

/-- PAWN_STOP_DONE (R289, R295): OFF; an armed swap takes place; PENDING starts the engine again. -/
def execPawnStopDone (n : Fin 32) (s : State) : Host.Outcome State Fault Refusal :=
  if !s.domOn 8 || s.pawnState n != 4 then .next s
  else
    let s := s.setPawn n { PawnSt.reset with fired := (s.pawn n).fired }
    let s := (s.setReg (PIA_Pn_CNT n) 0).wr (PIA_Pn_STAT_PC n) 0
    let s := (s.wr (PIA_Pn_STAT_STATE n) 0).wrB (PIA_Pn_STAT_PENDING n) false
    let s := if s.bit (PIA_Pn_PROG_ARM n) then s.pawnSwap n else s
    .next (if s.bit (PIA_Pn_CTL_EN n) && s.pawnAllowed then s.pawnStart n else s)

/-- The PIA at the entry of mode `m` (Table R307). -/
def State.piaMode (s : State) (m : Nat) : State :=
  if !s.domOn 8 then s
  else (List.range 32).foldl (fun s n =>
    if m == 1 || m == 2 || m == 3 then s.pawnStop n
    else if s.pawnState n == 0 && s.bit (PIA_Pn_CTL_EN n) then s.pawnStart n
    else s) s

/-- The PIA's part of a boundary. -/
def State.piaBoundary (s : State) : State :=
  if !s.domOn 8 then s
  else (List.range 32).foldl (fun s n => s.pawnUpd n fun x => { x with fired := false }) s

/-! ## Groups (R300) -/

/-- A write of GO with `mask` to group `g`. -/
def State.groupGo (s : State) (g mask : Nat) : State :=
  if mask == 0 then s
  else if s.bit (PIA_Gg_CTL_MODE g) then s.cfgErr (PIA_Gg_CTL g)
  else (List.range 8).foldl (fun s e =>
    if bitAt mask e && s.pawnState (8 * g + e) == 1 && s.bit (PIA_Pn_STAT_READY (8 * g + e)) then s.pawnRun (8 * g + e)
    else s) s

/-- GROUP_GO (R300). -/
def execGroupGo (g : Fin 4) (mask : BitVec 8) (s : State) : Host.Outcome State Fault Refusal :=
  .next (if s.domOn 8 then s.groupGo g mask.toNat else s)

/-- A write of DIVRST with `mask` to group `g`. -/
def State.groupDivrst (s : State) (g mask : Nat) : State :=
  if mask == 0 then s
  else if s.bit (PIA_Gg_CTL_MODE g) then s.cfgErr (PIA_Gg_CTL g)
  else (List.range 8).foldl (fun s e =>
    let n := 8 * g + e
    if bitAt mask e && s.pawnState n == 2 then
      s.pawnUpd n fun x => { x with acc := s.rd (PIA_Pn_CLKDIV_DEN n) - s.rd (PIA_Pn_CLKDIV_NUM n) }
    else s) s

/-- GROUP_DIVRST (R300). -/
def execGroupDivrst (g : Fin 4) (mask : BitVec 8) (s : State) : Host.Outcome State Fault Refusal :=
  .next (if s.domOn 8 then s.groupDivrst g mask.toNat else s)

/-! ## A tick (R286, R293, R294) -/

/-- What an instruction leaves the sequencer to do. -/
inductive PawnNext where
  | seq
  /-- A WAIT whose condition does not hold. -/
  | wait
  | jump (slot : Nat)
  | undefined
deriving DecidableEq, Repr

/-- The divider reaches the tick: the fewest edges that bring the accumulator to DEN (R285). -/
def State.pawnDivide (s : State) (n : Nat) : State :=
  let num := s.rd (PIA_Pn_CLKDIV_NUM n)
  let den := s.rd (PIA_Pn_CLKDIV_DEN n)
  s.pawnUpd n fun x =>
    let k := max 1 ((den - x.acc + num - 1) / num)
    { x with acc := x.acc + k * num - den }

/-- HALTED by an undefined encoding (R293, R526, R542). -/
def State.pawnHalt (s : State) (n : Nat) : State :=
  let pc := s.rd (PIA_Pn_STAT_PC n)
  let s := ((s.wr (PIA_Pn_STAT_STATE n) 3).wrB (PIA_Pn_STAT_FAULT n) true).wr (PIA_Pn_STAT_FAULT_PC n) pc
  let s := ((s.wrB (PIA_Pn_STAT_WAITING n) false).setIstat uPIA (2 ^ (32 + n))).logEvent 0x0401 uPIA 2 (n + pc * 2 ^ 8)
  if s.bit (PIA_Pn_PIIN_EN n) || s.bit (PIA_Pn_PIOUT_EN n) then s.safeStopFault 6 else s

/-- The next slot, and the armed swap at a wrap point (R294, R295). -/
def State.pawnSequence (s : State) (n : Nat) (k : PawnNext) : State :=
  let pc := s.rd (PIA_Pn_STAT_PC n)
  match k with
  | .undefined => s.pawnHalt n
  | .wait => s.wrB (PIA_Pn_STAT_WAITING n) true
  | .jump a => (s.wrB (PIA_Pn_STAT_WAITING n) false).wr (PIA_Pn_STAT_PC n) a
  | .seq =>
    let s := s.wrB (PIA_Pn_STAT_WAITING n) false
    if pc == s.rd (PIA_Pn_PROG_A_WRAP_TOP n) then
      let s := if s.bit (PIA_Pn_PROG_ARM n) then s.pawnSwap n else s
      s.wr (PIA_Pn_STAT_PC n) (s.rd (PIA_Pn_PROG_A_WRAP_BOTTOM n))
    else s.wr (PIA_Pn_STAT_PC n) ((pc + 1) % 64)

/-- A swap that SWAP_NOW asked for takes place at this tick, which then stands at WRAP_BOTTOM (R296). -/
def State.pawnForced (s : State) (n : Nat) : State :=
  if !(s.pawn n).swapNow then s
  else
    let s := (s.pawnUpd n fun x => { x with swapNow := false }).pawnSwap n
    s.wr (PIA_Pn_STAT_PC n) (s.rd (PIA_Pn_PROG_A_WRAP_BOTTOM n))

/-- One tick of engine `n` with the effect `f`, which is given the input group. -/
def State.pawnTick (s : State) (n : Nat) (pads : BitVec 8) (f : BitVec 8 → State → PawnNext × State) :
    Host.Outcome State Fault Refusal :=
  if !s.domOn 8 || s.pawnState n != 2 then .next s
  else
    let s := (s.pawnDivide n).pawnForced n
    let inp := s.inGroup n pads
    let (k, s) := f inp s
    .next ((s.pawnUpd n fun x => { x with prev := some inp }).pawnSequence n k)

/-! ## Instructions (R291, R292) -/

/-- PINS with function `f` on the selected bits. -/
def pawnPins (n : Nat) (tgt : BitVec 2) (f : BitVec 8 → BitVec 8) (s : State) : PawnNext × State :=
  let m := s.outMask n
  let g := fun (old : BitVec 8) => (old &&& ~~~m) ||| (f old &&& m)
  if tgt == 0 then (.seq, s.pawnUpd n fun x => { x with out := g x.out })
  else if tgt == 1 then (.seq, s.pawnUpd n fun x => { x with dir := g x.dir })
  else (.undefined, s)

/-- PINS WRITE. -/
def execPinsWrite (n : Fin 32) (pads : BitVec 8) (tgt : BitVec 2) (mask : BitVec 8) (s : State) :
    Host.Outcome State Fault Refusal := s.pawnTick n pads fun _ => pawnPins n tgt fun _ => mask

/-- PINS SET. -/
def execPinsSet (n : Fin 32) (pads : BitVec 8) (tgt : BitVec 2) (mask : BitVec 8) (s : State) :
    Host.Outcome State Fault Refusal := s.pawnTick n pads fun _ => pawnPins n tgt fun o => o ||| mask

/-- PINS CLEAR. -/
def execPinsClear (n : Fin 32) (pads : BitVec 8) (tgt : BitVec 2) (mask : BitVec 8) (s : State) :
    Host.Outcome State Fault Refusal := s.pawnTick n pads fun _ => pawnPins n tgt fun o => o &&& ~~~mask

/-- PINS TOGGLE. -/
def execPinsToggle (n : Fin 32) (pads : BitVec 8) (tgt : BitVec 2) (mask : BitVec 8) (s : State) :
    Host.Outcome State Fault Refusal := s.pawnTick n pads fun _ => pawnPins n tgt fun o => o ^^^ mask

/-- SH after a shift that takes bit `i` in, and the bit that leaves. -/
def pawnShift (dirn : Bool) (sh : BitVec 32) (i : Bool) : BitVec 32 × Bool :=
  if dirn then ((sh >>> 1) ||| (if i then 0x80000000 else 0), sh.getLsbD 0)
  else ((sh <<< 1) ||| (if i then 1 else 0), sh.getLsbD 31)

/-- SHIFT. -/
def execShift (n : Fin 32) (pads : BitVec 8) (dirn oen ien : Bool) (obit ibit : BitVec 3) (s : State) :
    Host.Outcome State Fault Refusal :=
  s.pawnTick n pads fun inp s =>
    let x := s.pawn n
    let r := pawnShift dirn x.sh (ien && inp.getLsbD ibit.toNat)
    let bit : BitVec 8 := BitVec.ofNat 8 (2 ^ obit.toNat) &&& s.outMask n
    let out := if oen then (if r.2 then x.out ||| bit else x.out &&& ~~~bit) else x.out
    (.seq, s.setPawn n { x with sh := r.1, out := out, bc := x.bc - 1 })

/-- A WAIT's outcome from whether its condition holds. -/
def waitFor (b : Bool) (s : State) : PawnNext × State := (if b then .seq else .wait, s)

/-- WAIT (Table R292). -/
def execPawnWait (n : Fin 32) (pads : BitVec 8) (cond : BitVec 3) (pol : Bool) (arg : BitVec 4) (s : State) :
    Host.Outcome State Fault Refusal :=
  s.pawnTick n pads fun inp s =>
    let x := s.pawn n
    let here := inp.getLsbD arg.toNat == pol
    let bare := !pol && arg == 0
    match cond.toNat with
    | 0 => if decide (8 ≤ arg.toNat) then (.undefined, s) else waitFor here s
    | 1 => if decide (8 ≤ arg.toNat) then (.undefined, s)
      else waitFor (here && (x.prev.getD inp).getLsbD arg.toNat != pol) s
    | 2 => if !s.pawnFlags n then (.undefined, s) else waitFor (bitAt (s.rd PIA_FLAG_SET_FLAGS) arg.toNat == pol) s
    | 3 => if !bare then (.undefined, s)
      else if x.a == 0 then (.seq, s) else (.wait, s.setPawn n { x with a := x.a - 1 })
    | 4 => if !bare then (.undefined, s) else waitFor (!x.tx.isEmpty) s
    | 5 => if !bare then (.undefined, s) else waitFor (decide (x.rx.length < 8)) s
    | _ => (.undefined, s)

/-- A register with byte `k` replaced, or for byte 0 the immediate zero-extended. -/
def ldiByte (old : BitVec 32) (k : Nat) (imm : BitVec 8) : BitVec 32 :=
  if k == 0 then imm.setWidth 32
  else (old &&& ~~~((0xFF : BitVec 32) <<< (8 * k))) ||| (imm.setWidth 32 <<< (8 * k))

/-- LDI. -/
def execLdi (n : Fin 32) (pads : BitVec 8) (dst byte : BitVec 2) (imm : BitVec 8) (s : State) :
    Host.Outcome State Fault Refusal :=
  s.pawnTick n pads fun _ s =>
    let x := s.pawn n
    match dst.toNat with
    | 0 => (.seq, s.setPawn n { x with a := ldiByte x.a byte.toNat imm })
    | 1 => (.seq, s.setPawn n { x with b := ldiByte x.b byte.toNat imm })
    | 2 => if byte != 0 || decide (32 < imm.toNat) then (.undefined, s)
      else (.seq, s.setPawn n { x with bc := imm.toNat })
    | _ => (.undefined, s)

/-- The source of a MOV. -/
def movSrc (x : PawnSt) (inp : BitVec 8) (src : Nat) : BitVec 32 :=
  match src with
  | 0 => x.a
  | 1 => x.b
  | 2 => BitVec.ofNat 32 x.bc
  | 3 => x.sh
  | 4 => inp.setWidth 32
  | 5 => 0
  | _ => 0xFFFFFFFF

/-- The transform of a MOV. -/
def movXf (xf : BitVec 2) (v : BitVec 32) : BitVec 32 :=
  match xf.toNat with
  | 0 => v
  | 1 => ~~~v
  | 2 => v + 1
  | _ => v - 1

/-- MOV (Table R292). -/
def execMov (n : Fin 32) (pads : BitVec 8) (dst src : BitVec 3) (xf : BitVec 2) (s : State) :
    Host.Outcome State Fault Refusal :=
  s.pawnTick n pads fun inp s =>
    let x := s.pawn n
    let v := movXf xf (movSrc x inp src.toNat)
    let m := s.outMask n
    if src == 7 then (.undefined, s)
    else
      match dst.toNat with
      | 0 => (.seq, s.setPawn n { x with a := v })
      | 1 => (.seq, s.setPawn n { x with b := v })
      | 2 => (.seq, s.setPawn n { x with bc := min v.toNat 32 })
      | 3 => (.seq, s.setPawn n { x with sh := v })
      | 4 => (.seq, s.setPawn n { x with out := (x.out &&& ~~~m) ||| (v.setWidth 8 &&& m) })
      | 5 => (.seq, s.setPawn n { x with dir := (x.dir &&& ~~~m) ||| (v.setWidth 8 &&& m) })
      | _ => (.undefined, s)

/-- FIFO PULL. -/
def execFifoPull (n : Fin 32) (pads : BitVec 8) (s : State) : Host.Outcome State Fault Refusal :=
  s.pawnTick n pads fun _ s =>
    let x := s.pawn n
    match x.tx with
    | [] => (.seq, s.wrB (PIA_Pn_STAT_TX_UNDER n) true)
    | w :: t => (.seq, (s.setPawn n { x with sh := w, tx := t }).pawnLevels n)

/-- FIFO PUSH; the input link may take the item it completes. -/
def execFifoPush (n : Fin 32) (pads : BitVec 8) (s : State) : Host.Outcome State Fault Refusal :=
  s.pawnTick n pads fun _ s =>
    let x := s.pawn n
    if decide (8 ≤ x.rx.length) then (.seq, s.wrB (PIA_Pn_STAT_RX_OVER n) true)
    else (.seq, ((s.setPawn n { x with rx := x.rx ++ [x.sh] }).pawnLevels n).inLink n)

/-- The condition of a JMP. -/
def jmpHolds (x : PawnSt) (cond : Nat) : Bool :=
  match cond with
  | 0 => true
  | 1 => x.a == 0
  | 2 => x.a != 0
  | 3 => x.b == 0
  | 4 => x.bc != 0
  | 5 => x.bc == 0
  | 6 => decide (x.a.toNat < x.b.toNat)
  | _ => x.tx.isEmpty

/-- JMP. -/
def execPawnJmp (n : Fin 32) (pads : BitVec 8) (cond : BitVec 3) (target : BitVec 6) (s : State) :
    Host.Outcome State Fault Refusal :=
  s.pawnTick n pads fun _ s => (if jmpHolds (s.pawn n) cond.toNat then .jump target.toNat else .seq, s)

/-- DJNZ. -/
def execDjnz (n : Fin 32) (pads : BitVec 8) (reg : BitVec 1) (target : BitVec 6) (s : State) :
    Host.Outcome State Fault Refusal :=
  s.pawnTick n pads fun _ s =>
    let x := s.pawn n
    let v := if reg == 0 then x.a else x.b
    if v == 0 then (.seq, s)
    else
      let x := if reg == 0 then { x with a := v - 1 } else { x with b := v - 1 }
      (if v - 1 == 0 then .seq else .jump target.toNat, s.setPawn n x)

/-- The shared flags take the value `v`; both registers show them (R301). -/
def State.setFlags (s : State) (v : Nat) : State := (s.wr PIA_FLAG_SET_FLAGS v).wr PIA_FLAG_CLR_FLAGS v

/-- FLAG SET; undefined in GROUP mode (R293). -/
def execFlagSet (n : Fin 32) (pads : BitVec 8) (idx : BitVec 4) (s : State) : Host.Outcome State Fault Refusal :=
  s.pawnTick n pads fun _ s =>
    if s.pawnFlags n then (.seq, s.setFlags (setBitAt (s.rd PIA_FLAG_SET_FLAGS) idx.toNat true)) else (.undefined, s)

/-- FLAG CLEAR; undefined in GROUP mode (R293). -/
def execFlagClear (n : Fin 32) (pads : BitVec 8) (idx : BitVec 4) (s : State) : Host.Outcome State Fault Refusal :=
  s.pawnTick n pads fun _ s =>
    if s.pawnFlags n then (.seq, s.setFlags (setBitAt (s.rd PIA_FLAG_SET_FLAGS) idx.toNat false)) else (.undefined, s)

/-- FLAG NOTE: bit n of the PIA interrupt status (R308). -/
def execFlagNote (n : Fin 32) (pads : BitVec 8) (s : State) : Host.Outcome State Fault Refusal :=
  s.pawnTick n pads fun _ s => (.seq, s.setIstat uPIA (2 ^ n.val))

/-- An undefined encoding (R293). -/
def execPawnUndefined (n : Fin 32) (pads : BitVec 8) (s : State) : Host.Outcome State Fault Refusal :=
  s.pawnTick n pads fun _ s => (.undefined, s)

/-! ## Host accesses (R295, R296, R298, R299, R301) -/

/-- A write of 1 to ARM. -/
def State.progArm (s : State) (n : Nat) : State :=
  let s := s.wrB (PIA_Pn_PROG_ARM n) true
  if s.pawnState n == 0 then s.pawnSwap n else s

/-- PROG_ARM (R295). -/
def execProgArm (n : Fin 32) (s : State) : Host.Outcome State Fault Refusal :=
  .next (if s.domOn 8 then s.progArm n else s)

/-- A write of 1 to SWAP_NOW; an engine in STOPPING has no tick and swaps at once (DESIGN CHOICE, log 50). -/
def State.progSwapNow (s : State) (n : Nat) : State :=
  if s.pawnState n == 2 then s.pawnUpd n fun x => { x with swapNow := true } else s.pawnSwap n

/-- SWAP_NOW (R296). -/
def execSwapNow (n : Fin 32) (s : State) : Host.Outcome State Fault Refusal :=
  .next (if s.domOn 8 then s.progSwapNow n else s)

/-- A host push. -/
def State.txfPush (s : State) (n : Nat) (w : BitVec 32) : State :=
  let x := s.pawn n
  if s.bit (PIA_Pn_PIOUT_EN n) || decide (8 ≤ x.tx.length) then s.inc (PIA_Pn_CNT_HOST_DROP n)
  else (s.setPawn n { x with tx := x.tx ++ [w] }).pawnLevels n

/-- TXF_PUSH (R298, R299). -/
def execTxfPush (n : Fin 32) (data : BitVec 32) (s : State) : Host.Outcome State Fault Refusal :=
  .next (if s.domOn 8 then s.txfPush n data else s)

/-- A host read of PIA_Pn_RXF: the value read and the state after it. -/
def State.rxfPop (s : State) (n : Nat) : Word × State :=
  let x := s.pawn n
  match x.rx with
  | [] => (0, s)
  | w :: t =>
    if s.bit (PIA_Pn_PIIN_EN n) then (0, s)
    else (BitVec.ofNat 64 (2 ^ 63 + w.toNat), (s.setPawn n { x with rx := t }).pawnLevels n)

/-- RXF_POP (R298, R299). -/
def execRxfPop (n : Fin 32) (s : State) : Host.Outcome State Fault Refusal :=
  if !s.domOn 8 then .next (s.putReadData 0)
  else let (v, t) := s.rxfPop n; .next (t.putReadData v)

/-- PIA_FLAG_SET_WRITE (R301). -/
def execPiaFlagSetWrite (flags : BitVec 16) (s : State) : Host.Outcome State Fault Refusal :=
  .next (if s.domOn 8 then s.setFlags (s.rd PIA_FLAG_SET_FLAGS ||| flags.toNat) else s)

/-- PIA_FLAG_CLR_WRITE (R301). -/
def execPiaFlagClrWrite (flags : BitVec 16) (s : State) : Host.Outcome State Fault Refusal :=
  .next (if s.domOn 8 then s.setFlags (s.rd PIA_FLAG_SET_FLAGS &&& (0xFFFF - flags.toNat)) else s)

/-! ## Output link (R306, R307) -/

/-- FIFO words of a byte list. -/
def fifoWords : Nat → List Byte → List (BitVec 32)
  | 0, _ => []
  | n + 1, l => BitVec.ofNat 32 (natOfLE (l.take 4)) :: fifoWords n (l.drop 4)

/-- The item that the output link takes: the source in OP, otherwise the safe value, which also replaces an
uncorrectable source (Table R533). -/
def State.linkItem (s : State) (n len : Nat) : List (BitVec 32) × State :=
  let safe := fifoWords len (wordsBytes ((List.range 4).map fun j => s.reg (PIA_SAFE n j)))
  let off := s.rd (PIA_Pn_PIOUT_PI_OFF n) * 8
  let src := s.rd (PIA_Pn_PIOUT_SRC n)
  if s.mode != 7 then (safe, s)
  else if decide (2 ≤ src) then (List.replicate len 0, s)
  else
    let (b, u, s) := s.imageSource (src != 0) off (4 * len)
    (if u then safe else fifoWords len b, s)

/-- The instant of the output link's trigger of this cycle (R306). -/
def State.linkInstant (s : State) (n : Nat) : Nat := s.ntu.cyc.edge + s.rd (PIA_Pn_PIOUT_OFFSET n) * 8 * nsU

/-- Does the output link of engine `n` trigger in this cycle (R306)? -/
def State.linkDue (s : State) (n : Nat) : Bool :=
  s.domOn 8 && s.cycLive && s.cyclicMode && s.bit (PIA_Pn_PIOUT_EN n) && !(s.pawn n).fired
    && s.rd NTU_CYC_COUNT_CYCLE % (s.rd (PIA_Pn_PIOUT_PERIOD_M1 n) + 1) == 0
    && decide (s.linkInstant n < s.nextNominal)

/-- The trigger: LEN words into the transmit FIFO, or PI_OVERRUN where they do not fit. -/
def State.linkFire (s : State) (n : Nat) : State :=
  let len := s.rd (PIA_Pn_PIOUT_LEN_M1 n) + 1
  if decide (8 < (s.pawn n).tx.length + len) then s.inc (PIA_Pn_CNT_PI_OVERRUN n)
  else
    let r := s.linkItem n len
    (r.2.pawnUpd n fun x => { x with tx := x.tx ++ r.1 }).pawnLevels n

/-- OUTPUT_LINK_TRIGGER (R306). -/
def execOutputLinkTrigger (n : Fin 32) (s : State) : Host.Outcome State Fault Refusal :=
  .next (if s.linkDue n then
    ((s.advanceTo (s.linkInstant n)).pawnUpd n fun x => { x with fired := true }).linkFire n
  else s)

end Sys2Proof.Machine
end

