-- ==== Sys2Proof/Machine/AceLaw.lean ====
section
/-! DEFINITION. The arithmetic of the ACE (chapter 11, R312 to R317, R321, R327): every operation saturates
to 64 bits and notes it. -/

namespace Sys2Proof.Machine

/-- A 64-bit value and whether an operation behind it saturated (R314). -/
structure SV where
  v : Int
  f : Bool
deriving DecidableEq, Repr

/-- An exact result saturated to 64 bits. -/
def satV (x : Int) (f : Bool) : SV := ⟨satSigned 64 x, f || x != satSigned 64 x⟩

/-- A value that no operation has touched. -/
def sv (x : Int) : SV := ⟨x, false⟩

def SV.add (a b : SV) : SV := satV (a.v + b.v) (a.f || b.f)
def SV.sub (a b : SV) : SV := satV (a.v - b.v) (a.f || b.f)
def SV.neg (a : SV) : SV := satV (-a.v) a.f
def SV.abs (a : SV) : SV := satV a.v.natAbs a.f
def SV.shl (a : SV) (n : Nat) : SV := satV (a.v * 2 ^ n) a.f
def SV.shr (a : SV) (n : Nat) : SV := ⟨sarInt a.v n, a.f⟩

/-- Counts to Q32.32. -/
def SV.q (a : SV) : SV := a.shl 32

/-- The gain C × 2^(SH − 16) times a value (R314). -/
def SV.gmul (a : SV) (c sh : Int) : SV :=
  let s := sh - 16
  if s < 0 then satV (sarInt (a.v * c) (-s).toNat) a.f else satV (a.v * c * 2 ^ s.toNat) a.f

/-- A bank as the sample reads it (Table R330). -/
structure Bank where
  w : List Word
  /-- Entry `j` of the friction table and of the cogging table. -/
  fr : Nat → Int
  cg : Nat → Int

def Bank.word (b : Bank) (j : Nat) : Word := b.w.getD j 0
/-- C and SH of coefficient word `j`. -/
def Bank.c (b : Bank) (j : Nat) : Int := signed 32 (bitsOf (b.word j) 31 0)
def Bank.sh (b : Bank) (j : Nat) : Int := signed 5 (bitsOf (b.word j) 36 32)
/-- Breakpoint G[i]. -/
def Bank.g (b : Bank) (i : Nat) : Int :=
  signed 32 (if i % 2 == 0 then bitsOf (b.word (16 + i / 2)) 31 0 else bitsOf (b.word (16 + i / 2)) 63 32)

/-- The active bank of axis `k`. -/
def State.activeBank (s : State) (k : Nat) : Bank :=
  let t := fun (base j : Nat) =>
    let w := s.reg (ACE_TAB_ACTIVE k (base + j / 4))
    signed 16 (bitsOf w (16 * (j % 4) + 15) (16 * (j % 4)))
  ⟨(List.range 64).map fun j => s.reg (ACE_COEF_ACTIVE k j), t 0, t 1024⟩

/-- The position gain at |e| = `a` counts (R316). -/
def gainLookup (b : Bank) (a : Nat) : Int :=
  let sh := bitsOf (b.word 4) 5 0
  let i := min (a / 2 ^ sh) 64
  if i == 64 then b.g 64
  else b.g i + quotT ((b.g (i + 1) - b.g i) * (a - i * 2 ^ sh : Nat)) (2 ^ sh : Nat)

/-- Table index of position `x` (R317). -/
def tabIdx (x : Int) (span : Nat) : Nat := (x.emod span * 4096 / span).toNat

/-- A table entry in Q32.32 (R314). -/
def tval (t tsh : Int) : SV := (sv t).shl (32 + tsh).toNat

/-- The friction term (R317). -/
def fricTerm (b : Bank) (x vcmd : Int) : SV :=
  let w := b.word 6
  if bitsOf w 63 63 == 0 then sv 0
  else
    let t := tval (b.fr (tabIdx x (bitsOf w 31 0))) (b.sh 6)
    if bitsOf w 62 62 == 0 then t
    else if 0 < vcmd then t else if vcmd < 0 then t.neg else sv 0

/-- The cogging term (R317). -/
def cogTerm (b : Bank) (x : Int) : SV :=
  let w := b.word 7
  if bitsOf w 63 63 == 0 then sv 0 else tval (b.cg (tabIdx x (bitsOf w 31 0))) (b.sh 7)

/-- Position feedback of a field word (R312): `last` is the latest position in the history. -/
def fbPosition (w : Word) (lsb bits : Nat) (last : Option Int) : SV :=
  let field := w.toNat / 2 ^ lsb % 2 ^ bits
  if decide (64 ≤ bits) then sv (signed 64 field)
  else
    match last with
    | none => sv (signed bits field)
    | some x => (sv x).add (sv (signed bits (unsign bits ((field : Int) - x))))

/-- The extrapolated position (Table R321). -/
def extrapolate (h0 h1 h2 : Int) (hist : Nat) : Option SV :=
  match hist with
  | 0 => none
  | 1 => some (sv h0)
  | 2 => some ((satV (2 * h0) false).sub (sv h1))
  | _ => some (((satV (3 * h0) false).sub (satV (3 * h1) false)).add (sv h2))

/-- The velocity filter of R315: the new vf. -/
def filterVf (b : Bank) (x h0 vf : Int) (hist gap : Nat) : SV :=
  let d := ((sv x).sub (sv h0)).q
  let vr : SV := if hist == 0 then sv 0 else ⟨quotT d.v gap, d.f⟩
  (sv vf).add ((vr.sub (sv vf)).shr (bitsOf (b.word 8) 3 0))

/-- Setpoints of a sample. -/
structure SetPt where
  r : Int
  v : Int
  a : Int
  resetI : Bool
  holdI : Bool
deriving DecidableEq, Repr

/-- What the control law answers. -/
structure LawOut where
  u : Int
  vref : Int
  e : Int
  i : Int
  vf : Int
  isat : Bool
  osat : Bool
  arith : Bool
deriving DecidableEq, Repr

/-- One sample of the control law (R315). -/
def controlLaw (b : Bank) (p : SetPt) (x h0 vf i : Int) (hist gap : Nat) : LawOut :=
  let nvf := filterVf b x h0 vf hist gap
  let e := (sv p.r).sub (sv x)
  let ae := e.abs
  let vcmd := (e.q.gmul (gainLookup b ae.v.toNat) (b.sh 4)).add ((sv p.v).gmul (b.c 2) (b.sh 2))
  let ev := vcmd.sub nvf
  let rest := (((ev.gmul (b.c 0) (b.sh 0)).add ((sv p.a).gmul (b.c 3) (b.sh 3))).add
    (fricTerm b x vcmd.v)).add (cogTerm b x)
  let di := if p.holdI then sv 0 else ev.gmul (b.c 1) (b.sh 1)
  let i0 := if p.resetI then 0 else i
  let hi := (sv (signed 32 (bitsOf (b.word 5) 63 32))).q.v
  let lo := (sv (signed 32 (bitsOf (b.word 5) 31 0))).q.v
  let ic := (sv i0).add di
  let test := rest.add ic
  let hold := (decide (0 < di.v) && decide (hi < test.v)) || (decide (di.v < 0) && decide (test.v < lo))
  let icv := if hold then i0 else ic.v
  let ni := clampInt icv lo hi
  let u := rest.add (sv ni)
  { u := sarInt (clampInt u.v lo hi) 32
    vref := satSigned 32 (sarInt vcmd.v 16)
    e := e.v
    i := ni
    vf := nvf.v
    isat := hold || decide (hi < icv) || decide (icv < lo)
    osat := decide (hi < u.v) || decide (u.v < lo)
    arith := ae.f || nvf.f || rest.f || ic.f || (di.v != 0 && test.f) || u.f }

/-- The start of a stop ramp from R and V_SET, and whether the addition saturated (R314, R327). -/
def rampStart (r v : Int) : Ramp × Bool :=
  let p := (sv r).add (sv (sarInt v 32))
  (⟨p.v, v.emod (2 ^ 32), v⟩, p.f)

/-- One step of the ramp: the new ramp, A_SET, and whether an operation saturated (R327). -/
def rampStep (r : Ramp) (decel : Nat) : Ramp × Int × Bool :=
  let d : Int := decel * 256
  let v : SV := if 0 < r.v then (let t := (sv r.v).sub (sv d); ⟨max t.v 0, t.f⟩)
    else if r.v < 0 then (let t := (sv r.v).add (sv d); ⟨min t.v 0, t.f⟩)
    else sv 0
  let t := (sv r.f).add v
  let p := (sv r.p).add (sv (sarInt t.v 32))
  let a := (sv v.v).sub (sv r.v)
  (⟨p.v, t.v.emod (2 ^ 32), v.v⟩, a.v, t.f || p.f || a.f)

end Sys2Proof.Machine
end

