-- ==== Sys2Proof/Machine/Ace.lean ====
section
/-! DEFINITION. The axis control engine (chapter 11, R309 to R335; R26 to R30, R532): landings, dispatch,
samples, ACE_DL, history, stop functions, bank commands. -/

namespace Sys2Proof.Machine

/-! ## An axis's standing -/

def State.axisOn (s : State) (k : Nat) : Bool := s.bit (ACE_AXk_CFG_EN k)

/-- Two items of one region overlap. -/
def ConnRec.overlaps (a b : ConnRec) : Bool :=
  a.dir == b.dir && decide (a.off < b.off + b.len) && decide (b.off < a.off + a.len)

/-- The result item that ACE_AXk_IO gives axis `k`, and its setpoint item (R309). -/
def axisResult (k : Nat) (io : Word) : ConnRec := ⟨5, 0, k, 2, bitsOf io 48 32⟩
def axisSetpoint (k : Nat) (io : Word) : ConnRec := ⟨5, 1, k, 4, bitsOf io 16 0⟩

/-- The ACE dispatches in this mode and the cycle runs (Table R326). -/
def State.aceLive (s : State) : Bool := s.domOn 7 && s.cyclicMode && s.cycLive

/-- LT of phase `n` of the current cycle. -/
def State.phaseAt (s : State) (n : Nat) : Nat := s.ntu.cyc.edge + s.ntu.cyc.act.phases.getD n 0 * nsU

/-- LT of the CLK_TIME edge of ACE_DL (R324). -/
def State.dlEdge (s : State) : Nat :=
  s.ntu.cyc.edge + (s.phaseAt 3 - s.ntu.cyc.edge + s.ltStep - 1) / s.ltStep * s.ltStep

/-- Stop state: 0 NONE, 1 RAMP, 2 STO. -/
def State.axisStop (s : State) (k : Nat) : Nat := s.rd (ACE_AXk_STAT_STOP_STATE k)

/-- The landing of the cycle was on time. -/
def State.axisOnTime (s : State) (k : Nat) : Bool := (s.axis k).land.isSome && !(s.axis k).ext

/-- LT from which the axis is ready, if it is (R318): after its landing or its deadline, never before
ACE_DISP. -/
def State.axisReadyAt (s : State) (k : Nat) : Option Nat :=
  let x := s.axis k
  if !s.axisOn k || x.phase != 0 then none
  else
    match x.land with
    | some l => some (max (s.phaseAt 2) (if s.axisOnTime k then l.1 + s.ltStep * 5 / 16 else s.axisDeadline k))
    | none => if x.ext then some (max (s.phaseAt 2) (s.axisDeadline k)) else none

/-- READY of ACE_AXk_STAT (R329). -/
def State.axisReadyBit (s : State) (k : Nat) : State :=
  s.wrB (ACE_AXk_STAT_READY k)
    ((s.mode == 6 || s.mode == 7) && s.axisOn k && s.rd (ACE_AXk_STAT_HIST k) == 3
      && !s.bit (ACE_AXk_STAT_FB_LOST k) && s.rd (ACE_AXk_STAT_ONTIME_RUN k) == 8)

/-- SFI_STO as the SFI holds it; during a ramp it moves the axis to STO at once (R327, R328). -/
def State.aceSto (s : State) (k : Nat) (sto : Bool) : State :=
  if !s.domOn 7 then s
  else
    let s := s.wrB (ACE_AXk_STAT_SFI_STO k) sto
    if sto && s.axisStop k == 1 then s.wr (ACE_AXk_STAT_STOP_STATE k) 2 else s

/-! ## Deadline and dispatch (R28, R318 to R321) -/

/-- ACE_DEADLINE (R318): the deadline passes with no landing. -/
def execAceDeadline (k : Fin 64) (s : State) : Host.Outcome State Fault Refusal :=
  let x := s.axis k
  if !s.aceLive || !s.axisOn k || x.phase != 0 || x.land.isSome || x.ext then .next s
  else .next ((s.advanceTo (s.axisDeadline k)).axisUpd k fun x => { x with ext := true })

/-- The first of `l` at or after `p`, in round-robin order. -/
def roundRobin (l : List Nat) (p : Nat) : Option Nat :=
  match l.find? fun k => decide (p ≤ k) with
  | some k => some k
  | none => l.head?

/-- The safe result (R311). -/
def safeResult (stop : Nat) (sto : Bool) (cycle : Nat) : Word × Word :=
  (BitVec.ofNat 64 (b2n (sto || stop == 2) * 2 ^ 62 + b2n (stop == 1) * 2 ^ 61), BitVec.ofNat 64 (cycle % 2 ^ 32 * 2 ^ 32))

/-- What a sample reads besides the axis's own state. -/
structure SampleIn where
  mode : Nat
  sp : List Word
  sto : Bool
  lost : Bool
  stop : Nat
  ext : Bool
  hist : Nat
  cycle : Nat
  ssN : Nat
deriving DecidableEq, Repr

/-- HIST as the sample treats it (R322). -/
def State.sampleHist (s : State) (k : Nat) : Nat :=
  let h := s.rd (ACE_AXk_STAT_HIST k)
  if (s.axis k).broken then min h 1 else h

/-- The result item of a sample that ran the control law (R311). -/
def lawResult (o : LawOut) (ramp ext : Bool) (cycle : Nat) : Word × Word :=
  (BitVec.ofNat 64 (2 ^ 63 + b2n ramp * 2 ^ 61 + b2n ext * 2 ^ 60 + b2n o.osat * 2 ^ 58 + b2n o.isat * 2 ^ 57
      + unsign 32 o.u),
   BitVec.ofNat 64 (cycle % 2 ^ 32 * 2 ^ 32 + unsign 32 o.vref))

/-- A sample of axis state `x` under bank `b` with position `px`, started at LT `t` and complete at `ends` (R26, R315, Table R326,
R327). -/
def runSample (b : Bank) (x : AxSt) (n : SampleIn) (px : Option SV) (t ends : Nat) : AxSample :=
  let r := signed 64 (n.sp.getD 0 0).toNat
  let w3 := n.sp.getD 3 0
  let en := bitsOf w3 0 0 == 1 && bitsOf w3 63 3 == 0
  let safe := safeResult n.stop n.sto n.cycle
  let gap := max ((n.cycle + 2 ^ 64 - x.h0c) % 2 ^ 64) 1
  let past := decide (bitsOf x.stop 47 32 ≤ n.ssN)
  let after := if n.stop == 1 && past then 2 else n.stop
  let base : AxSample :=
    { start := t, ends := ends, x := px.map SV.v, e := px.map fun p => satSigned 64 (r - p.v), i := x.i, vf := x.vf,
      isat := false, osat := false, arith := false, w0 := safe.1, w1 := safe.2, ramp := x.ramp, still := x.still,
      stop := after, prev := none }
  match px with
  | none => { base with i := if n.sto || n.mode == 6 then 0 else x.i }
  | some p =>
    if x.bankBad then { base with i := if n.sto || n.mode == 6 then 0 else x.i }
    else if n.mode == 9 && n.stop == 1 && !n.sto then
      match x.ramp with
      | none => base
      | some rp =>
        let (rp', a, f) := rampStep rp (bitsOf x.stop 31 0)
        let o := controlLaw b ⟨rp'.p, rp'.v, a, false, false⟩ p.v x.h0 x.vf x.i n.hist gap
        let still := if rp'.v == 0 && decide (o.vf.natAbs ≤ bitsOf x.stop 55 48 * 2 ^ 28) then x.still + 1 else 0
        let w := lawResult o true n.ext n.cycle
        { base with
          e := some o.e
          i := o.i
          vf := o.vf
          isat := o.isat
          osat := o.osat
          arith := o.arith || f || p.f
          w0 := w.1
          w1 := w.2
          ramp := some rp'
          still := still
          stop := if decide (4 ≤ still) then 2 else after }
    else if n.mode == 7 && en && !n.lost && !n.sto then
      let v := signed 64 (n.sp.getD 1 0).toNat
      let o := controlLaw b ⟨r, v, signed 64 (n.sp.getD 2 0).toNat, bitsOf w3 2 2 == 1, bitsOf w3 1 1 == 1⟩
        p.v x.h0 x.vf x.i n.hist gap
      let w := lawResult o false n.ext n.cycle
      { base with
        e := some o.e
        i := o.i
        vf := o.vf
        isat := o.isat
        osat := o.osat
        arith := o.arith || p.f
        w0 := w.1
        w1 := w.2
        prev := some (r, v) }
    else
      let f := filterVf b p.v x.h0 x.vf n.hist gap
      { base with
        i := 0
        vf := f.v
        arith := f.f || p.f }

/-- An axis state error (R532): the sample is abandoned; HIST, I and vf become 0. -/
def State.axisError (s : State) (k : Nat) (bank : Bool) : State :=
  let s := s.axisUpd k fun x => { x with phase := 3, i := 0, vf := 0, bankBad := x.bankBad || bank }
  let s := ((s.wr (ACE_AXk_STAT_HIST k) 0).axisReadyBit k).logEvent 0x0500 uACE 2 (k + b2n bank * 2 ^ 8)
  s.safeStopFault 7

/-- Word 0 of the feedback of axis `k`, and whether it was bad; a sample that extrapolates reads none (R321). -/
def State.fbWord (s : State) (k : Nat) (ext : Bool) : Word × Bool × State :=
  if ext then (0, false, s) else s.sramRead false (s.fillBase + 8 * s.rd (ACE_AXk_CFG_FB_OFF k))

/-- The sample of axis `k` starts (R320): setpoint item and feedback are read; `ecc` 1 is an error met in the
axis's state, 2 one in its active bank. `t` is the LT of the CLK_ENG cycle of the dispatch, whose results are complete
1,440 such cycles later (R26). -/
def State.sampleStart (s : State) (k ecc t : Nat) : State :=
  let x := s.axis k
  let ext := !s.axisOnTime k
  let s := if ext then (s.wrB (ACE_AXk_STAT_EXTRAP k) true).putImage { s.image with extrap := setBitAt s.image.extrap k true } else s
  let (sb, ue, s) := s.hostBytes (8 * s.rd (ACE_AXk_IO_SP_OFF k)) 32
  let sp := (List.range 4).map fun j => (BitVec.ofNat 64 (natOfLE ((sb.drop (8 * j)).take 8)) : Word)
  let (fb, ue2, s) := s.fbWord k ext
  if ue || ue2 || ecc != 0 then s.axisError k (ecc == 2)
  else
    let s := if bitsOf (sp.getD 3 0) 63 3 == 0 then s else (s.wrB (ACE_AXk_STAT_SP_ERR k) true).setIstat uACE 16
    let hist := s.sampleHist k
    let last := if s.rd (ACE_AXk_STAT_HIST k) == 0 then none else some x.h0
    let px := if ext then extrapolate x.h0 x.h1 x.h2 hist
      else some (fbPosition fb (s.rd (ACE_AXk_CFG_FB_LSB k)) (s.rd (ACE_AXk_CFG_FB_BITS k)) last)
    let n : SampleIn :=
      ⟨s.mode, sp, s.bit (ACE_AXk_STAT_SFI_STO k), s.bit (ACE_AXk_STAT_FB_LOST k), s.axisStop k, ext, hist,
       s.rd NTU_CYC_COUNT_CYCLE, s.ace.ssN⟩
    s.setAxis k { x with phase := 1, sample := some (runSample (s.activeBank k) x n px t (t + 450 * s.ltStep)) }

/-- ACE_DISPATCH (R319): the lane takes, in the first cycle in which it can accept one, the ready axis that is
next in round-robin order. -/
def execAceDispatch (lane : Fin 4) (ecc : Fin 3) (s : State) : Host.Outcome State Fault Refusal :=
  let l := mapGet (fun _ => LaneSt.reset) s.ace.lanes lane
  let ready := ((List.range 64).filter fun k => s.rd (ACE_AXk_CFG_LANE k) == lane.val).filterMap fun k =>
    (s.axisReadyAt k).map fun t => (k, t)
  match ready.map Prod.snd with
  | [] => .next s
  | t0 :: ts =>
    let free := match l.last with | none => 0 | some a => a + 60 * s.ltStep
    let t := max s.ntu.lt (max free (ts.foldl min t0))
    if !s.aceLive || s.ace.dlDone || decide (s.dlEdge < t) then .next s
    else
      match roundRobin ((ready.filter fun e => decide (e.2 ≤ t)).map Prod.fst) l.ptr with
      | none => .next s
      | some k =>
        let s := s.advanceTo t
        let s := s.putAce { s.ace with
            lanes := mapPut (fun _ => LaneSt.reset) s.ace.lanes lane ⟨(k + 1) % 64, some t⟩ }
        .next (s.sampleStart k ecc t)

/-! ## Completion (R324) -/

/-- The result item of axis `k` is written and its FRESH bit sets. -/
def State.writeResult (s : State) (k : Nat) (w : Word × Word) : State :=
  let s := s.axisUpd k fun x => { x with last := some w }
  s.landItem (s.rd (ACE_AXk_IO_RES_CONN k)) (8 * s.rd (ACE_AXk_IO_RES_OFF k)) (wordsBytes [w.1, w.2])

/-- A sample completes: the axis's states, sticky flags, result item. -/
def State.sampleDone (s : State) (k : Nat) (m : AxSample) : State :=
  let x := s.axis k
  let s := s.setAxis k { x with
    i := m.i
    vf := m.vf
    ramp := m.ramp
    still := m.still
    prev := m.prev
    phase := 2
    broken := false }
  let s := if x.broken then s.wr (ACE_AXk_STAT_HIST k) (min (s.rd (ACE_AXk_STAT_HIST k)) 1) else s
  let s := s.axisReadyBit k
  let s := if s.axisStop k == 2 then s else s.wr (ACE_AXk_STAT_STOP_STATE k) m.stop
  let s := if m.isat then s.wrB (ACE_AXk_STAT_ISAT k) true else s
  let s := if m.osat then s.wrB (ACE_AXk_STAT_OSAT k) true else s
  let s := if m.arith then s.wrB (ACE_AXk_STAT_ARITH k) true else s
  s.writeResult k (m.w0, m.w1)

/-- ACE_RESULT_LAND (R324): 1,440 cycles after dispatch; a result that would miss ACE_DL does not land. -/
def execAceResultLand (k : Fin 64) (s : State) : Host.Outcome State Fault Refusal :=
  let x := s.axis k
  match x.sample with
  | none => .next s
  | some m =>
    if !s.aceLive || x.phase != 1 || decide (s.dlEdge < m.ends) then .next s
    else .next ((s.advanceTo m.ends).sampleDone k m)

/-- A value with a sign, where there is one, into a register field. -/
def State.wrSome (s : State) (f : Fld) (v : Option Int) : State :=
  match v with
  | none => s
  | some v => s.wr f (unsign 64 v)

/-- The snapshot of a completed sample (R325). -/
def State.axisSnap (s : State) (k : Nat) (m : AxSample) : State :=
  let s := (s.wrSome (ACE_AXk_SPOS_VALUE k) m.x).wrSome (ACE_AXk_SERR_VALUE k) m.e
  (s.wr (ACE_AXk_SOUT_VALUE k) m.w0.toNat).wr (ACE_AXk_SINT_VALUE k) (unsign 64 m.i)

/-- Axis `k` at ACE_DL: a result that has landed is complete; otherwise the sample is abandoned and the item
last written is repeated with OUT_LATE (R30, R324). -/
def State.axisDl (s : State) (k : Nat) : State :=
  let x := s.axis k
  let land := match x.sample with
    | none => none
    | some m => if x.phase == 2 || (x.phase == 1 && decide (m.ends ≤ s.dlEdge)) then some m else none
  match land with
  | some m => ((if x.phase == 1 then s.sampleDone k m else s)).axisSnap k m
  | none =>
    let c := s.rd NTU_CYC_COUNT_CYCLE
    let w := match x.last with
      | none => safeResult (s.axisStop k) (s.bit (ACE_AXk_STAT_SFI_STO k)) c
      | some w => (w.1, BitVec.ofNat 64 (c % 2 ^ 32 * 2 ^ 32 + w.2.toNat % 2 ^ 32))
    let w0 : Word := if x.last.isSome then w.1 ||| BitVec.ofNat 64 (2 ^ 59) else w.1
    let s := s.axisUpd k fun x => { x with phase := 3, sample := none, broken := true }
    let s := (s.wrB (ACE_AXk_STAT_OUT_LATE k) true).setIstat uACE 8
    ((s.writeResult k (w0, w.2)).putImage { s.image with outLate := setBitAt s.image.outLate k true })

/-- Phase ACE_DL (R325). -/
def State.aceDl (s : State) : State :=
  if !s.domOn 7 then s
  else
    let s := if s.cyclicMode then (List.range 64).foldl (fun s k => if s.axisOn k then s.axisDl k else s) s else s
    let s := (s.wr ACE_SNAP_EXTRAP_VALUE s.image.extrap).wr ACE_SNAP_OUTLATE_VALUE s.image.outLate
    let s := s.incWrap ACE_SNAP_SEQ_VALUE
    s.putAce { s.ace with dlDone := true }

/-! ## Boundaries (R322, R323, R327, R331, R335) -/

/-- An operation of axis `k` saturated: its sticky flag sets (R314). -/
def State.axisArith (s : State) (k : Nat) (f : Bool) : State := if f then s.wrB (ACE_AXk_STAT_ARITH k) true else s

/-- The history shift of a completed sample (R322), at the boundary, where COUNT already names the next cycle. -/
def State.axisShift (s : State) (k : Nat) : State :=
  let x := s.axis k
  let hist := s.rd (ACE_AXk_STAT_HIST k)
  let late := match x.land with
    | none => none
    | some l => if s.axisOnTime k then none
      else some (fbPosition l.2 (s.rd (ACE_AXk_CFG_FB_LSB k)) (s.rd (ACE_AXk_CFG_FB_BITS k))
        (if hist == 0 then none else some x.h0))
  let s := match late with
    | none => s
    | some p => s.axisArith k p.f
  let used := match x.sample with | none => none | some m => m.x
  match (match late with | some p => some p.v | none => used) with
  | none => s
  | some v =>
    (s.setAxis k { x with h0 := v, h1 := x.h0, h2 := x.h1, h0c := (s.rd NTU_CYC_COUNT_CYCLE + 2 ^ 64 - 1) % 2 ^ 64 }).wr
      (ACE_AXk_STAT_HIST k) (min 3 (hist + 1))

/-- Axis `k` at the end of a cycle in SAFEOP, OP or SAFESTOP: the history, the run counts, FB_LOST. -/
def State.axisClose (s : State) (k : Nat) : State :=
  let x := s.axis k
  let s := if x.phase == 2 then s.axisShift k else s.axisUpd k fun x => { x with broken := true }
  let s := s.wr (ACE_AXk_STAT_ONTIME_RUN k) (if s.axisOnTime k then min 8 (s.rd (ACE_AXk_STAT_ONTIME_RUN k) + 1) else 0)
  let s := if s.axisStop k == 1 && decide (bitsOf x.stop 47 32 ≤ s.ace.ssN) then s.wr (ACE_AXk_STAT_STOP_STATE k) 2 else s
  if x.land.isSome then s
  else
    let s := s.inc (ACE_AXk_STAT_EXTRAP_RUN k)
    if s.bit (ACE_AXk_STAT_FB_LOST k) || decide (s.rd (ACE_AXk_STAT_EXTRAP_RUN k) < bitsOf x.time 63 60) then s
    else
      let s := (s.wrB (ACE_AXk_STAT_FB_LOST k) true).setIstat uACE 4
      let s := if s.axisStop k == 1 then s.wr (ACE_AXk_STAT_STOP_STATE k) 2 else s
      s.safeStopFault 3

/-- The ACE closes the cycle that ends, in the mode it had. -/
def State.aceClose (s : State) : State :=
  if !s.domOn 7 || !s.cyclicMode then s
  else (List.range 64).foldl (fun s k => if s.axisOn k then s.axisClose k else s) s

/-- TIME and STOP of axis `k` as they take effect at the boundary edge that has come: a write in the CLK_TIME cycle that
ends there waits for the boundary after it (R335). -/
def State.axisTimed (s : State) (k : Nat) : Word × Word :=
  let now := (s.reg (ACE_AXk_TIME k), s.reg (ACE_AXk_STOP k))
  match (s.axis k).wrote with
  | none => now
  | some (t, old) => if decide (s.ntu.lt ≤ t + s.ltStep) then old else now

/-- The ACE opens the cycle that begins: TIME and STOP take effect, a checked bank swap takes place. -/
def State.aceOpen (s : State) : State :=
  let s := s.putImage { s.image with extrap := 0, outLate := 0 }
  if !s.domOn 7 then s
  else
    let s := s.bankSwapDue
    let one := fun (s : State) (k : Nat) =>
      (s.axisUpd k fun x => { x with
        time := (s.axisTimed k).1
        stop := (s.axisTimed k).2
        land := none
        ext := false
        phase := 0
        sample := none }).axisReadyBit k
    let s := (List.range 64).foldl one s
    s.putAce { s.ace with dlDone := false, ssN := if s.mode == 9 then s.ace.ssN + 1 else 0 }

/-- Axis `k` outside the dispatch modes: cleared (Table R326). -/
def State.axisClear (s : State) (k : Nat) : State :=
  let s := s.axisUpd k fun x => { AxSt.reset with time := x.time, stop := x.stop, wrote := x.wrote, last := x.last, bankBad := x.bankBad }
  let s := (s.wr (ACE_AXk_STAT_HIST k) 0).wr (ACE_AXk_STAT_STOP_STATE k) 0
  ((s.wr (ACE_AXk_STAT_ONTIME_RUN k) 0).wr (ACE_AXk_STAT_EXTRAP_RUN k) 0).wrB (ACE_AXk_STAT_READY k) false

/-- Axis `k` enters SAFESTOP (R327). -/
def State.axisStopEnter (s : State) (k : Nat) : State :=
  let x := s.axis k
  let ok := s.bit (ACE_AXk_STOP_FN k) && !s.bit (ACE_AXk_STAT_FB_LOST k) && !s.bit (ACE_AXk_STAT_SFI_STO k)
  match x.prev with
  | some (r, v) =>
    let (rp, f) := rampStart r v
    if ok then ((s.setAxis k { x with ramp := some rp, still := 0 }).wr (ACE_AXk_STAT_STOP_STATE k) 1).axisArith k f
    else s.wr (ACE_AXk_STAT_STOP_STATE k) 2
  | none => s.wr (ACE_AXk_STAT_STOP_STATE k) 2

/-- The ACE at the entry of mode `m`; SYSCTL_MODE.MODE still shows the mode left. -/
def State.aceMode (s : State) (m : Nat) : State :=
  if !s.domOn 7 then s
  else if m == 9 then
    let s := s.putAce { s.ace with ssN := 0 }
    (List.range 64).foldl (fun s k => if s.axisOn k then s.axisStopEnter k else s) s
  else if m == 6 || m == 7 then
    (List.range 64).foldl (fun s k =>
      if s.axisStop k == 0 then s
      else (s.wr (ACE_AXk_STAT_STOP_STATE k) 0).axisUpd k fun x => { x with ramp := none, still := 0 }) s
  else (List.range 64).foldl (fun s k => s.axisClear k) s

/-! ## Bank commands (R331 to R333) -/

/-- ACE_BANK_APPLY (R331). -/
def execAceBankApply (s : State) : Host.Outcome State Fault Refusal :=
  .next (if s.domOn 7 then s.bankApply none else s)

/-- ACE_APPLY_CHECK_DONE (R331). -/
def execAceApplyCheckDone (s : State) : Host.Outcome State Fault Refusal :=
  if !s.domOn 7 || !s.bit ACE_BANK_STAT_APPLY_PENDING || s.ace.checked then .next s
  else .next (s.bankChecked s.cycRun)

/-- ACE_COPY (R333). -/
def execAceCopy (axis : Fin 64) (s : State) : Host.Outcome State Fault Refusal :=
  .next (if s.domOn 7 then (s.bankCopy axis).2 else s)

/-- ACE_COPY_DONE (R333). -/
def execAceCopyDone (s : State) : Host.Outcome State Fault Refusal :=
  .next (if s.domOn 7 && s.bit ACE_BANK_STAT_COPY_BUSY then s.bankCopied else s)

end Sys2Proof.Machine
end

