-- ==== Sys2Proof/Machine/SfiAxis.lean ====
section
/-! DEFINITION. The safety island's logic within a tick, on its own state: connections, inputs, signals,
zones, outputs, axes (R342 to R351, R355 to R358, R365 to R370). -/

namespace Sys2Proof.Machine

/-- A period of `n` ticks from tick `t` of `us` µs has elapsed at the present tick (R340: 500 µs each). -/
def SfiSt.elapsed (x : SfiSt) (t us : Nat) : Bool := decide (us ≤ (x.tick - t) * 500)

/-! ## Connections (R355, R356) -/

def SfiSt.ident (x : SfiSt) (c : Nat) : Nat := x.get 0x400 c

/-- DATA of CONN_LEN bytes, or START (R353). -/
def SfiSt.lenOk (x : SfiSt) (c kind len : Nat) : Bool :=
  (kind == 0 && len == x.get 0x404 c) || (kind == 1 && len == 0)

/-- A PDU of input connection `c` is checked. -/
def SfiSt.takePdu (x : SfiSt) (c : Nat) (p : List Byte) : SfiSt :=
  let y := x.conn c
  let o := dslCheck (x.ident c) (x.get 0x402 c) (x.lenOk c) y.last p
  x.setConn c (y.take o p x.tick)

/-- The watchdog of `c` has expired. -/
def SfiSt.connDue (x : SfiSt) (c : Nat) : Bool :=
  let y := x.conn c
  (y.st == 1 || y.st == 2) && x.elapsed y.since (x.get 0x402 c * 1000)

/-- Connection `c` enters FAIL at its watchdog's expiry. -/
def SfiSt.connExpire (x : SfiSt) (c : Nat) : SfiSt :=
  let y := x.conn c
  { x.setConn c { y with st := 3, okRun := 0, wdExp := sat8 (y.wdExp + 1), lastErr := 5 } with
    cntWd := min 0xFFFF (x.cntWd + 1) }

/-- The captures and relay slots of this tick are taken and checked, and the watchdogs (R340, R356). In
DEGRADED only ETH connections run (R61). -/
def SfiSt.takeAll (x : SfiSt) : SfiSt :=
  let deg := x.seen == 8
  let pi := if deg then [] else x.captures.filterMap fun e => e.2.map fun p => (e.1, p)
  let got := (pi ++ x.rx).filter fun e => x.isInput e.1
  let x1 := got.foldl (fun x e => x.takePdu e.1 e.2) { x with captures := [], rx := [] }
  (x1.connList.filter x1.isInput).foldl (fun x c => if x.connDue c then x.connExpire c else x) x1

/-- Data of connection `c` in use (R349, R356). -/
def SfiSt.connUsed (x : SfiSt) (c : Nat) : Bool := (x.conn c).st == 2 && !(x.conn c).fs

/-! ## Inputs (R342, R343, R345) -/

def SfiSt.pair (x : SfiSt) (p : Nat) : SfiPair := mapGet (fun _ => SfiPair.reset) x.pairs p

def SfiSt.setPair (x : SfiSt) (p : Nat) (y : SfiPair) : SfiSt :=
  { x with pairs := mapPut (fun _ => SfiPair.reset) x.pairs p y }

/-- A press of `n` ticks ends in an acknowledge event (R345). -/
def pressOk (n : Nat) : Bool := within n 100 6000

/-- Pair `p` in this tick (R343). The result says whether it produces an acknowledge event. -/
def SfiSt.pairTick (x : SfiSt) (p : Nat) : SfiSt × Bool :=
  let mode := x.get 0x100 p
  let y := x.pair p
  if mode == 0 || decide (3 < mode) then (x.setPair p { y with run := 0, press := 0, released := false }, false)
  else
    let ra := bitAt x.raw (2 * p)
    let rb := if mode == 2 then !bitAt x.raw (2 * p + 1) else bitAt x.raw (2 * p + 1)
    let run := y.run + 1
    let z :=
      if y.latched then
        let seen := y.seenSafe || (!ra && !rb)
        if seen && ra && rb then { y with latched := false, run := 0, seenSafe := seen } else { y with seenSafe := seen }
      else if ra != rb then
        (if decide (x.get 0x101 p ≤ run) then { y with latched := true, seenSafe := false, run := run }
         else { y with run := run })
      else { y with run := 0 }
    let rel := !z.latched && !z.tpFault && ra && rb
    let event := mode == 3 && !rel && pressOk y.press
    ({ x.setPair p { z with released := rel, press := if rel then y.press + 1 else 0 } with
       cntDisc := if z.latched && !y.latched then min 0xFFFF (x.cntDisc + 1) else x.cntDisc }, event)

/-- A signal stands released (R349). -/
def SfiSt.signal (x : SfiSt) (n : Nat) : Bool :=
  if decide (n < 12) then (x.pair n).released
  else if within n 32 159 && parHas x.par.recs 0x500 n then
    let v := x.get 0x500 n
    let c := v / 2 ^ 16 % 512
    x.connUsed c && bitAt ((x.conn c).data.getD (v / 256 % 64) 0).toNat (v % 8)
  else false

/-- All pairs, then the acknowledge event of this tick: of the pair or the signal that ACK_SIGNAL names
(R350). -/
def SfiSt.inputs (x : SfiSt) : SfiSt :=
  let a := x.get 0x001 0
  let r := (List.range 12).foldl (fun (x, ev) p =>
    let (x, e) := x.pairTick p
    (x, ev || (e && a == p))) (x, false)
  let x := r.1
  if within a 32 159 then
    let rel := x.signal a
    { x with ack := !rel && pressOk x.press, press := if rel then x.press + 1 else 0 }
  else { x with ack := r.2, press := 0 }

/-- An acknowledge event clears TP_FAULT after both channels have passed a pulse check, and PAIR_FAULT
(R346, R348). -/
def SfiSt.ackFaults (x : SfiSt) : SfiSt :=
  if !x.ack then x
  else
    (List.range 12).foldl (fun x p =>
      let y := x.pair p
      if y.tpFault && y.passA && y.passB then x.setPair p { y with tpFault := false } else x) { x with fault := 0 }

/-! ## Zones (R350, R351) -/

def SfiSt.zoneTick (x : SfiSt) (z : Nat) : SfiSt :=
  let m := parAll x.par.recs 0x300 z
  let dem := bitAt x.zDemand z
  if m.any fun n => !x.signal n then
    { x with zDemand := setBitAt x.zDemand z true, zWait := setBitAt x.zWait z false }
  else if !dem then x
  else if x.get 0x301 z == 0 || m.isEmpty || (bitAt x.zWait z && x.ack) then
    { x with zDemand := setBitAt x.zDemand z false, zWait := setBitAt x.zWait z false }
  else { x with zWait := setBitAt x.zWait z true }

/-- The global stop demand (R351). -/
def SfiSt.gstopNow (x : SfiSt) : Bool := bitAt x.zDemand 0 || bitAt x.zWait 0 || x.st != 4

/-- A function whose zone parameter holds `v` is requested (R365). -/
def SfiSt.zoneReq (x : SfiSt) (v : Nat) : Bool := v == 0xFE || (decide (v < 16) && bitAt x.zDemand v)

/-! ## Outputs (R347, R348, Table R370) -/

def SfiSt.wantPair (x : SfiSt) (q : Nat) : Bool :=
  let role := x.get 0x200 q
  let z := x.get 0x201 q
  let m := x.seen
  if x.st == 5 || bitAt x.fault q then false
  else if role == 2 then m != 0 && m != 1 && m != 10
  else if role == 1 then
    x.st == 4 && m != 0 && m != 1 && m != 8 && m != 10 && decide (z < 16) && !bitAt x.zDemand z
      && (m != 9 || x.get 0x204 q == 1)
  else false

/-- Channel `c` is inside its own test pulse at LT `t` (R348). -/
def SfiSt.inPulse (x : SfiSt) (c t : Nat) : Bool :=
  x.pulses.any fun e => e.1 == c && decide (e.2 ≤ t) && decide (t < e.2 + x.get 0x202 (c / 2) * 1000 * nsU)

/-- The readbacks sampled at the tick start: a pair that is off reads low, a channel that is on reads high outside its
own pulse. -/
def SfiSt.readbackTick (x : SfiSt) (q : Nat) : SfiSt :=
  let rb := x.readback / 4 ^ q % 4
  let due := (List.range 2).foldl (fun m b => m + b2n (!x.inPulse (2 * q + b) x.tickAt) * 2 ^ b) 0
  let bad := if bitAt x.on q then rb != due else rb != 0
  if bad && !bitAt x.fault q then
    { x with
      fault := setBitAt x.fault q true
      on := setBitAt x.on q false
      cntTp := min 0xFFFF (x.cntTp + 1) }
  else x

/-! ## Axes (R365 to R369) -/

def SfiSt.axis (x : SfiSt) (k : Nat) : SfiAxis := mapGet (fun _ => SfiAxis.reset) x.axes k

def SfiSt.setAxis (x : SfiSt) (k : Nat) (a : SfiAxis) : SfiSt :=
  { x with axes := mapPut (fun _ => SfiAxis.reset) x.axes k a }

/-- Severity of an axis state (Table R366). -/
def sevOf (st : Nat) : Nat := if decide (4 ≤ st) then 4 else if st == 1 then 3 else if st == 2 then 2 else if st == 3 then 1 else 0

/-- What the feedback of an axis says in this tick. -/
structure SfiFb where
  usable : Bool
  x : Int
  v : Int
  sto : Bool
  ref : Bool
deriving DecidableEq, Repr

/-- The AXIS_FB connection of axis `k` (R358). -/
def SfiSt.feedback (x : SfiSt) (k : Nat) : SfiFb :=
  match x.connList.find? fun c => x.get 0x401 c == 3 && x.get 0x405 c == k with
  | none => ⟨false, 0, 0, false, false⟩
  | some c =>
    let d := (x.conn c).data
    let b := byteAt d 12
    let used := x.connUsed c
    ⟨used && bitAt b 2, signed 64 (beAt d 0 8), signed 32 (beAt d 8 4), used && bitAt b 0, used && bitAt b 3⟩

/-- The axis enters state `st`. -/
def SfiAxis.enter (a : SfiAxis) (st tick : Nat) (f : SfiFb) : SfiAxis :=
  { a with st := st, ent := tick, v0 := f.v.natAbs, x0 := f.x }

/-- end_ramp of R367: SS1 ends in STO, SS2 in SOS. -/
def SfiAxis.endRamp (a : SfiAxis) (tick : Nat) (f : SfiFb) : SfiAxis :=
  if a.st == 1 then { a.enter 4 tick f with ended1 := true }
  else if a.st == 2 then { a.enter 3 tick f with ended2 := true }
  else a

/-- A tick of an SS1 or SS2 ramp (R367): the axis and the violation found, 0 none. -/
def SfiSt.rampTick (x : SfiSt) (k : Nat) (a : SfiAxis) (f : SfiFb) : SfiAxis × Nat :=
  if a.st != 1 && a.st != 2 then (a, 0)
  else
    let t := (x.tick - a.ent) * 500
    let drop := x.get 0x614 k * t / 1000000
    let lim := (a.v0 - drop) + x.get 0x615 k
    let ramp := x.get 0x612 k == 1
    if ramp && !f.usable then (a, 8)
    else if ramp && decide (lim < f.v.natAbs) then (a, a.st)
    else if (ramp && decide (f.v.natAbs ≤ x.get 0x605 k)) || decide (x.get 0x613 k * 1000 ≤ t) then
      (a.endRamp x.tick f, 0)
    else (a, 0)

/-- The limits of SLS that are requested: index and value. -/
def SfiSt.slsReq (x : SfiSt) (k : Nat) : List (Nat × Nat) :=
  ((List.range 4).filter fun j => x.zoneReq (x.get 0x640 (4 * k + j))).map fun j => (j, x.get 0x641 (4 * k + j))

/-- The one in force: the lowest, of equal ones the first. -/
def slsLow : List (Nat × Nat) → Option (Nat × Nat)
  | [] => none
  | e :: t => match slsLow t with
    | none => some e
    | some m => if decide (e.2 ≤ m.2) then some e else some m

/-- SLP's bound is left, or the axis is not referenced. -/
def SfiSt.slpBad (x : SfiSt) (k : Nat) (f : SfiFb) : Bool :=
  !f.ref || decide (f.x < signed 32 (x.get 0x651 k)) || decide (signed 32 (x.get 0x652 k) < f.x)

/-- The monitoring functions of this tick: the axis and the violations found (R365). -/
def SfiSt.monitor (x : SfiSt) (k : Nat) (a : SfiAxis) (f : SfiFb) : SfiAxis × List Nat :=
  let sos := if a.st != 3 then []
    else if !f.usable then [8]
    else if decide (x.get 0x631 k < (f.x - a.x0).natAbs) || decide (x.get 0x632 k < f.v.natAbs) then [3] else []
  if decide (4 ≤ a.st) then ({ a with sdiRef := none, slsSel := 0 }, [])
  else
    let low := slsLow (x.slsReq k)
    let sls := match low with
      | none => []
      | some m => if !f.usable then [8] else if decide (m.2 < f.v.natAbs) then [4] else []
    let slp := if !x.zoneReq (x.get 0x650 k) then [] else if !f.usable then [8] else if x.slpBad k f then [5] else []
    let req := x.zoneReq (x.get 0x660 k)
    let up := x.get 0x661 k == 0
    let prev := match a.sdiRef with | none => f.x | some r => r
    let ref := if up then max prev f.x else min prev f.x
    let far := if up then decide (f.x < ref - x.get 0x662 k) else decide (ref + x.get 0x662 k < f.x)
    let sdi := if !req then [] else if !f.usable then [8] else if far then [6] else []
    ({ a with
       sdiRef := if req && f.usable then some ref else if req then a.sdiRef else none
       slsSel := match low with | none => 0 | some m => m.1 }, sos ++ sls ++ slp ++ sdi)

/-- SOS, STO_ACK and FB violations lead to STO, the others to AX_REACT (R368). -/
def SfiSt.toSto (x : SfiSt) (k fn : Nat) : Bool := fn == 3 || fn == 7 || fn == 8 || x.get 0x602 k == 0

/-- Violations `l` take effect in this tick (R368). -/
def SfiSt.violate (x : SfiSt) (k : Nat) (a : SfiAxis) (f : SfiFb) (l : List Nat) : SfiAxis :=
  match l with
  | [] => a
  | fn :: _ =>
    let sto := a.violSto || l.any (x.toSto k)
    let b := { a with viol := true, violFn := if a.viol then a.violFn else fn, violSto := sto }
    if sto then (if decide (sevOf b.st < 4) then b.enter 4 x.tick f else b)
    else if decide (sevOf b.st < 3) then b.enter 1 x.tick f else b

/-- The violating condition still holds (R368). -/
def SfiSt.violHolds (x : SfiSt) (k : Nat) (a : SfiAxis) (f : SfiFb) (found : List Nat) : Bool :=
  !found.isEmpty || (a.violFn == 8 && !f.usable) || (a.violFn == 7 && !f.sto)
    || (a.violFn == 5 && x.zoneReq (x.get 0x650 k) && x.slpBad k f)

/-- STO_ACK has run out without the drive's report. -/
def SfiSt.ackDue (x : SfiSt) (k : Nat) (a : SfiAxis) : Bool :=
  match a.ackFrom with
  | none => false
  | some t => a.st == 4 && !a.acked && x.elapsed t (x.get 0x604 k * 1000)

/-- The brake is commanded (SBC of Table R365). -/
def SfiSt.sbcDue (x : SfiSt) (k : Nat) (a : SfiAxis) : Bool :=
  bitAt (x.get 0x603 k) 31
    && (match a.stoAt with
      | none => false
      | some t => a.st == 5 || x.elapsed t (x.get 0x603 k % 2 ^ 16 * 1000))

/-- Axis `k` in this tick (R365 to R369, Table R370). In SAFE_FAULT it receives its AX_GSTOP function (R351). -/
def SfiSt.axisTick (x : SfiSt) (k : Nat) : SfiSt :=
  if x.get 0x600 k == 0 then x.setAxis k SfiAxis.reset
  else
    let a := x.axis k
    let f := x.feedback k
    let z := fun id => x.zoneReq (x.get id k)
    let gst := x.gstop || x.seen == 9
    let forced := !((x.st == 4 || x.st == 5) && (x.seen == 7 || x.seen == 9))
    let rSto := z 0x610 || (gst && x.get 0x601 k == 0) || (a.viol && a.violSto)
    let rSs1 := z 0x611 || (gst && x.get 0x601 k == 1) || (a.viol && !a.violSto)
    let rSs2 := z 0x620
    let e1 := a.ended1 && rSs1
    let e2 := a.ended2 && rSs2
    let rSos := z 0x630 || (rSs2 && e2)
    let stoFn := rSto || (rSs1 && e1)
    let want := if forced || stoFn then 4 else if rSs1 then 1 else if rSs2 && !e2 then 2 else if rSos then 3 else 0
    let mayLeave := !a.viol && x.st == 4 && x.seen == 7
    let a1 := { a with ended1 := e1, ended2 := e2, drvSto := f.sto, referenced := f.ref, vel := f.v }
    let a2 := if decide (sevOf a.st < sevOf want) || (decide (sevOf want < sevOf a.st) && mayLeave) then
      a1.enter want x.tick f else a1
    let (a3, rv) := x.rampTick k a2 f
    let (a4, mv) := x.monitor k a3 f
    let found := (if rv == 0 then [] else [rv]) ++ mv
    let a5 := x.violate k a4 f found
    let isSto := decide (4 ≤ a5.st)
    let supervised := isSto && (stoFn || a5.ended1 || (a5.viol && a5.violSto))
    let a6 := { a5 with
      stoAt := if !isSto then none else if a5.stoAt.isNone then some x.tick else a5.stoAt
      ackFrom := if !supervised then none else if a5.ackFrom.isNone then some x.tick else a5.ackFrom
      acked := supervised && (a5.acked || f.sto) }
    let late := x.ackDue k a6
    let a7 := if late then { x.violate k a6 f [7] with st := 5 } else a6
    let clear := x.ack && a7.viol && !late && !x.violHolds k a7 f found
    let a8 := if clear then
      { a7 with viol := false, violFn := 0, violSto := false, st := if a7.st == 5 then 4 else a7.st } else a7
    let a9 := { a8 with
      sbc := x.sbcDue k a8
      active := b2n (forced || rSto) + 2 * b2n rSs1 + 4 * b2n rSs2 + 8 * b2n rSos + 16 * b2n (!(x.slsReq k).isEmpty)
        + 32 * b2n (z 0x650) + 64 * b2n (z 0x660) + 128 * b2n (bitAt (x.get 0x603 k) 31 && isSto) }
    { x.setAxis k a9 with cntViol := if a9.viol && !a.viol then min 0xFFFF (x.cntViol + 1) else x.cntViol }

/-- An AXIS_CMD connection commands axis `k`. -/
def SfiSt.commands (x : SfiSt) (k : Nat) : Bool := x.connList.any fun c => x.get 0x401 c == 4 && x.get 0x405 c == k

/-- AXIS_CMD.STO of axis `k`, which is the SFI_STO line to the ACE (R328, R369). Before RUN every axis is
commanded STO (R370), and an axis that is not enabled wherever a connection commands it. -/
def SfiSt.stoLine (x : SfiSt) (k : Nat) : Bool :=
  (x.st != 4 && x.st != 5) || (if x.get 0x600 k == 1 then decide (4 ≤ (x.axis k).st) else x.commands k)

/-! ## Production (R357, R358) -/

/-- DATA of output connection `c`. -/
def SfiSt.outData (x : SfiSt) (c : Nat) : List Byte :=
  if x.get 0x401 c == 4 then
    let a := x.axis (x.get 0x405 c)
    let on := x.get 0x600 (x.get 0x405 c) == 1
    [BitVec.ofNat 8 (b2n (!on || decide (4 ≤ a.st)) + 2 * b2n a.sbc), BitVec.ofNat 8 a.st, 0, 0]
  else
    let maps := parAll x.par.recs 0x501 c
    (List.range (x.get 0x404 c)).map fun i =>
      BitVec.ofNat 8 (((maps.filter fun v => v / 2 ^ 24 % 64 == i && !bitAt x.zDemand (v % 16)).map fun v =>
        v / 2 ^ 16 % 8).foldl (fun m b => m ||| 2 ^ b) 0)

/-- The AXIS_CMD data is forced to demand: Table R370 sets STO whatever the functions ask (DEDUCED, log 54). -/
def SfiSt.forcedOut (x : SfiSt) (c : Nat) : Bool := x.get 0x401 c == 4 && x.seen != 7 && x.seen != 9

/-- The PDU that output connection `c` produces in this tick. -/
def SfiSt.produce (x : SfiSt) (c : Nat) : SfiSt :=
  let y := x.conn c
  if !y.prod then x
  else if y.starts != 0 then
    x.setConn c { y with starts := y.starts - 1, pdu := dslPdu (x.ident c) 1 (x.forcedOut c) (x.get 0x402 c) y.txSeq [] }
  else
    let q := (y.txSeq + 1) % 65536
    x.setConn c { y with txSeq := q, pdu := dslPdu (x.ident c) 0 (x.forcedOut c) (x.get 0x402 c) q (x.outData c) }

end Sys2Proof.Machine
end

