-- ==== Sys2Proof/Machine/Sfi.lean ====
section
/-! DEFINITION. The safety island (chapter 12, R336 to R374): ticks, outputs, faults, test pulses, timers,
parameter channel, relay, register view. -/

namespace Sys2Proof.Machine

def State.setSfi (s : State) (x : SfiSt) : State := s.putSfi x

/-- The island exists and is powered (R2, R336). -/
def State.sfiOn (s : State) : Bool := s.sfiHere && s.domOn 1

/-- The island's firmware runs: NOPARAM, PARAM, RUN. -/
def State.sfiRuns (s : State) : Bool := s.sfiOn && (s.sfi.st == 2 || s.sfi.st == 3 || s.sfi.st == 4)

/-- Ticks go on, also in SAFE_FAULT, where the global stop demand stays raised (R351). -/
def State.sfiTicks (s : State) : Bool := s.sfiRuns || (s.sfiOn && s.sfi.st == 5)

/-! ## Faults (R339) -/

/-- The global stop demand is raised while the line stands: SAFEOP and OP are left for SAFESTOP (R351,
Table R45, rank 4 of Table R50). -/
def State.sfiDemand (s : State) : State := if s.liveMode then s.acceptMode 9 0x0A 4 none else s

/-- SAFE_FAULT with `cause`; the first cause stands. -/
def State.sfiFault (s : State) (cause : Nat) : State :=
  if !s.sfiOn || s.sfi.st == 5 || s.sfi.st == 0 then s
  else
    let x := s.sfi
    let s := s.setSfi { x with
      st := 5
      cause := cause
      cut := true
      on := 0
      want := 0
      gstop := true
      line := true
      conns := x.conns.foldl (fun m e => mapPut (fun _ => SfiConn.reset) m e.1 { e.2 with prod := false, pdu := [] }) [] }
    let s := ((s.wr SFI_STAT_STATE 5).wr SFI_STAT_FAULT_CAUSE cause).wrB SFI_STAT_GSTOP true
    (s.logEvent 0x0600 uSFI 2 cause).sfiDemand

/-! ## Parameter sets (R363) -/

/-- START, with SEQ drawn at random, opens production on output connection `c` (R357). -/
def State.sfiBegin (s : State) (c : Nat) : State :=
  let (w, s) := s.takeFree
  s.setSfi (s.sfi.setConn c { s.sfi.conn c with prod := true, starts := 4, txSeq := w.toNat % 65536 })

/-- A set activates: every connection starts, the counters restart, the SFI enters RUN (R363). -/
def State.sfiActivate (s : State) (p : SfiSet) : State :=
  let x := { s.sfi with
    par := p
    next := none
    conns := []
    captures := []
    st := 4
    cntDisc := 0
    cntTp := 0
    cntWd := 0
    cntViol := 0 }
  let ins := (x.connList.filter x.isInput).foldl (fun x c => x.setConn c { SfiConn.reset with st := 1, since := x.tick }) x
  (x.connList.filter x.isOutput).foldl (fun s c => s.sfiBegin c) (s.setSfi ins)

/-- The boot self-test (R339): a failure leads into SAFE_FAULT. -/
def State.sfiSelfTest (s : State) (ok : Bool) : State :=
  if !s.sfiOn then s
  else
    let s := s.setSfi { s.sfi with st := 1 }
    if ok then s else s.sfiFault 5

/-- The stored set is loaded, or there is none (R363). -/
def State.sfiLoad (s : State) : State :=
  if !s.sfiOn || s.sfi.st == 5 then s
  else match s.dcp.storedSafe with
    | none => s.setSfi { s.sfi with st := 2 }
    | some p => s.sfiActivate p

/-! ## The register view (R374) -/

/-- A mask of the numbers below `n` that satisfy `f`. -/
def maskOf (n : Nat) (f : Nat → Bool) : Nat := (List.range n).foldl (fun m i => if f i then m + 2 ^ i else m) 0

def State.sfiViewAxis (s : State) (k : Nat) : State :=
  let x := s.sfi
  let a := x.axis k
  s.setReg (SFI_AXk k) (BitVec.ofNat 64
    (b2n (x.get 0x600 k == 1) * 2 ^ 63 + b2n (x.stoLine k) * 2 ^ 62 + b2n a.sbc * 2 ^ 61 + b2n a.drvSto * 2 ^ 60
      + b2n a.referenced * 2 ^ 59 + b2n a.viol * 2 ^ 58 + a.violFn * 2 ^ 54 + a.st * 2 ^ 51 + a.active * 2 ^ 40
      + a.slsSel * 2 ^ 38 + unsign 32 a.vel))

def State.sfiViewConn (s : State) (c : Nat) : State :=
  let y := s.sfi.conn c
  let seq := if s.sfi.isOutput c then y.txSeq else y.last.getD 0
  s.setReg (SFI_CONNc c) (BitVec.ofNat 64
    (y.st * 2 ^ 61 + b2n y.fs * 2 ^ 60 + y.lastErr * 2 ^ 56 + seq * 2 ^ 32 + y.crcErr * 2 ^ 24 + y.seqErr * 2 ^ 16
      + y.wdExp * 2 ^ 8 + y.fmtErr))

/-- The copy the island writes at the end of a tick. -/
def State.sfiView (s : State) : State :=
  let x := s.sfi
  let s := s.setReg SFI_STAT (BitVec.ofNat 64 (x.cause * 2 ^ 56 + x.seen * 2 ^ 16 + b2n x.gstop * 2 ^ 8 + x.st))
  let s := s.setReg SFI_PSET (BitVec.ofNat 64 (x.par.fscrc * 2 ^ 32 + x.par.version))
  let s := s.setReg SFI_IN (BitVec.ofNat 64
    (maskOf 12 (fun p => (x.pair p).tpFault) * 2 ^ 48 + maskOf 12 (fun p => (x.pair p).latched) * 2 ^ 36
      + maskOf 12 (fun p => (x.pair p).released) * 2 ^ 24 + x.raw))
  let s := s.setReg SFI_OUT (BitVec.ofNat 64
    (x.on * 2 ^ 20 + x.fault * 2 ^ 16 + x.readback * 2 ^ 8 + maskOf 8 (fun i => bitAt x.on (i / 2))))
  let s := s.setReg SFI_ZONE (BitVec.ofNat 64 (x.zWait * 2 ^ 16 + x.zDemand))
  let s := s.setReg SFI_CNT (BitVec.ofNat 64
    (x.cntDisc * 2 ^ 48 + x.cntTp * 2 ^ 32 + x.cntWd * 2 ^ 16 + x.cntViol))
  let s := (List.range 64).foldl (fun s k => s.sfiViewAxis k) s
  let gone := (List.range 512).filter fun c => !x.connList.contains c && s.reg (SFI_CONNc c) != 0
  let s := gone.foldl (fun s c => s.setReg (SFI_CONNc c) 0) s
  let s := x.connList.foldl (fun s c => s.sfiViewConn c) s
  s.incWrap SFI_SNAP_SEQ_SEQ

/-! ## The tick (R340) -/

/-- Length of a tick in units of LT. -/
def tickU : Nat := 500000 * nsU

/-- The work of a tick: DSL checks, inputs, zones, axes, outputs wanted, PDUs. -/
def State.sfiLogic (s : State) : State :=
  let x := (s.sfi.takeAll.inputs).ackFaults
  let x := (List.range 4).foldl (fun x q => x.readbackTick q) x
  let x := (List.range 16).foldl (fun x z => x.zoneTick z) x
  let x := { x with gstop := x.gstopNow }
  let x := (List.range 64).foldl (fun x k => x.axisTick k) x
  let x := { x with want := maskOf 4 x.wantPair }
  s.setSfi ((x.connList.filter x.isOutput).foldl (fun x c => x.produce c) x)

/-- PI production restarts at the first tick that sees OP after any mode other than OP and SAFESTOP
(R357). -/
def State.sfiRestartPi (s : State) (was : Nat) : State :=
  let x := s.sfi
  if x.seen == 7 && was != 7 && was != 9 then
    (x.connList.filter fun c => x.isOutput c && !x.isEth c).foldl (fun s c => s.sfiBegin c) s
  else s

/-- SFI_TICK_START (R340, R341): the view of the tick that ends is written; inputs, readbacks, captures and
the mode are sampled and the tick's logic runs on them. In SAFE_FAULT no set activates and nothing is produced. -/
def execSfiTickStart (raw : BitVec 24) (readback : BitVec 8) (s : State) : Host.Outcome State Fault Refusal :=
  if !s.sfiTicks then .next s
  else
    let t := if s.sfi.tick == 0 then s.ntu.lt else s.sfi.tickAt + tickU
    let s := s.advanceTo t
    let s := if s.sfi.inTick then s.sfiView else s
    let was := s.sfi.seen
    let s := s.setSfi { s.sfi with
      tick := s.sfi.tick + 1
      tickAt := t
      inTick := true
      due := true
      raw := raw.toNat
      readback := readback.toNat
      seen := s.mode }
    if s.sfi.st == 5 then .next s.sfiLogic
    else
      let s := match s.sfi.next with
        | some p => s.sfiActivate p
        | none => if s.sfi.st == 4 then s.sfiRestartPi was else s
      .next s.sfiLogic

/-! ## Outputs (R340, R359, R360) -/

/-- The frame that carries PDU `p` under relay entry `e` (R352, R360, Table R411): destination, source, VID. -/
def relayFrame (e p : List Byte) : List Byte :=
  let vid := natOfLE ((e.drop 16).take 2)
  let head := (e.drop 4).take 12 ++ (if vid == 0 then [] else [0x81, 0x00] ++ bytesBE 2 vid) ++ [0x88, 0xB5] ++ p
  head ++ List.replicate (60 - head.length) 0

/-- The MGP sends what lies in the transmit slots; a PDU without a relay entry is not sent (R360). -/
def State.sfiRelay (s : State) : State :=
  if !s.domOn 2 || s.dcp.restarting then s
  else
    let l := s.sfi.tx
    l.foldl (fun s e => match mapGet (fun _ => []) s.dcp.relay e.1 with
      | [] => s
      | r => s.swArrive { EthFrame.blank with bytes := relayFrame r e.2, ingress := 15 }) (s.setSfi { s.sfi with tx := [] })

/-- A PDU is placed in a transmit slot: in the one that still holds an older PDU of its connection, or in a
free one of 64. -/
def SfiSt.place (x : SfiSt) (c : Nat) (p : List Byte) : SfiSt :=
  let rest := x.tx.filter fun e => e.1 != c
  if decide (64 ≤ rest.length) then x else { x with tx := rest ++ [(c, p)] }

/-- Every current PDU of a PI output is written as one item into the filling copy (R359). -/
def State.sfiRewrite (s : State) : State :=
  if !s.sfiRuns || s.sfi.seen == 8 then s
  else
    let x := s.sfi
    (x.connList.filter fun c => x.isOutput c && !x.isEth c && (x.conn c).pdu.length != 0).foldl (fun s c =>
      s.landItem (x.piConn c) (8 * x.piOff c) (padWords (x.conn c).pdu)) s

/-- SFI_OUTPUT_SWITCH (R340, R351): at 150 µs safe outputs, demand lines and the global stop line; DSL
telegrams follow. -/
def execSfiOutputSwitch (s : State) : Host.Outcome State Fault Refusal :=
  if !s.sfiTicks || !s.sfi.due then .next s
  else
    let s := s.advanceTo (s.sfi.tickAt + 150000 * nsU)
    let x := s.sfi
    let on := maskOf 4 fun q => bitAt x.want q && !bitAt x.fault q
    let s := s.setSfi { x with
      due := false
      on := on
      line := x.gstop
      pulses := x.pulses.filter fun e => bitAt x.on (e.1 / 2) && bitAt on (e.1 / 2) }
    let s := (List.range 64).foldl (fun s k => s.aceSto k (x.stoLine k)) s
    let s := if x.gstop then s.sfiDemand else s
    let s := s.sfiRewrite
    let eth := x.connList.filter fun c => x.isOutput c && x.isEth c && (x.conn c).pdu.length != 0
    .next (s.setSfi (eth.foldl (fun y c => y.place c (x.conn c).pdu) s.sfi)).sfiRelay

/-- SFI_TICK_OVERRUN (R339): tick logic is not complete by 150 µs. -/
def execSfiTickOverrun (s : State) : Host.Outcome State Fault Refusal :=
  if !s.sfiRuns || !s.sfi.due then .next s
  else .next ((s.advanceTo (s.sfi.tickAt + 150000 * nsU)).sfiFault 6)

/-- The cause of Table R339 that a finding is, if it is one: an action not issued alike within 64 CLK_SAFE cycles (R337),
a count outside 17,000 to 23,000, an RC reference that stops for 10 µs, a supply outside 0.70 V to 0.80 V (R338). -/
def findingCause : SfiFinding → Option Nat
  | .compare same apart => if same && decide (apart ≤ 64) then none else some 1
  | .clock count => if decide (17000 ≤ count) && decide (count ≤ 23000) then none else some 2
  | .rcStop micros => if decide (micros < 10) then none else some 2
  | .supply tenths => if decide (7000 ≤ tenths) && decide (tenths ≤ 8000) then none else some 3
  | .mem _ _ => some 4
  | .selftest pass => if pass then none else some 5
  | .cutLine right => if right then none else some 7

/-- The word of island memory that a finding names is noted. -/
def State.sfiNote (s : State) : SfiFinding → State
  | .mem core word => s.setSfi { s.sfi with ramBad := s.sfi.ramBad ++ [(core.val, word.val)] }
  | _ => s

/-- SFI_FAULT_DETECT (R337 to R339): what a monitor finds. -/
def execSfiFaultDetect (e : SfiFinding) (s : State) : Host.Outcome State Fault Refusal :=
  match findingCause e with
  | none => .next s
  | some c => .next (if s.sfiOn then (s.sfiNote e).sfiFault c else s)

/-- SFI_PERIODIC_SELFTEST (R339): its outcome. -/
def execSfiPeriodicSelftest (pass : Bool) (s : State) : Host.Outcome State Fault Refusal :=
  .next (if pass || !s.sfiRuns then s else s.sfiFault 5)

/-! ## Test pulses (R346, R348) -/

/-- Pulse checks of input pair `p`, fed from the pulsed pair, for channel `b` (0 A, 1 B) at levels `inp`. -/
def SfiSt.pulsePair (x : SfiSt) (p b inp : Nat) : SfiSt :=
  let y := x.pair p
  let own := !bitAt x.raw (2 * p + b) || !bitAt inp (2 * p + b)
  let other := !bitAt x.raw (2 * p + 1 - b) || bitAt inp (2 * p + 1 - b)
  if own && other then x.setPair p (if b == 0 then { y with passA := true } else { y with passB := true })
  else
    { x.setPair p { y with tpFault := true, passA := false, passB := false } with
      cntTp := if y.tpFault then x.cntTp else min 0xFFFF (x.cntTp + 1) }

/-- LT at which the next test pulse of channel `b` of pair `q` begins (R348): one period after its latest one; channel B
pulses half a period after channel A. The first pulse of channel A after the pair is energised begins when it is
commanded (DESIGN CHOICE, log 91), and none of channel B precedes it. -/
def SfiSt.pulseDue (x : SfiSt) (q b now : Nat) : Option Nat :=
  let per := x.get 0x203 q * 1000000 * nsU
  let last := fun (c : Nat) => (x.pulses.find? fun e => e.1 == c).map Prod.snd
  match last (2 * q + b) with
  | some t => some (t + per)
  | none => if b == 0 then some now else (last (2 * q)).map fun t => t + per / 2

/-- What the readbacks and input levels within a pulse show (R346, R348). -/
def SfiSt.pulseCheck (x : SfiSt) (q b : Nat) (readback inp : Nat) : SfiSt :=
  let x := (List.range 12).foldl (fun x p =>
    if x.get 0x100 p != 0 && x.get 0x102 p == q && x.get 0x200 q == 2 then x.pulsePair p b inp else x) x
  if bitAt readback (2 * q + b) || !bitAt readback (2 * q + 1 - b) then
    { x with
      fault := setBitAt x.fault q true
      on := setBitAt x.on q false
      cntTp := min 0xFFFF (x.cntTp + 1) }
  else x

/-- OUT_TEST_PULSE (R346, R348): channel `b` of the energised pair `q` is off for OUT_TP_W through the cut path;
`readback` and `inp` are the readbacks and input levels within the pulse. A wrong readback of the cut line is the fault
CUT_TEST (Table R339). -/
def execOutTestPulse (q : Fin 4) (b : Fin 2) (readback : PulseRead) (inp : BitVec 24) (s : State) :
    Host.Outcome State Fault Refusal :=
  if !s.sfiRuns || !bitAt s.sfi.on q then .next s
  else match s.sfi.pulseDue q b s.ntu.lt with
    | none => .next s
    | some t =>
      let c := 2 * q.val + b.val
      let s := s.advanceTo (t + s.sfi.get 0x202 q * 1000 * nsU)
      let x := { s.sfi with pulses := (c, t) :: s.sfi.pulses.filter fun e => e.1 != c }
      let s := s.setSfi (x.pulseCheck q b readback.levels.toNat inp.toNat)
      .next (if readback.cutOk then s else s.sfiFault 7)

/-! ## Timers (R356, R365, R367), which the tick start at or after them sees -/

/-- Time moves to the start of tick `n`. -/
def State.sfiTo (s : State) (n : Nat) : State :=
  let x := s.sfi
  if decide (n ≤ x.tick) then s
  else
    let t := x.tickAt + (n - x.tick) * tickU
    let s := s.advanceTo t
    s.setSfi { s.sfi with tick := n, tickAt := t }

/-- DSL_WATCHDOG_EXPIRE (R356). -/
def execDslWatchdogExpire (c : Fin 512) (s : State) : Host.Outcome State Fault Refusal :=
  let y := s.sfi.conn c
  if !s.sfiRuns || s.sfi.st != 4 || !s.sfi.isInput c || (y.st != 1 && y.st != 2) then .next s
  else
    let s := s.sfiTo (y.since + 2 * s.sfi.get 0x402 c)
    .next (s.setSfi (s.sfi.connExpire c))

/-- STO_ACK_TIMEOUT (R365). -/
def execStoAckTimeout (k : Fin 64) (s : State) : Host.Outcome State Fault Refusal :=
  let a := s.sfi.axis k
  match a.ackFrom with
  | none => .next s
  | some t =>
    if !s.sfiTicks || a.st != 4 || a.acked then .next s
    else
      let s := s.sfiTo (t + 2 * s.sfi.get 0x604 k)
      let x := s.sfi
      let b := { x.violate k a (x.feedback k) [7] with st := 5 }
      .next (s.setSfi { x.setAxis k { b with sbc := x.sbcDue k b } with
        cntViol := if a.viol then x.cntViol else min 0xFFFF (x.cntViol + 1) })

/-- SS1_TIME_EXPIRE (R367). -/
def execSs1TimeExpire (k : Fin 64) (s : State) : Host.Outcome State Fault Refusal :=
  let a := s.sfi.axis k
  if !s.sfiTicks || (a.st != 1 && a.st != 2) then .next s
  else
    let s := s.sfiTo (a.ent + 2 * s.sfi.get 0x613 k)
    let x := s.sfi
    let b := a.endRamp x.tick (x.feedback k)
    let b := if b.st == 4 then { b with stoAt := some x.tick, ackFrom := some x.tick, acked := (x.feedback k).sto } else b
    .next (s.setSfi (x.setAxis k { b with sbc := x.sbcDue k b }))

/-- SBC_DELAY_EXPIRE (R365). -/
def execSbcDelayExpire (k : Fin 64) (s : State) : Host.Outcome State Fault Refusal :=
  let a := s.sfi.axis k
  match a.stoAt with
  | none => .next s
  | some t =>
    if !s.sfiTicks || !bitAt (s.sfi.get 0x603 k) 31 then .next s
    else
      let s := s.sfiTo (t + 2 * (s.sfi.get 0x603 k % 2 ^ 16))
      .next (s.setSfi (s.sfi.setAxis k { a with sbc := true }))

/-! ## The parameter channel (R362, R363) -/

/-- The records of a PARAM PDU; none where a partial record follows. -/
def recsOf : Nat → List Byte → Option (List SfiRec)
  | 0, l => if l.isEmpty then some [] else none
  | n + 1, l =>
    if l.isEmpty then some []
    else if decide (l.length < 8) then none
    else (recsOf n (l.drop 8)).map fun t => ⟨beAt l 0 2, beAt l 2 2, beAt l 4 4⟩ :: t

def SfiRec.bytes (e : SfiRec) : List Byte := bytesBE 2 e.id ++ bytesBE 2 e.idx ++ bytesBE 4 e.val

/-- A PARAM PDU's data: RESULT and the state. -/
def State.sfiParam (s : State) (d : List Byte) : Nat × State :=
  let x := s.sfi
  let first := beAt d 0 2
  let total := beAt d 2 2
  let have_ := match x.load with | none => (0, []) | some l => l
  if x.seen != 3 then (4, s)
  else if first != 0 && first != have_.2.length then (2, s)
  else match recsOf 8 (d.drop 4) with
    | none => (1, s)
    | some r =>
      let all := (if first == 0 then [] else have_.2) ++ r
      if r.any (fun e => !e.known) || decide (total < all.length) || (first != 0 && total != have_.1) then (1, s)
      else (0, s.setSfi { x with load := some (total, all), st := if x.st == 2 then 3 else x.st })

/-- A COMMIT PDU's data: RESULT and the state (R363). -/
def State.sfiCommit (s : State) (d : List Byte) : Nat × State :=
  let x := s.sfi
  if x.seen != 3 then (4, s)
  else match x.load with
    | none => (2, s)
    | some (total, r) =>
      let crc := beAt d 0 4
      if r.length != total then (2, s)
      else if dslCrc parIdent (r.flatMap SfiRec.bytes) != crc then (3, s)
      else if !parSetOk r then (5, s)
      else
        let p : SfiSet := ⟨r, crc, beAt d 4 4⟩
        (0, ((s.setSfi { x with next := some p, load := none }).putDcp { s.dcp with storedSafe := some p }))

/-- KIND and LEN of the parameter channel (R353). -/
def chanLenOk (kind len : Nat) : Bool :=
  (kind == 1 && len == 0) || (kind == 2 && within len 4 60) || (kind == 4 && len == 8)

/-- The sequence number of the next PDU of channel `y`: free before the first one. -/
def State.sfiNextSeq (s : State) (y : SfiConn) : Word × State :=
  if y.prod then (BitVec.ofNat 64 ((y.txSeq + 1) % 65536), s) else s.takeFree

/-- A PDU of the parameter channel: the PARAM_ACK, if the island answers with one (R362). -/
def State.sfiParamPdu (s : State) (p : List Byte) : Option (List Byte) × State :=
  if !s.sfiRuns then (none, s)
  else
    let y := s.sfi.chan
    let o := dslCheck parIdent 1000 chanLenOk y.last p
    let y := y.take o p s.sfi.tick
    let s := s.setSfi { s.sfi with chan := y }
    if o == .start then (some [], s)
    else if o != .data || y.st == 3 || y.st == 0 then (none, s)
    else
      let d := (p.drop 6).take (byteAt p 1)
      let isParam := byteAt p 0 / 4 % 8 == 2
      let r := if isParam then s.sfiParam d else s.sfiCommit d
      let (q, s) := r.2.sfiNextSeq y
      let q := q.toNat % 65536
      let s := s.setSfi { s.sfi with chan := { y with prod := true, txSeq := q } }
      let first := if isParam then beAt d 0 2 else 0
      (some (dslPdu parIdent 3 false 1000 q ([BitVec.ofNat 8 r.1, 0] ++ bytesBE 2 first)), s)

/-! ## Relay receive (R360) -/

/-- A received ETH PDU is written into a free receive slot with its connection number; without one it is
lost. -/
def State.sfiReceive (s : State) (c : Nat) (p : List Byte) : State :=
  if !s.sfiOn || decide (64 ≤ s.sfi.rx.length) then s
  else s.setSfi { s.sfi with rx := s.sfi.rx ++ [(c, p.take 126)] }

end Sys2Proof.Machine
end

