-- ==== Sys2Proof/Machine/Modes.lean ====
section
/-! DEFINITION. Operating modes: which commands run in which mode, taking a transition, its conditions, the
cycle boundary (chapter 02, R40 to R66; R408, R411, R493). -/

namespace Sys2Proof.Machine

/-! ## Mode sets of the commands (R411) -/

/-- The modes of ALL. -/
def modeAll (m : Nat) : Bool := decide (2 ≤ m) && decide (m ≤ 11) && m != 10

/-- The modes of RUN. -/
def modeRun (m : Nat) : Bool := modeAll m && m != 2 && m != 8

/-- Commands whose mode set is ALL. -/
def opsAll : List Nat := [0x000, 0x001, 0x002, 0x003, 0x100, 0x101, 0x501, 0x700, 0x701, 0x704]

/-- Commands whose mode set is RUN; the intrusive and destructive forms of the last two are checked by the
command itself. -/
def opsRun : List Nat :=
  [0x202, 0x204, 0x205, 0x208, 0x302, 0x303, 0x306, 0x400, 0x401, 0x402, 0x403, 0x404, 0x603, 0x800, 0x702, 0x703]

/-- Commands whose mode set is CFG. -/
def opsCfg : List Nat :=
  [0x004, 0x102, 0x200, 0x201, 0x203, 0x206, 0x207, 0x300, 0x301, 0x304, 0x305, 0x600, 0x801, 0x802]

/-- Mode `m` is in the mode set of `op`. -/
def opMode (op m : Nat) : Bool :=
  if opsAll.contains op then modeAll m
  else if opsRun.contains op then modeRun m
  else if opsCfg.contains op then m == 3
  else if op == 0x500 then modeRun m || m == 8
  else if op == 0x005 then m == 2 || m == 3
  else if op == 0x601 || op == 0x602 then m == 11
  else if op == 0x803 then m == 2
  else false

/-- A mode-bound command (R408). -/
def opBound (op : Nat) : Bool := !opsAll.contains op

/-- Mode-bound commands that have not reached their effect point end with WRONG_MODE when the new mode is
outside their mode set (R408). -/
def State.runsMode (s : State) (m : Nat) : State :=
  s.putDcp { s.dcp with runs := s.dcp.runs.map fun r =>
      if r.started && r.result == none && opBound r.opcode && !opMode r.opcode m then { r with result := some ⟨0x203, []⟩ } else r }

/-! ## Entering a mode -/

/-- The mode-change event of every partition that enabled it (R51). -/
def State.modeEvents (s : State) : State :=
  (List.range 6).foldl (fun s p => if s.bit (HIC_PARTp_CTL_MODE_EN p) then s.raiseEvent p 1 else s) s

/-- Internal ports that `d` takes down with it are down in the sense of R145: HP with PD_HOST, an engine port with the
last engine bound to it (R196). -/
def State.portsLost (s was : State) : State :=
  if !s.domOn 6 then s
  else ([10, 11, 12, 13, 14].filter fun p => was.swPortUp p && !s.swPortUp p).foldl State.swPortDown s

/-- Domain `d` is OFF: contents lost, its outputs clamped, its agents reset, its internal ports down; without PD_MEM the
packet queue units are held OFF (R446). -/
def State.domainDown (s : State) (d : Nat) : State :=
  let t := (s.domainOff d).portsLost s
  if !t.domOn 2 then t
  else if d == 9 then t.pqHold
  else (domAgents d).foldl (fun s a => s.agentReset a) t

/-- The domains outside the DEGRADED set power down, but for those that are OFF or FAILED (R490), and undesignated
ports (R58, R59). Replies that are due go out before PD_HOST does (R49, R50). -/
def State.degraded (s : State) : State :=
  let s := s.postAll
  let s := [7, 8, 5, 4, 3, 9].foldl (fun s d => if s.domState d == 0 || s.domState d == 6 then s else s.domainDown d) s
  let s := (List.range 10).foldl (fun s p => if s.portDesignated p then s else s.portDisable p) s
  s.putDcp { s.dcp with runs := s.dcp.runs.filter (fun r => r.slot == 24), pass := [] }

/-- STANDBY entry begins (R66, R493): the units of the domains that go off stop. -/
def State.standbyBegin (s : State) : State :=
  let s := s.putCrp { s.crp with
    entering := true
    armed := false
    latched := 0
    wakeCfg := (s.reg CRP_WAKE_CFG).toNat
    wakeMs := s.rd CRP_WAKE_TMR_MS
    wakeFall := s.bit NTU_SYNCIN_CFG_EDGE }
  match s.standbyNext with
  | none => s
  | some d => s.setDom d 3

/-- A safety demand is active: the global stop line of the SFI (R351). -/
def State.safetyDemand (s : State) : Bool := s.sfiHere && (s.sfi.line || s.sfi.st != 4)

/-- The transition to mode `m` with `cause` takes effect. A safety demand that stands when SAFEOP or OP begins forces
SAFESTOP (Table R45). -/
def State.enterMode (s : State) (m cause : Nat) : State :=
  let old := s.mode
  let reply := match s.pendMode with | none => none | some p => p.reply
  let s := (((s.cbcMode m).canMode m).piaMode m).aceMode m
  let s := ((s.wr SYSCTL_MODE_PREV old).wr SYSCTL_MODE_MODE m).wr SYSCTL_MODE_CAUSE cause
  let s := ((s.inc SYSCTL_MODE_TRANSITIONS).wrB SYSCTL_MODE_PENDING false).wr SYSCTL_MODE_TARGET m
  let s := (s.putPendMode none).putModeAt s.ntu.lt
  let s := (s.enginesMode.runsMode m).modeEvents
  let s := s.logEvent 0x0010 uSYSCTL (if m == 8 then 4 else if m == 9 then 3 else 0) (old + m * 2 ^ 8 + cause * 2 ^ 16)
  let s := match reply with | none => s | some slot => s.dcpResult slot 0 []
  if m == 8 then s.degraded else if m == 10 then s.standbyBegin
  else if (m == 6 || m == 7) && s.safetyDemand then s.sfiDemand else s

/-- A trigger for mode `m`: accepted, and taken at once unless it waits for a cycle boundary (R48, R50).
`always` marks the automatic entries into DEGRADED, which never wait. -/
def State.modeGo (s : State) (m cause rank : Nat) (reply : Option Nat) (always : Bool) : State :=
  let blocked := match s.pendMode with | none => false | some p => decide (p.rank ≤ rank)
  let s := s.acceptMode m cause rank reply
  if blocked || (waitsBoundary s.mode m && !always) then s else s.enterMode m cause

/-- An automatic entry into DEGRADED, rank 3, from the modes Table R45 gives. -/
def State.goDegraded (s : State) (cause : Nat) : State :=
  if decide (2 ≤ s.mode) && s.mode != 8 && s.mode != 10 then s.modeGo 8 cause 3 none true else s

/-! ## Conditions of Table R45 -/

/-- Axis `k` reports STO active (R369). -/
def State.axisReportsSto (s : State) (k : Nat) : Bool :=
  let a := s.sfi.axis k
  !s.sfiHere || s.sfi.get 0x600 k != 1 || (decide (4 ≤ a.st) && a.drvSto)

/-- The stop is complete (R57): every axis reports STO active. Without an SFI, every enabled axis of the ACE
has ended its stop. -/
def State.stopComplete (s : State) : Bool :=
  (List.range 64).all fun k => s.axisReportsSto k && (s.sfiHere || !s.axisOn k || s.axisStop k == 2)

/-- The lowest enabled axis that is not ready. -/
def State.axisNotReady (s : State) : Option Nat :=
  (List.range 64).find? fun k => s.axisOn k && !s.bit (ACE_AXk_STAT_READY k)

/-- How Table R45 answers a MODE_SET from the present mode. -/
inductive ModeAnswer where
  | go
  | noTransition
  | refused (index : Nat)
  | busy
deriving DecidableEq, Repr

/-- A self-test, a march test or an image write runs (R65). -/
def State.testRuns (s : State) : Bool :=
  s.dcp.runs.any fun r => r.started && r.result == none && (r.opcode == 0x702 || r.opcode == 0x703 || r.opcode == 0x601)

/-- Table R45 for a MODE_SET to `m`. -/
def State.modeAnswer (s : State) (m : Nat) : ModeAnswer :=
  let c := s.mode
  let none_ := 0xFFFFFFFF
  if m == 8 then
    (if decide (2 ≤ c) && decide (c ≤ 11) && c != 8 && c != 10 then .go else .noTransition)
  else if (c == 3 && (m == 4 || m == 11 || m == 10)) || (c == 4 && m == 3) || (c == 5 && m == 3)
      || (c == 6 && (m == 5 || m == 9)) || (c == 7 && (m == 6 || m == 9)) then .go
  else if c == 5 && m == 6 then
    let src := s.ntu.cyc.act.src
    if s.cycRun && (src == 0 || decide (2 < src) || s.tdLocked (src - 1)) then .go else .refused none_
  else if c == 6 && m == 7 then
    match s.axisNotReady with
    | some k => .refused k
    | none => if s.safetyDemand then .refused none_ else .go
  else if c == 9 && m == 6 then
    if s.stopComplete && !s.safetyDemand then .go else .refused none_
  else if c == 11 && m == 3 then
    if s.testRuns then .busy else .go
  else .noTransition

/-! ## STARTUP (R52, R53) -/

/-- A segment's STEER names domain `x`. -/
def State.steers (s : State) (x : Nat) : Bool :=
  (List.range 4).any fun g => s.bit (CBC_SEGs_CTL_EN g) && s.rd (CBC_SEGs_SYNC_STEER g) == x + 1

/-- Everything of R53 is brought up. -/
def State.startupDone (s : State) : Bool :=
  ((List.range 4).all fun g => !s.bit (CBC_SEGs_CTL_EN g) || (s.seg g).csfs == 8)
    && ((List.range 24).all fun n => !s.rookRunning n || (s.rook n).inst.isNone || s.bit (PEA_Rn_STAT_NET_UP n))
    && ((List.range 2).all fun x =>
        !(s.bit (NTU_TDx_CTL_EN x) && (s.rd NTU_CYC_CTL_SRC == x + 1 || s.steers x)) || s.tdLocked x)

/-- STARTUP_COMPLETE (R53). -/
def execStartupComplete (s : State) : Host.Outcome State Fault Refusal :=
  .next (if s.mode == 4 && s.startupDone then s.modeGo 5 0x08 5 none false else s)

/-- STARTUP_TIMEOUT (R52). -/
def execStartupTimeout (s : State) : Host.Outcome State Fault Refusal :=
  if s.mode != 4 || s.startupDone then .next s
  else
    let s := s.advanceTo (s.modeAt + s.rd SYSCTL_MODE_CFG_STARTUP_TMO * 10000000 * nsU)
    .next (s.modeGo 3 0x09 5 none false)

/-! ## The cycle (R21, R25, R31, R48) -/

/-- A pending transition that waited takes effect at this boundary, if it was accepted 2 µs before (R48). -/
def State.modeBoundary (s : State) : State :=
  match s.pendMode with
  | none => s
  | some p => if decide (p.acceptedNs + 2000 ≤ s.ltNs) then s.enterMode p.target p.cause else s

/-- CYCLE_BOUNDARY (R21): every unit keyed to the boundary acts at its edge. -/
def execCycleBoundary (s : State) : Host.Outcome State Fault Refusal :=
  if !s.domOn 6 || !s.cycRun then .next s
  else
    let s := s.ntuBoundary.swcBoundary
    let s := s.cbcBoundary.canBoundary
    let s := s.piaBoundary.aceClose
    .next s.modeBoundary.aceOpen

/-- An invalid image counts INV_RUN; reaching INV_LIMIT is the IMAGE_INVALID fault (R526). -/
def State.imageJudge (s : State) (validity : Nat) : State :=
  if validity == 0 then s.wr SYSCTL_FAULT_STAT_INV_RUN 0
  else if validity == 3 then s
  else
    let n := s.rd SYSCTL_FAULT_STAT_INV_RUN + 1
    let s := s.inc SYSCTL_FAULT_STAT_INV_RUN
    if n == s.rd SYSCTL_FAULT_CFG_INV_LIMIT then s.safeStopFault 0 else s

/-- The swap of the process image (R31, R35, R39). -/
def State.imageSwap (s : State) : State :=
  let base := s.fillBase
  let cycle := s.rd NTU_CYC_COUNT_CYCLE
  let v := s.validity
  let (commits, s) := s.takeCommits
  let words : List Word := [BitVec.ofNat 64 (cycle % 2 ^ 63), BitVec.ofNat 64 (s.ntu.cyc.nominal / nsU),
    BitVec.ofNat 64 v, BitVec.ofNat 64 s.image.extrap, BitVec.ofNat 64 s.image.outLate, BitVec.ofNat 64 commits]
  let s := s.sramWrite false base (wordsBytes words)
  let s := s.putImage { s.image with filling := 1 - s.image.filling, reasons := 0, restart := false }
  let s := s.sramWrite false s.fillBase (wordsBytes [BitVec.ofNat 64 (2 ^ 63 + (cycle + 1) % 2 ^ 63)])
  let s := s.sramWrite false (s.fillBase + 0x40) (List.replicate 512 0)
  s.imageJudge v

/-- The action of PI_SWAP (R31, R387, R359). -/
def State.piSwap (s : State) : State :=
  ((List.range 6).foldl (fun s p => s.wdJudge p) s.imageSwap).sfiRewrite

/-- The action of HOST_NOTE (R25, R72, R259, R285, R394): the notifications and the cycle status snapshots of the NTU,
the CBC and the CANB. The spec gives the PEA no snapshot register, and none is taken (DESIGN CHOICE, log 85). -/
def State.hostNote (s : State) : State :=
  (List.range 6).foldl (fun s p => if s.bit (HIC_PARTp_CTL_NOTE_EN p) then s.raiseEvent p 0 else s)
    s.snapTime.cbcSnap.canSnap

/-- The action of phase `n` (Table R25). At ACE_DISP dispatch opens: an axis that landed earlier is ready from here
(R318), and ACE_DISPATCH takes it. -/
def State.phaseWork (s : State) : Nat → State
  | 0 => s.cbcIn
  | 1 => s.rooksCycStart
  | 2 => s
  | 3 => s.aceDl
  | 4 => s.cbcOut
  | 5 => s.rooksEthTx
  | 6 => s.piSwap
  | _ => s.hostNote

/-- Phase `n` acts, unless it has acted in this cycle. -/
def State.phaseOne (s : State) (n : Nat) : State :=
  if bitAt s.ntu.cyc.phased n then s
  else (s.setCyc { s.ntu.cyc with phased := s.ntu.cyc.phased ||| 2 ^ n }).phaseWork n

/-- The phases that act when phase `n` does: those of lower index at the same offset, then `n` (R25). -/
def State.phasesWith (s : State) (n : Nat) : List Nat :=
  let at_ := fun (k : Nat) => s.ntu.cyc.act.phases.getD k 0
  ((List.range n).filter fun k => at_ k == at_ n) ++ [n]

/-- Phase `n` of the current cycle: time moves to its offset, and the phases due there act in ascending index order,
each once in a cycle (R25). -/
def State.phaseAct (s : State) (n : Nat) : State :=
  if !s.cycLive || bitAt s.ntu.cyc.phased n then s
  else (s.phasesWith n).foldl State.phaseOne (s.toPhase n)

/-- CB_IN (R25). -/
def execCbIn (s : State) : Host.Outcome State Fault Refusal := .next (s.phaseAct 0)

/-- ROOK_IN (R25). -/
def execRookIn (s : State) : Host.Outcome State Fault Refusal := .next (s.phaseAct 1)

/-- ACE_DISP (R25, R318). -/
def execAceDisp (s : State) : Host.Outcome State Fault Refusal := .next (s.phaseAct 2)

/-- ACE_DL (R324, R325). -/
def execAceDl (s : State) : Host.Outcome State Fault Refusal := .next (s.phaseAct 3)

/-- CB_OUT (R238). -/
def execCbOut (s : State) : Host.Outcome State Fault Refusal := .next (s.phaseAct 4)

/-- ETH_TX (R214). -/
def execEthTx (s : State) : Host.Outcome State Fault Refusal := .next (s.phaseAct 5)

/-- PI_SWAP (R31, R387, R359). -/
def execPiSwap (s : State) : Host.Outcome State Fault Refusal := .next (s.phaseAct 6)

/-- HOST_NOTE (R25). -/
def execHostNote (s : State) : Host.Outcome State Fault Refusal := .next (s.phaseAct 7)

end Sys2Proof.Machine
end

