-- ==== Sys2Proof/Machine/Spore.lean ====
section
/-! DEFINITION. Device images and spores: the header of Table R460, its checks (R461, R462), loading a spore
into engines (R216, R217). Checks 5 and 6 of R462 (digest and signature) need keys that no rule gives: their
outcome is data of the command (DESIGN CHOICE, log 56). -/

namespace Sys2Proof.Machine

/-- `n` little-endian bytes of a header at offset `o`. -/
def leAt (h : List Byte) (o n : Nat) : Nat := natOfLE ((h.drop o).take n)

/-- Bytes `o` to `o + n − 1` are 0. -/
def zeroAt (h : List Byte) (o n : Nat) : Bool := ((h.drop o).take n).all fun b => b == 0

/-- Keys revoked, by key index (R461): the Unurn fuses and the written revocation blocks. -/
def State.keyRevoked (s : State) : Nat :=
  (List.range 4).foldl (fun m i => m + b2n (s.boot.factoryWritten.contains (0x84 + i)) * 2 ^ (2 + i))
    (s.boot.unurnRevoked % 4)

/-- The key is fixed in ROM, or its block of the factory area is written. -/
def State.keyPresent (s : State) (k : Nat) : Bool := decide (k < 2) || s.boot.factoryWritten.contains (0x80 + (k - 2))

/-- Check 1 for a header of kind `kind`. -/
def hdrCheck1 (h : List Byte) (kind : Nat) : Bool :=
  leAt h 0 4 == 0x44505849 && leAt h 4 2 == 1 && leAt h 6 1 == kind && zeroAt h 0xD 3 && zeroAt h 0x14 12
    && zeroAt h 0x90 272
    && (if kind == 1 then zeroAt h 0x60 48
        else decide (leAt h 0x53 1 < 2) && zeroAt h 0x54 12 && zeroAt h 0x6E 2 && zeroAt h 0x7E 2 && zeroAt h 0x8E 2)

def sporeRooks (h : List Byte) : Nat := leAt h 0x52 1

/-- Check 2 of a spore whose load length is `len`. -/
def sporeCheck2 (h : List Byte) (len : Nat) : Bool :=
  let body := leAt h 0x10 4
  decide (512 + body ≤ len) && decide (1 ≤ sporeRooks h) && decide (sporeRooks h ≤ 3)
    && ((List.range (sporeRooks h)).all fun e =>
      let o := 0x60 + 16 * e
      let iLen := leAt h (o + 3) 3
      let dLen := leAt h (o + 9) 3
      let start := leAt h (o + 12) 2
      decide (iLen ≤ 0x10000) && decide (dLen ≤ 0x20000) && decide (leAt h o 3 + iLen ≤ body)
        && decide (leAt h (o + 6) 3 + dLen ≤ body) && start % 4 == 0 && decide (start < iLen))

/-- Check 2 of a device image: the body fits the slot. -/
def imageCheck2 (h : List Byte) : Bool := decide (512 + leAt h 0x10 4 ≤ 0x600000)

/-- Check 3. -/
def State.hdrCheck3 (s : State) (h : List Byte) (kind : Nat) : Bool :=
  let k := leAt h 7 1
  (if kind == 1 then k == 0 else decide (1 ≤ k) && decide (k ≤ 5)) && s.keyPresent k && !bitAt s.keyRevoked k

/-- The first check of R462 that a device image fails, given the outcome of checks 5 and 6; 0 where it
passes. -/
def State.imageVerify (s : State) (h : List Byte) (signed : Bool) : Nat :=
  if !hdrCheck1 h 1 then 1 else if !imageCheck2 h then 2 else if !s.hdrCheck3 h 1 then 3
  else if decide (leAt h 0xC 1 < s.boot.svn) then 4 else if signed then 0 else 6

/-- The same for a spore. -/
def State.sporeVerify (s : State) (h : List Byte) (len : Nat) (signed : Bool) : Nat :=
  if !hdrCheck1 h 2 then 1 else if !sporeCheck2 h len then 2 else if !s.hdrCheck3 h 2 then 3
  else if signed then 0 else 6

/-- The bytes of one memory of an engine, cleared and then filled. -/
def fillMem (m : List Host.Cell) (base size : Nat) (b : List Byte) : List Host.Cell :=
  memPutBytes (m.filter fun c => !(decide (base ≤ c.1) && decide (c.1 < base + size))) base b

/-- Engine `n` takes I-space, D-space and START of engine `e` of the spore whose bytes are `h` (R216). -/
def State.sporeEngine (s : State) (h : List Byte) (first n e : Nat) : State :=
  let o := 0x60 + 16 * e
  let sec := fun (off len : Nat) => (h.drop (512 + off)).take len
  let m := fillMem s.pmem (ispaceAddr n 0) 0x10000 (sec (leAt h o 3) (leAt h (o + 3) 3))
  let m := fillMem m (dspaceAddr n 0) 0x20000 (sec (leAt h (o + 6) 3) (leAt h (o + 9) 3))
  let s := s.putPmem m
  let s := (s.wr (PEA_Rn_CTL_START n) (leAt h (o + 12) 2)).wrB (PEA_Rn_CTL_EN n) false
  s.rookUpd n fun r => { r with inst := some first, listenOnly := leAt h 0x53 1 % 2 == 1 }

/-- The engines of a mask, ascending. -/
def engineList (mask : Nat) : List Nat := (List.range 24).filter fun n => bitAt mask n

/-- The spore goes into the engines of `l`, its engines in their order (R216). -/
def State.sporeInto (s : State) (h : List Byte) (first : Nat) : List Nat → Nat → State
  | [], _ => s
  | n :: t, e => (s.sporeEngine h first n e).sporeInto h first t (e + 1)

def State.sporeInstall (s : State) (h : List Byte) (mask : Nat) : State :=
  let l := engineList mask
  s.sporeInto h (l.headD 0) l 0

/-- A load that fails after it has begun writing: I-space of every engine named holds 0 (R217), and no spore is loaded
there. -/
def State.sporeBlank (s : State) (mask : Nat) : State :=
  let s := s.putPmem ((engineList mask).foldl (fun m n => fillMem m (ispaceAddr n 0) 0x10000 []) s.pmem)
  (engineList mask).foldl (fun s n => s.rookUpd n fun r => { r with inst := none, listenOnly := false }) s

end Sys2Proof.Machine
end

