-- ==== Sys2Proof/Machine/Boot.lean ====
section
/-! DEFINITION. Resets, the start sequence, the boot journal, failed starts, handover, life cycle and debug
access (chapter 16, R449 to R472; R528, R539, R540, R544, R553, R554). -/

namespace Sys2Proof.Machine

def State.setBoot (s : State) (f : BootSt → BootSt) : State := s.putBoot (f s.boot)

/-! ## Registers that show start-up state -/

/-- SEC_LC and SEC_BOOT (R472). -/
def State.secShow (s : State) : State :=
  let b := s.boot
  let s := ((s.wr SEC_LC_STATE b.lifeCycle).wr SEC_LC_SVN b.svn).wr SEC_LC_KEY_REVOKED s.keyRevoked
  let s := ((s.wr SEC_BOOT_START_NO (b.startNo % 2 ^ 32)).wr SEC_BOOT_KIND b.kind).wr SEC_BOOT_FAIL_COUNT b.failCount
  let s := ((s.wr SEC_BOOT_SLOT_A b.slotA).wr SEC_BOOT_SLOT_B b.slotB).wr SEC_BOOT_PREFERRED b.preferred
  s.wr SEC_BOOT_ACTIVE b.active

/-! ## Resets (R449 to R452, R420, R553) -/

/-- Every domain except PD_AON is held in reset: contents lost, every register at its reset value. The first
start after DEGRADED sets FAIL_COUNT to 0 (R456); a reset ends a start, and RST_STUCK (R451). -/
def State.resetAll (s : State) : State :=
  let deg := s.domOn 2 && s.mode == 8
  let s := [1, 2, 3, 4, 5, 6, 7, 8, 9].foldl (fun s d => (s.domainLost d).setDom d 0) s
  let s := (s.wr CRP_PD_STAT_PENDING 0).wrB CRP_PLL_STAT_LOCKED false
  let s := s.wrB SYSCTL_RST_STAT_RST_STUCK false
  let s := s.putCrp { CrpSt.reset with memLost := s.crp.memLost, mramStop := s.crp.mramStop }
  s.setBoot fun b => { b with
    running := false
    halted := none
    statusFrame := false
    nextKind := none
    romServes := false
    skipped := []
    resetDue := none
    tokenOpen := false
    failCount := if deg then 0 else b.failCount }

/-- A start of `kind` with `cause` is due; LAST_RESET reads `last`. -/
def State.startDue (s : State) (kind cause last : Nat) : State :=
  (s.wr SYSCTL_RST_STAT_LAST_RESET last).setBoot fun b => { b with nextKind := some kind, nextCause := cause }

/-- POR_N recognised low: every domain, PD_AON included, is in reset; the mask clears (R449). -/
def State.porAssert (s : State) : State :=
  let s := (s.resetAll).resetDomRegs 0
  (s.putCrp CrpSt.reset).setBoot fun b => { b with porHeld := true, sysrstHeld := false }

/-- POR_N_ASSERT (R449, R561). -/
def execPorNAssert (s : State) : Host.Outcome State Fault Refusal := .next s.porAssert

/-- AON_POWER_LOSS (R528). -/
def execAonPowerLoss (s : State) : Host.Outcome State Fault Refusal := .next s.porAssert

/-- POR_N_RELEASE (R449): `rose` says that the supplies rose since the last start. -/
def execPorNRelease (rose : Bool) (s : State) : Host.Outcome State Fault Refusal :=
  if !s.boot.porHeld then .next s
  else
    let s := s.setBoot fun b => { b with porHeld := false }
    .next (if rose then s.startDue 0 2 0 else s.startDue 0 3 1)

/-- SYSRST_N_ASSERT (R450): low for 10 ms; a masked pin has no effect. -/
def execSysrstNAssert (s : State) : Host.Outcome State Fault Refusal :=
  if s.boot.porHeld || s.boot.sysrstHeld || s.bit SYSCTL_RST_STAT_SYSRST_MASKED then .next s
  else
    let s := s.resetAll.wrB SYSCTL_RST_STAT_SYSRST_LEVEL true
    .next (s.setBoot fun b => { b with sysrstHeld := true })

/-- SYSRST_N_RELEASE (R450): high for 10 ms. -/
def execSysrstNRelease (s : State) : Host.Outcome State Fault Refusal :=
  if s.boot.porHeld then .next s
  else
    let s1 := s.wrB SYSCTL_RST_STAT_SYSRST_LEVEL false
    if !s.boot.sysrstHeld then .next s1
    else .next ((s1.setBoot fun b => { b with sysrstHeld := false }).startDue 0 4 2)

/-- RST_STUCK (R451): the latch sets, the pin is masked, a DEGRADED start is due. -/
def execRstStuck (s : State) : Host.Outcome State Fault Refusal :=
  if s.boot.porHeld || !s.boot.sysrstHeld then .next s
  else
    let s := (s.wrB SYSCTL_RST_STAT_RST_STUCK true).wrB SYSCTL_RST_STAT_SYSRST_MASKED true
    .next ((s.setBoot fun b => { b with sysrstHeld := false }).startDue 3 6 2)

/-- SYSRST_UNMASK (R451): high for 100 ms. -/
def execSysrstUnmask (s : State) : Host.Outcome State Fault Refusal :=
  .next (if s.bit SYSCTL_RST_STAT_SYSRST_MASKED then
    (s.wrB SYSCTL_RST_STAT_SYSRST_MASKED false).wrB SYSCTL_RST_STAT_SYSRST_LEVEL false else s)

/-- DEVICE_RESET_ASSERT (R420, R465). -/
def execDeviceResetAssert (s : State) : Host.Outcome State Fault Refusal :=
  match s.boot.resetDue with
  | none => .next s
  | some last => .next (s.resetAll.startDue 0 5 last)

/-! ## The boot journal (R459) -/

/-- A record of the current start. -/
def State.journal (s : State) (step way result time detail : Nat) : State :=
  s.setBoot fun b => { b with
    journal := (⟨b.startNo % 2 ^ 32, step, way, result, time, detail⟩ :: b.journal).take 4096 }

/-- Steps that have an alternate way (Table R454). -/
def stepAlt (k : Nat) : Bool :=
  k == 3 || k == 4 || k == 5 || k == 7 || k == 9 || k == 0xB || k == 0xD || k == 0x10

/-- Optional steps. -/
def stepOptional (k : Nat) : Bool := k == 4 || k == 0xE || k == 0x10 || k == 0x13

/-- Steps that always pass, but for their time limit. -/
def stepPasses (k : Nat) : Bool := k == 1 || k == 2 || k == 0xF || k == 0x11 || k == 0x14

/-- Step `k` runs in a start of `kind` (Tables R453, R454). -/
def State.stepRuns (s : State) (kind k : Nat) : Bool :=
  let sfi := s.sfiHere || !(k == 0xD || k == 0xE || k == 0xF)
  sfi && (if kind == 1 then k != 5 && k != 6
    else if kind == 3 then decide (k ≤ 3) || k == 5 || k == 6 || (decide (0xB ≤ k) && decide (k ≤ 0x12)) || k == 0x14
    else if kind == 4 then decide (k ≤ 6) || k == 0xB || k == 0xC || k == 0x14
    else k != 0x13)

def failed (result : Nat) : Bool := result == 1 || result == 2

/-- The latest record of a run of step `k`, newest record first. -/
def lastRun (j : List JournalRec) (k : Nat) : Option JournalRec := j.find? fun r => r.step == k && r.way != 2

/-- The step counts as failed in the start of record `r`: a failure of step 0x0C or 0x0D also marks step 0x0B
(R455). -/
def stepFailed (j : List JournalRec) (r : JournalRec) : Bool :=
  failed r.result || (r.step == 0xB
    && j.any fun q => q.start == r.start && (q.step == 0xC || q.step == 0xD) && q.way != 2 && failed q.result)

def State.slotState (s : State) (slot : Nat) : Nat := if slot == 0 then s.boot.slotA else s.boot.slotB

/-- Step `k` has an alternate way in this start: that of step 0x0D needs the other slot BOOTABLE (Table R454). -/
def State.altThere (s : State) (k : Nat) : Bool := stepAlt k && (k != 0xD || s.slotState (1 - s.boot.active) == 2)

/-- The way of step `k` (R455): 1 after the primary way failed. -/
def State.stepWay (s : State) (k : Nat) : Nat :=
  if !s.altThere k then 0
  else match lastRun s.boot.journal k with
    | none => 0
    | some r => b2n (r.way == 0 && stepFailed s.boot.journal r)

/-! ## Failed starts (R456, R528) -/

/-- A start has failed. `cause` is the CAUSE of the start that a fault begins, when it is not a boot step. -/
def State.startFail (s : State) (cause : Option Nat) : State :=
  let n := min 3 (s.boot.failCount + 1)
  let was := s.boot.cause
  let s := if s.boot.running then s.journal 0xFF 0 1 s.boot.micros n else s
  let s := s.resetAll
  let s := s.setBoot fun b => { b with failCount := n }
  if n == 3 then s.setBoot fun b => { b with nextKind := some 3, nextCause := 7 }
  else s.startDue 2 (cause.getD was) 4

/-- BOOT stays with FAULT_N asserted and STATUS showing the failed step (R457, R528, R540). -/
def State.bootHalt (s : State) (k : Nat) : State :=
  let n := min 3 (s.boot.failCount + 1)
  let s := s.journal 0xFF 0 1 s.boot.micros n
  (s.setBoot fun b => { b with running := false, halted := some k, statusFrame := false, failCount := n }).secShow

/-- A failed required step: the start halts or fails. -/
def State.stepFailRequired (s : State) (k : Nat) : State :=
  let kind := s.boot.kind
  if ((kind == 3 || kind == 4) && (decide (k ≤ 3) || k == 5 || k == 6)) || (kind == 3 && k == 0x12) then s.bootHalt k
  else s.startFail none

/-! ## What the steps do -/

/-- SVN of the image in a slot, from its header in MRAM. -/
def State.slotSvn (s : State) (slot : Nat) : Nat := (memByte s.mram (slot * 0x600000 + 0xC)).toNat

def State.setSlot (s : State) (slot st : Nat) : State :=
  s.setBoot fun b => if slot == 0 then { b with slotA := st } else { b with slotB := st }

/-- Step 0x02: the stored SYSCTL_MODE_CFG, SYSCTL_FAULT_CFG and SEC_TAMPER_CFG (R68, R546). -/
def State.loadModeCfg (s : State) : State :=
  match s.dcp.storedMode with
  | none => s
  | some (m, f, t) =>
    let s := (s.setReg SYSCTL_MODE_CFG m).setReg SEC_TAMPER_CFG t
    (s.wr SYSCTL_FAULT_CFG_STOP_EN (bitsOf f 7 0)).wr SYSCTL_FAULT_CFG_INV_LIMIT (bitsOf f 47 40)

/-- A failed bank is held OFF (R518). -/
def State.bankFail (s : State) (b : Nat) : State :=
  let s := ((s.wrB (bankFailFld b) true).wr (bankStatFld b) 0).bankClear b
  (s.setIstat uMEM 2).logEvent 0x0101 uMEM 2 b

/-- Step 0x07: the repair table is applied, or rebuilt by the alternate way (R517 to R519). -/
def State.sramRepair (s : State) (way : Nat) (repairs : List (Nat × Nat)) (bad : List Nat) : State :=
  let table := if way == 1 then repairs.map fun e => (⟨e.1, false, e.2⟩ : RepairRec)
    else s.mem.repair.map fun r => { r with pending := false }
  let s := s.putMem { s.mem with repair := table, spareUsed := table.map fun r => r.bank }
  bad.foldl (fun s b => s.bankFail b) s

/-- The sealed copy written back into the vault. -/
def State.restoreSealed (s : State) : State :=
  (s.putSram (s.mem.sealedStore.foldl (fun (m : List Host.Cell) (c : Host.Cell) => memPut m c.1 c.2)
    s.sram)).wrB MEM_VAULT_STAT_SEALED true

/-- A tamper event latched since the vault was sealed. -/
def State.tampered (s : State) : Bool := s.bit SEC_TAMPER_STAT_PIN || s.bit SEC_TAMPER_STAT_MESH

/-- Step 0x0A (R471, R511, R512): the step's DETAIL (Table R544). -/
def State.unsealDetail (s : State) (tagBad : Bool) : Nat :=
  if s.tampered then 3 else if !s.mem.sealKey || !s.mem.sealedCopy then 1 else if tagBad then 2 else 0

/-- Step 0x0A: the key derived anew where it is lost, the copy restored where it is whole. -/
def State.unsealVault (s : State) (tagBad : Bool) : State :=
  if s.tampered then
    let t := vaultWipeDone (s.vaultWipe 1)
    t.putMem { t.mem with sealKey := true, sealedCopy := false, sealedStore := [] }
  else if !s.mem.sealKey then s.putMem { s.mem with sealKey := true, sealedCopy := false, sealedStore := [] }
  else if s.unsealDetail tagBad == 0 then s.restoreSealed
  else s

/-- Register of a calibration item (R417), if the item exists. -/
def calReg (item idx : Nat) : Option Nat :=
  if item == 1 && idx == 0 then some NTU_LT_TRIM
  else if item == 2 && decide (idx < 10) then some (NTU_PORTp_LAT idx)
  else if item == 3 && decide (idx < 10) then some (NTU_PORTp_ASYM idx)
  else none

/-- A calibration value the register can hold (R70, R83). -/
def calFits (item v : Nat) : Bool :=
  if item == 1 then decide ((signed 64 v).natAbs ≤ 1073742)
  else if item == 3 then decide (signed 64 v == signed 32 v)
  else true

/-- The bits the register takes of a value. -/
def calWord (item v : Nat) : Nat := if item == 2 then v else v % 2 ^ 32

/-- The factory value of an item: what Unurn measured, which no rule states (DESIGN CHOICE, log 57). -/
def factoryCal (item idx : Nat) : Nat :=
  let v := (Config.freeFn 3 [item, idx]).toNat
  if item == 1 then unsign 64 (clampInt (signed 64 v) (-1073742) 1073742) else calWord item v

def State.userCal (s : State) (item idx : Nat) : Option Nat := mapGet (fun _ => none) s.dcp.cal (256 * item + idx)

/-- The value in use: the user value whenever one exists. -/
def State.calValue (s : State) (item idx : Nat) : Nat := (s.userCal item idx).getD (factoryCal item idx)

/-- The items and their indices. -/
def calItems : List (Nat × Nat) :=
  (1, 0) :: ((List.range 10).map fun p => (2, p)) ++ ((List.range 10).map fun p => (3, p))

def State.calWrite (s : State) (item idx v : Nat) : State :=
  match calReg item idx with
  | none => s
  | some a => s.setReg a (BitVec.ofNat 64 (calWord item v))

/-- The calibration that step 0x10 read is written into PD_NET (R417, R455, R554): user values unless the step
used the factory values alone; `bad` marks the items whose user value failed its CRC. -/
def State.calLoad (s : State) : State :=
  match s.boot.journal.find? fun r => r.start == s.boot.startNo % 2 ^ 32 && r.step == 0x10 with
  | none => s
  | some r =>
    if r.way == 2 || failed r.result then s
    else calItems.foldl (fun s e =>
      s.calWrite e.1 e.2 (if r.way == 1 || bitAt r.detail e.1 then factoryCal e.1 e.2 else s.calValue e.1 e.2)) s

/-- The stored configuration of the registers of domain `d` (R554); EPC_PORTp_CTL with EN = 0. -/
def State.storedRegs (s : State) (d : Nat) : State :=
  match s.dcp.stored with
  | none => s
  | some c => (c.regs.filter fun e => domOf e.1 == d).foldl (fun s e => s.setReg e.1 e.2) s

/-- PEA_CMAP_DATA of a record of UNIT PEA (R210, R413). -/
def cmapWord (r : ConnRec) : Word :=
  BitVec.ofNat 64 (2 ^ 63 + b2n (r.dir == 1) * 2 ^ 62 + r.agent % 32 * 2 ^ 57 + r.off % 2 ^ 17 * 2 ^ 5
    + (r.len - 1) % 32)

/-- Step 0x11: the registry, the relay table and the registers of domains already ON. A DEGRADED start takes
the network and relay parts only. -/
def State.configLoad (s : State) (deg : Bool) : State :=
  match s.dcp.stored with
  | none => s
  | some c =>
    let s := s.putDcp { s.dcp with relay := c.relay, conns := if deg then [] else c.conns }
    let s := if deg then s else
      s.putCmap (c.conns.foldl (fun m e => match e.2 with
          | some r => if r.unit == 1 then mapPut (fun _ => 0) m e.1 (cmapWord r) else m
          | none => m) s.cmap)
    if deg then s else ([0, 2, 3, 9].filter fun d => s.domOn d).foldl (fun s d => s.storedRegs d) s

/-- A domain comes ON in step 0x12 with the values stored for it. -/
def State.domainBoot (s : State) (d : Nat) : State :=
  let s := (s.domainOn d).storedRegs d
  if d != 6 then s
  else match s.dcp.stored with
    | none => s.calLoad
    | some c => s.calLoad.setSwc { s.swc with tables := c.tables }

/-- A spore as it lies in shared SRAM. -/
def State.sporeAt (s : State) (e : Nat × Nat × Nat) : List Byte := memBytes s.sram e.1 e.2.1

def sporeWhole (h : List Byte) : Bool := hdrCheck1 h 2 && sporeCheck2 h h.length

/-- Every spore loaded before STANDBY still lies in shared SRAM. -/
def State.sporesHeld (s : State) : Bool := s.boot.spores.all fun e => sporeWhole (s.sporeAt e)

/-- Step 0x13: the spores loaded before STANDBY, from the SRAM they were loaded from (R46). -/
def State.sporeReload (s : State) : State :=
  s.boot.spores.foldl (fun s e =>
    let h := s.sporeAt e
    if sporeWhole h then s.sporeInstall h e.2.2 else s) s

/-- The first of checks 1 to 4 of R462 that the image in a slot fails, 0 where it passes them: of an image delivered with
the device, whose bytes no rule gives, checks 3 and 4 (log 56). -/
def State.slotVerify (s : State) (slot : Nat) : Nat :=
  let h := memBytes s.mram (slot * 0x600000) 512
  if h.all fun b => b == 0 then (if !s.hdrCheck3 h 1 then 3 else if decide (0 < s.boot.svn) then 4 else 0)
  else s.imageVerify h true

/-- The slot that step 0x0B reads its way, and the check of R462 that its image fails (0: none). -/
def State.imageSlot (s : State) (way : Nat) : Nat := if way == 1 then 1 - s.boot.preferred else s.boot.preferred

def State.imageBad (s : State) (slot : Nat) (o : StepOut) : Nat :=
  if s.slotState slot != 2 then 1 else if s.slotVerify slot != 0 then s.slotVerify slot
  else if o.fails then max 1 (o.detail % 256) else 0

/-- Step 0x0B took the image of `slot`; by the alternate way the other slot is BAD and the preference moves. -/
def State.imageTake (s : State) (way slot : Nat) : State :=
  let s := (s.setBoot fun b => { b with active := slot }).setSlot slot 2
  if way == 1 then (s.setSlot (1 - slot) 1).setBoot fun b => { b with preferred := slot } else s

/-- Step 0x11: the stored configuration, which does not count where its CRC failed (DETAIL 2). -/
def State.configStep (s : State) (o : StepOut) : State :=
  if o.detail == 2 then (s.putDcp { s.dcp with stored := none }).configLoad (s.boot.kind == 3)
  else s.configLoad (s.boot.kind == 3)

/-- Step 0x12: the domains that a start brings up. -/
def State.domainsBoot (s : State) : State :=
  (if s.boot.kind == 3 then [6] else [6, 4, 5, 7, 8]).foldl (fun s d => s.domainBoot d) s

/-- What step `k` done its way does. -/
def State.stepState (s : State) (k way : Nat) (o : StepOut) : State :=
  match k with
  | 2 => s.loadModeCfg
  | 3 => if o.fails then s else (s.wrB CRP_PLL_STAT_LOCKED true).wrB CRP_PLL_STAT_WIDE (way == 1)
  | 4 => s.domainOn 3
  | 7 => s.sramRepair way o.repairs o.banks
  | 8 => if s.boot.kind == 1 then s else s.sramClear 0 0x2800000
  | 0xA => s.unsealVault (o.detail == 2)
  | 0xB => if s.imageBad (s.imageSlot way) o != 0 then s else s.imageTake way (s.imageSlot way)
  | 0xE => s.sfiSelfTest (!o.fails)
  | 0xF => s.sfiLoad
  | 0x11 => s.configStep o
  | 0x12 => if o.fails then s else s.domainsBoot
  | 0x13 => if o.fails then s else s.sporeReload
  | _ => s

/-- The result of step `k` (Table R540). -/
def State.stepResult (s : State) (k way : Nat) (o : StepOut) : Nat :=
  match k with
  | 2 => if s.dcp.storedMode.isNone then 3 else 0
  | 7 => b2n (o.banks.any bankFixed)
  | 0xB => b2n (s.imageBad (s.imageSlot way) o != 0)
  | 0xE => if o.fails then 4 else 0
  | 0xF => if s.dcp.storedSafe.isNone then 3 else 0
  | 0x11 => if s.dcp.stored.isNone || o.detail == 2 then 3 else 0
  | 0x13 => if o.fails || !s.sporesHeld then 4 else 0
  | _ => if stepPasses k then 0 else b2n o.fails

/-- The DETAIL of step `k` (Table R544). -/
def State.stepDetail (s : State) (k way : Nat) (o : StepOut) : Nat :=
  match k with
  | 3 => b2n o.fails
  | 7 => o.banks.headD 0 + 256 * o.banks.length
  | 0xA => s.unsealDetail (o.detail == 2)
  | 0xB => s.imageSlot way + 256 * s.imageBad (s.imageSlot way) o
  | 0x10 => o.detail
  | 0x11 => o.detail % 4
  | _ => 0

/-- PD_FAIL takes the failure of domain `d` to reach power-good (R490). -/
def State.pdFailNote (s : State) (d cause : Nat) : State :=
  let s := if s.rd CRP_PD_FAIL_FAILED == 0 then (s.wr CRP_PD_FAIL_CAUSE cause).wr CRP_PD_FAIL_FIRST d else s
  let s := (s.orF CRP_PD_FAIL_FAILED (2 ^ d)).setIstat uCRP 2
  s.logEvent 0x0201 uCRP 4 (d + cause * 2 ^ 8)

/-! ## Handover (R45, R456, R463, R464) -/

/-- The mode in which a start ends. -/
def State.startTarget (s : State) : Nat :=
  if s.boot.kind == 3 then 8
  else match s.boot.lifeCycle with
    | 2 => 3
    | 3 => 3
    | 5 => 1
    | _ => 2

/-- Step 0x14. -/
def State.handover (s : State) : State :=
  let m := s.startTarget
  let s := s.setBoot fun b => { b with failCount := if m == 2 || m == 3 then 0 else b.failCount, running := false }
  let s := s.journal 0xFF 0 m s.boot.micros s.boot.failCount
  let s := if m == 3 && decide (s.boot.svn < s.slotSvn s.boot.active) then
      s.setBoot fun b => { b with svn := s.slotSvn b.active } else s
  let s := s.secShow.logEvent 0x0001 uSYSCTL 5 (m + s.boot.kind * 2 ^ 8)
  if m == 1 then s.wr SYSCTL_MODE_CAUSE 0x0D
  else
    let s := if m == 2 then [8, 7, 5, 4, 6].foldl (fun s d => s.domainOff d) s else s
    s.enterMode m (if m == 8 then s.boot.cause else 1)

/-! ## The start sequence (R453 to R457) -/

/-- A device served by the fiddlehead itself goes on with steps 0x12 and 0x14 alone (R457). -/
def State.romOnly (s : State) (k : Nat) : Bool := s.boot.romServes && k != 0x12 && k != 0x14

/-- The end of step `k`: its record, and whether the start goes on. -/
def State.stepEnd (s : State) (k way result time detail : Nat) (power : Bool) : Bool × State :=
  let s := (s.setBoot fun b => { b with step := k, micros := time }).journal k way result time detail
  if k == 0x14 then (false, s.handover)
  else if !failed result then (true, s)
  else if stepOptional k && !power then (true, s.setBoot fun b => { b with skipped := k :: b.skipped })
  else if s.boot.kind == 3 && (k == 0xB || k == 0xC) then (true, s.setBoot fun b => { b with romServes := true })
  else (false, s.stepFailRequired k)

/-- Step `k` runs to its end. -/
def State.bootStep (s : State) (k : Nat) (o : StepOut) : Bool × State :=
  if !s.stepRuns s.boot.kind k || s.romOnly k then
    (true, s.journal k 2 4 s.boot.micros 0)
  else
    let way := s.stepWay k
    match o.power with
    | some d =>
      (s.pdFailNote d 2).stepEnd k way 1 (max s.boot.micros o.micros) (if k == 0x12 then d + 1 else 0) true
    | none =>
      (s.stepState k way o).stepEnd k way (s.stepResult k way o) (max s.boot.micros o.micros)
        (s.stepDetail k way o) false

/-- The outcome given for step `k`; a step that the command does not name passes. -/
def stepOut (out : List StepOut) (k : Nat) : StepOut := (out.find? fun o => o.step == k).getD ⟨k, false, 0, 0, none, [], []⟩

/-- Steps run in order until one hangs, fails the start, or the start ends. -/
def State.bootRun (s : State) (out : List StepOut) (hang : Option Nat) : List Nat → State
  | [] => s
  | k :: t =>
    if hang == some k && s.stepRuns s.boot.kind k && !s.romOnly k then s.setBoot fun b => { b with step := k }
    else
      let r := s.bootStep k (stepOut out k)
      if r.1 then r.2.bootRun out hang t else r.2

/-- The steps above `k`. -/
def stepsAfter (k : Nat) : List Nat := (List.range 0x15).filter fun j => decide (k < j)

/-- The latest start in the journal ended as failed. -/
def State.lastFailed (s : State) : Bool :=
  match s.boot.journal.head? with
  | some r => r.step == 0xFF && r.result == 1
  | none => false

/-- The kind of a start due as `k` (Table R453): SCRAPPED by the life cycle, RETRY after a failed start. -/
def State.startKind (s : State) (k : Nat) : Nat :=
  if s.boot.lifeCycle == 5 then 4
  else if k == 0 && s.lastFailed && decide (1 ≤ s.boot.failCount) && decide (s.boot.failCount ≤ 2) then 2
  else k

/-- The start that is due begins (R453). -/
def State.bootBegin (s : State) (k : Nat) : State :=
  let kind := s.startKind k
  let s := (s.setReg CRP_PD_FAIL 0).wrB SEC_TAMPER_CFG_LOCK false
  let s := s.setBoot fun b => { b with
    running := true
    kind := kind
    cause := b.nextCause
    step := 0
    micros := 0
    nextKind := none
    startNo := b.startNo + 1
    spores := if kind == 1 then b.spores else [] }
  let s := s.journal 0 kind s.boot.cause 0 s.boot.failCount
  let s := if s.sfiHere then s.domainOn 1 else s
  let s := s.domainOn 2
  let s := s.wr SYSCTL_EVLOG_NEXT_SEQ s.nextSeq
  let s := if kind == 3 then s else if s.domState 9 == 4 then s.setDom 9 2 else s.domainOn 9
  ((s.putCrp { s.crp with memLost := false }).wr SYSCTL_MODE_CAUSE s.boot.cause).secShow

/-- BOOT_START (R453): `out` says how the steps end, `hang` names a step that does not end. -/
def execBootStart (out : List StepOut) (hang : Option Nat) (s : State) : Host.Outcome State Fault Refusal :=
  match s.boot.nextKind with
  | none => .next s
  | some k =>
    if s.boot.porHeld || s.boot.sysrstHeld || s.boot.running then .next s
    else .next ((s.bootBegin k).bootRun out hang (stepsAfter 0))

/-- Time limits of the steps in µs (Table R454). -/
def stepMax (k way : Nat) : Nat :=
  match k with
  | 1 => 20
  | 2 => 2000
  | 3 => 1000
  | 4 => 5000
  | 5 => 1000
  | 6 => 1000
  | 7 => if way == 1 then 60000 else 2000
  | 8 => 5000
  | 9 => 2000
  | 0xA => 1000
  | 0xB => 40000
  | 0xC => 100000
  | 0xD => 10000
  | 0xE => 50000
  | 0xF => 5000
  | 0x10 => 2000
  | 0x11 => 50000
  | 0x12 => 10000
  | 0x13 => 400000
  | _ => 1000

/-- BOOT_STEP_TIMEOUT (R454, R455): the step under way ends with TIMEOUT; a start that goes on runs its later
steps with the outcomes `out`. -/
def execBootStepTimeout (out : List StepOut) (hang : Option Nat) (s : State) : Host.Outcome State Fault Refusal :=
  if !s.boot.running then .next s
  else
    let k := s.boot.step
    let way := s.stepWay k
    let time := s.boot.micros + stepMax k way
    let s := if k == 4 then s.domainOn 3 else if k == 0xE then s.sfiSelfTest false else s
    let r := s.stepEnd k way (if k == 0xE || k == 0x13 then 4 else 2) time 0 false
    .next (if r.1 then r.2.bootRun out hang (stepsAfter k) else r.2)

/-- BOOT_WATCHDOG_EXPIRE (R456): 2 s after reset release. -/
def execBootWatchdogExpire (s : State) : Host.Outcome State Fault Refusal :=
  if !s.boot.running then .next s
  else .next ((s.setBoot fun b => { b with micros := 2000000 }).startFail none)

/-! ## FAULT_N and STATUS (R539, R540) -/

/-- A reset is asserted (R452). -/
def State.inReset (s : State) : Bool := s.boot.porHeld || s.boot.sysrstHeld

/-- FAULT_N is low; it takes its reset state, low, while a reset is asserted. -/
def State.faultLow (s : State) : Bool :=
  s.inReset || s.mode == 8 || s.boot.halted.isSome || s.crp.relockFailed || (s.sfiOn && s.sfi.st == 5)
    || s.bit SYSCTL_FAULT_CFG_SW_FAULT

/-- STATUS[3:0]: 0 in the reset state, which PD_MGT without power has too (R489, R566). -/
def State.statusPins (s : State) : Nat :=
  if s.inReset || !s.domOn 2 then 0
  else match s.boot.halted with
    | none => s.mode
    | some c => if s.boot.statusFrame then c % 8 else 8 + c / 8 % 4

/-- STATUS_FRAME_TOGGLE (R540). -/
def execStatusFrameToggle (s : State) : Host.Outcome State Fault Refusal :=
  .next (if s.boot.halted.isSome then s.setBoot fun b => { b with statusFrame := !b.statusFrame } else s)

/-! ## Life cycle and debug access (R464 to R469) -/

/-- The configuration area of MRAM is erased (R421). -/
def State.eraseConfig (s : State) : State :=
  (s.putDcp { s.dcp with stored := none, storedMode := none, storedSafe := none, cal := [] }).putMem
    { s.mem with sealedCopy := false, sealedStore := [] }

/-- The fuses take state `t`: vault wiped first; the reset follows 1 ms later (R465). -/
def State.lifeCycleGo (s : State) (t : Nat) : State :=
  let s := (vaultWipeDone (s.vaultWipe 2)).setBoot fun b => { b with lifeCycle := t, resetDue := some 5 }
  (if t == 4 then s.eraseConfig else s).secShow

/-- JTAG_TOKEN (R467, R468): kind 0 opens debug access, 1 requests entry into RMA, 2 scraps a device in RMA;
`valid` is the outcome of checks 5 and 6 of R462 and of its binding; check 3 asks for key 0. -/
def execJtagToken (kind : Fin 3) (valid : Bool) (s : State) : Host.Outcome State Fault Refusal :=
  let c := s.boot.lifeCycle
  if !valid || bitAt s.keyRevoked 0 || s.inReset || !s.domOn 2 || s.boot.resetDue.isSome then .next s
  else if kind == 0 then
    .next (if c == 1 || c == 4 then s.setBoot fun b => { b with tokenOpen := true } else s)
  else if kind == 1 then .next (if c == 2 || c == 3 then s.lifeCycleGo 4 else s)
  else .next (if c == 4 then s.lifeCycleGo 5 else s)

/-- Rook debug is open (Table R467). -/
def State.rookDebug (s : State) : Bool :=
  match s.boot.lifeCycle with
  | 5 => false
  | 3 => s.bit SEC_DBG_ROOK_EN
  | _ => true

/-- SFI debug is open (Table R467). -/
def State.sfiDebug (s : State) : Bool := s.boot.lifeCycle == 0 || (s.boot.lifeCycle == 4 && s.boot.tokenOpen)

/-- DEBUG_HALT (R467, R468): target 0 to 23 a Rook, 24 a Bishop core. -/
def execDebugHalt (target : Fin 25) (s : State) : Host.Outcome State Fault Refusal :=
  let t := target.val
  if t == 24 then .next (if s.sfiDebug then s.sfiFault 1 else s)
  else if !s.rookDebug || !s.domOn (engDom t) || s.engState t != 2 then .next s
  else .next ((s.rookUpd t fun r => { r with dbg := true }).setIstat uPEA (2 ^ t))

/-- TAP instructions by number: 0 BYPASS, 1 IDCODE, 2 SAMPLE/PRELOAD, 3 EXTEST, 4 CLAMP, 5 HIGHZ, 6 EXTEST_PULSE,
7 EXTEST_TRAIN. BOUNDARY_SCAN_INSTRUCTION (R467, R469). -/
def execBoundaryScanInstruction (instr : Fin 8) (s : State) : Host.Outcome State Fault Refusal :=
  let i := instr.val
  let open_ := s.mode == 1 || s.mode == 2 || s.mode == 11
  let acts := if s.boot.lifeCycle == 5 then decide (i ≤ 1) else decide (i ≤ 2) || open_
  .next (if s.boot.porHeld then s else s.setBoot fun b => { b with tap := if acts then i else 0 })

end Sys2Proof.Machine
end

