-- ==== Sys2Proof/Machine/Crp.lean ====
section
/-! DEFINITION. Clocks, power domains, STANDBY and wake (chapter 17, R473 to R497), the MGP watchdog (R529) and
supply limits (R562). -/

namespace Sys2Proof.Machine

def State.setCrp (s : State) (f : CrpSt → CrpSt) : State := s.putCrp (f s.crp)

/-! ## Clock monitor (R475, R476) -/

/-- Ten times the count expected of each derived clock over 1,024 REFCLK cycles (R473, R475). -/
def clockExpect : List Nat := [327680, 204800, 163840, 102400, 81920, 32768]

/-- A count departs from the expected one by more than 1 %. -/
def clockBad (count expect10 : Nat) : Bool :=
  decide (expect10 < ((count * 10 : Nat) - (expect10 : Nat) : Int).natAbs * 100)

/-- The derived clocks that fail over a window, as a mask. -/
def clockMask (counts : List Nat) : Nat :=
  (List.range 6).foldl (fun m i => m + b2n (clockBad (counts.getD i 0) (clockExpect.getD i 0)) * 2 ^ i) 0

/-- A clock fault: the derived clocks stop and the PLL is being relocked; the SFI sees the gated CLK_SAFE. -/
def State.clockFault (s : State) (mask : Nat) : State :=
  let s := (s.setIstat uCRP 1).logEvent 0x0200 uCRP 4 (s.rd CRP_CLKMON_FAULT ||| mask)
  (s.setCrp fun c => { c with relocking := true, relockFailed := false }).sfiFault 2

/-- CLOCK_MONITOR_WINDOW (R475): the counts of the six derived clocks over the window, and whether the PLL
held its lock. -/
def execClockMonitorWindow (c0 c1 c2 c3 c4 c5 : BitVec 32) (locked : Bool) (s : State) :
    Host.Outcome State Fault Refusal :=
  if !s.domOn 2 || s.mode == 1 || s.mode == 10 || s.crp.relocking then .next s
  else
    let counts := [c0.toNat, c1.toNat, c2.toNat, c3.toNat, c4.toNat, c5.toNat]
    let mask := clockMask counts
    let s := if locked then s else (s.wrB CRP_PLL_STAT_LOCKED false).inc CRP_PLL_STAT_LOL_COUNT
    if mask == 0 then .next (if locked then s else s.clockFault 0)
    else
      let first := (List.range 6).find? fun i => bitAt mask i
      let s := (s.orF CRP_CLKMON_FAULT mask).wr CRP_CLKMON_LAST_COUNT (counts.getD (first.getD 0) 0)
      .next (s.clockFault mask)

/-- PLL_RELOCK_ATTEMPT (R476): the settings alternate; the first success leads to DEGRADED. -/
def execPllRelockAttempt (ok : Bool) (s : State) : Host.Outcome State Fault Refusal :=
  if !s.crp.relocking then .next s
  else
    let s := s.wrB CRP_PLL_STAT_WIDE (s.crp.relockFailed && !s.bit CRP_PLL_STAT_WIDE)
    if ok then
      let s := s.wrB CRP_PLL_STAT_LOCKED true
      .next ((s.setCrp fun c => { c with relocking := false, relockFailed := false }).goDegraded 0x0C)
    else .next (s.setCrp fun c => { c with relockFailed := true })

/-! ## Domain power (R485 to R492) -/

/-- DOMAIN_POWER_UP_DONE (R487): a STARTING domain is ON. -/
def execDomainPowerUpDone (d : Fin 10) (s : State) : Host.Outcome State Fault Refusal :=
  .next (if s.domState d == 1 && (domRequires d).all fun r => s.domOn r then s.domainOn d else s)

/-- A wake: PD_MGT and PD_MEM power up and a start is due (R494 to R496). -/
def State.wake (s : State) (mask : Nat) (during : Bool) (ms : Nat) : State :=
  let s := ((s.wr CRP_WAKE_STAT_SOURCE mask).wrB CRP_WAKE_STAT_DURING_ENTRY during).wr CRP_WAKE_STAT_ENTRY_MS
    (min ms (2 ^ 32 - 1))
  let s := s.setIstat uCRP 4
  let lost := s.crp.memLost
  let s := s.setCrp fun c => { c with armed := false, entering := false, latched := 0 }
  s.startDue (if lost then 0 else 1) 0x0D 6

/-- STANDBY entry goes on (R493): the next domain stops; after the last, PD_MEM enters RETENTION, PD_MGT and
the PLL stop, and the wake sources are armed. A wake latched meanwhile follows at once (R495). -/
def State.standbyStep (s : State) : State :=
  if !s.crp.entering then s
  else match s.standbyNext with
    | some d => if s.domState d == 3 then s else s.setDom d 3
    | none =>
      let s := s.banksStandby.setDom 9 4
      let s := (s.domainOff 2).wrB CRP_PLL_STAT_LOCKED false
      let l := s.crp.latched
      let s := s.wr CRP_PD_STAT_PENDING 0
      let s := s.setCrp fun c => { c with entering := false, armed := true }
      if l == 0 then s else s.wake l true 0

/-- DOMAIN_POWER_DOWN_DONE (R488, R492): a STOPPING domain is OFF, and starts again by itself if PENDING. In
STANDBY entry the next domain stops. -/
def execDomainPowerDownDone (d : Fin 10) (s : State) : Host.Outcome State Fault Refusal :=
  if s.domState d != 3 then .next s
  else
    let pend := bitAt (s.rd CRP_PD_STAT_PENDING) d
    let s := s.domainDown d
    if s.crp.entering then .next s.standbyStep
    else if pend then
      .next ((s.wr CRP_PD_STAT_PENDING (s.rd CRP_PD_STAT_PENDING - 2 ^ d.val)).setDom d 1)
    else .next s

/-- The failure is latched, and the domain and its dependants open (R490). -/
def State.domainOpen (s : State) (d cause : Nat) : State :=
  let s := s.pdFailNote d cause
  let s := (domDependants d).foldl (fun s k => if s.domState k == 0 || s.domState k == 6 then s else s.domainDown k) s
  (s.domainDown d).setDom d 6

/-- DOMAIN_POWER_FAIL (R490, R528): domain `d` loses power or does not reach it. Where that cuts short a write
into the filling copy, the writer was a unit of PD_ENGA, PD_ENGB, PD_AXIS or PD_IO (WRITE_ABORT of Table R39). -/
def execDomainPowerFail (d : Fin 10) (f : PowerLoss) (s : State) : Host.Outcome State Fault Refusal :=
  let d := d.val
  let cause := if f.reached then 1 else 2
  if d == 0 then .next s.porAssert
  else if d == 9 && s.domState 9 == 4 then
    let s := (s.pdFailNote 9 cause).sramClear 0 0x2800000
    .next ((s.setDom 9 6).setCrp fun c => { c with memLost := true })
  else if s.domState d != 1 && s.domState d != 2 then .next s
  else
    let s := if f.aborting && (d == 4 || d == 5 || d == 7 || d == 8) && s.domOn d then s.imageReason 16 else s
    let s1 := if d == 1 then s.sfiFault 3 else s
    let running := s.boot.running
    let step := s.boot.step
    let s1 := s1.domainOpen d cause
    if d == 1 then .next s1
    else if running then
      let s1 := s1.journal step 0 1 s.boot.micros (if step == 0x12 then d + 1 else 0)
      .next (s1.stepFailRequired step)
    else if d == 2 || d == 6 then .next (s1.startFail (some 0x0C))
    else .next (if s1.mode == 10 then s1 else s1.goDegraded 0x0C)

/-! ## Wake (R494 to R496) -/

/-- A wake event of the sources in `mask`, after `ms` milliseconds of STANDBY. During entry it is latched and
every STOPPING domain sets PENDING. -/
def State.wakeEvent (s : State) (mask ms : Nat) : State :=
  let m := mask &&& bitsOf s.crp.wakeCfg 4 0
  if m == 0 then s
  else if s.crp.entering then
    let stop := (List.range 10).filter fun d => s.domState d == 3
    let s := stop.foldl (fun s d => s.orF CRP_PD_STAT_PENDING (2 ^ d)) s
    s.setCrp fun c => { c with latched := c.latched ||| m }
  else if s.crp.armed then s.wake m false ms
  else s

/-- The sources that have their event: those of `mask`, where an edge of SYNC_IN must be the active one; and ENERGY where
a PHY of ENERGY_PORTS has signal energy (Table R494). -/
def State.wakeSources (s : State) (mask energy : Nat) (rising : Bool) : Nat :=
  (mask &&& 0x19) + (if bitAt mask 1 && rising != s.crp.wakeFall then 2 else 0)
    + (if energy &&& bitsOf s.crp.wakeCfg 11 8 == 0 then 0 else 4)

/-- WAKE_EVENT (R494): events of sources 1, 3 and 4, and 0 where the timer falls in the same cycle; bit i of
the energy is signal energy on the PHY of FP i. -/
def execWakeEvent (mask : BitVec 5) (pins : WakePins) (ms : BitVec 32) (s : State) : Host.Outcome State Fault Refusal :=
  .next (s.wakeEvent (s.wakeSources mask.toNat pins.energy.toNat pins.rising) ms.toNat)

/-- WAKE_TIMER_EXPIRE (R494): MS ms after entry completed. -/
def execWakeTimerExpire (s : State) : Host.Outcome State Fault Refusal :=
  .next (if s.crp.armed then s.wakeEvent 1 s.crp.wakeMs else s)

/-! ## MGP watchdog (R529) and supplies (R562) -/

/-- MGP_WATCHDOG_EXPIRE (R529): firmware is restarted, which resets agent 6; the third expiry within 60 s is a
failed start with CAUSE FAULT (R528). -/
def execMgpWatchdogExpire (s : State) : Host.Outcome State Fault Refusal :=
  if !s.domOn 2 || s.boot.running || s.boot.halted.isSome then .next s
  else
    let now := s.ltNs
    let l := now :: s.dcp.expiries.filter fun t => decide (now < t + 60000000000)
    let s := (s.inc SYSCTL_FAULT_STAT_MGP_RESTARTS).logEvent 0x0202 uSYSCTL 2 (min 255 l.length)
    if decide (3 ≤ l.length) then .next (s.startFail (some 0x0B))
    else
      let s := s.agentReset agMGP
      .next (s.putDcp { s.dcp with restarting := true, expiries := l })

/-- MGP_RESTART_DONE (R529): every command fetched and not completed ends OK if its effect point was reached,
INTERNAL otherwise. -/
def execMgpRestartDone (s : State) : Host.Outcome State Fault Refusal :=
  if !s.dcp.restarting then .next s
  else .next (s.putDcp { s.dcp with
    restarting := false
    runs := s.dcp.runs.map fun r => if r.result == none then { r with result := some ⟨0x403, []⟩ } else r })

/-- SUPPLY_LEAVES_RANGE (R522, R562): no new MRAM word write starts. -/
def execSupplyLeavesRange (s : State) : Host.Outcome State Fault Refusal :=
  .next (s.setCrp fun c => { c with mramStop := true })

end Sys2Proof.Machine
end

