-- ==== Sys2Proof/Machine/Dcp.lean ====
section
/-! DEFINITION. The Dapex Command Protocol: fetching, checks, starting, completing, commands in frames
(chapter 14, R398 to R411, R418, R419). -/

namespace Sys2Proof.Machine

/-! ## Opcodes (Table R411) -/

/-- Owner-only commands. -/
def opOwner (op : Nat) : Bool :=
  [0x002, 0x004, 0x005, 0x101, 0x102, 0x200, 0x201, 0x203, 0x204, 0x205, 0x206, 0x207, 0x300, 0x301, 0x304, 0x305,
   0x400, 0x402, 0x403, 0x404, 0x500, 0x600, 0x601, 0x602, 0x702, 0x703, 0x801, 0x802, 0x803].contains op

/-- G commands. -/
def opGrant (op : Nat) : Bool := op == 0x302 || op == 0x303

/-- Commands any partition may issue. -/
def opAny (op : Nat) : Bool :=
  [0x000, 0x001, 0x003, 0x100, 0x202, 0x208, 0x306, 0x401, 0x501, 0x603, 0x700, 0x701, 0x704, 0x800].contains op

def opDefined (op : Nat) : Bool := opOwner op || opGrant op || opAny op

/-- LENGTH is as the opcode requires. -/
def opLenOk (op n : Nat) : Bool :=
  if [0x000, 0x001, 0x002, 0x004, 0x100, 0x207, 0x208, 0x306, 0x501, 0x603, 0x701, 0x704, 0x802].contains op then n == 0
  else if op == 0x003 then n == 0 || n == 4
  else if [0x005, 0x101, 0x201, 0x202, 0x205, 0x401, 0x404, 0x602, 0x702, 0x800].contains op then n == 4
  else if [0x102, 0x206, 0x403, 0x700, 0x703].contains op then n == 8
  else if [0x200, 0x600, 0x601, 0x801].contains op then n == 16
  else if op == 0x204 || op == 0x301 || op == 0x305 then n == 24
  else if op == 0x203 then decide (16 ≤ n) && n % 8 == 0 && decide (n ≤ 520)
  else if op == 0x300 then decide (56 ≤ n) && (n - 8) % 48 == 0 && decide (n ≤ 8 + 64 * 48)
  else if op == 0x302 then decide (8 ≤ n) && decide (n ≤ 132)
  else if op == 0x303 then decide (4 ≤ n)
  else if op == 0x304 then n == 32
  else if op == 0x400 then n == 40
  else if op == 0x402 || op == 0x803 then decide (8 < n)
  else decide (0 < n)

/-- The successful reply carries payload. -/
def opReplies (op : Nat) : Bool :=
  [0x001, 0x100, 0x202, 0x204, 0x207, 0x208, 0x302, 0x303, 0x306, 0x401, 0x500, 0x501, 0x603, 0x700, 0x701, 0x702,
   0x703, 0x704, 0x800].contains op

/-- What the fiddlehead answers when no firmware runs (R457). -/
def romOp (op : Nat) : Bool := [0x000, 0x001, 0x100, 0x002, 0x701, 0x700, 0x704].contains op

/-! ## Payload checks (check 11 of Table R405)

The offset of the first payload byte that holds a reserved field or an undefined value. -/

/-- The first byte of `o` to `o + n − 1` that is not 0. -/
def badZero (l : List Byte) (o n : Nat) : Option Nat :=
  ((List.range n).map fun i => o + i).find? fun i => byteAt l i != 0

/-- The first of several findings. -/
def firstBad (l : List (Option Nat)) : Option Nat := l.findSome? id

def badIf (b : Bool) (o : Nat) : Option Nat := if b then some o else none

/-- The bits of a register that a write stores. -/
def storedMask (r : RegDef) : Word :=
  r.fields.foldl (fun w f => if f.acc == .rw || f.acc == .rwl then putBits w f.hi f.lo (2 ^ 64 - 1) else w) 0

/-- The first byte of the register value at `o` with a bit that its register, at `a`, reserves. -/
def badReserved (l : List Byte) (o a : Nat) : Option Nat :=
  match regAt a with
  | none => none
  | some r => ((List.range 8).map fun i => o + i).find? fun i =>
      bitsOf (BitVec.ofNat 64 (leAt l o 8) &&& ~~~ (storedMask r)) (8 * (i - o) + 7) (8 * (i - o)) != 0

/-- Reserved bits of a SYSCTL_MODE_CFG value, and port codes 0xA to 0xE (R588). -/
def modeCfgBad (l : List Byte) : Option Nat :=
  let port := fun v => decide (0xA ≤ v) && decide (v ≤ 0xE)
  firstBad [badZero l 0 2, badIf (port (byteAt l 2 % 16) || port (byteAt l 2 / 16)) 2, badZero l 3 1, badZero l 5 3]

def payloadBad (op : Nat) (l : List Byte) : Option Nat :=
  match op with
  | 0x003 => if l.isEmpty then none else badZero l 1 3
  | 0x005 => firstBad [badIf (decide (5 < byteAt l 0)) 0, badZero l 1 3]
  | 0x101 => firstBad [badIf (decide (0xB < byteAt l 0)) 0, badZero l 1 3]
  | 0x102 => modeCfgBad l
  | 0x200 => firstBad [
      badIf (byteAt l 2 == 0 || decide (7 < byteAt l 2)) 2, badIf (decide (1 < byteAt l 3)) 3,
      badIf (byteAt l 2 == 6 && byteAt l 4 != 0) 4, badZero l 5 1, badZero l 12 4]
  | 0x201 => badZero l 2 2
  | 0x202 => badZero l 2 2
  | 0x203 => badZero l 2 6
  | 0x204 => firstBad [badIf (decide (2 < byteAt l 0)) 0, badIf (decide (3 < byteAt l 2)) 2, badZero l 3 5,
      if byteAt l 0 == 2 then firstBad [badZero l 2 1, badZero l 8 16] else none]
  | 0x206 => firstBad [badZero l 1 1, badZero l 6 2]
  | 0x300 => firstBad [badIf (byteAt l 0 * 48 + 8 != l.length) 0, badZero l 1 7]
  | 0x301 => firstBad [badIf (decide (3 < byteAt l 1) && byteAt l 1 != 7) 1, badZero l 2 2, badZero l 22 2]
  | 0x302 => badZero l 2 2
  | 0x303 => badZero l 2 2
  | 0x400 => firstBad [badZero l 1 7, badReserved l 8 (ACE_AXk_CFG 0), badReserved l 16 (ACE_AXk_IO 0),
      badReserved l 24 (ACE_AXk_TIME 0), badReserved l 32 (ACE_AXk_STOP 0)]
  | 0x401 => badZero l 1 3
  | 0x402 => firstBad [badIf (decide (2 < byteAt l 1)) 1, badZero l 2 2]
  | 0x404 => badZero l 1 3
  | 0x600 => firstBad [badZero l 11 1, badZero l 12 4]
  | 0x602 => badZero l 1 3
  | 0x703 => firstBad [badIf (decide (1 < byteAt l 2)) 2, badIf (decide (1 < byteAt l 3)) 3, badZero l 4 4]
  | 0x800 => badIf (decide (2 < byteAt l 3)) 3
  | 0x801 => badZero l 3 5
  | 0x803 => badZero l 4 4
  | _ => none

/-! ## Outcomes (R403) -/

/-- The 8 bytes of error detail. -/
def dcpDetail (off reason index : Nat) : List Byte := bytesLE 2 off ++ bytesLE 2 reason ++ bytesLE 4 index

def noIndex : Nat := 0xFFFFFFFF

/-- What a command does at its effect point: it waits, or it ends. -/
inductive DcpAns where
  | wait
  | done (status : Nat) (reply : List Byte)
deriving DecidableEq, Repr

def dcpOk : DcpAns := .done 0 []
def dcpFailAt (status reason index : Nat) : DcpAns := .done status (dcpDetail 0xFFFF reason index)
def dcpFail (status : Nat) : DcpAns := dcpFailAt status 0 noIndex

/-! ## Runs -/

def State.runAt (s : State) (slot : Nat) : Option DcpRun := s.dcp.runs.find? fun r => r.slot == slot

def State.setRun (s : State) (r : DcpRun) : State :=
  s.putDcp { s.dcp with runs := r :: s.dcp.runs.filter fun q => q.slot != r.slot }

/-- A SCRAPPED device that has completed BOOT (R47, R411). -/
def State.scrappedUp (s : State) : Bool :=
  s.boot.lifeCycle == 5 && s.mode == 1 && !s.boot.running && s.boot.halted.isNone && s.boot.nextKind.isNone

/-- The MGP takes commands (R411, R529). -/
def State.dcpServes (s : State) : Bool := !s.dcp.restarting && (modeAll s.mode || s.scrappedUp)

/-- Mode check 7, with the waiver of R466 for revocation blocks. -/
def State.opModeOk (s : State) (r : DcpRun) : Bool :=
  let off := leAt r.payload 0 4
  opMode r.opcode s.mode || (s.scrappedUp && r.opcode == 1)
    || (r.opcode == 0x803 && s.mode == 3 && (s.boot.lifeCycle == 2 || s.boot.lifeCycle == 3)
        && decide (0x84000 ≤ off) && decide (off < 0x88000))

/-- The first failing check of Table R405, with the offset of check 11; status 0 where all pass. -/
def State.dcpChecks (s : State) (r : DcpRun) (headBad dmaBad : Bool) : Nat × Nat :=
  let p := r.part
  let q := r.slot % 4
  let frame := r.slot == 24
  let last := s.rd (HIC_PARTp_Qq_CTL_LAST_SEQ p q)
  if headBad then (0x102, 0xFFFF)
  else if !opDefined r.opcode then (0x101, 0xFFFF)
  else if !frame && s.bit (HIC_PARTp_Qq_CTL_SEQ_VALID p q) && s.bit (HIC_PARTp_Qq_CTL_LAST_OK p q) && r.seq == last then
    (0x002, 0xFFFF)
  else if s.boot.lifeCycle == 5 && r.opcode != 1 then (0x208, 0xFFFF)
  else if opOwner r.opcode && p != 0 then (0x201, 0xFFFF)
  else if opGrant r.opcode && p != 0 && !bitAt s.dcp.grants p then (0x202, 0xFFFF)
  else if !s.sfiHere && (r.opcode / 256 == 5 || r.opcode == 0x305) then (0x207, 0xFFFF)
  else if !s.opModeOk r || (s.boot.romServes && !romOp r.opcode) then (0x203, 0xFFFF)
  else if !opLenOk r.opcode r.len || (frame && (decide (1024 < r.len) || decide (r.payload.length < r.len))) then (0x103, 0xFFFF)
  else if dmaBad then (0x105, 0xFFFF)
  else if opReplies r.opcode && r.raddr == 0 && !frame then (0x106, 0xFFFF)
  else match payloadBad r.opcode r.payload with
    | some o => (0x104, o)
    | none => (0, 0)

/-- The buffers of a command lie inside the windows of its partition (R398). -/
def State.runWindows (s : State) (r : DcpRun) (paddr : Nat) : Bool :=
  (r.len == 0 || s.bufOk r.part false paddr r.len) && (r.raddr == 0 || s.bufOk r.part true r.raddr 4096)

/-- The command may start now (R407, R408). A MODE_SET to CONFIG out of SERVICE does not wait for a test that runs, which
refuses it (R65). -/
def State.runMay (s : State) (r : DcpRun) : Bool :=
  let others := s.dcp.runs.filter fun q => q.slot != r.slot && q.started && q.result.isNone
  !(opBound r.opcode && s.pendMode.isSome)
    && !(r.opcode == 0x101 && (others.any fun q => opBound q.opcode)
      && !(s.mode == 11 && leAt r.payload 0 1 == 3 && s.testRuns))
    && (r.slot == 24 || decide (others.length < 4))

/-- A fetched command starts: its checks are made; a failing one gives its outcome (R405). GAP follows
R404. -/
def State.runBegin (s : State) (r : DcpRun) (headBad dmaBad : Bool) : State :=
  let c := s.dcpChecks r headBad dmaBad
  let q := r.slot % 4
  let gap := r.slot != 24 && s.bit (HIC_PARTp_Qq_CTL_SEQ_VALID r.part q) && c.1 != 2
    && r.seq != (s.rd (HIC_PARTp_Qq_CTL_LAST_SEQ r.part q) + 1) % 65536
  let result : Option DcpResult := if c.1 == 0 then none
    else some ⟨c.1, dcpDetail c.2 0 noIndex⟩
  s.setRun { r with started := true, gap := gap, result := result }

/-- A command that waited starts once nothing holds it back (R408). -/
def State.runTry (s : State) (slot : Nat) : State :=
  match s.runAt slot with
  | none => s
  | some r => if r.started || !s.runMay r then s else s.runBegin r false false

/-- The effect point of the command of `op` in `slot` (R406). -/
def State.dcpDo (s : State) (slot op : Nat) (f : State → DcpRun → DcpAns × State) : State :=
  if !s.dcpServes then s
  else
    let s := s.runTry slot
    match s.runAt slot with
    | none => s
    | some r =>
      if !r.started || r.result.isSome || r.opcode != op then s
      else match f s r with
        | (.wait, t) => t
        | (.done st reply, t) => t.dcpResult slot st reply

/-! ## Queues (R398 to R402) -/

/-- Queue `q` of partition `p` has an entry that may be fetched (R402). -/
def State.qEligible (s : State) (p q : Nat) : Bool :=
  s.bit (HIC_PARTp_Qq_CTL_EN p q)
    && s.rd (HIC_PARTp_Qq_IDX_SQ_HEAD p q) != s.rd (HIC_PARTp_Qq_IDX_SQ_TAIL p q)
    && (s.runAt (4 * p + q)).isNone
    && (s.rd (HIC_PARTp_Qq_IDX_CQ_TAIL p q) + 1) % s.qSize p q != s.rd (HIC_PARTp_Qq_IDX_CQ_HEAD p q)

/-- The queue served next: round-robin past the last one (R407). -/
def State.qNext (s : State) : Option Nat :=
  ((List.range 24).map fun i => (s.dcp.rr + 1 + i) % 24).find? fun k => s.qEligible (k / 4) (k % 4)

/-- A command header, with its byte order (R399, R400, R410): the run, and whether the header is bad. -/
def dcpHeader (slot part : Nat) (big : Bool) (h : List Byte) : DcpRun × Bool :=
  let v := fun o n => if big then beAt h o n else leAt h o n
  let len := v 6 2
  (⟨slot, part, v 0 2, v 2 1, v 4 2, len, v 8 2, 0, [], false, false, false, none⟩,
   decide (1 < v 2 1) || (badZero h 0xA 6).isSome || decide (4096 < len))

/-- A submission entry and whether it is bad: `entry` as read from host memory, or 32 bytes of shared SRAM. -/
def State.qEntry (s : State) (p addr : Nat) (entry : List Byte) : List Byte × Bool × State :=
  if decide (p < 4) then (entry, false, s) else s.sramReadBytes false addr 32

/-- A payload of `n` bytes and whether it is bad, from host memory or, inside the windows, from shared SRAM. -/
def State.qPayload (s : State) (p addr n : Nat) (win : Bool) (payload : List Byte) (bad : Bool) :
    List Byte × Bool × State :=
  if decide (p < 4) then (payload.take n, bad && n != 0, s)
  else if win && n != 0 then s.sramReadBytes false addr n
  else ([], false, s)

/-- The entry at SQ_HEAD is fetched and started, or waits (R402, R408). `entry` and `payload` are what host memory
holds there for partitions 0 to 3; those of partitions 4 and 5 lie in shared SRAM. `timeout`: it has not
started within TMO ms (R409). -/
def State.qFetch (s : State) (p q : Nat) (entry payload : List Byte) (entryBad payBad timeout : Bool) : State :=
  let head := s.rd (HIC_PARTp_Qq_IDX_SQ_HEAD p q)
  let addr := 32 * s.rd (HIC_PARTp_SQq_BASE_BASE p q) + 32 * head
  if entryBad || !s.bufOk p false addr 32 then s.qFault p q addr false
  else
    let (e, ue, s) := s.qEntry p addr entry
    if ue then s.qFault p q addr false
    else
      let s := s.wr (HIC_PARTp_Qq_IDX_SQ_HEAD p q) ((head + 1) % s.qSize p q)
      let (r, headBad) := dcpHeader (4 * p + q) p false e
      let r := { r with raddr := leAt e 0x18 8 }
      let paddr := leAt e 0x10 8
      let r' := { r with len := min r.len 4096 }
      let win := s.runWindows r' paddr
      let (pay, pe, s) := s.qPayload p paddr r'.len win payload payBad
      let r := { r with payload := pay ++ List.replicate (r'.len - pay.length) 0 }
      let s := s.putDcp { s.dcp with rr := 4 * p + q }
      if timeout then s.setRun { r with started := true, result := some ⟨0x209, dcpDetail 0xFFFF 0 noIndex⟩ }
      else if s.runMay r || headBad || !win || pe then s.runBegin r headBad (!win || pe)
      else s.setRun r

/-- DCP_FETCH (R402, R407). -/
def execDcpFetch (p : Fin 6) (q : Fin 4) (entry payload : List Byte) (entryBad payBad : Bool) (s : State) :
    Host.Outcome State Fault Refusal :=
  if !s.domOn 3 || !s.dcpServes || s.qNext != some (4 * p.val + q.val) then .next s
  else .next (s.qFetch p q entry payload entryBad payBad false)

/-- DCP_START_TIMEOUT (R409): the eligible or fetched command has not started within TMO ms. -/
def execDcpStartTimeout (p : Fin 6) (q : Fin 4) (entry : List Byte) (s : State) : Host.Outcome State Fault Refusal :=
  if !s.domOn 3 || !s.dcpServes || s.rd (HIC_PARTp_Qq_CTL_TMO p q) == 0 then .next s
  else match s.runAt (4 * p.val + q.val) with
    | some r =>
      if r.started then .next s
      else .next (s.setRun { r with started := true, result := some ⟨0x209, dcpDetail 0xFFFF 0 noIndex⟩ })
    | none => .next (if s.qEligible p q then s.qFetch p q entry [] false false true else s)

/-- A write of SQ_TAIL (R397, R402, R423). -/
def State.sqTail (s : State) (p q v : Nat) : State :=
  if decide (v < s.qSize p q) then s.wr (HIC_PARTp_Qq_IDX_SQ_TAIL p q) v else s.cfgErr (HIC_PARTp_Qq_IDX p q)

/-- DCP_SQ_DOORBELL (R402). -/
def execDcpSqDoorbell (p : Fin 6) (q : Fin 4) (tail : BitVec 16) (s : State) : Host.Outcome State Fault Refusal :=
  .next (if s.domOn 3 && !s.pcieDead p then s.sqTail p q tail.toNat else s)

/-! ## Commands in frames (R410) -/

/-- The management MAC address, which no rule states. -/
def mgmtMac : Nat := (Config.freeFn 4 []).toNat % 2 ^ 48

/-- The oldest waiting frame runs. -/
def State.frameNext (s : State) : State :=
  match s.dcp.frames with
  | [] => s
  | f :: rest =>
    let (r, headBad) := dcpHeader 24 0 true (f.body.take 16)
    let pay := (f.body.drop 16).take (min r.len 1024)
    let r := { r with payload := pay }
    let s := s.putDcp { s.dcp with frames := rest, frameOf := some f }
    s.runBegin r headBad false

/-- The answer to a command frame: to its source, with the same tags. -/
def State.frameAnswer (s : State) (f : DcpFrame) (r : DcpRun) (x : DcpResult) : State :=
  let pay := if x.status != 0 then [] else x.reply.take 1024
  let head := bytesBE 2 r.opcode ++ [0, 0] ++ bytesBE 2 r.tag ++ bytesBE 2 pay.length ++ bytesBE 2 r.seq
    ++ bytesBE 2 x.status ++ [0, 0, 0, 0]
  let b := bytesBE 6 f.src ++ bytesBE 6 mgmtMac ++ f.vlan ++ [0x88, 0xB6] ++ head ++ pay
  s.swArrive { EthFrame.blank with bytes := b ++ List.replicate (60 - b.length) 0, ingress := 15 }

/-- A frame's command ends: its answer goes out, and the next waiting frame runs. -/
def State.frameComplete (s : State) (r : DcpRun) (x : DcpResult) : State :=
  let s1 := s.dropRun 24
  let s1 := match s.dcp.frameOf with
    | none => s1
    | some f => s1.frameAnswer f r x
  ((s1.putDcp { s1.dcp with frameOf := none })).frameNext

/-- A command frame reaches MP in DEGRADED: it runs, waits, or is discarded when four wait. -/
def State.frameCommand (s : State) (f : EthFrame) : State :=
  let n := etOff f.bytes + 2
  let c : DcpFrame := ⟨frSa f.bytes, (f.bytes.drop 12).take (4 * tagCount f.bytes), f.bytes.drop n⟩
  if s.mode != 8 || s.dcp.restarting || decide (4 ≤ s.dcp.frames.length) then s
  else
    let s := s.putDcp { s.dcp with frames := s.dcp.frames ++ [c] }
    if (s.runAt 24).isSome then s else s.frameNext

/-- A frame that MP takes is a command frame: EtherType 0x88B6, class MGMT. -/
def isCommandFrame (f : EthFrame) : Bool := etherType f.bytes == 0x88B6 && f.cls == 1

/-- DCP_FRAME_COMMAND (R410): the MGP takes the command frame at the head of those handed to MP. -/
def execDcpFrameCommand (s : State) : Host.Outcome State Fault Refusal :=
  match s.swc.mp with
  | [] => .next s
  | f :: rest =>
    if !s.domOn 2 || !isCommandFrame f then .next s
    else .next ((s.setSwc { s.swc with mp := rest }).frameCommand f)

/-- DCP_COMPLETION (R402): the command in `slot` has its outcome. -/
def execDcpCompletion (slot : Fin 25) (s : State) : Host.Outcome State Fault Refusal :=
  match s.runAt slot with
  | none => .next s
  | some r =>
    match r.result with
    | none => .next s
    | some x =>
      if s.dcp.restarting then .next s
      else if slot.val == 24 then .next (s.frameComplete r x)
      else .next (if s.domOn 3 then s.qComplete r x else s.dropRun slot)

end Sys2Proof.Machine
end

