-- ==== Sys2Proof/Machine/DcpCfg.lean ====
section
/-! DEFINITION. Commands of groups 0x00xx to 0x02xx: identification, resets, life cycle, modes, connections,
safe values, grants, stored configuration (R411 to R415, R419 to R421, R464 to R465, R587, R588). -/

namespace Sys2Proof.Machine

/-! ## Group 0x00xx -/

/-- NOP. -/
def execNop (slot : Fin 25) (s : State) : Host.Outcome State Fault Refusal :=
  .next (s.dcpDo slot 0x000 fun s _ => (dcpOk, s))

/-- The variant code in IDENTIFY and in the common blocks (R1, R3). -/
def State.variantCode (s : State) : Nat := b2n s.variantS

/-- The IDENTIFY reply (Table R412). The unique number and the firmware versions are data of the device that no
rule states (DESIGN CHOICE, log 58). -/
def State.identity (s : State) (part : Nat) : List Byte :=
  let rom := s.boot.romServes
  bytesLE 2 0x9960 ++ bytesLE 1 s.variantCode ++ bytesLE 1 0x10 ++ bytesLE 1 s.boot.lifeCycle ++ bytesLE 1 s.mode
    ++ bytesLE 1 part ++ bytesLE 1 (if rom then 0xFF else s.boot.active) ++ bytesLE 8 (Config.freeFn 5 []).toNat
    ++ bytesLE 4 (if s.sfiHere then parIdent else 0)
    ++ bytesLE 4 (if rom then 0 else (Config.freeFn 6 [s.boot.active]).toNat)
    ++ bytesLE 4 (if s.sfiHere then (Config.freeFn 7 [s.boot.active]).toNat else 0) ++ bytesBE 6 mgmtMac
    ++ List.replicate 6 0

/-- IDENTIFY (R412). -/
def execIdentify (slot : Fin 25) (s : State) : Host.Outcome State Fault Refusal :=
  .next (s.dcpDo slot 0x001 fun s r => (.done 0 (s.identity r.part), s))

/-- DEVICE_RESET (R420): the reset follows 1 ms after acceptance. -/
def execDeviceReset (slot : Fin 25) (s : State) : Host.Outcome State Fault Refusal :=
  .next (s.dcpDo slot 0x002 fun s _ => (dcpOk, s.setBoot fun b => { b with resetDue := some 3 }))

/-- PARTITION_RESET (R419): naming the sender's own partition, or none, ends without a completion; in a frame it
discards the waiting frames. -/
def execPartitionReset (slot : Fin 25) (s : State) : Host.Outcome State Fault Refusal :=
  .next (s.dcpDo slot 0x003 fun s r =>
    let p := if r.len == 0 then r.part else byteAt r.payload 0
    let s := if slot.val == 24 then s.putDcp { s.dcp with frames := [] } else s
    if p != r.part && r.part != 0 then (.done 0x201 (dcpDetail 0 0 noIndex), s)
    else if decide (5 < p) then (.done 0x301 (dcpDetail 0 0 noIndex), s)
    else (dcpOk, s.partitionReset p))

/-- RESTORE_FACTORY (R421). -/
def execRestoreFactory (slot : Fin 25) (s : State) : Host.Outcome State Fault Refusal :=
  .next (s.dcpDo slot 0x004 fun s _ => if s.crp.mramStop then (dcpFail 0x308, s) else (dcpOk, s.eraseConfig))

/-- The transitions of Table R464 by LIFECYCLE_ADVANCE. -/
def lifeCycleOk (c m t : Nat) : Bool :=
  (c == 1 && t == 2 && m == 2) || (c == 2 && t == 3 && m == 3) || (t == 5 && c != 5 && c != 4 && (m == 2 || m == 3))

/-- LIFECYCLE_ADVANCE (R464, R465). -/
def execLifecycleAdvance (slot : Fin 25) (s : State) : Host.Outcome State Fault Refusal :=
  .next (s.dcpDo slot 0x005 fun s r =>
    let t := leAt r.payload 0 4
    if lifeCycleOk s.boot.lifeCycle s.mode t then (dcpOk, s.lifeCycleGo t) else (dcpFail 0x208, s))

/-! ## Group 0x01xx -/

/-- MODE_GET. -/
def execModeGet (slot : Fin 25) (s : State) : Host.Outcome State Fault Refusal :=
  .next (s.dcpDo slot 0x100 fun s _ =>
    (.done 0 (wordsBytes [s.reg SYSCTL_MODE, s.reg SYSCTL_MODE_CFG]), s))

/-- The transition that waits is the one the MODE_SET in `slot` asked for. -/
def State.modeSetWaits (s : State) (slot : Nat) : Bool :=
  match s.pendMode with
  | none => false
  | some p => p.reply == some slot

/-- MODE_SET (R45, R49). The reply waits until the transition has taken effect or been replaced. -/
def execModeSet (slot : Fin 25) (s : State) : Host.Outcome State Fault Refusal :=
  .next (s.dcpDo slot 0x101 fun s r =>
    let m := leAt r.payload 0 4
    if s.modeSetWaits slot then (.wait, s)
    else if s.pendMode.isSome then (dcpFail 0x205, s)
    else match s.modeAnswer m with
      | .go => (.wait, s.modeGo m 0 6 (some slot) false)
      | .noTransition => (dcpFail 0x204, s)
      | .refused i => (dcpFailAt 0x305 0 i, s)
      | .busy => (dcpFail 0x205, s))

/-- The ports of a SYSCTL_MODE_CFG value name one port twice (R68). -/
def degPortsSame (w : Word) : Bool := bitsOf w 23 20 == bitsOf w 19 16 && decide (bitsOf w 19 16 ≤ 9)

/-- MODE_CFG_SET (R588). -/
def execModeCfgSet (slot : Fin 25) (s : State) : Host.Outcome State Fault Refusal :=
  .next (s.dcpDo slot 0x102 fun s r =>
    let w : Word := BitVec.ofNat 64 (leAt r.payload 0 8)
    if bitsOf w 39 32 == 0 || degPortsSame w then (dcpFail 0x301, s)
    else if s.bit SYSCTL_MODE_CFG_LOCK || s.bit (cUCTL_LOCK uSYSCTL) then (dcpFail 0x305, s)
    else if s.crp.mramStop then (dcpFail 0x308, s)
    else
      let old := s.dcp.storedMode.getD (0, s.reg SYSCTL_FAULT_CFG, s.reg SEC_TAMPER_CFG)
      (dcpOk, ((s.setReg SYSCTL_MODE_CFG w).putDcp { s.dcp with storedMode := some (w, old.2) })))

/-! ## Connections (R413) -/

def State.connRec (s : State) (c : Nat) : Option ConnRec := mapGet (fun _ => none) s.dcp.conns c

/-- AGENT names an instance of UNIT. -/
def agentExists (unit agent : Nat) : Bool :=
  match unit with
  | 1 => decide (agent < 24)
  | 2 => decide (agent < 4)
  | 3 => decide (agent < 6)
  | 4 => decide (agent < 32)
  | 5 => decide (agent < 64)
  | 6 => agent == 0
  | 7 => decide (agent < 6)
  | _ => false

/-- The connection of an enabled axis that record `x` of connection `c` runs against: its item overlaps an item of
the axis, or it takes the axis's result connection for another unit or axis (R309). -/
def State.axisClash (s : State) (c : Nat) (x : ConnRec) : Option Nat :=
  let own := fun (j : Nat) => x.unit == 5 && x.agent == j
  ((List.range 64).find? fun j =>
    let io := s.reg (ACE_AXk_IO j)
    s.axisOn j && !own j && (x.overlaps (axisResult j io) || (x.unit != 7 && x.overlaps (axisSetpoint j io))
      || s.rd (ACE_AXk_IO_RES_CONN j) == c)).map fun j => s.rd (ACE_AXk_IO_RES_CONN j)

/-- CONN_SET (R309, R413). -/
def execConnSet (slot : Fin 25) (s : State) : Host.Outcome State Fault Refusal :=
  .next (s.dcpDo slot 0x200 fun s r =>
    let l := r.payload
    let c := leAt l 0 2
    let x : ConnRec := ⟨byteAt l 2, byteAt l 3, byteAt l 4, leAt l 6 2, leAt l 8 4⟩
    if decide (0xFFF < c) || !agentExists x.unit x.agent || x.len == 0 || decide ((if x.unit == 1 then 32 else 64) < x.len)
        || (x.dir == 0 && decide (x.off < 0x80)) || decide (0x20000 < x.off + x.len) then (dcpFailAt 0x301 0 c, s)
    else match s.dcp.conns.find? fun e => e.1 != c && (match e.2 with | none => false | some y => x.overlaps y) with
      | some e => (dcpFailAt 0x302 0 e.1, s)
      | none => match s.axisClash c x with
        | some j => (dcpFailAt 0x302 0 j, s)
        | none =>
          let s := s.putDcp { s.dcp with conns := mapPut (fun _ => none) s.dcp.conns c (some x) }
          (dcpOk, if x.unit == 1 then s.putCmap (mapPut (fun _ => 0) s.cmap c (cmapWord x)) else s))

/-- A connection that a unit register names, and the item the register places it at: a slice and a feedback item are
read (`reads`), every other one is written by the unit itself. -/
structure ConnUse where
  conn : Nat
  reads : Bool
  item : ConnRec
deriving DecidableEq, Repr

/-- The registry's record agrees with the use: it is the item, or the item read lies in it. -/
def ConnUse.agrees (u : ConnUse) (x : ConnRec) : Bool :=
  if u.reads then x.dir == u.item.dir && decide (x.off ≤ u.item.off) && decide (u.item.off < x.off + x.len) else x == u.item

/-- The slices, maps, links and enabled axes that name a connection. -/
def State.connRegs (s : State) : List ConnUse :=
  ((List.range 4).flatMap fun g => (List.range 16).filterMap fun k =>
      if s.bit (CBC_SEGs_SLICEk_EN g k) then
        some ⟨s.rd (CBC_SEGs_SLICEk_CONN g k), true, ⟨2, s.rd (CBC_SEGs_SLICEk_SRC g k), g, 0, s.rd (CBC_SEGs_SLICEk_PI_OFF g k)⟩⟩
      else none)
    ++ ((List.range 6).flatMap fun n => (List.range 32).filterMap fun k =>
        if s.bit (CANn_PIMAPk_EN n k) then
          some ⟨s.rd (CANn_PIMAPk_CONN n k), false, ⟨3, 0, n, s.rd (CANn_PIMAPk_LEN_M1 n k) + 1, s.rd (CANn_PIMAPk_PI_OFF n k)⟩⟩
        else none)
    ++ ((List.range 32).filterMap fun n =>
        if s.bit (PIA_Pn_PIIN_EN n) then
          some ⟨s.rd (PIA_Pn_PIIN_CONN n), false, ⟨4, 0, n, (s.rd (PIA_Pn_PIIN_LEN_M1 n) + 2) / 2, s.rd (PIA_Pn_PIIN_PI_OFF n)⟩⟩
        else none)
    ++ ((List.range 64).flatMap fun k => if s.axisOn k then
        [⟨s.rd (ACE_AXk_IO_RES_CONN k), false, axisResult k (s.reg (ACE_AXk_IO k))⟩,
         ⟨s.rd (ACE_AXk_CFG_FB_CONN k), true, ⟨0, 0, k, 1, s.rd (ACE_AXk_CFG_FB_OFF k)⟩⟩] else [])

/-- The connections that unit registers name, with the unit (0 for an axis feedback): the valid entries of the PEA map,
slices, maps, links and axes. -/
def State.connUses (s : State) : List (Nat × Nat) :=
  (s.cmap.filterMap fun e => if bitsOf e.2 63 63 == 1 then some (e.1, 1) else none)
    ++ s.connRegs.map fun u => (u.conn, u.item.unit)

/-- The replies of the active schedule that go to the process image. -/
def State.connReplies (s : State) : List ConnUse :=
  ((s.schedValid schedActiveBase).filter SchedEnt.piEn).map fun e =>
    ⟨e.conn, false, ⟨2, 0, e.seg, (e.plen + 7) / 8, e.piOff⟩⟩

/-- CONN_CLEAR (R413): a connection that a unit still names stays. The PEA map entry of the connection itself is
cleared with it. -/
def execConnClear (slot : Fin 25) (s : State) : Host.Outcome State Fault Refusal :=
  .next (s.dcpDo slot 0x201 fun s r =>
    let c := leAt r.payload 0 2
    match s.connRec c with
    | none => (dcpFailAt 0x304 0 c, s)
    | some x =>
      if s.connUses.any fun u => u.1 == c && !(u.2 == 1 && x.unit == 1) then (dcpFailAt 0x302 0 c, s)
      else (dcpOk, (s.putDcp { s.dcp with conns := mapPut (fun _ => none) s.dcp.conns c none }).putCmap
        (if x.unit == 1 then mapPut (fun _ => 0) s.cmap c 0 else s.cmap)))

/-- A record in the layout of CONN_SET. -/
def ConnRec.bytes (c : Nat) (x : ConnRec) : List Byte :=
  bytesLE 2 c ++ bytesLE 1 x.unit ++ bytesLE 1 x.dir ++ bytesLE 1 x.agent ++ [0] ++ bytesLE 2 x.len ++ bytesLE 4 x.off
    ++ bytesLE 4 0

/-- CONN_GET. -/
def execConnGet (slot : Fin 25) (s : State) : Host.Outcome State Fault Refusal :=
  .next (s.dcpDo slot 0x202 fun s r =>
    let c := leAt r.payload 0 2
    match s.connRec c with
    | none => (dcpFailAt 0x304 0 c, s)
    | some x => (.done 0 (x.bytes c), s))

/-! ## Safe values (R414) -/

/-- The safe value of a connection; all zeros where none has been set. -/
def State.safeOf (s : State) (c : Nat) : List Word := mapGet (fun _ => []) s.dcp.safe c

/-- `n` words of a list, zeros where it ends. -/
def wordsTo (n : Nat) (l : List Word) : List Word := (List.range n).map fun i => l.getD i 0

/-- The slices that serve connection `c`. -/
def State.safeSlices (s : State) (c : Nat) : List (Nat × Nat) :=
  (List.range 4).flatMap fun g => ((List.range 16).filter fun k =>
    s.bit (CBC_SEGs_SLICEk_EN g k) && s.rd (CBC_SEGs_SLICEk_CONN g k) == c).map fun k => (g, k)

/-- A source offset lies in the item of `x`, in its region. -/
def ConnRec.feeds (x : ConnRec) (host : Bool) (off : Nat) : Bool :=
  (x.dir == 1) == host && decide (x.off ≤ off) && decide (off < x.off + x.len)

/-- The CAN messages that take their data from item `x`. -/
def State.safeMsgs (s : State) (x : ConnRec) : List (Nat × Nat) :=
  (List.range 6).flatMap fun n => ((List.range 32).filter fun k =>
    s.bit (CANn_CYCk_EN n k) && x.feeds (s.bit (CANn_CYCk_SRC n k)) (s.rd (CANn_CYCk_PI_OFF n k))).map fun k => (n, k)

/-- The Pawn engines whose output link takes its data from item `x`. -/
def State.safeLinks (s : State) (x : ConnRec) : List Nat :=
  (List.range 32).filter fun n => s.bit (PIA_Pn_PIOUT_EN n) && decide (s.rd (PIA_Pn_PIOUT_SRC n) < 2)
    && x.feeds (s.rd (PIA_Pn_PIOUT_SRC n) == 1) (s.rd (PIA_Pn_PIOUT_PI_OFF n))

/-- The safe value goes into every store that serves the connection. -/
def State.safeStore (s : State) (c : Nat) (x : ConnRec) (w : List Word) : State :=
  let s := s.putDcp { s.dcp with safe := mapPut (fun _ => []) s.dcp.safe c (if w.all fun v => v == 0 then [] else w) }
  let s := (s.safeSlices c).foldl (fun s e =>
    (List.range 8).foldl (fun s j => s.setReg (CBC_SAFE e.1 e.2 j) (w.getD j 0)) s) s
  let s := (s.safeMsgs x).foldl (fun s e =>
    s.sramWrite true (s.canBase e.1 + 0x8000 + 64 * e.2) (wordsBytes (wordsTo 8 w))) s
  (s.safeLinks x).foldl (fun s n => (List.range 4).foldl (fun s j => s.setReg (PIA_SAFE n j) (w.getD j 0)) s) s

/-- The 64-bit words of a payload from byte `o`. -/
def payWords (l : List Byte) (o n : Nat) : List Word := (List.range n).map fun i => BitVec.ofNat 64 (leAt l (o + 8 * i) 8)

/-- SAFEVAL_SET (R414). -/
def execSafevalSet (slot : Fin 25) (s : State) : Host.Outcome State Fault Refusal :=
  .next (s.dcpDo slot 0x203 fun s r =>
    let c := leAt r.payload 0 2
    let n := (r.len - 8) / 8
    let w := payWords r.payload 8 n
    match s.connRec c with
    | none => (dcpFailAt 0x304 0 c, s)
    | some x =>
      if n != x.len || (x.unit == 6 && w.any fun v => v != 0) then (dcpFailAt 0x301 0 c, s)
      else (dcpOk, s.safeStore c x w))

/-! ## Grants and slices (R415, R587) -/

/-- GRANT (R415). -/
def execGrant (slot : Fin 25) (s : State) : Host.Outcome State Fault Refusal :=
  .next (s.dcpDo slot 0x204 fun s r =>
    let l := r.payload
    let p := byteAt l 1
    let base := leAt l 8 8
    let lim := leAt l 16 8
    if p == 0 || decide (5 < p) then (.done 0x301 (dcpDetail 1 0 noIndex), s)
    else if byteAt l 0 == 2 then
      (.done 0 (bytesLE 4 0xFF), (s.putDcp { s.dcp with grants := setBitAt s.dcp.grants p true }))
    else if base % 8 != 0 || lim % 8 != 0 || decide (2 ^ 32 ≤ base) || decide (2 ^ 32 ≤ lim) then (.done 0x301 (dcpDetail 8 0 noIndex), s)
    else match (List.range 64).find? fun w => !s.bit (HIC_FWw_BASE_EN w) with
      | none => (dcpFail 0x303, s)
      | some w =>
        let rd := byteAt l 2 % 2 * 2 ^ p
        let wr := byteAt l 2 / 2 * 2 ^ p
        let s := ((s.wr (HIC_FWw_LIM_LIMIT w) (lim / 8)).wr (HIC_FWw_LIM_RD w) rd).wr (HIC_FWw_LIM_WR w) wr
        let s := ((s.wr (HIC_FWw_BASE_BASE w) (base / 8)).wrB (HIC_FWw_BASE_SPACE w) (byteAt l 0 == 1)).wrB
          (HIC_FWw_BASE_EN w) true
        (.done 0 (bytesLE 4 w), s))

/-- REVOKE. -/
def execRevoke (slot : Fin 25) (s : State) : Host.Outcome State Fault Refusal :=
  .next (s.dcpDo slot 0x205 fun s r =>
    let v := leAt r.payload 0 4
    if decide (v < 64) then
      if s.bit (HIC_FWw_BASE_EN v) then (dcpOk, s.wrB (HIC_FWw_BASE_EN v) false) else (dcpFailAt 0x304 0 v, s)
    else if decide (0x101 ≤ v) && decide (v ≤ 0x105) && bitAt s.dcp.grants (v - 0x100) then
      (dcpOk, (s.putDcp { s.dcp with grants := setBitAt s.dcp.grants (v - 0x100) false }))
    else (dcpFailAt 0x304 0 v, s))

/-- SLICE_SET (R385, R587). -/
def execSliceSet (slot : Fin 25) (s : State) : Host.Outcome State Fault Refusal :=
  .next (s.dcpDo slot 0x206 fun s r =>
    let p := byteAt r.payload 0
    let off := leAt r.payload 2 2
    let len := leAt r.payload 4 2
    if decide (5 < p) || decide (255 < off) || decide (256 < off + len) then (.done 0x301 (dcpDetail 0 0 noIndex), s)
    else if !s.sliceFits p off len then (dcpFailAt 0x302 0 p, s)
    else (dcpOk, s.sliceWrite p off len))

/-! ## Stored configuration (R411, R522, R554) -/

/-- The enable bits that a stored value leaves at 0. -/
def enableBits (a : Nat) : Nat :=
  let hit := fun (f : Nat → Nat) n => (List.range n).any fun i => f i == a
  if hit EPC_PORTp_CTL 10 || hit PEA_Rn_CTL 24 || hit CBC_SEGs_CTL 4 || hit PIA_Pn_CTL 32 || hit CANn_CTL 6
      || hit PQk_CTL 64 || hit NTU_TDx_CTL 2 || a == NTU_CYC_CTL then 1 else 0

/-- The register belongs to the stored configuration: configuration of the units, and the host slices. SYSCTL,
CRP, SEC, the rest of the HIC, the SFI and the calibration registers have rules of their own (DESIGN CHOICE, log 59). -/
def inStored (a : Nat) : Bool :=
  match unitAt a with
  | none => false
  | some u =>
    let hic := (List.range 6).any fun p => HIC_PARTp_SLICE p == a
    let cal := a == NTU_LT_TRIM || (List.range 10).any fun p => a == NTU_PORTp_LAT p || a == NTU_PORTp_ASYM p
    (u.base == uMEM || u.base == uMQF || u.base == uPQ || u.base == uPEA || u.base == uEPC || u.base == uSWC
      || u.base == uNTU || u.base == uCBC || u.base == uCANB || u.base == uPIA || u.base == uACE || hic) && !cal

/-- The registers stored, from those that differ from their reset values. -/
def State.storeRegs (s : State) : List (Nat × Word) :=
  (s.regs.filter fun e => inStored e.1).filterMap fun e =>
    match regAt e.1 with
    | none => none
    | some r =>
      let m := storedMask r
      let w := BitVec.ofNat 64 ((e.2 &&& m).toNat / (enableBits e.1 + 1) * (enableBits e.1 + 1))
      if m == 0 then none else some (e.1, w ||| (regReset e.1 &&& ~~~ m))

/-- CFG_STORE: the reply is the CRC of the stored area, whose layout no rule states (DESIGN CHOICE, log 59). -/
def execCfgStore (slot : Fin 25) (s : State) : Host.Outcome State Fault Refusal :=
  .next (s.dcpDo slot 0x207 fun s _ =>
    if s.crp.mramStop then (dcpFail 0x308, s)
    else
      let c : StoredCfg := ⟨s.storeRegs, s.dcp.conns, s.dcp.relay, s.swc.tables⟩
      let (crc, s) := (s.putDcp { s.dcp with stored := some c }).takeFree
      (.done 0 (bytesLE 4 crc.toNat), s))

/-- A finding: connection, unit, code (DESIGN CHOICE, log 60): 1 unused, 2 unregistered, 3 mismatched, 4 safe value differs, 5 an
area in a failed bank. -/
def finding (c unit code : Nat) : List Byte := bytesLE 4 c ++ bytesLE 2 unit ++ bytesLE 2 code

/-- Stores of a connection whose content differs from its safe value. -/
def State.safeDiffers (s : State) (c : Nat) (x : ConnRec) : Bool :=
  let w := s.safeOf c
  ((s.safeSlices c).any fun e => (List.range 8).any fun j => s.reg (CBC_SAFE e.1 e.2 j) != w.getD j 0)
    || ((s.safeMsgs x).any fun e => memBytes s.sram (s.canBase e.1 + 0x8000 + 64 * e.2) 64 != wordsBytes (wordsTo 8 w))
    || ((s.safeLinks x).any fun n => (List.range 4).any fun j => s.reg (PIA_SAFE n j) != w.getD j 0)

/-- Areas that units place in failed banks: CAN message areas and queue rings (R518). -/
def State.failedAreas (s : State) : List (List Byte) :=
  let bad := fun off => s.bit (bankFailFld (min 79 (off / 0x80000)))
  ((List.range 6).filter fun n => bad (s.canBase n)).map (fun n => finding n 3 5)
    ++ ((List.range 64).filter fun k => s.rd (PQk_STAT_STATE k) != 0 && bad (s.rd (PQk_CFG_BASE k))).map fun k => finding k 8 5

/-- CFG_CHECK (R413, R414, R518). -/
def State.cfgFindings (s : State) : List (List Byte) :=
  let named := s.connRegs ++ s.connReplies
  let uses := s.connUses ++ s.connReplies.map fun u => (u.conn, 2)
  let regd := s.dcp.conns.filterMap fun e => e.2.map fun x => (e.1, x)
  (regd.filter fun e => !(e.2.unit == 6 || e.2.unit == 7) && !uses.any fun u => u.1 == e.1).map (fun e => finding e.1 e.2.unit 1)
    ++ (uses.filter fun u => (s.connRec u.1).isNone).map (fun u => finding u.1 u.2 2)
    ++ (regd.filter fun e => (mapGet (fun _ => 0) s.cmap e.1).getLsbD 63
          && (e.2.unit != 1 || mapGet (fun _ => 0) s.cmap e.1 != cmapWord e.2)).map (fun e => finding e.1 1 3)
    ++ (named.filter fun u => match s.connRec u.conn with
          | none => false
          | some x => !u.agrees x).map (fun u => finding u.conn u.item.unit 3)
    ++ (regd.filter fun e => s.safeDiffers e.1 e.2).map (fun e => finding e.1 e.2.unit 4)
    ++ s.failedAreas

/-- CFG_CHECK. -/
def execCfgCheck (slot : Fin 25) (s : State) : Host.Outcome State Fault Refusal :=
  .next (s.dcpDo slot 0x208 fun s _ => (.done 0 (s.cfgFindings.take 512).flatten, s))

end Sys2Proof.Machine
end

