-- ==== Sys2Proof/Machine/RegWrite.lean ====
section
/-! DEFINITION. Writes of registers: access types, reserved values, owner fields and locks for every register
(R9 to R13, R376, R547, R548, R551, R555, R583), and what each unit does with a write of its registers. -/

namespace Sys2Proof.Machine

/-! ## A write by access type -/

/-- The bits of a register that an access touches: its lower half, its upper half, or both (R13). -/
def halfBits (lo hi : Bool) : Word := (if lo then 0x00000000FFFFFFFF else 0) ||| (if hi then 0xFFFFFFFF00000000 else 0)

/-- All bits of a field. -/
def FieldDef.bits (f : FieldDef) : Word := putBits 0 f.hi f.lo (2 ^ 64 - 1)

/-- A partition other than the owner keeps off the owner's fields (R376). -/
def foreign (who : Nat) : Bool := decide (1 ≤ who) && decide (who ≤ 5)

/-- What a write of `v` to the halves `m` carries in each field: a stored field keeps its value in the half not
written, and an acting field carries nothing there (R13). So a half write of a register whose write is one operation
performs it with 0 in the other half (DESIGN CHOICE, log 87). -/
def RegDef.carried (r : RegDef) (who : Nat) (cur v m : Word) : Word :=
  r.fields.foldl (fun w f =>
    let off := f.owner && foreign who
    match f.acc with
    | .rw | .rwl => w ||| (if off then cur &&& f.bits else (cur &&& f.bits &&& ~~~ m) ||| (v &&& f.bits &&& m))
    | .wo | .w1c | .w1s => w ||| (if off then 0 else v &&& f.bits &&& m)
    | .ro | .rc => w) 0

/-- A field value that the table accepts. -/
def FieldDef.accepts (f : FieldDef) (v : Nat) : Bool := f.ok.isEmpty || f.ok.any fun e => decide (e.1 ≤ v) && decide (v ≤ e.2)

/-- A stored field carries a reserved value or one out of range (R12, R13). -/
def RegDef.bad (r : RegDef) (c : Word) : Bool :=
  r.fields.any fun f => (f.acc == .rw || f.acc == .rwl) && !f.accepts (bitsOf c f.hi f.lo)

/-- The register after a write that carries `c` (R9, R10). -/
def RegDef.stored (r : RegDef) (locked : Bool) (cur c : Word) : Word :=
  r.fields.foldl (fun w f =>
    match f.acc with
    | .rw => w ||| (c &&& f.bits)
    | .rwl => w ||| ((if locked then cur else c) &&& f.bits)
    | .w1c => w ||| (cur &&& f.bits &&& ~~~ c)
    | .w1s => w ||| ((cur ||| c) &&& f.bits)
    | .ro | .rc => w ||| (cur &&& f.bits)
    | .wo => w) 0

/-- A write on its way into its unit: the agent (Table R424), the register, the bits of the halves it addresses (R13),
the register's value, what the write carries and what the access types leave. -/
structure RegW where
  who : Nat
  a : Nat
  m : Word
  cur : Word
  c : Word
  new : Word

/-- The write addresses the half that holds bit 0. -/
def RegW.low (w : RegW) : Bool := bitsOf w.m 0 0 == 1

/-- The value that the write carries in a field, and whether it changes the field (R583). -/
def RegW.val (w : RegW) (f : Fld) : Nat := bitsOf w.c f.hi f.lo
def RegW.one (w : RegW) (f : Fld) : Bool := w.val f == 1
def RegW.chg (w : RegW) (f : Fld) : Bool := w.val f != bitsOf w.cur f.hi f.lo
/-- The write addresses a half with field `f` and carries a value below `n` there (R12, R13). -/
def RegW.below (w : RegW) (f : Fld) (n : Nat) : Bool := bitsOf w.m f.lo f.lo == 1 && decide (w.val f < n)
def RegW.any (w : RegW) : Bool := w.new != w.cur

def RegW.put (w : RegW) (s : State) : State := s.setReg w.a w.new

/-- Store the write, but for field `f`, which keeps its value. -/
def RegW.keep (w : RegW) (f : Fld) : RegW := { w with new := putBits w.new f.hi f.lo (bitsOf w.cur f.hi f.lo) }

/-- The whole register stays unchanged and CFG_ERR sets (R12, R551). -/
def RegW.refuse (w : RegW) (s : State) : State := s.cfgErr w.a

/-- Store the write unless `b`. -/
def RegW.unless (w : RegW) (b : Bool) (s : State) : State := if b then w.refuse s else w.put s

/-- The index of a register in a row of `count` of them, `stride` apart from `base`, and the offset inside. -/
def regIdx (base stride count a : Nat) : Option (Nat × Nat) :=
  if decide (base ≤ a) && decide (a < base + stride * count) then some ((a - base) / stride, (a - base) % stride) else none

/-! ## SYSCTL, CRP, MEM, SEC -/

/-- R68: two DEGRADED ports must differ. -/
def RegW.sysctl (w : RegW) (s : State) : State := w.unless (w.a == SYSCTL_MODE_CFG && degPortsSame w.new) s

/-- MEM (R503, R504, R512, R524). -/
def RegW.mem (w : RegW) (s : State) : State :=
  if w.a == MEM_VAULT_CTL then (if w.one MEM_VAULT_CTL_WIPE then s.vaultWipe 3 else s)
  else match regIdx (MEM_BANK_CFGr 0) 8 3 w.a with
    | none => w.put s
    | some (r, _) =>
      let banks := (List.range (if r == 2 then 16 else 32)).map fun b => 32 * r + b
      if banks.any fun b => bankFixed b && w.val (bankTargetFld b) != 1 then w.refuse s
      else banks.foldl (fun s b => bankTarget b (w.val (bankTargetFld b)) s) s

/-- Levels of the tamper pin and the mesh at an access: SEC_TAMPER_STAT.PIN and MESH clear only with TAMPER_N high
and the mesh intact (R471). -/
def RegW.sec (w : RegW) (pins : AccPins) (s : State) : State :=
  let w := if w.a == SEC_TAMPER_STAT && !pins.tamperHigh then w.keep SEC_TAMPER_STAT_PIN else w
  (if w.a == SEC_TAMPER_STAT && !pins.meshIntact then w.keep SEC_TAMPER_STAT_MESH else w).put s

/-! ## HIC (R376, R385 to R397, R423) -/

/-- Events that a change of PEND or MASK makes signalled are sent (R395). -/
def State.sendNew (s : State) (p : Nat) (before : List Bool) : State :=
  if decide (4 ≤ p) then s
  else (List.range 13).foldl (fun s k =>
    if s.signalled p k && !before.getD k false then (s.putMsix ((p, s.vecOf p k) :: s.msix)) else s) s

/-- A register of the DCP queues: `o` is its offset in the block of queue `q` (R423). -/
def RegW.queue (w : RegW) (p q o : Nat) (s : State) : State :=
  let en := s.bit (HIC_PARTp_Qq_CTL_EN p q)
  let size := s.qSize p q
  if o == 0x00 || o == 0x08 then w.unless (en && w.any) s
  else if o == 0x10 then
    if en && (w.chg (HIC_PARTp_Qq_CTL_SIZE p q) || w.chg (HIC_PARTp_Qq_CTL_TMO p q)) then w.refuse s
    else if !en && w.one (HIC_PARTp_Qq_CTL_EN p q) then
      let s := w.put s
      (s.putDcp { s.dcp with pass := mapPut (fun _ => 0) s.dcp.pass (4 * p + q) 0 })
    else w.put s
  else
    let far := fun (f : Fld) => w.chg f && decide (size ≤ w.val f)
    w.unless (far (HIC_PARTp_Qq_IDX_SQ_TAIL p q) || far (HIC_PARTp_Qq_IDX_CQ_HEAD p q)) s

/-- A register of partition `p`, at offset `o` of its block. -/
def RegW.part (w : RegW) (p o : Nat) (s : State) : State :=
  let rx := s.bit (HIC_PARTp_RING_RX_EN p)
  let tx := s.bit (HIC_PARTp_RING_TX_EN p)
  if o == 0x00 then
    (if foreign w.who then s else s.sliceWrite p (w.val (HIC_PARTp_SLICE_OFF p)) (w.val (HIC_PARTp_SLICE_LEN p)))
  else if o == 0x10 then
    let s := w.put s
    if w.one (HIC_PARTp_COMMIT_COMMIT p) then s.commitAsk p else s
  else if o == 0x20 then w.unless (rx && w.any) s
  else if o == 0x28 then w.unless (tx && w.any) s
  else if o == 0x30 then
    w.unless ((rx && w.chg (HIC_PARTp_RING_RX_SIZE p)) || (tx && w.chg (HIC_PARTp_RING_TX_SIZE p))) s
  else if o == 0x38 then
    let rt := w.chg (HIC_PARTp_IDX_RX_TAIL p)
    let tt := w.chg (HIC_PARTp_IDX_TX_TAIL p)
    if (rt && (!rx || decide (2 ^ s.rd (HIC_PARTp_RING_RX_SIZE p) ≤ w.val (HIC_PARTp_IDX_RX_TAIL p))))
        || (tt && (!tx || decide (2 ^ s.rd (HIC_PARTp_RING_TX_SIZE p) ≤ w.val (HIC_PARTp_IDX_TX_TAIL p)))) then w.refuse s
    else
      let s := w.put s
      if tt && decide (4 ≤ p) then s.txRun p [] else s
  else if o == 0x40 then
    let before := (List.range 13).map fun k => s.signalled p k
    (w.put s).sendNew p before
  else if o == 0x60 then (if w.one (HIC_PARTp_DCP_PRST p) then s.partitionReset p else s)
  else if decide (0x80 ≤ o) then w.queue p ((o - 0x80) / 0x20) ((o - 0x80) % 0x20) s
  else w.put s

def RegW.hic (w : RegW) (s : State) : State :=
  match regIdx (HIC_PARTp_SLICE 0) 0x100 6 w.a with
  | some (p, o) => w.part p o s
  | none => w.put s

/-! ## Mailboxes and packet queues (chapter 15) -/

/-- Mailbox `m`, register at offset `o` (R426 to R429). -/
def RegW.mailbox (w : RegW) (m o : Nat) (s : State) : State :=
  let en := s.bit (MQF_MBm_CFG_EN m)
  if o == 0x00 then
    if w.any && (decide (m < 16) || (en && (w.keep (MQF_MBm_CFG_EN m)).any)) then w.refuse s else w.put s
  else if !en then s
  else if o == 0x08 then w.put s
  else if o == 0x10 then
    mbAck w.who m (w.val (MQF_MBm_ACK_EPOCH m)) (w.val (MQF_MBm_ACK_SEQ m)) (w.val (MQF_MBm_ACK_CODE m)) s
  else if w.one (MQF_MBm_CMD_POST m) then mbPost w.who m (w.val (MQF_MBm_CMD_LEN m)) s
  else s

/-- MQF (R426 to R436, R448). -/
def RegW.mqf (w : RegW) (s : State) : State :=
  match regIdx (MQF_MBm_CFG 0) 0x20 128 w.a with
  | some (m, o) => w.mailbox m o s
  | none => match regIdx (MQF_DBa_PEND 0) 0x10 33 w.a with
    | some (a, _) =>
      let was := s.doorbell a
      let s := w.put s
      if was == 0 && s.doorbell a != 0 && decide (a < 6) then s.raiseEvent a 9 else s
    | none => match regIdx (MQF_SEMs 0) 0x10 64 w.a with
      | some (k, o) => if o == 0 && w.one (MQF_SEMs_REL k) then semRelease w.who k s else s
      | none => match regIdx (MQF_STAGING 0 0) 0x200 128 w.a with
        | some (m, _) => if s.bit (MQF_MBm_CFG_EN m) && s.rd (MQF_MBm_CFG_SENDER m) == w.who then w.put s else s
        | none => w.put s

/-- The banks that a ring or an area may lie in: outside B00 to B07 and B76 to B79. -/
def freeArea (base len : Nat) : Bool := decide (0x400000 ≤ base) && decide (base + len ≤ 0x2600000)

/-- Packet queue unit `k` (R438 to R446). -/
def RegW.pq (w : RegW) (s : State) : State :=
  match regIdx (PQk_CFG 0) 0x40 64 w.a with
  | none => w.put s
  | some (k, o) =>
    if o == 0x00 then
      let base := w.val (PQk_CFG_BASE k)
      w.unless (w.any && (s.rd (PQk_STAT_STATE k) != 0 || base % 16 != 0
        || !freeArea base (16 * 2 ^ w.val (PQk_CFG_SIZE k)))) s
    else if o == 0x08 then
      let s := pqCtl w.who k (s.inRegion w.who) (w.one (PQk_CTL_FLUSH k)) (w.one (PQk_CTL_REWIND k))
        (w.one (PQk_CTL_COMMIT k)) s
      if !w.chg (PQk_CTL_EN k) then s else if w.one (PQk_CTL_EN k) then pqEnable k s else pqDisable k s
    else if o == 0x18 then
      let ahead := (s.rd (PQk_IDX_PUT k) + 2 ^ 32 - w.val (PQk_IDX_GET k)) % 2 ^ 32
      if s.rd (PQk_CFG_READER k) != w.who then s
      else if w.chg (PQk_IDX_GET k) && decide (s.pqSize k < ahead) then w.refuse s
      else (w.put s).pqShow k
    else if o == 0x20 then
      pqWrite w.who k (w.val (PQk_WR_DATA k)) (w.val (PQk_WR_VB k)) (w.one (PQk_WR_COMMIT k)) (s.inRegion w.who) s
    else w.put s

/-! ## PEA (R220) -/

/-- Engine `n`: PEA_Rn_CTL, PIRD and PIWR change only in OFF with EN 0. -/
def RegW.engine (w : RegW) (n o : Nat) (s : State) : State :=
  let idle := s.engState n == 0 && !s.bit (PEA_Rn_CTL_EN n)
  if o == 0x00 then
    let en := PEA_Rn_CTL_EN n
    if w.val (PEA_Rn_CTL_START n) % 4 != 0
        || ((w.chg (PEA_Rn_CTL_START n) || w.chg (PEA_Rn_CTL_BIND n)) && !(idle && !w.one en)) then w.refuse s
    else
      let s := (w.keep en).put s
      if !w.chg en then s else if w.one en then s.engEnable n else s.engDisable n
  else if o == 0x10 || o == 0x18 then
    let lo := bitsOf w.c 21 0
    let hi := bitsOf w.c 53 32
    w.unless (w.any && (!idle || lo % 8 != 0 || hi % 8 != 0 || (o == 0x18 && decide (0x100000 < hi)))) s
  else w.put s

/-- The connection map entry that PEA_CMAP_IDX names. -/
def State.cmapHere (s : State) : Word := mapGet (fun _ => 0) s.cmap (s.rd PEA_CMAP_IDX_INDEX)

/-- PEA (R197, R210, R220). -/
def RegW.pea (w : RegW) (s : State) : State :=
  if w.a == PEA_CMAP_DATA then
    if w.any && (s.mode != 3
        || (!w.one PEA_CMAP_DATA_DIR && decide (w.val PEA_CMAP_DATA_OFFSET < 0x80))) then
      w.refuse s
    else (s.putCmap (mapPut (fun _ => 0) s.cmap (s.rd PEA_CMAP_IDX_INDEX) w.new))
  else match regIdx (PEA_Rn_CTL 0) 0x40000 24 w.a with
    | some (n, o) => w.engine n o s
    | none => w.put s

/-! ## Ethernet ports (R95, R101, R110) -/

/-- The pair IF and SPEED exists at port `p` (Table R94). -/
def portPair (p itf speed : Nat) : Bool :=
  if decide (p < 8) then
    (itf == 0 && decide (p < 4) && decide (speed < 2)) || (itf == 1 && decide (speed < 3)) || (itf == 2 && speed == 2)
  else (itf == 3 && speed == 5) || (itf == 4 && decide (3 ≤ speed) && decide (speed ≤ 5)) || (itf == 5 && speed == 3)

def RegW.epc (w : RegW) (s : State) : State :=
  match regIdx (EPC_PORTp_CTL 0) 0x40 10 w.a with
  | none => w.put s
  | some (p, o) =>
    if o == 0x00 then
      let en := EPC_PORTp_CTL_EN p
      let set := w.chg (EPC_PORTp_CTL_IF p) || w.chg (EPC_PORTp_CTL_SPEED p) || w.chg (EPC_PORTp_CTL_AN_EN p)
        || w.chg (EPC_PORTp_CTL_PREEMPT_EN p) || w.chg (EPC_PORTp_CTL_ADD_FRAG_SIZE p)
      if !portPair p (w.val (EPC_PORTp_CTL_IF p)) (w.val (EPC_PORTp_CTL_SPEED p))
          || (w.one (EPC_PORTp_CTL_STEP_EN p) && !(decide (8 ≤ p) && w.val (EPC_PORTp_CTL_IF p) == 4))
          || (set && (s.epcState p != 0 || s.bit en || w.one en)) then w.refuse s
      else
        let s := (w.keep en).put s
        if !w.chg en then s else if w.one en then s.portEnable p else s.portDisable p
    else w.put s

/-! ## Switch core (R125, R134, R140, R146, R150) -/

/-- Port `p`, register at offset `o`. A write governs the decision and the placing of frames whose first byte arrives
later (R150); QAV and PRE, which concern the egress and no frame of its own, act at once (DESIGN CHOICE, log 89). -/
def RegW.swPort (w : RegW) (p o : Nat) (s : State) : State :=
  if o == 0x08 then ({ w with new := w.new &&& 0x77777777 }).put (s.portLog w.a w.cur)
  else if o == 0x38 then
    let pend := s.bit (SWC_PORTp_GCL_CTL_APPLY_PENDING p)
    let held := pend && (w.chg (SWC_PORTp_GCL_CTL_LEN p) || w.chg (SWC_PORTp_GCL_CTL_EN p))
    let w' := if pend then (w.keep (SWC_PORTp_GCL_CTL_LEN p)).keep (SWC_PORTp_GCL_CTL_EN p) else w
    let s := w'.put (if held then w.refuse s else s)
    if w.one (SWC_PORTp_GCL_CTL_APPLY p) then s.gclApply p else s
  else w.put (s.portLog w.a w.cur)

/-- A register of the SWC. A reserved OP written to SWC_GCLp is stored, and refused at APPLY, where R134 checks it
(DESIGN CHOICE, log 87: R12 and R150 refuse reserved values at the write). -/
def RegW.swc (w : RegW) (s : State) : State :=
  if w.a == SWC_GEN_CTL then
    let s := w.put s
    let s := if w.one SWC_GEN_CTL_ABORT then s.swAbort else s
    if w.one SWC_GEN_CTL_COMMIT && !s.bit SWC_GEN_STAT_BUSY then s.swCommit else s
  else if w.a == SWC_UPD_OP then s.updOp (w.val SWC_UPD_OP_TABLE) (w.val SWC_UPD_OP_OP) (w.val SWC_UPD_OP_INDEX)
  else if w.a == SWC_MIR_BASE then
    let base := w.val SWC_MIR_BASE_BASE
    w.unless (w.any && (s.bit SWC_MIR_CTL_EN || base % 32 != 0 || !freeArea base 327680)) s
  else if w.a == SWC_BUF_RESV then
    w.unless (decide (512 < sumNat ((List.range 8).map fun c => w.val (SWC_BUF_RESV_RESV c)))) s
  else if w.a == SWC_MIR_CONS then s.mirCons (w.val SWC_MIR_CONS_COUNT)
  else match regIdx (SWC_PORTp_CTL 0) 0x100 16 w.a with
    | some (p, o) => w.swPort p o s
    | none => match regIdx (SWC_GCLp 0 0) 0x2000 16 w.a with
      | some (p, _) => w.unless (w.any && s.bit (SWC_PORTp_GCL_CTL_APPLY_PENDING p)) s
      | none => w.put s

/-! ## Network time and the cycle generator (R22 to R24, R70 to R78, R93, R584) -/

/-- Domain `x`, register at offset `o`. -/
def RegW.domain (w : RegW) (x o : Nat) (s : State) : State :=
  if o == 0x00 then
    let en := NTU_TDx_CTL_EN x
    if w.chg en && !w.one en && s.tdBound x then w.refuse s
    else
      let s := w.put s
      let s := if w.chg en then s.tdEnable x (w.one en) else s
      if w.one (NTU_TDx_CTL_HOLD x) then s.tdHold x else s
  else if o == 0x10 then s.tdMeas x w.c.toInt
  else w.put s

def RegW.ntu (w : RegW) (s : State) : State :=
  let pend := s.bit NTU_CYC_STAT_APPLY_PENDING
  if w.a == NTU_SNAP_CTL then (if w.one NTU_SNAP_CTL_TAKE then s.snapTime else s)
  else if w.a == NTU_CAST_CTL then
    let s := w.put s
    if w.one NTU_CAST_CTL_GO then s.castGo else s
  else if w.a == NTU_CYC_CTL then
    if pend && (w.chg NTU_CYC_CTL_SRC || w.chg NTU_CYC_CTL_PULL_EN) then w.refuse s
    else
      let s := ((w.keep NTU_CYC_CTL_RUN).put s).cycSetRun (w.one NTU_CYC_CTL_RUN)
      if w.one NTU_CYC_CTL_APPLY then s.cycApply else s
  else if w.a == NTU_CYC_LEN || w.a == NTU_CYC_PULL || (regIdx (NTU_CYC_PHASEn 0) 8 8 w.a).isSome then
    w.unless (pend && w.any) s
  else match regIdx (NTU_TDx_CTL 0) 0x80 2 w.a with
    | some (x, o) => w.domain x o s
    | none => w.put s

/-! ## Cabinet Bus (R233, R250, R258, R259) -/

/-- Segment `g`, register at offset `o`. -/
def RegW.segment (w : RegW) (g o : Nat) (s : State) : State :=
  let off := s.segState g == 0
  if o == 0x00 then
    let en := CBC_SEGs_CTL_EN g
    let sh := [CBC_SEGs_CTL_APPLY_OFF g, CBC_SEGs_CTL_STRIDE_M1 g, CBC_SEGs_CTL_COUNT_M1 g, CBC_SEGs_CTL_SUM_EN g]
    let pend := s.bit CBC_SCHED_STAT_APPLY_PENDING
    if !off && (w.chg (CBC_SEGs_CTL_CSF_LOSS g) || w.chg (CBC_SEGs_CTL_CORR_LIM g)) then w.refuse s
    else
      let s := if pend && sh.any w.chg then w.refuse s else s
      let w' := if pend then sh.foldl RegW.keep w else w
      let s := (w'.keep en).put s
      if !w.chg en then s else if w.one en then s.segEnable g else s.segDisable g
  else if o == 0x08 then
    w.unless (w.any && (!off
      || decide (w.val (CBC_SEGs_TIMING_G g) * 8 < w.val (CBC_SEGs_TIMING_W g) * 8 + 16))) s
  else if o == 0x10 || o == 0x40 then w.unless (w.any && !off) s
  else w.put s

def RegW.cbc (w : RegW) (s : State) : State :=
  if w.a == CBC_SCHED_CTL then (if w.one CBC_SCHED_CTL_APPLY then s.schedApply else s)
  else match regIdx (CBC_SEGs_CTL 0) 0x100 4 w.a with
    | some (g, o) => w.segment g o s
    | none =>
      w.unless (w.any && (regIdx (CBC_SCHED_SHADOW 0 0) 0x10 4096 w.a).isSome && s.bit CBC_SCHED_STAT_APPLY_PENDING) s

/-! ## CAN (R261, R264, R267, R270, R271, R274, R283) -/

/-- Bytes of a message area with the given data sizes (Table R266). -/
def canArea (d0 d1 : Nat) : Nat := 0x9000 + 64 * (32 + canDs d0) + 64 * (32 + canDs d1)

/-- Channel `n`, register at offset `o`. -/
def RegW.channel (w : RegW) (n o : Nat) (s : State) : State :=
  let en := CANn_CTL_EN n
  let idle := s.canState n == 0 && !s.bit en
  if o == 0x00 then
    if (w.keep en).any && !(idle && !w.one en) then w.refuse s
    else
      let s := (w.keep en).put s
      let s := if w.one (CANn_CTL_REC_REQ n) && s.canState n == 3 then
          s.canUpd n fun x => { x with recovering := true } else s
      if !w.chg en then s else if w.one en then s.canEnable n else s.canDisable n
  else if o == 0x08 || o == 0x10 then w.unless (w.any && !idle) s
  else if o == 0x20 then
    let base := w.val (CANn_MEM_BASE n)
    w.unless (w.any && (!idle || base % 4096 != 0
      || !freeArea base (canArea (w.val (CANn_MEM_DSIZE0 n)) (w.val (CANn_MEM_DSIZE1 n))))) s
  else if o == 0x28 then
    let s := w.put s
    if w.one (CANn_FLT_APPLY n) then s.canFltApply n else s
  else if o == 0x30 then
    let far := fun (put get : Fld) => w.chg get && decide (64 < dist128 (s.rd put) (w.val get))
    w.unless (far (CANn_IDX_F0_PUT n) (CANn_IDX_F0_GET n) || far (CANn_IDX_F1_PUT n) (CANn_IDX_F1_GET n)
      || far (CANn_IDX_TXEV_PUT n) (CANn_IDX_TXEV_GET n)) s
  else if o == 0x38 then
    if w.one (CANn_TXQ_CANCEL n) then s.canCancel n (w.val (CANn_TXQ_TAG n)) (w.val (CANn_TXQ_MASK n)) else s
  else if o == 0x40 then s.canStage n w.who 0 w.c w.m
  else if o == 0x48 then s.canStage n w.who 1 w.c w.m
  else if o == 0x50 then s.canPush n w.who w.c
  else if decide (0x100 ≤ o) && decide (o < 0x200) then
    w.unless (w.any && (s.mode != 3 || bitsOf w.c 31 0 % 8 != 0)) s
  else if decide (0x200 ≤ o) && decide (o < 0x300) then
    w.unless (w.any && (s.mode != 3 || w.below ⟨w.a, 16, 0⟩ 0x80)) s
  else w.put s

def RegW.canb (w : RegW) (s : State) : State :=
  match regIdx (CANn_CTL 0) 0x10000 6 w.a with
  | some (n, o) => w.channel n o s
  | none => w.put s

/-! ## Pawn engines (R288, R295, R296, R298 to R305, R308) -/

/-- An output group lies within one bank of 24 pins (R303). -/
def groupFits (base cnt : Nat) : Bool :=
  cnt == 0 || (decide (base + cnt ≤ 96) && base / 24 == (base + cnt - 1) / 24)

/-- Engine `n`, register at offset `o`. -/
def RegW.pawnReg (w : RegW) (n o : Nat) (s : State) : State :=
  let off := s.pawnState n == 0
  if o == 0x00 then
    let en := PIA_Pn_CTL_EN n
    if s.pawnFlags n && w.one (PIA_Pn_CTL_HOLD n) && w.chg (PIA_Pn_CTL_HOLD n) then w.refuse s
    else if w.chg en && w.one en && !((s.outPins n).all fun i => s.ownsPin n i) then w.refuse s
    else
      let s := (w.keep en).put s
      if !w.chg en then s else if w.one en then s.pawnEnable n else s.pawnDisable n
  else if o == 0x10 then w.unless (decide (w.val (PIA_Pn_CLKDIV_DEN n) < w.val (PIA_Pn_CLKDIV_NUM n))) s
  else if o == 0x18 then
    w.unless (w.any && (!off || !groupFits (w.val (PIA_Pn_PINS_OUT_BASE n)) (w.val (PIA_Pn_PINS_OUT_CNT n)))) s
  else if o == 0x20 then
    if decide (w.val (PIA_Pn_PROG_S_WRAP_TOP n) < w.val (PIA_Pn_PROG_S_WRAP_BOTTOM n)) then w.refuse s
    else
      let s := (w.keep (PIA_Pn_PROG_ARM n)).put s
      if w.one (PIA_Pn_PROG_SWAP_NOW n) then
        (if w.one (PIA_Pn_PROG_ARM n) then s.wrB (PIA_Pn_PROG_ARM n) true else s).progSwapNow n
      else if w.one (PIA_Pn_PROG_ARM n) then s.progArm n
      else s
  else if o == 0x28 then (if w.low then s.txfPush n (BitVec.ofNat 32 (w.val (PIA_Pn_TXF_DATA n))) else s)
  else if o == 0x38 then
    w.unless (w.any && (s.mode != 3 || w.below (PIA_Pn_PIIN_PI_OFF n) 0x80)) s
  else if o == 0x40 then w.unless (w.any && s.mode != 3) s
  else w.put s

/-- Pin `i`: its owner and the engine named are OFF (R302). -/
def RegW.pin (w : RegW) (i : Nat) (s : State) : State :=
  let busy := fun (owned engine : Nat) => owned == 1 && s.pawnState engine != 0
  w.unless (w.any && (busy (s.rd (PIA_PIOi_CFG_OWNED i)) (s.rd (PIA_PIOi_CFG_ENGINE i))
    || busy (w.val (PIA_PIOi_CFG_OWNED i)) (w.val (PIA_PIOi_CFG_ENGINE i)))) s

def RegW.pia (w : RegW) (s : State) : State :=
  if w.a == PIA_FLAG_SET then s.setFlags (s.rd PIA_FLAG_SET_FLAGS ||| w.val PIA_FLAG_SET_FLAGS)
  else if w.a == PIA_FLAG_CLR then s.setFlags (s.rd PIA_FLAG_SET_FLAGS &&& (0xFFFF - w.val PIA_FLAG_CLR_FLAGS))
  else match regIdx (PIA_Gg_CTL 0) 0x40 4 w.a with
    | some (g, _) =>
      let go := w.val (PIA_Gg_CTL_GO g)
      let div := w.val (PIA_Gg_CTL_DIVRST g)
      let busy := (List.range 8).any fun e => s.pawnState (8 * g + e) != 0
      let flags := s.bit (PIA_Gg_CTL_MODE g) || w.one (PIA_Gg_CTL_MODE g)
      if (w.chg (PIA_Gg_CTL_MODE g) && busy) || (flags && (go != 0 || div != 0)) then w.refuse s
      else (((w.put s).groupGo g go).groupDivrst g div)
    | none => match regIdx (PIA_PIOi_CFG 0) 8 96 w.a with
      | some (i, _) => w.pin i s
      | none => match regIdx (PIA_Pn_CTL 0) 0x200 32 w.a with
        | some (n, o) => w.pawnReg n o s
        | none => w.put s

/-! ## Axis control (R331 to R335) -/

/-- A write to TIME or STOP of axis `k`: what the pair held before the writes of this CLK_TIME cycle (R335). -/
def State.axisWrote (s : State) (k : Nat) : State :=
  let old := (s.ntu.lt, s.reg (ACE_AXk_TIME k), s.reg (ACE_AXk_STOP k))
  s.axisUpd k fun x => { x with wrote :=
      match x.wrote with
      | none => some old
      | some e => if e.1 == s.ntu.lt then some e else some old }

/-- Axis `k`, register at offset `o`. -/
def RegW.axis (w : RegW) (k o : Nat) (s : State) : State :=
  if o == 0x00 then
    if w.any && (s.mode != 3 || w.below (ACE_AXk_CFG_FB_OFF k) 0x80) then w.refuse s
    else
      let s := w.put s
      let s := if w.chg (ACE_AXk_CFG_EN k) && w.one (ACE_AXk_CFG_EN k) then
          s.axisUpd k fun x => { x with last := none } else s
      s.axisReadyBit k
  else if o == 0x08 then
    w.unless (w.any && (s.mode != 3 || w.below (ACE_AXk_IO_RES_OFF k) 0x80)) s
  else if o == 0x10 then w.unless (w.val (ACE_AXk_TIME_DEADLINE k) % 8 != 0) (s.axisWrote k)
  else if o == 0x18 then w.put (s.axisWrote k)
  else if o == 0x20 then (w.put s).axisReadyBit k
  else w.put s

def RegW.ace (w : RegW) (s : State) : State :=
  if w.a == ACE_BANK_CTL then
    let s := w.put s
    let s := if w.one ACE_BANK_CTL_COPY then (s.bankCopy (w.val ACE_BANK_CTL_COPY_AXIS)).2 else s
    if w.one ACE_BANK_CTL_APPLY then s.bankApply none else s
  else match regIdx (ACE_AXk_CFG 0) 0x80 64 w.a with
    | some (k, o) => w.axis k o s
    | none => match regIdx (ACE_COEF_SHADOW 0 0) coefLen 64 w.a with
      | some (k, _) => w.unless (w.any && s.bankLocked k) s
      | none => match regIdx (ACE_TAB_SHADOW 0 0) tabLen 64 w.a with
        | some (k, _) => w.unless (w.any && s.bankLocked k) s
        | none => w.put s

/-! ## Every register -/

/-- Locked RWL fields (R555). -/
def State.regLocked (s : State) (base a : Nat) (cur : Word) : Bool :=
  s.bit (cUCTL_LOCK base)
    || ((a == SYSCTL_MODE_CFG || a == SYSCTL_FAULT_CFG || a == NTU_LT_TRIM || a == SEC_TAMPER_CFG || a == SEC_DBG)
      && bitsOf cur 63 63 == 1)

/-- The units of the fabric and the engines. -/
def RegW.unitA (w : RegW) (base : Nat) (s : State) : State :=
  if base == uMEM then w.mem s
  else if base == uHIC then w.hic s
  else if base == uMQF then w.mqf s
  else if base == uPQ then w.pq s
  else if base == uPEA then w.pea s
  else if base == uEPC then w.epc s
  else if base == uSWC then w.swc s
  else w.put s

/-- The units of the network time, the fieldbuses and the axes. -/
def RegW.unitB (w : RegW) (base : Nat) (s : State) : State :=
  if base == uNTU then w.ntu s
  else if base == uCBC then w.cbc s
  else if base == uCANB then w.canb s
  else if base == uPIA then w.pia s
  else if base == uACE then w.ace s
  else w.unitA base s

/-- The common block of every unit: a write of its last register may raise the unit's line. -/
def RegW.common (w : RegW) (u : UnitDef) (s : State) : State :=
  let s := w.put s
  if w.a == u.common + 0x28 && w.any then s.setIstat u.base 0 else s

/-- A write reaches its unit. -/
def RegW.apply (w : RegW) (u : UnitDef) (pins : AccPins) (s : State) : State :=
  if decide (u.common ≤ w.a) && decide (w.a < u.common + 0x30) then w.common u s
  else if u.base == uSYSCTL then w.sysctl s
  else if u.base == uSEC then w.sec pins s
  else w.unitB u.base s

/-- The value behind a register: the map entry for PEA_CMAP_DATA, else the register. -/
def State.regNow (s : State) (a : Nat) : Word := if a == PEA_CMAP_DATA then s.cmapHere else s.reg a

/-- The engine window that holds an address: the engine, and its I-space (R220). -/
def engWindow (a : Nat) : Option Nat :=
  match regIdx uPEA 0x40000 24 a with
  | none => none
  | some (n, o) => if decide (0x10000 ≤ o) && decide (o < 0x20000) || decide (0x20000 ≤ o) then some n else none

/-- The bytes of a half that is written. -/
def putPart (on : Bool) (m : List Host.Cell) (a : Nat) (b : List Byte) : List Host.Cell :=
  if on then memPutBytes m a b else m

/-- A write of the engine windows, by halves: only while the engine is OFF (R220). CFG_ERR sets otherwise whatever the
value, also where it is the one held (DESIGN CHOICE, log 87, on R583). -/
def State.windowWrite (s : State) (n a : Nat) (v : Word) (lo hi : Bool) : State :=
  if s.engState n != 0 then s.cfgErr a
  else
    let b := bytesLE 8 v.toNat
    s.putPmem (putPart hi (putPart lo s.pmem a (b.take 4)) (a + 4) (b.drop 4))

/-- A write of `v` to the register at `a`, a multiple of 8, by agent `who`, in its lower half, upper half or both.
Outside every register, and while the domain is not ON, it is discarded (R547, R548). -/
def State.regWrite (s : State) (who a : Nat) (v : Word) (lo hi : Bool) (pins : AccPins) : State :=
  if !s.powered a then s
  else match engWindow a with
    | some n => s.windowWrite n a v lo hi
    | none => match regAt a, unitAt a with
      | some r, some u =>
        let cur := s.regNow a
        let c := r.carried who cur v (halfBits lo hi)
        if r.bad c then s.cfgErr a
        else (RegW.mk who a (halfBits lo hi) cur c (r.stored (s.regLocked u.base a cur) cur c)).apply u pins s
      | _, _ => s

/-! ## Reads -/

/-- STARTING, STOPPING and PENDING of a unit's instances (R552). -/
def State.unitSummary (s : State) (base : Nat) : Bool × Bool × Bool :=
  let sum := fun (n : Nat) (st : Nat → Nat) (go stop : Nat) (pend : Nat → Bool) =>
    ((List.range n).any fun i => st i == go, (List.range n).any fun i => st i == stop, (List.range n).any pend)
  if base == uEPC then sum 10 s.epcState 1 4 fun i => s.bit (EPC_PORTp_STAT_PENDING i)
  else if base == uPEA then sum 24 s.engState 1 4 fun i => s.bit (PEA_Rn_STAT_PENDING i)
  else if base == uCBC then sum 4 s.segState 2 7 fun i => s.bit (CBC_SEGs_STAT_PENDING i)
  else if base == uCANB then sum 6 s.canState 1 4 fun i => s.bit (CANn_STAT_PENDING i)
  else if base == uPIA then sum 32 s.pawnState 1 4 fun i => s.bit (PIA_Pn_STAT_PENDING i)
  else if base == uPQ then sum 64 (fun i => s.rd (PQk_STAT_STATE i)) 1 3 fun i => s.bit (PQk_STAT_PENDING i)
  else if base == uCRP then sum 10 s.domState 1 3 fun d => bitAt (s.rd CRP_PD_STAT_PENDING) d
  else (false, false, false)

/-- _ID of the unit (Table R550). -/
def State.unitId (s : State) (u : UnitDef) : Word :=
  BitVec.ofNat 64 (0x9960 * 2 ^ 48 + s.variantCode * 2 ^ 44 + unitCode u.base * 2 ^ 32 + 2 * b2n (s.domOn u.dom)
    + b2n (u.base != uSFI || s.sfiHere))

/-- What the read of a register returns where the register map alone does not tell. -/
def State.regShow (s : State) (u : UnitDef) (a : Nat) : Word :=
  if a == u.common then s.unitId u
  else if a == u.common + 0x18 then
    let (x, y, z) := s.unitSummary u.base
    putBits (putBits (putBits (s.reg a) 3 3 (b2n x)) 2 2 (b2n y)) 1 1 (b2n z)
  else if a == PEA_CMAP_DATA then s.cmapHere
  else if a == SYSCTL_FAULT_STAT then putBits (s.reg a) 0 0 (b2n s.faultLow)
  else if a == NTU_TDx_OFFSET 0 || a == NTU_TDx_OFFSET 1 then
    BitVec.ofInt 64 ((s.td (b2n (a == NTU_TDx_OFFSET 1))).off.fdiv (2 ^ 32))
  else match regIdx (PEA_EPk_STAT 0) 0x80 4 a with
    | some (k, 0) => putBits (s.reg a) 23 0 (s.epBound k)
    | _ => match regIdx (MQF_SEMs 0) 0x10 64 a with
      | some (n, 8) => let h := s.semHolder n; if h == 0 then 0 else BitVec.ofNat 64 (64 + (h - 1))
      | _ => s.reg a

/-- The register after its RC fields in the halves `m` have been read (R9, R13). -/
def RegDef.afterRead (r : RegDef) (cur m : Word) : Word :=
  r.fields.foldl (fun w f =>
    if f.acc == .rc then putBits w f.hi f.lo (((cur &&& ~~~ m) ||| (putBits 0 f.hi f.lo f.reset &&& m)).toNat / 2 ^ f.lo)
    else w) cur

/-- Write-only fields read 0. -/
def RegDef.shown (r : RegDef) (w : Word) : Word :=
  r.fields.foldl (fun w f => if f.acc == .wo then w &&& ~~~ f.bits else w) w

/-- Registers whose read moves something beyond RC fields. -/
inductive PopReg where
  | sem (n : Nat)
  | queue (k : Nat)
  | stamp (p : Nat)
  | pawn (n : Nat)
deriving DecidableEq, Repr

/-- The popping register at an address. -/
def popAt (a : Nat) : Option PopReg :=
  match regIdx (MQF_SEMs 0) 0x10 64 a, regIdx (PQk_RD0 0) 0x40 64 a, regIdx (NTU_TXTSp_POP 0) 0x10 10 a,
    regIdx (PIA_Pn_RXF 0) 0x200 32 a with
  | some (n, 0), _, _, _ => some (.sem n)
  | _, some (k, 0), _, _ => some (.queue k)
  | _, _, some (p, 0), _ => some (.stamp p)
  | _, _, _, some (n, 0) => some (.pawn n)
  | _, _, _, _ => none

/-- What its read gives, and the state after it. A 32-bit read of either half of a queue's, a timestamp's or a receive
FIFO's register pops the record (DESIGN CHOICE, log 87); a semaphore is taken through its lower half. -/
def State.regPop (s : State) (who : Nat) (lo : Bool) : PopReg → Word × State
  | .sem n => if lo then semTake who n s else (0, s)
  | .queue k => pqPop who k s
  | .stamp p => s.txtsPop p
  | .pawn n => s.rxfPop n

/-- A read by agent `who` of the register at `a`, a multiple of 8: the value in the halves read, and the state
after it. A read by the SFI changes nothing (R549). -/
def State.regRead (s : State) (who a : Nat) (lo hi : Bool) : Word × State :=
  let m := halfBits lo hi
  match engWindow a with
  | some n => (if s.domOn (engDom n) then memWord s.pmem a &&& m else 0, s)
  | none => match regAt a, unitAt a with
    | some r, some u =>
      if !s.powered a then
        (if a == u.common then s.unitId u &&& m else if a == u.common + 8 then regReset a &&& m else 0, s)
      else match popAt a with
        | some k => ((s.regPop who lo k).1 &&& m, if who == agSFI then s else (s.regPop who lo k).2)
        | none =>
          (r.shown (s.regShow u a) &&& m, if who == agSFI then s else s.setReg a (r.afterRead (s.reg a) m))
    | _, _ => (0, s)

/-- REGISTER_WRITE (R9 to R13, R376, R547 to R555, R583): agent `who` writes the register at `a`. -/
def execRegisterWrite (who : Fin 33) (a : BitVec 32) (v : BitVec 64) (lo hi : Bool) (pins : AccPins) (s : State) :
    Host.Outcome State Fault Refusal :=
  .next (if s.pcieDead who then s else s.regWrite who (a.toNat / 8 * 8) v lo hi pins)

end Sys2Proof.Machine
end

