-- ==== Sys2Proof/Machine/Access.lean ====
section
/-! DEFINITION. Host accesses through BAR0, BAR2 and the two xSPI ports (chapter 13: R32, R375 to R384; R458). -/

namespace Sys2Proof.Machine

/-! ## BAR0: the Rhizome (R376, R378, R382) -/

/-- Offset of a register inside the partition's own HIC_PARTp block, through its address or the alias. -/
def ownOff (p a : Nat) : Option Nat :=
  match regIdx (HIC_PARTp_SLICE p) 0x100 1 a with
  | some (_, o) => some o
  | none => (regIdx 0x00300800 0x100 1 a).map fun e => e.2

/-- The address that partition `p` reaches: the alias stands for its own block. -/
def aliasTo (p a : Nat) : Nat :=
  match regIdx 0x00300800 0x100 1 a with
  | some (_, o) => HIC_PARTp_SLICE p + o
  | none => a

/-- Registers that partition 0 alone writes, and that read 0 for the others (R376). -/
def ownerOnly (a : Nat) : Bool :=
  (regIdx (HIC_FWw_BASE 0) 0x10 64 a).isSome
    || (match regIdx (HIC_PARTp_SLICE 0) 0x100 6 a with | some (_, o) => decide (o < 8) | none => false)

/-- The DPX9960 answers no access of the host: a start from step 0x04 on until HANDOVER (R458). -/
def State.barClosed (s : State) : Bool := s.boot.running || s.boot.halted.isSome

/-- An access to a register, at `a` of its word, is denied (Table R382). -/
def State.regDenied (s : State) (p a : Nat) (write : Bool) : Bool :=
  let t := aliasTo p a
  if p == 0 then false
  else if ownerOnly t then write
  else (ownOff p a).isNone && !s.fwWindow p false write (a / 8 * 8) (a / 8 * 8 + 8)

/-- The size and alignment that BAR0 permits (R378). -/
def bar0Fits (a n : Nat) : Bool := (n == 4 && a % 4 == 0) || (n == 8 && a % 8 == 0)

/-- A register write by partition `p` of the bytes `b` at `a`. -/
def State.hostRegWrite (s : State) (p a : Nat) (b : List Byte) (pins : AccPins) : State :=
  if s.barClosed || !bar0Fits a b.length || s.regDenied p a true then s.fwDeny p false true a
  else
    let hi := a % 8 == 4
    s.regWrite p (aliasTo p a / 8 * 8) (BitVec.ofNat 64 (natOfLE b * if hi then 2 ^ 32 else 1)) (!hi)
      (hi || b.length == 8) pins

/-- A register read by partition `p` of `n` bytes at `a`: the bytes, whether it was denied, and the state. -/
def State.hostRegRead (s : State) (p a n : Nat) : List Byte × Bool × State :=
  if s.barClosed || !bar0Fits a n || s.regDenied p a false then (bytesLE n 0, true, s.fwDeny p false false a)
  else
    let t := aliasTo p a
    if p != 0 && ownerOnly t then (bytesLE n 0, false, s)
    else
      let hi := a % 8 == 4
      let (w, s) := s.regRead p (t / 8 * 8) (!hi) (hi || n == 8)
      (bytesLE n (w.toNat / if hi then 2 ^ 32 else 1), false, s)

/-! ## BAR2: the role view and shared SRAM (R378, R382) -/

/-- The 64-bit words that `n` bytes at `a` touch. -/
def wordsTouched (a n : Nat) : List Nat := (List.range ((a % 8 + n + 7) / 8)).map fun i => a / 8 * 8 + 8 * i

/-- Table R378 lets an access of partition `p` at the word `w` of BAR2. -/
def State.barRegion (s : State) (p : Nat) (write : Bool) (w : Nat) : Bool :=
  if decide (w < 0x100000) then false
  else if decide (w < 0x300000) then !write
  else if decide (w < 0x400000) then s.sliceOwner (w - 0x300000) == some p
  else decide (w < 0x2600000)

/-- The staging copy of the host region in BAR2. -/
def stagingOff (w : Nat) : Bool := decide (0x300000 ≤ w) && decide (w < 0x400000)

/-- An access of `n` bytes at BAR2 offset `a` is denied (Table R382). -/
def State.memDenied (s : State) (p a n : Nat) (write : Bool) : Bool :=
  let l := wordsTouched a n
  !(l.all fun w => s.barRegion p write w)
    || (p != 0 && !(l.all stagingOff) && !s.fwWindow p true write (a / 8 * 8) ((a + n + 7) / 8 * 8))

/-- Shared SRAM offset of a BAR2 offset; the role view resolves the copy at each access (R207, R378). -/
def State.barAddr (s : State) (a : Nat) : Nat :=
  if decide (a < 0x400000) then (match s.roleAddr a with | some x => x | none => s.hostStaging (a - 0x300000)) else a

/-- Bytes into memory, a word at a time. -/
def State.barStore (s : State) (a : Nat) (b : List Byte) : Nat → State
  | 0 => s
  | n + 1 =>
    if b.isEmpty then s
    else
      let k := 8 - a % 8
      (s.sramWrite false (s.barAddr a) (b.take k)).barStore (a + k) (b.drop k) n

/-- Bytes from memory, a word at a time, and whether a word was uncorrectable. To a host on an HSP port such a
word returns 0; the completion of a PCIe read is poisoned (Table R533). -/
def State.barLoad (s : State) (hsp : Bool) (a : Nat) : Nat → Nat → List Byte × Bool × State
  | _, 0 => ([], false, s)
  | n, k + 1 =>
    if n == 0 then ([], false, s)
    else
      let m := min n (8 - a % 8)
      let (b, u, s1) := s.sramReadBytes false (s.barAddr a) m
      let (r, v, s2) := s1.barLoad hsp (a + m) (n - m) k
      ((if u && hsp then List.replicate m 0 else b) ++ r, u || v, s2)

/-- A memory write by partition `p`: denied, discarded while a commit is pending (R32), or stored. -/
def State.hostMemWrite (s : State) (p a : Nat) (b : List Byte) : State :=
  if s.barClosed || s.memDenied p a b.length true then s.fwDeny p true true a
  else if stagingOff a && s.bit (HIC_PARTp_COMMIT_PENDING p) then s.inc (HIC_PARTp_CNT_DISCARDS p)
  else s.barStore a b (b.length + 1)

/-- A memory read by partition `p`: the bytes, whether it was denied, and the state. -/
def State.hostMemRead (s : State) (p a n : Nat) : List Byte × Bool × State :=
  let s := s.putReadPoison false
  if s.barClosed || s.memDenied p a n false then (List.replicate n 0, true, s.fwDeny p true false a)
  else
    let hsp := decide (4 ≤ p)
    let (b, u, s) := s.barLoad hsp a n (n + 1)
    (b, false, (s.putReadPoison (u && !hsp)))

/-- The answer of a read goes out. -/
def State.answer (s : State) (b : List Byte) : State :=
  (s.putReadData (BitVec.ofNat 64 (natOfLE (b.take 8)))).putReadBytes b

/-- HOST_ACCESS (R378, R382, R383): partition `p` writes `bytes` at offset `a` of BAR2 or BAR0, or reads `n` bytes. -/
def execHostAccess (p : Fin 6) (bar2 write : Bool) (a : BitVec 27) (n : BitVec 13) (bytes : List Byte) (pins : AccPins)
    (s : State) : Host.Outcome State Fault Refusal :=
  if !s.domOn 3 || s.pcieDead p then .next s
  else if write then
    .next (if bar2 then s.hostMemWrite p a.toNat bytes else s.hostRegWrite p a.toNat bytes pins)
  else
    let r := if bar2 then s.hostMemRead p a.toNat n.toNat else (s.putReadPoison false).hostRegRead p a.toNat n.toNat
    .next (r.2.2.answer r.1)

/-! ## xSPI (R380, R381) -/

def State.port (s : State) (h : Fin 2) : XspiPort := mapGet (fun _ => XspiPort.reset) s.xspi h.val

def State.portUpd (s : State) (h : Fin 2) (f : XspiPort → XspiPort) : State :=
  s.putXspi (mapPut (fun _ => XspiPort.reset) s.xspi h.val (f (s.port h)))

/-- MEM_WRITE: 1 to 32 words of 64 bits at a BAR2 offset; another count is no command of Table R380. -/
def execMemWrite (h : Fin 2) (a : BitVec 32) (words : List (BitVec 64)) (s : State) :
    Host.Outcome State Fault Refusal :=
  if !s.domOn 3 || words.isEmpty || decide (32 < words.length) then .next s
  else .next (s.hostMemWrite (4 + h.val) a.toNat (wordsBytes words))

/-- MEM_READ: `n` bytes from a BAR2 offset, until CS# rises. -/
def execMemRead (h : Fin 2) (a : BitVec 32) (n : BitVec 16) (s : State) : Host.Outcome State Fault Refusal :=
  if !s.domOn 3 then .next s
  else
    let r := s.hostMemRead (4 + h.val) a.toNat n.toNat
    let s := r.2.2.answer r.1
    .next (if r.2.1 then s.portUpd h fun x => { x with denied := true } else s)

/-- REG_WRITE (R381): posted; BUSY until the access is over, OVERLAP where one is under way. -/
def execRegWrite (h : Fin 2) (a : BitVec 32) (v : BitVec 64) (pins : AccPins) (s : State) :
    Host.Outcome State Fault Refusal :=
  if !s.domOn 3 then .next s
  else if (s.port h).busy then .next (s.portUpd h fun x => { x with overlap := true })
  else .next ((s.hostRegWrite (4 + h.val) a.toNat (bytesLE 8 v.toNat) pins).portUpd h fun x =>
    { x with busy := true, reading := false })

/-- REG_READ (R381): starts a read; READY sets when it is over. -/
def execRegRead (h : Fin 2) (a : BitVec 32) (s : State) : Host.Outcome State Fault Refusal :=
  if !s.domOn 3 then .next s
  else if (s.port h).busy then .next (s.portUpd h fun x => { x with overlap := true })
  else
    let r := s.hostRegRead (4 + h.val) a.toNat 8
    .next (r.2.2.portUpd h fun x =>
      { ready := false, busy := true, denied := x.denied || r.2.1, overlap := x.overlap,
        reading := true, data := BitVec.ofNat 64 (natOfLE r.1) })

/-- The status word of RESULT (R380). -/
def XspiPort.status (x : XspiPort) : Word :=
  BitVec.ofNat 64 (b2n x.ready + 2 * b2n x.busy + 4 * b2n x.denied + 8 * b2n x.overlap)

/-- RESULT (R381): the status word and the data of the last REG_READ; DENIED and OVERLAP clear. -/
def execResult (h : Fin 2) (s : State) : Host.Outcome State Fault Refusal :=
  if !s.domOn 3 then .next s
  else
    let x := s.port h
    .next (((s.putReadData x.data).putReadBytes (wordsBytes [x.status, x.data])).portUpd h fun x =>
      { x with denied := false, overlap := false })

/-- The register access of a port is over: READY is 1 from the end of a read to the next REG_READ. -/
def XspiPort.done (x : XspiPort) : XspiPort := { x with busy := false, ready := x.ready || x.reading }

/-- What happens at a CLK_TIME edge on which no command waits: the register accesses of the xSPI ports end, and
time goes on. -/
def State.idleEdge (s : State) : State :=
  let s := [(0 : Fin 2), 1].foldl (fun s h => if (s.port h).busy then s.portUpd h XspiPort.done else s) s
  s.edge1

end Sys2Proof.Machine
end

