-- ==== Sys2Proof/Machine/DcpNet.lean ====
section
/-! DEFINITION. Commands of groups 0x03xx to 0x05xx: switch tables, engines, acyclic services, PTP, relay, axes,
banks, safety; frames at MP (R59, R60, R89, R125, R240, R331 to R333, R360, R362, R410, R411, R587). -/

namespace Sys2Proof.Machine

/-- A command that needs domain `d` while it is off (R60). -/
def State.needs (s : State) (d : Nat) (x : DcpAns × State) : DcpAns × State := if s.domOn d then x else (dcpFail 0x203, s)

/-! ## Group 0x03xx -/

/-- Operation `i` of a batch: the SWC_UPD_OP word and DATA0 to DATA4 (DESIGN CHOICE, log 62). -/
def batchOp (l : List Byte) (i : Nat) : Nat × UpdOp :=
  let w := payWords l (8 + 48 * i) 6
  let o := w.getD 0 0
  let t := bitsOf o 63 60
  (bitsOf o 55 14, ⟨t, bitsOf o 59 56, bitsOf o 13 0, (w.drop 1).take (updWords t)⟩)

def batchOps (l : List Byte) : List (Nat × UpdOp) := (List.range (byteAt l 0)).map fun i => batchOp l i

/-- A batch of the MGP's own: committed, held back by a held version, or refused with code and position (R125,
R126). The batch that partitions have staged stays. -/
def State.loadBatch (s : State) (b : List UpdOp) : DcpAns × State :=
  let t := s.setSwc { s.swc with batch := b }
  let r := t.swc.tables.applyAll b 0
  if r.1 != 0 then (dcpFailAt 0x305 r.1 r.2.1, s)
  else if t.batchHeld then (.wait, s)
  else
    let u := (b.foldl (fun u o => u.opReset o) s).newGen r.2.2
    (dcpOk, u)

/-- SWC_LOAD (R125, R411). -/
def execSwcLoad (slot : Fin 25) (s : State) : Host.Outcome State Fault Refusal :=
  .next (s.dcpDo slot 0x300 fun s r =>
    let b := batchOps r.payload
    s.needs 6 (if b.any fun o => o.1 != 0 || decide (6 < o.2.table) || decide (3 < o.2.op) then (dcpFail 0x104, s)
      else s.loadBatch (b.map fun o => o.2)))

/-- ROOK_SETUP (R220, R411, R587). -/
def State.rookSetup (s : State) (l : List Byte) : DcpAns × State :=
  let n := byteAt l 0
  let bind := byteAt l 1
  let rdLo := leAt l 4 4
  let rdHi := leAt l 8 4
  let wrLo := leAt l 12 4
  let wrHi := leAt l 16 4
  let first := byteAt l 20
  let count := byteAt l 21
  if decide (23 < n) then (dcpFailAt 0x301 0 n, s)
  else if s.engState n != 0 || s.bit (PEA_Rn_CTL_EN n) then (dcpFailAt 0x205 0 n, s)
  else if [rdLo, rdHi, wrLo, wrHi].any (fun v => v % 8 != 0 || decide (2 ^ 22 ≤ v)) || decide (0x100000 < wrHi)
      || decide (64 < first + count) then (dcpFailAt 0x301 0 n, s)
  else if count != 0 && bind == 7 then (dcpFailAt 0x302 0 n, s)
  else
    let s := s.wr (PEA_Rn_CTL_BIND n) bind
    let s := (s.wr (PEA_Rn_PIRD_LO n) rdLo).wr (PEA_Rn_PIRD_HI n) rdHi
    let s := (s.wr (PEA_Rn_PIWR_LO n) wrLo).wr (PEA_Rn_PIWR_HI n) wrHi
    (dcpOk, (List.range count).foldl (fun s i =>
      let e := first + i
      (s.wr (PEA_EPk_DISPj_ENGINE bind (e / 8) (e % 8)) n).wrB (PEA_EPk_DISPj_VALID bind (e / 8) (e % 8)) true) s)

/-- ROOK_SETUP. -/
def execRookSetup (slot : Fin 25) (s : State) : Host.Outcome State Fault Refusal :=
  .next (s.dcpDo slot 0x301 fun s r =>
    s.needs (if decide (byteAt r.payload 0 < 12) then 4 else 5) (s.needs 2 (s.rookSetup r.payload)))

/-- CB_AREQ (R240): the request is queued once, and its answer is the ARSP or the time-out. Its TAG is
not 0 (R231). -/
def execCbAreq (slot : Fin 25) (s : State) : Host.Outcome State Fault Refusal :=
  .next (s.dcpDo slot 0x302 fun s r =>
    let g := byteAt r.payload 0
    let node := byteAt r.payload 1
    s.needs 8 (
      if decide (3 < g) || node == 0 || decide (31 < node) || beAt r.payload 4 2 == 0 then (dcpFail 0x301, s)
      else if (s.seg g).reqs.any fun q => q.slot == slot.val then (.wait, s)
      else (.wait, s.cbQueue g node slot.val (r.payload.drop 4))))

/-- NET_ACYC (R411): `answer` is what the spore instance answers, if it does. An instance is named by its lowest
engine (DESIGN CHOICE, log 63). -/
def execNetAcyc (slot : Fin 25) (answer : Option (List Byte)) (s : State) : Host.Outcome State Fault Refusal :=
  .next (s.dcpDo slot 0x303 fun s r =>
    let n := leAt r.payload 0 2
    match answer with
    | some b => if decide (n < 24) && s.engState n == 2 then (.done 0 (b.take 4096), s) else (dcpFailAt 0x307 0 n, s)
    | none => (dcpFailAt 0x307 0 n, s))

/-- PTP_SET (R411): the configuration of the PTP instance of a time domain. -/
def execPtpSet (slot : Fin 25) (s : State) : Host.Outcome State Fault Refusal :=
  .next (s.dcpDo slot 0x304 fun s r =>
    let x := byteAt r.payload 0
    if decide (1 < x) then (dcpFail 0x301, s)
    else (dcpOk, (s.putDcp { s.dcp with ptp := mapPut (fun _ => []) s.dcp.ptp x (r.payload.take 32) })))

/-- RELAY_SET (R360, R411): byte 0 the SFI connection, byte 1 the port, the addresses at 4 and 10, the VID at 16
(DESIGN CHOICE, log 55). -/
def execRelaySet (slot : Fin 25) (s : State) : Host.Outcome State Fault Refusal :=
  .next (s.dcpDo slot 0x305 fun s r =>
    let l := r.payload
    if decide (63 < byteAt l 0) || decide (15 < byteAt l 1) || decide (4094 < leAt l 16 2) then (dcpFail 0x301, s)
    else (dcpOk, (s.putDcp { s.dcp with relay := mapPut (fun _ => []) s.dcp.relay (byteAt l 0) (l.take 24) })))

/-- NET_STATUS: states of the ports at 0, of the segments at 16, of the CAN channels at 32 (DESIGN CHOICE, log 64). -/
def execNetStatus (slot : Fin 25) (s : State) : Host.Outcome State Fault Refusal :=
  .next (s.dcpDo slot 0x306 fun s _ =>
    let col := fun (n : Nat) (f : Nat → Nat) (w : Nat) =>
      (List.range w).map fun i => BitVec.ofNat 8 (if decide (i < n) then f i else 0)
    (.done 0 (col 10 s.epcState 16 ++ col 4 s.segState 16 ++ col 6 s.canState 96), s))

/-! ## Group 0x04xx -/

/-- A value that the register takes: no reserved bit and no value out of range (R12). -/
def regTakes (a : Nat) (v : Word) : Bool :=
  match regAt a with
  | none => false
  | some r => !r.bad v && v &&& ~~~ (storedMask r) == 0

/-- The result or setpoint item that `io` gives axis `k` overlaps another item of its region, or its result
connection is registered to another unit or axis (R309, R413; DEDUCED, log 65): the connection or axis that stands
there, or `k` where its own connection is another's. A host's record may cover a setpoint item: the host writes it. -/
def State.itemConflict (s : State) (k : Nat) (io : Word) : Option Nat :=
  let c := bitsOf io 63 52
  let hits := fun (x : ConnRec) => x.overlaps (axisResult k io) || (x.unit != 7 && x.overlaps (axisSetpoint k io))
  match s.dcp.conns.find? fun e => match e.2 with
      | none => false
      | some x => if x.unit == 5 && x.agent == k then false else e.1 == c || hits x with
  | some e => some (if e.1 == c then k else e.1)
  | none => (List.range 64).find? fun j => j != k && s.axisOn j
      && (hits (axisResult j (s.reg (ACE_AXk_IO j))) || hits (axisSetpoint j (s.reg (ACE_AXk_IO j)))
        || s.rd (ACE_AXk_IO_RES_CONN j) == c)

/-- AXIS_SET (R411, R587). -/
def State.axisSet (s : State) (l : List Byte) : DcpAns × State :=
  let k := byteAt l 0
  let cfg : Word := BitVec.ofNat 64 (leAt l 8 8)
  let io : Word := BitVec.ofNat 64 (leAt l 16 8)
  let time : Word := BitVec.ofNat 64 (leAt l 24 8)
  let stop : Word := BitVec.ofNat 64 (leAt l 32 8)
  let en := bitsOf cfg 63 63 == 1
  let moved := cfg != s.reg (ACE_AXk_CFG k) || io != s.reg (ACE_AXk_IO k)
  if decide (63 < k) then (dcpFailAt 0x301 0 k, s)
  else if s.mode != 3 && moved then (dcpFailAt 0x203 0 k, s)
  else if !(regTakes (ACE_AXk_CFG k) cfg && regTakes (ACE_AXk_IO k) io && regTakes (ACE_AXk_TIME k) time
      && regTakes (ACE_AXk_STOP k) stop) || bitsOf time 31 0 % 8 != 0
      || decide (bitsOf cfg 16 0 < 0x80) || decide (bitsOf io 48 32 < 0x80) then (dcpFailAt 0x301 0 k, s)
  else match if en && moved then s.itemConflict k io else none with
    | some i => (dcpFailAt 0x302 0 i, s)
    | none =>
      let was := s.bit (ACE_AXk_CFG_EN k)
      let s := ((s.setReg (ACE_AXk_CFG k) cfg).setReg (ACE_AXk_IO k) io).setReg (ACE_AXk_TIME k) time
      let s := s.setReg (ACE_AXk_STOP k) stop
      let s := if en && !was then s.axisUpd k fun x => { x with last := none } else s
      (dcpOk, s.axisReadyBit k)

/-- AXIS_SET. -/
def execAxisSet (slot : Fin 25) (s : State) : Host.Outcome State Fault Refusal :=
  .next (s.dcpDo slot 0x400 fun s r => s.needs 7 (s.axisSet r.payload))

/-- AXIS_GET (R587). -/
def execAxisGet (slot : Fin 25) (s : State) : Host.Outcome State Fault Refusal :=
  .next (s.dcpDo slot 0x401 fun s r =>
    let k := byteAt r.payload 0
    s.needs 7 (if decide (63 < k) then (dcpFailAt 0x301 0 k, s)
      else (.done 0 (wordsBytes ([ACE_AXk_STAT k, ACE_AXk_SPOS k, ACE_AXk_SERR k, ACE_AXk_SOUT k, ACE_AXk_SINT k,
        ACE_SNAP_SEQ].map s.reg)), s)))

/-- Entry `j` of the tables of axis `k`, friction first, takes 16 bits (R330). -/
def State.tabPut (s : State) (k j v : Nat) : State :=
  let a := ACE_TAB_SHADOW k (j / 4)
  s.setReg a (putBits (s.reg a) (16 * (j % 4) + 15) (16 * (j % 4)) v)

/-- BANK_WRITE (R330, R332, R333, R587). -/
def State.bankWrite (s : State) (l : List Byte) : DcpAns × State :=
  let k := byteAt l 0
  let area := byteAt l 1
  let first := leAt l 4 4
  let data := l.drop 8
  let unit := if area == 0 then 8 else 2
  let count := data.length / unit
  if data.length % unit != 0 then (dcpFail 0x103, s)
  else if decide (63 < k) || decide ((if area == 0 then 49 else 4096) < first + count) then (dcpFailAt 0x301 0 k, s)
  else if s.bankLocked k then (dcpFailAt 0x205 0 k, s)
  else (dcpOk, (List.range count).foldl (fun s i =>
    if area == 0 then s.setReg (ACE_COEF_SHADOW k (first + i)) (BitVec.ofNat 64 (leAt data (8 * i) 8))
    else s.tabPut k (4096 * (area - 1) + first + i) (leAt data (2 * i) 2)) s)

/-- BANK_WRITE. -/
def execBankWrite (slot : Fin 25) (s : State) : Host.Outcome State Fault Refusal :=
  .next (s.dcpDo slot 0x402 fun s r => s.needs 7 (s.bankWrite r.payload))

/-- BANK_APPLY (R331): the axis mask is written and APPLY set; the outcome of the swap ends the command. While
another APPLY is pending the unit refuses it. -/
def execBankApply (slot : Fin 25) (s : State) : Host.Outcome State Fault Refusal :=
  .next (s.dcpDo slot 0x403 fun s r =>
    s.needs 7 (if s.bit ACE_BANK_STAT_APPLY_PENDING then
        (if s.ace.applyReply == some slot.val then (.wait, s) else (dcpFail 0x305, s))
      else (.wait, (s.wr ACE_APPLY_MASK_VALUE (leAt r.payload 0 8)).bankApply (some slot.val))))

/-- BANK_COPY (R333). -/
def execBankCopy (slot : Fin 25) (s : State) : Host.Outcome State Fault Refusal :=
  .next (s.dcpDo slot 0x404 fun s r =>
    let k := byteAt r.payload 0
    s.needs 7 (if decide (63 < k) then (dcpFailAt 0x301 0 k, s)
      else if s.bit ACE_BANK_STAT_COPY_BUSY || (s.bit ACE_BANK_STAT_APPLY_PENDING && bitAt s.ace.mask k) then
        (dcpFailAt 0x205 0 k, s)
      else (dcpOk, (s.bankCopy k).2)))

/-! ## Group 0x05xx -/

/-- SAFE_PDU (R362): the PDU goes to the island, and its PARAM_ACK comes back. A PDU that the island does not answer
leaves the command without one (DEDUCED, log 66). -/
def execSafePdu (slot : Fin 25) (s : State) : Host.Outcome State Fault Refusal :=
  .next (s.dcpDo slot 0x500 fun s r =>
    s.needs 1 (match s.sfiParamPdu r.payload with
      | (some a, s) => (.done 0 a, s)
      | (none, s) => (dcpFail 0x209, s)))

/-- SAFE_VIEW: SFI_STAT to SFI_CNT, then SFI_AX0 to SFI_AX63. -/
def execSafeView (slot : Fin 25) (s : State) : Host.Outcome State Fault Refusal :=
  .next (s.dcpDo slot 0x501 fun s _ =>
    s.needs 1 (.done 0 (wordsBytes (((List.range 7).map fun i => s.reg (SFI_STAT + 8 * i))
      ++ (List.range 64).map fun k => s.reg (SFI_AXk k))), s))

/-! ## Frames at MP (R89, R360, R410) -/

/-- The relay entry that a received frame matches: own and partner address, VID and ingress port. -/
def State.relayOf (s : State) (f : EthFrame) : Option Nat :=
  (s.dcp.relay.find? fun e =>
    beAt e.2 4 6 == frSa f.bytes && beAt e.2 10 6 == frDa f.bytes && byteAt e.2 1 == f.ingress
      && leAt e.2 16 2 == (if tagCount f.bytes == 0 then 0 else beAt f.bytes 14 2 % 4096)).map fun e => e.1

/-- The timestamp of a frame that the MGP takes (R89). -/
def State.mpStamp (s : State) (f : EthFrame) : Word :=
  BitVec.ofNat 64 (if tsClass f.cls f.bytes then f.ts.getD 0 / 65536 else s.ltNs - 2100)

/-- MP_FRAME_RECEIVE (R89, R360, R410): the MGP takes the oldest frame at MP: a command frame, a safety frame that
its relay table names, or a frame for its stacks. What the MGP reads is the frame's timestamp: for the management and
best-effort classes LT − 2.1 µs, for the others that of the MAC, 0 where an internal port gave none. While the firmware
restarts it takes none (R529). -/
def execMpFrameReceive (s : State) : Host.Outcome State Fault Refusal :=
  match s.swc.mp with
  | [] => .next s
  | f :: rest =>
    if !s.domOn 2 || s.dcp.restarting then .next s
    else
      let s := ((s.setSwc { s.swc with mp := rest }).putReadData (s.mpStamp f))
      if isCommandFrame f then .next (s.frameCommand f)
      else if etherType f.bytes == 0x88B5 then
        match s.relayOf f with
        | none => .next s
        | some c => .next (s.sfiReceive c (f.bytes.drop (etOff f.bytes + 2)))
      else .next s

end Sys2Proof.Machine
end

