-- ==== Sys2Proof/Machine/DcpMnt.lean ====
section
/-! DEFINITION. Commands of groups 0x06xx to 0x08xx: spores, images, logs, self-tests, march tests, calibration, the
factory area (R216, R217, R411, R416, R417, R459 to R466, R515 to R519, R541 to R545, R576). -/

namespace Sys2Proof.Machine

/-! ## Group 0x06xx -/

/-- SPORE_LOAD (R216, R217): SRAM offset at 0, length at 4, engine mask at 8. `signed` is the outcome of checks 5 and
6 of R462, of which 1 and 2 answer BAD_PAYLOAD and the others SIGNATURE; `cut` says that the load fails after it has begun
writing. -/
def State.sporeCommand (s : State) (l : List Byte) (signed cut : Bool) : DcpAns × State :=
  let off := leAt l 0 4
  let len := leAt l 4 4
  let mask := leAt l 8 3
  let e := engineList mask
  if decide (0x2800000 < off + len) then (dcpFail 0x301, s)
  else match e.find? fun n => s.engState n != 0 with
    | some n => (dcpFailAt 0x205 0 n, s)
    | none =>
      if e.any fun n => !s.domOn (engDom n) then (dcpFail 0x203, s)
      else
        let (h, bad, s) := s.sramReadBytes true off len
        let c := s.sporeVerify h len signed
        if bad then (dcpFail 0x402, s)
        else if c != 0 then (dcpFailAt (if decide (c ≤ 2) then 0x104 else 0x306) c noIndex, s)
        else if e.length != sporeRooks h then (.done 0x104 (dcpDetail 8 0 noIndex), s)
        else if cut then (dcpFail 0x402, (s.sporeBlank mask).setBoot fun b =>
          { b with spores := b.spores.filter fun x => x.2.2 &&& mask == 0 })
        else (dcpOk, (s.sporeInstall h mask).setBoot fun b =>
          { b with spores := b.spores.filter (fun x => x.2.2 &&& mask == 0) ++ [(off, len, mask)] })

/-- SPORE_LOAD. -/
def execSporeLoad (slot : Fin 25) (signed cut : Bool) (s : State) : Host.Outcome State Fault Refusal :=
  .next (s.dcpDo slot 0x600 fun s r => s.sporeCommand r.payload signed cut)

/-- Bytes stored in the configuration MRAM. -/
def State.mramWrite (s : State) (a : Nat) (b : List Byte) : State := s.putMram (memPutBytes s.mram a b)

/-- The store of IMAGE_WRITE: the slot is no longer bootable, and the bytes go in unless one is uncorrectable. -/
def State.imageStore (s : State) (slot off src len : Nat) : DcpAns × State :=
  let r := s.sramReadBytes true src len
  let t := (r.2.2.setSlot slot 1).secShow
  if r.2.1 then (dcpFail 0x402, t) else (dcpOk, t.mramWrite (slot * 0x600000 + off) r.1)

/-- IMAGE_WRITE (R416): slot at 0, image offset at 4, SRAM offset at 8, length at 12. The first write marks the slot
not bootable; a store that fails leaves its contents as they were. -/
def State.imageWrite (s : State) (l : List Byte) : DcpAns × State :=
  let slot := leAt l 0 4
  let off := leAt l 4 4
  let src := leAt l 8 4
  let len := leAt l 12 4
  if decide (1 < slot) || decide (0x10000 < len) || decide (0x600000 < off + len) || decide (0x2800000 < src + len) then
    (dcpFail 0x301, s)
  else if slot == s.boot.active then (dcpFail 0x302, s)
  else if s.crp.mramStop then (dcpFail 0x308, s)
  else s.imageStore slot off src len

/-- IMAGE_WRITE. -/
def execImageWrite (slot : Fin 25) (s : State) : Host.Outcome State Fault Refusal :=
  .next (s.dcpDo slot 0x601 fun s r => s.imageWrite r.payload)

/-- IMAGE_COMMIT (R416, R462, R463): a slot that verifies becomes bootable and preferred. -/
def State.imageCommit (s : State) (slot : Nat) (signed : Bool) : DcpAns × State :=
  if decide (1 < slot) then (dcpFail 0x301, s)
  else
    let c := s.imageVerify (memBytes s.mram (slot * 0x600000) 512) signed
    if c != 0 then (dcpFailAt 0x306 c slot, s)
    else (dcpOk, ((s.setSlot slot 2).setBoot fun b => { b with preferred := slot }).secShow)

/-- IMAGE_COMMIT. -/
def execImageCommit (slot : Fin 25) (signed : Bool) (s : State) : Host.Outcome State Fault Refusal :=
  .next (s.dcpDo slot 0x602 fun s r => s.imageCommit (leAt r.payload 0 4) signed)

/-- 32 bytes of a slot: version at 0, state at 4, key of its signer at 5 (DESIGN CHOICE, log 68). -/
def State.slotInfo (s : State) (slot : Nat) : List Byte :=
  let h := memBytes s.mram (slot * 0x600000) 16
  let some1 := s.slotState slot != 0
  bytesLE 4 (if some1 then leAt h 8 4 else 0) ++ bytesLE 1 (s.slotState slot)
    ++ bytesLE 1 (if some1 then leAt h 7 1 else 0) ++ bytesLE 26 0

/-- IMAGE_INFO. -/
def execImageInfo (slot : Fin 25) (s : State) : Host.Outcome State Fault Refusal :=
  .next (s.dcpDo slot 0x603 fun s _ => (.done 0 (s.slotInfo 0 ++ s.slotInfo 1), s))

/-! ## Logs -/

/-- An event record (Table R541). -/
def EventRec.bytes (e : EventRec) : List Byte :=
  bytesLE 4 e.seq ++ bytesLE 4 e.start ++ bytesLE 8 e.time ++ bytesLE 2 e.code ++ bytesLE 1 e.unit ++ bytesLE 1 e.cls
    ++ bytesLE 1 e.mode ++ bytesLE 3 0 ++ bytesLE 8 e.detail

/-- The records from SEQ `first` on, oldest first; from the oldest held when `first` is older (R543). -/
def eventsFrom (l : List EventRec) (first : Nat) : List EventRec :=
  l.filter fun e => decide ((e.seq + 2 ^ 32 - first) % 2 ^ 32 < 2 ^ 31)

/-- EVENT_READ (R543). -/
def execEventRead (slot : Fin 25) (s : State) : Host.Outcome State Fault Refusal :=
  .next (s.dcpDo slot 0x700 fun s r =>
    let limit := min (leAt r.payload 4 4) (if slot.val == 24 then 1024 else 4096)
    let l := (eventsFrom s.evlog.reverse (leAt r.payload 0 4)).take (limit / 32)
    (.done 0 (l.flatMap EventRec.bytes), s))

/-- A journal record (Table R459). -/
def JournalRec.bytes (j : JournalRec) : List Byte :=
  bytesLE 4 j.start ++ bytesLE 1 j.step ++ bytesLE 1 j.way ++ bytesLE 1 j.result ++ [0] ++ bytesLE 4 j.time
    ++ bytesLE 4 j.detail

/-- JOURNAL_READ (R459): the current start and the one before it. -/
def execJournalRead (slot : Fin 25) (s : State) : Host.Outcome State Fault Refusal :=
  .next (s.dcpDo slot 0x701 fun s _ =>
    let mine := fun (j : JournalRec) => decide ((s.boot.startNo + 2 ^ 32 - j.start) % 2 ^ 32 < 2)
    (.done 0 ((s.boot.journal.reverse.filter mine).flatMap JournalRec.bytes), s))

/-! ## Self-tests and march tests -/

/-- The tests of Table R545, with the unit that logs a failure. -/
def bistUnit (code : Nat) : Option Nat :=
  match code with
  | 0x0001 => some uSEC
  | 0x0002 => some uSEC
  | 0x0003 => some uSEC
  | 0x0004 => some uMEM
  | 0x0005 => some uSWC
  | 0x0006 => some uPEA
  | 0x0101 => some uSWC
  | 0x0102 => some uPEA
  | 0x0103 => some uACE
  | 0x0104 => some uEPC
  | 0x0105 => some uCRP
  | _ => none

/-- The memories of every engine zeroed. -/
def State.rookMemWipe (s : State) : State :=
  s.putPmem (s.pmem.filter fun c => !((List.range 24).any fun n =>
      decide (ispaceAddr n 0 ≤ c.1) && decide (c.1 < dspaceAddr n 0 + 0x20000)))

/-- What a test leaves behind: the SWC buffer without its frames, the engine memories zeroed by the last element of
the march (DESIGN CHOICE, log 69). -/
def State.bistMark (s : State) (code : Nat) : State :=
  if code == 0x0101 then s.swRecover.putImage s.image
  else if code == 0x0102 then s.rookMemWipe
  else s

/-- BIST_RUN (R545): `fails` and `first` are the failure count and the first failing address that the test finds. -/
def execBistRun (slot : Fin 25) (fails : BitVec 32) (first : BitVec 64) (s : State) :
    Host.Outcome State Fault Refusal :=
  .next (s.dcpDo slot 0x702 fun s r =>
    let code := leAt r.payload 0 4
    match bistUnit code with
    | none => (.done 0x104 (dcpDetail 0 0 noIndex), s)
    | some u =>
      if decide (0x100 ≤ code) && s.mode != 11 then (dcpFail 0x203, s)
      else if code == 0x0102 && (List.range 24).any fun n => s.engState n != 0 then (dcpFail 0x205, s)
      else
        let s := s.bistMark code
        let bad := fails != 0
        let reply := bytesLE 2 (b2n bad) ++ bytesLE 2 code ++ bytesLE 4 fails.toNat
          ++ bytesLE 8 (if bad then first.toNat else 0)
        if bad then (.done 0x401 reply, s.logEvent 0x0800 u 2 (code + fails.toNat * 2 ^ 16)) else (.done 0 reply, s))

/-- What becomes of a bank in which the march finds failing pairs (R517, R518). -/
def State.marchRepair (s : State) (f : MarchBank) (transparent : Bool) : State :=
  let b := f.bank.val
  match f.pairs with
  | [] => s
  | [p] =>
    if s.mem.spareUsed.contains b || s.mem.repair.any (fun r => r.bank == b) then s.bankFail b
    else s.putMem { s.mem with
      repair := s.mem.repair ++ [⟨b, transparent, p⟩]
      spareUsed := if transparent then s.mem.spareUsed else b :: s.mem.spareUsed }
  | _ => s.bankFail b

/-- The progress register after a run. -/
def State.marchStat (s : State) (bank algo fails : Nat) (transparent : Bool) : State :=
  let s := (s.setReg MEM_MARCH_STAT 0).wr MEM_MARCH_STAT_BANK bank
  let s := (s.wr MEM_MARCH_STAT_ALGO algo).wrB MEM_MARCH_STAT_TRANSPARENT transparent
  (s.wr MEM_MARCH_STAT_SEGMENT (if transparent then 255 else 0)).wr MEM_MARCH_STAT_FAILS (satUnsigned 16 fails)

/-- MARCH_RUN (R515 to R517): byte 0 the first bank, 1 the last, 2 the algorithm, 3 the mode, 1 for destructive
(DESIGN CHOICE, log 70). `found` is what the run finds. -/
def State.marchRun (s : State) (l : List Byte) (found : List MarchBank) : DcpAns × State :=
  let lo := byteAt l 0
  let hi := byteAt l 1
  let destructive := byteAt l 3 == 1
  let banks := (List.range 80).filter fun b => decide (lo ≤ b) && decide (b ≤ hi)
  let found := found.filter fun f => banks.contains f.bank.val && decide (0 < f.cells)
  if decide (79 < hi) || decide (hi < lo) then (dcpFail 0x301, s)
  else if destructive && s.mode != 11 then (dcpFail 0x203, s)
  else match banks.find? fun b => s.bankState b != 1 || decide (76 ≤ b)
      || (!destructive && decide (b < 8) && s.cyclicMode) with
    | some b => (dcpFailAt 0x305 0 b, s)
    | none =>
      let s := if destructive then banks.foldl (fun s b => s.bankClear b) s else s
      let was := s.mem.repair.length
      let s := found.foldl (fun s f => s.marchRepair f !destructive) s
      let cells := sumNat (found.map fun f => f.cells)
      let s := s.marchStat hi (byteAt l 2) cells !destructive
      let head := found.head?
      let reply := bytesLE 2 (b2n (!found.isEmpty)) ++ bytesLE 2 found.length ++ bytesLE 4 cells
        ++ bytesLE 2 (match head with | none => 0 | some f => f.bank.val)
        ++ bytesLE 2 (match head with | none => 0 | some f => f.pairs.headD 0) ++ bytesLE 4 (s.mem.repair.length - was)
      (.done (if found.isEmpty then 0 else 0x401) reply, s)

/-- MARCH_RUN. -/
def execMarchRun (slot : Fin 25) (found : List MarchBank) (s : State) : Host.Outcome State Fault Refusal :=
  .next (s.dcpDo slot 0x703 fun s r => s.marchRun r.payload found)

/-- TEMP_READ (R576): `tj` is what the hottest sensor shows, in units of 0.125 °C. -/
def execTempRead (slot : Fin 25) (tj : BitVec 64) (s : State) : Host.Outcome State Fault Refusal :=
  .next (s.dcpDo slot 0x704 fun s _ => (.done 0 (bytesLE 8 tj.toNat), s))

/-! ## Group 0x08xx -/

/-- CAL_GET (R417): item at 0, index at 2, set at 3: 0 the value in use, 1 factory, 2 user. The reply ends with the
source, 1 factory or 2 user (DESIGN CHOICE, log 71). -/
def execCalGet (slot : Fin 25) (s : State) : Host.Outcome State Fault Refusal :=
  .next (s.dcpDo slot 0x800 fun s r =>
    let item := leAt r.payload 0 2
    let idx := byteAt r.payload 2
    let set := byteAt r.payload 3
    let user := s.userCal item idx
    if (calReg item idx).isNone || (set == 2 && user.isNone) then (dcpFailAt 0x304 0 idx, s)
    else
      let own := set != 1 && user.isSome
      let v := if own then user.getD 0 else factoryCal item idx
      (.done 0 (bytesLE 8 v ++ bytesLE 8 (if own then 2 else 1)), s))

/-- The lock of a calibration register (R417, R555). -/
def State.calLocked (s : State) (item : Nat) : Bool :=
  s.bit (cUCTL_LOCK uNTU) || (item == 1 && bitsOf (s.reg NTU_LT_TRIM) 63 63 == 1)

/-- CAL_SET (R417): item at 0, index at 2, value at 8. -/
def execCalSet (slot : Fin 25) (s : State) : Host.Outcome State Fault Refusal :=
  .next (s.dcpDo slot 0x801 fun s r =>
    let item := leAt r.payload 0 2
    let idx := byteAt r.payload 2
    let v := leAt r.payload 8 8
    s.needs 6 (
      if (calReg item idx).isNone || !calFits item v then (dcpFail 0x301, s)
      else if s.calLocked item then (dcpFail 0x305, s)
      else if s.crp.mramStop then (dcpFail 0x308, s)
      else
        let s := s.putDcp { s.dcp with cal := mapPut (fun _ => none) s.dcp.cal (256 * item + idx) (some v) }
        (dcpOk, s.calWrite item idx v)))

/-- Every user value is gone; the factory values are in use. -/
def State.calForget (s : State) : State :=
  calItems.foldl (fun s e => s.calWrite e.1 e.2 (factoryCal e.1 e.2)) (s.putDcp { s.dcp with cal := [] })

/-- CAL_CLEAR (R417). -/
def execCalClear (slot : Fin 25) (s : State) : Host.Outcome State Fault Refusal :=
  .next (s.dcpDo slot 0x802 fun s _ =>
    s.needs 6 (if s.crp.mramStop then (dcpFail 0x308, s)
      else (dcpOk, s.calForget)))

/-- The life cycle lets a block of the factory area be written (R466): every block in BLANK, the integrator section in
FACTORY; the revocation blocks in PROVISIONED and FIELD passed the mode check already. -/
def State.factoryMay (s : State) (off : Nat) : Bool :=
  if s.mode == 2 then s.boot.lifeCycle == 0 || (s.boot.lifeCycle == 1 && decide (0x80000 ≤ off))
  else decide (0x84000 ≤ off) && decide (off < 0x88000)

/-- FACTORY_WRITE (R417, R466): a whole block of 4 KiB at the area offset, with the data first and zeros after it
(DEDUCED, log 72). -/
def State.factoryWrite (s : State) (l : List Byte) : DcpAns × State :=
  let off := leAt l 0 4
  let block := off / 0x1000
  if off % 0x1000 != 0 || decide (0x100000 ≤ off) then (dcpFail 0x301, s)
  else if !s.factoryMay off then (dcpFail 0x208, s)
  else if s.boot.factoryWritten.contains block then (dcpFail 0x302, s)
  else if s.crp.mramStop then (dcpFail 0x308, s)
  else
    (dcpOk, ((s.mramWrite (0xF00000 + off) (l.drop 8)).setBoot
      fun b => { b with factoryWritten := block :: b.factoryWritten }).secShow)

/-- FACTORY_WRITE. -/
def execFactoryWrite (slot : Fin 25) (s : State) : Host.Outcome State Fault Refusal :=
  .next (s.dcpDo slot 0x803 fun s r => s.factoryWrite r.payload)

end Sys2Proof.Machine
end

