-- ==== Sys2Proof/Machine/RookAlu.lean ====
section
/-! DEFINITION. Rook instructions that compute a register (R163 to R166, R173): ALU, immediate, bit-field,
multiply and divide. The command is the issue of the instruction by engine `n` at its present address. -/

namespace Sys2Proof.Machine

/-- ADD (R163): rd = a + b modulo 2^64. -/
def execAdd (n : Fin 24) (rd rs1 rs2 : BitVec 5) (s : State) : Host.Outcome State Fault Refusal :=
  .next (s.rookAlu n rd.toNat 1 fun r =>
    let a := r.getW rs1.toNat
    let b := r.getW rs2.toNat
    (a + b, 0))

/-- SUB (R163): rd = a − b modulo 2^64. -/
def execSub (n : Fin 24) (rd rs1 rs2 : BitVec 5) (s : State) : Host.Outcome State Fault Refusal :=
  .next (s.rookAlu n rd.toNat 1 fun r =>
    let a := r.getW rs1.toNat
    let b := r.getW rs2.toNat
    (a - b, 0))

/-- AND (R163): rd = a & b. -/
def execAnd (n : Fin 24) (rd rs1 rs2 : BitVec 5) (s : State) : Host.Outcome State Fault Refusal :=
  .next (s.rookAlu n rd.toNat 1 fun r =>
    let a := r.getW rs1.toNat
    let b := r.getW rs2.toNat
    (a &&& b, 0))

/-- OR (R163): rd = a | b. -/
def execOr (n : Fin 24) (rd rs1 rs2 : BitVec 5) (s : State) : Host.Outcome State Fault Refusal :=
  .next (s.rookAlu n rd.toNat 1 fun r =>
    let a := r.getW rs1.toNat
    let b := r.getW rs2.toNat
    (a ||| b, 0))

/-- XOR (R163): rd = a ^ b. -/
def execXor (n : Fin 24) (rd rs1 rs2 : BitVec 5) (s : State) : Host.Outcome State Fault Refusal :=
  .next (s.rookAlu n rd.toNat 1 fun r =>
    let a := r.getW rs1.toNat
    let b := r.getW rs2.toNat
    (a ^^^ b, 0))

/-- ANDN (R163): rd = a & ~b. -/
def execAndn (n : Fin 24) (rd rs1 rs2 : BitVec 5) (s : State) : Host.Outcome State Fault Refusal :=
  .next (s.rookAlu n rd.toNat 1 fun r =>
    let a := r.getW rs1.toNat
    let b := r.getW rs2.toNat
    (a &&& ~~~b, 0))

/-- NEG (R163, R173): rd = −a; NEG of MIN gives MIN and OV. -/
def execNeg (n : Fin 24) (rd rs1 : BitVec 5) (s : State) : Host.Outcome State Fault Refusal :=
  .next (s.rookAlu n rd.toNat 1 fun r =>
    let a := r.getW rs1.toNat
    (-a, ovFlag (ovNeg a)))

/-- ADDS (R163, R173): saturating add, OV on saturation. -/
def execAdds (n : Fin 24) (rd rs1 rs2 : BitVec 5) (s : State) : Host.Outcome State Fault Refusal :=
  .next (s.rookAlu n rd.toNat 1 fun r =>
    let a := r.getW rs1.toNat
    let b := r.getW rs2.toNat
    (ofI (sat64 (a.toInt + b.toInt)), ovFlag (ovSat (a.toInt + b.toInt))))

/-- SUBS (R163, R173): saturating subtract, OV on saturation. -/
def execSubs (n : Fin 24) (rd rs1 rs2 : BitVec 5) (s : State) : Host.Outcome State Fault Refusal :=
  .next (s.rookAlu n rd.toNat 1 fun r =>
    let a := r.getW rs1.toNat
    let b := r.getW rs2.toNat
    (ofI (sat64 (a.toInt - b.toInt)), ovFlag (ovSat (a.toInt - b.toInt))))

/-- NEGS (R163, R173): saturating negate, OV on saturation. -/
def execNegs (n : Fin 24) (rd rs1 : BitVec 5) (s : State) : Host.Outcome State Fault Refusal :=
  .next (s.rookAlu n rd.toNat 1 fun r =>
    let a := r.getW rs1.toNat
    (ofI (sat64 (-a.toInt)), ovFlag (ovSat (-a.toInt))))

/-- MIN (R163): signed minimum. -/
def execMin (n : Fin 24) (rd rs1 rs2 : BitVec 5) (s : State) : Host.Outcome State Fault Refusal :=
  .next (s.rookAlu n rd.toNat 1 fun r =>
    let a := r.getW rs1.toNat
    let b := r.getW rs2.toNat
    (if b.toInt < a.toInt then b else a, 0))

/-- MAX (R163): signed maximum. -/
def execMax (n : Fin 24) (rd rs1 rs2 : BitVec 5) (s : State) : Host.Outcome State Fault Refusal :=
  .next (s.rookAlu n rd.toNat 1 fun r =>
    let a := r.getW rs1.toNat
    let b := r.getW rs2.toNat
    (if a.toInt < b.toInt then b else a, 0))

/-- MINU (R163): unsigned minimum. -/
def execMinu (n : Fin 24) (rd rs1 rs2 : BitVec 5) (s : State) : Host.Outcome State Fault Refusal :=
  .next (s.rookAlu n rd.toNat 1 fun r =>
    let a := r.getW rs1.toNat
    let b := r.getW rs2.toNat
    (if b.toNat < a.toNat then b else a, 0))

/-- MAXU (R163): unsigned maximum. -/
def execMaxu (n : Fin 24) (rd rs1 rs2 : BitVec 5) (s : State) : Host.Outcome State Fault Refusal :=
  .next (s.rookAlu n rd.toNat 1 fun r =>
    let a := r.getW rs1.toNat
    let b := r.getW rs2.toNat
    (if a.toNat < b.toNat then b else a, 0))

/-- SLT (R163): signed set-less-than. -/
def execSlt (n : Fin 24) (rd rs1 rs2 : BitVec 5) (s : State) : Host.Outcome State Fault Refusal :=
  .next (s.rookAlu n rd.toNat 1 fun r =>
    let a := r.getW rs1.toNat
    let b := r.getW rs2.toNat
    (ofB (decide (a.toInt < b.toInt)), 0))

/-- SLTU (R163): unsigned set-less-than. -/
def execSltu (n : Fin 24) (rd rs1 rs2 : BitVec 5) (s : State) : Host.Outcome State Fault Refusal :=
  .next (s.rookAlu n rd.toNat 1 fun r =>
    let a := r.getW rs1.toNat
    let b := r.getW rs2.toNat
    (ofB (decide (a.toNat < b.toNat)), 0))

/-- SEQ (R163): set-if-equal. -/
def execSeq (n : Fin 24) (rd rs1 rs2 : BitVec 5) (s : State) : Host.Outcome State Fault Refusal :=
  .next (s.rookAlu n rd.toNat 1 fun r =>
    let a := r.getW rs1.toNat
    let b := r.getW rs2.toNat
    (ofB (a == b), 0))

/-- SHL (R163, R173): logical left by b[7:0]. -/
def execShl (n : Fin 24) (rd rs1 rs2 : BitVec 5) (s : State) : Host.Outcome State Fault Refusal :=
  .next (s.rookAlu n rd.toNat 1 fun r =>
    let a := r.getW rs1.toNat
    let b := r.getW rs2.toNat
    (shl64 a (b.toNat % 256), 0))

/-- SHR (R163, R173): logical right by b[7:0]. -/
def execShr (n : Fin 24) (rd rs1 rs2 : BitVec 5) (s : State) : Host.Outcome State Fault Refusal :=
  .next (s.rookAlu n rd.toNat 1 fun r =>
    let a := r.getW rs1.toNat
    let b := r.getW rs2.toNat
    (shr64 a (b.toNat % 256), 0))

/-- SAR (R163, R173): arithmetic right by b[7:0]. -/
def execSar (n : Fin 24) (rd rs1 rs2 : BitVec 5) (s : State) : Host.Outcome State Fault Refusal :=
  .next (s.rookAlu n rd.toNat 1 fun r =>
    let a := r.getW rs1.toNat
    let b := r.getW rs2.toNat
    (sar64 a (b.toNat % 256), 0))

/-- ROL (R163, R173): rotate left by b[7:0] mod 64. -/
def execRol (n : Fin 24) (rd rs1 rs2 : BitVec 5) (s : State) : Host.Outcome State Fault Refusal :=
  .next (s.rookAlu n rd.toNat 1 fun r =>
    let a := r.getW rs1.toNat
    let b := r.getW rs2.toNat
    (rol64 a (b.toNat % 256), 0))

/-- ROR (R163, R173): rotate right by b[7:0] mod 64. -/
def execRor (n : Fin 24) (rd rs1 rs2 : BitVec 5) (s : State) : Host.Outcome State Fault Refusal :=
  .next (s.rookAlu n rd.toNat 1 fun r =>
    let a := r.getW rs1.toNat
    let b := r.getW rs2.toNat
    (ror64 a (b.toNat % 256), 0))

/-- CLZ (R163): leading zeros, 64 when a = 0. -/
def execClz (n : Fin 24) (rd rs1 : BitVec 5) (s : State) : Host.Outcome State Fault Refusal :=
  .next (s.rookAlu n rd.toNat 1 fun r =>
    let a := r.getW rs1.toNat
    (BitVec.ofNat 64 (clz64 a), 0))

/-- CTZ (R163): trailing zeros, 64 when a = 0. -/
def execCtz (n : Fin 24) (rd rs1 : BitVec 5) (s : State) : Host.Outcome State Fault Refusal :=
  .next (s.rookAlu n rd.toNat 1 fun r =>
    let a := r.getW rs1.toNat
    (BitVec.ofNat 64 (ctz64 a), 0))

/-- POPC (R163): number of 1 bits. -/
def execPopc (n : Fin 24) (rd rs1 : BitVec 5) (s : State) : Host.Outcome State Fault Refusal :=
  .next (s.rookAlu n rd.toNat 1 fun r =>
    let a := r.getW rs1.toNat
    (BitVec.ofNat 64 (popc64 a), 0))

/-- BSWAP (R163): byte order reversed. -/
def execBswap (n : Fin 24) (rd rs1 : BitVec 5) (s : State) : Host.Outcome State Fault Refusal :=
  .next (s.rookAlu n rd.toNat 1 fun r =>
    let a := r.getW rs1.toNat
    (bswap64 a, 0))

/-- ADDI (R164): rd = a + sext(imm15). -/
def execAddi (n : Fin 24) (rd rs1 : BitVec 5) (imm : BitVec 15) (s : State) :
    Host.Outcome State Fault Refusal :=
  .next (s.rookAlu n rd.toNat 1 fun r =>
    let a := r.getW rs1.toNat
    (a + imm15s imm, 0))

/-- ANDI (R164): rd = a & zext(imm15). -/
def execAndi (n : Fin 24) (rd rs1 : BitVec 5) (imm : BitVec 15) (s : State) :
    Host.Outcome State Fault Refusal :=
  .next (s.rookAlu n rd.toNat 1 fun r =>
    let a := r.getW rs1.toNat
    (a &&& imm15z imm, 0))

/-- ORI (R164): rd = a | zext(imm15). -/
def execOri (n : Fin 24) (rd rs1 : BitVec 5) (imm : BitVec 15) (s : State) :
    Host.Outcome State Fault Refusal :=
  .next (s.rookAlu n rd.toNat 1 fun r =>
    let a := r.getW rs1.toNat
    (a ||| imm15z imm, 0))

/-- XORI (R164): rd = a ^ zext(imm15). -/
def execXori (n : Fin 24) (rd rs1 : BitVec 5) (imm : BitVec 15) (s : State) :
    Host.Outcome State Fault Refusal :=
  .next (s.rookAlu n rd.toNat 1 fun r =>
    let a := r.getW rs1.toNat
    (a ^^^ imm15z imm, 0))

/-- SLTI (R164): signed compare with sext(imm15). -/
def execSlti (n : Fin 24) (rd rs1 : BitVec 5) (imm : BitVec 15) (s : State) :
    Host.Outcome State Fault Refusal :=
  .next (s.rookAlu n rd.toNat 1 fun r =>
    let a := r.getW rs1.toNat
    (ofB (decide (a.toInt < (imm15s imm).toInt)), 0))

/-- SLTUI (R164): unsigned compare with sext(imm15). -/
def execSltui (n : Fin 24) (rd rs1 : BitVec 5) (imm : BitVec 15) (s : State) :
    Host.Outcome State Fault Refusal :=
  .next (s.rookAlu n rd.toNat 1 fun r =>
    let a := r.getW rs1.toNat
    (ofB (decide (a.toNat < (imm15s imm).toNat)), 0))

/-- SHLI (R164, R173): logical left by count. -/
def execShli (n : Fin 24) (rd rs1 : BitVec 5) (count : BitVec 8) (s : State) :
    Host.Outcome State Fault Refusal :=
  .next (s.rookAlu n rd.toNat 1 fun r =>
    let a := r.getW rs1.toNat
    (shl64 a count.toNat, 0))

/-- SHRI (R164, R173): logical right by count. -/
def execShri (n : Fin 24) (rd rs1 : BitVec 5) (count : BitVec 8) (s : State) :
    Host.Outcome State Fault Refusal :=
  .next (s.rookAlu n rd.toNat 1 fun r =>
    let a := r.getW rs1.toNat
    (shr64 a count.toNat, 0))

/-- SARI (R164, R173): arithmetic right by count. -/
def execSari (n : Fin 24) (rd rs1 : BitVec 5) (count : BitVec 8) (s : State) :
    Host.Outcome State Fault Refusal :=
  .next (s.rookAlu n rd.toNat 1 fun r =>
    let a := r.getW rs1.toNat
    (sar64 a count.toNat, 0))

/-- RORI (R164, R173): rotate right by count mod 64. -/
def execRori (n : Fin 24) (rd rs1 : BitVec 5) (count : BitVec 8) (s : State) :
    Host.Outcome State Fault Refusal :=
  .next (s.rookAlu n rd.toNat 1 fun r =>
    let a := r.getW rs1.toNat
    (ror64 a count.toNat, 0))

/-- EXT (R164, R165): the field at POS, LEN bits, zero-extended. -/
def execExt (n : Fin 24) (rd rs1 : BitVec 5) (pos len1 : BitVec 6) (s : State) :
    Host.Outcome State Fault Refusal :=
  .next (s.rookAlu n rd.toNat 1 fun r =>
    let a := r.getW rs1.toNat
    (BitVec.ofNat 64 (extField a pos.toNat (len1.toNat + 1)), 0))

/-- EXTS (R164, R165): the field sign-extended from bit LEN − 1. -/
def execExts (n : Fin 24) (rd rs1 : BitVec 5) (pos len1 : BitVec 6) (s : State) :
    Host.Outcome State Fault Refusal :=
  .next (s.rookAlu n rd.toNat 1 fun r =>
    let a := r.getW rs1.toNat
    (ofI (signed (len1.toNat + 1) (extField a pos.toNat (len1.toNat + 1))), 0))

/-- INS (R164, R165): the low LEN bits of a at POS of rd, other bits kept. -/
def execIns (n : Fin 24) (rd rs1 : BitVec 5) (pos len1 : BitVec 6) (s : State) :
    Host.Outcome State Fault Refusal :=
  .next (s.rookAlu n rd.toNat 1 fun r =>
    let a := r.getW rs1.toNat
    (insField (r.getW rd.toNat) a pos.toNat (len1.toNat + 1), 0))

/-- MOVZ (R164): imm16 << (16 × HW). -/
def execMovz (n : Fin 24) (rd : BitVec 5) (hw : BitVec 2) (imm : BitVec 16) (s : State) :
    Host.Outcome State Fault Refusal :=
  .next (s.rookAlu n rd.toNat 1 fun _ =>
    (BitVec.ofNat 64 (imm.toNat * 2 ^ (16 * hw.toNat)), 0))

/-- MOVK (R164): one 16-bit part of rd replaced. -/
def execMovk (n : Fin 24) (rd : BitVec 5) (hw : BitVec 2) (imm : BitVec 16) (s : State) :
    Host.Outcome State Fault Refusal :=
  .next (s.rookAlu n rd.toNat 1 fun r =>
    (movkField (r.getW rd.toNat) hw.toNat imm.toNat, 0))

/-- MUL (R166): low 64 bits of a × b. -/
def execMul (n : Fin 24) (rd rs1 rs2 : BitVec 5) (s : State) : Host.Outcome State Fault Refusal :=
  .next (s.rookAlu n rd.toNat 3 fun r =>
    let a := r.getW rs1.toNat
    let b := r.getW rs2.toNat
    (mulLow a b, 0))

/-- MULH (R166): high 64 bits of the signed product. -/
def execMulh (n : Fin 24) (rd rs1 rs2 : BitVec 5) (s : State) : Host.Outcome State Fault Refusal :=
  .next (s.rookAlu n rd.toNat 3 fun r =>
    let a := r.getW rs1.toNat
    let b := r.getW rs2.toNat
    (mulHigh a b, 0))

/-- MULHU (R166): high 64 bits of the unsigned product. -/
def execMulhu (n : Fin 24) (rd rs1 rs2 : BitVec 5) (s : State) : Host.Outcome State Fault Refusal :=
  .next (s.rookAlu n rd.toNat 3 fun r =>
    let a := r.getW rs1.toNat
    let b := r.getW rs2.toNat
    (mulHighU a b, 0))

/-- DIV and DIVU (R166, R173): quotient and REM at distance 18. By 0 with DZT = 0: all ones and the
dividend, with DZ; with DZT = 1 a trap DZ that writes neither, and DZ sets 18 cycles after issue. -/
def State.rookDivide (s : State) (n rd rs1 rs2 : Nat) (sgn : Bool) : State :=
  s.rookIssue n fun s r =>
    let a := r.getW rs1
    let b := r.getW rs2
    if dzDiv b then
      if r.esrBit 3 then (s.setRook n (r.produceFlags flDZ 18)).rookTrap n 0x04 a
      else
        let r := ((r.produce rd 0xFFFFFFFFFFFFFFFF 18).produce 32 a 18).produceFlags flDZ 18
        s.setRook n r.next
    else
      let v := if sgn then divSigned a b else divUnsigned a b
      let r := ((r.produce rd v.1 18).produce 32 v.2 18).produceFlags (ovFlag (sgn && ovDiv a b)) 18
      s.setRook n r.next

/-- DIV (R166, R173). -/
def execDiv (n : Fin 24) (rd rs1 rs2 : BitVec 5) (s : State) : Host.Outcome State Fault Refusal :=
  .next (s.rookDivide n rd.toNat rs1.toNat rs2.toNat true)

/-- DIVU (R166, R173). -/
def execDivu (n : Fin 24) (rd rs1 rs2 : BitVec 5) (s : State) : Host.Outcome State Fault Refusal :=
  .next (s.rookDivide n rd.toNat rs1.toNat rs2.toNat false)

end Sys2Proof.Machine
end

