-- ==== Sys2Proof/Machine/Dispatch.lean ====
section
/-! DEFINITION. The meaning of every command: one arm for each constructor of `Instr`. -/

namespace Sys2Proof.Machine

def exec (i : Instr) (s : State) : Host.Outcome State Fault Refusal :=
  match i with
  | .cycleBoundary => Sys2Proof.Machine.execCycleBoundary s
  | .cbIn => Sys2Proof.Machine.execCbIn s
  | .rookIn => Sys2Proof.Machine.execRookIn s
  | .aceDisp => Sys2Proof.Machine.execAceDisp s
  | .aceDl => Sys2Proof.Machine.execAceDl s
  | .cbOut => Sys2Proof.Machine.execCbOut s
  | .ethTx => Sys2Proof.Machine.execEthTx s
  | .piSwap => Sys2Proof.Machine.execPiSwap s
  | .hostWdExpire p => Sys2Proof.Machine.execHostWdExpire p s
  | .hostNote => Sys2Proof.Machine.execHostNote s
  | .cycApply => Sys2Proof.Machine.execCycApply s
  | .cycRunWrite run => Sys2Proof.Machine.execCycRunWrite run s
  | .syncInEdge e => Sys2Proof.Machine.execSyncInEdge e s
  | .syncWindowClose => Sys2Proof.Machine.execSyncWindowClose s
  | .hostCommitWrite p => Sys2Proof.Machine.execHostCommitWrite p s
  | .hostCommitRegister p => Sys2Proof.Machine.execHostCommitRegister p s
  | .startupComplete => Sys2Proof.Machine.execStartupComplete s
  | .startupTimeout => Sys2Proof.Machine.execStartupTimeout s
  | .ltTrimWrite trim => Sys2Proof.Machine.execLtTrimWrite trim s
  | .tdMeasWrite x e => Sys2Proof.Machine.execTdMeasWrite x e s
  | .servoConsume x => Sys2Proof.Machine.execServoConsume x s
  | .tdHoldoverTimeout x => Sys2Proof.Machine.execTdHoldoverTimeout x s
  | .tdFreeTimeout x => Sys2Proof.Machine.execTdFreeTimeout x s
  | .tdHold x => Sys2Proof.Machine.execTdHold x s
  | .castlingGo => Sys2Proof.Machine.execCastlingGo s
  | .castlingDone => Sys2Proof.Machine.execCastlingDone s
  | .snapTake => Sys2Proof.Machine.execSnapTake s
  | .txtsPop p => Sys2Proof.Machine.execTxtsPop p s
  | .syncOutAssert => Sys2Proof.Machine.execSyncOutAssert s
  | .syncOutDeassert => Sys2Proof.Machine.execSyncOutDeassert s
  | .ppsAssert => Sys2Proof.Machine.execPpsAssert s
  | .ppsDeassert => Sys2Proof.Machine.execPpsDeassert s
  | .portEnable p => Sys2Proof.Machine.execPortEnable p s
  | .portDisable p => Sys2Proof.Machine.execPortDisable p s
  | .portStopDone p => Sys2Proof.Machine.execPortStopDone p s
  | .linkUp p => Sys2Proof.Machine.execLinkUp p s
  | .linkDown p => Sys2Proof.Machine.execLinkDown p s
  | .speedStep p => Sys2Proof.Machine.execSpeedStep p s
  | .macFrameReceive p frags fault raw2 => Sys2Proof.Machine.execMacFrameReceive p frags fault raw2 s
  | .pauseExpire p => Sys2Proof.Machine.execPauseExpire p s
  | .txUnderrun u => Sys2Proof.Machine.execTxUnderrun u s
  | .epcCntRead p => Sys2Proof.Machine.execEpcCntRead p s
  | .preemptVerifyDone p => Sys2Proof.Machine.execPreemptVerifyDone p s
  | .swcFrameIngress => Sys2Proof.Machine.execSwcFrameIngress s
  | .agingSweep => Sys2Proof.Machine.execAgingSweep s
  | .egressFrameStart p corr bad => Sys2Proof.Machine.execEgressFrameStart p corr bad s
  | .macFrameTxEnd p raw2 => Sys2Proof.Machine.execMacFrameTxEnd p raw2 s
  | .gclEntryAdvance p => Sys2Proof.Machine.execGclEntryAdvance p s
  | .streamGateAdvance g => Sys2Proof.Machine.execStreamGateAdvance g s
  | .gateStarve p c => Sys2Proof.Machine.execGateStarve p c s
  | .updOp table op index => Sys2Proof.Machine.execUpdOp table op index s
  | .updRead table index => Sys2Proof.Machine.execUpdRead table index s
  | .swcCommit => Sys2Proof.Machine.execSwcCommit s
  | .commitHoldRelease => Sys2Proof.Machine.execCommitHoldRelease s
  | .swcAbort => Sys2Proof.Machine.execSwcAbort s
  | .gclApply p => Sys2Proof.Machine.execGclApply p s
  | .mirConsWrite count => Sys2Proof.Machine.execMirConsWrite count s
  | .freeListAudit mismatch => Sys2Proof.Machine.execFreeListAudit mismatch s
  | .swcRecovery => Sys2Proof.Machine.execSwcRecovery s
  | .add n rd rs1 rs2 => Sys2Proof.Machine.execAdd n rd rs1 rs2 s
  | .sub n rd rs1 rs2 => Sys2Proof.Machine.execSub n rd rs1 rs2 s
  | .and n rd rs1 rs2 => Sys2Proof.Machine.execAnd n rd rs1 rs2 s
  | .or n rd rs1 rs2 => Sys2Proof.Machine.execOr n rd rs1 rs2 s
  | .xor n rd rs1 rs2 => Sys2Proof.Machine.execXor n rd rs1 rs2 s
  | .andn n rd rs1 rs2 => Sys2Proof.Machine.execAndn n rd rs1 rs2 s
  | .neg n rd rs1 => Sys2Proof.Machine.execNeg n rd rs1 s
  | .adds n rd rs1 rs2 => Sys2Proof.Machine.execAdds n rd rs1 rs2 s
  | .subs n rd rs1 rs2 => Sys2Proof.Machine.execSubs n rd rs1 rs2 s
  | .negs n rd rs1 => Sys2Proof.Machine.execNegs n rd rs1 s
  | .min n rd rs1 rs2 => Sys2Proof.Machine.execMin n rd rs1 rs2 s
  | .max n rd rs1 rs2 => Sys2Proof.Machine.execMax n rd rs1 rs2 s
  | .minu n rd rs1 rs2 => Sys2Proof.Machine.execMinu n rd rs1 rs2 s
  | .maxu n rd rs1 rs2 => Sys2Proof.Machine.execMaxu n rd rs1 rs2 s
  | .slt n rd rs1 rs2 => Sys2Proof.Machine.execSlt n rd rs1 rs2 s
  | .sltu n rd rs1 rs2 => Sys2Proof.Machine.execSltu n rd rs1 rs2 s
  | .seq n rd rs1 rs2 => Sys2Proof.Machine.execSeq n rd rs1 rs2 s
  | .shl n rd rs1 rs2 => Sys2Proof.Machine.execShl n rd rs1 rs2 s
  | .shr n rd rs1 rs2 => Sys2Proof.Machine.execShr n rd rs1 rs2 s
  | .sar n rd rs1 rs2 => Sys2Proof.Machine.execSar n rd rs1 rs2 s
  | .rol n rd rs1 rs2 => Sys2Proof.Machine.execRol n rd rs1 rs2 s
  | .ror n rd rs1 rs2 => Sys2Proof.Machine.execRor n rd rs1 rs2 s
  | .clz n rd rs1 => Sys2Proof.Machine.execClz n rd rs1 s
  | .ctz n rd rs1 => Sys2Proof.Machine.execCtz n rd rs1 s
  | .popc n rd rs1 => Sys2Proof.Machine.execPopc n rd rs1 s
  | .bswap n rd rs1 => Sys2Proof.Machine.execBswap n rd rs1 s
  | .addi n rd rs1 imm => Sys2Proof.Machine.execAddi n rd rs1 imm s
  | .andi n rd rs1 imm => Sys2Proof.Machine.execAndi n rd rs1 imm s
  | .ori n rd rs1 imm => Sys2Proof.Machine.execOri n rd rs1 imm s
  | .xori n rd rs1 imm => Sys2Proof.Machine.execXori n rd rs1 imm s
  | .slti n rd rs1 imm => Sys2Proof.Machine.execSlti n rd rs1 imm s
  | .sltui n rd rs1 imm => Sys2Proof.Machine.execSltui n rd rs1 imm s
  | .shli n rd rs1 count => Sys2Proof.Machine.execShli n rd rs1 count s
  | .shri n rd rs1 count => Sys2Proof.Machine.execShri n rd rs1 count s
  | .sari n rd rs1 count => Sys2Proof.Machine.execSari n rd rs1 count s
  | .rori n rd rs1 count => Sys2Proof.Machine.execRori n rd rs1 count s
  | .ext n rd rs1 pos len1 => Sys2Proof.Machine.execExt n rd rs1 pos len1 s
  | .exts n rd rs1 pos len1 => Sys2Proof.Machine.execExts n rd rs1 pos len1 s
  | .ins n rd rs1 pos len1 => Sys2Proof.Machine.execIns n rd rs1 pos len1 s
  | .movz n rd hw imm => Sys2Proof.Machine.execMovz n rd hw imm s
  | .movk n rd hw imm => Sys2Proof.Machine.execMovk n rd hw imm s
  | .mul n rd rs1 rs2 => Sys2Proof.Machine.execMul n rd rs1 rs2 s
  | .mulh n rd rs1 rs2 => Sys2Proof.Machine.execMulh n rd rs1 rs2 s
  | .mulhu n rd rs1 rs2 => Sys2Proof.Machine.execMulhu n rd rs1 rs2 s
  | .div n rd rs1 rs2 => Sys2Proof.Machine.execDiv n rd rs1 rs2 s
  | .divu n rd rs1 rs2 => Sys2Proof.Machine.execDivu n rd rs1 rs2 s
  | .ldb n rd rs1 imm => Sys2Proof.Machine.execLdb n rd rs1 imm s
  | .ldh n rd rs1 imm => Sys2Proof.Machine.execLdh n rd rs1 imm s
  | .ldw n rd rs1 imm => Sys2Proof.Machine.execLdw n rd rs1 imm s
  | .ldd n rd rs1 imm => Sys2Proof.Machine.execLdd n rd rs1 imm s
  | .ldbs n rd rs1 imm => Sys2Proof.Machine.execLdbs n rd rs1 imm s
  | .ldhs n rd rs1 imm => Sys2Proof.Machine.execLdhs n rd rs1 imm s
  | .ldws n rd rs1 imm => Sys2Proof.Machine.execLdws n rd rs1 imm s
  | .stb n rs2 rs1 imm => Sys2Proof.Machine.execStb n rs2 rs1 imm s
  | .sth n rs2 rs1 imm => Sys2Proof.Machine.execSth n rs2 rs1 imm s
  | .stw n rs2 rs1 imm => Sys2Proof.Machine.execStw n rs2 rs1 imm s
  | .std n rs2 rs1 imm => Sys2Proof.Machine.execStd n rs2 rs1 imm s
  | .ioIn n rd rs1 imm => Sys2Proof.Machine.execIoIn n rd rs1 imm s
  | .ioOut n rs2 rs1 imm => Sys2Proof.Machine.execIoOut n rs2 rs1 imm s
  | .wait n rd imm => Sys2Proof.Machine.execWait n rd imm s
  | .waitWake n cycles => Sys2Proof.Machine.execWaitWake n cycles s
  | .beq n rs1 rs2 off => Sys2Proof.Machine.execBeq n rs1 rs2 off s
  | .bne n rs1 rs2 off => Sys2Proof.Machine.execBne n rs1 rs2 off s
  | .blt n rs1 rs2 off => Sys2Proof.Machine.execBlt n rs1 rs2 off s
  | .bge n rs1 rs2 off => Sys2Proof.Machine.execBge n rs1 rs2 off s
  | .bltu n rs1 rs2 off => Sys2Proof.Machine.execBltu n rs1 rs2 off s
  | .bgeu n rs1 rs2 off => Sys2Proof.Machine.execBgeu n rs1 rs2 off s
  | .jmp n off => Sys2Proof.Machine.execJmp n off s
  | .call n off => Sys2Proof.Machine.execCall n off s
  | .jr n rs1 => Sys2Proof.Machine.execJr n rs1 s
  | .callr n rs1 => Sys2Proof.Machine.execCallr n rs1 s
  | .ret n => Sys2Proof.Machine.execRet n s
  | .mfs n rd sr => Sys2Proof.Machine.execMfs n rd sr s
  | .mts n rs1 sr => Sys2Proof.Machine.execMts n rs1 sr s
  | .spec n => Sys2Proof.Machine.execSpec n s
  | .brk n => Sys2Proof.Machine.execBrk n s
  | .svc n code => Sys2Proof.Machine.execSvc n code s
  | .rte n => Sys2Proof.Machine.execRte n s
  | .halt n => Sys2Proof.Machine.execHalt n s
  | .pipelineWriteReady n => Sys2Proof.Machine.execPipelineWriteReady n s
  | .engineEnable n => Sys2Proof.Machine.execEngineEnable n s
  | .engineStartDone n => Sys2Proof.Machine.execEngineStartDone n s
  | .engineDisable n => Sys2Proof.Machine.execEngineDisable n s
  | .engineStopDone n => Sys2Proof.Machine.execEngineStopDone n s
  | .epDispatch k => Sys2Proof.Machine.execEpDispatch k s
  | .rxRelease n => Sys2Proof.Machine.execRxRelease n s
  | .evClr n mask => Sys2Proof.Machine.execEvClr n mask s
  | .rookTimerExpire n => Sys2Proof.Machine.execRookTimerExpire n s
  | .pcrcInitWrite n v => Sys2Proof.Machine.execPcrcInitWrite n v s
  | .pcrcFeed n v => Sys2Proof.Machine.execPcrcFeed n v s
  | .pcrcFeedb n v => Sys2Proof.Machine.execPcrcFeedb n v s
  | .frameVerdict n v => Sys2Proof.Machine.execFrameVerdict n v s
  | .drainLand n => Sys2Proof.Machine.execDrainLand n s
  | .txGo n b cmd => Sys2Proof.Machine.execTxGo n b cmd s
  | .txBufferDone n b => Sys2Proof.Machine.execTxBufferDone n b s
  | .cbSegEnable g => Sys2Proof.Machine.execCbSegEnable g s
  | .cbSegDisable g => Sys2Proof.Machine.execCbSegDisable g s
  | .cbSegStopDone g => Sys2Proof.Machine.execCbSegStopDone g s
  | .cbListenExpire g => Sys2Proof.Machine.execCbListenExpire g s
  | .cbForeignMaster g f => Sys2Proof.Machine.execCbForeignMaster g f s
  | .cbBackupTakeover g => Sys2Proof.Machine.execCbBackupTakeover g s
  | .cbEchoReceive g v hop ns => Sys2Proof.Machine.execCbEchoReceive g v hop ns s
  | .cbEchoTimeout g signal ns => Sys2Proof.Machine.execCbEchoTimeout g signal ns s
  | .cbBackoffExpire g => Sys2Proof.Machine.execCbBackoffExpire g s
  | .cbEnumRspReceive g v id hop kind caps uid rx2 => Sys2Proof.Machine.execCbEnumRspReceive g v id hop kind caps uid rx2 s
  | .cbEnumWindowEnd g => Sys2Proof.Machine.execCbEnumWindowEnd g s
  | .cbConfAckReceive g v id result sgen => Sys2Proof.Machine.execCbConfAckReceive g v id result sgen s
  | .cbConfAckTimeout g => Sys2Proof.Machine.execCbConfAckTimeout g s
  | .cbSyncEntry g => Sys2Proof.Machine.execCbSyncEntry g s
  | .cbReplyReceive g e v dev2 nodeErr safe bytes clashes => Sys2Proof.Machine.execCbReplyReceive g e v dev2 nodeErr safe bytes clashes s
  | .cbSlotEnd g e => Sys2Proof.Machine.execCbSlotEnd g e s
  | .cbAreqSlot g e => Sys2Proof.Machine.execCbAreqSlot g e s
  | .cbArspReceive g e v dev2 bytes clashes => Sys2Proof.Machine.execCbArspReceive g e v dev2 bytes clashes s
  | .cbAreqTimeout g node => Sys2Proof.Machine.execCbAreqTimeout g node s
  | .cbBabble g => Sys2Proof.Machine.execCbBabble g s
  | .cbSchedApply => Sys2Proof.Machine.execCbSchedApply s
  | .canEnable n => Sys2Proof.Machine.execCanEnable n s
  | .canBusIntegrated n => Sys2Proof.Machine.execCanBusIntegrated n s
  | .canDisable n => Sys2Proof.Machine.execCanDisable n s
  | .canStopDone n => Sys2Proof.Machine.execCanStopDone n s
  | .canTxqPush who n w2 => Sys2Proof.Machine.execCanTxqPush who n w2 s
  | .canCancel n tag mask => Sys2Proof.Machine.execCanCancel n tag mask s
  | .canAttemptStart n => Sys2Proof.Machine.execCanAttemptStart n s
  | .canAttemptEnd n how => Sys2Proof.Machine.execCanAttemptEnd n how s
  | .canCyclicTrigger n k => Sys2Proof.Machine.execCanCyclicTrigger n k s
  | .canFrameRx n f age => Sys2Proof.Machine.execCanFrameRx n f age s
  | .canFilterApply n => Sys2Proof.Machine.execCanFilterApply n s
  | .canFilterSwitch n => Sys2Proof.Machine.execCanFilterSwitch n s
  | .canRecReq n => Sys2Proof.Machine.execCanRecReq n s
  | .canRecoveryDone n => Sys2Proof.Machine.execCanRecoveryDone n s
  | .pawnEnable n => Sys2Proof.Machine.execPawnEnable n s
  | .pawnStartDone n => Sys2Proof.Machine.execPawnStartDone n s
  | .pawnDisable n => Sys2Proof.Machine.execPawnDisable n s
  | .pawnStopDone n => Sys2Proof.Machine.execPawnStopDone n s
  | .groupGo g mask => Sys2Proof.Machine.execGroupGo g mask s
  | .groupDivrst g mask => Sys2Proof.Machine.execGroupDivrst g mask s
  | .pinsWrite n pads tgt mask => Sys2Proof.Machine.execPinsWrite n pads tgt mask s
  | .pinsSet n pads tgt mask => Sys2Proof.Machine.execPinsSet n pads tgt mask s
  | .pinsClear n pads tgt mask => Sys2Proof.Machine.execPinsClear n pads tgt mask s
  | .pinsToggle n pads tgt mask => Sys2Proof.Machine.execPinsToggle n pads tgt mask s
  | .shift n pads dirn oen ien obit ibit => Sys2Proof.Machine.execShift n pads dirn oen ien obit ibit s
  | .pawnWait n pads cond pol arg => Sys2Proof.Machine.execPawnWait n pads cond pol arg s
  | .ldi n pads dst byte imm => Sys2Proof.Machine.execLdi n pads dst byte imm s
  | .mov n pads dst src xf => Sys2Proof.Machine.execMov n pads dst src xf s
  | .fifoPull n pads => Sys2Proof.Machine.execFifoPull n pads s
  | .fifoPush n pads => Sys2Proof.Machine.execFifoPush n pads s
  | .pawnJmp n pads cond target => Sys2Proof.Machine.execPawnJmp n pads cond target s
  | .djnz n pads reg target => Sys2Proof.Machine.execDjnz n pads reg target s
  | .flagSet n pads idx => Sys2Proof.Machine.execFlagSet n pads idx s
  | .flagClear n pads idx => Sys2Proof.Machine.execFlagClear n pads idx s
  | .flagNote n pads => Sys2Proof.Machine.execFlagNote n pads s
  | .pawnUndefined n pads => Sys2Proof.Machine.execPawnUndefined n pads s
  | .progArm n => Sys2Proof.Machine.execProgArm n s
  | .swapNow n => Sys2Proof.Machine.execSwapNow n s
  | .txfPush n data => Sys2Proof.Machine.execTxfPush n data s
  | .rxfPop n => Sys2Proof.Machine.execRxfPop n s
  | .piaFlagSetWrite flags => Sys2Proof.Machine.execPiaFlagSetWrite flags s
  | .piaFlagClrWrite flags => Sys2Proof.Machine.execPiaFlagClrWrite flags s
  | .outputLinkTrigger n => Sys2Proof.Machine.execOutputLinkTrigger n s
  | .aceDeadline k => Sys2Proof.Machine.execAceDeadline k s
  | .aceDispatch lane ecc => Sys2Proof.Machine.execAceDispatch lane ecc s
  | .aceResultLand k => Sys2Proof.Machine.execAceResultLand k s
  | .aceBankApply => Sys2Proof.Machine.execAceBankApply s
  | .aceApplyCheckDone => Sys2Proof.Machine.execAceApplyCheckDone s
  | .aceCopy axis => Sys2Proof.Machine.execAceCopy axis s
  | .aceCopyDone => Sys2Proof.Machine.execAceCopyDone s
  | .sfiTickStart raw readback => Sys2Proof.Machine.execSfiTickStart raw readback s
  | .sfiOutputSwitch => Sys2Proof.Machine.execSfiOutputSwitch s
  | .sfiTickOverrun => Sys2Proof.Machine.execSfiTickOverrun s
  | .sfiFaultDetect e => Sys2Proof.Machine.execSfiFaultDetect e s
  | .sfiPeriodicSelftest pass => Sys2Proof.Machine.execSfiPeriodicSelftest pass s
  | .outTestPulse q b readback inp => Sys2Proof.Machine.execOutTestPulse q b readback inp s
  | .dslWatchdogExpire c => Sys2Proof.Machine.execDslWatchdogExpire c s
  | .stoAckTimeout k => Sys2Proof.Machine.execStoAckTimeout k s
  | .ss1TimeExpire k => Sys2Proof.Machine.execSs1TimeExpire k s
  | .sbcDelayExpire k => Sys2Proof.Machine.execSbcDelayExpire k s
  | .hostAccess p bar2 write a n bytes pins => Sys2Proof.Machine.execHostAccess p bar2 write a n bytes pins s
  | .memWrite h a words => Sys2Proof.Machine.execMemWrite h a words s
  | .memRead h a n => Sys2Proof.Machine.execMemRead h a n s
  | .regWrite h a v pins => Sys2Proof.Machine.execRegWrite h a v pins s
  | .regRead h a => Sys2Proof.Machine.execRegRead h a s
  | .result h => Sys2Proof.Machine.execResult h s
  | .pcieLinkReset => Sys2Proof.Machine.execPcieLinkReset s
  | .functionLevelReset p => Sys2Proof.Machine.execFunctionLevelReset p s
  | .hicSliceWrite p off len => Sys2Proof.Machine.execHicSliceWrite p off len s
  | .hpFrameDeliver descs => Sys2Proof.Machine.execHpFrameDeliver descs s
  | .hicTxPost p tail descs => Sys2Proof.Machine.execHicTxPost p tail descs s
  | .hicTxComplete p => Sys2Proof.Machine.execHicTxComplete p s
  | .hicPrstWrite p => Sys2Proof.Machine.execHicPrstWrite p s
  | .dcpSqDoorbell p q tail => Sys2Proof.Machine.execDcpSqDoorbell p q tail s
  | .dcpFetch p q entry payload entryBad payBad => Sys2Proof.Machine.execDcpFetch p q entry payload entryBad payBad s
  | .dcpStartTimeout p q entry => Sys2Proof.Machine.execDcpStartTimeout p q entry s
  | .dcpCompletion slot => Sys2Proof.Machine.execDcpCompletion slot s
  | .dcpFrameCommand => Sys2Proof.Machine.execDcpFrameCommand s
  | .nop slot => Sys2Proof.Machine.execNop slot s
  | .identify slot => Sys2Proof.Machine.execIdentify slot s
  | .deviceReset slot => Sys2Proof.Machine.execDeviceReset slot s
  | .deviceResetAssert => Sys2Proof.Machine.execDeviceResetAssert s
  | .partitionReset slot => Sys2Proof.Machine.execPartitionReset slot s
  | .restoreFactory slot => Sys2Proof.Machine.execRestoreFactory slot s
  | .lifecycleAdvance slot => Sys2Proof.Machine.execLifecycleAdvance slot s
  | .modeGet slot => Sys2Proof.Machine.execModeGet slot s
  | .modeSet slot => Sys2Proof.Machine.execModeSet slot s
  | .modeCfgSet slot => Sys2Proof.Machine.execModeCfgSet slot s
  | .connSet slot => Sys2Proof.Machine.execConnSet slot s
  | .connClear slot => Sys2Proof.Machine.execConnClear slot s
  | .connGet slot => Sys2Proof.Machine.execConnGet slot s
  | .safevalSet slot => Sys2Proof.Machine.execSafevalSet slot s
  | .grant slot => Sys2Proof.Machine.execGrant slot s
  | .revoke slot => Sys2Proof.Machine.execRevoke slot s
  | .sliceSet slot => Sys2Proof.Machine.execSliceSet slot s
  | .cfgStore slot => Sys2Proof.Machine.execCfgStore slot s
  | .cfgCheck slot => Sys2Proof.Machine.execCfgCheck slot s
  | .swcLoad slot => Sys2Proof.Machine.execSwcLoad slot s
  | .rookSetup slot => Sys2Proof.Machine.execRookSetup slot s
  | .cbAreq slot => Sys2Proof.Machine.execCbAreq slot s
  | .netAcyc slot answer => Sys2Proof.Machine.execNetAcyc slot answer s
  | .ptpSet slot => Sys2Proof.Machine.execPtpSet slot s
  | .relaySet slot => Sys2Proof.Machine.execRelaySet slot s
  | .netStatus slot => Sys2Proof.Machine.execNetStatus slot s
  | .axisSet slot => Sys2Proof.Machine.execAxisSet slot s
  | .axisGet slot => Sys2Proof.Machine.execAxisGet slot s
  | .bankWrite slot => Sys2Proof.Machine.execBankWrite slot s
  | .bankApply slot => Sys2Proof.Machine.execBankApply slot s
  | .bankCopy slot => Sys2Proof.Machine.execBankCopy slot s
  | .safePdu slot => Sys2Proof.Machine.execSafePdu slot s
  | .safeView slot => Sys2Proof.Machine.execSafeView slot s
  | .sporeLoad slot signed cut => Sys2Proof.Machine.execSporeLoad slot signed cut s
  | .imageWrite slot => Sys2Proof.Machine.execImageWrite slot s
  | .imageCommit slot signed => Sys2Proof.Machine.execImageCommit slot signed s
  | .imageInfo slot => Sys2Proof.Machine.execImageInfo slot s
  | .eventRead slot => Sys2Proof.Machine.execEventRead slot s
  | .journalRead slot => Sys2Proof.Machine.execJournalRead slot s
  | .bistRun slot fails first => Sys2Proof.Machine.execBistRun slot fails first s
  | .marchRun slot found => Sys2Proof.Machine.execMarchRun slot found s
  | .tempRead slot tj => Sys2Proof.Machine.execTempRead slot tj s
  | .calGet slot => Sys2Proof.Machine.execCalGet slot s
  | .calSet slot => Sys2Proof.Machine.execCalSet slot s
  | .calClear slot => Sys2Proof.Machine.execCalClear slot s
  | .factoryWrite slot => Sys2Proof.Machine.execFactoryWrite slot s
  | .mgpWatchdogExpire => Sys2Proof.Machine.execMgpWatchdogExpire s
  | .mgpRestartDone => Sys2Proof.Machine.execMgpRestartDone s
  | .mbPost who m len => Sys2Proof.Machine.execMbPost who m len s
  | .mbAck who m epoch seq code => Sys2Proof.Machine.execMbAck who m epoch seq code s
  | .mbTimeout m => Sys2Proof.Machine.execMbTimeout m s
  | .semTake who n => Sys2Proof.Machine.execSemTake who n s
  | .semRelease who n => Sys2Proof.Machine.execSemRelease who n s
  | .pqWr who k data vb commit => Sys2Proof.Machine.execPqWr who k data vb commit s
  | .pqCommit who k => Sys2Proof.Machine.execPqCommit who k s
  | .pqRewind who k => Sys2Proof.Machine.execPqRewind who k s
  | .pqFlush who k => Sys2Proof.Machine.execPqFlush who k s
  | .pqRd0Pop who k => Sys2Proof.Machine.execPqRd0Pop who k s
  | .pqEnable k => Sys2Proof.Machine.execPqEnable k s
  | .pqDisable k => Sys2Proof.Machine.execPqDisable k s
  | .pqStopDone k => Sys2Proof.Machine.execPqStopDone k s
  | .porNAssert => Sys2Proof.Machine.execPorNAssert s
  | .porNRelease rose => Sys2Proof.Machine.execPorNRelease rose s
  | .sysrstNAssert => Sys2Proof.Machine.execSysrstNAssert s
  | .sysrstNRelease => Sys2Proof.Machine.execSysrstNRelease s
  | .rstStuck => Sys2Proof.Machine.execRstStuck s
  | .sysrstUnmask => Sys2Proof.Machine.execSysrstUnmask s
  | .aonPowerLoss => Sys2Proof.Machine.execAonPowerLoss s
  | .bootStart out hang => Sys2Proof.Machine.execBootStart out hang s
  | .bootStepTimeout out hang => Sys2Proof.Machine.execBootStepTimeout out hang s
  | .bootWatchdogExpire => Sys2Proof.Machine.execBootWatchdogExpire s
  | .statusFrameToggle => Sys2Proof.Machine.execStatusFrameToggle s
  | .tamperPin => Sys2Proof.Machine.execTamperPin s
  | .tamperMesh => Sys2Proof.Machine.execTamperMesh s
  | .jtagToken kind valid => Sys2Proof.Machine.execJtagToken kind valid s
  | .vaultWipe p => Sys2Proof.Machine.execVaultWipe p s
  | .vaultWipeDone => Sys2Proof.Machine.execVaultWipeDone s
  | .clockMonitorWindow c0 c1 c2 c3 c4 c5 locked => Sys2Proof.Machine.execClockMonitorWindow c0 c1 c2 c3 c4 c5 locked s
  | .pllRelockAttempt ok => Sys2Proof.Machine.execPllRelockAttempt ok s
  | .domainPowerUpDone d => Sys2Proof.Machine.execDomainPowerUpDone d s
  | .domainPowerDownDone d => Sys2Proof.Machine.execDomainPowerDownDone d s
  | .domainPowerFail d f => Sys2Proof.Machine.execDomainPowerFail d f s
  | .wakeTimerExpire => Sys2Proof.Machine.execWakeTimerExpire s
  | .wakeEvent mask pins ms => Sys2Proof.Machine.execWakeEvent mask pins ms s
  | .bankTargetWrite b target => Sys2Proof.Machine.execBankTargetWrite b target s
  | .bankChangeDone b => Sys2Proof.Machine.execBankChangeDone b s
  | .patrolScrub line s0 s1 s2 s3 late => Sys2Proof.Machine.execPatrolScrub line s0 s1 s2 s3 late s
  | .registerWrite who a v lo hi pins => Sys2Proof.Machine.execRegisterWrite who a v lo hi pins s
  | .rookUndefinedInstruction n word => Sys2Proof.Machine.execRookUndefinedInstruction n word s
  | .rookIspaceFetch n => Sys2Proof.Machine.execRookIspaceFetch n s
  | .frerRecoveryReset f => Sys2Proof.Machine.execFrerRecoveryReset f s
  | .portCalibrationDone p => Sys2Proof.Machine.execPortCalibrationDone p s
  | .negotiationFail p => Sys2Proof.Machine.execNegotiationFail p s
  | .canReceiveError n lec big => Sys2Proof.Machine.execCanReceiveError n lec big s
  | .cbListenOnlyFrame g v => Sys2Proof.Machine.execCbListenOnlyFrame g v s
  | .mpFrameReceive => Sys2Proof.Machine.execMpFrameReceive s
  | .debugHalt target => Sys2Proof.Machine.execDebugHalt target s
  | .boundaryScanInstruction instr => Sys2Proof.Machine.execBoundaryScanInstruction instr s
  | .supplyLeavesRange => Sys2Proof.Machine.execSupplyLeavesRange s

end Sys2Proof.Machine
end

