-- ==== Sys2Proof/Safety.lean ====
section
/-! DEFINITION. What counts as a safe run, and what a command leaves alone, in the terms that claims use. -/

namespace Sys2Proof.Machine

/-- The byte memories are in their canonical form: addresses strictly rising, no byte that equals what an unlisted
address reads as. -/
def State.memOk (s : State) : Bool := memWf s.sram && memWf s.mram && memWf s.pmem

/-- The register map is in its canonical form: no register is listed at its reset value. -/
def State.regsOk (s : State) : Bool := mapWf regReset s.regs

/-- A step answers a next state. -/
def State.goesOn (s : State) : Prop := ∃ t, step s = .next t

/-- The device is SCRAPPED (Table R464). -/
def State.scrapped (s : State) : Prop := s.boot.lifeCycle = 5

/-- The parts of the state: its fields, and the life-cycle state as a part of its own. -/
inductive Part where
  | pending
  | variantS
  | free
  | regs
  | sram
  | mram
  | pmem
  | pendMode
  | modeAt
  | boot
  | crp
  | mem
  | evlog
  | evLost
  | xspi
  | parts
  | msix
  | dma
  | ntu
  | image
  | epc
  | swc
  | rooks
  | cmap
  | cbc
  | can
  | pawns
  | ace
  | sfi
  | mqf
  | dcp
  | readData
  | readBytes
  | readPoison
  | lifeCycle
deriving DecidableEq, Repr

/-- Two states agree in a part. `boot` leaves the life-cycle state out. -/
def Part.same (p : Part) (s t : State) : Prop :=
  match p with
  | .pending => t.pending = s.pending
  | .variantS => t.variantS = s.variantS
  | .free => t.free = s.free
  | .regs => t.regs = s.regs
  | .sram => t.sram = s.sram
  | .mram => t.mram = s.mram
  | .pmem => t.pmem = s.pmem
  | .pendMode => t.pendMode = s.pendMode
  | .modeAt => t.modeAt = s.modeAt
  | .boot => { t.boot with lifeCycle := s.boot.lifeCycle } = s.boot
  | .crp => t.crp = s.crp
  | .mem => t.mem = s.mem
  | .evlog => t.evlog = s.evlog
  | .evLost => t.evLost = s.evLost
  | .xspi => t.xspi = s.xspi
  | .parts => t.parts = s.parts
  | .msix => t.msix = s.msix
  | .dma => t.dma = s.dma
  | .ntu => t.ntu = s.ntu
  | .image => t.image = s.image
  | .epc => t.epc = s.epc
  | .swc => t.swc = s.swc
  | .rooks => t.rooks = s.rooks
  | .cmap => t.cmap = s.cmap
  | .cbc => t.cbc = s.cbc
  | .can => t.can = s.can
  | .pawns => t.pawns = s.pawns
  | .ace => t.ace = s.ace
  | .sfi => t.sfi = s.sfi
  | .mqf => t.mqf = s.mqf
  | .dcp => t.dcp = s.dcp
  | .readData => t.readData = s.readData
  | .readBytes => t.readBytes = s.readBytes
  | .readPoison => t.readPoison = s.readPoison
  | .lifeCycle => t.boot.lifeCycle = s.boot.lifeCycle

/-- Every part but those of `l` is in `t` what it was in `s`. -/
def Changes (l : List Part) (s t : State) : Prop := ∀ p, p ∉ l → p.same s t

end Sys2Proof.Machine
end

