-- ==== Sys2Proof/Certificates/Slice0/Obligations.lean ====
section
/-! DEFINITION. Statements for the provers. Each says what a group of commands does: that `exec` answers a next state
whenever the conditions of the rule hold, what that state holds, and which parts of the state it leaves alone. -/

namespace Sys2Proof.Machine

/-- The command answers a next state, and that state satisfies `P`. -/
def Gives (o : Host.Outcome State Fault Refusal) (P : State → Prop) : Prop := ∃ t, o = .next t ∧ P t

/-- Register `a` excepted, every register is in `t` what it was in `s`. -/
def RegsBut (l : List Nat) (s t : State) : Prop := ∀ a, a ∉ l → t.reg a = s.reg a

/-- A saturating counter moves on by one (R109). -/
def CountsOne (f : Fld) (s t : State) : Prop := t.rd f = satUnsigned f.width (s.rd f + 1)

/-- The command that waits in `slot` has its outcome (R402), and no other command has changed. -/
def Answered (slot status : Nat) (reply : List Byte) (s t : State) : Prop :=
  t.dcp.runs = s.dcp.runs.map fun r =>
    if r.slot = slot ∧ r.result = none then { r with result := some ⟨status, reply⟩ } else r

/-! ## Rook engines -/

/-- Engine `n` issues an instruction: RUNNING, not waiting, not halted by the debugger, at an address of I-space, with no
squash due in this issue cycle (R206). -/
def RookIssues (s : State) (n : Nat) : Prop :=
  s.rookRunning n = true ∧ (s.rook n).wait = none ∧ (s.rook n).dbg = false ∧ (s.rook n).pc < 0x10000 ∧
    (s.rook n).squashDue = false

/-- Engine `n` in its issue cycle: every write whose ready cycle is this one or earlier has been applied (R160). -/
def rookNow (s : State) (n : Nat) : RookSt := (s.rook n).applyTo (s.rook n).cyc

/-- Engine `n` has become `r`; every other engine and every other part of the state is as it was. -/
def RookBecomes (s : State) (n : Nat) (r : RookSt) (t : State) : Prop :=
  t.rook n = r ∧ (∀ m, m ≠ n → t.rook m = s.rook m) ∧ Changes [.rooks] s t

/-- The instruction computes `v` into `rd`, ready at distance `d`, and sets the sticky flags `fl` with it; the next
instruction follows. -/
def RookComputes (s : State) (n rd d : Nat) (v : Word) (fl : Nat) (t : State) : Prop :=
  RookBecomes s n (((rookNow s n).produce rd v d).produceFlags fl d).next t

/-- `x` saturated to a signed 64-bit value. -/
def sat (x : Int) : Word := BitVec.ofInt 64 (if x < -(2 ^ 63) then -(2 ^ 63) else if 2 ^ 63 - 1 < x then 2 ^ 63 - 1 else x)

/-- OV where `x` does not fit a signed 64-bit value. -/
def ov (x : Int) : Nat := if x < -(2 ^ 63) ∨ 2 ^ 63 - 1 < x then 1 else 0

/-- 1 or 0 as a register value. -/
def flag (p : Prop) [Decidable p] : Word := if p then 1 else 0

end Sys2Proof.Machine

open Sys2Proof Sys2Proof.Machine
/-- R163, R173: the register-register instructions whose value needs no bit count. Operands are read as R160 says, the
result is ready at distance 1, and nothing but the engine changes. -/
def Sys2Proof.Rules.rookAluValues : Prop :=
  ∀ (s : State) (n : Fin 24) (rd rs1 rs2 : BitVec 5), RookIssues s n →
    let a := (rookNow s n).getW rs1.toNat
    let b := (rookNow s n).getW rs2.toNat
    ∀ p ∈ ([
      (.add n rd rs1 rs2, a + b, 0),
      (.sub n rd rs1 rs2, a - b, 0),
      (.and n rd rs1 rs2, a &&& b, 0),
      (.or n rd rs1 rs2, a ||| b, 0),
      (.xor n rd rs1 rs2, a ^^^ b, 0),
      (.andn n rd rs1 rs2, a &&& ~~~b, 0),
      (.neg n rd rs1, 0 - a, ov (-a.toInt)),
      (.adds n rd rs1 rs2, sat (a.toInt + b.toInt), ov (a.toInt + b.toInt)),
      (.subs n rd rs1 rs2, sat (a.toInt - b.toInt), ov (a.toInt - b.toInt)),
      (.negs n rd rs1, sat (-a.toInt), ov (-a.toInt)),
      (.min n rd rs1 rs2, if a.toInt ≤ b.toInt then a else b, 0),
      (.max n rd rs1 rs2, if a.toInt ≤ b.toInt then b else a, 0),
      (.minu n rd rs1 rs2, if a.toNat ≤ b.toNat then a else b, 0),
      (.maxu n rd rs1 rs2, if a.toNat ≤ b.toNat then b else a, 0),
      (.slt n rd rs1 rs2, flag (a.toInt < b.toInt), 0),
      (.sltu n rd rs1 rs2, flag (a.toNat < b.toNat), 0),
      (.seq n rd rs1 rs2, flag (a = b), 0)] : List (Instr × Word × Nat)),
    Gives (exec p.1 s) (RookComputes s n rd.toNat 1 p.2.1 p.2.2)

/-- R163, R173: shifts and rotates by b[7:0], and the counting instructions. A logical shift by 64 or more gives 0, an
arithmetic one copies of bit 63, and a rotate counts modulo 64. -/
def Sys2Proof.Rules.rookShiftsAndCounts : Prop :=
  ∀ (s : State) (n : Fin 24) (rd rs1 rs2 : BitVec 5), RookIssues s n →
    let a := (rookNow s n).getW rs1.toNat
    let k := ((rookNow s n).getW rs2.toNat).toNat % 256
    (∀ p ∈ ([
      (.shl n rd rs1 rs2, BitVec.ofNat 64 (a.toNat * 2 ^ k)),
      (.shr n rd rs1 rs2, BitVec.ofNat 64 (a.toNat / 2 ^ k)),
      (.sar n rd rs1 rs2, BitVec.ofInt 64 (a.toInt / 2 ^ k)),
      (.rol n rd rs1 rs2, a.rotateLeft (k % 64)),
      (.ror n rd rs1 rs2, a.rotateRight (k % 64))] : List (Instr × Word)),
      Gives (exec p.1 s) (RookComputes s n rd.toNat 1 p.2 0)) ∧
    (∃ c ≤ 64, (∀ i < c, a.getLsbD (63 - i) = false) ∧ (c < 64 → a.getLsbD (63 - c) = true) ∧
      Gives (exec (.clz n rd rs1) s) (RookComputes s n rd.toNat 1 (BitVec.ofNat 64 c) 0)) ∧
    (∃ c ≤ 64, (∀ i < c, a.getLsbD i = false) ∧ (c < 64 → a.getLsbD c = true) ∧
      Gives (exec (.ctz n rd rs1) s) (RookComputes s n rd.toNat 1 (BitVec.ofNat 64 c) 0)) ∧
    Gives (exec (.popc n rd rs1) s) (RookComputes s n rd.toNat 1
      (BitVec.ofNat 64 ((List.range 64).countP fun i => a.getLsbD i)) 0) ∧
    ∃ v : Word, (∀ i < 64, v.getLsbD i = a.getLsbD (8 * (7 - i / 8) + i % 8)) ∧
      Gives (exec (.bswap n rd rs1) s) (RookComputes s n rd.toNat 1 v 0)

/-- The register-only arithmetic, logic, comparison, shift and count instructions of a Rook. -/
def Obligations.RookAlu : Prop :=
  Sys2Proof.Rules.rookAluValues ∧ Sys2Proof.Rules.rookShiftsAndCounts

/-- R164, R165, R173: immediate, bit-field and constant instructions. EXT and EXTS read bits above 63 as 0, INS discards
what would land above bit 63, INS and MOVK keep the other bits of rd. -/
def Sys2Proof.Rules.rookImmediates : Prop :=
  ∀ (s : State) (n : Fin 24) (rd rs1 : BitVec 5) (imm : BitVec 15) (count : BitVec 8) (pos len1 : BitVec 6)
      (hw : BitVec 2) (imm16 : BitVec 16), RookIssues s n →
    let a := (rookNow s n).getW rs1.toNat
    let d := (rookNow s n).getW rd.toNat
    let k := count.toNat
    let sx : Word := imm.signExtend 64
    let zx : Word := imm.zeroExtend 64
    let f := a.toNat / 2 ^ pos.toNat % 2 ^ (len1.toNat + 1)
    (∀ p ∈ ([
      (.addi n rd rs1 imm, a + sx),
      (.andi n rd rs1 imm, a &&& zx),
      (.ori n rd rs1 imm, a ||| zx),
      (.xori n rd rs1 imm, a ^^^ zx),
      (.slti n rd rs1 imm, flag (a.toInt < sx.toInt)),
      (.sltui n rd rs1 imm, flag (a.toNat < sx.toNat)),
      (.shli n rd rs1 count, BitVec.ofNat 64 (a.toNat * 2 ^ k)),
      (.shri n rd rs1 count, BitVec.ofNat 64 (a.toNat / 2 ^ k)),
      (.sari n rd rs1 count, BitVec.ofInt 64 (a.toInt / 2 ^ k)),
      (.rori n rd rs1 count, a.rotateRight (k % 64)),
      (.ext n rd rs1 pos len1, BitVec.ofNat 64 f),
      (.exts n rd rs1 pos len1,
        BitVec.ofInt 64 (if f < 2 ^ len1.toNat then (f : Int) else f - 2 ^ (len1.toNat + 1))),
      (.movz n rd hw imm16, BitVec.ofNat 64 (imm16.toNat * 2 ^ (16 * hw.toNat)))] : List (Instr × Word)),
      Gives (exec p.1 s) (RookComputes s n rd.toNat 1 p.2 0)) ∧
    (∃ v : Word, (∀ i < 64, v.getLsbD i =
        if pos.toNat ≤ i ∧ i < pos.toNat + (len1.toNat + 1) then a.getLsbD (i - pos.toNat) else d.getLsbD i) ∧
      Gives (exec (.ins n rd rs1 pos len1) s) (RookComputes s n rd.toNat 1 v 0)) ∧
    ∃ v : Word, (∀ i < 64, v.getLsbD i =
        if 16 * hw.toNat ≤ i ∧ i < 16 * hw.toNat + 16 then imm16.getLsbD (i - 16 * hw.toNat) else d.getLsbD i) ∧
      Gives (exec (.movk n rd hw imm16) s) (RookComputes s n rd.toNat 1 v 0)

/-- R166, R173: products at distance 3; quotient and remainder at distance 18. A division by 0 with DZT = 0 gives all
ones and the dividend, and sets DZ; MIN by −1 gives MIN and 0, and sets OV. -/
def Sys2Proof.Rules.rookMultiplyDivide : Prop :=
  ∀ (s : State) (n : Fin 24) (rd rs1 rs2 : BitVec 5), RookIssues s n →
    let r := rookNow s n
    let a := r.getW rs1.toNat
    let b := r.getW rs2.toNat
    let quot (q m : Word) (fl : Nat) (t : State) : Prop :=
      RookBecomes s n (((r.produce rd.toNat q 18).produce 32 m 18).produceFlags fl 18).next t
    Gives (exec (.mul n rd rs1 rs2) s) (RookComputes s n rd.toNat 3 (a * b) 0) ∧
    Gives (exec (.mulh n rd rs1 rs2) s) (RookComputes s n rd.toNat 3 (BitVec.ofInt 64 (a.toInt * b.toInt / 2 ^ 64)) 0) ∧
    Gives (exec (.mulhu n rd rs1 rs2) s)
      (RookComputes s n rd.toNat 3 (BitVec.ofNat 64 (a.toNat * b.toNat / 2 ^ 64)) 0) ∧
    (b ≠ 0 → Gives (exec (.divu n rd rs1 rs2) s) (quot (a / b) (a % b) 0)) ∧
    (b ≠ 0 → a.toInt ≠ -(2 ^ 63) ∨ b.toInt ≠ -1 → Gives (exec (.div n rd rs1 rs2) s)
      (quot (BitVec.ofInt 64 (a.toInt.tdiv b.toInt)) (BitVec.ofInt 64 (a.toInt.tmod b.toInt)) 0)) ∧
    (a.toInt = -(2 ^ 63) → b.toInt = -1 → Gives (exec (.div n rd rs1 rs2) s) (quot a 0 1)) ∧
    (b = 0 → r.esrBit 3 = false →
      Gives (exec (.div n rd rs1 rs2) s) (quot (BitVec.allOnes 64) a 2) ∧
      Gives (exec (.divu n rd rs1 rs2) s) (quot (BitVec.allOnes 64) a 2))

/-- The immediate and field instructions of a Rook, its products and its divisions. -/
def Obligations.RookImmediatesAndProducts : Prop :=
  Sys2Proof.Rules.rookImmediates ∧ Sys2Proof.Rules.rookMultiplyDivide

/-- R167: a load at an aligned address inside D-space reads its bytes, little-endian, as the engine's buffered stores leave
them, and extends them; the result is ready at distance 3. Memory is not changed. -/
def Sys2Proof.Rules.rookLoads : Prop :=
  ∀ (s : State) (n : Fin 24) (rd rs1 : BitVec 5) (imm : BitVec 15), RookIssues s n →
    let a := ((rookNow s n).getW rs1.toNat + imm.signExtend 64).toNat
    let u (w : Nat) : Word := BitVec.ofNat 64 (s.dRead n a w)
    let x (w : Nat) : Word := (BitVec.ofNat (8 * w) (s.dRead n a w)).signExtend 64
    a < 0x20000 →
    ∀ p ∈ ([
      (.ldb n rd rs1 imm, 1, u 1), (.ldh n rd rs1 imm, 2, u 2), (.ldw n rd rs1 imm, 4, u 4), (.ldd n rd rs1 imm, 8, u 8),
      (.ldbs n rd rs1 imm, 1, x 1), (.ldhs n rd rs1 imm, 2, x 2), (.ldws n rd rs1 imm, 4, x 4)] :
        List (Instr × Nat × Word)),
    a % p.2.1 = 0 → Gives (exec p.1 s) (RookComputes s n rd.toNat 3 p.2.2 0)

/-- R167, R180: a store at an aligned address inside D-space writes the low bytes of w[rs2] there, and no other byte of any
memory; inside an open region with room it goes into the commit buffer and memory keeps every byte. -/
def Sys2Proof.Rules.rookStores : Prop :=
  ∀ (s : State) (n : Fin 24) (rs2 rs1 : BitVec 5) (imm : BitVec 15), RookIssues s n →
    let r := rookNow s n
    let a := (r.getW rs1.toNat + imm.signExtend 64).toNat
    let v := r.getW rs2.toNat
    a < 0x20000 →
    ∀ p ∈ ([(.stb n rs2 rs1 imm, 1), (.sth n rs2 rs1 imm, 2), (.stw n rs2 rs1 imm, 4), (.std n rs2 rs1 imm, 8)] :
        List (Instr × Nat)),
    a % p.2 = 0 →
      (r.spec = none → Gives (exec p.1 s) fun t =>
        t.rook n = r.next ∧ Changes [.rooks, .pmem] s t ∧
        (∀ i < p.2, (memByte t.pmem (dspaceAddr n a + i)).toNat = v.toNat / 256 ^ i % 256) ∧
        ∀ x, x < dspaceAddr n a ∨ dspaceAddr n a + p.2 ≤ x → memByte t.pmem x = memByte s.pmem x) ∧
      (r.spec.isSome = true → r.commit.length < 32 → Gives (exec p.1 s)
        (RookBecomes s n ({ r with commit := r.commit ++ [⟨a, p.2, v⟩] } : RookSt).next))

/-- Loads and stores of D-space. -/
def Obligations.RookLoadsAndStores : Prop :=
  Sys2Proof.Rules.rookLoads ∧ Sys2Proof.Rules.rookStores

/-- The engine after a control transfer to `t`: two delay slots issue first (R170). -/
def Sys2Proof.Machine.rookGoes (r : RookSt) (t : Nat) : RookSt :=
  { r with cyc := r.cyc + 1, pc := r.pc + 4, slot := 1, tgt := t, rte := false }

/-- R170, R157: outside a delay slot, a compare-and-branch goes to its address + 4 × offset modulo 2^64 when its condition
holds, and to its address + 12 when it does not; JMP and JR always go. Nothing but the engine changes. -/
def Sys2Proof.Rules.rookBranches : Prop :=
  ∀ (s : State) (n : Fin 24) (rs1 rs2 : BitVec 5) (off : BitVec 15) (far : BitVec 25), RookIssues s n →
    let r := rookNow s n
    let a := r.getW rs1.toNat
    let b := r.getW rs2.toNat
    let t15 := (((r.pc : Int) + 4 * off.toInt) % 2 ^ 64).toNat
    let t25 := (((r.pc : Int) + 4 * far.toInt) % 2 ^ 64).toNat
    r.slot = 0 →
    (∀ p ∈ ([
      (.beq n rs1 rs2 off, decide (a = b)), (.bne n rs1 rs2 off, decide (a ≠ b)),
      (.blt n rs1 rs2 off, decide (a.toInt < b.toInt)), (.bge n rs1 rs2 off, decide (b.toInt ≤ a.toInt)),
      (.bltu n rs1 rs2 off, decide (a.toNat < b.toNat)), (.bgeu n rs1 rs2 off, decide (b.toNat ≤ a.toNat))] :
        List (Instr × Bool)),
      (p.2 = true → t15 % 4 = 0 → Gives (exec p.1 s) (RookBecomes s n (rookGoes r t15))) ∧
      (p.2 = false → Gives (exec p.1 s) (RookBecomes s n (rookGoes r (r.pc + 12))))) ∧
    (t25 % 4 = 0 → Gives (exec (.jmp n far) s) (RookBecomes s n (rookGoes r t25))) ∧
    (a.toNat % 4 = 0 → Gives (exec (.jr n rs1) s) (RookBecomes s n (rookGoes r a.toNat)))

/-- R175, R170: in WRAP mode, outside a delay slot and outside a region, CALL and CALLR push the address + 12 and raise
COUNT to at most 16; RET pops, and at COUNT = 0 sets RSE, ready at distance 1. -/
def Sys2Proof.Rules.rookReturnStack : Prop :=
  ∀ (s : State) (n : Fin 24) (rs1 : BitVec 5) (far : BitVec 25), RookIssues s n →
    let r := rookNow s n
    let a := r.getW rs1.toNat
    let t25 := (((r.pc : Int) + 4 * far.toInt) % 2 ^ 64).toNat
    let top := bitsOf r.rsp 3 0
    let count := bitsOf r.rsp 8 4
    let pushed : RookSt :=
      { r with rstk := mapPut (fun _ => 0) r.rstk top (BitVec.ofNat 64 (r.pc + 12))
               rsp := BitVec.ofNat 64 (min 16 (count + 1) * 16 + (top + 1) % 16) }
    let popTop := (top + 15) % 16
    let entry := (mapGet (fun _ => (0 : Word)) r.rstk popTop).toNat
    let popped : RookSt := { r with rsp := BitVec.ofNat 64 ((count - 1) * 16 + popTop) }
    r.slot = 0 → r.spec = none → r.esrBit 4 = false →
    (t25 % 4 = 0 → Gives (exec (.call n far) s) (RookBecomes s n (rookGoes pushed t25))) ∧
    (a.toNat % 4 = 0 → Gives (exec (.callr n rs1) s) (RookBecomes s n (rookGoes pushed a.toNat))) ∧
    (entry % 4 = 0 → 0 < count → Gives (exec (.ret n) s) (RookBecomes s n (rookGoes popped entry))) ∧
    (entry % 4 = 0 → count = 0 →
      Gives (exec (.ret n) s) (RookBecomes s n (rookGoes (popped.produceFlags 4 1) entry)))

/-- Control transfers and the return stack. -/
def Obligations.RookTransfers : Prop :=
  Sys2Proof.Rules.rookBranches ∧ Sys2Proof.Rules.rookReturnStack

/-- R154, R161, R169, R172, R188, R160: MFS reads the special registers of Table R154, MTS writes the writable ones at
distance 1; WAIT takes one cycle when an event of its mask is set and pauses issue otherwise, and WAIT_WAKE ends the
pause; RTE issues two delay slots; the writes that are ready are applied. -/
def Obligations.RookSystem : Prop :=
  ∀ (s : State) (n : Fin 24) (rd rs1 sr : BitVec 5) (imm : BitVec 15) (k : Nat), RookIssues s n →
    let r := rookNow s n
    let v := r.getW rs1.toNat
    let m := (imm.signExtend 64 : Word).toNat
    let ev := s.rookEvents n &&& m
    (∀ p ∈ ([(0, r.esr), (1, r.tpc), (2, r.tbt), (3, r.tval), (4, r.tvb), (5, r.rsp), (6, r.rem),
        (7, BitVec.ofNat 64 r.cyc)] : List (Nat × Word)),
      sr.toNat = p.1 → Gives (exec (.mfs n rd sr) s) (RookComputes s n rd.toNat 1 p.2 0)) ∧
    ((sr = 1 ∨ sr = 2 ∨ sr = 4 ∨ sr = 0 ∧ bitsOf v 17 16 ≠ 3 ∨ sr = 5 ∧ bitsOf v 8 4 ≤ 16) →
      Gives (exec (.mts n rs1 sr) s) (RookComputes s n (64 + sr.toNat) 1 v 0)) ∧
    (ev ≠ 0 → Gives (exec (.wait n rd imm) s) (RookComputes s n rd.toNat 1 (BitVec.ofNat 64 ev) 0)) ∧
    (ev = 0 → m ≠ 0 → Gives (exec (.wait n rd imm) s) (RookBecomes s n { r.next with wait := some (rd.toNat, m) })) ∧
    (r.slot = 0 → r.tin = true → Gives (exec (.rte n) s) (RookBecomes s n { rookGoes r 0 with rte := true })) ∧
    Gives (exec (.pipelineWriteReady n) s) (RookBecomes s n r) ∧
    ∀ (s' : State) (d : Nat), s'.rookRunning n = true → (s'.rook n).wait = some (d, k) → s'.rookEvents n &&& k ≠ 0 →
      ∀ c, Gives (exec (.waitWake n c) s') fun t =>
        (t.rook n).wait = none ∧ (t.rook n).cyc = (s'.rook n).cyc + c + 1 ∧ Changes [.rooks] s' t

/-- The engine has taken the trap of cause `c` (R184, R185): TPC and TVAL saved, CAUSE and TIN set in ESR, and the next
address is TVB + 32 × c. -/
def Sys2Proof.Machine.RookTrapped (s : State) (n c : Nat) (val : Word) (t : State) : Prop :=
  let r := t.rook n
  bitsOf r.esr 31 24 = c ∧ r.tin = true ∧ r.tval = val ∧ bitsOf r.esr 17 16 = (s.rook n).slot % 4 ∧
    r.tpc.toNat = (s.rook n).pc % 0x10000 / 4 * 4 ∧ r.pc = bitsOf r.tvb 15 0 + 32 * c ∧ r.slot = 0 ∧ r.spec = none ∧
    r.commit = (if (s.rook n).spec.isSome then [] else (s.rook n).commit) ∧
    t.rookRunning n = true ∧ Changes [.regs, .rooks, .mqf] s t

/-- R156, R172, R184, R185, R170: with TIN = 0, BRK, SVC and an undefined instruction trap with their cause and value, and
so do an instruction fetched outside I-space and, in a delay slot or at a misaligned address, a transfer, a load and an
access of IO. -/
def Obligations.RookTraps : Prop :=
  ∀ (s : State) (n : Fin 24) (rd rs1 rs2 : BitVec 5) (code imm : BitVec 15) (word : BitVec 32),
    s.rookRunning n = true → (s.rook n).wait = none → (s.rook n).dbg = false → (s.rook n).squashDue = false →
    (rookNow s n).tin = false →
    let r := rookNow s n
    let a := (r.getW rs1.toNat + imm.signExtend 64).toNat
    (r.pc < 0x10000 →
      Gives (exec (.brk n) s) (RookTrapped s n 0x01 0) ∧
      Gives (exec (.svc n code) s) (RookTrapped s n 0x0D (code.zeroExtend 64)) ∧
      (rookUndefined word.toNat = true →
        Gives (exec (.rookUndefinedInstruction n word) s) (RookTrapped s n 0x02 (word.zeroExtend 64))) ∧
      (a % 8 ≠ 0 → ∀ i ∈ ([.ldd n rd rs1 imm, .std n rs2 rs1 imm, .ioIn n rd rs1 imm, .ioOut n rs2 rs1 imm] : List Instr),
        Gives (exec i s) (RookTrapped s n 0x05 (BitVec.ofNat 64 a))) ∧
      (a % 8 = 0 → 0x20000 ≤ a → ∀ i ∈ ([.ldd n rd rs1 imm, .std n rs2 rs1 imm] : List Instr),
        Gives (exec i s) (RookTrapped s n 0x06 (BitVec.ofNat 64 a))) ∧
      (r.slot ≠ 0 → ∃ v, Gives (exec (.ret n) s) (RookTrapped s n 0x03 v))) ∧
    (0x10000 ≤ r.pc → Gives (exec (.rookIspaceFetch n) s) (RookTrapped s n 0x08 (BitVec.ofNat 64 r.pc)))

/-- The engine has halted (R189, R195): its state, why, and the address of the instruction. -/
def Sys2Proof.Machine.RookHalted (s : State) (n reason cause : Nat) (t : State) : Prop :=
  t.rd (PEA_Rn_STAT_STATE n) = 3 ∧ t.rd (PEA_Rn_STAT_HALT_REASON n) = reason ∧ t.rd (PEA_Rn_STAT_HALT_CAUSE n) = cause ∧
    t.rd (PEA_Rn_STAT_HALT_PC n) = (s.rook n).pc ∧ ∀ m, m ≠ n → t.rook m = s.rook m

/-- R178, R184, R186, R189: HALT applies every write in flight and stops, with an open region squashed; a trap while TIN is 1
halts with DOUBLE; SPEC opens a region, and inside an open one it traps. -/
def Obligations.RookHaltsAndRegions : Prop :=
  ∀ (s : State) (n : Fin 24) (code : BitVec 15), RookIssues s n →
    let r := rookNow s n
    let halts := [Part.regs, .pendMode, .evlog, .evLost, .msix, .rooks, .dcp]
    (r.spec = none → Gives (exec (.halt n) s) fun t =>
      RookHalted s n 1 0 t ∧ t.rook n = r.drainAll ∧ Changes halts s t) ∧
    (r.spec.isSome = true → Gives (exec (.halt n) s) fun t =>
      RookHalted s n 1 0 t ∧ (t.rook n).spec = none ∧ (t.rook n).commit = [] ∧ Changes (.mqf :: halts) s t) ∧
    (r.tin = true → Gives (exec (.brk n) s) (fun t => RookHalted s n 2 0x01 t ∧ t.rook n = r ∧ Changes halts s t) ∧
      Gives (exec (.svc n code) s) (fun t => RookHalted s n 2 0x0D t ∧ t.rook n = r ∧ Changes halts s t)) ∧
    (r.spec = none → r.tin = false → (r.rx r.cur).held = false → Gives (exec (.spec n) s) fun t =>
      (t.rook n).spec.isSome = true ∧ (t.rook n).commit = [] ∧ t.bit (PEA_Rn_STAT_SPECA n) = true ∧
        (t.rook n).esrBit 9 = true ∧ (∀ m, m ≠ n → t.rook m = s.rook m) ∧ Changes [.regs, .rooks] s t) ∧
    (r.spec.isSome = true → r.tin = false → Gives (exec (.spec n) s) (RookTrapped s n 0x0B 0))

/-- R168, R180, R198, R200, R208, R209: IN reads the local window at distance 4 and the process image port at distance 12; OUT
writes a local register at once, and the process image outside a region at once and inside one into the commit buffer. -/
def Obligations.RookIo : Prop :=
  ∀ (s : State) (n : Fin 24) (rd rs1 rs2 : BitVec 5) (imm : BitVec 15) (w : Word), RookIssues s n →
    let r := rookNow s n
    let a := (r.getW rs1.toNat + imm.signExtend 64).toNat
    let off := a - 0x80000000
    let v := r.getW rs2.toNat
    let port := a % 8 = 0 ∧ 0x80000000 ≤ a ∧ a < 0x80400000
    let free := r.ioIssue = none
    (∀ p ∈ ([(0x10, r.cycle), (0x20, r.timer), (0x48, BitVec.ofNat 64 r.rxThr), (0x108, r.pcrc.range)] : List (Nat × Word)),
      a = p.1 → Gives (exec (.ioIn n rd rs1 imm) s) (RookComputes s n rd.toNat 4 p.2 0)) ∧
    (port → free → r.drains = [] → s.piInOk n off = true → s.piRead n off = (w, s) → Gives (exec (.ioIn n rd rs1 imm) s) (RookBecomes s n
      (({ r with
          ioIssue := some r.cyc
          ioSlot := r.cyc } : RookSt).produce rd.toNat w 12).next)) ∧
    (a = 0x48 → Gives (exec (.ioOut n rs2 rs1 imm) s) (RookBecomes s n
      ({ r with rxThr := bitsOf v 13 0 } : RookSt).next)) ∧
    (port → r.spec.isSome = true → r.commit.length < 32 → s.piOutOk n off true = true →
      Gives (exec (.ioOut n rs2 rs1 imm) s)
        (RookBecomes s n ({ r with commit := r.commit ++ [⟨off, 0, v⟩] } : RookSt).next)) ∧
    (port → r.spec = none → r.drains = [] → s.piOutOk n off false = true → s.bankState ((s.fillBase + off) / 0x80000) = 1 →
      s.fillBase ≤ 0x100000 → Gives (exec (.ioOut n rs2 rs1 imm) s) fun t =>
        (∀ i < 8, (memByte t.sram (s.fillBase + off + i)).toNat = v.toNat / 256 ^ i % 256) ∧
        (∀ x, x < s.fillBase + off ∨ s.fillBase + off + 8 ≤ x → memByte t.sram x = memByte s.sram x) ∧
        (∀ m, m ≠ n → t.rook m = s.rook m) ∧ Changes [.regs, .sram, .mem, .rooks] s t)


/-! ## Engines of the PEA -/

/-- R193, R194, R425: EN = 1 starts an OFF engine that the mode does not hold and clears it; a started engine is RUNNING from
START; EN = 0 stops it, which is a reset of its agent; a stop ends in OFF with only the spore and the drains kept; EN = 1 while STOPPING is pending. -/
def Sys2Proof.Rules.engineStates : Prop :=
  ∀ (s : State) (n : Fin 24), s.domOn (engDom n) = true →
    let st (t : State) := t.rd (PEA_Rn_STAT_STATE n)
    let kept : RookSt :=
      { RookSt.reset with inst := (s.rook n).inst, listenOnly := (s.rook n).listenOnly, drains := (s.rook n).drains }
    (st s = 0 → s.engHeld n = false → Gives (exec (.engineEnable n) s) fun t =>
      st t = 1 ∧ t.bit (PEA_Rn_CTL_EN n) = true ∧ t.bit (PEA_Rn_STAT_NET_UP n) = false ∧ t.rook n = kept ∧
        Changes [.regs, .rooks] s t) ∧
    (st s = 0 → s.engHeld n = true → Gives (exec (.engineEnable n) s) fun t =>
      st t = 0 ∧ t.bit (PEA_Rn_CTL_EN n) = true ∧ Changes [.regs] s t) ∧
    (st s = 4 → Gives (exec (.engineEnable n) s) fun t =>
      st t = 4 ∧ t.bit (PEA_Rn_STAT_PENDING n) = true ∧ Changes [.regs] s t) ∧
    (st s = 1 → Gives (exec (.engineStartDone n) s) fun t =>
      st t = 2 ∧ (t.rook n).pc = s.rd (PEA_Rn_CTL_START n) ∧ (t.rook n).cyc = 0 ∧ (t.rook n).w = (s.rook n).w ∧
        RegsBut [PEA_Rn_STAT n] s t ∧ Changes [.regs, .rooks] s t) ∧
    (st s = 1 ∨ st s = 2 ∨ st s = 3 → Gives (exec (.engineDisable n) s) fun t =>
      st t = 4 ∧ t.bit (PEA_Rn_CTL_EN n) = false ∧ (t.rook n).rx0.held = false ∧ (t.rook n).rx1.held = false ∧
        (t.rook n).spec = none ∧ (t.rook n).wait = none ∧
        t.rd (MQF_EPOCHa_EPOCH (agRook n)) = (s.rd (MQF_EPOCHa_EPOCH (agRook n)) + 1) % 2 ^ 16 ∧
        t.rd (MQF_DBa_PEND_PEND (agRook n)) = 0 ∧ ∀ k, t.semHolder k ≠ agRook n + 1) ∧
    (st s = 4 → s.bit (PEA_Rn_STAT_PENDING n) = false → Gives (exec (.engineStopDone n) s) fun t =>
      st t = 0 ∧ t.bit (PEA_Rn_STAT_NET_UP n) = false ∧ t.rook n = kept ∧
        RegsBut [PEA_Rn_STAT n, PEA_Rn_CNT n] s t ∧ Changes [.regs, .rooks] s t)

/-- R198, R199, R201, R203: in a RUNNING engine EV_CLR clears the sticky events of its mask, the timer sets event 7 at TIMER,
RX_RELEASE frees the current buffer and moves on to the other, PCRC_INIT with AUTO = 0 restarts the programmable CRC, and
PCRC_FEED and PCRC_FEEDB feed it. -/
def Sys2Proof.Rules.engineLocalEvents : Prop :=
  ∀ (s : State) (n : Fin 24) (v : BitVec 64) (b : BitVec 8), s.rookRunning n = true →
    let r := s.rook n
    let auto := bitsOf r.pcrc.cfg 26 26
    Gives (exec (.evClr n v) s) (RookBecomes s n { r with ev := r.ev &&& (0x1E3 - (v.toNat &&& 0x1E3)) }) ∧
    Gives (exec (.rookTimerExpire n) s) (fun t => bitAt (t.rook n).ev 7 = true ∧
      Changes [.regs, .ntu, .rooks] s t) ∧
    ((r.rx r.cur).held = true → Gives (exec (.rxRelease n) s) fun t =>
      ((t.rook n).rx r.cur).held = false ∧ (t.rook n).cur = 1 - r.cur ∧ Changes [.rooks] s t) ∧
    ((r.rx r.cur).held = false → Gives (exec (.rxRelease n) s) fun t => t = s) ∧
    (auto = 0 → Gives (exec (.pcrcInitWrite n v) s) fun t =>
      (t.rook n).pcrc.init.toNat = v.toNat % 2 ^ 32 ∧ (t.rook n).pcrcReg = (t.rook n).pcrc.start ∧
        Changes [.rooks] s t) ∧
    (auto = 0 → Gives (exec (.pcrcFeedb n b) s) (RookBecomes s n { r with pcrcReg := r.pcrc.feed r.pcrcReg b })) ∧
    (auto = 0 → Gives (exec (.pcrcFeed n v) s)
      (RookBecomes s n { r with pcrcReg := (bytesLE 8 v.toNat).foldl r.pcrc.feed r.pcrcReg }))

/-- States of the protocol engines, and the events inside one. -/
def Obligations.EngineStatesAndEvents : Prop :=
  Sys2Proof.Rules.engineStates ∧ Sys2Proof.Rules.engineLocalEvents

/-- R213, R197, R199: TX_GO of a free buffer with a legal length and CYCLIC = 1 holds the frame of a bound engine; without an engine
port it is DROPPED and event 5 sets; a command for a busy buffer is ignored and counted; a finished frame makes the buffer DONE
or DROPPED and sets event 5. -/
def Sys2Proof.Rules.engineTransmit : Prop :=
  ∀ (s : State) (n : Fin 24) (b : Fin 2) (cmd : BitVec 64), s.rookRunning n = true →
    let tx (t : State) := (t.rook n).tx b
    let len := bitsOf cmd 13 0
    ((tx s).busy = true → Gives (exec (.txGo n b cmd) s) fun t =>
      (tx t).wrIgn = true ∧ (tx t).state = (tx s).state ∧
        t.rd (PEA_Rn_CNT_TX_IGNORED n) = satUnsigned (PEA_Rn_CNT_TX_IGNORED n).width (s.rd (PEA_Rn_CNT_TX_IGNORED n) + 1) ∧
        RegsBut [(PEA_Rn_CNT_TX_IGNORED n).addr] s t ∧ Changes [.regs, .rooks] s t) ∧
    ((tx s).busy = false → 60 ≤ len → len ≤ 9212 → bitsOf cmd 62 62 = 1 → s.rd (PEA_Rn_CTL_BIND n) < 4 → Gives (exec (.txGo n b cmd) s) fun t =>
      (tx t).state = 1 ∧ (tx t).wrIgn = false ∧ (tx t).tsV = false ∧ Changes [.rooks] s t) ∧
    ((tx s).busy = false → 60 ≤ len → len ≤ 9212 → 4 ≤ s.rd (PEA_Rn_CTL_BIND n) →
      Gives (exec (.txGo n b cmd) s) fun t =>
        (tx t).state = 4 ∧ bitAt (t.rook n).ev 5 = true ∧ Changes [.rooks] s t) ∧
    (∀ e, s.swc.txDone.find? (fun e => e.1 == 2 * n.val + b.val) = some e → (tx s).state = 2 →
      Gives (exec (.txBufferDone n b) s) fun t =>
        (tx t).state = (if e.2 then 3 else 4) ∧ bitAt (t.rook n).ev 5 = true ∧
          t.swc.txDone = s.swc.txDone.erase e ∧ Changes [.swc, .rooks] s t)

/-- R197, R201, R202, R204, R205: a frame at the head of the highest class that is ready goes to the free buffer of the
RUNNING engine its entry names; the verdict of a frame that has ended becomes known; the oldest drain of an engine lands
and sets event 8. -/
def Sys2Proof.Rules.engineReceive : Prop :=
  (∀ (s : State) (k : Fin 4) (f : EthFrame) (id n b : Nat), s.domOn 6 = true → s.txCur (10 + k) = none →
    s.classReady (10 + k) 7 = true → (s.queue (10 + k) 7).head? = some id → s.frame id = some f →
    s.epEngine k f = some n → (s.rook n).freeBuf = some b → f.rtag = none →
    Gives (exec (.epDispatch k) s) fun t =>
      ((t.rook n).rx b).held = true ∧ ((t.rook n).rx b).data = f.bytes ++ fcsBytes f.bytes false ∧
        ((t.rook n).rx b).bytes = 0 ∧ ((t.rook n).rx b).verdict = 0 ∧
        (∃ x, t.txCur (10 + k) = some x ∧ x.frame = id ∧ x.cls = f.cls ∧ x.stomp = false) ∧
        Changes [.swc, .rooks] s t) ∧
  (∀ (s : State) (n : Fin 24) (v : VerdictAt), s.domOn (engDom n) = true →
    let x := (s.rook n).rx v.b
    let judged := if x.aborted || !x.ended then 4 else if x.bad then 2 else if x.pcrc.fails x.data then 3 else 1
    (s.swc.epRx.any fun e => e.2 == some (2 * n.val + v.b.val)) = false → x.data ≠ [] → x.verdict = 0 →
    ((s.rook n).spec = none → Gives (exec (.frameVerdict n v) s) fun t =>
      ((t.rook n).rx v.b).verdict = judged ∧ ((t.rook n).rx v.b).data = x.data ∧ Changes [.rooks] s t) ∧
    (∀ p, (s.rook n).spec = some p → p.buf = v.b.val → s.rookRunning n = true → v.atIssue = false →
      Gives (exec (.frameVerdict n v) s) fun t =>
        (t.rook n).spec = none ∧ (t.rook n).commit = [] ∧ t.bit (PEA_Rn_STAT_SPECA n) = false ∧
          (judged = 1 → (s.rook n).esrBit 10 = false → (s.rook n).commit = [] →
            CountsOne (PEA_Rn_CNT_COMMITS n) s t) ∧
          (judged ≠ 1 → (t.rook n).pc = bitsOf (t.rook n).tvb 15 0 + 32 * 0x10))) ∧
  (∀ (s : State) (n : Fin 24) (d : List (Nat × Word)) (l : List (List (Nat × Word))), s.domOn (engDom n) = true →
    (s.rook n).drains = d :: l → s.rookRunning n = true → Gives (exec (.drainLand n) s) fun t =>
      (t.rook n).drains = l ∧ bitAt (t.rook n).ev 8 = true)

/-- What a protocol engine sends and receives. -/
def Obligations.EngineFrames : Prop :=
  Sys2Proof.Rules.engineTransmit ∧ Sys2Proof.Rules.engineReceive

/-! ## The cycle and network time -/

/-- R21, R37: with the cycle running from the local base and no transition waiting, the boundary falls at its nominal
instant, the previous one + LEN + the correction, takes effect at a CLK_TIME edge at or after it, and the next cycle
counts. -/
def Obligations.CycleBoundaryFalls : Prop :=
  ∀ s : State, s.domOn 6 = true → s.cycRun = true → s.ntu.cyc.act.src = 0 → s.castling = false → s.pendMode = none →
    0 ≤ s.ntu.cyc.nominal + ((s.ntu.cyc.act.len : Int) + s.ntu.cyc.corr) * 2 ^ 32 →
    Gives (exec .cycleBoundary s) fun t =>
      (t.ntu.cyc.nominal : Int) = s.ntu.cyc.nominal + ((s.ntu.cyc.act.len : Int) + s.ntu.cyc.corr) * 2 ^ 32 ∧
        t.ntu.cyc.nominal ≤ t.ntu.lt ∧ t.ntu.cyc.started = true ∧
        t.rd NTU_CYC_COUNT_CYCLE = (s.rd NTU_CYC_COUNT_CYCLE + 1) % 2 ^ 64

/-- The instant of phase `k` of the cycle that runs (R25). -/
def Sys2Proof.Machine.phaseAtLt (s : State) (k : Nat) : Nat := s.ntu.cyc.edge + s.ntu.cyc.act.phases.getD k 0 * 2 ^ 32

/-- Phase `k` has not acted in this cycle, and no phase of lower index has its offset. -/
def Sys2Proof.Machine.phaseAlone (s : State) (k : Nat) : Prop :=
  bitAt s.ntu.cyc.phased k = false ∧ ∀ j < k, s.ntu.cyc.act.phases.getD j 0 ≠ s.ntu.cyc.act.phases.getD k 0

/-- R25, R199, R31, R72: once a boundary has fallen, each phase command moves time to its phase and the phase acts, once in
a cycle; ROOK_IN gives every RUNNING engine the cycle number and event 0, ETH_TX event 1; PI_SWAP swaps the two copies of
the image; HOST_NOTE takes a snapshot. A phase of lower index at the same offset acts first. -/
def Sys2Proof.Rules.cyclePhases : Prop :=
  ∀ s : State, s.cycLive = true →
    let late (k : Nat) (t : State) : Prop := phaseAtLt s k ≤ t.ntu.lt ∧ bitAt t.ntu.cyc.phased k = true
    let off (k : Nat) := s.ntu.cyc.act.phases.getD k 0
    (phaseAlone s 0 → Gives (exec .cbIn s) fun t => late 0 t ∧ Changes [.regs, .ntu, .cbc] s t) ∧
    (phaseAlone s 1 → Gives (exec .rookIn s) fun t => late 1 t ∧ Changes [.regs, .ntu, .rooks] s t ∧
      ∀ n < 24, s.rookRunning n = true →
        bitAt (t.rook n).ev 0 = true ∧ (t.rook n).cycle.toNat = s.rd NTU_CYC_COUNT_CYCLE % 2 ^ 63) ∧
    (phaseAlone s 2 → Gives (exec .aceDisp s) fun t => late 2 t ∧ Changes [.regs, .ntu] s t) ∧
    (phaseAlone s 3 → Gives (exec .aceDl s) fun t =>
      late 3 t ∧ Changes [.regs, .sram, .mem, .msix, .ntu, .image, .ace, .sfi] s t) ∧
    (phaseAlone s 4 → Gives (exec .cbOut s) fun t =>
      late 4 t ∧ Changes [.regs, .evlog, .evLost, .msix, .ntu, .cbc] s t) ∧
    (phaseAlone s 5 → Gives (exec .ethTx s) fun t => late 5 t ∧ Changes [.regs, .ntu, .swc, .rooks] s t ∧
      ∀ n < 24, s.rookRunning n = true → bitAt (t.rook n).ev 1 = true) ∧
    (phaseAlone s 6 → Gives (exec .piSwap s) fun t =>
      late 6 t ∧ t.image.filling = 1 - s.image.filling ∧ t.image.restart = false ∧
      Changes [.regs, .sram, .pendMode, .mem, .evlog, .evLost, .parts, .msix, .ntu, .image, .ace, .sfi, .dcp] s t) ∧
    (phaseAlone s 7 → Gives (exec .hostNote s) fun t => late 7 t ∧ t.rd NTU_SNAP_LT_VALUE = t.ntu.lt / 2 ^ 32 % 2 ^ 64 ∧
      t.rd NTU_SNAP_SEQ_VALUE = (s.rd NTU_SNAP_SEQ_VALUE + 1) % 2 ^ 64 ∧ Changes [.regs, .msix, .ntu] s t) ∧
    (∀ p ∈ ([(.cbIn, 0), (.rookIn, 1), (.aceDisp, 2), (.aceDl, 3), (.cbOut, 4), (.ethTx, 5), (.piSwap, 6),
        (.hostNote, 7)] : List (Instr × Nat)),
      bitAt s.ntu.cyc.phased p.2 = true → Gives (exec p.1 s) fun t => t = s) ∧
    (bitAt s.ntu.cyc.phased 6 = false → off 3 = off 6 → (∀ j ∈ [0, 1, 2, 4, 5], off j ≠ off 6) →
      Gives (exec .aceDl s) fun t => exec .piSwap s = exec .piSwap t)

/-- R22, R23, R24, R37: APPLY of a bank that meets the conditions is pending and of one that does not is refused; RUN starts
and stops the generator outside the cyclic modes only; an edge of SYNC_IN that EDGE selects and FILT passes is timestamped; a window that closes without an
edge sets NO_EDGE. -/
def Sys2Proof.Rules.cycleControl : Prop :=
  ∀ s : State, s.domOn 6 = true →
    let pend (t : State) := t.bit NTU_CYC_STAT_APPLY_PENDING
    (pend s = false → cycBankOk s.cycShadow s.ntu.cyc.act s.cyclicMode = true → Gives (exec .cycApply s) fun t =>
      pend t = true ∧ RegsBut [NTU_CYC_STAT] s t ∧ Changes [.regs] s t) ∧
    (pend s = false → cycBankOk s.cycShadow s.ntu.cyc.act s.cyclicMode = false → Gives (exec .cycApply s) fun t =>
      pend t = false ∧ t.bit NTU_CYC_STAT_APPLY_REFUSED = true ∧ RegsBut [NTU_CYC_STAT] s t ∧ Changes [.regs] s t) ∧
    (s.cyclicMode = false → s.cycRun = false → Gives (exec (.cycRunWrite true) s) fun t =>
      t.cycRun = true ∧ t.ntu.cyc.started = false ∧ t.ntu.cyc.nominal = s.ntu.lt ∧ t.rd NTU_CYC_COUNT_CYCLE = 0 ∧
        t.image.restart = true ∧ RegsBut [NTU_CYC_CTL, NTU_CYC_COUNT] s t ∧ Changes [.regs, .ntu, .image] s t) ∧
    (s.cyclicMode = false → s.cycRun = true → Gives (exec (.cycRunWrite false) s) fun t =>
      t.cycRun = false ∧ t.ntu.cyc.started = false) ∧
    (s.cyclicMode = true → ∀ b, s.cycRun ≠ b → Gives (exec (.cycRunWrite b) s) fun t =>
      t.cycRun = s.cycRun ∧ t.bit NTU_CYC_STAT_APPLY_REFUSED = true ∧ RegsBut [NTU_CYC_STAT] s t) ∧
    (∀ e : SyncEdge, e.rising = !s.bit NTU_SYNCIN_CFG_EDGE → s.rd NTU_SYNCIN_CFG_FILT ≤ e.held →
      Gives (exec (.syncInEdge e) s) fun t =>
        t.rd NTU_SYNCIN_TS_NS = e.at2 / 2 % 2 ^ 63 ∧ t.rd NTU_SYNCIN_TS_HALF = e.at2 % 2 ∧ Changes [.regs, .ntu] s t) ∧
    (∀ e : SyncEdge, e.rising = s.bit NTU_SYNCIN_CFG_EDGE ∨ e.held < s.rd NTU_SYNCIN_CFG_FILT →
      Gives (exec (.syncInEdge e) s) fun t => t = s) ∧
    (s.cycLive = true → s.ntu.cyc.closed = false → s.castling = false → Gives (exec .syncWindowClose s) fun t =>
      t.ntu.cyc.closed = true ∧ t.bit NTU_CYC_STAT_NO_EDGE = s.ntu.cyc.used.isNone ∧
        RegsBut [NTU_CYC_STAT] s t ∧ Changes [.regs, .ntu] s t)

/-- The phases of the network cycle, and the commands that control the cycle generator. -/
def Obligations.CyclePhasesAndControl : Prop :=
  Sys2Proof.Rules.cyclePhases ∧ Sys2Proof.Rules.cycleControl

/-- R70, R74, R10: TRIM takes a value in its range while nothing locks it, and refuses one outside it; a measurement waits for
the servo, and one that was still waiting is overrun; the servo consumes it and notes when. -/
def Sys2Proof.Rules.timeMeasurements : Prop :=
  ∀ (s : State) (x : Fin 2) (trim : BitVec 32) (e : Word), s.domOn 6 = true →
    let free := s.bit NTU_LT_TRIM_LOCK = false ∧ s.bit (cUCTL_LOCK uNTU) = false
    (free → trim.toInt.natAbs ≤ 1073742 → Gives (exec (.ltTrimWrite trim) s) fun t =>
      t.rdI NTU_LT_TRIM_TRIM = trim.toInt ∧ RegsBut [NTU_LT_TRIM] s t ∧ Changes [.regs] s t) ∧
    (free → 1073742 < trim.toInt.natAbs → Gives (exec (.ltTrimWrite trim) s) fun t =>
      t.reg NTU_LT_TRIM = s.reg NTU_LT_TRIM ∧ t.bit (cUSTAT_CFG_ERR uNTU) = true ∧ Changes [.regs] s t) ∧
    (¬free → Gives (exec (.ltTrimWrite trim) s) fun t => t = s) ∧
    ((s.td x).meas = none → Gives (exec (.tdMeasWrite x e) s) fun t =>
      (t.td x).meas = some e.toInt ∧ (t.td x).off = (s.td x).off ∧ RegsBut [] s t ∧ Changes [.ntu] s t) ∧
    ((s.td x).meas ≠ none → Gives (exec (.tdMeasWrite x e) s) fun t =>
      (t.td x).meas = some e.toInt ∧ RegsBut [NTU_TDx_STAT x] s t ∧ Changes [.regs, .ntu] s t ∧
        t.rd (NTU_TDx_STAT_MEAS_OVERRUN x) =
          satUnsigned (NTU_TDx_STAT_MEAS_OVERRUN x).width (s.rd (NTU_TDx_STAT_MEAS_OVERRUN x) + 1)) ∧
    (∀ m, (s.td x).meas = some m → s.tdState x ≠ 0 → Gives (exec (.servoConsume x) s) fun t =>
      (t.td x).meas = none ∧ (t.td x).lastAt = some s.ltNs ∧ Changes [.free, .regs, .ntu] s t)

/-- R73: HOLD, or four intervals without a measurement, take a LOCKED domain to HOLDOVER, which with HOLD_MS = 0 is FREE at
once; HOLDOVER ends in FREE after HOLD_MS. -/
def Sys2Proof.Rules.timeDomainStates : Prop :=
  ∀ (s : State) (x : Fin 2), s.domOn 6 = true →
    let held (t : State) : Prop := t.tdState x = if s.rd (NTU_TDx_CTL_HOLD_MS x) = 0 then 4 else 3
    (s.tdState x = 2 → Gives (exec (.tdHold x) s) fun t => held t ∧ Changes [.regs, .ntu] s t) ∧
    (∀ l, s.tdState x = 2 → (s.td x).lastAt = some l → (s.td x).interval ≠ 0 →
      Gives (exec (.tdHoldoverTimeout x) s) fun t =>
        held t ∧ (l + 4 * (s.td x).interval) * 2 ^ 32 ≤ t.ntu.lt ∧ Changes [.regs, .ntu] s t) ∧
    (s.tdState x = 3 → Gives (exec (.tdFreeTimeout x) s) fun t =>
      t.tdState x = 4 ∧ ((s.td x).holdAt + s.rd (NTU_TDx_CTL_HOLD_MS x) * 1000000) * 2 ^ 32 ≤ t.ntu.lt ∧
        Changes [.regs, .ntu] s t)

/-- Measurements and states of the time domains. -/
def Obligations.TimeDomains : Prop :=
  Sys2Proof.Rules.timeMeasurements ∧ Sys2Proof.Rules.timeDomainStates

/-- R77, R78, R72, R85: castling starts to the LOCKED domain that SRC does not name and is refused otherwise, and ends when
the gap is within a step; a snapshot takes LT and both domains; a read of a timestamp FIFO pops it, and an empty one reads
0. -/
def Sys2Proof.Rules.castlingAndStamps : Prop :=
  ∀ s : State, s.domOn 6 = true →
    let src := s.ntu.cyc.act.src
    let dest := if src = 1 then 1 else 0
    let ok := s.castling = false ∧ (src = 1 ∨ src = 2) ∧ s.tdState dest = 2
    (ok → Gives (exec .castlingGo s) fun t =>
      t.castling = true ∧ t.castTarget = dest ∧ t.ntu.castFrom = src - 1 ∧ t.ntu.castR = 0 ∧
        RegsBut [NTU_CAST_STAT] s t ∧ Changes [.regs, .ntu] s t) ∧
    (¬ok → Gives (exec .castlingGo s) fun t =>
      t.castling = s.castling ∧ t.bit NTU_CAST_STAT_REFUSED = true ∧ RegsBut [NTU_CAST_STAT] s t ∧ Changes [.regs] s t) ∧
    (s.castling = true → (s.ltEdges 1).castGap.natAbs ≤ s.castStep.natAbs → Gives (exec .castlingDone s) fun t =>
      t.castling = false ∧ t.bit NTU_CAST_STAT_DONE = true ∧ t.ntu.cyc.act.src = s.castTarget + 1 ∧
        t.ntu.lt = s.ntu.lt + s.ltStep ∧ RegsBut [NTU_CAST_STAT, NTU_CYC_CTL] s t) ∧
    Gives (exec .snapTake s) (fun t =>
      t.rd NTU_SNAP_SEQ_VALUE = (s.rd NTU_SNAP_SEQ_VALUE + 1) % 2 ^ 64 ∧
        t.rd NTU_SNAP_LT_VALUE = s.ntu.lt / 2 ^ 32 % 2 ^ 64 ∧
        t.rd NTU_SNAP_FRAC_LT_FRAC = s.ntu.lt / 2 ^ 16 % 2 ^ 16 ∧
        RegsBut [NTU_SNAP_SEQ, NTU_SNAP_LT, NTU_SNAP_TDA, NTU_SNAP_TDB, NTU_SNAP_FRAC] s t ∧ Changes [.regs] s t) ∧
    ∀ p : Fin 10,
      (s.txts p = [] → Gives (exec (.txtsPop p) s) fun t =>
        t.readData = 0 ∧ RegsBut [] s t ∧ Changes [.readData] s t) ∧
      (∀ r l, s.txts p = r :: l → Gives (exec (.txtsPop p) s) fun t =>
        t.readData.getLsbD 63 = true ∧ bitsOf t.readData 47 32 = r.tag % 65536 ∧ bitsOf t.readData 15 0 = r.frac % 65536 ∧
          t.txts p = l ∧ (t.reg (NTU_TXTSp_NS p)).toNat = r.ns % 2 ^ 64 ∧ RegsBut [NTU_TXTSp_NS p] s t ∧
          Changes [.regs, .ntu, .readData] s t)

/-- R91, R92: SYNC_OUT asserts at OFFSET after the boundary and falls WIDTH later; PPS_OUT asserts with its selected time at
a whole second plus OFFSET unless a pulse began less than 500 ms before, and falls after its width. -/
def Sys2Proof.Rules.timePins : Prop :=
  ∀ s : State, s.domOn 6 = true → s.castling = false →
    let w := s.ntu.syncOut
    let rise := s.ntu.cyc.nominal + bitsOf w 63 32 * 2 ^ 31
    (s.cycLive = true → bitsOf w 0 0 = 1 → rise < s.nextNominal → Gives (exec .syncOutAssert s) fun t =>
      t.ntu.syncOutOn = true ∧ rise ≤ t.ntu.lt ∧ RegsBut [] s t ∧ Changes [.regs, .ntu] s t) ∧
    (s.ntu.syncOutOn = true → Gives (exec .syncOutDeassert s) fun t =>
      t.ntu.syncOutOn = false ∧ RegsBut [] s t ∧ Changes [.regs, .ntu] s t) ∧
    (s.bit NTU_PPS_CFG_EN = true → s.rd NTU_PPS_CFG_SRC = 0 → s.ntu.ppsLast = none → Gives (exec .ppsAssert s) fun t =>
      t.ntu.ppsOn = true ∧ t.ntu.ppsLast = some t.ltNs ∧ s.ntu.lt ≤ t.ntu.lt ∧ RegsBut [] s t ∧ Changes [.regs, .ntu] s t) ∧
    ∀ l, s.ntu.ppsOn = true → s.ntu.ppsLast = some l → Gives (exec .ppsDeassert s) fun t =>
      t.ntu.ppsOn = false ∧ (l + s.rd NTU_PPS_CFG_WIDTH * 1000) * 2 ^ 32 ≤ t.ntu.lt ∧ RegsBut [] s t ∧
        Changes [.regs, .ntu] s t

/-- Castling, timestamps and the pins of the time unit. -/
def Obligations.CastlingAndTimePins : Prop :=
  Sys2Proof.Rules.castlingAndStamps ∧ Sys2Proof.Rules.timePins


/-! ## Ethernet ports and the switch core -/

/-- R97, R98, R99, R100: the states of a port. A designated OFF port starts at its configured speed, an enable during
STOPPING is pending, an undesignated port of DEGRADED stays as it is; calibration leads to LINK_WAIT, the link to UP and
its loss back; EN = 0 leads to STOPPING with the frame in transmission going on, and the stop, once the MAC has nothing more
to send, to OFF with CTL kept, or to the pending start. -/
def Sys2Proof.Rules.portStates : Prop :=
  ∀ (s : State) (p : Fin 10), s.domOn 6 = true →
    let st (t : State) := t.epcState p
    let two := [EPC_PORTp_CTL p, EPC_PORTp_STAT p]
    (s.portDesignated p = true → st s = 0 → Gives (exec (.portEnable p) s) fun t =>
      st t = 1 ∧ t.bit (EPC_PORTp_CTL_EN p) = true ∧ t.rd (EPC_PORTp_STAT_CUR_SPEED p) = s.rd (EPC_PORTp_CTL_SPEED p) ∧
        RegsBut two s t ∧ Changes [.regs, .epc] s t) ∧
    (s.portDesignated p = true → st s = 4 → Gives (exec (.portEnable p) s) fun t =>
      st t = 4 ∧ t.bit (EPC_PORTp_STAT_PENDING p) = true ∧ RegsBut two s t ∧ Changes [.regs] s t) ∧
    (s.portDesignated p = false → Gives (exec (.portEnable p) s) fun t => t = s) ∧
    (st s = 4 → Gives (exec (.portDisable p) s) fun t =>
      st t = 4 ∧ t.bit (EPC_PORTp_STAT_PENDING p) = false ∧ RegsBut two s t ∧ Changes [.regs] s t) ∧
    (1 ≤ st s → st s ≤ 3 → Gives (exec (.portDisable p) s) fun t =>
      st t = 4 ∧ t.bit (EPC_PORTp_CTL_EN p) = false ∧ t.bit (EPC_PORTp_STAT_PAUSED p) = false ∧
        t.txCur p = s.txCur p ∧ t.txHeld p = s.txHeld p ∧ (∀ c < 8, t.queue p c = []) ∧
        Changes [.regs, .sram, .mem, .swc, .rooks] s t) ∧
    (st s = 4 → s.txCur p = none → s.txHeld p = none → Gives (exec (.portStopDone p) s) fun t =>
      st t = b2n (s.bit (EPC_PORTp_STAT_PENDING p)) ∧ t.reg (EPC_PORTp_CNT p) = 0 ∧
        t.bit (EPC_PORTp_STAT_PENDING p) = false ∧
        RegsBut [EPC_PORTp_STAT p, EPC_PORTp_CNT p] s t ∧ Changes [.regs, .epc] s t) ∧
    (st s = 1 → Gives (exec (.portCalibrationDone p) s) fun t =>
      st t = 2 ∧ (t.epcPort p).waitSince = s.ltNs ∧ RegsBut [EPC_PORTp_STAT p] s t ∧ Changes [.regs, .epc] s t) ∧
    (st s = 2 → Gives (exec (.linkUp p) s) fun t =>
      st t = 3 ∧ t.bit (EPC_PORTp_STAT_NEG_FAIL p) = false ∧ RegsBut [EPC_PORTp_STAT p] s t ∧
        Changes [.regs, .epc] s t) ∧
    (st s = 3 → Gives (exec (.linkDown p) s) fun t =>
      st t = 2 ∧ CountsOne (EPC_PORTp_CNT_LINK_DOWN p) s t ∧ t.txCur p = none ∧
        (∀ c < 8, t.queue p c = []) ∧ Changes [.regs, .sram, .mem, .epc, .swc, .rooks] s t) ∧
    (st s = 2 → s.bit (EPC_PORTp_CTL_AN_EN p) = true → s.rd (EPC_PORTp_CTL_IF p) ∈ [0, 1, 2, 4] → Gives (exec (.negotiationFail p) s) fun t =>
      st t = 2 ∧ t.bit (EPC_PORTp_STAT_NEG_FAIL p) = true ∧ RegsBut [EPC_PORTp_STAT p] s t ∧ Changes [.regs] s t) ∧
    (st s = 3 → s.bit (EPC_PORTp_CTL_PREEMPT_EN p) = true → Gives (exec (.preemptVerifyDone p) s) fun t =>
      t.bit (SWC_PORTp_PRE_ACTIVE p) = true ∧ RegsBut [SWC_PORTp_PRE p] s t ∧ Changes [.regs] s t)

/-- R111, R106, R104, R109: an uplink under USXGMII in LINK_WAIT steps one rate down; a pause ends when its quanta have run
out; an underrun ends the frame with an inverted FCS over what went out, and raises THR while it is below MAX_LEN; a read of the counters clears them. -/
def Sys2Proof.Rules.portEvents : Prop :=
  ∀ (s : State) (p : Fin 10), s.domOn 6 = true →
    let e := s.epcPort p
    let cur := s.rd (EPC_PORTp_STAT_CUR_SPEED p)
    let thr := s.rd (EPC_PORTp_TXTHR_THR p)
    (s.epcState p = 2 → e.stepOn = true → s.rd (EPC_PORTp_CTL_IF p) = 4 → (cur = 4 ∨ cur = 5) →
      Gives (exec (.speedStep p) s) fun t =>
        t.rd (EPC_PORTp_STAT_CUR_SPEED p) = cur - 1 ∧ CountsOne (EPC_PORTp_STAT_STEPS p) s t ∧ t.epcState p = 2 ∧
          (threeDrops e s.ltNs = false → (e.waitSince + 2000000000) * 2 ^ 32 ≤ t.ntu.lt) ∧
          Changes [.regs, .sram, .mem, .ntu, .epc, .swc, .rooks] s t) ∧
    (s.bit (EPC_PORTp_STAT_PAUSED p) = true → e.pauseHold = none → Gives (exec (.pauseExpire p) s) fun t =>
      t.bit (EPC_PORTp_STAT_PAUSED p) = false ∧ e.pauseUntil * 2 ^ 32 ≤ t.ntu.lt ∧ Changes [.regs, .ntu, .swc] s t) ∧
    (∀ cur f n, s.txCur p = some cur → s.frame cur.frame = some f → s.epcState p = 3 →
      s.rd (EPC_PORTp_CTL_MAX_LEN p) ≤ 9216 → Gives (exec (.txUnderrun ⟨p, n⟩) s) fun t =>
        let l := (f.copyBytes p).take n
        CountsOne (EPC_PORTp_CNT_TX_UNDERRUN p) s t ∧ t.txCur p = none ∧
          t.swc.wire = (p.val, l ++ fcsBytes l true) :: s.swc.wire ∧
          t.rd (EPC_PORTp_TXTHR_THR p) = (if thr * 64 < s.rd (EPC_PORTp_CTL_MAX_LEN p) then thr + 1 else thr) ∧
          Changes [.regs, .epc, .swc, .rooks] s t) ∧
    Gives (exec (.epcCntRead p) s) fun t =>
      t.readData = s.reg (EPC_PORTp_CNT p) ∧ t.reg (EPC_PORTp_CNT p) = 0 ∧ RegsBut [EPC_PORTp_CNT p] s t ∧
        Changes [.regs, .readData] s t

/-- States of the Ethernet ports, and what happens at one. -/
def Obligations.EthernetPorts : Prop :=
  Sys2Proof.Rules.portStates ∧ Sys2Proof.Rules.portEvents

/-- R102, R106, R124: an UP port hands a good frame, whole or in the fragments of a preempted one, to the SWC, tagged with
the generation of that moment; with cut-through off a faulty frame only counts; a MAC control frame does not reach the SWC,
and a PAUSE pauses transmission, from now or from the end of the frame in transmission. -/
def Obligations.PortReceives : Prop :=
  ∀ (s : State) (p : Fin 10) (frags : List (List Byte)) (raw2 : Nat), s.domOn 6 = true → s.epcState p = 3 →
    let rx (f : MacFault) := exec (.macFrameReceive p frags f raw2) s
    let only (f : Fld) (t : State) : Prop := CountsOne f s t ∧ RegsBut [f.addr] s t ∧ Changes [.regs] s t
    let bytes := frags.flatten
    let ctl := beAt bytes 12 2 = 0x8808
    let quanta := beAt bytes 16 2
    (2 ≤ frags.length → s.bit (EPC_PORTp_CTL_PREEMPT_EN p) = false → s.bit (SWC_PORTp_CTL_CT_EN p) = false →
      Gives (rx .none) (only (EPC_PORTp_CNT_RX_CODE_ERR p))) ∧
    (frags.length ≤ 1 ∨ s.bit (EPC_PORTp_CTL_PREEMPT_EN p) = true →
      (60 ≤ bytes.length → bytes.length + 4 ≤ s.rd (EPC_PORTp_CTL_MAX_LEN p) → ¬ctl → s.swc.recovering = false →
        Gives (rx .none) fun t => ∃ f, t.swc.arrived = s.swc.arrived ++ [f] ∧ f.ingress = p.val ∧ f.gen = s.swc.genAbs ∧
          f.born = s.ltNs ∧ f.bad = false ∧ RegsBut [NTU_PORTp_STAT p] s t ∧ Changes [.regs, .swc] s t ∧
          (s.bit (NTU_PORTp_CFG_ASYM_EN p) = false → f.bytes = bytes ∧ Changes [.swc] s t)) ∧
      (bytes.length < 60 → Gives (rx .none) (only (EPC_PORTp_CNT_RX_RUNT p))) ∧
      (s.bit (SWC_PORTp_CTL_CT_EN p) = false →
        Gives (rx .fcs) (only (EPC_PORTp_CNT_RX_FCS_ERR p)) ∧ Gives (rx .cut) (only (EPC_PORTp_CNT_RX_FCS_ERR p)) ∧
        Gives (rx .code) (only (EPC_PORTp_CNT_RX_CODE_ERR p)) ∧
        Gives (rx .assembly) (only (EPC_PORTp_CNT_RX_FCS_ERR p)) ∧
        (60 ≤ bytes.length → s.rd (EPC_PORTp_CTL_MAX_LEN p) < bytes.length + 4 →
          Gives (rx .none) (only (EPC_PORTp_CNT_RX_OVERSIZE p)))) ∧
      (60 ≤ bytes.length → bytes.length + 4 ≤ s.rd (EPC_PORTp_CTL_MAX_LEN p) → ctl →
        (s.bit (EPC_PORTp_CTL_PAUSE_EN p) = false → Gives (rx .none) (only (EPC_PORTp_CNT_RX_CTRL_DROP p))) ∧
        (s.bit (EPC_PORTp_CTL_PAUSE_EN p) = true → beAt bytes 14 2 = 1 → frDa bytes = 0x0180C2000001 →
          Gives (rx .none) fun t =>
            t.bit (EPC_PORTp_STAT_PAUSED p) = decide (quanta ≠ 0) ∧ CountsOne (EPC_PORTp_CNT_TX_PAUSED p) s t ∧
              (quanta ≠ 0 → s.txCur p = none → s.txHeld p = none →
                (t.epcPort p).pauseUntil = s.ltNs + s.quantaNs p quanta) ∧
              (quanta ≠ 0 → s.txCur p ≠ none → (t.epcPort p).pauseHold = some (s.quantaNs p quanta)) ∧
              t.swc.arrived = s.swc.arrived ∧ Changes [.regs, .epc, .swc] s t)))

/-- R125, R127: an operation is staged whole with its data words, and not above 64; a READ gives the entry as it stands; a
COMMIT of a batch that applies makes its tables the next generation, one that fails changes no table and names the
failure, and ABORT discards the batch. -/
def Sys2Proof.Rules.tableUpdates : Prop :=
  ∀ (s : State) (tab op : BitVec 4) (i : BitVec 14), s.domOn 6 = true →
    let r := s.swc.tables.applyAll s.swc.batch 0
    let stat := SWC_GEN_STAT
    (tab.toNat ≤ 6 → op.toNat ≤ 3 → s.swc.batch.length < 64 → Gives (exec (.updOp tab op i) s) fun t =>
      t.swc.batch = s.swc.batch ++ [⟨tab.toNat, op.toNat, i.toNat, s.updData.take (updWords tab.toNat)⟩] ∧
        t.rd SWC_GEN_STAT_STAGED = s.swc.batch.length + 1 ∧ t.swc.tables = s.swc.tables ∧
        RegsBut [stat] s t ∧ Changes [.regs, .swc] s t) ∧
    (tab.toNat ≤ 6 → op.toNat ≤ 3 → 64 ≤ s.swc.batch.length → Gives (exec (.updOp tab op i) s) fun t =>
      t.bit SWC_GEN_STAT_FAIL = true ∧ t.rd SWC_GEN_STAT_RESULT = 4 ∧ RegsBut [stat] s t ∧ Changes [.regs] s t) ∧
    (tab.toNat = 3 → i.toNat < 1024 → Gives (exec (.updRead tab i) s) fun t =>
      t.reg (SWC_UPD_DATAk 0) = putBits (s.swc.tables.filterAt i.toNat) 61 61 (b2n (s.sfBlocked s.swc.tables i.toNat)) ∧
        Changes [.regs] s t) ∧
    (tab.toNat = 0 → Gives (exec (.updRead tab i) s) fun t =>
      (t.reg (SWC_UPD_DATAk 0), t.reg (SWC_UPD_DATAk 1)) = s.swc.tables.fstAt i.toNat ∧ Changes [.regs] s t) ∧
    (s.bit SWC_GEN_STAT_BUSY = false → r.1 = 0 → s.batchHeld = false → Gives (exec .swcCommit s) fun t =>
      t.swc.tables = r.2.2.stampFilters (s.swc.genAbs + 1) s.swc.batch ∧ t.swc.genAbs = s.swc.genAbs + 1 ∧ t.swc.batch = [] ∧ t.bit SWC_GEN_STAT_DONE = true ∧
        t.rd SWC_GEN_STAT_RESULT = 0 ∧ t.rd SWC_GEN_STAT_GEN = (s.swc.genAbs + 1) % 65536 ∧ RegsBut [stat] s t ∧
        Changes [.regs, .swc] s t) ∧
    (s.bit SWC_GEN_STAT_BUSY = false → r.1 ≠ 0 → Gives (exec .swcCommit s) fun t =>
      t.swc.tables = s.swc.tables ∧ t.swc.genAbs = s.swc.genAbs ∧ t.swc.batch = [] ∧ t.bit SWC_GEN_STAT_FAIL = true ∧
        t.rd SWC_GEN_STAT_RESULT = r.1 % 16 ∧ t.rd SWC_GEN_STAT_FAIL_INDEX = r.2.1 % 64 ∧ RegsBut [stat] s t ∧
        Changes [.regs, .swc] s t) ∧
    (s.bit SWC_GEN_STAT_BUSY = false → r.1 = 0 → s.batchHeld = true → Gives (exec .swcCommit s) fun t =>
      t.bit SWC_GEN_STAT_HOLD_WAIT = true ∧ t.bit SWC_GEN_STAT_BUSY = true ∧ RegsBut [stat] s t ∧ Changes [.regs] s t) ∧
    (s.bit SWC_GEN_STAT_HOLD_WAIT = true → r.1 = 0 → s.batchHeld = false → Gives (exec .commitHoldRelease s) fun t =>
      t.swc.tables = r.2.2.stampFilters (s.swc.genAbs + 1) s.swc.batch ∧ t.bit SWC_GEN_STAT_HOLD_WAIT = false ∧ t.bit SWC_GEN_STAT_BUSY = false ∧
        t.bit SWC_GEN_STAT_DONE = true ∧ RegsBut [stat] s t ∧ Changes [.regs, .swc] s t) ∧
    Gives (exec .swcAbort s) fun t =>
      t.swc.batch = [] ∧ t.rd SWC_GEN_STAT_STAGED = 0 ∧ t.bit SWC_GEN_STAT_BUSY = false ∧
        t.bit SWC_GEN_STAT_HOLD_WAIT = false ∧ t.swc.tables = s.swc.tables ∧ RegsBut [stat] s t ∧
        Changes [.regs, .swc] s t

/-- R134, R135, R130, R132, R146, R122: APPLY of a legal gate list is pending and of another refused; each advance puts the
next entry in force at its start; a FRER function without frames for RESET_MS takes any; a consumer count from CONS to
PROD is taken and another refused; AGE_S = 0 ages nothing. -/
def Sys2Proof.Rules.switchLists : Prop :=
  ∀ (s : State) (p : Fin 16) (g : Fin 64) (f : Fin 1024) (v : BitVec 32), s.domOn 6 = true →
    let ctl := SWC_PORTp_GCL_CTL p
    let i := s.gclIdx p + 1
    let at1 := s.ntu.cyc.edge + s.gclStart p i * 2 ^ 32
    let j := s.sgIdx s.swc.tables g
    let iv := fun j => bitsOf (s.swc.tables.gateAt (16 * g.val + j)) 31 0
    let at2 := s.ntu.cyc.edge + sumNat ((List.range (j + 1)).map iv) * 2 ^ 32
    let fr (t : State) := mapGet (fun _ => FrerSt.reset) t.swc.frers f
    let w := s.swc.tables.frerAt f
    (s.bit (SWC_PORTp_GCL_CTL_APPLY_PENDING p) = false → s.gclOk p = true → Gives (exec (.gclApply p) s) fun t =>
      t.bit (SWC_PORTp_GCL_CTL_APPLY_PENDING p) = true ∧ RegsBut [ctl] s t ∧ Changes [.regs] s t) ∧
    (s.bit (SWC_PORTp_GCL_CTL_APPLY_PENDING p) = false → s.gclOk p = false → Gives (exec (.gclApply p) s) fun t =>
      t.bit (SWC_PORTp_GCL_CTL_APPLY_PENDING p) = false ∧ t.bit (SWC_PORTp_GCL_CTL_APPLY_REFUSED p) = true ∧
        RegsBut [ctl] s t ∧ Changes [.regs] s t) ∧
    (s.gclRuns p = true → i < s.gclLen p → at1 < s.nextNominal → Gives (exec (.gclEntryAdvance p) s) fun t =>
      t.gclIdx p = i ∧ at1 ≤ t.ntu.lt ∧ Changes [.regs, .ntu, .swc] s t) ∧
    (s.cycLive = true → j < 15 → iv j ≠ 0 → iv (j + 1) ≠ 0 → at2 < s.nextNominal →
      Gives (exec (.streamGateAdvance g) s) fun t =>
        j + 1 ≤ t.sgIdx t.swc.tables g ∧ at2 ≤ t.ntu.lt ∧ Changes [.regs, .ntu] s t) ∧
    (2 ≤ bitsOf w 63 62 → (fr s).takeAny = false → Gives (exec (.frerRecoveryReset f) s) fun t =>
      (fr t).takeAny = true ∧ ((fr s).last + bitsOf w 54 39 * 1000000) * 2 ^ 32 ≤ t.ntu.lt ∧
        Changes [.regs, .ntu, .swc] s t) ∧
    ((v.toNat + 2 ^ 32 - s.rd SWC_MIR_CONS_COUNT) % 2 ^ 32 ≤ s.mirUsed → Gives (exec (.mirConsWrite v) s) fun t =>
      t.rd SWC_MIR_CONS_COUNT = v.toNat ∧ t.bit SWC_MIR_STAT_FULL = decide (t.mirUsed = 2048) ∧
        RegsBut [SWC_MIR_CONS, SWC_MIR_STAT] s t ∧ Changes [.regs] s t) ∧
    (s.mirUsed < (v.toNat + 2 ^ 32 - s.rd SWC_MIR_CONS_COUNT) % 2 ^ 32 → Gives (exec (.mirConsWrite v) s) fun t =>
      t.reg SWC_MIR_CONS = s.reg SWC_MIR_CONS ∧ t.bit (cUSTAT_CFG_ERR uSWC) = true ∧ Changes [.regs] s t) ∧
    (s.rd SWC_GEN_CTL_AGE_S = 0 → Gives (exec .agingSweep s) fun t => t = s) ∧
    (s.rd SWC_GEN_CTL_AGE_S ≠ 0 → ∀ e h, s.swc.tables.fst = [(h, e)] → bitsOf e.1 63 62 = 2 →
      let due := (s.swc.ageAt + s.rd SWC_GEN_CTL_AGE_S * 1000000000) * 2 ^ 32
      (bitsOf e.2 48 48 = 0 → Gives (exec .agingSweep s) fun t =>
        t.swc.tables.fst = [] ∧ t.swc.genAbs = s.swc.genAbs + 1 ∧ due ≤ t.ntu.lt ∧ Changes [.regs, .ntu, .swc] s t) ∧
      (bitsOf e.2 48 48 = 1 → Gives (exec .agingSweep s) fun t =>
        bitsOf (t.swc.tables.fstAt h).2 48 48 = 0 ∧ t.swc.genAbs = s.swc.genAbs ∧ due ≤ t.ntu.lt ∧
          Changes [.regs, .ntu, .swc] s t))

/-- Update batches and lists of the switch. -/
def Obligations.SwitchTables : Prop :=
  Sys2Proof.Rules.tableUpdates ∧ Sys2Proof.Rules.switchLists

/-- R114, R133, R137, R142, R143, R145, R531: the frame that waits longest is decided; the head of the highest class that is
ready starts, corrected cell errors count, and its transmission ends; an uncorrectable one stomps the frame in transmission
and counts it; a starved head is discarded; an audit without mismatch changes nothing and one with a mismatch stops ingress;
a recovery discards every frame and ingress resumes with a RESTART image. -/
def Obligations.SwitchFrames : Prop :=
  ∀ (s : State) (p : Fin 16) (c : Fin 8) (corr : BitVec 8) (raw : Nat) (x : EthFrame) (l : List EthFrame) (id : Nat)
      (q : List Nat), s.domOn 6 = true →
    let u := s.creditPort p
    (s.swc.arrived = x :: l → Gives (exec .swcFrameIngress s) fun t =>
      t.swc.arrived = l ∧ t.swc.mp = s.swc.mp ∧ t.swc.wire = s.swc.wire ∧
        Changes [.regs, .sram, .mem, .ntu, .swc, .rooks] s t) ∧
    (p.val < 10 ∨ 14 ≤ p.val → s.txCur p = none → s.txHeld p = none → s.classReady p c = true →
      u.classReady p c = true → (∀ d : Fin 8, c < d → u.classReady p d = false) → s.queue p c = id :: q →
      Gives (exec (.egressFrameStart p corr false) s) fun t =>
        (∃ y, t.txCur p = some y ∧ y.frame = id ∧ y.stomp = false) ∧ t.queue p c = q.filter (· ≠ id) ∧
          (∀ f, t.frame f = s.frame f) ∧
          t.rd SWC_BUF_STAT_ECC_CORR = min 65535 (s.rd SWC_BUF_STAT_ECC_CORR + corr.toNat) ∧
          (∀ a : Fin 16, a ≠ p → t.txCur a = s.txCur a) ∧ Changes [.regs, .swc] s t) ∧
    (∀ f y, p.val < 10 → s.txCur p = some y → y.frame = id → s.preemptable p y.cls = false → s.frame id = some f →
      f.egress = 2 ^ p.val → s.bit SWC_MIR_CTL_DROPS = false →
      Gives (exec (.egressFrameStart p 0 true) s) fun t =>
        t.txCur p = some { y with stomp := true } ∧ CountsOne SWC_CNT0_BUF_ECC s t ∧ CountsOne SWC_CNT0_STOMPED s t ∧
          (∀ a : Fin 16, a ≠ p → t.txCur a = s.txCur a) ∧ Changes [.regs, .swc] s t) ∧
    (∀ y, s.txCur p = some y → s.frame y.frame = none → Gives (exec (.macFrameTxEnd p raw) s) fun t =>
      t.txCur p = none) ∧
    (∀ f y, p.val = 15 → s.txCur p = some y → y.frame = id → s.frame id = some f → f.rtag = none →
      bitAt (s.rd SWC_MIR_CTL_EG_MASK) p = false → Gives (exec (.macFrameTxEnd p raw) s) fun t =>
        t.txCur p = none ∧ t.swc.mp = s.swc.mp ++ [f] ∧ s.txDoneAt p y f * 2 ^ 32 ≤ t.ntu.lt ∧
          Changes [.regs, .sram, .mem, .ntu, .epc, .swc, .rooks] s t) ∧
    (∀ f y, p.val < 10 → s.txCur p = some y → y.frame = id → s.frame id = some f → ptpAny (f.copyBytes p) = none →
      y.stomp = false → bitAt (s.rd SWC_MIR_CTL_EG_MASK) p = false → Gives (exec (.macFrameTxEnd p raw) s) fun t =>
        t.txCur p = none ∧ t.swc.wire = (p.val, f.copyBytes p ++ fcsBytes (f.copyBytes p) false) :: s.swc.wire ∧
          s.txDoneAt p y f * 2 ^ 32 ≤ t.ntu.lt ∧ Changes [.regs, .sram, .mem, .ntu, .epc, .swc, .rooks] s t) ∧
    (s.queue p c = id :: q → q.contains id = false → (p.val < 10 → s.bit (EPC_PORTp_STAT_PAUSED p) = false) →
      (s.frame id).isSome = true →
      Gives (exec (.gateStarve p c) s) fun t => t.queue p c = q ∧ CountsOne (SWC_PORTp_CNT_GATE_STARVE p) s t ∧
        s.starveAt p c ≤ t.ntu.lt ∧ Changes [.regs, .sram, .mem, .ntu, .swc, .rooks] s t) ∧
    Gives (exec (.freeListAudit false) s) (fun t => t = s) ∧
    (s.swc.recovering = false → Gives (exec (.freeListAudit true) s) fun t =>
      t.swc.recovering = true ∧ bitAt (t.rd SYSCTL_FAULT_STAT_SEEN) 1 = true ∧
        Changes [.regs, .pendMode, .evlog, .evLost, .swc, .dcp] s t) ∧
    Gives (exec .swcRecovery s) fun t =>
      t.swc.recovering = false ∧ t.swc.queues = [] ∧ t.swc.tx = [] ∧ t.swc.arrived = [] ∧ t.image.restart = true ∧
        Changes [.regs, .sram, .pendMode, .mem, .evlog, .evLost, .image, .swc, .rooks, .dcp] s t


/-! ## Cabinet Bus -/

/-- R244, R250, R258: EN = 1 starts an OFF segment in PREOP and the cyclic modes with LISTEN and is pending during STOPPING;
EN = 0 stops a segment; 1 µs later it is OFF, or listens again where an enable was pending; a BACKUP listens when the
active master falls silent; another master makes a listening segment its BACKUP, which echoes its STARTUP with one hop more
and answers its ENUM. -/
def Sys2Proof.Rules.segmentStates : Prop :=
  ∀ (s : State) (g : Fin 4) (f : ForeignFrame), s.domOn 8 = true →
    let st (t : State) := t.segState g
    let x := s.seg g
    let id := f.id.toNat
    let runs := s.mode = 4 ∨ s.mode = 5 ∨ s.cyclicMode = true
    (st s = 0 → s.mode = 5 ∨ s.cyclicMode = true → Gives (exec (.cbSegEnable g) s) fun t =>
      st t = 1 ∧ t.bit (CBC_SEGs_CTL_EN g) = true ∧ (t.seg g).attempt = 1 ∧ (t.seg g).since = s.ntu.lt ∧
        (t.seg g).reqs = x.reqs ∧ Changes [.regs, .cbc] s t) ∧
    (st s = 7 → Gives (exec (.cbSegEnable g) s) fun t =>
      st t = 7 ∧ t.bit (CBC_SEGs_STAT_PENDING g) = true ∧ RegsBut [CBC_SEGs_CTL g, CBC_SEGs_STAT g] s t ∧
        Changes [.regs] s t) ∧
    (st s ≠ 0 → st s ≠ 7 → s.mode ≠ 11 → Gives (exec (.cbSegDisable g) s) fun t =>
      st t = 7 ∧ t.bit (CBC_SEGs_CTL_EN g) = false ∧ (t.seg g).since = s.ntu.lt ∧ (t.seg g).confq = [] ∧
        RegsBut [CBC_SEGs_CTL g, CBC_SEGs_STAT g] s t ∧ Changes [.regs, .cbc] s t) ∧
    (st s = 7 → s.mode ≠ 11 → Gives (exec (.cbSegStopDone g) s) fun t =>
      (runs → st t = b2n (s.bit (CBC_SEGs_STAT_PENDING g))) ∧ (¬runs → st t = 0) ∧ (t.seg g).reqs = x.reqs ∧ (t.seg g).nodes = [] ∧
        t.reg (CBC_SEGs_CNT0 g) = 0 ∧ (s.domOn 6 = true → x.since + 1000 * 2 ^ 32 ≤ t.ntu.lt) ∧
        Changes [.regs, .ntu, .cbc] s t) ∧
    (s.segListens g = true ∨ st s = 5 → id = 0 ∨ 17 < id → Gives (exec (.cbForeignMaster g f) s) fun t =>
      CountsOne (CBC_SEGs_CNT0_FMT_ERR g) s t ∧ RegsBut [CBC_SEGs_CNT0 g] s t ∧ Changes [.regs] s t) ∧
    (s.segListens g = true ∨ st s = 5 → 1 ≤ id → id ≤ 17 →
      (f.what = .csf → Gives (exec (.cbForeignMaster g f) s) fun t =>
        st t = 5 ∧ t.rd (CBC_SEGs_STAT_ACTIVE_MASTER g) = id ∧ (t.seg g).line = x.line ∧
          RegsBut [CBC_SEGs_STAT g] s t ∧ Changes [.regs, .cbc] s t) ∧
      (∀ hop att, f.what = .startup hop att → Gives (exec (.cbForeignMaster g f) s) fun t =>
        st t = 5 ∧ t.rd (CBC_SEGs_STAT_ACTIVE_MASTER g) = id ∧ (t.seg g).hop = (hop.toNat + 1) % 256 ∧
          (t.seg g).line = (s.ntu.lt, cbFrame 6 0 id [BitVec.ofNat 8 (hop.toNat + 1), BitVec.ofNat 8 att.toNat, 0, 0]) :: x.line ∧
          RegsBut [CBC_SEGs_STAT g] s t ∧ Changes [.regs, .cbc] s t) ∧
      (∀ spacing, f.what = .enum spacing → st s = 5 → Gives (exec (.cbForeignMaster g f) s) fun t =>
        st t = 5 ∧ (∃ l, (t.seg g).line = l :: x.line ∧ l.1 = t.ntu.lt ∧ l.2.take 4 = (cbFrame 8 0 0
          (BitVec.ofNat 8 x.hop :: List.replicate 7 0)).take 4) ∧ Changes [.regs, .ntu, .cbc] s t)) ∧
    (st s = 5 → Gives (exec (.cbBackupTakeover g) s) fun t =>
      st t = 1 ∧ (t.seg g).attempt = 1 ∧ (t.seg g).since = s.ntu.lt ∧ RegsBut [CBC_SEGs_STAT g] s t ∧
        Changes [.regs, .cbc] s t)

/-- R244, R245, R246: a silent T_LISTEN ends with a STARTUP frame; a good echo within 10 µs gives LINE_HOPS and leads to
ENUM, a bad one only counts; a failed echo leads back to LISTEN and, at the eighth attempt, to FAULT; the back-off ends
with the next attempt. -/
def Sys2Proof.Rules.segmentBringUp : Prop :=
  ∀ (s : State) (g : Fin 4) (hop : BitVec 8) (ns : Nat) (sig : Bool), s.domOn 8 = true → s.domOn 6 = true →
    let st (t : State) := t.segState g
    let x := s.seg g
    let echo := st s = 2 ∧ x.stage = 0
    (s.segListens g = true → x.backoff = false → Gives (exec (.cbListenExpire g) s) fun t =>
      st t = 2 ∧ (t.seg g).stage = 0 ∧ x.since + s.rd (CBC_SEGs_TIMING_T_LISTEN g) * 1000 * 2 ^ 32 ≤ t.ntu.lt ∧
        (t.seg g).line.head? = some (t.ntu.lt, cbFrame 6 0 0 [0, BitVec.ofNat 8 x.attempt, 0, 0]) ∧
        Changes [.regs, .ntu, .cbc] s t) ∧
    (s.segListens g = true → x.backoff = true → Gives (exec (.cbBackoffExpire g) s) fun t =>
      (t.seg g).backoff = false ∧ (t.seg g).attempt = x.attempt + 1 ∧ (t.seg g).since = s.ntu.lt ∧
        Changes [.cbc] s t) ∧
    (echo → ns ≤ 10000 → Gives (exec (.cbEchoReceive g .good hop ns) s) fun t =>
      (t.seg g).stage = 1 ∧ (t.seg g).nodes = [] ∧ t.rd (CBC_SEGs_STAT_LINE_HOPS g) = min hop.toNat 63 ∧
        (t.seg g).line.head? = some (t.ntu.lt, cbFrame 7 0 0 [0, 40, 0, 0]) ∧ Changes [.regs, .ntu, .cbc] s t) ∧
    (echo → Gives (exec (.cbEchoReceive g .crc hop ns) s) fun t =>
      CountsOne (CBC_SEGs_CNT0_CRC_ERR g) s t ∧ RegsBut [CBC_SEGs_CNT0 g] s t ∧ Changes [.regs] s t) ∧
    (echo → x.attempt < 8 → Gives (exec (.cbEchoTimeout g sig ns) s) fun t =>
      st t = 1 ∧ (t.seg g).backoff = true ∧ (t.seg g).since = t.ntu.lt ∧ Changes [.regs, .ntu, .cbc] s t) ∧
    (echo → 8 ≤ x.attempt → Gives (exec (.cbEchoTimeout g sig ns) s) fun t =>
      st t = 6 ∧ t.rd (CBC_SEGs_STAT_FAIL g) = (if x.signal || sig then 1 else 2) ∧
        bitAt (t.rd SYSCTL_FAULT_STAT_SEEN) 4 = true ∧
        Changes [.regs, .pendMode, .evlog, .evLost, .ntu, .cbc, .dcp] s t)

/-- States of a Cabinet Bus segment, and its start. -/
def Obligations.SegmentStart : Prop :=
  Sys2Proof.Rules.segmentStates ∧ Sys2Proof.Rules.segmentBringUp

/-- R247, R248: a good response inside the window enters a new node with its hop and its delay; a second response of an ID
from another hop marks it DUP and counts a clash; the window's end leads to configuration of enumerated nodes only. -/
def Sys2Proof.Rules.segmentEnumerates : Prop :=
  ∀ (s : State) (g : Fin 4) (id : BitVec 5) (hop kind : BitVec 8) (caps : BitVec 16) (uid : BitVec 32) (rx2 : Nat),
    s.domOn 8 = true → s.segState g = 2 → (s.seg g).stage = 1 →
    let n := (s.seg g).node id.toNat
    let ok := (1 ≤ id.toNat ∧ id.toNat ≤ 17) ∧ (1 ≤ hop.toNat ∧ hop.toNat ≤ 17) ∧ (kind = 1 ∨ kind = 2) ∧ caps.toNat ≤ 1
    let rsp := exec (.cbEnumRspReceive g .good id hop kind caps uid rx2) s
    (ok → rx2 ≤ enumLimit2 (s.rd (CBC_SEGs_STAT_LINE_HOPS g)) → n.hop = 0 → Gives rsp fun t =>
      (t.seg g).node id.toNat = { n with hop := hop.toNat, delay := enumDelay rx2 hop.toNat } ∧
        (∀ i, i ≠ id.toNat → (t.seg g).node i = (s.seg g).node i) ∧ Changes [.regs, .ntu, .cbc] s t) ∧
    (ok → rx2 ≤ enumLimit2 (s.rd (CBC_SEGs_STAT_LINE_HOPS g)) → n.hop ≠ 0 → n.hop ≠ hop.toNat → Gives rsp fun t =>
      (t.seg g).node id.toNat = { n with dup := true } ∧ CountsOne (CBC_SEGs_CNT1_ADDR_CLASH g) s t ∧
        Changes [.regs, .ntu, .cbc] s t) ∧
    (¬ok → Gives rsp fun t => CountsOne (CBC_SEGs_CNT0_FMT_ERR g) s t ∧ Changes [.regs] s t) ∧
    Gives (exec (.cbEnumWindowEnd g) s) fun t =>
      (t.seg g).stage = (if (t.seg g).confq = [] then 3 else 2) ∧ t.segState g = 2 ∧
        (∀ c ∈ (t.seg g).confq, ((s.seg g).node c.node).hop ≠ 0 ∧ ((s.seg g).node c.node).dup = false) ∧
        Changes [.regs, .ntu, .cbc] s t

/-- R249, R250, R233: an acknowledgement of the CONF that was sent makes its node present; without one the CONF is repeated
twice, and after the third a REQUIRED node's start-up is a FAULT and a pending bank is refused with reason 9; a configured
segment enters SYNC; an APPLY of a bank that passes the check is pending and another is refused with its reason. -/
def Sys2Proof.Rules.segmentConfigures : Prop :=
  ∀ (s : State) (g : Fin 4) (id : BitVec 5) (c : CbConf) (q : List CbConf), s.domOn 8 = true →
    let x := s.seg g
    let ack (res : BitVec 8) := exec (.cbConfAckReceive g .good id res (BitVec.ofNat 16 c.sgen)) s
    let waits := x.confq = c :: q ∧ c.sent = true
    let mine := waits ∧ c.node = id.toNat ∧ c.sgen < 65536
    let all := ∀ i < 17, s.segRequired g (i + 1) = true → (x.node (i + 1)).present = true
    (mine → Gives (ack 0) fun t => ((t.seg g).node c.node).present = true ∧
      (s.segState g ≠ 2 → (t.seg g).confq = q ∧ Changes [.cbc] s t)) ∧
    (mine → s.segState g ≠ 2 → c.tries < 3 → Gives (ack 1) fun t =>
      (t.seg g).confq = { c with sent := false } :: q ∧ (t.seg g).nodes = x.nodes ∧ Changes [.cbc] s t) ∧
    (waits → s.segState g ≠ 2 → c.tries < 3 → Gives (exec (.cbConfAckTimeout g) s) fun t =>
      (t.seg g).confq = { c with sent := false } :: q ∧ Changes [.regs, .ntu, .cbc] s t) ∧
    (waits → s.segState g ≠ 2 → 3 ≤ c.tries → Gives (exec (.cbConfAckTimeout g) s) fun t =>
      t.bit CBC_SCHED_STAT_APPLY_REFUSED = true ∧ t.bit CBC_SCHED_STAT_APPLY_PENDING = false ∧
        t.rd CBC_SCHED_STAT_REASON = 9 ∧ Changes [.regs, .ntu, .cbc] s t) ∧
    (waits → s.segState g = 2 → 3 ≤ c.tries → s.segRequired g c.node = true →
      Gives (exec (.cbConfAckTimeout g) s) fun t =>
        t.segState g = 6 ∧ t.rd (CBC_SEGs_STAT_FAIL g) = 3 ∧ (t.seg g).confq = [] ∧
          Changes [.regs, .pendMode, .evlog, .evLost, .ntu, .cbc, .dcp] s t) ∧
    (s.segState g = 2 → x.stage = 3 → all → s.cycRun = true → Gives (exec (.cbSyncEntry g) s) fun t =>
      t.segState g = (if s.cyclicMode then 4 else 3) ∧ (t.seg g).waitBnd = true ∧ (t.seg g).restart = true ∧
        (t.seg g).csfs = 0 ∧ RegsBut [CBC_SEGs_STAT g] s t ∧ Changes [.regs, .cbc] s t) ∧
    (s.bit CBC_SCHED_STAT_APPLY_PENDING = false →
      (s.schedCheck (s.schedValid schedShadowBase) = none → Gives (exec .cbSchedApply s) fun t =>
        t.bit CBC_SCHED_STAT_APPLY_PENDING = true ∧ RegsBut [CBC_SCHED_STAT] s t ∧ Changes [.regs, .cbc] s t) ∧
      (∀ r e, s.schedCheck (s.schedValid schedShadowBase) = some (r, e) → Gives (exec .cbSchedApply s) fun t =>
        t.bit CBC_SCHED_STAT_APPLY_PENDING = false ∧ t.bit CBC_SCHED_STAT_APPLY_REFUSED = true ∧
          t.rd CBC_SCHED_STAT_REASON = r ∧ t.bit CBC_SCHED_STAT_NO_INDEX = e.isNone ∧
          RegsBut [CBC_SCHED_STAT] s t ∧ Changes [.regs, .cbc] s t))

/-- Enumeration and configuration of a segment. -/
def Obligations.SegmentDevices : Prop :=
  Sys2Proof.Rules.segmentEnumerates ∧ Sys2Proof.Rules.segmentConfigures

/-- R236, R237, R256, R257: a good reply in its window settles its slot and gives the node's flags and deviation; an early or
late one counts and settles it, an /S/ outside the slot does nothing; a slot without a reply counts a miss; babble is
noted once per cycle; a segment that listens or is a backup counts what it discards. -/
def Sys2Proof.Rules.segmentCycle : Prop :=
  ∀ (s : State) (g : Fin 4) (e : Fin 4096) (d2 : Int) (err safe : Bool) (bytes : List Byte) (k : Nat) (x : SchedEnt)
      (v : CbVerdict),
    s.domOn 8 = true →
    (s.openSlot g e = some x → x.type = 0 →
      let rx := exec (.cbReplyReceive g e .good d2 err safe bytes k) s
      let settled (t : State) : Prop := (t.seg g).done.contains e.val = true
      (bytes.length = x.plen → s.slotClass x d2 = some 0 → Gives rx fun t =>
        settled t ∧ ((t.seg g).node x.node).err = err ∧ ((t.seg g).node x.node).safe = safe ∧
          ((t.seg g).node x.node).dev = clampInt d2 (-32768) 32767 ∧
          Changes [.regs, .sram, .pendMode, .mem, .evlog, .evLost, .ntu, .cbc, .ace, .sfi, .dcp] s t) ∧
      (s.slotClass x d2 = some 1 → Gives rx fun t => settled t ∧ CountsOne (CBC_SEGs_CNT1_SLOT_EARLY g) s t) ∧
      (s.slotClass x d2 = some 2 → Gives rx fun t => settled t ∧ CountsOne (CBC_SEGs_CNT1_SLOT_LATE g) s t) ∧
      (s.slotClass x d2 = none → Gives rx fun t => t = s) ∧
      Gives (exec (.cbSlotEnd g e) s) fun t =>
        settled t ∧ CountsOne (CBC_SEGs_CNT0_SLOT_MISS g) s t ∧ Changes [.regs, .ntu, .cbc] s t) ∧
    (s.segState g ≠ 0 → s.mode ≠ 11 → (s.seg g).babbled = false → Gives (exec (.cbBabble g) s) fun t =>
      CountsOne (CBC_SEGs_CNT1_BABBLE g) s t ∧ t.rd (CBC_SEGs_BABBLE_TIME g) = s.ltNs % 2 ^ 48 ∧
        (t.seg g).babbled = true ∧ RegsBut [CBC_SEGs_CNT1 g, CBC_SEGs_BABBLE g] s t ∧ Changes [.regs, .cbc] s t) ∧
    ((s.seg g).babbled = true → Gives (exec (.cbBabble g) s) fun t => t = s) ∧
    (s.segState g = 1 ∨ s.segState g = 5 →
      Gives (exec (.cbListenOnlyFrame g v) s) fun t => Changes [.regs] s t ∧ RegsBut [CBC_SEGs_CNT0 g] s t ∧
        (v = .good → t = s) ∧ (v = .code → CountsOne (CBC_SEGs_CNT0_CODE_ERR g) s t) ∧
        (v = .crc → CountsOne (CBC_SEGs_CNT0_CRC_ERR g) s t) ∧ (v = .fmt → CountsOne (CBC_SEGs_CNT0_FMT_ERR g) s t))

/-- R240: in a request slot the oldest request of the node goes out; the response with its TAG answers the command with the
bytes received; a request that has waited 64 cycles is answered with TIMEOUT. -/
def Sys2Proof.Rules.segmentAcyclic : Prop :=
  ∀ (s : State) (g : Fin 4) (e : Fin 4096) (y : SchedEnt) (r : CbReq) (d2 : Int) (bytes : List Byte) (node : BitVec 5),
    (s.seg g).reqs = [r] →
    let x := s.seg g
    (s.domOn 8 = true → s.segRuns g = true → x.csfSent = true → r.sent = false → r.node = y.node →
      (s.segEnts schedActiveBase g).find? (fun z => z.idx == e.val && z.type == 2) = some y →
      Gives (exec (.cbAreqSlot g e) s) fun t =>
        (t.seg g).reqs = [{ r with sent := true }] ∧
          (t.seg g).line = (t.ntu.lt, cbFrame 4 0 y.node r.data) :: x.line ∧ Changes [.regs, .ntu, .cbc] s t) ∧
    (s.openSlot g e = some y → y.type = 1 → s.slotClass y d2 = some 0 → 4 ≤ bytes.length →
      bytes.length ≤ min y.plen 128 → r.node = y.node → r.sent = true → r.tag = natOfBE (bytes.take 2) → r.tag ≠ 0 →
      Gives (exec (.cbArspReceive g e .good d2 bytes 0) s) fun t =>
        (t.seg g).reqs = [] ∧ Answered r.slot 0 bytes s t ∧ Changes [.regs, .ntu, .cbc, .dcp] s t) ∧
    (r.node = node.toNat → 64 ≤ r.age → Gives (exec (.cbAreqTimeout g node) s) fun t =>
      (t.seg g).reqs = [] ∧ Answered r.slot 0x0307 noDetail s t ∧ Changes [.cbc, .dcp] s t)

/-- Cyclic and acyclic traffic of a segment. -/
def Obligations.SegmentTraffic : Prop :=
  Sys2Proof.Rules.segmentCycle ∧ Sys2Proof.Rules.segmentAcyclic

/-! ## CAN -/

/-- R261, R263, R264, R265, R280: EN = 1 with legal bit timing starts an OFF channel where the mode allows it and is pending
during STOPPING, and illegal timing is refused; bus integration leads to RUNNING; EN = 0 to STOPPING and, with no frame on
the bus, to OFF or the next start; recovery ends BUS_OFF with both error counters 0. -/
def Sys2Proof.Rules.canStates : Prop :=
  ∀ (s : State) (n : Fin 6), s.domOn 8 = true →
    let st (t : State) := t.canState n
    let two := [CANn_CTL n, CANn_STAT n]
    let off := s.bit (CANn_CTL_EN n) = false
    (off → s.canBitsOk n = true → st s = 0 → s.canAllowed = true → Gives (exec (.canEnable n) s) fun t =>
      st t = 1 ∧ t.bit (CANn_CTL_EN n) = true ∧ RegsBut two s t ∧ Changes [.regs] s t) ∧
    (off → s.canBitsOk n = true → st s = 4 → Gives (exec (.canEnable n) s) fun t =>
      st t = 4 ∧ t.bit (CANn_CTL_EN n) = true ∧ t.bit (CANn_STAT_PENDING n) = true ∧ RegsBut two s t ∧
        Changes [.regs] s t) ∧
    (off → s.canBitsOk n = false → Gives (exec (.canEnable n) s) fun t =>
      t.bit (CANn_CTL_EN n) = false ∧ st t = st s ∧ t.bit (cUSTAT_CFG_ERR uCANB) = true ∧ Changes [.regs] s t) ∧
    (st s = 1 → Gives (exec (.canBusIntegrated n) s) fun t => st t = 2 ∧ RegsBut [CANn_STAT n] s t ∧ Changes [.regs] s t) ∧
    (st s ≠ 0 → Gives (exec (.canDisable n) s) fun t =>
      st t = 4 ∧ t.bit (CANn_CTL_EN n) = false ∧ t.bit (CANn_STAT_PENDING n) = false ∧ RegsBut two s t ∧
        Changes [.regs] s t) ∧
    (st s = 4 → s.bit (CANn_TXQ_HEAD_TX n) = false → Gives (exec (.canStopDone n) s) fun t =>
      st t = b2n (s.bit (CANn_CTL_EN n) && s.canAllowed) ∧ (t.can_ n).queue = [] ∧ t.reg (CANn_CNT n) = 0 ∧
        t.reg (CANn_CTL n) = s.reg (CANn_CTL n) ∧ Changes [.regs, .sram, .mem, .msix, .can] s t) ∧
    (st s = 3 → Gives (exec (.canRecReq n) s) fun t => (t.can_ n).recovering = true ∧ Changes [.can] s t) ∧
    (st s = 3 → (s.can_ n).recovering = true → Gives (exec (.canRecoveryDone n) s) fun t =>
      st t = 2 ∧ t.rd (CANn_STAT_TEC n) = 0 ∧ t.rd (CANn_STAT_REC n) = 0 ∧ t.rd (CANn_STAT_ERR_STATE n) = 0 ∧
        Changes [.regs, .msix, .can] s t)

/-- R267, R270: a push of a legal descriptor enters the queue behind the others and PUSH_RESULT says how it went; a cancel
takes the entries it names, but not an attempt on the bus. -/
def Sys2Proof.Rules.canQueue : Prop :=
  ∀ (s : State) (who : Fin 33) (n : Fin 6) (w2 : Word) (tag mask : BitVec 16), s.domOn 8 = true →
    let q (t : State) := (t.can_ n).queue
    let w := mapGet (fun _ => ((0 : Word), (0 : Word))) (s.can_ n).stage who
    let ok := s.canDescOk n w.1 w.2 = true ∧ bitsOf w2 47 32 = 0 ∧ bitsOf w2 2 0 = 0
    let push := exec (.canTxqPush who n w2) s
    let result (k : Nat) (t : State) : Prop :=
      t.rd (CANn_TXQ_PUSH_RESULT n) = k ∧ q t = q s ∧ RegsBut [CANn_TXQ n] s t ∧ Changes [.regs] s t
    let named (e : CanEnt) := e.tag &&& mask.toNat = tag.toNat &&& mask.toNat
    (64 ≤ (q s).length → Gives push (result 1)) ∧
    ((q s).length < 64 → ¬ok → Gives push (result 2)) ∧
    ((q s).length < 64 → ok → s.canListen n = true → Gives push (result 3)) ∧
    ((q s).length < 64 → ok → s.canListen n = false → Gives push fun t =>
      q t = q s ++ [⟨w.1, w.2, bitsOf w2 63 48, bitsOf w2 31 0, none, none, 0, 0, false⟩] ∧
        t.rd (CANn_TXQ_COUNT n) = (q s).length + 1 ∧ t.rd (CANn_TXQ_PUSH_RESULT n) = 0 ∧
        RegsBut [CANn_TXQ n] s t ∧ Changes [.regs, .can] s t) ∧
    (s.bit (CANn_TXQ_HEAD_TX n) = false → Gives (exec (.canCancel n tag mask) s) fun t =>
      q t = (q s).filter (fun e => ¬named e) ∧ Changes [.regs, .sram, .mem, .msix, .can] s t) ∧
    ∀ h l, q s = h :: l → s.bit (CANn_TXQ_HEAD_TX n) = true → Gives (exec (.canCancel n tag mask) s) fun t =>
      q t = (if named h then { h with late := true } else h) :: l.filter (fun e => ¬named e) ∧
        Changes [.regs, .sram, .mem, .msix, .can] s t

/-- States of a CAN channel, and its transmit queue. -/
def Obligations.CanStatesAndQueues : Prop :=
  Sys2Proof.Rules.canStates ∧ Sys2Proof.Rules.canQueue

/-- R268, R269, R280, R281: an attempt of the head starts when the channel runs; a sent frame leaves the queue and TEC falls
by 1; after a lost arbitration or an error a frame that is not single-shot stays, and an error that is not exempt adds 8
to TEC. -/
def Sys2Proof.Rules.canAttempts : Prop :=
  ∀ (s : State) (n : Fin 6) (h : CanEnt) (l : List CanEnt) (d : List Byte) (lec : BitVec 3) (exempt : Bool),
    s.domOn 8 = true → (s.can_ n).queue = h :: l →
    let q (t : State) := (t.can_ n).queue
    let tec (t : State) := t.rd (CANn_STAT_TEC n)
    let onBus (t : State) := t.bit (CANn_TXQ_HEAD_TX n)
    (s.canState n = 2 → onBus s = false → s.canListen n = false → h.data = some d →
      Gives (exec (.canAttemptStart n) s) fun t =>
        q t = { h with
            attempts := h.attempts + 1
            sof := s.ltNs + s.rd (CANn_NBT_NBRP n) * (1 + s.rd (CANn_NBT_NTSEG1 n)) * 25 / 2 } :: l ∧ onBus t = true ∧
          RegsBut [CANn_TXQ n] s t ∧ Changes [.regs, .can] s t) ∧
    (onBus s = true →
      Gives (exec (.canAttemptEnd n .sent) s) (fun t =>
        q t = l ∧ onBus t = false ∧ tec t = tec s - 1 ∧ (t.can_ n).wire = (h.w0, h.w1, h.data.getD []) :: (s.can_ n).wire) ∧
      (h.late = false → bitsOf h.w0 63 63 = 0 →
        Gives (exec (.canAttemptEnd n .lostArbitration) s) (fun t =>
          q t = q s ∧ onBus t = false ∧ RegsBut [CANn_TXQ n] s t ∧ Changes [.regs] s t) ∧
        (tec s < 256 → Gives (exec (.canAttemptEnd n (.error lec exempt false)) s) fun t =>
          q t = q s ∧ onBus t = false ∧ tec t = (if exempt then tec s else tec s + 8) ∧
            t.rd (CANn_STAT_LEC n) = lec.toNat)) ∧
      (h.late = false → bitsOf h.w0 63 63 = 1 → Gives (exec (.canAttemptEnd n .lostArbitration) s) fun t =>
        q t = l ∧ onBus t = false ∧ Changes [.regs, .sram, .mem, .msix, .can] s t))

/-- R271, R273, R275, R279, R280: a due cyclic message is queued with its template, or counts an overrun; a frame is judged
by the bank active when its evaluation began, and one whose first element says FIFO 0 is stored there, or counted as lost; a receive error raises REC but for a listen-only
channel. -/
def Sys2Proof.Rules.canReception : Prop :=
  ∀ (s : State) (n : Fin 6) (k : Fin 32) (f : CanFrame) (age : CanAge) (lec : BitVec 3) (big : Bool), s.domOn 8 = true →
    let x := s.can_ n
    let w := mapGet (fun _ => (0 : Word)) x.cyc k
    let due := s.cycLive = true ∧ s.cyclicMode = true ∧ s.canState n ≠ 0 ∧ s.canState n ≠ 4 ∧ bitsOf w 63 63 = 1 ∧
      k.val ∉ x.fired ∧ s.rd NTU_CYC_COUNT_CYCLE % (bitsOf w 61 52 + 1) = 0 ∧
      s.ntu.cyc.edge + bitsOf w 31 0 * 2 ^ 32 < s.nextNominal
    let ws := (s.sramReadWords false (s.canBase n + 0x8800 + 32 * k) 3).1
    let fits := x.queue.length < 64 ∧ (∀ e ∈ x.queue, e.cyc ≠ some k.val) ∧
      s.canDescOk n (ws.getD 0 0) (ws.getD 1 0) = true ∧ bitsOf (ws.getD 0 0) 40 29 ≤ 64
    let act := s.rd (CANn_FLT_ACTIVE n)
    let bank := match x.switched with
      | none => act
      | some w => if s.ltNs - age.eval < w then 1 - act else act
    let el := s.canElem n bank 0
    let first := s.canHears n = true ∧ s.canFmtOn n f = true ∧ bitsOf el.1 63 61 ≠ 0 ∧ elemMatch el.1 el.2.1 f = true ∧
      bitsOf el.1 60 58 = 1
    let held := dist128 (s.rd (CANn_IDX_F0_PUT n)) (s.rd (CANn_IDX_F0_GET n))
    (due → fits → Gives (exec (.canCyclicTrigger n k) s) fun t => ∃ e, (t.can_ n).queue = x.queue ++ [e] ∧
      e.w0 = ws.getD 0 0 ∧ e.w1 = ws.getD 1 0 ∧ e.cyc = some k.val ∧ (t.can_ n).fired = k.val :: x.fired ∧
      Changes [.regs, .evlog, .evLost, .msix, .ntu, .image, .can] s t) ∧
    (due → ¬fits → Gives (exec (.canCyclicTrigger n k) s) fun t => CountsOne (CANn_CNT_CYC_OVERRUN n) s t ∧
      (t.can_ n).queue = x.queue ∧ (t.can_ n).fired = k.val :: x.fired) ∧
    (first → held < 64 → Gives (exec (.canFrameRx n f age) s) fun t =>
      t.rd (CANn_IDX_F0_PUT n) = (s.rd (CANn_IDX_F0_PUT n) + 1) % 128 ∧ (t.can_ n).gap0 = false ∧
        (t.can_ n).queue = x.queue) ∧
    (first → 64 ≤ held → Gives (exec (.canFrameRx n f age) s) fun t =>
      CountsOne (CANn_CNT_LOST n) s t ∧ t.rd (CANn_IDX_F0_PUT n) = s.rd (CANn_IDX_F0_PUT n) ∧
        (t.can_ n).gap0 = true) ∧
    (s.canHears n = true → s.canListen n = false → Gives (exec (.canReceiveError n lec big) s) fun t =>
      t.rd (CANn_STAT_LEC n) = lec.toNat ∧
        t.rd (CANn_STAT_REC n) = min 255 (s.rd (CANn_STAT_REC n) + if big then 8 else 1)) ∧
    (s.canHears n = true → s.canListen n = true → Gives (exec (.canReceiveError n lec big) s) fun t =>
      t.rd (CANn_STAT_LEC n) = lec.toNat ∧ RegsBut [CANn_STAT n] s t ∧ Changes [.regs] s t)

/-- R274: APPLY of an inactive bank without a bad element is pending, and of another is refused at its first bad element;
the switch makes the other bank active. -/
def Sys2Proof.Rules.canFilters : Prop :=
  ∀ (s : State) (n : Fin 6), s.domOn 8 = true →
    let act (t : State) := t.rd (CANn_FLT_ACTIVE n)
    let bad := (s.canBankBad n (1 - act s) 0 1024).1
    (bad = none → Gives (exec (.canFilterApply n) s) fun t =>
      t.bit (CANn_FLT_APPLY_PENDING n) = true ∧ act t = act s ∧ Changes [.regs, .evlog, .evLost, .msix, .image] s t) ∧
    (∀ i, bad = some i → Gives (exec (.canFilterApply n) s) fun t =>
      t.bit (CANn_FLT_APPLY_REFUSED n) = true ∧ t.rd (CANn_FLT_FAIL_INDEX n) = i ∧ act t = act s ∧
        t.bit (CANn_FLT_APPLY_PENDING n) = s.bit (CANn_FLT_APPLY_PENDING n) ∧
        Changes [.regs, .evlog, .evLost, .msix, .image] s t) ∧
    (s.bit (CANn_FLT_APPLY_PENDING n) = true → Gives (exec (.canFilterSwitch n) s) fun t =>
      act t = 1 - act s ∧ t.bit (CANn_FLT_APPLY_PENDING n) = false ∧ (t.can_ n).switched = some s.ltNs ∧
        Changes [.regs, .msix, .can] s t) ∧
    (s.bit (CANn_FLT_APPLY_PENDING n) = false → Gives (exec (.canFilterSwitch n) s) fun t => t = s)

/-- Transmission, reception and filtering of CAN frames. -/
def Obligations.CanFrames : Prop :=
  Sys2Proof.Rules.canAttempts ∧ Sys2Proof.Rules.canReception ∧ Sys2Proof.Rules.canFilters


/-! ## Pawn engines and pins -/

/-- R287, R288, R289: EN = 1 starts an OFF engine that owns its output pins, at ENTRY with its registers 0, is pending
during STOPPING and is refused where a pin is not owned; a started engine runs, or with HOLD is READY; EN = 0 empties the
FIFOs and leads to OFF. -/
def Sys2Proof.Rules.pawnStates : Prop :=
  ∀ (s : State) (n : Fin 32), s.domOn 8 = true →
    let st (t : State) := t.pawnState n
    let x (t : State) := t.pawn n
    let owns := (s.outPins n).all fun i => s.ownsPin n i
    let two := [PIA_Pn_CTL n, PIA_Pn_STAT n]
    (owns = true → st s = 0 → s.pawnAllowed = true → Gives (exec (.pawnEnable n) s) fun t =>
      st t = 1 ∧ t.bit (PIA_Pn_CTL_EN n) = true ∧ t.rd (PIA_Pn_STAT_PC n) = s.rd (PIA_Pn_PROG_A_ENTRY n) ∧
        ((x t).a, (x t).b, (x t).sh, (x t).bc) = (0, 0, 0, 0) ∧ RegsBut two s t ∧ Changes [.regs, .pawns] s t) ∧
    (owns = true → st s = 4 → Gives (exec (.pawnEnable n) s) fun t =>
      st t = 4 ∧ t.bit (PIA_Pn_STAT_PENDING n) = true ∧ RegsBut two s t ∧ Changes [.regs] s t) ∧
    (owns = false → Gives (exec (.pawnEnable n) s) fun t =>
      t.reg (PIA_Pn_CTL n) = s.reg (PIA_Pn_CTL n) ∧ st t = st s ∧ t.bit (cUSTAT_CFG_ERR uPIA) = true ∧
        Changes [.regs] s t) ∧
    (st s = 1 → s.bit (PIA_Pn_STAT_READY n) = false → Gives (exec (.pawnStartDone n) s) fun t =>
      (s.bit (PIA_Pn_CTL_HOLD n) = true → st t = 1 ∧ t.bit (PIA_Pn_STAT_READY n) = true ∧ x t = x s) ∧
        (s.bit (PIA_Pn_CTL_HOLD n) = false → st t = 2 ∧
          x t = { x s with acc := s.rd (PIA_Pn_CLKDIV_DEN n) - s.rd (PIA_Pn_CLKDIV_NUM n), prev := none }) ∧
        RegsBut [PIA_Pn_STAT n] s t ∧ Changes [.regs, .pawns] s t) ∧
    (st s ≠ 0 → st s ≠ 4 → Gives (exec (.pawnDisable n) s) fun t =>
      st t = 4 ∧ t.bit (PIA_Pn_CTL_EN n) = false ∧ (x t).tx = [] ∧ (x t).rx = [] ∧ RegsBut two s t ∧
        Changes [.regs, .pawns] s t) ∧
    (st s = 4 → Gives (exec (.pawnStopDone n) s) fun t =>
      st t = b2n (s.bit (PIA_Pn_CTL_EN n) && s.pawnAllowed) ∧ t.bit (PIA_Pn_STAT_PENDING n) = false ∧
        t.bit (PIA_Pn_PROG_ARM n) = false ∧ t.rd (PIA_Pn_CNT_SWAPS n) = b2n (s.bit (PIA_Pn_PROG_ARM n)) ∧
        ((x t).a, (x t).b, (x t).tx, (x t).rx) = (0, 0, [], []) ∧ Changes [.regs, .pawns] s t)

/-- R300, R285: GO runs the READY engines of its mask and DIVRST restarts the dividers of the running ones; in FLAGS mode
both are refused. -/
def Sys2Proof.Rules.pawnGroups : Prop :=
  ∀ (s : State) (g : Fin 4) (mask : BitVec 8) (e : Fin 8), s.domOn 8 = true → mask ≠ 0 →
    let n := 8 * g.val + e.val
    let acc := s.rd (PIA_Pn_CLKDIV_DEN n) - s.rd (PIA_Pn_CLKDIV_NUM n)
    (s.bit (PIA_Gg_CTL_MODE g) = false →
      Gives (exec (.groupGo g mask) s) (fun t => Changes [.regs, .pawns] s t ∧
        (mask.getLsbD e = true → s.pawnState n = 1 → s.bit (PIA_Pn_STAT_READY n) = true →
          t.pawnState n = 2 ∧ t.pawn n = { s.pawn n with acc := acc, prev := none }) ∧
        (mask.getLsbD e = false ∨ s.pawnState n ≠ 1 ∨ s.bit (PIA_Pn_STAT_READY n) = false →
          t.reg (PIA_Pn_STAT n) = s.reg (PIA_Pn_STAT n) ∧ t.pawn n = s.pawn n)) ∧
      Gives (exec (.groupDivrst g mask) s) (fun t => Changes [.pawns] s t ∧
        (mask.getLsbD e = true → s.pawnState n = 2 → t.pawn n = { s.pawn n with acc := acc }) ∧
        (mask.getLsbD e = false ∨ s.pawnState n ≠ 2 → t.pawn n = s.pawn n))) ∧
    (s.bit (PIA_Gg_CTL_MODE g) = true → ∀ i ∈ ([.groupGo g mask, .groupDivrst g mask] : List Instr),
      Gives (exec i s) fun t => t.bit (cUSTAT_CFG_ERR uPIA) = true ∧ Changes [.regs] s t)

/-- States of the Pawn engines, and their groups. -/
def Obligations.PawnEngines : Prop :=
  Sys2Proof.Rules.pawnStates ∧ Sys2Proof.Rules.pawnGroups

/-- Engine `n` ticks: RUNNING, with no forced swap due. -/
def Sys2Proof.Machine.PawnTicks (s : State) (n : Nat) : Prop :=
  s.domOn 8 = true ∧ s.pawnState n = 2 ∧ (s.pawn n).swapNow = false

/-- After a tick the engine's registers are those of `x`, but for the divider and the input group that the tick saw; other
engines and other parts of the state have not changed. -/
def Sys2Proof.Machine.PawnHas (s : State) (n : Nat) (pads : BitVec 8) (x : PawnSt) (t : State) : Prop :=
  t.pawn n = { x with acc := ((s.pawnDivide n).pawn n).acc, prev := some (s.inGroup n pads) } ∧
    (∀ m, m ≠ n → t.pawn m = s.pawn m) ∧ Changes [.regs, .pawns] s t

/-- The tick goes on to the next slot (R294): after WRAP_TOP to WRAP_BOTTOM. -/
def Sys2Proof.Machine.PawnNextSlot (s : State) (n : Nat) (t : State) : Prop :=
  t.rd (PIA_Pn_STAT_PC n) = (if s.rd (PIA_Pn_STAT_PC n) = s.rd (PIA_Pn_PROG_A_WRAP_TOP n)
      then s.rd (PIA_Pn_PROG_A_WRAP_BOTTOM n) else (s.rd (PIA_Pn_STAT_PC n) + 1) % 64) ∧
    t.bit (PIA_Pn_STAT_WAITING n) = false ∧ t.pawnState n = 2

/-- R290, R291, R294: PINS, SHIFT, LDI and MOV change the registers that the table names, within the output group where it
is their target, and go on to the next slot. -/
def Sys2Proof.Rules.pawnRegisters : Prop :=
  ∀ (s : State) (n : Fin 32) (pads mask imm : BitVec 8) (dirn oen ien : Bool) (ob ib src : BitVec 3) (byte xf : BitVec 2),
    PawnTicks s n → s.bit (PIA_Pn_PROG_ARM n) = false →
    let x := s.pawn n
    let m := s.outMask n
    let inp := s.inGroup n pads
    let grp (old new : BitVec 8) := (old &&& ~~~m) ||| (new &&& m)
    let does (i : Instr) (y : PawnSt) : Prop := Gives (exec i s) fun t =>
      PawnHas s n pads y t ∧ PawnNextSlot s n t ∧ RegsBut [PIA_Pn_STAT n] s t
    let v := movXf xf (movSrc x inp src.toNat)
    let bit : BitVec 8 := BitVec.ofNat 8 (2 ^ ob.toNat) &&& m
    let byteIn (old new : BitVec 32) : Prop := ∀ i < 32, new.getLsbD i =
      if 8 * byte.toNat ≤ i ∧ i < 8 * byte.toNat + 8 then imm.getLsbD (i - 8 * byte.toNat)
      else byte != 0 && old.getLsbD i
    does (.pinsWrite n pads 0 mask) { x with out := grp x.out mask } ∧
    does (.pinsSet n pads 0 mask) { x with out := grp x.out (x.out ||| mask) } ∧
    does (.pinsClear n pads 0 mask) { x with out := grp x.out (x.out &&& ~~~mask) } ∧
    does (.pinsToggle n pads 0 mask) { x with out := grp x.out (x.out ^^^ mask) } ∧
    does (.pinsWrite n pads 1 mask) { x with dir := grp x.dir mask } ∧
    does (.pinsSet n pads 1 mask) { x with dir := grp x.dir (x.dir ||| mask) } ∧
    does (.pinsClear n pads 1 mask) { x with dir := grp x.dir (x.dir &&& ~~~mask) } ∧
    does (.pinsToggle n pads 1 mask) { x with dir := grp x.dir (x.dir ^^^ mask) } ∧
    does (.shift n pads dirn oen ien ob ib)
      { x with
        sh := if dirn then x.sh >>> 1 ||| (if ien && inp.getLsbD ib.toNat then 0x80000000 else 0)
          else x.sh <<< 1 ||| (if ien && inp.getLsbD ib.toNat then 1 else 0)
        out := if oen then (if x.sh.getLsbD (if dirn then 0 else 31) then x.out ||| bit else x.out &&& ~~~bit) else x.out
        bc := x.bc - 1 } ∧
    (∃ a, byteIn x.a a ∧ does (.ldi n pads 0 byte imm) { x with a := a }) ∧
    (∃ b, byteIn x.b b ∧ does (.ldi n pads 1 byte imm) { x with b := b }) ∧
    (imm.toNat ≤ 32 → does (.ldi n pads 2 0 imm) { x with bc := imm.toNat }) ∧
    (src ≠ 7 →
      does (.mov n pads 0 src xf) { x with a := v } ∧ does (.mov n pads 1 src xf) { x with b := v } ∧
      does (.mov n pads 2 src xf) { x with bc := min v.toNat 32 } ∧ does (.mov n pads 3 src xf) { x with sh := v } ∧
      does (.mov n pads 4 src xf) { x with out := grp x.out (v.setWidth 8) } ∧
      does (.mov n pads 5 src xf) { x with dir := grp x.dir (v.setWidth 8) })

/-- R291, R292, R294, R298, R301, R308: WAIT stays on its slot until its condition holds, and DELAY counts A down; JMP and
DJNZ go to their target or on; the FIFOs and the flags move one word or one bit, and an access of an empty or full FIFO is
noted. -/
def Sys2Proof.Rules.pawnControl : Prop :=
  ∀ (s : State) (n : Fin 32) (pads : BitVec 8) (pol : Bool) (arg idx : BitVec 4) (cond : BitVec 3) (tgt : BitVec 6),
    PawnTicks s n → s.bit (PIA_Pn_PROG_ARM n) = false →
    let x := s.pawn n
    let inp := s.inGroup n pads
    let pc (t : State) := t.rd (PIA_Pn_STAT_PC n)
    let stat := PIA_Pn_STAT n
    let on_ (i : Instr) (y : PawnSt) : Prop := Gives (exec i s) fun t =>
      PawnHas s n pads y t ∧ PawnNextSlot s n t ∧ RegsBut [stat] s t
    let to_ (i : Instr) (y : PawnSt) : Prop := Gives (exec i s) fun t =>
      PawnHas s n pads y t ∧ pc t = tgt.toNat ∧ t.bit (PIA_Pn_STAT_WAITING n) = false ∧ RegsBut [stat] s t
    let stay (i : Instr) (y : PawnSt) : Prop := Gives (exec i s) fun t =>
      PawnHas s n pads y t ∧ pc t = pc s ∧ t.bit (PIA_Pn_STAT_WAITING n) = true ∧ RegsBut [stat] s t
    let waits (i : Instr) (b : Prop) : Prop := (b → on_ i x) ∧ (¬b → stay i x)
    let holds := cond = 0 ∨ cond = 1 ∧ x.a = 0 ∨ cond = 2 ∧ x.a ≠ 0 ∨ cond = 3 ∧ x.b = 0 ∨ cond = 4 ∧ x.bc ≠ 0 ∨
      cond = 5 ∧ x.bc = 0 ∨ cond = 6 ∧ x.a.toNat < x.b.toNat ∨ cond = 7 ∧ x.tx = []
    (arg.toNat < 8 → waits (.pawnWait n pads 0 pol arg) (inp.getLsbD arg.toNat = pol)) ∧
    (arg.toNat < 8 → waits (.pawnWait n pads 1 pol arg)
      (inp.getLsbD arg.toNat = pol ∧ (x.prev.getD inp).getLsbD arg.toNat ≠ pol)) ∧
    (s.pawnFlags n = true → waits (.pawnWait n pads 2 pol arg) (bitAt (s.rd PIA_FLAG_SET_FLAGS) arg.toNat = pol)) ∧
    (x.a = 0 → on_ (.pawnWait n pads 3 false 0) x) ∧
    (x.a ≠ 0 → stay (.pawnWait n pads 3 false 0) { x with a := x.a - 1 }) ∧
    waits (.pawnWait n pads 4 false 0) (x.tx ≠ []) ∧
    waits (.pawnWait n pads 5 false 0) (x.rx.length < 8) ∧
    (holds → to_ (.pawnJmp n pads cond tgt) x) ∧ (¬holds → on_ (.pawnJmp n pads cond tgt) x) ∧
    (x.a = 0 → on_ (.djnz n pads 0 tgt) x) ∧ (x.a = 1 → on_ (.djnz n pads 0 tgt) { x with a := 0 }) ∧
    (x.a ≠ 0 → x.a ≠ 1 → to_ (.djnz n pads 0 tgt) { x with a := x.a - 1 }) ∧
    (x.b = 0 → on_ (.djnz n pads 1 tgt) x) ∧ (x.b = 1 → on_ (.djnz n pads 1 tgt) { x with b := 0 }) ∧
    (x.b ≠ 0 → x.b ≠ 1 → to_ (.djnz n pads 1 tgt) { x with b := x.b - 1 }) ∧
    (∀ w l, x.tx = w :: l → on_ (.fifoPull n pads) { x with sh := w, tx := l }) ∧
    (x.tx = [] → Gives (exec (.fifoPull n pads) s) fun t =>
      PawnHas s n pads x t ∧ PawnNextSlot s n t ∧ t.bit (PIA_Pn_STAT_TX_UNDER n) = true) ∧
    (x.rx.length < 8 → s.bit (PIA_Pn_PIIN_EN n) = false → on_ (.fifoPush n pads) { x with rx := x.rx ++ [x.sh] }) ∧
    (8 ≤ x.rx.length → Gives (exec (.fifoPush n pads) s) fun t =>
      PawnHas s n pads x t ∧ PawnNextSlot s n t ∧ t.bit (PIA_Pn_STAT_RX_OVER n) = true) ∧
    (s.pawnFlags n = true →
      Gives (exec (.flagSet n pads idx) s) (fun t => PawnHas s n pads x t ∧ PawnNextSlot s n t ∧
        ∀ i < 16, bitAt (t.rd PIA_FLAG_SET_FLAGS) i = (bitAt (s.rd PIA_FLAG_SET_FLAGS) i || i == idx.toNat)) ∧
      Gives (exec (.flagClear n pads idx) s) fun t => PawnHas s n pads x t ∧ PawnNextSlot s n t ∧
        ∀ i < 16, bitAt (t.rd PIA_FLAG_SET_FLAGS) i = (bitAt (s.rd PIA_FLAG_SET_FLAGS) i && i != idx.toNat)) ∧
    Gives (exec (.flagNote n pads) s) fun t =>
      PawnNextSlot s n t ∧ bitAt (t.rd (cISTAT uPIA)) n = true ∧ Changes [.regs, .msix, .pawns] s t

/-- Instructions of the Pawn engines. -/
def Obligations.PawnRegistersAndControl : Prop :=
  Sys2Proof.Rules.pawnRegisters ∧ Sys2Proof.Rules.pawnControl

/-- R293, R295, R296: an undefined encoding halts the engine with its PC; an armed swap takes place at WRAP_TOP, which then
goes on at the new WRAP_BOTTOM; ARM of an OFF engine swaps at once, SWAP_NOW of a running one at its next tick. -/
def Sys2Proof.Rules.pawnBanks : Prop :=
  ∀ (s : State) (n : Fin 32) (pads : BitVec 8) (j : Fin 16), s.domOn 8 = true →
    let prog := PIA_Pn_PROG n
    let swapped (t : State) : Prop :=
      t.reg (PIA_ACTIVE n j) = s.reg (PIA_SHADOW n j) ∧ t.reg (PIA_SHADOW n j) = s.reg (PIA_ACTIVE n j) ∧
        t.rd (PIA_Pn_PROG_A_ENTRY n) = s.rd (PIA_Pn_PROG_S_ENTRY n) ∧
        t.rd (PIA_Pn_PROG_S_ENTRY n) = s.rd (PIA_Pn_PROG_A_ENTRY n) ∧
        t.rd (PIA_Pn_PROG_A_WRAP_BOTTOM n) = s.rd (PIA_Pn_PROG_S_WRAP_BOTTOM n) ∧
        t.bit (PIA_Pn_PROG_ARM n) = false ∧ CountsOne (PIA_Pn_CNT_SWAPS n) s t ∧
        t.rd (PIA_Pn_STAT_BANK n) = 1 - s.rd (PIA_Pn_STAT_BANK n)
    (PawnTicks s n → Gives (exec (.pawnUndefined n pads) s) fun t =>
      t.pawnState n = 3 ∧ t.bit (PIA_Pn_STAT_FAULT n) = true ∧
        t.rd (PIA_Pn_STAT_FAULT_PC n) = s.rd (PIA_Pn_STAT_PC n) ∧ bitAt (t.rd (cISTAT uPIA)) (32 + n) = true) ∧
    (PawnTicks s n → s.bit (PIA_Pn_PROG_ARM n) = true → s.rd (PIA_Pn_STAT_PC n) = s.rd (PIA_Pn_PROG_A_WRAP_TOP n) →
      Gives (exec (.pinsSet n pads 0 0) s) fun t =>
        swapped t ∧ t.rd (PIA_Pn_STAT_PC n) = s.rd (PIA_Pn_PROG_S_WRAP_BOTTOM n) ∧ Changes [.regs, .pawns] s t) ∧
    (s.pawnState n = 0 → Gives (exec (.progArm n) s) fun t => swapped t ∧ Changes [.regs] s t) ∧
    (s.pawnState n ≠ 0 → Gives (exec (.progArm n) s) fun t =>
      t.bit (PIA_Pn_PROG_ARM n) = true ∧ RegsBut [prog] s t ∧ Changes [.regs] s t) ∧
    (s.pawnState n = 2 → Gives (exec (.swapNow n) s) fun t =>
      t.pawn n = { s.pawn n with swapNow := true } ∧ Changes [.pawns] s t) ∧
    (s.pawnState n ≠ 2 → Gives (exec (.swapNow n) s) fun t => swapped t ∧ Changes [.regs] s t)

/-- R298, R299, R301, R306: a host push enters a FIFO with room that no link feeds and is dropped otherwise; a host pop takes
the oldest word; flag writes set and clear; the output link's trigger fills the FIFO once a cycle or counts an overrun. -/
def Sys2Proof.Rules.piaHostAccess : Prop :=
  ∀ (s : State) (n : Fin 32) (v : BitVec 32) (fl : BitVec 16), s.domOn 8 = true →
    let x (t : State) := t.pawn n
    let flags (t : State) := t.rd PIA_FLAG_SET_FLAGS
    let len := s.rd (PIA_Pn_PIOUT_LEN_M1 n) + 1
    (s.bit (PIA_Pn_PIOUT_EN n) = false → (x s).tx.length < 8 → Gives (exec (.txfPush n v) s) fun t =>
      x t = { x s with tx := (x s).tx ++ [v] } ∧ t.rd (PIA_Pn_STAT_TX_LEVEL n) = (x s).tx.length + 1 ∧
        RegsBut [PIA_Pn_STAT n] s t ∧ Changes [.regs, .pawns] s t) ∧
    (s.bit (PIA_Pn_PIOUT_EN n) = true ∨ 8 ≤ (x s).tx.length → Gives (exec (.txfPush n v) s) fun t =>
      x t = x s ∧ CountsOne (PIA_Pn_CNT_HOST_DROP n) s t ∧ RegsBut [PIA_Pn_CNT n] s t ∧ Changes [.regs] s t) ∧
    (∀ w l, (x s).rx = w :: l → s.bit (PIA_Pn_PIIN_EN n) = false → Gives (exec (.rxfPop n) s) fun t =>
      x t = { x s with rx := l } ∧ t.readData = BitVec.ofNat 64 (2 ^ 63 + w.toNat) ∧ RegsBut [PIA_Pn_STAT n] s t ∧
        Changes [.regs, .pawns, .readData] s t) ∧
    ((x s).rx = [] ∨ s.bit (PIA_Pn_PIIN_EN n) = true → Gives (exec (.rxfPop n) s) fun t =>
      t.readData = 0 ∧ Changes [.readData] s t) ∧
    Gives (exec (.piaFlagSetWrite fl) s) (fun t => flags t = flags s ||| fl.toNat ∧
      RegsBut [PIA_FLAG_SET, PIA_FLAG_CLR] s t ∧ Changes [.regs] s t) ∧
    Gives (exec (.piaFlagClrWrite fl) s) (fun t => flags t = flags s &&& (0xFFFF - fl.toNat) ∧
      RegsBut [PIA_FLAG_SET, PIA_FLAG_CLR] s t ∧ Changes [.regs] s t) ∧
    (s.linkDue n = true → Gives (exec (.outputLinkTrigger n) s) fun t =>
      (x t).fired = true ∧ s.linkInstant n ≤ t.ntu.lt ∧
        ((x s).tx.length + len ≤ 8 → (x t).tx.length = (x s).tx.length + len ∧ (x t).tx.take (x s).tx.length = (x s).tx) ∧
        (8 < (x s).tx.length + len → (x t).tx = (x s).tx ∧ CountsOne (PIA_Pn_CNT_PI_OVERRUN n) s t)) ∧
    (s.linkDue n = false → Gives (exec (.outputLinkTrigger n) s) fun t => t = s)

/-- Program banks of the Pawn engines, and the accesses of a host. -/
def Obligations.PawnAccesses : Prop :=
  Sys2Proof.Rules.pawnBanks ∧ Sys2Proof.Rules.piaHostAccess

/-! ## Axis control -/

/-- R318, R319, R320, R324, R532: a deadline without a landing marks the cycle extrapolated; a lane takes its ready axis, whose
sample starts, or is abandoned with HIST 0 where an error is met; the result lands 1,440 CLK_ENG cycles, which are 450 of
CLK_TIME, after dispatch and leaves the sample's states. -/
def Sys2Proof.Rules.axisSamples : Prop :=
  ∀ (s : State) (k : Fin 64) (lane : Fin 4) (ecc : Fin 3), s.aceLive = true →
    let x := s.axis k
    let l := mapGet (fun _ => LaneSt.reset) s.ace.lanes lane
    (s.axisOn k = true → x.phase = 0 → x.land = none → x.ext = false → Gives (exec (.aceDeadline k) s) fun t =>
      t.axis k = { x with ext := true } ∧ s.axisDeadline k ≤ t.ntu.lt ∧ Changes [.regs, .ntu, .ace] s t) ∧
    (∀ m, x.sample = some m → x.phase = 1 → m.ends ≤ s.dlEdge → Gives (exec (.aceResultLand k) s) fun t =>
      (t.axis k).phase = 2 ∧ (t.axis k).broken = false ∧ (t.axis k).i = m.i ∧ (t.axis k).vf = m.vf ∧
        (t.axis k).last = some (m.w0, m.w1) ∧ m.ends ≤ t.ntu.lt ∧
        (m.osat = true → t.bit (ACE_AXk_STAT_OSAT k) = true) ∧ Changes [.regs, .sram, .mem, .ntu, .ace, .sfi] s t) ∧
    (∀ r, s.rd (ACE_AXk_CFG_LANE k) = lane.val → s.axisReadyAt k = some r →
      (∀ j : Fin 64, j ≠ k → s.rd (ACE_AXk_CFG_LANE j) = lane.val → s.axisReadyAt j = none) →
      let d := max s.ntu.lt (max (match l.last with | none => 0 | some a => a + 60 * s.ltStep) r)
      s.ace.dlDone = false → d ≤ s.dlEdge →
      let sp := s.hostBytes (8 * s.rd (ACE_AXk_IO_SP_OFF k)) 32
      Gives (exec (.aceDispatch lane ecc) s) fun t =>
        (mapGet (fun _ => LaneSt.reset) t.ace.lanes lane).ptr = (k.val + 1) % 64 ∧ r ≤ t.ntu.lt ∧
          (ecc ≠ 0 → (t.axis k).phase = 3 ∧ (t.axis k).i = 0 ∧ (t.axis k).vf = 0 ∧ t.rd (ACE_AXk_STAT_HIST k) = 0) ∧
          (ecc = 0 → sp.2.1 = false → (sp.2.2.fbWord k (!s.axisOnTime k)).2.1 = false →
            (t.axis k).phase = 1 ∧ ∃ m, (t.axis k).sample = some m ∧ m.ends = d + 450 * s.ltStep) ∧
          Changes [.regs, .pendMode, .evlog, .evLost, .msix, .ntu, .image, .ace, .dcp] s t)

/-- R331, R332, R333: APPLY names the axes of the mask; its check refuses the lowest axis that fails, or the banks of the
named axes exchange, at once while the cycle is stopped; COPY copies the active bank of its axis to the shadow bank. -/
def Sys2Proof.Rules.axisBanks : Prop :=
  ∀ (s : State) (k : Fin 64) (j : Fin 64), s.domOn 7 = true → s.regsOk = true →
    let pend (t : State) := t.bit ACE_BANK_STAT_APPLY_PENDING
    let fails := (maskAxes s.ace.mask).find? fun a => s.bankCheck a != 0
    (pend s = false → Gives (exec .aceBankApply s) fun t =>
      pend t = true ∧ t.ace.mask = s.rd ACE_APPLY_MASK_VALUE ∧ t.ace.checked = false ∧ RegsBut [ACE_BANK_STAT] s t ∧
        Changes [.regs, .ace] s t) ∧
    (pend s = true → Gives (exec .aceBankApply s) fun t =>
      t.ace = s.ace ∧ t.bit (cUSTAT_CFG_ERR uACE) = true ∧ Changes [.regs] s t) ∧
    (pend s = true → s.ace.checked = false → ∀ a, fails = some a → Gives (exec .aceApplyCheckDone s) fun t =>
      pend t = false ∧ t.bit ACE_BANK_STAT_APPLY_REFUSED = true ∧ t.rd ACE_BANK_STAT_FAIL_AXIS = a ∧
        t.rd ACE_BANK_STAT_REASON = s.bankCheck a ∧ t.ace.mask = 0 ∧ Changes [.regs, .msix, .ace, .dcp] s t) ∧
    (pend s = true → s.ace.checked = false → fails = none → s.cycRun = true → Gives (exec .aceApplyCheckDone s) fun t =>
      t.ace = { s.ace with checked := true } ∧ pend t = true ∧ Changes [.ace] s t) ∧
    (pend s = true → s.ace.checked = false → fails = none → s.cycRun = false → bitAt s.ace.mask k = true →
      Gives (exec .aceApplyCheckDone s) fun t =>
        t.reg (ACE_COEF_ACTIVE k j) = s.reg (ACE_COEF_SHADOW k j) ∧ t.reg (ACE_COEF_SHADOW k j) = s.reg (ACE_COEF_ACTIVE k j) ∧
          t.rd ACE_BANK_STAT_BGEN = (s.rd ACE_BANK_STAT_BGEN + 1) % 65536 ∧ t.bit ACE_BANK_STAT_APPLY_DONE = true ∧
          pend t = false ∧ Changes [.regs, .msix, .ace, .dcp] s t) ∧
    (s.bit ACE_BANK_STAT_COPY_BUSY = false → pend s = false → Gives (exec (.aceCopy k) s) fun t =>
      t.bit ACE_BANK_STAT_COPY_BUSY = true ∧ t.ace.copyAxis = k.val ∧ RegsBut [ACE_BANK_CTL, ACE_BANK_STAT] s t ∧
        Changes [.regs, .ace] s t) ∧
    (s.bit ACE_BANK_STAT_COPY_BUSY = true → s.ace.copyAxis = k.val → Gives (exec .aceCopyDone s) fun t =>
      t.reg (ACE_COEF_SHADOW k j) = s.reg (ACE_COEF_ACTIVE k j) ∧ t.reg (ACE_COEF_ACTIVE k j) = s.reg (ACE_COEF_ACTIVE k j) ∧
        t.bit ACE_BANK_STAT_COPY_BUSY = false ∧ t.bit ACE_BANK_STAT_COPY_DONE = true ∧ Changes [.regs, .msix] s t)

/-- The samples of an axis, and its coefficient banks. -/
def Obligations.AxisControl : Prop :=
  Sys2Proof.Rules.axisSamples ∧ Sys2Proof.Rules.axisBanks

/-! ## Safety island -/

/-- The island is in SAFE_FAULT with this cause: every safe output is off and the global stop stands (R339); in SAFEOP and
OP with no transition waiting, SAFESTOP is on its way (R351). -/
def Sys2Proof.Machine.SafeFaulted (s : State) (cause : Nat) (t : State) : Prop :=
  t.sfi.st = 5 ∧ t.sfi.cause = cause ∧ t.sfi.on = 0 ∧ t.sfi.want = 0 ∧ t.sfi.cut = true ∧ t.sfi.gstop = true ∧
    t.sfi.line = true ∧ t.rd SFI_STAT_STATE = 5 ∧ t.rd SFI_STAT_FAULT_CAUSE = cause ∧
    (s.liveMode = true → s.pendMode = none → ∃ p, t.pendMode = some p ∧ p.target = 9 ∧ p.cause = 0x0A)

/-- The cause of Table R339 that a monitor's finding is: actions of the two cores that differ or lie more than 64 cycles
apart (1), a count of CLK_SAFE outside 17,000 to 23,000 or an RC reference that stands for 10 µs (2), a supply outside
0.70 V to 0.80 V (3), an uncorrectable word (4), a failed self-test (5), a wrong readback of the cut line (7). -/
def Sys2Proof.Machine.causeOf (e : SfiFinding) : Option Nat :=
  match e with
  | .compare same apart => if same = true ∧ apart ≤ 64 then none else some 1
  | .clock n => if 17000 ≤ n ∧ n ≤ 23000 then none else some 2
  | .rcStop us => if us < 10 then none else some 2
  | .supply tenths => if 7000 ≤ tenths ∧ tenths ≤ 8000 then none else some 3
  | .mem _ _ => some 4
  | .selftest pass => if pass = true then none else some 5
  | .cutLine right => if right = true then none else some 7

/-- R337, R338, R339, R340, R351: a finding that is a cause, a failed self-test and a tick that overruns lead into
SAFE_FAULT; there a further cause changes no state of the island but the words noted as bad, and a finding within its
bounds or a self-test that passes changes nothing anywhere. -/
def Sys2Proof.Rules.safetyFaults : Prop :=
  ∀ (s : State) (e : SfiFinding),
    (∀ c, causeOf e = some c → s.sfiOn = true → s.sfi.st ≠ 0 → s.sfi.st ≠ 5 → Gives (exec (.sfiFaultDetect e) s) fun t =>
      SafeFaulted s c t ∧ Changes [.regs, .pendMode, .evlog, .evLost, .sfi, .dcp] s t) ∧
    (causeOf e = none → Gives (exec (.sfiFaultDetect e) s) fun t => t = s) ∧
    (s.sfi.st = 5 → Gives (exec (.sfiFaultDetect e) s) fun t =>
      t.sfi = { s.sfi with ramBad := t.sfi.ramBad } ∧ Changes [.sfi] s t) ∧
    (s.sfiRuns = true → Gives (exec (.sfiPeriodicSelftest false) s) fun t =>
      SafeFaulted s 5 t ∧ Changes [.regs, .pendMode, .evlog, .evLost, .sfi, .dcp] s t) ∧
    Gives (exec (.sfiPeriodicSelftest true) s) (fun t => t = s) ∧
    (s.sfiRuns = true → s.sfi.due = true → Gives (exec .sfiTickOverrun s) fun t =>
      SafeFaulted s 6 t ∧ Changes [.regs, .pendMode, .evlog, .evLost, .ntu, .sfi, .dcp] s t)

/-- R340, R341, R347, R348, R351, R370: a tick samples inputs, readbacks and the mode; no safe output of role SAFE is wanted
outside RUN; 150 µs later the outputs switch to what is wanted and not faulted, the STO lines reach the axes and the global
stop line follows; a failed test pulse faults its pair and switches it off, and a wrong readback of the cut line is a
SAFE_FAULT. -/
def Sys2Proof.Rules.safetyTick : Prop :=
  ∀ (s : State) (raw inp : BitVec 24) (rb : BitVec 8) (cut : Bool) (q : Fin 4) (b : Fin 2) (k : Fin 64),
    let w := s.sfi.get 0x202 q * 1000 * 2 ^ 32
    (s.sfiTicks = true → Gives (exec (.sfiTickStart raw rb) s) fun t =>
      t.sfi.tick = s.sfi.tick + 1 ∧ t.sfi.raw = raw.toNat ∧ t.sfi.readback = rb.toNat ∧ t.sfi.seen = s.mode ∧
        t.sfi.due = true ∧ t.sfi.inTick = true ∧
        (bitAt t.sfi.want q = true → t.sfi.st = 4 ∨ t.sfi.st ≠ 5 ∧ t.sfi.get 0x200 q = 2) ∧
        Changes [.free, .regs, .ntu, .sfi] s t) ∧
    (s.sfiTicks = true → s.sfi.due = true → Gives (exec .sfiOutputSwitch s) fun t =>
      t.sfi.due = false ∧ t.sfi.line = s.sfi.gstop ∧
        bitAt t.sfi.on q = (bitAt s.sfi.want q && !bitAt s.sfi.fault q) ∧
        (s.domOn 6 = true → s.sfi.tickAt + 150000 * 2 ^ 32 ≤ t.ntu.lt) ∧
        (s.domOn 7 = true → t.bit (ACE_AXk_STAT_SFI_STO k) = s.sfi.stoLine k) ∧
        (s.sfi.gstop = true → s.liveMode = true → s.pendMode = none →
          ∃ p, t.pendMode = some p ∧ p.target = 9 ∧ p.cause = 0x0A)) ∧
    (∀ at_, s.sfiRuns = true → bitAt s.sfi.on q = true → s.sfi.pulseDue q b s.ntu.lt = some at_ →
      let pulse := exec (.outTestPulse q b ⟨rb, cut⟩ inp) s
      (cut = true → bitAt rb.toNat (2 * q + b) = true ∨ bitAt rb.toNat (2 * q + 1 - b) = false →
        Gives pulse fun t => bitAt t.sfi.fault q = true ∧ bitAt t.sfi.on q = false ∧ Changes [.regs, .ntu, .sfi] s t) ∧
      (cut = true → bitAt rb.toNat (2 * q + b) = false → bitAt rb.toNat (2 * q + 1 - b) = true →
        Gives pulse fun t => t.sfi.fault = s.sfi.fault ∧ t.sfi.on = s.sfi.on ∧
          (s.domOn 6 = true → at_ + w ≤ t.ntu.lt) ∧ Changes [.regs, .ntu, .sfi] s t) ∧
      (cut = false → Gives pulse fun t =>
        SafeFaulted s 7 t ∧ Changes [.regs, .pendMode, .evlog, .evLost, .ntu, .sfi, .dcp] s t))

/-- SAFE_FAULT, and the tick of the safety island. -/
def Obligations.SafetyFaultsAndTicks : Prop :=
  Sys2Proof.Rules.safetyFaults ∧ Sys2Proof.Rules.safetyTick

/-- R356, R365, R367, R368: a connection's watchdog leads to FAIL; STO without the drive's acknowledgement is a violation;
the time of a ramp ends SS1 in STO and SS2 in SOS; the brake closes after its delay. -/
def Obligations.SafetyTimers : Prop :=
  ∀ (s : State) (c : Fin 512) (k : Fin 64) (n : Nat), s.sfiRuns = true →
    let y (t : State) := t.sfi.conn c
    let a (t : State) := t.sfi.axis k
    let parts : List Part := [.regs, .ntu, .sfi]
    (s.sfi.st = 4 → s.sfi.isInput c = true → (y s).st = 1 ∨ (y s).st = 2 →
      Gives (exec (.dslWatchdogExpire c) s) fun t =>
        y t = { y s with st := 3, okRun := 0, wdExp := min 255 ((y s).wdExp + 1), lastErr := 5 } ∧
          (y s).since + 2 * s.sfi.get 0x402 c ≤ t.sfi.tick ∧ Changes parts s t) ∧
    ((a s).ackFrom = some n → (a s).st = 4 → (a s).acked = false → Gives (exec (.stoAckTimeout k) s) fun t =>
      (a t).st = 5 ∧ (a t).viol = true ∧ (a t).violSto = true ∧ n + 2 * s.sfi.get 0x604 k ≤ t.sfi.tick ∧
        Changes parts s t) ∧
    ((a s).st = 1 → Gives (exec (.ss1TimeExpire k) s) fun t =>
      (a t).st = 4 ∧ (a t).ended1 = true ∧ (a t).stoAt = some t.sfi.tick ∧ Changes parts s t) ∧
    ((a s).st = 2 → Gives (exec (.ss1TimeExpire k) s) fun t =>
      (a t).st = 3 ∧ (a t).ended2 = true ∧ Changes parts s t) ∧
    ((a s).stoAt = some n → bitAt (s.sfi.get 0x603 k) 31 = true → Gives (exec (.sbcDelayExpire k) s) fun t =>
      a t = { a s with sbc := true } ∧ n + 2 * (s.sfi.get 0x603 k % 2 ^ 16) ≤ t.sfi.tick ∧ Changes parts s t)

/-! ## Host interface -/

/-- R385, R386, R387, R525, R586: a slice takes a new value in CONFIG where it fits, and its first copy is active; otherwise
the write is refused; COMMIT is registered once; a partition whose count reaches WD_CYC is lost, and with WD_ACT = 1
SAFESTOP is on its way. -/
def Sys2Proof.Rules.slicesAndCommits : Prop :=
  ∀ (s : State) (p : Fin 6) (off : BitVec 8) (len : Fin 257), s.domOn 3 = true →
    let same := s.rd (HIC_PARTp_SLICE_OFF p) = off.toNat ∧ s.rd (HIC_PARTp_SLICE_LEN p) = len.val
    let may := s.mode = 3 ∧ off.toNat + len.val ≤ 256 ∧ s.sliceFits p off.toNat len = true
    let x := s.part p
    let wd := s.rd (HIC_PARTp_CTL_WD_CYC p)
    (same → Gives (exec (.hicSliceWrite p off len) s) fun t => t = s) ∧
    (¬same → may → Gives (exec (.hicSliceWrite p off len) s) fun t =>
      t.rd (HIC_PARTp_SLICE_OFF p) = off.toNat ∧ t.rd (HIC_PARTp_SLICE_LEN p) = len.val ∧
        t.bit (HIC_PARTp_COMMIT_PENDING p) = false ∧
        t.part p = { x with commitAsked := false, committed := false, activeCopy := 0 } ∧
        RegsBut [HIC_PARTp_SLICE p, HIC_PARTp_COMMIT p] s t ∧ Changes [.regs, .parts] s t) ∧
    (¬same → ¬may → Gives (exec (.hicSliceWrite p off len) s) fun t =>
      t.bit (cUSTAT_CFG_ERR uHIC) = true ∧ RegsBut [(cUSTAT_CFG_ERR uHIC).addr] s t ∧ Changes [.regs] s t) ∧
    (s.pcieDead p = false → Gives (exec (.hostCommitWrite p) s) fun t =>
      t.part p = { x with commitAsked := x.commitAsked || !s.bit (HIC_PARTp_COMMIT_PENDING p) } ∧
        Changes [.parts] s t) ∧
    (x.commitAsked = true → Gives (exec (.hostCommitRegister p) s) fun t =>
      t.bit (HIC_PARTp_COMMIT_PENDING p) = true ∧ t.part p = { x with commitAsked := false, committed := true } ∧
        RegsBut [HIC_PARTp_COMMIT p] s t ∧ Changes [.regs, .parts] s t) ∧
    (s.liveMode = true → x.committed = false → x.wdCount < wd → Gives (exec (.hostWdExpire p) s) fun t =>
      t.bit (HIC_PARTp_COMMIT_HOST_LOST p) = true ∧ (t.part p).wdCount = wd ∧
        (s.rd (HIC_PARTp_CTL_WD_ACT p) ≠ 1 → t.pendMode = s.pendMode) ∧
        (s.rd (HIC_PARTp_CTL_WD_ACT p) = 1 → s.pendMode = none →
          ∃ q, t.pendMode = some q ∧ q.target = 9 ∧ q.cause = 0x0B) ∧
        Changes [.regs, .pendMode, .evlog, .evLost, .parts, .msix, .dcp] s t)

/-- Partition `p` after its reset (R396, R419, R425). -/
def Sys2Proof.Machine.PartReset (p : Nat) (t : State) : Prop :=
  t.bit (HIC_PARTp_RING_TX_EN p) = false ∧ t.bit (HIC_PARTp_RING_RX_EN p) = false ∧ t.reg (HIC_PARTp_IDX p) = 0 ∧
    t.bit (HIC_PARTp_COMMIT_PENDING p) = false ∧ t.bit (HIC_PARTp_COMMIT_HOST_LOST p) = false ∧ (t.part p).txq = [] ∧
    (t.part p).commitAsked = false ∧ (∀ n, t.semHolder n ≠ p + 1) ∧
    ∀ q : Fin 4, t.bit (HIC_PARTp_Qq_CTL_EN p q) = false ∧ t.reg (HIC_PARTp_Qq_IDX p q) = 0

/-- R379, R396, R419, R425: a partition reset empties its rings, queues and commits and releases its semaphores; a
function-level reset is that of its partition, a link reset that of partitions 0 to 3. -/
def Sys2Proof.Rules.partitionResets : Prop :=
  ∀ (s : State) (p : Fin 6) (f g : Fin 4), s.domOn 3 = true →
    let parts : List Part := [.regs, .parts, .msix, .mqf, .dcp]
    Gives (exec (.hicPrstWrite p) s) (fun t => PartReset p t ∧ Changes parts s t) ∧
    (s.pcieDead f = false → Gives (exec (.functionLevelReset f) s) fun t => PartReset f t ∧ Changes parts s t) ∧
    Gives (exec .pcieLinkReset s) (fun t => PartReset g t ∧ Changes parts s t)

/-- Slices, commits and resets of the partitions. -/
def Obligations.PartitionSlicesAndResets : Prop :=
  Sys2Proof.Rules.slicesAndCommits ∧ Sys2Proof.Rules.partitionResets

/-- R388, R389, R391, R392, R393: a frame at HP that no partition wants is counted, one without a descriptor is dropped and
counted, and one with a descriptor goes to host memory with its completion after it; a frame of a transmit ring with
the partition's own address reaches HP ingress, a spoofed one is discarded, and a completed one moves TX_HEAD. -/
def Obligations.HostFrames : Prop :=
  ∀ (s : State) (p : Fin 6) (f : EthFrame) (rest : List EthFrame) (d : HostDesc) (tail : BitVec 16),
    s.domOn 3 = true →
    let rxSize := 2 ^ s.rd (HIC_PARTp_RING_RX_SIZE p)
    let txSize := 2 ^ s.rd (HIC_PARTp_RING_TX_SIZE p)
    let rxHead := s.rd (HIC_PARTp_IDX_RX_HEAD p)
    let txHead := s.rd (HIC_PARTp_IDX_TX_HEAD p)
    let len := bitsOf d.w1 13 0
    let own := frSa d.bytes = s.rd (HIC_PARTp_MAC_MAC p) ∧
      frPcp d.bytes (s.rd (SWC_PORTp_CTL_DEF_PCP 14)) ≤ s.rd (HIC_PARTp_CTL_TX_PCP_MAX p)
    (s.swc.hp = f :: rest →
      (s.hpTargets f = [] → Gives (exec (.hpFrameDeliver [d]) s) fun t =>
        t.swc.hp = rest ∧ CountsOne HIC_STAT_HP_NOMATCH s t ∧ RegsBut [HIC_STAT] s t ∧ Changes [.regs, .swc] s t) ∧
      (s.hpTargets f = [p.val] → s.bit (HIC_PARTp_RING_RX_EN p) = false → s.bit SWC_MIR_CTL_DROPS = false →
        Gives (exec (.hpFrameDeliver [d]) s) fun t =>
          t.swc.hp = rest ∧ CountsOne (HIC_PARTp_CNT_RX_DROP p) s t ∧
            RegsBut [HIC_PARTp_CNT p, HIC_PARTp_IRQ p] s t ∧ Changes [.regs, .msix, .swc] s t) ∧
      (s.hpTargets f = [p.val] → s.bit (HIC_PARTp_RING_RX_EN p) = true → p.val < 4 → d.part = p →
        rxHead ≠ s.rd (HIC_PARTp_IDX_RX_TAIL p) → f.bytes ≠ [] → f.bytes.length ≤ len →
        Gives (exec (.hpFrameDeliver [d]) s) fun t =>
          t.swc.hp = rest ∧ t.rd (HIC_PARTp_IDX_RX_HEAD p) = (rxHead + 1) % rxSize ∧
            t.dma = (p.val, 16 * s.rd (HIC_PARTp_RXBASE_BASE p) + 16 * rxHead + 8,
              bytesLE 8 (2 ^ 62 + 2 ^ 61 + f.bytes.length)) :: (p.val, d.w0.toNat, f.bytes) :: s.dma ∧
            RegsBut [HIC_PARTp_IDX p, HIC_PARTp_IRQ p] s t ∧ Changes [.regs, .msix, .dma, .swc] s t)) ∧
    (s.pcieDead p = false → s.bit (HIC_PARTp_RING_TX_EN p) = false ∨ txSize ≤ tail.toNat →
      Gives (exec (.hicTxPost p tail [d]) s) fun t =>
        t.bit (cUSTAT_CFG_ERR uHIC) = true ∧ RegsBut [(cUSTAT_CFG_ERR uHIC).addr] s t ∧ Changes [.regs] s t) ∧
    (s.pcieDead p = false → s.bit (HIC_PARTp_RING_TX_EN p) = true → p.val < 4 → d.part = p → (s.part p).txq = [] →
      txHead < txSize → 2 ≤ txSize → tail.toNat = (txHead + 1) % txSize → bitsOf d.w1 62 61 = 3 → d.bytes.length = len →
      (own → 60 ≤ len → len ≤ 9212 → s.domOn 6 = true → s.swc.recovering = false →
        Gives (exec (.hicTxPost p tail [d]) s) fun t =>
          (∃ g, t.swc.arrived = s.swc.arrived ++ [g] ∧ g.bytes = d.bytes ∧ g.ingress = 14) ∧
            (t.part p).txq = [⟨[d.w1.toNat], false⟩] ∧ t.rd (HIC_PARTp_IDX_TX_TAIL p) = tail.toNat ∧
            t.rd (HIC_PARTp_IDX_TX_HEAD p) = txHead ∧ RegsBut [HIC_PARTp_IDX p] s t ∧
            Changes [.regs, .parts, .swc] s t) ∧
      (¬own → Gives (exec (.hicTxPost p tail [d]) s) fun t =>
        CountsOne (HIC_PARTp_CNT_TX_SPOOF p) s t ∧ t.swc = s.swc ∧ (t.part p).txq = [] ∧
          t.rd (HIC_PARTp_IDX_TX_HEAD p) = tail.toNat ∧ Changes [.regs, .parts, .msix, .dma] s t)) ∧
    (∀ x, (s.part p).txq = [x] → Gives (exec (.hicTxComplete p) s) fun t =>
      (t.part p).txq = [] ∧ t.rd (HIC_PARTp_IDX_TX_HEAD p) = (txHead + x.words.length) % txSize ∧
        Changes [.regs, .sram, .mem, .parts, .msix, .dma] s t)

/-- The bytes of one aligned 64-bit word at BAR2 offset `a` are now `b`, and no other byte of shared SRAM has
changed. -/
def Sys2Proof.Machine.BarStored (s : State) (a : Nat) (b : List Byte) (t : State) : Prop :=
  memBytes t.sram (s.barAddr a) 8 = b ∧
    (∀ x, x < s.barAddr a ∨ s.barAddr a + 8 ≤ x → memByte t.sram x = memByte s.sram x) ∧ Changes [.sram] s t

/-- The word at BAR2 offset `a` lies in a bank that is ON, outside the vault, and no word of memory is
uncorrectable. -/
def Sys2Proof.Machine.BarHere (s : State) (a : Nat) : Prop :=
  a % 8 = 0 ∧ s.bankState (s.barAddr a / 0x80000) = 1 ∧ s.barAddr a < 0x2600000 ∧ s.mem.badWords = []

/-- R32, R378, R380, R382, R383: through PCIe and xSPI a permitted access of one word stores or reads it, a write of the
staging copy while a commit waits is discarded and counted, and a denied access changes no memory, returns zeros, and
is counted and latched; an access of a register through BAR0 is that of the register. -/
def Sys2Proof.Rules.hostAccesses : Prop :=
  ∀ (s : State) (p : Fin 6) (h : Fin 2) (a : BitVec 27) (n : BitVec 13) (w : BitVec 64) (pins : AccPins),
    s.domOn 3 = true → s.pcieDead p = false → s.barClosed = false →
    let b := bytesLE 8 w.toNat
    let at27 := a.toNat
    let put (q : Nat) (o : Host.Outcome State Fault Refusal) : Prop :=
      (s.memDenied q at27 8 true = true → Gives o fun t =>
        CountsOne (HIC_PARTp_CNT_FW_DENY q) s t ∧ Changes [.regs, .msix] s t ∧
          (s.bit HIC_STAT_VALID = false → t.bit HIC_STAT_VALID = true ∧ t.rd HIC_STAT_DENY_PART = q ∧
            t.bit HIC_STAT_DENY_WR = true ∧ t.bit HIC_STAT_DENY_SPACE = true ∧ t.rd HIC_STAT_DENY_ADDR = at27)) ∧
      (s.memDenied q at27 8 true = false → stagingOff at27 = true → s.bit (HIC_PARTp_COMMIT_PENDING q) = true →
        Gives o fun t => CountsOne (HIC_PARTp_CNT_DISCARDS q) s t ∧ RegsBut [HIC_PARTp_CNT q] s t ∧
          Changes [.regs] s t) ∧
      (s.memDenied q at27 8 true = false → ¬(stagingOff at27 = true ∧ s.bit (HIC_PARTp_COMMIT_PENDING q) = true) →
        BarHere s at27 → Gives o (BarStored s at27 b))
    let got (q : Nat) (parts : List Part) (o : Host.Outcome State Fault Refusal) : Prop :=
      (s.memDenied q at27 8 false = true → Gives o fun t =>
        t.readBytes = List.replicate 8 0 ∧ t.readData = 0 ∧ CountsOne (HIC_PARTp_CNT_FW_DENY q) s t ∧
          Changes ([.regs, .xspi, .msix, .readData, .readBytes, .readPoison]) s t) ∧
      (s.memDenied q at27 8 false = false → BarHere s at27 → Gives o fun t =>
        t.readBytes = memBytes s.sram (s.barAddr at27) 8 ∧ t.readPoison = false ∧ Changes parts s t)
    put p (exec (.hostAccess p true true a n b pins) s) ∧
    put (4 + h.val) (exec (.memWrite h (a.zeroExtend 32) [w]) s) ∧
    (n = 8 → got p [.readData, .readBytes, .readPoison] (exec (.hostAccess p true false a n b pins) s)) ∧
    got (4 + h.val) [.readData, .readBytes, .readPoison] (exec (.memRead h (a.zeroExtend 32) 8) s) ∧
    (at27 % 8 = 0 → s.regDenied p at27 true = false → Gives (exec (.hostAccess p false true a n b pins) s) fun t =>
      ∀ (who : Fin 33) (r : BitVec 32), who.val = p.val → r.toNat = aliasTo p at27 →
        exec (.registerWrite who r w true true pins) s = .next t)

/-- R381: a register access of an xSPI port makes it busy, and while one is under way another only sets OVERLAP; the read
that ends keeps its data for RESULT, which clears DENIED and OVERLAP. -/
def Sys2Proof.Rules.xspiRegisters : Prop :=
  ∀ (s : State) (h : Fin 2) (a : BitVec 32) (v : BitVec 64) (pins : AccPins), s.domOn 3 = true →
    let x := s.port h
    (x.busy = true → ∀ c ∈ ([.regWrite h a v pins, .regRead h a] : List Instr), Gives (exec c s) fun t =>
      t.port h = { x with overlap := true } ∧ Changes [.xspi] s t) ∧
    (x.busy = false → Gives (exec (.regWrite h a v pins) s) fun t =>
      t.port h = { x with busy := true, reading := false } ∧
        t.readData = s.readData ∧ t.readBytes = s.readBytes) ∧
    (x.busy = false → Gives (exec (.regRead h a) s) fun t =>
      (t.port h).busy = true ∧ (t.port h).ready = false ∧ (t.port h).reading = true ∧ (t.port h).overlap = x.overlap ∧
        (x.denied = true → (t.port h).denied = true) ∧
        Changes [.regs, .evlog, .evLost, .xspi, .msix, .ntu, .image, .pawns, .mqf] s t) ∧
    Gives (exec (.result h) s) fun t =>
      t.readData = x.data ∧ t.readBytes = wordsBytes [BitVec.ofNat 64 (b2n x.ready + 2 * b2n x.busy + 4 * b2n x.denied
        + 8 * b2n x.overlap), x.data] ∧ t.port h = { x with denied := false, overlap := false } ∧
        Changes [.xspi, .readData, .readBytes] s t

/-- Accesses of the hosts through BAR0, BAR2 and the xSPI ports. -/
def Obligations.HostPorts : Prop :=
  Sys2Proof.Rules.hostAccesses ∧ Sys2Proof.Rules.xspiRegisters

/-- R9, R12, R13, R376, R548, R551, R555: a write changes only the halves it addresses; in a domain that is not ON it does
nothing; ones clear interrupt status; a reserved value leaves the register and sets CFG_ERR; another partition leaves
a window of the owner; a lock keeps its register. -/
def Obligations.RegisterWrites : Prop :=
  ∀ (s : State) (who : Fin 33) (n : Fin 32) (j : Fin 4) (w : Fin 64) (v : BitVec 64) (lo hi : Bool) (pins : AccPins),
    s.pcieDead who = false →
    let m := halfBits lo hi
    let write (a : Nat) := exec (.registerWrite who (BitVec.ofNat 32 a) v lo hi pins) s
    let only (a : Nat) (x : Word) (t : State) : Prop := t.reg a = x ∧ RegsBut [a] s t ∧ Changes [.regs] s t
    let err (u : Nat) (t : State) : Prop :=
      t.bit (cUSTAT_CFG_ERR u) = true ∧ RegsBut [(cUSTAT_CFG_ERR u).addr] s t ∧ Changes [.regs] s t
    (s.domOn 8 = true → Gives (write (PIA_SAFE n j)) (only (PIA_SAFE n j) ((s.reg (PIA_SAFE n j) &&& ~~~m) ||| (v &&& m)))) ∧
    (s.domOn 8 = false → Gives (write (PIA_SAFE n j)) fun t => t = s) ∧
    (s.domOn 8 = true → Gives (write (cISTAT uPIA).addr)
      (only (cISTAT uPIA).addr (s.reg (cISTAT uPIA).addr &&& ~~~(v &&& m)))) ∧
    (s.domOn 8 = true → lo = true → bitsOf v 15 0 = 0 → Gives (write (PIA_Pn_CLKDIV n)) (err uPIA)) ∧
    (s.domOn 3 = true → 1 ≤ who.val → who.val ≤ 5 →
      Gives (write (HIC_FWw_BASE w)) fun t => t.bit (HIC_FWw_BASE_EN w) = s.bit (HIC_FWw_BASE_EN w) ∧
        t.bit (HIC_FWw_BASE_SPACE w) = s.bit (HIC_FWw_BASE_SPACE w) ∧
        t.rd (HIC_FWw_BASE_BASE w) = s.rd (HIC_FWw_BASE_BASE w) ∧ RegsBut [HIC_FWw_BASE w] s t ∧ Changes [.regs] s t) ∧
    (s.domOn 6 = true → s.bit (cUCTL_LOCK uNTU) = true → bitsOf v 31 0 ≤ 1073742 → s.rd NTU_LT_TRIM_TRIM ≤ 1073742 →
      Gives (write NTU_LT_TRIM) fun t => t.rd NTU_LT_TRIM_TRIM = s.rd NTU_LT_TRIM_TRIM ∧ RegsBut [NTU_LT_TRIM] s t ∧
        Changes [.regs] s t)

/-! ## Mailboxes, semaphores and packet queues -/

/-- R426, R427, R428, R429, R430, R435: a POST of the sender publishes the staged message, clears the acknowledge and rings
the receiver; the receiver's acknowledge of that message empties the mailbox and keeps its code; one that names
another message only counts; a time-out sets TIMEOUT and code 0xFFF1 and leaves the message deliverable. -/
def Sys2Proof.Rules.mailboxes : Prop :=
  ∀ (s : State) (who : Fin 33) (m : Fin 128) (len : BitVec 9) (epoch seq code : BitVec 16),
    let en := s.bit (MQF_MBm_CFG_EN m)
    let snd := s.rd (MQF_MBm_CFG_SENDER m)
    let rcv := s.rd (MQF_MBm_CFG_RECEIVER m)
    let n := (mapGet (fun _ => 0) s.mqf.pairSeq (64 * who + rcv) + 1) % 65536
    let post := exec (.mbPost who m len) s
    let ack := exec (.mbAck who m epoch seq code) s
    let bad (t : State) : Prop := t.bit (cUSTAT_CFG_ERR uMQF) = true ∧ t.mqf = s.mqf ∧
      RegsBut [(cUSTAT_CFG_ERR uMQF).addr] s t ∧ Changes [.regs] s t
    (en = false ∨ snd ≠ who.val → Gives post fun t => t = s) ∧
    (en = true → snd = who.val → len = 0 ∨ 256 < len.toNat → Gives post bad) ∧
    (en = true → snd = who.val → 0 < len.toNat → len.toNat ≤ 256 → Gives post fun t =>
      t.bit (MQF_MBm_STAT_FULL m) = true ∧ t.rd (MQF_MBm_STAT_LEN m) = len.toNat ∧ t.rd (MQF_MBm_STAT_SEQ m) = n ∧
        t.rd (MQF_MBm_STAT_SENDER_EPOCH m) = s.epoch who ∧ t.bit (MQF_MBm_ACK_VALID m) = false ∧
        (∀ w : Fin 32, t.reg (MQF_MESSAGE m w) = s.reg (MQF_STAGING m w)) ∧
        bitAt (t.rd (MQF_DBa_PEND_PEND rcv)) (s.rd (MQF_MBm_CFG_DB_BIT m)) = true ∧
        (s.bit (MQF_MBm_STAT_FULL m) = true → t.bit (MQF_MBm_STAT_COLLISION m) = true ∧
          CountsOne MQF_CNT_COLLISIONS s t) ∧
        Changes [.regs, .msix, .mqf] s t) ∧
    (en = true → rcv = who.val → 0xFFF0 ≤ code.toNat → Gives ack bad) ∧
    (en = true → rcv = who.val → code.toNat < 0xFFF0 →
      (s.bit (MQF_MBm_STAT_FULL m) = false ∨ s.rd (MQF_MBm_STAT_SEQ m) ≠ seq.toNat → Gives ack fun t =>
        CountsOne MQF_CNT_STALE_ACK s t ∧ RegsBut [MQF_CNT] s t ∧ Changes [.regs] s t) ∧
      (s.bit (MQF_MBm_STAT_FULL m) = true → s.rd (MQF_MBm_STAT_SEQ m) = seq.toNat → epoch.toNat = s.epoch snd →
        Gives ack fun t =>
          t.bit (MQF_MBm_STAT_FULL m) = false ∧ t.rd (MQF_MBm_ACK_CODE m) = code.toNat ∧
            t.rd (MQF_MBm_ACK_SEQ m) = seq.toNat ∧ t.rd (MQF_MBm_ACK_EPOCH m) = epoch.toNat ∧
            t.bit (MQF_MBm_ACK_VALID m) = true ∧
            (s.bit (MQF_MBm_ACK_VALID m) = true → t.bit (MQF_MBm_STAT_ACK_LATE m) = true) ∧
            (s.bit (MQF_MBm_CFG_ACK_DB_EN m) = true →
              bitAt (t.rd (MQF_DBa_PEND_PEND snd)) (s.rd (MQF_MBm_CFG_ACK_DB m)) = true) ∧
            Changes [.regs, .msix, .mqf] s t)) ∧
    (en = true → mapGet (fun _ => false) s.mqf.timing m.val = true → Gives (exec (.mbTimeout m) s) fun t =>
      t.bit (MQF_MBm_STAT_TIMEOUT m) = true ∧ t.rd (MQF_MBm_STAT_REASON m) = 1 ∧ CountsOne MQF_CNT_TIMEOUTS s t ∧
        t.rd (MQF_MBm_ACK_CODE m) = 0xFFF1 ∧ t.bit (MQF_MBm_ACK_VALID m) = true ∧
        t.bit (MQF_MBm_STAT_FULL m) = s.bit (MQF_MBm_STAT_FULL m) ∧ Changes [.regs, .msix, .mqf] s t)

/-- R436: a take of a free or own semaphore grants it to the agent, a take of another's names its holder; the holder and
agent 0 release it, and a release by anyone else only counts. -/
def Sys2Proof.Rules.semaphores : Prop :=
  ∀ (s : State) (who : Fin 33) (n : Fin 64), s.domOn 2 = true →
    let h := s.semHolder n
    let only (x : Nat) (t : State) : Prop := t.semHolder n = x ∧ (∀ m, m ≠ n.val → t.semHolder m = s.semHolder m)
    (who.val ≠ 7 → h = 0 ∨ h = who.val + 1 → Gives (exec (.semTake who n) s) fun t =>
      t.readData.toNat = 0x100 + who.val ∧ only (who.val + 1) t ∧ Changes [.mqf, .readData] s t) ∧
    (who.val ≠ 7 → h ≠ 0 → h ≠ who.val + 1 → h ≤ 33 → Gives (exec (.semTake who n) s) fun t =>
      t.readData.toNat = 0x200 + (h - 1) ∧ Changes [.readData] s t) ∧
    (h = who.val + 1 ∨ who = 0 → Gives (exec (.semRelease who n) s) fun t => only 0 t ∧ Changes [.mqf] s t) ∧
    (h ≠ who.val + 1 → who ≠ 0 → Gives (exec (.semRelease who n) s) fun t =>
      CountsOne MQF_CNT_REL_DENIED s t ∧ RegsBut [MQF_CNT] s t ∧ Changes [.regs] s t)

/-- The mailboxes and the semaphores. -/
def Obligations.MailboxesAndSemaphores : Prop :=
  Sys2Proof.Rules.mailboxes ∧ Sys2Proof.Rules.semaphores

/-- R438, R439, R440, R443, R444, R445: in a running queue the writer's first word opens a packet; COMMIT writes the header
item and the data and moves PUT past them; REWIND discards the open packet; the reader takes the item at GET, and an
empty queue reads 0; FLUSH empties the queue. -/
def Sys2Proof.Rules.packetQueues : Prop :=
  ∀ (s : State) (who : Fin 33) (k : Fin 64) (data : BitVec 32) (vb : BitVec 2), s.pqRunning k = true →
    let q := s.pq k
    let put := s.rd (PQk_IDX_PUT k)
    let get := s.rd (PQk_IDX_GET k)
    let base := s.rd (PQk_CFG_BASE k)
    let item (i : Nat) := base + 16 * (i % 2 ^ s.rd (PQk_CFG_SIZE k))
    let here := base % 16 = 0 ∧ base + 16 * 2 ^ s.rd (PQk_CFG_SIZE k) ≤ 0x2600000 ∧ 1 ≤ s.rd (PQk_CFG_SIZE k) ∧
      (∀ b : Fin 76, s.bankState b = 1) ∧ s.mem.badWords = []
    let writer := s.rd (PQk_CFG_WRITER k) = who.val
    let reader := s.rd (PQk_CFG_READER k) = who.val
    (writer → q.cur = none → s.pqRoom k 1 = true → Gives (exec (.pqWr who k data 0 false) s) fun t =>
      t.pq k = { q with cur := some ⟨q.opened, bytesLE 4 data.toNat, false, false⟩, opened := (q.opened + 1) % 2 ^ 32 } ∧
        t.bit (PQk_STAT_OPEN k) = true ∧ t.rd (PQk_STAT_OPEN_LEN k) = 4 ∧ RegsBut [PQk_STAT k] s t ∧
        Changes [.regs, .mqf] s t) ∧
    (writer → vb ≠ 0 → Gives (exec (.pqWr who k data vb false) s) fun t =>
      t.bit (cUSTAT_CFG_ERR uPQ) = true ∧ RegsBut [(cUSTAT_CFG_ERR uPQ).addr] s t ∧ Changes [.regs] s t) ∧
    (∀ p, writer → s.inRegion who = false → q.cur = some p → p.dropped = false → p.counted = false →
      s.rd (PQk_STAT_GAP_COUNT k) = 0 → Gives (exec (.pqCommit who k) s) fun t =>
        t.pq k = { q with cur := none, flushed := false } ∧ t.bit (PQk_STAT_OPEN k) = false ∧
          t.rd (PQk_IDX_PUT k) = (put + 1 + (p.bytes.length + 15) / 16) % 2 ^ 32 ∧ t.rd (PQk_IDX_GET k) = get ∧
          (here → 0 < p.bytes.length → p.bytes.length ≤ 16 →
            memBytes t.sram (item put) 16 = pqHeader p.seq 1 (p.bytes.length % 16) p.bytes.length q.flushed s.ltNs ∧
              memBytes t.sram (item (put + 1)) p.bytes.length = p.bytes) ∧
          Changes [.regs, .sram, .mem, .mqf] s t) ∧
    (writer → q.cur ≠ none → Gives (exec (.pqRewind who k) s) fun t =>
      t.pq k = { q with cur := none } ∧ t.bit (PQk_STAT_OPEN k) = false ∧ CountsOne (PQk_CNT_REWINDS k) s t ∧
        RegsBut [PQk_STAT k, PQk_CNT k] s t ∧ Changes [.regs, .mqf] s t) ∧
    (writer ∨ reader ∨ who = 0 → Gives (exec (.pqFlush who k) s) fun t =>
      t.pq k = { q with cur := none, deferred := [], flushed := true } ∧ t.rd (PQk_IDX_GET k) = put ∧
        t.rd (PQk_IDX_PUT k) = put ∧ t.rd (PQk_STAT_GAP_COUNT k) = 0 ∧ CountsOne (PQk_CNT_FLUSHES k) s t ∧
        RegsBut [PQk_STAT k, PQk_IDX k, PQk_CNT k] s t ∧ Changes [.regs, .mqf] s t) ∧
    (reader → who ≠ 7 → put ≠ get → here → Gives (exec (.pqRd0Pop who k) s) fun t =>
      t.readData = memWord s.sram (item get) ∧ t.reg (PQk_RD1 k) = memWord s.sram (item get + 8) ∧
        t.rd (PQk_IDX_GET k) = (get + 1) % 2 ^ 32 ∧ t.rd (PQk_IDX_PUT k) = put ∧
        RegsBut [PQk_IDX k, PQk_RD1 k] s t ∧ Changes [.regs, .readData] s t) ∧
    (reader → who ≠ 7 → put = get → Gives (exec (.pqRd0Pop who k) s) fun t =>
      t.readData = 0 ∧ t.reg (PQk_RD1 k) = 0 ∧ CountsOne (PQk_CNT_EMPTY_POP k) s t ∧
        RegsBut [PQk_RD1 k, PQk_CNT k] s t ∧ Changes [.regs, .readData] s t)

/-- R443, R446: EN = 1 starts an OFF unit empty and RUNNING, and waits as PENDING while it stops; EN = 0 stops it; a stop
ends in OFF with the indices and counters at 0, or in the pending start. -/
def Sys2Proof.Rules.packetQueueStates : Prop :=
  ∀ (s : State) (k : Fin 64), s.domOn 2 = true →
    let st (t : State) := t.rd (PQk_STAT_STATE k)
    (st s = 0 → s.domOn 9 = true → Gives (exec (.pqEnable k) s) fun t =>
      st t = 2 ∧ t.bit (PQk_CTL_EN k) = true ∧ t.pq k = PqSt.reset ∧ RegsBut [PQk_CTL k, PQk_STAT k] s t ∧
        Changes [.regs, .mqf] s t) ∧
    (st s = 3 → Gives (exec (.pqEnable k) s) fun t =>
      st t = 3 ∧ t.bit (PQk_STAT_PENDING k) = true ∧ RegsBut [PQk_CTL k, PQk_STAT k] s t ∧ Changes [.regs] s t) ∧
    (st s = 2 → Gives (exec (.pqDisable k) s) fun t =>
      st t = 3 ∧ t.bit (PQk_CTL_EN k) = false ∧ RegsBut [PQk_CTL k, PQk_STAT k] s t ∧ Changes [.regs] s t) ∧
    (st s = 3 → Gives (exec (.pqStopDone k) s) fun t =>
      st t = (if s.bit (PQk_STAT_PENDING k) && s.domOn 9 then 2 else 0) ∧ t.reg (PQk_IDX k) = 0 ∧ t.reg (PQk_CNT k) = 0 ∧
        t.pq k = PqSt.reset ∧ RegsBut [PQk_STAT k, PQk_IDX k, PQk_CNT k, PQk_RD1 k] s t ∧ Changes [.regs, .mqf] s t)

/-- The packet queue units and their states. -/
def Obligations.QueueUnits : Prop :=
  Sys2Proof.Rules.packetQueues ∧ Sys2Proof.Rules.packetQueueStates

/-! ## The Dapex Command Protocol -/

/-- R402, R405, R407, R409, R423: a doorbell moves SQ_TAIL or is refused; the fetch of a host's entry moves SQ_HEAD and starts
the command, an undefined opcode with its outcome UNKNOWN_OPCODE; a waiting command times out; a completion posts its
entry behind CQ_TAIL and keeps the sequence record; a partition's silent command posts nothing. -/
def Obligations.CommandQueues : Prop :=
  ∀ (s : State) (p : Fin 6) (q : Fin 4) (tail : BitVec 16) (entry payload : List Byte) (r : DcpRun) (x : DcpResult),
    s.domOn 3 = true →
    let size := 2 ^ s.rd (HIC_PARTp_Qq_CTL_SIZE p q)
    let head := s.rd (HIC_PARTp_Qq_IDX_SQ_HEAD p q)
    let cq := s.rd (HIC_PARTp_Qq_IDX_CQ_TAIL p q)
    let slot := 4 * p.val + q.val
    let doorbell := exec (.dcpSqDoorbell p q tail) s
    let fetch := exec (.dcpFetch p q entry payload false false) s
    let len := leAt entry 6 2
    (s.pcieDead p = false → tail.toNat < size → Gives doorbell fun t =>
      t.rd (HIC_PARTp_Qq_IDX_SQ_TAIL p q) = tail.toNat ∧ t.rd (HIC_PARTp_Qq_IDX_SQ_HEAD p q) = head ∧
        RegsBut [HIC_PARTp_Qq_IDX p q] s t ∧ Changes [.regs] s t) ∧
    (s.pcieDead p = false → size ≤ tail.toNat → Gives doorbell fun t =>
      t.bit (cUSTAT_CFG_ERR uHIC) = true ∧ RegsBut [(cUSTAT_CFG_ERR uHIC).addr] s t ∧ Changes [.regs] s t) ∧
    (p.val < 4 → s.dcpServes = true → s.qNext = some slot → s.dcp.runs = [] → s.pendMode = none →
      byteAt entry 2 ≤ 1 → (∀ i, 10 ≤ i → i < 16 → byteAt entry i = 0) → len ≤ 4096 → 32 ≤ entry.length →
      (opDefined (leAt entry 0 2) = false → Gives fetch fun t =>
        ∃ y, t.dcp.runs = [y] ∧ y.slot = slot ∧ y.started = true ∧ y.seq = leAt entry 8 2 ∧
          y.result = some ⟨0x101, noDetail⟩ ∧ t.rd (HIC_PARTp_Qq_IDX_SQ_HEAD p q) = (head + 1) % size ∧
          t.dcp.rr = slot ∧ RegsBut [HIC_PARTp_Qq_IDX p q] s t ∧ Changes [.regs, .dcp] s t) ∧
      (leAt entry 0 2 = 0 → len = 0 → s.bit (HIC_PARTp_Qq_CTL_SEQ_VALID p q) = false → s.boot.lifeCycle ≠ 5 →
        Gives fetch fun t =>
          ∃ y, t.dcp.runs = [y] ∧ y.slot = slot ∧ y.part = p.val ∧ y.opcode = 0 ∧ y.tag = leAt entry 4 2 ∧
            y.seq = leAt entry 8 2 ∧ y.started = true ∧ y.gap = false ∧ y.result = none ∧
            t.rd (HIC_PARTp_Qq_IDX_SQ_HEAD p q) = (head + 1) % size ∧ Changes [.regs, .dcp] s t)) ∧
    (s.dcpServes = true → s.rd (HIC_PARTp_Qq_CTL_TMO p q) ≠ 0 → s.runAt slot = some r → r.started = false →
      Gives (exec (.dcpStartTimeout p q entry) s) fun t =>
        t.runAt slot = some { r with started := true, result := some ⟨0x209, noDetail⟩ } ∧ Changes [.dcp] s t) ∧
    (∀ k : Fin 25, k.val = slot → s.runAt slot = some r → r.part = p.val → r.result = some x → s.dcp.restarting = false →
      (r.silent = true → Gives (exec (.dcpCompletion k) s) fun t => t.runAt slot = none ∧ Changes [.regs, .dcp] s t) ∧
      (r.silent = false → p.val < 4 → r.raddr = 0 → Gives (exec (.dcpCompletion k) s) fun t =>
        t.runAt slot = none ∧ t.rd (HIC_PARTp_Qq_IDX_CQ_TAIL p q) = (cq + 1) % size ∧
          (let a := 16 * s.rd (HIC_PARTp_CQq_BASE_BASE p q) + 16 * cq
           t.dma = (p.val, a + 14, [BitVec.ofNat 8 (1 - mapGet (fun _ => 0) s.dcp.pass slot % 2), BitVec.ofNat 8 q.val]) ::
            (p.val, a, cqEntry r 0 x.status head) :: s.dma) ∧
          (x.status ≠ 2 → t.rd (HIC_PARTp_Qq_CTL_LAST_SEQ p q) = r.seq % 2 ^ 16 ∧
            t.bit (HIC_PARTp_Qq_CTL_SEQ_VALID p q) = true ∧
            t.bit (HIC_PARTp_Qq_CTL_LAST_OK p q) = (x.status == 0)) ∧
          Changes [.regs, .msix, .dma, .dcp] s t))

/-- R89, R360, R410, R529: in DEGRADED a command frame at MP runs at once or waits behind the one that runs, and outside DEGRADED it is
discarded; the MGP takes any other frame with its software timestamp and relays a safety frame its table names; the
watchdog of the MGP restarts its firmware, its third expiry within 60 s is a failed start, and the end
of the restart gives every command without an outcome INTERNAL. -/
def Obligations.CommandFramesAndRestarts : Prop :=
  ∀ (s : State) (f : EthFrame) (rest : List EthFrame),
    let body := f.bytes.drop (etOff f.bytes + 2)
    let ns := s.ltNs
    let software := tsClass f.cls f.bytes = false
    let before := s.dcp.expiries.filter fun e => decide (ns < e + 60000000000)
    (s.domOn 2 = true → s.swc.mp = f :: rest → isCommandFrame f = true →
      (s.mode = 8 → s.dcp.restarting = false → s.dcp.frames.length < 4 → (s.runAt 24).isSome = true →
        Gives (exec .dcpFrameCommand s) fun t =>
          t.swc.mp = rest ∧ (∃ c, t.dcp.frames = s.dcp.frames ++ [c] ∧ c.src = frSa f.bytes ∧ c.body = body) ∧
            t.dcp.runs = s.dcp.runs ∧ Changes [.swc, .dcp] s t) ∧
      (s.mode = 8 → s.dcp.restarting = false → s.dcp.frames = [] → s.runAt 24 = none →
        Gives (exec .dcpFrameCommand s) fun t =>
          t.swc.mp = rest ∧ t.dcp.frames = [] ∧ (∃ r, t.runAt 24 = some r ∧ r.started = true ∧
            r.opcode = beAt (body.take 16) 0 2 ∧ r.part = 0) ∧ Changes [.swc, .dcp] s t) ∧
      (s.mode ≠ 8 → Gives (exec .dcpFrameCommand s) fun t => t.swc.mp = rest ∧ Changes [.swc] s t)) ∧
    (s.domOn 2 = true → s.swc.mp = f :: rest → isCommandFrame f = false → s.dcp.restarting = false →
      (etherType f.bytes ≠ 0x88B5 ∨ s.relayOf f = none → Gives (exec .mpFrameReceive s) fun t =>
        t.swc.mp = rest ∧ (software → t.readData = BitVec.ofNat 64 (ns - 2100)) ∧
          (¬ software → t.readData = BitVec.ofNat 64 (f.ts.getD 0 / 65536)) ∧ Changes [.swc, .readData] s t) ∧
      (∀ c, etherType f.bytes = 0x88B5 → s.relayOf f = some c → s.sfiOn = true → s.sfi.rx.length < 64 →
        Gives (exec .mpFrameReceive s) fun t =>
          t.swc.mp = rest ∧ (software → t.readData = BitVec.ofNat 64 (ns - 2100)) ∧
            t.sfi = { s.sfi with rx := s.sfi.rx ++ [(c, body.take 126)] } ∧ Changes [.swc, .sfi, .readData] s t)) ∧
    (s.domOn 2 = true → s.boot.running = false → s.boot.halted = none → before.length < 2 →
      Gives (exec .mgpWatchdogExpire s) fun t =>
        t.dcp.restarting = true ∧ CountsOne SYSCTL_FAULT_STAT_MGP_RESTARTS s t ∧
          t.rd (MQF_EPOCHa_EPOCH 6) = (s.rd (MQF_EPOCHa_EPOCH 6) + 1) % 2 ^ 16 ∧ (∀ n, t.semHolder n ≠ 7) ∧
          t.dcp.runs = s.dcp.runs ∧ Changes [.regs, .evlog, .evLost, .msix, .mqf, .dcp] s t) ∧
    (s.domOn 2 = true → s.boot.running = false → s.boot.halted = none → 2 ≤ before.length →
      Gives (exec .mgpWatchdogExpire s) fun t =>
        t.boot.failCount = min 3 (s.boot.failCount + 1) ∧ t.domOn 2 = false ∧
          t.boot.nextKind = some (if 2 ≤ s.boot.failCount then 3 else 2) ∧
          t.boot.nextCause = if 2 ≤ s.boot.failCount then 7 else 0x0B) ∧
    (s.dcp.restarting = true → Gives (exec .mgpRestartDone s) fun t =>
      t.dcp = { s.dcp with restarting := false, runs := s.dcp.runs.map fun r =>
          if r.result = none then { r with result := some ⟨0x403, []⟩ } else r } ∧ Changes [.dcp] s t)

/-- The command `op` in `slot` has started and has no outcome yet, and the MGP takes commands (R406). -/
def Sys2Proof.Machine.DcpRuns (s : State) (slot op : Nat) (r : DcpRun) : Prop :=
  s.dcpServes = true ∧ s.runAt slot = some r ∧ r.started = true ∧ r.result = none ∧ r.opcode = op

/-- The command has its outcome, and nothing else has changed. -/
def Sys2Proof.Machine.OnlyAnswered (slot status : Nat) (reply : List Byte) (s t : State) : Prop :=
  Answered slot status reply s t ∧ t.dcp = { s.dcp with runs := t.dcp.runs } ∧ Changes [.dcp] s t

/-- R411, R412, R413, R417, R459, R543, R576, R587: the commands that read change nothing but their own outcome: the mode
registers, the registry, the states of the network, an axis, the island, the images, the logs, the temperature, a
calibration value, the findings of a check, and what the addressed instance answers. -/
def Obligations.CommandsThatRead : Prop :=
  ∀ (s : State) (slot : Fin 25) (r : DcpRun) (tj : BitVec 64) (ans : List Byte),
    let pay := r.payload
    let c := leAt pay 0 2
    let k := byteAt pay 0
    let limit := min (leAt pay 4 4) (if slot.val = 24 then 1024 else 4096)
    let does (i : Instr) (op status : Nat) (reply : List Byte) : Prop :=
      DcpRuns s slot op r → Gives (exec i s) (OnlyAnswered slot status reply s)
    let tells (i : Instr) (op : Nat) (P : List Byte → Prop) : Prop :=
      DcpRuns s slot op r → Gives (exec i s) fun t => ∃ b, OnlyAnswered slot 0 b s t ∧ P b
    does (.nop slot) 0x000 0 [] ∧
    tells (.identify slot) 0x001 (fun b => b.length = 40 ∧ leAt b 0 2 = 0x9960 ∧ byteAt b 2 = b2n s.variantS ∧
      byteAt b 3 = 0x10 ∧ byteAt b 5 = s.mode) ∧
    does (.modeGet slot) 0x100 0 (wordsBytes [s.reg SYSCTL_MODE, s.reg SYSCTL_MODE_CFG]) ∧
    (∀ y, s.connRec c = some y → does (.connGet slot) 0x202 0 (y.bytes c)) ∧
    (s.connRec c = none → does (.connGet slot) 0x202 0x304 (dcpDetail 0xFFFF 0 c)) ∧
    (s.dcp.conns = [] → s.connUses = [] → s.connReplies = [] → s.failedAreas = [] → does (.cfgCheck slot) 0x208 0 []) ∧
    (leAt pay 0 2 < 24 → s.engState (leAt pay 0 2) = 2 →
      does (.netAcyc slot (some ans)) 0x303 0 (ans.take 4096)) ∧
    does (.netAcyc slot none) 0x303 0x307 (dcpDetail 0xFFFF 0 c) ∧
    tells (.netStatus slot) 0x306 (fun b => b.length = 128 ∧ (∀ p : Fin 10, byteAt b p = s.epcState p) ∧
      (∀ g : Fin 4, byteAt b (16 + g) = s.segState g) ∧ ∀ n : Fin 6, byteAt b (32 + n) = s.canState n) ∧
    (s.domOn 7 = true → k < 64 → does (.axisGet slot) 0x401 0 (wordsBytes [s.reg (ACE_AXk_STAT k), s.reg (ACE_AXk_SPOS k),
      s.reg (ACE_AXk_SERR k), s.reg (ACE_AXk_SOUT k), s.reg (ACE_AXk_SINT k), s.reg ACE_SNAP_SEQ])) ∧
    (s.domOn 7 = true → 64 ≤ k → does (.axisGet slot) 0x401 0x301 (dcpDetail 0xFFFF 0 k)) ∧
    (s.domOn 7 = false → does (.axisGet slot) 0x401 0x203 noDetail) ∧
    (s.domOn 1 = true → tells (.safeView slot) 0x501 (fun b => b.length = 568 ∧ leAt b 0 8 = (s.reg SFI_STAT).toNat ∧
      ∀ n : Fin 64, leAt b (56 + 8 * n) 8 = (s.reg (SFI_AXk n)).toNat)) ∧
    tells (.imageInfo slot) 0x603 (fun b => b.length = 64 ∧ byteAt b 4 = s.boot.slotA % 256 ∧
      byteAt b 36 = s.boot.slotB % 256) ∧
    does (.eventRead slot) 0x700 0
      (((eventsFrom s.evlog.reverse (leAt pay 0 4)).take (limit / 32)).flatMap EventRec.bytes) ∧
    does (.journalRead slot) 0x701 0 ((s.boot.journal.reverse.filter fun j =>
      decide ((s.boot.startNo + 2 ^ 32 - j.start) % 2 ^ 32 < 2)).flatMap JournalRec.bytes) ∧
    does (.tempRead slot tj) 0x704 0 (bytesLE 8 tj.toNat) ∧
    (∀ v, calReg c (byteAt pay 2) ≠ none → s.userCal c (byteAt pay 2) = some v → byteAt pay 3 ≠ 1 →
      does (.calGet slot) 0x800 0 (bytesLE 8 v ++ bytesLE 8 2)) ∧
    (calReg c (byteAt pay 2) ≠ none → byteAt pay 3 = 1 →
      does (.calGet slot) 0x800 0 (bytesLE 8 (factoryCal c (byteAt pay 2)) ++ bytesLE 8 1)) ∧
    (calReg c (byteAt pay 2) = none → does (.calGet slot) 0x800 0x304 (dcpDetail 0xFFFF 0 (byteAt pay 2)))

/-- R45, R49, R385, R413, R414, R415, R419, R420, R421, R464, R465, R587, R588: what the commands of resets, life cycle, modes,
registry, safe values, grants, slices and stored configuration change, and how they fail. -/
def Obligations.CommandsThatConfigure : Prop :=
  ∀ (s : State) (slot : Fin 25) (r : DcpRun) (p : Fin 6),
    let pay := r.payload
    let c := leAt pay 0 2
    let w : Word := BitVec.ofNat 64 (leAt pay 0 8)
    let m := leAt pay 0 4
    let rec_ : ConnRec := ⟨byteAt pay 2, byteAt pay 3, byteAt pay 4, leAt pay 6 2, leAt pay 8 4⟩
    let recOk := c ≤ 0xFFF ∧ agentExists rec_.unit rec_.agent = true ∧ 0 < rec_.len ∧ 
      rec_.len ≤ (if rec_.unit = 1 then 32 else 64) ∧ (rec_.dir = 0 → 0x80 ≤ rec_.off) ∧
      rec_.off + rec_.len ≤ 0x20000
    let free := ∀ e ∈ s.dcp.conns, e.1 ≠ c → ∀ y, e.2 = some y → rec_.overlaps y = false
    let win := (List.range 64).find? fun w => !s.bit (HIC_FWw_BASE_EN w)
    let does (i : Instr) (op status : Nat) (reply : List Byte) (P : State → Prop) : Prop :=
      DcpRuns s slot op r → Gives (exec i s) fun t => Answered slot status reply s t ∧ P t
    let fails (i : Instr) (op status : Nat) (reply : List Byte) : Prop :=
      DcpRuns s slot op r → Gives (exec i s) (OnlyAnswered slot status reply s)
    does (.deviceReset slot) 0x002 0 [] (fun t => t.boot = { s.boot with resetDue := some 3 } ∧
      Changes [.boot, .dcp] s t) ∧
    (s.domOn 3 = true → r.part = 0 → r.len ≠ 0 → byteAt pay 0 = p.val → p ≠ 0 → DcpRuns s slot 0x003 r →
      Gives (exec (.partitionReset slot) s) fun t => PartReset p t ∧
        t.runAt slot = some { r with result := some ⟨0, []⟩ } ∧ Changes [.regs, .parts, .msix, .mqf, .dcp] s t) ∧
    (slot.val ≠ 24 → r.part ≠ 0 → r.len ≠ 0 → byteAt pay 0 ≠ r.part →
      fails (.partitionReset slot) 0x003 0x201 (dcpDetail 0 0 noIndex)) ∧
    (s.crp.mramStop = false → does (.restoreFactory slot) 0x004 0 [] fun t =>
      t.dcp.stored = none ∧ t.dcp.storedMode = none ∧ t.dcp.storedSafe = none ∧ t.dcp.cal = [] ∧
        t.mem.sealedCopy = false ∧ Changes [.mem, .dcp] s t) ∧
    (s.crp.mramStop = true → fails (.restoreFactory slot) 0x004 0x308 noDetail) ∧
    (lifeCycleOk s.boot.lifeCycle s.mode m = true → does (.lifecycleAdvance slot) 0x005 0 [] fun t =>
      t.boot.lifeCycle = m ∧ t.boot.resetDue = some 5 ∧
        (∀ a, 0x2600000 ≤ a → a < 0x2800000 → memByte t.sram a = 0) ∧
        Changes [.regs, .sram, .boot, .mem, .evlog, .evLost, .msix, .dcp, .lifeCycle] s t) ∧
    (lifeCycleOk s.boot.lifeCycle s.mode m = false → fails (.lifecycleAdvance slot) 0x005 0x208 noDetail) ∧
    (s.pendMode = none → s.modeAnswer m = .noTransition → fails (.modeSet slot) 0x101 0x204 noDetail) ∧
    (∀ q, s.pendMode = some q → q.reply ≠ some slot.val → fails (.modeSet slot) 0x101 0x205 noDetail) ∧
    (s.pendMode = none → s.modeAnswer m = .go → waitsBoundary s.mode m = true → DcpRuns s slot 0x101 r →
      Gives (exec (.modeSet slot) s) fun t => t.pendMode = some ⟨m, 0, 6, some slot.val, s.ltNs⟩ ∧
        t.bit SYSCTL_MODE_PENDING = true ∧ t.rd SYSCTL_MODE_TARGET = m ∧ t.mode = s.mode ∧ RegsBut [SYSCTL_MODE] s t ∧
        Changes [.regs, .pendMode] s t) ∧
    (s.pendMode = none → s.modeAnswer m = .go → waitsBoundary s.mode m = false → DcpRuns s slot 0x101 r →
      Gives (exec (.modeSet slot) s) fun t => t.mode = m ∧ t.rd SYSCTL_MODE_PREV = s.mode ∧ t.rd SYSCTL_MODE_CAUSE = 0) ∧
    (bitsOf w 39 32 ≠ 0 → degPortsSame w = false → s.bit SYSCTL_MODE_CFG_LOCK = false →
      s.bit (cUCTL_LOCK uSYSCTL) = false → s.crp.mramStop = false → does (.modeCfgSet slot) 0x102 0 [] fun t =>
        t.reg SYSCTL_MODE_CFG = w ∧ (t.dcp.storedMode.map fun x => x.1) = some w ∧ RegsBut [SYSCTL_MODE_CFG] s t ∧
          Changes [.regs, .dcp] s t) ∧
    (bitsOf w 39 32 = 0 ∨ degPortsSame w = true → fails (.modeCfgSet slot) 0x102 0x301 noDetail) ∧
    (recOk → free → s.axisClash c rec_ = none →
      does (.connSet slot) 0x200 0 [] fun t => t.connRec c = some rec_ ∧
        (∀ d, d ≠ c → t.connRec d = s.connRec d) ∧ Changes [.cmap, .dcp] s t) ∧
    (recOk → (∃ e ∈ s.dcp.conns, e.1 ≠ c ∧ ∃ y, e.2 = some y ∧ rec_.overlaps y = true) → DcpRuns s slot 0x200 r →
      Gives (exec (.connSet slot) s) fun t => ∃ d, OnlyAnswered slot 0x302 (dcpDetail 0xFFFF 0 d) s t) ∧
    (∀ j, recOk → free → s.axisClash c rec_ = some j → fails (.connSet slot) 0x200 0x302 (dcpDetail 0xFFFF 0 j)) ∧
    (0xFFF < c ∨ rec_.len = 0 → fails (.connSet slot) 0x200 0x301 (dcpDetail 0xFFFF 0 c)) ∧
    (s.connRec c = none → fails (.connClear slot) 0x201 0x304 (dcpDetail 0xFFFF 0 c)) ∧
    (s.connRec c ≠ none → (∀ u ∈ s.connUses, u.1 ≠ c) → does (.connClear slot) 0x201 0 [] fun t =>
      t.connRec c = none ∧ (∀ d, d ≠ c → t.connRec d = s.connRec d) ∧ Changes [.cmap, .dcp] s t) ∧
    (s.connRec c = none → fails (.safevalSet slot) 0x203 0x304 (dcpDetail 0xFFFF 0 c)) ∧
    (∀ y, s.connRec c = some y → (r.len - 8) / 8 = y.len → y.unit ≠ 6 → does (.safevalSet slot) 0x203 0 [] fun t =>
      (∀ j, j < y.len → (t.safeOf c).getD j 0 = BitVec.ofNat 64 (leAt pay (8 + 8 * j) 8)) ∧
        (∀ (g : Fin 4) (k : Fin 16) (j : Fin 8), s.bit (CBC_SEGs_SLICEk_EN g k) = true →
          s.rd (CBC_SEGs_SLICEk_CONN g k) = c → j.val < y.len →
          t.reg (CBC_SAFE g k j) = BitVec.ofNat 64 (leAt pay (8 + 8 * j) 8)) ∧
        Changes [.regs, .sram, .mem, .dcp] s t) ∧
    (byteAt pay 0 = 2 → 1 ≤ byteAt pay 1 → byteAt pay 1 ≤ 5 → does (.grant slot) 0x204 0 (bytesLE 4 0xFF) fun t =>
      bitAt t.dcp.grants (byteAt pay 1) = true ∧ Changes [.dcp] s t) ∧
    (byteAt pay 0 ≤ 1 → 1 ≤ byteAt pay 1 → byteAt pay 1 ≤ 5 → leAt pay 8 8 % 8 = 0 → leAt pay 16 8 % 8 = 0 →
      leAt pay 8 8 < 2 ^ 32 → leAt pay 16 8 < 2 ^ 32 →
      (win = none → fails (.grant slot) 0x204 0x303 noDetail) ∧
      (∀ n, win = some n → does (.grant slot) 0x204 0 (bytesLE 4 n) fun t =>
        t.bit (HIC_FWw_BASE_EN n) = true ∧ 8 * t.rd (HIC_FWw_BASE_BASE n) = leAt pay 8 8 ∧
          8 * t.rd (HIC_FWw_LIM_LIMIT n) = leAt pay 16 8 ∧ t.bit (HIC_FWw_BASE_SPACE n) = (byteAt pay 0 == 1) ∧
          RegsBut [HIC_FWw_BASE n, HIC_FWw_LIM n] s t ∧ Changes [.regs, .dcp] s t)) ∧
    (m < 64 → s.bit (HIC_FWw_BASE_EN m) = true → does (.revoke slot) 0x205 0 [] fun t =>
      t.bit (HIC_FWw_BASE_EN m) = false ∧ RegsBut [HIC_FWw_BASE m] s t ∧ Changes [.regs, .dcp] s t) ∧
    (m < 64 → s.bit (HIC_FWw_BASE_EN m) = false → fails (.revoke slot) 0x205 0x304 (dcpDetail 0xFFFF 0 m)) ∧
    (byteAt pay 0 = p.val → leAt pay 2 2 ≤ 255 → leAt pay 2 2 + leAt pay 4 2 ≤ 256 →
      (s.sliceFits p (leAt pay 2 2) (leAt pay 4 2) = true → s.mode = 3 → does (.sliceSet slot) 0x206 0 [] fun t =>
        t.rd (HIC_PARTp_SLICE_OFF p) = leAt pay 2 2 ∧ t.rd (HIC_PARTp_SLICE_LEN p) = leAt pay 4 2 ∧
          Changes [.regs, .parts, .dcp] s t) ∧
      (s.sliceFits p (leAt pay 2 2) (leAt pay 4 2) = false →
        fails (.sliceSet slot) 0x206 0x302 (dcpDetail 0xFFFF 0 p))) ∧
    (s.crp.mramStop = true → fails (.cfgStore slot) 0x207 0x308 noDetail) ∧
    (s.crp.mramStop = false → DcpRuns s slot 0x207 r → Gives (exec (.cfgStore slot) s) fun t =>
      (∃ b, Answered slot 0 b s t ∧ b.length = 4) ∧
        (∃ x, t.dcp.stored = some x ∧ x.conns = s.dcp.conns ∧ x.relay = s.dcp.relay ∧ x.tables = s.swc.tables) ∧
        Changes [.free, .dcp] s t)

/-- R60, R125, R126, R216, R220, R240, R330, R331, R333, R360, R362, R411, R587: what the commands of the switch tables, engines,
acyclic services, axes, banks and the island change, and how they fail; a command whose domain is off ends with
WRONG_MODE. -/
def Obligations.CommandsOfUnits : Prop :=
  ∀ (s : State) (slot : Fin 25) (r : DcpRun) (n : Fin 24) (k : Fin 64) (g : Fin 4),
    let pay := r.payload
    let ops := batchOps pay
    let batch := ops.map fun o => o.2
    let ap := s.swc.tables.applyAll batch 0
    let opsOk := ops.all (fun o => o.1 == 0 && decide (o.2.table ≤ 6) && decide (o.2.op ≤ 3)) = true
    let held := (s.setSwc { s.swc with batch := batch }).batchHeld = true
    let does (i : Instr) (op status : Nat) (reply : List Byte) (P : State → Prop) : Prop :=
      DcpRuns s slot op r → Gives (exec i s) fun t => Answered slot status reply s t ∧ P t
    let fails (i : Instr) (op status : Nat) (reply : List Byte) : Prop :=
      DcpRuns s slot op r → Gives (exec i s) (OnlyAnswered slot status reply s)
    let waits (i : Instr) (op : Nat) (P : State → Prop) : Prop :=
      DcpRuns s slot op r → Gives (exec i s) fun t => t.dcp = s.dcp ∧ P t
    (s.domOn 6 = false → fails (.swcLoad slot) 0x300 0x203 noDetail) ∧
    (s.domOn 6 = true → opsOk →
      (ap.1 ≠ 0 → fails (.swcLoad slot) 0x300 0x305 (dcpDetail 0xFFFF ap.1 ap.2.1)) ∧
      (ap.1 = 0 → held → waits (.swcLoad slot) 0x300 fun t => t = s) ∧
      (ap.1 = 0 → ¬held → does (.swcLoad slot) 0x300 0 [] fun t =>
        t.swc.tables = ap.2.2 ∧ t.swc.genAbs = s.swc.genAbs + 1 ∧ t.swc.batch = s.swc.batch ∧
          Changes [.regs, .swc, .dcp] s t)) ∧
    (s.domOn (engDom n) = true → s.domOn 2 = true → byteAt pay 0 = n.val →
      (s.engState n ≠ 0 → fails (.rookSetup slot) 0x301 0x205 (dcpDetail 0xFFFF 0 n)) ∧
      (s.engState n = 0 → s.bit (PEA_Rn_CTL_EN n) = false → byteAt pay 1 ≤ 3 → byteAt pay 20 + byteAt pay 21 ≤ 64 →
        (∀ o ∈ [4, 8, 12, 16], leAt pay o 4 % 8 = 0 ∧ leAt pay o 4 < 2 ^ 22) → leAt pay 16 4 ≤ 0x100000 →
        does (.rookSetup slot) 0x301 0 [] fun t =>
          t.rd (PEA_Rn_CTL_BIND n) = byteAt pay 1 ∧ t.rd (PEA_Rn_PIRD_LO n) = leAt pay 4 4 ∧
            t.rd (PEA_Rn_PIRD_HI n) = leAt pay 8 4 ∧ t.rd (PEA_Rn_PIWR_LO n) = leAt pay 12 4 ∧
            t.rd (PEA_Rn_PIWR_HI n) = leAt pay 16 4 ∧
            (∀ e, byteAt pay 20 ≤ e → e < byteAt pay 20 + byteAt pay 21 →
              t.rd (PEA_EPk_DISPj_ENGINE (byteAt pay 1) (e / 8) (e % 8)) = n.val ∧
                t.bit (PEA_EPk_DISPj_VALID (byteAt pay 1) (e / 8) (e % 8)) = true) ∧
            Changes [.regs, .dcp] s t)) ∧
    (s.domOn 8 = true → byteAt pay 0 = g.val → 1 ≤ byteAt pay 1 → byteAt pay 1 ≤ 31 →
      beAt pay 4 2 ≠ 0 → (∀ q ∈ (s.seg g).reqs, q.slot ≠ slot.val) → waits (.cbAreq slot) 0x302 fun t =>
        (∃ q, (t.seg g).reqs = (s.seg g).reqs ++ [q] ∧ q.slot = slot.val ∧ q.node = byteAt pay 1 ∧
          q.data = pay.drop 4) ∧ Changes [.cbc] s t) ∧
    (s.domOn 8 = true → 3 < byteAt pay 0 ∨ byteAt pay 1 = 0 ∨ 31 < byteAt pay 1 ∨ beAt pay 4 2 = 0 →
      fails (.cbAreq slot) 0x302 0x301 noDetail) ∧
    (byteAt pay 0 ≤ 1 → does (.ptpSet slot) 0x304 0 [] fun t =>
      mapGet (fun _ => []) t.dcp.ptp (byteAt pay 0) = pay.take 32 ∧ Changes [.dcp] s t) ∧
    (1 < byteAt pay 0 → fails (.ptpSet slot) 0x304 0x301 noDetail) ∧
    (byteAt pay 0 ≤ 63 → byteAt pay 1 ≤ 15 → leAt pay 16 2 ≤ 4094 → does (.relaySet slot) 0x305 0 [] fun t =>
      mapGet (fun _ => []) t.dcp.relay (byteAt pay 0) = pay.take 24 ∧ Changes [.dcp] s t) ∧
    (let cfg : Word := BitVec.ofNat 64 (leAt pay 8 8)
     let io : Word := BitVec.ofNat 64 (leAt pay 16 8)
     let time : Word := BitVec.ofNat 64 (leAt pay 24 8)
     let stop : Word := BitVec.ofNat 64 (leAt pay 32 8)
     let takes := bitsOf time 31 0 % 8 = 0 ∧ 0x80 ≤ bitsOf cfg 16 0 ∧ 0x80 ≤ bitsOf io 48 32 ∧
       regTakes (ACE_AXk_CFG k) cfg = true ∧ regTakes (ACE_AXk_IO k) io = true ∧ regTakes (ACE_AXk_TIME k) time = true ∧
       regTakes (ACE_AXk_STOP k) stop = true
     s.domOn 7 = true → byteAt pay 0 = k.val →
      (s.mode ≠ 3 → cfg ≠ s.reg (ACE_AXk_CFG k) → fails (.axisSet slot) 0x400 0x203 (dcpDetail 0xFFFF 0 k)) ∧
      (s.mode = 3 → takes → bitsOf cfg 63 63 = 1 → (cfg ≠ s.reg (ACE_AXk_CFG k) ∨ io ≠ s.reg (ACE_AXk_IO k)) →
        ∀ i, s.itemConflict k io = some i → fails (.axisSet slot) 0x400 0x302 (dcpDetail 0xFFFF 0 i)) ∧
      (s.mode = 3 → takes → bitsOf cfg 63 63 = 0 ∨ s.bit (ACE_AXk_CFG_EN k) = true ∧ s.itemConflict k io = none →
        does (.axisSet slot) 0x400 0 [] fun t =>
          t.reg (ACE_AXk_CFG k) = cfg ∧ t.reg (ACE_AXk_IO k) = io ∧ t.reg (ACE_AXk_TIME k) = time ∧
            t.reg (ACE_AXk_STOP k) = stop ∧
            RegsBut [ACE_AXk_CFG k, ACE_AXk_IO k, ACE_AXk_TIME k, ACE_AXk_STOP k, ACE_AXk_STAT k] s t ∧
            Changes [.regs, .dcp] s t)) ∧
    (∀ first count : Nat, s.domOn 7 = true → byteAt pay 0 = k.val → byteAt pay 1 = 0 → leAt pay 4 4 = first →
      pay.length = 8 + 8 * count → first + count ≤ 49 →
      (s.bankLocked k = true → fails (.bankWrite slot) 0x402 0x205 (dcpDetail 0xFFFF 0 k)) ∧
      (s.bankLocked k = false → does (.bankWrite slot) 0x402 0 [] fun t =>
        (∀ i, i < count → t.reg (ACE_COEF_SHADOW k (first + i)) = BitVec.ofNat 64 (leAt pay (8 + 8 * i) 8)) ∧
          RegsBut ((List.range count).map fun i => ACE_COEF_SHADOW k (first + i)) s t ∧ Changes [.regs, .dcp] s t)) ∧
    (s.domOn 7 = true → s.bit ACE_BANK_STAT_APPLY_PENDING = false → waits (.bankApply slot) 0x403 fun t =>
      t.bit ACE_BANK_STAT_APPLY_PENDING = true ∧ t.ace.mask = leAt pay 0 8 % 2 ^ 64 ∧
        t.ace.applyReply = some slot.val ∧ RegsBut [ACE_BANK_STAT, ACE_APPLY_MASK] s t ∧ Changes [.regs, .ace] s t) ∧
    (s.domOn 7 = true → s.bit ACE_BANK_STAT_APPLY_PENDING = true → s.ace.applyReply ≠ some slot.val →
      fails (.bankApply slot) 0x403 0x305 noDetail) ∧
    (s.domOn 7 = true → byteAt pay 0 = k.val → s.bit ACE_BANK_STAT_COPY_BUSY = false →
      s.bit ACE_BANK_STAT_APPLY_PENDING = false → does (.bankCopy slot) 0x404 0 [] fun t =>
        t.bit ACE_BANK_STAT_COPY_BUSY = true ∧ t.ace.copyAxis = k.val ∧ RegsBut [ACE_BANK_CTL, ACE_BANK_STAT] s t ∧
          Changes [.regs, .ace, .dcp] s t) ∧
    (s.domOn 1 = true → s.sfiRuns = false → fails (.safePdu slot) 0x500 0x209 noDetail) ∧
    (∀ a u, s.domOn 1 = true → s.sfiParamPdu pay = (some a, u) → does (.safePdu slot) 0x500 0 a fun t =>
      t.sfi = u.sfi ∧ Changes [.free, .sfi, .dcp] s t)

/-- R216, R217, R411, R416, R417, R462, R463, R466, R515, R516, R517, R545, R562: what the commands of spores, images,
self-tests, march tests, calibration and the factory area change, and how they fail. -/
def Obligations.CommandsOfMaintenance : Prop :=
  ∀ (s : State) (slot : Fin 25) (r : DcpRun) (n : Fin 24) (signed : Bool) (nf : BitVec 32) (first : BitVec 64),
    let pay := r.payload
    let w0 := leAt pay 0 4
    let does (i : Instr) (op status : Nat) (reply : List Byte) (P : State → Prop) : Prop :=
      DcpRuns s slot op r → Gives (exec i s) fun t => Answered slot status reply s t ∧ P t
    let fails (i : Instr) (op status : Nat) (reply : List Byte) : Prop :=
      DcpRuns s slot op r → Gives (exec i s) (OnlyAnswered slot status reply s)
    (∀ h, let load := Instr.sporeLoad slot signed false
      let len := leAt pay 4 4
      w0 + len ≤ 0x2800000 → engineList (leAt pay 8 3) = [n.val] →
      (s.engState n ≠ 0 → fails load 0x600 0x205 (dcpDetail 0xFFFF 0 n)) ∧
      (s.engState n = 0 → s.domOn (engDom n) = true → s.sramReadBytes true w0 len = (h, false, s) →
        (s.sporeVerify h len signed ≠ 0 →
          fails load 0x600 (if s.sporeVerify h len signed ≤ 2 then 0x104 else 0x306)
            (dcpDetail 0xFFFF (s.sporeVerify h len signed) noIndex)) ∧
        (s.sporeVerify h len signed = 0 → sporeRooks h = 1 → does load 0x600 0 [] fun t =>
          t.rd (PEA_Rn_CTL_START n) = leAt h 0x6C 2 ∧ t.bit (PEA_Rn_CTL_EN n) = false ∧ (t.rook n).inst = some n.val ∧
            (w0, len, leAt pay 8 3) ∈ t.boot.spores ∧
            (∀ i, i < leAt h 0x63 3 → memByte t.pmem (ispaceAddr n i) = h.getD (512 + leAt h 0x60 3 + i) 0) ∧
            Changes [.regs, .pmem, .boot, .rooks, .dcp] s t))) ∧
    (let off := leAt pay 4 4
     let src := leAt pay 8 4
     let len := leAt pay 12 4
     w0 ≤ 1 → len ≤ 0x10000 → off + len ≤ 0x600000 → src + len ≤ 0x2800000 →
      (w0 = s.boot.active → fails (.imageWrite slot) 0x601 0x302 noDetail) ∧
      (w0 ≠ s.boot.active → s.crp.mramStop = true → fails (.imageWrite slot) 0x601 0x308 noDetail) ∧
      (∀ b, w0 ≠ s.boot.active → s.crp.mramStop = false → s.sramReadBytes true src len = (b, false, s) →
        does (.imageWrite slot) 0x601 0 [] fun t =>
          (if w0 = 0 then t.boot.slotA else t.boot.slotB) = 1 ∧ memBytes t.mram (w0 * 0x600000 + off) b.length = b ∧
            (∀ a, a < w0 * 0x600000 + off ∨ w0 * 0x600000 + off + b.length ≤ a →
              memByte t.mram a = memByte s.mram a) ∧ Changes [.regs, .mram, .boot, .dcp] s t)) ∧
    (let c := s.imageVerify (memBytes s.mram (w0 * 0x600000) 512) signed
     w0 ≤ 1 → (c ≠ 0 → fails (.imageCommit slot signed) 0x602 0x306 (dcpDetail 0xFFFF c w0)) ∧
      (c = 0 → does (.imageCommit slot signed) 0x602 0 [] fun t =>
        (if w0 = 0 then t.boot.slotA else t.boot.slotB) = 2 ∧ t.boot.preferred = w0 ∧
          Changes [.regs, .boot, .dcp] s t)) ∧
    (bistUnit w0 = none → fails (.bistRun slot nf first) 0x702 0x104 (dcpDetail 0 0 noIndex)) ∧
    (1 ≤ w0 → w0 ≤ 6 → nf = 0 → fails (.bistRun slot nf first) 0x702 0
      (bytesLE 2 0 ++ bytesLE 2 w0 ++ bytesLE 4 0 ++ bytesLE 8 0)) ∧
    (1 ≤ w0 → w0 ≤ 6 → nf ≠ 0 → does (.bistRun slot nf first) 0x702 0x401
      (bytesLE 2 1 ++ bytesLE 2 w0 ++ bytesLE 4 nf.toNat ++ bytesLE 8 first.toNat) fun t =>
        Changes [.regs, .evlog, .evLost, .dcp] s t) ∧
    (0x100 ≤ w0 → bistUnit w0 ≠ none → s.mode ≠ 11 → fails (.bistRun slot nf first) 0x702 0x203 noDetail) ∧
    (byteAt pay 0 ≤ byteAt pay 1 → byteAt pay 1 < 76 → byteAt pay 3 = 0 → s.cyclicMode = false →
      (∀ b, byteAt pay 0 ≤ b → b ≤ byteAt pay 1 → s.bankState b = 1) → does (.marchRun slot []) 0x703 0
        (List.replicate 16 0) fun t =>
          t.rd MEM_MARCH_STAT_BANK = byteAt pay 1 ∧ t.bit MEM_MARCH_STAT_TRANSPARENT = true ∧
            t.rd MEM_MARCH_STAT_FAILS = 0 ∧ (∀ a, memByte t.sram a = memByte s.sram a) ∧
            RegsBut [MEM_MARCH_STAT] s t) ∧
    (let item := leAt pay 0 2
     let idx := byteAt pay 2
     let v := leAt pay 8 8
     (s.domOn 6 = true → calReg item idx = none ∨ calFits item v = false →
        fails (.calSet slot) 0x801 0x301 noDetail) ∧
      (s.domOn 6 = true → calReg item idx ≠ none → calFits item v = true → s.calLocked item = true →
        fails (.calSet slot) 0x801 0x305 noDetail) ∧
      (∀ a, s.domOn 6 = true → calReg item idx = some a → calFits item v = true → s.calLocked item = false →
        s.crp.mramStop = false → does (.calSet slot) 0x801 0 [] fun t =>
          t.userCal item idx = some v ∧ t.reg a = BitVec.ofNat 64 (calWord item v) ∧ RegsBut [a] s t ∧
            Changes [.regs, .dcp] s t)) ∧
    (s.domOn 6 = true → s.crp.mramStop = false → does (.calClear slot) 0x802 0 [] fun t =>
      t.dcp.cal = [] ∧ (∀ p : Fin 10, t.reg (NTU_PORTp_LAT p) = BitVec.ofNat 64 (factoryCal 2 p)) ∧
        Changes [.regs, .dcp] s t) ∧
    (let b := pay.drop 8
     w0 % 0x1000 = 0 → w0 < 0x100000 → s.factoryMay w0 = true →
      (s.boot.factoryWritten.contains (w0 / 0x1000) = true → fails (.factoryWrite slot) 0x803 0x302 noDetail) ∧
      (s.boot.factoryWritten.contains (w0 / 0x1000) = false → s.crp.mramStop = false →
        does (.factoryWrite slot) 0x803 0 [] fun t =>
          t.boot.factoryWritten = w0 / 0x1000 :: s.boot.factoryWritten ∧
            memBytes t.mram (0xF00000 + w0) b.length = b ∧ Changes [.regs, .mram, .boot, .dcp] s t)) ∧
    (w0 % 0x1000 ≠ 0 → fails (.factoryWrite slot) 0x803 0x301 noDetail)

/-! ## Modes, start-up and resets -/

/-- R45, R52, R53: in STARTUP, with no transition waiting, the end of start-up leads to PREOP with CAUSE STARTUP_DONE, its
time-out leads back to CONFIG with CAUSE STARTUP_TIMEOUT; otherwise neither does anything. -/
def Sys2Proof.Rules.startUpEnds : Prop :=
  ∀ s : State,
    (s.mode = 4 → s.startupDone = true → s.pendMode = none → Gives (exec .startupComplete s) fun t =>
      t.mode = 5 ∧ t.rd SYSCTL_MODE_PREV = 4 ∧ t.rd SYSCTL_MODE_CAUSE = 8) ∧
    (s.mode ≠ 4 ∨ s.startupDone = false → Gives (exec .startupComplete s) fun t => t = s) ∧
    (s.mode = 4 → s.startupDone = false → s.pendMode = none → Gives (exec .startupTimeout s) fun t =>
      t.mode = 3 ∧ t.rd SYSCTL_MODE_PREV = 4 ∧ t.rd SYSCTL_MODE_CAUSE = 9 ∧
        (s.domOn 6 = true → s.modeAt + s.rd SYSCTL_MODE_CFG_STARTUP_TMO * 10000000 * 2 ^ 32 ≤ t.ntu.lt)) ∧
    (s.mode ≠ 4 ∨ s.startupDone = true → Gives (exec .startupTimeout s) fun t => t = s)

/-- Every domain but PD_AON is off and its registers have their reset values; the stored image, the fuses and the
journal are as they were (R449, R553). -/
def Sys2Proof.Machine.AllOff (s t : State) : Prop :=
  (∀ d : Fin 10, d ≠ 0 → t.domState d = 0) ∧ (∀ a, domOf a ≠ 0 → domOf a ≤ 9 → t.reg a = regReset a) ∧
    t.mram = s.mram ∧ t.boot.lifeCycle = s.boot.lifeCycle ∧ t.boot.journal = s.boot.journal ∧ t.boot.running = false

/-- R420, R449, R450, R451, R465, R528, R553: POR_N, a loss of PD_AON, SYSRST_N and a due reset hold every domain in reset; the
releases make a start due with their cause and LAST_RESET; a stuck pin is masked and leads to a DEGRADED start, and a
masked pin has no effect until it is unmasked. -/
def Obligations.Resets : Prop :=
  ∀ (s : State) (rose : Bool),
    let due (kind cause last : Nat) (t : State) : Prop :=
      t.boot.nextKind = some kind ∧ t.boot.nextCause = cause ∧ t.rd SYSCTL_RST_STAT_LAST_RESET = last
    (∀ c ∈ ([.porNAssert, .aonPowerLoss] : List Instr), Gives (exec c s) fun t =>
      AllOff s t ∧ t.boot.porHeld = true ∧ (∀ a, domOf a = 0 → t.reg a = regReset a)) ∧
    (s.boot.porHeld = true → Gives (exec (.porNRelease rose) s) fun t =>
      t.boot.porHeld = false ∧ due 0 (if rose then 2 else 3) (if rose then 0 else 1) t ∧
        RegsBut [SYSCTL_RST_STAT] s t ∧ Changes [.regs, .boot] s t) ∧
    (s.boot.porHeld = false → s.boot.sysrstHeld = false → s.bit SYSCTL_RST_STAT_SYSRST_MASKED = false →
      Gives (exec .sysrstNAssert s) fun t =>
        AllOff s t ∧ t.boot.sysrstHeld = true ∧ t.bit SYSCTL_RST_STAT_SYSRST_LEVEL = true) ∧
    (s.bit SYSCTL_RST_STAT_SYSRST_MASKED = true → Gives (exec .sysrstNAssert s) fun t => t = s) ∧
    (s.boot.porHeld = false → s.boot.sysrstHeld = true → Gives (exec .sysrstNRelease s) fun t =>
      t.boot.sysrstHeld = false ∧ due 0 4 2 t ∧ RegsBut [SYSCTL_RST_STAT] s t ∧ Changes [.regs, .boot] s t) ∧
    (s.boot.porHeld = false → s.boot.sysrstHeld = true → Gives (exec .rstStuck s) fun t =>
      t.boot.sysrstHeld = false ∧ due 3 6 2 t ∧ t.bit SYSCTL_RST_STAT_RST_STUCK = true ∧
        t.bit SYSCTL_RST_STAT_SYSRST_MASKED = true ∧ RegsBut [SYSCTL_RST_STAT] s t ∧ Changes [.regs, .boot] s t) ∧
    (s.bit SYSCTL_RST_STAT_SYSRST_MASKED = true → Gives (exec .sysrstUnmask s) fun t =>
      t.bit SYSCTL_RST_STAT_SYSRST_MASKED = false ∧ RegsBut [SYSCTL_RST_STAT] s t ∧ Changes [.regs] s t) ∧
    (∀ last, last < 8 → s.boot.resetDue = some last → Gives (exec .deviceResetAssert s) fun t =>
      AllOff s t ∧ due 0 5 last t ∧ t.boot.resetDue = none)

/-- A start has failed (R456, R528): the third one in a row leads to a DEGRADED start. -/
def Sys2Proof.Machine.StartFailed (s t : State) : Prop :=
  t.boot.running = false ∧ t.boot.failCount = min 3 (s.boot.failCount + 1) ∧ t.domOn 2 = false ∧
    t.boot.nextKind = some (if 2 ≤ s.boot.failCount then 3 else 2)

/-- R453, R454, R455, R456, R457, R540: the due start of a commissioned device whose steps all pass ends in CONFIG with every
domain on; one whose first step hangs stays in that step; a required step that fails fails the start, or halts a
DEGRADED one; the watchdog fails a running start; a halted BOOT alternates its STATUS frames. -/
def Obligations.Starts : Prop :=
  ∀ (s : State) (out : List StepOut),
    let b := s.boot
    let idle := b.porHeld = false ∧ b.sysrstHeld = false ∧ b.running = false ∧ b.romServes = false
    let retry := s.lastFailed = true ∧ 1 ≤ b.failCount ∧ b.failCount ≤ 2
    (b.nextKind = none ∨ b.porHeld = true ∨ b.sysrstHeld = true → Gives (exec (.bootStart out none) s) fun t => t = s) ∧
    (∀ k, b.nextKind = some k → idle → k ≤ 4 → Gives (exec (.bootStart out (some 1)) s) fun t =>
      t.boot.running = true ∧ t.boot.step = 1 ∧
          t.boot.kind = (if b.lifeCycle = 5 then 4 else if k = 0 ∧ retry then 2 else k) ∧
        t.boot.startNo = b.startNo + 1 ∧ t.boot.nextKind = none ∧ t.domOn 2 = true) ∧
    (b.nextKind = some 0 → idle → b.lifeCycle = 2 ∨ b.lifeCycle = 3 → b.journal = [] → s.slotState b.preferred = 2 →
      s.slotVerify b.preferred = 0 → s.dcp.stored = none → Gives (exec (.bootStart [] none) s) fun t =>
        t.mode = 3 ∧ t.rd SYSCTL_MODE_CAUSE = 1 ∧ t.boot.running = false ∧ t.boot.failCount = 0 ∧
          t.boot.active = b.preferred ∧ ∀ d : Fin 10, 2 ≤ d.val → t.domOn d = true) ∧
    (b.running = true → b.step = 1 → b.kind = 0 → Gives (exec (.bootStepTimeout out none) s) (StartFailed s)) ∧
    (b.running = true → b.step = 1 → b.kind = 3 → Gives (exec (.bootStepTimeout out none) s) fun t =>
      t.boot.halted = some 1 ∧ t.boot.running = false ∧ t.boot.failCount = min 3 (b.failCount + 1)) ∧
    (b.running = true → Gives (exec .bootWatchdogExpire s) (StartFailed s)) ∧
    (b.halted ≠ none → Gives (exec .statusFrameToggle s) fun t =>
      t.boot = { b with statusFrame := !b.statusFrame } ∧ Changes [.boot] s t)

/-! ## Clocks, power and memory -/

/-- R475, R476, R529, R562: a clock monitor window with good counts and lock changes nothing; a bad count latches its clocks, a
lost lock counts, and either begins relocking; a failed attempt alternates the settings, a good one leads to DEGRADED;
a supply that leaves its range stops MRAM writes. -/
def Sys2Proof.Rules.clocks : Prop :=
  ∀ (s : State) (c0 c1 c2 c3 c4 c5 : BitVec 32),
    let mask := clockMask [c0.toNat, c1.toNat, c2.toNat, c3.toNat, c4.toNat, c5.toNat]
    let window (locked : Bool) := exec (.clockMonitorWindow c0 c1 c2 c3 c4 c5 locked) s
    (s.domOn 2 = true → s.mode ≠ 1 → s.mode ≠ 10 → s.crp.relocking = false →
      (mask = 0 → Gives (window true) fun t => t = s) ∧
      (mask ≠ 0 → Gives (window true) fun t =>
        t.rd CRP_CLKMON_FAULT = s.rd CRP_CLKMON_FAULT ||| mask ∧ t.crp.relocking = true ∧
          Changes [.regs, .pendMode, .crp, .evlog, .evLost, .msix, .sfi, .dcp] s t) ∧
      (mask = 0 → Gives (window false) fun t =>
        t.bit CRP_PLL_STAT_LOCKED = false ∧ CountsOne CRP_PLL_STAT_LOL_COUNT s t ∧ t.crp.relocking = true ∧
          Changes [.regs, .pendMode, .crp, .evlog, .evLost, .msix, .sfi, .dcp] s t)) ∧
    (s.crp.relocking = true → Gives (exec (.pllRelockAttempt false) s) fun t =>
      t.crp = { s.crp with relockFailed := true } ∧
        t.bit CRP_PLL_STAT_WIDE = (s.crp.relockFailed && !s.bit CRP_PLL_STAT_WIDE) ∧ Changes [.regs, .crp] s t) ∧
    (s.crp.relocking = true → s.mode = 3 → s.pendMode = none → Gives (exec (.pllRelockAttempt true) s) fun t =>
      t.bit CRP_PLL_STAT_LOCKED = true ∧ t.crp.relocking = false ∧ t.mode = 8 ∧ t.rd SYSCTL_MODE_CAUSE = 0x0C) ∧
    Gives (exec .supplyLeavesRange s) fun t => t.crp = { s.crp with mramStop := true } ∧ Changes [.crp] s t

/-- R486, R487, R488, R490, R492, R494, R495, R496: a STARTING domain whose requirements are on comes on with its registers at
reset; a STOPPING one goes off, or starts again when a request waits; a failed one stays FAILED and leads to DEGRADED;
an enabled wake source of an armed device begins a start, and during entry it is latched. -/
def Sys2Proof.Rules.domains : Prop :=
  ∀ (s : State) (d : Fin 10) (f : PowerLoss) (mask : BitVec 5) (pins : WakePins) (ms : BitVec 32),
    let phy := pins.energy.toNat &&& bitsOf s.crp.wakeCfg 11 8
    let edge := bitAt mask.toNat 1 = true ∧ pins.rising ≠ s.crp.wakeFall
    let m := ((mask.toNat &&& 25) + (if edge then 2 else 0) + if phy = 0 then 0 else 4) &&& bitsOf s.crp.wakeCfg 4 0
    let due := if s.crp.memLost then 0 else 1
    let reset (t : State) : Prop := ∀ a, domOf a = d.val → t.reg a = regReset a
    (d ≠ 0 → s.domState d = 1 → (∀ r ∈ domRequires d, s.domOn r = true) → Gives (exec (.domainPowerUpDone d) s) fun t =>
      t.domOn d = true ∧ reset t ∧ ∀ e : Fin 10, e ≠ d → t.domState e = s.domState e) ∧
    (s.domState d ≠ 1 → Gives (exec (.domainPowerUpDone d) s) fun t => t = s) ∧
    (d ≠ 0 → s.domState d = 3 → s.crp.entering = false → Gives (exec (.domainPowerDownDone d) s) fun t =>
      t.domState d = (if bitAt (s.rd CRP_PD_STAT_PENDING) d then 1 else 0) ∧ reset t ∧
        ∀ e : Fin 10, e ≠ d → t.domState e = s.domState e) ∧
    (d ≠ 0 → d ≠ 1 → d ≠ 2 → d ≠ 6 → s.domState d = 2 → s.boot.running = false → s.mode = 3 → s.pendMode = none →
      Gives (exec (.domainPowerFail d f) s) fun t =>
        t.domState d = 6 ∧ t.mode = 8 ∧ t.rd SYSCTL_MODE_CAUSE = 0x0C ∧ bitAt (t.rd CRP_PD_FAIL_FAILED) d = true) ∧
    (m ≠ 0 → s.crp.armed = true → s.crp.entering = false → Gives (exec (.wakeEvent mask pins ms) s) fun t =>
      t.rd CRP_WAKE_STAT_SOURCE = m ∧ t.bit CRP_WAKE_STAT_DURING_ENTRY = false ∧ t.crp.armed = false ∧
        t.boot.nextKind = some due ∧ t.boot.nextCause = 0x0D ∧
        t.rd SYSCTL_RST_STAT_LAST_RESET = 6 ∧ Changes [.regs, .boot, .crp, .msix] s t) ∧
    (m ≠ 0 → s.crp.entering = true → Gives (exec (.wakeEvent mask pins ms) s) fun t =>
      t.crp = { s.crp with latched := s.crp.latched ||| m } ∧
        (s.domState d = 3 → bitAt (t.rd CRP_PD_STAT_PENDING) d = true) ∧ Changes [.regs, .crp] s t) ∧
    (bitsOf s.crp.wakeCfg 0 0 = 1 → s.crp.armed = true → s.crp.entering = false →
      Gives (exec .wakeTimerExpire s) fun t =>
        t.rd CRP_WAKE_STAT_SOURCE = 1 ∧ t.boot.nextKind = some due ∧
          Changes [.regs, .boot, .crp, .msix] s t)

/-- The end of start-up, the clocks and the power domains. -/
def Obligations.ModesClocksAndPower : Prop :=
  Sys2Proof.Rules.startUpEnds ∧ Sys2Proof.Rules.clocks ∧ Sys2Proof.Rules.domains

/-- R503, R504, R506, R508, R510, R585: a new target of a bank that is ON starts its change, one that is not permitted is
refused; the change ends in its state, and OFF has lost the contents; the scrubber counts a correctable word and marks
an uncorrectable one. -/
def Obligations.MemoryBanks : Prop :=
  ∀ (s : State) (b : Fin 80) (target : BitVec 2) (r : BankRun) (line : Fin 1310720) (syn : BitVec 8),
    let tg := s.rd (bankTargetFld b)
    let st := s.rd (bankStatFld b)
    let write := exec (.bankTargetWrite b target) s
    let scrub := exec (.patrolScrub line syn 0 0 0 false) s
    let w := 4 * line.val
    (s.powered (MEM_BANK_CFGr 0) = true →
      (tg = target.toNat → Gives write fun t => t = s) ∧
      (tg ≠ target.toNat → target = 3 ∨ (bankFixed b = true ∧ target ≠ 1) → Gives write fun t =>
        t.bit (cUSTAT_CFG_ERR uMEM) = true ∧ RegsBut [(cUSTAT_CFG_ERR uMEM).addr] s t ∧ Changes [.regs] s t) ∧
      (tg ≠ target.toNat → target = 0 ∨ target = 2 → bankFixed b = false → s.domOn 9 = true → s.bankRun b = none →
        st = 1 → s.bit (bankFailFld b) = false → Gives write fun t =>
          t.rd (bankTargetFld b) = target.toNat ∧ t.rd (bankStatFld b) = 3 ∧
            t.bankRun b = some ⟨target.toNat, target.toNat⟩ ∧
            RegsBut [(bankTargetFld b).addr, (bankStatFld b).addr] s t ∧ Changes [.regs, .mem] s t)) ∧
    (s.bankRun b = some r → r.target = r.dest → r.dest ≤ 2 → Gives (exec (.bankChangeDone b) s) fun t =>
      t.rd (bankStatFld b) = r.dest ∧ t.bankRun b = none ∧
        (∀ a, memByte t.sram a = if r.dest = 0 ∧ a / 0x80000 = b.val then 0 else memByte s.sram a) ∧
        t.image = (if r.dest = 0 ∧ b.val < 4 then { s.image with reasons := s.image.reasons ||| 8 } else s.image) ∧
        RegsBut [(bankStatFld b).addr, (bankPendFld b).addr] s t ∧ Changes [.regs, .sram, .mem, .image] s t) ∧
    (s.rd MEM_SCRUB_SCRUB_S ≠ 0 → s.bankState (line.val / 16384) = 1 →
      (syndromeKind syn.toNat = 0 → Gives scrub fun t => t = s) ∧
      (syndromeKind syn.toNat = 1 → Gives scrub fun t =>
        CountsOne MEM_ECC_CNT_CE s t ∧ RegsBut [MEM_ECC_CNT, MEM_ECC_LOG] s t ∧ Changes [.regs] s t) ∧
      (syndromeKind syn.toNat = 2 → Gives scrub fun t =>
        mapGet (fun _ => 0) t.mem.badWords w = syn.toNat + 1 ∧ CountsOne MEM_ECC_CNT_UE s t ∧ t.sram = s.sram ∧
          Changes [.regs, .mem, .image, .evlog, .evLost, .msix] s t))

/-! ## Security -/

/-- The vault holds nothing, and the key that sealed it is gone (R512). -/
def Sys2Proof.Machine.VaultGone (t : State) : Prop :=
  (∀ a, 0x2600000 ≤ a → a < 0x2800000 → memByte t.sram a = 0) ∧ t.mem.sealKey = false

/-- R464, R467, R468, R469, R470, R471, R512, R513: an enabled tamper source latches, counts and wipes the vault; the owner wipes
it too; the end of a wipe sets WIPED; a verified token opens debug access, enters RMA or scraps a device in RMA; a
debug halt reaches a Rook only where Table R467 opens it; the TAP takes an instruction that is open. -/
def Obligations.TamperAndDebug : Prop :=
  ∀ (s : State) (p : Fin 6) (n : Fin 24) (i : Fin 8) (target : Fin 25),
    let lc := s.boot.lifeCycle
    let token := s.inReset = false ∧ s.domOn 2 = true ∧ s.boot.resetDue = none ∧ bitAt s.keyRevoked 0 = false
    let fused (c : Nat) (t : State) : Prop :=
      t.boot.lifeCycle = c ∧ t.boot.resetDue = some 5 ∧ ∀ a, 0x2600000 ≤ a → a < 0x2800000 → memByte t.sram a = 0
    (∀ e ∈ ([(.tamperPin, SEC_TAMPER_CFG_PIN_EN, SEC_TAMPER_STAT_PIN),
        (.tamperMesh, SEC_TAMPER_CFG_MESH_EN, SEC_TAMPER_STAT_MESH)] : List (Instr × Fld × Fld)),
      (s.bit e.2.1 = true → s.boot.porHeld = false → Gives (exec e.1 s) fun t =>
        t.bit e.2.2 = true ∧ CountsOne SEC_TAMPER_STAT_COUNT s t ∧ VaultGone t ∧
          Changes [.regs, .sram, .mem, .evlog, .evLost, .msix] s t) ∧
      (s.bit e.2.1 = false → Gives (exec e.1 s) fun t => t = s)) ∧
    (p ≠ 0 → Gives (exec (.vaultWipe p) s) fun t => t = s) ∧
    (p = 0 → s.powered MEM_VAULT_CTL = true → Gives (exec (.vaultWipe p) s) fun t =>
      VaultGone t ∧ t.bit MEM_VAULT_STAT_WIPING = true ∧ Changes [.regs, .sram, .mem, .evlog, .evLost] s t) ∧
    (s.bit MEM_VAULT_STAT_WIPING = true → Gives (exec .vaultWipeDone s) fun t =>
      t.bit MEM_VAULT_STAT_WIPING = false ∧ t.bit MEM_VAULT_STAT_WIPED = true ∧
        (s.mem.tamperWipe = true → t.bit SEC_TAMPER_STAT_WIPED = true) ∧ Changes [.regs, .mem, .msix] s t) ∧
    (Gives (exec (.jtagToken 0 false) s) fun t => t = s) ∧
    (token → lc = 1 ∨ lc = 4 → Gives (exec (.jtagToken 0 true) s) fun t =>
      t.boot = { s.boot with tokenOpen := true } ∧ Changes [.boot] s t) ∧
    (token → lc = 2 ∨ lc = 3 → Gives (exec (.jtagToken 1 true) s) (fused 4)) ∧
    (token → lc = 4 → Gives (exec (.jtagToken 2 true) s) (fused 5)) ∧
    (target.val = n.val → s.rookDebug = true → s.domOn (engDom n) = true → s.engState n = 2 →
      Gives (exec (.debugHalt target) s) fun t =>
        (t.rook n).dbg = true ∧ (t.rook n).pc = (s.rook n).pc ∧ Changes [.regs, .msix, .rooks] s t) ∧
    (target.val = n.val → s.rookDebug = false → Gives (exec (.debugHalt target) s) fun t => t = s) ∧
    (target.val = 24 → s.sfiDebug = false → Gives (exec (.debugHalt target) s) fun t => t = s) ∧
    (s.boot.porHeld = false → Gives (exec (.boundaryScanInstruction i) s) fun t =>
      t.boot = { s.boot with tap := if i.val ≤ 1 ∨ (lc ≠ 5 ∧ (i.val ≤ 2 ∨ s.mode = 1 ∨ s.mode = 2 ∨ s.mode = 11))
        then i.val else 0 } ∧ Changes [.boot] s t)
/-! ## The whole machine -/

/-- One step takes the command at the front of the queue and is that command's effect, with the queue's rest. -/
def Obligations.StepRunsFront : Prop :=
  ∀ (c : Instr) (rest : List Instr) (s : State), s.pending = c :: rest → step s = exec c { s with pending := rest }

/-- The model's choice (log 1): with no command waiting, the register accesses of the xSPI ports end, and one CLK_TIME edge
passes; no command comes to wait by it, and nothing but the ports, the time and its registers changes. -/
def Obligations.StepWithoutCommands : Prop :=
  ∀ s : State, s.pending = [] → Gives (step s) fun t =>
    t.pending = [] ∧ (∀ h : Fin 2, (t.port h).busy = false ∧
      (t.port h).ready = ((s.port h).ready || (s.port h).busy && (s.port h).reading)) ∧ Changes [.regs, .ntu, .xspi] s t

/-- What reset leaves: every register at its reset value, mode BOOT, no memory listed, no command waiting, a COLD start
due, every safe output off; the maps are in their canonical form. -/
def Obligations.ResetState : Prop :=
  (∀ a, State.reset.reg a = regReset a) ∧ State.reset.mode = 1 ∧ State.reset.pending = [] ∧
    (∀ a, memByte State.reset.sram a = 0) ∧ State.reset.boot.nextKind = some 0 ∧ State.reset.boot.lifeCycle = 1 ∧
    State.reset.memOk = true ∧ State.reset.regsOk = true ∧
    State.reset.sfi.on = 0

/-- Every command answers a next state, and leaves the commands that wait behind it and the variant alone. -/
def Obligations.CommandsAnswer : Prop :=
  ∀ (c : Instr) (s : State), Gives (exec c s) fun t => t.pending = s.pending ∧ t.variantS = s.variantS

/-- Every step keeps the canonical form of the three byte memories and of the register map, from every state that has
it: equal memories stay equal data, and no register is listed at its reset value. -/
def Obligations.CanonicalForms : Prop :=
  ∀ s t : State, step s = .next t →
    (s.memOk = true → t.memOk = true) ∧ (s.regsOk = true → t.regsOk = true)

/-- R464, R465, R468: every step leaves the life-cycle state alone or makes one of the transitions of Table R464, and only
LIFECYCLE_ADVANCE and a JTAG token make one; a device that is SCRAPPED stays so. -/
def Obligations.LifeCycleTransitions : Prop :=
  ∀ s t : State, step s = .next t →
    let a := s.boot.lifeCycle
    let b := t.boot.lifeCycle
    b = a ∨
      ((a = 1 ∧ b = 2 ∨ a = 2 ∧ b = 3 ∨ (a = 2 ∨ a = 3) ∧ b = 4 ∨ a ≠ 5 ∧ b = 5) ∧
        ∃ rest, (∃ slot, s.pending = .lifecycleAdvance slot :: rest) ∨ ∃ k, s.pending = .jtagToken k true :: rest)

/-- R339, R348: in SAFE_FAULT every safe output is off, and every step keeps it so. -/
def Obligations.SafeFaultHoldsOutputsOff : Prop :=
  ∀ s t : State, (s.sfi.st = 5 → s.sfi.on = 0) → step s = .next t → t.sfi.st = 5 → t.sfi.on = 0
/-! ## Rules stated whole -/

/-- R165: where POS + LEN exceeds 64, EXT and EXTS read the bits above 63 as 0, so EXTS extends a 0, and INS discards the
bits that would land above 63. -/
def Obligations.FieldsPastTheTop : Prop :=
  ∀ (s : State) (n : Fin 24) (rd rs1 : BitVec 5) (pos len1 : BitVec 6), RookIssues s n →
    let a := (rookNow s n).getW rs1.toNat
    let d := (rookNow s n).getW rd.toNat
    64 < pos.toNat + (len1.toNat + 1) →
      (∀ i ∈ ([.ext n rd rs1 pos len1, .exts n rd rs1 pos len1] : List Instr),
        Gives (exec i s) (RookComputes s n rd.toNat 1 (a >>> pos.toNat) 0)) ∧
      ∃ v : Word, (∀ i < 64, v.getLsbD i = if i < pos.toNat then d.getLsbD i else a.getLsbD (i - pos.toNat)) ∧
        Gives (exec (.ins n rd rs1 pos len1) s) (RookComputes s n rd.toNat 1 v 0)

/-- The trap has left the registers and the return stack as the earlier instructions leave them. -/
def Sys2Proof.Machine.RookUntouched (s : State) (n : Nat) (t : State) : Prop :=
  let r := (rookNow s n).drainAll
  (t.rook n).w = r.w ∧ (t.rook n).rsp = r.rsp ∧ (t.rook n).rstk = r.rstk ∧ (t.rook n).rem = r.rem

/-- R171: every control transfer in a delay slot, RTE included, traps with cause SLOT; a trap that a transfer raises leaves
the registers and the return stack alone, and the vector's first instruction issues next. -/
def Obligations.TransfersThatTrap : Prop :=
  ∀ (s : State) (n : Fin 24) (rs1 rs2 : BitVec 5) (off : BitVec 15) (far : BitVec 25), RookIssues s n →
    let r := rookNow s n
    let a := (r.getW rs1.toNat).toNat
    let t25 := (((r.pc : Int) + 4 * far.toInt) % 2 ^ 64).toNat
    let traps (i : Instr) (c : Nat) : Prop := ∃ v, Gives (exec i s) fun t => RookTrapped s n c v t ∧ RookUntouched s n t
    r.spec = none → r.tin = false →
    (r.slot ≠ 0 → ∀ i ∈ ([.beq n rs1 rs2 off, .bne n rs1 rs2 off, .blt n rs1 rs2 off, .bge n rs1 rs2 off,
        .bltu n rs1 rs2 off, .bgeu n rs1 rs2 off, .jmp n far, .jr n rs1, .call n far, .callr n rs1, .ret n, .rte n] :
        List Instr), traps i 0x03) ∧
    (r.slot = 0 → a % 4 ≠ 0 → traps (.jr n rs1) 0x05 ∧ traps (.callr n rs1) 0x05) ∧
    (r.slot = 0 → t25 % 4 ≠ 0 → traps (.jmp n far) 0x05 ∧ traps (.call n far) 0x05) ∧
    (r.slot = 0 → traps (.rte n) 0x02)

/-- R176: in TRAP mode a push at COUNT = 16 traps with cause RS_OVER and a pop at COUNT = 0 with RS_UNDER, with TOP, COUNT and
the entries as they were; otherwise a push or a pop does what it does in WRAP mode. -/
def Obligations.ReturnStackInTrapMode : Prop :=
  ∀ (s : State) (n : Fin 24) (rs1 : BitVec 5) (far : BitVec 25), RookIssues s n →
    let r := rookNow s n
    let a := r.getW rs1.toNat
    let t25 := (((r.pc : Int) + 4 * far.toInt) % 2 ^ 64).toNat
    let top := bitsOf r.rsp 3 0
    let count := bitsOf r.rsp 8 4
    let pushed : RookSt :=
      { r with rstk := mapPut (fun _ => 0) r.rstk top (BitVec.ofNat 64 (r.pc + 12))
               rsp := BitVec.ofNat 64 ((count + 1) * 16 + (top + 1) % 16) }
    let popTop := (top + 15) % 16
    let entry := (mapGet (fun _ => (0 : Word)) r.rstk popTop).toNat
    let popped : RookSt := { r with rsp := BitVec.ofNat 64 ((count - 1) * 16 + popTop) }
    let traps (i : Instr) (c : Nat) : Prop := ∃ v, Gives (exec i s) fun t => RookTrapped s n c v t ∧ RookUntouched s n t
    r.slot = 0 → r.spec = none → r.esrBit 4 = true →
    (t25 % 4 = 0 → (count = 16 → r.tin = false → traps (.call n far) 0x09) ∧
      (count < 16 → Gives (exec (.call n far) s) (RookBecomes s n (rookGoes pushed t25)))) ∧
    (a.toNat % 4 = 0 → (count = 16 → r.tin = false → traps (.callr n rs1) 0x09) ∧
      (count < 16 → Gives (exec (.callr n rs1) s) (RookBecomes s n (rookGoes pushed a.toNat)))) ∧
    (count = 0 → r.tin = false → traps (.ret n) 0x0A) ∧
    (entry % 4 = 0 → 0 < count → Gives (exec (.ret n) s) (RookBecomes s n (rookGoes popped entry)))

/-- R499: a fabric access to the vault by a requester other than the MGP and SEC reads 0 with an uncorrectable error, a
write is discarded, and VAULT_DENY counts each. -/
def Obligations.VaultDenies : Prop :=
  ∀ (s : State) (off : Nat) (b : List Byte), 0x2600000 ≤ off → off < 0x2800000 →
    s.sramRead false off = (0, true, s.inc MEM_ECC_CNT_VAULT_DENY) ∧
      s.sramWriteWord false off b = s.inc MEM_ECC_CNT_VAULT_DENY ∧
      CountsOne MEM_ECC_CNT_VAULT_DENY s (s.inc MEM_ECC_CNT_VAULT_DENY) ∧
      (s.inc MEM_ECC_CNT_VAULT_DENY).sram = s.sram

/-- R549: a read by the SFI never changes state: not of a register with RC fields, of a packet queue unit or of a
semaphore. -/
def Obligations.SafetyReadsChangeNothing : Prop :=
  ∀ (s : State) (a : Nat) (lo hi : Bool) (k n : Fin 64),
    (s.regRead agSFI a lo hi).2 = s ∧
    (Gives (exec (.pqRd0Pop 7 k) s) fun t => Changes [.readData] s t) ∧
    (Gives (exec (.semTake 7 n) s) fun t => Changes [.readData] s t)

/-! ## Words of the engines' programs -/

/-- R155, R174, R291, R293: words written out bit by bit from the tables of the two instruction sets stand for the
instructions that the tables name; an undefined opcode and a non-zero reserved field stand for none. -/
def Obligations.WordsSpell : Prop :=
  ∀ (n : Fin 24) (m : Fin 32) (pads : BitVec 8),
    rookDecode n 0b0000001_00001_00010_00011_0000000000 = some (.add n 1 2 3) ∧
    rookDecode n 0b0100000_00100_00101_111111111111111 = some (.addi n 4 5 0x7FFF) ∧
    rookDecode n 0b0101100_00110_00111_000_001000_011111 = some (.ins n 6 7 8 31) ∧
    rookDecode n 0b0101101_00111_10_00_1011111011101111 = some (.movz n 7 2 0xBEEF) ∧
    rookDecode n 0b1000011_01000_01001_000000000001000 = some (.ldd n 8 9 8) ∧
    rookDecode n 0b1100110_1111111111111111111111111 = some (.jmp n 0x1FFFFFF) ∧
    rookDecode n 0b1110000_00011_00000_0000000000_10010 = some (.mfs n 3 0x12) ∧
    rookDecode n 0b0000000_00000_00000_00000_0000000000 = none ∧
    rookDecode n 0b0000001_00001_00010_00011_0000000001 = none ∧
    pawnDecode m pads 0b0001_01_10_10100101 = .pinsSet m pads 2 0xA5 ∧
    pawnDecode m pads 0b0010_1_0_1_011_100_000 = .shift m pads true false true 3 4 ∧
    pawnDecode m pads 0b0101_011_101_00_0000 = .mov m pads 3 5 0 ∧
    pawnDecode m pads 0b1000_1_00000_101010 = .djnz m pads 1 42 ∧
    pawnDecode m pads 0b1001_11_000000_0000 = .pawnUndefined m pads ∧
    pawnDecode m pads 0b1010_000000000000 = .pawnUndefined m pads

/-- R155, R156, R174, R291, R293: decoding the word of an instruction of a Rook or Pawn engine gives that instruction with
every operand, at every value the encoding admits; every word but the undefined ones is the word of the instruction that
it decodes to. -/
def Obligations.DecodeAndEncodeAgree : Prop :=
  (∀ (i : Instr) (n : Fin 24) (w : BitVec 32), rookEncode i = some (n, w) → rookDecode n w = some i) ∧
    (∀ (i : Instr) (n : Fin 24) (w : BitVec 32), rookDecode n w = some i → rookEncode i = some (n, w)) ∧
    (∀ (n : Fin 24) (w : BitVec 32), rookDecode n w = none ↔ rookUndefined w.toNat = true) ∧
    (∀ (i : Instr) (n : Fin 32) (pads : BitVec 8) (w : BitVec 16),
      pawnEncode i = some (n, pads, w) → pawnDecode n pads w = i) ∧
    ∀ (n : Fin 32) (pads : BitVec 8) (w : BitVec 16), pawnDecode n pads w ≠ .pawnUndefined n pads →
      pawnEncode (pawnDecode n pads w) = some (n, pads, w)
end

