-- ==== Sys2Proof/Laws/Fields.lean ====
section
/-! SUPPORT. Laws of the bit fields: a field reads back what was put there, and a disjoint field is
left alone. -/

namespace Sys2Proof.Machine

theorem bitsOf_lt (w : Word) (hi lo : Nat) : bitsOf w hi lo < 2 ^ (hi + 1 - lo) :=
  Nat.mod_lt _ (Nat.two_pow_pos _)

/-- The bits below, in and above a replaced field, as one number. -/
theorem putBits_toNat (w : Word) {hi lo : Nat} (v : Nat) (h : lo ≤ hi) (h64 : hi < 64) :
    (putBits w hi lo v).toNat = w.toNat % 2 ^ lo
      + 2 ^ lo * (v % 2 ^ (hi + 1 - lo) + 2 ^ (hi + 1 - lo) * (w.toNat / 2 ^ (hi + 1))) := by
  obtain ⟨n, hn⟩ : ∃ n, hi + 1 = lo + n := ⟨hi + 1 - lo, by omega⟩
  have hnn : hi + 1 - lo = n := by omega
  unfold putBits
  rw [hnn, hn, BitVec.toNat_ofNat]
  have ha : w.toNat % 2 ^ lo < 2 ^ lo := Nat.mod_lt _ (Nat.two_pow_pos _)
  have hm : v % 2 ^ n < 2 ^ n := Nat.mod_lt _ (Nat.two_pow_pos _)
  have hw : w.toNat < 2 ^ 64 := w.isLt
  obtain ⟨r, hr⟩ : ∃ r, 64 = lo + n + r := ⟨64 - (lo + n), by omega⟩
  have hc : w.toNat / 2 ^ (lo + n) < 2 ^ r := by
    apply Nat.div_lt_of_lt_mul
    rw [← Nat.pow_add, ← hr]; exact hw
  have e1 : 2 ^ (lo + n) = 2 ^ lo * 2 ^ n := Nat.pow_add ..
  have e64 : (2:Nat) ^ 64 = 2 ^ lo * 2 ^ n * 2 ^ r := by rw [← Nat.pow_add, ← Nat.pow_add, ← hr]
  generalize w.toNat % 2 ^ lo = a at *
  generalize v % 2 ^ n = m at *
  generalize w.toNat / 2 ^ (lo + n) = c at *
  rw [e1]
  have heq : a + m * 2 ^ lo + c * (2 ^ lo * 2 ^ n) = a + 2 ^ lo * (m + 2 ^ n * c) := by
    rw [Nat.mul_add, Nat.mul_comm m, Nat.mul_comm c, Nat.mul_assoc, Nat.add_assoc]
  rw [heq, Nat.mod_eq_of_lt]
  rw [e64]
  generalize 2 ^ lo = P at *
  generalize 2 ^ n = Q at *
  generalize 2 ^ r = R at *
  have h1 : m + Q * c + 1 ≤ Q * R := by
    have : Q * (c + 1) ≤ Q * R := Nat.mul_le_mul_left _ hc
    rw [Nat.mul_add] at this; omega
  have h2 : P * (m + Q * c + 1) ≤ P * (Q * R) := Nat.mul_le_mul_left _ h1
  rw [Nat.mul_add] at h2
  rw [Nat.mul_assoc]
  omega

/-- A field reads back the low bits of what was put there. -/
theorem bitsOf_putBits_same (w : Word) {hi lo : Nat} (v : Nat) (h : lo ≤ hi) (h64 : hi < 64) :
    bitsOf (putBits w hi lo v) hi lo = v % 2 ^ (hi + 1 - lo) := by
  unfold bitsOf
  rw [putBits_toNat w v h h64, Nat.add_mul_div_left _ _ (Nat.two_pow_pos _),
    Nat.div_eq_of_lt (Nat.mod_lt _ (Nat.two_pow_pos _)), Nat.zero_add, Nat.add_mul_mod_self_left]
  exact Nat.mod_mod _ _

/-- A field below or above a replaced field is left alone. -/
theorem bitsOf_putBits_other (w : Word) {hi lo hi2 lo2 : Nat} (v : Nat) (h : lo ≤ hi)
    (h64 : hi < 64) (h2 : lo2 ≤ hi2) (hd : hi2 < lo ∨ hi < lo2) :
    bitsOf (putBits w hi lo v) hi2 lo2 = bitsOf w hi2 lo2 := by
  unfold bitsOf
  rw [putBits_toNat w v h h64]
  obtain ⟨k, hk⟩ : ∃ k, hi2 + 1 = lo2 + k := ⟨hi2 + 1 - lo2, by omega⟩
  have hkk : hi2 + 1 - lo2 = k := by omega
  rw [hkk]
  cases hd with
  | inl hl =>
    rw [← Nat.mod_mul_right_div_self, ← Nat.mod_mul_right_div_self, ← Nat.pow_add]
    have hdvd : 2 ^ (lo2 + k) ∣ 2 ^ lo := Nat.pow_dvd_pow 2 (by omega)
    rw [← Nat.mod_mod_of_dvd _ hdvd, Nat.add_mul_mod_self_left, Nat.mod_mod,
      Nat.mod_mod_of_dvd _ hdvd]
  | inr hl =>
    obtain ⟨j, hj⟩ : ∃ j, lo2 = hi + 1 + j := ⟨lo2 - (hi + 1), by omega⟩
    obtain ⟨n, hn⟩ : ∃ n, hi + 1 = lo + n := ⟨hi + 1 - lo, by omega⟩
    have hnn : hi + 1 - lo = n := by omega
    have hd : ∀ x : Nat, x / 2 ^ lo2 = x / 2 ^ (hi + 1) / 2 ^ j := fun x => by
      rw [hj, Nat.pow_add, Nat.div_div_eq_div_mul]
    rw [hd, hd w.toNat]
    congr 2
    have : 2 ^ (hi + 1) = 2 ^ lo * 2 ^ n := by rw [hn, Nat.pow_add]
    rw [hnn]
    conv => lhs; arg 1; rw [this]
    rw [this, ← Nat.div_div_eq_div_mul, ← Nat.div_div_eq_div_mul]
    rw [Nat.add_mul_div_left _ _ (Nat.two_pow_pos _),
      Nat.div_eq_of_lt (Nat.mod_lt _ (Nat.two_pow_pos _)), Nat.zero_add,
      Nat.add_mul_div_left _ _ (Nat.two_pow_pos _),
      Nat.div_eq_of_lt (Nat.mod_lt _ (Nat.two_pow_pos _)), Nat.zero_add]

end Sys2Proof.Machine
end

