-- ==== Sys2Proof/Laws/Maps.lean ====
section
/-! SUPPORT. Laws of the sparse maps: a read after a write, a write elsewhere, and that every
operation keeps the canonical form. They hold of every list, canonical or not. -/

namespace Sys2Proof.Machine

variable {α : Type} (d : Nat → α)

theorem mapGet_erase_same (m : List (Nat × α)) (k : Nat) : mapGet d (mapErase m k) k = d k := by
  induction m with
  | nil => rfl
  | cons e t ih => by_cases h : e.1 = k <;> simp [mapErase, mapGet, h, ih]

theorem mapGet_erase_other (m : List (Nat × α)) {k j : Nat} (h : j ≠ k) :
    mapGet d (mapErase m k) j = mapGet d m j := by
  induction m with
  | nil => rfl
  | cons e t ih =>
    by_cases he : e.1 = k
    · have : e.1 ≠ j := fun hj => h (by omega)
      simp [mapErase, mapGet, he, ih]; intro hk; omega
    · simp [mapErase, mapGet, he, ih]

theorem mapGet_insert_other (m : List (Nat × α)) {k j : Nat} (v : α) (h : j ≠ k) :
    mapGet d (mapInsert m k v) j = mapGet d m j := by
  induction m with
  | nil => simp [mapInsert, mapGet, Ne.symm h]
  | cons e t ih =>
    by_cases he : k < e.1
    · simp [mapInsert, he, mapGet, Ne.symm h]
    · simp [mapInsert, he, mapGet, ih]

theorem mapGet_insert_erase (m : List (Nat × α)) (k : Nat) (v : α) :
    mapGet d (mapInsert (mapErase m k) k v) k = v := by
  induction m with
  | nil => simp [mapErase, mapInsert, mapGet]
  | cons e t ih =>
    by_cases he : e.1 = k
    · simp [mapErase, he, ih]
    · by_cases hl : k < e.1
      · simp [mapErase, he, mapInsert, hl, mapGet]
      · simp [mapErase, he, mapInsert, hl, mapGet, ih]

variable [DecidableEq α]

/-- Read after a write to the same key. -/
@[simp] theorem mapGet_put_same (m : List (Nat × α)) (k : Nat) (v : α) :
    mapGet d (mapPut d m k v) k = v := by
  unfold mapPut
  split
  · rename_i h; rw [mapGet_erase_same, h]
  · exact mapGet_insert_erase d m k v

/-- A write leaves every other key alone. -/
theorem mapGet_put_other (m : List (Nat × α)) {k j : Nat} (v : α) (h : j ≠ k) :
    mapGet d (mapPut d m k v) j = mapGet d m j := by
  unfold mapPut
  split
  · exact mapGet_erase_other d m h
  · rw [mapGet_insert_other d _ v h, mapGet_erase_other d m h]

/-- Both cases at once. -/
theorem mapGet_put (m : List (Nat × α)) (k j : Nat) (v : α) :
    mapGet d (mapPut d m k v) j = if j = k then v else mapGet d m j := by
  by_cases h : j = k
  · subst h; simp
  · simp [h, mapGet_put_other d m v h]

omit [DecidableEq α] in
theorem keysAbove_erase {m : List (Nat × α)} {a : Nat} (k : Nat) (h : keysAbove a m = true) :
    keysAbove a (mapErase m k) = true := by
  induction m with
  | nil => rfl
  | cons e t ih =>
    simp [keysAbove] at h
    by_cases he : e.1 = k
    · simp [mapErase, he, ih h.2]
    · simp [mapErase, he, keysAbove, h.1, ih h.2]

omit [DecidableEq α] in
theorem keysAbove_insert {m : List (Nat × α)} {a k : Nat} (v : α) (hk : a < k)
    (h : keysAbove a m = true) : keysAbove a (mapInsert m k v) = true := by
  induction m with
  | nil => simp [mapInsert, keysAbove, hk]
  | cons e t ih =>
    simp [keysAbove] at h
    by_cases he : k < e.1
    · simp [mapInsert, he, keysAbove, hk, h]
    · simp [mapInsert, he, keysAbove, h.1, ih h.2]

omit [DecidableEq α] in
theorem keysAbove_mono {m : List (Nat × α)} {a b : Nat} (hab : a ≤ b)
    (h : keysAbove b m = true) : keysAbove a m = true := by
  induction m with
  | nil => rfl
  | cons e t ih =>
    simp [keysAbove] at h
    simp [keysAbove, ih h.2]; omega

theorem mapWf_erase {m : List (Nat × α)} (k : Nat) (h : mapWf d m = true) :
    mapWf d (mapErase m k) = true := by
  induction m with
  | nil => rfl
  | cons e t ih =>
    simp [mapWf] at h
    by_cases he : e.1 = k
    · simp [mapErase, he, ih h.2]
    · simp [mapErase, he, mapWf, h.1.1, ih h.2, keysAbove_erase k h.1.2]

theorem mapWf_insert {m : List (Nat × α)} {k : Nat} {v : α} (hv : v ≠ d k)
    (hk : ∀ e ∈ m, e.1 ≠ k) (h : mapWf d m = true) : mapWf d (mapInsert m k v) = true := by
  induction m with
  | nil => simp [mapInsert, mapWf, keysAbove, hv]
  | cons e t ih =>
    simp [mapWf] at h
    have hne := hk e (by simp)
    by_cases he : k < e.1
    · simp [mapInsert, he, mapWf, keysAbove, hv, h.1.1, h.2, h.1.2]
      exact keysAbove_mono (by omega) h.1.2
    · simp [mapInsert, he, mapWf, h.1.1]
      exact ⟨keysAbove_insert v (by omega) h.1.2, ih (fun x hx => hk x (by simp [hx])) h.2⟩

omit [DecidableEq α] in
theorem mapErase_no_key (m : List (Nat × α)) (k : Nat) : ∀ e ∈ mapErase m k, e.1 ≠ k := by
  induction m with
  | nil => simp [mapErase]
  | cons e t ih =>
    by_cases he : e.1 = k
    · simpa [mapErase, he] using ih
    · intro x hx
      simp [mapErase, he] at hx
      rcases hx with rfl | hx
      · exact he
      · exact ih x hx

/-- Every write keeps the canonical form. -/
theorem mapWf_put {m : List (Nat × α)} (k : Nat) (v : α) (h : mapWf d m = true) :
    mapWf d (mapPut d m k v) = true := by
  unfold mapPut
  split
  · exact mapWf_erase d k h
  · rename_i hv
    exact mapWf_insert d hv (mapErase_no_key m k) (mapWf_erase d k h)

omit [DecidableEq α] in
theorem keysAbove_filter {m : List (Nat × α)} {a : Nat} (p : Nat × α → Bool) (h : keysAbove a m = true) :
    keysAbove a (m.filter p) = true := by
  induction m with
  | nil => rfl
  | cons e t ih =>
    simp [keysAbove] at h
    by_cases he : p e <;> simp [he, keysAbove, ih h.2, h.1]

/-- Taking entries out keeps the canonical form. -/
theorem mapWf_filter {m : List (Nat × α)} (p : Nat × α → Bool) (h : mapWf d m = true) :
    mapWf d (m.filter p) = true := by
  induction m with
  | nil => rfl
  | cons e t ih =>
    simp [mapWf] at h
    by_cases he : p e
    · simp [he, mapWf, ih h.2, keysAbove_filter p h.1.2, h.1.1]
    · simp [he, ih h.2]

end Sys2Proof.Machine
end

