-- ==== Sys2Proof/Laws/Keeps.lean ====
section
/-! SUPPORT. The relation Keeps that every operation of the model is shown to satisfy: a mask names the parts that it
may change, and it keeps the canonical form of the memories and of the register map. -/

namespace Sys2Proof.Machine

/-- The bit of a part in a mask. -/
def Part.ix (p : Part) : Nat :=
  match p with
  | .pending => 0
  | .variantS => 1
  | .free => 2
  | .regs => 3
  | .sram => 4
  | .mram => 5
  | .pmem => 6
  | .pendMode => 7
  | .modeAt => 8
  | .boot => 9
  | .crp => 10
  | .mem => 11
  | .evlog => 12
  | .evLost => 13
  | .xspi => 14
  | .parts => 15
  | .msix => 16
  | .dma => 17
  | .ntu => 18
  | .image => 19
  | .epc => 20
  | .swc => 21
  | .rooks => 22
  | .cmap => 23
  | .cbc => 24
  | .can => 25
  | .pawns => 26
  | .ace => 27
  | .sfi => 28
  | .mqf => 29
  | .dcp => 30
  | .readData => 31
  | .readBytes => 32
  | .readPoison => 33
  | .lifeCycle => 34

/-- `t` differs from `s` in parts of the mask `m` only, and canonical forms are kept. -/
structure Keeps (m : Nat) (s t : State) : Prop where
  same : ∀ p : Part, m.testBit p.ix = false → p.same s t
  mem : s.memOk = true → t.memOk = true
  regs : s.regsOk = true → t.regsOk = true

theorem Part.same_refl (p : Part) (s : State) : p.same s s := by cases p <;> rfl

theorem Part.same_trans {p : Part} {s t u : State} (h : p.same s t) (g : p.same t u) : p.same s u := by
  cases p
  case boot =>
    simp only [Part.same] at *
    rw [← h, ← g]
  all_goals exact Eq.trans g h

theorem Keeps.refl {m : Nat} {s : State} : Keeps m s s := ⟨fun p _ => p.same_refl s, id, id⟩

theorem testBit_sub {m M : Nat} (h : (m &&& M == m) = true) {i : Nat} (hi : M.testBit i = false) :
    m.testBit i = false := by
  have h : m &&& M = m := by simpa using h
  rw [← h, Nat.testBit_and, hi, Bool.and_false]

theorem Keeps.mono {m M : Nat} {s t : State} (g : Keeps m s t) (h : (m &&& M == m) = true) : Keeps M s t :=
  ⟨fun p hp => g.same p (testBit_sub h hp), g.mem, g.regs⟩

theorem Keeps.comp {M m : Nat} {s0 s t : State} (g : Keeps m s t) (h : (m &&& M == m) = true)
    (h0 : Keeps M s0 s) : Keeps M s0 t :=
  ⟨fun p hp => Part.same_trans (h0.same p hp) (g.same p (testBit_sub h hp)), fun h => g.mem (h0.mem h),
    fun h => g.regs (h0.regs h)⟩

theorem sub_self (m : Nat) : (m &&& m == m) = true := by simp

theorem sub_trans {a b c : Nat} (h : (a &&& b == a) = true) (g : (b &&& c == b) = true) : (a &&& c == a) = true := by
  have h : a &&& b = a := by simpa using h
  have g : b &&& c = b := by simpa using g
  have : a &&& c = a := by
    calc a &&& c = (a &&& b) &&& c := by rw [h]
      _ = a &&& (b &&& c) := Nat.and_assoc ..
      _ = a := by rw [g, h]
  simpa using this

theorem Keeps.ite {M : Nat} {s0 s t : State} {c : Prop} [Decidable c] (h : Keeps M s0 s) (g : Keeps M s0 t) :
    Keeps M s0 (if c then s else t) := by split <;> assumption

theorem Keeps.snd_ite {α : Type} {M : Nat} {s0 : State} {c : Prop} [Decidable c] {a b : α × State}
    (h : Keeps M s0 a.2) (g : Keeps M s0 b.2) : Keeps M s0 (if c then a else b).2 := by split <;> assumption

theorem Keeps.thd_ite {α β : Type} {M : Nat} {s0 : State} {c : Prop} [Decidable c] {a b : α × β × State}
    (h : Keeps M s0 a.2.2) (g : Keeps M s0 b.2.2) : Keeps M s0 (if c then a else b).2.2 := by split <;> assumption

theorem Keeps.dite {M : Nat} {s0 : State} {c : Prop} [Decidable c] {s : c → State} {t : ¬c → State}
    (h : ∀ x, Keeps M s0 (s x)) (g : ∀ x, Keeps M s0 (t x)) : Keeps M s0 (dite c s t) := by
  split
  · exact h _
  · exact g _

theorem Keeps.foldl {α : Type} {M : Nat} {s0 : State} {g : State → α → State} {l : List α} {s : State}
    (hg : ∀ s a, Keeps M s0 s → Keeps M s0 (g s a)) (h : Keeps M s0 s) : Keeps M s0 (l.foldl g s) := by
  induction l generalizing s with
  | nil => exact h
  | cons a t ih => exact ih (hg _ _ h)

/-- The parts of the mask of a list. -/
def partMask : List Part → Nat
  | [] => 0
  | p :: l => 2 ^ p.ix ||| partMask l

theorem Part.ix_inj {p q : Part} (h : p.ix = q.ix) : p = q := by
  revert h; cases p <;> cases q <;> first | exact fun _ => rfl | exact fun h => absurd h (by decide)

theorem partMask_testBit (l : List Part) (p : Part) : (partMask l).testBit p.ix = decide (p ∈ l) := by
  induction l with
  | nil => simp [partMask]
  | cons q l ih =>
    simp only [partMask, Nat.testBit_or, ih, Nat.testBit_two_pow, List.mem_cons]
    by_cases h : p = q
    · simp [h]
    · have : q.ix ≠ p.ix := fun e => h (Part.ix_inj e).symm
      simp [h, this]

/-- What Keeps says of a mask given as a list. -/
theorem Keeps.changes {m : Nat} {l : List Part} {s t : State} (g : Keeps m s t)
    (h : (m &&& partMask l == m) = true) : Changes l s t :=
  fun p hp => g.same p (testBit_sub h (by rw [partMask_testBit]; simpa using hp))

theorem State.putPending_keeps (s : State) (v) : Keeps 1 s (State.putPending s v) :=
  ⟨fun p hp => by cases p <;> first | rfl | exact absurd hp (by decide), id, id⟩

theorem State.putVariantS_keeps (s : State) (v) : Keeps 2 s (State.putVariantS s v) :=
  ⟨fun p hp => by cases p <;> first | rfl | exact absurd hp (by decide), id, id⟩

theorem State.putFree_keeps (s : State) (v) : Keeps 4 s (State.putFree s v) :=
  ⟨fun p hp => by cases p <;> first | rfl | exact absurd hp (by decide), id, id⟩

theorem State.putPendMode_keeps (s : State) (v) : Keeps 128 s (State.putPendMode s v) :=
  ⟨fun p hp => by cases p <;> first | rfl | exact absurd hp (by decide), id, id⟩

theorem State.putModeAt_keeps (s : State) (v) : Keeps 256 s (State.putModeAt s v) :=
  ⟨fun p hp => by cases p <;> first | rfl | exact absurd hp (by decide), id, id⟩

theorem State.putCrp_keeps (s : State) (v) : Keeps 1024 s (State.putCrp s v) :=
  ⟨fun p hp => by cases p <;> first | rfl | exact absurd hp (by decide), id, id⟩

theorem State.putMem_keeps (s : State) (v) : Keeps 2048 s (State.putMem s v) :=
  ⟨fun p hp => by cases p <;> first | rfl | exact absurd hp (by decide), id, id⟩

theorem State.putEvlog_keeps (s : State) (v) : Keeps 4096 s (State.putEvlog s v) :=
  ⟨fun p hp => by cases p <;> first | rfl | exact absurd hp (by decide), id, id⟩

theorem State.putEvLost_keeps (s : State) (v) : Keeps 8192 s (State.putEvLost s v) :=
  ⟨fun p hp => by cases p <;> first | rfl | exact absurd hp (by decide), id, id⟩

theorem State.putXspi_keeps (s : State) (v) : Keeps 16384 s (State.putXspi s v) :=
  ⟨fun p hp => by cases p <;> first | rfl | exact absurd hp (by decide), id, id⟩

theorem State.putParts_keeps (s : State) (v) : Keeps 32768 s (State.putParts s v) :=
  ⟨fun p hp => by cases p <;> first | rfl | exact absurd hp (by decide), id, id⟩

theorem State.putMsix_keeps (s : State) (v) : Keeps 65536 s (State.putMsix s v) :=
  ⟨fun p hp => by cases p <;> first | rfl | exact absurd hp (by decide), id, id⟩

theorem State.putDma_keeps (s : State) (v) : Keeps 131072 s (State.putDma s v) :=
  ⟨fun p hp => by cases p <;> first | rfl | exact absurd hp (by decide), id, id⟩

theorem State.putNtu_keeps (s : State) (v) : Keeps 262144 s (State.putNtu s v) :=
  ⟨fun p hp => by cases p <;> first | rfl | exact absurd hp (by decide), id, id⟩

theorem State.putImage_keeps (s : State) (v) : Keeps 524288 s (State.putImage s v) :=
  ⟨fun p hp => by cases p <;> first | rfl | exact absurd hp (by decide), id, id⟩

theorem State.putEpc_keeps (s : State) (v) : Keeps 1048576 s (State.putEpc s v) :=
  ⟨fun p hp => by cases p <;> first | rfl | exact absurd hp (by decide), id, id⟩

theorem State.putSwc_keeps (s : State) (v) : Keeps 2097152 s (State.putSwc s v) :=
  ⟨fun p hp => by cases p <;> first | rfl | exact absurd hp (by decide), id, id⟩

theorem State.putRooks_keeps (s : State) (v) : Keeps 4194304 s (State.putRooks s v) :=
  ⟨fun p hp => by cases p <;> first | rfl | exact absurd hp (by decide), id, id⟩

theorem State.putCmap_keeps (s : State) (v) : Keeps 8388608 s (State.putCmap s v) :=
  ⟨fun p hp => by cases p <;> first | rfl | exact absurd hp (by decide), id, id⟩

theorem State.putCbc_keeps (s : State) (v) : Keeps 16777216 s (State.putCbc s v) :=
  ⟨fun p hp => by cases p <;> first | rfl | exact absurd hp (by decide), id, id⟩

theorem State.putCan_keeps (s : State) (v) : Keeps 33554432 s (State.putCan s v) :=
  ⟨fun p hp => by cases p <;> first | rfl | exact absurd hp (by decide), id, id⟩

theorem State.putPawns_keeps (s : State) (v) : Keeps 67108864 s (State.putPawns s v) :=
  ⟨fun p hp => by cases p <;> first | rfl | exact absurd hp (by decide), id, id⟩

theorem State.putAce_keeps (s : State) (v) : Keeps 134217728 s (State.putAce s v) :=
  ⟨fun p hp => by cases p <;> first | rfl | exact absurd hp (by decide), id, id⟩

theorem State.putSfi_keeps (s : State) (v) : Keeps 268435456 s (State.putSfi s v) :=
  ⟨fun p hp => by cases p <;> first | rfl | exact absurd hp (by decide), id, id⟩

theorem State.putMqf_keeps (s : State) (v) : Keeps 536870912 s (State.putMqf s v) :=
  ⟨fun p hp => by cases p <;> first | rfl | exact absurd hp (by decide), id, id⟩

theorem State.putDcp_keeps (s : State) (v) : Keeps 1073741824 s (State.putDcp s v) :=
  ⟨fun p hp => by cases p <;> first | rfl | exact absurd hp (by decide), id, id⟩

theorem State.putReadData_keeps (s : State) (v) : Keeps 2147483648 s (State.putReadData s v) :=
  ⟨fun p hp => by cases p <;> first | rfl | exact absurd hp (by decide), id, id⟩

theorem State.putReadBytes_keeps (s : State) (v) : Keeps 4294967296 s (State.putReadBytes s v) :=
  ⟨fun p hp => by cases p <;> first | rfl | exact absurd hp (by decide), id, id⟩

theorem State.putReadPoison_keeps (s : State) (v) : Keeps 8589934592 s (State.putReadPoison s v) :=
  ⟨fun p hp => by cases p <;> first | rfl | exact absurd hp (by decide), id, id⟩

theorem State.putBoot_keeps (s : State) {v : BootSt} (h : v.lifeCycle = s.boot.lifeCycle) :
    Keeps 512 s (s.putBoot v) :=
  ⟨fun p hp => by cases p <;> first | rfl | exact h | exact absurd hp (by decide), id, id⟩

theorem State.putBoot_life_keeps (s : State) (v : BootSt) : Keeps 17179869696 s (s.putBoot v) :=
  ⟨fun p hp => by cases p <;> first | rfl | exact absurd hp (by decide), id, id⟩

theorem memPutBytes_wf (m : List Host.Cell) (a : Nat) (b : List Byte) (h : memWf m = true) :
    memWf (memPutBytes m a b) = true := by
  induction b generalizing m a with
  | nil => exact h
  | cons x t ih => exact ih _ _ (mapWf_put _ _ _ h)

theorem memFilter_wf {m : List Host.Cell} (p : Host.Cell → Bool) (h : memWf m = true) : memWf (m.filter p) = true :=
  mapWf_filter _ p h

theorem State.memOk_iff (s : State) :
    s.memOk = true ↔ memWf s.sram = true ∧ memWf s.mram = true ∧ memWf s.pmem = true := by
  simp [State.memOk, and_assoc]

theorem State.putSram_keeps (s : State) {v} (hv : memWf s.sram = true → memWf v = true) : Keeps 16 s (State.putSram s v) :=
  ⟨fun p hp => by cases p <;> first | rfl | exact absurd hp (by decide),
    fun h => (State.memOk_iff _).2 (by have h := (State.memOk_iff s).1 h; exact ⟨hv h.1, h.2.1, h.2.2⟩), id⟩

theorem State.putMram_keeps (s : State) {v} (hv : memWf s.mram = true → memWf v = true) : Keeps 32 s (State.putMram s v) :=
  ⟨fun p hp => by cases p <;> first | rfl | exact absurd hp (by decide),
    fun h => (State.memOk_iff _).2 (by have h := (State.memOk_iff s).1 h; exact ⟨h.1, hv h.2.1, h.2.2⟩), id⟩

theorem State.putPmem_keeps (s : State) {v} (hv : memWf s.pmem = true → memWf v = true) : Keeps 64 s (State.putPmem s v) :=
  ⟨fun p hp => by cases p <;> first | rfl | exact absurd hp (by decide),
    fun h => (State.memOk_iff _).2 (by have h := (State.memOk_iff s).1 h; exact ⟨h.1, h.2.1, hv h.2.2⟩), id⟩

theorem State.putRegs_keeps (s : State) {v} (hv : s.regsOk = true → mapWf regReset v = true) :
    Keeps 8 s (s.putRegs v) :=
  ⟨fun p hp => by cases p <;> first | rfl | exact absurd hp (by decide), id, hv⟩

/-! ## Outcomes -/

/-- The command answers a next state that Keeps relates to `s`. -/
def OKeeps (m : Nat) (s : State) (o : Host.Outcome State Fault Refusal) : Prop := ∃ t, o = .next t ∧ Keeps m s t

theorem OKeeps.next {m : Nat} {s t : State} (h : Keeps m s t) : OKeeps m s (.next t) := ⟨t, rfl, h⟩

theorem OKeeps.ite {m : Nat} {s : State} {c : Prop} [Decidable c] {a b : Host.Outcome State Fault Refusal}
    (h : OKeeps m s a) (g : OKeeps m s b) : OKeeps m s (if c then a else b) := by split <;> assumption

theorem OKeeps.mono {m M : Nat} {s : State} {o : Host.Outcome State Fault Refusal} (h : OKeeps m s o)
    (hm : (m &&& M == m) = true) : OKeeps M s o :=
  let ⟨t, e, k⟩ := h
  ⟨t, e, k.mono hm⟩

end Sys2Proof.Machine
end

