-- ==== Sys2Proof/Laws/KeepsOps.lean ====
section
/-! SUPPORT. What each operation of Machine/Ops.lean leaves alone (the relation Keeps). -/

namespace Sys2Proof.Machine



































theorem State.setReg_keeps (s : State) (a : Nat) (v : Word) : Keeps 8 s (s.setReg a v) :=
  State.putRegs_keeps s fun h => mapWf_put _ _ _ h

theorem State.wr_keeps (s x1 x2) : Keeps 8 s (State.wr s x1 x2) := by
  unfold State.wr
  repeat' first
    | with_reducible exact Keeps.refl
    | ((with_reducible apply Keeps.comp (State.setReg_keeps ..)); · rfl)

theorem State.wrB_keeps (s x1 x2) : Keeps 8 s (State.wrB s x1 x2) := by
  unfold State.wrB
  repeat' first
    | with_reducible exact Keeps.refl
    | ((with_reducible apply Keeps.comp (State.wr_keeps ..)); · rfl)

theorem State.wrI_keeps (s x1 x2) : Keeps 8 s (State.wrI s x1 x2) := by
  unfold State.wrI
  repeat' first
    | with_reducible exact Keeps.refl
    | ((with_reducible apply Keeps.comp (State.wr_keeps ..)); · rfl)

theorem State.incBy_keeps (s x1 x2) : Keeps 8 s (State.incBy s x1 x2) := by
  unfold State.incBy
  repeat' first
    | with_reducible exact Keeps.refl
    | ((with_reducible apply Keeps.comp (State.wr_keeps ..)); · rfl)

theorem State.inc_keeps (s x1) : Keeps 8 s (State.inc s x1) := by
  unfold State.inc
  repeat' first
    | with_reducible exact Keeps.refl
    | ((with_reducible apply Keeps.comp (State.incBy_keeps ..)); · rfl)

theorem State.incWrap_keeps (s x1) : Keeps 8 s (State.incWrap s x1) := by
  unfold State.incWrap
  repeat' first
    | with_reducible exact Keeps.refl
    | ((with_reducible apply Keeps.comp (State.wr_keeps ..)); · rfl)

theorem State.orF_keeps (s x1 x2) : Keeps 8 s (State.orF s x1 x2) := by
  unfold State.orF
  repeat' first
    | with_reducible exact Keeps.refl
    | ((with_reducible apply Keeps.comp (State.wr_keeps ..)); · rfl)

theorem State.resetRegs_keeps (s : State) (p : Nat → Bool) : Keeps 8 s (s.resetRegs p) :=
  State.putRegs_keeps s fun h => mapWf_filter _ _ h

theorem State.takeFree_keeps (s) : Keeps 4 s (State.takeFree s).2 := by
  unfold State.takeFree
  repeat' first
    | with_reducible exact Keeps.refl
    | ((with_reducible apply Keeps.comp (State.putFree_keeps ..)); · rfl)

theorem State.takeFree_out {s y0 y1} (h : State.takeFree s = (y0, y1)) : Keeps 4 s y1 := by
  have := State.takeFree_keeps s; rw [h] at this; exact this

theorem State.raiseEvent_keeps (s x1 x2) : Keeps 65544 s (State.raiseEvent s x1 x2) := by
  unfold State.raiseEvent
  repeat' first
    | with_reducible exact Keeps.refl
    | (lift_lets; intro z; clear_value z)
    | ((with_reducible apply Keeps.comp (State.orF_keeps ..)); · rfl)
    | ((with_reducible apply Keeps.comp (State.putMsix_keeps ..)); · rfl)
    | split
    | with_reducible apply Keeps.ite

theorem State.setIstat_keeps (s x1 x2) : Keeps 65544 s (State.setIstat s x1 x2) := by
  unfold State.setIstat
  repeat' first
    | with_reducible exact Keeps.refl
    | (lift_lets; intro z)
    | ((with_reducible apply Keeps.comp (State.orF_keeps ..)); · rfl)
    | ((with_reducible apply Keeps.comp (State.raiseEvent_keeps ..)); · rfl)
    | split

theorem State.cfgErr_keeps (s x1) : Keeps 8 s (State.cfgErr s x1) := by
  unfold State.cfgErr
  repeat' first
    | with_reducible exact Keeps.refl
    | (lift_lets; intro z)
    | ((with_reducible apply Keeps.comp (State.wr_keeps ..)); · rfl)
    | ((with_reducible apply Keeps.comp (State.wrB_keeps ..)); · rfl)
    | split
    | with_reducible apply Keeps.ite

theorem State.logPush_keeps (s x1 x2 x3 x4 x5) : Keeps 4104 s (State.logPush s x1 x2 x3 x4 x5) := by
  unfold State.logPush
  repeat' first
    | with_reducible exact Keeps.refl
    | (lift_lets; intro z; clear_value z)
    | ((with_reducible apply Keeps.comp (State.putEvlog_keeps ..)); · rfl)
    | ((with_reducible apply Keeps.comp (State.wr_keeps ..)); · rfl)

theorem State.logRec_keeps (s x1 x2 x3 x4 x5) : Keeps 12296 s (State.logRec s x1 x2 x3 x4 x5) := by
  unfold State.logRec
  repeat' first
    | with_reducible exact Keeps.refl
    | (lift_lets; intro z; clear_value z)
    | ((with_reducible apply Keeps.comp (State.inc_keeps ..)); · rfl)
    | ((with_reducible apply Keeps.comp (State.putEvLost_keeps ..)); · rfl)
    | ((with_reducible apply Keeps.comp (State.logPush_keeps ..)); · rfl)
    | split
    | with_reducible apply Keeps.ite

theorem State.logEvent_keeps (s x1 x2 x3 x4) : Keeps 12296 s (State.logEvent s x1 x2 x3 x4) := by
  unfold State.logEvent
  repeat' first
    | with_reducible exact Keeps.refl
    | ((with_reducible apply Keeps.comp (State.logRec_keeps ..)); · rfl)

theorem State.dcpResult_keeps (s x1 x2 x3) : Keeps 1073741824 s (State.dcpResult s x1 x2 x3) := by
  unfold State.dcpResult
  repeat' first
    | with_reducible exact Keeps.refl
    | (lift_lets; intro z; clear_value z)
    | ((with_reducible apply Keeps.comp (State.putDcp_keeps ..)); · rfl)

theorem State.acceptMode_keeps (s x1 x2 x3 x4) : Keeps 1073741960 s (State.acceptMode s x1 x2 x3 x4) := by
  unfold State.acceptMode
  repeat' first
    | with_reducible exact Keeps.refl
    | (lift_lets; intro z)
    | ((with_reducible apply Keeps.comp (State.wrB_keeps ..)); · rfl)
    | ((with_reducible apply Keeps.comp (State.wr_keeps ..)); · rfl)
    | ((with_reducible apply Keeps.comp (State.putPendMode_keeps ..)); · rfl)
    | ((with_reducible apply Keeps.comp (State.dcpResult_keeps ..)); · rfl)
    | split

theorem State.safeStopFault_keeps (s x1) : Keeps 1073754248 s (State.safeStopFault s x1) := by
  unfold State.safeStopFault
  repeat' first
    | with_reducible exact Keeps.refl
    | (lift_lets; intro z)
    | ((with_reducible apply Keeps.comp (State.orF_keeps ..)); · rfl)
    | ((with_reducible apply Keeps.comp (State.inc_keeps ..)); · rfl)
    | ((with_reducible apply Keeps.comp (State.wr_keeps ..)); · rfl)
    | ((with_reducible apply Keeps.comp (State.acceptMode_keeps ..)); · rfl)
    | ((with_reducible apply Keeps.comp (State.logEvent_keeps ..)); · rfl)
    | split

theorem State.eccLog_keeps (s x1 x2 x3) : Keeps 8 s (State.eccLog s x1 x2 x3) := by
  unfold State.eccLog
  repeat' first
    | with_reducible exact Keeps.refl
    | ((with_reducible apply Keeps.comp (State.wr_keeps ..)); · rfl)
    | ((with_reducible apply Keeps.comp (State.wrB_keeps ..)); · rfl)
    | split

theorem State.imageReason_keeps (s x1) : Keeps 524288 s (State.imageReason s x1) := by
  unfold State.imageReason
  repeat' first
    | with_reducible exact Keeps.refl
    | (lift_lets; intro z; clear_value z)
    | ((with_reducible apply Keeps.comp (State.putImage_keeps ..)); · rfl)

theorem State.eccUe_keeps (s x1 x2) : Keeps 602120 s (State.eccUe s x1 x2) := by
  unfold State.eccUe
  repeat' first
    | with_reducible exact Keeps.refl
    | (lift_lets; intro z)
    | ((with_reducible apply Keeps.comp (State.imageReason_keeps ..)); · rfl)
    | ((with_reducible apply Keeps.comp (State.logEvent_keeps ..)); · rfl)
    | ((with_reducible apply Keeps.comp (State.setIstat_keeps ..)); · rfl)
    | ((with_reducible apply Keeps.comp (State.eccLog_keeps ..)); · rfl)
    | ((with_reducible apply Keeps.comp (State.inc_keeps ..)); · rfl)
    | with_reducible apply Keeps.ite

theorem State.sramRead_keeps (s x1 x2) : Keeps 602120 s (State.sramRead s x1 x2).2.2 := by
  unfold State.sramRead
  repeat' first
    | with_reducible exact Keeps.refl
    | (lift_lets; intro z; clear_value z)
    | ((with_reducible apply Keeps.comp (State.inc_keeps ..)); · rfl)
    | ((with_reducible apply Keeps.comp (State.eccUe_keeps ..)); · rfl)
    | split
    | with_reducible apply Keeps.thd_ite

theorem State.sramRead_out {s x1 x2 y0 y1 y2} (h : State.sramRead s x1 x2 = (y0, y1, y2)) : Keeps 602120 s y2 := by
  have := State.sramRead_keeps s x1 x2; rw [h] at this; exact this

theorem State.sramWriteWord_keeps (s x1 x2 x3) : Keeps 2072 s (State.sramWriteWord s x1 x2 x3) := by
  unfold State.sramWriteWord
  repeat' first
    | with_reducible exact Keeps.refl
    | (lift_lets; intro z; clear_value z)
    | ((with_reducible apply Keeps.comp (State.inc_keeps ..)); · rfl)
    | ((with_reducible show Keeps _ _ (State.putSram _ _)); (with_reducible refine Keeps.comp (State.putSram_keeps _ ?_) ?_ ?_); (· (intro hw; repeat' first | with_reducible assumption | with_reducible apply memPutBytes_wf | with_reducible apply memFilter_wf | with_reducible apply fillMem_wf | with_reducible apply putPart_wf | (with_reducible apply memPut_wf) | (with_reducible refine memFold_wf (fun _ _ _ => ?_) _ ?_) | split | exact hw | exact mapWf_filter _ _ hw | rfl)); (· rfl))
    | ((with_reducible apply Keeps.comp (State.putMem_keeps ..)); · rfl)
    | split

theorem State.sramWriteN_keeps (s x1 x2 x3 x4) : Keeps 2072 s (State.sramWriteN s x1 x2 x3 x4) := by
  induction x4 generalizing s x1 x2 x3 with
  | zero => exact Keeps.refl
  | succ n ih =>
    unfold State.sramWriteN
    repeat' first
      | with_reducible exact Keeps.refl
      | (lift_lets; intro z; clear_value z)
      | ((with_reducible apply Keeps.comp (ih ..)); · rfl)
      | ((with_reducible apply Keeps.comp (State.sramWriteWord_keeps ..)); · rfl)
      | split

theorem State.sramWrite_keeps (s x1 x2 x3) : Keeps 2072 s (State.sramWrite s x1 x2 x3) := by
  unfold State.sramWrite
  repeat' first
    | with_reducible exact Keeps.refl
    | ((with_reducible apply Keeps.comp (State.sramWriteN_keeps ..)); · rfl)

theorem State.sramReadWords_keeps (s x1 x2 x3) : Keeps 602120 s (State.sramReadWords s x1 x2 x3).2.2 := by
  induction x3 generalizing s x1 x2 with
  | zero => exact Keeps.refl
  | succ n ih =>
    have iho : ∀ {s x1 x2 y0 y1 y2}, State.sramReadWords s x1 x2 n = (y0, y1, y2) → Keeps 602120 s y2 := fun {s x1 x2 y0 y1 y2} h => by
      have := ih s x1 x2; rw [h] at this; exact this
    unfold State.sramReadWords
    repeat' first
      | with_reducible exact Keeps.refl
      | ((with_reducible apply Keeps.comp (ih ..)); · rfl)
      | ((with_reducible apply Keeps.comp (State.sramRead_keeps ..)); · rfl)

theorem State.sramReadWords_out {s x1 x2 x3 y0 y1 y2} (h : State.sramReadWords s x1 x2 x3 = (y0, y1, y2)) : Keeps 602120 s y2 := by
  have := State.sramReadWords_keeps s x1 x2 x3; rw [h] at this; exact this

theorem State.sramReadBytes_keeps (s x1 x2 x3) : Keeps 602120 s (State.sramReadBytes s x1 x2 x3).2.2 := by
  unfold State.sramReadBytes
  repeat' first
    | with_reducible exact Keeps.refl
    | ((with_reducible apply Keeps.comp (State.sramReadWords_keeps ..)); · rfl)

theorem State.sramReadBytes_out {s x1 x2 x3 y0 y1 y2} (h : State.sramReadBytes s x1 x2 x3 = (y0, y1, y2)) : Keeps 602120 s y2 := by
  have := State.sramReadBytes_keeps s x1 x2 x3; rw [h] at this; exact this

end Sys2Proof.Machine
end

