-- ==== Sys2Proof/Laws/KeepsAceBank.lean ====
section
/-! SUPPORT. What each operation of Machine/AceBank.lean leaves alone (the relation Keeps). -/

namespace Sys2Proof.Machine

theorem State.setWindow_keeps (s x1 x2 x3) : Keeps 8 s (State.setWindow s x1 x2 x3) := by
  unfold State.setWindow
  repeat' first
    | with_reducible assumption
    | with_reducible exact Keeps.refl
    | ((with_reducible apply Keeps.comp (State.setReg_keeps ..)); · rfl)
    | ((with_reducible apply Keeps.comp (State.resetRegs_keeps ..)); · rfl)
    | with_reducible refine Keeps.foldl (fun _ _ _ => ?_) ?_

theorem State.copyWindow_keeps (s x1 x2 x3) : Keeps 8 s (State.copyWindow s x1 x2 x3) := by
  unfold State.copyWindow
  repeat' first
    | with_reducible exact Keeps.refl
    | ((with_reducible apply Keeps.comp (State.setWindow_keeps ..)); · rfl)

theorem State.swapWindow_keeps (s x1 x2 x3) : Keeps 8 s (State.swapWindow s x1 x2 x3) := by
  unfold State.swapWindow
  repeat' first
    | with_reducible exact Keeps.refl
    | ((with_reducible apply Keeps.comp (State.setWindow_keeps ..)); · rfl)

theorem State.setAxis_keeps (s x1 x2) : Keeps 134217728 s (State.setAxis s x1 x2) := by
  unfold State.setAxis
  repeat' first
    | with_reducible exact Keeps.refl
    | (lift_lets; intro z; clear_value z)
    | ((with_reducible apply Keeps.comp (State.putAce_keeps ..)); · rfl)

theorem State.axisUpd_keeps (s x1 x2) : Keeps 134217728 s (State.axisUpd s x1 x2) := by
  unfold State.axisUpd
  repeat' first
    | with_reducible exact Keeps.refl
    | ((with_reducible apply Keeps.comp (State.setAxis_keeps ..)); · rfl)

theorem State.applyEnd_keeps (s x1 x2) : Keeps 1208025096 s (State.applyEnd s x1 x2) := by
  unfold State.applyEnd
  repeat' first
    | with_reducible exact Keeps.refl
    | (lift_lets; intro z; clear_value z)
    | ((with_reducible apply Keeps.comp (State.setIstat_keeps ..)); · rfl)
    | ((with_reducible apply Keeps.comp (State.wrB_keeps ..)); · rfl)
    | ((with_reducible apply Keeps.comp (State.putAce_keeps ..)); · rfl)
    | ((with_reducible apply Keeps.comp (State.dcpResult_keeps ..)); · rfl)
    | split

theorem State.bankSwap_keeps (s) : Keeps 1208025096 s (State.bankSwap s) := by
  unfold State.bankSwap
  repeat' first
    | with_reducible assumption
    | with_reducible exact Keeps.refl
    | (lift_lets; intro z)
    | ((with_reducible apply Keeps.comp (State.axisUpd_keeps ..)); · rfl)
    | ((with_reducible apply Keeps.comp (State.swapWindow_keeps ..)); · rfl)
    | ((with_reducible apply Keeps.comp (State.applyEnd_keeps ..)); · rfl)
    | ((with_reducible apply Keeps.comp (State.wrB_keeps ..)); · rfl)
    | ((with_reducible apply Keeps.comp (State.incWrap_keeps ..)); · rfl)
    | with_reducible refine Keeps.foldl (fun _ _ _ => ?_) ?_

theorem State.bankSwapDue_keeps (s) : Keeps 1208025096 s (State.bankSwapDue s) := by
  unfold State.bankSwapDue
  repeat' first
    | with_reducible exact Keeps.refl
    | ((with_reducible apply Keeps.comp (State.bankSwap_keeps ..)); · rfl)
    | split

theorem State.bankApply_keeps (s x1) : Keeps 134217736 s (State.bankApply s x1) := by
  unfold State.bankApply
  repeat' first
    | with_reducible exact Keeps.refl
    | (lift_lets; intro z; first | (have hz : (fun (_ : State) => True) z := trivial; clear hz) | clear_value z)
    | ((with_reducible apply Keeps.comp (State.cfgErr_keeps ..)); · rfl)
    | ((with_reducible apply Keeps.comp (State.wrB_keeps ..)); · rfl)
    | ((with_reducible apply Keeps.comp (State.putAce_keeps ..)); · rfl)
    | split

theorem State.bankChecked_keeps (s x1) : Keeps 1208025096 s (State.bankChecked s x1) := by
  unfold State.bankChecked
  repeat' first
    | with_reducible exact Keeps.refl
    | (lift_lets; intro z; first | (have hz : (fun (_ : State) => True) z := trivial; clear hz) | clear_value z)
    | ((with_reducible apply Keeps.comp (State.wr_keeps ..)); · rfl)
    | ((with_reducible apply Keeps.comp (State.wrB_keeps ..)); · rfl)
    | ((with_reducible apply Keeps.comp (State.applyEnd_keeps ..)); · rfl)
    | ((with_reducible apply Keeps.comp (State.putAce_keeps ..)); · rfl)
    | ((with_reducible apply Keeps.comp (State.bankSwap_keeps ..)); · rfl)
    | split

theorem State.bankCopy_keeps (s x1) : Keeps 134217736 s (State.bankCopy s x1).2 := by
  unfold State.bankCopy
  repeat' first
    | with_reducible exact Keeps.refl
    | (lift_lets; intro z; first | (have hz : (fun (_ : State) => True) z := trivial; clear hz) | clear_value z)
    | ((with_reducible apply Keeps.comp (State.cfgErr_keeps ..)); · rfl)
    | ((with_reducible apply Keeps.comp (State.wrB_keeps ..)); · rfl)
    | ((with_reducible apply Keeps.comp (State.wr_keeps ..)); · rfl)
    | ((with_reducible apply Keeps.comp (State.putAce_keeps ..)); · rfl)
    | split

theorem State.bankCopy_out {s x1 y0 y1} (h : State.bankCopy s x1 = (y0, y1)) : Keeps 134217736 s y1 := by
  have := State.bankCopy_keeps s x1; rw [h] at this; exact this

theorem State.bankCopied_keeps (s) : Keeps 65544 s (State.bankCopied s) := by
  unfold State.bankCopied
  repeat' first
    | with_reducible exact Keeps.refl
    | (lift_lets; intro z; clear_value z)
    | ((with_reducible apply Keeps.comp (State.copyWindow_keeps ..)); · rfl)
    | ((with_reducible apply Keeps.comp (State.setIstat_keeps ..)); · rfl)
    | ((with_reducible apply Keeps.comp (State.wrB_keeps ..)); · rfl)

end Sys2Proof.Machine
end

