-- ==== Sys2Proof/Laws/KeepsMem.lean ====
section
/-! SUPPORT. What each operation of Machine/Mem.lean leaves alone (the relation Keeps). -/

namespace Sys2Proof.Machine

theorem State.sramClear_keeps (s x1 x2) : Keeps 2064 s (State.sramClear s x1 x2) := by
  unfold State.sramClear
  repeat' first
    | with_reducible exact Keeps.refl
    | (lift_lets; intro z; clear_value z)
    | ((with_reducible apply Keeps.comp (State.putMem_keeps ..)); · rfl)
    | ((with_reducible show Keeps _ _ (State.putSram _ _)); (with_reducible refine Keeps.comp (State.putSram_keeps _ ?_) ?_ ?_); (· (intro hw; repeat' first | with_reducible assumption | with_reducible apply memPutBytes_wf | with_reducible apply memFilter_wf | with_reducible apply fillMem_wf | with_reducible apply putPart_wf | (with_reducible apply memPut_wf) | (with_reducible refine memFold_wf (fun _ _ _ => ?_) _ ?_) | split | exact hw | exact mapWf_filter _ _ hw | rfl)); (· rfl))

theorem State.bankClear_keeps (s x1) : Keeps 526352 s (State.bankClear s x1) := by
  unfold State.bankClear
  repeat' first
    | with_reducible exact Keeps.refl
    | ((with_reducible apply Keeps.comp (State.sramClear_keeps ..)); · rfl)
    | ((with_reducible apply Keeps.comp (State.imageReason_keeps ..)); · rfl)
    | split

theorem State.setBankRun_keeps (s x1 x2) : Keeps 2048 s (State.setBankRun s x1 x2) := by
  unfold State.setBankRun
  repeat' first
    | with_reducible exact Keeps.refl
    | (lift_lets; intro z; clear_value z)
    | ((with_reducible apply Keeps.comp (State.putMem_keeps ..)); · rfl)

theorem State.bankBegin_keeps (s x1 x2) : Keeps 2056 s (State.bankBegin s x1 x2) := by
  unfold State.bankBegin
  repeat' first
    | with_reducible exact Keeps.refl
    | (lift_lets; intro z; clear_value z)
    | ((with_reducible apply Keeps.comp (State.wr_keeps ..)); · rfl)
    | ((with_reducible apply Keeps.comp (State.setBankRun_keeps ..)); · rfl)
    | split

theorem State.bankMove_keeps (s x1 x2) : Keeps 2056 s (State.bankMove s x1 x2) := by
  unfold State.bankMove
  repeat' first
    | with_reducible exact Keeps.refl
    | ((with_reducible apply Keeps.comp (State.wrB_keeps ..)); · rfl)
    | ((with_reducible apply Keeps.comp (State.setBankRun_keeps ..)); · rfl)
    | ((with_reducible apply Keeps.comp (State.bankBegin_keeps ..)); · rfl)
    | split

theorem bankTarget_keeps (x0 x1 s) : Keeps 2056 s (bankTarget x0 x1 s) := by
  unfold bankTarget
  repeat' first
    | with_reducible exact Keeps.refl
    | (lift_lets; intro z)
    | ((with_reducible apply Keeps.comp (State.cfgErr_keeps ..)); · rfl)
    | ((with_reducible apply Keeps.comp (State.wr_keeps ..)); · rfl)
    | ((with_reducible apply Keeps.comp (State.bankMove_keeps ..)); · rfl)
    | split

theorem execBankTargetWrite_keeps (x0 x1 s) : OKeeps 2056 s (execBankTargetWrite x0 x1 s) := by
  unfold execBankTargetWrite
  repeat' first
    | with_reducible exact Keeps.refl
    | with_reducible apply OKeeps.next
    | ((with_reducible apply Keeps.comp (bankTarget_keeps ..)); · rfl)

theorem bankDone_keeps (x0 s) : Keeps 526360 s (bankDone x0 s) := by
  unfold bankDone
  repeat' first
    | with_reducible exact Keeps.refl
    | (lift_lets; intro z)
    | ((with_reducible apply Keeps.comp (State.wr_keeps ..)); · rfl)
    | ((with_reducible apply Keeps.comp (State.setBankRun_keeps ..)); · rfl)
    | ((with_reducible apply Keeps.comp (State.wrB_keeps ..)); · rfl)
    | ((with_reducible apply Keeps.comp (State.bankClear_keeps ..)); · rfl)
    | ((with_reducible apply Keeps.comp (State.bankBegin_keeps ..)); · rfl)
    | split
    | with_reducible apply Keeps.ite

theorem execBankChangeDone_keeps (x0 s) : OKeeps 526360 s (execBankChangeDone x0 s) := by
  unfold execBankChangeDone
  repeat' first
    | with_reducible exact Keeps.refl
    | with_reducible apply OKeeps.next
    | ((with_reducible apply Keeps.comp (bankDone_keeps ..)); · rfl)

theorem State.banksStandby_keeps (s) : Keeps 526360 s (State.banksStandby s) := by
  unfold State.banksStandby
  repeat' first
    | with_reducible assumption
    | with_reducible exact Keeps.refl
    | ((with_reducible apply Keeps.comp (State.wr_keeps ..)); · rfl)
    | ((with_reducible apply Keeps.comp (State.setBankRun_keeps ..)); · rfl)
    | ((with_reducible apply Keeps.comp (State.bankClear_keeps ..)); · rfl)
    | with_reducible refine Keeps.foldl (fun _ _ _ => ?_) ?_
    | split

theorem State.scrubWord_keeps (s x1 x2) : Keeps 604168 s (State.scrubWord s x1 x2) := by
  unfold State.scrubWord
  repeat' first
    | with_reducible exact Keeps.refl
    | (lift_lets; intro z; clear_value z)
    | ((with_reducible apply Keeps.comp (State.eccLog_keeps ..)); · rfl)
    | ((with_reducible apply Keeps.comp (State.inc_keeps ..)); · rfl)
    | ((with_reducible apply Keeps.comp (State.putMem_keeps ..)); · rfl)
    | ((with_reducible apply Keeps.comp (State.eccUe_keeps ..)); · rfl)
    | split

theorem execPatrolScrub_keeps (x0 x1 x2 x3 x4 x5 s) : OKeeps 604168 s (execPatrolScrub x0 x1 x2 x3 x4 x5 s) := by
  unfold execPatrolScrub
  repeat' first
    | with_reducible exact Keeps.refl
    | (lift_lets; intro z; clear_value z)
    | with_reducible apply OKeeps.next
    | ((with_reducible apply Keeps.comp (State.scrubWord_keeps ..)); · rfl)
    | ((with_reducible apply Keeps.comp (State.setIstat_keeps ..)); · rfl)
    | ((with_reducible apply Keeps.comp (State.wrB_keeps ..)); · rfl)
    | split

theorem State.vaultWipe_keeps (s x1) : Keeps 14360 s (State.vaultWipe s x1) := by
  unfold State.vaultWipe
  repeat' first
    | with_reducible exact Keeps.refl
    | (lift_lets; intro z; first | (have hz : (fun (_ : State) => True) z := trivial; clear hz) | clear_value z)
    | ((with_reducible apply Keeps.comp (State.wrB_keeps ..)); · rfl)
    | ((with_reducible apply Keeps.comp (State.sramClear_keeps ..)); · rfl)
    | ((with_reducible apply Keeps.comp (State.putMem_keeps ..)); · rfl)
    | ((with_reducible apply Keeps.comp (State.inc_keeps ..)); · rfl)
    | ((with_reducible apply Keeps.comp (State.wr_keeps ..)); · rfl)
    | ((with_reducible apply Keeps.comp (State.logEvent_keeps ..)); · rfl)
    | with_reducible apply Keeps.ite

theorem execVaultWipe_keeps (x0 s) : OKeeps 14360 s (execVaultWipe x0 s) := by
  unfold execVaultWipe
  repeat' first
    | with_reducible exact Keeps.refl
    | with_reducible apply OKeeps.next
    | ((with_reducible apply Keeps.comp (State.vaultWipe_keeps ..)); · rfl)
    | split

theorem vaultWipeDone_keeps (s) : Keeps 67592 s (vaultWipeDone s) := by
  unfold vaultWipeDone
  repeat' first
    | with_reducible exact Keeps.refl
    | (lift_lets; intro z; first | (have hz : (fun (_ : State) => True) z := trivial; clear hz) | clear_value z)
    | ((with_reducible apply Keeps.comp (State.setIstat_keeps ..)); · rfl)
    | ((with_reducible apply Keeps.comp (State.wrB_keeps ..)); · rfl)
    | ((with_reducible apply Keeps.comp (State.putMem_keeps ..)); · rfl)
    | split

theorem execVaultWipeDone_keeps (s) : OKeeps 67592 s (execVaultWipeDone s) := by
  unfold execVaultWipeDone
  repeat' first
    | with_reducible exact Keeps.refl
    | with_reducible apply OKeeps.next
    | ((with_reducible apply Keeps.comp (vaultWipeDone_keeps ..)); · rfl)

theorem State.tamper_keeps (s x1 x2) : Keeps 79896 s (State.tamper s x1 x2) := by
  unfold State.tamper
  repeat' first
    | with_reducible assumption
    | with_reducible exact Keeps.refl
    | (lift_lets; intro z)
    | intro z
    | ((with_reducible apply Keeps.comp (State.inc_keeps ..)); · rfl)
    | ((with_reducible apply Keeps.comp (State.wrB_keeps ..)); · rfl)
    | ((with_reducible apply Keeps.comp (State.logRec_keeps ..)); · rfl)
    | ((with_reducible apply Keeps.comp (State.vaultWipe_keeps ..)); · rfl)
    | ((with_reducible apply Keeps.comp (State.wr_keeps ..)); · rfl)
    | ((with_reducible apply Keeps.comp (vaultWipeDone_keeps ..)); · rfl)
    | with_reducible refine Keeps.foldl (fun _ _ _ => ?_) ?_
    | split

theorem execTamperPin_keeps (s) : OKeeps 79896 s (execTamperPin s) := by
  unfold execTamperPin
  repeat' first
    | with_reducible exact Keeps.refl
    | with_reducible apply OKeeps.next
    | ((with_reducible apply Keeps.comp (State.tamper_keeps ..)); · rfl)
    | split

theorem execTamperMesh_keeps (s) : OKeeps 79896 s (execTamperMesh s) := by
  unfold execTamperMesh
  repeat' first
    | with_reducible exact Keeps.refl
    | with_reducible apply OKeeps.next
    | ((with_reducible apply Keeps.comp (State.tamper_keeps ..)); · rfl)
    | split

end Sys2Proof.Machine
end

