-- ==== Sys2Proof/Laws/KeepsMqf.lean ====
section
/-! SUPPORT. What each operation of Machine/Mqf.lean leaves alone (the relation Keeps). -/

namespace Sys2Proof.Machine

theorem State.ring_keeps (s x1 x2) : Keeps 65544 s (State.ring s x1 x2) := by
  unfold State.ring
  repeat' first
    | with_reducible exact Keeps.refl
    | (lift_lets; intro z)
    | ((with_reducible apply Keeps.comp (State.orF_keeps ..)); · rfl)
    | ((with_reducible apply Keeps.comp (State.raiseEvent_keeps ..)); · rfl)
    | split

theorem State.setTiming_keeps (s x1 x2) : Keeps 536870912 s (State.setTiming s x1 x2) := by
  unfold State.setTiming
  repeat' first
    | with_reducible exact Keeps.refl
    | (lift_lets; intro z; clear_value z)
    | ((with_reducible apply Keeps.comp (State.putMqf_keeps ..)); · rfl)

theorem State.copyStaging_keeps (s x1) : Keeps 8 s (State.copyStaging s x1) := by
  unfold State.copyStaging
  repeat' first
    | with_reducible assumption
    | with_reducible exact Keeps.refl
    | ((with_reducible apply Keeps.comp (State.setReg_keeps ..)); · rfl)
    | with_reducible refine Keeps.foldl (fun _ _ _ => ?_) ?_

theorem State.ringAck_keeps (s x1) : Keeps 65544 s (State.ringAck s x1) := by
  unfold State.ringAck
  repeat' first
    | with_reducible exact Keeps.refl
    | ((with_reducible apply Keeps.comp (State.ring_keeps ..)); · rfl)
    | split

theorem mbPost_keeps (x0 x1 x2 s) : Keeps 536936456 s (mbPost x0 x1 x2 s) := by
  unfold mbPost
  repeat' first
    | with_reducible exact Keeps.refl
    | (lift_lets; intro z; clear_value z)
    | ((with_reducible apply Keeps.comp (State.cfgErr_keeps ..)); · rfl)
    | ((with_reducible apply Keeps.comp (State.inc_keeps ..)); · rfl)
    | ((with_reducible apply Keeps.comp (State.wrB_keeps ..)); · rfl)
    | ((with_reducible apply Keeps.comp (State.putMqf_keeps ..)); · rfl)
    | ((with_reducible apply Keeps.comp (State.copyStaging_keeps ..)); · rfl)
    | ((with_reducible apply Keeps.comp (State.wr_keeps ..)); · rfl)
    | ((with_reducible apply Keeps.comp (State.ring_keeps ..)); · rfl)
    | ((with_reducible apply Keeps.comp (State.setTiming_keeps ..)); · rfl)
    | split

theorem execMbPost_keeps (x0 x1 x2 s) : OKeeps 536936456 s (execMbPost x0 x1 x2 s) := by
  unfold execMbPost
  repeat' first
    | with_reducible exact Keeps.refl
    | with_reducible apply OKeeps.next
    | ((with_reducible apply Keeps.comp (mbPost_keeps ..)); · rfl)

theorem mbAck_keeps (x0 x1 x2 x3 x4 s) : Keeps 536936456 s (mbAck x0 x1 x2 x3 x4 s) := by
  unfold mbAck
  repeat' first
    | with_reducible exact Keeps.refl
    | (lift_lets; intro z; first | (have hz : (fun (_ : State) => True) z := trivial; clear hz) | clear_value z)
    | ((with_reducible apply Keeps.comp (State.cfgErr_keeps ..)); · rfl)
    | ((with_reducible apply Keeps.comp (State.inc_keeps ..)); · rfl)
    | ((with_reducible apply Keeps.comp (State.setTiming_keeps ..)); · rfl)
    | ((with_reducible apply Keeps.comp (State.wrB_keeps ..)); · rfl)
    | ((with_reducible apply Keeps.comp (State.wr_keeps ..)); · rfl)
    | ((with_reducible apply Keeps.comp (State.ringAck_keeps ..)); · rfl)
    | split

theorem execMbAck_keeps (x0 x1 x2 x3 x4 s) : OKeeps 536936456 s (execMbAck x0 x1 x2 x3 x4 s) := by
  unfold execMbAck
  repeat' first
    | with_reducible exact Keeps.refl
    | with_reducible apply OKeeps.next
    | ((with_reducible apply Keeps.comp (mbAck_keeps ..)); · rfl)

theorem execMbTimeout_keeps (x0 s) : OKeeps 536936456 s (execMbTimeout x0 s) := by
  unfold execMbTimeout
  repeat' first
    | with_reducible exact Keeps.refl
    | (lift_lets; intro z)
    | with_reducible apply OKeeps.next
    | ((with_reducible apply Keeps.comp (State.wrB_keeps ..)); · rfl)
    | ((with_reducible apply Keeps.comp (State.setTiming_keeps ..)); · rfl)
    | ((with_reducible apply Keeps.comp (State.inc_keeps ..)); · rfl)
    | ((with_reducible apply Keeps.comp (State.wr_keeps ..)); · rfl)
    | ((with_reducible apply Keeps.comp (State.ringAck_keeps ..)); · rfl)
    | split

theorem State.setSem_keeps (s x1 x2) : Keeps 536870912 s (State.setSem s x1 x2) := by
  unfold State.setSem
  repeat' first
    | with_reducible exact Keeps.refl
    | (lift_lets; intro z; clear_value z)
    | ((with_reducible apply Keeps.comp (State.putMqf_keeps ..)); · rfl)

theorem semTake_keeps (x0 x1 s) : Keeps 536870912 s (semTake x0 x1 s).2 := by
  unfold semTake
  repeat' first
    | with_reducible exact Keeps.refl
    | (lift_lets; intro z; clear_value z)
    | ((with_reducible apply Keeps.comp (State.setSem_keeps ..)); · rfl)
    | split

theorem semTake_out {x0 x1 s y0 y1} (h : semTake x0 x1 s = (y0, y1)) : Keeps 536870912 s y1 := by
  have := semTake_keeps x0 x1 s; rw [h] at this; exact this

theorem execSemTake_keeps (x0 x1 s) : OKeeps 2684354560 s (execSemTake x0 x1 s) := by
  unfold execSemTake
  repeat' first
    | with_reducible exact Keeps.refl
    | with_reducible apply OKeeps.next
    | ((with_reducible apply Keeps.comp (State.putReadData_keeps ..)); · rfl)
    | ((with_reducible apply Keeps.comp (semTake_keeps ..)); · rfl)
    | split

theorem semRelease_keeps (x0 x1 s) : Keeps 536870920 s (semRelease x0 x1 s) := by
  unfold semRelease
  repeat' first
    | with_reducible exact Keeps.refl
    | ((with_reducible apply Keeps.comp (State.setSem_keeps ..)); · rfl)
    | ((with_reducible apply Keeps.comp (State.inc_keeps ..)); · rfl)
    | split

theorem execSemRelease_keeps (x0 x1 s) : OKeeps 536870920 s (execSemRelease x0 x1 s) := by
  unfold execSemRelease
  repeat' first
    | with_reducible exact Keeps.refl
    | with_reducible apply OKeeps.next
    | ((with_reducible apply Keeps.comp (semRelease_keeps ..)); · rfl)
    | split

theorem State.setPq_keeps (s x1 x2) : Keeps 536870912 s (State.setPq s x1 x2) := by
  unfold State.setPq
  repeat' first
    | with_reducible exact Keeps.refl
    | (lift_lets; intro z; clear_value z)
    | ((with_reducible apply Keeps.comp (State.putMqf_keeps ..)); · rfl)

theorem State.pqShow_keeps (s x1) : Keeps 8 s (State.pqShow s x1) := by
  unfold State.pqShow
  repeat' first
    | with_reducible exact Keeps.refl
    | (lift_lets; intro z; clear_value z)
    | ((with_reducible apply Keeps.comp (State.wr_keeps ..)); · rfl)
    | ((with_reducible apply Keeps.comp (State.wrB_keeps ..)); · rfl)

theorem State.pqPutItem_keeps (s x1 x2 x3) : Keeps 2072 s (State.pqPutItem s x1 x2 x3) := by
  unfold State.pqPutItem
  repeat' first
    | with_reducible exact Keeps.refl
    | ((with_reducible apply Keeps.comp (State.sramWrite_keeps ..)); · rfl)

theorem State.pqPutData_keeps (s x1 x2 x3 x4) : Keeps 2072 s (State.pqPutData s x1 x2 x3 x4) := by
  induction x4 generalizing s x1 x2 x3 with
  | zero => exact Keeps.refl
  | succ n ih =>
    unfold State.pqPutData
    repeat' first
      | with_reducible exact Keeps.refl
      | ((with_reducible apply Keeps.comp (ih ..)); · rfl)
      | ((with_reducible apply Keeps.comp (State.pqPutItem_keeps ..)); · rfl)
      | split

theorem State.pqCountDrop_keeps (s x1 x2) : Keeps 536870920 s (State.pqCountDrop s x1 x2) := by
  unfold State.pqCountDrop
  repeat' first
    | with_reducible exact Keeps.refl
    | (lift_lets; intro z; clear_value z)
    | ((with_reducible apply Keeps.comp (State.setPq_keeps ..)); · rfl)
    | ((with_reducible apply Keeps.comp (State.inc_keeps ..)); · rfl)
    | split

theorem State.pqPublish_keeps (s x1 x2) : Keeps 536872984 s (State.pqPublish s x1 x2) := by
  unfold State.pqPublish
  repeat' first
    | with_reducible exact Keeps.refl
    | (lift_lets; intro z; clear_value z)
    | ((with_reducible apply Keeps.comp (State.pqCountDrop_keeps ..)); · rfl)
    | ((with_reducible apply Keeps.comp (State.wr_keeps ..)); · rfl)
    | ((with_reducible apply Keeps.comp (State.pqPutItem_keeps ..)); · rfl)
    | ((with_reducible apply Keeps.comp (State.pqPutData_keeps ..)); · rfl)
    | ((with_reducible apply Keeps.comp (State.setPq_keeps ..)); · rfl)
    | split

theorem pqCommit_keeps (x0 x1 x2 s) : Keeps 536872984 s (pqCommit x0 x1 x2 s) := by
  unfold pqCommit
  repeat' first
    | with_reducible exact Keeps.refl
    | (lift_lets; intro z; first | (have hz : (fun (_ : State) => True) z := trivial; clear hz) | clear_value z)
    | ((with_reducible apply Keeps.comp (State.setPq_keeps ..)); · rfl)
    | ((with_reducible apply Keeps.comp (State.pqPublish_keeps ..)); · rfl)
    | ((with_reducible apply Keeps.comp (State.pqShow_keeps ..)); · rfl)
    | split
    | with_reducible apply Keeps.ite

theorem pqWrite_keeps (x0 x1 x2 x3 x4 x5 s) : Keeps 536872984 s (pqWrite x0 x1 x2 x3 x4 x5 s) := by
  unfold pqWrite
  repeat' first
    | with_reducible exact Keeps.refl
    | (lift_lets; intro z; clear_value z)
    | ((with_reducible apply Keeps.comp (State.cfgErr_keeps ..)); · rfl)
    | ((with_reducible apply Keeps.comp (State.setPq_keeps ..)); · rfl)
    | ((with_reducible apply Keeps.comp (State.pqShow_keeps ..)); · rfl)
    | ((with_reducible apply Keeps.comp (State.pqCountDrop_keeps ..)); · rfl)
    | ((with_reducible apply Keeps.comp (pqCommit_keeps ..)); · rfl)
    | split

theorem State.pqDiscardOpen_keeps (s x1) : Keeps 536870920 s (State.pqDiscardOpen s x1) := by
  unfold State.pqDiscardOpen
  repeat' first
    | with_reducible exact Keeps.refl
    | (lift_lets; intro z; clear_value z)
    | ((with_reducible apply Keeps.comp (State.pqShow_keeps ..)); · rfl)
    | ((with_reducible apply Keeps.comp (State.inc_keeps ..)); · rfl)
    | ((with_reducible apply Keeps.comp (State.setPq_keeps ..)); · rfl)
    | split

theorem execPqWr_keeps (x0 x1 x2 x3 x4 s) : OKeeps 536872984 s (execPqWr x0 x1 x2 x3 x4 s) := by
  unfold execPqWr
  repeat' first
    | with_reducible exact Keeps.refl
    | with_reducible apply OKeeps.next
    | ((with_reducible apply Keeps.comp (pqWrite_keeps ..)); · rfl)

theorem execPqCommit_keeps (x0 x1 s) : OKeeps 536872984 s (execPqCommit x0 x1 s) := by
  unfold execPqCommit
  repeat' first
    | with_reducible exact Keeps.refl
    | with_reducible apply OKeeps.next
    | ((with_reducible apply Keeps.comp (pqCommit_keeps ..)); · rfl)

theorem pqRewind_keeps (x0 x1 s) : Keeps 536870920 s (pqRewind x0 x1 s) := by
  unfold pqRewind
  repeat' first
    | with_reducible exact Keeps.refl
    | ((with_reducible apply Keeps.comp (State.pqDiscardOpen_keeps ..)); · rfl)
    | split

theorem execPqRewind_keeps (x0 x1 s) : OKeeps 536870920 s (execPqRewind x0 x1 s) := by
  unfold execPqRewind
  repeat' first
    | with_reducible exact Keeps.refl
    | with_reducible apply OKeeps.next
    | ((with_reducible apply Keeps.comp (pqRewind_keeps ..)); · rfl)

theorem pqFlush_keeps (x0 x1 s) : Keeps 536870920 s (pqFlush x0 x1 s) := by
  unfold pqFlush
  repeat' first
    | with_reducible exact Keeps.refl
    | (lift_lets; intro z; clear_value z)
    | ((with_reducible apply Keeps.comp (State.setPq_keeps ..)); · rfl)
    | ((with_reducible apply Keeps.comp (State.wr_keeps ..)); · rfl)
    | ((with_reducible apply Keeps.comp (State.pqShow_keeps ..)); · rfl)
    | ((with_reducible apply Keeps.comp (State.inc_keeps ..)); · rfl)
    | split

theorem execPqFlush_keeps (x0 x1 s) : OKeeps 536870920 s (execPqFlush x0 x1 s) := by
  unfold execPqFlush
  repeat' first
    | with_reducible exact Keeps.refl
    | with_reducible apply OKeeps.next
    | ((with_reducible apply Keeps.comp (pqFlush_keeps ..)); · rfl)

theorem pqCtl_keeps (x0 x1 x2 x3 x4 x5 s) : Keeps 536872984 s (pqCtl x0 x1 x2 x3 x4 x5 s) := by
  unfold pqCtl
  repeat' first
    | with_reducible exact Keeps.refl
    | ((with_reducible apply Keeps.comp (pqFlush_keeps ..)); · rfl)
    | ((with_reducible apply Keeps.comp (pqRewind_keeps ..)); · rfl)
    | ((with_reducible apply Keeps.comp (pqCommit_keeps ..)); · rfl)
    | split

theorem pqPop_keeps (x0 x1 s) : Keeps 602120 s (pqPop x0 x1 s).2 := by
  unfold pqPop
  repeat' first
    | with_reducible exact Keeps.refl
    | (lift_lets; intro z; clear_value z)
    | ((with_reducible apply Keeps.comp (State.inc_keeps ..)); · rfl)
    | ((with_reducible apply Keeps.comp (State.setReg_keeps ..)); · rfl)
    | ((with_reducible apply Keeps.comp (State.sramRead_keeps ..)); · rfl)
    | ((with_reducible apply Keeps.comp (State.incWrap_keeps ..)); · rfl)
    | split

theorem pqPop_out {x0 x1 s y0 y1} (h : pqPop x0 x1 s = (y0, y1)) : Keeps 602120 s y1 := by
  have := pqPop_keeps x0 x1 s; rw [h] at this; exact this

theorem execPqRd0Pop_keeps (x0 x1 s) : OKeeps 2148085768 s (execPqRd0Pop x0 x1 s) := by
  unfold execPqRd0Pop
  repeat' first
    | with_reducible exact Keeps.refl
    | with_reducible apply OKeeps.next
    | ((with_reducible apply Keeps.comp (pqPop_keeps ..)); · rfl)
    | ((with_reducible apply Keeps.comp (State.putReadData_keeps ..)); · rfl)
    | split

theorem State.pqStart_keeps (s x1) : Keeps 536870920 s (State.pqStart s x1) := by
  unfold State.pqStart
  repeat' first
    | with_reducible exact Keeps.refl
    | ((with_reducible apply Keeps.comp (State.pqShow_keeps ..)); · rfl)
    | ((with_reducible apply Keeps.comp (State.wr_keeps ..)); · rfl)
    | ((with_reducible apply Keeps.comp (State.setPq_keeps ..)); · rfl)

theorem pqEnable_keeps (x0 s) : Keeps 536870920 s (pqEnable x0 s) := by
  unfold pqEnable
  repeat' first
    | with_reducible exact Keeps.refl
    | (lift_lets; intro z)
    | ((with_reducible apply Keeps.comp (State.wrB_keeps ..)); · rfl)
    | ((with_reducible apply Keeps.comp (State.pqStart_keeps ..)); · rfl)
    | split

theorem execPqEnable_keeps (x0 s) : OKeeps 536870920 s (execPqEnable x0 s) := by
  unfold execPqEnable
  repeat' first
    | with_reducible exact Keeps.refl
    | with_reducible apply OKeeps.next
    | ((with_reducible apply Keeps.comp (pqEnable_keeps ..)); · rfl)
    | split

theorem pqDisable_keeps (x0 s) : Keeps 8 s (pqDisable x0 s) := by
  unfold pqDisable
  repeat' first
    | with_reducible exact Keeps.refl
    | (lift_lets; intro z)
    | ((with_reducible apply Keeps.comp (State.wrB_keeps ..)); · rfl)
    | ((with_reducible apply Keeps.comp (State.wr_keeps ..)); · rfl)
    | split

theorem execPqDisable_keeps (x0 s) : OKeeps 8 s (execPqDisable x0 s) := by
  unfold execPqDisable
  repeat' first
    | with_reducible exact Keeps.refl
    | with_reducible apply OKeeps.next
    | ((with_reducible apply Keeps.comp (pqDisable_keeps ..)); · rfl)
    | split

theorem State.pqOff_keeps (s x1) : Keeps 536870920 s (State.pqOff s x1) := by
  unfold State.pqOff
  repeat' first
    | with_reducible exact Keeps.refl
    | (lift_lets; intro z)
    | ((with_reducible apply Keeps.comp (State.setReg_keeps ..)); · rfl)
    | ((with_reducible apply Keeps.comp (State.setPq_keeps ..)); · rfl)

theorem State.pqHold_keeps (s) : Keeps 536870920 s (State.pqHold s) := by
  unfold State.pqHold
  repeat' first
    | with_reducible assumption
    | with_reducible exact Keeps.refl
    | ((with_reducible apply Keeps.comp (State.pqOff_keeps ..)); · rfl)
    | with_reducible refine Keeps.foldl (fun _ _ _ => ?_) ?_
    | split

theorem pqStopDone_keeps (x0 s) : Keeps 536870920 s (pqStopDone x0 s) := by
  unfold pqStopDone
  repeat' first
    | with_reducible exact Keeps.refl
    | (lift_lets; intro z; clear_value z)
    | ((with_reducible apply Keeps.comp (State.pqOff_keeps ..)); · rfl)
    | ((with_reducible apply Keeps.comp (State.pqStart_keeps ..)); · rfl)
    | split
    | with_reducible apply Keeps.ite

theorem execPqStopDone_keeps (x0 s) : OKeeps 536870920 s (execPqStopDone x0 s) := by
  unfold execPqStopDone
  repeat' first
    | with_reducible exact Keeps.refl
    | with_reducible apply OKeeps.next
    | ((with_reducible apply Keeps.comp (pqStopDone_keeps ..)); · rfl)

theorem State.pqRegionCommit_keeps (s x1) : Keeps 536872984 s (State.pqRegionCommit s x1) := by
  unfold State.pqRegionCommit
  repeat' first
    | with_reducible assumption
    | with_reducible exact Keeps.refl
    | (lift_lets; intro z; clear_value z)
    | ((with_reducible apply Keeps.comp (State.pqPublish_keeps ..)); · rfl)
    | ((with_reducible apply Keeps.comp (State.setPq_keeps ..)); · rfl)
    | with_reducible refine Keeps.foldl (fun _ _ _ => ?_) ?_
    | split

theorem State.pqRegionSquash_keeps (s x1) : Keeps 536870920 s (State.pqRegionSquash s x1) := by
  unfold State.pqRegionSquash
  repeat' first
    | with_reducible assumption
    | with_reducible exact Keeps.refl
    | (lift_lets; intro z; clear_value z)
    | ((with_reducible apply Keeps.comp (State.pqShow_keeps ..)); · rfl)
    | ((with_reducible apply Keeps.comp (State.incBy_keeps ..)); · rfl)
    | ((with_reducible apply Keeps.comp (State.setPq_keeps ..)); · rfl)
    | with_reducible refine Keeps.foldl (fun _ _ _ => ?_) ?_
    | split

theorem State.mbSenderReset_keeps (s x1) : Keeps 536870920 s (State.mbSenderReset s x1) := by
  unfold State.mbSenderReset
  repeat' first
    | with_reducible assumption
    | with_reducible exact Keeps.refl
    | (lift_lets; intro z)
    | ((with_reducible apply Keeps.comp (State.setReg_keeps ..)); · rfl)
    | ((with_reducible apply Keeps.comp (State.wrB_keeps ..)); · rfl)
    | ((with_reducible apply Keeps.comp (State.setTiming_keeps ..)); · rfl)
    | with_reducible refine Keeps.foldl (fun _ _ _ => ?_) ?_

theorem State.mbReceiverReset_keeps (s x1) : Keeps 536936456 s (State.mbReceiverReset s x1) := by
  unfold State.mbReceiverReset
  repeat' first
    | with_reducible exact Keeps.refl
    | (lift_lets; intro z)
    | ((with_reducible apply Keeps.comp (State.setTiming_keeps ..)); · rfl)
    | ((with_reducible apply Keeps.comp (State.wrB_keeps ..)); · rfl)
    | ((with_reducible apply Keeps.comp (State.wr_keeps ..)); · rfl)
    | ((with_reducible apply Keeps.comp (State.ringAck_keeps ..)); · rfl)

theorem State.agentReset_keeps (s x1) : Keeps 536936456 s (State.agentReset s x1) := by
  unfold State.agentReset
  repeat' first
    | with_reducible assumption
    | with_reducible exact Keeps.refl
    | (lift_lets; intro z; first | (have hz : (fun (_ : State) => True) z := trivial; clear hz) | clear_value z)
    | ((with_reducible apply Keeps.comp (State.incWrap_keeps ..)); · rfl)
    | ((with_reducible apply Keeps.comp (State.mbSenderReset_keeps ..)); · rfl)
    | ((with_reducible apply Keeps.comp (State.mbReceiverReset_keeps ..)); · rfl)
    | ((with_reducible apply Keeps.comp (State.wr_keeps ..)); · rfl)
    | ((with_reducible apply Keeps.comp (State.putMqf_keeps ..)); · rfl)
    | ((with_reducible apply Keeps.comp (State.pqDiscardOpen_keeps ..)); · rfl)
    | with_reducible refine Keeps.foldl (fun _ _ _ => ?_) ?_
    | split
    | with_reducible apply Keeps.ite

end Sys2Proof.Machine
end

