-- ==== Sys2Proof/Laws/KeepsPower.lean ====
section
/-! SUPPORT. What each operation of Machine/Power.lean leaves alone (the relation Keeps). -/

namespace Sys2Proof.Machine

theorem State.resetDomRegs_keeps (s x1) : Keeps 8 s (State.resetDomRegs s x1) := by
  unfold State.resetDomRegs
  repeat' first
    | with_reducible exact Keeps.refl
    | ((with_reducible apply Keeps.comp (State.resetRegs_keeps ..)); · rfl)

theorem State.domainLost_keeps (s x1) : Keeps 2147281368 s (State.domainLost s x1) := by
  unfold State.domainLost
  repeat' first
    | with_reducible exact Keeps.refl
    | (lift_lets; intro z; first | (have hz : (fun (_ : State) => True) z := trivial; clear hz) | clear_value z)
    | ((with_reducible apply Keeps.comp (State.resetDomRegs_keeps ..)); · rfl)
    | ((with_reducible apply Keeps.comp (State.putSfi_keeps ..)); · rfl)
    | ((with_reducible apply Keeps.comp (State.putPendMode_keeps ..)); · rfl)
    | ((with_reducible apply Keeps.comp (State.putEvLost_keeps ..)); · rfl)
    | ((with_reducible apply Keeps.comp (State.putCmap_keeps ..)); · rfl)
    | ((with_reducible apply Keeps.comp (State.putMqf_keeps ..)); · rfl)
    | ((with_reducible apply Keeps.comp (State.putDcp_keeps ..)); · rfl)
    | ((with_reducible apply Keeps.comp (State.putModeAt_keeps ..)); · rfl)
    | ((with_reducible apply Keeps.comp (State.putParts_keeps ..)); · rfl)
    | ((with_reducible apply Keeps.comp (State.putXspi_keeps ..)); · rfl)
    | ((with_reducible show Keeps _ _ (State.putPmem _ _)); (with_reducible refine Keeps.comp (State.putPmem_keeps _ ?_) ?_ ?_); (· (intro hw; repeat' first | with_reducible assumption | with_reducible apply memPutBytes_wf | with_reducible apply memFilter_wf | with_reducible apply fillMem_wf | with_reducible apply putPart_wf | (with_reducible apply memPut_wf) | (with_reducible refine memFold_wf (fun _ _ _ => ?_) _ ?_) | split | exact hw | exact mapWf_filter _ _ hw | rfl)); (· rfl))
    | ((with_reducible apply Keeps.comp (State.putRooks_keeps ..)); · rfl)
    | ((with_reducible apply Keeps.comp (State.putSwc_keeps ..)); · rfl)
    | ((with_reducible apply Keeps.comp (State.putEpc_keeps ..)); · rfl)
    | ((with_reducible apply Keeps.comp (State.putNtu_keeps ..)); · rfl)
    | ((with_reducible apply Keeps.comp (State.putAce_keeps ..)); · rfl)
    | ((with_reducible apply Keeps.comp (State.putPawns_keeps ..)); · rfl)
    | ((with_reducible apply Keeps.comp (State.putCan_keeps ..)); · rfl)
    | ((with_reducible apply Keeps.comp (State.putCbc_keeps ..)); · rfl)
    | ((with_reducible apply Keeps.comp (State.putMem_keeps ..)); · rfl)
    | ((with_reducible apply Keeps.comp (State.putImage_keeps ..)); · rfl)
    | ((with_reducible show Keeps _ _ (State.putSram _ _)); (with_reducible refine Keeps.comp (State.putSram_keeps _ ?_) ?_ ?_); (· (intro hw; repeat' first | with_reducible assumption | with_reducible apply memPutBytes_wf | with_reducible apply memFilter_wf | with_reducible apply fillMem_wf | with_reducible apply putPart_wf | (with_reducible apply memPut_wf) | (with_reducible refine memFold_wf (fun _ _ _ => ?_) _ ?_) | split | exact hw | exact mapWf_filter _ _ hw | rfl)); (· rfl))
    | split

theorem State.setDom_keeps (s x1 x2) : Keeps 8 s (State.setDom s x1 x2) := by
  unfold State.setDom
  repeat' first
    | with_reducible exact Keeps.refl
    | ((with_reducible apply Keeps.comp (State.wr_keeps ..)); · rfl)

theorem State.domainOn_keeps (s x1) : Keeps 2147281368 s (State.domainOn s x1) := by
  unfold State.domainOn
  repeat' first
    | with_reducible exact Keeps.refl
    | ((with_reducible apply Keeps.comp (State.setDom_keeps ..)); · rfl)
    | ((with_reducible apply Keeps.comp (State.domainLost_keeps ..)); · rfl)
    | split

theorem State.domainOff_keeps (s x1) : Keeps 2147281368 s (State.domainOff s x1) := by
  unfold State.domainOff
  repeat' first
    | with_reducible exact Keeps.refl
    | ((with_reducible apply Keeps.comp (State.setDom_keeps ..)); · rfl)
    | ((with_reducible apply Keeps.comp (State.domainLost_keeps ..)); · rfl)
    | split

end Sys2Proof.Machine
end

