-- ==== Sys2Proof/Laws/KeepsNtu.lean ====
section
/-! SUPPORT. What each operation of Machine/Ntu.lean leaves alone (the relation Keeps). -/

namespace Sys2Proof.Machine

theorem State.setTd_keeps (s x1 x2) : Keeps 262144 s (State.setTd s x1 x2) := by
  unfold State.setTd
  repeat' first
    | with_reducible exact Keeps.refl
    | (lift_lets; intro z; clear_value z)
    | ((with_reducible apply Keeps.comp (State.putNtu_keeps ..)); · rfl)
    | split

theorem State.castEdge_keeps (s) : Keeps 262152 s (State.castEdge s) := by
  unfold State.castEdge
  repeat' first
    | with_reducible exact Keeps.refl
    | (lift_lets; intro z; clear_value z)
    | ((with_reducible apply Keeps.comp (State.putNtu_keeps ..)); · rfl)
    | ((with_reducible apply Keeps.comp (State.wr_keeps ..)); · rfl)
    | ((with_reducible apply Keeps.comp (State.wrB_keeps ..)); · rfl)
    | ((with_reducible apply Keeps.comp (State.wrI_keeps ..)); · rfl)
    | split
    | with_reducible apply Keeps.ite

theorem State.ltEdges_keeps (s x1) : Keeps 262144 s (State.ltEdges s x1) := by
  unfold State.ltEdges
  repeat' first
    | with_reducible exact Keeps.refl
    | (lift_lets; intro z; clear_value z)
    | ((with_reducible apply Keeps.comp (State.putNtu_keeps ..)); · rfl)

theorem State.edge1_keeps (s) : Keeps 262152 s (State.edge1 s) := by
  unfold State.edge1
  repeat' first
    | with_reducible exact Keeps.refl
    | ((with_reducible apply Keeps.comp (State.castEdge_keeps ..)); · rfl)
    | ((with_reducible apply Keeps.comp (State.ltEdges_keeps ..)); · rfl)
    | split

theorem State.edges_keeps (s x1) : Keeps 262152 s (State.edges s x1) := by
  induction x1 generalizing s with
  | zero => exact Keeps.refl
  | succ n ih =>
    unfold State.edges
    repeat' first
      | with_reducible exact Keeps.refl
      | ((with_reducible apply Keeps.comp (ih ..)); · rfl)
      | ((with_reducible apply Keeps.comp (State.edge1_keeps ..)); · rfl)
      | ((with_reducible apply Keeps.comp (State.ltEdges_keeps ..)); · rfl)
      | split

theorem State.advanceTo_keeps (s x1) : Keeps 262152 s (State.advanceTo s x1) := by
  unfold State.advanceTo
  repeat' first
    | with_reducible exact Keeps.refl
    | ((with_reducible apply Keeps.comp (State.edges_keeps ..)); · rfl)

theorem State.untilServed_keeps (s x1 x2) : Keeps 262152 s (State.untilServed s x1 x2) := by
  induction x2 generalizing s x1 with
  | zero => exact Keeps.refl
  | succ n ih =>
    unfold State.untilServed
    repeat' first
      | with_reducible exact Keeps.refl
      | ((with_reducible apply Keeps.comp (ih ..)); · rfl)
      | ((with_reducible apply Keeps.comp (State.edge1_keeps ..)); · rfl)
      | split

theorem State.advanceServed_keeps (s x1) : Keeps 262152 s (State.advanceServed s x1) := by
  unfold State.advanceServed
  repeat' first
    | with_reducible exact Keeps.refl
    | ((with_reducible apply Keeps.comp (State.untilServed_keeps ..)); · rfl)
    | ((with_reducible apply Keeps.comp (State.edges_keeps ..)); · rfl)
    | split

theorem State.castStart_keeps (s x1) : Keeps 262152 s (State.castStart s x1) := by
  unfold State.castStart
  repeat' first
    | with_reducible exact Keeps.refl
    | (lift_lets; intro z; clear_value z)
    | ((with_reducible apply Keeps.comp (State.wrB_keeps ..)); · rfl)
    | ((with_reducible apply Keeps.comp (State.putNtu_keeps ..)); · rfl)
    | ((with_reducible apply Keeps.comp (State.wr_keeps ..)); · rfl)
    | ((with_reducible apply Keeps.comp (State.wrI_keeps ..)); · rfl)
    | split

theorem State.castGo_keeps (s) : Keeps 262152 s (State.castGo s) := by
  unfold State.castGo
  repeat' first
    | with_reducible exact Keeps.refl
    | ((with_reducible apply Keeps.comp (State.castStart_keeps ..)); · rfl)

theorem execCastlingGo_keeps (s) : OKeeps 262152 s (execCastlingGo s) := by
  unfold execCastlingGo
  repeat' first
    | with_reducible exact Keeps.refl
    | with_reducible apply OKeeps.next
    | ((with_reducible apply Keeps.comp (State.castGo_keeps ..)); · rfl)
    | split

theorem State.untilCast_keeps (s x1) : Keeps 262152 s (State.untilCast s x1) := by
  induction x1 generalizing s with
  | zero => exact Keeps.refl
  | succ n ih =>
    unfold State.untilCast
    repeat' first
      | with_reducible exact Keeps.refl
      | ((with_reducible apply Keeps.comp (ih ..)); · rfl)
      | ((with_reducible apply Keeps.comp (State.edge1_keeps ..)); · rfl)
      | split

theorem execCastlingDone_keeps (s) : OKeeps 262152 s (execCastlingDone s) := by
  unfold execCastlingDone
  repeat' first
    | with_reducible exact Keeps.refl
    | with_reducible apply OKeeps.next
    | ((with_reducible apply Keeps.comp (State.untilCast_keeps ..)); · rfl)
    | split

theorem State.tdEnter_keeps (s x1 x2) : Keeps 262152 s (State.tdEnter s x1 x2) := by
  unfold State.tdEnter
  repeat' first
    | with_reducible exact Keeps.refl
    | (lift_lets; intro z; first | (have hz : (fun (_ : State) => True) z := trivial; clear hz) | clear_value z)
    | ((with_reducible apply Keeps.comp (State.wr_keeps ..)); · rfl)
    | ((with_reducible apply Keeps.comp (State.setTd_keeps ..)); · rfl)
    | ((with_reducible apply Keeps.comp (State.castStart_keeps ..)); · rfl)
    | with_reducible apply Keeps.ite

theorem State.tdHoldover_keeps (s x1) : Keeps 262152 s (State.tdHoldover s x1) := by
  unfold State.tdHoldover
  repeat' first
    | with_reducible exact Keeps.refl
    | ((with_reducible apply Keeps.comp (State.tdEnter_keeps ..)); · rfl)

theorem State.ppsStop_keeps (s) : Keeps 262144 s (State.ppsStop s) := by
  unfold State.ppsStop
  repeat' first
    | with_reducible exact Keeps.refl
    | (lift_lets; intro z; clear_value z)
    | ((with_reducible apply Keeps.comp (State.putNtu_keeps ..)); · rfl)

theorem State.tdEnable_keeps (s x1 x2) : Keeps 262152 s (State.tdEnable s x1 x2) := by
  unfold State.tdEnable
  repeat' first
    | with_reducible exact Keeps.refl
    | (lift_lets; intro z; clear_value z)
    | ((with_reducible apply Keeps.comp (State.tdEnter_keeps ..)); · rfl)
    | ((with_reducible apply Keeps.comp (State.setTd_keeps ..)); · rfl)
    | ((with_reducible apply Keeps.comp (State.ppsStop_keeps ..)); · rfl)
    | ((with_reducible apply Keeps.comp (State.wr_keeps ..)); · rfl)
    | split

theorem State.tdHold_keeps (s x1) : Keeps 262152 s (State.tdHold s x1) := by
  unfold State.tdHold
  repeat' first
    | with_reducible exact Keeps.refl
    | ((with_reducible apply Keeps.comp (State.tdHoldover_keeps ..)); · rfl)
    | split

theorem execTdHold_keeps (x0 s) : OKeeps 262152 s (execTdHold x0 s) := by
  unfold execTdHold
  repeat' first
    | with_reducible exact Keeps.refl
    | with_reducible apply OKeeps.next
    | ((with_reducible apply Keeps.comp (State.tdHold_keeps ..)); · rfl)
    | split

theorem execTdHoldoverTimeout_keeps (x0 s) : OKeeps 262152 s (execTdHoldoverTimeout x0 s) := by
  unfold execTdHoldoverTimeout
  repeat' first
    | with_reducible exact Keeps.refl
    | with_reducible apply OKeeps.next
    | ((with_reducible apply Keeps.comp (State.tdHoldover_keeps ..)); · rfl)
    | ((with_reducible apply Keeps.comp (State.advanceTo_keeps ..)); · rfl)
    | split

theorem execTdFreeTimeout_keeps (x0 s) : OKeeps 262152 s (execTdFreeTimeout x0 s) := by
  unfold execTdFreeTimeout
  repeat' first
    | with_reducible exact Keeps.refl
    | with_reducible apply OKeeps.next
    | ((with_reducible apply Keeps.comp (State.tdEnter_keeps ..)); · rfl)
    | ((with_reducible apply Keeps.comp (State.advanceTo_keeps ..)); · rfl)
    | split

theorem State.tdMeas_keeps (s x1 x2) : Keeps 262152 s (State.tdMeas s x1 x2) := by
  unfold State.tdMeas
  repeat' first
    | with_reducible exact Keeps.refl
    | (lift_lets; intro z; first | (have hz : (fun (_ : State) => True) z := trivial; clear hz) | clear_value z)
    | ((with_reducible apply Keeps.comp (State.inc_keeps ..)); · rfl)
    | ((with_reducible apply Keeps.comp (State.setTd_keeps ..)); · rfl)
    | with_reducible apply Keeps.ite

theorem execTdMeasWrite_keeps (x0 x1 s) : OKeeps 262152 s (execTdMeasWrite x0 x1 s) := by
  unfold execTdMeasWrite
  repeat' first
    | with_reducible exact Keeps.refl
    | with_reducible apply OKeeps.next
    | ((with_reducible apply Keeps.comp (State.tdMeas_keeps ..)); · rfl)
    | split

theorem State.tdJudge_keeps (s x1 x2) : Keeps 262152 s (State.tdJudge s x1 x2) := by
  unfold State.tdJudge
  repeat' first
    | with_reducible exact Keeps.refl
    | (lift_lets; intro z; clear_value z)
    | ((with_reducible apply Keeps.comp (State.setTd_keeps ..)); · rfl)
    | ((with_reducible apply Keeps.comp (State.tdEnter_keeps ..)); · rfl)
    | split
    | with_reducible apply Keeps.ite

theorem State.servoErr_keeps (s x1 x2) : Keeps 4 s (State.servoErr s x1 x2).2 := by
  unfold State.servoErr
  repeat' first
    | with_reducible exact Keeps.refl
    | ((with_reducible apply Keeps.comp (State.takeFree_keeps ..)); · rfl)
    | split

theorem State.servoErr_out {s x1 x2 y0 y1} (h : State.servoErr s x1 x2 = (y0, y1)) : Keeps 4 s y1 := by
  have := State.servoErr_keeps s x1 x2; rw [h] at this; exact this

theorem State.tdStep_keeps (s x1 x2) : Keeps 262152 s (State.tdStep s x1 x2) := by
  unfold State.tdStep
  repeat' first
    | with_reducible exact Keeps.refl
    | (lift_lets; intro z; clear_value z)
    | ((with_reducible apply Keeps.comp (State.inc_keeps ..)); · rfl)
    | ((with_reducible apply Keeps.comp (State.setTd_keeps ..)); · rfl)
    | ((with_reducible apply Keeps.comp (State.putNtu_keeps ..)); · rfl)
    | with_reducible apply Keeps.ite

theorem State.servo_keeps (s x1 x2) : Keeps 262156 s (State.servo s x1 x2) := by
  unfold State.servo
  repeat' first
    | with_reducible exact Keeps.refl
    | (lift_lets; intro z; clear_value z)
    | ((with_reducible apply Keeps.comp (State.setTd_keeps ..)); · rfl)
    | ((with_reducible apply Keeps.comp (State.wrI_keeps ..)); · rfl)
    | ((with_reducible apply Keeps.comp (State.tdJudge_keeps ..)); · rfl)
    | ((with_reducible apply Keeps.comp (State.tdStep_keeps ..)); · rfl)
    | ((with_reducible apply Keeps.comp (State.inc_keeps ..)); · rfl)
    | ((with_reducible apply Keeps.comp (State.servoErr_keeps ..)); · rfl)
    | split
    | with_reducible apply Keeps.ite

theorem execServoConsume_keeps (x0 s) : OKeeps 262156 s (execServoConsume x0 s) := by
  unfold execServoConsume
  repeat' first
    | with_reducible exact Keeps.refl
    | with_reducible apply OKeeps.next
    | ((with_reducible apply Keeps.comp (State.servo_keeps ..)); · rfl)
    | split

theorem execLtTrimWrite_keeps (x0 s) : OKeeps 8 s (execLtTrimWrite x0 s) := by
  unfold execLtTrimWrite
  repeat' first
    | with_reducible exact Keeps.refl
    | with_reducible apply OKeeps.next
    | ((with_reducible apply Keeps.comp (State.cfgErr_keeps ..)); · rfl)
    | ((with_reducible apply Keeps.comp (State.wr_keeps ..)); · rfl)
    | split

theorem State.snapTime_keeps (s) : Keeps 8 s (State.snapTime s) := by
  unfold State.snapTime
  repeat' first
    | with_reducible exact Keeps.refl
    | (lift_lets; intro z)
    | ((with_reducible apply Keeps.comp (State.incWrap_keeps ..)); · rfl)
    | ((with_reducible apply Keeps.comp (State.wr_keeps ..)); · rfl)

theorem execSnapTake_keeps (s) : OKeeps 8 s (execSnapTake s) := by
  unfold execSnapTake
  repeat' first
    | with_reducible exact Keeps.refl
    | with_reducible apply OKeeps.next
    | ((with_reducible apply Keeps.comp (State.snapTime_keeps ..)); · rfl)
    | split

theorem State.setTxts_keeps (s x1 x2) : Keeps 262144 s (State.setTxts s x1 x2) := by
  unfold State.setTxts
  repeat' first
    | with_reducible exact Keeps.refl
    | (lift_lets; intro z; clear_value z)
    | ((with_reducible apply Keeps.comp (State.putNtu_keeps ..)); · rfl)

theorem State.txtsPush_keeps (s x1 x2) : Keeps 262152 s (State.txtsPush s x1 x2) := by
  unfold State.txtsPush
  repeat' first
    | with_reducible exact Keeps.refl
    | ((with_reducible apply Keeps.comp (State.inc_keeps ..)); · rfl)
    | ((with_reducible apply Keeps.comp (State.setTxts_keeps ..)); · rfl)
    | split

theorem State.txtsPop_keeps (s x1) : Keeps 262152 s (State.txtsPop s x1).2 := by
  unfold State.txtsPop
  repeat' first
    | with_reducible exact Keeps.refl
    | ((with_reducible apply Keeps.comp (State.setReg_keeps ..)); · rfl)
    | ((with_reducible apply Keeps.comp (State.setTxts_keeps ..)); · rfl)
    | split

theorem State.txtsPop_out {s x1 y0 y1} (h : State.txtsPop s x1 = (y0, y1)) : Keeps 262152 s y1 := by
  have := State.txtsPop_keeps s x1; rw [h] at this; exact this

theorem execTxtsPop_keeps (x0 s) : OKeeps 2147745800 s (execTxtsPop x0 s) := by
  unfold execTxtsPop
  repeat' first
    | with_reducible exact Keeps.refl
    | with_reducible apply OKeeps.next
    | ((with_reducible apply Keeps.comp (State.putReadData_keeps ..)); · rfl)
    | ((with_reducible apply Keeps.comp (State.txtsPop_keeps ..)); · rfl)
    | split

theorem State.setCyc_keeps (s x1) : Keeps 262144 s (State.setCyc s x1) := by
  unfold State.setCyc
  repeat' first
    | with_reducible exact Keeps.refl
    | (lift_lets; intro z; clear_value z)
    | ((with_reducible apply Keeps.comp (State.putNtu_keeps ..)); · rfl)

theorem State.toBoundary_keeps (s) : Keeps 262152 s (State.toBoundary s).2 := by
  unfold State.toBoundary
  repeat' first
    | with_reducible exact Keeps.refl
    | (lift_lets; intro z; clear_value z)
    | ((with_reducible apply Keeps.comp (State.advanceTo_keeps ..)); · rfl)
    | ((with_reducible apply Keeps.comp (State.advanceServed_keeps ..)); · rfl)
    | split

theorem State.toBoundary_out {s y0 y1} (h : State.toBoundary s = (y0, y1)) : Keeps 262152 s y1 := by
  have := State.toBoundary_keeps s; rw [h] at this; exact this

theorem State.cycApply_keeps (s) : Keeps 8 s (State.cycApply s) := by
  unfold State.cycApply
  repeat' first
    | with_reducible exact Keeps.refl
    | ((with_reducible apply Keeps.comp (State.cfgErr_keeps ..)); · rfl)
    | ((with_reducible apply Keeps.comp (State.wrB_keeps ..)); · rfl)
    | split

theorem execCycApply_keeps (s) : OKeeps 8 s (execCycApply s) := by
  unfold execCycApply
  repeat' first
    | with_reducible exact Keeps.refl
    | with_reducible apply OKeeps.next
    | ((with_reducible apply Keeps.comp (State.cycApply_keeps ..)); · rfl)
    | split

theorem State.holdsOff_keeps (s) : Keeps 8 s (State.holdsOff s) := by
  unfold State.holdsOff
  repeat' first
    | with_reducible assumption
    | with_reducible exact Keeps.refl
    | ((with_reducible apply Keeps.comp (State.wrB_keeps ..)); · rfl)
    | with_reducible refine Keeps.foldl (fun _ _ _ => ?_) ?_

theorem State.cycSetRun_keeps (s x1) : Keeps 1208811528 s (State.cycSetRun s x1) := by
  unfold State.cycSetRun
  repeat' first
    | with_reducible exact Keeps.refl
    | (lift_lets; intro z; first | (have hz : (fun (_ : State) => True) z := trivial; clear hz) | clear_value z)
    | ((with_reducible apply Keeps.comp (State.wrB_keeps ..)); · rfl)
    | ((with_reducible apply Keeps.comp (State.setCyc_keeps ..)); · rfl)
    | ((with_reducible apply Keeps.comp (State.putImage_keeps ..)); · rfl)
    | ((with_reducible apply Keeps.comp (State.wr_keeps ..)); · rfl)
    | ((with_reducible apply Keeps.comp (State.bankSwapDue_keeps ..)); · rfl)
    | ((with_reducible apply Keeps.comp (State.holdsOff_keeps ..)); · rfl)
    | split

theorem execCycRunWrite_keeps (x0 s) : OKeeps 1208811528 s (execCycRunWrite x0 s) := by
  unfold execCycRunWrite
  repeat' first
    | with_reducible exact Keeps.refl
    | with_reducible apply OKeeps.next
    | ((with_reducible apply Keeps.comp (State.cycSetRun_keeps ..)); · rfl)
    | split

theorem State.windowClose_keeps (s) : Keeps 262152 s (State.windowClose s) := by
  unfold State.windowClose
  repeat' first
    | with_reducible exact Keeps.refl
    | (lift_lets; intro z; clear_value z)
    | ((with_reducible apply Keeps.comp (State.setCyc_keeps ..)); · rfl)
    | ((with_reducible apply Keeps.comp (State.wrB_keeps ..)); · rfl)
    | split

theorem execSyncWindowClose_keeps (s) : OKeeps 262152 s (execSyncWindowClose s) := by
  unfold execSyncWindowClose
  repeat' first
    | with_reducible exact Keeps.refl
    | with_reducible apply OKeeps.next
    | ((with_reducible apply Keeps.comp (State.windowClose_keeps ..)); · rfl)
    | ((with_reducible apply Keeps.comp (State.advanceTo_keeps ..)); · rfl)
    | split

theorem State.syncClassify_keeps (s x1) : Keeps 262152 s (State.syncClassify s x1) := by
  unfold State.syncClassify
  repeat' first
    | with_reducible exact Keeps.refl
    | (lift_lets; intro z; clear_value z)
    | ((with_reducible apply Keeps.comp (State.inc_keeps ..)); · rfl)
    | ((with_reducible apply Keeps.comp (State.wrI_keeps ..)); · rfl)
    | ((with_reducible apply Keeps.comp (State.setCyc_keeps ..)); · rfl)
    | split
    | with_reducible apply Keeps.ite

theorem execSyncInEdge_keeps (x0 s) : OKeeps 262152 s (execSyncInEdge x0 s) := by
  unfold execSyncInEdge
  repeat' first
    | with_reducible exact Keeps.refl
    | (lift_lets; intro z)
    | with_reducible apply OKeeps.next
    | ((with_reducible apply Keeps.comp (State.edges_keeps ..)); · rfl)
    | ((with_reducible apply Keeps.comp (State.setReg_keeps ..)); · rfl)
    | ((with_reducible apply Keeps.comp (State.syncClassify_keeps ..)); · rfl)
    | split

theorem State.cycSwap_keeps (s) : Keeps 262152 s (State.cycSwap s) := by
  unfold State.cycSwap
  repeat' first
    | with_reducible exact Keeps.refl
    | (lift_lets; intro z; clear_value z)
    | ((with_reducible apply Keeps.comp (State.wrB_keeps ..)); · rfl)
    | ((with_reducible apply Keeps.comp (State.setCyc_keeps ..)); · rfl)
    | ((with_reducible apply Keeps.comp (State.castStart_keeps ..)); · rfl)
    | split
    | with_reducible apply Keeps.ite

theorem State.ntuBoundary_keeps (s) : Keeps 262152 s (State.ntuBoundary s) := by
  unfold State.ntuBoundary
  repeat' first
    | with_reducible exact Keeps.refl
    | (lift_lets; intro z)
    | ((with_reducible apply Keeps.comp (State.windowClose_keeps ..)); · rfl)
    | ((with_reducible apply Keeps.comp (State.toBoundary_keeps ..)); · rfl)
    | ((with_reducible apply Keeps.comp (State.cycSwap_keeps ..)); · rfl)
    | ((with_reducible apply Keeps.comp (State.setCyc_keeps ..)); · rfl)
    | ((with_reducible apply Keeps.comp (State.incWrap_keeps ..)); · rfl)
    | ((with_reducible apply Keeps.comp (State.putNtu_keeps ..)); · rfl)

theorem State.toPhase_keeps (s x1) : Keeps 262152 s (State.toPhase s x1) := by
  unfold State.toPhase
  repeat' first
    | with_reducible exact Keeps.refl
    | ((with_reducible apply Keeps.comp (State.advanceTo_keeps ..)); · rfl)

theorem execSyncOutAssert_keeps (s) : OKeeps 262152 s (execSyncOutAssert s) := by
  unfold execSyncOutAssert
  repeat' first
    | with_reducible exact Keeps.refl
    | (lift_lets; intro z; clear_value z)
    | with_reducible apply OKeeps.next
    | ((with_reducible apply Keeps.comp (State.advanceTo_keeps ..)); · rfl)
    | ((with_reducible apply Keeps.comp (State.putNtu_keeps ..)); · rfl)
    | with_reducible apply OKeeps.ite

theorem execSyncOutDeassert_keeps (s) : OKeeps 262152 s (execSyncOutDeassert s) := by
  unfold execSyncOutDeassert
  repeat' first
    | with_reducible exact Keeps.refl
    | (lift_lets; intro z; clear_value z)
    | with_reducible apply OKeeps.next
    | ((with_reducible apply Keeps.comp (State.advanceTo_keeps ..)); · rfl)
    | ((with_reducible apply Keeps.comp (State.putNtu_keeps ..)); · rfl)
    | split

theorem execPpsAssert_keeps (s) : OKeeps 262152 s (execPpsAssert s) := by
  unfold execPpsAssert
  repeat' first
    | with_reducible exact Keeps.refl
    | (lift_lets; intro z; clear_value z)
    | with_reducible apply OKeeps.next
    | ((with_reducible apply Keeps.comp (State.advanceServed_keeps ..)); · rfl)
    | ((with_reducible apply Keeps.comp (State.edges_keeps ..)); · rfl)
    | ((with_reducible apply Keeps.comp (State.putNtu_keeps ..)); · rfl)
    | split
    | with_reducible apply OKeeps.ite

theorem execPpsDeassert_keeps (s) : OKeeps 262152 s (execPpsDeassert s) := by
  unfold execPpsDeassert
  repeat' first
    | with_reducible exact Keeps.refl
    | (lift_lets; intro z; first | (have hz : (fun (_ : State) => True) z := trivial; clear hz) | clear_value z)
    | with_reducible apply OKeeps.next
    | ((with_reducible apply Keeps.comp (State.advanceTo_keeps ..)); · rfl)
    | ((with_reducible apply Keeps.comp (State.putNtu_keeps ..)); · rfl)
    | split

end Sys2Proof.Machine
end

