-- ==== Sys2Proof/Laws/KeepsSfiPar.lean ====
section
/-! SUPPORT. What each operation of Machine/SfiPar.lean leaves alone (the relation Keeps). -/

namespace Sys2Proof.Machine

theorem State.sfiCapture_keeps (s x1 x2) : Keeps 268435456 s (State.sfiCapture s x1 x2) := by
  unfold State.sfiCapture
  repeat' first
    | with_reducible exact Keeps.refl
    | (lift_lets; intro z; clear_value z)
    | ((with_reducible apply Keeps.comp (State.putSfi_keeps ..)); · rfl)
    | split

end Sys2Proof.Machine
end

