-- ==== Sys2Proof/Laws/KeepsImage.lean ====
section
/-! SUPPORT. What each operation of Machine/Image.lean leaves alone (the relation Keeps). -/

namespace Sys2Proof.Machine

theorem State.setPart_keeps (s x1 x2) : Keeps 32768 s (State.setPart s x1 x2) := by
  unfold State.setPart
  repeat' first
    | with_reducible exact Keeps.refl
    | ((with_reducible apply Keeps.comp (State.putParts_keeps ..)); · rfl)

theorem State.axisLand_keeps (s x1 x2) : Keeps 134217736 s (State.axisLand s x1 x2) := by
  unfold State.axisLand
  repeat' first
    | with_reducible exact Keeps.refl
    | (lift_lets; intro z; clear_value z)
    | ((with_reducible apply Keeps.comp (State.wr_keeps ..)); · rfl)
    | ((with_reducible apply Keeps.comp (State.setAxis_keeps ..)); · rfl)
    | split

theorem State.aceLand_keeps (s x1) : Keeps 134217736 s (State.aceLand s x1) := by
  unfold State.aceLand
  repeat' first
    | with_reducible assumption
    | with_reducible exact Keeps.refl
    | ((with_reducible apply Keeps.comp (State.axisLand_keeps ..)); · rfl)
    | with_reducible refine Keeps.foldl (fun _ _ _ => ?_) ?_
    | split

theorem State.setFresh_keeps (s x1) : Keeps 402655256 s (State.setFresh s x1) := by
  unfold State.setFresh
  repeat' first
    | with_reducible exact Keeps.refl
    | (lift_lets; intro z; clear_value z)
    | ((with_reducible apply Keeps.comp (State.sfiCapture_keeps ..)); · rfl)
    | ((with_reducible apply Keeps.comp (State.aceLand_keeps ..)); · rfl)
    | ((with_reducible apply Keeps.comp (State.sramWrite_keeps ..)); · rfl)

theorem State.landItem_keeps (s x1 x2 x3) : Keeps 402655256 s (State.landItem s x1 x2 x3) := by
  unfold State.landItem
  repeat' first
    | with_reducible exact Keeps.refl
    | ((with_reducible apply Keeps.comp (State.setFresh_keeps ..)); · rfl)
    | ((with_reducible apply Keeps.comp (State.sramWrite_keeps ..)); · rfl)

theorem State.hostWords_keeps (s x1 x2 x3) : Keeps 602120 s (State.hostWords s x1 x2 x3).2.2 := by
  induction x3 generalizing s x1 x2 with
  | zero => exact Keeps.refl
  | succ n ih =>
    have iho : ∀ {s x1 x2 y0 y1 y2}, State.hostWords s x1 x2 n = (y0, y1, y2) → Keeps 602120 s y2 := fun {s x1 x2 y0 y1 y2} h => by
      have := ih s x1 x2; rw [h] at this; exact this
    unfold State.hostWords
    repeat' first
      | with_reducible exact Keeps.refl
      | (lift_lets; intro z; clear_value z)
      | ((with_reducible apply Keeps.comp (ih ..)); · rfl)
      | ((with_reducible apply Keeps.comp (State.sramReadBytes_keeps ..)); · rfl)
      | split

theorem State.hostWords_out {s x1 x2 x3 y0 y1 y2} (h : State.hostWords s x1 x2 x3 = (y0, y1, y2)) : Keeps 602120 s y2 := by
  have := State.hostWords_keeps s x1 x2 x3; rw [h] at this; exact this

theorem State.hostBytes_keeps (s x1 x2) : Keeps 602120 s (State.hostBytes s x1 x2).2.2 := by
  unfold State.hostBytes
  repeat' first
    | with_reducible exact Keeps.refl
    | ((with_reducible apply Keeps.comp (State.hostWords_keeps ..)); · rfl)

theorem State.hostBytes_out {s x1 x2 y0 y1 y2} (h : State.hostBytes s x1 x2 = (y0, y1, y2)) : Keeps 602120 s y2 := by
  have := State.hostBytes_keeps s x1 x2; rw [h] at this; exact this

theorem State.imageSource_keeps (s x1 x2 x3) : Keeps 602120 s (State.imageSource s x1 x2 x3).2.2 := by
  unfold State.imageSource
  repeat' first
    | with_reducible exact Keeps.refl
    | ((with_reducible apply Keeps.comp (State.hostBytes_keeps ..)); · rfl)
    | ((with_reducible apply Keeps.comp (State.sramReadBytes_keeps ..)); · rfl)
    | split

theorem State.imageSource_out {s x1 x2 x3 y0 y1 y2} (h : State.imageSource s x1 x2 x3 = (y0, y1, y2)) : Keeps 602120 s y2 := by
  have := State.imageSource_keeps s x1 x2 x3; rw [h] at this; exact this

end Sys2Proof.Machine
end

