-- ==== Sys2Proof/Laws/KeepsCan.lean ====
section
/-! SUPPORT. What each operation of Machine/Can.lean leaves alone (the relation Keeps). -/

namespace Sys2Proof.Machine

theorem State.setCan_keeps (s x1 x2) : Keeps 33554432 s (State.setCan s x1 x2) := by
  unfold State.setCan
  repeat' first
    | with_reducible exact Keeps.refl
    | ((with_reducible apply Keeps.comp (State.putCan_keeps ..)); · rfl)

theorem State.canUpd_keeps (s x1 x2) : Keeps 33554432 s (State.canUpd s x1 x2) := by
  unfold State.canUpd
  repeat' first
    | with_reducible exact Keeps.refl
    | ((with_reducible apply Keeps.comp (State.setCan_keeps ..)); · rfl)

theorem State.canIrq_keeps (s x1 x2) : Keeps 65544 s (State.canIrq s x1 x2) := by
  unfold State.canIrq
  repeat' first
    | with_reducible exact Keeps.refl
    | ((with_reducible apply Keeps.comp (State.setIstat_keeps ..)); · rfl)

theorem State.canEvent_keeps (s x1 x2 x3) : Keeps 33622040 s (State.canEvent s x1 x2 x3) := by
  unfold State.canEvent
  repeat' first
    | with_reducible exact Keeps.refl
    | (lift_lets; intro z; clear_value z)
    | ((with_reducible apply Keeps.comp (State.canUpd_keeps ..)); · rfl)
    | ((with_reducible apply Keeps.comp (State.inc_keeps ..)); · rfl)
    | ((with_reducible apply Keeps.comp (State.sramWrite_keeps ..)); · rfl)
    | ((with_reducible apply Keeps.comp (State.canIrq_keeps ..)); · rfl)
    | ((with_reducible apply Keeps.comp (State.incWrap_keeps ..)); · rfl)
    | split

theorem State.canSetQ_keeps (s x1 x2) : Keeps 33554440 s (State.canSetQ s x1 x2) := by
  unfold State.canSetQ
  repeat' first
    | with_reducible exact Keeps.refl
    | ((with_reducible apply Keeps.comp (State.wr_keeps ..)); · rfl)
    | ((with_reducible apply Keeps.comp (State.canUpd_keeps ..)); · rfl)

theorem State.canLeave_keeps (s x1 x2 x3 x4) : Keeps 33622040 s (State.canLeave s x1 x2 x3 x4) := by
  unfold State.canLeave
  repeat' first
    | with_reducible assumption
    | with_reducible exact Keeps.refl
    | ((with_reducible apply Keeps.comp (State.canEvent_keeps ..)); · rfl)
    | with_reducible refine Keeps.foldl (fun _ _ _ => ?_) ?_

theorem State.canFlush_keeps (s x1 x2) : Keeps 33622040 s (State.canFlush s x1 x2) := by
  unfold State.canFlush
  repeat' first
    | with_reducible exact Keeps.refl
    | (lift_lets; intro z; clear_value z)
    | ((with_reducible apply Keeps.comp (State.canLeave_keeps ..)); · rfl)
    | ((with_reducible apply Keeps.comp (State.canSetQ_keeps ..)); · rfl)
    | ((with_reducible apply Keeps.comp (State.wrB_keeps ..)); · rfl)
    | split

theorem State.canEnable_keeps (s x1) : Keeps 8 s (State.canEnable s x1) := by
  unfold State.canEnable
  repeat' first
    | with_reducible exact Keeps.refl
    | (lift_lets; intro z)
    | ((with_reducible apply Keeps.comp (State.cfgErr_keeps ..)); · rfl)
    | ((with_reducible apply Keeps.comp (State.wrB_keeps ..)); · rfl)
    | ((with_reducible apply Keeps.comp (State.wr_keeps ..)); · rfl)
    | split

theorem execCanEnable_keeps (x0 s) : OKeeps 8 s (execCanEnable x0 s) := by
  unfold execCanEnable
  repeat' first
    | with_reducible exact Keeps.refl
    | with_reducible apply OKeeps.next
    | ((with_reducible apply Keeps.comp (State.canEnable_keeps ..)); · rfl)
    | split

theorem execCanBusIntegrated_keeps (x0 s) : OKeeps 8 s (execCanBusIntegrated x0 s) := by
  unfold execCanBusIntegrated
  repeat' first
    | with_reducible exact Keeps.refl
    | with_reducible apply OKeeps.next
    | ((with_reducible apply Keeps.comp (State.wr_keeps ..)); · rfl)
    | split

theorem State.canStop_keeps (s x1) : Keeps 8 s (State.canStop s x1) := by
  unfold State.canStop
  repeat' first
    | with_reducible exact Keeps.refl
    | ((with_reducible apply Keeps.comp (State.wr_keeps ..)); · rfl)
    | split

theorem State.canDisable_keeps (s x1) : Keeps 8 s (State.canDisable s x1) := by
  unfold State.canDisable
  repeat' first
    | with_reducible exact Keeps.refl
    | ((with_reducible apply Keeps.comp (State.canStop_keeps ..)); · rfl)
    | ((with_reducible apply Keeps.comp (State.wrB_keeps ..)); · rfl)

theorem execCanDisable_keeps (x0 s) : OKeeps 8 s (execCanDisable x0 s) := by
  unfold execCanDisable
  repeat' first
    | with_reducible exact Keeps.refl
    | with_reducible apply OKeeps.next
    | ((with_reducible apply Keeps.comp (State.canDisable_keeps ..)); · rfl)
    | split

theorem State.canClear_keeps (s x1) : Keeps 33622040 s (State.canClear s x1) := by
  unfold State.canClear
  repeat' first
    | with_reducible exact Keeps.refl
    | (lift_lets; intro z; clear_value z)
    | ((with_reducible apply Keeps.comp (State.canUpd_keeps ..)); · rfl)
    | ((with_reducible apply Keeps.comp (State.canFlush_keeps ..)); · rfl)
    | ((with_reducible apply Keeps.comp (State.resetRegs_keeps ..)); · rfl)

theorem execCanStopDone_keeps (x0 s) : OKeeps 33622040 s (execCanStopDone x0 s) := by
  unfold execCanStopDone
  repeat' first
    | with_reducible exact Keeps.refl
    | (lift_lets; intro z)
    | with_reducible apply OKeeps.next
    | ((with_reducible apply Keeps.comp (State.canClear_keeps ..)); · rfl)
    | ((with_reducible apply Keeps.comp (State.wr_keeps ..)); · rfl)
    | split

theorem State.canMode1_keeps (s x1 x2) : Keeps 33622040 s (State.canMode1 s x1 x2) := by
  unfold State.canMode1
  repeat' first
    | with_reducible exact Keeps.refl
    | (lift_lets; intro z; clear_value z)
    | ((with_reducible apply Keeps.comp (State.canFlush_keeps ..)); · rfl)
    | ((with_reducible apply Keeps.comp (State.canStop_keeps ..)); · rfl)
    | ((with_reducible apply Keeps.comp (State.wr_keeps ..)); · rfl)
    | split
    | with_reducible apply Keeps.ite

theorem State.canMode_keeps (s x1) : Keeps 33622040 s (State.canMode s x1) := by
  unfold State.canMode
  repeat' first
    | with_reducible assumption
    | with_reducible exact Keeps.refl
    | ((with_reducible apply Keeps.comp (State.canMode1_keeps ..)); · rfl)
    | with_reducible refine Keeps.foldl (fun _ _ _ => ?_) ?_
    | split

theorem State.canPush_keeps (s x1 x2 x3) : Keeps 33554440 s (State.canPush s x1 x2 x3) := by
  unfold State.canPush
  repeat' first
    | with_reducible exact Keeps.refl
    | (lift_lets; intro z; clear_value z)
    | ((with_reducible apply Keeps.comp (State.wr_keeps ..)); · rfl)
    | ((with_reducible apply Keeps.comp (State.canSetQ_keeps ..)); · rfl)
    | split
    | with_reducible apply Keeps.ite

theorem execCanTxqPush_keeps (x0 x1 x2 s) : OKeeps 33554440 s (execCanTxqPush x0 x1 x2 s) := by
  unfold execCanTxqPush
  repeat' first
    | with_reducible exact Keeps.refl
    | with_reducible apply OKeeps.next
    | ((with_reducible apply Keeps.comp (State.canPush_keeps ..)); · rfl)
    | split

theorem State.canStage_keeps (s x1 x2 x3 x4 x5) : Keeps 33554432 s (State.canStage s x1 x2 x3 x4 x5) := by
  unfold State.canStage
  repeat' first
    | with_reducible exact Keeps.refl
    | ((with_reducible apply Keeps.comp (State.canUpd_keeps ..)); · rfl)

theorem State.canCancel_keeps (s x1 x2 x3) : Keeps 33622040 s (State.canCancel s x1 x2 x3) := by
  unfold State.canCancel
  repeat' first
    | with_reducible exact Keeps.refl
    | (lift_lets; intro z; clear_value z)
    | ((with_reducible apply Keeps.comp (State.canLeave_keeps ..)); · rfl)
    | ((with_reducible apply Keeps.comp (State.canSetQ_keeps ..)); · rfl)
    | split
    | with_reducible apply Keeps.ite

theorem execCanCancel_keeps (x0 x1 x2 s) : OKeeps 33622040 s (execCanCancel x0 x1 x2 s) := by
  unfold execCanCancel
  repeat' first
    | with_reducible exact Keeps.refl
    | with_reducible apply OKeeps.next
    | ((with_reducible apply Keeps.comp (State.canCancel_keeps ..)); · rfl)
    | split

theorem State.canFetch_keeps (s x1) : Keeps 602120 s (State.canFetch s x1).2 := by
  unfold State.canFetch
  repeat' first
    | with_reducible exact Keeps.refl
    | ((with_reducible refine Keeps.comp (State.sramReadBytes_out (by with_reducible assumption)) ?_ ?_); · rfl)
    | split

theorem State.canFetch_out {s x1 y0 y1} (h : State.canFetch s x1 = (y0, y1)) : Keeps 602120 s y1 := by
  have := State.canFetch_keeps s x1; rw [h] at this; exact this

theorem execCanAttemptStart_keeps (x0 s) : OKeeps 34158616 s (execCanAttemptStart x0 s) := by
  unfold execCanAttemptStart
  repeat' first
    | with_reducible exact Keeps.refl
    | (lift_lets; intro z; clear_value z)
    | with_reducible apply OKeeps.next
    | ((with_reducible refine Keeps.comp (State.canFetch_out (by with_reducible assumption)) ?_ ?_); · rfl)
    | ((with_reducible apply Keeps.comp (State.canEvent_keeps ..)); · rfl)
    | ((with_reducible apply Keeps.comp (State.canSetQ_keeps ..)); · rfl)
    | ((with_reducible apply Keeps.comp (State.wrB_keeps ..)); · rfl)
    | split

theorem State.canErrState_keeps (s x1) : Keeps 1107374216 s (State.canErrState s x1) := by
  unfold State.canErrState
  repeat' first
    | with_reducible exact Keeps.refl
    | (lift_lets; intro z; clear_value z)
    | ((with_reducible apply Keeps.comp (State.canIrq_keeps ..)); · rfl)
    | ((with_reducible apply Keeps.comp (State.wr_keeps ..)); · rfl)
    | ((with_reducible apply Keeps.comp (State.canUpd_keeps ..)); · rfl)
    | ((with_reducible apply Keeps.comp (State.logEvent_keeps ..)); · rfl)
    | ((with_reducible apply Keeps.comp (State.safeStopFault_keeps ..)); · rfl)
    | split
    | with_reducible apply Keeps.ite

theorem State.canPop_keeps (s x1 x2 x3 x4) : Keeps 33622040 s (State.canPop s x1 x2 x3 x4) := by
  unfold State.canPop
  repeat' first
    | with_reducible exact Keeps.refl
    | ((with_reducible apply Keeps.comp (State.canEvent_keeps ..)); · rfl)
    | ((with_reducible apply Keeps.comp (State.canSetQ_keeps ..)); · rfl)

theorem execCanAttemptEnd_keeps (x0 x1 s) : OKeeps 1107376280 s (execCanAttemptEnd x0 x1 s) := by
  unfold execCanAttemptEnd
  repeat' first
    | with_reducible exact Keeps.refl
    | (lift_lets; intro z)
    | with_reducible apply OKeeps.next
    | ((with_reducible apply Keeps.comp (State.wrB_keeps ..)); · rfl)
    | ((with_reducible apply Keeps.comp (State.wr_keeps ..)); · rfl)
    | ((with_reducible apply Keeps.comp (State.canUpd_keeps ..)); · rfl)
    | ((with_reducible apply Keeps.comp (State.canErrState_keeps ..)); · rfl)
    | ((with_reducible apply Keeps.comp (State.canPop_keeps ..)); · rfl)
    | ((with_reducible apply Keeps.comp (State.inc_keeps ..)); · rfl)
    | ((with_reducible apply Keeps.comp (State.canIrq_keeps ..)); · rfl)
    | split
    | dsimp only

theorem execCanRecReq_keeps (x0 s) : OKeeps 33554432 s (execCanRecReq x0 s) := by
  unfold execCanRecReq
  repeat' first
    | with_reducible exact Keeps.refl
    | with_reducible apply OKeeps.next
    | ((with_reducible apply Keeps.comp (State.canUpd_keeps ..)); · rfl)
    | split

theorem execCanRecoveryDone_keeps (x0 s) : OKeeps 1107374216 s (execCanRecoveryDone x0 s) := by
  unfold execCanRecoveryDone
  repeat' first
    | with_reducible exact Keeps.refl
    | (lift_lets; intro z)
    | with_reducible apply OKeeps.next
    | ((with_reducible apply Keeps.comp (State.canUpd_keeps ..)); · rfl)
    | ((with_reducible apply Keeps.comp (State.canErrState_keeps ..)); · rfl)
    | ((with_reducible apply Keeps.comp (State.wr_keeps ..)); · rfl)
    | split

theorem State.canSafe_keeps (s x1 x2 x3) : Keeps 602120 s (State.canSafe s x1 x2 x3).2 := by
  unfold State.canSafe
  repeat' first
    | with_reducible exact Keeps.refl
    | (lift_lets; intro z)
    | ((with_reducible apply Keeps.comp (State.sramReadBytes_keeps ..)); · rfl)

theorem State.canSafe_out {s x1 x2 x3 y0 y1} (h : State.canSafe s x1 x2 x3 = (y0, y1)) : Keeps 602120 s y1 := by
  have := State.canSafe_keeps s x1 x2 x3; rw [h] at this; exact this

theorem State.canCapture_keeps (s x1 x2 x3 x4) : Keeps 602120 s (State.canCapture s x1 x2 x3 x4).2 := by
  unfold State.canCapture
  repeat' first
    | with_reducible exact Keeps.refl
    | (lift_lets; intro z; clear_value z)
    | ((with_reducible apply Keeps.comp (State.canSafe_keeps ..)); · rfl)
    | ((with_reducible apply Keeps.comp (State.imageSource_keeps ..)); · rfl)
    | split
    | with_reducible apply Keeps.snd_ite

theorem State.canCapture_out {s x1 x2 x3 x4 y0 y1} (h : State.canCapture s x1 x2 x3 x4 = (y0, y1)) : Keeps 602120 s y1 := by
  have := State.canCapture_keeps s x1 x2 x3 x4; rw [h] at this; exact this

theorem State.canData_keeps (s x1 x2 x3 x4 x5) : Keeps 602120 s (State.canData s x1 x2 x3 x4 x5).2 := by
  unfold State.canData
  repeat' first
    | with_reducible exact Keeps.refl
    | ((with_reducible apply Keeps.comp (State.canCapture_keeps ..)); · rfl)
    | split

theorem State.canData_out {s x1 x2 x3 x4 x5 y0 y1} (h : State.canData s x1 x2 x3 x4 x5 = (y0, y1)) : Keeps 602120 s y1 := by
  have := State.canData_keeps s x1 x2 x3 x4 x5; rw [h] at this; exact this

theorem State.canTrigger_keeps (s x1 x2 x3) : Keeps 34156552 s (State.canTrigger s x1 x2 x3) := by
  unfold State.canTrigger
  repeat' first
    | with_reducible exact Keeps.refl
    | (lift_lets; intro z)
    | ((with_reducible apply Keeps.comp (State.canUpd_keeps ..)); · rfl)
    | ((with_reducible apply Keeps.comp (State.sramReadWords_keeps ..)); · rfl)
    | ((with_reducible apply Keeps.comp (State.inc_keeps ..)); · rfl)
    | ((with_reducible apply Keeps.comp (State.canData_keeps ..)); · rfl)
    | ((with_reducible apply Keeps.comp (State.canSetQ_keeps ..)); · rfl)
    | with_reducible apply Keeps.ite

theorem execCanCyclicTrigger_keeps (x0 x1 s) : OKeeps 34418696 s (execCanCyclicTrigger x0 x1 s) := by
  unfold execCanCyclicTrigger
  repeat' first
    | with_reducible exact Keeps.refl
    | (lift_lets; intro z; clear_value z)
    | with_reducible apply OKeeps.next
    | ((with_reducible apply Keeps.comp (State.canTrigger_keeps ..)); · rfl)
    | ((with_reducible apply Keeps.comp (State.advanceTo_keeps ..)); · rfl)
    | with_reducible apply OKeeps.ite

theorem State.canBoundary_keeps (s) : Keeps 33554432 s (State.canBoundary s) := by
  unfold State.canBoundary
  repeat' first
    | with_reducible assumption
    | with_reducible exact Keeps.refl
    | ((with_reducible apply Keeps.comp (State.canUpd_keeps ..)); · rfl)
    | with_reducible refine Keeps.foldl (fun _ _ _ => ?_) ?_
    | split

theorem State.canElem_keeps (s x1 x2 x3) : Keeps 602120 s (State.canElem s x1 x2 x3).2.2 := by
  unfold State.canElem
  repeat' first
    | with_reducible exact Keeps.refl
    | (lift_lets; intro z; clear_value z)
    | ((with_reducible apply Keeps.comp (State.sramRead_keeps ..)); · rfl)

theorem State.canElem_out {s x1 x2 x3 y0 y1 y2} (h : State.canElem s x1 x2 x3 = (y0, y1, y2)) : Keeps 602120 s y2 := by
  have := State.canElem_keeps s x1 x2 x3; rw [h] at this; exact this

theorem State.canBankBad_keeps (s x1 x2 x3 x4) : Keeps 602120 s (State.canBankBad s x1 x2 x3 x4).2 := by
  induction x4 generalizing s x1 x2 x3 with
  | zero => exact Keeps.refl
  | succ n ih =>
    have iho : ∀ {s x1 x2 x3 y0 y1}, State.canBankBad s x1 x2 x3 n = (y0, y1) → Keeps 602120 s y1 := fun {s x1 x2 x3 y0 y1} h => by
      have := ih s x1 x2 x3; rw [h] at this; exact this
    unfold State.canBankBad
    repeat' first
      | with_reducible exact Keeps.refl
      | ((with_reducible apply Keeps.comp (ih ..)); · rfl)
      | ((with_reducible refine Keeps.comp (State.canElem_out (by with_reducible assumption)) ?_ ?_); · rfl)
      | split

theorem State.canBankBad_out {s x1 x2 x3 x4 y0 y1} (h : State.canBankBad s x1 x2 x3 x4 = (y0, y1)) : Keeps 602120 s y1 := by
  have := State.canBankBad_keeps s x1 x2 x3 x4; rw [h] at this; exact this

theorem State.canFltApply_keeps (s x1) : Keeps 602120 s (State.canFltApply s x1) := by
  unfold State.canFltApply
  repeat' first
    | with_reducible exact Keeps.refl
    | ((with_reducible refine Keeps.comp (State.canBankBad_out (by with_reducible assumption)) ?_ ?_); · rfl)
    | ((with_reducible apply Keeps.comp (State.canIrq_keeps ..)); · rfl)
    | ((with_reducible apply Keeps.comp (State.wr_keeps ..)); · rfl)
    | ((with_reducible apply Keeps.comp (State.wrB_keeps ..)); · rfl)
    | split

theorem execCanFilterApply_keeps (x0 s) : OKeeps 602120 s (execCanFilterApply x0 s) := by
  unfold execCanFilterApply
  repeat' first
    | with_reducible exact Keeps.refl
    | with_reducible apply OKeeps.next
    | ((with_reducible apply Keeps.comp (State.canFltApply_keeps ..)); · rfl)
    | split

theorem execCanFilterSwitch_keeps (x0 s) : OKeeps 33619976 s (execCanFilterSwitch x0 s) := by
  unfold execCanFilterSwitch
  repeat' first
    | with_reducible exact Keeps.refl
    | (lift_lets; intro z)
    | with_reducible apply OKeeps.next
    | ((with_reducible apply Keeps.comp (State.canUpd_keeps ..)); · rfl)
    | ((with_reducible apply Keeps.comp (State.canIrq_keeps ..)); · rfl)
    | ((with_reducible apply Keeps.comp (State.wrB_keeps ..)); · rfl)
    | ((with_reducible apply Keeps.comp (State.wr_keeps ..)); · rfl)
    | split

theorem State.canSearch_keeps (s x1 x2 x3 x4 x5) : Keeps 602120 s (State.canSearch s x1 x2 x3 x4 x5).2 := by
  induction x5 generalizing s x1 x2 x3 x4 with
  | zero => exact Keeps.refl
  | succ n ih =>
    have iho : ∀ {s x1 x2 x3 x4 y0 y1}, State.canSearch s x1 x2 x3 x4 n = (y0, y1) → Keeps 602120 s y1 := fun {s x1 x2 x3 x4 y0 y1} h => by
      have := ih s x1 x2 x3 x4; rw [h] at this; exact this
    unfold State.canSearch
    repeat' first
      | with_reducible exact Keeps.refl
      | ((with_reducible apply Keeps.comp (ih ..)); · rfl)
      | ((with_reducible refine Keeps.comp (State.canElem_out (by with_reducible assumption)) ?_ ?_); · rfl)
      | split

theorem State.canSearch_out {s x1 x2 x3 x4 x5 y0 y1} (h : State.canSearch s x1 x2 x3 x4 x5 = (y0, y1)) : Keeps 602120 s y1 := by
  have := State.canSearch_keeps s x1 x2 x3 x4 x5; rw [h] at this; exact this

theorem State.canStore_keeps (s x1 x2 x3 x4 x5) : Keeps 33622040 s (State.canStore s x1 x2 x3 x4 x5) := by
  unfold State.canStore
  repeat' first
    | with_reducible exact Keeps.refl
    | (lift_lets; intro z; clear_value z)
    | ((with_reducible apply Keeps.comp (State.canUpd_keeps ..)); · rfl)
    | ((with_reducible apply Keeps.comp (State.inc_keeps ..)); · rfl)
    | ((with_reducible apply Keeps.comp (State.sramWrite_keeps ..)); · rfl)
    | ((with_reducible apply Keeps.comp (State.canIrq_keeps ..)); · rfl)
    | ((with_reducible apply Keeps.comp (State.incWrap_keeps ..)); · rfl)
    | split
    | with_reducible apply Keeps.ite

theorem State.canPi_keeps (s x1 x2 x3) : Keeps 402655256 s (State.canPi s x1 x2 x3) := by
  unfold State.canPi
  repeat' first
    | with_reducible exact Keeps.refl
    | (lift_lets; intro z; clear_value z)
    | ((with_reducible apply Keeps.comp (State.inc_keeps ..)); · rfl)
    | ((with_reducible apply Keeps.comp (State.landItem_keeps ..)); · rfl)
    | split

theorem State.canAct_keeps (s x1 x2 x3 x4) : Keeps 436811800 s (State.canAct s x1 x2 x3 x4) := by
  unfold State.canAct
  repeat' first
    | with_reducible exact Keeps.refl
    | (lift_lets; intro z; clear_value z)
    | ((with_reducible refine Keeps.comp (State.canSearch_out (by with_reducible assumption)) ?_ ?_); · rfl)
    | ((with_reducible apply Keeps.comp (State.canStore_keeps ..)); · rfl)
    | ((with_reducible apply Keeps.comp (State.canIrq_keeps ..)); · rfl)
    | ((with_reducible apply Keeps.comp (State.canPi_keeps ..)); · rfl)
    | split

theorem State.canRecGood_keeps (s x1) : Keeps 12 s (State.canRecGood s x1) := by
  unfold State.canRecGood
  repeat' first
    | with_reducible exact Keeps.refl
    | (lift_lets; intro z; clear_value z)
    | ((with_reducible apply Keeps.comp (State.wr_keeps ..)); · rfl)
    | ((with_reducible apply Keeps.comp (State.takeFree_keeps ..)); · rfl)
    | split

theorem execCanFrameRx_keeps (x0 x1 x2 s) : OKeeps 1510553756 s (execCanFrameRx x0 x1 x2 s) := by
  unfold execCanFrameRx
  repeat' first
    | with_reducible exact Keeps.refl
    | (lift_lets; intro z)
    | with_reducible apply OKeeps.next
    | ((with_reducible apply Keeps.comp (State.canErrState_keeps ..)); · rfl)
    | ((with_reducible apply Keeps.comp (State.canRecGood_keeps ..)); · rfl)
    | ((with_reducible apply Keeps.comp (State.canAct_keeps ..)); · rfl)
    | split
    | with_reducible apply Keeps.ite

theorem execCanReceiveError_keeps (x0 x1 x2 s) : OKeeps 1107374216 s (execCanReceiveError x0 x1 x2 s) := by
  unfold execCanReceiveError
  repeat' first
    | with_reducible exact Keeps.refl
    | (lift_lets; intro z)
    | with_reducible apply OKeeps.next
    | ((with_reducible apply Keeps.comp (State.wr_keeps ..)); · rfl)
    | ((with_reducible apply Keeps.comp (State.canErrState_keeps ..)); · rfl)
    | split

theorem State.canSnap_keeps (s) : Keeps 8 s (State.canSnap s) := by
  unfold State.canSnap
  repeat' first
    | with_reducible assumption
    | with_reducible exact Keeps.refl
    | (lift_lets; intro z)
    | ((with_reducible apply Keeps.comp (State.setReg_keeps ..)); · rfl)
    | ((with_reducible apply Keeps.comp (State.incWrap_keeps ..)); · rfl)
    | with_reducible refine Keeps.foldl (fun _ _ _ => ?_) ?_
    | split

end Sys2Proof.Machine
end

