-- ==== Sys2Proof/Laws/KeepsCbcSched.lean ====
section
/-! SUPPORT. What each operation of Machine/CbcSched.lean leaves alone (the relation Keeps). -/

namespace Sys2Proof.Machine

theorem State.setSeg_keeps (s x1 x2) : Keeps 16777216 s (State.setSeg s x1 x2) := by
  unfold State.setSeg
  repeat' first
    | with_reducible exact Keeps.refl
    | ((with_reducible apply Keeps.comp (State.putCbc_keeps ..)); · rfl)

theorem State.setSegState_keeps (s x1 x2) : Keeps 8 s (State.setSegState s x1 x2) := by
  unfold State.setSegState
  repeat' first
    | with_reducible exact Keeps.refl
    | ((with_reducible apply Keeps.comp (State.wr_keeps ..)); · rfl)

theorem State.schedRefuse_keeps (s x1 x2) : Keeps 16777224 s (State.schedRefuse s x1 x2) := by
  unfold State.schedRefuse
  repeat' first
    | with_reducible assumption
    | with_reducible exact Keeps.refl
    | (lift_lets; intro z; first | (have hz : (fun (_ : State) => True) z := trivial; clear hz) | clear_value z)
    | ((with_reducible apply Keeps.comp (State.wrB_keeps ..)); · rfl)
    | ((with_reducible apply Keeps.comp (State.wr_keeps ..)); · rfl)
    | ((with_reducible apply Keeps.comp (State.setSeg_keeps ..)); · rfl)
    | with_reducible refine Keeps.foldl (fun _ _ _ => ?_) ?_
    | split

end Sys2Proof.Machine
end

