-- ==== Sys2Proof/Laws/KeepsCbc.lean ====
section
/-! SUPPORT. What each operation of Machine/Cbc.lean leaves alone (the relation Keeps). -/

namespace Sys2Proof.Machine

theorem State.cbCount_keeps (s x1 x2) : Keeps 8 s (State.cbCount s x1 x2) := by
  unfold State.cbCount
  repeat' first
    | with_reducible exact Keeps.refl
    | ((with_reducible apply Keeps.comp (State.inc_keeps ..)); · rfl)
    | split

theorem State.segUpd_keeps (s x1 x2) : Keeps 16777216 s (State.segUpd s x1 x2) := by
  unfold State.segUpd
  repeat' first
    | with_reducible exact Keeps.refl
    | ((with_reducible apply Keeps.comp (State.setSeg_keeps ..)); · rfl)

theorem State.cbSend_keeps (s x1 x2 x3) : Keeps 16777216 s (State.cbSend s x1 x2 x3) := by
  unfold State.cbSend
  repeat' first
    | with_reducible exact Keeps.refl
    | ((with_reducible apply Keeps.comp (State.segUpd_keeps ..)); · rfl)

theorem State.segClear_keeps (s x1) : Keeps 16777224 s (State.segClear s x1) := by
  unfold State.segClear
  repeat' first
    | with_reducible exact Keeps.refl
    | (lift_lets; intro z; clear_value z)
    | ((with_reducible apply Keeps.comp (State.setSeg_keeps ..)); · rfl)
    | ((with_reducible apply Keeps.comp (State.resetRegs_keeps ..)); · rfl)

theorem State.segStart_keeps (s x1) : Keeps 16777224 s (State.segStart s x1) := by
  unfold State.segStart
  repeat' first
    | with_reducible exact Keeps.refl
    | (lift_lets; intro z)
    | ((with_reducible apply Keeps.comp (State.setSegState_keeps ..)); · rfl)
    | ((with_reducible apply Keeps.comp (State.segClear_keeps ..)); · rfl)
    | ((with_reducible apply Keeps.comp (State.segUpd_keeps ..)); · rfl)

theorem State.segListen_keeps (s x1) : Keeps 16777224 s (State.segListen s x1) := by
  unfold State.segListen
  repeat' first
    | with_reducible exact Keeps.refl
    | ((with_reducible apply Keeps.comp (State.segUpd_keeps ..)); · rfl)
    | ((with_reducible apply Keeps.comp (State.setSegState_keeps ..)); · rfl)

theorem State.segStop_keeps (s x1) : Keeps 16777224 s (State.segStop s x1) := by
  unfold State.segStop
  repeat' first
    | with_reducible exact Keeps.refl
    | ((with_reducible apply Keeps.comp (State.segUpd_keeps ..)); · rfl)
    | ((with_reducible apply Keeps.comp (State.setSegState_keeps ..)); · rfl)
    | split

theorem State.segListenOnly_keeps (s x1) : Keeps 16777224 s (State.segListenOnly s x1) := by
  unfold State.segListenOnly
  repeat' first
    | with_reducible exact Keeps.refl
    | ((with_reducible apply Keeps.comp (State.setSegState_keeps ..)); · rfl)
    | ((with_reducible apply Keeps.comp (State.segClear_keeps ..)); · rfl)

theorem State.segFault_keeps (s x1 x2) : Keeps 1090531464 s (State.segFault s x1 x2) := by
  unfold State.segFault
  repeat' first
    | with_reducible exact Keeps.refl
    | (lift_lets; intro z)
    | ((with_reducible apply Keeps.comp (State.wr_keeps ..)); · rfl)
    | ((with_reducible apply Keeps.comp (State.setSegState_keeps ..)); · rfl)
    | ((with_reducible apply Keeps.comp (State.segUpd_keeps ..)); · rfl)
    | ((with_reducible apply Keeps.comp (State.safeStopFault_keeps ..)); · rfl)
    | ((with_reducible apply Keeps.comp (State.logEvent_keeps ..)); · rfl)

theorem State.segEnable_keeps (s x1) : Keeps 16777224 s (State.segEnable s x1) := by
  unfold State.segEnable
  repeat' first
    | with_reducible exact Keeps.refl
    | (lift_lets; intro z)
    | ((with_reducible apply Keeps.comp (State.wrB_keeps ..)); · rfl)
    | ((with_reducible apply Keeps.comp (State.segStart_keeps ..)); · rfl)
    | ((with_reducible apply Keeps.comp (State.segListenOnly_keeps ..)); · rfl)
    | split

theorem execCbSegEnable_keeps (x0 s) : OKeeps 16777224 s (execCbSegEnable x0 s) := by
  unfold execCbSegEnable
  repeat' first
    | with_reducible exact Keeps.refl
    | with_reducible apply OKeeps.next
    | ((with_reducible apply Keeps.comp (State.segEnable_keeps ..)); · rfl)
    | split

theorem State.segDisable_keeps (s x1) : Keeps 16777224 s (State.segDisable s x1) := by
  unfold State.segDisable
  repeat' first
    | with_reducible exact Keeps.refl
    | (lift_lets; intro z)
    | ((with_reducible apply Keeps.comp (State.wrB_keeps ..)); · rfl)
    | ((with_reducible apply Keeps.comp (State.segClear_keeps ..)); · rfl)
    | ((with_reducible apply Keeps.comp (State.segStop_keeps ..)); · rfl)
    | split

theorem execCbSegDisable_keeps (x0 s) : OKeeps 16777224 s (execCbSegDisable x0 s) := by
  unfold execCbSegDisable
  repeat' first
    | with_reducible exact Keeps.refl
    | with_reducible apply OKeeps.next
    | ((with_reducible apply Keeps.comp (State.segDisable_keeps ..)); · rfl)
    | split

theorem execCbSegStopDone_keeps (x0 s) : OKeeps 17039368 s (execCbSegStopDone x0 s) := by
  unfold execCbSegStopDone
  repeat' first
    | with_reducible exact Keeps.refl
    | (lift_lets; intro z; first | (have hz : (fun (_ : State) => True) z := trivial; clear hz) | clear_value z)
    | with_reducible apply OKeeps.next
    | ((with_reducible apply Keeps.comp (State.advanceTo_keeps ..)); · rfl)
    | ((with_reducible apply Keeps.comp (State.segClear_keeps ..)); · rfl)
    | ((with_reducible apply Keeps.comp (State.segListenOnly_keeps ..)); · rfl)
    | ((with_reducible apply Keeps.comp (State.segStart_keeps ..)); · rfl)
    | split

theorem State.segMode_keeps (s x1 x2) : Keeps 16777224 s (State.segMode s x1 x2) := by
  unfold State.segMode
  repeat' first
    | with_reducible exact Keeps.refl
    | (lift_lets; intro z; clear_value z)
    | ((with_reducible apply Keeps.comp (State.segClear_keeps ..)); · rfl)
    | ((with_reducible apply Keeps.comp (State.segStop_keeps ..)); · rfl)
    | ((with_reducible apply Keeps.comp (State.segStart_keeps ..)); · rfl)
    | ((with_reducible apply Keeps.comp (State.wrB_keeps ..)); · rfl)
    | ((with_reducible apply Keeps.comp (State.segUpd_keeps ..)); · rfl)
    | ((with_reducible apply Keeps.comp (State.setSegState_keeps ..)); · rfl)
    | ((with_reducible apply Keeps.comp (State.segListenOnly_keeps ..)); · rfl)
    | split
    | with_reducible apply Keeps.ite

theorem State.cbcMode_keeps (s x1) : Keeps 16777224 s (State.cbcMode s x1) := by
  unfold State.cbcMode
  repeat' first
    | with_reducible assumption
    | with_reducible exact Keeps.refl
    | ((with_reducible apply Keeps.comp (State.segMode_keeps ..)); · rfl)
    | with_reducible refine Keeps.foldl (fun _ _ _ => ?_) ?_
    | split

theorem State.segStartup_keeps (s x1) : Keeps 16777224 s (State.segStartup s x1) := by
  unfold State.segStartup
  repeat' first
    | with_reducible exact Keeps.refl
    | (lift_lets; intro z; clear_value z)
    | ((with_reducible apply Keeps.comp (State.wr_keeps ..)); · rfl)
    | ((with_reducible apply Keeps.comp (State.setSegState_keeps ..)); · rfl)
    | ((with_reducible apply Keeps.comp (State.segUpd_keeps ..)); · rfl)
    | ((with_reducible apply Keeps.comp (State.cbSend_keeps ..)); · rfl)

theorem execCbListenExpire_keeps (x0 s) : OKeeps 17039368 s (execCbListenExpire x0 s) := by
  unfold execCbListenExpire
  repeat' first
    | with_reducible exact Keeps.refl
    | with_reducible apply OKeeps.next
    | ((with_reducible apply Keeps.comp (State.segStartup_keeps ..)); · rfl)
    | ((with_reducible apply Keeps.comp (State.advanceTo_keeps ..)); · rfl)
    | split

theorem State.segEcho_keeps (s x1 x2 x3 x4) : Keeps 16777216 s (State.segEcho s x1 x2 x3 x4) := by
  unfold State.segEcho
  repeat' first
    | with_reducible exact Keeps.refl
    | (lift_lets; intro z)
    | ((with_reducible apply Keeps.comp (State.segUpd_keeps ..)); · rfl)
    | ((with_reducible apply Keeps.comp (State.cbSend_keeps ..)); · rfl)

theorem State.segEnumRsp_keeps (s x1 x2) : Keeps 17039368 s (State.segEnumRsp s x1 x2) := by
  unfold State.segEnumRsp
  repeat' first
    | with_reducible exact Keeps.refl
    | (lift_lets; intro z; clear_value z)
    | ((with_reducible apply Keeps.comp (State.advanceTo_keeps ..)); · rfl)
    | ((with_reducible apply Keeps.comp (State.cbSend_keeps ..)); · rfl)

theorem execCbForeignMaster_keeps (x0 x1 s) : OKeeps 17039368 s (execCbForeignMaster x0 x1 s) := by
  unfold execCbForeignMaster
  repeat' first
    | with_reducible exact Keeps.refl
    | (lift_lets; intro z; clear_value z)
    | with_reducible apply OKeeps.next
    | ((with_reducible apply Keeps.comp (State.cbCount_keeps ..)); · rfl)
    | ((with_reducible apply Keeps.comp (State.wr_keeps ..)); · rfl)
    | ((with_reducible apply Keeps.comp (State.setSegState_keeps ..)); · rfl)
    | ((with_reducible apply Keeps.comp (State.segUpd_keeps ..)); · rfl)
    | ((with_reducible apply Keeps.comp (State.segEcho_keeps ..)); · rfl)
    | ((with_reducible apply Keeps.comp (State.segEnumRsp_keeps ..)); · rfl)
    | split
    | with_reducible apply OKeeps.ite

theorem execCbBackupTakeover_keeps (x0 s) : OKeeps 16777224 s (execCbBackupTakeover x0 s) := by
  unfold execCbBackupTakeover
  repeat' first
    | with_reducible exact Keeps.refl
    | with_reducible apply OKeeps.next
    | ((with_reducible apply Keeps.comp (State.segListen_keeps ..)); · rfl)
    | split

theorem State.segEnum_keeps (s x1) : Keeps 17039368 s (State.segEnum s x1) := by
  unfold State.segEnum
  repeat' first
    | with_reducible exact Keeps.refl
    | (lift_lets; intro z)
    | ((with_reducible apply Keeps.comp (State.advanceTo_keeps ..)); · rfl)
    | ((with_reducible apply Keeps.comp (State.segUpd_keeps ..)); · rfl)
    | ((with_reducible apply Keeps.comp (State.cbSend_keeps ..)); · rfl)

theorem execCbEchoReceive_keeps (x0 x1 x2 x3 s) : OKeeps 17039368 s (execCbEchoReceive x0 x1 x2 x3 s) := by
  unfold execCbEchoReceive
  repeat' first
    | with_reducible exact Keeps.refl
    | (lift_lets; intro z)
    | with_reducible apply OKeeps.next
    | ((with_reducible apply Keeps.comp (State.cbCount_keeps ..)); · rfl)
    | ((with_reducible apply Keeps.comp (State.advanceTo_keeps ..)); · rfl)
    | ((with_reducible apply Keeps.comp (State.segUpd_keeps ..)); · rfl)
    | ((with_reducible apply Keeps.comp (State.segEnum_keeps ..)); · rfl)
    | ((with_reducible apply Keeps.comp (State.wr_keeps ..)); · rfl)
    | split

theorem execCbEchoTimeout_keeps (x0 x1 x2 s) : OKeeps 1090793608 s (execCbEchoTimeout x0 x1 x2 s) := by
  unfold execCbEchoTimeout
  repeat' first
    | with_reducible exact Keeps.refl
    | (lift_lets; intro z; first | (have hz : (fun (_ : State) => True) z := trivial; clear hz) | clear_value z)
    | with_reducible apply OKeeps.next
    | ((with_reducible apply Keeps.comp (State.advanceTo_keeps ..)); · rfl)
    | ((with_reducible apply Keeps.comp (State.segUpd_keeps ..)); · rfl)
    | ((with_reducible apply Keeps.comp (State.segFault_keeps ..)); · rfl)
    | ((with_reducible apply Keeps.comp (State.setSeg_keeps ..)); · rfl)
    | ((with_reducible apply Keeps.comp (State.setSegState_keeps ..)); · rfl)
    | split

theorem execCbBackoffExpire_keeps (x0 s) : OKeeps 16777216 s (execCbBackoffExpire x0 s) := by
  unfold execCbBackoffExpire
  repeat' first
    | with_reducible exact Keeps.refl
    | with_reducible apply OKeeps.next
    | ((with_reducible apply Keeps.comp (State.segUpd_keeps ..)); · rfl)
    | split

theorem execCbEnumRspReceive_keeps (x0 x1 x2 x3 x4 x5 x6 x7 s) : OKeeps 17039368 s (execCbEnumRspReceive x0 x1 x2 x3 x4 x5 x6 x7 s) := by
  unfold execCbEnumRspReceive
  repeat' first
    | with_reducible exact Keeps.refl
    | (lift_lets; intro z; first | (have hz : (fun (_ : State) => True) z := trivial; clear hz) | clear_value z)
    | with_reducible apply OKeeps.next
    | ((with_reducible apply Keeps.comp (State.cbCount_keeps ..)); · rfl)
    | ((with_reducible apply Keeps.comp (State.advanceTo_keeps ..)); · rfl)
    | ((with_reducible apply Keeps.comp (State.setSeg_keeps ..)); · rfl)
    | ((with_reducible apply Keeps.comp (State.inc_keeps ..)); · rfl)
    | split
    | with_reducible apply OKeeps.ite

theorem State.confSend_keeps (s x1 x2 x3) : Keeps 16777216 s (State.confSend s x1 x2 x3) := by
  unfold State.confSend
  repeat' first
    | with_reducible exact Keeps.refl
    | (lift_lets; intro z)
    | ((with_reducible apply Keeps.comp (State.segUpd_keeps ..)); · rfl)
    | ((with_reducible apply Keeps.comp (State.cbSend_keeps ..)); · rfl)
    | split

theorem State.confNext_keeps (s x1) : Keeps 16777216 s (State.confNext s x1) := by
  unfold State.confNext
  repeat' first
    | with_reducible exact Keeps.refl
    | ((with_reducible apply Keeps.comp (State.segUpd_keeps ..)); · rfl)
    | ((with_reducible apply Keeps.comp (State.confSend_keeps ..)); · rfl)
    | split

theorem State.confBegin_keeps (s x1) : Keeps 16777216 s (State.confBegin s x1) := by
  unfold State.confBegin
  repeat' first
    | with_reducible exact Keeps.refl
    | (lift_lets; intro z; clear_value z)
    | ((with_reducible apply Keeps.comp (State.setSeg_keeps ..)); · rfl)
    | ((with_reducible apply Keeps.comp (State.confNext_keeps ..)); · rfl)

theorem execCbEnumWindowEnd_keeps (x0 s) : OKeeps 17039368 s (execCbEnumWindowEnd x0 s) := by
  unfold execCbEnumWindowEnd
  repeat' first
    | with_reducible exact Keeps.refl
    | (lift_lets; intro z; clear_value z)
    | with_reducible apply OKeeps.next
    | ((with_reducible apply Keeps.comp (State.confBegin_keeps ..)); · rfl)
    | ((with_reducible apply Keeps.comp (State.advanceTo_keeps ..)); · rfl)
    | split

theorem State.confFail_keeps (s x1 x2 x3) : Keeps 1090531464 s (State.confFail s x1 x2 x3) := by
  unfold State.confFail
  repeat' first
    | with_reducible exact Keeps.refl
    | ((with_reducible apply Keeps.comp (State.confNext_keeps ..)); · rfl)
    | ((with_reducible apply Keeps.comp (State.segFault_keeps ..)); · rfl)
    | ((with_reducible apply Keeps.comp (State.segUpd_keeps ..)); · rfl)
    | ((with_reducible apply Keeps.comp (State.schedRefuse_keeps ..)); · rfl)
    | split

theorem execCbConfAckReceive_keeps (x0 x1 x2 x3 x4 s) : OKeeps 1090531464 s (execCbConfAckReceive x0 x1 x2 x3 x4 s) := by
  unfold execCbConfAckReceive
  repeat' first
    | with_reducible exact Keeps.refl
    | (lift_lets; intro z)
    | with_reducible apply OKeeps.next
    | ((with_reducible apply Keeps.comp (State.cbCount_keeps ..)); · rfl)
    | ((with_reducible apply Keeps.comp (State.confFail_keeps ..)); · rfl)
    | ((with_reducible apply Keeps.comp (State.segUpd_keeps ..)); · rfl)
    | ((with_reducible apply Keeps.comp (State.confNext_keeps ..)); · rfl)
    | split

theorem execCbConfAckTimeout_keeps (x0 s) : OKeeps 1090793608 s (execCbConfAckTimeout x0 s) := by
  unfold execCbConfAckTimeout
  repeat' first
    | with_reducible exact Keeps.refl
    | (lift_lets; intro z; clear_value z)
    | with_reducible apply OKeeps.next
    | ((with_reducible apply Keeps.comp (State.confFail_keeps ..)); · rfl)
    | ((with_reducible apply Keeps.comp (State.advanceTo_keeps ..)); · rfl)
    | split

theorem execCbSyncEntry_keeps (x0 s) : OKeeps 16777224 s (execCbSyncEntry x0 s) := by
  unfold execCbSyncEntry
  repeat' first
    | with_reducible exact Keeps.refl
    | (lift_lets; intro z; clear_value z)
    | with_reducible apply OKeeps.next
    | ((with_reducible apply Keeps.comp (State.setSegState_keeps ..)); · rfl)
    | ((with_reducible apply Keeps.comp (State.setSeg_keeps ..)); · rfl)
    | split
    | with_reducible apply OKeeps.ite

theorem State.schedApply_keeps (s) : Keeps 16777224 s (State.schedApply s) := by
  unfold State.schedApply
  repeat' first
    | with_reducible assumption
    | with_reducible exact Keeps.refl
    | (lift_lets; intro z)
    | ((with_reducible apply Keeps.comp (State.cfgErr_keeps ..)); · rfl)
    | ((with_reducible apply Keeps.comp (State.schedRefuse_keeps ..)); · rfl)
    | ((with_reducible apply Keeps.comp (State.wrB_keeps ..)); · rfl)
    | ((with_reducible apply Keeps.comp (State.segUpd_keeps ..)); · rfl)
    | with_reducible refine Keeps.foldl (fun _ _ _ => ?_) ?_
    | split

theorem execCbSchedApply_keeps (s) : OKeeps 16777224 s (execCbSchedApply s) := by
  unfold execCbSchedApply
  repeat' first
    | with_reducible exact Keeps.refl
    | with_reducible apply OKeeps.next
    | ((with_reducible apply Keeps.comp (State.schedApply_keeps ..)); · rfl)
    | split

theorem State.schedCopy_keeps (s) : Keeps 8 s (State.schedCopy s) := by
  unfold State.schedCopy
  repeat' first
    | with_reducible assumption
    | with_reducible exact Keeps.refl
    | (lift_lets; intro z; clear_value z)
    | ((with_reducible apply Keeps.comp (State.resetRegs_keeps ..)); · rfl)
    | ((with_reducible apply Keeps.comp (State.setReg_keeps ..)); · rfl)
    | with_reducible refine Keeps.foldl (fun _ _ _ => ?_) ?_

theorem State.schedSwap_keeps (s) : Keeps 16777224 s (State.schedSwap s) := by
  unfold State.schedSwap
  repeat' first
    | with_reducible assumption
    | with_reducible exact Keeps.refl
    | (lift_lets; intro z)
    | ((with_reducible apply Keeps.comp (State.wrB_keeps ..)); · rfl)
    | ((with_reducible apply Keeps.comp (State.incWrap_keeps ..)); · rfl)
    | ((with_reducible apply Keeps.comp (State.schedCopy_keeps ..)); · rfl)
    | ((with_reducible apply Keeps.comp (State.segUpd_keeps ..)); · rfl)
    | ((with_reducible apply Keeps.comp (State.confBegin_keeps ..)); · rfl)
    | with_reducible refine Keeps.foldl (fun _ _ _ => ?_) ?_
    | split

theorem State.segBoundary_keeps (s x1) : Keeps 16777224 s (State.segBoundary s x1) := by
  unfold State.segBoundary
  repeat' first
    | with_reducible exact Keeps.refl
    | (lift_lets; intro z; clear_value z)
    | ((with_reducible apply Keeps.comp (State.wr_keeps ..)); · rfl)
    | ((with_reducible apply Keeps.comp (State.setSeg_keeps ..)); · rfl)
    | split

theorem State.cbcBoundary_keeps (s) : Keeps 16777224 s (State.cbcBoundary s) := by
  unfold State.cbcBoundary
  repeat' first
    | with_reducible assumption
    | with_reducible exact Keeps.refl
    | ((with_reducible apply Keeps.comp (State.schedSwap_keeps ..)); · rfl)
    | ((with_reducible apply Keeps.comp (State.segBoundary_keeps ..)); · rfl)
    | with_reducible refine Keeps.foldl (fun _ _ _ => ?_) ?_
    | split

theorem State.segCsf_keeps (s x1) : Keeps 16777224 s (State.segCsf s x1) := by
  unfold State.segCsf
  repeat' first
    | with_reducible exact Keeps.refl
    | (lift_lets; intro z; clear_value z)
    | ((with_reducible apply Keeps.comp (State.setSegState_keeps ..)); · rfl)
    | ((with_reducible apply Keeps.comp (State.setSeg_keeps ..)); · rfl)
    | ((with_reducible apply Keeps.comp (State.wr_keeps ..)); · rfl)
    | ((with_reducible apply Keeps.comp (State.wrI_keeps ..)); · rfl)
    | ((with_reducible apply Keeps.comp (State.cbSend_keeps ..)); · rfl)

theorem State.sliceOut_keeps (s x1 x2 x3) : Keeps 602120 s (State.sliceOut s x1 x2 x3).2 := by
  unfold State.sliceOut
  repeat' first
    | with_reducible exact Keeps.refl
    | (lift_lets; intro z; clear_value z)
    | ((with_reducible apply Keeps.comp (State.imageSource_keeps ..)); · rfl)
    | split
    | with_reducible apply Keeps.snd_ite

theorem State.sliceOut_out {s x1 x2 x3 y0 y1} (h : State.sliceOut s x1 x2 x3 = (y0, y1)) : Keeps 602120 s y1 := by
  have := State.sliceOut_keeps s x1 x2 x3; rw [h] at this; exact this

theorem State.slicesOut_keeps (s x1 x2 x3) : Keeps 602120 s (State.slicesOut s x1 x2 x3).2 := by
  induction x3 generalizing s x1 x2 with
  | zero => exact Keeps.refl
  | succ n ih =>
    have iho : ∀ {s x1 x2 y0 y1}, State.slicesOut s x1 x2 n = (y0, y1) → Keeps 602120 s y1 := fun {s x1 x2 y0 y1} h => by
      have := ih s x1 x2; rw [h] at this; exact this
    unfold State.slicesOut
    repeat' first
      | with_reducible exact Keeps.refl
      | ((with_reducible apply Keeps.comp (ih ..)); · rfl)
      | ((with_reducible apply Keeps.comp (State.sliceOut_keeps ..)); · rfl)

theorem State.slicesOut_out {s x1 x2 x3 y0 y1} (h : State.slicesOut s x1 x2 x3 = (y0, y1)) : Keeps 602120 s y1 := by
  have := State.slicesOut_keeps s x1 x2 x3; rw [h] at this; exact this

theorem State.segSum_keeps (s x1) : Keeps 17379336 s (State.segSum s x1) := by
  unfold State.segSum
  repeat' first
    | with_reducible exact Keeps.refl
    | (lift_lets; intro z; clear_value z)
    | ((with_reducible apply Keeps.comp (State.slicesOut_keeps ..)); · rfl)
    | ((with_reducible apply Keeps.comp (State.cbSend_keeps ..)); · rfl)

theorem State.segReconf_keeps (s x1) : Keeps 16777216 s (State.segReconf s x1) := by
  unfold State.segReconf
  repeat' first
    | with_reducible exact Keeps.refl
    | (lift_lets; intro z; clear_value z)
    | ((with_reducible apply Keeps.comp (State.confSend_keeps ..)); · rfl)
    | split
    | dsimp only

theorem State.cbcIn_keeps (s) : Keeps 16777224 s (State.cbcIn s) := by
  unfold State.cbcIn
  repeat' first
    | with_reducible assumption
    | with_reducible exact Keeps.refl
    | (lift_lets; intro z)
    | ((with_reducible apply Keeps.comp (State.segCsf_keeps ..)); · rfl)
    | ((with_reducible apply Keeps.comp (State.segReconf_keeps ..)); · rfl)
    | with_reducible refine Keeps.foldl (fun _ _ _ => ?_) ?_
    | split

theorem State.cbcOut_keeps (s) : Keeps 17379336 s (State.cbcOut s) := by
  unfold State.cbcOut
  repeat' first
    | with_reducible assumption
    | with_reducible exact Keeps.refl
    | ((with_reducible apply Keeps.comp (State.segReconf_keeps ..)); · rfl)
    | ((with_reducible apply Keeps.comp (State.segSum_keeps ..)); · rfl)
    | with_reducible refine Keeps.foldl (fun _ _ _ => ?_) ?_
    | split

theorem State.cbClash_keeps (s x1 x2) : Keeps 1090531464 s (State.cbClash s x1 x2) := by
  unfold State.cbClash
  repeat' first
    | with_reducible exact Keeps.refl
    | (lift_lets; intro z; first | (have hz : (fun (_ : State) => True) z := trivial; clear hz) | clear_value z)
    | ((with_reducible apply Keeps.comp (State.inc_keeps ..)); · rfl)
    | ((with_reducible apply Keeps.comp (State.setSeg_keeps ..)); · rfl)
    | ((with_reducible apply Keeps.comp (State.logEvent_keeps ..)); · rfl)
    | ((with_reducible apply Keeps.comp (State.safeStopFault_keeps ..)); · rfl)
    | split
    | with_reducible apply Keeps.ite

theorem State.cbClashes_keeps (s x1 x2 x3) : Keeps 1090531464 s (State.cbClashes s x1 x2 x3) := by
  induction x3 generalizing s x1 x2 with
  | zero => exact Keeps.refl
  | succ n ih =>
    unfold State.cbClashes
    repeat' first
      | with_reducible exact Keeps.refl
      | ((with_reducible apply Keeps.comp (ih ..)); · rfl)
      | ((with_reducible apply Keeps.comp (State.cbClash_keeps ..)); · rfl)

theorem State.slotDone_keeps (s x1 x2) : Keeps 16777216 s (State.slotDone s x1 x2) := by
  unfold State.slotDone
  repeat' first
    | with_reducible exact Keeps.refl
    | ((with_reducible apply Keeps.comp (State.segUpd_keeps ..)); · rfl)

theorem State.toReply_keeps (s x1 x2) : Keeps 262152 s (State.toReply s x1 x2) := by
  unfold State.toReply
  repeat' first
    | with_reducible exact Keeps.refl
    | ((with_reducible apply Keeps.comp (State.advanceTo_keeps ..)); · rfl)

theorem State.cbBad_keeps (s x1 x2 x3) : Keeps 1090531464 s (State.cbBad s x1 x2 x3) := by
  unfold State.cbBad
  repeat' first
    | with_reducible exact Keeps.refl
    | (lift_lets; intro z)
    | ((with_reducible apply Keeps.comp (State.cbCount_keeps ..)); · rfl)
    | ((with_reducible apply Keeps.comp (State.cbClash_keeps ..)); · rfl)
    | split

theorem State.cbReply_keeps {M : Nat} (hm : (1090793608 &&& M == 1090793608) = true) {k} (hf : ∀ s, Keeps M s (k s)) (s x1 x2 x3 x4) : Keeps M s (State.cbReply s x1 x2 x3 x4 k) := by
  unfold State.cbReply
  repeat' first
    | with_reducible exact Keeps.refl
    | ((with_reducible apply Keeps.comp (hf _)); · exact sub_self _)
    | (lift_lets; intro z; first | (have hz : (fun (_ : State) => True) z := trivial; clear hz) | clear_value z)
    | ((with_reducible apply Keeps.comp (State.toReply_keeps ..)); · exact sub_trans rfl hm)
    | ((with_reducible apply Keeps.comp (State.cbClashes_keeps ..)); · exact sub_trans rfl hm)
    | ((with_reducible apply Keeps.comp (State.cbBad_keeps ..)); · exact sub_trans rfl hm)
    | ((with_reducible apply Keeps.comp (State.slotDone_keeps ..)); · exact sub_trans rfl hm)
    | ((with_reducible apply Keeps.comp (State.segUpd_keeps ..)); · exact sub_trans rfl hm)
    | ((with_reducible apply Keeps.comp (State.inc_keeps ..)); · exact sub_trans rfl hm)
    | split

theorem State.cycReply_keeps (x0 x1 x2 x3 x4 s) : Keeps 419694616 s (State.cycReply x0 x1 x2 x3 x4 s) := by
  unfold State.cycReply
  repeat' first
    | with_reducible exact Keeps.refl
    | (lift_lets; intro z; clear_value z)
    | ((with_reducible apply Keeps.comp (State.segUpd_keeps ..)); · rfl)
    | ((with_reducible apply Keeps.comp (State.landItem_keeps ..)); · rfl)
    | ((with_reducible apply Keeps.comp (State.advanceTo_keeps ..)); · rfl)
    | split
    | with_reducible apply Keeps.ite

theorem execCbReplyReceive_keeps (x0 x1 x2 x3 x4 x5 x6 x7 s) : OKeeps 1493448856 s (execCbReplyReceive x0 x1 x2 x3 x4 x5 x6 x7 s) := by
  unfold execCbReplyReceive
  repeat' first
    | with_reducible exact Keeps.refl
    | (lift_lets; intro z; clear_value z)
    | with_reducible apply OKeeps.next
    | ((with_reducible show Keeps _ _ (State.cbReply _ _ _ _ _ _)); with_reducible refine Keeps.comp (State.cbReply_keeps (M := 1493448856) rfl (fun _ => ?_) ..) rfl ?_)
    | ((with_reducible apply Keeps.comp (State.cycReply_keeps ..)); · rfl)
    | split

theorem execCbSlotEnd_keeps (x0 x1 s) : OKeeps 17039368 s (execCbSlotEnd x0 x1 s) := by
  unfold execCbSlotEnd
  repeat' first
    | with_reducible exact Keeps.refl
    | (lift_lets; intro z)
    | with_reducible apply OKeeps.next
    | ((with_reducible apply Keeps.comp (State.advanceTo_keeps ..)); · rfl)
    | ((with_reducible apply Keeps.comp (State.inc_keeps ..)); · rfl)
    | ((with_reducible apply Keeps.comp (State.slotDone_keeps ..)); · rfl)
    | ((with_reducible apply Keeps.comp (State.segUpd_keeps ..)); · rfl)
    | split

theorem State.cbQueue_keeps (s x1 x2 x3 x4) : Keeps 16777216 s (State.cbQueue s x1 x2 x3 x4) := by
  unfold State.cbQueue
  repeat' first
    | with_reducible exact Keeps.refl
    | ((with_reducible apply Keeps.comp (State.segUpd_keeps ..)); · rfl)

theorem execCbAreqSlot_keeps (x0 x1 s) : OKeeps 17039368 s (execCbAreqSlot x0 x1 s) := by
  unfold execCbAreqSlot
  repeat' first
    | with_reducible exact Keeps.refl
    | (lift_lets; intro z; clear_value z)
    | with_reducible apply OKeeps.next
    | ((with_reducible apply Keeps.comp (State.advanceTo_keeps ..)); · rfl)
    | ((with_reducible apply Keeps.comp (State.segUpd_keeps ..)); · rfl)
    | ((with_reducible apply Keeps.comp (State.cbSend_keeps ..)); · rfl)
    | split

theorem State.arsp_keeps (x0 x1 s) : Keeps 1090519040 s (State.arsp x0 x1 s) := by
  unfold State.arsp
  repeat' first
    | with_reducible exact Keeps.refl
    | (lift_lets; intro z; clear_value z)
    | ((with_reducible apply Keeps.comp (State.dcpResult_keeps ..)); · rfl)
    | ((with_reducible apply Keeps.comp (State.segUpd_keeps ..)); · rfl)
    | split
    | dsimp only

theorem execCbArspReceive_keeps (x0 x1 x2 x3 x4 x5 s) : OKeeps 1090793608 s (execCbArspReceive x0 x1 x2 x3 x4 x5 s) := by
  unfold execCbArspReceive
  repeat' first
    | with_reducible exact Keeps.refl
    | (lift_lets; intro z; clear_value z)
    | with_reducible apply OKeeps.next
    | ((with_reducible show Keeps _ _ (State.cbReply _ _ _ _ _ _)); with_reducible refine Keeps.comp (State.cbReply_keeps (M := 1090793608) rfl (fun _ => ?_) ..) rfl ?_)
    | ((with_reducible apply Keeps.comp (State.arsp_keeps ..)); · rfl)
    | split

theorem execCbAreqTimeout_keeps (x0 x1 s) : OKeeps 1090519040 s (execCbAreqTimeout x0 x1 s) := by
  unfold execCbAreqTimeout
  repeat' first
    | with_reducible exact Keeps.refl
    | (lift_lets; intro z; clear_value z)
    | with_reducible apply OKeeps.next
    | ((with_reducible apply Keeps.comp (State.dcpResult_keeps ..)); · rfl)
    | ((with_reducible apply Keeps.comp (State.segUpd_keeps ..)); · rfl)
    | split

theorem execCbBabble_keeps (x0 s) : OKeeps 16777224 s (execCbBabble x0 s) := by
  unfold execCbBabble
  repeat' first
    | with_reducible exact Keeps.refl
    | (lift_lets; intro z; clear_value z)
    | with_reducible apply OKeeps.next
    | ((with_reducible apply Keeps.comp (State.wr_keeps ..)); · rfl)
    | ((with_reducible apply Keeps.comp (State.inc_keeps ..)); · rfl)
    | ((with_reducible apply Keeps.comp (State.setSeg_keeps ..)); · rfl)
    | split

theorem execCbListenOnlyFrame_keeps (x0 x1 s) : OKeeps 8 s (execCbListenOnlyFrame x0 x1 s) := by
  unfold execCbListenOnlyFrame
  repeat' first
    | with_reducible exact Keeps.refl
    | with_reducible apply OKeeps.next
    | ((with_reducible apply Keeps.comp (State.cbCount_keeps ..)); · rfl)
    | split

theorem State.cbcSnap_keeps (s) : Keeps 8 s (State.cbcSnap s) := by
  unfold State.cbcSnap
  repeat' first
    | with_reducible assumption
    | with_reducible exact Keeps.refl
    | (lift_lets; intro z)
    | ((with_reducible apply Keeps.comp (State.wr_keeps ..)); · rfl)
    | ((with_reducible apply Keeps.comp (State.setReg_keeps ..)); · rfl)
    | ((with_reducible apply Keeps.comp (State.incWrap_keeps ..)); · rfl)
    | with_reducible refine Keeps.foldl (fun _ _ _ => ?_) ?_
    | split

end Sys2Proof.Machine
end

