-- ==== Sys2Proof/Laws/KeepsSwcCore.lean ====
section
/-! SUPPORT. What each operation of Machine/SwcCore.lean leaves alone (the relation Keeps). -/

namespace Sys2Proof.Machine

theorem State.setRook_keeps (s x1 x2) : Keeps 4194304 s (State.setRook s x1 x2) := by
  unfold State.setRook
  repeat' first
    | with_reducible exact Keeps.refl
    | ((with_reducible apply Keeps.comp (State.putRooks_keeps ..)); · rfl)

theorem State.rookUpd_keeps (s x1 x2) : Keeps 4194304 s (State.rookUpd s x1 x2) := by
  unfold State.rookUpd
  repeat' first
    | with_reducible exact Keeps.refl
    | ((with_reducible apply Keeps.comp (State.setRook_keeps ..)); · rfl)

theorem State.rookEvent_keeps (s x1 x2) : Keeps 4194304 s (State.rookEvent s x1 x2) := by
  unfold State.rookEvent
  repeat' first
    | with_reducible exact Keeps.refl
    | ((with_reducible apply Keeps.comp (State.rookUpd_keeps ..)); · rfl)
    | split

theorem State.portLog_keeps (s x1 x2) : Keeps 2097152 s (State.portLog s x1 x2) := by
  unfold State.portLog
  repeat' first
    | with_reducible exact Keeps.refl
    | (lift_lets; intro z; clear_value z)
    | ((with_reducible apply Keeps.comp (State.putSwc_keeps ..)); · rfl)
    | split

theorem State.setEpcPort_keeps (s x1 x2) : Keeps 1048576 s (State.setEpcPort s x1 x2) := by
  unfold State.setEpcPort
  repeat' first
    | with_reducible exact Keeps.refl
    | ((with_reducible apply Keeps.comp (State.putEpc_keeps ..)); · rfl)

theorem State.mirror_keeps (s x1 x2 x3) : Keeps 2072 s (State.mirror s x1 x2 x3) := by
  unfold State.mirror
  repeat' first
    | with_reducible exact Keeps.refl
    | (lift_lets; intro z; clear_value z)
    | ((with_reducible apply Keeps.comp (State.inc_keeps ..)); · rfl)
    | ((with_reducible apply Keeps.comp (State.sramWrite_keeps ..)); · rfl)
    | ((with_reducible apply Keeps.comp (State.incWrap_keeps ..)); · rfl)
    | ((with_reducible apply Keeps.comp (State.wrB_keeps ..)); · rfl)
    | split

theorem State.mirDrop_keeps (s x1 x2) : Keeps 2072 s (State.mirDrop s x1 x2) := by
  unfold State.mirDrop
  repeat' first
    | with_reducible exact Keeps.refl
    | ((with_reducible apply Keeps.comp (State.mirror_keeps ..)); · rfl)
    | split

theorem State.mirCons_keeps (s x1) : Keeps 8 s (State.mirCons s x1) := by
  unfold State.mirCons
  repeat' first
    | with_reducible exact Keeps.refl
    | (lift_lets; intro z)
    | ((with_reducible apply Keeps.comp (State.wr_keeps ..)); · rfl)
    | ((with_reducible apply Keeps.comp (State.wrB_keeps ..)); · rfl)
    | ((with_reducible apply Keeps.comp (State.cfgErr_keeps ..)); · rfl)
    | split

theorem State.setSwc_keeps (s x1) : Keeps 2097152 s (State.setSwc s x1) := by
  unfold State.setSwc
  repeat' first
    | with_reducible exact Keeps.refl
    | ((with_reducible apply Keeps.comp (State.putSwc_keeps ..)); · rfl)

theorem State.putFrame_keeps (s x1 x2) : Keeps 2097152 s (State.putFrame s x1 x2) := by
  unfold State.putFrame
  repeat' first
    | with_reducible exact Keeps.refl
    | (lift_lets; intro z; clear_value z)
    | ((with_reducible apply Keeps.comp (State.setSwc_keeps ..)); · rfl)

theorem State.mirrorOnce_keeps (s x1 x2) : Keeps 2099224 s (State.mirrorOnce s x1 x2) := by
  unfold State.mirrorOnce
  repeat' first
    | with_reducible exact Keeps.refl
    | ((with_reducible apply Keeps.comp (State.putFrame_keeps ..)); · rfl)
    | ((with_reducible apply Keeps.comp (State.mirror_keeps ..)); · rfl)
    | split

theorem State.mirDropOnce_keeps (s x1 x2) : Keeps 2099224 s (State.mirDropOnce s x1 x2) := by
  unfold State.mirDropOnce
  repeat' first
    | with_reducible exact Keeps.refl
    | ((with_reducible apply Keeps.comp (State.mirrorOnce_keeps ..)); · rfl)
    | split

theorem State.setQueue_keeps (s x1 x2 x3) : Keeps 2097152 s (State.setQueue s x1 x2 x3) := by
  unfold State.setQueue
  repeat' first
    | with_reducible exact Keeps.refl
    | (lift_lets; intro z; clear_value z)
    | ((with_reducible apply Keeps.comp (State.setSwc_keeps ..)); · rfl)

theorem State.setTx_keeps (s x1 x2) : Keeps 2097152 s (State.setTx s x1 x2) := by
  unfold State.setTx
  repeat' first
    | with_reducible exact Keeps.refl
    | (lift_lets; intro z; clear_value z)
    | ((with_reducible apply Keeps.comp (State.setSwc_keeps ..)); · rfl)

theorem State.setHeld_keeps (s x1 x2) : Keeps 2097152 s (State.setHeld s x1 x2) := by
  unfold State.setHeld
  repeat' first
    | with_reducible exact Keeps.refl
    | (lift_lets; intro z; clear_value z)
    | ((with_reducible apply Keeps.comp (State.setSwc_keeps ..)); · rfl)

theorem State.freeUpdate_keeps (s) : Keeps 8 s (State.freeUpdate s) := by
  unfold State.freeUpdate
  repeat' first
    | with_reducible exact Keeps.refl
    | (lift_lets; intro z; clear_value z)
    | ((with_reducible apply Keeps.comp (State.wr_keeps ..)); · rfl)
    | with_reducible apply Keeps.ite

theorem State.rookTxStamp_keeps (s x1 x2 x3) : Keeps 4194304 s (State.rookTxStamp s x1 x2 x3) := by
  unfold State.rookTxStamp
  repeat' first
    | with_reducible exact Keeps.refl
    | (lift_lets; intro z; clear_value z)
    | ((with_reducible apply Keeps.comp (State.rookEvent_keeps ..)); · rfl)
    | ((with_reducible apply Keeps.comp (State.rookUpd_keeps ..)); · rfl)

theorem State.stampSettle_keeps (s x1) : Keeps 6291456 s (State.stampSettle s x1) := by
  unfold State.stampSettle
  repeat' first
    | with_reducible exact Keeps.refl
    | ((with_reducible apply Keeps.comp (State.rookTxStamp_keeps ..)); · rfl)
    | ((with_reducible apply Keeps.comp (State.putFrame_keeps ..)); · rfl)
    | split

theorem State.frameFree_keeps (s x1) : Keeps 2097160 s (State.frameFree s x1) := by
  unfold State.frameFree
  repeat' first
    | with_reducible exact Keeps.refl
    | (lift_lets; intro z; first | (have hz : (fun (_ : State) => True) z := trivial; clear hz) | clear_value z)
    | ((with_reducible apply Keeps.comp (State.putFrame_keeps ..)); · rfl)
    | ((with_reducible apply Keeps.comp (State.setSwc_keeps ..)); · rfl)
    | ((with_reducible apply Keeps.comp (State.freeUpdate_keeps ..)); · rfl)
    | split
    | dsimp +zetaDelta only

theorem State.frameRelease_keeps (s x1) : Keeps 6291464 s (State.frameRelease s x1) := by
  unfold State.frameRelease
  repeat' first
    | with_reducible exact Keeps.refl
    | (lift_lets; intro z)
    | ((with_reducible apply Keeps.comp (State.stampSettle_keeps ..)); · rfl)
    | ((with_reducible apply Keeps.comp (State.frameFree_keeps ..)); · rfl)
    | split

theorem State.swTxDropped_keeps (s x1) : Keeps 2097152 s (State.swTxDropped s x1) := by
  unfold State.swTxDropped
  repeat' first
    | with_reducible exact Keeps.refl
    | (lift_lets; intro z; clear_value z)
    | ((with_reducible apply Keeps.comp (State.setSwc_keeps ..)); · rfl)
    | split

theorem State.swDrop_keeps (s x1 x2 x3) : Keeps 2099224 s (State.swDrop s x1 x2 x3) := by
  unfold State.swDrop
  repeat' first
    | with_reducible exact Keeps.refl
    | ((with_reducible apply Keeps.comp (State.swTxDropped_keeps ..)); · rfl)
    | ((with_reducible apply Keeps.comp (State.mirDrop_keeps ..)); · rfl)
    | ((with_reducible apply Keeps.comp (State.inc_keeps ..)); · rfl)

theorem State.unqueue_keeps (s x1 x2 x3) : Keeps 2097152 s (State.unqueue s x1 x2 x3) := by
  unfold State.unqueue
  repeat' first
    | with_reducible exact Keeps.refl
    | ((with_reducible apply Keeps.comp (State.setQueue_keeps ..)); · rfl)

theorem State.discardCopy_keeps (s x1 x2) : Keeps 6293528 s (State.discardCopy s x1 x2) := by
  unfold State.discardCopy
  repeat' first
    | with_reducible exact Keeps.refl
    | ((with_reducible apply Keeps.comp (State.frameRelease_keeps ..)); · rfl)
    | ((with_reducible apply Keeps.comp (State.mirDropOnce_keeps ..)); · rfl)
    | ((with_reducible apply Keeps.comp (State.inc_keeps ..)); · rfl)
    | split

theorem State.swFlush_keeps (s x1) : Keeps 6293528 s (State.swFlush s x1) := by
  unfold State.swFlush
  repeat' first
    | with_reducible assumption
    | with_reducible exact Keeps.refl
    | (lift_lets; intro z; clear_value z)
    | ((with_reducible apply Keeps.comp (State.setQueue_keeps ..)); · rfl)
    | ((with_reducible apply Keeps.comp (State.discardCopy_keeps ..)); · rfl)
    | with_reducible refine Keeps.foldl (fun _ _ _ => ?_) ?_

theorem State.rxCut_keeps (s x1) : Keeps 4194304 s (State.rxCut s x1) := by
  unfold State.rxCut
  repeat' first
    | with_reducible exact Keeps.refl
    | ((with_reducible apply Keeps.comp (State.rookUpd_keeps ..)); · rfl)

theorem State.epCut_keeps (s x1) : Keeps 6291456 s (State.epCut s x1) := by
  unfold State.epCut
  repeat' first
    | with_reducible exact Keeps.refl
    | (lift_lets; intro z; clear_value z)
    | ((with_reducible apply Keeps.comp (State.rxCut_keeps ..)); · rfl)
    | ((with_reducible apply Keeps.comp (State.setSwc_keeps ..)); · rfl)
    | split

theorem State.swPortDown_keeps (s x1) : Keeps 6293528 s (State.swPortDown s x1) := by
  unfold State.swPortDown
  repeat' first
    | with_reducible assumption
    | with_reducible exact Keeps.refl
    | (lift_lets; intro z; first | (have hz : (fun (_ : State) => True) z := trivial; clear hz) | clear_value z)
    | ((with_reducible apply Keeps.comp (State.epCut_keeps ..)); · rfl)
    | ((with_reducible apply Keeps.comp (State.swFlush_keeps ..)); · rfl)
    | ((with_reducible apply Keeps.comp (State.setHeld_keeps ..)); · rfl)
    | ((with_reducible apply Keeps.comp (State.setTx_keeps ..)); · rfl)
    | ((with_reducible apply Keeps.comp (State.discardCopy_keeps ..)); · rfl)
    | with_reducible refine Keeps.foldl (fun _ _ _ => ?_) ?_

theorem State.swArrive_keeps (s x1) : Keeps 2099224 s (State.swArrive s x1) := by
  unfold State.swArrive
  repeat' first
    | with_reducible exact Keeps.refl
    | (lift_lets; intro z; clear_value z)
    | ((with_reducible apply Keeps.comp (State.swDrop_keeps ..)); · rfl)
    | ((with_reducible apply Keeps.comp (State.setSwc_keeps ..)); · rfl)
    | split

theorem State.newGen_keeps (s x1) : Keeps 2097160 s (State.newGen s x1) := by
  unfold State.newGen
  repeat' first
    | with_reducible exact Keeps.refl
    | (lift_lets; intro z; clear_value z)
    | ((with_reducible apply Keeps.comp (State.wr_keeps ..)); · rfl)
    | ((with_reducible apply Keeps.comp (State.setSwc_keeps ..)); · rfl)

theorem State.runReset_keeps (s x1) : Keeps 2097152 s (State.runReset s x1) := by
  unfold State.runReset
  repeat' first
    | with_reducible exact Keeps.refl
    | (lift_lets; intro z; clear_value z)
    | ((with_reducible apply Keeps.comp (State.setSwc_keeps ..)); · rfl)
    | split

theorem State.resetsTo_keeps (s x1) : Keeps 2097152 s (State.resetsTo s x1) := by
  unfold State.resetsTo
  repeat' first
    | with_reducible assumption
    | with_reducible exact Keeps.refl
    | (lift_lets; intro z; clear_value z)
    | ((with_reducible apply Keeps.comp (State.setSwc_keeps ..)); · rfl)
    | ((with_reducible apply Keeps.comp (State.runReset_keeps ..)); · rfl)
    | with_reducible refine Keeps.foldl (fun _ _ _ => ?_) ?_

theorem State.opReset_keeps (s x1) : Keeps 2097152 s (State.opReset s x1) := by
  unfold State.opReset
  repeat' first
    | with_reducible exact Keeps.refl
    | (lift_lets; intro z; clear_value z)
    | ((with_reducible apply Keeps.comp (State.setSwc_keeps ..)); · rfl)
    | ((with_reducible apply Keeps.comp (State.runReset_keeps ..)); · rfl)
    | split

theorem State.swCommit_keeps (s) : Keeps 2097160 s (State.swCommit s) := by
  unfold State.swCommit
  repeat' first
    | with_reducible assumption
    | with_reducible exact Keeps.refl
    | (lift_lets; intro z; clear_value z)
    | ((with_reducible apply Keeps.comp (State.wrB_keeps ..)); · rfl)
    | ((with_reducible apply Keeps.comp (State.wr_keeps ..)); · rfl)
    | ((with_reducible apply Keeps.comp (State.setSwc_keeps ..)); · rfl)
    | ((with_reducible apply Keeps.comp (State.opReset_keeps ..)); · rfl)
    | ((with_reducible apply Keeps.comp (State.newGen_keeps ..)); · rfl)
    | with_reducible refine Keeps.foldl (fun _ _ _ => ?_) ?_
    | split

theorem execSwcCommit_keeps (s) : OKeeps 2097160 s (execSwcCommit s) := by
  unfold execSwcCommit
  repeat' first
    | with_reducible exact Keeps.refl
    | with_reducible apply OKeeps.next
    | ((with_reducible apply Keeps.comp (State.swCommit_keeps ..)); · rfl)
    | split

theorem execCommitHoldRelease_keeps (s) : OKeeps 2097160 s (execCommitHoldRelease s) := by
  unfold execCommitHoldRelease
  repeat' first
    | with_reducible exact Keeps.refl
    | with_reducible apply OKeeps.next
    | ((with_reducible apply Keeps.comp (State.swCommit_keeps ..)); · rfl)
    | split

theorem State.swAbort_keeps (s) : Keeps 2097160 s (State.swAbort s) := by
  unfold State.swAbort
  repeat' first
    | with_reducible exact Keeps.refl
    | (lift_lets; intro z; clear_value z)
    | ((with_reducible apply Keeps.comp (State.wrB_keeps ..)); · rfl)
    | ((with_reducible apply Keeps.comp (State.wr_keeps ..)); · rfl)
    | ((with_reducible apply Keeps.comp (State.setSwc_keeps ..)); · rfl)

theorem execSwcAbort_keeps (s) : OKeeps 2097160 s (execSwcAbort s) := by
  unfold execSwcAbort
  repeat' first
    | with_reducible exact Keeps.refl
    | with_reducible apply OKeeps.next
    | ((with_reducible apply Keeps.comp (State.swAbort_keeps ..)); · rfl)
    | split

theorem State.updRead_keeps (s x1 x2) : Keeps 8 s (State.updRead s x1 x2) := by
  unfold State.updRead
  repeat' first
    | with_reducible assumption
    | with_reducible exact Keeps.refl
    | (lift_lets; intro z; clear_value z)
    | ((with_reducible apply Keeps.comp (State.wr_keeps ..)); · rfl)
    | ((with_reducible apply Keeps.comp (State.wrB_keeps ..)); · rfl)
    | ((with_reducible apply Keeps.comp (State.setReg_keeps ..)); · rfl)
    | with_reducible refine Keeps.foldl (fun _ _ _ => ?_) ?_
    | split

theorem State.updOp_keeps (s x1 x2 x3) : Keeps 2097160 s (State.updOp s x1 x2 x3) := by
  unfold State.updOp
  repeat' first
    | with_reducible exact Keeps.refl
    | (lift_lets; intro z; clear_value z)
    | ((with_reducible apply Keeps.comp (State.cfgErr_keeps ..)); · rfl)
    | ((with_reducible apply Keeps.comp (State.updRead_keeps ..)); · rfl)
    | ((with_reducible apply Keeps.comp (State.wr_keeps ..)); · rfl)
    | ((with_reducible apply Keeps.comp (State.wrB_keeps ..)); · rfl)
    | ((with_reducible apply Keeps.comp (State.setSwc_keeps ..)); · rfl)
    | split

theorem execUpdOp_keeps (x0 x1 x2 s) : OKeeps 2097160 s (execUpdOp x0 x1 x2 s) := by
  unfold execUpdOp
  repeat' first
    | with_reducible exact Keeps.refl
    | with_reducible apply OKeeps.next
    | ((with_reducible apply Keeps.comp (State.updOp_keeps ..)); · rfl)
    | split

theorem execUpdRead_keeps (x0 x1 s) : OKeeps 2097160 s (execUpdRead x0 x1 s) := by
  unfold execUpdRead
  repeat' first
    | with_reducible exact Keeps.refl
    | with_reducible apply OKeeps.next
    | ((with_reducible apply Keeps.comp (State.updOp_keeps ..)); · rfl)
    | split

theorem execMirConsWrite_keeps (x0 s) : OKeeps 8 s (execMirConsWrite x0 s) := by
  unfold execMirConsWrite
  repeat' first
    | with_reducible exact Keeps.refl
    | with_reducible apply OKeeps.next
    | ((with_reducible apply Keeps.comp (State.mirCons_keeps ..)); · rfl)
    | split

theorem State.learn_keeps (s x1 x2 x3 x4) : Keeps 2097160 s (State.learn s x1 x2 x3 x4) := by
  unfold State.learn
  repeat' first
    | with_reducible exact Keeps.refl
    | (lift_lets; intro z; clear_value z)
    | ((with_reducible apply Keeps.comp (State.setSwc_keeps ..)); · rfl)
    | ((with_reducible apply Keeps.comp (State.newGen_keeps ..)); · rfl)
    | split
    | with_reducible apply Keeps.ite
    | dsimp only

theorem State.ageEntry_keeps (s x1) : Keeps 2097160 s (State.ageEntry s x1) := by
  unfold State.ageEntry
  repeat' first
    | with_reducible exact Keeps.refl
    | (lift_lets; intro z; clear_value z)
    | ((with_reducible apply Keeps.comp (State.newGen_keeps ..)); · rfl)
    | ((with_reducible apply Keeps.comp (State.setSwc_keeps ..)); · rfl)
    | split

theorem State.ageAll_keeps (s) : Keeps 2097160 s (State.ageAll s) := by
  unfold State.ageAll
  repeat' first
    | with_reducible assumption
    | with_reducible exact Keeps.refl
    | (lift_lets; intro z; clear_value z)
    | ((with_reducible apply Keeps.comp (State.setSwc_keeps ..)); · rfl)
    | ((with_reducible apply Keeps.comp (State.ageEntry_keeps ..)); · rfl)
    | with_reducible refine Keeps.foldl (fun _ _ _ => ?_) ?_

theorem execAgingSweep_keeps (s) : OKeeps 2359304 s (execAgingSweep s) := by
  unfold execAgingSweep
  repeat' first
    | with_reducible exact Keeps.refl
    | with_reducible apply OKeeps.next
    | ((with_reducible apply Keeps.comp (State.ageAll_keeps ..)); · rfl)
    | ((with_reducible apply Keeps.comp (State.advanceTo_keeps ..)); · rfl)
    | split

theorem State.setGclIdx_keeps (s x1 x2) : Keeps 2097152 s (State.setGclIdx s x1 x2) := by
  unfold State.setGclIdx
  repeat' first
    | with_reducible exact Keeps.refl
    | (lift_lets; intro z; clear_value z)
    | ((with_reducible apply Keeps.comp (State.setSwc_keeps ..)); · rfl)

theorem State.gclApply_keeps (s x1) : Keeps 8 s (State.gclApply s x1) := by
  unfold State.gclApply
  repeat' first
    | with_reducible exact Keeps.refl
    | ((with_reducible apply Keeps.comp (State.cfgErr_keeps ..)); · rfl)
    | ((with_reducible apply Keeps.comp (State.wrB_keeps ..)); · rfl)
    | split

theorem execGclApply_keeps (x0 s) : OKeeps 8 s (execGclApply x0 s) := by
  unfold execGclApply
  repeat' first
    | with_reducible exact Keeps.refl
    | with_reducible apply OKeeps.next
    | ((with_reducible apply Keeps.comp (State.gclApply_keeps ..)); · rfl)
    | split

theorem State.gclHold_keeps (s x1) : Keeps 8 s (State.gclHold s x1) := by
  unfold State.gclHold
  repeat' first
    | with_reducible exact Keeps.refl
    | (lift_lets; intro z; clear_value z)
    | ((with_reducible apply Keeps.comp (State.wrB_keeps ..)); · rfl)
    | split

theorem State.gclBoundary_keeps (s x1) : Keeps 2097160 s (State.gclBoundary s x1) := by
  unfold State.gclBoundary
  repeat' first
    | with_reducible exact Keeps.refl
    | (lift_lets; intro z; clear_value z)
    | ((with_reducible apply Keeps.comp (State.setSwc_keeps ..)); · rfl)
    | ((with_reducible apply Keeps.comp (State.wrB_keeps ..)); · rfl)
    | ((with_reducible apply Keeps.comp (State.wr_keeps ..)); · rfl)
    | ((with_reducible apply Keeps.comp (State.setGclIdx_keeps ..)); · rfl)
    | ((with_reducible apply Keeps.comp (State.gclHold_keeps ..)); · rfl)
    | split
    | with_reducible apply Keeps.ite

theorem State.creditClass_keeps (s x1 x2) : Keeps 2097152 s (State.creditClass s x1 x2) := by
  unfold State.creditClass
  repeat' first
    | with_reducible exact Keeps.refl
    | (lift_lets; intro z; clear_value z)
    | ((with_reducible apply Keeps.comp (State.setSwc_keeps ..)); · rfl)

theorem State.creditPort_keeps (s x1) : Keeps 2097152 s (State.creditPort s x1) := by
  unfold State.creditPort
  repeat' first
    | with_reducible exact Keeps.refl
    | ((with_reducible apply Keeps.comp (State.creditClass_keeps ..)); · rfl)

theorem State.preemptNow_keeps (s x1) : Keeps 2097152 s (State.preemptNow s x1) := by
  unfold State.preemptNow
  repeat' first
    | with_reducible exact Keeps.refl
    | ((with_reducible apply Keeps.comp (State.setTx_keeps ..)); · rfl)
    | ((with_reducible apply Keeps.comp (State.setHeld_keeps ..)); · rfl)
    | split

theorem execGclEntryAdvance_keeps (x0 s) : OKeeps 2359304 s (execGclEntryAdvance x0 s) := by
  unfold execGclEntryAdvance
  repeat' first
    | with_reducible exact Keeps.refl
    | (lift_lets; intro z; clear_value z)
    | with_reducible apply OKeeps.next
    | ((with_reducible apply Keeps.comp (State.creditPort_keeps ..)); · rfl)
    | ((with_reducible apply Keeps.comp (State.advanceTo_keeps ..)); · rfl)
    | ((with_reducible apply Keeps.comp (State.preemptNow_keeps ..)); · rfl)
    | ((with_reducible apply Keeps.comp (State.gclHold_keeps ..)); · rfl)
    | ((with_reducible apply Keeps.comp (State.setGclIdx_keeps ..)); · rfl)
    | with_reducible apply OKeeps.ite

theorem execStreamGateAdvance_keeps (x0 s) : OKeeps 262152 s (execStreamGateAdvance x0 s) := by
  unfold execStreamGateAdvance
  repeat' first
    | with_reducible exact Keeps.refl
    | (lift_lets; intro z; clear_value z)
    | with_reducible apply OKeeps.next
    | ((with_reducible apply Keeps.comp (State.advanceTo_keeps ..)); · rfl)
    | with_reducible apply OKeeps.ite

theorem State.swcBoundary_keeps (s) : Keeps 2097160 s (State.swcBoundary s) := by
  unfold State.swcBoundary
  repeat' first
    | with_reducible assumption
    | with_reducible exact Keeps.refl
    | ((with_reducible apply Keeps.comp (State.preemptNow_keeps ..)); · rfl)
    | ((with_reducible apply Keeps.comp (State.gclBoundary_keeps ..)); · rfl)
    | ((with_reducible apply Keeps.comp (State.creditPort_keeps ..)); · rfl)
    | with_reducible refine Keeps.foldl (fun _ _ _ => ?_) ?_

end Sys2Proof.Machine
end

