-- ==== Sys2Proof/Laws/KeepsSwcIngress.lean ====
section
/-! SUPPORT. What each operation of Machine/SwcIngress.lean leaves alone (the relation Keeps). -/

namespace Sys2Proof.Machine

theorem State.meterRun_keeps (s x1 x2 x3) : Keeps 2097152 s (State.meterRun s x1 x2 x3).2 := by
  unfold State.meterRun
  repeat' first
    | with_reducible exact Keeps.refl
    | (lift_lets; intro z; clear_value z)
    | ((with_reducible apply Keeps.comp (State.setSwc_keeps ..)); · rfl)
    | split
    | with_reducible apply Keeps.snd_ite

theorem State.meterRun_out {s x1 x2 x3 y0 y1} (h : State.meterRun s x1 x2 x3 = (y0, y1)) : Keeps 2097152 s y1 := by
  have := State.meterRun_keeps s x1 x2 x3; rw [h] at this; exact this

theorem State.streamFilter_keeps (s x1 x2 x3 x4) : Keeps 2097160 s (State.streamFilter s x1 x2 x3 x4).2.2.2 := by
  unfold State.streamFilter
  repeat' first
    | with_reducible exact Keeps.refl
    | (lift_lets; intro z; clear_value z)
    | ((with_reducible apply Keeps.comp (State.inc_keeps ..)); · rfl)
    | ((with_reducible apply Keeps.comp (State.setSwc_keeps ..)); · rfl)
    | ((with_reducible apply Keeps.comp (State.meterRun_keeps ..)); · rfl)
    | split
    | dsimp only

theorem State.streamFilter_out {s x1 x2 x3 x4 y0 y1 y2 y3} (h : State.streamFilter s x1 x2 x3 x4 = (y0, y1, y2, y3)) : Keeps 2097160 s y3 := by
  have := State.streamFilter_keeps s x1 x2 x3 x4; rw [h] at this; exact this

theorem State.frerRun_keeps (s x1 x2 x3) : Keeps 2097160 s (State.frerRun s x1 x2 x3).2.2.2 := by
  unfold State.frerRun
  repeat' first
    | with_reducible exact Keeps.refl
    | (lift_lets; intro z; clear_value z)
    | ((with_reducible apply Keeps.comp (State.setSwc_keeps ..)); · rfl)
    | ((with_reducible apply Keeps.comp (State.inc_keeps ..)); · rfl)
    | split
    | dsimp only

theorem State.frerRun_out {s x1 x2 x3 y0 y1 y2 y3} (h : State.frerRun s x1 x2 x3 = (y0, y1, y2, y3)) : Keeps 2097160 s y3 := by
  have := State.frerRun_keeps s x1 x2 x3; rw [h] at this; exact this

theorem execFrerRecoveryReset_keeps (x0 s) : OKeeps 2359304 s (execFrerRecoveryReset x0 s) := by
  unfold execFrerRecoveryReset
  repeat' first
    | with_reducible exact Keeps.refl
    | (lift_lets; intro z; clear_value z)
    | with_reducible apply OKeeps.next
    | ((with_reducible apply Keeps.comp (State.advanceTo_keeps ..)); · rfl)
    | ((with_reducible apply Keeps.comp (State.setSwc_keeps ..)); · rfl)
    | with_reducible apply OKeeps.ite

theorem State.cutStart_keeps (s x1 x2 x3) : Keeps 2097152 s (State.cutStart s x1 x2 x3) := by
  unfold State.cutStart
  repeat' first
    | with_reducible exact Keeps.refl
    | (lift_lets; intro z)
    | ((with_reducible apply Keeps.comp (State.setHeld_keeps ..)); · rfl)
    | ((with_reducible apply Keeps.comp (State.setTx_keeps ..)); · rfl)
    | split
    | dsimp +zetaDelta only

theorem State.enqueueCopy_keeps (s x1 x2 x3) : Keeps 2097152 s (State.enqueueCopy s x1 x2 x3) := by
  unfold State.enqueueCopy
  repeat' first
    | with_reducible exact Keeps.refl
    | (lift_lets; intro z)
    | ((with_reducible apply Keeps.comp (State.creditPort_keeps ..)); · rfl)
    | ((with_reducible apply Keeps.comp (State.cutStart_keeps ..)); · rfl)
    | ((with_reducible apply Keeps.comp (State.putFrame_keeps ..)); · rfl)
    | ((with_reducible apply Keeps.comp (State.setQueue_keeps ..)); · rfl)
    | split
    | with_reducible apply Keeps.ite

theorem State.placeCopy_keeps (s x1 x2) : Keeps 2099224 s (State.placeCopy s x1 x2) := by
  unfold State.placeCopy
  repeat' first
    | with_reducible exact Keeps.refl
    | (lift_lets; intro z; clear_value z)
    | ((with_reducible apply Keeps.comp (State.mirDropOnce_keeps ..)); · rfl)
    | ((with_reducible apply Keeps.comp (State.inc_keeps ..)); · rfl)
    | ((with_reducible apply Keeps.comp (State.enqueueCopy_keeps ..)); · rfl)
    | split

theorem State.swForward_keeps (s x1) : Keeps 6293528 s (State.swForward s x1) := by
  unfold State.swForward
  repeat' first
    | with_reducible assumption
    | with_reducible exact Keeps.refl
    | (lift_lets; intro z; clear_value z)
    | ((with_reducible apply Keeps.comp (State.swDrop_keeps ..)); · rfl)
    | ((with_reducible apply Keeps.comp (State.setSwc_keeps ..)); · rfl)
    | ((with_reducible apply Keeps.comp (State.freeUpdate_keeps ..)); · rfl)
    | ((with_reducible apply Keeps.comp (State.putFrame_keeps ..)); · rfl)
    | ((with_reducible apply Keeps.comp (State.placeCopy_keeps ..)); · rfl)
    | ((with_reducible apply Keeps.comp (State.mirDropOnce_keeps ..)); · rfl)
    | ((with_reducible apply Keeps.comp (State.inc_keeps ..)); · rfl)
    | ((with_reducible apply Keeps.comp (State.frameRelease_keeps ..)); · rfl)
    | with_reducible refine Keeps.foldl (fun _ _ _ => ?_) ?_
    | split

theorem State.mirIngress_keeps (s x1 x2) : Keeps 2072 s (State.mirIngress s x1 x2) := by
  unfold State.mirIngress
  repeat' first
    | with_reducible exact Keeps.refl
    | (lift_lets; intro z)
    | ((with_reducible apply Keeps.comp (State.mirror_keeps ..)); · rfl)
    | split
    | with_reducible apply Keeps.ite

theorem State.swStreamStage_keeps (s x1 x2 x3) : Keeps 2097160 s (State.swStreamStage s x1 x2 x3).2.2.2 := by
  unfold State.swStreamStage
  repeat' first
    | with_reducible exact Keeps.refl
    | ((with_reducible apply Keeps.comp (State.streamFilter_keeps ..)); · rfl)
    | split

theorem State.swStreamStage_out {s x1 x2 x3 y0 y1 y2 y3} (h : State.swStreamStage s x1 x2 x3 = (y0, y1, y2, y3)) : Keeps 2097160 s y3 := by
  have := State.swStreamStage_keeps s x1 x2 x3; rw [h] at this; exact this

theorem State.swFrerStage_keeps (s x1 x2) : Keeps 2097160 s (State.swFrerStage s x1 x2).2.2.2 := by
  unfold State.swFrerStage
  repeat' first
    | with_reducible exact Keeps.refl
    | ((with_reducible apply Keeps.comp (State.frerRun_keeps ..)); · rfl)
    | split

theorem State.swFrerStage_out {s x1 x2 y0 y1 y2 y3} (h : State.swFrerStage s x1 x2 = (y0, y1, y2, y3)) : Keeps 2097160 s y3 := by
  have := State.swFrerStage_keeps s x1 x2; rw [h] at this; exact this

theorem State.swDeliver_keeps (s x1) : Keeps 6293528 s (State.swDeliver s x1) := by
  unfold State.swDeliver
  repeat' first
    | with_reducible exact Keeps.refl
    | (lift_lets; intro z; clear_value z)
    | ((with_reducible apply Keeps.comp (State.swDrop_keeps ..)); · rfl)
    | ((with_reducible apply Keeps.comp (State.swTxDropped_keeps ..)); · rfl)
    | ((with_reducible apply Keeps.comp (State.swForward_keeps ..)); · rfl)
    | split
    | with_reducible apply Keeps.ite

theorem State.swAfterFilter_keeps (s x1 x2) : Keeps 6293528 s (State.swAfterFilter s x1 x2) := by
  unfold State.swAfterFilter
  repeat' first
    | with_reducible exact Keeps.refl
    | (lift_lets; intro z; first | (have hz : (fun (_ : State) => True) z.2.2.2 := trivial; clear hz) | clear_value z)
    | ((with_reducible apply Keeps.comp (State.swFrerStage_keeps ..)); · rfl)
    | ((with_reducible apply Keeps.comp (State.swTxDropped_keeps ..)); · rfl)
    | ((with_reducible apply Keeps.comp (State.swDeliver_keeps ..)); · rfl)
    | split

theorem State.swDecided_keeps (s x1 x2 x3) : Keeps 6293528 s (State.swDecided s x1 x2 x3) := by
  unfold State.swDecided
  repeat' first
    | with_reducible exact Keeps.refl
    | (lift_lets; intro z; first | (have hz : (fun (_ : State) => True) z.2.2.2 := trivial; clear hz) | clear_value z)
    | ((with_reducible apply Keeps.comp (State.swStreamStage_keeps ..)); · rfl)
    | ((with_reducible apply Keeps.comp (State.swTxDropped_keeps ..)); · rfl)
    | ((with_reducible apply Keeps.comp (State.mirDrop_keeps ..)); · rfl)
    | ((with_reducible apply Keeps.comp (State.swAfterFilter_keeps ..)); · rfl)
    | split

theorem State.swIngress_keeps (s x1 x2) : Keeps 6293528 s (State.swIngress s x1 x2) := by
  unfold State.swIngress
  repeat' first
    | with_reducible exact Keeps.refl
    | (lift_lets; intro z; clear_value z)
    | ((with_reducible apply Keeps.comp (State.learn_keeps ..)); · rfl)
    | ((with_reducible apply Keeps.comp (State.mirIngress_keeps ..)); · rfl)
    | ((with_reducible apply Keeps.comp (State.swDrop_keeps ..)); · rfl)
    | ((with_reducible apply Keeps.comp (State.swDecided_keeps ..)); · rfl)
    | split

theorem State.swTaken_keeps (s x1) : Keeps 2097152 s (State.swTaken s x1) := by
  unfold State.swTaken
  repeat' first
    | with_reducible exact Keeps.refl
    | (lift_lets; intro z; clear_value z)
    | ((with_reducible apply Keeps.comp (State.setSwc_keeps ..)); · rfl)

theorem State.swIdle_keeps (s) : Keeps 2097152 s (State.swIdle s) := by
  unfold State.swIdle
  repeat' first
    | with_reducible exact Keeps.refl
    | (lift_lets; intro z; first | (have hz : (fun (_ : State) => True) z := trivial; clear hz) | clear_value z)
    | ((with_reducible apply Keeps.comp (State.resetsTo_keeps ..)); · rfl)
    | ((with_reducible apply Keeps.comp (State.setSwc_keeps ..)); · rfl)

theorem State.swTake_keeps (s x1 x2) : Keeps 6293528 s (State.swTake s x1 x2) := by
  unfold State.swTake
  repeat' first
    | with_reducible exact Keeps.refl
    | (lift_lets; intro z)
    | ((with_reducible apply Keeps.comp (State.swIngress_keeps ..)); · rfl)
    | ((with_reducible apply Keeps.comp (State.swTaken_keeps ..)); · rfl)
    | ((with_reducible apply Keeps.comp (State.resetsTo_keeps ..)); · rfl)
    | ((with_reducible apply Keeps.comp (State.swIdle_keeps ..)); · rfl)
    | split

theorem execSwcFrameIngress_keeps (s) : OKeeps 6555672 s (execSwcFrameIngress s) := by
  unfold execSwcFrameIngress
  repeat' first
    | with_reducible exact Keeps.refl
    | with_reducible apply OKeeps.next
    | ((with_reducible apply Keeps.comp (State.swTake_keeps ..)); · rfl)
    | ((with_reducible apply Keeps.comp (State.advanceTo_keeps ..)); · rfl)
    | split

theorem State.starved_keeps (s x1 x2 x3) : Keeps 6293528 s (State.starved s x1 x2 x3) := by
  unfold State.starved
  repeat' first
    | with_reducible exact Keeps.refl
    | (lift_lets; intro z)
    | ((with_reducible apply Keeps.comp (State.mirDropOnce_keeps ..)); · rfl)
    | ((with_reducible apply Keeps.comp (State.inc_keeps ..)); · rfl)
    | ((with_reducible apply Keeps.comp (State.frameRelease_keeps ..)); · rfl)
    | ((with_reducible apply Keeps.comp (State.unqueue_keeps ..)); · rfl)
    | ((with_reducible apply Keeps.comp (State.creditPort_keeps ..)); · rfl)

theorem execGateStarve_keeps (x0 x1 s) : OKeeps 6555672 s (execGateStarve x0 x1 s) := by
  unfold execGateStarve
  repeat' first
    | with_reducible exact Keeps.refl
    | (lift_lets; intro z)
    | with_reducible apply OKeeps.next
    | ((with_reducible apply Keeps.comp (State.advanceTo_keeps ..)); · rfl)
    | ((with_reducible apply Keeps.comp (State.starved_keeps ..)); · rfl)
    | split

theorem State.wireStomp_keeps (s x1) : Keeps 2097152 s (State.wireStomp s x1) := by
  unfold State.wireStomp
  repeat' first
    | with_reducible assumption
    | with_reducible exact Keeps.refl
    | (lift_lets; intro z; clear_value z)
    | ((with_reducible apply Keeps.comp (State.setSwc_keeps ..)); · rfl)
    | with_reducible refine Keeps.foldl (fun _ _ _ => ?_) ?_
    | split

theorem State.swRecover_keeps (s) : Keeps 6817816 s (State.swRecover s) := by
  unfold State.swRecover
  repeat' first
    | with_reducible assumption
    | with_reducible exact Keeps.refl
    | (lift_lets; intro z; first | (have hz : (fun (_ : State) => True) z := trivial; clear hz) | clear_value z)
    | ((with_reducible apply Keeps.comp (State.wireStomp_keeps ..)); · rfl)
    | ((with_reducible apply Keeps.comp (State.epCut_keeps ..)); · rfl)
    | ((with_reducible apply Keeps.comp (State.setSwc_keeps ..)); · rfl)
    | ((with_reducible apply Keeps.comp (State.swDrop_keeps ..)); · rfl)
    | ((with_reducible apply Keeps.comp (State.freeUpdate_keeps ..)); · rfl)
    | ((with_reducible apply Keeps.comp (State.discardCopy_keeps ..)); · rfl)
    | ((with_reducible apply Keeps.comp (State.swIdle_keeps ..)); · rfl)
    | ((with_reducible apply Keeps.comp (State.putImage_keeps ..)); · rfl)
    | with_reducible refine Keeps.foldl (fun _ _ _ => ?_) ?_

theorem execFreeListAudit_keeps (x0 s) : OKeeps 1075851400 s (execFreeListAudit x0 s) := by
  unfold execFreeListAudit
  repeat' first
    | with_reducible exact Keeps.refl
    | (lift_lets; intro z; clear_value z)
    | with_reducible apply OKeeps.next
    | ((with_reducible apply Keeps.comp (State.setSwc_keeps ..)); · rfl)
    | ((with_reducible apply Keeps.comp (State.safeStopFault_keeps ..)); · rfl)
    | ((with_reducible apply Keeps.comp (State.logEvent_keeps ..)); · rfl)
    | split

theorem execSwcRecovery_keeps (s) : OKeeps 1080572056 s (execSwcRecovery s) := by
  unfold execSwcRecovery
  repeat' first
    | with_reducible exact Keeps.refl
    | (lift_lets; intro z)
    | with_reducible apply OKeeps.next
    | ((with_reducible apply Keeps.comp (State.safeStopFault_keeps ..)); · rfl)
    | ((with_reducible apply Keeps.comp (State.logEvent_keeps ..)); · rfl)
    | ((with_reducible apply Keeps.comp (State.swRecover_keeps ..)); · rfl)
    | split
    | with_reducible apply Keeps.ite

end Sys2Proof.Machine
end

