-- ==== Sys2Proof/Laws/KeepsEpc.lean ====
section
/-! SUPPORT. What each operation of Machine/Epc.lean leaves alone (the relation Keeps). -/

namespace Sys2Proof.Machine

theorem State.portStart_keeps (s x1) : Keeps 1048584 s (State.portStart s x1) := by
  unfold State.portStart
  repeat' first
    | with_reducible exact Keeps.refl
    | (lift_lets; intro z; first | (have hz : (fun (_ : State) => True) z := trivial; clear hz) | clear_value z)
    | ((with_reducible apply Keeps.comp (State.wr_keeps ..)); · rfl)
    | ((with_reducible apply Keeps.comp (State.setEpcPort_keeps ..)); · rfl)

theorem State.portEnable_keeps (s x1) : Keeps 1048584 s (State.portEnable s x1) := by
  unfold State.portEnable
  repeat' first
    | with_reducible exact Keeps.refl
    | (lift_lets; intro z)
    | ((with_reducible apply Keeps.comp (State.wrB_keeps ..)); · rfl)
    | ((with_reducible apply Keeps.comp (State.portStart_keeps ..)); · rfl)
    | split

theorem execPortEnable_keeps (x0 s) : OKeeps 1048584 s (execPortEnable x0 s) := by
  unfold execPortEnable
  repeat' first
    | with_reducible exact Keeps.refl
    | with_reducible apply OKeeps.next
    | ((with_reducible apply Keeps.comp (State.portEnable_keeps ..)); · rfl)
    | split

theorem State.rxDiscard_keeps (s x1) : Keeps 2097152 s (State.rxDiscard s x1) := by
  unfold State.rxDiscard
  repeat' first
    | with_reducible exact Keeps.refl
    | (lift_lets; intro z; clear_value z)
    | ((with_reducible apply Keeps.comp (State.setSwc_keeps ..)); · rfl)

theorem State.preOff_keeps (s x1) : Keeps 8 s (State.preOff s x1) := by
  unfold State.preOff
  repeat' first
    | with_reducible exact Keeps.refl
    | ((with_reducible apply Keeps.comp (State.wrB_keeps ..)); · rfl)

theorem State.portDisable_keeps (s x1) : Keeps 6293528 s (State.portDisable s x1) := by
  unfold State.portDisable
  repeat' first
    | with_reducible exact Keeps.refl
    | (lift_lets; intro z)
    | ((with_reducible apply Keeps.comp (State.wrB_keeps ..)); · rfl)
    | ((with_reducible apply Keeps.comp (State.wr_keeps ..)); · rfl)
    | ((with_reducible apply Keeps.comp (State.preOff_keeps ..)); · rfl)
    | ((with_reducible apply Keeps.comp (State.swFlush_keeps ..)); · rfl)
    | ((with_reducible apply Keeps.comp (State.rxDiscard_keeps ..)); · rfl)
    | split

theorem execPortDisable_keeps (x0 s) : OKeeps 6293528 s (execPortDisable x0 s) := by
  unfold execPortDisable
  repeat' first
    | with_reducible exact Keeps.refl
    | with_reducible apply OKeeps.next
    | ((with_reducible apply Keeps.comp (State.portDisable_keeps ..)); · rfl)
    | split

theorem execPortStopDone_keeps (x0 s) : OKeeps 1048584 s (execPortStopDone x0 s) := by
  unfold execPortStopDone
  repeat' first
    | with_reducible exact Keeps.refl
    | (lift_lets; intro z; clear_value z)
    | with_reducible apply OKeeps.next
    | ((with_reducible apply Keeps.comp (State.setReg_keeps ..)); · rfl)
    | ((with_reducible apply Keeps.comp (State.setEpcPort_keeps ..)); · rfl)
    | ((with_reducible apply Keeps.comp (State.portStart_keeps ..)); · rfl)
    | split

theorem execPortCalibrationDone_keeps (x0 s) : OKeeps 1048584 s (execPortCalibrationDone x0 s) := by
  unfold execPortCalibrationDone
  repeat' first
    | with_reducible exact Keeps.refl
    | (lift_lets; intro z; first | (have hz : (fun (_ : State) => True) z := trivial; clear hz) | clear_value z)
    | with_reducible apply OKeeps.next
    | ((with_reducible apply Keeps.comp (State.wr_keeps ..)); · rfl)
    | ((with_reducible apply Keeps.comp (State.setEpcPort_keeps ..)); · rfl)
    | split

theorem execLinkUp_keeps (x0 s) : OKeeps 1048584 s (execLinkUp x0 s) := by
  unfold execLinkUp
  repeat' first
    | with_reducible exact Keeps.refl
    | (lift_lets; intro z; first | (have hz : (fun (_ : State) => True) z := trivial; clear hz) | clear_value z)
    | with_reducible apply OKeeps.next
    | ((with_reducible apply Keeps.comp (State.wrB_keeps ..)); · rfl)
    | ((with_reducible apply Keeps.comp (State.wr_keeps ..)); · rfl)
    | ((with_reducible apply Keeps.comp (State.setEpcPort_keeps ..)); · rfl)
    | split

theorem State.linkDown_keeps (s x1) : Keeps 7342104 s (State.linkDown s x1) := by
  unfold State.linkDown
  repeat' first
    | with_reducible exact Keeps.refl
    | (lift_lets; intro z; first | (have hz : (fun (_ : State) => True) z := trivial; clear hz) | clear_value z)
    | ((with_reducible apply Keeps.comp (State.inc_keeps ..)); · rfl)
    | ((with_reducible apply Keeps.comp (State.wr_keeps ..)); · rfl)
    | ((with_reducible apply Keeps.comp (State.preOff_keeps ..)); · rfl)
    | ((with_reducible apply Keeps.comp (State.wrB_keeps ..)); · rfl)
    | ((with_reducible apply Keeps.comp (State.swPortDown_keeps ..)); · rfl)
    | ((with_reducible apply Keeps.comp (State.setEpcPort_keeps ..)); · rfl)

theorem execLinkDown_keeps (x0 s) : OKeeps 7342104 s (execLinkDown x0 s) := by
  unfold execLinkDown
  repeat' first
    | with_reducible exact Keeps.refl
    | with_reducible apply OKeeps.next
    | ((with_reducible apply Keeps.comp (State.linkDown_keeps ..)); · rfl)
    | split

theorem execNegotiationFail_keeps (x0 s) : OKeeps 8 s (execNegotiationFail x0 s) := by
  unfold execNegotiationFail
  repeat' first
    | with_reducible exact Keeps.refl
    | with_reducible apply OKeeps.next
    | ((with_reducible apply Keeps.comp (State.wrB_keeps ..)); · rfl)
    | split

theorem execPreemptVerifyDone_keeps (x0 s) : OKeeps 8 s (execPreemptVerifyDone x0 s) := by
  unfold execPreemptVerifyDone
  repeat' first
    | with_reducible exact Keeps.refl
    | with_reducible apply OKeeps.next
    | ((with_reducible apply Keeps.comp (State.wrB_keeps ..)); · rfl)
    | split

theorem execSpeedStep_keeps (x0 s) : OKeeps 7604248 s (execSpeedStep x0 s) := by
  unfold execSpeedStep
  repeat' first
    | with_reducible exact Keeps.refl
    | (lift_lets; intro z; clear_value z)
    | with_reducible apply OKeeps.next
    | ((with_reducible apply Keeps.comp (State.advanceTo_keeps ..)); · rfl)
    | ((with_reducible apply Keeps.comp (State.inc_keeps ..)); · rfl)
    | ((with_reducible apply Keeps.comp (State.wr_keeps ..)); · rfl)
    | ((with_reducible apply Keeps.comp (State.swPortDown_keeps ..)); · rfl)
    | ((with_reducible apply Keeps.comp (State.setEpcPort_keeps ..)); · rfl)
    | split
    | with_reducible apply OKeeps.ite

theorem State.shiftHeads_keeps (s x1 x2) : Keeps 2097152 s (State.shiftHeads s x1 x2) := by
  unfold State.shiftHeads
  repeat' first
    | with_reducible exact Keeps.refl
    | (lift_lets; intro z; clear_value z)
    | ((with_reducible apply Keeps.comp (State.setSwc_keeps ..)); · rfl)

theorem State.pauseEnd_keeps (s x1) : Keeps 2097160 s (State.pauseEnd s x1) := by
  unfold State.pauseEnd
  repeat' first
    | with_reducible exact Keeps.refl
    | ((with_reducible apply Keeps.comp (State.shiftHeads_keeps ..)); · rfl)
    | ((with_reducible apply Keeps.comp (State.wrB_keeps ..)); · rfl)
    | ((with_reducible apply Keeps.comp (State.creditPort_keeps ..)); · rfl)
    | split

theorem State.pauseRx_keeps (s x1 x2) : Keeps 3145736 s (State.pauseRx s x1 x2) := by
  unfold State.pauseRx
  repeat' first
    | with_reducible exact Keeps.refl
    | (lift_lets; intro z; first | (have hz : (fun (_ : State) => True) z := trivial; clear hz) | clear_value z)
    | ((with_reducible apply Keeps.comp (State.creditPort_keeps ..)); · rfl)
    | ((with_reducible apply Keeps.comp (State.inc_keeps ..)); · rfl)
    | ((with_reducible apply Keeps.comp (State.setEpcPort_keeps ..)); · rfl)
    | ((with_reducible apply Keeps.comp (State.pauseEnd_keeps ..)); · rfl)
    | ((with_reducible apply Keeps.comp (State.wrB_keeps ..)); · rfl)
    | split

theorem State.pauseArm_keeps (s x1) : Keeps 1048576 s (State.pauseArm s x1) := by
  unfold State.pauseArm
  repeat' first
    | with_reducible exact Keeps.refl
    | (lift_lets; intro z; clear_value z)
    | ((with_reducible apply Keeps.comp (State.setEpcPort_keeps ..)); · rfl)
    | split

theorem execPauseExpire_keeps (x0 s) : OKeeps 2359304 s (execPauseExpire x0 s) := by
  unfold execPauseExpire
  repeat' first
    | with_reducible exact Keeps.refl
    | with_reducible apply OKeeps.next
    | ((with_reducible apply Keeps.comp (State.pauseEnd_keeps ..)); · rfl)
    | ((with_reducible apply Keeps.comp (State.advanceTo_keeps ..)); · rfl)
    | split

theorem State.rxAsym_keeps (s x1 x2) : Keeps 8 s (State.rxAsym s x1 x2).2 := by
  unfold State.rxAsym
  repeat' first
    | with_reducible exact Keeps.refl
    | (lift_lets; intro z; clear_value z)
    | ((with_reducible apply Keeps.comp (State.inc_keeps ..)); · rfl)
    | split

theorem State.rxAsym_out {s x1 x2 y0 y1} (h : State.rxAsym s x1 x2 = (y0, y1)) : Keeps 8 s y1 := by
  have := State.rxAsym_keeps s x1 x2; rw [h] at this; exact this

theorem State.macBad_keeps (s x1 x2 x3) : Keeps 2099224 s (State.macBad s x1 x2 x3) := by
  unfold State.macBad
  repeat' first
    | with_reducible exact Keeps.refl
    | ((with_reducible apply Keeps.comp (State.swArrive_keeps ..)); · rfl)
    | split

theorem State.macCtrl_keeps (s x1 x2) : Keeps 3145736 s (State.macCtrl s x1 x2) := by
  unfold State.macCtrl
  repeat' first
    | with_reducible exact Keeps.refl
    | ((with_reducible apply Keeps.comp (State.pauseRx_keeps ..)); · rfl)
    | ((with_reducible apply Keeps.comp (State.inc_keeps ..)); · rfl)
    | split

theorem State.macReceive_keeps (s x1 x2 x3 x4) : Keeps 3147800 s (State.macReceive s x1 x2 x3 x4) := by
  unfold State.macReceive
  repeat' first
    | with_reducible exact Keeps.refl
    | (lift_lets; intro z; clear_value z)
    | ((with_reducible apply Keeps.comp (State.macBad_keeps ..)); · rfl)
    | ((with_reducible apply Keeps.comp (State.inc_keeps ..)); · rfl)
    | ((with_reducible apply Keeps.comp (State.macCtrl_keeps ..)); · rfl)
    | ((with_reducible apply Keeps.comp (State.rxAsym_keeps ..)); · rfl)
    | ((with_reducible apply Keeps.comp (State.swArrive_keeps ..)); · rfl)
    | split

theorem execMacFrameReceive_keeps (x0 x1 x2 x3 s) : OKeeps 3147800 s (execMacFrameReceive x0 x1 x2 x3 s) := by
  unfold execMacFrameReceive
  repeat' first
    | with_reducible exact Keeps.refl
    | with_reducible apply OKeeps.next
    | ((with_reducible apply Keeps.comp (State.macReceive_keeps ..)); · rfl)
    | split

theorem State.thrRaise_keeps (s x1) : Keeps 8 s (State.thrRaise s x1) := by
  unfold State.thrRaise
  repeat' first
    | with_reducible exact Keeps.refl
    | (lift_lets; intro z; clear_value z)
    | ((with_reducible apply Keeps.comp (State.wr_keeps ..)); · rfl)
    | split

theorem State.wireCut_keeps (s x1 x2 x3) : Keeps 2097152 s (State.wireCut s x1 x2 x3) := by
  unfold State.wireCut
  repeat' first
    | with_reducible exact Keeps.refl
    | (lift_lets; intro z; clear_value z)
    | ((with_reducible apply Keeps.comp (State.setSwc_keeps ..)); · rfl)
    | split

theorem execTxUnderrun_keeps (x0 s) : OKeeps 7340040 s (execTxUnderrun x0 s) := by
  unfold execTxUnderrun
  repeat' first
    | with_reducible exact Keeps.refl
    | (lift_lets; intro z; first | (have hz : (fun (_ : State) => True) z := trivial; clear hz) | clear_value z)
    | with_reducible apply OKeeps.next
    | ((with_reducible apply Keeps.comp (State.thrRaise_keeps ..)); · rfl)
    | ((with_reducible apply Keeps.comp (State.wireCut_keeps ..)); · rfl)
    | ((with_reducible apply Keeps.comp (State.creditPort_keeps ..)); · rfl)
    | ((with_reducible apply Keeps.comp (State.inc_keeps ..)); · rfl)
    | ((with_reducible apply Keeps.comp (State.pauseArm_keeps ..)); · rfl)
    | ((with_reducible apply Keeps.comp (State.frameRelease_keeps ..)); · rfl)
    | ((with_reducible apply Keeps.comp (State.setTx_keeps ..)); · rfl)
    | split

theorem execEpcCntRead_keeps (x0 s) : OKeeps 2147483656 s (execEpcCntRead x0 s) := by
  unfold execEpcCntRead
  repeat' first
    | with_reducible exact Keeps.refl
    | with_reducible apply OKeeps.next
    | ((with_reducible apply Keeps.comp (State.putReadData_keeps ..)); · rfl)
    | ((with_reducible apply Keeps.comp (State.setReg_keeps ..)); · rfl)
    | split

end Sys2Proof.Machine
end

