-- ==== Sys2Proof/Laws/KeepsRook.lean ====
section
/-! SUPPORT. What each operation of Machine/Rook.lean leaves alone (the relation Keeps). -/

namespace Sys2Proof.Machine

theorem State.setSpeca_keeps (s x1 x2) : Keeps 4194312 s (State.setSpeca s x1 x2) := by
  unfold State.setSpeca
  repeat' first
    | with_reducible exact Keeps.refl
    | ((with_reducible apply Keeps.comp (State.wrB_keeps ..)); · rfl)
    | ((with_reducible apply Keeps.comp (State.rookUpd_keeps ..)); · rfl)

theorem State.rookSquash_keeps (s x1) : Keeps 541065224 s (State.rookSquash s x1) := by
  unfold State.rookSquash
  repeat' first
    | with_reducible exact Keeps.refl
    | (lift_lets; intro z; clear_value z)
    | ((with_reducible apply Keeps.comp (State.setRook_keeps ..)); · rfl)
    | ((with_reducible apply Keeps.comp (State.pqRegionSquash_keeps ..)); · rfl)
    | ((with_reducible apply Keeps.comp (State.setSpeca_keeps ..)); · rfl)
    | split

theorem State.rookSquashCnt_keeps (s x1) : Keeps 541065224 s (State.rookSquashCnt s x1) := by
  unfold State.rookSquashCnt
  repeat' first
    | with_reducible exact Keeps.refl
    | ((with_reducible apply Keeps.comp (State.inc_keeps ..)); · rfl)
    | ((with_reducible apply Keeps.comp (State.rookSquash_keeps ..)); · rfl)
    | split

theorem State.epCheck_keeps (s x1) : Keeps 6293528 s (State.epCheck s x1) := by
  unfold State.epCheck
  repeat' first
    | with_reducible exact Keeps.refl
    | (lift_lets; intro z; clear_value z)
    | ((with_reducible apply Keeps.comp (State.swPortDown_keeps ..)); · rfl)
    | split

theorem State.rookHalt_keeps (s x1 x2 x3 x4) : Keeps 1080113304 s (State.rookHalt s x1 x2 x3 x4) := by
  unfold State.rookHalt
  repeat' first
    | with_reducible exact Keeps.refl
    | (lift_lets; intro z)
    | intro z
    | ((with_reducible apply Keeps.comp (State.wr_keeps ..)); · rfl)
    | ((with_reducible apply Keeps.comp (State.setIstat_keeps ..)); · rfl)
    | ((with_reducible apply Keeps.comp (State.epCheck_keeps ..)); · rfl)
    | ((with_reducible apply Keeps.comp (State.logEvent_keeps ..)); · rfl)
    | ((with_reducible apply Keeps.comp (State.safeStopFault_keeps ..)); · rfl)
    | split

theorem State.rookTrap_keeps (s x1 x2 x3) : Keeps 1616984216 s (State.rookTrap s x1 x2 x3) := by
  unfold State.rookTrap
  repeat' first
    | with_reducible exact Keeps.refl
    | (lift_lets; intro z; clear_value z)
    | ((with_reducible apply Keeps.comp (State.rookHalt_keeps ..)); · rfl)
    | ((with_reducible apply Keeps.comp (State.rookSquashCnt_keeps ..)); · rfl)
    | ((with_reducible apply Keeps.comp (State.setRook_keeps ..)); · rfl)
    | split

theorem State.rookSquashVector_keeps (s x1) : Keeps 541065224 s (State.rookSquashVector s x1) := by
  unfold State.rookSquashVector
  repeat' first
    | with_reducible exact Keeps.refl
    | (lift_lets; intro z; clear_value z)
    | ((with_reducible apply Keeps.comp (State.rookSquashCnt_keeps ..)); · rfl)
    | ((with_reducible apply Keeps.comp (State.setRook_keeps ..)); · rfl)

theorem State.rookSquashNow_keeps (s x1) : Keeps 541065224 s (State.rookSquashNow s x1) := by
  unfold State.rookSquashNow
  repeat' first
    | with_reducible exact Keeps.refl
    | (lift_lets; intro z)
    | ((with_reducible apply Keeps.comp (State.rookUpd_keeps ..)); · rfl)
    | ((with_reducible apply Keeps.comp (State.rookSquashVector_keeps ..)); · rfl)
    | split

theorem State.rookIssue_keeps {M : Nat} (hm : (1616984216 &&& M == 1616984216) = true) {body} (hf : ∀ s r, Keeps M s (body s r)) (s x1) : Keeps M s (State.rookIssue s x1 body) := by
  unfold State.rookIssue
  repeat' first
    | with_reducible exact Keeps.refl
    | ((with_reducible apply Keeps.comp (hf _ _)); · exact sub_self _)
    | (lift_lets; intro z; clear_value z)
    | ((with_reducible apply Keeps.comp (State.setRook_keeps ..)); · exact sub_trans rfl hm)
    | ((with_reducible apply Keeps.comp (State.rookTrap_keeps ..)); · exact sub_trans rfl hm)
    | ((with_reducible apply Keeps.comp (State.rookSquashNow_keeps ..)); · exact sub_trans rfl hm)
    | split
    | with_reducible apply Keeps.ite

theorem State.rookAlu_keeps (s x1 x2 x3 x4) : Keeps 1616984216 s (State.rookAlu s x1 x2 x3 x4) := by
  unfold State.rookAlu
  repeat' first
    | with_reducible exact Keeps.refl
    | (lift_lets; intro z; clear_value z)
    | ((with_reducible show Keeps _ _ (State.rookIssue _ _ _)); with_reducible refine Keeps.comp (State.rookIssue_keeps (M := 1616984216) rfl (fun _ _ => ?_) ..) rfl ?_)
    | ((with_reducible apply Keeps.comp (State.setRook_keeps ..)); · rfl)

theorem State.rookBranch_keeps (s x1 x2 x3) : Keeps 1616984216 s (State.rookBranch s x1 x2 x3) := by
  unfold State.rookBranch
  repeat' first
    | with_reducible exact Keeps.refl
    | ((with_reducible show Keeps _ _ (State.rookIssue _ _ _)); with_reducible refine Keeps.comp (State.rookIssue_keeps (M := 1616984216) rfl (fun _ _ => ?_) ..) rfl ?_)
    | ((with_reducible apply Keeps.comp (State.rookTrap_keeps ..)); · rfl)
    | ((with_reducible apply Keeps.comp (State.setRook_keeps ..)); · rfl)
    | split

theorem State.rookCall_keeps (s x1 x2 x3) : Keeps 1616984216 s (State.rookCall s x1 x2 x3) := by
  unfold State.rookCall
  repeat' first
    | with_reducible exact Keeps.refl
    | (lift_lets; intro z; clear_value z)
    | ((with_reducible show Keeps _ _ (State.rookIssue _ _ _)); with_reducible refine Keeps.comp (State.rookIssue_keeps (M := 1616984216) rfl (fun _ _ => ?_) ..) rfl ?_)
    | ((with_reducible apply Keeps.comp (State.rookTrap_keeps ..)); · rfl)
    | ((with_reducible apply Keeps.comp (State.setRook_keeps ..)); · rfl)
    | split

theorem State.rookRet_keeps (s x1 x2) : Keeps 1616984216 s (State.rookRet s x1 x2) := by
  unfold State.rookRet
  repeat' first
    | with_reducible exact Keeps.refl
    | (lift_lets; intro z; clear_value z)
    | ((with_reducible show Keeps _ _ (State.rookIssue _ _ _)); with_reducible refine Keeps.comp (State.rookIssue_keeps (M := 1616984216) rfl (fun _ _ => ?_) ..) rfl ?_)
    | ((with_reducible apply Keeps.comp (State.rookTrap_keeps ..)); · rfl)
    | ((with_reducible apply Keeps.comp (State.setRook_keeps ..)); · rfl)
    | split
    | with_reducible apply Keeps.ite

theorem State.dWrite_keeps (s x1 x2 x3 x4) : Keeps 64 s (State.dWrite s x1 x2 x3 x4) := by
  unfold State.dWrite
  repeat' first
    | with_reducible exact Keeps.refl
    | ((with_reducible show Keeps _ _ (State.putPmem _ _)); (with_reducible refine Keeps.comp (State.putPmem_keeps _ ?_) ?_ ?_); (· (intro hw; repeat' first | with_reducible assumption | with_reducible apply memPutBytes_wf | with_reducible apply memFilter_wf | with_reducible apply fillMem_wf | with_reducible apply putPart_wf | (with_reducible apply memPut_wf) | (with_reducible refine memFold_wf (fun _ _ _ => ?_) _ ?_) | split | exact hw | exact mapWf_filter _ _ hw | rfl)); (· rfl))

theorem State.rookBuffer_keeps (s x1 x2) : Keeps 4194312 s (State.rookBuffer s x1 x2) := by
  unfold State.rookBuffer
  repeat' first
    | with_reducible exact Keeps.refl
    | (lift_lets; intro z; clear_value z)
    | ((with_reducible apply Keeps.comp (State.inc_keeps ..)); · rfl)
    | ((with_reducible apply Keeps.comp (State.rookUpd_keeps ..)); · rfl)
    | ((with_reducible apply Keeps.comp (State.setRook_keeps ..)); · rfl)
    | split

theorem State.rookLoad_keeps (s x1 x2 x3 x4 x5 x6) : Keeps 1616984216 s (State.rookLoad s x1 x2 x3 x4 x5 x6) := by
  unfold State.rookLoad
  repeat' first
    | with_reducible exact Keeps.refl
    | (lift_lets; intro z; clear_value z)
    | ((with_reducible show Keeps _ _ (State.rookIssue _ _ _)); with_reducible refine Keeps.comp (State.rookIssue_keeps (M := 1616984216) rfl (fun _ _ => ?_) ..) rfl ?_)
    | ((with_reducible apply Keeps.comp (State.rookTrap_keeps ..)); · rfl)
    | ((with_reducible apply Keeps.comp (State.setRook_keeps ..)); · rfl)
    | split

theorem State.rookStore_keeps (s x1 x2 x3 x4 x5) : Keeps 1616984280 s (State.rookStore s x1 x2 x3 x4 x5) := by
  unfold State.rookStore
  repeat' first
    | with_reducible exact Keeps.refl
    | (lift_lets; intro z; clear_value z)
    | ((with_reducible show Keeps _ _ (State.rookIssue _ _ _)); with_reducible refine Keeps.comp (State.rookIssue_keeps (M := 1616984280) rfl (fun _ _ => ?_) ..) rfl ?_)
    | ((with_reducible apply Keeps.comp (State.rookTrap_keeps ..)); · rfl)
    | ((with_reducible apply Keeps.comp (State.rookBuffer_keeps ..)); · rfl)
    | ((with_reducible apply Keeps.comp (State.dWrite_keeps ..)); · rfl)
    | ((with_reducible apply Keeps.comp (State.rookUpd_keeps ..)); · rfl)
    | split

theorem State.txEnter_keeps (s x1 x2) : Keeps 6293528 s (State.txEnter s x1 x2) := by
  unfold State.txEnter
  repeat' first
    | with_reducible exact Keeps.refl
    | (lift_lets; intro z; clear_value z)
    | ((with_reducible apply Keeps.comp (State.rookEvent_keeps ..)); · rfl)
    | ((with_reducible apply Keeps.comp (State.rookUpd_keeps ..)); · rfl)
    | ((with_reducible apply Keeps.comp (State.swArrive_keeps ..)); · rfl)
    | with_reducible apply Keeps.ite

theorem State.txIgnored_keeps (s x1 x2) : Keeps 4194312 s (State.txIgnored s x1 x2) := by
  unfold State.txIgnored
  repeat' first
    | with_reducible exact Keeps.refl
    | ((with_reducible apply Keeps.comp (State.inc_keeps ..)); · rfl)
    | ((with_reducible apply Keeps.comp (State.rookUpd_keeps ..)); · rfl)

theorem State.lioErr_keeps (s x1) : Keeps 8 s (State.lioErr s x1) := by
  unfold State.lioErr
  repeat' first
    | with_reducible exact Keeps.refl
    | ((with_reducible apply Keeps.comp (State.wrB_keeps ..)); · rfl)

theorem State.txCmd_keeps (s x1 x2 x3) : Keeps 6293528 s (State.txCmd s x1 x2 x3) := by
  unfold State.txCmd
  repeat' first
    | with_reducible exact Keeps.refl
    | (lift_lets; intro z; clear_value z)
    | ((with_reducible apply Keeps.comp (State.txIgnored_keeps ..)); · rfl)
    | ((with_reducible apply Keeps.comp (State.lioErr_keeps ..)); · rfl)
    | ((with_reducible apply Keeps.comp (State.rookUpd_keeps ..)); · rfl)
    | ((with_reducible apply Keeps.comp (State.txEnter_keeps ..)); · rfl)
    | split
    | with_reducible apply Keeps.ite

theorem State.rxRelease_keeps (s x1) : Keeps 4194304 s (State.rxRelease s x1) := by
  unfold State.rxRelease
  repeat' first
    | with_reducible exact Keeps.refl
    | (lift_lets; intro z; clear_value z)
    | ((with_reducible apply Keeps.comp (State.setRook_keeps ..)); · rfl)
    | with_reducible apply Keeps.ite

theorem State.lioMqfIn_keeps (s x1 x2) : Keeps 537473032 s (State.lioMqfIn s x1 x2).2 := by
  unfold State.lioMqfIn
  repeat' first
    | with_reducible exact Keeps.refl
    | ((with_reducible apply Keeps.comp (semTake_keeps ..)); · rfl)
    | ((with_reducible apply Keeps.comp (pqPop_keeps ..)); · rfl)
    | split

theorem State.lioMqfIn_out {s x1 x2 y0 y1} (h : State.lioMqfIn s x1 x2 = (y0, y1)) : Keeps 537473032 s y1 := by
  have := State.lioMqfIn_keeps s x1 x2; rw [h] at this; exact this

theorem State.lioPqCtl_keeps (s x1 x2 x3 x4) : Keeps 536872984 s (State.lioPqCtl s x1 x2 x3 x4) := by
  unfold State.lioPqCtl
  repeat' first
    | with_reducible exact Keeps.refl
    | ((with_reducible apply Keeps.comp (pqCtl_keeps ..)); · rfl)

theorem State.lioPqOut_keeps (s x1 x2 x3) : Keeps 536872984 s (State.lioPqOut s x1 x2 x3) := by
  unfold State.lioPqOut
  repeat' first
    | with_reducible exact Keeps.refl
    | (lift_lets; intro z; clear_value z)
    | ((with_reducible apply Keeps.comp (pqWrite_keeps ..)); · rfl)
    | ((with_reducible apply Keeps.comp (State.lioPqCtl_keeps ..)); · rfl)
    | split

theorem State.lioMbOut_keeps (s x1 x2 x3 x4) : Keeps 536936456 s (State.lioMbOut s x1 x2 x3 x4) := by
  unfold State.lioMbOut
  repeat' first
    | with_reducible exact Keeps.refl
    | (lift_lets; intro z; clear_value z)
    | ((with_reducible apply Keeps.comp (mbPost_keeps ..)); · rfl)
    | ((with_reducible apply Keeps.comp (mbAck_keeps ..)); · rfl)
    | ((with_reducible apply Keeps.comp (State.setReg_keeps ..)); · rfl)
    | split

theorem State.lioMqfOut_keeps (s x1 x2 x3) : Keeps 541132824 s (State.lioMqfOut s x1 x2 x3) := by
  unfold State.lioMqfOut
  repeat' first
    | with_reducible exact Keeps.refl
    | (lift_lets; intro z; clear_value z)
    | ((with_reducible apply Keeps.comp (semRelease_keeps ..)); · rfl)
    | ((with_reducible apply Keeps.comp (State.setRook_keeps ..)); · rfl)
    | ((with_reducible apply Keeps.comp (State.wr_keeps ..)); · rfl)
    | ((with_reducible apply Keeps.comp (State.lioMbOut_keeps ..)); · rfl)
    | ((with_reducible apply Keeps.comp (State.lioPqOut_keeps ..)); · rfl)
    | split

theorem State.lioIn_keeps (s x1 x2) : Keeps 537473032 s (State.lioIn s x1 x2).2 := by
  unfold State.lioIn
  repeat' first
    | with_reducible exact Keeps.refl
    | (lift_lets; intro z; clear_value z)
    | ((with_reducible apply Keeps.comp (State.lioMqfIn_keeps ..)); · rfl)
    | split

theorem State.lioIn_out {s x1 x2 y0 y1} (h : State.lioIn s x1 x2 = (y0, y1)) : Keeps 537473032 s y1 := by
  have := State.lioIn_keeps s x1 x2; rw [h] at this; exact this

theorem State.pcrcInit_keeps (s x1 x2) : Keeps 4194304 s (State.pcrcInit s x1 x2) := by
  unfold State.pcrcInit
  repeat' first
    | with_reducible exact Keeps.refl
    | (lift_lets; intro z; clear_value z)
    | ((with_reducible apply Keeps.comp (State.rookUpd_keeps ..)); · rfl)

theorem State.pcrcFeed_keeps (s x1 x2) : Keeps 4194304 s (State.pcrcFeed s x1 x2) := by
  unfold State.pcrcFeed
  repeat' first
    | with_reducible exact Keeps.refl
    | ((with_reducible apply Keeps.comp (State.rookUpd_keeps ..)); · rfl)

theorem State.evClr_keeps (s x1 x2) : Keeps 4194304 s (State.evClr s x1 x2) := by
  unfold State.evClr
  repeat' first
    | with_reducible exact Keeps.refl
    | ((with_reducible apply Keeps.comp (State.rookUpd_keeps ..)); · rfl)

theorem State.txPut_keeps (s x1 x2 x3 x4) : Keeps 4194312 s (State.txPut s x1 x2 x3 x4) := by
  unfold State.txPut
  repeat' first
    | with_reducible exact Keeps.refl
    | ((with_reducible apply Keeps.comp (State.txIgnored_keeps ..)); · rfl)
    | ((with_reducible apply Keeps.comp (State.rookUpd_keeps ..)); · rfl)
    | split

theorem State.lioOut_keeps (s x1 x2 x3) : Keeps 543229976 s (State.lioOut s x1 x2 x3) := by
  unfold State.lioOut
  repeat' first
    | with_reducible exact Keeps.refl
    | ((with_reducible apply Keeps.comp (State.txPut_keeps ..)); · rfl)
    | ((with_reducible apply Keeps.comp (State.lioMqfOut_keeps ..)); · rfl)
    | ((with_reducible apply Keeps.comp (State.evClr_keeps ..)); · rfl)
    | ((with_reducible apply Keeps.comp (State.rookUpd_keeps ..)); · rfl)
    | ((with_reducible apply Keeps.comp (State.rxRelease_keeps ..)); · rfl)
    | ((with_reducible apply Keeps.comp (State.wr_keeps ..)); · rfl)
    | ((with_reducible apply Keeps.comp (State.lioErr_keeps ..)); · rfl)
    | ((with_reducible apply Keeps.comp (State.pcrcInit_keeps ..)); · rfl)
    | ((with_reducible apply Keeps.comp (State.pcrcFeed_keeps ..)); · rfl)
    | ((with_reducible apply Keeps.comp (State.txCmd_keeps ..)); · rfl)
    | split

theorem State.piRead_keeps (s x1 x2) : Keeps 602120 s (State.piRead s x1 x2).2 := by
  unfold State.piRead
  repeat' first
    | with_reducible exact Keeps.refl
    | (lift_lets; intro z; clear_value z)
    | ((with_reducible apply Keeps.comp (State.sramRead_keeps ..)); · rfl)
    | split

theorem State.piRead_out {s x1 x2 y0 y1} (h : State.piRead s x1 x2 = (y0, y1)) : Keeps 602120 s y1 := by
  have := State.piRead_keeps s x1 x2; rw [h] at this; exact this

theorem State.drainLand_keeps (s x1 x2) : Keeps 402655256 s (State.drainLand s x1 x2) := by
  unfold State.drainLand
  repeat' first
    | with_reducible assumption
    | with_reducible exact Keeps.refl
    | (lift_lets; intro z; clear_value z)
    | ((with_reducible apply Keeps.comp (State.sramWrite_keeps ..)); · rfl)
    | ((with_reducible apply Keeps.comp (State.setFresh_keeps ..)); · rfl)
    | ((with_reducible apply Keeps.comp (State.incBy_keeps ..)); · rfl)
    | with_reducible refine Keeps.foldl (fun _ _ _ => ?_) ?_

theorem State.drainsLand_keeps (s x1 x2) : Keeps 406849560 s (State.drainsLand s x1 x2) := by
  induction x2 generalizing s x1 with
  | nil => exact Keeps.refl
  | cons a n ih =>
    unfold State.drainsLand
    repeat' first
      | with_reducible exact Keeps.refl
      | ((with_reducible apply Keeps.comp (ih ..)); · rfl)
      | ((with_reducible apply Keeps.comp (State.rookEvent_keeps ..)); · rfl)
      | ((with_reducible apply Keeps.comp (State.drainLand_keeps ..)); · rfl)
      | ((with_reducible apply Keeps.comp (State.rookUpd_keeps ..)); · rfl)

theorem State.portOrder_keeps (s x1) : Keeps 406849560 s (State.portOrder s x1) := by
  unfold State.portOrder
  repeat' first
    | with_reducible exact Keeps.refl
    | ((with_reducible apply Keeps.comp (State.drainsLand_keeps ..)); · rfl)

theorem State.rookLioIn_keeps (s x1 x2 x3) : Keeps 541667336 s (State.rookLioIn s x1 x2 x3) := by
  unfold State.rookLioIn
  repeat' first
    | with_reducible exact Keeps.refl
    | ((with_reducible apply Keeps.comp (State.lioIn_keeps ..)); · rfl)
    | ((with_reducible apply Keeps.comp (State.setRook_keeps ..)); · rfl)

theorem State.rookPiIn_keeps (s x1 x2 x3) : Keeps 407451672 s (State.rookPiIn s x1 x2 x3) := by
  unfold State.rookPiIn
  repeat' first
    | with_reducible exact Keeps.refl
    | (lift_lets; intro z)
    | ((with_reducible refine Keeps.comp (State.piRead_out (by with_reducible assumption)) ?_ ?_); · rfl)
    | ((with_reducible apply Keeps.comp (State.portOrder_keeps ..)); · rfl)
    | ((with_reducible apply Keeps.comp (State.setRook_keeps ..)); · rfl)
    | ((with_reducible apply Keeps.comp (State.inc_keeps ..)); · rfl)
    | split

theorem State.rookIn_keeps (s x1 x2 x3 x4) : Keeps 2020161688 s (State.rookIn s x1 x2 x3 x4) := by
  unfold State.rookIn
  repeat' first
    | with_reducible exact Keeps.refl
    | (lift_lets; intro z; clear_value z)
    | ((with_reducible show Keeps _ _ (State.rookIssue _ _ _)); with_reducible refine Keeps.comp (State.rookIssue_keeps (M := 2020161688) rfl (fun _ _ => ?_) ..) rfl ?_)
    | ((with_reducible apply Keeps.comp (State.rookTrap_keeps ..)); · rfl)
    | ((with_reducible apply Keeps.comp (State.rookLioIn_keeps ..)); · rfl)
    | ((with_reducible apply Keeps.comp (State.rookPiIn_keeps ..)); · rfl)
    | split

theorem State.rookPiOut_keeps (s x1 x2 x3) : Keeps 406849560 s (State.rookPiOut s x1 x2 x3) := by
  unfold State.rookPiOut
  repeat' first
    | with_reducible exact Keeps.refl
    | (lift_lets; intro z)
    | intro z
    | ((with_reducible apply Keeps.comp (State.portOrder_keeps ..)); · rfl)
    | ((with_reducible apply Keeps.comp (State.sramWrite_keeps ..)); · rfl)
    | ((with_reducible apply Keeps.comp (State.setRook_keeps ..)); · rfl)
    | ((with_reducible apply Keeps.comp (State.inc_keeps ..)); · rfl)
    | split

theorem State.rookOut_keeps (s x1 x2 x3 x4) : Keeps 2019637400 s (State.rookOut s x1 x2 x3 x4) := by
  unfold State.rookOut
  repeat' first
    | with_reducible exact Keeps.refl
    | (lift_lets; intro z; clear_value z)
    | ((with_reducible show Keeps _ _ (State.rookIssue _ _ _)); with_reducible refine Keeps.comp (State.rookIssue_keeps (M := 2019637400) rfl (fun _ _ => ?_) ..) rfl ?_)
    | ((with_reducible apply Keeps.comp (State.rookTrap_keeps ..)); · rfl)
    | ((with_reducible apply Keeps.comp (State.rookUpd_keeps ..)); · rfl)
    | ((with_reducible apply Keeps.comp (State.lioOut_keeps ..)); · rfl)
    | ((with_reducible apply Keeps.comp (State.rookBuffer_keeps ..)); · rfl)
    | ((with_reducible apply Keeps.comp (State.rookPiOut_keeps ..)); · rfl)
    | split

end Sys2Proof.Machine
end

