-- ==== Sys2Proof/Laws/KeepsRookCtl.lean ====
section
/-! SUPPORT. What each operation of Machine/RookCtl.lean leaves alone (the relation Keeps). -/

namespace Sys2Proof.Machine

theorem execLdb_keeps (x0 x1 x2 x3 s) : OKeeps 1616984216 s (execLdb x0 x1 x2 x3 s) := by
  unfold execLdb
  repeat' first
    | with_reducible exact Keeps.refl
    | with_reducible apply OKeeps.next
    | ((with_reducible apply Keeps.comp (State.rookLoad_keeps ..)); · rfl)

theorem execLdh_keeps (x0 x1 x2 x3 s) : OKeeps 1616984216 s (execLdh x0 x1 x2 x3 s) := by
  unfold execLdh
  repeat' first
    | with_reducible exact Keeps.refl
    | with_reducible apply OKeeps.next
    | ((with_reducible apply Keeps.comp (State.rookLoad_keeps ..)); · rfl)

theorem execLdw_keeps (x0 x1 x2 x3 s) : OKeeps 1616984216 s (execLdw x0 x1 x2 x3 s) := by
  unfold execLdw
  repeat' first
    | with_reducible exact Keeps.refl
    | with_reducible apply OKeeps.next
    | ((with_reducible apply Keeps.comp (State.rookLoad_keeps ..)); · rfl)

theorem execLdd_keeps (x0 x1 x2 x3 s) : OKeeps 1616984216 s (execLdd x0 x1 x2 x3 s) := by
  unfold execLdd
  repeat' first
    | with_reducible exact Keeps.refl
    | with_reducible apply OKeeps.next
    | ((with_reducible apply Keeps.comp (State.rookLoad_keeps ..)); · rfl)

theorem execLdbs_keeps (x0 x1 x2 x3 s) : OKeeps 1616984216 s (execLdbs x0 x1 x2 x3 s) := by
  unfold execLdbs
  repeat' first
    | with_reducible exact Keeps.refl
    | with_reducible apply OKeeps.next
    | ((with_reducible apply Keeps.comp (State.rookLoad_keeps ..)); · rfl)

theorem execLdhs_keeps (x0 x1 x2 x3 s) : OKeeps 1616984216 s (execLdhs x0 x1 x2 x3 s) := by
  unfold execLdhs
  repeat' first
    | with_reducible exact Keeps.refl
    | with_reducible apply OKeeps.next
    | ((with_reducible apply Keeps.comp (State.rookLoad_keeps ..)); · rfl)

theorem execLdws_keeps (x0 x1 x2 x3 s) : OKeeps 1616984216 s (execLdws x0 x1 x2 x3 s) := by
  unfold execLdws
  repeat' first
    | with_reducible exact Keeps.refl
    | with_reducible apply OKeeps.next
    | ((with_reducible apply Keeps.comp (State.rookLoad_keeps ..)); · rfl)

theorem execStb_keeps (x0 x1 x2 x3 s) : OKeeps 1616984280 s (execStb x0 x1 x2 x3 s) := by
  unfold execStb
  repeat' first
    | with_reducible exact Keeps.refl
    | with_reducible apply OKeeps.next
    | ((with_reducible apply Keeps.comp (State.rookStore_keeps ..)); · rfl)

theorem execSth_keeps (x0 x1 x2 x3 s) : OKeeps 1616984280 s (execSth x0 x1 x2 x3 s) := by
  unfold execSth
  repeat' first
    | with_reducible exact Keeps.refl
    | with_reducible apply OKeeps.next
    | ((with_reducible apply Keeps.comp (State.rookStore_keeps ..)); · rfl)

theorem execStw_keeps (x0 x1 x2 x3 s) : OKeeps 1616984280 s (execStw x0 x1 x2 x3 s) := by
  unfold execStw
  repeat' first
    | with_reducible exact Keeps.refl
    | with_reducible apply OKeeps.next
    | ((with_reducible apply Keeps.comp (State.rookStore_keeps ..)); · rfl)

theorem execStd_keeps (x0 x1 x2 x3 s) : OKeeps 1616984280 s (execStd x0 x1 x2 x3 s) := by
  unfold execStd
  repeat' first
    | with_reducible exact Keeps.refl
    | with_reducible apply OKeeps.next
    | ((with_reducible apply Keeps.comp (State.rookStore_keeps ..)); · rfl)

theorem execIoIn_keeps (x0 x1 x2 x3 s) : OKeeps 2020161688 s (execIoIn x0 x1 x2 x3 s) := by
  unfold execIoIn
  repeat' first
    | with_reducible exact Keeps.refl
    | with_reducible apply OKeeps.next
    | ((with_reducible apply Keeps.comp (State.rookIn_keeps ..)); · rfl)

theorem execIoOut_keeps (x0 x1 x2 x3 s) : OKeeps 2019637400 s (execIoOut x0 x1 x2 x3 s) := by
  unfold execIoOut
  repeat' first
    | with_reducible exact Keeps.refl
    | with_reducible apply OKeeps.next
    | ((with_reducible apply Keeps.comp (State.rookOut_keeps ..)); · rfl)

theorem State.rookWait_keeps (s x1 x2 x3) : Keeps 1616984216 s (State.rookWait s x1 x2 x3) := by
  unfold State.rookWait
  repeat' first
    | with_reducible exact Keeps.refl
    | (lift_lets; intro z; clear_value z)
    | ((with_reducible show Keeps _ _ (State.rookIssue _ _ _)); with_reducible refine Keeps.comp (State.rookIssue_keeps (M := 1616984216) rfl (fun _ _ => ?_) ..) rfl ?_)
    | ((with_reducible apply Keeps.comp (State.rookTrap_keeps ..)); · rfl)
    | ((with_reducible apply Keeps.comp (State.setRook_keeps ..)); · rfl)
    | split

theorem execWait_keeps (x0 x1 x2 s) : OKeeps 1616984216 s (execWait x0 x1 x2 s) := by
  unfold execWait
  repeat' first
    | with_reducible exact Keeps.refl
    | with_reducible apply OKeeps.next
    | ((with_reducible apply Keeps.comp (State.rookWait_keeps ..)); · rfl)

theorem execWaitWake_keeps (x0 x1 s) : OKeeps 4194304 s (execWaitWake x0 x1 s) := by
  unfold execWaitWake
  repeat' first
    | with_reducible exact Keeps.refl
    | (lift_lets; intro z; clear_value z)
    | with_reducible apply OKeeps.next
    | ((with_reducible apply Keeps.comp (State.setRook_keeps ..)); · rfl)
    | split
    | with_reducible apply OKeeps.ite

theorem execBeq_keeps (x0 x1 x2 x3 s) : OKeeps 1616984216 s (execBeq x0 x1 x2 x3 s) := by
  unfold execBeq
  repeat' first
    | with_reducible exact Keeps.refl
    | with_reducible apply OKeeps.next
    | ((with_reducible apply Keeps.comp (State.rookBranch_keeps ..)); · rfl)

theorem execBne_keeps (x0 x1 x2 x3 s) : OKeeps 1616984216 s (execBne x0 x1 x2 x3 s) := by
  unfold execBne
  repeat' first
    | with_reducible exact Keeps.refl
    | with_reducible apply OKeeps.next
    | ((with_reducible apply Keeps.comp (State.rookBranch_keeps ..)); · rfl)

theorem execBlt_keeps (x0 x1 x2 x3 s) : OKeeps 1616984216 s (execBlt x0 x1 x2 x3 s) := by
  unfold execBlt
  repeat' first
    | with_reducible exact Keeps.refl
    | with_reducible apply OKeeps.next
    | ((with_reducible apply Keeps.comp (State.rookBranch_keeps ..)); · rfl)

theorem execBge_keeps (x0 x1 x2 x3 s) : OKeeps 1616984216 s (execBge x0 x1 x2 x3 s) := by
  unfold execBge
  repeat' first
    | with_reducible exact Keeps.refl
    | with_reducible apply OKeeps.next
    | ((with_reducible apply Keeps.comp (State.rookBranch_keeps ..)); · rfl)

theorem execBltu_keeps (x0 x1 x2 x3 s) : OKeeps 1616984216 s (execBltu x0 x1 x2 x3 s) := by
  unfold execBltu
  repeat' first
    | with_reducible exact Keeps.refl
    | with_reducible apply OKeeps.next
    | ((with_reducible apply Keeps.comp (State.rookBranch_keeps ..)); · rfl)

theorem execBgeu_keeps (x0 x1 x2 x3 s) : OKeeps 1616984216 s (execBgeu x0 x1 x2 x3 s) := by
  unfold execBgeu
  repeat' first
    | with_reducible exact Keeps.refl
    | with_reducible apply OKeeps.next
    | ((with_reducible apply Keeps.comp (State.rookBranch_keeps ..)); · rfl)

theorem execJmp_keeps (x0 x1 s) : OKeeps 1616984216 s (execJmp x0 x1 s) := by
  unfold execJmp
  repeat' first
    | with_reducible exact Keeps.refl
    | with_reducible apply OKeeps.next
    | ((with_reducible apply Keeps.comp (State.rookBranch_keeps ..)); · rfl)

theorem execCall_keeps (x0 x1 s) : OKeeps 1616984216 s (execCall x0 x1 s) := by
  unfold execCall
  repeat' first
    | with_reducible exact Keeps.refl
    | with_reducible apply OKeeps.next
    | ((with_reducible apply Keeps.comp (State.rookCall_keeps ..)); · rfl)

theorem execJr_keeps (x0 x1 s) : OKeeps 1616984216 s (execJr x0 x1 s) := by
  unfold execJr
  repeat' first
    | with_reducible exact Keeps.refl
    | with_reducible apply OKeeps.next
    | ((with_reducible apply Keeps.comp (State.rookBranch_keeps ..)); · rfl)

theorem execCallr_keeps (x0 x1 s) : OKeeps 1616984216 s (execCallr x0 x1 s) := by
  unfold execCallr
  repeat' first
    | with_reducible exact Keeps.refl
    | with_reducible apply OKeeps.next
    | ((with_reducible apply Keeps.comp (State.rookCall_keeps ..)); · rfl)

theorem execRet_keeps (x0 s) : OKeeps 1616984216 s (execRet x0 s) := by
  unfold execRet
  repeat' first
    | with_reducible exact Keeps.refl
    | with_reducible apply OKeeps.next
    | ((with_reducible apply Keeps.comp (State.rookRet_keeps ..)); · rfl)

theorem execMfs_keeps (x0 x1 x2 s) : OKeeps 1616984216 s (execMfs x0 x1 x2 s) := by
  unfold execMfs
  repeat' first
    | with_reducible exact Keeps.refl
    | with_reducible apply OKeeps.next
    | ((with_reducible show Keeps _ _ (State.rookIssue _ _ _)); with_reducible refine Keeps.comp (State.rookIssue_keeps (M := 1616984216) rfl (fun _ _ => ?_) ..) rfl ?_)
    | ((with_reducible apply Keeps.comp (State.rookTrap_keeps ..)); · rfl)
    | ((with_reducible apply Keeps.comp (State.setRook_keeps ..)); · rfl)
    | split

theorem execMts_keeps (x0 x1 x2 s) : OKeeps 1616984216 s (execMts x0 x1 x2 s) := by
  unfold execMts
  repeat' first
    | with_reducible exact Keeps.refl
    | (lift_lets; intro z; clear_value z)
    | with_reducible apply OKeeps.next
    | ((with_reducible show Keeps _ _ (State.rookIssue _ _ _)); with_reducible refine Keeps.comp (State.rookIssue_keeps (M := 1616984216) rfl (fun _ _ => ?_) ..) rfl ?_)
    | ((with_reducible apply Keeps.comp (State.setRook_keeps ..)); · rfl)
    | ((with_reducible apply Keeps.comp (State.rookTrap_keeps ..)); · rfl)
    | split

theorem State.rookCommit_keeps (s x1) : Keeps 541067352 s (State.rookCommit s x1) := by
  unfold State.rookCommit
  repeat' first
    | with_reducible assumption
    | with_reducible exact Keeps.refl
    | (lift_lets; intro z; clear_value z)
    | ((with_reducible apply Keeps.comp (State.dWrite_keeps ..)); · rfl)
    | ((with_reducible apply Keeps.comp (State.inc_keeps ..)); · rfl)
    | ((with_reducible apply Keeps.comp (State.setSpeca_keeps ..)); · rfl)
    | ((with_reducible apply Keeps.comp (State.setRook_keeps ..)); · rfl)
    | ((with_reducible apply Keeps.comp (State.pqRegionCommit_keeps ..)); · rfl)
    | with_reducible refine Keeps.foldl (fun _ _ _ => ?_) ?_
    | split

theorem State.rookVerdict_keeps (s x1 x2) : Keeps 541067352 s (State.rookVerdict s x1 x2) := by
  unfold State.rookVerdict
  repeat' first
    | with_reducible exact Keeps.refl
    | ((with_reducible apply Keeps.comp (State.rookCommit_keeps ..)); · rfl)
    | ((with_reducible apply Keeps.comp (State.rookSquashVector_keeps ..)); · rfl)
    | split

theorem execSpec_keeps (x0 s) : OKeeps 1616984280 s (execSpec x0 s) := by
  unfold execSpec
  repeat' first
    | with_reducible exact Keeps.refl
    | (lift_lets; intro z; clear_value z)
    | with_reducible apply OKeeps.next
    | ((with_reducible show Keeps _ _ (State.rookIssue _ _ _)); with_reducible refine Keeps.comp (State.rookIssue_keeps (M := 1616984280) rfl (fun _ _ => ?_) ..) rfl ?_)
    | ((with_reducible apply Keeps.comp (State.rookTrap_keeps ..)); · rfl)
    | ((with_reducible apply Keeps.comp (State.setSpeca_keeps ..)); · rfl)
    | ((with_reducible apply Keeps.comp (State.setRook_keeps ..)); · rfl)
    | ((with_reducible apply Keeps.comp (State.rookVerdict_keeps ..)); · rfl)
    | split
    | with_reducible apply Keeps.ite

theorem execBrk_keeps (x0 s) : OKeeps 1616984216 s (execBrk x0 s) := by
  unfold execBrk
  repeat' first
    | with_reducible exact Keeps.refl
    | with_reducible apply OKeeps.next
    | ((with_reducible show Keeps _ _ (State.rookIssue _ _ _)); with_reducible refine Keeps.comp (State.rookIssue_keeps (M := 1616984216) rfl (fun _ _ => ?_) ..) rfl ?_)
    | ((with_reducible apply Keeps.comp (State.rookTrap_keeps ..)); · rfl)

theorem execSvc_keeps (x0 x1 s) : OKeeps 1616984216 s (execSvc x0 x1 s) := by
  unfold execSvc
  repeat' first
    | with_reducible exact Keeps.refl
    | with_reducible apply OKeeps.next
    | ((with_reducible show Keeps _ _ (State.rookIssue _ _ _)); with_reducible refine Keeps.comp (State.rookIssue_keeps (M := 1616984216) rfl (fun _ _ => ?_) ..) rfl ?_)
    | ((with_reducible apply Keeps.comp (State.rookTrap_keeps ..)); · rfl)

theorem execRte_keeps (x0 s) : OKeeps 1616984216 s (execRte x0 s) := by
  unfold execRte
  repeat' first
    | with_reducible exact Keeps.refl
    | (lift_lets; intro z; clear_value z)
    | with_reducible apply OKeeps.next
    | ((with_reducible show Keeps _ _ (State.rookIssue _ _ _)); with_reducible refine Keeps.comp (State.rookIssue_keeps (M := 1616984216) rfl (fun _ _ => ?_) ..) rfl ?_)
    | ((with_reducible apply Keeps.comp (State.rookTrap_keeps ..)); · rfl)
    | ((with_reducible apply Keeps.comp (State.setRook_keeps ..)); · rfl)
    | split

theorem execHalt_keeps (x0 s) : OKeeps 1616984216 s (execHalt x0 s) := by
  unfold execHalt
  repeat' first
    | with_reducible exact Keeps.refl
    | with_reducible apply OKeeps.next
    | ((with_reducible show Keeps _ _ (State.rookIssue _ _ _)); with_reducible refine Keeps.comp (State.rookIssue_keeps (M := 1616984216) rfl (fun _ _ => ?_) ..) rfl ?_)
    | ((with_reducible apply Keeps.comp (State.rookHalt_keeps ..)); · rfl)
    | ((with_reducible apply Keeps.comp (State.rookSquash_keeps ..)); · rfl)

theorem execPipelineWriteReady_keeps (x0 s) : OKeeps 4194304 s (execPipelineWriteReady x0 s) := by
  unfold execPipelineWriteReady
  repeat' first
    | with_reducible exact Keeps.refl
    | with_reducible apply OKeeps.next
    | ((with_reducible apply Keeps.comp (State.rookUpd_keeps ..)); · rfl)
    | split

theorem execRookUndefinedInstruction_keeps (x0 x1 s) : OKeeps 1616984216 s (execRookUndefinedInstruction x0 x1 s) := by
  unfold execRookUndefinedInstruction
  repeat' first
    | with_reducible exact Keeps.refl
    | with_reducible apply OKeeps.next
    | ((with_reducible show Keeps _ _ (State.rookIssue _ _ _)); with_reducible refine Keeps.comp (State.rookIssue_keeps (M := 1616984216) rfl (fun _ _ => ?_) ..) rfl ?_)
    | ((with_reducible apply Keeps.comp (State.rookTrap_keeps ..)); · rfl)
    | split

theorem execRookIspaceFetch_keeps (x0 s) : OKeeps 1616984216 s (execRookIspaceFetch x0 s) := by
  unfold execRookIspaceFetch
  repeat' first
    | with_reducible exact Keeps.refl
    | with_reducible apply OKeeps.next
    | ((with_reducible show Keeps _ _ (State.rookIssue _ _ _)); with_reducible refine Keeps.comp (State.rookIssue_keeps (M := 1616984216) rfl (fun _ _ => ?_) ..) rfl ?_)

end Sys2Proof.Machine
end

