-- ==== Sys2Proof/Laws/KeepsPea.lean ====
section
/-! SUPPORT. What each operation of Machine/Pea.lean leaves alone (the relation Keeps). -/

namespace Sys2Proof.Machine

theorem State.engClear_keeps (s x1) : Keeps 4194304 s (State.engClear s x1) := by
  unfold State.engClear
  repeat' first
    | with_reducible exact Keeps.refl
    | (lift_lets; intro z; clear_value z)
    | ((with_reducible apply Keeps.comp (State.rookUpd_keeps ..)); · rfl)

theorem State.engStart_keeps (s x1) : Keeps 4194312 s (State.engStart s x1) := by
  unfold State.engStart
  repeat' first
    | with_reducible exact Keeps.refl
    | ((with_reducible apply Keeps.comp (State.wrB_keeps ..)); · rfl)
    | ((with_reducible apply Keeps.comp (State.wr_keeps ..)); · rfl)
    | ((with_reducible apply Keeps.comp (State.engClear_keeps ..)); · rfl)

theorem State.engEnable_keeps (s x1) : Keeps 4194312 s (State.engEnable s x1) := by
  unfold State.engEnable
  repeat' first
    | with_reducible exact Keeps.refl
    | (lift_lets; intro z)
    | ((with_reducible apply Keeps.comp (State.wrB_keeps ..)); · rfl)
    | ((with_reducible apply Keeps.comp (State.engStart_keeps ..)); · rfl)
    | split

theorem execEngineEnable_keeps (x0 s) : OKeeps 4194312 s (execEngineEnable x0 s) := by
  unfold execEngineEnable
  repeat' first
    | with_reducible exact Keeps.refl
    | with_reducible apply OKeeps.next
    | ((with_reducible apply Keeps.comp (State.engEnable_keeps ..)); · rfl)
    | split

theorem execEngineStartDone_keeps (x0 s) : OKeeps 4194312 s (execEngineStartDone x0 s) := by
  unfold execEngineStartDone
  repeat' first
    | with_reducible exact Keeps.refl
    | (lift_lets; intro z)
    | with_reducible apply OKeeps.next
    | ((with_reducible apply Keeps.comp (State.wr_keeps ..)); · rfl)
    | ((with_reducible apply Keeps.comp (State.rookUpd_keeps ..)); · rfl)
    | split

theorem State.engStop_keeps (s x1) : Keeps 543229976 s (State.engStop s x1) := by
  unfold State.engStop
  repeat' first
    | with_reducible exact Keeps.refl
    | (lift_lets; intro z; first | (have hz : (fun (_ : State) => True) z := trivial; clear hz) | clear_value z)
    | ((with_reducible apply Keeps.comp (State.wr_keeps ..)); · rfl)
    | ((with_reducible apply Keeps.comp (State.rookSquash_keeps ..)); · rfl)
    | ((with_reducible apply Keeps.comp (State.rookUpd_keeps ..)); · rfl)
    | ((with_reducible apply Keeps.comp (State.agentReset_keeps ..)); · rfl)
    | ((with_reducible apply Keeps.comp (State.epCheck_keeps ..)); · rfl)

theorem State.engDisable_keeps (s x1) : Keeps 543229976 s (State.engDisable s x1) := by
  unfold State.engDisable
  repeat' first
    | with_reducible exact Keeps.refl
    | (lift_lets; intro z)
    | ((with_reducible apply Keeps.comp (State.wrB_keeps ..)); · rfl)
    | ((with_reducible apply Keeps.comp (State.engStop_keeps ..)); · rfl)
    | split

theorem execEngineDisable_keeps (x0 s) : OKeeps 543229976 s (execEngineDisable x0 s) := by
  unfold execEngineDisable
  repeat' first
    | with_reducible exact Keeps.refl
    | with_reducible apply OKeeps.next
    | ((with_reducible apply Keeps.comp (State.engDisable_keeps ..)); · rfl)
    | split

theorem execEngineStopDone_keeps (x0 s) : OKeeps 4194312 s (execEngineStopDone x0 s) := by
  unfold execEngineStopDone
  repeat' first
    | with_reducible exact Keeps.refl
    | (lift_lets; intro z; clear_value z)
    | with_reducible apply OKeeps.next
    | ((with_reducible apply Keeps.comp (State.wr_keeps ..)); · rfl)
    | ((with_reducible apply Keeps.comp (State.engClear_keeps ..)); · rfl)
    | ((with_reducible apply Keeps.comp (State.wrB_keeps ..)); · rfl)
    | ((with_reducible apply Keeps.comp (State.setReg_keeps ..)); · rfl)
    | ((with_reducible apply Keeps.comp (State.engStart_keeps ..)); · rfl)
    | split

theorem State.engMode_keeps (s x1) : Keeps 543229976 s (State.engMode s x1) := by
  unfold State.engMode
  repeat' first
    | with_reducible exact Keeps.refl
    | ((with_reducible apply Keeps.comp (State.wrB_keeps ..)); · rfl)
    | ((with_reducible apply Keeps.comp (State.engStop_keeps ..)); · rfl)
    | ((with_reducible apply Keeps.comp (State.engEnable_keeps ..)); · rfl)
    | split

theorem State.enginesMode_keeps (s) : Keeps 543229976 s (State.enginesMode s) := by
  unfold State.enginesMode
  repeat' first
    | with_reducible assumption
    | with_reducible exact Keeps.refl
    | ((with_reducible apply Keeps.comp (State.engMode_keeps ..)); · rfl)
    | with_reducible refine Keeps.foldl (fun _ _ _ => ?_) ?_

theorem State.rxBegin_keeps (s x1 x2 x3 x4 x5) : Keeps 4194304 s (State.rxBegin s x1 x2 x3 x4 x5) := by
  unfold State.rxBegin
  repeat' first
    | with_reducible exact Keeps.refl
    | (lift_lets; intro z; clear_value z)
    | ((with_reducible apply Keeps.comp (State.rookUpd_keeps ..)); · rfl)

theorem State.epBegin_keeps (s x1 x2 x3 x4 x5) : Keeps 6291456 s (State.epBegin s x1 x2 x3 x4 x5) := by
  unfold State.epBegin
  repeat' first
    | with_reducible exact Keeps.refl
    | (lift_lets; intro z; clear_value z)
    | ((with_reducible apply Keeps.comp (State.rxBegin_keeps ..)); · rfl)
    | ((with_reducible apply Keeps.comp (State.setSwc_keeps ..)); · rfl)

theorem State.epDispatch_keeps (s x1 x2) : Keeps 6291464 s (State.epDispatch s x1 x2) := by
  induction x2 generalizing s x1 with
  | zero => exact Keeps.refl
  | succ n ih =>
    unfold State.epDispatch
    repeat' first
      | with_reducible exact Keeps.refl
      | (lift_lets; intro z; first | (have hz : (fun (_ : State) => True) z := trivial; clear hz) | clear_value z)
      | ((with_reducible apply Keeps.comp (ih ..)); · rfl)
      | ((with_reducible apply Keeps.comp (State.frameRelease_keeps ..)); · rfl)
      | ((with_reducible apply Keeps.comp (State.inc_keeps ..)); · rfl)
      | ((with_reducible apply Keeps.comp (State.unqueue_keeps ..)); · rfl)
      | ((with_reducible apply Keeps.comp (State.creditPort_keeps ..)); · rfl)
      | ((with_reducible apply Keeps.comp (State.setTx_keeps ..)); · rfl)
      | ((with_reducible apply Keeps.comp (State.epBegin_keeps ..)); · rfl)
      | split

theorem State.epStomp_keeps (s x1 x2) : Keeps 6291456 s (State.epStomp s x1 x2) := by
  unfold State.epStomp
  repeat' first
    | with_reducible exact Keeps.refl
    | ((with_reducible apply Keeps.comp (State.epBegin_keeps ..)); · rfl)
    | split

theorem State.epStart_keeps (s x1) : Keeps 6291464 s (State.epStart s x1) := by
  unfold State.epStart
  repeat' first
    | with_reducible exact Keeps.refl
    | ((with_reducible apply Keeps.comp (State.epStomp_keeps ..)); · rfl)
    | ((with_reducible apply Keeps.comp (State.epDispatch_keeps ..)); · rfl)
    | ((with_reducible apply Keeps.comp (State.creditPort_keeps ..)); · rfl)
    | split

theorem execEpDispatch_keeps (x0 s) : OKeeps 6291464 s (execEpDispatch x0 s) := by
  unfold execEpDispatch
  repeat' first
    | with_reducible exact Keeps.refl
    | with_reducible apply OKeeps.next
    | ((with_reducible apply Keeps.comp (State.epStart_keeps ..)); · rfl)
    | split

theorem State.epEnd_keeps (s x1) : Keeps 6291456 s (State.epEnd s x1) := by
  unfold State.epEnd
  repeat' first
    | with_reducible exact Keeps.refl
    | (lift_lets; intro z; clear_value z)
    | ((with_reducible apply Keeps.comp (State.setSwc_keeps ..)); · rfl)
    | ((with_reducible apply Keeps.comp (State.rookUpd_keeps ..)); · rfl)
    | split

theorem execRxRelease_keeps (x0 s) : OKeeps 4194304 s (execRxRelease x0 s) := by
  unfold execRxRelease
  repeat' first
    | with_reducible exact Keeps.refl
    | with_reducible apply OKeeps.next
    | ((with_reducible apply Keeps.comp (State.rxRelease_keeps ..)); · rfl)
    | split

theorem execEvClr_keeps (x0 x1 s) : OKeeps 4194304 s (execEvClr x0 x1 s) := by
  unfold execEvClr
  repeat' first
    | with_reducible exact Keeps.refl
    | with_reducible apply OKeeps.next
    | ((with_reducible apply Keeps.comp (State.evClr_keeps ..)); · rfl)
    | split

theorem execRookTimerExpire_keeps (x0 s) : OKeeps 4456456 s (execRookTimerExpire x0 s) := by
  unfold execRookTimerExpire
  repeat' first
    | with_reducible exact Keeps.refl
    | with_reducible apply OKeeps.next
    | ((with_reducible apply Keeps.comp (State.rookEvent_keeps ..)); · rfl)
    | ((with_reducible apply Keeps.comp (State.advanceTo_keeps ..)); · rfl)
    | split

theorem execPcrcInitWrite_keeps (x0 x1 s) : OKeeps 4194304 s (execPcrcInitWrite x0 x1 s) := by
  unfold execPcrcInitWrite
  repeat' first
    | with_reducible exact Keeps.refl
    | with_reducible apply OKeeps.next
    | ((with_reducible apply Keeps.comp (State.pcrcInit_keeps ..)); · rfl)
    | split

theorem execPcrcFeed_keeps (x0 x1 s) : OKeeps 4194304 s (execPcrcFeed x0 x1 s) := by
  unfold execPcrcFeed
  repeat' first
    | with_reducible exact Keeps.refl
    | with_reducible apply OKeeps.next
    | ((with_reducible apply Keeps.comp (State.pcrcFeed_keeps ..)); · rfl)
    | split

theorem execPcrcFeedb_keeps (x0 x1 s) : OKeeps 4194304 s (execPcrcFeedb x0 x1 s) := by
  unfold execPcrcFeedb
  repeat' first
    | with_reducible exact Keeps.refl
    | with_reducible apply OKeeps.next
    | ((with_reducible apply Keeps.comp (State.pcrcFeed_keeps ..)); · rfl)
    | split

theorem execTxGo_keeps (x0 x1 x2 s) : OKeeps 6293528 s (execTxGo x0 x1 x2 s) := by
  unfold execTxGo
  repeat' first
    | with_reducible exact Keeps.refl
    | with_reducible apply OKeeps.next
    | ((with_reducible apply Keeps.comp (State.txCmd_keeps ..)); · rfl)
    | split

theorem State.txFinish_keeps (s x1 x2 x3) : Keeps 4194304 s (State.txFinish s x1 x2 x3) := by
  unfold State.txFinish
  repeat' first
    | with_reducible exact Keeps.refl
    | ((with_reducible apply Keeps.comp (State.rookEvent_keeps ..)); · rfl)
    | ((with_reducible apply Keeps.comp (State.rookUpd_keeps ..)); · rfl)
    | split

theorem execTxBufferDone_keeps (x0 x1 s) : OKeeps 6291456 s (execTxBufferDone x0 x1 s) := by
  unfold execTxBufferDone
  repeat' first
    | with_reducible exact Keeps.refl
    | (lift_lets; intro z; clear_value z)
    | with_reducible apply OKeeps.next
    | ((with_reducible apply Keeps.comp (State.txFinish_keeps ..)); · rfl)
    | ((with_reducible apply Keeps.comp (State.setSwc_keeps ..)); · rfl)
    | split

theorem State.verdictEnds_keeps (s x1 x2 x3) : Keeps 541067352 s (State.verdictEnds s x1 x2 x3) := by
  unfold State.verdictEnds
  repeat' first
    | with_reducible exact Keeps.refl
    | ((with_reducible apply Keeps.comp (State.rookUpd_keeps ..)); · rfl)
    | ((with_reducible apply Keeps.comp (State.rookVerdict_keeps ..)); · rfl)
    | split

theorem execFrameVerdict_keeps (x0 x1 s) : OKeeps 541067352 s (execFrameVerdict x0 x1 s) := by
  unfold execFrameVerdict
  repeat' first
    | with_reducible exact Keeps.refl
    | (lift_lets; intro z; clear_value z)
    | with_reducible apply OKeeps.next
    | ((with_reducible apply Keeps.comp (State.rookUpd_keeps ..)); · rfl)
    | ((with_reducible apply Keeps.comp (State.verdictEnds_keeps ..)); · rfl)
    | split
    | with_reducible apply OKeeps.ite

theorem execDrainLand_keeps (x0 s) : OKeeps 406849560 s (execDrainLand x0 s) := by
  unfold execDrainLand
  repeat' first
    | with_reducible exact Keeps.refl
    | (lift_lets; intro z)
    | with_reducible apply OKeeps.next
    | ((with_reducible apply Keeps.comp (State.rookUpd_keeps ..)); · rfl)
    | ((with_reducible apply Keeps.comp (State.rookEvent_keeps ..)); · rfl)
    | ((with_reducible apply Keeps.comp (State.drainLand_keeps ..)); · rfl)
    | split

theorem State.rooksCycStart_keeps (s) : Keeps 4194304 s (State.rooksCycStart s) := by
  unfold State.rooksCycStart
  repeat' first
    | with_reducible assumption
    | with_reducible exact Keeps.refl
    | (lift_lets; intro z; clear_value z)
    | ((with_reducible apply Keeps.comp (State.rookEvent_keeps ..)); · rfl)
    | ((with_reducible apply Keeps.comp (State.rookUpd_keeps ..)); · rfl)
    | with_reducible refine Keeps.foldl (fun _ _ _ => ?_) ?_
    | split

theorem State.txRelease_keeps (s x1 x2) : Keeps 6293528 s (State.txRelease s x1 x2) := by
  unfold State.txRelease
  repeat' first
    | with_reducible exact Keeps.refl
    | ((with_reducible apply Keeps.comp (State.txEnter_keeps ..)); · rfl)
    | split

theorem State.rooksEthTx_keeps (s) : Keeps 6293528 s (State.rooksEthTx s) := by
  unfold State.rooksEthTx
  repeat' first
    | with_reducible assumption
    | with_reducible exact Keeps.refl
    | ((with_reducible apply Keeps.comp (State.txRelease_keeps ..)); · rfl)
    | ((with_reducible apply Keeps.comp (State.rookEvent_keeps ..)); · rfl)
    | with_reducible refine Keeps.foldl (fun _ _ _ => ?_) ?_

end Sys2Proof.Machine
end

