-- ==== Sys2Proof/Laws/KeepsFrames.lean ====
section
/-! SUPPORT. What each operation of Machine/Frames.lean leaves alone (the relation Keeps). -/

namespace Sys2Proof.Machine

theorem State.startFrame_keeps (s x1 x2) : Keeps 2097152 s (State.startFrame s x1 x2) := by
  unfold State.startFrame
  repeat' first
    | with_reducible exact Keeps.refl
    | ((with_reducible apply Keeps.comp (State.setTx_keeps ..)); · rfl)
    | ((with_reducible apply Keeps.comp (State.unqueue_keeps ..)); · rfl)
    | ((with_reducible apply Keeps.comp (State.creditPort_keeps ..)); · rfl)
    | split

theorem State.egressStart_keeps (s x1) : Keeps 2097152 s (State.egressStart s x1) := by
  unfold State.egressStart
  repeat' first
    | with_reducible exact Keeps.refl
    | (lift_lets; intro z; first | (have hz : (fun (_ : State) => True) z := trivial; clear hz) | clear_value z)
    | ((with_reducible apply Keeps.comp (State.creditPort_keeps ..)); · rfl)
    | ((with_reducible apply Keeps.comp (State.startFrame_keeps ..)); · rfl)
    | ((with_reducible apply Keeps.comp (State.setHeld_keeps ..)); · rfl)
    | ((with_reducible apply Keeps.comp (State.setTx_keeps ..)); · rfl)
    | split

theorem State.stompCur_keeps (s x1 x2) : Keeps 6291456 s (State.stompCur s x1 x2) := by
  unfold State.stompCur
  repeat' first
    | with_reducible exact Keeps.refl
    | ((with_reducible apply Keeps.comp (State.setTx_keeps ..)); · rfl)
    | ((with_reducible apply Keeps.comp (State.creditPort_keeps ..)); · rfl)
    | ((with_reducible apply Keeps.comp (State.rookUpd_keeps ..)); · rfl)
    | split

theorem State.stompTx_keeps (s x1 x2) : Keeps 6291456 s (State.stompTx s x1 x2) := by
  unfold State.stompTx
  repeat' first
    | with_reducible exact Keeps.refl
    | ((with_reducible apply Keeps.comp (State.stompCur_keeps ..)); · rfl)
    | ((with_reducible apply Keeps.comp (State.setHeld_keeps ..)); · rfl)

theorem State.cellFault_keeps (s x1) : Keeps 6293528 s (State.cellFault s x1) := by
  unfold State.cellFault
  repeat' first
    | with_reducible assumption
    | with_reducible exact Keeps.refl
    | (lift_lets; intro z)
    | ((with_reducible apply Keeps.comp (State.inc_keeps ..)); · rfl)
    | ((with_reducible apply Keeps.comp (State.putFrame_keeps ..)); · rfl)
    | ((with_reducible apply Keeps.comp (State.mirDropOnce_keeps ..)); · rfl)
    | ((with_reducible apply Keeps.comp (State.stompTx_keeps ..)); · rfl)
    | ((with_reducible apply Keeps.comp (State.unqueue_keeps ..)); · rfl)
    | ((with_reducible apply Keeps.comp (State.creditPort_keeps ..)); · rfl)
    | ((with_reducible apply Keeps.comp (State.frameRelease_keeps ..)); · rfl)
    | with_reducible refine Keeps.foldl (fun _ _ _ => ?_) ?_
    | split
    | with_reducible apply Keeps.ite

theorem State.cellRead_keeps (s x1 x2 x3) : Keeps 6293528 s (State.cellRead s x1 x2 x3) := by
  unfold State.cellRead
  repeat' first
    | with_reducible exact Keeps.refl
    | (lift_lets; intro z)
    | ((with_reducible apply Keeps.comp (State.incBy_keeps ..)); · rfl)
    | ((with_reducible apply Keeps.comp (State.cellFault_keeps ..)); · rfl)
    | split

theorem State.awaitHead_keeps (s x1) : Keeps 262152 s (State.awaitHead s x1) := by
  unfold State.awaitHead
  repeat' first
    | with_reducible exact Keeps.refl
    | ((with_reducible apply Keeps.comp (State.advanceTo_keeps ..)); · rfl)
    | split

theorem State.portStartFrame_keeps (s x1) : Keeps 6553608 s (State.portStartFrame s x1) := by
  unfold State.portStartFrame
  repeat' first
    | with_reducible exact Keeps.refl
    | (lift_lets; intro z)
    | ((with_reducible apply Keeps.comp (State.awaitHead_keeps ..)); · rfl)
    | ((with_reducible apply Keeps.comp (State.epStart_keeps ..)); · rfl)
    | ((with_reducible apply Keeps.comp (State.egressStart_keeps ..)); · rfl)
    | split

theorem execEgressFrameStart_keeps (x0 x1 x2 s) : OKeeps 6555672 s (execEgressFrameStart x0 x1 x2 s) := by
  unfold execEgressFrameStart
  repeat' first
    | with_reducible exact Keeps.refl
    | with_reducible apply OKeeps.next
    | ((with_reducible apply Keeps.comp (State.cellRead_keeps ..)); · rfl)
    | ((with_reducible apply Keeps.comp (State.portStartFrame_keeps ..)); · rfl)
    | split

theorem State.txOneStep_keeps (s x1 x2 x3 x4 x5) : Keeps 8 s (State.txOneStep s x1 x2 x3 x4 x5).2 := by
  unfold State.txOneStep
  repeat' first
    | with_reducible exact Keeps.refl
    | (lift_lets; intro z; clear_value z)
    | ((with_reducible apply Keeps.comp (State.inc_keeps ..)); · rfl)
    | split

theorem State.txOneStep_out {s x1 x2 x3 x4 x5 y0 y1} (h : State.txOneStep s x1 x2 x3 x4 x5 = (y0, y1)) : Keeps 8 s y1 := by
  have := State.txOneStep_keeps s x1 x2 x3 x4 x5; rw [h] at this; exact this

theorem State.txAddCf_keeps (s x1 x2 x3 x4) : Keeps 8 s (State.txAddCf s x1 x2 x3 x4).2 := by
  unfold State.txAddCf
  repeat' first
    | with_reducible exact Keeps.refl
    | (lift_lets; intro z; clear_value z)
    | ((with_reducible apply Keeps.comp (State.inc_keeps ..)); · rfl)
    | split

theorem State.txAddCf_out {s x1 x2 x3 x4 y0 y1} (h : State.txAddCf s x1 x2 x3 x4 = (y0, y1)) : Keeps 8 s y1 := by
  have := State.txAddCf_keeps s x1 x2 x3 x4; rw [h] at this; exact this

theorem State.txResidence_keeps (s x1 x2 x3 x4 x5 x6) : Keeps 8 s (State.txResidence s x1 x2 x3 x4 x5 x6).2 := by
  unfold State.txResidence
  repeat' first
    | with_reducible exact Keeps.refl
    | (lift_lets; intro z; clear_value z)
    | ((with_reducible apply Keeps.comp (State.txAddCf_keeps ..)); · rfl)

theorem State.txResidence_out {s x1 x2 x3 x4 x5 x6 y0 y1} (h : State.txResidence s x1 x2 x3 x4 x5 x6 = (y0, y1)) : Keeps 8 s y1 := by
  have := State.txResidence_keeps s x1 x2 x3 x4 x5 x6; rw [h] at this; exact this

theorem State.txFix_keeps (s x1 x2 x3 x4 x5) : Keeps 8 s (State.txFix s x1 x2 x3 x4 x5).2 := by
  unfold State.txFix
  repeat' first
    | with_reducible exact Keeps.refl
    | (lift_lets; intro z)
    | ((with_reducible apply Keeps.comp (State.inc_keeps ..)); · rfl)
    | ((with_reducible apply Keeps.comp (State.txOneStep_keeps ..)); · rfl)
    | ((with_reducible apply Keeps.comp (State.txResidence_keeps ..)); · rfl)
    | ((with_reducible apply Keeps.comp (State.txAddCf_keeps ..)); · rfl)
    | split
    | with_reducible apply Keeps.snd_ite

theorem State.txFix_out {s x1 x2 x3 x4 x5 y0 y1} (h : State.txFix s x1 x2 x3 x4 x5 = (y0, y1)) : Keeps 8 s y1 := by
  have := State.txFix_keeps s x1 x2 x3 x4 x5; rw [h] at this; exact this

theorem State.txBytes_keeps (s x1 x2 x3 x4 x5) : Keeps 8 s (State.txBytes s x1 x2 x3 x4 x5).2 := by
  unfold State.txBytes
  repeat' first
    | with_reducible exact Keeps.refl
    | ((with_reducible apply Keeps.comp (State.txFix_keeps ..)); · rfl)
    | split

theorem State.txBytes_out {s x1 x2 x3 x4 x5 y0 y1} (h : State.txBytes s x1 x2 x3 x4 x5 = (y0, y1)) : Keeps 8 s y1 := by
  have := State.txBytes_keeps s x1 x2 x3 x4 x5; rw [h] at this; exact this

theorem State.txStamp_keeps (s x1 x2 x3 x4) : Keeps 2359304 s (State.txStamp s x1 x2 x3 x4) := by
  unfold State.txStamp
  repeat' first
    | with_reducible exact Keeps.refl
    | (lift_lets; intro z; clear_value z)
    | ((with_reducible apply Keeps.comp (State.txtsPush_keeps ..)); · rfl)
    | ((with_reducible apply Keeps.comp (State.putFrame_keeps ..)); · rfl)
    | split

theorem State.txWire_keeps (s x1 x2 x3 x4) : Keeps 2359304 s (State.txWire s x1 x2 x3 x4) := by
  unfold State.txWire
  repeat' first
    | with_reducible exact Keeps.refl
    | (lift_lets; intro z; clear_value z)
    | ((with_reducible apply Keeps.comp (State.txBytes_keeps ..)); · rfl)
    | ((with_reducible apply Keeps.comp (State.setSwc_keeps ..)); · rfl)
    | ((with_reducible apply Keeps.comp (State.txStamp_keeps ..)); · rfl)
    | split

theorem State.txEngine_keeps (s x1 x2 x3) : Keeps 6291464 s (State.txEngine s x1 x2 x3) := by
  unfold State.txEngine
  repeat' first
    | with_reducible exact Keeps.refl
    | (lift_lets; intro z)
    | ((with_reducible apply Keeps.comp (State.epEnd_keeps ..)); · rfl)
    | ((with_reducible apply Keeps.comp (State.inc_keeps ..)); · rfl)
    | ((with_reducible apply Keeps.comp (State.rxBegin_keeps ..)); · rfl)
    | ((with_reducible apply Keeps.comp (State.rookUpd_keeps ..)); · rfl)
    | split

theorem State.txOver_keeps (s x1 x2 x3 x4) : Keeps 7604248 s (State.txOver s x1 x2 x3 x4) := by
  unfold State.txOver
  repeat' first
    | with_reducible exact Keeps.refl
    | (lift_lets; intro z; first | (have hz : (fun (_ : State) => True) z := trivial; clear hz) | clear_value z)
    | ((with_reducible apply Keeps.comp (State.setTx_keeps ..)); · rfl)
    | ((with_reducible apply Keeps.comp (State.creditPort_keeps ..)); · rfl)
    | ((with_reducible apply Keeps.comp (State.mirrorOnce_keeps ..)); · rfl)
    | ((with_reducible apply Keeps.comp (State.txWire_keeps ..)); · rfl)
    | ((with_reducible apply Keeps.comp (State.txEngine_keeps ..)); · rfl)
    | ((with_reducible apply Keeps.comp (State.setSwc_keeps ..)); · rfl)
    | ((with_reducible apply Keeps.comp (State.putFrame_keeps ..)); · rfl)
    | ((with_reducible apply Keeps.comp (State.pauseArm_keeps ..)); · rfl)
    | ((with_reducible apply Keeps.comp (State.frameRelease_keeps ..)); · rfl)
    | split
    | with_reducible apply Keeps.ite

theorem State.txEnd_keeps (s x1 x2) : Keeps 7604248 s (State.txEnd s x1 x2) := by
  unfold State.txEnd
  repeat' first
    | with_reducible exact Keeps.refl
    | ((with_reducible apply Keeps.comp (State.setTx_keeps ..)); · rfl)
    | ((with_reducible apply Keeps.comp (State.txOver_keeps ..)); · rfl)
    | ((with_reducible apply Keeps.comp (State.advanceTo_keeps ..)); · rfl)
    | split

theorem execMacFrameTxEnd_keeps (x0 x1 s) : OKeeps 7604248 s (execMacFrameTxEnd x0 x1 s) := by
  unfold execMacFrameTxEnd
  repeat' first
    | with_reducible exact Keeps.refl
    | with_reducible apply OKeeps.next
    | ((with_reducible apply Keeps.comp (State.txEnd_keeps ..)); · rfl)
    | split

end Sys2Proof.Machine
end

