-- ==== Sys2Proof/Laws/KeepsHic.lean ====
section
/-! SUPPORT. What each operation of Machine/Hic.lean leaves alone (the relation Keeps). -/

namespace Sys2Proof.Machine

theorem State.partUpd_keeps (s x1 x2) : Keeps 32768 s (State.partUpd s x1 x2) := by
  unfold State.partUpd
  repeat' first
    | with_reducible exact Keeps.refl
    | ((with_reducible apply Keeps.comp (State.setPart_keeps ..)); · rfl)

theorem State.fwDeny_keeps (s x1 x2 x3 x4) : Keeps 65544 s (State.fwDeny s x1 x2 x3 x4) := by
  unfold State.fwDeny
  repeat' first
    | with_reducible exact Keeps.refl
    | (lift_lets; intro z)
    | ((with_reducible apply Keeps.comp (State.inc_keeps ..)); · rfl)
    | ((with_reducible apply Keeps.comp (State.wr_keeps ..)); · rfl)
    | ((with_reducible apply Keeps.comp (State.wrB_keeps ..)); · rfl)
    | ((with_reducible apply Keeps.comp (State.raiseEvent_keeps ..)); · rfl)
    | split
    | with_reducible apply Keeps.ite

theorem State.setSlice_keeps (s x1 x2 x3) : Keeps 32776 s (State.setSlice s x1 x2 x3) := by
  unfold State.setSlice
  repeat' first
    | with_reducible exact Keeps.refl
    | (lift_lets; intro z)
    | ((with_reducible apply Keeps.comp (State.wr_keeps ..)); · rfl)
    | ((with_reducible apply Keeps.comp (State.partUpd_keeps ..)); · rfl)
    | ((with_reducible apply Keeps.comp (State.wrB_keeps ..)); · rfl)

theorem State.sliceWrite_keeps (s x1 x2 x3) : Keeps 32776 s (State.sliceWrite s x1 x2 x3) := by
  unfold State.sliceWrite
  repeat' first
    | with_reducible exact Keeps.refl
    | (lift_lets; intro z; clear_value z)
    | ((with_reducible apply Keeps.comp (State.cfgErr_keeps ..)); · rfl)
    | ((with_reducible apply Keeps.comp (State.setSlice_keeps ..)); · rfl)
    | split

theorem execHicSliceWrite_keeps (x0 x1 x2 s) : OKeeps 32776 s (execHicSliceWrite x0 x1 x2 s) := by
  unfold execHicSliceWrite
  repeat' first
    | with_reducible exact Keeps.refl
    | with_reducible apply OKeeps.next
    | ((with_reducible apply Keeps.comp (State.sliceWrite_keeps ..)); · rfl)
    | split

theorem State.commitAsk_keeps (s x1) : Keeps 32768 s (State.commitAsk s x1) := by
  unfold State.commitAsk
  repeat' first
    | with_reducible exact Keeps.refl
    | ((with_reducible apply Keeps.comp (State.partUpd_keeps ..)); · rfl)
    | split

theorem execHostCommitWrite_keeps (x0 s) : OKeeps 32768 s (execHostCommitWrite x0 s) := by
  unfold execHostCommitWrite
  repeat' first
    | with_reducible exact Keeps.refl
    | with_reducible apply OKeeps.next
    | ((with_reducible apply Keeps.comp (State.commitAsk_keeps ..)); · rfl)
    | split

theorem execHostCommitRegister_keeps (x0 s) : OKeeps 32776 s (execHostCommitRegister x0 s) := by
  unfold execHostCommitRegister
  repeat' first
    | with_reducible exact Keeps.refl
    | with_reducible apply OKeeps.next
    | ((with_reducible apply Keeps.comp (State.partUpd_keeps ..)); · rfl)
    | ((with_reducible apply Keeps.comp (State.wrB_keeps ..)); · rfl)
    | split

theorem State.takeCommit_keeps (s x1) : Keeps 32776 s (State.takeCommit s x1) := by
  unfold State.takeCommit
  repeat' first
    | with_reducible exact Keeps.refl
    | ((with_reducible apply Keeps.comp (State.partUpd_keeps ..)); · rfl)
    | ((with_reducible apply Keeps.comp (State.wrB_keeps ..)); · rfl)

theorem State.takeCommits_keeps (s) : Keeps 32776 s (State.takeCommits s).2 := by
  unfold State.takeCommits
  repeat' first
    | with_reducible assumption
    | with_reducible exact Keeps.refl
    | (lift_lets; intro z; clear_value z)
    | ((with_reducible apply Keeps.comp (State.takeCommit_keeps ..)); · rfl)
    | with_reducible refine Keeps.foldl (fun _ _ _ => ?_) ?_

theorem State.takeCommits_out {s y0 y1} (h : State.takeCommits s = (y0, y1)) : Keeps 32776 s y1 := by
  have := State.takeCommits_keeps s; rw [h] at this; exact this

theorem State.hostLost_keeps (s x1) : Keeps 1073819784 s (State.hostLost s x1) := by
  unfold State.hostLost
  repeat' first
    | with_reducible exact Keeps.refl
    | (lift_lets; intro z)
    | ((with_reducible apply Keeps.comp (State.logEvent_keeps ..)); · rfl)
    | ((with_reducible apply Keeps.comp (State.raiseEvent_keeps ..)); · rfl)
    | ((with_reducible apply Keeps.comp (State.wrB_keeps ..)); · rfl)
    | ((with_reducible apply Keeps.comp (State.acceptMode_keeps ..)); · rfl)
    | split

theorem State.wdJudge_keeps (s x1) : Keeps 1073852552 s (State.wdJudge s x1) := by
  unfold State.wdJudge
  repeat' first
    | with_reducible exact Keeps.refl
    | (lift_lets; intro z; clear_value z)
    | ((with_reducible apply Keeps.comp (State.setPart_keeps ..)); · rfl)
    | ((with_reducible apply Keeps.comp (State.hostLost_keeps ..)); · rfl)
    | with_reducible apply Keeps.ite

theorem execHostWdExpire_keeps (x0 s) : OKeeps 1073852552 s (execHostWdExpire x0 s) := by
  unfold execHostWdExpire
  repeat' first
    | with_reducible exact Keeps.refl
    | (lift_lets; intro z; clear_value z)
    | with_reducible apply OKeeps.next
    | ((with_reducible apply Keeps.comp (State.hostLost_keeps ..)); · rfl)
    | ((with_reducible apply Keeps.comp (State.partUpd_keeps ..)); · rfl)
    | split

theorem State.hostWrite_keeps (s x1 x2 x3) : Keeps 133144 s (State.hostWrite s x1 x2 x3) := by
  unfold State.hostWrite
  repeat' first
    | with_reducible exact Keeps.refl
    | ((with_reducible apply Keeps.comp (State.putDma_keeps ..)); · rfl)
    | ((with_reducible apply Keeps.comp (State.sramWrite_keeps ..)); · rfl)
    | split

theorem State.descAt_keeps (s x1 x2 x3 x4 x5) : Keeps 602120 s (State.descAt s x1 x2 x3 x4 x5).2.2 := by
  unfold State.descAt
  repeat' first
    | with_reducible exact Keeps.refl
    | ((with_reducible apply Keeps.comp (State.sramReadWords_keeps ..)); · rfl)
    | split

theorem State.descAt_out {s x1 x2 x3 x4 x5 y0 y1 y2} (h : State.descAt s x1 x2 x3 x4 x5 = (y0, y1, y2)) : Keeps 602120 s y2 := by
  have := State.descAt_keeps s x1 x2 x3 x4 x5; rw [h] at this; exact this

theorem State.rxFill_keeps (s x1 x2 x3 x4 x5 x6) : Keeps 735256 s (State.rxFill s x1 x2 x3 x4 x5 x6).2 := by
  induction x6 generalizing s x1 x2 x3 x4 x5 with
  | zero => exact Keeps.refl
  | succ n ih =>
    have iho : ∀ {s x1 x2 x3 x4 x5 y0 y1}, State.rxFill s x1 x2 x3 x4 x5 n = (y0, y1) → Keeps 735256 s y1 := fun {s x1 x2 x3 x4 x5 y0 y1} h => by
      have := ih s x1 x2 x3 x4 x5; rw [h] at this; exact this
    unfold State.rxFill
    repeat' first
      | with_reducible exact Keeps.refl
      | (lift_lets; intro z; clear_value z)
      | ((with_reducible apply Keeps.comp (ih ..)); · rfl)
      | ((with_reducible refine Keeps.comp (State.descAt_out (by with_reducible assumption)) ?_ ?_); · rfl)
      | ((with_reducible apply Keeps.comp (State.fwDeny_keeps ..)); · rfl)
      | ((with_reducible apply Keeps.comp (State.hostWrite_keeps ..)); · rfl)
      | split

theorem State.rxFill_out {s x1 x2 x3 x4 x5 x6 y0 y1} (h : State.rxFill s x1 x2 x3 x4 x5 x6 = (y0, y1)) : Keeps 735256 s y1 := by
  have := State.rxFill_keeps s x1 x2 x3 x4 x5 x6; rw [h] at this; exact this

theorem State.rxComplete_keeps (s x1 x2) : Keeps 198680 s (State.rxComplete s x1 x2) := by
  unfold State.rxComplete
  repeat' first
    | with_reducible assumption
    | with_reducible exact Keeps.refl
    | (lift_lets; intro z; clear_value z)
    | ((with_reducible apply Keeps.comp (State.hostWrite_keeps ..)); · rfl)
    | ((with_reducible apply Keeps.comp (State.wr_keeps ..)); · rfl)
    | ((with_reducible apply Keeps.comp (State.raiseEvent_keeps ..)); · rfl)
    | with_reducible refine Keeps.foldl (fun _ _ _ => ?_) ?_

theorem State.rxDeliver_keeps (s x1 x2 x3) : Keeps 735256 s (State.rxDeliver s x1 x2 x3) := by
  unfold State.rxDeliver
  repeat' first
    | with_reducible exact Keeps.refl
    | (lift_lets; intro z; clear_value z)
    | ((with_reducible apply Keeps.comp (State.rxFill_keeps ..)); · rfl)
    | ((with_reducible apply Keeps.comp (State.rxComplete_keeps ..)); · rfl)
    | ((with_reducible apply Keeps.comp (State.wrB_keeps ..)); · rfl)
    | ((with_reducible apply Keeps.comp (State.raiseEvent_keeps ..)); · rfl)
    | ((with_reducible apply Keeps.comp (State.inc_keeps ..)); · rfl)
    | ((with_reducible apply Keeps.comp (State.mirror_keeps ..)); · rfl)
    | split
    | with_reducible apply Keeps.ite
    | dsimp only

theorem execHpFrameDeliver_keeps (x0 s) : OKeeps 2832408 s (execHpFrameDeliver x0 s) := by
  unfold execHpFrameDeliver
  repeat' first
    | with_reducible assumption
    | with_reducible exact Keeps.refl
    | (lift_lets; intro z; first | (have hz : (fun (_ : State) => True) z := trivial; clear hz) | clear_value z)
    | with_reducible apply OKeeps.next
    | ((with_reducible apply Keeps.comp (State.setSwc_keeps ..)); · rfl)
    | ((with_reducible apply Keeps.comp (State.inc_keeps ..)); · rfl)
    | ((with_reducible apply Keeps.comp (State.rxDeliver_keeps ..)); · rfl)
    | with_reducible refine Keeps.foldl (fun _ _ _ => ?_) ?_
    | split

theorem State.txDoneOne_keeps (s x1) : Keeps 231448 s (State.txDoneOne s x1) := by
  unfold State.txDoneOne
  repeat' first
    | with_reducible assumption
    | with_reducible exact Keeps.refl
    | (lift_lets; intro z; clear_value z)
    | ((with_reducible apply Keeps.comp (State.hostWrite_keeps ..)); · rfl)
    | ((with_reducible apply Keeps.comp (State.wr_keeps ..)); · rfl)
    | ((with_reducible apply Keeps.comp (State.raiseEvent_keeps ..)); · rfl)
    | ((with_reducible apply Keeps.comp (State.partUpd_keeps ..)); · rfl)
    | with_reducible refine Keeps.foldl (fun _ _ _ => ?_) ?_
    | split
    | dsimp only

theorem State.txFlush_keeps (s x1 x2) : Keeps 231448 s (State.txFlush s x1 x2) := by
  induction x2 generalizing s x1 with
  | zero => exact Keeps.refl
  | succ n ih =>
    unfold State.txFlush
    repeat' first
      | with_reducible exact Keeps.refl
      | ((with_reducible apply Keeps.comp (ih ..)); · rfl)
      | ((with_reducible apply Keeps.comp (State.txDoneOne_keeps ..)); · rfl)
      | split

theorem State.hicTxPut_keeps (s x1 x2) : Keeps 32768 s (State.hicTxPut s x1 x2) := by
  unfold State.hicTxPut
  repeat' first
    | with_reducible exact Keeps.refl
    | ((with_reducible apply Keeps.comp (State.partUpd_keeps ..)); · rfl)

theorem State.txFrame_keeps (s x1 x2 x3) : Keeps 2131992 s (State.txFrame s x1 x2 x3) := by
  unfold State.txFrame
  repeat' first
    | with_reducible exact Keeps.refl
    | (lift_lets; intro z; clear_value z)
    | ((with_reducible apply Keeps.comp (State.hicTxPut_keeps ..)); · rfl)
    | ((with_reducible apply Keeps.comp (State.inc_keeps ..)); · rfl)
    | ((with_reducible apply Keeps.comp (State.swArrive_keeps ..)); · rfl)
    | split
    | with_reducible apply Keeps.ite

theorem State.txData_keeps (s x1 x2 x3 x4 x5) : Keeps 602120 s (State.txData s x1 x2 x3 x4 x5).2 := by
  unfold State.txData
  repeat' first
    | with_reducible exact Keeps.refl
    | (lift_lets; intro z)
    | ((with_reducible apply Keeps.comp (State.sramReadBytes_keeps ..)); · rfl)
    | split

theorem State.txData_out {s x1 x2 x3 x4 x5 y0 y1} (h : State.txData s x1 x2 x3 x4 x5 = (y0, y1)) : Keeps 602120 s y1 := by
  have := State.txData_keeps s x1 x2 x3 x4 x5; rw [h] at this; exact this

theorem State.txCut_keeps (s x1 x2) : Keeps 32776 s (State.txCut s x1 x2) := by
  unfold State.txCut
  repeat' first
    | with_reducible exact Keeps.refl
    | ((with_reducible apply Keeps.comp (State.hicTxPut_keeps ..)); · rfl)
    | ((with_reducible apply Keeps.comp (State.inc_keeps ..)); · rfl)
    | split

theorem State.txTake_keeps (s x1 x2 x3 x4) : Keeps 2131992 s (State.txTake s x1 x2 x3 x4).2 := by
  unfold State.txTake
  repeat' first
    | with_reducible exact Keeps.refl
    | (lift_lets; intro z; clear_value z)
    | ((with_reducible apply Keeps.comp (State.txFrame_keeps ..)); · rfl)
    | ((with_reducible apply Keeps.comp (State.txCut_keeps ..)); · rfl)
    | ((with_reducible apply Keeps.comp (State.hicTxPut_keeps ..)); · rfl)
    | ((with_reducible apply Keeps.comp (State.inc_keeps ..)); · rfl)
    | split

theorem State.txTake_out {s x1 x2 x3 x4 y0 y1} (h : State.txTake s x1 x2 x3 x4 = (y0, y1)) : Keeps 2131992 s y1 := by
  have := State.txTake_keeps s x1 x2 x3 x4; rw [h] at this; exact this

theorem State.txFetch_keeps (s x1 x2 x3 x4 x5 x6) : Keeps 2734104 s (State.txFetch s x1 x2 x3 x4 x5 x6) := by
  induction x6 generalizing s x1 x2 x3 x4 x5 with
  | zero => exact Keeps.refl
  | succ n ih =>
    unfold State.txFetch
    repeat' first
      | with_reducible exact Keeps.refl
      | (lift_lets; intro z; first | (have hz : (fun (_ : State) => True) z.2.2 := trivial; clear hz) | clear_value z)
      | ((with_reducible apply Keeps.comp (ih ..)); · rfl)
      | ((with_reducible apply Keeps.comp (State.descAt_keeps ..)); · rfl)
      | ((with_reducible apply Keeps.comp (State.wrB_keeps ..)); · rfl)
      | ((with_reducible apply Keeps.comp (State.fwDeny_keeps ..)); · rfl)
      | ((with_reducible apply Keeps.comp (State.txData_keeps ..)); · rfl)
      | ((with_reducible apply Keeps.comp (State.txTake_keeps ..)); · rfl)
      | split

theorem State.txRun_keeps (s x1 x2) : Keeps 2865176 s (State.txRun s x1 x2) := by
  unfold State.txRun
  repeat' first
    | with_reducible exact Keeps.refl
    | (lift_lets; intro z; clear_value z)
    | ((with_reducible apply Keeps.comp (State.txFlush_keeps ..)); · rfl)
    | ((with_reducible apply Keeps.comp (State.txFetch_keeps ..)); · rfl)
    | split

theorem execHicTxPost_keeps (x0 x1 x2 s) : OKeeps 2865176 s (execHicTxPost x0 x1 x2 s) := by
  unfold execHicTxPost
  repeat' first
    | with_reducible exact Keeps.refl
    | with_reducible apply OKeeps.next
    | ((with_reducible apply Keeps.comp (State.cfgErr_keeps ..)); · rfl)
    | ((with_reducible apply Keeps.comp (State.txRun_keeps ..)); · rfl)
    | ((with_reducible apply Keeps.comp (State.wr_keeps ..)); · rfl)
    | split

theorem execHicTxComplete_keeps (x0 s) : OKeeps 231448 s (execHicTxComplete x0 s) := by
  unfold execHicTxComplete
  repeat' first
    | with_reducible exact Keeps.refl
    | with_reducible apply OKeeps.next
    | ((with_reducible apply Keeps.comp (State.txFlush_keeps ..)); · rfl)
    | ((with_reducible apply Keeps.comp (State.txDoneOne_keeps ..)); · rfl)
    | split

theorem State.queuesReset_keeps (s x1) : Keeps 1073741832 s (State.queuesReset s x1) := by
  unfold State.queuesReset
  repeat' first
    | with_reducible assumption
    | with_reducible exact Keeps.refl
    | (lift_lets; intro z; first | (have hz : (fun (_ : State) => True) z := trivial; clear hz) | clear_value z)
    | ((with_reducible apply Keeps.comp (State.putDcp_keeps ..)); · rfl)
    | ((with_reducible apply Keeps.comp (State.wrB_keeps ..)); · rfl)
    | ((with_reducible apply Keeps.comp (State.setReg_keeps ..)); · rfl)
    | with_reducible refine Keeps.foldl (fun _ _ _ => ?_) ?_

theorem State.partitionReset_keeps (s x1) : Keeps 1610711048 s (State.partitionReset s x1) := by
  unfold State.partitionReset
  repeat' first
    | with_reducible exact Keeps.refl
    | (lift_lets; intro z)
    | ((with_reducible apply Keeps.comp (State.wrB_keeps ..)); · rfl)
    | ((with_reducible apply Keeps.comp (State.setReg_keeps ..)); · rfl)
    | ((with_reducible apply Keeps.comp (State.wr_keeps ..)); · rfl)
    | ((with_reducible apply Keeps.comp (State.partUpd_keeps ..)); · rfl)
    | ((with_reducible apply Keeps.comp (State.queuesReset_keeps ..)); · rfl)
    | ((with_reducible apply Keeps.comp (State.agentReset_keeps ..)); · rfl)
    | split

theorem execPcieLinkReset_keeps (s) : OKeeps 1610711048 s (execPcieLinkReset s) := by
  unfold execPcieLinkReset
  repeat' first
    | with_reducible exact Keeps.refl
    | with_reducible apply OKeeps.next
    | ((with_reducible apply Keeps.comp (State.partitionReset_keeps ..)); · rfl)

theorem execFunctionLevelReset_keeps (x0 s) : OKeeps 1610711048 s (execFunctionLevelReset x0 s) := by
  unfold execFunctionLevelReset
  repeat' first
    | with_reducible exact Keeps.refl
    | with_reducible apply OKeeps.next
    | ((with_reducible apply Keeps.comp (State.partitionReset_keeps ..)); · rfl)
    | split

theorem execHicPrstWrite_keeps (x0 s) : OKeeps 1610711048 s (execHicPrstWrite x0 s) := by
  unfold execHicPrstWrite
  repeat' first
    | with_reducible exact Keeps.refl
    | with_reducible apply OKeeps.next
    | ((with_reducible apply Keeps.comp (State.partitionReset_keeps ..)); · rfl)

theorem State.dropRun_keeps (s x1) : Keeps 1073741824 s (State.dropRun s x1) := by
  unfold State.dropRun
  repeat' first
    | with_reducible exact Keeps.refl
    | (lift_lets; intro z; clear_value z)
    | ((with_reducible apply Keeps.comp (State.putDcp_keeps ..)); · rfl)

theorem State.qFault_keeps (s x1 x2 x3 x4) : Keeps 65544 s (State.qFault s x1 x2 x3 x4) := by
  unfold State.qFault
  repeat' first
    | with_reducible exact Keeps.refl
    | ((with_reducible apply Keeps.comp (State.fwDeny_keeps ..)); · rfl)
    | ((with_reducible apply Keeps.comp (State.wrB_keeps ..)); · rfl)

theorem State.seqRecord_keeps (s x1 x2) : Keeps 8 s (State.seqRecord s x1 x2) := by
  unfold State.seqRecord
  repeat' first
    | with_reducible exact Keeps.refl
    | (lift_lets; intro z; clear_value z)
    | ((with_reducible apply Keeps.comp (State.wrB_keeps ..)); · rfl)
    | ((with_reducible apply Keeps.comp (State.wr_keeps ..)); · rfl)
    | split

theorem State.qComplete_keeps (s x1 x2) : Keeps 1073940504 s (State.qComplete s x1 x2) := by
  unfold State.qComplete
  repeat' first
    | with_reducible exact Keeps.refl
    | (lift_lets; intro z; clear_value z)
    | ((with_reducible apply Keeps.comp (State.seqRecord_keeps ..)); · rfl)
    | ((with_reducible apply Keeps.comp (State.dropRun_keeps ..)); · rfl)
    | ((with_reducible apply Keeps.comp (State.hostWrite_keeps ..)); · rfl)
    | ((with_reducible apply Keeps.comp (State.qFault_keeps ..)); · rfl)
    | ((with_reducible apply Keeps.comp (State.wr_keeps ..)); · rfl)
    | ((with_reducible apply Keeps.comp (State.putDcp_keeps ..)); · rfl)
    | ((with_reducible apply Keeps.comp (State.raiseEvent_keeps ..)); · rfl)
    | split
    | with_reducible apply Keeps.ite

theorem State.postAll_keeps (s) : Keeps 1073940504 s (State.postAll s) := by
  unfold State.postAll
  repeat' first
    | with_reducible assumption
    | with_reducible exact Keeps.refl
    | ((with_reducible apply Keeps.comp (State.qComplete_keeps ..)); · rfl)
    | with_reducible refine Keeps.foldl (fun _ _ _ => ?_) ?_
    | split

end Sys2Proof.Machine
end

