-- ==== Sys2Proof/Laws/KeepsPawn.lean ====
section
/-! SUPPORT. What each operation of Machine/Pawn.lean leaves alone (the relation Keeps). -/

namespace Sys2Proof.Machine

theorem State.setPawn_keeps (s x1 x2) : Keeps 67108864 s (State.setPawn s x1 x2) := by
  unfold State.setPawn
  repeat' first
    | with_reducible exact Keeps.refl
    | ((with_reducible apply Keeps.comp (State.putPawns_keeps ..)); · rfl)

theorem State.pawnUpd_keeps (s x1 x2) : Keeps 67108864 s (State.pawnUpd s x1 x2) := by
  unfold State.pawnUpd
  repeat' first
    | with_reducible exact Keeps.refl
    | ((with_reducible apply Keeps.comp (State.setPawn_keeps ..)); · rfl)

theorem State.pawnLevels_keeps (s x1) : Keeps 8 s (State.pawnLevels s x1) := by
  unfold State.pawnLevels
  repeat' first
    | with_reducible exact Keeps.refl
    | ((with_reducible apply Keeps.comp (State.wr_keeps ..)); · rfl)

theorem State.inLink_keeps (s x1) : Keeps 469764120 s (State.inLink s x1) := by
  unfold State.inLink
  repeat' first
    | with_reducible exact Keeps.refl
    | (lift_lets; intro z; clear_value z)
    | ((with_reducible apply Keeps.comp (State.pawnLevels_keeps ..)); · rfl)
    | ((with_reducible apply Keeps.comp (State.setPawn_keeps ..)); · rfl)
    | ((with_reducible apply Keeps.comp (State.landItem_keeps ..)); · rfl)
    | ((with_reducible apply Keeps.comp (State.inc_keeps ..)); · rfl)
    | split
    | with_reducible apply Keeps.ite

theorem State.pawnSwap_keeps (s x1) : Keeps 8 s (State.pawnSwap s x1) := by
  unfold State.pawnSwap
  repeat' first
    | with_reducible assumption
    | with_reducible exact Keeps.refl
    | (lift_lets; intro z)
    | ((with_reducible apply Keeps.comp (State.setReg_keeps ..)); · rfl)
    | ((with_reducible apply Keeps.comp (State.wr_keeps ..)); · rfl)
    | ((with_reducible apply Keeps.comp (State.inc_keeps ..)); · rfl)
    | ((with_reducible apply Keeps.comp (State.wrB_keeps ..)); · rfl)
    | with_reducible refine Keeps.foldl (fun _ _ _ => ?_) ?_

theorem State.pawnStart_keeps (s x1) : Keeps 67108872 s (State.pawnStart s x1) := by
  unfold State.pawnStart
  repeat' first
    | with_reducible exact Keeps.refl
    | (lift_lets; intro z; clear_value z)
    | ((with_reducible apply Keeps.comp (State.pawnUpd_keeps ..)); · rfl)
    | ((with_reducible apply Keeps.comp (State.wrB_keeps ..)); · rfl)
    | ((with_reducible apply Keeps.comp (State.wr_keeps ..)); · rfl)

theorem State.pawnRun_keeps (s x1) : Keeps 67108872 s (State.pawnRun s x1) := by
  unfold State.pawnRun
  repeat' first
    | with_reducible exact Keeps.refl
    | (lift_lets; intro z)
    | ((with_reducible apply Keeps.comp (State.pawnUpd_keeps ..)); · rfl)
    | ((with_reducible apply Keeps.comp (State.wr_keeps ..)); · rfl)
    | ((with_reducible apply Keeps.comp (State.wrB_keeps ..)); · rfl)

theorem State.pawnEnable_keeps (s x1) : Keeps 67108872 s (State.pawnEnable s x1) := by
  unfold State.pawnEnable
  repeat' first
    | with_reducible exact Keeps.refl
    | (lift_lets; intro z)
    | ((with_reducible apply Keeps.comp (State.cfgErr_keeps ..)); · rfl)
    | ((with_reducible apply Keeps.comp (State.wrB_keeps ..)); · rfl)
    | ((with_reducible apply Keeps.comp (State.pawnStart_keeps ..)); · rfl)
    | split

theorem execPawnEnable_keeps (x0 s) : OKeeps 67108872 s (execPawnEnable x0 s) := by
  unfold execPawnEnable
  repeat' first
    | with_reducible exact Keeps.refl
    | with_reducible apply OKeeps.next
    | ((with_reducible apply Keeps.comp (State.pawnEnable_keeps ..)); · rfl)
    | split

theorem execPawnStartDone_keeps (x0 s) : OKeeps 67108872 s (execPawnStartDone x0 s) := by
  unfold execPawnStartDone
  repeat' first
    | with_reducible exact Keeps.refl
    | with_reducible apply OKeeps.next
    | ((with_reducible apply Keeps.comp (State.wrB_keeps ..)); · rfl)
    | ((with_reducible apply Keeps.comp (State.pawnRun_keeps ..)); · rfl)
    | split

theorem State.pawnStop_keeps (s x1) : Keeps 67108872 s (State.pawnStop s x1) := by
  unfold State.pawnStop
  repeat' first
    | with_reducible exact Keeps.refl
    | (lift_lets; intro z)
    | ((with_reducible apply Keeps.comp (State.pawnLevels_keeps ..)); · rfl)
    | ((with_reducible apply Keeps.comp (State.pawnUpd_keeps ..)); · rfl)
    | ((with_reducible apply Keeps.comp (State.wr_keeps ..)); · rfl)
    | ((with_reducible apply Keeps.comp (State.wrB_keeps ..)); · rfl)
    | split

theorem State.pawnDisable_keeps (s x1) : Keeps 67108872 s (State.pawnDisable s x1) := by
  unfold State.pawnDisable
  repeat' first
    | with_reducible exact Keeps.refl
    | ((with_reducible apply Keeps.comp (State.pawnStop_keeps ..)); · rfl)
    | ((with_reducible apply Keeps.comp (State.wrB_keeps ..)); · rfl)

theorem execPawnDisable_keeps (x0 s) : OKeeps 67108872 s (execPawnDisable x0 s) := by
  unfold execPawnDisable
  repeat' first
    | with_reducible exact Keeps.refl
    | with_reducible apply OKeeps.next
    | ((with_reducible apply Keeps.comp (State.pawnDisable_keeps ..)); · rfl)
    | split

theorem execPawnStopDone_keeps (x0 s) : OKeeps 67108872 s (execPawnStopDone x0 s) := by
  unfold execPawnStopDone
  repeat' first
    | with_reducible exact Keeps.refl
    | (lift_lets; intro z; clear_value z)
    | with_reducible apply OKeeps.next
    | ((with_reducible apply Keeps.comp (State.setPawn_keeps ..)); · rfl)
    | ((with_reducible apply Keeps.comp (State.wr_keeps ..)); · rfl)
    | ((with_reducible apply Keeps.comp (State.setReg_keeps ..)); · rfl)
    | ((with_reducible apply Keeps.comp (State.wrB_keeps ..)); · rfl)
    | ((with_reducible apply Keeps.comp (State.pawnSwap_keeps ..)); · rfl)
    | ((with_reducible apply Keeps.comp (State.pawnStart_keeps ..)); · rfl)
    | split

theorem State.piaMode_keeps (s x1) : Keeps 67108872 s (State.piaMode s x1) := by
  unfold State.piaMode
  repeat' first
    | with_reducible assumption
    | with_reducible exact Keeps.refl
    | ((with_reducible apply Keeps.comp (State.pawnStop_keeps ..)); · rfl)
    | ((with_reducible apply Keeps.comp (State.pawnStart_keeps ..)); · rfl)
    | with_reducible refine Keeps.foldl (fun _ _ _ => ?_) ?_
    | split

theorem State.piaBoundary_keeps (s) : Keeps 67108864 s (State.piaBoundary s) := by
  unfold State.piaBoundary
  repeat' first
    | with_reducible assumption
    | with_reducible exact Keeps.refl
    | ((with_reducible apply Keeps.comp (State.pawnUpd_keeps ..)); · rfl)
    | with_reducible refine Keeps.foldl (fun _ _ _ => ?_) ?_
    | split

theorem State.groupGo_keeps (s x1 x2) : Keeps 67108872 s (State.groupGo s x1 x2) := by
  unfold State.groupGo
  repeat' first
    | with_reducible assumption
    | with_reducible exact Keeps.refl
    | ((with_reducible apply Keeps.comp (State.cfgErr_keeps ..)); · rfl)
    | ((with_reducible apply Keeps.comp (State.pawnRun_keeps ..)); · rfl)
    | with_reducible refine Keeps.foldl (fun _ _ _ => ?_) ?_
    | split

theorem execGroupGo_keeps (x0 x1 s) : OKeeps 67108872 s (execGroupGo x0 x1 s) := by
  unfold execGroupGo
  repeat' first
    | with_reducible exact Keeps.refl
    | with_reducible apply OKeeps.next
    | ((with_reducible apply Keeps.comp (State.groupGo_keeps ..)); · rfl)
    | split

theorem State.groupDivrst_keeps (s x1 x2) : Keeps 67108872 s (State.groupDivrst s x1 x2) := by
  unfold State.groupDivrst
  repeat' first
    | with_reducible assumption
    | with_reducible exact Keeps.refl
    | (lift_lets; intro z; clear_value z)
    | ((with_reducible apply Keeps.comp (State.cfgErr_keeps ..)); · rfl)
    | ((with_reducible apply Keeps.comp (State.pawnUpd_keeps ..)); · rfl)
    | with_reducible refine Keeps.foldl (fun _ _ _ => ?_) ?_
    | split

theorem execGroupDivrst_keeps (x0 x1 s) : OKeeps 67108872 s (execGroupDivrst x0 x1 s) := by
  unfold execGroupDivrst
  repeat' first
    | with_reducible exact Keeps.refl
    | with_reducible apply OKeeps.next
    | ((with_reducible apply Keeps.comp (State.groupDivrst_keeps ..)); · rfl)
    | split

theorem State.pawnDivide_keeps (s x1) : Keeps 67108864 s (State.pawnDivide s x1) := by
  unfold State.pawnDivide
  repeat' first
    | with_reducible exact Keeps.refl
    | (lift_lets; intro z; clear_value z)
    | ((with_reducible apply Keeps.comp (State.pawnUpd_keeps ..)); · rfl)

theorem State.pawnHalt_keeps (s x1) : Keeps 1073819784 s (State.pawnHalt s x1) := by
  unfold State.pawnHalt
  repeat' first
    | with_reducible exact Keeps.refl
    | (lift_lets; intro z; clear_value z)
    | ((with_reducible apply Keeps.comp (State.wr_keeps ..)); · rfl)
    | ((with_reducible apply Keeps.comp (State.wrB_keeps ..)); · rfl)
    | ((with_reducible apply Keeps.comp (State.logEvent_keeps ..)); · rfl)
    | ((with_reducible apply Keeps.comp (State.setIstat_keeps ..)); · rfl)
    | ((with_reducible apply Keeps.comp (State.safeStopFault_keeps ..)); · rfl)
    | with_reducible apply Keeps.ite

theorem State.pawnSequence_keeps (s x1 x2) : Keeps 1073819784 s (State.pawnSequence s x1 x2) := by
  unfold State.pawnSequence
  repeat' first
    | with_reducible exact Keeps.refl
    | (lift_lets; intro z; clear_value z)
    | ((with_reducible apply Keeps.comp (State.pawnHalt_keeps ..)); · rfl)
    | ((with_reducible apply Keeps.comp (State.wrB_keeps ..)); · rfl)
    | ((with_reducible apply Keeps.comp (State.wr_keeps ..)); · rfl)
    | ((with_reducible apply Keeps.comp (State.pawnSwap_keeps ..)); · rfl)
    | split
    | with_reducible apply Keeps.ite

theorem State.pawnForced_keeps (s x1) : Keeps 67108872 s (State.pawnForced s x1) := by
  unfold State.pawnForced
  repeat' first
    | with_reducible exact Keeps.refl
    | (lift_lets; intro z)
    | ((with_reducible apply Keeps.comp (State.pawnSwap_keeps ..)); · rfl)
    | ((with_reducible apply Keeps.comp (State.pawnUpd_keeps ..)); · rfl)
    | ((with_reducible apply Keeps.comp (State.wr_keeps ..)); · rfl)
    | split

theorem State.pawnTick_keeps {M : Nat} (hm : (1140928648 &&& M == 1140928648) = true) {f} (hf : ∀ b s, Keeps M s (f b s).2) (s x1 x2) : OKeeps M s (State.pawnTick s x1 x2 f) := by
  have hfo : ∀ {s r y z}, f r s = (y, z) → Keeps M s z := fun {s r y z} h => by have := hf r s; rw [h] at this; exact this
  unfold State.pawnTick
  repeat' first
    | with_reducible exact Keeps.refl
    | ((with_reducible apply Keeps.comp (hf _ _)); · exact sub_self _)
    | (lift_lets; intro z; first | (have hz : (fun (_ : State) => True) z := trivial; clear hz) | clear_value z)
    | with_reducible apply OKeeps.next
    | ((with_reducible apply Keeps.comp (State.pawnForced_keeps ..)); · exact sub_trans rfl hm)
    | ((with_reducible apply Keeps.comp (State.pawnDivide_keeps ..)); · exact sub_trans rfl hm)
    | ((with_reducible apply Keeps.comp (State.pawnSequence_keeps ..)); · exact sub_trans rfl hm)
    | ((with_reducible apply Keeps.comp (State.pawnUpd_keeps ..)); · exact sub_trans rfl hm)
    | split

theorem pawnPins_keeps (x0 x1 x2 s) : Keeps 67108864 s (pawnPins x0 x1 x2 s).2 := by
  unfold pawnPins
  repeat' first
    | with_reducible exact Keeps.refl
    | (lift_lets; intro z; clear_value z)
    | ((with_reducible apply Keeps.comp (State.pawnUpd_keeps ..)); · rfl)
    | split

theorem pawnPins_out {x0 x1 x2 s y0 y1} (h : pawnPins x0 x1 x2 s = (y0, y1)) : Keeps 67108864 s y1 := by
  have := pawnPins_keeps x0 x1 x2 s; rw [h] at this; exact this

theorem execPinsWrite_keeps (x0 x1 x2 x3 s) : OKeeps 1140928648 s (execPinsWrite x0 x1 x2 x3 s) := by
  unfold execPinsWrite
  repeat' first
    | with_reducible exact Keeps.refl
    | (with_reducible refine OKeeps.mono (State.pawnTick_keeps (M := 1140928648) rfl (fun _ _ => ?_) ..) rfl)
    | ((with_reducible apply Keeps.comp (pawnPins_keeps ..)); · rfl)

theorem execPinsSet_keeps (x0 x1 x2 x3 s) : OKeeps 1140928648 s (execPinsSet x0 x1 x2 x3 s) := by
  unfold execPinsSet
  repeat' first
    | with_reducible exact Keeps.refl
    | (with_reducible refine OKeeps.mono (State.pawnTick_keeps (M := 1140928648) rfl (fun _ _ => ?_) ..) rfl)
    | ((with_reducible apply Keeps.comp (pawnPins_keeps ..)); · rfl)

theorem execPinsClear_keeps (x0 x1 x2 x3 s) : OKeeps 1140928648 s (execPinsClear x0 x1 x2 x3 s) := by
  unfold execPinsClear
  repeat' first
    | with_reducible exact Keeps.refl
    | (with_reducible refine OKeeps.mono (State.pawnTick_keeps (M := 1140928648) rfl (fun _ _ => ?_) ..) rfl)
    | ((with_reducible apply Keeps.comp (pawnPins_keeps ..)); · rfl)

theorem execPinsToggle_keeps (x0 x1 x2 x3 s) : OKeeps 1140928648 s (execPinsToggle x0 x1 x2 x3 s) := by
  unfold execPinsToggle
  repeat' first
    | with_reducible exact Keeps.refl
    | (with_reducible refine OKeeps.mono (State.pawnTick_keeps (M := 1140928648) rfl (fun _ _ => ?_) ..) rfl)
    | ((with_reducible apply Keeps.comp (pawnPins_keeps ..)); · rfl)

theorem execShift_keeps (x0 x1 x2 x3 x4 x5 x6 s) : OKeeps 1140928648 s (execShift x0 x1 x2 x3 x4 x5 x6 s) := by
  unfold execShift
  repeat' first
    | with_reducible exact Keeps.refl
    | (lift_lets; intro z; clear_value z)
    | (with_reducible refine OKeeps.mono (State.pawnTick_keeps (M := 1140928648) rfl (fun _ _ => ?_) ..) rfl)
    | ((with_reducible apply Keeps.comp (State.setPawn_keeps ..)); · rfl)

theorem waitFor_keeps (x0 s) : Keeps 0 s (waitFor x0 s).2 := by
  unfold waitFor
  repeat' first
    | with_reducible exact Keeps.refl

theorem waitFor_out {x0 s y0 y1} (h : waitFor x0 s = (y0, y1)) : Keeps 0 s y1 := by
  have := waitFor_keeps x0 s; rw [h] at this; exact this

theorem execPawnWait_keeps (x0 x1 x2 x3 x4 s) : OKeeps 1140928648 s (execPawnWait x0 x1 x2 x3 x4 s) := by
  unfold execPawnWait
  repeat' first
    | with_reducible exact Keeps.refl
    | (lift_lets; intro z; clear_value z)
    | (with_reducible refine OKeeps.mono (State.pawnTick_keeps (M := 1140928648) rfl (fun _ _ => ?_) ..) rfl)
    | ((with_reducible apply Keeps.comp (waitFor_keeps ..)); · rfl)
    | ((with_reducible apply Keeps.comp (State.setPawn_keeps ..)); · rfl)
    | split

theorem execLdi_keeps (x0 x1 x2 x3 x4 s) : OKeeps 1140928648 s (execLdi x0 x1 x2 x3 x4 s) := by
  unfold execLdi
  repeat' first
    | with_reducible exact Keeps.refl
    | (lift_lets; intro z; clear_value z)
    | (with_reducible refine OKeeps.mono (State.pawnTick_keeps (M := 1140928648) rfl (fun _ _ => ?_) ..) rfl)
    | ((with_reducible apply Keeps.comp (State.setPawn_keeps ..)); · rfl)
    | split

theorem execMov_keeps (x0 x1 x2 x3 x4 s) : OKeeps 1140928648 s (execMov x0 x1 x2 x3 x4 s) := by
  unfold execMov
  repeat' first
    | with_reducible exact Keeps.refl
    | (lift_lets; intro z; clear_value z)
    | (with_reducible refine OKeeps.mono (State.pawnTick_keeps (M := 1140928648) rfl (fun _ _ => ?_) ..) rfl)
    | ((with_reducible apply Keeps.comp (State.setPawn_keeps ..)); · rfl)
    | split

theorem execFifoPull_keeps (x0 x1 s) : OKeeps 1140928648 s (execFifoPull x0 x1 s) := by
  unfold execFifoPull
  repeat' first
    | with_reducible exact Keeps.refl
    | (lift_lets; intro z; clear_value z)
    | (with_reducible refine OKeeps.mono (State.pawnTick_keeps (M := 1140928648) rfl (fun _ _ => ?_) ..) rfl)
    | ((with_reducible apply Keeps.comp (State.wrB_keeps ..)); · rfl)
    | ((with_reducible apply Keeps.comp (State.pawnLevels_keeps ..)); · rfl)
    | ((with_reducible apply Keeps.comp (State.setPawn_keeps ..)); · rfl)
    | split

theorem execFifoPush_keeps (x0 x1 s) : OKeeps 1543583896 s (execFifoPush x0 x1 s) := by
  unfold execFifoPush
  repeat' first
    | with_reducible exact Keeps.refl
    | (lift_lets; intro z; clear_value z)
    | (with_reducible refine OKeeps.mono (State.pawnTick_keeps (M := 1543583896) rfl (fun _ _ => ?_) ..) rfl)
    | ((with_reducible apply Keeps.comp (State.wrB_keeps ..)); · rfl)
    | ((with_reducible apply Keeps.comp (State.inLink_keeps ..)); · rfl)
    | ((with_reducible apply Keeps.comp (State.pawnLevels_keeps ..)); · rfl)
    | ((with_reducible apply Keeps.comp (State.setPawn_keeps ..)); · rfl)
    | split

theorem execPawnJmp_keeps (x0 x1 x2 x3 s) : OKeeps 1140928648 s (execPawnJmp x0 x1 x2 x3 s) := by
  unfold execPawnJmp
  repeat' first
    | with_reducible exact Keeps.refl
    | (with_reducible refine OKeeps.mono (State.pawnTick_keeps (M := 1140928648) rfl (fun _ _ => ?_) ..) rfl)

theorem execDjnz_keeps (x0 x1 x2 x3 s) : OKeeps 1140928648 s (execDjnz x0 x1 x2 x3 s) := by
  unfold execDjnz
  repeat' first
    | with_reducible exact Keeps.refl
    | (lift_lets; intro z; clear_value z)
    | (with_reducible refine OKeeps.mono (State.pawnTick_keeps (M := 1140928648) rfl (fun _ _ => ?_) ..) rfl)
    | ((with_reducible apply Keeps.comp (State.setPawn_keeps ..)); · rfl)
    | split
    | dsimp only

theorem State.setFlags_keeps (s x1) : Keeps 8 s (State.setFlags s x1) := by
  unfold State.setFlags
  repeat' first
    | with_reducible exact Keeps.refl
    | ((with_reducible apply Keeps.comp (State.wr_keeps ..)); · rfl)

theorem execFlagSet_keeps (x0 x1 x2 s) : OKeeps 1140928648 s (execFlagSet x0 x1 x2 s) := by
  unfold execFlagSet
  repeat' first
    | with_reducible exact Keeps.refl
    | (with_reducible refine OKeeps.mono (State.pawnTick_keeps (M := 1140928648) rfl (fun _ _ => ?_) ..) rfl)
    | ((with_reducible apply Keeps.comp (State.setFlags_keeps ..)); · rfl)
    | split

theorem execFlagClear_keeps (x0 x1 x2 s) : OKeeps 1140928648 s (execFlagClear x0 x1 x2 s) := by
  unfold execFlagClear
  repeat' first
    | with_reducible exact Keeps.refl
    | (with_reducible refine OKeeps.mono (State.pawnTick_keeps (M := 1140928648) rfl (fun _ _ => ?_) ..) rfl)
    | ((with_reducible apply Keeps.comp (State.setFlags_keeps ..)); · rfl)
    | split

theorem execFlagNote_keeps (x0 x1 s) : OKeeps 1140928648 s (execFlagNote x0 x1 s) := by
  unfold execFlagNote
  repeat' first
    | with_reducible exact Keeps.refl
    | (with_reducible refine OKeeps.mono (State.pawnTick_keeps (M := 1140928648) rfl (fun _ _ => ?_) ..) rfl)
    | ((with_reducible apply Keeps.comp (State.setIstat_keeps ..)); · rfl)

theorem execPawnUndefined_keeps (x0 x1 s) : OKeeps 1140928648 s (execPawnUndefined x0 x1 s) := by
  unfold execPawnUndefined
  repeat' first
    | with_reducible exact Keeps.refl
    | (with_reducible refine OKeeps.mono (State.pawnTick_keeps (M := 1140928648) rfl (fun _ _ => ?_) ..) rfl)

theorem State.progArm_keeps (s x1) : Keeps 8 s (State.progArm s x1) := by
  unfold State.progArm
  repeat' first
    | with_reducible exact Keeps.refl
    | (lift_lets; intro z)
    | ((with_reducible apply Keeps.comp (State.wrB_keeps ..)); · rfl)
    | ((with_reducible apply Keeps.comp (State.pawnSwap_keeps ..)); · rfl)
    | split

theorem execProgArm_keeps (x0 s) : OKeeps 8 s (execProgArm x0 s) := by
  unfold execProgArm
  repeat' first
    | with_reducible exact Keeps.refl
    | with_reducible apply OKeeps.next
    | ((with_reducible apply Keeps.comp (State.progArm_keeps ..)); · rfl)
    | split

theorem State.progSwapNow_keeps (s x1) : Keeps 67108872 s (State.progSwapNow s x1) := by
  unfold State.progSwapNow
  repeat' first
    | with_reducible exact Keeps.refl
    | ((with_reducible apply Keeps.comp (State.pawnUpd_keeps ..)); · rfl)
    | ((with_reducible apply Keeps.comp (State.pawnSwap_keeps ..)); · rfl)
    | split

theorem execSwapNow_keeps (x0 s) : OKeeps 67108872 s (execSwapNow x0 s) := by
  unfold execSwapNow
  repeat' first
    | with_reducible exact Keeps.refl
    | with_reducible apply OKeeps.next
    | ((with_reducible apply Keeps.comp (State.progSwapNow_keeps ..)); · rfl)
    | split

theorem State.txfPush_keeps (s x1 x2) : Keeps 67108872 s (State.txfPush s x1 x2) := by
  unfold State.txfPush
  repeat' first
    | with_reducible exact Keeps.refl
    | (lift_lets; intro z; clear_value z)
    | ((with_reducible apply Keeps.comp (State.inc_keeps ..)); · rfl)
    | ((with_reducible apply Keeps.comp (State.pawnLevels_keeps ..)); · rfl)
    | ((with_reducible apply Keeps.comp (State.setPawn_keeps ..)); · rfl)
    | split

theorem execTxfPush_keeps (x0 x1 s) : OKeeps 67108872 s (execTxfPush x0 x1 s) := by
  unfold execTxfPush
  repeat' first
    | with_reducible exact Keeps.refl
    | with_reducible apply OKeeps.next
    | ((with_reducible apply Keeps.comp (State.txfPush_keeps ..)); · rfl)
    | split

theorem State.rxfPop_keeps (s x1) : Keeps 67108872 s (State.rxfPop s x1).2 := by
  unfold State.rxfPop
  repeat' first
    | with_reducible exact Keeps.refl
    | (lift_lets; intro z; clear_value z)
    | ((with_reducible apply Keeps.comp (State.pawnLevels_keeps ..)); · rfl)
    | ((with_reducible apply Keeps.comp (State.setPawn_keeps ..)); · rfl)
    | split

theorem State.rxfPop_out {s x1 y0 y1} (h : State.rxfPop s x1 = (y0, y1)) : Keeps 67108872 s y1 := by
  have := State.rxfPop_keeps s x1; rw [h] at this; exact this

theorem execRxfPop_keeps (x0 s) : OKeeps 2214592520 s (execRxfPop x0 s) := by
  unfold execRxfPop
  repeat' first
    | with_reducible exact Keeps.refl
    | with_reducible apply OKeeps.next
    | ((with_reducible apply Keeps.comp (State.putReadData_keeps ..)); · rfl)
    | ((with_reducible apply Keeps.comp (State.rxfPop_keeps ..)); · rfl)
    | split

theorem execPiaFlagSetWrite_keeps (x0 s) : OKeeps 8 s (execPiaFlagSetWrite x0 s) := by
  unfold execPiaFlagSetWrite
  repeat' first
    | with_reducible exact Keeps.refl
    | with_reducible apply OKeeps.next
    | ((with_reducible apply Keeps.comp (State.setFlags_keeps ..)); · rfl)
    | split

theorem execPiaFlagClrWrite_keeps (x0 s) : OKeeps 8 s (execPiaFlagClrWrite x0 s) := by
  unfold execPiaFlagClrWrite
  repeat' first
    | with_reducible exact Keeps.refl
    | with_reducible apply OKeeps.next
    | ((with_reducible apply Keeps.comp (State.setFlags_keeps ..)); · rfl)
    | split

theorem State.linkItem_keeps (s x1 x2) : Keeps 602120 s (State.linkItem s x1 x2).2 := by
  unfold State.linkItem
  repeat' first
    | with_reducible exact Keeps.refl
    | (lift_lets; intro z; clear_value z)
    | ((with_reducible apply Keeps.comp (State.imageSource_keeps ..)); · rfl)
    | split
    | with_reducible apply Keeps.snd_ite

theorem State.linkItem_out {s x1 x2 y0 y1} (h : State.linkItem s x1 x2 = (y0, y1)) : Keeps 602120 s y1 := by
  have := State.linkItem_keeps s x1 x2; rw [h] at this; exact this

theorem State.linkFire_keeps (s x1) : Keeps 67710984 s (State.linkFire s x1) := by
  unfold State.linkFire
  repeat' first
    | with_reducible exact Keeps.refl
    | (lift_lets; intro z; clear_value z)
    | ((with_reducible apply Keeps.comp (State.inc_keeps ..)); · rfl)
    | ((with_reducible apply Keeps.comp (State.linkItem_keeps ..)); · rfl)
    | ((with_reducible apply Keeps.comp (State.pawnLevels_keeps ..)); · rfl)
    | ((with_reducible apply Keeps.comp (State.pawnUpd_keeps ..)); · rfl)
    | split

theorem execOutputLinkTrigger_keeps (x0 s) : OKeeps 67973128 s (execOutputLinkTrigger x0 s) := by
  unfold execOutputLinkTrigger
  repeat' first
    | with_reducible exact Keeps.refl
    | with_reducible apply OKeeps.next
    | ((with_reducible apply Keeps.comp (State.linkFire_keeps ..)); · rfl)
    | ((with_reducible apply Keeps.comp (State.pawnUpd_keeps ..)); · rfl)
    | ((with_reducible apply Keeps.comp (State.advanceTo_keeps ..)); · rfl)
    | split

end Sys2Proof.Machine
end

