-- ==== Sys2Proof/Laws/KeepsAce.lean ====
section
/-! SUPPORT. What each operation of Machine/Ace.lean leaves alone (the relation Keeps). -/

namespace Sys2Proof.Machine

theorem State.axisReadyBit_keeps (s x1) : Keeps 8 s (State.axisReadyBit s x1) := by
  unfold State.axisReadyBit
  repeat' first
    | with_reducible exact Keeps.refl
    | ((with_reducible apply Keeps.comp (State.wrB_keeps ..)); · rfl)

theorem State.aceSto_keeps (s x1 x2) : Keeps 8 s (State.aceSto s x1 x2) := by
  unfold State.aceSto
  repeat' first
    | with_reducible exact Keeps.refl
    | (lift_lets; intro z)
    | ((with_reducible apply Keeps.comp (State.wrB_keeps ..)); · rfl)
    | ((with_reducible apply Keeps.comp (State.wr_keeps ..)); · rfl)
    | split

theorem execAceDeadline_keeps (x0 s) : OKeeps 134479880 s (execAceDeadline x0 s) := by
  unfold execAceDeadline
  repeat' first
    | with_reducible exact Keeps.refl
    | (lift_lets; intro z; clear_value z)
    | with_reducible apply OKeeps.next
    | ((with_reducible apply Keeps.comp (State.axisUpd_keeps ..)); · rfl)
    | ((with_reducible apply Keeps.comp (State.advanceTo_keeps ..)); · rfl)
    | split

theorem State.axisError_keeps (s x1 x2) : Keeps 1207971976 s (State.axisError s x1 x2) := by
  unfold State.axisError
  repeat' first
    | with_reducible exact Keeps.refl
    | (lift_lets; intro z)
    | ((with_reducible apply Keeps.comp (State.axisUpd_keeps ..)); · rfl)
    | ((with_reducible apply Keeps.comp (State.logEvent_keeps ..)); · rfl)
    | ((with_reducible apply Keeps.comp (State.axisReadyBit_keeps ..)); · rfl)
    | ((with_reducible apply Keeps.comp (State.wr_keeps ..)); · rfl)
    | ((with_reducible apply Keeps.comp (State.safeStopFault_keeps ..)); · rfl)

theorem State.fbWord_keeps (s x1 x2) : Keeps 602120 s (State.fbWord s x1 x2).2.2 := by
  unfold State.fbWord
  repeat' first
    | with_reducible exact Keeps.refl
    | ((with_reducible apply Keeps.comp (State.sramRead_keeps ..)); · rfl)
    | split

theorem State.fbWord_out {s x1 x2 y0 y1 y2} (h : State.fbWord s x1 x2 = (y0, y1, y2)) : Keeps 602120 s y2 := by
  have := State.fbWord_keeps s x1 x2; rw [h] at this; exact this

theorem State.sampleStart_keeps (s x1 x2 x3) : Keeps 1208561800 s (State.sampleStart s x1 x2 x3) := by
  unfold State.sampleStart
  repeat' first
    | with_reducible exact Keeps.refl
    | (lift_lets; intro z; clear_value z)
    | ((with_reducible apply Keeps.comp (State.putImage_keeps ..)); · rfl)
    | ((with_reducible apply Keeps.comp (State.wrB_keeps ..)); · rfl)
    | ((with_reducible apply Keeps.comp (State.hostBytes_keeps ..)); · rfl)
    | ((with_reducible apply Keeps.comp (State.fbWord_keeps ..)); · rfl)
    | ((with_reducible apply Keeps.comp (State.axisError_keeps ..)); · rfl)
    | ((with_reducible apply Keeps.comp (State.setIstat_keeps ..)); · rfl)
    | ((with_reducible apply Keeps.comp (State.setAxis_keeps ..)); · rfl)
    | split
    | with_reducible apply Keeps.ite

theorem execAceDispatch_keeps (x0 x1 s) : OKeeps 1208823944 s (execAceDispatch x0 x1 s) := by
  unfold execAceDispatch
  repeat' first
    | with_reducible exact Keeps.refl
    | (lift_lets; intro z; clear_value z)
    | with_reducible apply OKeeps.next
    | ((with_reducible apply Keeps.comp (State.advanceTo_keeps ..)); · rfl)
    | ((with_reducible apply Keeps.comp (State.putAce_keeps ..)); · rfl)
    | ((with_reducible apply Keeps.comp (State.sampleStart_keeps ..)); · rfl)
    | split
    | dsimp only

theorem State.writeResult_keeps (s x1 x2) : Keeps 402655256 s (State.writeResult s x1 x2) := by
  unfold State.writeResult
  repeat' first
    | with_reducible exact Keeps.refl
    | (lift_lets; intro z)
    | ((with_reducible apply Keeps.comp (State.axisUpd_keeps ..)); · rfl)
    | ((with_reducible apply Keeps.comp (State.landItem_keeps ..)); · rfl)

theorem State.sampleDone_keeps (s x1 x2) : Keeps 402655256 s (State.sampleDone s x1 x2) := by
  unfold State.sampleDone
  repeat' first
    | with_reducible exact Keeps.refl
    | (lift_lets; intro z; clear_value z)
    | ((with_reducible apply Keeps.comp (State.setAxis_keeps ..)); · rfl)
    | ((with_reducible apply Keeps.comp (State.wr_keeps ..)); · rfl)
    | ((with_reducible apply Keeps.comp (State.axisReadyBit_keeps ..)); · rfl)
    | ((with_reducible apply Keeps.comp (State.wrB_keeps ..)); · rfl)
    | ((with_reducible apply Keeps.comp (State.writeResult_keeps ..)); · rfl)
    | split

theorem execAceResultLand_keeps (x0 s) : OKeeps 402917400 s (execAceResultLand x0 s) := by
  unfold execAceResultLand
  repeat' first
    | with_reducible exact Keeps.refl
    | (lift_lets; intro z; clear_value z)
    | with_reducible apply OKeeps.next
    | ((with_reducible apply Keeps.comp (State.sampleDone_keeps ..)); · rfl)
    | ((with_reducible apply Keeps.comp (State.advanceTo_keeps ..)); · rfl)
    | split

theorem State.wrSome_keeps (s x1 x2) : Keeps 8 s (State.wrSome s x1 x2) := by
  unfold State.wrSome
  repeat' first
    | with_reducible exact Keeps.refl
    | ((with_reducible apply Keeps.comp (State.wr_keeps ..)); · rfl)
    | split

theorem State.axisSnap_keeps (s x1 x2) : Keeps 8 s (State.axisSnap s x1 x2) := by
  unfold State.axisSnap
  repeat' first
    | with_reducible exact Keeps.refl
    | (lift_lets; intro z)
    | ((with_reducible apply Keeps.comp (State.wrSome_keeps ..)); · rfl)
    | ((with_reducible apply Keeps.comp (State.wr_keeps ..)); · rfl)

theorem State.axisDl_keeps (s x1) : Keeps 403245080 s (State.axisDl s x1) := by
  unfold State.axisDl
  repeat' first
    | with_reducible exact Keeps.refl
    | (lift_lets; intro z; clear_value z)
    | ((with_reducible apply Keeps.comp (State.axisSnap_keeps ..)); · rfl)
    | ((with_reducible apply Keeps.comp (State.sampleDone_keeps ..)); · rfl)
    | ((with_reducible apply Keeps.comp (State.axisUpd_keeps ..)); · rfl)
    | ((with_reducible apply Keeps.comp (State.setIstat_keeps ..)); · rfl)
    | ((with_reducible apply Keeps.comp (State.wrB_keeps ..)); · rfl)
    | ((with_reducible apply Keeps.comp (State.putImage_keeps ..)); · rfl)
    | ((with_reducible apply Keeps.comp (State.writeResult_keeps ..)); · rfl)
    | split

theorem State.aceDl_keeps (s) : Keeps 403245080 s (State.aceDl s) := by
  unfold State.aceDl
  repeat' first
    | with_reducible assumption
    | with_reducible exact Keeps.refl
    | (lift_lets; intro z; first | (have hz : (fun (_ : State) => True) z := trivial; clear hz) | clear_value z)
    | ((with_reducible apply Keeps.comp (State.axisDl_keeps ..)); · rfl)
    | ((with_reducible apply Keeps.comp (State.wr_keeps ..)); · rfl)
    | ((with_reducible apply Keeps.comp (State.incWrap_keeps ..)); · rfl)
    | ((with_reducible apply Keeps.comp (State.putAce_keeps ..)); · rfl)
    | with_reducible refine Keeps.foldl (fun _ _ _ => ?_) ?_
    | split
    | with_reducible apply Keeps.ite

theorem State.axisArith_keeps (s x1 x2) : Keeps 8 s (State.axisArith s x1 x2) := by
  unfold State.axisArith
  repeat' first
    | with_reducible exact Keeps.refl
    | ((with_reducible apply Keeps.comp (State.wrB_keeps ..)); · rfl)
    | split

theorem State.axisShift_keeps (s x1) : Keeps 134217736 s (State.axisShift s x1) := by
  unfold State.axisShift
  repeat' first
    | with_reducible exact Keeps.refl
    | (lift_lets; intro z; clear_value z)
    | ((with_reducible apply Keeps.comp (State.axisArith_keeps ..)); · rfl)
    | ((with_reducible apply Keeps.comp (State.wr_keeps ..)); · rfl)
    | ((with_reducible apply Keeps.comp (State.setAxis_keeps ..)); · rfl)
    | split
    | dsimp only

theorem State.axisClose_keeps (s x1) : Keeps 1208037512 s (State.axisClose s x1) := by
  unfold State.axisClose
  repeat' first
    | with_reducible exact Keeps.refl
    | (lift_lets; intro z; clear_value z)
    | ((with_reducible apply Keeps.comp (State.axisShift_keeps ..)); · rfl)
    | ((with_reducible apply Keeps.comp (State.axisUpd_keeps ..)); · rfl)
    | ((with_reducible apply Keeps.comp (State.wr_keeps ..)); · rfl)
    | ((with_reducible apply Keeps.comp (State.inc_keeps ..)); · rfl)
    | ((with_reducible apply Keeps.comp (State.setIstat_keeps ..)); · rfl)
    | ((with_reducible apply Keeps.comp (State.wrB_keeps ..)); · rfl)
    | ((with_reducible apply Keeps.comp (State.safeStopFault_keeps ..)); · rfl)
    | split
    | with_reducible apply Keeps.ite

theorem State.aceClose_keeps (s) : Keeps 1208037512 s (State.aceClose s) := by
  unfold State.aceClose
  repeat' first
    | with_reducible assumption
    | with_reducible exact Keeps.refl
    | ((with_reducible apply Keeps.comp (State.axisClose_keeps ..)); · rfl)
    | with_reducible refine Keeps.foldl (fun _ _ _ => ?_) ?_
    | split

theorem State.aceOpen_keeps (s) : Keeps 1208549384 s (State.aceOpen s) := by
  unfold State.aceOpen
  repeat' first
    | with_reducible assumption
    | with_reducible exact Keeps.refl
    | (lift_lets; intro z; clear_value z)
    | ((with_reducible apply Keeps.comp (State.putImage_keeps ..)); · rfl)
    | ((with_reducible apply Keeps.comp (State.bankSwapDue_keeps ..)); · rfl)
    | ((with_reducible apply Keeps.comp (State.axisReadyBit_keeps ..)); · rfl)
    | ((with_reducible apply Keeps.comp (State.axisUpd_keeps ..)); · rfl)
    | ((with_reducible apply Keeps.comp (State.putAce_keeps ..)); · rfl)
    | with_reducible refine Keeps.foldl (fun _ _ _ => ?_) ?_
    | with_reducible apply Keeps.ite

theorem State.axisClear_keeps (s x1) : Keeps 134217736 s (State.axisClear s x1) := by
  unfold State.axisClear
  repeat' first
    | with_reducible exact Keeps.refl
    | (lift_lets; intro z; clear_value z)
    | ((with_reducible apply Keeps.comp (State.axisUpd_keeps ..)); · rfl)
    | ((with_reducible apply Keeps.comp (State.wr_keeps ..)); · rfl)
    | ((with_reducible apply Keeps.comp (State.wrB_keeps ..)); · rfl)

theorem State.axisStopEnter_keeps (s x1) : Keeps 134217736 s (State.axisStopEnter s x1) := by
  unfold State.axisStopEnter
  repeat' first
    | with_reducible exact Keeps.refl
    | (lift_lets; intro z; clear_value z)
    | ((with_reducible apply Keeps.comp (State.axisArith_keeps ..)); · rfl)
    | ((with_reducible apply Keeps.comp (State.wr_keeps ..)); · rfl)
    | ((with_reducible apply Keeps.comp (State.setAxis_keeps ..)); · rfl)
    | split
    | with_reducible apply Keeps.ite

theorem State.aceMode_keeps (s x1) : Keeps 134217736 s (State.aceMode s x1) := by
  unfold State.aceMode
  repeat' first
    | with_reducible assumption
    | with_reducible exact Keeps.refl
    | (lift_lets; intro z; clear_value z)
    | ((with_reducible apply Keeps.comp (State.putAce_keeps ..)); · rfl)
    | ((with_reducible apply Keeps.comp (State.axisStopEnter_keeps ..)); · rfl)
    | ((with_reducible apply Keeps.comp (State.axisUpd_keeps ..)); · rfl)
    | ((with_reducible apply Keeps.comp (State.wr_keeps ..)); · rfl)
    | ((with_reducible apply Keeps.comp (State.axisClear_keeps ..)); · rfl)
    | with_reducible refine Keeps.foldl (fun _ _ _ => ?_) ?_
    | split

theorem execAceBankApply_keeps (s) : OKeeps 134217736 s (execAceBankApply s) := by
  unfold execAceBankApply
  repeat' first
    | with_reducible exact Keeps.refl
    | with_reducible apply OKeeps.next
    | ((with_reducible apply Keeps.comp (State.bankApply_keeps ..)); · rfl)
    | split

theorem execAceApplyCheckDone_keeps (s) : OKeeps 1208025096 s (execAceApplyCheckDone s) := by
  unfold execAceApplyCheckDone
  repeat' first
    | with_reducible exact Keeps.refl
    | with_reducible apply OKeeps.next
    | ((with_reducible apply Keeps.comp (State.bankChecked_keeps ..)); · rfl)
    | split

theorem execAceCopy_keeps (x0 s) : OKeeps 134217736 s (execAceCopy x0 s) := by
  unfold execAceCopy
  repeat' first
    | with_reducible exact Keeps.refl
    | with_reducible apply OKeeps.next
    | ((with_reducible apply Keeps.comp (State.bankCopy_keeps ..)); · rfl)
    | split

theorem execAceCopyDone_keeps (s) : OKeeps 65544 s (execAceCopyDone s) := by
  unfold execAceCopyDone
  repeat' first
    | with_reducible exact Keeps.refl
    | with_reducible apply OKeeps.next
    | ((with_reducible apply Keeps.comp (State.bankCopied_keeps ..)); · rfl)
    | split

end Sys2Proof.Machine
end

