-- ==== Sys2Proof/Laws/KeepsSfi.lean ====
section
/-! SUPPORT. What each operation of Machine/Sfi.lean leaves alone (the relation Keeps). -/

namespace Sys2Proof.Machine

theorem State.setSfi_keeps (s x1) : Keeps 268435456 s (State.setSfi s x1) := by
  unfold State.setSfi
  repeat' first
    | with_reducible exact Keeps.refl
    | ((with_reducible apply Keeps.comp (State.putSfi_keeps ..)); · rfl)

theorem State.sfiDemand_keeps (s) : Keeps 1073741960 s (State.sfiDemand s) := by
  unfold State.sfiDemand
  repeat' first
    | with_reducible exact Keeps.refl
    | ((with_reducible apply Keeps.comp (State.acceptMode_keeps ..)); · rfl)
    | split

theorem State.sfiFault_keeps (s x1) : Keeps 1342189704 s (State.sfiFault s x1) := by
  unfold State.sfiFault
  repeat' first
    | with_reducible exact Keeps.refl
    | (lift_lets; intro z; clear_value z)
    | ((with_reducible apply Keeps.comp (State.setSfi_keeps ..)); · rfl)
    | ((with_reducible apply Keeps.comp (State.wrB_keeps ..)); · rfl)
    | ((with_reducible apply Keeps.comp (State.wr_keeps ..)); · rfl)
    | ((with_reducible apply Keeps.comp (State.sfiDemand_keeps ..)); · rfl)
    | ((with_reducible apply Keeps.comp (State.logEvent_keeps ..)); · rfl)
    | split

theorem State.sfiBegin_keeps (s x1) : Keeps 268435460 s (State.sfiBegin s x1) := by
  unfold State.sfiBegin
  repeat' first
    | with_reducible exact Keeps.refl
    | ((with_reducible apply Keeps.comp (State.takeFree_keeps ..)); · rfl)
    | ((with_reducible apply Keeps.comp (State.setSfi_keeps ..)); · rfl)

theorem State.sfiActivate_keeps (s x1) : Keeps 268435460 s (State.sfiActivate s x1) := by
  unfold State.sfiActivate
  repeat' first
    | with_reducible assumption
    | with_reducible exact Keeps.refl
    | (lift_lets; intro z; clear_value z)
    | ((with_reducible apply Keeps.comp (State.sfiBegin_keeps ..)); · rfl)
    | ((with_reducible apply Keeps.comp (State.setSfi_keeps ..)); · rfl)
    | with_reducible refine Keeps.foldl (fun _ _ _ => ?_) ?_

theorem State.sfiSelfTest_keeps (s x1) : Keeps 1342189704 s (State.sfiSelfTest s x1) := by
  unfold State.sfiSelfTest
  repeat' first
    | with_reducible exact Keeps.refl
    | (lift_lets; intro z; clear_value z)
    | ((with_reducible apply Keeps.comp (State.setSfi_keeps ..)); · rfl)
    | ((with_reducible apply Keeps.comp (State.sfiFault_keeps ..)); · rfl)
    | split

theorem State.sfiLoad_keeps (s) : Keeps 268435460 s (State.sfiLoad s) := by
  unfold State.sfiLoad
  repeat' first
    | with_reducible exact Keeps.refl
    | (lift_lets; intro z; clear_value z)
    | ((with_reducible apply Keeps.comp (State.setSfi_keeps ..)); · rfl)
    | ((with_reducible apply Keeps.comp (State.sfiActivate_keeps ..)); · rfl)
    | split

theorem State.sfiViewAxis_keeps (s x1) : Keeps 8 s (State.sfiViewAxis s x1) := by
  unfold State.sfiViewAxis
  repeat' first
    | with_reducible exact Keeps.refl
    | (lift_lets; intro z; clear_value z)
    | ((with_reducible apply Keeps.comp (State.setReg_keeps ..)); · rfl)

theorem State.sfiViewConn_keeps (s x1) : Keeps 8 s (State.sfiViewConn s x1) := by
  unfold State.sfiViewConn
  repeat' first
    | with_reducible exact Keeps.refl
    | (lift_lets; intro z; clear_value z)
    | ((with_reducible apply Keeps.comp (State.setReg_keeps ..)); · rfl)

theorem State.sfiView_keeps (s) : Keeps 8 s (State.sfiView s) := by
  unfold State.sfiView
  repeat' first
    | with_reducible assumption
    | with_reducible exact Keeps.refl
    | (lift_lets; intro z; clear_value z)
    | ((with_reducible apply Keeps.comp (State.setReg_keeps ..)); · rfl)
    | ((with_reducible apply Keeps.comp (State.sfiViewAxis_keeps ..)); · rfl)
    | ((with_reducible apply Keeps.comp (State.sfiViewConn_keeps ..)); · rfl)
    | ((with_reducible apply Keeps.comp (State.incWrap_keeps ..)); · rfl)
    | with_reducible refine Keeps.foldl (fun _ _ _ => ?_) ?_

theorem State.sfiLogic_keeps (s) : Keeps 268435456 s (State.sfiLogic s) := by
  unfold State.sfiLogic
  repeat' first
    | with_reducible exact Keeps.refl
    | (lift_lets; intro z; clear_value z)
    | ((with_reducible apply Keeps.comp (State.setSfi_keeps ..)); · rfl)

theorem State.sfiRestartPi_keeps (s x1) : Keeps 268435460 s (State.sfiRestartPi s x1) := by
  unfold State.sfiRestartPi
  repeat' first
    | with_reducible assumption
    | with_reducible exact Keeps.refl
    | (lift_lets; intro z; clear_value z)
    | ((with_reducible apply Keeps.comp (State.sfiBegin_keeps ..)); · rfl)
    | with_reducible refine Keeps.foldl (fun _ _ _ => ?_) ?_
    | split

theorem execSfiTickStart_keeps (x0 x1 s) : OKeeps 268697612 s (execSfiTickStart x0 x1 s) := by
  unfold execSfiTickStart
  repeat' first
    | with_reducible exact Keeps.refl
    | (lift_lets; intro z; clear_value z)
    | with_reducible apply OKeeps.next
    | ((with_reducible apply Keeps.comp (State.advanceTo_keeps ..)); · rfl)
    | ((with_reducible apply Keeps.comp (State.sfiView_keeps ..)); · rfl)
    | ((with_reducible apply Keeps.comp (State.setSfi_keeps ..)); · rfl)
    | ((with_reducible apply Keeps.comp (State.sfiLogic_keeps ..)); · rfl)
    | ((with_reducible apply Keeps.comp (State.sfiActivate_keeps ..)); · rfl)
    | ((with_reducible apply Keeps.comp (State.sfiRestartPi_keeps ..)); · rfl)
    | split
    | with_reducible apply OKeeps.ite

theorem State.sfiRelay_keeps (s) : Keeps 270534680 s (State.sfiRelay s) := by
  unfold State.sfiRelay
  repeat' first
    | with_reducible assumption
    | with_reducible exact Keeps.refl
    | (lift_lets; intro z; clear_value z)
    | ((with_reducible apply Keeps.comp (State.swArrive_keeps ..)); · rfl)
    | ((with_reducible apply Keeps.comp (State.setSfi_keeps ..)); · rfl)
    | with_reducible refine Keeps.foldl (fun _ _ _ => ?_) ?_
    | split

theorem State.sfiRewrite_keeps (s) : Keeps 402655256 s (State.sfiRewrite s) := by
  unfold State.sfiRewrite
  repeat' first
    | with_reducible assumption
    | with_reducible exact Keeps.refl
    | (lift_lets; intro z; clear_value z)
    | ((with_reducible apply Keeps.comp (State.landItem_keeps ..)); · rfl)
    | with_reducible refine Keeps.foldl (fun _ _ _ => ?_) ?_
    | split

theorem execSfiOutputSwitch_keeps (s) : OKeeps 1478756504 s (execSfiOutputSwitch s) := by
  unfold execSfiOutputSwitch
  repeat' first
    | with_reducible assumption
    | with_reducible exact Keeps.refl
    | (lift_lets; intro z; first | (have hz : (fun (_ : State) => True) z := trivial; clear hz) | clear_value z)
    | with_reducible apply OKeeps.next
    | ((with_reducible apply Keeps.comp (State.advanceTo_keeps ..)); · rfl)
    | ((with_reducible apply Keeps.comp (State.setSfi_keeps ..)); · rfl)
    | ((with_reducible apply Keeps.comp (State.aceSto_keeps ..)); · rfl)
    | ((with_reducible apply Keeps.comp (State.sfiDemand_keeps ..)); · rfl)
    | ((with_reducible apply Keeps.comp (State.sfiRewrite_keeps ..)); · rfl)
    | ((with_reducible apply Keeps.comp (State.sfiRelay_keeps ..)); · rfl)
    | with_reducible refine Keeps.foldl (fun _ _ _ => ?_) ?_
    | split

theorem execSfiTickOverrun_keeps (s) : OKeeps 1342451848 s (execSfiTickOverrun s) := by
  unfold execSfiTickOverrun
  repeat' first
    | with_reducible exact Keeps.refl
    | with_reducible apply OKeeps.next
    | ((with_reducible apply Keeps.comp (State.sfiFault_keeps ..)); · rfl)
    | ((with_reducible apply Keeps.comp (State.advanceTo_keeps ..)); · rfl)
    | split

theorem State.sfiNote_keeps (s x1) : Keeps 268435456 s (State.sfiNote s x1) := by
  unfold State.sfiNote
  repeat' first
    | with_reducible exact Keeps.refl
    | (lift_lets; intro z; clear_value z)
    | ((with_reducible apply Keeps.comp (State.setSfi_keeps ..)); · rfl)
    | split

theorem execSfiFaultDetect_keeps (x0 s) : OKeeps 1342189704 s (execSfiFaultDetect x0 s) := by
  unfold execSfiFaultDetect
  repeat' first
    | with_reducible exact Keeps.refl
    | with_reducible apply OKeeps.next
    | ((with_reducible apply Keeps.comp (State.sfiFault_keeps ..)); · rfl)
    | ((with_reducible apply Keeps.comp (State.sfiNote_keeps ..)); · rfl)
    | split

theorem execSfiPeriodicSelftest_keeps (x0 s) : OKeeps 1342189704 s (execSfiPeriodicSelftest x0 s) := by
  unfold execSfiPeriodicSelftest
  repeat' first
    | with_reducible exact Keeps.refl
    | with_reducible apply OKeeps.next
    | ((with_reducible apply Keeps.comp (State.sfiFault_keeps ..)); · rfl)
    | split

theorem execOutTestPulse_keeps (x0 x1 x2 x3 s) : OKeeps 1342451848 s (execOutTestPulse x0 x1 x2 x3 s) := by
  unfold execOutTestPulse
  repeat' first
    | with_reducible exact Keeps.refl
    | (lift_lets; intro z; first | (have hz : (fun (_ : State) => True) z := trivial; clear hz) | clear_value z)
    | with_reducible apply OKeeps.next
    | ((with_reducible apply Keeps.comp (State.advanceTo_keeps ..)); · rfl)
    | ((with_reducible apply Keeps.comp (State.setSfi_keeps ..)); · rfl)
    | ((with_reducible apply Keeps.comp (State.sfiFault_keeps ..)); · rfl)
    | split

theorem State.sfiTo_keeps (s x1) : Keeps 268697608 s (State.sfiTo s x1) := by
  unfold State.sfiTo
  repeat' first
    | with_reducible exact Keeps.refl
    | (lift_lets; intro z; clear_value z)
    | ((with_reducible apply Keeps.comp (State.advanceTo_keeps ..)); · rfl)
    | ((with_reducible apply Keeps.comp (State.setSfi_keeps ..)); · rfl)
    | split

theorem execDslWatchdogExpire_keeps (x0 s) : OKeeps 268697608 s (execDslWatchdogExpire x0 s) := by
  unfold execDslWatchdogExpire
  repeat' first
    | with_reducible exact Keeps.refl
    | (lift_lets; intro z; clear_value z)
    | with_reducible apply OKeeps.next
    | ((with_reducible apply Keeps.comp (State.sfiTo_keeps ..)); · rfl)
    | ((with_reducible apply Keeps.comp (State.setSfi_keeps ..)); · rfl)
    | split

theorem execStoAckTimeout_keeps (x0 s) : OKeeps 268697608 s (execStoAckTimeout x0 s) := by
  unfold execStoAckTimeout
  repeat' first
    | with_reducible exact Keeps.refl
    | (lift_lets; intro z; first | (have hz : (fun (_ : State) => True) z := trivial; clear hz) | clear_value z)
    | with_reducible apply OKeeps.next
    | ((with_reducible apply Keeps.comp (State.sfiTo_keeps ..)); · rfl)
    | ((with_reducible apply Keeps.comp (State.setSfi_keeps ..)); · rfl)
    | split

theorem execSs1TimeExpire_keeps (x0 s) : OKeeps 268697608 s (execSs1TimeExpire x0 s) := by
  unfold execSs1TimeExpire
  repeat' first
    | with_reducible exact Keeps.refl
    | (lift_lets; intro z; clear_value z)
    | with_reducible apply OKeeps.next
    | ((with_reducible apply Keeps.comp (State.sfiTo_keeps ..)); · rfl)
    | ((with_reducible apply Keeps.comp (State.setSfi_keeps ..)); · rfl)
    | split

theorem execSbcDelayExpire_keeps (x0 s) : OKeeps 268697608 s (execSbcDelayExpire x0 s) := by
  unfold execSbcDelayExpire
  repeat' first
    | with_reducible exact Keeps.refl
    | (lift_lets; intro z; first | (have hz : (fun (_ : State) => True) z := trivial; clear hz) | clear_value z)
    | with_reducible apply OKeeps.next
    | ((with_reducible apply Keeps.comp (State.sfiTo_keeps ..)); · rfl)
    | ((with_reducible apply Keeps.comp (State.setSfi_keeps ..)); · rfl)
    | split

theorem State.sfiParam_keeps (s x1) : Keeps 268435456 s (State.sfiParam s x1).2 := by
  unfold State.sfiParam
  repeat' first
    | with_reducible exact Keeps.refl
    | (lift_lets; intro z; clear_value z)
    | ((with_reducible apply Keeps.comp (State.setSfi_keeps ..)); · rfl)
    | split
    | with_reducible apply Keeps.snd_ite

theorem State.sfiParam_out {s x1 y0 y1} (h : State.sfiParam s x1 = (y0, y1)) : Keeps 268435456 s y1 := by
  have := State.sfiParam_keeps s x1; rw [h] at this; exact this

theorem State.sfiCommit_keeps (s x1) : Keeps 1342177280 s (State.sfiCommit s x1).2 := by
  unfold State.sfiCommit
  repeat' first
    | with_reducible exact Keeps.refl
    | (lift_lets; intro z; clear_value z)
    | ((with_reducible apply Keeps.comp (State.putDcp_keeps ..)); · rfl)
    | ((with_reducible apply Keeps.comp (State.setSfi_keeps ..)); · rfl)
    | split

theorem State.sfiCommit_out {s x1 y0 y1} (h : State.sfiCommit s x1 = (y0, y1)) : Keeps 1342177280 s y1 := by
  have := State.sfiCommit_keeps s x1; rw [h] at this; exact this

theorem State.sfiNextSeq_keeps (s x1) : Keeps 4 s (State.sfiNextSeq s x1).2 := by
  unfold State.sfiNextSeq
  repeat' first
    | with_reducible exact Keeps.refl
    | ((with_reducible apply Keeps.comp (State.takeFree_keeps ..)); · rfl)
    | split

theorem State.sfiNextSeq_out {s x1 y0 y1} (h : State.sfiNextSeq s x1 = (y0, y1)) : Keeps 4 s y1 := by
  have := State.sfiNextSeq_keeps s x1; rw [h] at this; exact this

theorem State.sfiParamPdu_keeps (s x1) : Keeps 1342177284 s (State.sfiParamPdu s x1).2 := by
  unfold State.sfiParamPdu
  repeat' first
    | with_reducible exact Keeps.refl
    | (lift_lets; intro z; clear_value z)
    | ((with_reducible apply Keeps.comp (State.setSfi_keeps ..)); · rfl)
    | ((with_reducible apply Keeps.comp (State.sfiParam_keeps ..)); · rfl)
    | ((with_reducible apply Keeps.comp (State.sfiCommit_keeps ..)); · rfl)
    | ((with_reducible apply Keeps.comp (State.sfiNextSeq_keeps ..)); · rfl)
    | split
    | with_reducible apply Keeps.snd_ite

theorem State.sfiParamPdu_out {s x1 y0 y1} (h : State.sfiParamPdu s x1 = (y0, y1)) : Keeps 1342177284 s y1 := by
  have := State.sfiParamPdu_keeps s x1; rw [h] at this; exact this

theorem State.sfiReceive_keeps (s x1 x2) : Keeps 268435456 s (State.sfiReceive s x1 x2) := by
  unfold State.sfiReceive
  repeat' first
    | with_reducible exact Keeps.refl
    | (lift_lets; intro z; clear_value z)
    | ((with_reducible apply Keeps.comp (State.setSfi_keeps ..)); · rfl)
    | split

end Sys2Proof.Machine
end

