-- ==== Sys2Proof/Laws/KeepsModes.lean ====
section
/-! SUPPORT. What each operation of Machine/Modes.lean leaves alone (the relation Keeps). -/

namespace Sys2Proof.Machine

theorem State.runsMode_keeps (s x1) : Keeps 1073741824 s (State.runsMode s x1) := by
  unfold State.runsMode
  repeat' first
    | with_reducible exact Keeps.refl
    | (lift_lets; intro z; clear_value z)
    | ((with_reducible apply Keeps.comp (State.putDcp_keeps ..)); · rfl)

theorem State.modeEvents_keeps (s) : Keeps 65544 s (State.modeEvents s) := by
  unfold State.modeEvents
  repeat' first
    | with_reducible assumption
    | with_reducible exact Keeps.refl
    | ((with_reducible apply Keeps.comp (State.raiseEvent_keeps ..)); · rfl)
    | with_reducible refine Keeps.foldl (fun _ _ _ => ?_) ?_
    | split

theorem State.portsLost_keeps (s x1) : Keeps 6293528 s (State.portsLost s x1) := by
  unfold State.portsLost
  repeat' first
    | with_reducible assumption
    | with_reducible exact Keeps.refl
    | ((with_reducible apply Keeps.comp (State.swPortDown_keeps ..)); · rfl)
    | with_reducible refine Keeps.foldl (fun _ _ _ => ?_) ?_
    | split

theorem State.domainDown_keeps (s x1) : Keeps 2147346904 s (State.domainDown s x1) := by
  unfold State.domainDown
  repeat' first
    | with_reducible assumption
    | with_reducible exact Keeps.refl
    | (lift_lets; intro z)
    | ((with_reducible apply Keeps.comp (State.portsLost_keeps ..)); · rfl)
    | ((with_reducible apply Keeps.comp (State.domainOff_keeps ..)); · rfl)
    | ((with_reducible apply Keeps.comp (State.pqHold_keeps ..)); · rfl)
    | ((with_reducible apply Keeps.comp (State.agentReset_keeps ..)); · rfl)
    | with_reducible refine Keeps.foldl (fun _ _ _ => ?_) ?_
    | split

theorem State.degraded_keeps (s) : Keeps 2147477976 s (State.degraded s) := by
  unfold State.degraded
  repeat' first
    | with_reducible assumption
    | with_reducible exact Keeps.refl
    | (lift_lets; intro z; first | (have hz : (fun (_ : State) => True) z := trivial; clear hz) | clear_value z)
    | ((with_reducible apply Keeps.comp (State.postAll_keeps ..)); · rfl)
    | ((with_reducible apply Keeps.comp (State.domainDown_keeps ..)); · rfl)
    | ((with_reducible apply Keeps.comp (State.portDisable_keeps ..)); · rfl)
    | ((with_reducible apply Keeps.comp (State.putDcp_keeps ..)); · rfl)
    | with_reducible refine Keeps.foldl (fun _ _ _ => ?_) ?_
    | split

theorem State.standbyBegin_keeps (s) : Keeps 1032 s (State.standbyBegin s) := by
  unfold State.standbyBegin
  repeat' first
    | with_reducible exact Keeps.refl
    | (lift_lets; intro z; clear_value z)
    | ((with_reducible apply Keeps.comp (State.putCrp_keeps ..)); · rfl)
    | ((with_reducible apply Keeps.comp (State.setDom_keeps ..)); · rfl)
    | split
    | dsimp only

theorem State.enterMode_keeps (s x1 x2) : Keeps 2147483096 s (State.enterMode s x1 x2) := by
  unfold State.enterMode
  repeat' first
    | with_reducible exact Keeps.refl
    | (lift_lets; intro z; clear_value z)
    | ((with_reducible apply Keeps.comp (State.aceMode_keeps ..)); · rfl)
    | ((with_reducible apply Keeps.comp (State.piaMode_keeps ..)); · rfl)
    | ((with_reducible apply Keeps.comp (State.canMode_keeps ..)); · rfl)
    | ((with_reducible apply Keeps.comp (State.cbcMode_keeps ..)); · rfl)
    | ((with_reducible apply Keeps.comp (State.wr_keeps ..)); · rfl)
    | ((with_reducible apply Keeps.comp (State.wrB_keeps ..)); · rfl)
    | ((with_reducible apply Keeps.comp (State.inc_keeps ..)); · rfl)
    | ((with_reducible apply Keeps.comp (State.putModeAt_keeps ..)); · rfl)
    | ((with_reducible apply Keeps.comp (State.putPendMode_keeps ..)); · rfl)
    | ((with_reducible apply Keeps.comp (State.modeEvents_keeps ..)); · rfl)
    | ((with_reducible apply Keeps.comp (State.runsMode_keeps ..)); · rfl)
    | ((with_reducible apply Keeps.comp (State.enginesMode_keeps ..)); · rfl)
    | ((with_reducible apply Keeps.comp (State.logEvent_keeps ..)); · rfl)
    | ((with_reducible apply Keeps.comp (State.dcpResult_keeps ..)); · rfl)
    | ((with_reducible apply Keeps.comp (State.degraded_keeps ..)); · rfl)
    | ((with_reducible apply Keeps.comp (State.standbyBegin_keeps ..)); · rfl)
    | ((with_reducible apply Keeps.comp (State.sfiDemand_keeps ..)); · rfl)
    | split
    | with_reducible apply Keeps.ite

theorem State.modeGo_keeps (s x1 x2 x3 x4 x5) : Keeps 2147483096 s (State.modeGo s x1 x2 x3 x4 x5) := by
  unfold State.modeGo
  repeat' first
    | with_reducible exact Keeps.refl
    | (lift_lets; intro z; clear_value z)
    | ((with_reducible apply Keeps.comp (State.acceptMode_keeps ..)); · rfl)
    | ((with_reducible apply Keeps.comp (State.enterMode_keeps ..)); · rfl)
    | with_reducible apply Keeps.ite

theorem State.goDegraded_keeps (s x1) : Keeps 2147483096 s (State.goDegraded s x1) := by
  unfold State.goDegraded
  repeat' first
    | with_reducible exact Keeps.refl
    | ((with_reducible apply Keeps.comp (State.modeGo_keeps ..)); · rfl)
    | split

theorem execStartupComplete_keeps (s) : OKeeps 2147483096 s (execStartupComplete s) := by
  unfold execStartupComplete
  repeat' first
    | with_reducible exact Keeps.refl
    | with_reducible apply OKeeps.next
    | ((with_reducible apply Keeps.comp (State.modeGo_keeps ..)); · rfl)
    | split

theorem execStartupTimeout_keeps (s) : OKeeps 2147483096 s (execStartupTimeout s) := by
  unfold execStartupTimeout
  repeat' first
    | with_reducible exact Keeps.refl
    | (lift_lets; intro z)
    | with_reducible apply OKeeps.next
    | ((with_reducible apply Keeps.comp (State.advanceTo_keeps ..)); · rfl)
    | ((with_reducible apply Keeps.comp (State.modeGo_keeps ..)); · rfl)
    | split

theorem State.modeBoundary_keeps (s) : Keeps 2147483096 s (State.modeBoundary s) := by
  unfold State.modeBoundary
  repeat' first
    | with_reducible exact Keeps.refl
    | ((with_reducible apply Keeps.comp (State.enterMode_keeps ..)); · rfl)
    | split

theorem execCycleBoundary_keeps (s) : OKeeps 2147483096 s (execCycleBoundary s) := by
  unfold execCycleBoundary
  repeat' first
    | with_reducible exact Keeps.refl
    | (lift_lets; intro z)
    | with_reducible apply OKeeps.next
    | ((with_reducible apply Keeps.comp (State.swcBoundary_keeps ..)); · rfl)
    | ((with_reducible apply Keeps.comp (State.ntuBoundary_keeps ..)); · rfl)
    | ((with_reducible apply Keeps.comp (State.canBoundary_keeps ..)); · rfl)
    | ((with_reducible apply Keeps.comp (State.cbcBoundary_keeps ..)); · rfl)
    | ((with_reducible apply Keeps.comp (State.aceClose_keeps ..)); · rfl)
    | ((with_reducible apply Keeps.comp (State.piaBoundary_keeps ..)); · rfl)
    | ((with_reducible apply Keeps.comp (State.aceOpen_keeps ..)); · rfl)
    | ((with_reducible apply Keeps.comp (State.modeBoundary_keeps ..)); · rfl)
    | split

theorem State.imageJudge_keeps (s x1) : Keeps 1073754248 s (State.imageJudge s x1) := by
  unfold State.imageJudge
  repeat' first
    | with_reducible exact Keeps.refl
    | (lift_lets; intro z; clear_value z)
    | ((with_reducible apply Keeps.comp (State.wr_keeps ..)); · rfl)
    | ((with_reducible apply Keeps.comp (State.inc_keeps ..)); · rfl)
    | ((with_reducible apply Keeps.comp (State.safeStopFault_keeps ..)); · rfl)
    | split
    | with_reducible apply Keeps.ite

theorem State.imageSwap_keeps (s) : Keeps 1074313368 s (State.imageSwap s) := by
  unfold State.imageSwap
  repeat' first
    | with_reducible exact Keeps.refl
    | (lift_lets; intro z; clear_value z)
    | ((with_reducible apply Keeps.comp (State.takeCommits_keeps ..)); · rfl)
    | ((with_reducible apply Keeps.comp (State.sramWrite_keeps ..)); · rfl)
    | ((with_reducible apply Keeps.comp (State.putImage_keeps ..)); · rfl)
    | ((with_reducible apply Keeps.comp (State.imageJudge_keeps ..)); · rfl)

theorem State.piSwap_keeps (s) : Keeps 1477032088 s (State.piSwap s) := by
  unfold State.piSwap
  repeat' first
    | with_reducible assumption
    | with_reducible exact Keeps.refl
    | ((with_reducible apply Keeps.comp (State.sfiRewrite_keeps ..)); · rfl)
    | ((with_reducible apply Keeps.comp (State.wdJudge_keeps ..)); · rfl)
    | ((with_reducible apply Keeps.comp (State.imageSwap_keeps ..)); · rfl)
    | with_reducible refine Keeps.foldl (fun _ _ _ => ?_) ?_

theorem State.hostNote_keeps (s) : Keeps 65544 s (State.hostNote s) := by
  unfold State.hostNote
  repeat' first
    | with_reducible assumption
    | with_reducible exact Keeps.refl
    | ((with_reducible apply Keeps.comp (State.raiseEvent_keeps ..)); · rfl)
    | ((with_reducible apply Keeps.comp (State.canSnap_keeps ..)); · rfl)
    | ((with_reducible apply Keeps.comp (State.cbcSnap_keeps ..)); · rfl)
    | ((with_reducible apply Keeps.comp (State.snapTime_keeps ..)); · rfl)
    | with_reducible refine Keeps.foldl (fun _ _ _ => ?_) ?_
    | split

theorem State.phaseWork_keeps (s x1) : Keeps 1500100760 s (State.phaseWork s x1) := by
  unfold State.phaseWork
  repeat' first
    | with_reducible exact Keeps.refl
    | ((with_reducible apply Keeps.comp (State.cbcIn_keeps ..)); · rfl)
    | ((with_reducible apply Keeps.comp (State.rooksCycStart_keeps ..)); · rfl)
    | ((with_reducible apply Keeps.comp (State.aceDl_keeps ..)); · rfl)
    | ((with_reducible apply Keeps.comp (State.cbcOut_keeps ..)); · rfl)
    | ((with_reducible apply Keeps.comp (State.rooksEthTx_keeps ..)); · rfl)
    | ((with_reducible apply Keeps.comp (State.piSwap_keeps ..)); · rfl)
    | ((with_reducible apply Keeps.comp (State.hostNote_keeps ..)); · rfl)
    | split

theorem State.phaseOne_keeps (s x1) : Keeps 1500362904 s (State.phaseOne s x1) := by
  unfold State.phaseOne
  repeat' first
    | with_reducible exact Keeps.refl
    | (lift_lets; intro z; clear_value z)
    | ((with_reducible apply Keeps.comp (State.phaseWork_keeps ..)); · rfl)
    | ((with_reducible apply Keeps.comp (State.setCyc_keeps ..)); · rfl)
    | split

theorem State.phaseAct_keeps (s x1) : Keeps 1500362904 s (State.phaseAct s x1) := by
  unfold State.phaseAct
  repeat' first
    | with_reducible assumption
    | with_reducible exact Keeps.refl
    | ((with_reducible apply Keeps.comp (State.phaseOne_keeps ..)); · rfl)
    | ((with_reducible apply Keeps.comp (State.toPhase_keeps ..)); · rfl)
    | with_reducible refine Keeps.foldl (fun _ _ _ => ?_) ?_
    | split

theorem execCbIn_keeps (s) : OKeeps 1500362904 s (execCbIn s) := by
  unfold execCbIn
  repeat' first
    | with_reducible exact Keeps.refl
    | with_reducible apply OKeeps.next
    | ((with_reducible apply Keeps.comp (State.phaseAct_keeps ..)); · rfl)

theorem execRookIn_keeps (s) : OKeeps 1500362904 s (execRookIn s) := by
  unfold execRookIn
  repeat' first
    | with_reducible exact Keeps.refl
    | with_reducible apply OKeeps.next
    | ((with_reducible apply Keeps.comp (State.phaseAct_keeps ..)); · rfl)

theorem execAceDisp_keeps (s) : OKeeps 1500362904 s (execAceDisp s) := by
  unfold execAceDisp
  repeat' first
    | with_reducible exact Keeps.refl
    | with_reducible apply OKeeps.next
    | ((with_reducible apply Keeps.comp (State.phaseAct_keeps ..)); · rfl)

theorem execAceDl_keeps (s) : OKeeps 1500362904 s (execAceDl s) := by
  unfold execAceDl
  repeat' first
    | with_reducible exact Keeps.refl
    | with_reducible apply OKeeps.next
    | ((with_reducible apply Keeps.comp (State.phaseAct_keeps ..)); · rfl)

theorem execCbOut_keeps (s) : OKeeps 1500362904 s (execCbOut s) := by
  unfold execCbOut
  repeat' first
    | with_reducible exact Keeps.refl
    | with_reducible apply OKeeps.next
    | ((with_reducible apply Keeps.comp (State.phaseAct_keeps ..)); · rfl)

theorem execEthTx_keeps (s) : OKeeps 1500362904 s (execEthTx s) := by
  unfold execEthTx
  repeat' first
    | with_reducible exact Keeps.refl
    | with_reducible apply OKeeps.next
    | ((with_reducible apply Keeps.comp (State.phaseAct_keeps ..)); · rfl)

theorem execPiSwap_keeps (s) : OKeeps 1500362904 s (execPiSwap s) := by
  unfold execPiSwap
  repeat' first
    | with_reducible exact Keeps.refl
    | with_reducible apply OKeeps.next
    | ((with_reducible apply Keeps.comp (State.phaseAct_keeps ..)); · rfl)

theorem execHostNote_keeps (s) : OKeeps 1500362904 s (execHostNote s) := by
  unfold execHostNote
  repeat' first
    | with_reducible exact Keeps.refl
    | with_reducible apply OKeeps.next
    | ((with_reducible apply Keeps.comp (State.phaseAct_keeps ..)); · rfl)

end Sys2Proof.Machine
end

