-- ==== Sys2Proof/Laws/KeepsSpore.lean ====
section
/-! SUPPORT. What each operation of Machine/Spore.lean leaves alone (the relation Keeps). -/

namespace Sys2Proof.Machine

theorem fillMem_wf (m : List Host.Cell) (base size : Nat) (b : List Byte) (h : memWf m = true) :
    memWf (fillMem m base size b) = true := memPutBytes_wf _ _ _ (memFilter_wf _ h)

theorem memFold_wf {α : Type} {f : List Host.Cell → α → List Host.Cell}
    (hf : ∀ m a, memWf m = true → memWf (f m a) = true) (l : List α) :
    ∀ {m : List Host.Cell}, memWf m = true → memWf (l.foldl f m) = true := by
  induction l with
  | nil => exact fun h => h
  | cons a l ih => exact fun h => ih (hf _ a h)

theorem memPut_wf (m : List Host.Cell) (a : Nat) (b : Byte) (h : memWf m = true) : memWf (memPut m a b) = true :=
  mapWf_put _ _ _ h

theorem State.sporeEngine_keeps (s x1 x2 x3 x4) : Keeps 4194376 s (State.sporeEngine s x1 x2 x3 x4) := by
  unfold State.sporeEngine
  repeat' first
    | with_reducible exact Keeps.refl
    | (lift_lets; intro z; clear_value z)
    | ((with_reducible show Keeps _ _ (State.putPmem _ _)); (with_reducible refine Keeps.comp (State.putPmem_keeps _ ?_) ?_ ?_); (· (intro hw; repeat' first | with_reducible assumption | with_reducible apply memPutBytes_wf | with_reducible apply memFilter_wf | with_reducible apply fillMem_wf | with_reducible apply putPart_wf | (with_reducible apply memPut_wf) | (with_reducible refine memFold_wf (fun _ _ _ => ?_) _ ?_) | split | exact hw | exact mapWf_filter _ _ hw | rfl)); (· rfl))
    | ((with_reducible apply Keeps.comp (State.wrB_keeps ..)); · rfl)
    | ((with_reducible apply Keeps.comp (State.wr_keeps ..)); · rfl)
    | ((with_reducible apply Keeps.comp (State.rookUpd_keeps ..)); · rfl)

theorem State.sporeInto_keeps (s x1 x2 x3 x4) : Keeps 4194376 s (State.sporeInto s x1 x2 x3 x4) := by
  induction x3 generalizing s x1 x2 x4 with
  | nil => exact Keeps.refl
  | cons a n ih =>
    unfold State.sporeInto
    repeat' first
      | with_reducible exact Keeps.refl
      | ((with_reducible apply Keeps.comp (ih ..)); · rfl)
      | ((with_reducible apply Keeps.comp (State.sporeEngine_keeps ..)); · rfl)

theorem State.sporeInstall_keeps (s x1 x2) : Keeps 4194376 s (State.sporeInstall s x1 x2) := by
  unfold State.sporeInstall
  repeat' first
    | with_reducible exact Keeps.refl
    | (lift_lets; intro z; clear_value z)
    | ((with_reducible apply Keeps.comp (State.sporeInto_keeps ..)); · rfl)

theorem State.sporeBlank_keeps (s x1) : Keeps 4194368 s (State.sporeBlank s x1) := by
  unfold State.sporeBlank
  repeat' first
    | with_reducible assumption
    | with_reducible exact Keeps.refl
    | (lift_lets; intro z)
    | ((with_reducible show Keeps _ _ (State.putPmem _ _)); (with_reducible refine Keeps.comp (State.putPmem_keeps _ ?_) ?_ ?_); (· (intro hw; repeat' first | with_reducible assumption | with_reducible apply memPutBytes_wf | with_reducible apply memFilter_wf | with_reducible apply fillMem_wf | with_reducible apply putPart_wf | (with_reducible apply memPut_wf) | (with_reducible refine memFold_wf (fun _ _ _ => ?_) _ ?_) | split | exact hw | exact mapWf_filter _ _ hw | rfl)); (· rfl))
    | ((with_reducible apply Keeps.comp (State.rookUpd_keeps ..)); · rfl)
    | with_reducible refine Keeps.foldl (fun _ _ _ => ?_) ?_

end Sys2Proof.Machine
end

