-- ==== Sys2Proof/Laws/KeepsBoot.lean ====
section
/-! SUPPORT. What each operation of Machine/Boot.lean leaves alone (the relation Keeps). -/

namespace Sys2Proof.Machine

theorem State.setBoot_keeps {f : BootSt → BootSt} (h : ∀ b, (f b).lifeCycle = b.lifeCycle) (s : State) :
    Keeps 512 s (s.setBoot f) := State.putBoot_keeps s (h _)

theorem State.setBoot_life_keeps (s : State) (f : BootSt → BootSt) : Keeps 17179869696 s (s.setBoot f) :=
  State.putBoot_life_keeps s _

theorem State.secShow_keeps (s) : Keeps 8 s (State.secShow s) := by
  unfold State.secShow
  repeat' first
    | with_reducible exact Keeps.refl
    | (lift_lets; intro z; clear_value z)
    | ((with_reducible apply Keeps.comp (State.wr_keeps ..)); · rfl)

theorem State.resetAll_keeps (s) : Keeps 2147282904 s (State.resetAll s) := by
  unfold State.resetAll
  repeat' first
    | with_reducible assumption
    | with_reducible exact Keeps.refl
    | (lift_lets; intro z; clear_value z)
    | ((with_reducible apply Keeps.comp (State.setDom_keeps ..)); · rfl)
    | ((with_reducible apply Keeps.comp (State.domainLost_keeps ..)); · rfl)
    | ((with_reducible apply Keeps.comp (State.wrB_keeps ..)); · rfl)
    | ((with_reducible apply Keeps.comp (State.wr_keeps ..)); · rfl)
    | ((with_reducible apply Keeps.comp (State.putCrp_keeps ..)); · rfl)
    | ((with_reducible show Keeps _ _ (State.setBoot _ _)); (with_reducible refine Keeps.comp (State.setBoot_keeps (fun _ => ?_) _) ?_ ?_); (· rfl); (· rfl))
    | with_reducible refine Keeps.foldl (fun _ _ _ => ?_) ?_

theorem State.startDue_keeps (s x1 x2 x3) : Keeps 520 s (State.startDue s x1 x2 x3) := by
  unfold State.startDue
  repeat' first
    | with_reducible exact Keeps.refl
    | ((with_reducible apply Keeps.comp (State.wr_keeps ..)); · rfl)
    | ((with_reducible show Keeps _ _ (State.setBoot _ _)); (with_reducible refine Keeps.comp (State.setBoot_keeps (fun _ => ?_) _) ?_ ?_); (· rfl); (· rfl))

theorem State.porAssert_keeps (s) : Keeps 2147282904 s (State.porAssert s) := by
  unfold State.porAssert
  repeat' first
    | with_reducible exact Keeps.refl
    | (lift_lets; intro z)
    | ((with_reducible apply Keeps.comp (State.resetDomRegs_keeps ..)); · rfl)
    | ((with_reducible apply Keeps.comp (State.resetAll_keeps ..)); · rfl)
    | ((with_reducible apply Keeps.comp (State.putCrp_keeps ..)); · rfl)
    | ((with_reducible show Keeps _ _ (State.setBoot _ _)); (with_reducible refine Keeps.comp (State.setBoot_keeps (fun _ => ?_) _) ?_ ?_); (· rfl); (· rfl))

theorem execPorNAssert_keeps (s) : OKeeps 2147282904 s (execPorNAssert s) := by
  unfold execPorNAssert
  repeat' first
    | with_reducible exact Keeps.refl
    | with_reducible apply OKeeps.next
    | ((with_reducible apply Keeps.comp (State.porAssert_keeps ..)); · rfl)

theorem execAonPowerLoss_keeps (s) : OKeeps 2147282904 s (execAonPowerLoss s) := by
  unfold execAonPowerLoss
  repeat' first
    | with_reducible exact Keeps.refl
    | with_reducible apply OKeeps.next
    | ((with_reducible apply Keeps.comp (State.porAssert_keeps ..)); · rfl)

theorem execPorNRelease_keeps (x0 s) : OKeeps 520 s (execPorNRelease x0 s) := by
  unfold execPorNRelease
  repeat' first
    | with_reducible exact Keeps.refl
    | (lift_lets; intro z)
    | with_reducible apply OKeeps.next
    | ((with_reducible apply Keeps.comp (State.startDue_keeps ..)); · rfl)
    | ((with_reducible show Keeps _ _ (State.setBoot _ _)); (with_reducible refine Keeps.comp (State.setBoot_keeps (fun _ => ?_) _) ?_ ?_); (· rfl); (· rfl))
    | split

theorem execSysrstNAssert_keeps (s) : OKeeps 2147282904 s (execSysrstNAssert s) := by
  unfold execSysrstNAssert
  repeat' first
    | with_reducible exact Keeps.refl
    | (lift_lets; intro z)
    | with_reducible apply OKeeps.next
    | ((with_reducible apply Keeps.comp (State.wrB_keeps ..)); · rfl)
    | ((with_reducible apply Keeps.comp (State.resetAll_keeps ..)); · rfl)
    | ((with_reducible show Keeps _ _ (State.setBoot _ _)); (with_reducible refine Keeps.comp (State.setBoot_keeps (fun _ => ?_) _) ?_ ?_); (· rfl); (· rfl))
    | split

theorem execSysrstNRelease_keeps (s) : OKeeps 520 s (execSysrstNRelease s) := by
  unfold execSysrstNRelease
  repeat' first
    | with_reducible exact Keeps.refl
    | (lift_lets; intro z)
    | with_reducible apply OKeeps.next
    | ((with_reducible apply Keeps.comp (State.wrB_keeps ..)); · rfl)
    | ((with_reducible apply Keeps.comp (State.startDue_keeps ..)); · rfl)
    | ((with_reducible show Keeps _ _ (State.setBoot _ _)); (with_reducible refine Keeps.comp (State.setBoot_keeps (fun _ => ?_) _) ?_ ?_); (· rfl); (· rfl))
    | split

theorem execRstStuck_keeps (s) : OKeeps 520 s (execRstStuck s) := by
  unfold execRstStuck
  repeat' first
    | with_reducible exact Keeps.refl
    | (lift_lets; intro z)
    | with_reducible apply OKeeps.next
    | ((with_reducible apply Keeps.comp (State.wrB_keeps ..)); · rfl)
    | ((with_reducible apply Keeps.comp (State.startDue_keeps ..)); · rfl)
    | ((with_reducible show Keeps _ _ (State.setBoot _ _)); (with_reducible refine Keeps.comp (State.setBoot_keeps (fun _ => ?_) _) ?_ ?_); (· rfl); (· rfl))
    | split

theorem execSysrstUnmask_keeps (s) : OKeeps 8 s (execSysrstUnmask s) := by
  unfold execSysrstUnmask
  repeat' first
    | with_reducible exact Keeps.refl
    | with_reducible apply OKeeps.next
    | ((with_reducible apply Keeps.comp (State.wrB_keeps ..)); · rfl)
    | split

theorem execDeviceResetAssert_keeps (s) : OKeeps 2147282904 s (execDeviceResetAssert s) := by
  unfold execDeviceResetAssert
  repeat' first
    | with_reducible exact Keeps.refl
    | with_reducible apply OKeeps.next
    | ((with_reducible apply Keeps.comp (State.startDue_keeps ..)); · rfl)
    | ((with_reducible apply Keeps.comp (State.resetAll_keeps ..)); · rfl)
    | split

theorem State.journal_keeps (s x1 x2 x3 x4 x5) : Keeps 512 s (State.journal s x1 x2 x3 x4 x5) := by
  unfold State.journal
  repeat' first
    | with_reducible exact Keeps.refl
    | ((with_reducible show Keeps _ _ (State.setBoot _ _)); (with_reducible refine Keeps.comp (State.setBoot_keeps (fun _ => ?_) _) ?_ ?_); (· rfl); (· rfl))

theorem State.startFail_keeps (s x1) : Keeps 2147282904 s (State.startFail s x1) := by
  unfold State.startFail
  repeat' first
    | with_reducible exact Keeps.refl
    | (lift_lets; intro z; clear_value z)
    | ((with_reducible apply Keeps.comp (State.journal_keeps ..)); · rfl)
    | ((with_reducible apply Keeps.comp (State.resetAll_keeps ..)); · rfl)
    | ((with_reducible apply Keeps.comp (State.startDue_keeps ..)); · rfl)
    | ((with_reducible show Keeps _ _ (State.setBoot _ _)); (with_reducible refine Keeps.comp (State.setBoot_keeps (fun _ => ?_) _) ?_ ?_); (· rfl); (· rfl))
    | split

theorem State.bootHalt_keeps (s x1) : Keeps 520 s (State.bootHalt s x1) := by
  unfold State.bootHalt
  repeat' first
    | with_reducible exact Keeps.refl
    | (lift_lets; intro z; clear_value z)
    | ((with_reducible apply Keeps.comp (State.journal_keeps ..)); · rfl)
    | ((with_reducible apply Keeps.comp (State.secShow_keeps ..)); · rfl)
    | ((with_reducible show Keeps _ _ (State.setBoot _ _)); (with_reducible refine Keeps.comp (State.setBoot_keeps (fun _ => ?_) _) ?_ ?_); (· rfl); (· rfl))

theorem State.stepFailRequired_keeps (s x1) : Keeps 2147282904 s (State.stepFailRequired s x1) := by
  unfold State.stepFailRequired
  repeat' first
    | with_reducible exact Keeps.refl
    | (lift_lets; intro z; clear_value z)
    | ((with_reducible apply Keeps.comp (State.bootHalt_keeps ..)); · rfl)
    | ((with_reducible apply Keeps.comp (State.startFail_keeps ..)); · rfl)
    | split

theorem State.setSlot_keeps (s x1 x2) : Keeps 512 s (State.setSlot s x1 x2) := by
  unfold State.setSlot
  repeat' first
    | with_reducible exact Keeps.refl
    | ((with_reducible show Keeps _ _ (State.setBoot _ _)); (with_reducible refine Keeps.comp (State.setBoot_keeps (fun _ => ?_) _) ?_ ?_); (· rfl); (· rfl))
    | split

theorem State.loadModeCfg_keeps (s) : Keeps 8 s (State.loadModeCfg s) := by
  unfold State.loadModeCfg
  repeat' first
    | with_reducible exact Keeps.refl
    | (lift_lets; intro z)
    | ((with_reducible apply Keeps.comp (State.setReg_keeps ..)); · rfl)
    | ((with_reducible apply Keeps.comp (State.wr_keeps ..)); · rfl)
    | split

theorem State.bankFail_keeps (s x1) : Keeps 604184 s (State.bankFail s x1) := by
  unfold State.bankFail
  repeat' first
    | with_reducible exact Keeps.refl
    | (lift_lets; intro z)
    | ((with_reducible apply Keeps.comp (State.bankClear_keeps ..)); · rfl)
    | ((with_reducible apply Keeps.comp (State.wr_keeps ..)); · rfl)
    | ((with_reducible apply Keeps.comp (State.wrB_keeps ..)); · rfl)
    | ((with_reducible apply Keeps.comp (State.logEvent_keeps ..)); · rfl)
    | ((with_reducible apply Keeps.comp (State.setIstat_keeps ..)); · rfl)

theorem State.sramRepair_keeps (s x1 x2 x3) : Keeps 604184 s (State.sramRepair s x1 x2 x3) := by
  unfold State.sramRepair
  repeat' first
    | with_reducible assumption
    | with_reducible exact Keeps.refl
    | (lift_lets; intro z; clear_value z)
    | ((with_reducible apply Keeps.comp (State.putMem_keeps ..)); · rfl)
    | ((with_reducible apply Keeps.comp (State.bankFail_keeps ..)); · rfl)
    | with_reducible refine Keeps.foldl (fun _ _ _ => ?_) ?_

theorem State.restoreSealed_keeps (s) : Keeps 24 s (State.restoreSealed s) := by
  unfold State.restoreSealed
  repeat' first
    | with_reducible exact Keeps.refl
    | ((with_reducible apply Keeps.comp (State.wrB_keeps ..)); · rfl)
    | ((with_reducible show Keeps _ _ (State.putSram _ _)); (with_reducible refine Keeps.comp (State.putSram_keeps _ ?_) ?_ ?_); (· (intro hw; repeat' first | with_reducible assumption | with_reducible apply memPutBytes_wf | with_reducible apply memFilter_wf | with_reducible apply fillMem_wf | with_reducible apply putPart_wf | (with_reducible apply memPut_wf) | (with_reducible refine memFold_wf (fun _ _ _ => ?_) _ ?_) | split | exact hw | exact mapWf_filter _ _ hw | rfl)); (· rfl))

theorem State.unsealVault_keeps (s x1) : Keeps 79896 s (State.unsealVault s x1) := by
  unfold State.unsealVault
  repeat' first
    | with_reducible exact Keeps.refl
    | (lift_lets; intro z; first | (have hz : (fun (_ : State) => True) z := trivial; clear hz) | clear_value z)
    | ((with_reducible apply Keeps.comp (vaultWipeDone_keeps ..)); · rfl)
    | ((with_reducible apply Keeps.comp (State.vaultWipe_keeps ..)); · rfl)
    | ((with_reducible apply Keeps.comp (State.putMem_keeps ..)); · rfl)
    | ((with_reducible apply Keeps.comp (State.restoreSealed_keeps ..)); · rfl)
    | split

theorem State.calWrite_keeps (s x1 x2 x3) : Keeps 8 s (State.calWrite s x1 x2 x3) := by
  unfold State.calWrite
  repeat' first
    | with_reducible exact Keeps.refl
    | ((with_reducible apply Keeps.comp (State.setReg_keeps ..)); · rfl)
    | split

theorem State.calLoad_keeps (s) : Keeps 8 s (State.calLoad s) := by
  unfold State.calLoad
  repeat' first
    | with_reducible assumption
    | with_reducible exact Keeps.refl
    | ((with_reducible apply Keeps.comp (State.calWrite_keeps ..)); · rfl)
    | with_reducible refine Keeps.foldl (fun _ _ _ => ?_) ?_
    | split

theorem State.storedRegs_keeps (s x1) : Keeps 8 s (State.storedRegs s x1) := by
  unfold State.storedRegs
  repeat' first
    | with_reducible assumption
    | with_reducible exact Keeps.refl
    | ((with_reducible apply Keeps.comp (State.setReg_keeps ..)); · rfl)
    | with_reducible refine Keeps.foldl (fun _ _ _ => ?_) ?_
    | split

theorem State.configLoad_keeps (s x1) : Keeps 1082130440 s (State.configLoad s x1) := by
  unfold State.configLoad
  repeat' first
    | with_reducible assumption
    | with_reducible exact Keeps.refl
    | (lift_lets; intro z; first | (have hz : (fun (_ : State) => True) z := trivial; clear hz) | clear_value z)
    | ((with_reducible apply Keeps.comp (State.putDcp_keeps ..)); · rfl)
    | ((with_reducible apply Keeps.comp (State.putCmap_keeps ..)); · rfl)
    | ((with_reducible apply Keeps.comp (State.storedRegs_keeps ..)); · rfl)
    | with_reducible refine Keeps.foldl (fun _ _ _ => ?_) ?_
    | split
    | with_reducible apply Keeps.ite

theorem State.domainBoot_keeps (s x1) : Keeps 2147281368 s (State.domainBoot s x1) := by
  unfold State.domainBoot
  repeat' first
    | with_reducible exact Keeps.refl
    | (lift_lets; intro z; first | (have hz : (fun (_ : State) => True) z := trivial; clear hz) | clear_value z)
    | ((with_reducible apply Keeps.comp (State.storedRegs_keeps ..)); · rfl)
    | ((with_reducible apply Keeps.comp (State.domainOn_keeps ..)); · rfl)
    | ((with_reducible apply Keeps.comp (State.calLoad_keeps ..)); · rfl)
    | ((with_reducible apply Keeps.comp (State.setSwc_keeps ..)); · rfl)
    | split

theorem State.sporeReload_keeps (s) : Keeps 4194376 s (State.sporeReload s) := by
  unfold State.sporeReload
  repeat' first
    | with_reducible assumption
    | with_reducible exact Keeps.refl
    | (lift_lets; intro z; clear_value z)
    | ((with_reducible apply Keeps.comp (State.sporeInstall_keeps ..)); · rfl)
    | with_reducible refine Keeps.foldl (fun _ _ _ => ?_) ?_
    | split

theorem State.imageTake_keeps (s x1 x2) : Keeps 512 s (State.imageTake s x1 x2) := by
  unfold State.imageTake
  repeat' first
    | with_reducible exact Keeps.refl
    | (lift_lets; intro z)
    | ((with_reducible apply Keeps.comp (State.setSlot_keeps ..)); · rfl)
    | ((with_reducible show Keeps _ _ (State.setBoot _ _)); (with_reducible refine Keeps.comp (State.setBoot_keeps (fun _ => ?_) _) ?_ ?_); (· rfl); (· rfl))
    | split

theorem State.configStep_keeps (s x1) : Keeps 1082130440 s (State.configStep s x1) := by
  unfold State.configStep
  repeat' first
    | with_reducible exact Keeps.refl
    | (lift_lets; intro z; clear_value z)
    | ((with_reducible apply Keeps.comp (State.configLoad_keeps ..)); · rfl)
    | ((with_reducible apply Keeps.comp (State.putDcp_keeps ..)); · rfl)
    | split

theorem State.domainsBoot_keeps (s) : Keeps 2147281368 s (State.domainsBoot s) := by
  unfold State.domainsBoot
  repeat' first
    | with_reducible assumption
    | with_reducible exact Keeps.refl
    | ((with_reducible apply Keeps.comp (State.domainBoot_keeps ..)); · rfl)
    | with_reducible refine Keeps.foldl (fun _ _ _ => ?_) ?_

theorem State.stepState_keeps (s x1 x2 x3) : Keeps 2147351516 s (State.stepState s x1 x2 x3) := by
  unfold State.stepState
  repeat' first
    | with_reducible exact Keeps.refl
    | ((with_reducible apply Keeps.comp (State.loadModeCfg_keeps ..)); · rfl)
    | ((with_reducible apply Keeps.comp (State.wrB_keeps ..)); · rfl)
    | ((with_reducible apply Keeps.comp (State.domainOn_keeps ..)); · rfl)
    | ((with_reducible apply Keeps.comp (State.sramRepair_keeps ..)); · rfl)
    | ((with_reducible apply Keeps.comp (State.sramClear_keeps ..)); · rfl)
    | ((with_reducible apply Keeps.comp (State.unsealVault_keeps ..)); · rfl)
    | ((with_reducible apply Keeps.comp (State.imageTake_keeps ..)); · rfl)
    | ((with_reducible apply Keeps.comp (State.sfiSelfTest_keeps ..)); · rfl)
    | ((with_reducible apply Keeps.comp (State.sfiLoad_keeps ..)); · rfl)
    | ((with_reducible apply Keeps.comp (State.configStep_keeps ..)); · rfl)
    | ((with_reducible apply Keeps.comp (State.domainsBoot_keeps ..)); · rfl)
    | ((with_reducible apply Keeps.comp (State.sporeReload_keeps ..)); · rfl)
    | split

theorem State.pdFailNote_keeps (s x1 x2) : Keeps 77832 s (State.pdFailNote s x1 x2) := by
  unfold State.pdFailNote
  repeat' first
    | with_reducible exact Keeps.refl
    | (lift_lets; intro z)
    | ((with_reducible apply Keeps.comp (State.wr_keeps ..)); · rfl)
    | ((with_reducible apply Keeps.comp (State.setIstat_keeps ..)); · rfl)
    | ((with_reducible apply Keeps.comp (State.orF_keeps ..)); · rfl)
    | ((with_reducible apply Keeps.comp (State.logEvent_keeps ..)); · rfl)
    | with_reducible apply Keeps.ite

theorem State.handover_keeps (s) : Keeps 2147483608 s (State.handover s) := by
  unfold State.handover
  repeat' first
    | with_reducible assumption
    | with_reducible exact Keeps.refl
    | (lift_lets; intro z; clear_value z)
    | ((with_reducible apply Keeps.comp (State.journal_keeps ..)); · rfl)
    | ((with_reducible apply Keeps.comp (State.logEvent_keeps ..)); · rfl)
    | ((with_reducible apply Keeps.comp (State.secShow_keeps ..)); · rfl)
    | ((with_reducible apply Keeps.comp (State.wr_keeps ..)); · rfl)
    | ((with_reducible apply Keeps.comp (State.domainOff_keeps ..)); · rfl)
    | ((with_reducible apply Keeps.comp (State.enterMode_keeps ..)); · rfl)
    | ((with_reducible show Keeps _ _ (State.setBoot _ _)); (with_reducible refine Keeps.comp (State.setBoot_keeps (fun _ => ?_) _) ?_ ?_); (· rfl); (· rfl))
    | with_reducible refine Keeps.foldl (fun _ _ _ => ?_) ?_
    | split

theorem State.stepEnd_keeps (s x1 x2 x3 x4 x5 x6) : Keeps 2147483608 s (State.stepEnd s x1 x2 x3 x4 x5 x6).2 := by
  unfold State.stepEnd
  repeat' first
    | with_reducible exact Keeps.refl
    | (lift_lets; intro z)
    | ((with_reducible apply Keeps.comp (State.journal_keeps ..)); · rfl)
    | ((with_reducible apply Keeps.comp (State.handover_keeps ..)); · rfl)
    | ((with_reducible apply Keeps.comp (State.stepFailRequired_keeps ..)); · rfl)
    | ((with_reducible show Keeps _ _ (State.setBoot _ _)); (with_reducible refine Keeps.comp (State.setBoot_keeps (fun _ => ?_) _) ?_ ?_); (· rfl); (· rfl))
    | split

theorem State.stepEnd_out {s x1 x2 x3 x4 x5 x6 y0 y1} (h : State.stepEnd s x1 x2 x3 x4 x5 x6 = (y0, y1)) : Keeps 2147483608 s y1 := by
  have := State.stepEnd_keeps s x1 x2 x3 x4 x5 x6; rw [h] at this; exact this

theorem State.bootStep_keeps (s x1 x2) : Keeps 2147483612 s (State.bootStep s x1 x2).2 := by
  unfold State.bootStep
  repeat' first
    | with_reducible exact Keeps.refl
    | (lift_lets; intro z; clear_value z)
    | ((with_reducible apply Keeps.comp (State.journal_keeps ..)); · rfl)
    | ((with_reducible apply Keeps.comp (State.stepEnd_keeps ..)); · rfl)
    | ((with_reducible apply Keeps.comp (State.pdFailNote_keeps ..)); · rfl)
    | ((with_reducible apply Keeps.comp (State.stepState_keeps ..)); · rfl)
    | split

theorem State.bootStep_out {s x1 x2 y0 y1} (h : State.bootStep s x1 x2 = (y0, y1)) : Keeps 2147483612 s y1 := by
  have := State.bootStep_keeps s x1 x2; rw [h] at this; exact this

theorem State.bootRun_keeps (s x1 x2 x3) : Keeps 2147483612 s (State.bootRun s x1 x2 x3) := by
  induction x3 generalizing s x1 x2 with
  | nil => exact Keeps.refl
  | cons a n ih =>
    unfold State.bootRun
    repeat' first
      | with_reducible exact Keeps.refl
      | (lift_lets; intro z)
      | ((with_reducible apply Keeps.comp (ih ..)); · rfl)
      | ((with_reducible apply Keeps.comp (State.bootStep_keeps ..)); · rfl)
      | ((with_reducible show Keeps _ _ (State.setBoot _ _)); (with_reducible refine Keeps.comp (State.setBoot_keeps (fun _ => ?_) _) ?_ ?_); (· rfl); (· rfl))
      | split

theorem State.bootBegin_keeps (s x1) : Keeps 2147282904 s (State.bootBegin s x1) := by
  unfold State.bootBegin
  repeat' first
    | with_reducible exact Keeps.refl
    | (lift_lets; intro z; clear_value z)
    | ((with_reducible apply Keeps.comp (State.wrB_keeps ..)); · rfl)
    | ((with_reducible apply Keeps.comp (State.setReg_keeps ..)); · rfl)
    | ((with_reducible apply Keeps.comp (State.journal_keeps ..)); · rfl)
    | ((with_reducible apply Keeps.comp (State.domainOn_keeps ..)); · rfl)
    | ((with_reducible apply Keeps.comp (State.wr_keeps ..)); · rfl)
    | ((with_reducible apply Keeps.comp (State.setDom_keeps ..)); · rfl)
    | ((with_reducible apply Keeps.comp (State.secShow_keeps ..)); · rfl)
    | ((with_reducible apply Keeps.comp (State.putCrp_keeps ..)); · rfl)
    | ((with_reducible show Keeps _ _ (State.setBoot _ _)); (with_reducible refine Keeps.comp (State.setBoot_keeps (fun _ => ?_) _) ?_ ?_); (· rfl); (· rfl))
    | split

theorem execBootStart_keeps (x0 x1 s) : OKeeps 2147483612 s (execBootStart x0 x1 s) := by
  unfold execBootStart
  repeat' first
    | with_reducible exact Keeps.refl
    | with_reducible apply OKeeps.next
    | ((with_reducible apply Keeps.comp (State.bootRun_keeps ..)); · rfl)
    | ((with_reducible apply Keeps.comp (State.bootBegin_keeps ..)); · rfl)
    | split

theorem execBootStepTimeout_keeps (x0 x1 s) : OKeeps 2147483612 s (execBootStepTimeout x0 x1 s) := by
  unfold execBootStepTimeout
  repeat' first
    | with_reducible exact Keeps.refl
    | (lift_lets; intro z; clear_value z)
    | with_reducible apply OKeeps.next
    | ((with_reducible apply Keeps.comp (State.domainOn_keeps ..)); · rfl)
    | ((with_reducible apply Keeps.comp (State.sfiSelfTest_keeps ..)); · rfl)
    | ((with_reducible apply Keeps.comp (State.stepEnd_keeps ..)); · rfl)
    | ((with_reducible apply Keeps.comp (State.bootRun_keeps ..)); · rfl)
    | split

theorem execBootWatchdogExpire_keeps (s) : OKeeps 2147282904 s (execBootWatchdogExpire s) := by
  unfold execBootWatchdogExpire
  repeat' first
    | with_reducible exact Keeps.refl
    | with_reducible apply OKeeps.next
    | ((with_reducible apply Keeps.comp (State.startFail_keeps ..)); · rfl)
    | ((with_reducible show Keeps _ _ (State.setBoot _ _)); (with_reducible refine Keeps.comp (State.setBoot_keeps (fun _ => ?_) _) ?_ ?_); (· rfl); (· rfl))
    | split

theorem execStatusFrameToggle_keeps (s) : OKeeps 512 s (execStatusFrameToggle s) := by
  unfold execStatusFrameToggle
  repeat' first
    | with_reducible exact Keeps.refl
    | with_reducible apply OKeeps.next
    | ((with_reducible show Keeps _ _ (State.setBoot _ _)); (with_reducible refine Keeps.comp (State.setBoot_keeps (fun _ => ?_) _) ?_ ?_); (· rfl); (· rfl))
    | split

theorem State.eraseConfig_keeps (s) : Keeps 1073743872 s (State.eraseConfig s) := by
  unfold State.eraseConfig
  repeat' first
    | with_reducible exact Keeps.refl
    | (lift_lets; intro z; clear_value z)
    | ((with_reducible apply Keeps.comp (State.putMem_keeps ..)); · rfl)
    | ((with_reducible apply Keeps.comp (State.putDcp_keeps ..)); · rfl)

theorem State.lifeCycleGo_keeps (s x1) : Keeps 18253691416 s (State.lifeCycleGo s x1) := by
  unfold State.lifeCycleGo
  repeat' first
    | with_reducible exact Keeps.refl
    | (lift_lets; intro z)
    | ((with_reducible apply Keeps.comp (vaultWipeDone_keeps ..)); · rfl)
    | ((with_reducible apply Keeps.comp (State.vaultWipe_keeps ..)); · rfl)
    | ((with_reducible apply Keeps.comp (State.secShow_keeps ..)); · rfl)
    | ((with_reducible apply Keeps.comp (State.eraseConfig_keeps ..)); · rfl)
    | ((with_reducible apply Keeps.comp (State.setBoot_life_keeps ..)); · rfl)
    | split

theorem execJtagToken_keeps (x0 x1 s) : OKeeps 18253691416 s (execJtagToken x0 x1 s) := by
  unfold execJtagToken
  repeat' first
    | with_reducible exact Keeps.refl
    | (lift_lets; intro z; clear_value z)
    | with_reducible apply OKeeps.next
    | ((with_reducible apply Keeps.comp (State.lifeCycleGo_keeps ..)); · rfl)
    | ((with_reducible show Keeps _ _ (State.setBoot _ _)); (with_reducible refine Keeps.comp (State.setBoot_keeps (fun _ => ?_) _) ?_ ?_); (· rfl); (· rfl))
    | split

theorem execDebugHalt_keeps (x0 s) : OKeeps 1346449544 s (execDebugHalt x0 s) := by
  unfold execDebugHalt
  repeat' first
    | with_reducible exact Keeps.refl
    | (lift_lets; intro z; clear_value z)
    | with_reducible apply OKeeps.next
    | ((with_reducible apply Keeps.comp (State.sfiFault_keeps ..)); · rfl)
    | ((with_reducible apply Keeps.comp (State.setIstat_keeps ..)); · rfl)
    | ((with_reducible apply Keeps.comp (State.rookUpd_keeps ..)); · rfl)
    | split

theorem execBoundaryScanInstruction_keeps (x0 s) : OKeeps 512 s (execBoundaryScanInstruction x0 s) := by
  unfold execBoundaryScanInstruction
  repeat' first
    | with_reducible exact Keeps.refl
    | (lift_lets; intro z; clear_value z)
    | with_reducible apply OKeeps.next
    | ((with_reducible show Keeps _ _ (State.setBoot _ _)); (with_reducible refine Keeps.comp (State.setBoot_keeps (fun _ => ?_) _) ?_ ?_); (· rfl); (· rfl))
    | split

end Sys2Proof.Machine
end

