-- ==== Sys2Proof/Laws/KeepsCrp.lean ====
section
/-! SUPPORT. What each operation of Machine/Crp.lean leaves alone (the relation Keeps). -/

namespace Sys2Proof.Machine

theorem State.setCrp_keeps (s x1) : Keeps 1024 s (State.setCrp s x1) := by
  unfold State.setCrp
  repeat' first
    | with_reducible exact Keeps.refl
    | ((with_reducible apply Keeps.comp (State.putCrp_keeps ..)); · rfl)

theorem State.clockFault_keeps (s x1) : Keeps 1342256264 s (State.clockFault s x1) := by
  unfold State.clockFault
  repeat' first
    | with_reducible exact Keeps.refl
    | (lift_lets; intro z)
    | ((with_reducible apply Keeps.comp (State.logEvent_keeps ..)); · rfl)
    | ((with_reducible apply Keeps.comp (State.setIstat_keeps ..)); · rfl)
    | ((with_reducible apply Keeps.comp (State.sfiFault_keeps ..)); · rfl)
    | ((with_reducible apply Keeps.comp (State.setCrp_keeps ..)); · rfl)

theorem execClockMonitorWindow_keeps (x0 x1 x2 x3 x4 x5 x6 s) : OKeeps 1342256264 s (execClockMonitorWindow x0 x1 x2 x3 x4 x5 x6 s) := by
  unfold execClockMonitorWindow
  repeat' first
    | with_reducible exact Keeps.refl
    | (lift_lets; intro z; clear_value z)
    | with_reducible apply OKeeps.next
    | ((with_reducible apply Keeps.comp (State.inc_keeps ..)); · rfl)
    | ((with_reducible apply Keeps.comp (State.wrB_keeps ..)); · rfl)
    | ((with_reducible apply Keeps.comp (State.clockFault_keeps ..)); · rfl)
    | ((with_reducible apply Keeps.comp (State.wr_keeps ..)); · rfl)
    | ((with_reducible apply Keeps.comp (State.orF_keeps ..)); · rfl)
    | split
    | with_reducible apply OKeeps.ite

theorem execPllRelockAttempt_keeps (x0 s) : OKeeps 2147483096 s (execPllRelockAttempt x0 s) := by
  unfold execPllRelockAttempt
  repeat' first
    | with_reducible exact Keeps.refl
    | (lift_lets; intro z)
    | with_reducible apply OKeeps.next
    | ((with_reducible apply Keeps.comp (State.wrB_keeps ..)); · rfl)
    | ((with_reducible apply Keeps.comp (State.goDegraded_keeps ..)); · rfl)
    | ((with_reducible apply Keeps.comp (State.setCrp_keeps ..)); · rfl)
    | split

theorem execDomainPowerUpDone_keeps (x0 s) : OKeeps 2147281368 s (execDomainPowerUpDone x0 s) := by
  unfold execDomainPowerUpDone
  repeat' first
    | with_reducible exact Keeps.refl
    | with_reducible apply OKeeps.next
    | ((with_reducible apply Keeps.comp (State.domainOn_keeps ..)); · rfl)
    | split

theorem State.wake_keeps (s x1 x2 x3) : Keeps 67080 s (State.wake s x1 x2 x3) := by
  unfold State.wake
  repeat' first
    | with_reducible exact Keeps.refl
    | (lift_lets; intro z; first | (have hz : (fun (_ : State) => True) z := trivial; clear hz) | clear_value z)
    | ((with_reducible apply Keeps.comp (State.wr_keeps ..)); · rfl)
    | ((with_reducible apply Keeps.comp (State.wrB_keeps ..)); · rfl)
    | ((with_reducible apply Keeps.comp (State.setIstat_keeps ..)); · rfl)
    | ((with_reducible apply Keeps.comp (State.setCrp_keeps ..)); · rfl)
    | ((with_reducible apply Keeps.comp (State.startDue_keeps ..)); · rfl)

theorem State.standbyStep_keeps (s) : Keeps 2147348440 s (State.standbyStep s) := by
  unfold State.standbyStep
  repeat' first
    | with_reducible exact Keeps.refl
    | (lift_lets; intro z; first | (have hz : (fun (_ : State) => True) z := trivial; clear hz) | clear_value z)
    | ((with_reducible apply Keeps.comp (State.setDom_keeps ..)); · rfl)
    | ((with_reducible apply Keeps.comp (State.banksStandby_keeps ..)); · rfl)
    | ((with_reducible apply Keeps.comp (State.wrB_keeps ..)); · rfl)
    | ((with_reducible apply Keeps.comp (State.domainOff_keeps ..)); · rfl)
    | ((with_reducible apply Keeps.comp (State.wr_keeps ..)); · rfl)
    | ((with_reducible apply Keeps.comp (State.setCrp_keeps ..)); · rfl)
    | ((with_reducible apply Keeps.comp (State.wake_keeps ..)); · rfl)
    | split

theorem execDomainPowerDownDone_keeps (x0 s) : OKeeps 2147348440 s (execDomainPowerDownDone x0 s) := by
  unfold execDomainPowerDownDone
  repeat' first
    | with_reducible exact Keeps.refl
    | (lift_lets; intro z; clear_value z)
    | with_reducible apply OKeeps.next
    | ((with_reducible apply Keeps.comp (State.domainDown_keeps ..)); · rfl)
    | ((with_reducible apply Keeps.comp (State.standbyStep_keeps ..)); · rfl)
    | ((with_reducible apply Keeps.comp (State.setDom_keeps ..)); · rfl)
    | ((with_reducible apply Keeps.comp (State.wr_keeps ..)); · rfl)
    | split
    | with_reducible apply OKeeps.ite

theorem State.domainOpen_keeps (s x1 x2) : Keeps 2147351000 s (State.domainOpen s x1 x2) := by
  unfold State.domainOpen
  repeat' first
    | with_reducible assumption
    | with_reducible exact Keeps.refl
    | (lift_lets; intro z)
    | ((with_reducible apply Keeps.comp (State.pdFailNote_keeps ..)); · rfl)
    | ((with_reducible apply Keeps.comp (State.domainDown_keeps ..)); · rfl)
    | ((with_reducible apply Keeps.comp (State.setDom_keeps ..)); · rfl)
    | with_reducible refine Keeps.foldl (fun _ _ _ => ?_) ?_
    | split

theorem execDomainPowerFail_keeps (x0 x1 s) : OKeeps 2147483608 s (execDomainPowerFail x0 x1 s) := by
  unfold execDomainPowerFail
  repeat' first
    | with_reducible exact Keeps.refl
    | (lift_lets; intro z; clear_value z)
    | with_reducible apply OKeeps.next
    | ((with_reducible apply Keeps.comp (State.porAssert_keeps ..)); · rfl)
    | ((with_reducible apply Keeps.comp (State.sramClear_keeps ..)); · rfl)
    | ((with_reducible apply Keeps.comp (State.pdFailNote_keeps ..)); · rfl)
    | ((with_reducible apply Keeps.comp (State.setCrp_keeps ..)); · rfl)
    | ((with_reducible apply Keeps.comp (State.setDom_keeps ..)); · rfl)
    | ((with_reducible apply Keeps.comp (State.imageReason_keeps ..)); · rfl)
    | ((with_reducible apply Keeps.comp (State.sfiFault_keeps ..)); · rfl)
    | ((with_reducible apply Keeps.comp (State.domainOpen_keeps ..)); · rfl)
    | ((with_reducible apply Keeps.comp (State.journal_keeps ..)); · rfl)
    | ((with_reducible apply Keeps.comp (State.stepFailRequired_keeps ..)); · rfl)
    | ((with_reducible apply Keeps.comp (State.startFail_keeps ..)); · rfl)
    | ((with_reducible apply Keeps.comp (State.goDegraded_keeps ..)); · rfl)
    | split
    | with_reducible apply OKeeps.ite

theorem State.wakeEvent_keeps (s x1 x2) : Keeps 67080 s (State.wakeEvent s x1 x2) := by
  unfold State.wakeEvent
  repeat' first
    | with_reducible assumption
    | with_reducible exact Keeps.refl
    | (lift_lets; intro z; clear_value z)
    | ((with_reducible apply Keeps.comp (State.orF_keeps ..)); · rfl)
    | ((with_reducible apply Keeps.comp (State.setCrp_keeps ..)); · rfl)
    | ((with_reducible apply Keeps.comp (State.wake_keeps ..)); · rfl)
    | with_reducible refine Keeps.foldl (fun _ _ _ => ?_) ?_
    | split

theorem execWakeEvent_keeps (x0 x1 x2 s) : OKeeps 67080 s (execWakeEvent x0 x1 x2 s) := by
  unfold execWakeEvent
  repeat' first
    | with_reducible exact Keeps.refl
    | with_reducible apply OKeeps.next
    | ((with_reducible apply Keeps.comp (State.wakeEvent_keeps ..)); · rfl)

theorem execWakeTimerExpire_keeps (s) : OKeeps 67080 s (execWakeTimerExpire s) := by
  unfold execWakeTimerExpire
  repeat' first
    | with_reducible exact Keeps.refl
    | with_reducible apply OKeeps.next
    | ((with_reducible apply Keeps.comp (State.wakeEvent_keeps ..)); · rfl)
    | split

theorem execMgpWatchdogExpire_keeps (s) : OKeeps 2147352536 s (execMgpWatchdogExpire s) := by
  unfold execMgpWatchdogExpire
  repeat' first
    | with_reducible exact Keeps.refl
    | (lift_lets; intro z; clear_value z)
    | with_reducible apply OKeeps.next
    | ((with_reducible apply Keeps.comp (State.logEvent_keeps ..)); · rfl)
    | ((with_reducible apply Keeps.comp (State.inc_keeps ..)); · rfl)
    | ((with_reducible apply Keeps.comp (State.startFail_keeps ..)); · rfl)
    | ((with_reducible apply Keeps.comp (State.agentReset_keeps ..)); · rfl)
    | ((with_reducible apply Keeps.comp (State.putDcp_keeps ..)); · rfl)
    | split
    | with_reducible apply OKeeps.ite

theorem execMgpRestartDone_keeps (s) : OKeeps 1073741824 s (execMgpRestartDone s) := by
  unfold execMgpRestartDone
  repeat' first
    | with_reducible exact Keeps.refl
    | (lift_lets; intro z; clear_value z)
    | with_reducible apply OKeeps.next
    | ((with_reducible apply Keeps.comp (State.putDcp_keeps ..)); · rfl)
    | split

theorem execSupplyLeavesRange_keeps (s) : OKeeps 1024 s (execSupplyLeavesRange s) := by
  unfold execSupplyLeavesRange
  repeat' first
    | with_reducible exact Keeps.refl
    | with_reducible apply OKeeps.next
    | ((with_reducible apply Keeps.comp (State.setCrp_keeps ..)); · rfl)

end Sys2Proof.Machine
end

