-- ==== Sys2Proof/Laws/KeepsDcp.lean ====
section
/-! SUPPORT. What each operation of Machine/Dcp.lean leaves alone (the relation Keeps). -/

namespace Sys2Proof.Machine

theorem State.setRun_keeps (s x1) : Keeps 1073741824 s (State.setRun s x1) := by
  unfold State.setRun
  repeat' first
    | with_reducible exact Keeps.refl
    | (lift_lets; intro z; clear_value z)
    | ((with_reducible apply Keeps.comp (State.putDcp_keeps ..)); · rfl)

theorem State.runBegin_keeps (s x1 x2 x3) : Keeps 1073741824 s (State.runBegin s x1 x2 x3) := by
  unfold State.runBegin
  repeat' first
    | with_reducible exact Keeps.refl
    | (lift_lets; intro z; clear_value z)
    | ((with_reducible apply Keeps.comp (State.setRun_keeps ..)); · rfl)

theorem State.runTry_keeps (s x1) : Keeps 1073741824 s (State.runTry s x1) := by
  unfold State.runTry
  repeat' first
    | with_reducible exact Keeps.refl
    | ((with_reducible apply Keeps.comp (State.runBegin_keeps ..)); · rfl)
    | split

theorem State.dcpDo_keeps {M : Nat} (hm : (1073741824 &&& M == 1073741824) = true) {f} (hf : ∀ s r, Keeps M s (f s r).2) (s x1 x2) : Keeps M s (State.dcpDo s x1 x2 f) := by
  have hfo : ∀ {s r y z}, f s r = (y, z) → Keeps M s z := fun {s r y z} h => by have := hf s r; rw [h] at this; exact this
  unfold State.dcpDo
  repeat' first
    | with_reducible exact Keeps.refl
    | ((with_reducible refine Keeps.comp (hfo (by with_reducible assumption)) ?_ ?_); · exact sub_self _)
    | (lift_lets; intro z)
    | ((with_reducible apply Keeps.comp (State.runTry_keeps ..)); · exact sub_trans rfl hm)
    | ((with_reducible apply Keeps.comp (State.dcpResult_keeps ..)); · exact sub_trans rfl hm)
    | split

theorem State.qEntry_keeps (s x1 x2 x3) : Keeps 602120 s (State.qEntry s x1 x2 x3).2.2 := by
  unfold State.qEntry
  repeat' first
    | with_reducible exact Keeps.refl
    | ((with_reducible apply Keeps.comp (State.sramReadBytes_keeps ..)); · rfl)
    | split

theorem State.qEntry_out {s x1 x2 x3 y0 y1 y2} (h : State.qEntry s x1 x2 x3 = (y0, y1, y2)) : Keeps 602120 s y2 := by
  have := State.qEntry_keeps s x1 x2 x3; rw [h] at this; exact this

theorem State.qPayload_keeps (s x1 x2 x3 x4 x5 x6) : Keeps 602120 s (State.qPayload s x1 x2 x3 x4 x5 x6).2.2 := by
  unfold State.qPayload
  repeat' first
    | with_reducible exact Keeps.refl
    | ((with_reducible apply Keeps.comp (State.sramReadBytes_keeps ..)); · rfl)
    | split

theorem State.qPayload_out {s x1 x2 x3 x4 x5 x6 y0 y1 y2} (h : State.qPayload s x1 x2 x3 x4 x5 x6 = (y0, y1, y2)) : Keeps 602120 s y2 := by
  have := State.qPayload_keeps s x1 x2 x3 x4 x5 x6; rw [h] at this; exact this

theorem State.qFetch_keeps (s x1 x2 x3 x4 x5 x6 x7) : Keeps 1074343944 s (State.qFetch s x1 x2 x3 x4 x5 x6 x7) := by
  unfold State.qFetch
  repeat' first
    | with_reducible exact Keeps.refl
    | (lift_lets; intro z; clear_value z)
    | ((with_reducible apply Keeps.comp (State.qFault_keeps ..)); · rfl)
    | ((with_reducible apply Keeps.comp (State.qEntry_keeps ..)); · rfl)
    | ((with_reducible apply Keeps.comp (State.wr_keeps ..)); · rfl)
    | ((with_reducible apply Keeps.comp (State.qPayload_keeps ..)); · rfl)
    | ((with_reducible apply Keeps.comp (State.putDcp_keeps ..)); · rfl)
    | ((with_reducible apply Keeps.comp (State.setRun_keeps ..)); · rfl)
    | ((with_reducible apply Keeps.comp (State.runBegin_keeps ..)); · rfl)
    | split
    | with_reducible apply Keeps.ite

theorem execDcpFetch_keeps (x0 x1 x2 x3 x4 x5 s) : OKeeps 1074343944 s (execDcpFetch x0 x1 x2 x3 x4 x5 s) := by
  unfold execDcpFetch
  repeat' first
    | with_reducible exact Keeps.refl
    | with_reducible apply OKeeps.next
    | ((with_reducible apply Keeps.comp (State.qFetch_keeps ..)); · rfl)
    | split

theorem execDcpStartTimeout_keeps (x0 x1 x2 s) : OKeeps 1074343944 s (execDcpStartTimeout x0 x1 x2 s) := by
  unfold execDcpStartTimeout
  repeat' first
    | with_reducible exact Keeps.refl
    | with_reducible apply OKeeps.next
    | ((with_reducible apply Keeps.comp (State.setRun_keeps ..)); · rfl)
    | ((with_reducible apply Keeps.comp (State.qFetch_keeps ..)); · rfl)
    | split

theorem State.sqTail_keeps (s x1 x2 x3) : Keeps 8 s (State.sqTail s x1 x2 x3) := by
  unfold State.sqTail
  repeat' first
    | with_reducible exact Keeps.refl
    | ((with_reducible apply Keeps.comp (State.wr_keeps ..)); · rfl)
    | ((with_reducible apply Keeps.comp (State.cfgErr_keeps ..)); · rfl)
    | split

theorem execDcpSqDoorbell_keeps (x0 x1 x2 s) : OKeeps 8 s (execDcpSqDoorbell x0 x1 x2 s) := by
  unfold execDcpSqDoorbell
  repeat' first
    | with_reducible exact Keeps.refl
    | with_reducible apply OKeeps.next
    | ((with_reducible apply Keeps.comp (State.sqTail_keeps ..)); · rfl)
    | split

theorem State.frameNext_keeps (s) : Keeps 1073741824 s (State.frameNext s) := by
  unfold State.frameNext
  repeat' first
    | with_reducible exact Keeps.refl
    | (lift_lets; intro z; first | (have hz : (fun (_ : State) => True) z := trivial; clear hz) | clear_value z)
    | ((with_reducible apply Keeps.comp (State.putDcp_keeps ..)); · rfl)
    | ((with_reducible apply Keeps.comp (State.runBegin_keeps ..)); · rfl)
    | split

theorem State.frameAnswer_keeps (s x1 x2 x3) : Keeps 2099224 s (State.frameAnswer s x1 x2 x3) := by
  unfold State.frameAnswer
  repeat' first
    | with_reducible exact Keeps.refl
    | (lift_lets; intro z; clear_value z)
    | ((with_reducible apply Keeps.comp (State.swArrive_keeps ..)); · rfl)

theorem State.frameComplete_keeps (s x1 x2) : Keeps 1075841048 s (State.frameComplete s x1 x2) := by
  unfold State.frameComplete
  repeat' first
    | with_reducible exact Keeps.refl
    | (lift_lets; intro z; first | (have hz : (fun (_ : State) => True) z := trivial; clear hz) | clear_value z)
    | ((with_reducible apply Keeps.comp (State.dropRun_keeps ..)); · rfl)
    | ((with_reducible apply Keeps.comp (State.frameAnswer_keeps ..)); · rfl)
    | ((with_reducible apply Keeps.comp (State.frameNext_keeps ..)); · rfl)
    | ((with_reducible apply Keeps.comp (State.putDcp_keeps ..)); · rfl)
    | split
    | dsimp +zetaDelta only

theorem State.frameCommand_keeps (s x1) : Keeps 1073741824 s (State.frameCommand s x1) := by
  unfold State.frameCommand
  repeat' first
    | with_reducible exact Keeps.refl
    | (lift_lets; intro z; clear_value z)
    | ((with_reducible apply Keeps.comp (State.putDcp_keeps ..)); · rfl)
    | ((with_reducible apply Keeps.comp (State.frameNext_keeps ..)); · rfl)
    | split
    | with_reducible apply Keeps.ite

theorem execDcpFrameCommand_keeps (s) : OKeeps 1075838976 s (execDcpFrameCommand s) := by
  unfold execDcpFrameCommand
  repeat' first
    | with_reducible exact Keeps.refl
    | (lift_lets; intro z; clear_value z)
    | with_reducible apply OKeeps.next
    | ((with_reducible apply Keeps.comp (State.frameCommand_keeps ..)); · rfl)
    | ((with_reducible apply Keeps.comp (State.setSwc_keeps ..)); · rfl)
    | split

theorem execDcpCompletion_keeps (x0 s) : OKeeps 1076037656 s (execDcpCompletion x0 s) := by
  unfold execDcpCompletion
  repeat' first
    | with_reducible exact Keeps.refl
    | with_reducible apply OKeeps.next
    | ((with_reducible apply Keeps.comp (State.frameComplete_keeps ..)); · rfl)
    | ((with_reducible apply Keeps.comp (State.qComplete_keeps ..)); · rfl)
    | ((with_reducible apply Keeps.comp (State.dropRun_keeps ..)); · rfl)
    | split

end Sys2Proof.Machine
end

