-- ==== Sys2Proof/Laws/KeepsDcpCfg.lean ====
section
/-! SUPPORT. What each operation of Machine/DcpCfg.lean leaves alone (the relation Keeps). -/

namespace Sys2Proof.Machine

theorem execNop_keeps (x0 s) : OKeeps 1073741824 s (execNop x0 s) := by
  unfold execNop
  repeat' first
    | with_reducible exact Keeps.refl
    | with_reducible apply OKeeps.next
    | ((with_reducible show Keeps _ _ (State.dcpDo _ _ _ _)); with_reducible refine Keeps.comp (State.dcpDo_keeps (M := 1073741824) rfl (fun _ _ => ?_) ..) rfl ?_)

theorem execIdentify_keeps (x0 s) : OKeeps 1073741824 s (execIdentify x0 s) := by
  unfold execIdentify
  repeat' first
    | with_reducible exact Keeps.refl
    | with_reducible apply OKeeps.next
    | ((with_reducible show Keeps _ _ (State.dcpDo _ _ _ _)); with_reducible refine Keeps.comp (State.dcpDo_keeps (M := 1073741824) rfl (fun _ _ => ?_) ..) rfl ?_)

theorem execDeviceReset_keeps (x0 s) : OKeeps 1073742336 s (execDeviceReset x0 s) := by
  unfold execDeviceReset
  repeat' first
    | with_reducible exact Keeps.refl
    | with_reducible apply OKeeps.next
    | ((with_reducible show Keeps _ _ (State.dcpDo _ _ _ _)); with_reducible refine Keeps.comp (State.dcpDo_keeps (M := 1073742336) rfl (fun _ _ => ?_) ..) rfl ?_)
    | ((with_reducible show Keeps _ _ (State.setBoot _ _)); (with_reducible refine Keeps.comp (State.setBoot_keeps (fun _ => ?_) _) ?_ ?_); (· rfl); (· rfl))

theorem execPartitionReset_keeps (x0 s) : OKeeps 1610711048 s (execPartitionReset x0 s) := by
  unfold execPartitionReset
  repeat' first
    | with_reducible exact Keeps.refl
    | (lift_lets; intro z; clear_value z)
    | with_reducible apply OKeeps.next
    | ((with_reducible show Keeps _ _ (State.dcpDo _ _ _ _)); with_reducible refine Keeps.comp (State.dcpDo_keeps (M := 1610711048) rfl (fun _ _ => ?_) ..) rfl ?_)
    | ((with_reducible apply Keeps.comp (State.putDcp_keeps ..)); · rfl)
    | ((with_reducible apply Keeps.comp (State.partitionReset_keeps ..)); · rfl)
    | split

theorem execRestoreFactory_keeps (x0 s) : OKeeps 1073743872 s (execRestoreFactory x0 s) := by
  unfold execRestoreFactory
  repeat' first
    | with_reducible exact Keeps.refl
    | with_reducible apply OKeeps.next
    | ((with_reducible show Keeps _ _ (State.dcpDo _ _ _ _)); with_reducible refine Keeps.comp (State.dcpDo_keeps (M := 1073743872) rfl (fun _ _ => ?_) ..) rfl ?_)
    | ((with_reducible apply Keeps.comp (State.eraseConfig_keeps ..)); · rfl)
    | split

theorem execLifecycleAdvance_keeps (x0 s) : OKeeps 18253691416 s (execLifecycleAdvance x0 s) := by
  unfold execLifecycleAdvance
  repeat' first
    | with_reducible exact Keeps.refl
    | (lift_lets; intro z; clear_value z)
    | with_reducible apply OKeeps.next
    | ((with_reducible show Keeps _ _ (State.dcpDo _ _ _ _)); with_reducible refine Keeps.comp (State.dcpDo_keeps (M := 18253691416) rfl (fun _ _ => ?_) ..) rfl ?_)
    | ((with_reducible apply Keeps.comp (State.lifeCycleGo_keeps ..)); · rfl)
    | split

theorem execModeGet_keeps (x0 s) : OKeeps 1073741824 s (execModeGet x0 s) := by
  unfold execModeGet
  repeat' first
    | with_reducible exact Keeps.refl
    | with_reducible apply OKeeps.next
    | ((with_reducible show Keeps _ _ (State.dcpDo _ _ _ _)); with_reducible refine Keeps.comp (State.dcpDo_keeps (M := 1073741824) rfl (fun _ _ => ?_) ..) rfl ?_)

theorem execModeSet_keeps (x0 s) : OKeeps 2147483096 s (execModeSet x0 s) := by
  unfold execModeSet
  repeat' first
    | with_reducible exact Keeps.refl
    | (lift_lets; intro z; clear_value z)
    | with_reducible apply OKeeps.next
    | ((with_reducible show Keeps _ _ (State.dcpDo _ _ _ _)); with_reducible refine Keeps.comp (State.dcpDo_keeps (M := 2147483096) rfl (fun _ _ => ?_) ..) rfl ?_)
    | ((with_reducible apply Keeps.comp (State.modeGo_keeps ..)); · rfl)
    | split

theorem execModeCfgSet_keeps (x0 s) : OKeeps 1073741832 s (execModeCfgSet x0 s) := by
  unfold execModeCfgSet
  repeat' first
    | with_reducible exact Keeps.refl
    | (lift_lets; intro z; clear_value z)
    | with_reducible apply OKeeps.next
    | ((with_reducible show Keeps _ _ (State.dcpDo _ _ _ _)); with_reducible refine Keeps.comp (State.dcpDo_keeps (M := 1073741832) rfl (fun _ _ => ?_) ..) rfl ?_)
    | ((with_reducible apply Keeps.comp (State.putDcp_keeps ..)); · rfl)
    | ((with_reducible apply Keeps.comp (State.setReg_keeps ..)); · rfl)
    | split

theorem execConnSet_keeps (x0 s) : OKeeps 1082130432 s (execConnSet x0 s) := by
  unfold execConnSet
  repeat' first
    | with_reducible exact Keeps.refl
    | (lift_lets; intro z; clear_value z)
    | with_reducible apply OKeeps.next
    | ((with_reducible show Keeps _ _ (State.dcpDo _ _ _ _)); with_reducible refine Keeps.comp (State.dcpDo_keeps (M := 1082130432) rfl (fun _ _ => ?_) ..) rfl ?_)
    | ((with_reducible apply Keeps.comp (State.putDcp_keeps ..)); · rfl)
    | ((with_reducible apply Keeps.comp (State.putCmap_keeps ..)); · rfl)
    | split
    | dsimp only

theorem execConnClear_keeps (x0 s) : OKeeps 1082130432 s (execConnClear x0 s) := by
  unfold execConnClear
  repeat' first
    | with_reducible exact Keeps.refl
    | (lift_lets; intro z; clear_value z)
    | with_reducible apply OKeeps.next
    | ((with_reducible show Keeps _ _ (State.dcpDo _ _ _ _)); with_reducible refine Keeps.comp (State.dcpDo_keeps (M := 1082130432) rfl (fun _ _ => ?_) ..) rfl ?_)
    | ((with_reducible apply Keeps.comp (State.putCmap_keeps ..)); · rfl)
    | ((with_reducible apply Keeps.comp (State.putDcp_keeps ..)); · rfl)
    | split

theorem execConnGet_keeps (x0 s) : OKeeps 1073741824 s (execConnGet x0 s) := by
  unfold execConnGet
  repeat' first
    | with_reducible exact Keeps.refl
    | (lift_lets; intro z; clear_value z)
    | with_reducible apply OKeeps.next
    | ((with_reducible show Keeps _ _ (State.dcpDo _ _ _ _)); with_reducible refine Keeps.comp (State.dcpDo_keeps (M := 1073741824) rfl (fun _ _ => ?_) ..) rfl ?_)
    | split

theorem State.safeStore_keeps (s x1 x2 x3) : Keeps 1073743896 s (State.safeStore s x1 x2 x3) := by
  unfold State.safeStore
  repeat' first
    | with_reducible assumption
    | with_reducible exact Keeps.refl
    | (lift_lets; intro z; clear_value z)
    | ((with_reducible apply Keeps.comp (State.putDcp_keeps ..)); · rfl)
    | ((with_reducible apply Keeps.comp (State.setReg_keeps ..)); · rfl)
    | ((with_reducible apply Keeps.comp (State.sramWrite_keeps ..)); · rfl)
    | with_reducible refine Keeps.foldl (fun _ _ _ => ?_) ?_

theorem execSafevalSet_keeps (x0 s) : OKeeps 1073743896 s (execSafevalSet x0 s) := by
  unfold execSafevalSet
  repeat' first
    | with_reducible exact Keeps.refl
    | (lift_lets; intro z; clear_value z)
    | with_reducible apply OKeeps.next
    | ((with_reducible show Keeps _ _ (State.dcpDo _ _ _ _)); with_reducible refine Keeps.comp (State.dcpDo_keeps (M := 1073743896) rfl (fun _ _ => ?_) ..) rfl ?_)
    | ((with_reducible apply Keeps.comp (State.safeStore_keeps ..)); · rfl)
    | split
    | dsimp only

theorem execGrant_keeps (x0 s) : OKeeps 1073741832 s (execGrant x0 s) := by
  unfold execGrant
  repeat' first
    | with_reducible exact Keeps.refl
    | (lift_lets; intro z; clear_value z)
    | with_reducible apply OKeeps.next
    | ((with_reducible show Keeps _ _ (State.dcpDo _ _ _ _)); with_reducible refine Keeps.comp (State.dcpDo_keeps (M := 1073741832) rfl (fun _ _ => ?_) ..) rfl ?_)
    | ((with_reducible apply Keeps.comp (State.putDcp_keeps ..)); · rfl)
    | ((with_reducible apply Keeps.comp (State.wr_keeps ..)); · rfl)
    | ((with_reducible apply Keeps.comp (State.wrB_keeps ..)); · rfl)
    | split
    | dsimp only

theorem execRevoke_keeps (x0 s) : OKeeps 1073741832 s (execRevoke x0 s) := by
  unfold execRevoke
  repeat' first
    | with_reducible exact Keeps.refl
    | (lift_lets; intro z; clear_value z)
    | with_reducible apply OKeeps.next
    | ((with_reducible show Keeps _ _ (State.dcpDo _ _ _ _)); with_reducible refine Keeps.comp (State.dcpDo_keeps (M := 1073741832) rfl (fun _ _ => ?_) ..) rfl ?_)
    | ((with_reducible apply Keeps.comp (State.wrB_keeps ..)); · rfl)
    | ((with_reducible apply Keeps.comp (State.putDcp_keeps ..)); · rfl)
    | split

theorem execSliceSet_keeps (x0 s) : OKeeps 1073774600 s (execSliceSet x0 s) := by
  unfold execSliceSet
  repeat' first
    | with_reducible exact Keeps.refl
    | (lift_lets; intro z; clear_value z)
    | with_reducible apply OKeeps.next
    | ((with_reducible show Keeps _ _ (State.dcpDo _ _ _ _)); with_reducible refine Keeps.comp (State.dcpDo_keeps (M := 1073774600) rfl (fun _ _ => ?_) ..) rfl ?_)
    | ((with_reducible apply Keeps.comp (State.sliceWrite_keeps ..)); · rfl)
    | split
    | dsimp only

theorem execCfgStore_keeps (x0 s) : OKeeps 1073741828 s (execCfgStore x0 s) := by
  unfold execCfgStore
  repeat' first
    | with_reducible exact Keeps.refl
    | (lift_lets; intro z; clear_value z)
    | with_reducible apply OKeeps.next
    | ((with_reducible show Keeps _ _ (State.dcpDo _ _ _ _)); with_reducible refine Keeps.comp (State.dcpDo_keeps (M := 1073741828) rfl (fun _ _ => ?_) ..) rfl ?_)
    | ((with_reducible apply Keeps.comp (State.takeFree_keeps ..)); · rfl)
    | ((with_reducible apply Keeps.comp (State.putDcp_keeps ..)); · rfl)
    | split

theorem execCfgCheck_keeps (x0 s) : OKeeps 1073741824 s (execCfgCheck x0 s) := by
  unfold execCfgCheck
  repeat' first
    | with_reducible exact Keeps.refl
    | with_reducible apply OKeeps.next
    | ((with_reducible show Keeps _ _ (State.dcpDo _ _ _ _)); with_reducible refine Keeps.comp (State.dcpDo_keeps (M := 1073741824) rfl (fun _ _ => ?_) ..) rfl ?_)

end Sys2Proof.Machine
end

