-- ==== Sys2Proof/Laws/KeepsRegWrite.lean ====
section
/-! SUPPORT. What each operation of Machine/RegWrite.lean leaves alone (the relation Keeps). -/

namespace Sys2Proof.Machine

theorem putPart_wf (on : Bool) (m : List Host.Cell) (a : Nat) (b : List Byte) (h : memWf m = true) :
    memWf (putPart on m a b) = true := by
  unfold putPart; split
  · exact memPutBytes_wf _ _ _ h
  · exact h

theorem RegW.put_keeps (x0 s) : Keeps 8 s (RegW.put x0 s) := by
  unfold RegW.put
  repeat' first
    | with_reducible exact Keeps.refl
    | ((with_reducible apply Keeps.comp (State.setReg_keeps ..)); · rfl)

theorem RegW.refuse_keeps (x0 s) : Keeps 8 s (RegW.refuse x0 s) := by
  unfold RegW.refuse
  repeat' first
    | with_reducible exact Keeps.refl
    | ((with_reducible apply Keeps.comp (State.cfgErr_keeps ..)); · rfl)

theorem RegW.unless_keeps (x0 x1 s) : Keeps 8 s (RegW.unless x0 x1 s) := by
  unfold RegW.unless
  repeat' first
    | with_reducible exact Keeps.refl
    | ((with_reducible apply Keeps.comp (RegW.refuse_keeps ..)); · rfl)
    | ((with_reducible apply Keeps.comp (RegW.put_keeps ..)); · rfl)
    | split

theorem RegW.sysctl_keeps (x0 s) : Keeps 8 s (RegW.sysctl x0 s) := by
  unfold RegW.sysctl
  repeat' first
    | with_reducible exact Keeps.refl
    | ((with_reducible apply Keeps.comp (RegW.unless_keeps ..)); · rfl)

theorem RegW.mem_keeps (x0 s) : Keeps 14360 s (RegW.mem x0 s) := by
  unfold RegW.mem
  repeat' first
    | with_reducible assumption
    | with_reducible exact Keeps.refl
    | (lift_lets; intro z; clear_value z)
    | ((with_reducible apply Keeps.comp (State.vaultWipe_keeps ..)); · rfl)
    | ((with_reducible apply Keeps.comp (RegW.put_keeps ..)); · rfl)
    | ((with_reducible apply Keeps.comp (RegW.refuse_keeps ..)); · rfl)
    | ((with_reducible apply Keeps.comp (bankTarget_keeps ..)); · rfl)
    | with_reducible refine Keeps.foldl (fun _ _ _ => ?_) ?_
    | split

theorem RegW.sec_keeps (x0 x1 s) : Keeps 8 s (RegW.sec x0 x1 s) := by
  unfold RegW.sec
  repeat' first
    | with_reducible exact Keeps.refl
    | (lift_lets; intro z; clear_value z)
    | ((with_reducible apply Keeps.comp (RegW.put_keeps ..)); · rfl)

theorem State.sendNew_keeps (s x1 x2) : Keeps 65536 s (State.sendNew s x1 x2) := by
  unfold State.sendNew
  repeat' first
    | with_reducible assumption
    | with_reducible exact Keeps.refl
    | ((with_reducible apply Keeps.comp (State.putMsix_keeps ..)); · rfl)
    | with_reducible refine Keeps.foldl (fun _ _ _ => ?_) ?_
    | split

theorem RegW.queue_keeps (x0 x1 x2 x3 s) : Keeps 1073741832 s (RegW.queue x0 x1 x2 x3 s) := by
  unfold RegW.queue
  repeat' first
    | with_reducible exact Keeps.refl
    | (lift_lets; intro z; clear_value z)
    | ((with_reducible apply Keeps.comp (RegW.unless_keeps ..)); · rfl)
    | ((with_reducible apply Keeps.comp (RegW.refuse_keeps ..)); · rfl)
    | ((with_reducible apply Keeps.comp (RegW.put_keeps ..)); · rfl)
    | ((with_reducible apply Keeps.comp (State.putDcp_keeps ..)); · rfl)
    | split

theorem RegW.part_keeps (x0 x1 x2 s) : Keeps 1613477912 s (RegW.part x0 x1 x2 s) := by
  unfold RegW.part
  repeat' first
    | with_reducible exact Keeps.refl
    | (lift_lets; intro z; clear_value z)
    | ((with_reducible apply Keeps.comp (State.sliceWrite_keeps ..)); · rfl)
    | ((with_reducible apply Keeps.comp (RegW.put_keeps ..)); · rfl)
    | ((with_reducible apply Keeps.comp (State.commitAsk_keeps ..)); · rfl)
    | ((with_reducible apply Keeps.comp (RegW.unless_keeps ..)); · rfl)
    | ((with_reducible apply Keeps.comp (RegW.refuse_keeps ..)); · rfl)
    | ((with_reducible apply Keeps.comp (State.txRun_keeps ..)); · rfl)
    | ((with_reducible apply Keeps.comp (State.sendNew_keeps ..)); · rfl)
    | ((with_reducible apply Keeps.comp (State.partitionReset_keeps ..)); · rfl)
    | ((with_reducible apply Keeps.comp (RegW.queue_keeps ..)); · rfl)
    | split
    | with_reducible apply Keeps.ite

theorem RegW.hic_keeps (x0 s) : Keeps 1613477912 s (RegW.hic x0 s) := by
  unfold RegW.hic
  repeat' first
    | with_reducible exact Keeps.refl
    | ((with_reducible apply Keeps.comp (RegW.part_keeps ..)); · rfl)
    | ((with_reducible apply Keeps.comp (RegW.put_keeps ..)); · rfl)
    | split

theorem RegW.mailbox_keeps (x0 x1 x2 s) : Keeps 536936456 s (RegW.mailbox x0 x1 x2 s) := by
  unfold RegW.mailbox
  repeat' first
    | with_reducible exact Keeps.refl
    | (lift_lets; intro z; clear_value z)
    | ((with_reducible apply Keeps.comp (RegW.refuse_keeps ..)); · rfl)
    | ((with_reducible apply Keeps.comp (RegW.put_keeps ..)); · rfl)
    | ((with_reducible apply Keeps.comp (mbAck_keeps ..)); · rfl)
    | ((with_reducible apply Keeps.comp (mbPost_keeps ..)); · rfl)
    | split

theorem RegW.mqf_keeps (x0 s) : Keeps 536936456 s (RegW.mqf x0 s) := by
  unfold RegW.mqf
  repeat' first
    | with_reducible exact Keeps.refl
    | (lift_lets; intro z)
    | ((with_reducible apply Keeps.comp (RegW.mailbox_keeps ..)); · rfl)
    | ((with_reducible apply Keeps.comp (RegW.put_keeps ..)); · rfl)
    | ((with_reducible apply Keeps.comp (State.raiseEvent_keeps ..)); · rfl)
    | ((with_reducible apply Keeps.comp (semRelease_keeps ..)); · rfl)
    | split
    | dsimp only

theorem RegW.pq_keeps (x0 s) : Keeps 536872984 s (RegW.pq x0 s) := by
  unfold RegW.pq
  repeat' first
    | with_reducible exact Keeps.refl
    | (lift_lets; intro z; clear_value z)
    | ((with_reducible apply Keeps.comp (RegW.put_keeps ..)); · rfl)
    | ((with_reducible apply Keeps.comp (RegW.unless_keeps ..)); · rfl)
    | ((with_reducible apply Keeps.comp (pqCtl_keeps ..)); · rfl)
    | ((with_reducible apply Keeps.comp (pqEnable_keeps ..)); · rfl)
    | ((with_reducible apply Keeps.comp (pqDisable_keeps ..)); · rfl)
    | ((with_reducible apply Keeps.comp (RegW.refuse_keeps ..)); · rfl)
    | ((with_reducible apply Keeps.comp (State.pqShow_keeps ..)); · rfl)
    | ((with_reducible apply Keeps.comp (pqWrite_keeps ..)); · rfl)
    | split
    | with_reducible apply Keeps.ite

theorem RegW.engine_keeps (x0 x1 x2 s) : Keeps 543229976 s (RegW.engine x0 x1 x2 s) := by
  unfold RegW.engine
  repeat' first
    | with_reducible exact Keeps.refl
    | (lift_lets; intro z; clear_value z)
    | ((with_reducible apply Keeps.comp (RegW.refuse_keeps ..)); · rfl)
    | ((with_reducible apply Keeps.comp (RegW.put_keeps ..)); · rfl)
    | ((with_reducible apply Keeps.comp (State.engEnable_keeps ..)); · rfl)
    | ((with_reducible apply Keeps.comp (State.engDisable_keeps ..)); · rfl)
    | ((with_reducible apply Keeps.comp (RegW.unless_keeps ..)); · rfl)
    | split
    | with_reducible apply Keeps.ite

theorem RegW.pea_keeps (x0 s) : Keeps 551618584 s (RegW.pea x0 s) := by
  unfold RegW.pea
  repeat' first
    | with_reducible exact Keeps.refl
    | ((with_reducible apply Keeps.comp (RegW.refuse_keeps ..)); · rfl)
    | ((with_reducible apply Keeps.comp (State.putCmap_keeps ..)); · rfl)
    | ((with_reducible apply Keeps.comp (RegW.engine_keeps ..)); · rfl)
    | ((with_reducible apply Keeps.comp (RegW.put_keeps ..)); · rfl)
    | split

theorem RegW.epc_keeps (x0 s) : Keeps 7342104 s (RegW.epc x0 s) := by
  unfold RegW.epc
  repeat' first
    | with_reducible exact Keeps.refl
    | (lift_lets; intro z; clear_value z)
    | ((with_reducible apply Keeps.comp (RegW.put_keeps ..)); · rfl)
    | ((with_reducible apply Keeps.comp (RegW.refuse_keeps ..)); · rfl)
    | ((with_reducible apply Keeps.comp (State.portEnable_keeps ..)); · rfl)
    | ((with_reducible apply Keeps.comp (State.portDisable_keeps ..)); · rfl)
    | split
    | with_reducible apply Keeps.ite

theorem RegW.swPort_keeps (x0 x1 x2 s) : Keeps 2097160 s (RegW.swPort x0 x1 x2 s) := by
  unfold RegW.swPort
  repeat' first
    | with_reducible exact Keeps.refl
    | (lift_lets; intro z; clear_value z)
    | ((with_reducible apply Keeps.comp (RegW.put_keeps ..)); · rfl)
    | ((with_reducible apply Keeps.comp (State.portLog_keeps ..)); · rfl)
    | ((with_reducible apply Keeps.comp (RegW.refuse_keeps ..)); · rfl)
    | ((with_reducible apply Keeps.comp (State.gclApply_keeps ..)); · rfl)
    | split

theorem RegW.swc_keeps (x0 s) : Keeps 2097160 s (RegW.swc x0 s) := by
  unfold RegW.swc
  repeat' first
    | with_reducible exact Keeps.refl
    | (lift_lets; intro z; first | (have hz : (fun (_ : State) => True) z := trivial; clear hz) | clear_value z)
    | ((with_reducible apply Keeps.comp (RegW.put_keeps ..)); · rfl)
    | ((with_reducible apply Keeps.comp (State.swAbort_keeps ..)); · rfl)
    | ((with_reducible apply Keeps.comp (State.swCommit_keeps ..)); · rfl)
    | ((with_reducible apply Keeps.comp (State.updOp_keeps ..)); · rfl)
    | ((with_reducible apply Keeps.comp (RegW.unless_keeps ..)); · rfl)
    | ((with_reducible apply Keeps.comp (State.mirCons_keeps ..)); · rfl)
    | ((with_reducible apply Keeps.comp (RegW.swPort_keeps ..)); · rfl)
    | split
    | with_reducible apply Keeps.ite

theorem RegW.domain_keeps (x0 x1 x2 s) : Keeps 262152 s (RegW.domain x0 x1 x2 s) := by
  unfold RegW.domain
  repeat' first
    | with_reducible exact Keeps.refl
    | (lift_lets; intro z; clear_value z)
    | ((with_reducible apply Keeps.comp (RegW.refuse_keeps ..)); · rfl)
    | ((with_reducible apply Keeps.comp (RegW.put_keeps ..)); · rfl)
    | ((with_reducible apply Keeps.comp (State.tdEnable_keeps ..)); · rfl)
    | ((with_reducible apply Keeps.comp (State.tdHold_keeps ..)); · rfl)
    | ((with_reducible apply Keeps.comp (State.tdMeas_keeps ..)); · rfl)
    | split

theorem RegW.ntu_keeps (x0 s) : Keeps 1208811528 s (RegW.ntu x0 s) := by
  unfold RegW.ntu
  repeat' first
    | with_reducible exact Keeps.refl
    | (lift_lets; intro z; clear_value z)
    | ((with_reducible apply Keeps.comp (State.snapTime_keeps ..)); · rfl)
    | ((with_reducible apply Keeps.comp (RegW.put_keeps ..)); · rfl)
    | ((with_reducible apply Keeps.comp (State.castGo_keeps ..)); · rfl)
    | ((with_reducible apply Keeps.comp (RegW.refuse_keeps ..)); · rfl)
    | ((with_reducible apply Keeps.comp (State.cycSetRun_keeps ..)); · rfl)
    | ((with_reducible apply Keeps.comp (State.cycApply_keeps ..)); · rfl)
    | ((with_reducible apply Keeps.comp (RegW.unless_keeps ..)); · rfl)
    | ((with_reducible apply Keeps.comp (RegW.domain_keeps ..)); · rfl)
    | split

theorem RegW.segment_keeps (x0 x1 x2 s) : Keeps 16777224 s (RegW.segment x0 x1 x2 s) := by
  unfold RegW.segment
  repeat' first
    | with_reducible exact Keeps.refl
    | (lift_lets; intro z; clear_value z)
    | ((with_reducible apply Keeps.comp (RegW.refuse_keeps ..)); · rfl)
    | ((with_reducible apply Keeps.comp (RegW.put_keeps ..)); · rfl)
    | ((with_reducible apply Keeps.comp (State.segEnable_keeps ..)); · rfl)
    | ((with_reducible apply Keeps.comp (State.segDisable_keeps ..)); · rfl)
    | ((with_reducible apply Keeps.comp (RegW.unless_keeps ..)); · rfl)
    | split
    | with_reducible apply Keeps.ite

theorem RegW.cbc_keeps (x0 s) : Keeps 16777224 s (RegW.cbc x0 s) := by
  unfold RegW.cbc
  repeat' first
    | with_reducible exact Keeps.refl
    | ((with_reducible apply Keeps.comp (State.schedApply_keeps ..)); · rfl)
    | ((with_reducible apply Keeps.comp (RegW.segment_keeps ..)); · rfl)
    | ((with_reducible apply Keeps.comp (RegW.unless_keeps ..)); · rfl)
    | split

theorem RegW.channel_keeps (x0 x1 x2 s) : Keeps 34158616 s (RegW.channel x0 x1 x2 s) := by
  unfold RegW.channel
  repeat' first
    | with_reducible exact Keeps.refl
    | (lift_lets; intro z; clear_value z)
    | ((with_reducible apply Keeps.comp (RegW.refuse_keeps ..)); · rfl)
    | ((with_reducible apply Keeps.comp (RegW.put_keeps ..)); · rfl)
    | ((with_reducible apply Keeps.comp (State.canUpd_keeps ..)); · rfl)
    | ((with_reducible apply Keeps.comp (State.canEnable_keeps ..)); · rfl)
    | ((with_reducible apply Keeps.comp (State.canDisable_keeps ..)); · rfl)
    | ((with_reducible apply Keeps.comp (RegW.unless_keeps ..)); · rfl)
    | ((with_reducible apply Keeps.comp (State.canFltApply_keeps ..)); · rfl)
    | ((with_reducible apply Keeps.comp (State.canCancel_keeps ..)); · rfl)
    | ((with_reducible apply Keeps.comp (State.canStage_keeps ..)); · rfl)
    | ((with_reducible apply Keeps.comp (State.canPush_keeps ..)); · rfl)
    | split
    | with_reducible apply Keeps.ite

theorem RegW.canb_keeps (x0 s) : Keeps 34158616 s (RegW.canb x0 s) := by
  unfold RegW.canb
  repeat' first
    | with_reducible exact Keeps.refl
    | ((with_reducible apply Keeps.comp (RegW.channel_keeps ..)); · rfl)
    | ((with_reducible apply Keeps.comp (RegW.put_keeps ..)); · rfl)
    | split

theorem RegW.pawnReg_keeps (x0 x1 x2 s) : Keeps 67108872 s (RegW.pawnReg x0 x1 x2 s) := by
  unfold RegW.pawnReg
  repeat' first
    | with_reducible exact Keeps.refl
    | (lift_lets; intro z; clear_value z)
    | ((with_reducible apply Keeps.comp (RegW.refuse_keeps ..)); · rfl)
    | ((with_reducible apply Keeps.comp (RegW.put_keeps ..)); · rfl)
    | ((with_reducible apply Keeps.comp (State.pawnEnable_keeps ..)); · rfl)
    | ((with_reducible apply Keeps.comp (State.pawnDisable_keeps ..)); · rfl)
    | ((with_reducible apply Keeps.comp (RegW.unless_keeps ..)); · rfl)
    | ((with_reducible apply Keeps.comp (State.progSwapNow_keeps ..)); · rfl)
    | ((with_reducible apply Keeps.comp (State.wrB_keeps ..)); · rfl)
    | ((with_reducible apply Keeps.comp (State.progArm_keeps ..)); · rfl)
    | ((with_reducible apply Keeps.comp (State.txfPush_keeps ..)); · rfl)
    | split
    | with_reducible apply Keeps.ite

theorem RegW.pin_keeps (x0 x1 s) : Keeps 8 s (RegW.pin x0 x1 s) := by
  unfold RegW.pin
  repeat' first
    | with_reducible exact Keeps.refl
    | (lift_lets; intro z; clear_value z)
    | ((with_reducible apply Keeps.comp (RegW.unless_keeps ..)); · rfl)

theorem RegW.pia_keeps (x0 s) : Keeps 67108872 s (RegW.pia x0 s) := by
  unfold RegW.pia
  repeat' first
    | with_reducible exact Keeps.refl
    | (lift_lets; intro z; clear_value z)
    | ((with_reducible apply Keeps.comp (State.setFlags_keeps ..)); · rfl)
    | ((with_reducible apply Keeps.comp (RegW.refuse_keeps ..)); · rfl)
    | ((with_reducible apply Keeps.comp (State.groupDivrst_keeps ..)); · rfl)
    | ((with_reducible apply Keeps.comp (State.groupGo_keeps ..)); · rfl)
    | ((with_reducible apply Keeps.comp (RegW.put_keeps ..)); · rfl)
    | ((with_reducible apply Keeps.comp (RegW.pin_keeps ..)); · rfl)
    | ((with_reducible apply Keeps.comp (RegW.pawnReg_keeps ..)); · rfl)
    | split
    | with_reducible apply Keeps.ite

theorem State.axisWrote_keeps (s x1) : Keeps 134217728 s (State.axisWrote s x1) := by
  unfold State.axisWrote
  repeat' first
    | with_reducible exact Keeps.refl
    | (lift_lets; intro z; clear_value z)
    | ((with_reducible apply Keeps.comp (State.axisUpd_keeps ..)); · rfl)

theorem RegW.axis_keeps (x0 x1 x2 s) : Keeps 134217736 s (RegW.axis x0 x1 x2 s) := by
  unfold RegW.axis
  repeat' first
    | with_reducible exact Keeps.refl
    | (lift_lets; intro z)
    | ((with_reducible apply Keeps.comp (RegW.refuse_keeps ..)); · rfl)
    | ((with_reducible apply Keeps.comp (RegW.put_keeps ..)); · rfl)
    | ((with_reducible apply Keeps.comp (State.axisUpd_keeps ..)); · rfl)
    | ((with_reducible apply Keeps.comp (State.axisReadyBit_keeps ..)); · rfl)
    | ((with_reducible apply Keeps.comp (RegW.unless_keeps ..)); · rfl)
    | ((with_reducible apply Keeps.comp (State.axisWrote_keeps ..)); · rfl)
    | split
    | with_reducible apply Keeps.ite

theorem RegW.ace_keeps (x0 s) : Keeps 134217736 s (RegW.ace x0 s) := by
  unfold RegW.ace
  repeat' first
    | with_reducible exact Keeps.refl
    | (lift_lets; intro z)
    | ((with_reducible apply Keeps.comp (RegW.put_keeps ..)); · rfl)
    | ((with_reducible apply Keeps.comp (State.bankCopy_keeps ..)); · rfl)
    | ((with_reducible apply Keeps.comp (State.bankApply_keeps ..)); · rfl)
    | ((with_reducible apply Keeps.comp (RegW.axis_keeps ..)); · rfl)
    | ((with_reducible apply Keeps.comp (RegW.unless_keeps ..)); · rfl)
    | split
    | with_reducible apply Keeps.ite

theorem RegW.unitA_keeps (x0 x1 s) : Keeps 1627109400 s (RegW.unitA x0 x1 s) := by
  unfold RegW.unitA
  repeat' first
    | with_reducible exact Keeps.refl
    | ((with_reducible apply Keeps.comp (RegW.mem_keeps ..)); · rfl)
    | ((with_reducible apply Keeps.comp (RegW.hic_keeps ..)); · rfl)
    | ((with_reducible apply Keeps.comp (RegW.mqf_keeps ..)); · rfl)
    | ((with_reducible apply Keeps.comp (RegW.pq_keeps ..)); · rfl)
    | ((with_reducible apply Keeps.comp (RegW.pea_keeps ..)); · rfl)
    | ((with_reducible apply Keeps.comp (RegW.epc_keeps ..)); · rfl)
    | ((with_reducible apply Keeps.comp (RegW.swc_keeps ..)); · rfl)
    | ((with_reducible apply Keeps.comp (RegW.put_keeps ..)); · rfl)
    | split

theorem RegW.unitB_keeps (x0 x1 s) : Keeps 1879029784 s (RegW.unitB x0 x1 s) := by
  unfold RegW.unitB
  repeat' first
    | with_reducible exact Keeps.refl
    | ((with_reducible apply Keeps.comp (RegW.ntu_keeps ..)); · rfl)
    | ((with_reducible apply Keeps.comp (RegW.cbc_keeps ..)); · rfl)
    | ((with_reducible apply Keeps.comp (RegW.canb_keeps ..)); · rfl)
    | ((with_reducible apply Keeps.comp (RegW.pia_keeps ..)); · rfl)
    | ((with_reducible apply Keeps.comp (RegW.ace_keeps ..)); · rfl)
    | ((with_reducible apply Keeps.comp (RegW.unitA_keeps ..)); · rfl)
    | split

theorem RegW.common_keeps (x0 x1 s) : Keeps 65544 s (RegW.common x0 x1 s) := by
  unfold RegW.common
  repeat' first
    | with_reducible exact Keeps.refl
    | (lift_lets; intro z)
    | ((with_reducible apply Keeps.comp (RegW.put_keeps ..)); · rfl)
    | ((with_reducible apply Keeps.comp (State.setIstat_keeps ..)); · rfl)
    | split

theorem RegW.apply_keeps (x0 x1 x2 s) : Keeps 1879029784 s (RegW.apply x0 x1 x2 s) := by
  unfold RegW.apply
  repeat' first
    | with_reducible exact Keeps.refl
    | ((with_reducible apply Keeps.comp (RegW.common_keeps ..)); · rfl)
    | ((with_reducible apply Keeps.comp (RegW.sysctl_keeps ..)); · rfl)
    | ((with_reducible apply Keeps.comp (RegW.sec_keeps ..)); · rfl)
    | ((with_reducible apply Keeps.comp (RegW.unitB_keeps ..)); · rfl)
    | split

theorem State.windowWrite_keeps (s x1 x2 x3 x4 x5) : Keeps 72 s (State.windowWrite s x1 x2 x3 x4 x5) := by
  unfold State.windowWrite
  split
  · exact (State.cfgErr_keeps ..).mono rfl
  · exact (State.putPmem_keeps s fun h => putPart_wf _ _ _ _ (putPart_wf _ _ _ _ h)).mono rfl

theorem State.regWrite_keeps (s x1 x2 x3 x4 x5 x6) : Keeps 1879029848 s (State.regWrite s x1 x2 x3 x4 x5 x6) := by
  unfold State.regWrite
  repeat' first
    | with_reducible exact Keeps.refl
    | (lift_lets; intro z; clear_value z)
    | ((with_reducible apply Keeps.comp (State.windowWrite_keeps ..)); · rfl)
    | ((with_reducible apply Keeps.comp (State.cfgErr_keeps ..)); · rfl)
    | ((with_reducible apply Keeps.comp (RegW.apply_keeps ..)); · rfl)
    | split
    | dsimp only

theorem State.regPop_keeps (s x1 x2 x3) : Keeps 604844040 s (State.regPop s x1 x2 x3).2 := by
  unfold State.regPop
  repeat' first
    | with_reducible exact Keeps.refl
    | ((with_reducible apply Keeps.comp (semTake_keeps ..)); · rfl)
    | ((with_reducible apply Keeps.comp (pqPop_keeps ..)); · rfl)
    | ((with_reducible apply Keeps.comp (State.txtsPop_keeps ..)); · rfl)
    | ((with_reducible apply Keeps.comp (State.rxfPop_keeps ..)); · rfl)
    | split

theorem State.regPop_out {s x1 x2 x3 y0 y1} (h : State.regPop s x1 x2 x3 = (y0, y1)) : Keeps 604844040 s y1 := by
  have := State.regPop_keeps s x1 x2 x3; rw [h] at this; exact this

theorem State.regRead_keeps (s x1 x2 x3 x4) : Keeps 604844040 s (State.regRead s x1 x2 x3 x4).2 := by
  unfold State.regRead
  repeat' first
    | with_reducible exact Keeps.refl
    | (lift_lets; intro z; clear_value z)
    | ((with_reducible apply Keeps.comp (State.regPop_keeps ..)); · rfl)
    | ((with_reducible apply Keeps.comp (State.setReg_keeps ..)); · rfl)
    | split

theorem State.regRead_out {s x1 x2 x3 x4 y0 y1} (h : State.regRead s x1 x2 x3 x4 = (y0, y1)) : Keeps 604844040 s y1 := by
  have := State.regRead_keeps s x1 x2 x3 x4; rw [h] at this; exact this

theorem execRegisterWrite_keeps (x0 x1 x2 x3 x4 x5 s) : OKeeps 1879029848 s (execRegisterWrite x0 x1 x2 x3 x4 x5 s) := by
  unfold execRegisterWrite
  repeat' first
    | with_reducible exact Keeps.refl
    | with_reducible apply OKeeps.next
    | ((with_reducible apply Keeps.comp (State.regWrite_keeps ..)); · rfl)
    | split

end Sys2Proof.Machine
end

