-- ==== Sys2Proof/Laws/KeepsAccess.lean ====
section
/-! SUPPORT. What each operation of Machine/Access.lean leaves alone (the relation Keeps). -/

namespace Sys2Proof.Machine

theorem State.hostRegWrite_keeps (s x1 x2 x3 x4) : Keeps 1879029848 s (State.hostRegWrite s x1 x2 x3 x4) := by
  unfold State.hostRegWrite
  repeat' first
    | with_reducible exact Keeps.refl
    | (lift_lets; intro z; clear_value z)
    | ((with_reducible apply Keeps.comp (State.fwDeny_keeps ..)); · rfl)
    | ((with_reducible apply Keeps.comp (State.regWrite_keeps ..)); · rfl)
    | split

theorem State.hostRegRead_keeps (s x1 x2 x3) : Keeps 604844040 s (State.hostRegRead s x1 x2 x3).2.2 := by
  unfold State.hostRegRead
  repeat' first
    | with_reducible exact Keeps.refl
    | (lift_lets; intro z; clear_value z)
    | ((with_reducible apply Keeps.comp (State.fwDeny_keeps ..)); · rfl)
    | ((with_reducible apply Keeps.comp (State.regRead_keeps ..)); · rfl)
    | split

theorem State.hostRegRead_out {s x1 x2 x3 y0 y1 y2} (h : State.hostRegRead s x1 x2 x3 = (y0, y1, y2)) : Keeps 604844040 s y2 := by
  have := State.hostRegRead_keeps s x1 x2 x3; rw [h] at this; exact this

theorem State.barStore_keeps (s x1 x2 x3) : Keeps 2072 s (State.barStore s x1 x2 x3) := by
  induction x3 generalizing s x1 x2 with
  | zero => exact Keeps.refl
  | succ n ih =>
    unfold State.barStore
    repeat' first
      | with_reducible exact Keeps.refl
      | (lift_lets; intro z; clear_value z)
      | ((with_reducible apply Keeps.comp (ih ..)); · rfl)
      | ((with_reducible apply Keeps.comp (State.sramWrite_keeps ..)); · rfl)
      | split

theorem State.barLoad_keeps (s x1 x2 x3 x4) : Keeps 602120 s (State.barLoad s x1 x2 x3 x4).2.2 := by
  induction x4 generalizing s x1 x2 x3 with
  | zero => exact Keeps.refl
  | succ n ih =>
    have iho : ∀ {s x1 x2 x3 y0 y1 y2}, State.barLoad s x1 x2 x3 n = (y0, y1, y2) → Keeps 602120 s y2 := fun {s x1 x2 x3 y0 y1 y2} h => by
      have := ih s x1 x2 x3; rw [h] at this; exact this
    unfold State.barLoad
    repeat' first
      | with_reducible exact Keeps.refl
      | (lift_lets; intro z; clear_value z)
      | ((with_reducible apply Keeps.comp (ih ..)); · rfl)
      | ((with_reducible apply Keeps.comp (State.sramReadBytes_keeps ..)); · rfl)
      | split

theorem State.barLoad_out {s x1 x2 x3 x4 y0 y1 y2} (h : State.barLoad s x1 x2 x3 x4 = (y0, y1, y2)) : Keeps 602120 s y2 := by
  have := State.barLoad_keeps s x1 x2 x3 x4; rw [h] at this; exact this

theorem State.hostMemWrite_keeps (s x1 x2 x3) : Keeps 67608 s (State.hostMemWrite s x1 x2 x3) := by
  unfold State.hostMemWrite
  repeat' first
    | with_reducible exact Keeps.refl
    | ((with_reducible apply Keeps.comp (State.fwDeny_keeps ..)); · rfl)
    | ((with_reducible apply Keeps.comp (State.inc_keeps ..)); · rfl)
    | ((with_reducible apply Keeps.comp (State.barStore_keeps ..)); · rfl)
    | split

theorem State.hostMemRead_keeps (s x1 x2 x3) : Keeps 8590536712 s (State.hostMemRead s x1 x2 x3).2.2 := by
  unfold State.hostMemRead
  repeat' first
    | with_reducible exact Keeps.refl
    | (lift_lets; intro z; first | (have hz : (fun (_ : State) => True) z := trivial; clear hz) | clear_value z)
    | ((with_reducible apply Keeps.comp (State.putReadPoison_keeps ..)); · rfl)
    | ((with_reducible apply Keeps.comp (State.fwDeny_keeps ..)); · rfl)
    | ((with_reducible apply Keeps.comp (State.barLoad_keeps ..)); · rfl)
    | split

theorem State.hostMemRead_out {s x1 x2 x3 y0 y1 y2} (h : State.hostMemRead s x1 x2 x3 = (y0, y1, y2)) : Keeps 8590536712 s y2 := by
  have := State.hostMemRead_keeps s x1 x2 x3; rw [h] at this; exact this

theorem State.answer_keeps (s x1) : Keeps 6442450944 s (State.answer s x1) := by
  unfold State.answer
  repeat' first
    | with_reducible exact Keeps.refl
    | ((with_reducible apply Keeps.comp (State.putReadBytes_keeps ..)); · rfl)
    | ((with_reducible apply Keeps.comp (State.putReadData_keeps ..)); · rfl)

theorem execHostAccess_keeps (x0 x1 x2 x3 x4 x5 x6 s) : OKeeps 16911415384 s (execHostAccess x0 x1 x2 x3 x4 x5 x6 s) := by
  unfold execHostAccess
  repeat' first
    | with_reducible exact Keeps.refl
    | (lift_lets; intro z)
    | with_reducible apply OKeeps.next
    | ((with_reducible apply Keeps.comp (State.hostMemWrite_keeps ..)); · rfl)
    | ((with_reducible apply Keeps.comp (State.hostRegWrite_keeps ..)); · rfl)
    | ((with_reducible apply Keeps.comp (State.hostMemRead_keeps ..)); · rfl)
    | ((with_reducible apply Keeps.comp (State.hostRegRead_keeps ..)); · rfl)
    | ((with_reducible apply Keeps.comp (State.putReadPoison_keeps ..)); · rfl)
    | ((with_reducible apply Keeps.comp (State.answer_keeps ..)); · rfl)
    | split
    | dsimp +zetaDelta only

theorem State.portUpd_keeps (s x1 x2) : Keeps 16384 s (State.portUpd s x1 x2) := by
  unfold State.portUpd
  repeat' first
    | with_reducible exact Keeps.refl
    | ((with_reducible apply Keeps.comp (State.putXspi_keeps ..)); · rfl)

theorem execMemWrite_keeps (x0 x1 x2 s) : OKeeps 67608 s (execMemWrite x0 x1 x2 s) := by
  unfold execMemWrite
  repeat' first
    | with_reducible exact Keeps.refl
    | with_reducible apply OKeeps.next
    | ((with_reducible apply Keeps.comp (State.hostMemWrite_keeps ..)); · rfl)
    | split

theorem execMemRead_keeps (x0 x1 x2 s) : OKeeps 15033004040 s (execMemRead x0 x1 x2 s) := by
  unfold execMemRead
  repeat' first
    | with_reducible exact Keeps.refl
    | (lift_lets; intro z)
    | with_reducible apply OKeeps.next
    | ((with_reducible apply Keeps.comp (State.hostMemRead_keeps ..)); · rfl)
    | ((with_reducible apply Keeps.comp (State.answer_keeps ..)); · rfl)
    | ((with_reducible apply Keeps.comp (State.portUpd_keeps ..)); · rfl)
    | split

theorem execRegWrite_keeps (x0 x1 x2 x3 s) : OKeeps 1879046232 s (execRegWrite x0 x1 x2 x3 s) := by
  unfold execRegWrite
  repeat' first
    | with_reducible exact Keeps.refl
    | with_reducible apply OKeeps.next
    | ((with_reducible apply Keeps.comp (State.portUpd_keeps ..)); · rfl)
    | ((with_reducible apply Keeps.comp (State.hostRegWrite_keeps ..)); · rfl)
    | split

theorem execRegRead_keeps (x0 x1 s) : OKeeps 604860424 s (execRegRead x0 x1 s) := by
  unfold execRegRead
  repeat' first
    | with_reducible exact Keeps.refl
    | (lift_lets; intro z)
    | with_reducible apply OKeeps.next
    | ((with_reducible apply Keeps.comp (State.portUpd_keeps ..)); · rfl)
    | ((with_reducible apply Keeps.comp (State.hostRegRead_keeps ..)); · rfl)
    | split

theorem execResult_keeps (x0 s) : OKeeps 6442467328 s (execResult x0 s) := by
  unfold execResult
  repeat' first
    | with_reducible exact Keeps.refl
    | (lift_lets; intro z; clear_value z)
    | with_reducible apply OKeeps.next
    | ((with_reducible apply Keeps.comp (State.portUpd_keeps ..)); · rfl)
    | ((with_reducible apply Keeps.comp (State.putReadBytes_keeps ..)); · rfl)
    | ((with_reducible apply Keeps.comp (State.putReadData_keeps ..)); · rfl)
    | split

theorem State.idleEdge_keeps (s) : Keeps 278536 s (State.idleEdge s) := by
  unfold State.idleEdge
  repeat' first
    | with_reducible assumption
    | with_reducible exact Keeps.refl
    | (lift_lets; intro z)
    | ((with_reducible apply Keeps.comp (State.portUpd_keeps ..)); · rfl)
    | ((with_reducible apply Keeps.comp (State.edge1_keeps ..)); · rfl)
    | with_reducible refine Keeps.foldl (fun _ _ _ => ?_) ?_
    | split

end Sys2Proof.Machine
end

