-- ==== Sys2Proof/Laws/KeepsDcpNet.lean ====
section
/-! SUPPORT. What each operation of Machine/DcpNet.lean leaves alone (the relation Keeps). -/

namespace Sys2Proof.Machine

theorem State.needs_keeps {M : Nat} {s0 s : State} {d : Nat} {x : DcpAns × State} (h : Keeps M s0 s)
    (g : Keeps M s0 x.2) : Keeps M s0 (s.needs d x).2 := by
  unfold State.needs
  split
  · exact g
  · exact h

theorem State.loadBatch_keeps (s x1) : Keeps 2097160 s (State.loadBatch s x1).2 := by
  unfold State.loadBatch
  repeat' first
    | with_reducible assumption
    | with_reducible exact Keeps.refl
    | (lift_lets; intro z; clear_value z)
    | ((with_reducible apply Keeps.comp (State.newGen_keeps ..)); · rfl)
    | ((with_reducible apply Keeps.comp (State.opReset_keeps ..)); · rfl)
    | with_reducible refine Keeps.foldl (fun _ _ _ => ?_) ?_
    | split
    | with_reducible apply Keeps.snd_ite

theorem State.loadBatch_out {s x1 y0 y1} (h : State.loadBatch s x1 = (y0, y1)) : Keeps 2097160 s y1 := by
  have := State.loadBatch_keeps s x1; rw [h] at this; exact this

theorem execSwcLoad_keeps (x0 s) : OKeeps 1075838984 s (execSwcLoad x0 s) := by
  unfold execSwcLoad
  repeat' first
    | with_reducible exact Keeps.refl
    | (lift_lets; intro z; clear_value z)
    | with_reducible apply OKeeps.next
    | ((with_reducible show Keeps _ _ (State.dcpDo _ _ _ _)); with_reducible refine Keeps.comp (State.dcpDo_keeps (M := 1075838984) rfl (fun _ _ => ?_) ..) rfl ?_)
    | with_reducible apply State.needs_keeps
    | ((with_reducible apply Keeps.comp (State.loadBatch_keeps ..)); · rfl)
    | split

theorem State.rookSetup_keeps (s x1) : Keeps 8 s (State.rookSetup s x1).2 := by
  unfold State.rookSetup
  repeat' first
    | with_reducible assumption
    | with_reducible exact Keeps.refl
    | (lift_lets; intro z; clear_value z)
    | ((with_reducible apply Keeps.comp (State.wr_keeps ..)); · rfl)
    | ((with_reducible apply Keeps.comp (State.wrB_keeps ..)); · rfl)
    | with_reducible refine Keeps.foldl (fun _ _ _ => ?_) ?_
    | split
    | with_reducible apply Keeps.snd_ite

theorem State.rookSetup_out {s x1 y0 y1} (h : State.rookSetup s x1 = (y0, y1)) : Keeps 8 s y1 := by
  have := State.rookSetup_keeps s x1; rw [h] at this; exact this

theorem execRookSetup_keeps (x0 s) : OKeeps 1073741832 s (execRookSetup x0 s) := by
  unfold execRookSetup
  repeat' first
    | with_reducible exact Keeps.refl
    | with_reducible apply OKeeps.next
    | ((with_reducible show Keeps _ _ (State.dcpDo _ _ _ _)); with_reducible refine Keeps.comp (State.dcpDo_keeps (M := 1073741832) rfl (fun _ _ => ?_) ..) rfl ?_)
    | with_reducible apply State.needs_keeps
    | ((with_reducible apply Keeps.comp (State.rookSetup_keeps ..)); · rfl)

theorem execCbAreq_keeps (x0 s) : OKeeps 1090519040 s (execCbAreq x0 s) := by
  unfold execCbAreq
  repeat' first
    | with_reducible exact Keeps.refl
    | (lift_lets; intro z; clear_value z)
    | with_reducible apply OKeeps.next
    | ((with_reducible show Keeps _ _ (State.dcpDo _ _ _ _)); with_reducible refine Keeps.comp (State.dcpDo_keeps (M := 1090519040) rfl (fun _ _ => ?_) ..) rfl ?_)
    | with_reducible apply State.needs_keeps
    | ((with_reducible apply Keeps.comp (State.cbQueue_keeps ..)); · rfl)
    | split

theorem execNetAcyc_keeps (x0 x1 s) : OKeeps 1073741824 s (execNetAcyc x0 x1 s) := by
  unfold execNetAcyc
  repeat' first
    | with_reducible exact Keeps.refl
    | (lift_lets; intro z; clear_value z)
    | with_reducible apply OKeeps.next
    | ((with_reducible show Keeps _ _ (State.dcpDo _ _ _ _)); with_reducible refine Keeps.comp (State.dcpDo_keeps (M := 1073741824) rfl (fun _ _ => ?_) ..) rfl ?_)
    | split

theorem execPtpSet_keeps (x0 s) : OKeeps 1073741824 s (execPtpSet x0 s) := by
  unfold execPtpSet
  repeat' first
    | with_reducible exact Keeps.refl
    | (lift_lets; intro z; clear_value z)
    | with_reducible apply OKeeps.next
    | ((with_reducible show Keeps _ _ (State.dcpDo _ _ _ _)); with_reducible refine Keeps.comp (State.dcpDo_keeps (M := 1073741824) rfl (fun _ _ => ?_) ..) rfl ?_)
    | ((with_reducible apply Keeps.comp (State.putDcp_keeps ..)); · rfl)
    | split

theorem execRelaySet_keeps (x0 s) : OKeeps 1073741824 s (execRelaySet x0 s) := by
  unfold execRelaySet
  repeat' first
    | with_reducible exact Keeps.refl
    | (lift_lets; intro z; clear_value z)
    | with_reducible apply OKeeps.next
    | ((with_reducible show Keeps _ _ (State.dcpDo _ _ _ _)); with_reducible refine Keeps.comp (State.dcpDo_keeps (M := 1073741824) rfl (fun _ _ => ?_) ..) rfl ?_)
    | ((with_reducible apply Keeps.comp (State.putDcp_keeps ..)); · rfl)
    | split

theorem execNetStatus_keeps (x0 s) : OKeeps 1073741824 s (execNetStatus x0 s) := by
  unfold execNetStatus
  repeat' first
    | with_reducible exact Keeps.refl
    | (lift_lets; intro z; clear_value z)
    | with_reducible apply OKeeps.next
    | ((with_reducible show Keeps _ _ (State.dcpDo _ _ _ _)); with_reducible refine Keeps.comp (State.dcpDo_keeps (M := 1073741824) rfl (fun _ _ => ?_) ..) rfl ?_)

theorem State.axisSet_keeps (s x1) : Keeps 134217736 s (State.axisSet s x1).2 := by
  unfold State.axisSet
  repeat' first
    | with_reducible exact Keeps.refl
    | (lift_lets; intro z; clear_value z)
    | ((with_reducible apply Keeps.comp (State.setReg_keeps ..)); · rfl)
    | ((with_reducible apply Keeps.comp (State.axisUpd_keeps ..)); · rfl)
    | ((with_reducible apply Keeps.comp (State.axisReadyBit_keeps ..)); · rfl)
    | split
    | with_reducible apply Keeps.snd_ite

theorem State.axisSet_out {s x1 y0 y1} (h : State.axisSet s x1 = (y0, y1)) : Keeps 134217736 s y1 := by
  have := State.axisSet_keeps s x1; rw [h] at this; exact this

theorem execAxisSet_keeps (x0 s) : OKeeps 1207959560 s (execAxisSet x0 s) := by
  unfold execAxisSet
  repeat' first
    | with_reducible exact Keeps.refl
    | with_reducible apply OKeeps.next
    | ((with_reducible show Keeps _ _ (State.dcpDo _ _ _ _)); with_reducible refine Keeps.comp (State.dcpDo_keeps (M := 1207959560) rfl (fun _ _ => ?_) ..) rfl ?_)
    | with_reducible apply State.needs_keeps
    | ((with_reducible apply Keeps.comp (State.axisSet_keeps ..)); · rfl)

theorem execAxisGet_keeps (x0 s) : OKeeps 1073741824 s (execAxisGet x0 s) := by
  unfold execAxisGet
  repeat' first
    | with_reducible exact Keeps.refl
    | (lift_lets; intro z; clear_value z)
    | with_reducible apply OKeeps.next
    | ((with_reducible show Keeps _ _ (State.dcpDo _ _ _ _)); with_reducible refine Keeps.comp (State.dcpDo_keeps (M := 1073741824) rfl (fun _ _ => ?_) ..) rfl ?_)
    | with_reducible apply State.needs_keeps
    | split

theorem State.tabPut_keeps (s x1 x2 x3) : Keeps 8 s (State.tabPut s x1 x2 x3) := by
  unfold State.tabPut
  repeat' first
    | with_reducible exact Keeps.refl
    | (lift_lets; intro z; clear_value z)
    | ((with_reducible apply Keeps.comp (State.setReg_keeps ..)); · rfl)

theorem State.bankWrite_keeps (s x1) : Keeps 8 s (State.bankWrite s x1).2 := by
  unfold State.bankWrite
  repeat' first
    | with_reducible assumption
    | with_reducible exact Keeps.refl
    | (lift_lets; intro z; clear_value z)
    | ((with_reducible apply Keeps.comp (State.setReg_keeps ..)); · rfl)
    | ((with_reducible apply Keeps.comp (State.tabPut_keeps ..)); · rfl)
    | with_reducible refine Keeps.foldl (fun _ _ _ => ?_) ?_
    | split
    | with_reducible apply Keeps.snd_ite

theorem State.bankWrite_out {s x1 y0 y1} (h : State.bankWrite s x1 = (y0, y1)) : Keeps 8 s y1 := by
  have := State.bankWrite_keeps s x1; rw [h] at this; exact this

theorem execBankWrite_keeps (x0 s) : OKeeps 1073741832 s (execBankWrite x0 s) := by
  unfold execBankWrite
  repeat' first
    | with_reducible exact Keeps.refl
    | with_reducible apply OKeeps.next
    | ((with_reducible show Keeps _ _ (State.dcpDo _ _ _ _)); with_reducible refine Keeps.comp (State.dcpDo_keeps (M := 1073741832) rfl (fun _ _ => ?_) ..) rfl ?_)
    | with_reducible apply State.needs_keeps
    | ((with_reducible apply Keeps.comp (State.bankWrite_keeps ..)); · rfl)

theorem execBankApply_keeps (x0 s) : OKeeps 1207959560 s (execBankApply x0 s) := by
  unfold execBankApply
  repeat' first
    | with_reducible exact Keeps.refl
    | with_reducible apply OKeeps.next
    | ((with_reducible show Keeps _ _ (State.dcpDo _ _ _ _)); with_reducible refine Keeps.comp (State.dcpDo_keeps (M := 1207959560) rfl (fun _ _ => ?_) ..) rfl ?_)
    | with_reducible apply State.needs_keeps
    | ((with_reducible apply Keeps.comp (State.bankApply_keeps ..)); · rfl)
    | ((with_reducible apply Keeps.comp (State.wr_keeps ..)); · rfl)
    | split

theorem execBankCopy_keeps (x0 s) : OKeeps 1207959560 s (execBankCopy x0 s) := by
  unfold execBankCopy
  repeat' first
    | with_reducible exact Keeps.refl
    | (lift_lets; intro z; clear_value z)
    | with_reducible apply OKeeps.next
    | ((with_reducible show Keeps _ _ (State.dcpDo _ _ _ _)); with_reducible refine Keeps.comp (State.dcpDo_keeps (M := 1207959560) rfl (fun _ _ => ?_) ..) rfl ?_)
    | with_reducible apply State.needs_keeps
    | ((with_reducible apply Keeps.comp (State.bankCopy_keeps ..)); · rfl)
    | split

theorem execSafePdu_keeps (x0 s) : OKeeps 1342177284 s (execSafePdu x0 s) := by
  unfold execSafePdu
  repeat' first
    | with_reducible exact Keeps.refl
    | with_reducible apply OKeeps.next
    | ((with_reducible show Keeps _ _ (State.dcpDo _ _ _ _)); with_reducible refine Keeps.comp (State.dcpDo_keeps (M := 1342177284) rfl (fun _ _ => ?_) ..) rfl ?_)
    | with_reducible apply State.needs_keeps
    | ((with_reducible refine Keeps.comp (State.sfiParamPdu_out (by with_reducible assumption)) ?_ ?_); · rfl)
    | split

theorem execSafeView_keeps (x0 s) : OKeeps 1073741824 s (execSafeView x0 s) := by
  unfold execSafeView
  repeat' first
    | with_reducible exact Keeps.refl
    | with_reducible apply OKeeps.next
    | ((with_reducible show Keeps _ _ (State.dcpDo _ _ _ _)); with_reducible refine Keeps.comp (State.dcpDo_keeps (M := 1073741824) rfl (fun _ _ => ?_) ..) rfl ?_)
    | with_reducible apply State.needs_keeps

theorem execMpFrameReceive_keeps (s) : OKeeps 3491758080 s (execMpFrameReceive s) := by
  unfold execMpFrameReceive
  repeat' first
    | with_reducible exact Keeps.refl
    | (lift_lets; intro z; first | (have hz : (fun (_ : State) => True) z := trivial; clear hz) | clear_value z)
    | with_reducible apply OKeeps.next
    | ((with_reducible apply Keeps.comp (State.putReadData_keeps ..)); · rfl)
    | ((with_reducible apply Keeps.comp (State.setSwc_keeps ..)); · rfl)
    | ((with_reducible apply Keeps.comp (State.frameCommand_keeps ..)); · rfl)
    | ((with_reducible apply Keeps.comp (State.sfiReceive_keeps ..)); · rfl)
    | split

end Sys2Proof.Machine
end

