-- ==== Sys2Proof/Laws/KeepsDcpMnt.lean ====
section
/-! SUPPORT. What each operation of Machine/DcpMnt.lean leaves alone (the relation Keeps). -/

namespace Sys2Proof.Machine

theorem State.sporeCommand_keeps (s x1 x2 x3) : Keeps 4797000 s (State.sporeCommand s x1 x2 x3).2 := by
  unfold State.sporeCommand
  repeat' first
    | with_reducible exact Keeps.refl
    | (lift_lets; intro z; clear_value z)
    | ((with_reducible refine Keeps.comp (State.sramReadBytes_out (by with_reducible assumption)) ?_ ?_); · rfl)
    | ((with_reducible apply Keeps.comp (State.sporeBlank_keeps ..)); · rfl)
    | ((with_reducible apply Keeps.comp (State.sporeInstall_keeps ..)); · rfl)
    | ((with_reducible show Keeps _ _ (State.setBoot _ _)); (with_reducible refine Keeps.comp (State.setBoot_keeps (fun _ => ?_) _) ?_ ?_); (· rfl); (· rfl))
    | split
    | with_reducible apply Keeps.snd_ite

theorem State.sporeCommand_out {s x1 x2 x3 y0 y1} (h : State.sporeCommand s x1 x2 x3 = (y0, y1)) : Keeps 4797000 s y1 := by
  have := State.sporeCommand_keeps s x1 x2 x3; rw [h] at this; exact this

theorem execSporeLoad_keeps (x0 x1 x2 s) : OKeeps 1078538824 s (execSporeLoad x0 x1 x2 s) := by
  unfold execSporeLoad
  repeat' first
    | with_reducible exact Keeps.refl
    | with_reducible apply OKeeps.next
    | ((with_reducible show Keeps _ _ (State.dcpDo _ _ _ _)); with_reducible refine Keeps.comp (State.dcpDo_keeps (M := 1078538824) rfl (fun _ _ => ?_) ..) rfl ?_)
    | ((with_reducible apply Keeps.comp (State.sporeCommand_keeps ..)); · rfl)

theorem State.mramWrite_keeps (s x1 x2) : Keeps 32 s (State.mramWrite s x1 x2) := by
  unfold State.mramWrite
  repeat' first
    | with_reducible exact Keeps.refl
    | ((with_reducible show Keeps _ _ (State.putMram _ _)); (with_reducible refine Keeps.comp (State.putMram_keeps _ ?_) ?_ ?_); (· (intro hw; repeat' first | with_reducible assumption | with_reducible apply memPutBytes_wf | with_reducible apply memFilter_wf | with_reducible apply fillMem_wf | with_reducible apply putPart_wf | (with_reducible apply memPut_wf) | (with_reducible refine memFold_wf (fun _ _ _ => ?_) _ ?_) | split | exact hw | exact mapWf_filter _ _ hw | rfl)); (· rfl))

theorem State.imageStore_keeps (s x1 x2 x3 x4) : Keeps 602664 s (State.imageStore s x1 x2 x3 x4).2 := by
  unfold State.imageStore
  repeat' first
    | with_reducible exact Keeps.refl
    | (lift_lets; intro z)
    | ((with_reducible apply Keeps.comp (State.sramReadBytes_keeps ..)); · rfl)
    | ((with_reducible apply Keeps.comp (State.secShow_keeps ..)); · rfl)
    | ((with_reducible apply Keeps.comp (State.setSlot_keeps ..)); · rfl)
    | ((with_reducible apply Keeps.comp (State.mramWrite_keeps ..)); · rfl)
    | split

theorem State.imageStore_out {s x1 x2 x3 x4 y0 y1} (h : State.imageStore s x1 x2 x3 x4 = (y0, y1)) : Keeps 602664 s y1 := by
  have := State.imageStore_keeps s x1 x2 x3 x4; rw [h] at this; exact this

theorem State.imageWrite_keeps (s x1) : Keeps 602664 s (State.imageWrite s x1).2 := by
  unfold State.imageWrite
  repeat' first
    | with_reducible exact Keeps.refl
    | (lift_lets; intro z; clear_value z)
    | ((with_reducible apply Keeps.comp (State.imageStore_keeps ..)); · rfl)
    | split
    | with_reducible apply Keeps.snd_ite

theorem State.imageWrite_out {s x1 y0 y1} (h : State.imageWrite s x1 = (y0, y1)) : Keeps 602664 s y1 := by
  have := State.imageWrite_keeps s x1; rw [h] at this; exact this

theorem execImageWrite_keeps (x0 s) : OKeeps 1074344488 s (execImageWrite x0 s) := by
  unfold execImageWrite
  repeat' first
    | with_reducible exact Keeps.refl
    | with_reducible apply OKeeps.next
    | ((with_reducible show Keeps _ _ (State.dcpDo _ _ _ _)); with_reducible refine Keeps.comp (State.dcpDo_keeps (M := 1074344488) rfl (fun _ _ => ?_) ..) rfl ?_)
    | ((with_reducible apply Keeps.comp (State.imageWrite_keeps ..)); · rfl)

theorem State.imageCommit_keeps (s x1 x2) : Keeps 520 s (State.imageCommit s x1 x2).2 := by
  unfold State.imageCommit
  repeat' first
    | with_reducible exact Keeps.refl
    | (lift_lets; intro z; clear_value z)
    | ((with_reducible apply Keeps.comp (State.secShow_keeps ..)); · rfl)
    | ((with_reducible apply Keeps.comp (State.setSlot_keeps ..)); · rfl)
    | ((with_reducible show Keeps _ _ (State.setBoot _ _)); (with_reducible refine Keeps.comp (State.setBoot_keeps (fun _ => ?_) _) ?_ ?_); (· rfl); (· rfl))
    | split

theorem State.imageCommit_out {s x1 x2 y0 y1} (h : State.imageCommit s x1 x2 = (y0, y1)) : Keeps 520 s y1 := by
  have := State.imageCommit_keeps s x1 x2; rw [h] at this; exact this

theorem execImageCommit_keeps (x0 x1 s) : OKeeps 1073742344 s (execImageCommit x0 x1 s) := by
  unfold execImageCommit
  repeat' first
    | with_reducible exact Keeps.refl
    | with_reducible apply OKeeps.next
    | ((with_reducible show Keeps _ _ (State.dcpDo _ _ _ _)); with_reducible refine Keeps.comp (State.dcpDo_keeps (M := 1073742344) rfl (fun _ _ => ?_) ..) rfl ?_)
    | ((with_reducible apply Keeps.comp (State.imageCommit_keeps ..)); · rfl)

theorem execImageInfo_keeps (x0 s) : OKeeps 1073741824 s (execImageInfo x0 s) := by
  unfold execImageInfo
  repeat' first
    | with_reducible exact Keeps.refl
    | with_reducible apply OKeeps.next
    | ((with_reducible show Keeps _ _ (State.dcpDo _ _ _ _)); with_reducible refine Keeps.comp (State.dcpDo_keeps (M := 1073741824) rfl (fun _ _ => ?_) ..) rfl ?_)

theorem execEventRead_keeps (x0 s) : OKeeps 1073741824 s (execEventRead x0 s) := by
  unfold execEventRead
  repeat' first
    | with_reducible exact Keeps.refl
    | with_reducible apply OKeeps.next
    | ((with_reducible show Keeps _ _ (State.dcpDo _ _ _ _)); with_reducible refine Keeps.comp (State.dcpDo_keeps (M := 1073741824) rfl (fun _ _ => ?_) ..) rfl ?_)

theorem execJournalRead_keeps (x0 s) : OKeeps 1073741824 s (execJournalRead x0 s) := by
  unfold execJournalRead
  repeat' first
    | with_reducible exact Keeps.refl
    | with_reducible apply OKeeps.next
    | ((with_reducible show Keeps _ _ (State.dcpDo _ _ _ _)); with_reducible refine Keeps.comp (State.dcpDo_keeps (M := 1073741824) rfl (fun _ _ => ?_) ..) rfl ?_)

theorem State.rookMemWipe_keeps (s) : Keeps 64 s (State.rookMemWipe s) := by
  unfold State.rookMemWipe
  repeat' first
    | with_reducible exact Keeps.refl
    | ((with_reducible show Keeps _ _ (State.putPmem _ _)); (with_reducible refine Keeps.comp (State.putPmem_keeps _ ?_) ?_ ?_); (· (intro hw; repeat' first | with_reducible assumption | with_reducible apply memPutBytes_wf | with_reducible apply memFilter_wf | with_reducible apply fillMem_wf | with_reducible apply putPart_wf | (with_reducible apply memPut_wf) | (with_reducible refine memFold_wf (fun _ _ _ => ?_) _ ?_) | split | exact hw | exact mapWf_filter _ _ hw | rfl)); (· rfl))

theorem State.bistMark_keeps (s x1) : Keeps 6817880 s (State.bistMark s x1) := by
  unfold State.bistMark
  repeat' first
    | with_reducible exact Keeps.refl
    | ((with_reducible apply Keeps.comp (State.putImage_keeps ..)); · rfl)
    | ((with_reducible apply Keeps.comp (State.swRecover_keeps ..)); · rfl)
    | ((with_reducible apply Keeps.comp (State.rookMemWipe_keeps ..)); · rfl)
    | split

theorem execBistRun_keeps (x0 x1 x2 s) : OKeeps 1080571992 s (execBistRun x0 x1 x2 s) := by
  unfold execBistRun
  repeat' first
    | with_reducible exact Keeps.refl
    | (lift_lets; intro z; clear_value z)
    | with_reducible apply OKeeps.next
    | ((with_reducible show Keeps _ _ (State.dcpDo _ _ _ _)); with_reducible refine Keeps.comp (State.dcpDo_keeps (M := 1080571992) rfl (fun _ _ => ?_) ..) rfl ?_)
    | ((with_reducible apply Keeps.comp (State.bistMark_keeps ..)); · rfl)
    | ((with_reducible apply Keeps.comp (State.logEvent_keeps ..)); · rfl)
    | split

theorem State.marchRepair_keeps (s x1 x2) : Keeps 604184 s (State.marchRepair s x1 x2) := by
  unfold State.marchRepair
  repeat' first
    | with_reducible exact Keeps.refl
    | (lift_lets; intro z; clear_value z)
    | ((with_reducible apply Keeps.comp (State.bankFail_keeps ..)); · rfl)
    | ((with_reducible apply Keeps.comp (State.putMem_keeps ..)); · rfl)
    | split

theorem State.marchStat_keeps (s x1 x2 x3 x4) : Keeps 8 s (State.marchStat s x1 x2 x3 x4) := by
  unfold State.marchStat
  repeat' first
    | with_reducible exact Keeps.refl
    | (lift_lets; intro z)
    | ((with_reducible apply Keeps.comp (State.wr_keeps ..)); · rfl)
    | ((with_reducible apply Keeps.comp (State.setReg_keeps ..)); · rfl)
    | ((with_reducible apply Keeps.comp (State.wrB_keeps ..)); · rfl)

theorem State.marchRun_keeps (s x1 x2) : Keeps 604184 s (State.marchRun s x1 x2).2 := by
  unfold State.marchRun
  repeat' first
    | with_reducible assumption
    | with_reducible exact Keeps.refl
    | (lift_lets; intro z; clear_value z)
    | ((with_reducible apply Keeps.comp (State.bankClear_keeps ..)); · rfl)
    | ((with_reducible apply Keeps.comp (State.marchRepair_keeps ..)); · rfl)
    | ((with_reducible apply Keeps.comp (State.marchStat_keeps ..)); · rfl)
    | with_reducible refine Keeps.foldl (fun _ _ _ => ?_) ?_
    | split
    | with_reducible apply Keeps.snd_ite

theorem State.marchRun_out {s x1 x2 y0 y1} (h : State.marchRun s x1 x2 = (y0, y1)) : Keeps 604184 s y1 := by
  have := State.marchRun_keeps s x1 x2; rw [h] at this; exact this

theorem execMarchRun_keeps (x0 x1 s) : OKeeps 1074346008 s (execMarchRun x0 x1 s) := by
  unfold execMarchRun
  repeat' first
    | with_reducible exact Keeps.refl
    | with_reducible apply OKeeps.next
    | ((with_reducible show Keeps _ _ (State.dcpDo _ _ _ _)); with_reducible refine Keeps.comp (State.dcpDo_keeps (M := 1074346008) rfl (fun _ _ => ?_) ..) rfl ?_)
    | ((with_reducible apply Keeps.comp (State.marchRun_keeps ..)); · rfl)

theorem execTempRead_keeps (x0 x1 s) : OKeeps 1073741824 s (execTempRead x0 x1 s) := by
  unfold execTempRead
  repeat' first
    | with_reducible exact Keeps.refl
    | with_reducible apply OKeeps.next
    | ((with_reducible show Keeps _ _ (State.dcpDo _ _ _ _)); with_reducible refine Keeps.comp (State.dcpDo_keeps (M := 1073741824) rfl (fun _ _ => ?_) ..) rfl ?_)

theorem execCalGet_keeps (x0 s) : OKeeps 1073741824 s (execCalGet x0 s) := by
  unfold execCalGet
  repeat' first
    | with_reducible exact Keeps.refl
    | (lift_lets; intro z; clear_value z)
    | with_reducible apply OKeeps.next
    | ((with_reducible show Keeps _ _ (State.dcpDo _ _ _ _)); with_reducible refine Keeps.comp (State.dcpDo_keeps (M := 1073741824) rfl (fun _ _ => ?_) ..) rfl ?_)
    | split
    | dsimp only

theorem execCalSet_keeps (x0 s) : OKeeps 1073741832 s (execCalSet x0 s) := by
  unfold execCalSet
  repeat' first
    | with_reducible exact Keeps.refl
    | (lift_lets; intro z; clear_value z)
    | with_reducible apply OKeeps.next
    | ((with_reducible show Keeps _ _ (State.dcpDo _ _ _ _)); with_reducible refine Keeps.comp (State.dcpDo_keeps (M := 1073741832) rfl (fun _ _ => ?_) ..) rfl ?_)
    | with_reducible apply State.needs_keeps
    | ((with_reducible apply Keeps.comp (State.putDcp_keeps ..)); · rfl)
    | ((with_reducible apply Keeps.comp (State.calWrite_keeps ..)); · rfl)
    | split

theorem State.calForget_keeps (s) : Keeps 1073741832 s (State.calForget s) := by
  unfold State.calForget
  repeat' first
    | with_reducible assumption
    | with_reducible exact Keeps.refl
    | (lift_lets; intro z; clear_value z)
    | ((with_reducible apply Keeps.comp (State.calWrite_keeps ..)); · rfl)
    | ((with_reducible apply Keeps.comp (State.putDcp_keeps ..)); · rfl)
    | with_reducible refine Keeps.foldl (fun _ _ _ => ?_) ?_

theorem execCalClear_keeps (x0 s) : OKeeps 1073741832 s (execCalClear x0 s) := by
  unfold execCalClear
  repeat' first
    | with_reducible exact Keeps.refl
    | with_reducible apply OKeeps.next
    | ((with_reducible show Keeps _ _ (State.dcpDo _ _ _ _)); with_reducible refine Keeps.comp (State.dcpDo_keeps (M := 1073741832) rfl (fun _ _ => ?_) ..) rfl ?_)
    | with_reducible apply State.needs_keeps
    | ((with_reducible apply Keeps.comp (State.calForget_keeps ..)); · rfl)
    | split

theorem State.factoryWrite_keeps (s x1) : Keeps 552 s (State.factoryWrite s x1).2 := by
  unfold State.factoryWrite
  repeat' first
    | with_reducible exact Keeps.refl
    | (lift_lets; intro z; clear_value z)
    | ((with_reducible apply Keeps.comp (State.secShow_keeps ..)); · rfl)
    | ((with_reducible apply Keeps.comp (State.mramWrite_keeps ..)); · rfl)
    | ((with_reducible show Keeps _ _ (State.setBoot _ _)); (with_reducible refine Keeps.comp (State.setBoot_keeps (fun _ => ?_) _) ?_ ?_); (· rfl); (· rfl))
    | split
    | with_reducible apply Keeps.snd_ite

theorem State.factoryWrite_out {s x1 y0 y1} (h : State.factoryWrite s x1 = (y0, y1)) : Keeps 552 s y1 := by
  have := State.factoryWrite_keeps s x1; rw [h] at this; exact this

theorem execFactoryWrite_keeps (x0 s) : OKeeps 1073742376 s (execFactoryWrite x0 s) := by
  unfold execFactoryWrite
  repeat' first
    | with_reducible exact Keeps.refl
    | with_reducible apply OKeeps.next
    | ((with_reducible show Keeps _ _ (State.dcpDo _ _ _ _)); with_reducible refine Keeps.comp (State.dcpDo_keeps (M := 1073742376) rfl (fun _ _ => ?_) ..) rfl ?_)
    | ((with_reducible apply Keeps.comp (State.factoryWrite_keeps ..)); · rfl)

end Sys2Proof.Machine
end

