-- ==== Sys2Proof/Laws/KeepsRookAlu.lean ====
section
/-! SUPPORT. What each operation of Machine/RookAlu.lean leaves alone (the relation Keeps). -/

namespace Sys2Proof.Machine

theorem execAdd_keeps (x0 x1 x2 x3 s) : OKeeps 1616984216 s (execAdd x0 x1 x2 x3 s) := by
  unfold execAdd
  repeat' first
    | with_reducible exact Keeps.refl
    | with_reducible apply OKeeps.next
    | ((with_reducible apply Keeps.comp (State.rookAlu_keeps ..)); · rfl)

theorem execSub_keeps (x0 x1 x2 x3 s) : OKeeps 1616984216 s (execSub x0 x1 x2 x3 s) := by
  unfold execSub
  repeat' first
    | with_reducible exact Keeps.refl
    | with_reducible apply OKeeps.next
    | ((with_reducible apply Keeps.comp (State.rookAlu_keeps ..)); · rfl)

theorem execAnd_keeps (x0 x1 x2 x3 s) : OKeeps 1616984216 s (execAnd x0 x1 x2 x3 s) := by
  unfold execAnd
  repeat' first
    | with_reducible exact Keeps.refl
    | with_reducible apply OKeeps.next
    | ((with_reducible apply Keeps.comp (State.rookAlu_keeps ..)); · rfl)

theorem execOr_keeps (x0 x1 x2 x3 s) : OKeeps 1616984216 s (execOr x0 x1 x2 x3 s) := by
  unfold execOr
  repeat' first
    | with_reducible exact Keeps.refl
    | with_reducible apply OKeeps.next
    | ((with_reducible apply Keeps.comp (State.rookAlu_keeps ..)); · rfl)

theorem execXor_keeps (x0 x1 x2 x3 s) : OKeeps 1616984216 s (execXor x0 x1 x2 x3 s) := by
  unfold execXor
  repeat' first
    | with_reducible exact Keeps.refl
    | with_reducible apply OKeeps.next
    | ((with_reducible apply Keeps.comp (State.rookAlu_keeps ..)); · rfl)

theorem execAndn_keeps (x0 x1 x2 x3 s) : OKeeps 1616984216 s (execAndn x0 x1 x2 x3 s) := by
  unfold execAndn
  repeat' first
    | with_reducible exact Keeps.refl
    | with_reducible apply OKeeps.next
    | ((with_reducible apply Keeps.comp (State.rookAlu_keeps ..)); · rfl)

theorem execNeg_keeps (x0 x1 x2 s) : OKeeps 1616984216 s (execNeg x0 x1 x2 s) := by
  unfold execNeg
  repeat' first
    | with_reducible exact Keeps.refl
    | with_reducible apply OKeeps.next
    | ((with_reducible apply Keeps.comp (State.rookAlu_keeps ..)); · rfl)

theorem execAdds_keeps (x0 x1 x2 x3 s) : OKeeps 1616984216 s (execAdds x0 x1 x2 x3 s) := by
  unfold execAdds
  repeat' first
    | with_reducible exact Keeps.refl
    | with_reducible apply OKeeps.next
    | ((with_reducible apply Keeps.comp (State.rookAlu_keeps ..)); · rfl)

theorem execSubs_keeps (x0 x1 x2 x3 s) : OKeeps 1616984216 s (execSubs x0 x1 x2 x3 s) := by
  unfold execSubs
  repeat' first
    | with_reducible exact Keeps.refl
    | with_reducible apply OKeeps.next
    | ((with_reducible apply Keeps.comp (State.rookAlu_keeps ..)); · rfl)

theorem execNegs_keeps (x0 x1 x2 s) : OKeeps 1616984216 s (execNegs x0 x1 x2 s) := by
  unfold execNegs
  repeat' first
    | with_reducible exact Keeps.refl
    | with_reducible apply OKeeps.next
    | ((with_reducible apply Keeps.comp (State.rookAlu_keeps ..)); · rfl)

theorem execMin_keeps (x0 x1 x2 x3 s) : OKeeps 1616984216 s (execMin x0 x1 x2 x3 s) := by
  unfold execMin
  repeat' first
    | with_reducible exact Keeps.refl
    | with_reducible apply OKeeps.next
    | ((with_reducible apply Keeps.comp (State.rookAlu_keeps ..)); · rfl)

theorem execMax_keeps (x0 x1 x2 x3 s) : OKeeps 1616984216 s (execMax x0 x1 x2 x3 s) := by
  unfold execMax
  repeat' first
    | with_reducible exact Keeps.refl
    | with_reducible apply OKeeps.next
    | ((with_reducible apply Keeps.comp (State.rookAlu_keeps ..)); · rfl)

theorem execMinu_keeps (x0 x1 x2 x3 s) : OKeeps 1616984216 s (execMinu x0 x1 x2 x3 s) := by
  unfold execMinu
  repeat' first
    | with_reducible exact Keeps.refl
    | with_reducible apply OKeeps.next
    | ((with_reducible apply Keeps.comp (State.rookAlu_keeps ..)); · rfl)

theorem execMaxu_keeps (x0 x1 x2 x3 s) : OKeeps 1616984216 s (execMaxu x0 x1 x2 x3 s) := by
  unfold execMaxu
  repeat' first
    | with_reducible exact Keeps.refl
    | with_reducible apply OKeeps.next
    | ((with_reducible apply Keeps.comp (State.rookAlu_keeps ..)); · rfl)

theorem execSlt_keeps (x0 x1 x2 x3 s) : OKeeps 1616984216 s (execSlt x0 x1 x2 x3 s) := by
  unfold execSlt
  repeat' first
    | with_reducible exact Keeps.refl
    | with_reducible apply OKeeps.next
    | ((with_reducible apply Keeps.comp (State.rookAlu_keeps ..)); · rfl)

theorem execSltu_keeps (x0 x1 x2 x3 s) : OKeeps 1616984216 s (execSltu x0 x1 x2 x3 s) := by
  unfold execSltu
  repeat' first
    | with_reducible exact Keeps.refl
    | with_reducible apply OKeeps.next
    | ((with_reducible apply Keeps.comp (State.rookAlu_keeps ..)); · rfl)

theorem execSeq_keeps (x0 x1 x2 x3 s) : OKeeps 1616984216 s (execSeq x0 x1 x2 x3 s) := by
  unfold execSeq
  repeat' first
    | with_reducible exact Keeps.refl
    | with_reducible apply OKeeps.next
    | ((with_reducible apply Keeps.comp (State.rookAlu_keeps ..)); · rfl)

theorem execShl_keeps (x0 x1 x2 x3 s) : OKeeps 1616984216 s (execShl x0 x1 x2 x3 s) := by
  unfold execShl
  repeat' first
    | with_reducible exact Keeps.refl
    | with_reducible apply OKeeps.next
    | ((with_reducible apply Keeps.comp (State.rookAlu_keeps ..)); · rfl)

theorem execShr_keeps (x0 x1 x2 x3 s) : OKeeps 1616984216 s (execShr x0 x1 x2 x3 s) := by
  unfold execShr
  repeat' first
    | with_reducible exact Keeps.refl
    | with_reducible apply OKeeps.next
    | ((with_reducible apply Keeps.comp (State.rookAlu_keeps ..)); · rfl)

theorem execSar_keeps (x0 x1 x2 x3 s) : OKeeps 1616984216 s (execSar x0 x1 x2 x3 s) := by
  unfold execSar
  repeat' first
    | with_reducible exact Keeps.refl
    | with_reducible apply OKeeps.next
    | ((with_reducible apply Keeps.comp (State.rookAlu_keeps ..)); · rfl)

theorem execRol_keeps (x0 x1 x2 x3 s) : OKeeps 1616984216 s (execRol x0 x1 x2 x3 s) := by
  unfold execRol
  repeat' first
    | with_reducible exact Keeps.refl
    | with_reducible apply OKeeps.next
    | ((with_reducible apply Keeps.comp (State.rookAlu_keeps ..)); · rfl)

theorem execRor_keeps (x0 x1 x2 x3 s) : OKeeps 1616984216 s (execRor x0 x1 x2 x3 s) := by
  unfold execRor
  repeat' first
    | with_reducible exact Keeps.refl
    | with_reducible apply OKeeps.next
    | ((with_reducible apply Keeps.comp (State.rookAlu_keeps ..)); · rfl)

theorem execClz_keeps (x0 x1 x2 s) : OKeeps 1616984216 s (execClz x0 x1 x2 s) := by
  unfold execClz
  repeat' first
    | with_reducible exact Keeps.refl
    | with_reducible apply OKeeps.next
    | ((with_reducible apply Keeps.comp (State.rookAlu_keeps ..)); · rfl)

theorem execCtz_keeps (x0 x1 x2 s) : OKeeps 1616984216 s (execCtz x0 x1 x2 s) := by
  unfold execCtz
  repeat' first
    | with_reducible exact Keeps.refl
    | with_reducible apply OKeeps.next
    | ((with_reducible apply Keeps.comp (State.rookAlu_keeps ..)); · rfl)

theorem execPopc_keeps (x0 x1 x2 s) : OKeeps 1616984216 s (execPopc x0 x1 x2 s) := by
  unfold execPopc
  repeat' first
    | with_reducible exact Keeps.refl
    | with_reducible apply OKeeps.next
    | ((with_reducible apply Keeps.comp (State.rookAlu_keeps ..)); · rfl)

theorem execBswap_keeps (x0 x1 x2 s) : OKeeps 1616984216 s (execBswap x0 x1 x2 s) := by
  unfold execBswap
  repeat' first
    | with_reducible exact Keeps.refl
    | with_reducible apply OKeeps.next
    | ((with_reducible apply Keeps.comp (State.rookAlu_keeps ..)); · rfl)

theorem execAddi_keeps (x0 x1 x2 x3 s) : OKeeps 1616984216 s (execAddi x0 x1 x2 x3 s) := by
  unfold execAddi
  repeat' first
    | with_reducible exact Keeps.refl
    | with_reducible apply OKeeps.next
    | ((with_reducible apply Keeps.comp (State.rookAlu_keeps ..)); · rfl)

theorem execAndi_keeps (x0 x1 x2 x3 s) : OKeeps 1616984216 s (execAndi x0 x1 x2 x3 s) := by
  unfold execAndi
  repeat' first
    | with_reducible exact Keeps.refl
    | with_reducible apply OKeeps.next
    | ((with_reducible apply Keeps.comp (State.rookAlu_keeps ..)); · rfl)

theorem execOri_keeps (x0 x1 x2 x3 s) : OKeeps 1616984216 s (execOri x0 x1 x2 x3 s) := by
  unfold execOri
  repeat' first
    | with_reducible exact Keeps.refl
    | with_reducible apply OKeeps.next
    | ((with_reducible apply Keeps.comp (State.rookAlu_keeps ..)); · rfl)

theorem execXori_keeps (x0 x1 x2 x3 s) : OKeeps 1616984216 s (execXori x0 x1 x2 x3 s) := by
  unfold execXori
  repeat' first
    | with_reducible exact Keeps.refl
    | with_reducible apply OKeeps.next
    | ((with_reducible apply Keeps.comp (State.rookAlu_keeps ..)); · rfl)

theorem execSlti_keeps (x0 x1 x2 x3 s) : OKeeps 1616984216 s (execSlti x0 x1 x2 x3 s) := by
  unfold execSlti
  repeat' first
    | with_reducible exact Keeps.refl
    | with_reducible apply OKeeps.next
    | ((with_reducible apply Keeps.comp (State.rookAlu_keeps ..)); · rfl)

theorem execSltui_keeps (x0 x1 x2 x3 s) : OKeeps 1616984216 s (execSltui x0 x1 x2 x3 s) := by
  unfold execSltui
  repeat' first
    | with_reducible exact Keeps.refl
    | with_reducible apply OKeeps.next
    | ((with_reducible apply Keeps.comp (State.rookAlu_keeps ..)); · rfl)

theorem execShli_keeps (x0 x1 x2 x3 s) : OKeeps 1616984216 s (execShli x0 x1 x2 x3 s) := by
  unfold execShli
  repeat' first
    | with_reducible exact Keeps.refl
    | with_reducible apply OKeeps.next
    | ((with_reducible apply Keeps.comp (State.rookAlu_keeps ..)); · rfl)

theorem execShri_keeps (x0 x1 x2 x3 s) : OKeeps 1616984216 s (execShri x0 x1 x2 x3 s) := by
  unfold execShri
  repeat' first
    | with_reducible exact Keeps.refl
    | with_reducible apply OKeeps.next
    | ((with_reducible apply Keeps.comp (State.rookAlu_keeps ..)); · rfl)

theorem execSari_keeps (x0 x1 x2 x3 s) : OKeeps 1616984216 s (execSari x0 x1 x2 x3 s) := by
  unfold execSari
  repeat' first
    | with_reducible exact Keeps.refl
    | with_reducible apply OKeeps.next
    | ((with_reducible apply Keeps.comp (State.rookAlu_keeps ..)); · rfl)

theorem execRori_keeps (x0 x1 x2 x3 s) : OKeeps 1616984216 s (execRori x0 x1 x2 x3 s) := by
  unfold execRori
  repeat' first
    | with_reducible exact Keeps.refl
    | with_reducible apply OKeeps.next
    | ((with_reducible apply Keeps.comp (State.rookAlu_keeps ..)); · rfl)

theorem execExt_keeps (x0 x1 x2 x3 x4 s) : OKeeps 1616984216 s (execExt x0 x1 x2 x3 x4 s) := by
  unfold execExt
  repeat' first
    | with_reducible exact Keeps.refl
    | with_reducible apply OKeeps.next
    | ((with_reducible apply Keeps.comp (State.rookAlu_keeps ..)); · rfl)

theorem execExts_keeps (x0 x1 x2 x3 x4 s) : OKeeps 1616984216 s (execExts x0 x1 x2 x3 x4 s) := by
  unfold execExts
  repeat' first
    | with_reducible exact Keeps.refl
    | with_reducible apply OKeeps.next
    | ((with_reducible apply Keeps.comp (State.rookAlu_keeps ..)); · rfl)

theorem execIns_keeps (x0 x1 x2 x3 x4 s) : OKeeps 1616984216 s (execIns x0 x1 x2 x3 x4 s) := by
  unfold execIns
  repeat' first
    | with_reducible exact Keeps.refl
    | with_reducible apply OKeeps.next
    | ((with_reducible apply Keeps.comp (State.rookAlu_keeps ..)); · rfl)

theorem execMovz_keeps (x0 x1 x2 x3 s) : OKeeps 1616984216 s (execMovz x0 x1 x2 x3 s) := by
  unfold execMovz
  repeat' first
    | with_reducible exact Keeps.refl
    | with_reducible apply OKeeps.next
    | ((with_reducible apply Keeps.comp (State.rookAlu_keeps ..)); · rfl)

theorem execMovk_keeps (x0 x1 x2 x3 s) : OKeeps 1616984216 s (execMovk x0 x1 x2 x3 s) := by
  unfold execMovk
  repeat' first
    | with_reducible exact Keeps.refl
    | with_reducible apply OKeeps.next
    | ((with_reducible apply Keeps.comp (State.rookAlu_keeps ..)); · rfl)

theorem execMul_keeps (x0 x1 x2 x3 s) : OKeeps 1616984216 s (execMul x0 x1 x2 x3 s) := by
  unfold execMul
  repeat' first
    | with_reducible exact Keeps.refl
    | with_reducible apply OKeeps.next
    | ((with_reducible apply Keeps.comp (State.rookAlu_keeps ..)); · rfl)

theorem execMulh_keeps (x0 x1 x2 x3 s) : OKeeps 1616984216 s (execMulh x0 x1 x2 x3 s) := by
  unfold execMulh
  repeat' first
    | with_reducible exact Keeps.refl
    | with_reducible apply OKeeps.next
    | ((with_reducible apply Keeps.comp (State.rookAlu_keeps ..)); · rfl)

theorem execMulhu_keeps (x0 x1 x2 x3 s) : OKeeps 1616984216 s (execMulhu x0 x1 x2 x3 s) := by
  unfold execMulhu
  repeat' first
    | with_reducible exact Keeps.refl
    | with_reducible apply OKeeps.next
    | ((with_reducible apply Keeps.comp (State.rookAlu_keeps ..)); · rfl)

theorem State.rookDivide_keeps (s x1 x2 x3 x4 x5) : Keeps 1616984216 s (State.rookDivide s x1 x2 x3 x4 x5) := by
  unfold State.rookDivide
  repeat' first
    | with_reducible exact Keeps.refl
    | (lift_lets; intro z; clear_value z)
    | ((with_reducible show Keeps _ _ (State.rookIssue _ _ _)); with_reducible refine Keeps.comp (State.rookIssue_keeps (M := 1616984216) rfl (fun _ _ => ?_) ..) rfl ?_)
    | ((with_reducible apply Keeps.comp (State.rookTrap_keeps ..)); · rfl)
    | ((with_reducible apply Keeps.comp (State.setRook_keeps ..)); · rfl)
    | split
    | with_reducible apply Keeps.ite

theorem execDiv_keeps (x0 x1 x2 x3 s) : OKeeps 1616984216 s (execDiv x0 x1 x2 x3 s) := by
  unfold execDiv
  repeat' first
    | with_reducible exact Keeps.refl
    | with_reducible apply OKeeps.next
    | ((with_reducible apply Keeps.comp (State.rookDivide_keeps ..)); · rfl)

theorem execDivu_keeps (x0 x1 x2 x3 s) : OKeeps 1616984216 s (execDivu x0 x1 x2 x3 s) := by
  unfold execDivu
  repeat' first
    | with_reducible exact Keeps.refl
    | with_reducible apply OKeeps.next
    | ((with_reducible apply Keeps.comp (State.rookDivide_keeps ..)); · rfl)

end Sys2Proof.Machine
end

