-- ==== Sys2Proof/Laws/State.lean ====
section
/-! SUPPORT. Beside State: one lemma for each field under each update, true by unfolding, so that no proof unfolds a
record update. Updates of one part first, then the register updates, then what a register, a field of a register and a
bit read under the updates of the other parts. -/

namespace Sys2Proof.Machine

/-! ## putPending -/

@[simp] theorem State.putPending_pending (s : State) (v) : (s.putPending v).pending = v := rfl
@[simp] theorem State.putPending_variantS (s : State) (v) : (s.putPending v).variantS = s.variantS := rfl
@[simp] theorem State.putPending_free (s : State) (v) : (s.putPending v).free = s.free := rfl
@[simp] theorem State.putPending_regs (s : State) (v) : (s.putPending v).regs = s.regs := rfl
@[simp] theorem State.putPending_sram (s : State) (v) : (s.putPending v).sram = s.sram := rfl
@[simp] theorem State.putPending_mram (s : State) (v) : (s.putPending v).mram = s.mram := rfl
@[simp] theorem State.putPending_pmem (s : State) (v) : (s.putPending v).pmem = s.pmem := rfl
@[simp] theorem State.putPending_pendMode (s : State) (v) : (s.putPending v).pendMode = s.pendMode := rfl
@[simp] theorem State.putPending_modeAt (s : State) (v) : (s.putPending v).modeAt = s.modeAt := rfl
@[simp] theorem State.putPending_boot (s : State) (v) : (s.putPending v).boot = s.boot := rfl
@[simp] theorem State.putPending_crp (s : State) (v) : (s.putPending v).crp = s.crp := rfl
@[simp] theorem State.putPending_mem (s : State) (v) : (s.putPending v).mem = s.mem := rfl
@[simp] theorem State.putPending_evlog (s : State) (v) : (s.putPending v).evlog = s.evlog := rfl
@[simp] theorem State.putPending_evLost (s : State) (v) : (s.putPending v).evLost = s.evLost := rfl
@[simp] theorem State.putPending_xspi (s : State) (v) : (s.putPending v).xspi = s.xspi := rfl
@[simp] theorem State.putPending_parts (s : State) (v) : (s.putPending v).parts = s.parts := rfl
@[simp] theorem State.putPending_msix (s : State) (v) : (s.putPending v).msix = s.msix := rfl
@[simp] theorem State.putPending_dma (s : State) (v) : (s.putPending v).dma = s.dma := rfl
@[simp] theorem State.putPending_ntu (s : State) (v) : (s.putPending v).ntu = s.ntu := rfl
@[simp] theorem State.putPending_image (s : State) (v) : (s.putPending v).image = s.image := rfl
@[simp] theorem State.putPending_epc (s : State) (v) : (s.putPending v).epc = s.epc := rfl
@[simp] theorem State.putPending_swc (s : State) (v) : (s.putPending v).swc = s.swc := rfl
@[simp] theorem State.putPending_rooks (s : State) (v) : (s.putPending v).rooks = s.rooks := rfl
@[simp] theorem State.putPending_cmap (s : State) (v) : (s.putPending v).cmap = s.cmap := rfl
@[simp] theorem State.putPending_cbc (s : State) (v) : (s.putPending v).cbc = s.cbc := rfl
@[simp] theorem State.putPending_can (s : State) (v) : (s.putPending v).can = s.can := rfl
@[simp] theorem State.putPending_pawns (s : State) (v) : (s.putPending v).pawns = s.pawns := rfl
@[simp] theorem State.putPending_ace (s : State) (v) : (s.putPending v).ace = s.ace := rfl
@[simp] theorem State.putPending_sfi (s : State) (v) : (s.putPending v).sfi = s.sfi := rfl
@[simp] theorem State.putPending_mqf (s : State) (v) : (s.putPending v).mqf = s.mqf := rfl
@[simp] theorem State.putPending_dcp (s : State) (v) : (s.putPending v).dcp = s.dcp := rfl
@[simp] theorem State.putPending_readData (s : State) (v) : (s.putPending v).readData = s.readData := rfl
@[simp] theorem State.putPending_readBytes (s : State) (v) : (s.putPending v).readBytes = s.readBytes := rfl
@[simp] theorem State.putPending_readPoison (s : State) (v) : (s.putPending v).readPoison = s.readPoison := rfl
@[simp] theorem State.reg_putPending (s : State) (v) (a : Nat) : (s.putPending v).reg a = s.reg a := rfl
@[simp] theorem State.rd_putPending (s : State) (v) (f : Fld) : (s.putPending v).rd f = s.rd f := rfl
@[simp] theorem State.bit_putPending (s : State) (v) (f : Fld) : (s.putPending v).bit f = s.bit f := rfl

/-! ## putVariantS -/

@[simp] theorem State.putVariantS_pending (s : State) (v) : (s.putVariantS v).pending = s.pending := rfl
@[simp] theorem State.putVariantS_variantS (s : State) (v) : (s.putVariantS v).variantS = v := rfl
@[simp] theorem State.putVariantS_free (s : State) (v) : (s.putVariantS v).free = s.free := rfl
@[simp] theorem State.putVariantS_regs (s : State) (v) : (s.putVariantS v).regs = s.regs := rfl
@[simp] theorem State.putVariantS_sram (s : State) (v) : (s.putVariantS v).sram = s.sram := rfl
@[simp] theorem State.putVariantS_mram (s : State) (v) : (s.putVariantS v).mram = s.mram := rfl
@[simp] theorem State.putVariantS_pmem (s : State) (v) : (s.putVariantS v).pmem = s.pmem := rfl
@[simp] theorem State.putVariantS_pendMode (s : State) (v) : (s.putVariantS v).pendMode = s.pendMode := rfl
@[simp] theorem State.putVariantS_modeAt (s : State) (v) : (s.putVariantS v).modeAt = s.modeAt := rfl
@[simp] theorem State.putVariantS_boot (s : State) (v) : (s.putVariantS v).boot = s.boot := rfl
@[simp] theorem State.putVariantS_crp (s : State) (v) : (s.putVariantS v).crp = s.crp := rfl
@[simp] theorem State.putVariantS_mem (s : State) (v) : (s.putVariantS v).mem = s.mem := rfl
@[simp] theorem State.putVariantS_evlog (s : State) (v) : (s.putVariantS v).evlog = s.evlog := rfl
@[simp] theorem State.putVariantS_evLost (s : State) (v) : (s.putVariantS v).evLost = s.evLost := rfl
@[simp] theorem State.putVariantS_xspi (s : State) (v) : (s.putVariantS v).xspi = s.xspi := rfl
@[simp] theorem State.putVariantS_parts (s : State) (v) : (s.putVariantS v).parts = s.parts := rfl
@[simp] theorem State.putVariantS_msix (s : State) (v) : (s.putVariantS v).msix = s.msix := rfl
@[simp] theorem State.putVariantS_dma (s : State) (v) : (s.putVariantS v).dma = s.dma := rfl
@[simp] theorem State.putVariantS_ntu (s : State) (v) : (s.putVariantS v).ntu = s.ntu := rfl
@[simp] theorem State.putVariantS_image (s : State) (v) : (s.putVariantS v).image = s.image := rfl
@[simp] theorem State.putVariantS_epc (s : State) (v) : (s.putVariantS v).epc = s.epc := rfl
@[simp] theorem State.putVariantS_swc (s : State) (v) : (s.putVariantS v).swc = s.swc := rfl
@[simp] theorem State.putVariantS_rooks (s : State) (v) : (s.putVariantS v).rooks = s.rooks := rfl
@[simp] theorem State.putVariantS_cmap (s : State) (v) : (s.putVariantS v).cmap = s.cmap := rfl
@[simp] theorem State.putVariantS_cbc (s : State) (v) : (s.putVariantS v).cbc = s.cbc := rfl
@[simp] theorem State.putVariantS_can (s : State) (v) : (s.putVariantS v).can = s.can := rfl
@[simp] theorem State.putVariantS_pawns (s : State) (v) : (s.putVariantS v).pawns = s.pawns := rfl
@[simp] theorem State.putVariantS_ace (s : State) (v) : (s.putVariantS v).ace = s.ace := rfl
@[simp] theorem State.putVariantS_sfi (s : State) (v) : (s.putVariantS v).sfi = s.sfi := rfl
@[simp] theorem State.putVariantS_mqf (s : State) (v) : (s.putVariantS v).mqf = s.mqf := rfl
@[simp] theorem State.putVariantS_dcp (s : State) (v) : (s.putVariantS v).dcp = s.dcp := rfl
@[simp] theorem State.putVariantS_readData (s : State) (v) : (s.putVariantS v).readData = s.readData := rfl
@[simp] theorem State.putVariantS_readBytes (s : State) (v) : (s.putVariantS v).readBytes = s.readBytes := rfl
@[simp] theorem State.putVariantS_readPoison (s : State) (v) : (s.putVariantS v).readPoison = s.readPoison := rfl
@[simp] theorem State.reg_putVariantS (s : State) (v) (a : Nat) : (s.putVariantS v).reg a = s.reg a := rfl
@[simp] theorem State.rd_putVariantS (s : State) (v) (f : Fld) : (s.putVariantS v).rd f = s.rd f := rfl
@[simp] theorem State.bit_putVariantS (s : State) (v) (f : Fld) : (s.putVariantS v).bit f = s.bit f := rfl

/-! ## putFree -/

@[simp] theorem State.putFree_pending (s : State) (v) : (s.putFree v).pending = s.pending := rfl
@[simp] theorem State.putFree_variantS (s : State) (v) : (s.putFree v).variantS = s.variantS := rfl
@[simp] theorem State.putFree_free (s : State) (v) : (s.putFree v).free = v := rfl
@[simp] theorem State.putFree_regs (s : State) (v) : (s.putFree v).regs = s.regs := rfl
@[simp] theorem State.putFree_sram (s : State) (v) : (s.putFree v).sram = s.sram := rfl
@[simp] theorem State.putFree_mram (s : State) (v) : (s.putFree v).mram = s.mram := rfl
@[simp] theorem State.putFree_pmem (s : State) (v) : (s.putFree v).pmem = s.pmem := rfl
@[simp] theorem State.putFree_pendMode (s : State) (v) : (s.putFree v).pendMode = s.pendMode := rfl
@[simp] theorem State.putFree_modeAt (s : State) (v) : (s.putFree v).modeAt = s.modeAt := rfl
@[simp] theorem State.putFree_boot (s : State) (v) : (s.putFree v).boot = s.boot := rfl
@[simp] theorem State.putFree_crp (s : State) (v) : (s.putFree v).crp = s.crp := rfl
@[simp] theorem State.putFree_mem (s : State) (v) : (s.putFree v).mem = s.mem := rfl
@[simp] theorem State.putFree_evlog (s : State) (v) : (s.putFree v).evlog = s.evlog := rfl
@[simp] theorem State.putFree_evLost (s : State) (v) : (s.putFree v).evLost = s.evLost := rfl
@[simp] theorem State.putFree_xspi (s : State) (v) : (s.putFree v).xspi = s.xspi := rfl
@[simp] theorem State.putFree_parts (s : State) (v) : (s.putFree v).parts = s.parts := rfl
@[simp] theorem State.putFree_msix (s : State) (v) : (s.putFree v).msix = s.msix := rfl
@[simp] theorem State.putFree_dma (s : State) (v) : (s.putFree v).dma = s.dma := rfl
@[simp] theorem State.putFree_ntu (s : State) (v) : (s.putFree v).ntu = s.ntu := rfl
@[simp] theorem State.putFree_image (s : State) (v) : (s.putFree v).image = s.image := rfl
@[simp] theorem State.putFree_epc (s : State) (v) : (s.putFree v).epc = s.epc := rfl
@[simp] theorem State.putFree_swc (s : State) (v) : (s.putFree v).swc = s.swc := rfl
@[simp] theorem State.putFree_rooks (s : State) (v) : (s.putFree v).rooks = s.rooks := rfl
@[simp] theorem State.putFree_cmap (s : State) (v) : (s.putFree v).cmap = s.cmap := rfl
@[simp] theorem State.putFree_cbc (s : State) (v) : (s.putFree v).cbc = s.cbc := rfl
@[simp] theorem State.putFree_can (s : State) (v) : (s.putFree v).can = s.can := rfl
@[simp] theorem State.putFree_pawns (s : State) (v) : (s.putFree v).pawns = s.pawns := rfl
@[simp] theorem State.putFree_ace (s : State) (v) : (s.putFree v).ace = s.ace := rfl
@[simp] theorem State.putFree_sfi (s : State) (v) : (s.putFree v).sfi = s.sfi := rfl
@[simp] theorem State.putFree_mqf (s : State) (v) : (s.putFree v).mqf = s.mqf := rfl
@[simp] theorem State.putFree_dcp (s : State) (v) : (s.putFree v).dcp = s.dcp := rfl
@[simp] theorem State.putFree_readData (s : State) (v) : (s.putFree v).readData = s.readData := rfl
@[simp] theorem State.putFree_readBytes (s : State) (v) : (s.putFree v).readBytes = s.readBytes := rfl
@[simp] theorem State.putFree_readPoison (s : State) (v) : (s.putFree v).readPoison = s.readPoison := rfl
@[simp] theorem State.reg_putFree (s : State) (v) (a : Nat) : (s.putFree v).reg a = s.reg a := rfl
@[simp] theorem State.rd_putFree (s : State) (v) (f : Fld) : (s.putFree v).rd f = s.rd f := rfl
@[simp] theorem State.bit_putFree (s : State) (v) (f : Fld) : (s.putFree v).bit f = s.bit f := rfl

/-! ## putRegs -/

@[simp] theorem State.putRegs_pending (s : State) (v) : (s.putRegs v).pending = s.pending := rfl
@[simp] theorem State.putRegs_variantS (s : State) (v) : (s.putRegs v).variantS = s.variantS := rfl
@[simp] theorem State.putRegs_free (s : State) (v) : (s.putRegs v).free = s.free := rfl
@[simp] theorem State.putRegs_regs (s : State) (v) : (s.putRegs v).regs = v := rfl
@[simp] theorem State.putRegs_sram (s : State) (v) : (s.putRegs v).sram = s.sram := rfl
@[simp] theorem State.putRegs_mram (s : State) (v) : (s.putRegs v).mram = s.mram := rfl
@[simp] theorem State.putRegs_pmem (s : State) (v) : (s.putRegs v).pmem = s.pmem := rfl
@[simp] theorem State.putRegs_pendMode (s : State) (v) : (s.putRegs v).pendMode = s.pendMode := rfl
@[simp] theorem State.putRegs_modeAt (s : State) (v) : (s.putRegs v).modeAt = s.modeAt := rfl
@[simp] theorem State.putRegs_boot (s : State) (v) : (s.putRegs v).boot = s.boot := rfl
@[simp] theorem State.putRegs_crp (s : State) (v) : (s.putRegs v).crp = s.crp := rfl
@[simp] theorem State.putRegs_mem (s : State) (v) : (s.putRegs v).mem = s.mem := rfl
@[simp] theorem State.putRegs_evlog (s : State) (v) : (s.putRegs v).evlog = s.evlog := rfl
@[simp] theorem State.putRegs_evLost (s : State) (v) : (s.putRegs v).evLost = s.evLost := rfl
@[simp] theorem State.putRegs_xspi (s : State) (v) : (s.putRegs v).xspi = s.xspi := rfl
@[simp] theorem State.putRegs_parts (s : State) (v) : (s.putRegs v).parts = s.parts := rfl
@[simp] theorem State.putRegs_msix (s : State) (v) : (s.putRegs v).msix = s.msix := rfl
@[simp] theorem State.putRegs_dma (s : State) (v) : (s.putRegs v).dma = s.dma := rfl
@[simp] theorem State.putRegs_ntu (s : State) (v) : (s.putRegs v).ntu = s.ntu := rfl
@[simp] theorem State.putRegs_image (s : State) (v) : (s.putRegs v).image = s.image := rfl
@[simp] theorem State.putRegs_epc (s : State) (v) : (s.putRegs v).epc = s.epc := rfl
@[simp] theorem State.putRegs_swc (s : State) (v) : (s.putRegs v).swc = s.swc := rfl
@[simp] theorem State.putRegs_rooks (s : State) (v) : (s.putRegs v).rooks = s.rooks := rfl
@[simp] theorem State.putRegs_cmap (s : State) (v) : (s.putRegs v).cmap = s.cmap := rfl
@[simp] theorem State.putRegs_cbc (s : State) (v) : (s.putRegs v).cbc = s.cbc := rfl
@[simp] theorem State.putRegs_can (s : State) (v) : (s.putRegs v).can = s.can := rfl
@[simp] theorem State.putRegs_pawns (s : State) (v) : (s.putRegs v).pawns = s.pawns := rfl
@[simp] theorem State.putRegs_ace (s : State) (v) : (s.putRegs v).ace = s.ace := rfl
@[simp] theorem State.putRegs_sfi (s : State) (v) : (s.putRegs v).sfi = s.sfi := rfl
@[simp] theorem State.putRegs_mqf (s : State) (v) : (s.putRegs v).mqf = s.mqf := rfl
@[simp] theorem State.putRegs_dcp (s : State) (v) : (s.putRegs v).dcp = s.dcp := rfl
@[simp] theorem State.putRegs_readData (s : State) (v) : (s.putRegs v).readData = s.readData := rfl
@[simp] theorem State.putRegs_readBytes (s : State) (v) : (s.putRegs v).readBytes = s.readBytes := rfl
@[simp] theorem State.putRegs_readPoison (s : State) (v) : (s.putRegs v).readPoison = s.readPoison := rfl

/-! ## putSram -/

@[simp] theorem State.putSram_pending (s : State) (v) : (s.putSram v).pending = s.pending := rfl
@[simp] theorem State.putSram_variantS (s : State) (v) : (s.putSram v).variantS = s.variantS := rfl
@[simp] theorem State.putSram_free (s : State) (v) : (s.putSram v).free = s.free := rfl
@[simp] theorem State.putSram_regs (s : State) (v) : (s.putSram v).regs = s.regs := rfl
@[simp] theorem State.putSram_sram (s : State) (v) : (s.putSram v).sram = v := rfl
@[simp] theorem State.putSram_mram (s : State) (v) : (s.putSram v).mram = s.mram := rfl
@[simp] theorem State.putSram_pmem (s : State) (v) : (s.putSram v).pmem = s.pmem := rfl
@[simp] theorem State.putSram_pendMode (s : State) (v) : (s.putSram v).pendMode = s.pendMode := rfl
@[simp] theorem State.putSram_modeAt (s : State) (v) : (s.putSram v).modeAt = s.modeAt := rfl
@[simp] theorem State.putSram_boot (s : State) (v) : (s.putSram v).boot = s.boot := rfl
@[simp] theorem State.putSram_crp (s : State) (v) : (s.putSram v).crp = s.crp := rfl
@[simp] theorem State.putSram_mem (s : State) (v) : (s.putSram v).mem = s.mem := rfl
@[simp] theorem State.putSram_evlog (s : State) (v) : (s.putSram v).evlog = s.evlog := rfl
@[simp] theorem State.putSram_evLost (s : State) (v) : (s.putSram v).evLost = s.evLost := rfl
@[simp] theorem State.putSram_xspi (s : State) (v) : (s.putSram v).xspi = s.xspi := rfl
@[simp] theorem State.putSram_parts (s : State) (v) : (s.putSram v).parts = s.parts := rfl
@[simp] theorem State.putSram_msix (s : State) (v) : (s.putSram v).msix = s.msix := rfl
@[simp] theorem State.putSram_dma (s : State) (v) : (s.putSram v).dma = s.dma := rfl
@[simp] theorem State.putSram_ntu (s : State) (v) : (s.putSram v).ntu = s.ntu := rfl
@[simp] theorem State.putSram_image (s : State) (v) : (s.putSram v).image = s.image := rfl
@[simp] theorem State.putSram_epc (s : State) (v) : (s.putSram v).epc = s.epc := rfl
@[simp] theorem State.putSram_swc (s : State) (v) : (s.putSram v).swc = s.swc := rfl
@[simp] theorem State.putSram_rooks (s : State) (v) : (s.putSram v).rooks = s.rooks := rfl
@[simp] theorem State.putSram_cmap (s : State) (v) : (s.putSram v).cmap = s.cmap := rfl
@[simp] theorem State.putSram_cbc (s : State) (v) : (s.putSram v).cbc = s.cbc := rfl
@[simp] theorem State.putSram_can (s : State) (v) : (s.putSram v).can = s.can := rfl
@[simp] theorem State.putSram_pawns (s : State) (v) : (s.putSram v).pawns = s.pawns := rfl
@[simp] theorem State.putSram_ace (s : State) (v) : (s.putSram v).ace = s.ace := rfl
@[simp] theorem State.putSram_sfi (s : State) (v) : (s.putSram v).sfi = s.sfi := rfl
@[simp] theorem State.putSram_mqf (s : State) (v) : (s.putSram v).mqf = s.mqf := rfl
@[simp] theorem State.putSram_dcp (s : State) (v) : (s.putSram v).dcp = s.dcp := rfl
@[simp] theorem State.putSram_readData (s : State) (v) : (s.putSram v).readData = s.readData := rfl
@[simp] theorem State.putSram_readBytes (s : State) (v) : (s.putSram v).readBytes = s.readBytes := rfl
@[simp] theorem State.putSram_readPoison (s : State) (v) : (s.putSram v).readPoison = s.readPoison := rfl
@[simp] theorem State.reg_putSram (s : State) (v) (a : Nat) : (s.putSram v).reg a = s.reg a := rfl
@[simp] theorem State.rd_putSram (s : State) (v) (f : Fld) : (s.putSram v).rd f = s.rd f := rfl
@[simp] theorem State.bit_putSram (s : State) (v) (f : Fld) : (s.putSram v).bit f = s.bit f := rfl

/-! ## putMram -/

@[simp] theorem State.putMram_pending (s : State) (v) : (s.putMram v).pending = s.pending := rfl
@[simp] theorem State.putMram_variantS (s : State) (v) : (s.putMram v).variantS = s.variantS := rfl
@[simp] theorem State.putMram_free (s : State) (v) : (s.putMram v).free = s.free := rfl
@[simp] theorem State.putMram_regs (s : State) (v) : (s.putMram v).regs = s.regs := rfl
@[simp] theorem State.putMram_sram (s : State) (v) : (s.putMram v).sram = s.sram := rfl
@[simp] theorem State.putMram_mram (s : State) (v) : (s.putMram v).mram = v := rfl
@[simp] theorem State.putMram_pmem (s : State) (v) : (s.putMram v).pmem = s.pmem := rfl
@[simp] theorem State.putMram_pendMode (s : State) (v) : (s.putMram v).pendMode = s.pendMode := rfl
@[simp] theorem State.putMram_modeAt (s : State) (v) : (s.putMram v).modeAt = s.modeAt := rfl
@[simp] theorem State.putMram_boot (s : State) (v) : (s.putMram v).boot = s.boot := rfl
@[simp] theorem State.putMram_crp (s : State) (v) : (s.putMram v).crp = s.crp := rfl
@[simp] theorem State.putMram_mem (s : State) (v) : (s.putMram v).mem = s.mem := rfl
@[simp] theorem State.putMram_evlog (s : State) (v) : (s.putMram v).evlog = s.evlog := rfl
@[simp] theorem State.putMram_evLost (s : State) (v) : (s.putMram v).evLost = s.evLost := rfl
@[simp] theorem State.putMram_xspi (s : State) (v) : (s.putMram v).xspi = s.xspi := rfl
@[simp] theorem State.putMram_parts (s : State) (v) : (s.putMram v).parts = s.parts := rfl
@[simp] theorem State.putMram_msix (s : State) (v) : (s.putMram v).msix = s.msix := rfl
@[simp] theorem State.putMram_dma (s : State) (v) : (s.putMram v).dma = s.dma := rfl
@[simp] theorem State.putMram_ntu (s : State) (v) : (s.putMram v).ntu = s.ntu := rfl
@[simp] theorem State.putMram_image (s : State) (v) : (s.putMram v).image = s.image := rfl
@[simp] theorem State.putMram_epc (s : State) (v) : (s.putMram v).epc = s.epc := rfl
@[simp] theorem State.putMram_swc (s : State) (v) : (s.putMram v).swc = s.swc := rfl
@[simp] theorem State.putMram_rooks (s : State) (v) : (s.putMram v).rooks = s.rooks := rfl
@[simp] theorem State.putMram_cmap (s : State) (v) : (s.putMram v).cmap = s.cmap := rfl
@[simp] theorem State.putMram_cbc (s : State) (v) : (s.putMram v).cbc = s.cbc := rfl
@[simp] theorem State.putMram_can (s : State) (v) : (s.putMram v).can = s.can := rfl
@[simp] theorem State.putMram_pawns (s : State) (v) : (s.putMram v).pawns = s.pawns := rfl
@[simp] theorem State.putMram_ace (s : State) (v) : (s.putMram v).ace = s.ace := rfl
@[simp] theorem State.putMram_sfi (s : State) (v) : (s.putMram v).sfi = s.sfi := rfl
@[simp] theorem State.putMram_mqf (s : State) (v) : (s.putMram v).mqf = s.mqf := rfl
@[simp] theorem State.putMram_dcp (s : State) (v) : (s.putMram v).dcp = s.dcp := rfl
@[simp] theorem State.putMram_readData (s : State) (v) : (s.putMram v).readData = s.readData := rfl
@[simp] theorem State.putMram_readBytes (s : State) (v) : (s.putMram v).readBytes = s.readBytes := rfl
@[simp] theorem State.putMram_readPoison (s : State) (v) : (s.putMram v).readPoison = s.readPoison := rfl
@[simp] theorem State.reg_putMram (s : State) (v) (a : Nat) : (s.putMram v).reg a = s.reg a := rfl
@[simp] theorem State.rd_putMram (s : State) (v) (f : Fld) : (s.putMram v).rd f = s.rd f := rfl
@[simp] theorem State.bit_putMram (s : State) (v) (f : Fld) : (s.putMram v).bit f = s.bit f := rfl

/-! ## putPmem -/

@[simp] theorem State.putPmem_pending (s : State) (v) : (s.putPmem v).pending = s.pending := rfl
@[simp] theorem State.putPmem_variantS (s : State) (v) : (s.putPmem v).variantS = s.variantS := rfl
@[simp] theorem State.putPmem_free (s : State) (v) : (s.putPmem v).free = s.free := rfl
@[simp] theorem State.putPmem_regs (s : State) (v) : (s.putPmem v).regs = s.regs := rfl
@[simp] theorem State.putPmem_sram (s : State) (v) : (s.putPmem v).sram = s.sram := rfl
@[simp] theorem State.putPmem_mram (s : State) (v) : (s.putPmem v).mram = s.mram := rfl
@[simp] theorem State.putPmem_pmem (s : State) (v) : (s.putPmem v).pmem = v := rfl
@[simp] theorem State.putPmem_pendMode (s : State) (v) : (s.putPmem v).pendMode = s.pendMode := rfl
@[simp] theorem State.putPmem_modeAt (s : State) (v) : (s.putPmem v).modeAt = s.modeAt := rfl
@[simp] theorem State.putPmem_boot (s : State) (v) : (s.putPmem v).boot = s.boot := rfl
@[simp] theorem State.putPmem_crp (s : State) (v) : (s.putPmem v).crp = s.crp := rfl
@[simp] theorem State.putPmem_mem (s : State) (v) : (s.putPmem v).mem = s.mem := rfl
@[simp] theorem State.putPmem_evlog (s : State) (v) : (s.putPmem v).evlog = s.evlog := rfl
@[simp] theorem State.putPmem_evLost (s : State) (v) : (s.putPmem v).evLost = s.evLost := rfl
@[simp] theorem State.putPmem_xspi (s : State) (v) : (s.putPmem v).xspi = s.xspi := rfl
@[simp] theorem State.putPmem_parts (s : State) (v) : (s.putPmem v).parts = s.parts := rfl
@[simp] theorem State.putPmem_msix (s : State) (v) : (s.putPmem v).msix = s.msix := rfl
@[simp] theorem State.putPmem_dma (s : State) (v) : (s.putPmem v).dma = s.dma := rfl
@[simp] theorem State.putPmem_ntu (s : State) (v) : (s.putPmem v).ntu = s.ntu := rfl
@[simp] theorem State.putPmem_image (s : State) (v) : (s.putPmem v).image = s.image := rfl
@[simp] theorem State.putPmem_epc (s : State) (v) : (s.putPmem v).epc = s.epc := rfl
@[simp] theorem State.putPmem_swc (s : State) (v) : (s.putPmem v).swc = s.swc := rfl
@[simp] theorem State.putPmem_rooks (s : State) (v) : (s.putPmem v).rooks = s.rooks := rfl
@[simp] theorem State.putPmem_cmap (s : State) (v) : (s.putPmem v).cmap = s.cmap := rfl
@[simp] theorem State.putPmem_cbc (s : State) (v) : (s.putPmem v).cbc = s.cbc := rfl
@[simp] theorem State.putPmem_can (s : State) (v) : (s.putPmem v).can = s.can := rfl
@[simp] theorem State.putPmem_pawns (s : State) (v) : (s.putPmem v).pawns = s.pawns := rfl
@[simp] theorem State.putPmem_ace (s : State) (v) : (s.putPmem v).ace = s.ace := rfl
@[simp] theorem State.putPmem_sfi (s : State) (v) : (s.putPmem v).sfi = s.sfi := rfl
@[simp] theorem State.putPmem_mqf (s : State) (v) : (s.putPmem v).mqf = s.mqf := rfl
@[simp] theorem State.putPmem_dcp (s : State) (v) : (s.putPmem v).dcp = s.dcp := rfl
@[simp] theorem State.putPmem_readData (s : State) (v) : (s.putPmem v).readData = s.readData := rfl
@[simp] theorem State.putPmem_readBytes (s : State) (v) : (s.putPmem v).readBytes = s.readBytes := rfl
@[simp] theorem State.putPmem_readPoison (s : State) (v) : (s.putPmem v).readPoison = s.readPoison := rfl
@[simp] theorem State.reg_putPmem (s : State) (v) (a : Nat) : (s.putPmem v).reg a = s.reg a := rfl
@[simp] theorem State.rd_putPmem (s : State) (v) (f : Fld) : (s.putPmem v).rd f = s.rd f := rfl
@[simp] theorem State.bit_putPmem (s : State) (v) (f : Fld) : (s.putPmem v).bit f = s.bit f := rfl

/-! ## putPendMode -/

@[simp] theorem State.putPendMode_pending (s : State) (v) : (s.putPendMode v).pending = s.pending := rfl
@[simp] theorem State.putPendMode_variantS (s : State) (v) : (s.putPendMode v).variantS = s.variantS := rfl
@[simp] theorem State.putPendMode_free (s : State) (v) : (s.putPendMode v).free = s.free := rfl
@[simp] theorem State.putPendMode_regs (s : State) (v) : (s.putPendMode v).regs = s.regs := rfl
@[simp] theorem State.putPendMode_sram (s : State) (v) : (s.putPendMode v).sram = s.sram := rfl
@[simp] theorem State.putPendMode_mram (s : State) (v) : (s.putPendMode v).mram = s.mram := rfl
@[simp] theorem State.putPendMode_pmem (s : State) (v) : (s.putPendMode v).pmem = s.pmem := rfl
@[simp] theorem State.putPendMode_pendMode (s : State) (v) : (s.putPendMode v).pendMode = v := rfl
@[simp] theorem State.putPendMode_modeAt (s : State) (v) : (s.putPendMode v).modeAt = s.modeAt := rfl
@[simp] theorem State.putPendMode_boot (s : State) (v) : (s.putPendMode v).boot = s.boot := rfl
@[simp] theorem State.putPendMode_crp (s : State) (v) : (s.putPendMode v).crp = s.crp := rfl
@[simp] theorem State.putPendMode_mem (s : State) (v) : (s.putPendMode v).mem = s.mem := rfl
@[simp] theorem State.putPendMode_evlog (s : State) (v) : (s.putPendMode v).evlog = s.evlog := rfl
@[simp] theorem State.putPendMode_evLost (s : State) (v) : (s.putPendMode v).evLost = s.evLost := rfl
@[simp] theorem State.putPendMode_xspi (s : State) (v) : (s.putPendMode v).xspi = s.xspi := rfl
@[simp] theorem State.putPendMode_parts (s : State) (v) : (s.putPendMode v).parts = s.parts := rfl
@[simp] theorem State.putPendMode_msix (s : State) (v) : (s.putPendMode v).msix = s.msix := rfl
@[simp] theorem State.putPendMode_dma (s : State) (v) : (s.putPendMode v).dma = s.dma := rfl
@[simp] theorem State.putPendMode_ntu (s : State) (v) : (s.putPendMode v).ntu = s.ntu := rfl
@[simp] theorem State.putPendMode_image (s : State) (v) : (s.putPendMode v).image = s.image := rfl
@[simp] theorem State.putPendMode_epc (s : State) (v) : (s.putPendMode v).epc = s.epc := rfl
@[simp] theorem State.putPendMode_swc (s : State) (v) : (s.putPendMode v).swc = s.swc := rfl
@[simp] theorem State.putPendMode_rooks (s : State) (v) : (s.putPendMode v).rooks = s.rooks := rfl
@[simp] theorem State.putPendMode_cmap (s : State) (v) : (s.putPendMode v).cmap = s.cmap := rfl
@[simp] theorem State.putPendMode_cbc (s : State) (v) : (s.putPendMode v).cbc = s.cbc := rfl
@[simp] theorem State.putPendMode_can (s : State) (v) : (s.putPendMode v).can = s.can := rfl
@[simp] theorem State.putPendMode_pawns (s : State) (v) : (s.putPendMode v).pawns = s.pawns := rfl
@[simp] theorem State.putPendMode_ace (s : State) (v) : (s.putPendMode v).ace = s.ace := rfl
@[simp] theorem State.putPendMode_sfi (s : State) (v) : (s.putPendMode v).sfi = s.sfi := rfl
@[simp] theorem State.putPendMode_mqf (s : State) (v) : (s.putPendMode v).mqf = s.mqf := rfl
@[simp] theorem State.putPendMode_dcp (s : State) (v) : (s.putPendMode v).dcp = s.dcp := rfl
@[simp] theorem State.putPendMode_readData (s : State) (v) : (s.putPendMode v).readData = s.readData := rfl
@[simp] theorem State.putPendMode_readBytes (s : State) (v) : (s.putPendMode v).readBytes = s.readBytes := rfl
@[simp] theorem State.putPendMode_readPoison (s : State) (v) : (s.putPendMode v).readPoison = s.readPoison := rfl
@[simp] theorem State.reg_putPendMode (s : State) (v) (a : Nat) : (s.putPendMode v).reg a = s.reg a := rfl
@[simp] theorem State.rd_putPendMode (s : State) (v) (f : Fld) : (s.putPendMode v).rd f = s.rd f := rfl
@[simp] theorem State.bit_putPendMode (s : State) (v) (f : Fld) : (s.putPendMode v).bit f = s.bit f := rfl

/-! ## putModeAt -/

@[simp] theorem State.putModeAt_pending (s : State) (v) : (s.putModeAt v).pending = s.pending := rfl
@[simp] theorem State.putModeAt_variantS (s : State) (v) : (s.putModeAt v).variantS = s.variantS := rfl
@[simp] theorem State.putModeAt_free (s : State) (v) : (s.putModeAt v).free = s.free := rfl
@[simp] theorem State.putModeAt_regs (s : State) (v) : (s.putModeAt v).regs = s.regs := rfl
@[simp] theorem State.putModeAt_sram (s : State) (v) : (s.putModeAt v).sram = s.sram := rfl
@[simp] theorem State.putModeAt_mram (s : State) (v) : (s.putModeAt v).mram = s.mram := rfl
@[simp] theorem State.putModeAt_pmem (s : State) (v) : (s.putModeAt v).pmem = s.pmem := rfl
@[simp] theorem State.putModeAt_pendMode (s : State) (v) : (s.putModeAt v).pendMode = s.pendMode := rfl
@[simp] theorem State.putModeAt_modeAt (s : State) (v) : (s.putModeAt v).modeAt = v := rfl
@[simp] theorem State.putModeAt_boot (s : State) (v) : (s.putModeAt v).boot = s.boot := rfl
@[simp] theorem State.putModeAt_crp (s : State) (v) : (s.putModeAt v).crp = s.crp := rfl
@[simp] theorem State.putModeAt_mem (s : State) (v) : (s.putModeAt v).mem = s.mem := rfl
@[simp] theorem State.putModeAt_evlog (s : State) (v) : (s.putModeAt v).evlog = s.evlog := rfl
@[simp] theorem State.putModeAt_evLost (s : State) (v) : (s.putModeAt v).evLost = s.evLost := rfl
@[simp] theorem State.putModeAt_xspi (s : State) (v) : (s.putModeAt v).xspi = s.xspi := rfl
@[simp] theorem State.putModeAt_parts (s : State) (v) : (s.putModeAt v).parts = s.parts := rfl
@[simp] theorem State.putModeAt_msix (s : State) (v) : (s.putModeAt v).msix = s.msix := rfl
@[simp] theorem State.putModeAt_dma (s : State) (v) : (s.putModeAt v).dma = s.dma := rfl
@[simp] theorem State.putModeAt_ntu (s : State) (v) : (s.putModeAt v).ntu = s.ntu := rfl
@[simp] theorem State.putModeAt_image (s : State) (v) : (s.putModeAt v).image = s.image := rfl
@[simp] theorem State.putModeAt_epc (s : State) (v) : (s.putModeAt v).epc = s.epc := rfl
@[simp] theorem State.putModeAt_swc (s : State) (v) : (s.putModeAt v).swc = s.swc := rfl
@[simp] theorem State.putModeAt_rooks (s : State) (v) : (s.putModeAt v).rooks = s.rooks := rfl
@[simp] theorem State.putModeAt_cmap (s : State) (v) : (s.putModeAt v).cmap = s.cmap := rfl
@[simp] theorem State.putModeAt_cbc (s : State) (v) : (s.putModeAt v).cbc = s.cbc := rfl
@[simp] theorem State.putModeAt_can (s : State) (v) : (s.putModeAt v).can = s.can := rfl
@[simp] theorem State.putModeAt_pawns (s : State) (v) : (s.putModeAt v).pawns = s.pawns := rfl
@[simp] theorem State.putModeAt_ace (s : State) (v) : (s.putModeAt v).ace = s.ace := rfl
@[simp] theorem State.putModeAt_sfi (s : State) (v) : (s.putModeAt v).sfi = s.sfi := rfl
@[simp] theorem State.putModeAt_mqf (s : State) (v) : (s.putModeAt v).mqf = s.mqf := rfl
@[simp] theorem State.putModeAt_dcp (s : State) (v) : (s.putModeAt v).dcp = s.dcp := rfl
@[simp] theorem State.putModeAt_readData (s : State) (v) : (s.putModeAt v).readData = s.readData := rfl
@[simp] theorem State.putModeAt_readBytes (s : State) (v) : (s.putModeAt v).readBytes = s.readBytes := rfl
@[simp] theorem State.putModeAt_readPoison (s : State) (v) : (s.putModeAt v).readPoison = s.readPoison := rfl
@[simp] theorem State.reg_putModeAt (s : State) (v) (a : Nat) : (s.putModeAt v).reg a = s.reg a := rfl
@[simp] theorem State.rd_putModeAt (s : State) (v) (f : Fld) : (s.putModeAt v).rd f = s.rd f := rfl
@[simp] theorem State.bit_putModeAt (s : State) (v) (f : Fld) : (s.putModeAt v).bit f = s.bit f := rfl

/-! ## putBoot -/

@[simp] theorem State.putBoot_pending (s : State) (v) : (s.putBoot v).pending = s.pending := rfl
@[simp] theorem State.putBoot_variantS (s : State) (v) : (s.putBoot v).variantS = s.variantS := rfl
@[simp] theorem State.putBoot_free (s : State) (v) : (s.putBoot v).free = s.free := rfl
@[simp] theorem State.putBoot_regs (s : State) (v) : (s.putBoot v).regs = s.regs := rfl
@[simp] theorem State.putBoot_sram (s : State) (v) : (s.putBoot v).sram = s.sram := rfl
@[simp] theorem State.putBoot_mram (s : State) (v) : (s.putBoot v).mram = s.mram := rfl
@[simp] theorem State.putBoot_pmem (s : State) (v) : (s.putBoot v).pmem = s.pmem := rfl
@[simp] theorem State.putBoot_pendMode (s : State) (v) : (s.putBoot v).pendMode = s.pendMode := rfl
@[simp] theorem State.putBoot_modeAt (s : State) (v) : (s.putBoot v).modeAt = s.modeAt := rfl
@[simp] theorem State.putBoot_boot (s : State) (v) : (s.putBoot v).boot = v := rfl
@[simp] theorem State.putBoot_crp (s : State) (v) : (s.putBoot v).crp = s.crp := rfl
@[simp] theorem State.putBoot_mem (s : State) (v) : (s.putBoot v).mem = s.mem := rfl
@[simp] theorem State.putBoot_evlog (s : State) (v) : (s.putBoot v).evlog = s.evlog := rfl
@[simp] theorem State.putBoot_evLost (s : State) (v) : (s.putBoot v).evLost = s.evLost := rfl
@[simp] theorem State.putBoot_xspi (s : State) (v) : (s.putBoot v).xspi = s.xspi := rfl
@[simp] theorem State.putBoot_parts (s : State) (v) : (s.putBoot v).parts = s.parts := rfl
@[simp] theorem State.putBoot_msix (s : State) (v) : (s.putBoot v).msix = s.msix := rfl
@[simp] theorem State.putBoot_dma (s : State) (v) : (s.putBoot v).dma = s.dma := rfl
@[simp] theorem State.putBoot_ntu (s : State) (v) : (s.putBoot v).ntu = s.ntu := rfl
@[simp] theorem State.putBoot_image (s : State) (v) : (s.putBoot v).image = s.image := rfl
@[simp] theorem State.putBoot_epc (s : State) (v) : (s.putBoot v).epc = s.epc := rfl
@[simp] theorem State.putBoot_swc (s : State) (v) : (s.putBoot v).swc = s.swc := rfl
@[simp] theorem State.putBoot_rooks (s : State) (v) : (s.putBoot v).rooks = s.rooks := rfl
@[simp] theorem State.putBoot_cmap (s : State) (v) : (s.putBoot v).cmap = s.cmap := rfl
@[simp] theorem State.putBoot_cbc (s : State) (v) : (s.putBoot v).cbc = s.cbc := rfl
@[simp] theorem State.putBoot_can (s : State) (v) : (s.putBoot v).can = s.can := rfl
@[simp] theorem State.putBoot_pawns (s : State) (v) : (s.putBoot v).pawns = s.pawns := rfl
@[simp] theorem State.putBoot_ace (s : State) (v) : (s.putBoot v).ace = s.ace := rfl
@[simp] theorem State.putBoot_sfi (s : State) (v) : (s.putBoot v).sfi = s.sfi := rfl
@[simp] theorem State.putBoot_mqf (s : State) (v) : (s.putBoot v).mqf = s.mqf := rfl
@[simp] theorem State.putBoot_dcp (s : State) (v) : (s.putBoot v).dcp = s.dcp := rfl
@[simp] theorem State.putBoot_readData (s : State) (v) : (s.putBoot v).readData = s.readData := rfl
@[simp] theorem State.putBoot_readBytes (s : State) (v) : (s.putBoot v).readBytes = s.readBytes := rfl
@[simp] theorem State.putBoot_readPoison (s : State) (v) : (s.putBoot v).readPoison = s.readPoison := rfl
@[simp] theorem State.reg_putBoot (s : State) (v) (a : Nat) : (s.putBoot v).reg a = s.reg a := rfl
@[simp] theorem State.rd_putBoot (s : State) (v) (f : Fld) : (s.putBoot v).rd f = s.rd f := rfl
@[simp] theorem State.bit_putBoot (s : State) (v) (f : Fld) : (s.putBoot v).bit f = s.bit f := rfl

/-! ## putCrp -/

@[simp] theorem State.putCrp_pending (s : State) (v) : (s.putCrp v).pending = s.pending := rfl
@[simp] theorem State.putCrp_variantS (s : State) (v) : (s.putCrp v).variantS = s.variantS := rfl
@[simp] theorem State.putCrp_free (s : State) (v) : (s.putCrp v).free = s.free := rfl
@[simp] theorem State.putCrp_regs (s : State) (v) : (s.putCrp v).regs = s.regs := rfl
@[simp] theorem State.putCrp_sram (s : State) (v) : (s.putCrp v).sram = s.sram := rfl
@[simp] theorem State.putCrp_mram (s : State) (v) : (s.putCrp v).mram = s.mram := rfl
@[simp] theorem State.putCrp_pmem (s : State) (v) : (s.putCrp v).pmem = s.pmem := rfl
@[simp] theorem State.putCrp_pendMode (s : State) (v) : (s.putCrp v).pendMode = s.pendMode := rfl
@[simp] theorem State.putCrp_modeAt (s : State) (v) : (s.putCrp v).modeAt = s.modeAt := rfl
@[simp] theorem State.putCrp_boot (s : State) (v) : (s.putCrp v).boot = s.boot := rfl
@[simp] theorem State.putCrp_crp (s : State) (v) : (s.putCrp v).crp = v := rfl
@[simp] theorem State.putCrp_mem (s : State) (v) : (s.putCrp v).mem = s.mem := rfl
@[simp] theorem State.putCrp_evlog (s : State) (v) : (s.putCrp v).evlog = s.evlog := rfl
@[simp] theorem State.putCrp_evLost (s : State) (v) : (s.putCrp v).evLost = s.evLost := rfl
@[simp] theorem State.putCrp_xspi (s : State) (v) : (s.putCrp v).xspi = s.xspi := rfl
@[simp] theorem State.putCrp_parts (s : State) (v) : (s.putCrp v).parts = s.parts := rfl
@[simp] theorem State.putCrp_msix (s : State) (v) : (s.putCrp v).msix = s.msix := rfl
@[simp] theorem State.putCrp_dma (s : State) (v) : (s.putCrp v).dma = s.dma := rfl
@[simp] theorem State.putCrp_ntu (s : State) (v) : (s.putCrp v).ntu = s.ntu := rfl
@[simp] theorem State.putCrp_image (s : State) (v) : (s.putCrp v).image = s.image := rfl
@[simp] theorem State.putCrp_epc (s : State) (v) : (s.putCrp v).epc = s.epc := rfl
@[simp] theorem State.putCrp_swc (s : State) (v) : (s.putCrp v).swc = s.swc := rfl
@[simp] theorem State.putCrp_rooks (s : State) (v) : (s.putCrp v).rooks = s.rooks := rfl
@[simp] theorem State.putCrp_cmap (s : State) (v) : (s.putCrp v).cmap = s.cmap := rfl
@[simp] theorem State.putCrp_cbc (s : State) (v) : (s.putCrp v).cbc = s.cbc := rfl
@[simp] theorem State.putCrp_can (s : State) (v) : (s.putCrp v).can = s.can := rfl
@[simp] theorem State.putCrp_pawns (s : State) (v) : (s.putCrp v).pawns = s.pawns := rfl
@[simp] theorem State.putCrp_ace (s : State) (v) : (s.putCrp v).ace = s.ace := rfl
@[simp] theorem State.putCrp_sfi (s : State) (v) : (s.putCrp v).sfi = s.sfi := rfl
@[simp] theorem State.putCrp_mqf (s : State) (v) : (s.putCrp v).mqf = s.mqf := rfl
@[simp] theorem State.putCrp_dcp (s : State) (v) : (s.putCrp v).dcp = s.dcp := rfl
@[simp] theorem State.putCrp_readData (s : State) (v) : (s.putCrp v).readData = s.readData := rfl
@[simp] theorem State.putCrp_readBytes (s : State) (v) : (s.putCrp v).readBytes = s.readBytes := rfl
@[simp] theorem State.putCrp_readPoison (s : State) (v) : (s.putCrp v).readPoison = s.readPoison := rfl
@[simp] theorem State.reg_putCrp (s : State) (v) (a : Nat) : (s.putCrp v).reg a = s.reg a := rfl
@[simp] theorem State.rd_putCrp (s : State) (v) (f : Fld) : (s.putCrp v).rd f = s.rd f := rfl
@[simp] theorem State.bit_putCrp (s : State) (v) (f : Fld) : (s.putCrp v).bit f = s.bit f := rfl

/-! ## putMem -/

@[simp] theorem State.putMem_pending (s : State) (v) : (s.putMem v).pending = s.pending := rfl
@[simp] theorem State.putMem_variantS (s : State) (v) : (s.putMem v).variantS = s.variantS := rfl
@[simp] theorem State.putMem_free (s : State) (v) : (s.putMem v).free = s.free := rfl
@[simp] theorem State.putMem_regs (s : State) (v) : (s.putMem v).regs = s.regs := rfl
@[simp] theorem State.putMem_sram (s : State) (v) : (s.putMem v).sram = s.sram := rfl
@[simp] theorem State.putMem_mram (s : State) (v) : (s.putMem v).mram = s.mram := rfl
@[simp] theorem State.putMem_pmem (s : State) (v) : (s.putMem v).pmem = s.pmem := rfl
@[simp] theorem State.putMem_pendMode (s : State) (v) : (s.putMem v).pendMode = s.pendMode := rfl
@[simp] theorem State.putMem_modeAt (s : State) (v) : (s.putMem v).modeAt = s.modeAt := rfl
@[simp] theorem State.putMem_boot (s : State) (v) : (s.putMem v).boot = s.boot := rfl
@[simp] theorem State.putMem_crp (s : State) (v) : (s.putMem v).crp = s.crp := rfl
@[simp] theorem State.putMem_mem (s : State) (v) : (s.putMem v).mem = v := rfl
@[simp] theorem State.putMem_evlog (s : State) (v) : (s.putMem v).evlog = s.evlog := rfl
@[simp] theorem State.putMem_evLost (s : State) (v) : (s.putMem v).evLost = s.evLost := rfl
@[simp] theorem State.putMem_xspi (s : State) (v) : (s.putMem v).xspi = s.xspi := rfl
@[simp] theorem State.putMem_parts (s : State) (v) : (s.putMem v).parts = s.parts := rfl
@[simp] theorem State.putMem_msix (s : State) (v) : (s.putMem v).msix = s.msix := rfl
@[simp] theorem State.putMem_dma (s : State) (v) : (s.putMem v).dma = s.dma := rfl
@[simp] theorem State.putMem_ntu (s : State) (v) : (s.putMem v).ntu = s.ntu := rfl
@[simp] theorem State.putMem_image (s : State) (v) : (s.putMem v).image = s.image := rfl
@[simp] theorem State.putMem_epc (s : State) (v) : (s.putMem v).epc = s.epc := rfl
@[simp] theorem State.putMem_swc (s : State) (v) : (s.putMem v).swc = s.swc := rfl
@[simp] theorem State.putMem_rooks (s : State) (v) : (s.putMem v).rooks = s.rooks := rfl
@[simp] theorem State.putMem_cmap (s : State) (v) : (s.putMem v).cmap = s.cmap := rfl
@[simp] theorem State.putMem_cbc (s : State) (v) : (s.putMem v).cbc = s.cbc := rfl
@[simp] theorem State.putMem_can (s : State) (v) : (s.putMem v).can = s.can := rfl
@[simp] theorem State.putMem_pawns (s : State) (v) : (s.putMem v).pawns = s.pawns := rfl
@[simp] theorem State.putMem_ace (s : State) (v) : (s.putMem v).ace = s.ace := rfl
@[simp] theorem State.putMem_sfi (s : State) (v) : (s.putMem v).sfi = s.sfi := rfl
@[simp] theorem State.putMem_mqf (s : State) (v) : (s.putMem v).mqf = s.mqf := rfl
@[simp] theorem State.putMem_dcp (s : State) (v) : (s.putMem v).dcp = s.dcp := rfl
@[simp] theorem State.putMem_readData (s : State) (v) : (s.putMem v).readData = s.readData := rfl
@[simp] theorem State.putMem_readBytes (s : State) (v) : (s.putMem v).readBytes = s.readBytes := rfl
@[simp] theorem State.putMem_readPoison (s : State) (v) : (s.putMem v).readPoison = s.readPoison := rfl
@[simp] theorem State.reg_putMem (s : State) (v) (a : Nat) : (s.putMem v).reg a = s.reg a := rfl
@[simp] theorem State.rd_putMem (s : State) (v) (f : Fld) : (s.putMem v).rd f = s.rd f := rfl
@[simp] theorem State.bit_putMem (s : State) (v) (f : Fld) : (s.putMem v).bit f = s.bit f := rfl

/-! ## putEvlog -/

@[simp] theorem State.putEvlog_pending (s : State) (v) : (s.putEvlog v).pending = s.pending := rfl
@[simp] theorem State.putEvlog_variantS (s : State) (v) : (s.putEvlog v).variantS = s.variantS := rfl
@[simp] theorem State.putEvlog_free (s : State) (v) : (s.putEvlog v).free = s.free := rfl
@[simp] theorem State.putEvlog_regs (s : State) (v) : (s.putEvlog v).regs = s.regs := rfl
@[simp] theorem State.putEvlog_sram (s : State) (v) : (s.putEvlog v).sram = s.sram := rfl
@[simp] theorem State.putEvlog_mram (s : State) (v) : (s.putEvlog v).mram = s.mram := rfl
@[simp] theorem State.putEvlog_pmem (s : State) (v) : (s.putEvlog v).pmem = s.pmem := rfl
@[simp] theorem State.putEvlog_pendMode (s : State) (v) : (s.putEvlog v).pendMode = s.pendMode := rfl
@[simp] theorem State.putEvlog_modeAt (s : State) (v) : (s.putEvlog v).modeAt = s.modeAt := rfl
@[simp] theorem State.putEvlog_boot (s : State) (v) : (s.putEvlog v).boot = s.boot := rfl
@[simp] theorem State.putEvlog_crp (s : State) (v) : (s.putEvlog v).crp = s.crp := rfl
@[simp] theorem State.putEvlog_mem (s : State) (v) : (s.putEvlog v).mem = s.mem := rfl
@[simp] theorem State.putEvlog_evlog (s : State) (v) : (s.putEvlog v).evlog = v := rfl
@[simp] theorem State.putEvlog_evLost (s : State) (v) : (s.putEvlog v).evLost = s.evLost := rfl
@[simp] theorem State.putEvlog_xspi (s : State) (v) : (s.putEvlog v).xspi = s.xspi := rfl
@[simp] theorem State.putEvlog_parts (s : State) (v) : (s.putEvlog v).parts = s.parts := rfl
@[simp] theorem State.putEvlog_msix (s : State) (v) : (s.putEvlog v).msix = s.msix := rfl
@[simp] theorem State.putEvlog_dma (s : State) (v) : (s.putEvlog v).dma = s.dma := rfl
@[simp] theorem State.putEvlog_ntu (s : State) (v) : (s.putEvlog v).ntu = s.ntu := rfl
@[simp] theorem State.putEvlog_image (s : State) (v) : (s.putEvlog v).image = s.image := rfl
@[simp] theorem State.putEvlog_epc (s : State) (v) : (s.putEvlog v).epc = s.epc := rfl
@[simp] theorem State.putEvlog_swc (s : State) (v) : (s.putEvlog v).swc = s.swc := rfl
@[simp] theorem State.putEvlog_rooks (s : State) (v) : (s.putEvlog v).rooks = s.rooks := rfl
@[simp] theorem State.putEvlog_cmap (s : State) (v) : (s.putEvlog v).cmap = s.cmap := rfl
@[simp] theorem State.putEvlog_cbc (s : State) (v) : (s.putEvlog v).cbc = s.cbc := rfl
@[simp] theorem State.putEvlog_can (s : State) (v) : (s.putEvlog v).can = s.can := rfl
@[simp] theorem State.putEvlog_pawns (s : State) (v) : (s.putEvlog v).pawns = s.pawns := rfl
@[simp] theorem State.putEvlog_ace (s : State) (v) : (s.putEvlog v).ace = s.ace := rfl
@[simp] theorem State.putEvlog_sfi (s : State) (v) : (s.putEvlog v).sfi = s.sfi := rfl
@[simp] theorem State.putEvlog_mqf (s : State) (v) : (s.putEvlog v).mqf = s.mqf := rfl
@[simp] theorem State.putEvlog_dcp (s : State) (v) : (s.putEvlog v).dcp = s.dcp := rfl
@[simp] theorem State.putEvlog_readData (s : State) (v) : (s.putEvlog v).readData = s.readData := rfl
@[simp] theorem State.putEvlog_readBytes (s : State) (v) : (s.putEvlog v).readBytes = s.readBytes := rfl
@[simp] theorem State.putEvlog_readPoison (s : State) (v) : (s.putEvlog v).readPoison = s.readPoison := rfl
@[simp] theorem State.reg_putEvlog (s : State) (v) (a : Nat) : (s.putEvlog v).reg a = s.reg a := rfl
@[simp] theorem State.rd_putEvlog (s : State) (v) (f : Fld) : (s.putEvlog v).rd f = s.rd f := rfl
@[simp] theorem State.bit_putEvlog (s : State) (v) (f : Fld) : (s.putEvlog v).bit f = s.bit f := rfl

/-! ## putEvLost -/

@[simp] theorem State.putEvLost_pending (s : State) (v) : (s.putEvLost v).pending = s.pending := rfl
@[simp] theorem State.putEvLost_variantS (s : State) (v) : (s.putEvLost v).variantS = s.variantS := rfl
@[simp] theorem State.putEvLost_free (s : State) (v) : (s.putEvLost v).free = s.free := rfl
@[simp] theorem State.putEvLost_regs (s : State) (v) : (s.putEvLost v).regs = s.regs := rfl
@[simp] theorem State.putEvLost_sram (s : State) (v) : (s.putEvLost v).sram = s.sram := rfl
@[simp] theorem State.putEvLost_mram (s : State) (v) : (s.putEvLost v).mram = s.mram := rfl
@[simp] theorem State.putEvLost_pmem (s : State) (v) : (s.putEvLost v).pmem = s.pmem := rfl
@[simp] theorem State.putEvLost_pendMode (s : State) (v) : (s.putEvLost v).pendMode = s.pendMode := rfl
@[simp] theorem State.putEvLost_modeAt (s : State) (v) : (s.putEvLost v).modeAt = s.modeAt := rfl
@[simp] theorem State.putEvLost_boot (s : State) (v) : (s.putEvLost v).boot = s.boot := rfl
@[simp] theorem State.putEvLost_crp (s : State) (v) : (s.putEvLost v).crp = s.crp := rfl
@[simp] theorem State.putEvLost_mem (s : State) (v) : (s.putEvLost v).mem = s.mem := rfl
@[simp] theorem State.putEvLost_evlog (s : State) (v) : (s.putEvLost v).evlog = s.evlog := rfl
@[simp] theorem State.putEvLost_evLost (s : State) (v) : (s.putEvLost v).evLost = v := rfl
@[simp] theorem State.putEvLost_xspi (s : State) (v) : (s.putEvLost v).xspi = s.xspi := rfl
@[simp] theorem State.putEvLost_parts (s : State) (v) : (s.putEvLost v).parts = s.parts := rfl
@[simp] theorem State.putEvLost_msix (s : State) (v) : (s.putEvLost v).msix = s.msix := rfl
@[simp] theorem State.putEvLost_dma (s : State) (v) : (s.putEvLost v).dma = s.dma := rfl
@[simp] theorem State.putEvLost_ntu (s : State) (v) : (s.putEvLost v).ntu = s.ntu := rfl
@[simp] theorem State.putEvLost_image (s : State) (v) : (s.putEvLost v).image = s.image := rfl
@[simp] theorem State.putEvLost_epc (s : State) (v) : (s.putEvLost v).epc = s.epc := rfl
@[simp] theorem State.putEvLost_swc (s : State) (v) : (s.putEvLost v).swc = s.swc := rfl
@[simp] theorem State.putEvLost_rooks (s : State) (v) : (s.putEvLost v).rooks = s.rooks := rfl
@[simp] theorem State.putEvLost_cmap (s : State) (v) : (s.putEvLost v).cmap = s.cmap := rfl
@[simp] theorem State.putEvLost_cbc (s : State) (v) : (s.putEvLost v).cbc = s.cbc := rfl
@[simp] theorem State.putEvLost_can (s : State) (v) : (s.putEvLost v).can = s.can := rfl
@[simp] theorem State.putEvLost_pawns (s : State) (v) : (s.putEvLost v).pawns = s.pawns := rfl
@[simp] theorem State.putEvLost_ace (s : State) (v) : (s.putEvLost v).ace = s.ace := rfl
@[simp] theorem State.putEvLost_sfi (s : State) (v) : (s.putEvLost v).sfi = s.sfi := rfl
@[simp] theorem State.putEvLost_mqf (s : State) (v) : (s.putEvLost v).mqf = s.mqf := rfl
@[simp] theorem State.putEvLost_dcp (s : State) (v) : (s.putEvLost v).dcp = s.dcp := rfl
@[simp] theorem State.putEvLost_readData (s : State) (v) : (s.putEvLost v).readData = s.readData := rfl
@[simp] theorem State.putEvLost_readBytes (s : State) (v) : (s.putEvLost v).readBytes = s.readBytes := rfl
@[simp] theorem State.putEvLost_readPoison (s : State) (v) : (s.putEvLost v).readPoison = s.readPoison := rfl
@[simp] theorem State.reg_putEvLost (s : State) (v) (a : Nat) : (s.putEvLost v).reg a = s.reg a := rfl
@[simp] theorem State.rd_putEvLost (s : State) (v) (f : Fld) : (s.putEvLost v).rd f = s.rd f := rfl
@[simp] theorem State.bit_putEvLost (s : State) (v) (f : Fld) : (s.putEvLost v).bit f = s.bit f := rfl

/-! ## putXspi -/

@[simp] theorem State.putXspi_pending (s : State) (v) : (s.putXspi v).pending = s.pending := rfl
@[simp] theorem State.putXspi_variantS (s : State) (v) : (s.putXspi v).variantS = s.variantS := rfl
@[simp] theorem State.putXspi_free (s : State) (v) : (s.putXspi v).free = s.free := rfl
@[simp] theorem State.putXspi_regs (s : State) (v) : (s.putXspi v).regs = s.regs := rfl
@[simp] theorem State.putXspi_sram (s : State) (v) : (s.putXspi v).sram = s.sram := rfl
@[simp] theorem State.putXspi_mram (s : State) (v) : (s.putXspi v).mram = s.mram := rfl
@[simp] theorem State.putXspi_pmem (s : State) (v) : (s.putXspi v).pmem = s.pmem := rfl
@[simp] theorem State.putXspi_pendMode (s : State) (v) : (s.putXspi v).pendMode = s.pendMode := rfl
@[simp] theorem State.putXspi_modeAt (s : State) (v) : (s.putXspi v).modeAt = s.modeAt := rfl
@[simp] theorem State.putXspi_boot (s : State) (v) : (s.putXspi v).boot = s.boot := rfl
@[simp] theorem State.putXspi_crp (s : State) (v) : (s.putXspi v).crp = s.crp := rfl
@[simp] theorem State.putXspi_mem (s : State) (v) : (s.putXspi v).mem = s.mem := rfl
@[simp] theorem State.putXspi_evlog (s : State) (v) : (s.putXspi v).evlog = s.evlog := rfl
@[simp] theorem State.putXspi_evLost (s : State) (v) : (s.putXspi v).evLost = s.evLost := rfl
@[simp] theorem State.putXspi_xspi (s : State) (v) : (s.putXspi v).xspi = v := rfl
@[simp] theorem State.putXspi_parts (s : State) (v) : (s.putXspi v).parts = s.parts := rfl
@[simp] theorem State.putXspi_msix (s : State) (v) : (s.putXspi v).msix = s.msix := rfl
@[simp] theorem State.putXspi_dma (s : State) (v) : (s.putXspi v).dma = s.dma := rfl
@[simp] theorem State.putXspi_ntu (s : State) (v) : (s.putXspi v).ntu = s.ntu := rfl
@[simp] theorem State.putXspi_image (s : State) (v) : (s.putXspi v).image = s.image := rfl
@[simp] theorem State.putXspi_epc (s : State) (v) : (s.putXspi v).epc = s.epc := rfl
@[simp] theorem State.putXspi_swc (s : State) (v) : (s.putXspi v).swc = s.swc := rfl
@[simp] theorem State.putXspi_rooks (s : State) (v) : (s.putXspi v).rooks = s.rooks := rfl
@[simp] theorem State.putXspi_cmap (s : State) (v) : (s.putXspi v).cmap = s.cmap := rfl
@[simp] theorem State.putXspi_cbc (s : State) (v) : (s.putXspi v).cbc = s.cbc := rfl
@[simp] theorem State.putXspi_can (s : State) (v) : (s.putXspi v).can = s.can := rfl
@[simp] theorem State.putXspi_pawns (s : State) (v) : (s.putXspi v).pawns = s.pawns := rfl
@[simp] theorem State.putXspi_ace (s : State) (v) : (s.putXspi v).ace = s.ace := rfl
@[simp] theorem State.putXspi_sfi (s : State) (v) : (s.putXspi v).sfi = s.sfi := rfl
@[simp] theorem State.putXspi_mqf (s : State) (v) : (s.putXspi v).mqf = s.mqf := rfl
@[simp] theorem State.putXspi_dcp (s : State) (v) : (s.putXspi v).dcp = s.dcp := rfl
@[simp] theorem State.putXspi_readData (s : State) (v) : (s.putXspi v).readData = s.readData := rfl
@[simp] theorem State.putXspi_readBytes (s : State) (v) : (s.putXspi v).readBytes = s.readBytes := rfl
@[simp] theorem State.putXspi_readPoison (s : State) (v) : (s.putXspi v).readPoison = s.readPoison := rfl
@[simp] theorem State.reg_putXspi (s : State) (v) (a : Nat) : (s.putXspi v).reg a = s.reg a := rfl
@[simp] theorem State.rd_putXspi (s : State) (v) (f : Fld) : (s.putXspi v).rd f = s.rd f := rfl
@[simp] theorem State.bit_putXspi (s : State) (v) (f : Fld) : (s.putXspi v).bit f = s.bit f := rfl

/-! ## putParts -/

@[simp] theorem State.putParts_pending (s : State) (v) : (s.putParts v).pending = s.pending := rfl
@[simp] theorem State.putParts_variantS (s : State) (v) : (s.putParts v).variantS = s.variantS := rfl
@[simp] theorem State.putParts_free (s : State) (v) : (s.putParts v).free = s.free := rfl
@[simp] theorem State.putParts_regs (s : State) (v) : (s.putParts v).regs = s.regs := rfl
@[simp] theorem State.putParts_sram (s : State) (v) : (s.putParts v).sram = s.sram := rfl
@[simp] theorem State.putParts_mram (s : State) (v) : (s.putParts v).mram = s.mram := rfl
@[simp] theorem State.putParts_pmem (s : State) (v) : (s.putParts v).pmem = s.pmem := rfl
@[simp] theorem State.putParts_pendMode (s : State) (v) : (s.putParts v).pendMode = s.pendMode := rfl
@[simp] theorem State.putParts_modeAt (s : State) (v) : (s.putParts v).modeAt = s.modeAt := rfl
@[simp] theorem State.putParts_boot (s : State) (v) : (s.putParts v).boot = s.boot := rfl
@[simp] theorem State.putParts_crp (s : State) (v) : (s.putParts v).crp = s.crp := rfl
@[simp] theorem State.putParts_mem (s : State) (v) : (s.putParts v).mem = s.mem := rfl
@[simp] theorem State.putParts_evlog (s : State) (v) : (s.putParts v).evlog = s.evlog := rfl
@[simp] theorem State.putParts_evLost (s : State) (v) : (s.putParts v).evLost = s.evLost := rfl
@[simp] theorem State.putParts_xspi (s : State) (v) : (s.putParts v).xspi = s.xspi := rfl
@[simp] theorem State.putParts_parts (s : State) (v) : (s.putParts v).parts = v := rfl
@[simp] theorem State.putParts_msix (s : State) (v) : (s.putParts v).msix = s.msix := rfl
@[simp] theorem State.putParts_dma (s : State) (v) : (s.putParts v).dma = s.dma := rfl
@[simp] theorem State.putParts_ntu (s : State) (v) : (s.putParts v).ntu = s.ntu := rfl
@[simp] theorem State.putParts_image (s : State) (v) : (s.putParts v).image = s.image := rfl
@[simp] theorem State.putParts_epc (s : State) (v) : (s.putParts v).epc = s.epc := rfl
@[simp] theorem State.putParts_swc (s : State) (v) : (s.putParts v).swc = s.swc := rfl
@[simp] theorem State.putParts_rooks (s : State) (v) : (s.putParts v).rooks = s.rooks := rfl
@[simp] theorem State.putParts_cmap (s : State) (v) : (s.putParts v).cmap = s.cmap := rfl
@[simp] theorem State.putParts_cbc (s : State) (v) : (s.putParts v).cbc = s.cbc := rfl
@[simp] theorem State.putParts_can (s : State) (v) : (s.putParts v).can = s.can := rfl
@[simp] theorem State.putParts_pawns (s : State) (v) : (s.putParts v).pawns = s.pawns := rfl
@[simp] theorem State.putParts_ace (s : State) (v) : (s.putParts v).ace = s.ace := rfl
@[simp] theorem State.putParts_sfi (s : State) (v) : (s.putParts v).sfi = s.sfi := rfl
@[simp] theorem State.putParts_mqf (s : State) (v) : (s.putParts v).mqf = s.mqf := rfl
@[simp] theorem State.putParts_dcp (s : State) (v) : (s.putParts v).dcp = s.dcp := rfl
@[simp] theorem State.putParts_readData (s : State) (v) : (s.putParts v).readData = s.readData := rfl
@[simp] theorem State.putParts_readBytes (s : State) (v) : (s.putParts v).readBytes = s.readBytes := rfl
@[simp] theorem State.putParts_readPoison (s : State) (v) : (s.putParts v).readPoison = s.readPoison := rfl
@[simp] theorem State.reg_putParts (s : State) (v) (a : Nat) : (s.putParts v).reg a = s.reg a := rfl
@[simp] theorem State.rd_putParts (s : State) (v) (f : Fld) : (s.putParts v).rd f = s.rd f := rfl
@[simp] theorem State.bit_putParts (s : State) (v) (f : Fld) : (s.putParts v).bit f = s.bit f := rfl

/-! ## putMsix -/

@[simp] theorem State.putMsix_pending (s : State) (v) : (s.putMsix v).pending = s.pending := rfl
@[simp] theorem State.putMsix_variantS (s : State) (v) : (s.putMsix v).variantS = s.variantS := rfl
@[simp] theorem State.putMsix_free (s : State) (v) : (s.putMsix v).free = s.free := rfl
@[simp] theorem State.putMsix_regs (s : State) (v) : (s.putMsix v).regs = s.regs := rfl
@[simp] theorem State.putMsix_sram (s : State) (v) : (s.putMsix v).sram = s.sram := rfl
@[simp] theorem State.putMsix_mram (s : State) (v) : (s.putMsix v).mram = s.mram := rfl
@[simp] theorem State.putMsix_pmem (s : State) (v) : (s.putMsix v).pmem = s.pmem := rfl
@[simp] theorem State.putMsix_pendMode (s : State) (v) : (s.putMsix v).pendMode = s.pendMode := rfl
@[simp] theorem State.putMsix_modeAt (s : State) (v) : (s.putMsix v).modeAt = s.modeAt := rfl
@[simp] theorem State.putMsix_boot (s : State) (v) : (s.putMsix v).boot = s.boot := rfl
@[simp] theorem State.putMsix_crp (s : State) (v) : (s.putMsix v).crp = s.crp := rfl
@[simp] theorem State.putMsix_mem (s : State) (v) : (s.putMsix v).mem = s.mem := rfl
@[simp] theorem State.putMsix_evlog (s : State) (v) : (s.putMsix v).evlog = s.evlog := rfl
@[simp] theorem State.putMsix_evLost (s : State) (v) : (s.putMsix v).evLost = s.evLost := rfl
@[simp] theorem State.putMsix_xspi (s : State) (v) : (s.putMsix v).xspi = s.xspi := rfl
@[simp] theorem State.putMsix_parts (s : State) (v) : (s.putMsix v).parts = s.parts := rfl
@[simp] theorem State.putMsix_msix (s : State) (v) : (s.putMsix v).msix = v := rfl
@[simp] theorem State.putMsix_dma (s : State) (v) : (s.putMsix v).dma = s.dma := rfl
@[simp] theorem State.putMsix_ntu (s : State) (v) : (s.putMsix v).ntu = s.ntu := rfl
@[simp] theorem State.putMsix_image (s : State) (v) : (s.putMsix v).image = s.image := rfl
@[simp] theorem State.putMsix_epc (s : State) (v) : (s.putMsix v).epc = s.epc := rfl
@[simp] theorem State.putMsix_swc (s : State) (v) : (s.putMsix v).swc = s.swc := rfl
@[simp] theorem State.putMsix_rooks (s : State) (v) : (s.putMsix v).rooks = s.rooks := rfl
@[simp] theorem State.putMsix_cmap (s : State) (v) : (s.putMsix v).cmap = s.cmap := rfl
@[simp] theorem State.putMsix_cbc (s : State) (v) : (s.putMsix v).cbc = s.cbc := rfl
@[simp] theorem State.putMsix_can (s : State) (v) : (s.putMsix v).can = s.can := rfl
@[simp] theorem State.putMsix_pawns (s : State) (v) : (s.putMsix v).pawns = s.pawns := rfl
@[simp] theorem State.putMsix_ace (s : State) (v) : (s.putMsix v).ace = s.ace := rfl
@[simp] theorem State.putMsix_sfi (s : State) (v) : (s.putMsix v).sfi = s.sfi := rfl
@[simp] theorem State.putMsix_mqf (s : State) (v) : (s.putMsix v).mqf = s.mqf := rfl
@[simp] theorem State.putMsix_dcp (s : State) (v) : (s.putMsix v).dcp = s.dcp := rfl
@[simp] theorem State.putMsix_readData (s : State) (v) : (s.putMsix v).readData = s.readData := rfl
@[simp] theorem State.putMsix_readBytes (s : State) (v) : (s.putMsix v).readBytes = s.readBytes := rfl
@[simp] theorem State.putMsix_readPoison (s : State) (v) : (s.putMsix v).readPoison = s.readPoison := rfl
@[simp] theorem State.reg_putMsix (s : State) (v) (a : Nat) : (s.putMsix v).reg a = s.reg a := rfl
@[simp] theorem State.rd_putMsix (s : State) (v) (f : Fld) : (s.putMsix v).rd f = s.rd f := rfl
@[simp] theorem State.bit_putMsix (s : State) (v) (f : Fld) : (s.putMsix v).bit f = s.bit f := rfl

/-! ## putDma -/

@[simp] theorem State.putDma_pending (s : State) (v) : (s.putDma v).pending = s.pending := rfl
@[simp] theorem State.putDma_variantS (s : State) (v) : (s.putDma v).variantS = s.variantS := rfl
@[simp] theorem State.putDma_free (s : State) (v) : (s.putDma v).free = s.free := rfl
@[simp] theorem State.putDma_regs (s : State) (v) : (s.putDma v).regs = s.regs := rfl
@[simp] theorem State.putDma_sram (s : State) (v) : (s.putDma v).sram = s.sram := rfl
@[simp] theorem State.putDma_mram (s : State) (v) : (s.putDma v).mram = s.mram := rfl
@[simp] theorem State.putDma_pmem (s : State) (v) : (s.putDma v).pmem = s.pmem := rfl
@[simp] theorem State.putDma_pendMode (s : State) (v) : (s.putDma v).pendMode = s.pendMode := rfl
@[simp] theorem State.putDma_modeAt (s : State) (v) : (s.putDma v).modeAt = s.modeAt := rfl
@[simp] theorem State.putDma_boot (s : State) (v) : (s.putDma v).boot = s.boot := rfl
@[simp] theorem State.putDma_crp (s : State) (v) : (s.putDma v).crp = s.crp := rfl
@[simp] theorem State.putDma_mem (s : State) (v) : (s.putDma v).mem = s.mem := rfl
@[simp] theorem State.putDma_evlog (s : State) (v) : (s.putDma v).evlog = s.evlog := rfl
@[simp] theorem State.putDma_evLost (s : State) (v) : (s.putDma v).evLost = s.evLost := rfl
@[simp] theorem State.putDma_xspi (s : State) (v) : (s.putDma v).xspi = s.xspi := rfl
@[simp] theorem State.putDma_parts (s : State) (v) : (s.putDma v).parts = s.parts := rfl
@[simp] theorem State.putDma_msix (s : State) (v) : (s.putDma v).msix = s.msix := rfl
@[simp] theorem State.putDma_dma (s : State) (v) : (s.putDma v).dma = v := rfl
@[simp] theorem State.putDma_ntu (s : State) (v) : (s.putDma v).ntu = s.ntu := rfl
@[simp] theorem State.putDma_image (s : State) (v) : (s.putDma v).image = s.image := rfl
@[simp] theorem State.putDma_epc (s : State) (v) : (s.putDma v).epc = s.epc := rfl
@[simp] theorem State.putDma_swc (s : State) (v) : (s.putDma v).swc = s.swc := rfl
@[simp] theorem State.putDma_rooks (s : State) (v) : (s.putDma v).rooks = s.rooks := rfl
@[simp] theorem State.putDma_cmap (s : State) (v) : (s.putDma v).cmap = s.cmap := rfl
@[simp] theorem State.putDma_cbc (s : State) (v) : (s.putDma v).cbc = s.cbc := rfl
@[simp] theorem State.putDma_can (s : State) (v) : (s.putDma v).can = s.can := rfl
@[simp] theorem State.putDma_pawns (s : State) (v) : (s.putDma v).pawns = s.pawns := rfl
@[simp] theorem State.putDma_ace (s : State) (v) : (s.putDma v).ace = s.ace := rfl
@[simp] theorem State.putDma_sfi (s : State) (v) : (s.putDma v).sfi = s.sfi := rfl
@[simp] theorem State.putDma_mqf (s : State) (v) : (s.putDma v).mqf = s.mqf := rfl
@[simp] theorem State.putDma_dcp (s : State) (v) : (s.putDma v).dcp = s.dcp := rfl
@[simp] theorem State.putDma_readData (s : State) (v) : (s.putDma v).readData = s.readData := rfl
@[simp] theorem State.putDma_readBytes (s : State) (v) : (s.putDma v).readBytes = s.readBytes := rfl
@[simp] theorem State.putDma_readPoison (s : State) (v) : (s.putDma v).readPoison = s.readPoison := rfl
@[simp] theorem State.reg_putDma (s : State) (v) (a : Nat) : (s.putDma v).reg a = s.reg a := rfl
@[simp] theorem State.rd_putDma (s : State) (v) (f : Fld) : (s.putDma v).rd f = s.rd f := rfl
@[simp] theorem State.bit_putDma (s : State) (v) (f : Fld) : (s.putDma v).bit f = s.bit f := rfl

/-! ## putNtu -/

@[simp] theorem State.putNtu_pending (s : State) (v) : (s.putNtu v).pending = s.pending := rfl
@[simp] theorem State.putNtu_variantS (s : State) (v) : (s.putNtu v).variantS = s.variantS := rfl
@[simp] theorem State.putNtu_free (s : State) (v) : (s.putNtu v).free = s.free := rfl
@[simp] theorem State.putNtu_regs (s : State) (v) : (s.putNtu v).regs = s.regs := rfl
@[simp] theorem State.putNtu_sram (s : State) (v) : (s.putNtu v).sram = s.sram := rfl
@[simp] theorem State.putNtu_mram (s : State) (v) : (s.putNtu v).mram = s.mram := rfl
@[simp] theorem State.putNtu_pmem (s : State) (v) : (s.putNtu v).pmem = s.pmem := rfl
@[simp] theorem State.putNtu_pendMode (s : State) (v) : (s.putNtu v).pendMode = s.pendMode := rfl
@[simp] theorem State.putNtu_modeAt (s : State) (v) : (s.putNtu v).modeAt = s.modeAt := rfl
@[simp] theorem State.putNtu_boot (s : State) (v) : (s.putNtu v).boot = s.boot := rfl
@[simp] theorem State.putNtu_crp (s : State) (v) : (s.putNtu v).crp = s.crp := rfl
@[simp] theorem State.putNtu_mem (s : State) (v) : (s.putNtu v).mem = s.mem := rfl
@[simp] theorem State.putNtu_evlog (s : State) (v) : (s.putNtu v).evlog = s.evlog := rfl
@[simp] theorem State.putNtu_evLost (s : State) (v) : (s.putNtu v).evLost = s.evLost := rfl
@[simp] theorem State.putNtu_xspi (s : State) (v) : (s.putNtu v).xspi = s.xspi := rfl
@[simp] theorem State.putNtu_parts (s : State) (v) : (s.putNtu v).parts = s.parts := rfl
@[simp] theorem State.putNtu_msix (s : State) (v) : (s.putNtu v).msix = s.msix := rfl
@[simp] theorem State.putNtu_dma (s : State) (v) : (s.putNtu v).dma = s.dma := rfl
@[simp] theorem State.putNtu_ntu (s : State) (v) : (s.putNtu v).ntu = v := rfl
@[simp] theorem State.putNtu_image (s : State) (v) : (s.putNtu v).image = s.image := rfl
@[simp] theorem State.putNtu_epc (s : State) (v) : (s.putNtu v).epc = s.epc := rfl
@[simp] theorem State.putNtu_swc (s : State) (v) : (s.putNtu v).swc = s.swc := rfl
@[simp] theorem State.putNtu_rooks (s : State) (v) : (s.putNtu v).rooks = s.rooks := rfl
@[simp] theorem State.putNtu_cmap (s : State) (v) : (s.putNtu v).cmap = s.cmap := rfl
@[simp] theorem State.putNtu_cbc (s : State) (v) : (s.putNtu v).cbc = s.cbc := rfl
@[simp] theorem State.putNtu_can (s : State) (v) : (s.putNtu v).can = s.can := rfl
@[simp] theorem State.putNtu_pawns (s : State) (v) : (s.putNtu v).pawns = s.pawns := rfl
@[simp] theorem State.putNtu_ace (s : State) (v) : (s.putNtu v).ace = s.ace := rfl
@[simp] theorem State.putNtu_sfi (s : State) (v) : (s.putNtu v).sfi = s.sfi := rfl
@[simp] theorem State.putNtu_mqf (s : State) (v) : (s.putNtu v).mqf = s.mqf := rfl
@[simp] theorem State.putNtu_dcp (s : State) (v) : (s.putNtu v).dcp = s.dcp := rfl
@[simp] theorem State.putNtu_readData (s : State) (v) : (s.putNtu v).readData = s.readData := rfl
@[simp] theorem State.putNtu_readBytes (s : State) (v) : (s.putNtu v).readBytes = s.readBytes := rfl
@[simp] theorem State.putNtu_readPoison (s : State) (v) : (s.putNtu v).readPoison = s.readPoison := rfl
@[simp] theorem State.reg_putNtu (s : State) (v) (a : Nat) : (s.putNtu v).reg a = s.reg a := rfl
@[simp] theorem State.rd_putNtu (s : State) (v) (f : Fld) : (s.putNtu v).rd f = s.rd f := rfl
@[simp] theorem State.bit_putNtu (s : State) (v) (f : Fld) : (s.putNtu v).bit f = s.bit f := rfl

/-! ## putImage -/

@[simp] theorem State.putImage_pending (s : State) (v) : (s.putImage v).pending = s.pending := rfl
@[simp] theorem State.putImage_variantS (s : State) (v) : (s.putImage v).variantS = s.variantS := rfl
@[simp] theorem State.putImage_free (s : State) (v) : (s.putImage v).free = s.free := rfl
@[simp] theorem State.putImage_regs (s : State) (v) : (s.putImage v).regs = s.regs := rfl
@[simp] theorem State.putImage_sram (s : State) (v) : (s.putImage v).sram = s.sram := rfl
@[simp] theorem State.putImage_mram (s : State) (v) : (s.putImage v).mram = s.mram := rfl
@[simp] theorem State.putImage_pmem (s : State) (v) : (s.putImage v).pmem = s.pmem := rfl
@[simp] theorem State.putImage_pendMode (s : State) (v) : (s.putImage v).pendMode = s.pendMode := rfl
@[simp] theorem State.putImage_modeAt (s : State) (v) : (s.putImage v).modeAt = s.modeAt := rfl
@[simp] theorem State.putImage_boot (s : State) (v) : (s.putImage v).boot = s.boot := rfl
@[simp] theorem State.putImage_crp (s : State) (v) : (s.putImage v).crp = s.crp := rfl
@[simp] theorem State.putImage_mem (s : State) (v) : (s.putImage v).mem = s.mem := rfl
@[simp] theorem State.putImage_evlog (s : State) (v) : (s.putImage v).evlog = s.evlog := rfl
@[simp] theorem State.putImage_evLost (s : State) (v) : (s.putImage v).evLost = s.evLost := rfl
@[simp] theorem State.putImage_xspi (s : State) (v) : (s.putImage v).xspi = s.xspi := rfl
@[simp] theorem State.putImage_parts (s : State) (v) : (s.putImage v).parts = s.parts := rfl
@[simp] theorem State.putImage_msix (s : State) (v) : (s.putImage v).msix = s.msix := rfl
@[simp] theorem State.putImage_dma (s : State) (v) : (s.putImage v).dma = s.dma := rfl
@[simp] theorem State.putImage_ntu (s : State) (v) : (s.putImage v).ntu = s.ntu := rfl
@[simp] theorem State.putImage_image (s : State) (v) : (s.putImage v).image = v := rfl
@[simp] theorem State.putImage_epc (s : State) (v) : (s.putImage v).epc = s.epc := rfl
@[simp] theorem State.putImage_swc (s : State) (v) : (s.putImage v).swc = s.swc := rfl
@[simp] theorem State.putImage_rooks (s : State) (v) : (s.putImage v).rooks = s.rooks := rfl
@[simp] theorem State.putImage_cmap (s : State) (v) : (s.putImage v).cmap = s.cmap := rfl
@[simp] theorem State.putImage_cbc (s : State) (v) : (s.putImage v).cbc = s.cbc := rfl
@[simp] theorem State.putImage_can (s : State) (v) : (s.putImage v).can = s.can := rfl
@[simp] theorem State.putImage_pawns (s : State) (v) : (s.putImage v).pawns = s.pawns := rfl
@[simp] theorem State.putImage_ace (s : State) (v) : (s.putImage v).ace = s.ace := rfl
@[simp] theorem State.putImage_sfi (s : State) (v) : (s.putImage v).sfi = s.sfi := rfl
@[simp] theorem State.putImage_mqf (s : State) (v) : (s.putImage v).mqf = s.mqf := rfl
@[simp] theorem State.putImage_dcp (s : State) (v) : (s.putImage v).dcp = s.dcp := rfl
@[simp] theorem State.putImage_readData (s : State) (v) : (s.putImage v).readData = s.readData := rfl
@[simp] theorem State.putImage_readBytes (s : State) (v) : (s.putImage v).readBytes = s.readBytes := rfl
@[simp] theorem State.putImage_readPoison (s : State) (v) : (s.putImage v).readPoison = s.readPoison := rfl
@[simp] theorem State.reg_putImage (s : State) (v) (a : Nat) : (s.putImage v).reg a = s.reg a := rfl
@[simp] theorem State.rd_putImage (s : State) (v) (f : Fld) : (s.putImage v).rd f = s.rd f := rfl
@[simp] theorem State.bit_putImage (s : State) (v) (f : Fld) : (s.putImage v).bit f = s.bit f := rfl

/-! ## putEpc -/

@[simp] theorem State.putEpc_pending (s : State) (v) : (s.putEpc v).pending = s.pending := rfl
@[simp] theorem State.putEpc_variantS (s : State) (v) : (s.putEpc v).variantS = s.variantS := rfl
@[simp] theorem State.putEpc_free (s : State) (v) : (s.putEpc v).free = s.free := rfl
@[simp] theorem State.putEpc_regs (s : State) (v) : (s.putEpc v).regs = s.regs := rfl
@[simp] theorem State.putEpc_sram (s : State) (v) : (s.putEpc v).sram = s.sram := rfl
@[simp] theorem State.putEpc_mram (s : State) (v) : (s.putEpc v).mram = s.mram := rfl
@[simp] theorem State.putEpc_pmem (s : State) (v) : (s.putEpc v).pmem = s.pmem := rfl
@[simp] theorem State.putEpc_pendMode (s : State) (v) : (s.putEpc v).pendMode = s.pendMode := rfl
@[simp] theorem State.putEpc_modeAt (s : State) (v) : (s.putEpc v).modeAt = s.modeAt := rfl
@[simp] theorem State.putEpc_boot (s : State) (v) : (s.putEpc v).boot = s.boot := rfl
@[simp] theorem State.putEpc_crp (s : State) (v) : (s.putEpc v).crp = s.crp := rfl
@[simp] theorem State.putEpc_mem (s : State) (v) : (s.putEpc v).mem = s.mem := rfl
@[simp] theorem State.putEpc_evlog (s : State) (v) : (s.putEpc v).evlog = s.evlog := rfl
@[simp] theorem State.putEpc_evLost (s : State) (v) : (s.putEpc v).evLost = s.evLost := rfl
@[simp] theorem State.putEpc_xspi (s : State) (v) : (s.putEpc v).xspi = s.xspi := rfl
@[simp] theorem State.putEpc_parts (s : State) (v) : (s.putEpc v).parts = s.parts := rfl
@[simp] theorem State.putEpc_msix (s : State) (v) : (s.putEpc v).msix = s.msix := rfl
@[simp] theorem State.putEpc_dma (s : State) (v) : (s.putEpc v).dma = s.dma := rfl
@[simp] theorem State.putEpc_ntu (s : State) (v) : (s.putEpc v).ntu = s.ntu := rfl
@[simp] theorem State.putEpc_image (s : State) (v) : (s.putEpc v).image = s.image := rfl
@[simp] theorem State.putEpc_epc (s : State) (v) : (s.putEpc v).epc = v := rfl
@[simp] theorem State.putEpc_swc (s : State) (v) : (s.putEpc v).swc = s.swc := rfl
@[simp] theorem State.putEpc_rooks (s : State) (v) : (s.putEpc v).rooks = s.rooks := rfl
@[simp] theorem State.putEpc_cmap (s : State) (v) : (s.putEpc v).cmap = s.cmap := rfl
@[simp] theorem State.putEpc_cbc (s : State) (v) : (s.putEpc v).cbc = s.cbc := rfl
@[simp] theorem State.putEpc_can (s : State) (v) : (s.putEpc v).can = s.can := rfl
@[simp] theorem State.putEpc_pawns (s : State) (v) : (s.putEpc v).pawns = s.pawns := rfl
@[simp] theorem State.putEpc_ace (s : State) (v) : (s.putEpc v).ace = s.ace := rfl
@[simp] theorem State.putEpc_sfi (s : State) (v) : (s.putEpc v).sfi = s.sfi := rfl
@[simp] theorem State.putEpc_mqf (s : State) (v) : (s.putEpc v).mqf = s.mqf := rfl
@[simp] theorem State.putEpc_dcp (s : State) (v) : (s.putEpc v).dcp = s.dcp := rfl
@[simp] theorem State.putEpc_readData (s : State) (v) : (s.putEpc v).readData = s.readData := rfl
@[simp] theorem State.putEpc_readBytes (s : State) (v) : (s.putEpc v).readBytes = s.readBytes := rfl
@[simp] theorem State.putEpc_readPoison (s : State) (v) : (s.putEpc v).readPoison = s.readPoison := rfl
@[simp] theorem State.reg_putEpc (s : State) (v) (a : Nat) : (s.putEpc v).reg a = s.reg a := rfl
@[simp] theorem State.rd_putEpc (s : State) (v) (f : Fld) : (s.putEpc v).rd f = s.rd f := rfl
@[simp] theorem State.bit_putEpc (s : State) (v) (f : Fld) : (s.putEpc v).bit f = s.bit f := rfl

/-! ## putSwc -/

@[simp] theorem State.putSwc_pending (s : State) (v) : (s.putSwc v).pending = s.pending := rfl
@[simp] theorem State.putSwc_variantS (s : State) (v) : (s.putSwc v).variantS = s.variantS := rfl
@[simp] theorem State.putSwc_free (s : State) (v) : (s.putSwc v).free = s.free := rfl
@[simp] theorem State.putSwc_regs (s : State) (v) : (s.putSwc v).regs = s.regs := rfl
@[simp] theorem State.putSwc_sram (s : State) (v) : (s.putSwc v).sram = s.sram := rfl
@[simp] theorem State.putSwc_mram (s : State) (v) : (s.putSwc v).mram = s.mram := rfl
@[simp] theorem State.putSwc_pmem (s : State) (v) : (s.putSwc v).pmem = s.pmem := rfl
@[simp] theorem State.putSwc_pendMode (s : State) (v) : (s.putSwc v).pendMode = s.pendMode := rfl
@[simp] theorem State.putSwc_modeAt (s : State) (v) : (s.putSwc v).modeAt = s.modeAt := rfl
@[simp] theorem State.putSwc_boot (s : State) (v) : (s.putSwc v).boot = s.boot := rfl
@[simp] theorem State.putSwc_crp (s : State) (v) : (s.putSwc v).crp = s.crp := rfl
@[simp] theorem State.putSwc_mem (s : State) (v) : (s.putSwc v).mem = s.mem := rfl
@[simp] theorem State.putSwc_evlog (s : State) (v) : (s.putSwc v).evlog = s.evlog := rfl
@[simp] theorem State.putSwc_evLost (s : State) (v) : (s.putSwc v).evLost = s.evLost := rfl
@[simp] theorem State.putSwc_xspi (s : State) (v) : (s.putSwc v).xspi = s.xspi := rfl
@[simp] theorem State.putSwc_parts (s : State) (v) : (s.putSwc v).parts = s.parts := rfl
@[simp] theorem State.putSwc_msix (s : State) (v) : (s.putSwc v).msix = s.msix := rfl
@[simp] theorem State.putSwc_dma (s : State) (v) : (s.putSwc v).dma = s.dma := rfl
@[simp] theorem State.putSwc_ntu (s : State) (v) : (s.putSwc v).ntu = s.ntu := rfl
@[simp] theorem State.putSwc_image (s : State) (v) : (s.putSwc v).image = s.image := rfl
@[simp] theorem State.putSwc_epc (s : State) (v) : (s.putSwc v).epc = s.epc := rfl
@[simp] theorem State.putSwc_swc (s : State) (v) : (s.putSwc v).swc = v := rfl
@[simp] theorem State.putSwc_rooks (s : State) (v) : (s.putSwc v).rooks = s.rooks := rfl
@[simp] theorem State.putSwc_cmap (s : State) (v) : (s.putSwc v).cmap = s.cmap := rfl
@[simp] theorem State.putSwc_cbc (s : State) (v) : (s.putSwc v).cbc = s.cbc := rfl
@[simp] theorem State.putSwc_can (s : State) (v) : (s.putSwc v).can = s.can := rfl
@[simp] theorem State.putSwc_pawns (s : State) (v) : (s.putSwc v).pawns = s.pawns := rfl
@[simp] theorem State.putSwc_ace (s : State) (v) : (s.putSwc v).ace = s.ace := rfl
@[simp] theorem State.putSwc_sfi (s : State) (v) : (s.putSwc v).sfi = s.sfi := rfl
@[simp] theorem State.putSwc_mqf (s : State) (v) : (s.putSwc v).mqf = s.mqf := rfl
@[simp] theorem State.putSwc_dcp (s : State) (v) : (s.putSwc v).dcp = s.dcp := rfl
@[simp] theorem State.putSwc_readData (s : State) (v) : (s.putSwc v).readData = s.readData := rfl
@[simp] theorem State.putSwc_readBytes (s : State) (v) : (s.putSwc v).readBytes = s.readBytes := rfl
@[simp] theorem State.putSwc_readPoison (s : State) (v) : (s.putSwc v).readPoison = s.readPoison := rfl
@[simp] theorem State.reg_putSwc (s : State) (v) (a : Nat) : (s.putSwc v).reg a = s.reg a := rfl
@[simp] theorem State.rd_putSwc (s : State) (v) (f : Fld) : (s.putSwc v).rd f = s.rd f := rfl
@[simp] theorem State.bit_putSwc (s : State) (v) (f : Fld) : (s.putSwc v).bit f = s.bit f := rfl

/-! ## putRooks -/

@[simp] theorem State.putRooks_pending (s : State) (v) : (s.putRooks v).pending = s.pending := rfl
@[simp] theorem State.putRooks_variantS (s : State) (v) : (s.putRooks v).variantS = s.variantS := rfl
@[simp] theorem State.putRooks_free (s : State) (v) : (s.putRooks v).free = s.free := rfl
@[simp] theorem State.putRooks_regs (s : State) (v) : (s.putRooks v).regs = s.regs := rfl
@[simp] theorem State.putRooks_sram (s : State) (v) : (s.putRooks v).sram = s.sram := rfl
@[simp] theorem State.putRooks_mram (s : State) (v) : (s.putRooks v).mram = s.mram := rfl
@[simp] theorem State.putRooks_pmem (s : State) (v) : (s.putRooks v).pmem = s.pmem := rfl
@[simp] theorem State.putRooks_pendMode (s : State) (v) : (s.putRooks v).pendMode = s.pendMode := rfl
@[simp] theorem State.putRooks_modeAt (s : State) (v) : (s.putRooks v).modeAt = s.modeAt := rfl
@[simp] theorem State.putRooks_boot (s : State) (v) : (s.putRooks v).boot = s.boot := rfl
@[simp] theorem State.putRooks_crp (s : State) (v) : (s.putRooks v).crp = s.crp := rfl
@[simp] theorem State.putRooks_mem (s : State) (v) : (s.putRooks v).mem = s.mem := rfl
@[simp] theorem State.putRooks_evlog (s : State) (v) : (s.putRooks v).evlog = s.evlog := rfl
@[simp] theorem State.putRooks_evLost (s : State) (v) : (s.putRooks v).evLost = s.evLost := rfl
@[simp] theorem State.putRooks_xspi (s : State) (v) : (s.putRooks v).xspi = s.xspi := rfl
@[simp] theorem State.putRooks_parts (s : State) (v) : (s.putRooks v).parts = s.parts := rfl
@[simp] theorem State.putRooks_msix (s : State) (v) : (s.putRooks v).msix = s.msix := rfl
@[simp] theorem State.putRooks_dma (s : State) (v) : (s.putRooks v).dma = s.dma := rfl
@[simp] theorem State.putRooks_ntu (s : State) (v) : (s.putRooks v).ntu = s.ntu := rfl
@[simp] theorem State.putRooks_image (s : State) (v) : (s.putRooks v).image = s.image := rfl
@[simp] theorem State.putRooks_epc (s : State) (v) : (s.putRooks v).epc = s.epc := rfl
@[simp] theorem State.putRooks_swc (s : State) (v) : (s.putRooks v).swc = s.swc := rfl
@[simp] theorem State.putRooks_rooks (s : State) (v) : (s.putRooks v).rooks = v := rfl
@[simp] theorem State.putRooks_cmap (s : State) (v) : (s.putRooks v).cmap = s.cmap := rfl
@[simp] theorem State.putRooks_cbc (s : State) (v) : (s.putRooks v).cbc = s.cbc := rfl
@[simp] theorem State.putRooks_can (s : State) (v) : (s.putRooks v).can = s.can := rfl
@[simp] theorem State.putRooks_pawns (s : State) (v) : (s.putRooks v).pawns = s.pawns := rfl
@[simp] theorem State.putRooks_ace (s : State) (v) : (s.putRooks v).ace = s.ace := rfl
@[simp] theorem State.putRooks_sfi (s : State) (v) : (s.putRooks v).sfi = s.sfi := rfl
@[simp] theorem State.putRooks_mqf (s : State) (v) : (s.putRooks v).mqf = s.mqf := rfl
@[simp] theorem State.putRooks_dcp (s : State) (v) : (s.putRooks v).dcp = s.dcp := rfl
@[simp] theorem State.putRooks_readData (s : State) (v) : (s.putRooks v).readData = s.readData := rfl
@[simp] theorem State.putRooks_readBytes (s : State) (v) : (s.putRooks v).readBytes = s.readBytes := rfl
@[simp] theorem State.putRooks_readPoison (s : State) (v) : (s.putRooks v).readPoison = s.readPoison := rfl
@[simp] theorem State.reg_putRooks (s : State) (v) (a : Nat) : (s.putRooks v).reg a = s.reg a := rfl
@[simp] theorem State.rd_putRooks (s : State) (v) (f : Fld) : (s.putRooks v).rd f = s.rd f := rfl
@[simp] theorem State.bit_putRooks (s : State) (v) (f : Fld) : (s.putRooks v).bit f = s.bit f := rfl

/-! ## putCmap -/

@[simp] theorem State.putCmap_pending (s : State) (v) : (s.putCmap v).pending = s.pending := rfl
@[simp] theorem State.putCmap_variantS (s : State) (v) : (s.putCmap v).variantS = s.variantS := rfl
@[simp] theorem State.putCmap_free (s : State) (v) : (s.putCmap v).free = s.free := rfl
@[simp] theorem State.putCmap_regs (s : State) (v) : (s.putCmap v).regs = s.regs := rfl
@[simp] theorem State.putCmap_sram (s : State) (v) : (s.putCmap v).sram = s.sram := rfl
@[simp] theorem State.putCmap_mram (s : State) (v) : (s.putCmap v).mram = s.mram := rfl
@[simp] theorem State.putCmap_pmem (s : State) (v) : (s.putCmap v).pmem = s.pmem := rfl
@[simp] theorem State.putCmap_pendMode (s : State) (v) : (s.putCmap v).pendMode = s.pendMode := rfl
@[simp] theorem State.putCmap_modeAt (s : State) (v) : (s.putCmap v).modeAt = s.modeAt := rfl
@[simp] theorem State.putCmap_boot (s : State) (v) : (s.putCmap v).boot = s.boot := rfl
@[simp] theorem State.putCmap_crp (s : State) (v) : (s.putCmap v).crp = s.crp := rfl
@[simp] theorem State.putCmap_mem (s : State) (v) : (s.putCmap v).mem = s.mem := rfl
@[simp] theorem State.putCmap_evlog (s : State) (v) : (s.putCmap v).evlog = s.evlog := rfl
@[simp] theorem State.putCmap_evLost (s : State) (v) : (s.putCmap v).evLost = s.evLost := rfl
@[simp] theorem State.putCmap_xspi (s : State) (v) : (s.putCmap v).xspi = s.xspi := rfl
@[simp] theorem State.putCmap_parts (s : State) (v) : (s.putCmap v).parts = s.parts := rfl
@[simp] theorem State.putCmap_msix (s : State) (v) : (s.putCmap v).msix = s.msix := rfl
@[simp] theorem State.putCmap_dma (s : State) (v) : (s.putCmap v).dma = s.dma := rfl
@[simp] theorem State.putCmap_ntu (s : State) (v) : (s.putCmap v).ntu = s.ntu := rfl
@[simp] theorem State.putCmap_image (s : State) (v) : (s.putCmap v).image = s.image := rfl
@[simp] theorem State.putCmap_epc (s : State) (v) : (s.putCmap v).epc = s.epc := rfl
@[simp] theorem State.putCmap_swc (s : State) (v) : (s.putCmap v).swc = s.swc := rfl
@[simp] theorem State.putCmap_rooks (s : State) (v) : (s.putCmap v).rooks = s.rooks := rfl
@[simp] theorem State.putCmap_cmap (s : State) (v) : (s.putCmap v).cmap = v := rfl
@[simp] theorem State.putCmap_cbc (s : State) (v) : (s.putCmap v).cbc = s.cbc := rfl
@[simp] theorem State.putCmap_can (s : State) (v) : (s.putCmap v).can = s.can := rfl
@[simp] theorem State.putCmap_pawns (s : State) (v) : (s.putCmap v).pawns = s.pawns := rfl
@[simp] theorem State.putCmap_ace (s : State) (v) : (s.putCmap v).ace = s.ace := rfl
@[simp] theorem State.putCmap_sfi (s : State) (v) : (s.putCmap v).sfi = s.sfi := rfl
@[simp] theorem State.putCmap_mqf (s : State) (v) : (s.putCmap v).mqf = s.mqf := rfl
@[simp] theorem State.putCmap_dcp (s : State) (v) : (s.putCmap v).dcp = s.dcp := rfl
@[simp] theorem State.putCmap_readData (s : State) (v) : (s.putCmap v).readData = s.readData := rfl
@[simp] theorem State.putCmap_readBytes (s : State) (v) : (s.putCmap v).readBytes = s.readBytes := rfl
@[simp] theorem State.putCmap_readPoison (s : State) (v) : (s.putCmap v).readPoison = s.readPoison := rfl
@[simp] theorem State.reg_putCmap (s : State) (v) (a : Nat) : (s.putCmap v).reg a = s.reg a := rfl
@[simp] theorem State.rd_putCmap (s : State) (v) (f : Fld) : (s.putCmap v).rd f = s.rd f := rfl
@[simp] theorem State.bit_putCmap (s : State) (v) (f : Fld) : (s.putCmap v).bit f = s.bit f := rfl

/-! ## putCbc -/

@[simp] theorem State.putCbc_pending (s : State) (v) : (s.putCbc v).pending = s.pending := rfl
@[simp] theorem State.putCbc_variantS (s : State) (v) : (s.putCbc v).variantS = s.variantS := rfl
@[simp] theorem State.putCbc_free (s : State) (v) : (s.putCbc v).free = s.free := rfl
@[simp] theorem State.putCbc_regs (s : State) (v) : (s.putCbc v).regs = s.regs := rfl
@[simp] theorem State.putCbc_sram (s : State) (v) : (s.putCbc v).sram = s.sram := rfl
@[simp] theorem State.putCbc_mram (s : State) (v) : (s.putCbc v).mram = s.mram := rfl
@[simp] theorem State.putCbc_pmem (s : State) (v) : (s.putCbc v).pmem = s.pmem := rfl
@[simp] theorem State.putCbc_pendMode (s : State) (v) : (s.putCbc v).pendMode = s.pendMode := rfl
@[simp] theorem State.putCbc_modeAt (s : State) (v) : (s.putCbc v).modeAt = s.modeAt := rfl
@[simp] theorem State.putCbc_boot (s : State) (v) : (s.putCbc v).boot = s.boot := rfl
@[simp] theorem State.putCbc_crp (s : State) (v) : (s.putCbc v).crp = s.crp := rfl
@[simp] theorem State.putCbc_mem (s : State) (v) : (s.putCbc v).mem = s.mem := rfl
@[simp] theorem State.putCbc_evlog (s : State) (v) : (s.putCbc v).evlog = s.evlog := rfl
@[simp] theorem State.putCbc_evLost (s : State) (v) : (s.putCbc v).evLost = s.evLost := rfl
@[simp] theorem State.putCbc_xspi (s : State) (v) : (s.putCbc v).xspi = s.xspi := rfl
@[simp] theorem State.putCbc_parts (s : State) (v) : (s.putCbc v).parts = s.parts := rfl
@[simp] theorem State.putCbc_msix (s : State) (v) : (s.putCbc v).msix = s.msix := rfl
@[simp] theorem State.putCbc_dma (s : State) (v) : (s.putCbc v).dma = s.dma := rfl
@[simp] theorem State.putCbc_ntu (s : State) (v) : (s.putCbc v).ntu = s.ntu := rfl
@[simp] theorem State.putCbc_image (s : State) (v) : (s.putCbc v).image = s.image := rfl
@[simp] theorem State.putCbc_epc (s : State) (v) : (s.putCbc v).epc = s.epc := rfl
@[simp] theorem State.putCbc_swc (s : State) (v) : (s.putCbc v).swc = s.swc := rfl
@[simp] theorem State.putCbc_rooks (s : State) (v) : (s.putCbc v).rooks = s.rooks := rfl
@[simp] theorem State.putCbc_cmap (s : State) (v) : (s.putCbc v).cmap = s.cmap := rfl
@[simp] theorem State.putCbc_cbc (s : State) (v) : (s.putCbc v).cbc = v := rfl
@[simp] theorem State.putCbc_can (s : State) (v) : (s.putCbc v).can = s.can := rfl
@[simp] theorem State.putCbc_pawns (s : State) (v) : (s.putCbc v).pawns = s.pawns := rfl
@[simp] theorem State.putCbc_ace (s : State) (v) : (s.putCbc v).ace = s.ace := rfl
@[simp] theorem State.putCbc_sfi (s : State) (v) : (s.putCbc v).sfi = s.sfi := rfl
@[simp] theorem State.putCbc_mqf (s : State) (v) : (s.putCbc v).mqf = s.mqf := rfl
@[simp] theorem State.putCbc_dcp (s : State) (v) : (s.putCbc v).dcp = s.dcp := rfl
@[simp] theorem State.putCbc_readData (s : State) (v) : (s.putCbc v).readData = s.readData := rfl
@[simp] theorem State.putCbc_readBytes (s : State) (v) : (s.putCbc v).readBytes = s.readBytes := rfl
@[simp] theorem State.putCbc_readPoison (s : State) (v) : (s.putCbc v).readPoison = s.readPoison := rfl
@[simp] theorem State.reg_putCbc (s : State) (v) (a : Nat) : (s.putCbc v).reg a = s.reg a := rfl
@[simp] theorem State.rd_putCbc (s : State) (v) (f : Fld) : (s.putCbc v).rd f = s.rd f := rfl
@[simp] theorem State.bit_putCbc (s : State) (v) (f : Fld) : (s.putCbc v).bit f = s.bit f := rfl

/-! ## putCan -/

@[simp] theorem State.putCan_pending (s : State) (v) : (s.putCan v).pending = s.pending := rfl
@[simp] theorem State.putCan_variantS (s : State) (v) : (s.putCan v).variantS = s.variantS := rfl
@[simp] theorem State.putCan_free (s : State) (v) : (s.putCan v).free = s.free := rfl
@[simp] theorem State.putCan_regs (s : State) (v) : (s.putCan v).regs = s.regs := rfl
@[simp] theorem State.putCan_sram (s : State) (v) : (s.putCan v).sram = s.sram := rfl
@[simp] theorem State.putCan_mram (s : State) (v) : (s.putCan v).mram = s.mram := rfl
@[simp] theorem State.putCan_pmem (s : State) (v) : (s.putCan v).pmem = s.pmem := rfl
@[simp] theorem State.putCan_pendMode (s : State) (v) : (s.putCan v).pendMode = s.pendMode := rfl
@[simp] theorem State.putCan_modeAt (s : State) (v) : (s.putCan v).modeAt = s.modeAt := rfl
@[simp] theorem State.putCan_boot (s : State) (v) : (s.putCan v).boot = s.boot := rfl
@[simp] theorem State.putCan_crp (s : State) (v) : (s.putCan v).crp = s.crp := rfl
@[simp] theorem State.putCan_mem (s : State) (v) : (s.putCan v).mem = s.mem := rfl
@[simp] theorem State.putCan_evlog (s : State) (v) : (s.putCan v).evlog = s.evlog := rfl
@[simp] theorem State.putCan_evLost (s : State) (v) : (s.putCan v).evLost = s.evLost := rfl
@[simp] theorem State.putCan_xspi (s : State) (v) : (s.putCan v).xspi = s.xspi := rfl
@[simp] theorem State.putCan_parts (s : State) (v) : (s.putCan v).parts = s.parts := rfl
@[simp] theorem State.putCan_msix (s : State) (v) : (s.putCan v).msix = s.msix := rfl
@[simp] theorem State.putCan_dma (s : State) (v) : (s.putCan v).dma = s.dma := rfl
@[simp] theorem State.putCan_ntu (s : State) (v) : (s.putCan v).ntu = s.ntu := rfl
@[simp] theorem State.putCan_image (s : State) (v) : (s.putCan v).image = s.image := rfl
@[simp] theorem State.putCan_epc (s : State) (v) : (s.putCan v).epc = s.epc := rfl
@[simp] theorem State.putCan_swc (s : State) (v) : (s.putCan v).swc = s.swc := rfl
@[simp] theorem State.putCan_rooks (s : State) (v) : (s.putCan v).rooks = s.rooks := rfl
@[simp] theorem State.putCan_cmap (s : State) (v) : (s.putCan v).cmap = s.cmap := rfl
@[simp] theorem State.putCan_cbc (s : State) (v) : (s.putCan v).cbc = s.cbc := rfl
@[simp] theorem State.putCan_can (s : State) (v) : (s.putCan v).can = v := rfl
@[simp] theorem State.putCan_pawns (s : State) (v) : (s.putCan v).pawns = s.pawns := rfl
@[simp] theorem State.putCan_ace (s : State) (v) : (s.putCan v).ace = s.ace := rfl
@[simp] theorem State.putCan_sfi (s : State) (v) : (s.putCan v).sfi = s.sfi := rfl
@[simp] theorem State.putCan_mqf (s : State) (v) : (s.putCan v).mqf = s.mqf := rfl
@[simp] theorem State.putCan_dcp (s : State) (v) : (s.putCan v).dcp = s.dcp := rfl
@[simp] theorem State.putCan_readData (s : State) (v) : (s.putCan v).readData = s.readData := rfl
@[simp] theorem State.putCan_readBytes (s : State) (v) : (s.putCan v).readBytes = s.readBytes := rfl
@[simp] theorem State.putCan_readPoison (s : State) (v) : (s.putCan v).readPoison = s.readPoison := rfl
@[simp] theorem State.reg_putCan (s : State) (v) (a : Nat) : (s.putCan v).reg a = s.reg a := rfl
@[simp] theorem State.rd_putCan (s : State) (v) (f : Fld) : (s.putCan v).rd f = s.rd f := rfl
@[simp] theorem State.bit_putCan (s : State) (v) (f : Fld) : (s.putCan v).bit f = s.bit f := rfl

/-! ## putPawns -/

@[simp] theorem State.putPawns_pending (s : State) (v) : (s.putPawns v).pending = s.pending := rfl
@[simp] theorem State.putPawns_variantS (s : State) (v) : (s.putPawns v).variantS = s.variantS := rfl
@[simp] theorem State.putPawns_free (s : State) (v) : (s.putPawns v).free = s.free := rfl
@[simp] theorem State.putPawns_regs (s : State) (v) : (s.putPawns v).regs = s.regs := rfl
@[simp] theorem State.putPawns_sram (s : State) (v) : (s.putPawns v).sram = s.sram := rfl
@[simp] theorem State.putPawns_mram (s : State) (v) : (s.putPawns v).mram = s.mram := rfl
@[simp] theorem State.putPawns_pmem (s : State) (v) : (s.putPawns v).pmem = s.pmem := rfl
@[simp] theorem State.putPawns_pendMode (s : State) (v) : (s.putPawns v).pendMode = s.pendMode := rfl
@[simp] theorem State.putPawns_modeAt (s : State) (v) : (s.putPawns v).modeAt = s.modeAt := rfl
@[simp] theorem State.putPawns_boot (s : State) (v) : (s.putPawns v).boot = s.boot := rfl
@[simp] theorem State.putPawns_crp (s : State) (v) : (s.putPawns v).crp = s.crp := rfl
@[simp] theorem State.putPawns_mem (s : State) (v) : (s.putPawns v).mem = s.mem := rfl
@[simp] theorem State.putPawns_evlog (s : State) (v) : (s.putPawns v).evlog = s.evlog := rfl
@[simp] theorem State.putPawns_evLost (s : State) (v) : (s.putPawns v).evLost = s.evLost := rfl
@[simp] theorem State.putPawns_xspi (s : State) (v) : (s.putPawns v).xspi = s.xspi := rfl
@[simp] theorem State.putPawns_parts (s : State) (v) : (s.putPawns v).parts = s.parts := rfl
@[simp] theorem State.putPawns_msix (s : State) (v) : (s.putPawns v).msix = s.msix := rfl
@[simp] theorem State.putPawns_dma (s : State) (v) : (s.putPawns v).dma = s.dma := rfl
@[simp] theorem State.putPawns_ntu (s : State) (v) : (s.putPawns v).ntu = s.ntu := rfl
@[simp] theorem State.putPawns_image (s : State) (v) : (s.putPawns v).image = s.image := rfl
@[simp] theorem State.putPawns_epc (s : State) (v) : (s.putPawns v).epc = s.epc := rfl
@[simp] theorem State.putPawns_swc (s : State) (v) : (s.putPawns v).swc = s.swc := rfl
@[simp] theorem State.putPawns_rooks (s : State) (v) : (s.putPawns v).rooks = s.rooks := rfl
@[simp] theorem State.putPawns_cmap (s : State) (v) : (s.putPawns v).cmap = s.cmap := rfl
@[simp] theorem State.putPawns_cbc (s : State) (v) : (s.putPawns v).cbc = s.cbc := rfl
@[simp] theorem State.putPawns_can (s : State) (v) : (s.putPawns v).can = s.can := rfl
@[simp] theorem State.putPawns_pawns (s : State) (v) : (s.putPawns v).pawns = v := rfl
@[simp] theorem State.putPawns_ace (s : State) (v) : (s.putPawns v).ace = s.ace := rfl
@[simp] theorem State.putPawns_sfi (s : State) (v) : (s.putPawns v).sfi = s.sfi := rfl
@[simp] theorem State.putPawns_mqf (s : State) (v) : (s.putPawns v).mqf = s.mqf := rfl
@[simp] theorem State.putPawns_dcp (s : State) (v) : (s.putPawns v).dcp = s.dcp := rfl
@[simp] theorem State.putPawns_readData (s : State) (v) : (s.putPawns v).readData = s.readData := rfl
@[simp] theorem State.putPawns_readBytes (s : State) (v) : (s.putPawns v).readBytes = s.readBytes := rfl
@[simp] theorem State.putPawns_readPoison (s : State) (v) : (s.putPawns v).readPoison = s.readPoison := rfl
@[simp] theorem State.reg_putPawns (s : State) (v) (a : Nat) : (s.putPawns v).reg a = s.reg a := rfl
@[simp] theorem State.rd_putPawns (s : State) (v) (f : Fld) : (s.putPawns v).rd f = s.rd f := rfl
@[simp] theorem State.bit_putPawns (s : State) (v) (f : Fld) : (s.putPawns v).bit f = s.bit f := rfl

/-! ## putAce -/

@[simp] theorem State.putAce_pending (s : State) (v) : (s.putAce v).pending = s.pending := rfl
@[simp] theorem State.putAce_variantS (s : State) (v) : (s.putAce v).variantS = s.variantS := rfl
@[simp] theorem State.putAce_free (s : State) (v) : (s.putAce v).free = s.free := rfl
@[simp] theorem State.putAce_regs (s : State) (v) : (s.putAce v).regs = s.regs := rfl
@[simp] theorem State.putAce_sram (s : State) (v) : (s.putAce v).sram = s.sram := rfl
@[simp] theorem State.putAce_mram (s : State) (v) : (s.putAce v).mram = s.mram := rfl
@[simp] theorem State.putAce_pmem (s : State) (v) : (s.putAce v).pmem = s.pmem := rfl
@[simp] theorem State.putAce_pendMode (s : State) (v) : (s.putAce v).pendMode = s.pendMode := rfl
@[simp] theorem State.putAce_modeAt (s : State) (v) : (s.putAce v).modeAt = s.modeAt := rfl
@[simp] theorem State.putAce_boot (s : State) (v) : (s.putAce v).boot = s.boot := rfl
@[simp] theorem State.putAce_crp (s : State) (v) : (s.putAce v).crp = s.crp := rfl
@[simp] theorem State.putAce_mem (s : State) (v) : (s.putAce v).mem = s.mem := rfl
@[simp] theorem State.putAce_evlog (s : State) (v) : (s.putAce v).evlog = s.evlog := rfl
@[simp] theorem State.putAce_evLost (s : State) (v) : (s.putAce v).evLost = s.evLost := rfl
@[simp] theorem State.putAce_xspi (s : State) (v) : (s.putAce v).xspi = s.xspi := rfl
@[simp] theorem State.putAce_parts (s : State) (v) : (s.putAce v).parts = s.parts := rfl
@[simp] theorem State.putAce_msix (s : State) (v) : (s.putAce v).msix = s.msix := rfl
@[simp] theorem State.putAce_dma (s : State) (v) : (s.putAce v).dma = s.dma := rfl
@[simp] theorem State.putAce_ntu (s : State) (v) : (s.putAce v).ntu = s.ntu := rfl
@[simp] theorem State.putAce_image (s : State) (v) : (s.putAce v).image = s.image := rfl
@[simp] theorem State.putAce_epc (s : State) (v) : (s.putAce v).epc = s.epc := rfl
@[simp] theorem State.putAce_swc (s : State) (v) : (s.putAce v).swc = s.swc := rfl
@[simp] theorem State.putAce_rooks (s : State) (v) : (s.putAce v).rooks = s.rooks := rfl
@[simp] theorem State.putAce_cmap (s : State) (v) : (s.putAce v).cmap = s.cmap := rfl
@[simp] theorem State.putAce_cbc (s : State) (v) : (s.putAce v).cbc = s.cbc := rfl
@[simp] theorem State.putAce_can (s : State) (v) : (s.putAce v).can = s.can := rfl
@[simp] theorem State.putAce_pawns (s : State) (v) : (s.putAce v).pawns = s.pawns := rfl
@[simp] theorem State.putAce_ace (s : State) (v) : (s.putAce v).ace = v := rfl
@[simp] theorem State.putAce_sfi (s : State) (v) : (s.putAce v).sfi = s.sfi := rfl
@[simp] theorem State.putAce_mqf (s : State) (v) : (s.putAce v).mqf = s.mqf := rfl
@[simp] theorem State.putAce_dcp (s : State) (v) : (s.putAce v).dcp = s.dcp := rfl
@[simp] theorem State.putAce_readData (s : State) (v) : (s.putAce v).readData = s.readData := rfl
@[simp] theorem State.putAce_readBytes (s : State) (v) : (s.putAce v).readBytes = s.readBytes := rfl
@[simp] theorem State.putAce_readPoison (s : State) (v) : (s.putAce v).readPoison = s.readPoison := rfl
@[simp] theorem State.reg_putAce (s : State) (v) (a : Nat) : (s.putAce v).reg a = s.reg a := rfl
@[simp] theorem State.rd_putAce (s : State) (v) (f : Fld) : (s.putAce v).rd f = s.rd f := rfl
@[simp] theorem State.bit_putAce (s : State) (v) (f : Fld) : (s.putAce v).bit f = s.bit f := rfl

/-! ## putSfi -/

@[simp] theorem State.putSfi_pending (s : State) (v) : (s.putSfi v).pending = s.pending := rfl
@[simp] theorem State.putSfi_variantS (s : State) (v) : (s.putSfi v).variantS = s.variantS := rfl
@[simp] theorem State.putSfi_free (s : State) (v) : (s.putSfi v).free = s.free := rfl
@[simp] theorem State.putSfi_regs (s : State) (v) : (s.putSfi v).regs = s.regs := rfl
@[simp] theorem State.putSfi_sram (s : State) (v) : (s.putSfi v).sram = s.sram := rfl
@[simp] theorem State.putSfi_mram (s : State) (v) : (s.putSfi v).mram = s.mram := rfl
@[simp] theorem State.putSfi_pmem (s : State) (v) : (s.putSfi v).pmem = s.pmem := rfl
@[simp] theorem State.putSfi_pendMode (s : State) (v) : (s.putSfi v).pendMode = s.pendMode := rfl
@[simp] theorem State.putSfi_modeAt (s : State) (v) : (s.putSfi v).modeAt = s.modeAt := rfl
@[simp] theorem State.putSfi_boot (s : State) (v) : (s.putSfi v).boot = s.boot := rfl
@[simp] theorem State.putSfi_crp (s : State) (v) : (s.putSfi v).crp = s.crp := rfl
@[simp] theorem State.putSfi_mem (s : State) (v) : (s.putSfi v).mem = s.mem := rfl
@[simp] theorem State.putSfi_evlog (s : State) (v) : (s.putSfi v).evlog = s.evlog := rfl
@[simp] theorem State.putSfi_evLost (s : State) (v) : (s.putSfi v).evLost = s.evLost := rfl
@[simp] theorem State.putSfi_xspi (s : State) (v) : (s.putSfi v).xspi = s.xspi := rfl
@[simp] theorem State.putSfi_parts (s : State) (v) : (s.putSfi v).parts = s.parts := rfl
@[simp] theorem State.putSfi_msix (s : State) (v) : (s.putSfi v).msix = s.msix := rfl
@[simp] theorem State.putSfi_dma (s : State) (v) : (s.putSfi v).dma = s.dma := rfl
@[simp] theorem State.putSfi_ntu (s : State) (v) : (s.putSfi v).ntu = s.ntu := rfl
@[simp] theorem State.putSfi_image (s : State) (v) : (s.putSfi v).image = s.image := rfl
@[simp] theorem State.putSfi_epc (s : State) (v) : (s.putSfi v).epc = s.epc := rfl
@[simp] theorem State.putSfi_swc (s : State) (v) : (s.putSfi v).swc = s.swc := rfl
@[simp] theorem State.putSfi_rooks (s : State) (v) : (s.putSfi v).rooks = s.rooks := rfl
@[simp] theorem State.putSfi_cmap (s : State) (v) : (s.putSfi v).cmap = s.cmap := rfl
@[simp] theorem State.putSfi_cbc (s : State) (v) : (s.putSfi v).cbc = s.cbc := rfl
@[simp] theorem State.putSfi_can (s : State) (v) : (s.putSfi v).can = s.can := rfl
@[simp] theorem State.putSfi_pawns (s : State) (v) : (s.putSfi v).pawns = s.pawns := rfl
@[simp] theorem State.putSfi_ace (s : State) (v) : (s.putSfi v).ace = s.ace := rfl
@[simp] theorem State.putSfi_sfi (s : State) (v) : (s.putSfi v).sfi = v := rfl
@[simp] theorem State.putSfi_mqf (s : State) (v) : (s.putSfi v).mqf = s.mqf := rfl
@[simp] theorem State.putSfi_dcp (s : State) (v) : (s.putSfi v).dcp = s.dcp := rfl
@[simp] theorem State.putSfi_readData (s : State) (v) : (s.putSfi v).readData = s.readData := rfl
@[simp] theorem State.putSfi_readBytes (s : State) (v) : (s.putSfi v).readBytes = s.readBytes := rfl
@[simp] theorem State.putSfi_readPoison (s : State) (v) : (s.putSfi v).readPoison = s.readPoison := rfl
@[simp] theorem State.reg_putSfi (s : State) (v) (a : Nat) : (s.putSfi v).reg a = s.reg a := rfl
@[simp] theorem State.rd_putSfi (s : State) (v) (f : Fld) : (s.putSfi v).rd f = s.rd f := rfl
@[simp] theorem State.bit_putSfi (s : State) (v) (f : Fld) : (s.putSfi v).bit f = s.bit f := rfl

/-! ## putMqf -/

@[simp] theorem State.putMqf_pending (s : State) (v) : (s.putMqf v).pending = s.pending := rfl
@[simp] theorem State.putMqf_variantS (s : State) (v) : (s.putMqf v).variantS = s.variantS := rfl
@[simp] theorem State.putMqf_free (s : State) (v) : (s.putMqf v).free = s.free := rfl
@[simp] theorem State.putMqf_regs (s : State) (v) : (s.putMqf v).regs = s.regs := rfl
@[simp] theorem State.putMqf_sram (s : State) (v) : (s.putMqf v).sram = s.sram := rfl
@[simp] theorem State.putMqf_mram (s : State) (v) : (s.putMqf v).mram = s.mram := rfl
@[simp] theorem State.putMqf_pmem (s : State) (v) : (s.putMqf v).pmem = s.pmem := rfl
@[simp] theorem State.putMqf_pendMode (s : State) (v) : (s.putMqf v).pendMode = s.pendMode := rfl
@[simp] theorem State.putMqf_modeAt (s : State) (v) : (s.putMqf v).modeAt = s.modeAt := rfl
@[simp] theorem State.putMqf_boot (s : State) (v) : (s.putMqf v).boot = s.boot := rfl
@[simp] theorem State.putMqf_crp (s : State) (v) : (s.putMqf v).crp = s.crp := rfl
@[simp] theorem State.putMqf_mem (s : State) (v) : (s.putMqf v).mem = s.mem := rfl
@[simp] theorem State.putMqf_evlog (s : State) (v) : (s.putMqf v).evlog = s.evlog := rfl
@[simp] theorem State.putMqf_evLost (s : State) (v) : (s.putMqf v).evLost = s.evLost := rfl
@[simp] theorem State.putMqf_xspi (s : State) (v) : (s.putMqf v).xspi = s.xspi := rfl
@[simp] theorem State.putMqf_parts (s : State) (v) : (s.putMqf v).parts = s.parts := rfl
@[simp] theorem State.putMqf_msix (s : State) (v) : (s.putMqf v).msix = s.msix := rfl
@[simp] theorem State.putMqf_dma (s : State) (v) : (s.putMqf v).dma = s.dma := rfl
@[simp] theorem State.putMqf_ntu (s : State) (v) : (s.putMqf v).ntu = s.ntu := rfl
@[simp] theorem State.putMqf_image (s : State) (v) : (s.putMqf v).image = s.image := rfl
@[simp] theorem State.putMqf_epc (s : State) (v) : (s.putMqf v).epc = s.epc := rfl
@[simp] theorem State.putMqf_swc (s : State) (v) : (s.putMqf v).swc = s.swc := rfl
@[simp] theorem State.putMqf_rooks (s : State) (v) : (s.putMqf v).rooks = s.rooks := rfl
@[simp] theorem State.putMqf_cmap (s : State) (v) : (s.putMqf v).cmap = s.cmap := rfl
@[simp] theorem State.putMqf_cbc (s : State) (v) : (s.putMqf v).cbc = s.cbc := rfl
@[simp] theorem State.putMqf_can (s : State) (v) : (s.putMqf v).can = s.can := rfl
@[simp] theorem State.putMqf_pawns (s : State) (v) : (s.putMqf v).pawns = s.pawns := rfl
@[simp] theorem State.putMqf_ace (s : State) (v) : (s.putMqf v).ace = s.ace := rfl
@[simp] theorem State.putMqf_sfi (s : State) (v) : (s.putMqf v).sfi = s.sfi := rfl
@[simp] theorem State.putMqf_mqf (s : State) (v) : (s.putMqf v).mqf = v := rfl
@[simp] theorem State.putMqf_dcp (s : State) (v) : (s.putMqf v).dcp = s.dcp := rfl
@[simp] theorem State.putMqf_readData (s : State) (v) : (s.putMqf v).readData = s.readData := rfl
@[simp] theorem State.putMqf_readBytes (s : State) (v) : (s.putMqf v).readBytes = s.readBytes := rfl
@[simp] theorem State.putMqf_readPoison (s : State) (v) : (s.putMqf v).readPoison = s.readPoison := rfl
@[simp] theorem State.reg_putMqf (s : State) (v) (a : Nat) : (s.putMqf v).reg a = s.reg a := rfl
@[simp] theorem State.rd_putMqf (s : State) (v) (f : Fld) : (s.putMqf v).rd f = s.rd f := rfl
@[simp] theorem State.bit_putMqf (s : State) (v) (f : Fld) : (s.putMqf v).bit f = s.bit f := rfl

/-! ## putDcp -/

@[simp] theorem State.putDcp_pending (s : State) (v) : (s.putDcp v).pending = s.pending := rfl
@[simp] theorem State.putDcp_variantS (s : State) (v) : (s.putDcp v).variantS = s.variantS := rfl
@[simp] theorem State.putDcp_free (s : State) (v) : (s.putDcp v).free = s.free := rfl
@[simp] theorem State.putDcp_regs (s : State) (v) : (s.putDcp v).regs = s.regs := rfl
@[simp] theorem State.putDcp_sram (s : State) (v) : (s.putDcp v).sram = s.sram := rfl
@[simp] theorem State.putDcp_mram (s : State) (v) : (s.putDcp v).mram = s.mram := rfl
@[simp] theorem State.putDcp_pmem (s : State) (v) : (s.putDcp v).pmem = s.pmem := rfl
@[simp] theorem State.putDcp_pendMode (s : State) (v) : (s.putDcp v).pendMode = s.pendMode := rfl
@[simp] theorem State.putDcp_modeAt (s : State) (v) : (s.putDcp v).modeAt = s.modeAt := rfl
@[simp] theorem State.putDcp_boot (s : State) (v) : (s.putDcp v).boot = s.boot := rfl
@[simp] theorem State.putDcp_crp (s : State) (v) : (s.putDcp v).crp = s.crp := rfl
@[simp] theorem State.putDcp_mem (s : State) (v) : (s.putDcp v).mem = s.mem := rfl
@[simp] theorem State.putDcp_evlog (s : State) (v) : (s.putDcp v).evlog = s.evlog := rfl
@[simp] theorem State.putDcp_evLost (s : State) (v) : (s.putDcp v).evLost = s.evLost := rfl
@[simp] theorem State.putDcp_xspi (s : State) (v) : (s.putDcp v).xspi = s.xspi := rfl
@[simp] theorem State.putDcp_parts (s : State) (v) : (s.putDcp v).parts = s.parts := rfl
@[simp] theorem State.putDcp_msix (s : State) (v) : (s.putDcp v).msix = s.msix := rfl
@[simp] theorem State.putDcp_dma (s : State) (v) : (s.putDcp v).dma = s.dma := rfl
@[simp] theorem State.putDcp_ntu (s : State) (v) : (s.putDcp v).ntu = s.ntu := rfl
@[simp] theorem State.putDcp_image (s : State) (v) : (s.putDcp v).image = s.image := rfl
@[simp] theorem State.putDcp_epc (s : State) (v) : (s.putDcp v).epc = s.epc := rfl
@[simp] theorem State.putDcp_swc (s : State) (v) : (s.putDcp v).swc = s.swc := rfl
@[simp] theorem State.putDcp_rooks (s : State) (v) : (s.putDcp v).rooks = s.rooks := rfl
@[simp] theorem State.putDcp_cmap (s : State) (v) : (s.putDcp v).cmap = s.cmap := rfl
@[simp] theorem State.putDcp_cbc (s : State) (v) : (s.putDcp v).cbc = s.cbc := rfl
@[simp] theorem State.putDcp_can (s : State) (v) : (s.putDcp v).can = s.can := rfl
@[simp] theorem State.putDcp_pawns (s : State) (v) : (s.putDcp v).pawns = s.pawns := rfl
@[simp] theorem State.putDcp_ace (s : State) (v) : (s.putDcp v).ace = s.ace := rfl
@[simp] theorem State.putDcp_sfi (s : State) (v) : (s.putDcp v).sfi = s.sfi := rfl
@[simp] theorem State.putDcp_mqf (s : State) (v) : (s.putDcp v).mqf = s.mqf := rfl
@[simp] theorem State.putDcp_dcp (s : State) (v) : (s.putDcp v).dcp = v := rfl
@[simp] theorem State.putDcp_readData (s : State) (v) : (s.putDcp v).readData = s.readData := rfl
@[simp] theorem State.putDcp_readBytes (s : State) (v) : (s.putDcp v).readBytes = s.readBytes := rfl
@[simp] theorem State.putDcp_readPoison (s : State) (v) : (s.putDcp v).readPoison = s.readPoison := rfl
@[simp] theorem State.reg_putDcp (s : State) (v) (a : Nat) : (s.putDcp v).reg a = s.reg a := rfl
@[simp] theorem State.rd_putDcp (s : State) (v) (f : Fld) : (s.putDcp v).rd f = s.rd f := rfl
@[simp] theorem State.bit_putDcp (s : State) (v) (f : Fld) : (s.putDcp v).bit f = s.bit f := rfl

/-! ## putReadData -/

@[simp] theorem State.putReadData_pending (s : State) (v) : (s.putReadData v).pending = s.pending := rfl
@[simp] theorem State.putReadData_variantS (s : State) (v) : (s.putReadData v).variantS = s.variantS := rfl
@[simp] theorem State.putReadData_free (s : State) (v) : (s.putReadData v).free = s.free := rfl
@[simp] theorem State.putReadData_regs (s : State) (v) : (s.putReadData v).regs = s.regs := rfl
@[simp] theorem State.putReadData_sram (s : State) (v) : (s.putReadData v).sram = s.sram := rfl
@[simp] theorem State.putReadData_mram (s : State) (v) : (s.putReadData v).mram = s.mram := rfl
@[simp] theorem State.putReadData_pmem (s : State) (v) : (s.putReadData v).pmem = s.pmem := rfl
@[simp] theorem State.putReadData_pendMode (s : State) (v) : (s.putReadData v).pendMode = s.pendMode := rfl
@[simp] theorem State.putReadData_modeAt (s : State) (v) : (s.putReadData v).modeAt = s.modeAt := rfl
@[simp] theorem State.putReadData_boot (s : State) (v) : (s.putReadData v).boot = s.boot := rfl
@[simp] theorem State.putReadData_crp (s : State) (v) : (s.putReadData v).crp = s.crp := rfl
@[simp] theorem State.putReadData_mem (s : State) (v) : (s.putReadData v).mem = s.mem := rfl
@[simp] theorem State.putReadData_evlog (s : State) (v) : (s.putReadData v).evlog = s.evlog := rfl
@[simp] theorem State.putReadData_evLost (s : State) (v) : (s.putReadData v).evLost = s.evLost := rfl
@[simp] theorem State.putReadData_xspi (s : State) (v) : (s.putReadData v).xspi = s.xspi := rfl
@[simp] theorem State.putReadData_parts (s : State) (v) : (s.putReadData v).parts = s.parts := rfl
@[simp] theorem State.putReadData_msix (s : State) (v) : (s.putReadData v).msix = s.msix := rfl
@[simp] theorem State.putReadData_dma (s : State) (v) : (s.putReadData v).dma = s.dma := rfl
@[simp] theorem State.putReadData_ntu (s : State) (v) : (s.putReadData v).ntu = s.ntu := rfl
@[simp] theorem State.putReadData_image (s : State) (v) : (s.putReadData v).image = s.image := rfl
@[simp] theorem State.putReadData_epc (s : State) (v) : (s.putReadData v).epc = s.epc := rfl
@[simp] theorem State.putReadData_swc (s : State) (v) : (s.putReadData v).swc = s.swc := rfl
@[simp] theorem State.putReadData_rooks (s : State) (v) : (s.putReadData v).rooks = s.rooks := rfl
@[simp] theorem State.putReadData_cmap (s : State) (v) : (s.putReadData v).cmap = s.cmap := rfl
@[simp] theorem State.putReadData_cbc (s : State) (v) : (s.putReadData v).cbc = s.cbc := rfl
@[simp] theorem State.putReadData_can (s : State) (v) : (s.putReadData v).can = s.can := rfl
@[simp] theorem State.putReadData_pawns (s : State) (v) : (s.putReadData v).pawns = s.pawns := rfl
@[simp] theorem State.putReadData_ace (s : State) (v) : (s.putReadData v).ace = s.ace := rfl
@[simp] theorem State.putReadData_sfi (s : State) (v) : (s.putReadData v).sfi = s.sfi := rfl
@[simp] theorem State.putReadData_mqf (s : State) (v) : (s.putReadData v).mqf = s.mqf := rfl
@[simp] theorem State.putReadData_dcp (s : State) (v) : (s.putReadData v).dcp = s.dcp := rfl
@[simp] theorem State.putReadData_readData (s : State) (v) : (s.putReadData v).readData = v := rfl
@[simp] theorem State.putReadData_readBytes (s : State) (v) : (s.putReadData v).readBytes = s.readBytes := rfl
@[simp] theorem State.putReadData_readPoison (s : State) (v) : (s.putReadData v).readPoison = s.readPoison := rfl
@[simp] theorem State.reg_putReadData (s : State) (v) (a : Nat) : (s.putReadData v).reg a = s.reg a := rfl
@[simp] theorem State.rd_putReadData (s : State) (v) (f : Fld) : (s.putReadData v).rd f = s.rd f := rfl
@[simp] theorem State.bit_putReadData (s : State) (v) (f : Fld) : (s.putReadData v).bit f = s.bit f := rfl

/-! ## putReadBytes -/

@[simp] theorem State.putReadBytes_pending (s : State) (v) : (s.putReadBytes v).pending = s.pending := rfl
@[simp] theorem State.putReadBytes_variantS (s : State) (v) : (s.putReadBytes v).variantS = s.variantS := rfl
@[simp] theorem State.putReadBytes_free (s : State) (v) : (s.putReadBytes v).free = s.free := rfl
@[simp] theorem State.putReadBytes_regs (s : State) (v) : (s.putReadBytes v).regs = s.regs := rfl
@[simp] theorem State.putReadBytes_sram (s : State) (v) : (s.putReadBytes v).sram = s.sram := rfl
@[simp] theorem State.putReadBytes_mram (s : State) (v) : (s.putReadBytes v).mram = s.mram := rfl
@[simp] theorem State.putReadBytes_pmem (s : State) (v) : (s.putReadBytes v).pmem = s.pmem := rfl
@[simp] theorem State.putReadBytes_pendMode (s : State) (v) : (s.putReadBytes v).pendMode = s.pendMode := rfl
@[simp] theorem State.putReadBytes_modeAt (s : State) (v) : (s.putReadBytes v).modeAt = s.modeAt := rfl
@[simp] theorem State.putReadBytes_boot (s : State) (v) : (s.putReadBytes v).boot = s.boot := rfl
@[simp] theorem State.putReadBytes_crp (s : State) (v) : (s.putReadBytes v).crp = s.crp := rfl
@[simp] theorem State.putReadBytes_mem (s : State) (v) : (s.putReadBytes v).mem = s.mem := rfl
@[simp] theorem State.putReadBytes_evlog (s : State) (v) : (s.putReadBytes v).evlog = s.evlog := rfl
@[simp] theorem State.putReadBytes_evLost (s : State) (v) : (s.putReadBytes v).evLost = s.evLost := rfl
@[simp] theorem State.putReadBytes_xspi (s : State) (v) : (s.putReadBytes v).xspi = s.xspi := rfl
@[simp] theorem State.putReadBytes_parts (s : State) (v) : (s.putReadBytes v).parts = s.parts := rfl
@[simp] theorem State.putReadBytes_msix (s : State) (v) : (s.putReadBytes v).msix = s.msix := rfl
@[simp] theorem State.putReadBytes_dma (s : State) (v) : (s.putReadBytes v).dma = s.dma := rfl
@[simp] theorem State.putReadBytes_ntu (s : State) (v) : (s.putReadBytes v).ntu = s.ntu := rfl
@[simp] theorem State.putReadBytes_image (s : State) (v) : (s.putReadBytes v).image = s.image := rfl
@[simp] theorem State.putReadBytes_epc (s : State) (v) : (s.putReadBytes v).epc = s.epc := rfl
@[simp] theorem State.putReadBytes_swc (s : State) (v) : (s.putReadBytes v).swc = s.swc := rfl
@[simp] theorem State.putReadBytes_rooks (s : State) (v) : (s.putReadBytes v).rooks = s.rooks := rfl
@[simp] theorem State.putReadBytes_cmap (s : State) (v) : (s.putReadBytes v).cmap = s.cmap := rfl
@[simp] theorem State.putReadBytes_cbc (s : State) (v) : (s.putReadBytes v).cbc = s.cbc := rfl
@[simp] theorem State.putReadBytes_can (s : State) (v) : (s.putReadBytes v).can = s.can := rfl
@[simp] theorem State.putReadBytes_pawns (s : State) (v) : (s.putReadBytes v).pawns = s.pawns := rfl
@[simp] theorem State.putReadBytes_ace (s : State) (v) : (s.putReadBytes v).ace = s.ace := rfl
@[simp] theorem State.putReadBytes_sfi (s : State) (v) : (s.putReadBytes v).sfi = s.sfi := rfl
@[simp] theorem State.putReadBytes_mqf (s : State) (v) : (s.putReadBytes v).mqf = s.mqf := rfl
@[simp] theorem State.putReadBytes_dcp (s : State) (v) : (s.putReadBytes v).dcp = s.dcp := rfl
@[simp] theorem State.putReadBytes_readData (s : State) (v) : (s.putReadBytes v).readData = s.readData := rfl
@[simp] theorem State.putReadBytes_readBytes (s : State) (v) : (s.putReadBytes v).readBytes = v := rfl
@[simp] theorem State.putReadBytes_readPoison (s : State) (v) : (s.putReadBytes v).readPoison = s.readPoison := rfl
@[simp] theorem State.reg_putReadBytes (s : State) (v) (a : Nat) : (s.putReadBytes v).reg a = s.reg a := rfl
@[simp] theorem State.rd_putReadBytes (s : State) (v) (f : Fld) : (s.putReadBytes v).rd f = s.rd f := rfl
@[simp] theorem State.bit_putReadBytes (s : State) (v) (f : Fld) : (s.putReadBytes v).bit f = s.bit f := rfl

/-! ## putReadPoison -/

@[simp] theorem State.putReadPoison_pending (s : State) (v) : (s.putReadPoison v).pending = s.pending := rfl
@[simp] theorem State.putReadPoison_variantS (s : State) (v) : (s.putReadPoison v).variantS = s.variantS := rfl
@[simp] theorem State.putReadPoison_free (s : State) (v) : (s.putReadPoison v).free = s.free := rfl
@[simp] theorem State.putReadPoison_regs (s : State) (v) : (s.putReadPoison v).regs = s.regs := rfl
@[simp] theorem State.putReadPoison_sram (s : State) (v) : (s.putReadPoison v).sram = s.sram := rfl
@[simp] theorem State.putReadPoison_mram (s : State) (v) : (s.putReadPoison v).mram = s.mram := rfl
@[simp] theorem State.putReadPoison_pmem (s : State) (v) : (s.putReadPoison v).pmem = s.pmem := rfl
@[simp] theorem State.putReadPoison_pendMode (s : State) (v) : (s.putReadPoison v).pendMode = s.pendMode := rfl
@[simp] theorem State.putReadPoison_modeAt (s : State) (v) : (s.putReadPoison v).modeAt = s.modeAt := rfl
@[simp] theorem State.putReadPoison_boot (s : State) (v) : (s.putReadPoison v).boot = s.boot := rfl
@[simp] theorem State.putReadPoison_crp (s : State) (v) : (s.putReadPoison v).crp = s.crp := rfl
@[simp] theorem State.putReadPoison_mem (s : State) (v) : (s.putReadPoison v).mem = s.mem := rfl
@[simp] theorem State.putReadPoison_evlog (s : State) (v) : (s.putReadPoison v).evlog = s.evlog := rfl
@[simp] theorem State.putReadPoison_evLost (s : State) (v) : (s.putReadPoison v).evLost = s.evLost := rfl
@[simp] theorem State.putReadPoison_xspi (s : State) (v) : (s.putReadPoison v).xspi = s.xspi := rfl
@[simp] theorem State.putReadPoison_parts (s : State) (v) : (s.putReadPoison v).parts = s.parts := rfl
@[simp] theorem State.putReadPoison_msix (s : State) (v) : (s.putReadPoison v).msix = s.msix := rfl
@[simp] theorem State.putReadPoison_dma (s : State) (v) : (s.putReadPoison v).dma = s.dma := rfl
@[simp] theorem State.putReadPoison_ntu (s : State) (v) : (s.putReadPoison v).ntu = s.ntu := rfl
@[simp] theorem State.putReadPoison_image (s : State) (v) : (s.putReadPoison v).image = s.image := rfl
@[simp] theorem State.putReadPoison_epc (s : State) (v) : (s.putReadPoison v).epc = s.epc := rfl
@[simp] theorem State.putReadPoison_swc (s : State) (v) : (s.putReadPoison v).swc = s.swc := rfl
@[simp] theorem State.putReadPoison_rooks (s : State) (v) : (s.putReadPoison v).rooks = s.rooks := rfl
@[simp] theorem State.putReadPoison_cmap (s : State) (v) : (s.putReadPoison v).cmap = s.cmap := rfl
@[simp] theorem State.putReadPoison_cbc (s : State) (v) : (s.putReadPoison v).cbc = s.cbc := rfl
@[simp] theorem State.putReadPoison_can (s : State) (v) : (s.putReadPoison v).can = s.can := rfl
@[simp] theorem State.putReadPoison_pawns (s : State) (v) : (s.putReadPoison v).pawns = s.pawns := rfl
@[simp] theorem State.putReadPoison_ace (s : State) (v) : (s.putReadPoison v).ace = s.ace := rfl
@[simp] theorem State.putReadPoison_sfi (s : State) (v) : (s.putReadPoison v).sfi = s.sfi := rfl
@[simp] theorem State.putReadPoison_mqf (s : State) (v) : (s.putReadPoison v).mqf = s.mqf := rfl
@[simp] theorem State.putReadPoison_dcp (s : State) (v) : (s.putReadPoison v).dcp = s.dcp := rfl
@[simp] theorem State.putReadPoison_readData (s : State) (v) : (s.putReadPoison v).readData = s.readData := rfl
@[simp] theorem State.putReadPoison_readBytes (s : State) (v) : (s.putReadPoison v).readBytes = s.readBytes := rfl
@[simp] theorem State.putReadPoison_readPoison (s : State) (v) : (s.putReadPoison v).readPoison = v := rfl
@[simp] theorem State.reg_putReadPoison (s : State) (v) (a : Nat) : (s.putReadPoison v).reg a = s.reg a := rfl
@[simp] theorem State.rd_putReadPoison (s : State) (v) (f : Fld) : (s.putReadPoison v).rd f = s.rd f := rfl
@[simp] theorem State.bit_putReadPoison (s : State) (v) (f : Fld) : (s.putReadPoison v).bit f = s.bit f := rfl

/-! ## setReg -/

@[simp] theorem State.setReg_pending (s : State) (a : Nat) (v : Word) : (s.setReg a v).pending = s.pending := rfl
@[simp] theorem State.setReg_variantS (s : State) (a : Nat) (v : Word) : (s.setReg a v).variantS = s.variantS := rfl
@[simp] theorem State.setReg_free (s : State) (a : Nat) (v : Word) : (s.setReg a v).free = s.free := rfl
@[simp] theorem State.setReg_sram (s : State) (a : Nat) (v : Word) : (s.setReg a v).sram = s.sram := rfl
@[simp] theorem State.setReg_mram (s : State) (a : Nat) (v : Word) : (s.setReg a v).mram = s.mram := rfl
@[simp] theorem State.setReg_pmem (s : State) (a : Nat) (v : Word) : (s.setReg a v).pmem = s.pmem := rfl
@[simp] theorem State.setReg_pendMode (s : State) (a : Nat) (v : Word) : (s.setReg a v).pendMode = s.pendMode := rfl
@[simp] theorem State.setReg_modeAt (s : State) (a : Nat) (v : Word) : (s.setReg a v).modeAt = s.modeAt := rfl
@[simp] theorem State.setReg_boot (s : State) (a : Nat) (v : Word) : (s.setReg a v).boot = s.boot := rfl
@[simp] theorem State.setReg_crp (s : State) (a : Nat) (v : Word) : (s.setReg a v).crp = s.crp := rfl
@[simp] theorem State.setReg_mem (s : State) (a : Nat) (v : Word) : (s.setReg a v).mem = s.mem := rfl
@[simp] theorem State.setReg_evlog (s : State) (a : Nat) (v : Word) : (s.setReg a v).evlog = s.evlog := rfl
@[simp] theorem State.setReg_evLost (s : State) (a : Nat) (v : Word) : (s.setReg a v).evLost = s.evLost := rfl
@[simp] theorem State.setReg_xspi (s : State) (a : Nat) (v : Word) : (s.setReg a v).xspi = s.xspi := rfl
@[simp] theorem State.setReg_parts (s : State) (a : Nat) (v : Word) : (s.setReg a v).parts = s.parts := rfl
@[simp] theorem State.setReg_msix (s : State) (a : Nat) (v : Word) : (s.setReg a v).msix = s.msix := rfl
@[simp] theorem State.setReg_dma (s : State) (a : Nat) (v : Word) : (s.setReg a v).dma = s.dma := rfl
@[simp] theorem State.setReg_ntu (s : State) (a : Nat) (v : Word) : (s.setReg a v).ntu = s.ntu := rfl
@[simp] theorem State.setReg_image (s : State) (a : Nat) (v : Word) : (s.setReg a v).image = s.image := rfl
@[simp] theorem State.setReg_epc (s : State) (a : Nat) (v : Word) : (s.setReg a v).epc = s.epc := rfl
@[simp] theorem State.setReg_swc (s : State) (a : Nat) (v : Word) : (s.setReg a v).swc = s.swc := rfl
@[simp] theorem State.setReg_rooks (s : State) (a : Nat) (v : Word) : (s.setReg a v).rooks = s.rooks := rfl
@[simp] theorem State.setReg_cmap (s : State) (a : Nat) (v : Word) : (s.setReg a v).cmap = s.cmap := rfl
@[simp] theorem State.setReg_cbc (s : State) (a : Nat) (v : Word) : (s.setReg a v).cbc = s.cbc := rfl
@[simp] theorem State.setReg_can (s : State) (a : Nat) (v : Word) : (s.setReg a v).can = s.can := rfl
@[simp] theorem State.setReg_pawns (s : State) (a : Nat) (v : Word) : (s.setReg a v).pawns = s.pawns := rfl
@[simp] theorem State.setReg_ace (s : State) (a : Nat) (v : Word) : (s.setReg a v).ace = s.ace := rfl
@[simp] theorem State.setReg_sfi (s : State) (a : Nat) (v : Word) : (s.setReg a v).sfi = s.sfi := rfl
@[simp] theorem State.setReg_mqf (s : State) (a : Nat) (v : Word) : (s.setReg a v).mqf = s.mqf := rfl
@[simp] theorem State.setReg_dcp (s : State) (a : Nat) (v : Word) : (s.setReg a v).dcp = s.dcp := rfl
@[simp] theorem State.setReg_readData (s : State) (a : Nat) (v : Word) : (s.setReg a v).readData = s.readData := rfl
@[simp] theorem State.setReg_readBytes (s : State) (a : Nat) (v : Word) : (s.setReg a v).readBytes = s.readBytes := rfl
@[simp] theorem State.setReg_readPoison (s : State) (a : Nat) (v : Word) : (s.setReg a v).readPoison = s.readPoison := rfl

/-! ## wr -/

@[simp] theorem State.wr_pending (s : State) (f : Fld) (v : Nat) : (s.wr f v).pending = s.pending := rfl
@[simp] theorem State.wr_variantS (s : State) (f : Fld) (v : Nat) : (s.wr f v).variantS = s.variantS := rfl
@[simp] theorem State.wr_free (s : State) (f : Fld) (v : Nat) : (s.wr f v).free = s.free := rfl
@[simp] theorem State.wr_sram (s : State) (f : Fld) (v : Nat) : (s.wr f v).sram = s.sram := rfl
@[simp] theorem State.wr_mram (s : State) (f : Fld) (v : Nat) : (s.wr f v).mram = s.mram := rfl
@[simp] theorem State.wr_pmem (s : State) (f : Fld) (v : Nat) : (s.wr f v).pmem = s.pmem := rfl
@[simp] theorem State.wr_pendMode (s : State) (f : Fld) (v : Nat) : (s.wr f v).pendMode = s.pendMode := rfl
@[simp] theorem State.wr_modeAt (s : State) (f : Fld) (v : Nat) : (s.wr f v).modeAt = s.modeAt := rfl
@[simp] theorem State.wr_boot (s : State) (f : Fld) (v : Nat) : (s.wr f v).boot = s.boot := rfl
@[simp] theorem State.wr_crp (s : State) (f : Fld) (v : Nat) : (s.wr f v).crp = s.crp := rfl
@[simp] theorem State.wr_mem (s : State) (f : Fld) (v : Nat) : (s.wr f v).mem = s.mem := rfl
@[simp] theorem State.wr_evlog (s : State) (f : Fld) (v : Nat) : (s.wr f v).evlog = s.evlog := rfl
@[simp] theorem State.wr_evLost (s : State) (f : Fld) (v : Nat) : (s.wr f v).evLost = s.evLost := rfl
@[simp] theorem State.wr_xspi (s : State) (f : Fld) (v : Nat) : (s.wr f v).xspi = s.xspi := rfl
@[simp] theorem State.wr_parts (s : State) (f : Fld) (v : Nat) : (s.wr f v).parts = s.parts := rfl
@[simp] theorem State.wr_msix (s : State) (f : Fld) (v : Nat) : (s.wr f v).msix = s.msix := rfl
@[simp] theorem State.wr_dma (s : State) (f : Fld) (v : Nat) : (s.wr f v).dma = s.dma := rfl
@[simp] theorem State.wr_ntu (s : State) (f : Fld) (v : Nat) : (s.wr f v).ntu = s.ntu := rfl
@[simp] theorem State.wr_image (s : State) (f : Fld) (v : Nat) : (s.wr f v).image = s.image := rfl
@[simp] theorem State.wr_epc (s : State) (f : Fld) (v : Nat) : (s.wr f v).epc = s.epc := rfl
@[simp] theorem State.wr_swc (s : State) (f : Fld) (v : Nat) : (s.wr f v).swc = s.swc := rfl
@[simp] theorem State.wr_rooks (s : State) (f : Fld) (v : Nat) : (s.wr f v).rooks = s.rooks := rfl
@[simp] theorem State.wr_cmap (s : State) (f : Fld) (v : Nat) : (s.wr f v).cmap = s.cmap := rfl
@[simp] theorem State.wr_cbc (s : State) (f : Fld) (v : Nat) : (s.wr f v).cbc = s.cbc := rfl
@[simp] theorem State.wr_can (s : State) (f : Fld) (v : Nat) : (s.wr f v).can = s.can := rfl
@[simp] theorem State.wr_pawns (s : State) (f : Fld) (v : Nat) : (s.wr f v).pawns = s.pawns := rfl
@[simp] theorem State.wr_ace (s : State) (f : Fld) (v : Nat) : (s.wr f v).ace = s.ace := rfl
@[simp] theorem State.wr_sfi (s : State) (f : Fld) (v : Nat) : (s.wr f v).sfi = s.sfi := rfl
@[simp] theorem State.wr_mqf (s : State) (f : Fld) (v : Nat) : (s.wr f v).mqf = s.mqf := rfl
@[simp] theorem State.wr_dcp (s : State) (f : Fld) (v : Nat) : (s.wr f v).dcp = s.dcp := rfl
@[simp] theorem State.wr_readData (s : State) (f : Fld) (v : Nat) : (s.wr f v).readData = s.readData := rfl
@[simp] theorem State.wr_readBytes (s : State) (f : Fld) (v : Nat) : (s.wr f v).readBytes = s.readBytes := rfl
@[simp] theorem State.wr_readPoison (s : State) (f : Fld) (v : Nat) : (s.wr f v).readPoison = s.readPoison := rfl

/-! ## wrB -/

@[simp] theorem State.wrB_pending (s : State) (f : Fld) (b : Bool) : (s.wrB f b).pending = s.pending := rfl
@[simp] theorem State.wrB_variantS (s : State) (f : Fld) (b : Bool) : (s.wrB f b).variantS = s.variantS := rfl
@[simp] theorem State.wrB_free (s : State) (f : Fld) (b : Bool) : (s.wrB f b).free = s.free := rfl
@[simp] theorem State.wrB_sram (s : State) (f : Fld) (b : Bool) : (s.wrB f b).sram = s.sram := rfl
@[simp] theorem State.wrB_mram (s : State) (f : Fld) (b : Bool) : (s.wrB f b).mram = s.mram := rfl
@[simp] theorem State.wrB_pmem (s : State) (f : Fld) (b : Bool) : (s.wrB f b).pmem = s.pmem := rfl
@[simp] theorem State.wrB_pendMode (s : State) (f : Fld) (b : Bool) : (s.wrB f b).pendMode = s.pendMode := rfl
@[simp] theorem State.wrB_modeAt (s : State) (f : Fld) (b : Bool) : (s.wrB f b).modeAt = s.modeAt := rfl
@[simp] theorem State.wrB_boot (s : State) (f : Fld) (b : Bool) : (s.wrB f b).boot = s.boot := rfl
@[simp] theorem State.wrB_crp (s : State) (f : Fld) (b : Bool) : (s.wrB f b).crp = s.crp := rfl
@[simp] theorem State.wrB_mem (s : State) (f : Fld) (b : Bool) : (s.wrB f b).mem = s.mem := rfl
@[simp] theorem State.wrB_evlog (s : State) (f : Fld) (b : Bool) : (s.wrB f b).evlog = s.evlog := rfl
@[simp] theorem State.wrB_evLost (s : State) (f : Fld) (b : Bool) : (s.wrB f b).evLost = s.evLost := rfl
@[simp] theorem State.wrB_xspi (s : State) (f : Fld) (b : Bool) : (s.wrB f b).xspi = s.xspi := rfl
@[simp] theorem State.wrB_parts (s : State) (f : Fld) (b : Bool) : (s.wrB f b).parts = s.parts := rfl
@[simp] theorem State.wrB_msix (s : State) (f : Fld) (b : Bool) : (s.wrB f b).msix = s.msix := rfl
@[simp] theorem State.wrB_dma (s : State) (f : Fld) (b : Bool) : (s.wrB f b).dma = s.dma := rfl
@[simp] theorem State.wrB_ntu (s : State) (f : Fld) (b : Bool) : (s.wrB f b).ntu = s.ntu := rfl
@[simp] theorem State.wrB_image (s : State) (f : Fld) (b : Bool) : (s.wrB f b).image = s.image := rfl
@[simp] theorem State.wrB_epc (s : State) (f : Fld) (b : Bool) : (s.wrB f b).epc = s.epc := rfl
@[simp] theorem State.wrB_swc (s : State) (f : Fld) (b : Bool) : (s.wrB f b).swc = s.swc := rfl
@[simp] theorem State.wrB_rooks (s : State) (f : Fld) (b : Bool) : (s.wrB f b).rooks = s.rooks := rfl
@[simp] theorem State.wrB_cmap (s : State) (f : Fld) (b : Bool) : (s.wrB f b).cmap = s.cmap := rfl
@[simp] theorem State.wrB_cbc (s : State) (f : Fld) (b : Bool) : (s.wrB f b).cbc = s.cbc := rfl
@[simp] theorem State.wrB_can (s : State) (f : Fld) (b : Bool) : (s.wrB f b).can = s.can := rfl
@[simp] theorem State.wrB_pawns (s : State) (f : Fld) (b : Bool) : (s.wrB f b).pawns = s.pawns := rfl
@[simp] theorem State.wrB_ace (s : State) (f : Fld) (b : Bool) : (s.wrB f b).ace = s.ace := rfl
@[simp] theorem State.wrB_sfi (s : State) (f : Fld) (b : Bool) : (s.wrB f b).sfi = s.sfi := rfl
@[simp] theorem State.wrB_mqf (s : State) (f : Fld) (b : Bool) : (s.wrB f b).mqf = s.mqf := rfl
@[simp] theorem State.wrB_dcp (s : State) (f : Fld) (b : Bool) : (s.wrB f b).dcp = s.dcp := rfl
@[simp] theorem State.wrB_readData (s : State) (f : Fld) (b : Bool) : (s.wrB f b).readData = s.readData := rfl
@[simp] theorem State.wrB_readBytes (s : State) (f : Fld) (b : Bool) : (s.wrB f b).readBytes = s.readBytes := rfl
@[simp] theorem State.wrB_readPoison (s : State) (f : Fld) (b : Bool) : (s.wrB f b).readPoison = s.readPoison := rfl

/-! ## wrI -/

@[simp] theorem State.wrI_pending (s : State) (f : Fld) (v : Int) : (s.wrI f v).pending = s.pending := rfl
@[simp] theorem State.wrI_variantS (s : State) (f : Fld) (v : Int) : (s.wrI f v).variantS = s.variantS := rfl
@[simp] theorem State.wrI_free (s : State) (f : Fld) (v : Int) : (s.wrI f v).free = s.free := rfl
@[simp] theorem State.wrI_sram (s : State) (f : Fld) (v : Int) : (s.wrI f v).sram = s.sram := rfl
@[simp] theorem State.wrI_mram (s : State) (f : Fld) (v : Int) : (s.wrI f v).mram = s.mram := rfl
@[simp] theorem State.wrI_pmem (s : State) (f : Fld) (v : Int) : (s.wrI f v).pmem = s.pmem := rfl
@[simp] theorem State.wrI_pendMode (s : State) (f : Fld) (v : Int) : (s.wrI f v).pendMode = s.pendMode := rfl
@[simp] theorem State.wrI_modeAt (s : State) (f : Fld) (v : Int) : (s.wrI f v).modeAt = s.modeAt := rfl
@[simp] theorem State.wrI_boot (s : State) (f : Fld) (v : Int) : (s.wrI f v).boot = s.boot := rfl
@[simp] theorem State.wrI_crp (s : State) (f : Fld) (v : Int) : (s.wrI f v).crp = s.crp := rfl
@[simp] theorem State.wrI_mem (s : State) (f : Fld) (v : Int) : (s.wrI f v).mem = s.mem := rfl
@[simp] theorem State.wrI_evlog (s : State) (f : Fld) (v : Int) : (s.wrI f v).evlog = s.evlog := rfl
@[simp] theorem State.wrI_evLost (s : State) (f : Fld) (v : Int) : (s.wrI f v).evLost = s.evLost := rfl
@[simp] theorem State.wrI_xspi (s : State) (f : Fld) (v : Int) : (s.wrI f v).xspi = s.xspi := rfl
@[simp] theorem State.wrI_parts (s : State) (f : Fld) (v : Int) : (s.wrI f v).parts = s.parts := rfl
@[simp] theorem State.wrI_msix (s : State) (f : Fld) (v : Int) : (s.wrI f v).msix = s.msix := rfl
@[simp] theorem State.wrI_dma (s : State) (f : Fld) (v : Int) : (s.wrI f v).dma = s.dma := rfl
@[simp] theorem State.wrI_ntu (s : State) (f : Fld) (v : Int) : (s.wrI f v).ntu = s.ntu := rfl
@[simp] theorem State.wrI_image (s : State) (f : Fld) (v : Int) : (s.wrI f v).image = s.image := rfl
@[simp] theorem State.wrI_epc (s : State) (f : Fld) (v : Int) : (s.wrI f v).epc = s.epc := rfl
@[simp] theorem State.wrI_swc (s : State) (f : Fld) (v : Int) : (s.wrI f v).swc = s.swc := rfl
@[simp] theorem State.wrI_rooks (s : State) (f : Fld) (v : Int) : (s.wrI f v).rooks = s.rooks := rfl
@[simp] theorem State.wrI_cmap (s : State) (f : Fld) (v : Int) : (s.wrI f v).cmap = s.cmap := rfl
@[simp] theorem State.wrI_cbc (s : State) (f : Fld) (v : Int) : (s.wrI f v).cbc = s.cbc := rfl
@[simp] theorem State.wrI_can (s : State) (f : Fld) (v : Int) : (s.wrI f v).can = s.can := rfl
@[simp] theorem State.wrI_pawns (s : State) (f : Fld) (v : Int) : (s.wrI f v).pawns = s.pawns := rfl
@[simp] theorem State.wrI_ace (s : State) (f : Fld) (v : Int) : (s.wrI f v).ace = s.ace := rfl
@[simp] theorem State.wrI_sfi (s : State) (f : Fld) (v : Int) : (s.wrI f v).sfi = s.sfi := rfl
@[simp] theorem State.wrI_mqf (s : State) (f : Fld) (v : Int) : (s.wrI f v).mqf = s.mqf := rfl
@[simp] theorem State.wrI_dcp (s : State) (f : Fld) (v : Int) : (s.wrI f v).dcp = s.dcp := rfl
@[simp] theorem State.wrI_readData (s : State) (f : Fld) (v : Int) : (s.wrI f v).readData = s.readData := rfl
@[simp] theorem State.wrI_readBytes (s : State) (f : Fld) (v : Int) : (s.wrI f v).readBytes = s.readBytes := rfl
@[simp] theorem State.wrI_readPoison (s : State) (f : Fld) (v : Int) : (s.wrI f v).readPoison = s.readPoison := rfl

/-! ## incBy -/

@[simp] theorem State.incBy_pending (s : State) (f : Fld) (n : Nat) : (s.incBy f n).pending = s.pending := rfl
@[simp] theorem State.incBy_variantS (s : State) (f : Fld) (n : Nat) : (s.incBy f n).variantS = s.variantS := rfl
@[simp] theorem State.incBy_free (s : State) (f : Fld) (n : Nat) : (s.incBy f n).free = s.free := rfl
@[simp] theorem State.incBy_sram (s : State) (f : Fld) (n : Nat) : (s.incBy f n).sram = s.sram := rfl
@[simp] theorem State.incBy_mram (s : State) (f : Fld) (n : Nat) : (s.incBy f n).mram = s.mram := rfl
@[simp] theorem State.incBy_pmem (s : State) (f : Fld) (n : Nat) : (s.incBy f n).pmem = s.pmem := rfl
@[simp] theorem State.incBy_pendMode (s : State) (f : Fld) (n : Nat) : (s.incBy f n).pendMode = s.pendMode := rfl
@[simp] theorem State.incBy_modeAt (s : State) (f : Fld) (n : Nat) : (s.incBy f n).modeAt = s.modeAt := rfl
@[simp] theorem State.incBy_boot (s : State) (f : Fld) (n : Nat) : (s.incBy f n).boot = s.boot := rfl
@[simp] theorem State.incBy_crp (s : State) (f : Fld) (n : Nat) : (s.incBy f n).crp = s.crp := rfl
@[simp] theorem State.incBy_mem (s : State) (f : Fld) (n : Nat) : (s.incBy f n).mem = s.mem := rfl
@[simp] theorem State.incBy_evlog (s : State) (f : Fld) (n : Nat) : (s.incBy f n).evlog = s.evlog := rfl
@[simp] theorem State.incBy_evLost (s : State) (f : Fld) (n : Nat) : (s.incBy f n).evLost = s.evLost := rfl
@[simp] theorem State.incBy_xspi (s : State) (f : Fld) (n : Nat) : (s.incBy f n).xspi = s.xspi := rfl
@[simp] theorem State.incBy_parts (s : State) (f : Fld) (n : Nat) : (s.incBy f n).parts = s.parts := rfl
@[simp] theorem State.incBy_msix (s : State) (f : Fld) (n : Nat) : (s.incBy f n).msix = s.msix := rfl
@[simp] theorem State.incBy_dma (s : State) (f : Fld) (n : Nat) : (s.incBy f n).dma = s.dma := rfl
@[simp] theorem State.incBy_ntu (s : State) (f : Fld) (n : Nat) : (s.incBy f n).ntu = s.ntu := rfl
@[simp] theorem State.incBy_image (s : State) (f : Fld) (n : Nat) : (s.incBy f n).image = s.image := rfl
@[simp] theorem State.incBy_epc (s : State) (f : Fld) (n : Nat) : (s.incBy f n).epc = s.epc := rfl
@[simp] theorem State.incBy_swc (s : State) (f : Fld) (n : Nat) : (s.incBy f n).swc = s.swc := rfl
@[simp] theorem State.incBy_rooks (s : State) (f : Fld) (n : Nat) : (s.incBy f n).rooks = s.rooks := rfl
@[simp] theorem State.incBy_cmap (s : State) (f : Fld) (n : Nat) : (s.incBy f n).cmap = s.cmap := rfl
@[simp] theorem State.incBy_cbc (s : State) (f : Fld) (n : Nat) : (s.incBy f n).cbc = s.cbc := rfl
@[simp] theorem State.incBy_can (s : State) (f : Fld) (n : Nat) : (s.incBy f n).can = s.can := rfl
@[simp] theorem State.incBy_pawns (s : State) (f : Fld) (n : Nat) : (s.incBy f n).pawns = s.pawns := rfl
@[simp] theorem State.incBy_ace (s : State) (f : Fld) (n : Nat) : (s.incBy f n).ace = s.ace := rfl
@[simp] theorem State.incBy_sfi (s : State) (f : Fld) (n : Nat) : (s.incBy f n).sfi = s.sfi := rfl
@[simp] theorem State.incBy_mqf (s : State) (f : Fld) (n : Nat) : (s.incBy f n).mqf = s.mqf := rfl
@[simp] theorem State.incBy_dcp (s : State) (f : Fld) (n : Nat) : (s.incBy f n).dcp = s.dcp := rfl
@[simp] theorem State.incBy_readData (s : State) (f : Fld) (n : Nat) : (s.incBy f n).readData = s.readData := rfl
@[simp] theorem State.incBy_readBytes (s : State) (f : Fld) (n : Nat) : (s.incBy f n).readBytes = s.readBytes := rfl
@[simp] theorem State.incBy_readPoison (s : State) (f : Fld) (n : Nat) : (s.incBy f n).readPoison = s.readPoison := rfl

/-! ## inc -/

@[simp] theorem State.inc_pending (s : State) (f : Fld) : (s.inc f).pending = s.pending := rfl
@[simp] theorem State.inc_variantS (s : State) (f : Fld) : (s.inc f).variantS = s.variantS := rfl
@[simp] theorem State.inc_free (s : State) (f : Fld) : (s.inc f).free = s.free := rfl
@[simp] theorem State.inc_sram (s : State) (f : Fld) : (s.inc f).sram = s.sram := rfl
@[simp] theorem State.inc_mram (s : State) (f : Fld) : (s.inc f).mram = s.mram := rfl
@[simp] theorem State.inc_pmem (s : State) (f : Fld) : (s.inc f).pmem = s.pmem := rfl
@[simp] theorem State.inc_pendMode (s : State) (f : Fld) : (s.inc f).pendMode = s.pendMode := rfl
@[simp] theorem State.inc_modeAt (s : State) (f : Fld) : (s.inc f).modeAt = s.modeAt := rfl
@[simp] theorem State.inc_boot (s : State) (f : Fld) : (s.inc f).boot = s.boot := rfl
@[simp] theorem State.inc_crp (s : State) (f : Fld) : (s.inc f).crp = s.crp := rfl
@[simp] theorem State.inc_mem (s : State) (f : Fld) : (s.inc f).mem = s.mem := rfl
@[simp] theorem State.inc_evlog (s : State) (f : Fld) : (s.inc f).evlog = s.evlog := rfl
@[simp] theorem State.inc_evLost (s : State) (f : Fld) : (s.inc f).evLost = s.evLost := rfl
@[simp] theorem State.inc_xspi (s : State) (f : Fld) : (s.inc f).xspi = s.xspi := rfl
@[simp] theorem State.inc_parts (s : State) (f : Fld) : (s.inc f).parts = s.parts := rfl
@[simp] theorem State.inc_msix (s : State) (f : Fld) : (s.inc f).msix = s.msix := rfl
@[simp] theorem State.inc_dma (s : State) (f : Fld) : (s.inc f).dma = s.dma := rfl
@[simp] theorem State.inc_ntu (s : State) (f : Fld) : (s.inc f).ntu = s.ntu := rfl
@[simp] theorem State.inc_image (s : State) (f : Fld) : (s.inc f).image = s.image := rfl
@[simp] theorem State.inc_epc (s : State) (f : Fld) : (s.inc f).epc = s.epc := rfl
@[simp] theorem State.inc_swc (s : State) (f : Fld) : (s.inc f).swc = s.swc := rfl
@[simp] theorem State.inc_rooks (s : State) (f : Fld) : (s.inc f).rooks = s.rooks := rfl
@[simp] theorem State.inc_cmap (s : State) (f : Fld) : (s.inc f).cmap = s.cmap := rfl
@[simp] theorem State.inc_cbc (s : State) (f : Fld) : (s.inc f).cbc = s.cbc := rfl
@[simp] theorem State.inc_can (s : State) (f : Fld) : (s.inc f).can = s.can := rfl
@[simp] theorem State.inc_pawns (s : State) (f : Fld) : (s.inc f).pawns = s.pawns := rfl
@[simp] theorem State.inc_ace (s : State) (f : Fld) : (s.inc f).ace = s.ace := rfl
@[simp] theorem State.inc_sfi (s : State) (f : Fld) : (s.inc f).sfi = s.sfi := rfl
@[simp] theorem State.inc_mqf (s : State) (f : Fld) : (s.inc f).mqf = s.mqf := rfl
@[simp] theorem State.inc_dcp (s : State) (f : Fld) : (s.inc f).dcp = s.dcp := rfl
@[simp] theorem State.inc_readData (s : State) (f : Fld) : (s.inc f).readData = s.readData := rfl
@[simp] theorem State.inc_readBytes (s : State) (f : Fld) : (s.inc f).readBytes = s.readBytes := rfl
@[simp] theorem State.inc_readPoison (s : State) (f : Fld) : (s.inc f).readPoison = s.readPoison := rfl

/-! ## incWrap -/

@[simp] theorem State.incWrap_pending (s : State) (f : Fld) : (s.incWrap f).pending = s.pending := rfl
@[simp] theorem State.incWrap_variantS (s : State) (f : Fld) : (s.incWrap f).variantS = s.variantS := rfl
@[simp] theorem State.incWrap_free (s : State) (f : Fld) : (s.incWrap f).free = s.free := rfl
@[simp] theorem State.incWrap_sram (s : State) (f : Fld) : (s.incWrap f).sram = s.sram := rfl
@[simp] theorem State.incWrap_mram (s : State) (f : Fld) : (s.incWrap f).mram = s.mram := rfl
@[simp] theorem State.incWrap_pmem (s : State) (f : Fld) : (s.incWrap f).pmem = s.pmem := rfl
@[simp] theorem State.incWrap_pendMode (s : State) (f : Fld) : (s.incWrap f).pendMode = s.pendMode := rfl
@[simp] theorem State.incWrap_modeAt (s : State) (f : Fld) : (s.incWrap f).modeAt = s.modeAt := rfl
@[simp] theorem State.incWrap_boot (s : State) (f : Fld) : (s.incWrap f).boot = s.boot := rfl
@[simp] theorem State.incWrap_crp (s : State) (f : Fld) : (s.incWrap f).crp = s.crp := rfl
@[simp] theorem State.incWrap_mem (s : State) (f : Fld) : (s.incWrap f).mem = s.mem := rfl
@[simp] theorem State.incWrap_evlog (s : State) (f : Fld) : (s.incWrap f).evlog = s.evlog := rfl
@[simp] theorem State.incWrap_evLost (s : State) (f : Fld) : (s.incWrap f).evLost = s.evLost := rfl
@[simp] theorem State.incWrap_xspi (s : State) (f : Fld) : (s.incWrap f).xspi = s.xspi := rfl
@[simp] theorem State.incWrap_parts (s : State) (f : Fld) : (s.incWrap f).parts = s.parts := rfl
@[simp] theorem State.incWrap_msix (s : State) (f : Fld) : (s.incWrap f).msix = s.msix := rfl
@[simp] theorem State.incWrap_dma (s : State) (f : Fld) : (s.incWrap f).dma = s.dma := rfl
@[simp] theorem State.incWrap_ntu (s : State) (f : Fld) : (s.incWrap f).ntu = s.ntu := rfl
@[simp] theorem State.incWrap_image (s : State) (f : Fld) : (s.incWrap f).image = s.image := rfl
@[simp] theorem State.incWrap_epc (s : State) (f : Fld) : (s.incWrap f).epc = s.epc := rfl
@[simp] theorem State.incWrap_swc (s : State) (f : Fld) : (s.incWrap f).swc = s.swc := rfl
@[simp] theorem State.incWrap_rooks (s : State) (f : Fld) : (s.incWrap f).rooks = s.rooks := rfl
@[simp] theorem State.incWrap_cmap (s : State) (f : Fld) : (s.incWrap f).cmap = s.cmap := rfl
@[simp] theorem State.incWrap_cbc (s : State) (f : Fld) : (s.incWrap f).cbc = s.cbc := rfl
@[simp] theorem State.incWrap_can (s : State) (f : Fld) : (s.incWrap f).can = s.can := rfl
@[simp] theorem State.incWrap_pawns (s : State) (f : Fld) : (s.incWrap f).pawns = s.pawns := rfl
@[simp] theorem State.incWrap_ace (s : State) (f : Fld) : (s.incWrap f).ace = s.ace := rfl
@[simp] theorem State.incWrap_sfi (s : State) (f : Fld) : (s.incWrap f).sfi = s.sfi := rfl
@[simp] theorem State.incWrap_mqf (s : State) (f : Fld) : (s.incWrap f).mqf = s.mqf := rfl
@[simp] theorem State.incWrap_dcp (s : State) (f : Fld) : (s.incWrap f).dcp = s.dcp := rfl
@[simp] theorem State.incWrap_readData (s : State) (f : Fld) : (s.incWrap f).readData = s.readData := rfl
@[simp] theorem State.incWrap_readBytes (s : State) (f : Fld) : (s.incWrap f).readBytes = s.readBytes := rfl
@[simp] theorem State.incWrap_readPoison (s : State) (f : Fld) : (s.incWrap f).readPoison = s.readPoison := rfl

/-! ## orF -/

@[simp] theorem State.orF_pending (s : State) (f : Fld) (m : Nat) : (s.orF f m).pending = s.pending := rfl
@[simp] theorem State.orF_variantS (s : State) (f : Fld) (m : Nat) : (s.orF f m).variantS = s.variantS := rfl
@[simp] theorem State.orF_free (s : State) (f : Fld) (m : Nat) : (s.orF f m).free = s.free := rfl
@[simp] theorem State.orF_sram (s : State) (f : Fld) (m : Nat) : (s.orF f m).sram = s.sram := rfl
@[simp] theorem State.orF_mram (s : State) (f : Fld) (m : Nat) : (s.orF f m).mram = s.mram := rfl
@[simp] theorem State.orF_pmem (s : State) (f : Fld) (m : Nat) : (s.orF f m).pmem = s.pmem := rfl
@[simp] theorem State.orF_pendMode (s : State) (f : Fld) (m : Nat) : (s.orF f m).pendMode = s.pendMode := rfl
@[simp] theorem State.orF_modeAt (s : State) (f : Fld) (m : Nat) : (s.orF f m).modeAt = s.modeAt := rfl
@[simp] theorem State.orF_boot (s : State) (f : Fld) (m : Nat) : (s.orF f m).boot = s.boot := rfl
@[simp] theorem State.orF_crp (s : State) (f : Fld) (m : Nat) : (s.orF f m).crp = s.crp := rfl
@[simp] theorem State.orF_mem (s : State) (f : Fld) (m : Nat) : (s.orF f m).mem = s.mem := rfl
@[simp] theorem State.orF_evlog (s : State) (f : Fld) (m : Nat) : (s.orF f m).evlog = s.evlog := rfl
@[simp] theorem State.orF_evLost (s : State) (f : Fld) (m : Nat) : (s.orF f m).evLost = s.evLost := rfl
@[simp] theorem State.orF_xspi (s : State) (f : Fld) (m : Nat) : (s.orF f m).xspi = s.xspi := rfl
@[simp] theorem State.orF_parts (s : State) (f : Fld) (m : Nat) : (s.orF f m).parts = s.parts := rfl
@[simp] theorem State.orF_msix (s : State) (f : Fld) (m : Nat) : (s.orF f m).msix = s.msix := rfl
@[simp] theorem State.orF_dma (s : State) (f : Fld) (m : Nat) : (s.orF f m).dma = s.dma := rfl
@[simp] theorem State.orF_ntu (s : State) (f : Fld) (m : Nat) : (s.orF f m).ntu = s.ntu := rfl
@[simp] theorem State.orF_image (s : State) (f : Fld) (m : Nat) : (s.orF f m).image = s.image := rfl
@[simp] theorem State.orF_epc (s : State) (f : Fld) (m : Nat) : (s.orF f m).epc = s.epc := rfl
@[simp] theorem State.orF_swc (s : State) (f : Fld) (m : Nat) : (s.orF f m).swc = s.swc := rfl
@[simp] theorem State.orF_rooks (s : State) (f : Fld) (m : Nat) : (s.orF f m).rooks = s.rooks := rfl
@[simp] theorem State.orF_cmap (s : State) (f : Fld) (m : Nat) : (s.orF f m).cmap = s.cmap := rfl
@[simp] theorem State.orF_cbc (s : State) (f : Fld) (m : Nat) : (s.orF f m).cbc = s.cbc := rfl
@[simp] theorem State.orF_can (s : State) (f : Fld) (m : Nat) : (s.orF f m).can = s.can := rfl
@[simp] theorem State.orF_pawns (s : State) (f : Fld) (m : Nat) : (s.orF f m).pawns = s.pawns := rfl
@[simp] theorem State.orF_ace (s : State) (f : Fld) (m : Nat) : (s.orF f m).ace = s.ace := rfl
@[simp] theorem State.orF_sfi (s : State) (f : Fld) (m : Nat) : (s.orF f m).sfi = s.sfi := rfl
@[simp] theorem State.orF_mqf (s : State) (f : Fld) (m : Nat) : (s.orF f m).mqf = s.mqf := rfl
@[simp] theorem State.orF_dcp (s : State) (f : Fld) (m : Nat) : (s.orF f m).dcp = s.dcp := rfl
@[simp] theorem State.orF_readData (s : State) (f : Fld) (m : Nat) : (s.orF f m).readData = s.readData := rfl
@[simp] theorem State.orF_readBytes (s : State) (f : Fld) (m : Nat) : (s.orF f m).readBytes = s.readBytes := rfl
@[simp] theorem State.orF_readPoison (s : State) (f : Fld) (m : Nat) : (s.orF f m).readPoison = s.readPoison := rfl

end Sys2Proof.Machine
end

