-- ==== Sys2Proof/Laws/Regs.lean ====
section
/-! SUPPORT. Laws of the registers: a register reads what was put there and another one what it held; a field reads
the low bits of what was written, and a field that lies apart is left alone. -/

namespace Sys2Proof.Machine

@[simp] theorem State.reg_setReg_same (s : State) (a : Nat) (v : Word) : (s.setReg a v).reg a = v :=
  mapGet_put_same _ _ _ _

theorem State.reg_setReg_ne (s : State) {a b : Nat} (v : Word) (h : a ≠ b) : (s.setReg b v).reg a = s.reg a :=
  mapGet_put_other _ _ _ h

theorem State.reg_wr_ne (s : State) {f : Fld} {a : Nat} (v : Nat) (h : a ≠ f.addr) : (s.wr f v).reg a = s.reg a :=
  State.reg_setReg_ne s _ h

/-- A field inside its 64-bit register. -/
def Fld.ok (f : Fld) : Bool := decide (f.lo ≤ f.hi) && decide (f.hi < 64)

/-- Two fields share no bit. -/
def Fld.apart (f g : Fld) : Bool := f.addr != g.addr || decide (f.hi < g.lo) || decide (g.hi < f.lo)

theorem State.rd_wr_same (s : State) {f : Fld} (v : Nat) (h : f.ok = true) : (s.wr f v).rd f = v % 2 ^ f.width := by
  simp only [Fld.ok, Bool.and_eq_true, decide_eq_true_eq] at h
  unfold State.wr State.rd
  rw [State.reg_setReg_same, bitsOf_putBits_same _ _ h.1 h.2]
  rfl

theorem State.rd_wr_apart (s : State) {f g : Fld} (v : Nat) (hf : f.ok = true) (hg : g.ok = true)
    (h : g.apart f = true) : (s.wr f v).rd g = s.rd g := by
  simp only [Fld.ok, Bool.and_eq_true, decide_eq_true_eq] at hf hg
  by_cases e : g.addr = f.addr
  · simp only [Fld.apart, e, bne_self_eq_false, Bool.false_or, Bool.or_eq_true, decide_eq_true_eq] at h
    unfold State.wr State.rd
    rw [e, State.reg_setReg_same, bitsOf_putBits_other _ _ hf.1 hf.2 hg.1 h]
  · unfold State.rd
    rw [State.reg_wr_ne _ _ e]

theorem State.bit_wrB_same (s : State) {f : Fld} (b : Bool) (h : f.ok = true) : (s.wrB f b).bit f = b := by
  unfold State.bit State.wrB
  rw [State.rd_wr_same _ _ h]
  simp only [Fld.ok, Bool.and_eq_true, decide_eq_true_eq] at h
  have e : 2 ≤ 2 ^ f.width := by
    have : 1 ≤ f.width := by unfold Fld.width; omega
    calc 2 = 2 ^ 1 := rfl
      _ ≤ 2 ^ f.width := Nat.pow_le_pow_right (by decide) this
  cases b <;> simp [b2n, Nat.mod_eq_of_lt e]

theorem State.bit_wr_apart (s : State) {f g : Fld} (v : Nat) (hf : f.ok = true) (hg : g.ok = true)
    (h : g.apart f = true) : (s.wr f v).bit g = s.bit g := by
  unfold State.bit
  rw [State.rd_wr_apart s v hf hg h]

theorem State.rd_lt (s : State) (f : Fld) : s.rd f < 2 ^ f.width := bitsOf_lt _ _ _

/-- A saturating counter moves by `n`, up to its largest value. -/
theorem State.rd_incBy (s : State) {f : Fld} (n : Nat) (h : f.ok = true) :
    (s.incBy f n).rd f = satUnsigned f.width (s.rd f + n) := by
  unfold State.incBy
  rw [State.rd_wr_same _ _ h, Nat.mod_eq_of_lt]
  unfold satUnsigned
  have := Nat.two_pow_pos f.width
  split <;> omega

end Sys2Proof.Machine
end

