-- ==== Sys2Proof/Laws/Rook.lean ====
section
/-! SUPPORT. Laws of the Rook engine: one engine's record at a time, what applying the writes in flight leaves alone, and
what the issue of an instruction comes to when nothing stops it. -/

namespace Sys2Proof.Machine

@[simp] theorem State.rook_setRook_same (s : State) (n : Nat) (r : RookSt) : (s.setRook n r).rook n = r :=
  mapGet_put_same _ _ _ _

theorem State.rook_setRook_ne (s : State) {n m : Nat} (r : RookSt) (h : m ≠ n) : (s.setRook n r).rook m = s.rook m :=
  mapGet_put_other _ _ _ h

@[simp] theorem State.reg_setRook (s : State) (n : Nat) (r : RookSt) (a : Nat) : (s.setRook n r).reg a = s.reg a := rfl

@[simp] theorem State.rookRunning_setRook (s : State) (n m : Nat) (r : RookSt) :
    (s.setRook n r).rookRunning m = s.rookRunning m := rfl

/-- A write in flight reaches a register, REM, a flag or a special register; never the address, the cycle, the slot. -/
theorem RookSt.applyFlight_pc (r : RookSt) (f : Flight) : (r.applyFlight f).pc = r.pc := by
  unfold RookSt.applyFlight RookSt.putW RookSt.putSr
  repeat' split
  all_goals rfl

theorem RookSt.applyFlight_cyc (r : RookSt) (f : Flight) : (r.applyFlight f).cyc = r.cyc := by
  unfold RookSt.applyFlight RookSt.putW RookSt.putSr
  repeat' split
  all_goals rfl

theorem RookSt.applyFlight_slot (r : RookSt) (f : Flight) : (r.applyFlight f).slot = r.slot := by
  unfold RookSt.applyFlight RookSt.putW RookSt.putSr
  repeat' split
  all_goals rfl

theorem RookSt.applyFlight_squashDue (r : RookSt) (f : Flight) : (r.applyFlight f).squashDue = r.squashDue := by
  unfold RookSt.applyFlight RookSt.putW RookSt.putSr
  repeat' split
  all_goals rfl

theorem RookSt.foldFlight_inv {α : Type} (p : RookSt → α) (h : ∀ r f, p (r.applyFlight f) = p r) (l : List Flight)
    (r : RookSt) : p (l.foldl RookSt.applyFlight r) = p r := by
  induction l generalizing r with
  | nil => rfl
  | cons f l ih => exact (ih _).trans (h _ _)

@[simp] theorem RookSt.applyTo_pc (r : RookSt) (c : Nat) : (r.applyTo c).pc = r.pc :=
  RookSt.foldFlight_inv (fun r => r.pc) RookSt.applyFlight_pc _ _

@[simp] theorem RookSt.applyTo_cyc (r : RookSt) (c : Nat) : (r.applyTo c).cyc = r.cyc :=
  RookSt.foldFlight_inv (fun r => r.cyc) RookSt.applyFlight_cyc _ _

@[simp] theorem RookSt.applyTo_slot (r : RookSt) (c : Nat) : (r.applyTo c).slot = r.slot :=
  RookSt.foldFlight_inv (fun r => r.slot) RookSt.applyFlight_slot _ _

@[simp] theorem RookSt.applyTo_squashDue (r : RookSt) (c : Nat) : (r.applyTo c).squashDue = r.squashDue :=
  RookSt.foldFlight_inv (fun r => r.squashDue) RookSt.applyFlight_squashDue _ _

/-- The issue of an instruction that nothing stops and that no verdict squashes: its body, on the engine with every ready write applied. -/
theorem State.rookIssue_runs (s : State) (n : Nat) (body : State → RookSt → State) (h : s.rookRunning n = true)
    (hw : (s.rook n).wait = none) (hd : (s.rook n).dbg = false) (hp : (s.rook n).pc < 0x10000)
    (hq : (s.rook n).squashDue = false) :
    s.rookIssue n body = body (s.setRook n ((s.rook n).applyTo (s.rook n).cyc)) ((s.rook n).applyTo (s.rook n).cyc) := by
  unfold State.rookIssue
  simp only [h, hw, hd, hq, RookSt.applyTo_pc, RookSt.applyTo_squashDue, Bool.not_true, Option.isSome_none, Bool.or_self, Bool.false_eq_true,
    if_false]
  rw [if_neg (Nat.not_le.2 hp)]

end Sys2Proof.Machine
end

