-- ==== Sys2Proof/WellFormed.lean ====
section
/-! DEFINITION. Well-formed commands: bounds that the types of the operands do not carry. An ill-formed command has
a meaning all the same (execution is total); the bounds say which commands a sender can send. -/

namespace Sys2Proof

/-- A descriptor's buffer holds as many bytes as LEN of its word 1 says at most (Table R390). -/
def HostDesc.wf (d : HostDesc) : Bool := decide (d.bytes.length ≤ d.w1.toNat % 2 ^ 14)

/-- A step of Table R454, with a domain of Table R485, banks of the 80, and pairs of the 2,304. -/
def StepOut.wf (o : StepOut) : Bool :=
  decide (1 ≤ o.step) && decide (o.step ≤ 0x14) && (match o.power with | none => true | some d => decide (d < 10))
    && (o.banks.all fun b => decide (b < 80)) && o.repairs.all fun r => decide (r.1 < 80) && decide (r.2 < 2304)

/-- The step that hangs is one of Table R454. -/
def hangOk (h : Option Nat) : Bool :=
  match h with
  | none => true
  | some k => decide (1 ≤ k) && decide (k ≤ 0x14)

/-- Failing pairs are of the 2,304, and cells fail where pairs do. -/
def MarchBank.wf (b : MarchBank) : Bool := (b.pairs.all fun p => decide (p < 2304)) && (b.pairs.isEmpty || decide (0 < b.cells))

/-- The command is one that its sender can send. -/
def Instr.wf (i : Instr) : Bool :=
  match i with
  | .cycleBoundary .. => true
  | .cbIn .. => true
  | .rookIn .. => true
  | .aceDisp .. => true
  | .aceDl .. => true
  | .cbOut .. => true
  | .ethTx .. => true
  | .piSwap .. => true
  | .hostWdExpire .. => true
  | .hostNote .. => true
  | .cycApply .. => true
  | .cycRunWrite .. => true
  | .syncInEdge .. => true
  | .syncWindowClose .. => true
  | .hostCommitWrite .. => true
  | .hostCommitRegister .. => true
  | .startupComplete .. => true
  | .startupTimeout .. => true
  | .ltTrimWrite .. => true
  | .tdMeasWrite .. => true
  | .servoConsume .. => true
  | .tdHoldoverTimeout .. => true
  | .tdFreeTimeout .. => true
  | .tdHold .. => true
  | .castlingGo .. => true
  | .castlingDone .. => true
  | .snapTake .. => true
  | .txtsPop .. => true
  | .syncOutAssert .. => true
  | .syncOutDeassert .. => true
  | .ppsAssert .. => true
  | .ppsDeassert .. => true
  | .portEnable .. => true
  | .portDisable .. => true
  | .portStopDone .. => true
  | .linkUp .. => true
  | .linkDown .. => true
  | .speedStep .. => true
  | .macFrameReceive _ frags _ _ => !frags.isEmpty && decide (frags.flatten.length ≤ 16384)
  | .pauseExpire .. => true
  | .txUnderrun .. => true
  | .epcCntRead .. => true
  | .preemptVerifyDone .. => true
  | .swcFrameIngress .. => true
  | .agingSweep .. => true
  | .egressFrameStart .. => true
  | .macFrameTxEnd .. => true
  | .gclEntryAdvance .. => true
  | .streamGateAdvance .. => true
  | .gateStarve .. => true
  | .updOp .. => true
  | .updRead .. => true
  | .swcCommit .. => true
  | .commitHoldRelease .. => true
  | .swcAbort .. => true
  | .gclApply .. => true
  | .mirConsWrite .. => true
  | .freeListAudit .. => true
  | .swcRecovery .. => true
  | .add .. => true
  | .sub .. => true
  | .and .. => true
  | .or .. => true
  | .xor .. => true
  | .andn .. => true
  | .neg .. => true
  | .adds .. => true
  | .subs .. => true
  | .negs .. => true
  | .min .. => true
  | .max .. => true
  | .minu .. => true
  | .maxu .. => true
  | .slt .. => true
  | .sltu .. => true
  | .seq .. => true
  | .shl .. => true
  | .shr .. => true
  | .sar .. => true
  | .rol .. => true
  | .ror .. => true
  | .clz .. => true
  | .ctz .. => true
  | .popc .. => true
  | .bswap .. => true
  | .addi .. => true
  | .andi .. => true
  | .ori .. => true
  | .xori .. => true
  | .slti .. => true
  | .sltui .. => true
  | .shli .. => true
  | .shri .. => true
  | .sari .. => true
  | .rori .. => true
  | .ext .. => true
  | .exts .. => true
  | .ins .. => true
  | .movz .. => true
  | .movk .. => true
  | .mul .. => true
  | .mulh .. => true
  | .mulhu .. => true
  | .div .. => true
  | .divu .. => true
  | .ldb .. => true
  | .ldh .. => true
  | .ldw .. => true
  | .ldd .. => true
  | .ldbs .. => true
  | .ldhs .. => true
  | .ldws .. => true
  | .stb .. => true
  | .sth .. => true
  | .stw .. => true
  | .std .. => true
  | .ioIn .. => true
  | .ioOut .. => true
  | .wait .. => true
  | .waitWake .. => true
  | .beq .. => true
  | .bne .. => true
  | .blt .. => true
  | .bge .. => true
  | .bltu .. => true
  | .bgeu .. => true
  | .jmp .. => true
  | .call .. => true
  | .jr .. => true
  | .callr .. => true
  | .ret .. => true
  | .mfs .. => true
  | .mts .. => true
  | .spec .. => true
  | .brk .. => true
  | .svc .. => true
  | .rte .. => true
  | .halt .. => true
  | .pipelineWriteReady .. => true
  | .engineEnable .. => true
  | .engineStartDone .. => true
  | .engineDisable .. => true
  | .engineStopDone .. => true
  | .epDispatch .. => true
  | .rxRelease .. => true
  | .evClr .. => true
  | .rookTimerExpire .. => true
  | .pcrcInitWrite .. => true
  | .pcrcFeed .. => true
  | .pcrcFeedb .. => true
  | .frameVerdict .. => true
  | .drainLand .. => true
  | .txGo .. => true
  | .txBufferDone .. => true
  | .cbSegEnable .. => true
  | .cbSegDisable .. => true
  | .cbSegStopDone .. => true
  | .cbListenExpire .. => true
  | .cbForeignMaster .. => true
  | .cbBackupTakeover .. => true
  | .cbEchoReceive .. => true
  | .cbEchoTimeout .. => true
  | .cbBackoffExpire .. => true
  | .cbEnumRspReceive .. => true
  | .cbEnumWindowEnd .. => true
  | .cbConfAckReceive .. => true
  | .cbConfAckTimeout .. => true
  | .cbSyncEntry .. => true
  | .cbReplyReceive _ _ _ _ _ _ bytes _ => decide (bytes.length ≤ 512)
  | .cbSlotEnd .. => true
  | .cbAreqSlot .. => true
  | .cbArspReceive _ _ _ _ bytes _ => decide (bytes.length ≤ 128)
  | .cbAreqTimeout .. => true
  | .cbBabble .. => true
  | .cbSchedApply .. => true
  | .canEnable .. => true
  | .canBusIntegrated .. => true
  | .canDisable .. => true
  | .canStopDone .. => true
  | .canTxqPush .. => true
  | .canCancel .. => true
  | .canAttemptStart .. => true
  | .canAttemptEnd .. => true
  | .canCyclicTrigger .. => true
  | .canFrameRx _ f _ => decide (f.bytes.length ≤ 2048)
  | .canFilterApply .. => true
  | .canFilterSwitch .. => true
  | .canRecReq .. => true
  | .canRecoveryDone .. => true
  | .pawnEnable .. => true
  | .pawnStartDone .. => true
  | .pawnDisable .. => true
  | .pawnStopDone .. => true
  | .groupGo .. => true
  | .groupDivrst .. => true
  | .pinsWrite .. => true
  | .pinsSet .. => true
  | .pinsClear .. => true
  | .pinsToggle .. => true
  | .shift .. => true
  | .pawnWait .. => true
  | .ldi .. => true
  | .mov .. => true
  | .fifoPull .. => true
  | .fifoPush .. => true
  | .pawnJmp .. => true
  | .djnz .. => true
  | .flagSet .. => true
  | .flagClear .. => true
  | .flagNote .. => true
  | .pawnUndefined .. => true
  | .progArm .. => true
  | .swapNow .. => true
  | .txfPush .. => true
  | .rxfPop .. => true
  | .piaFlagSetWrite .. => true
  | .piaFlagClrWrite .. => true
  | .outputLinkTrigger .. => true
  | .aceDeadline .. => true
  | .aceDispatch .. => true
  | .aceResultLand .. => true
  | .aceBankApply .. => true
  | .aceApplyCheckDone .. => true
  | .aceCopy .. => true
  | .aceCopyDone .. => true
  | .sfiTickStart .. => true
  | .sfiOutputSwitch .. => true
  | .sfiTickOverrun .. => true
  | .sfiFaultDetect .. => true
  | .sfiPeriodicSelftest .. => true
  | .outTestPulse .. => true
  | .dslWatchdogExpire .. => true
  | .stoAckTimeout .. => true
  | .ss1TimeExpire .. => true
  | .sbcDelayExpire .. => true
  | .hostAccess _ _ write _ n bytes _ => if write then !bytes.isEmpty && decide (bytes.length ≤ 4096) else n != 0 && bytes.isEmpty
  | .memWrite _ _ words => !words.isEmpty && decide (words.length ≤ 32)
  | .memRead _ _ n => n != 0
  | .regWrite .. => true
  | .regRead .. => true
  | .result .. => true
  | .pcieLinkReset .. => true
  | .functionLevelReset .. => true
  | .hicSliceWrite .. => true
  | .hpFrameDeliver descs => descs.all HostDesc.wf
  | .hicTxPost p _ descs => descs.all fun d => d.wf && d.part == p
  | .hicTxComplete .. => true
  | .hicPrstWrite .. => true
  | .dcpSqDoorbell .. => true
  | .dcpFetch _ _ entry payload _ _ => entry.length == 32 && decide (payload.length ≤ 4096)
  | .dcpStartTimeout _ _ entry => entry.length == 32
  | .dcpCompletion .. => true
  | .dcpFrameCommand .. => true
  | .nop .. => true
  | .identify .. => true
  | .deviceReset .. => true
  | .deviceResetAssert .. => true
  | .partitionReset .. => true
  | .restoreFactory .. => true
  | .lifecycleAdvance .. => true
  | .modeGet .. => true
  | .modeSet .. => true
  | .modeCfgSet .. => true
  | .connSet .. => true
  | .connClear .. => true
  | .connGet .. => true
  | .safevalSet .. => true
  | .grant .. => true
  | .revoke .. => true
  | .sliceSet .. => true
  | .cfgStore .. => true
  | .cfgCheck .. => true
  | .swcLoad .. => true
  | .rookSetup .. => true
  | .cbAreq .. => true
  | .netAcyc _ answer => match answer with | none => true | some b => decide (b.length ≤ 4096)
  | .ptpSet .. => true
  | .relaySet .. => true
  | .netStatus .. => true
  | .axisSet .. => true
  | .axisGet .. => true
  | .bankWrite .. => true
  | .bankApply .. => true
  | .bankCopy .. => true
  | .safePdu .. => true
  | .safeView .. => true
  | .sporeLoad .. => true
  | .imageWrite .. => true
  | .imageCommit .. => true
  | .imageInfo .. => true
  | .eventRead .. => true
  | .journalRead .. => true
  | .bistRun .. => true
  | .marchRun _ found => found.all MarchBank.wf
  | .tempRead .. => true
  | .calGet .. => true
  | .calSet .. => true
  | .calClear .. => true
  | .factoryWrite .. => true
  | .mgpWatchdogExpire .. => true
  | .mgpRestartDone .. => true
  | .mbPost .. => true
  | .mbAck .. => true
  | .mbTimeout .. => true
  | .semTake .. => true
  | .semRelease .. => true
  | .pqWr .. => true
  | .pqCommit .. => true
  | .pqRewind .. => true
  | .pqFlush .. => true
  | .pqRd0Pop .. => true
  | .pqEnable .. => true
  | .pqDisable .. => true
  | .pqStopDone .. => true
  | .porNAssert .. => true
  | .porNRelease .. => true
  | .sysrstNAssert .. => true
  | .sysrstNRelease .. => true
  | .rstStuck .. => true
  | .sysrstUnmask .. => true
  | .aonPowerLoss .. => true
  | .bootStart out hang => out.all StepOut.wf && hangOk hang
  | .bootStepTimeout out hang => out.all StepOut.wf && hangOk hang
  | .bootWatchdogExpire .. => true
  | .statusFrameToggle .. => true
  | .tamperPin .. => true
  | .tamperMesh .. => true
  | .jtagToken .. => true
  | .vaultWipe .. => true
  | .vaultWipeDone .. => true
  | .clockMonitorWindow .. => true
  | .pllRelockAttempt .. => true
  | .domainPowerUpDone .. => true
  | .domainPowerDownDone .. => true
  | .domainPowerFail .. => true
  | .wakeTimerExpire .. => true
  | .wakeEvent .. => true
  | .bankTargetWrite .. => true
  | .bankChangeDone .. => true
  | .patrolScrub .. => true
  | .registerWrite _ a _ lo hi _ => a.toNat % 8 == 0 && (lo || hi)
  | .rookUndefinedInstruction .. => true
  | .rookIspaceFetch .. => true
  | .frerRecoveryReset .. => true
  | .portCalibrationDone .. => true
  | .negotiationFail .. => true
  | .canReceiveError .. => true
  | .cbListenOnlyFrame .. => true
  | .mpFrameReceive .. => true
  | .debugHalt .. => true
  | .boundaryScanInstruction .. => true
  | .supplyLeavesRange .. => true

end Sys2Proof
end

