-- ==== Sys2Proof/Tests/Slice0.lean ====
section
/-! SUPPORT. Tests of this model: the checks of Instr.wf, values that the spec works out, and for each obligation with
hypotheses a concrete state and operands that meet the hypotheses of each of its clauses. Every statement is about one
step or less. -/

namespace Sys2Proof.Tests

open Sys2Proof Sys2Proof.Machine

set_option maxRecDepth 20000
set_option Elab.async false
set_option linter.unusedVariables false

/-! ## States and operands that the tests share -/

/-- The machine after reset with every domain ON. -/
def onAll : State := (List.range 10).foldl (fun s d => s.setDom d 2) State.reset

/-- Every domain ON, in mode `m`. -/
def inMode (m : Nat) : State := onAll.wr SYSCTL_MODE_MODE m

/-- The state with its time unit changed. -/
def ntuOf (f : NtuSt → NtuSt) (s : State) : State := s.putNtu (f s.ntu)

/-- Mode `m` at LT `t` in ns, with the cycle generator running for 100 µs since its latest boundary. -/
def live (m : Nat) (t : Nat := 5000000) : State :=
  ntuOf (fun n => { n with
      lt := t * nsU
      cyc := { n.cyc with
        started := true
        nominal := 4900000 * nsU
        edge := 4900000 * nsU
        closed := false
        act := { n.cyc.act with phases := [0, 10000, 20000, 600000, 700000, 750000, 900000, 910000] } } })
    (((inMode m).wrB NTU_CYC_CTL_RUN true).wr NTU_CYC_COUNT_CYCLE 9)

/-- Banks 0 to 8 of the SRAM are on. -/
def banks9 (s : State) : State := (List.range 9).foldl (fun s b => s.wr (bankStatFld b) 1) s

/-- Axis 0 enabled on lane 0, in the state `x`. -/
def axisIn (x : AxSt) (s : State) : State :=
  (banks9 ((s.putAce { s.ace with axes := [(0, x)] }).wrB (ACE_AXk_CFG_EN 0) true)).wr (ACE_AXk_CFG_LANE 0) 0

/-- Axes 1 to 63 on lane 3. -/
def otherLanes (s : State) : State := (List.range 63).foldl (fun s j => s.wr (ACE_AXk_CFG_LANE (j+1)) 3) s

/-- An axis that keeps its defaults but for its deadline. -/
def axis0 : AxSt := { AxSt.reset with time := BitVec.ofNat 64 300000 }

/-- A sample that waits on lane 0. -/
def sample0 : AxSample := ⟨5000000*nsU, 5001800*nsU, some 3, some 4, 5, 6, true, true, false, 7, 8, none, 0, 0, none⟩

/-- An APPLY of axes 0 and 2 has been checked. -/
def applying (s : State) : State := s.putAce { s.ace with mask := 5, copyAxis := 0 }

/-- Shadow and active coefficient words of two axes. -/
def someGains (s : State) : State :=
  (s.setReg (ACE_COEF_SHADOW 0 5) 0x7FFFFFFF80000000).setReg (ACE_COEF_SHADOW 2 5) 0x7FFFFFFF80000000 |>.setReg
    (ACE_COEF_SHADOW 0 20) 9|>.setReg (ACE_COEF_ACTIVE 2 20) 9

/-- The state with its safety island changed. -/
def sfiOf (f : SfiSt → SfiSt) (s : State) : State := s.putSfi (f s.sfi)

/-- A parameter set with two connections and one zone. -/
def sfiSet : SfiSet :=
  ⟨[⟨0x401, 0, 1⟩, ⟨0x402, 0, 20⟩, ⟨0x401, 1, 2⟩, ⟨0x403, 1, 0x80000000⟩, ⟨0x600, 0, 1⟩,
    ⟨0x604, 0, 50⟩,⟨0x613,0,100⟩,⟨0x603,0,0x80000000+30⟩,⟨0x200,0,1⟩,⟨0x200,1,2⟩], 1, 1⟩

/-- The island in state `st` within a tick, changed by `f`, in mode `m`. -/
def sfiIn (st : Nat) (f : SfiSt → SfiSt) (m : Nat := 7) : State :=
  sfiOf (fun x => f { x with
      st := st
      par := sfiSet
      tick := 100
      tickAt := 4990000 * nsU
      due := true
      want := 3
      on := 3
      inTick := true }) ((live m).wr (bankStatFld 0) 1)

/-- Axis 0 of the island. -/
def sfiAxes (a : SfiAxis) : SfiSt → SfiSt := fun x => { x with axes := [(0,a)] }

/-- A safety connection that runs. -/
def conn0 : SfiConn := { SfiConn.reset with st := 2, since := 90 }

/-- Rook `n` in state `st` with the registers `r`. -/
def rookIn (r : RookSt) (n : Nat := 0) (st : Nat := 2) : State := ((onAll.wr (PEA_Rn_STAT_STATE n) st)).setRook n r

/-- Registers that take in zero, the extremes, aligned and misaligned addresses. -/
def rookRegs : List (Nat × Word) :=
  [(1,8),(2,0x8000000000000000),(3,0xFFFFFFFFFFFFFFFF),(4,0x1FFF8),(5,0x80000108),(6,7),(7,0x48),(9,0x10)]

/-- A Rook at 0x40 with those registers. -/
def rook0 : RookSt := { RookSt.reset with pc := 0x40, cyc := 100, w := rookRegs }

/-- A speculative region that has begun at 0x20. -/
def region0 : SpecRec := ⟨[(9,5)], 0x23, 0⟩

/-- Rook `n` in state `st` in mode `m`. -/
def peaIn (r : RookSt) (n : Nat :=
  0) (st : Nat := 2) (m : Nat := 4): State := (((inMode m).wr (PEA_Rn_STAT_STATE n) st)).setRook n r

/-- A Rook with drains under way and events pending. -/
def peaRook : RookSt :=
  { RookSt.reset with pc := 0x40, cyc := 100, drains := [[(0x100, 5)],[(0x108,6),(0x110,7)]], inst := some 4 , ev := 0x1E3}

/-- A frame of 64 bytes. -/
def frame64 : EthFrame := { EthFrame.blank with bytes := List.replicate 64 0x5A }

/-- A receive buffer that holds an ended frame of 68 bytes. -/
def rxHeld : RxBuf := { RxBuf.reset with held := true, data := List.replicate 68 0x5A, ended := true }

/-- Port 0 bound to Rook 0 with two frames queued. -/
def epSending : State :=
  let s := ((((peaIn peaRook).wr (PEA_Rn_CTL_BIND 0) 0).wr (PEA_EPk_DISPj_ENGINE 0 0 0) 0).wrB
    (PEA_EPk_DISPj_VALID 0 0 0) true)
  s.setSwc
    { s.swc with frames := [(7, some frame64),(8,some {frame64 with rtag := some 3})], queues := [(8*10+7, [7,8])] }

/-- Engine 0 RUNNING, with a Rook as after reset. -/
def withRook (s : State) : State := ((s.wr (PEA_Rn_STAT_STATE 0) 2)).setRook 0 RookSt.reset

/-- Time domain `x` in state `st`. -/
def tdIn (x st : Nat) (s : State) : State := s.wr (NTU_TDx_STAT_STATE x) st

/-- Time domains that hold a measurement. -/
def tdMeasured (s : State) : State :=
  ntuOf (fun n => { n with
      tdA := { n.tdA with meas := some 70000, lastAt := some 4000000, interval := 125000, holdAt := 4100000 }
      tdB := { n.tdB with meas := some (-3), lastAt := some 4999990, interval := 31250 } }) s

/-- Castling to TD-B runs, whose offset is `d`. -/
def castling (s : State) (d : Nat) : State :=
  ntuOf (fun n => { n with cyc := { n.cyc with act := { n.cyc.act with src := 1 } }, tdB := { n.tdB with off := d } })
    ((s.wrB NTU_CAST_STAT_CASTLING true).wr NTU_CAST_STAT_TARGET 1)

/-- The cycle generator takes its base from source `k`. -/
def cycSource (k : Nat) (s : State) : State :=
  ntuOf (fun n => { n with cyc := { n.cyc with act := { n.cyc.act with src := k } } }) s

/-- Transmit timestamps of two ports. -/
def txStamps (s : State) : State :=
  ntuOf (fun n => { n with txts := [(0, [⟨0x12345, 2^64+77, 0x5FFFF⟩, ⟨1,2,3⟩]),(1,[⟨1,2,3⟩])] }) s

/-- Every port in state `st`. -/
def portsIn (st : Nat) (s : State) : State := (List.range 10).foldl (fun s p => s.wr (EPC_PORTp_STAT_STATE p) st) s

/-- One field of every port. -/
def onPorts (f : Nat → Fld) (v : Nat) (s : State) : State := (List.range 10).foldl (fun s p => s.wr (f p) v) s

/-- A frame to a link-local group address. -/
def multicast : EthFrame :=
  { EthFrame.blank with bytes := [1,0x80,0xC2,0,0,1] ++ List.replicate 6 2 ++ [0x88,0xB6] ++ List.replicate 60 0x5A }

/-- Frames wait in queues of several ports, and others have arrived. -/
def queued (s : State) : State :=
  s.setSwc { s.swc with
    frames := [(7, some frame64), (8, some { frame64 with rtag := some 3 })]
    queues := [(1, [7, 8]), (7, [8]), (8 * 10 + 7, [7, 8]), (8 * 15 + 2, [7])]
    arrived := [frame64, multicast]
    txDone := [(0, true)] }

/-- Ports 0, 3 and 15 transmit. -/
def sending (s : State) : State :=
  (queued s).setSwc
    { (queued s).swc with tx := [(0, some ⟨7,1,false,0,0,0,0,0⟩), (3, some ⟨9,1,false,0,0,0,0,0⟩), (15, some ⟨7,2,false,0,0,0,0,0⟩)] }

/-- Every port changed by `f`. -/
def onEpc (f : EpcPort → EpcPort) (s : State) : State :=
  (List.range 10).foldl (fun s p => s.setEpcPort p (f (s.epcPort p))) s

/-- One FDB entry of age `a`. -/
def fdbEntry (a : Nat) : List (Nat × (Word × Word)) :=
  [(5, (BitVec.ofNat 64 (2^63 + 0x112233), BitVec.ofNat 64 (a * 2^48 + 3)))]

/-- The switch tables changed by `f`. -/
def withTables (f : SwTables → SwTables) (s : State) : State := s.setSwc { s.swc with tables := f s.swc.tables }

/-- A batch of table updates waits. -/
def withBatch (l : List UpdOp) (s : State) : State := s.setSwc { s.swc with batch := l }

/-- One table update. -/
def updOp (tb op ix : Nat) : UpdOp := ⟨tb, op, ix, [BitVec.ofNat 64 (2^63+5), 3, 0,0,0]⟩

/-- Segment 0 in state `st`. -/
def segIn (st : Nat) (f : CbSeg → CbSeg) (s : State) : State := (s.setSeg 0 (f (s.seg 0))).setSegState 0 st

/-- Schedule slot `i`: type, node, payload length and offset. -/
def slotWord (i ty node plen st : Nat) : Nat × Word :=
  (i, BitVec.ofNat 64 (2^63 + ty*2^58 + node*2^53 + plen*2^32 + st))

/-- A schedule bank holds the words. -/
def withSched (b : Nat) (l : List (Nat × Word)) (s : State) : State :=
  l.foldl (fun s e => s.setReg (b + 16*e.1) e.2) s

/-- A cyclic slot, a slot of the second kind and an acyclic one. -/
def threeSlots : List (Nat × Word) := [slotWord 0 0 3 16 1000, slotWord 1 1 3 32 2000, slotWord 2 2 3 20 500]

/-- A node that is present at hop 2. -/
def node0 : CbNode := { CbNode.reset with present := true, hop := 2, delay := 200 * 256 }

/-- Segment 0 in the cycle, with a request that waits. -/
def cyclicSeg (m st : Nat) : State :=
  withSched schedActiveBase threeSlots (segIn st (fun x =>
    { x with csfSent := true, csfLt := 4900100*nsU, nodes := [(3, node0)], reqs := [⟨2, 3, 0x1234, [0x12,0x34,0,1], true, 64⟩] })
    (live m))

/-- Its request has started. -/
def acyclicSeg : State :=
  segIn 4 (fun x => { x with reqs := [⟨2, 3, 0x1234, [0x12,0x34,0,1], false, 3⟩] }) (cyclicSeg 7 4)

/-- A CONF of kind 1 to node 3. -/
def conf1 : CbConf := ⟨3, 1, true, 4999000*nsU, 5⟩

/-- A CONF of kind 3 to node 3. -/
def conf3 : CbConf := ⟨3, 3, true, 4999000*nsU, 5⟩

/-- CAN channel 0 in state `st`. -/
def canIn (st : Nat) (f : CanCh → CanCh) (s : State) : State :=
  (s.putCan (mapPut (fun _ => CanCh.reset) s.can 0 (f (s.can_ 0)))).wr (CANn_STAT_STATE 0) st

/-- Bit timing of CAN channel 0. -/
def timed (s0 : State) : State :=
  let s := s0.wr (CANn_NBT_NSJW 0) 4; ((((s.wr (CANn_NBT_NBRP 0) 1).wr (CANn_NBT_NTSEG1 0) 63).wr (CANn_NBT_NTSEG2 0)
    16).wr (CANn_DBT_DBRP 0) 1).wr (CANn_DBT_DTSEG1 0) 63 |>.wr (CANn_DBT_DTSEG2 0) 16

/-- Bank 8 on, and the memory of CAN channel 0 in it. -/
def canBank (s : State) : State := (s.wr (bankStatFld 8) 1).wr (CANn_MEM_BASE 0) 0x400000

/-- A classical entry of eight bytes. -/
def canE0 : CanEnt := ⟨BitVec.ofNat 64 (8*2^29 + 0x123), 0, 0x55, 0, none, some [1,2,3,4,5,6,7,8], 0, 0, false⟩

/-- A queued entry that CANn_CYC 3 has made. -/
def canE1 : CanEnt :=
  ⟨BitVec.ofNat 64 (2^63 + 8*2^29 + 0x124), 0, 0x56, 0, some 3, some [1,2,3,4,5,6,7,8], 0, 0, false⟩

/-- A cyclic transmission every 200 µs. -/
def cycWord : Word := BitVec.ofNat 64 (2^63 + 0*2^52 + 200000)

/-- A word placed in the SRAM. -/
def pokeWord (a : Nat) (w : Nat) (s : State) : State := s.putSram (memPutBytes s.sram a (bytesLE 8 w))

/-- A filter element. -/
def filterWord : Nat := 3*2^61 + 1*2^58

/-- Pawn 0 in state `st` with the registers `x`. -/
def pawnIn (st : Nat) (x : PawnSt) (s : State) : State :=
  (s.putPawns (mapPut (fun _ => PawnSt.reset) s.pawns 0 x)).wr (PIA_Pn_STAT_STATE 0) st

/-- A Pawn with data in both FIFOs. -/
def pawn0 : PawnSt :=
  { PawnSt.reset with a := 2, b := 1, sh := 0x80000001, bc := 1, dir := 3, out := 0x5A, tx := [7,8], rx := [9], prev := some 3 }

/-- Pins 0 and 1 owned, `c` output pins, input from pin 90. -/
def pawn0Pins (c : Nat) (s : State) : State :=
  (((s.wr (PIA_Pn_PINS_OUT_CNT 0) c).wrB (PIA_PIOi_CFG_OWNED 0) true).wrB (PIA_PIOi_CFG_OWNED 1) true).wr
    (PIA_Pn_PINS_IN_BASE 0) 90

/-- Program counter and wrap of Pawn 0. -/
def pawnAt (pc top bot : Nat) (s : State) : State :=
  ((((s.wr (PIA_Pn_STAT_PC 0) pc).wr (PIA_Pn_PROG_A_WRAP_TOP 0) top).wr (PIA_Pn_PROG_A_WRAP_BOTTOM 0) bot).wr
    (PIA_Pn_PROG_S_WRAP_BOTTOM 0) 7).wr (PIA_Pn_PROG_S_ENTRY 0) 5 |>.setReg (PIA_SHADOW 0 0) 77

/-- Every bank ON, and slices for the partitions. -/
def banksOn (s : State) : State :=
  (List.range 6).foldl (fun s p => (s.wr (HIC_PARTp_SLICE_OFF p) p).wr (HIC_PARTp_SLICE_LEN p) 1)
    ((List.range 80).foldl (fun s b => s.wr (bankStatFld b) 1) s)

/-- Partition `p` changed by `f`. -/
def onPart (p : Nat) (f : PartSt → PartSt) (s : State) : State := s.setPart p (f (s.part p))

/-- Rings of partition `p` enabled with a MAC address. -/
def ringOn (p : Nat) (s : State) : State :=
  ((((s.wrB (HIC_PARTp_RING_RX_EN p) true).wr (HIC_PARTp_RING_RX_SIZE p) 4).wr (HIC_PARTp_RING_TX_SIZE p) 4).wrB
    (HIC_PARTp_RING_TX_EN p) true).wr (HIC_PARTp_IDX_RX_TAIL p) 15 |>.wr (HIC_PARTp_MAC_MAC p) 0x020202020202 |>.wr
    (HIC_PARTp_CTL_TX_PCP_MAX p) 7

/-- A frame from a host to the address that begins with `d`. -/
def hostBytes (d : Byte) (n : Nat) : List Byte := [d,2,2,2,2,2] ++ [2,2,2,2,2,2] ++ [0x88,0xB5] ++ List.replicate n 7

/-- A frame of the bytes `b`. -/
def ethOf (b : List Byte) : EthFrame := { EthFrame.blank with bytes := b }

/-- Frames wait at the host port. -/
def atHp (l : List EthFrame) (s : State) : State := s.setSwc { s.swc with hp := l }

/-- Three semaphores are taken. -/
def withSems (s : State) : State := s.putMqf { s.mqf with sems := [(3, 1), (9,2),(10,5)] }

/-- Window 0 opens the shared SRAM to every host. -/
def memWindow (_p : Nat) (s : State) : State :=
  ((((s.wrB (HIC_FWw_BASE_EN 0) true).wrB (HIC_FWw_BASE_SPACE 0) true).wr (HIC_FWw_LIM_LIMIT 0) 0x600000).wr
    (HIC_FWw_LIM_RD 0) 63).wr (HIC_FWw_LIM_WR 0) 63

/-- Both xSPI ports changed by `f`. -/
def onXspi (f : XspiPort → XspiPort) (s : State) : State := (s.portUpd 1 f).portUpd 0 f

/-- The state with its message unit changed. -/
def mqfOf (f : MqfSt → MqfSt) (s : State) : State := s.putMqf (f s.mqf)

/-- Mailbox 0 from agent 1 to agent 6, with words staged. -/
def mailbox0 (s : State) : State :=
  ((((s.wrB (MQF_MBm_CFG_EN 0) true).wr (MQF_MBm_CFG_SENDER 0) 1).wr (MQF_MBm_CFG_RECEIVER 0) 6).wr
    (MQF_MBm_CFG_DB_BIT 0) 63).setReg (MQF_STAGING 0 3) 99 |>.wrB (MQF_MBm_CFG_ACK_DB_EN 0) true |>.wr
    (MQF_MBm_CFG_ACK_DB 0) 7

/-- That mailbox is full. -/
def fullBox (s : State) : State :=
  ((mailbox0 s).wrB (MQF_MBm_STAT_FULL 0) true).wr (MQF_MBm_STAT_SEQ 0) 1 |>.wrB (MQF_MBm_STAT_TIMEOUT 0) true

/-- Its time-out runs. -/
def timedBox (s : State) : State :=
  mqfOf (fun x => { x with timing := [(0,true)] }) (((mailbox0 s).wrB (MQF_MBm_STAT_FULL 0) true).wr
    (MQF_MBm_STAT_SEQ 0) 1)

/-- Packet queue 0 active from agent 1 to agent 6. -/
def queueIn (f : PqSt → PqSt) (s : State) : State :=
  (((s.setPq 0 (f (s.pq 0))).wr (PQk_STAT_STATE 0) 2).wr (PQk_CFG_WRITER 0) 1).wr (PQk_CFG_READER 0) 6 |>.wr
    (PQk_CFG_SIZE 0) 4 |>.wr (PQk_CFG_BASE 0) 0x100000 |>.wr (PQk_CFG_BASE 1) 0x100000

/-- A packet of five bytes. -/
def packet0 : Packet := ⟨3, [1,2,3,4,5], false, false⟩

/-- Packet queue 0 in state `n`. -/
def queueState (n : Nat) (s : State) : State := s.wr (PQk_STAT_STATE 0) n

/-- The state with its command unit changed. -/
def dcpOf (f : DcpSt → DcpSt) (s : State) : State := s.putDcp (f s.dcp)

/-- The state with its switch core changed. -/
def swcOf (f : SwcSt → SwcSt) (s : State) : State := s.setSwc (f s.swc)

/-- A started command `op` with the payload `pay`. -/
def dcpRun (op : Nat) (pay : List Byte) (slot : Nat :=
  0) (part : Nat := 0) : DcpRun := ⟨slot, part, op, 0, 5, pay.length, 3, 0, pay, true, false, false, none⟩

/-- Bytes from numbers. -/
def toBytes (l : List Nat) : List Byte := l.map (BitVec.ofNat 8)

/-- The low `n` bytes of `v`, least significant first. -/
def leBytes (n v : Nat) : List Byte := bytesLE n v

/-- The command `r` runs. -/
def withRun (s : State) (r : DcpRun) : State := s.setRun r

/-- Queue 0 of partition 0 enabled with three entries. -/
def queue0On (s : State) : State :=
  (((s.wrB (HIC_PARTp_Qq_CTL_EN 0 0) true).wr (HIC_PARTp_Qq_CTL_SIZE 0 0) 4).wr (HIC_PARTp_Qq_IDX_SQ_TAIL 0 0) 3).wr
    (HIC_PARTp_Qq_CTL_TMO 0 0) 9

/-- The device takes commands in mode `n`. -/
def serving (n : Nat) : State :=
  queue0On (banksOn ((inMode n).putBoot { (inMode n).boot with lifeCycle := 2, nextKind := none, running := false }))

/-- A submission entry (Table R399). -/
def sqEntry (op : Nat) (len : Nat) : List Byte :=
  leBytes 2 op ++ leBytes 2 0 ++ leBytes 2 5 ++ leBytes 2 len ++ leBytes 2 3 ++ List.replicate 22 0

/-- The command has the outcome `st`. -/
def answered (st : Nat) (r : DcpRun) : DcpRun := { r with result := some ⟨st, []⟩ }

/-- A command frame of partition 0. -/
def commandFrame : EthFrame :=
  { EthFrame.blank with bytes := toBytes ([1,2,3,4,5,6,7,8,9,10,11,12,0x88,0xB6] ++ [0,0,0,0,0,5,0,0,0,3] ++ List.replicate 40 0), cls := 1 }

/-- A frame of the EtherType of safety data. -/
def safetyFrame : EthFrame :=
  { EthFrame.blank with bytes := toBytes ([1,2,3,4,5,6,7,8,9,10,11,12,0x88,0xB5] ++ List.replicate 50 8), ingress := 2 }

/-- Frames wait at the MGP port. -/
def atMp (l : List EthFrame) (s : State) : State := swcOf (fun x => {x with mp := l}) s

/-- One relay of safety PDUs. -/
def relayOn (s : State) : State :=
  dcpOf (fun x => {x with relay := [(5, toBytes ([5,2,0,0,7,8,9,10,11,12,1,2,3,4,5,6,0,0,0,0,0,0,0,0]))]}) s

/-- The island is in its state 4. -/
def sfiRunning (s : State) : State := s.putSfi { s.sfi with st := 4 }

/-- A device that has connections, calibration values, an event and a running Rook. -/
def readBase (m : Nat) : State :=
  ((dcpOf (fun x => {x with conns := [(1, some ⟨1,0,2,3,0x100⟩)], cal := [(256*2+3, some 77)]}) (serving m)).logEvent
    0x0700 3 3 1).wr (PEA_Rn_STAT_STATE 3) 2

/-- The payload that registers a connection. -/
def connPay (c u d a l o : Nat) : List Byte :=
  leBytes 2 c ++ toBytes [u,d,a,0] ++ leBytes 2 l ++ leBytes 4 o ++ leBytes 4 0

/-- The payload of a grant. -/
def grantPay (k p : Nat) (lo hi : Nat) : List Byte := toBytes [k,p,3,0,0,0,0,0] ++ leBytes 8 lo ++ leBytes 8 hi

/-- A device with connections, a slice of a segment, a window and slices of partition 2. -/
def registry (m : Nat) : State :=
  (((((dcpOf
    (fun x =>
    {x with stored := none, conns := [(1, some ⟨1,0,2,3,0x100⟩),(4, some ⟨2,0,1,1,0x180⟩)], cal := [(256*2+3, some 77)]})
    (serving m)).wrB (CBC_SEGs_SLICEk_EN 1 1) true).wr (CBC_SEGs_SLICEk_CONN 1 1) 4).wrB (HIC_FWw_BASE_EN 0) true).wr
    (HIC_PARTp_SLICE_OFF 2) 10).wr (HIC_PARTp_SLICE_LEN 2) 20

/-- Every window is taken. -/
def allWindows (s : State) : State := (List.range 64).foldl (fun s w => s.wrB (HIC_FWw_BASE_EN w) true) s

/-- One table update of a batch. -/
def swcOp (t o i : Nat) (d : List Nat) : List Byte :=
  leBytes 8 (t * 2^60 + o * 2^56 + i) ++ (d ++ List.replicate (5 - d.length) 0).flatMap fun v => leBytes 8 v

/-- A batch of table updates. -/
def swcBatch (l : List (List Byte)) : List Byte := leBytes 8 l.length ++ l.flatMap id

/-- The device takes commands in OP. -/
def unitBase : State := serving 7

/-- The same with the NET domain off. -/
def netOff : State := unitBase.setDom 6 0

/-- The payload that configures Rook `n`. -/
def rookPay (n b : Nat) : List Byte :=
  toBytes [n,b,0,0] ++ leBytes 4 0x100 ++ leBytes 4 0x200 ++ leBytes 4 0x300 ++ leBytes 4 0x400 ++ toBytes [10,7,0,0]

/-- The payload that configures axis `k`. -/
def axisPay (k cfg : Nat) : List Byte :=
  toBytes [k,0,0,0,0,0,0,0] ++ leBytes 8 (cfg + 0x0040000000000000) ++ leBytes 8 0x10000000005 ++ leBytes 8
    0x4000000000000800 ++ leBytes 8 0x0010040000000000

/-- A replication list has changed that a frame still uses. -/
def heldBatch : State :=
  swcOf
    (fun x => {x with changed := [(7,5)], frames := [(0, some { EthFrame.blank with rlist := some 7, gen := 2 })]})
    unitBase

/-- The header of an image of kind `kind`. -/
def header (kind key : Nat) : List Byte :=
  leBytes 4 0x44505849 ++ leBytes 2 1 ++ leBytes 1 kind ++ leBytes 1 key ++ leBytes 4 0 ++ leBytes 1 3 ++ leBytes 3 0
    ++ leBytes 4 64 ++ List.replicate 12 0

/-- A spore image with a payload of 64 bytes. -/
def sporeImage : List Byte :=
  (header 2 1 ++ List.replicate (0x52 - 0x20) 1 ++ toBytes [1] ++ List.replicate 13 0 ++ leBytes 3 8 ++ leBytes 3 16
    ++ leBytes 3 0 ++ leBytes 3 8 ++ leBytes 2 4 ++ leBytes 2 0 ++ List.replicate 400 0) ++ List.replicate 600 0
    |>.take 0x200 |>.append (toBytes ((List.range 64).map fun i => i + 1))

/-- The header block of a firmware image. -/
def imageHead : List Byte := (header 1 0 ++ List.replicate 0x40 1 ++ List.replicate 0x300 0).take 512

/-- Both images in memory. -/
def withImages (s : State) : State :=
  (s.putSram (memPutBytes s.sram 0x1000 sporeImage)).putMram (memPutBytes s.mram 0x600000 imageHead)

/-- The state with its start-up record changed. -/
def bootOf (f : BootSt → BootSt) (s : State) : State := s.putBoot (f s.boot)

/-- The state with its power unit changed. -/
def crpOf (f : CrpSt → CrpSt) (s : State) : State := s.putCrp (f s.crp)

/-- The state with its memory controller changed. -/
def memOf (f : MemSt → MemSt) (s : State) : State := s.putMem (f s.mem)

/-- A commissioned device in mode `m` that no reset holds. -/
def commissioned (m : Nat) : State :=
  bootOf
    (fun b => { b with nextKind := none, lifeCycle := 2, porHeld := false, sysrstHeld := false, resetDue := none })
    (banksOn (inMode m))

/-- Registers of several units hold values that are not their reset values. -/
def regsSet (s : State) : State :=
  (((s.setReg (PIA_SAFE 0 0) 5).setReg 0x100 7).setReg (MQF_STAGING 0 3) 9).setReg (ACE_COEF_SHADOW 0 0) 3

/-- A replication list whose update waits for a frame. -/
def heldList : State :=
  let s := withBatch [updOp 2 0 5] (queued (live 7))
  s.setSwc { s.swc with frames := [(7, some { frame64 with rlist := some 5 })], changed := [(5, 3)] }

/-! ## The checks of Instr.wf: an ill-formed command for each, which the check refuses -/

/-- The levels of the pins at an access that nobody tampers with. -/
def calm : AccPins := ⟨true, true⟩

/-- A descriptor of partition 1 whose buffer may hold four bytes. -/
def desc4 : HostDesc := ⟨1, 0, 4, [1, 2, 3, 4]⟩

/-- A start-up step that passes. -/
def step7 : StepOut := ⟨7, false, 100, 0, none, [], []⟩

/-- A classical CAN frame of one byte. -/
def canFrame1 : CanFrame := ⟨0, false, false, false, false, 5, 1, 0, [7]⟩

theorem test_wf_accepts :
    ([.macFrameReceive 0 [List.replicate 60 0, [1, 2, 3, 4]] .none 0, .canFrameRx 0 canFrame1 ⟨0, 0⟩,
      .hostAccess 0 false true 0x1000 8 [1, 2, 3, 4, 5, 6, 7, 8] calm, .hostAccess 0 false false 0x1000 8 [] calm,
      .memWrite 0 8 [1], .memRead 0 8 2, .hpFrameDeliver [desc4], .hicTxPost 1 3 [desc4],
      .dcpFetch 0 0 (List.replicate 32 0) [] false false, .dcpStartTimeout 0 0 (List.replicate 32 0),
      .marchRun 0 [⟨3, 1, [2303]⟩], .bootStart [step7] (some 0x14), .bootStepTimeout [step7] none,
      .registerWrite 0 0x02001040 1 true false calm] : List Instr).all Instr.wf = true := by decide +kernel

theorem test_wf_frame : (Instr.macFrameReceive 0 [List.replicate 16385 0] .none 0).wf = false ∧
    (Instr.macFrameReceive 0 [] .none 0).wf = false := by decide +kernel

theorem test_wf_can_frame_too_long :
    (Instr.canFrameRx 0 { canFrame1 with bytes := List.replicate 2049 0 } ⟨0, 0⟩).wf = false := by
  decide +kernel

theorem test_wf_reply_too_long :
    (Instr.cbReplyReceive 0 0 .good 0 false false (List.replicate 513 0) 0).wf = false ∧
    (Instr.cbArspReceive 0 0 .good 0 (List.replicate 129 0) 0).wf = false := by decide +kernel

theorem test_wf_host_access :
    (Instr.hostAccess 0 false true 0x1000 8 [] calm).wf = false ∧
    (Instr.hostAccess 0 false true 0x1000 8 (List.replicate 4097 0) calm).wf = false ∧
    (Instr.hostAccess 0 false false 0x1000 0 [] calm).wf = false ∧
    (Instr.hostAccess 0 false false 0x1000 8 [1] calm).wf = false := by decide +kernel

theorem test_wf_burst :
    (Instr.memWrite 0 8 []).wf = false ∧ (Instr.memWrite 0 8 (List.replicate 33 0)).wf = false ∧
    (Instr.memRead 0 8 0).wf = false := by decide +kernel

theorem test_wf_descriptor :
    (Instr.hpFrameDeliver [{ desc4 with bytes := [1, 2, 3, 4, 5] }]).wf = false ∧
    (Instr.hicTxPost 1 3 [{ desc4 with bytes := [1, 2, 3, 4, 5] }]).wf = false ∧
    (Instr.hicTxPost 2 3 [desc4]).wf = false := by decide +kernel

theorem test_wf_submission_entry :
    (Instr.dcpFetch 0 0 (List.replicate 31 0) [] false false).wf = false ∧
    (Instr.dcpFetch 0 0 (List.replicate 32 0) (List.replicate 4097 0) false false).wf = false ∧
    (Instr.dcpStartTimeout 0 0 (List.replicate 33 0)).wf = false := by decide +kernel

theorem test_wf_march :
    (Instr.marchRun 0 [⟨3, 1, [2304]⟩]).wf = false ∧ (Instr.marchRun 0 [⟨3, 0, [5]⟩]).wf = false := by decide +kernel

theorem test_wf_start_step :
    (Instr.bootStart [{ step7 with step := 0 }] none).wf = false ∧
    (Instr.bootStart [{ step7 with step := 0x15 }] none).wf = false ∧
    (Instr.bootStart [{ step7 with power := some 10 }] none).wf = false ∧
    (Instr.bootStart [{ step7 with banks := [80] }] none).wf = false ∧
    (Instr.bootStart [{ step7 with repairs := [(80, 0)] }] none).wf = false ∧
    (Instr.bootStart [{ step7 with repairs := [(0, 2304)] }] none).wf = false ∧
    (Instr.bootStart [] (some 0)).wf = false ∧ (Instr.bootStepTimeout [] (some 0x15)).wf = false ∧
    (Instr.bootStepTimeout [{ step7 with step := 0 }] none).wf = false := by decide +kernel

theorem test_wf_register_write :
    (Instr.registerWrite 0 0x02001041 1 true false calm).wf = false ∧
    (Instr.registerWrite 0 0x02001040 1 false false calm).wf = false := by decide +kernel

/-! ## Values that the spec works out itself -/

/-- R354 gives the CRC of the nine characters "123456789". -/
theorem test_crc_of_safety_pdus :
    crc32c (toBytes [0x31, 0x32, 0x33, 0x34, 0x35, 0x36, 0x37, 0x38, 0x39]) = 0xE3069283 := by decide +kernel

/-- EPC_PORT1_CTL written as the example under Table R554 writes it: SPEED in bits [7:4], IF and EN 0, the other fields at
their reset values. -/
def portSpeed (v : Nat) (s : State) : State :=
  s.regWrite 0 0x02001040 (BitVec.ofNat 64 (0x06000100 + 16 * v)) true true calm

/-- The example: SPEED = 2 with the integrated PHY is refused, EPC_USTAT names the register. -/
theorem test_epc_example_refuses :
    (portSpeed 2 (inMode 3)).reg 0x02000018 = 0x0000104000000001 ∧
    (portSpeed 2 (inMode 3)).reg 0x02001040 = (inMode 3).reg 0x02001040 := by decide +kernel

/-- The example goes on: writing 1 clears CFG_ERR, and SPEED = 1 is accepted. -/
theorem test_epc_example_accepts :
    let s := portSpeed 1 ((portSpeed 2 (inMode 3)).regWrite 0 0x02000018 1 true true calm)
    s.rd (EPC_PORTp_CTL_SPEED 1) = 1 ∧ s.bit (cUSTAT_CFG_ERR uEPC) = false := by decide +kernel

/-- SLEW_MAX = 25 with PULL_EN, as in the example under R38. -/
def slew25 : CycBank := ⟨31250, 25, 0, true, []⟩

/-- The four cycles of that example: e in units of 0.5 ns, c in ns. -/
theorem test_slew_example : [1060, 660, 260, 4].map (pullCorr slew25) = [200, 200, 128, 0] := by decide +kernel

/-- Table R254E: the fault-tolerant average of the five deviations is 42, and RATE_CORR −1410. -/
theorem test_average_example :
    fta [0, 128, -128, 0, 896] = 42 ∧ sarInt (quotT (-42 * 2 ^ 24) 31250) 4 = -1410 := by decide +kernel

/-- The bank of the worked example of chapter 11, with the output limits ±`m`. -/
def nozzleBank (m : Int) : Bank :=
  let w := fun (n : Int) => BitVec.ofInt 64 n
  let g : Nat → Int := fun i => if i < 2 then 64424509 else 53687091
  ⟨[w 6553600, w 524288, w 65536, 0, w (16 * 2 ^ 32 + 4), w (m * 2 ^ 32 + 2 ^ 32 - m),
      w (3 * 2 ^ 62 + 200000), w (2 ^ 63 + 2000), 0, 0, 0, 0, 0, 0, 0, 0]
    ++ (List.range 32).map (fun j => w (g (2 * j + 1) * 2 ^ 32 + g (2 * j))) ++ [w (g 64)],
   fun j => if j = 2047 then 12 else 0, fun j => if j = 4055 then -3 else 0⟩

/-- The sample of that example with the integrator `i`. -/
def nozzleSample (m i : Int) : LawOut :=
  controlLaw (nozzleBank m) ⟨100000, 13958643712, 0, false, false⟩ 99980 99977 0 i 3 1

/-- Its table: I, vf, U, VREF, and no saturation flag. -/
theorem test_axis_example : nozzleSample 300 515396075520 =
    ⟨187, 231833, 20, 533864434912, 12884901888, false, false, false⟩ := by decide +kernel

/-- With the limits ±100 that follow it: I = 100 mA, ISAT, U = 100, OSAT. -/
theorem test_axis_example_tight : nozzleSample 100 533864434912 =
    ⟨100, 231833, 20, 100 * 2 ^ 32, 12884901888, true, true, false⟩ := by decide +kernel

/-- The extrapolation of the same example. -/
theorem test_axis_extrapolates : extrapolate 99977 99974 99971 3 = some (sv 99980) := by decide +kernel

/-- The example under R160: DIV w5, w6, w7 in cycle 0, ADDI w5, w0, 9 in cycle 1. -/
def divThenAddi : RookSt :=
  match execDiv 0 5 6 7 (rookIn { RookSt.reset with w := [(5, 3), (6, 100), (7, 8)] }) with
  | .next s => match execAddi 0 5 0 9 s with
    | .next t => t.rook 0
    | _ => RookSt.reset
  | _ => RookSt.reset

/-- What a read of w5 in cycle `c` returns. -/
def readW5 (c : Nat) : Word := (divThenAddi.applyTo c).getW 5

/-- Before both in cycle 1, then 9, then the quotient 12 from cycle 18 on. -/
theorem test_divide_example :
    readW5 1 = 3 ∧ readW5 2 = 9 ∧ readW5 17 = 9 ∧ readW5 18 = 12 := by decide +kernel

/-! ## Steps -/

/-- A state with two commands waiting meets the hypothesis of StepRunsFront. -/
theorem witness_stepRunsFront : ∃ (c : Instr) (rest : List Instr) (s : State), s.pending = c :: rest :=
  ⟨.cycleBoundary, [.cbIn], { State.reset with pending := [.cycleBoundary, .cbIn] }, rfl⟩

/-- Reset has no command waiting, and its maps are in their canonical form. -/
theorem witness_reset : State.reset.pending = [] ∧ State.reset.memOk = true ∧ State.reset.regsOk = true := by
  decide +kernel

/-- On an empty queue time passes by one edge of 4 ns (log 1). -/
theorem test_step_idles : step State.reset = .next State.reset.idleEdge := rfl

theorem test_idle_edge : (inMode 3).idleEdge.ntu.lt = (inMode 3).ntu.lt + 4 * nsU := by decide +kernel

/-- Words that meet the hypotheses of the clauses of DecodeAndEncodeAgree, with fields at their extremes. -/
theorem witness_decodeAndEncodeAgree :
    rookEncode (.addi 23 31 0 0x7FFF) = some (23, 0b0100000_11111_00000_111111111111111) ∧
    rookDecode 23 0b0100000_11111_00000_111111111111111 = some (.addi 23 31 0 0x7FFF) ∧
    rookDecode 0 0 = none ∧ rookUndefined 0 = true ∧
    pawnEncode (.djnz 31 0xFF 1 63) = some (31, 0xFF, 0b1000_1_00000_111111) ∧
    pawnDecode 31 0xFF 0b1000_1_00000_111111 = .djnz 31 0xFF 1 63 ∧
    (pawnDecode 31 0xFF 0b1000_1_00000_111111 != .pawnUndefined 31 0xFF) = true := by decide +kernel

/-! ## A START PDU of the parameter channel, whose CRC depends on the free identity of the channel -/

theorem crcBit_lt (c : Nat) (h : c < 2 ^ 32) : crc32cBit c < 2 ^ 32 := by
  unfold crc32cBit
  split
  · exact Nat.xor_lt_two_pow (by omega) (by omega)
  · omega

theorem crcByte_lt (c : Nat) (b : Byte) (h : c < 2 ^ 32) : crc32cByte c b.toNat < 2 ^ 32 := by
  have : c ^^^ b.toNat < 2 ^ 32 := Nat.xor_lt_two_pow h (by have := b.isLt; omega)
  unfold crc32cByte
  repeat' apply crcBit_lt
  exact this

/-- A CRC is a 32-bit value. -/
theorem crc32c_lt (l : List Byte) : crc32c l < 2 ^ 32 := by
  have h : ∀ (l : List Byte) (c : Nat), c < 2 ^ 32 → l.foldl (fun c b => crc32cByte c b.toNat) c < 2 ^ 32 := by
    intro l
    induction l with
    | nil => intro c hc; exact hc
    | cons b t ih => intro c hc; exact ih _ (crcByte_lt c b hc)
  exact Nat.xor_lt_two_pow (h l _ (by omega)) (by omega)

/-- Four bytes appended behind six read back as the value they hold. -/
theorem beAt_six (v : Nat) (h : v < 2 ^ 32) (o : List Byte) (hl : o.length = 6) : beAt (o ++ bytesBE 4 v) 6 4 = v := by
  have e : ∀ i : Nat, (o ++ bytesBE 4 v).getD (6 + i) 0 = (bytesBE 4 v).getD i 0 := by
    intro i
    simp [List.getD, List.getElem?_append_right, hl]
  unfold beAt
  simp only [e]
  simp [bytesBE, bytesLE, natOfBE, List.range, List.range.loop, BitVec.toNat_ofNat]
  omega

/-- Header, LEN, WDX and SEQ of a START PDU (Table R353). -/
def startHead : List Byte := [36, 0, 3, 232, 0, 9]
/-- The whole PDU. -/
def startPdu : List Byte := startHead ++ bytesBE 4 (dslCrc parIdent startHead)

/-- The checks of Table R355 pass it. -/
theorem startPdu_check (last : Option Nat) : dslCheck parIdent 1000 chanLenOk last startPdu = .start := by
  have h : beAt startPdu 6 4 = dslCrc parIdent startHead := beAt_six _ (crc32c_lt _) startHead rfl
  have t : startPdu.take 6 = startHead := rfl
  have z : byteAt startPdu 1 = 0 := rfl
  have k : byteAt startPdu 0 / 4 % 8 = 1 := rfl
  have f : (byteAt startPdu 0 / 32 != 1 || byteAt startPdu 0 % 2 != 0 || !chanLenOk 1 0
    || decide (startPdu.length < 10)) = false := rfl
  have w : beAt startPdu 2 2 = 1000 := rfl
  unfold dslCheck
  simp only [z, k, Nat.add_zero, f, w, h, t, bne_self_eq_false, Bool.false_eq_true, if_false, beq_self_eq_true, if_true]

/-- The island answers it, where it runs. -/
theorem startPdu_answer (s : State) (h : s.sfiRuns = true) : (s.sfiParamPdu startPdu).1 = some [] := by
  unfold State.sfiParamPdu
  simp [h, startPdu_check]

/-- The run of a SAFE_PDU that carries it. -/
def pduRun : DcpRun := ⟨0, 0, 0x500, 0, 5, 10, 3, 0, startPdu, true, false, false, none⟩

/-- The island is in OPERATE, and the run's payload has come. -/
def pduState : State := withRun (sfiIn 2 id) pduRun

theorem witness_safePdu : ∃ (s : State) (slot : Fin 25) (r : DcpRun) (a : List Byte) (u : State),
    DcpRuns s slot 0x500 r ∧ s.domOn 1 = true ∧ s.sfiParamPdu r.payload = (some a, u) :=
  ⟨pduState, 0, pduRun, [], (pduState.sfiParamPdu startPdu).2, by exact ⟨by decide +kernel, rfl, rfl, rfl, rfl⟩, by decide +kernel,
    Prod.ext (startPdu_answer pduState (by decide +kernel)) rfl⟩

/-! ## What meets the hypotheses of the obligations, clause by clause -/

theorem witness_rookAlu :
    (∃ (s : State) (n : Fin 24), RookIssues s n.val) ∧
    (∃ (s : State) (n : Fin 24), RookIssues s n.val) :=
  ⟨⟨rookIn rook0, 0, by unfold RookIssues; decide +kernel⟩,
   ⟨rookIn rook0, 0, by unfold RookIssues; decide +kernel⟩⟩

theorem witness_rookImmediatesAndProducts :
    (∃ (s : State) (n : Fin 24), RookIssues s n.val) ∧
    (∃ (s : State) (n : Fin 24) (rs1 : BitVec 5) (rs2 : BitVec 5), RookIssues s n.val
      ∧ (rookNow s n.val).getW rs2.toNat ≠ 0
      ∧ (BitVec.toInt ((rookNow s n.val).getW rs1.toNat) ≠ -2 ^ 63 ∨ BitVec.toInt ((rookNow s n.val).getW rs2.toNat) ≠
        -1)) ∧
    (∃ (s : State) (n : Fin 24) (rs1 : BitVec 5) (rs2 : BitVec 5), RookIssues s n.val
      ∧ BitVec.toInt ((rookNow s n.val).getW rs1.toNat) = -2 ^ 63
      ∧ BitVec.toInt ((rookNow s n.val).getW rs2.toNat) = -1) ∧
    (∃ (s : State) (n : Fin 24) (rs2 : BitVec 5), RookIssues s n.val ∧ (rookNow s n.val).getW rs2.toNat = 0
      ∧ (rookNow s n.val).esrBit 3 = false) :=
  ⟨⟨rookIn rook0, 0, by unfold RookIssues; decide +kernel⟩,
   ⟨rookIn rook0, 0, 0, 1, by unfold RookIssues; decide +kernel⟩,
   ⟨rookIn rook0, 0, 2, 3, by unfold RookIssues; decide +kernel⟩,
   ⟨rookIn rook0, 0, 0, by unfold RookIssues; decide +kernel⟩⟩

theorem witness_rookLoadsAndStores_1 :
    (∃ (s : State) (n : Fin 24) (rd : BitVec 5) (rs1 : BitVec 5) (imm : BitVec 15), RookIssues s n.val
      ∧ BitVec.toNat ((rookNow s n.val).getW rs1.toNat + BitVec.signExtend 64 imm) < 131072
      ∧ BitVec.toNat ((rookNow s n.val).getW rs1.toNat + BitVec.signExtend 64 imm) % 1 = 0) ∧
    (∃ (s : State) (n : Fin 24) (rd : BitVec 5) (rs1 : BitVec 5) (imm : BitVec 15), RookIssues s n.val
      ∧ BitVec.toNat ((rookNow s n.val).getW rs1.toNat + BitVec.signExtend 64 imm) < 131072
      ∧ BitVec.toNat ((rookNow s n.val).getW rs1.toNat + BitVec.signExtend 64 imm) % 2 = 0) ∧
    (∃ (s : State) (n : Fin 24) (rd : BitVec 5) (rs1 : BitVec 5) (imm : BitVec 15), RookIssues s n.val
      ∧ BitVec.toNat ((rookNow s n.val).getW rs1.toNat + BitVec.signExtend 64 imm) < 131072
      ∧ BitVec.toNat ((rookNow s n.val).getW rs1.toNat + BitVec.signExtend 64 imm) % 4 = 0) ∧
    (∃ (s : State) (n : Fin 24) (rd : BitVec 5) (rs1 : BitVec 5) (imm : BitVec 15), RookIssues s n.val
      ∧ BitVec.toNat ((rookNow s n.val).getW rs1.toNat + BitVec.signExtend 64 imm) < 131072
      ∧ BitVec.toNat ((rookNow s n.val).getW rs1.toNat + BitVec.signExtend 64 imm) % 8 = 0) ∧
    (∃ (s : State) (n : Fin 24) (rd : BitVec 5) (rs1 : BitVec 5) (imm : BitVec 15), RookIssues s n.val
      ∧ BitVec.toNat ((rookNow s n.val).getW rs1.toNat + BitVec.signExtend 64 imm) < 131072
      ∧ BitVec.toNat ((rookNow s n.val).getW rs1.toNat + BitVec.signExtend 64 imm) % 1 = 0) ∧
    (∃ (s : State) (n : Fin 24) (rd : BitVec 5) (rs1 : BitVec 5) (imm : BitVec 15), RookIssues s n.val
      ∧ BitVec.toNat ((rookNow s n.val).getW rs1.toNat + BitVec.signExtend 64 imm) < 131072
      ∧ BitVec.toNat ((rookNow s n.val).getW rs1.toNat + BitVec.signExtend 64 imm) % 2 = 0) ∧
    (∃ (s : State) (n : Fin 24) (rd : BitVec 5) (rs1 : BitVec 5) (imm : BitVec 15), RookIssues s n.val
      ∧ BitVec.toNat ((rookNow s n.val).getW rs1.toNat + BitVec.signExtend 64 imm) < 131072
      ∧ BitVec.toNat ((rookNow s n.val).getW rs1.toNat + BitVec.signExtend 64 imm) % 4 = 0) ∧
    (∃ (s : State) (n : Fin 24) (rs2 : BitVec 5) (rs1 : BitVec 5) (imm : BitVec 15), RookIssues s n.val
      ∧ BitVec.toNat ((rookNow s n.val).getW rs1.toNat + BitVec.signExtend 64 imm) < 131072
      ∧ BitVec.toNat ((rookNow s n.val).getW rs1.toNat + BitVec.signExtend 64 imm) % 1 = 0
      ∧ (rookNow s n.val).spec = none) :=
  ⟨⟨rookIn rook0, 0, 0, 0, 0, by unfold RookIssues; decide +kernel⟩,
   ⟨rookIn rook0, 0, 0, 0, 0, by unfold RookIssues; decide +kernel⟩,
   ⟨rookIn rook0, 0, 0, 0, 0, by unfold RookIssues; decide +kernel⟩,
   ⟨rookIn rook0, 0, 0, 0, 0, by unfold RookIssues; decide +kernel⟩,
   ⟨rookIn rook0, 0, 0, 0, 0, by unfold RookIssues; decide +kernel⟩,
   ⟨rookIn rook0, 0, 0, 0, 0, by unfold RookIssues; decide +kernel⟩,
   ⟨rookIn rook0, 0, 0, 0, 0, by unfold RookIssues; decide +kernel⟩,
   ⟨rookIn rook0, 0, 0, 0, 0, by unfold RookIssues; decide +kernel⟩⟩

theorem witness_rookLoadsAndStores_2 :
    (∃ (s : State) (n : Fin 24) (rs2 : BitVec 5) (rs1 : BitVec 5) (imm : BitVec 15), RookIssues s n.val
      ∧ BitVec.toNat ((rookNow s n.val).getW rs1.toNat + BitVec.signExtend 64 imm) < 131072
      ∧ BitVec.toNat ((rookNow s n.val).getW rs1.toNat + BitVec.signExtend 64 imm) % 1 = 0
      ∧ (rookNow s n.val).spec.isSome = true ∧ (rookNow s n.val).commit.length < 32) ∧
    (∃ (s : State) (n : Fin 24) (rs2 : BitVec 5) (rs1 : BitVec 5) (imm : BitVec 15), RookIssues s n.val
      ∧ BitVec.toNat ((rookNow s n.val).getW rs1.toNat + BitVec.signExtend 64 imm) < 131072
      ∧ BitVec.toNat ((rookNow s n.val).getW rs1.toNat + BitVec.signExtend 64 imm) % 2 = 0
      ∧ (rookNow s n.val).spec = none) ∧
    (∃ (s : State) (n : Fin 24) (rs2 : BitVec 5) (rs1 : BitVec 5) (imm : BitVec 15), RookIssues s n.val
      ∧ BitVec.toNat ((rookNow s n.val).getW rs1.toNat + BitVec.signExtend 64 imm) < 131072
      ∧ BitVec.toNat ((rookNow s n.val).getW rs1.toNat + BitVec.signExtend 64 imm) % 2 = 0
      ∧ (rookNow s n.val).spec.isSome = true ∧ (rookNow s n.val).commit.length < 32) ∧
    (∃ (s : State) (n : Fin 24) (rs2 : BitVec 5) (rs1 : BitVec 5) (imm : BitVec 15), RookIssues s n.val
      ∧ BitVec.toNat ((rookNow s n.val).getW rs1.toNat + BitVec.signExtend 64 imm) < 131072
      ∧ BitVec.toNat ((rookNow s n.val).getW rs1.toNat + BitVec.signExtend 64 imm) % 4 = 0
      ∧ (rookNow s n.val).spec = none) ∧
    (∃ (s : State) (n : Fin 24) (rs2 : BitVec 5) (rs1 : BitVec 5) (imm : BitVec 15), RookIssues s n.val
      ∧ BitVec.toNat ((rookNow s n.val).getW rs1.toNat + BitVec.signExtend 64 imm) < 131072
      ∧ BitVec.toNat ((rookNow s n.val).getW rs1.toNat + BitVec.signExtend 64 imm) % 4 = 0
      ∧ (rookNow s n.val).spec.isSome = true ∧ (rookNow s n.val).commit.length < 32) ∧
    (∃ (s : State) (n : Fin 24) (rs2 : BitVec 5) (rs1 : BitVec 5) (imm : BitVec 15), RookIssues s n.val
      ∧ BitVec.toNat ((rookNow s n.val).getW rs1.toNat + BitVec.signExtend 64 imm) < 131072
      ∧ BitVec.toNat ((rookNow s n.val).getW rs1.toNat + BitVec.signExtend 64 imm) % 8 = 0
      ∧ (rookNow s n.val).spec = none) ∧
    (∃ (s : State) (n : Fin 24) (rs2 : BitVec 5) (rs1 : BitVec 5) (imm : BitVec 15), RookIssues s n.val
      ∧ BitVec.toNat ((rookNow s n.val).getW rs1.toNat + BitVec.signExtend 64 imm) < 131072
      ∧ BitVec.toNat ((rookNow s n.val).getW rs1.toNat + BitVec.signExtend 64 imm) % 8 = 0
      ∧ (rookNow s n.val).spec.isSome = true ∧ (rookNow s n.val).commit.length < 32) :=
  ⟨⟨rookIn ({ rook0 with spec := some region0, commit := [⟨8, 4, 0x11223344⟩], rsp := 0x35 }), 0, 0, 0, 0,
     by unfold RookIssues; decide +kernel⟩,
   ⟨rookIn rook0, 0, 0, 0, 0, by unfold RookIssues; decide +kernel⟩,
   ⟨rookIn ({ rook0 with spec := some region0, commit := [⟨8, 4, 0x11223344⟩], rsp := 0x35 }), 0, 0, 0, 0,
     by unfold RookIssues; decide +kernel⟩,
   ⟨rookIn rook0, 0, 0, 0, 0, by unfold RookIssues; decide +kernel⟩,
   ⟨rookIn ({ rook0 with spec := some region0, commit := [⟨8, 4, 0x11223344⟩], rsp := 0x35 }), 0, 0, 0, 0,
     by unfold RookIssues; decide +kernel⟩,
   ⟨rookIn rook0, 0, 0, 0, 0, by unfold RookIssues; decide +kernel⟩,
   ⟨rookIn ({ rook0 with spec := some region0, commit := [⟨8, 4, 0x11223344⟩], rsp := 0x35 }), 0, 0, 0, 0,
     by unfold RookIssues; decide +kernel⟩⟩

theorem witness_rookTransfers_1 :
    (∃ (s : State) (n : Fin 24) (rs1 : BitVec 5) (rs2 : BitVec 5) (off : BitVec 15), RookIssues s n.val
      ∧ (rookNow s n.val).slot = 0
      ∧ decide ((rookNow s n.val).getW rs1.toNat = (rookNow s n.val).getW rs2.toNat) = true
      ∧ ((((rookNow s n.val).pc : Int) + 4 * off.toInt) % 2 ^ 64).toNat % 4 = 0) ∧
    (∃ (s : State) (n : Fin 24) (rs1 : BitVec 5) (rs2 : BitVec 5) (off : BitVec 15), RookIssues s n.val
      ∧ (rookNow s n.val).slot = 0
      ∧ decide ((rookNow s n.val).getW rs1.toNat = (rookNow s n.val).getW rs2.toNat) = false) ∧
    (∃ (s : State) (n : Fin 24) (rs1 : BitVec 5) (rs2 : BitVec 5) (off : BitVec 15), RookIssues s n.val
      ∧ (rookNow s n.val).slot = 0
      ∧ decide ((rookNow s n.val).getW rs1.toNat ≠ (rookNow s n.val).getW rs2.toNat) = true
      ∧ ((((rookNow s n.val).pc : Int) + 4 * off.toInt) % 2 ^ 64).toNat % 4 = 0) ∧
    (∃ (s : State) (n : Fin 24) (rs1 : BitVec 5) (rs2 : BitVec 5) (off : BitVec 15), RookIssues s n.val
      ∧ (rookNow s n.val).slot = 0
      ∧ decide ((rookNow s n.val).getW rs1.toNat ≠ (rookNow s n.val).getW rs2.toNat) = false) ∧
    (∃ (s : State) (n : Fin 24) (rs1 : BitVec 5) (rs2 : BitVec 5) (off : BitVec 15), RookIssues s n.val
      ∧ (rookNow s n.val).slot = 0
      ∧ decide (BitVec.toInt ((rookNow s n.val).getW rs1.toNat) < BitVec.toInt ((rookNow s n.val).getW rs2.toNat)) =
        true
      ∧ ((((rookNow s n.val).pc : Int) + 4 * off.toInt) % 2 ^ 64).toNat % 4 = 0) ∧
    (∃ (s : State) (n : Fin 24) (rs1 : BitVec 5) (rs2 : BitVec 5) (off : BitVec 15), RookIssues s n.val
      ∧ (rookNow s n.val).slot = 0
      ∧ decide (BitVec.toInt ((rookNow s n.val).getW rs1.toNat) < BitVec.toInt ((rookNow s n.val).getW rs2.toNat)) =
        false) :=
  ⟨⟨rookIn rook0, 0, 0, 0, 0, by unfold RookIssues; decide +kernel⟩,
   ⟨rookIn rook0, 0, 0, 1, 0, by unfold RookIssues; decide +kernel⟩,
   ⟨rookIn rook0, 0, 0, 1, 0, by unfold RookIssues; decide +kernel⟩,
   ⟨rookIn rook0, 0, 0, 0, 0, by unfold RookIssues; decide +kernel⟩,
   ⟨rookIn rook0, 0, 0, 1, 0, by unfold RookIssues; decide +kernel⟩,
   ⟨rookIn rook0, 0, 0, 0, 0, by unfold RookIssues; decide +kernel⟩⟩

theorem witness_rookTransfers_2 :
    (∃ (s : State) (n : Fin 24) (rs1 : BitVec 5) (rs2 : BitVec 5) (off : BitVec 15), RookIssues s n.val
      ∧ (rookNow s n.val).slot = 0
      ∧ decide (BitVec.toInt ((rookNow s n.val).getW rs2.toNat) ≤ BitVec.toInt ((rookNow s n.val).getW rs1.toNat)) =
        true
      ∧ ((((rookNow s n.val).pc : Int) + 4 * off.toInt) % 2 ^ 64).toNat % 4 = 0) ∧
    (∃ (s : State) (n : Fin 24) (rs1 : BitVec 5) (rs2 : BitVec 5) (off : BitVec 15), RookIssues s n.val
      ∧ (rookNow s n.val).slot = 0
      ∧ decide (BitVec.toInt ((rookNow s n.val).getW rs2.toNat) ≤ BitVec.toInt ((rookNow s n.val).getW rs1.toNat)) =
        false) ∧
    (∃ (s : State) (n : Fin 24) (rs1 : BitVec 5) (rs2 : BitVec 5) (off : BitVec 15), RookIssues s n.val
      ∧ (rookNow s n.val).slot = 0
      ∧ decide (BitVec.toNat ((rookNow s n.val).getW rs1.toNat) < BitVec.toNat ((rookNow s n.val).getW rs2.toNat)) =
        true
      ∧ ((((rookNow s n.val).pc : Int) + 4 * off.toInt) % 2 ^ 64).toNat % 4 = 0) ∧
    (∃ (s : State) (n : Fin 24) (rs1 : BitVec 5) (rs2 : BitVec 5) (off : BitVec 15), RookIssues s n.val
      ∧ (rookNow s n.val).slot = 0
      ∧ decide (BitVec.toNat ((rookNow s n.val).getW rs1.toNat) < BitVec.toNat ((rookNow s n.val).getW rs2.toNat)) =
        false) ∧
    (∃ (s : State) (n : Fin 24) (rs1 : BitVec 5) (rs2 : BitVec 5) (off : BitVec 15), RookIssues s n.val
      ∧ (rookNow s n.val).slot = 0
      ∧ decide (BitVec.toNat ((rookNow s n.val).getW rs2.toNat) ≤ BitVec.toNat ((rookNow s n.val).getW rs1.toNat)) =
        true
      ∧ ((((rookNow s n.val).pc : Int) + 4 * off.toInt) % 2 ^ 64).toNat % 4 = 0) ∧
    (∃ (s : State) (n : Fin 24) (rs1 : BitVec 5) (rs2 : BitVec 5) (off : BitVec 15), RookIssues s n.val
      ∧ (rookNow s n.val).slot = 0
      ∧ decide (BitVec.toNat ((rookNow s n.val).getW rs2.toNat) ≤ BitVec.toNat ((rookNow s n.val).getW rs1.toNat)) =
        false) :=
  ⟨⟨rookIn rook0, 0, 0, 0, 0, by unfold RookIssues; decide +kernel⟩,
   ⟨rookIn rook0, 0, 0, 1, 0, by unfold RookIssues; decide +kernel⟩,
   ⟨rookIn rook0, 0, 0, 1, 0, by unfold RookIssues; decide +kernel⟩,
   ⟨rookIn rook0, 0, 0, 0, 0, by unfold RookIssues; decide +kernel⟩,
   ⟨rookIn rook0, 0, 0, 0, 0, by unfold RookIssues; decide +kernel⟩,
   ⟨rookIn rook0, 0, 0, 1, 0, by unfold RookIssues; decide +kernel⟩⟩

theorem witness_rookTransfers_3 :
    (∃ (s : State) (n : Fin 24) (far : BitVec 25), RookIssues s n.val ∧ (rookNow s n.val).slot = 0
      ∧ ((((rookNow s n.val).pc : Int) + 4 * far.toInt) % 2 ^ 64).toNat % 4 = 0) ∧
    (∃ (s : State) (n : Fin 24) (rs1 : BitVec 5), RookIssues s n.val ∧ (rookNow s n.val).slot = 0
      ∧ BitVec.toNat ((rookNow s n.val).getW rs1.toNat) % 4 = 0) ∧
    (∃ (s : State) (n : Fin 24) (far : BitVec 25), RookIssues s n.val ∧ (rookNow s n.val).slot = 0
      ∧ (rookNow s n.val).spec = none ∧ (rookNow s n.val).esrBit 4 = false
      ∧ ((((rookNow s n.val).pc : Int) + 4 * far.toInt) % 2 ^ 64).toNat % 4 = 0) ∧
    (∃ (s : State) (n : Fin 24) (rs1 : BitVec 5), RookIssues s n.val ∧ (rookNow s n.val).slot = 0
      ∧ (rookNow s n.val).spec = none ∧ (rookNow s n.val).esrBit 4 = false
      ∧ BitVec.toNat ((rookNow s n.val).getW rs1.toNat) % 4 = 0) ∧
    (∃ (s : State) (n : Fin 24), RookIssues s n.val ∧ (rookNow s n.val).slot = 0 ∧ (rookNow s n.val).spec = none
      ∧ (rookNow s n.val).esrBit 4 = false
      ∧ (BitVec.toNat (mapGet (fun x => 0) (rookNow s n.val).rstk ((bitsOf (rookNow s n.val).rsp 3 0 + 15) % 16)) % 4
        = 0)
      ∧ 0 < bitsOf (rookNow s n.val).rsp 8 4) ∧
    (∃ (s : State) (n : Fin 24), RookIssues s n.val ∧ (rookNow s n.val).slot = 0 ∧ (rookNow s n.val).spec = none
      ∧ (rookNow s n.val).esrBit 4 = false
      ∧ (BitVec.toNat (mapGet (fun x => 0) (rookNow s n.val).rstk ((bitsOf (rookNow s n.val).rsp 3 0 + 15) % 16)) % 4
        = 0)
      ∧ bitsOf (rookNow s n.val).rsp 8 4 = 0) :=
  ⟨⟨rookIn rook0, 0, 0, by unfold RookIssues; decide +kernel⟩,
   ⟨rookIn rook0, 0, 0, by unfold RookIssues; decide +kernel⟩,
   ⟨rookIn rook0, 0, 0, by unfold RookIssues; decide +kernel⟩,
   ⟨rookIn rook0, 0, 0, by unfold RookIssues; decide +kernel⟩,
   ⟨rookIn ({ rook0 with rsp := 0x35, rstk := [(4, 0x100), (5, 0x104)] }), 0, by unfold RookIssues; decide +kernel⟩,
   ⟨rookIn rook0, 0, by unfold RookIssues; decide +kernel⟩⟩

theorem witness_rookSystem_1 :
    (∃ (s : State) (n : Fin 24) (sr : BitVec 5), RookIssues s n.val ∧ sr.toNat = 0) ∧
    (∃ (s : State) (n : Fin 24) (sr : BitVec 5), RookIssues s n.val ∧ sr.toNat = 1) ∧
    (∃ (s : State) (n : Fin 24) (sr : BitVec 5), RookIssues s n.val ∧ sr.toNat = 2) ∧
    (∃ (s : State) (n : Fin 24) (sr : BitVec 5), RookIssues s n.val ∧ sr.toNat = 3) ∧
    (∃ (s : State) (n : Fin 24) (sr : BitVec 5), RookIssues s n.val ∧ sr.toNat = 4) ∧
    (∃ (s : State) (n : Fin 24) (sr : BitVec 5), RookIssues s n.val ∧ sr.toNat = 5) ∧
    (∃ (s : State) (n : Fin 24) (sr : BitVec 5), RookIssues s n.val ∧ sr.toNat = 6) :=
  ⟨⟨rookIn rook0, 0, 0, by unfold RookIssues; decide +kernel⟩,
   ⟨rookIn rook0, 0, 1, by unfold RookIssues; decide +kernel⟩,
   ⟨rookIn rook0, 0, 2, by unfold RookIssues; decide +kernel⟩,
   ⟨rookIn rook0, 0, 3, by unfold RookIssues; decide +kernel⟩,
   ⟨rookIn rook0, 0, 4, by unfold RookIssues; decide +kernel⟩,
   ⟨rookIn rook0, 0, 5, by unfold RookIssues; decide +kernel⟩,
   ⟨rookIn rook0, 0, 6, by unfold RookIssues; decide +kernel⟩⟩

theorem witness_rookSystem_2 :
    (∃ (s : State) (n : Fin 24) (sr : BitVec 5), RookIssues s n.val ∧ sr.toNat = 7) ∧
    (∃ (s : State) (n : Fin 24) (rs1 : BitVec 5) (sr : BitVec 5), RookIssues s n.val
      ∧ (sr = 1 ∨ sr = 2 ∨ sr = 4 ∨ sr = 0 ∧ bitsOf ((rookNow s n.val).getW rs1.toNat) 17 16 ≠ 3 ∨ sr = 5 ∧ bitsOf
        ((rookNow s n.val).getW rs1.toNat) 8 4 ≤ 16)) ∧
    (∃ (s : State) (n : Fin 24) (imm : BitVec 15), RookIssues s n.val
      ∧ s.rookEvents n.val &&& (BitVec.signExtend 64 imm).toNat ≠ 0) ∧
    (∃ (s : State) (n : Fin 24) (imm : BitVec 15), RookIssues s n.val
      ∧ s.rookEvents n.val &&& (BitVec.signExtend 64 imm).toNat = 0 ∧ (BitVec.signExtend 64 imm).toNat ≠ 0) ∧
    (∃ (s : State) (n : Fin 24), RookIssues s n.val ∧ (rookNow s n.val).slot = 0 ∧ (rookNow s n.val).tin = true) ∧
    (∃ (s : State) (n : Fin 24) (k : Nat) (s' : State) (d : Nat), RookIssues s n.val ∧ s'.rookRunning n.val = true
      ∧ (s'.rook n.val).wait = some (d, k) ∧ s'.rookEvents n.val &&& k ≠ 0) :=
  ⟨⟨rookIn rook0, 0, 7, by unfold RookIssues; decide +kernel⟩,
   ⟨rookIn rook0, 0, 0, 0, by unfold RookIssues; decide +kernel⟩,
   ⟨rookIn ({ rook0 with ev := 0x1E3 }), 0, 1, by unfold RookIssues; decide +kernel⟩,
   ⟨rookIn rook0, 0, 1, by unfold RookIssues; decide +kernel⟩,
   ⟨rookIn ({ rook0 with esr := 0x100 }), 0, by unfold RookIssues; decide +kernel⟩,
   ⟨rookIn rook0, 0, 1, rookIn ({ rook0 with wait := some (3, 1), ev := 1 }), 3, by unfold RookIssues; decide +kernel⟩⟩

theorem witness_rookTraps :
    (∃ (s : State) (n : Fin 24) (word : BitVec 32), s.rookRunning n.val = true ∧ (s.rook n.val).wait = none
      ∧ (s.rook n.val).dbg = false ∧ (s.rook n.val).squashDue = false ∧ (rookNow s n.val).tin = false
      ∧ (rookNow s n.val).pc < 65536 ∧ rookUndefined word.toNat = true) ∧
    (∃ (s : State) (n : Fin 24) (rs1 : BitVec 5) (imm : BitVec 15), s.rookRunning n.val = true
      ∧ (s.rook n.val).wait = none ∧ (s.rook n.val).dbg = false ∧ (s.rook n.val).squashDue = false
      ∧ (rookNow s n.val).tin = false ∧ (rookNow s n.val).pc < 65536
      ∧ BitVec.toNat ((rookNow s n.val).getW rs1.toNat + BitVec.signExtend 64 imm) % 8 ≠ 0) ∧
    (∃ (s : State) (n : Fin 24) (rs1 : BitVec 5) (imm : BitVec 15), s.rookRunning n.val = true
      ∧ (s.rook n.val).wait = none ∧ (s.rook n.val).dbg = false ∧ (s.rook n.val).squashDue = false
      ∧ (rookNow s n.val).tin = false ∧ (rookNow s n.val).pc < 65536
      ∧ BitVec.toNat ((rookNow s n.val).getW rs1.toNat + BitVec.signExtend 64 imm) % 8 = 0
      ∧ 131072 ≤ BitVec.toNat ((rookNow s n.val).getW rs1.toNat + BitVec.signExtend 64 imm)) ∧
    (∃ (s : State) (n : Fin 24), s.rookRunning n.val = true ∧ (s.rook n.val).wait = none ∧ (s.rook n.val).dbg = false
      ∧ (s.rook n.val).squashDue = false ∧ (rookNow s n.val).tin = false ∧ (rookNow s n.val).pc < 65536
      ∧ (rookNow s n.val).slot ≠ 0) ∧
    (∃ (s : State) (n : Fin 24), s.rookRunning n.val = true ∧ (s.rook n.val).wait = none ∧ (s.rook n.val).dbg = false
      ∧ (s.rook n.val).squashDue = false ∧ (rookNow s n.val).tin = false ∧ 65536 ≤ (rookNow s n.val).pc) :=
  ⟨⟨rookIn rook0, 0, 0, by decide +kernel⟩,
   ⟨rookIn rook0, 0, 0, 1, by decide +kernel⟩,
   ⟨rookIn rook0, 0, 0, 0x7FF8, by decide +kernel⟩,
   ⟨rookIn ({ rook0 with slot := 1, tgt := 0x80 }), 0, by decide +kernel⟩,
   ⟨rookIn ({ rook0 with pc := 0x10000 }), 0, by decide +kernel⟩⟩

theorem witness_rookHaltsAndRegions :
    (∃ (s : State) (n : Fin 24), RookIssues s n.val ∧ (rookNow s n.val).tin = true) ∧
    (∃ (s : State) (n : Fin 24), RookIssues s n.val ∧ (rookNow s n.val).spec = none ∧ (rookNow s n.val).tin = false
      ∧ ((rookNow s n.val).rx (rookNow s n.val).cur).held = false) ∧
    (∃ (s : State) (n : Fin 24), RookIssues s n.val ∧ (rookNow s n.val).spec.isSome = true
      ∧ (rookNow s n.val).tin = false) :=
  ⟨⟨rookIn ({ rook0 with slot := 2, tgt := 0x80, rte := true, esr := 0x100, tpc := 0x200 }), 0,
     by unfold RookIssues; decide +kernel⟩,
   ⟨rookIn rook0, 0, by unfold RookIssues; decide +kernel⟩,
   ⟨rookIn ({ rook0 with spec := some region0, commit := [⟨8, 4, 0x11223344⟩], rsp := 0x35 }), 0,
     by unfold RookIssues; decide +kernel⟩⟩

theorem witness_rookIo :
    (∃ (s : State) (n : Fin 24) (rs1 : BitVec 5) (imm : BitVec 15), RookIssues s n.val
      ∧ BitVec.toNat ((rookNow s n.val).getW rs1.toNat + BitVec.signExtend 64 imm) = 16) ∧
    (∃ (s : State) (n : Fin 24) (rs1 : BitVec 5) (imm : BitVec 15), RookIssues s n.val
      ∧ BitVec.toNat ((rookNow s n.val).getW rs1.toNat + BitVec.signExtend 64 imm) = 32) ∧
    (∃ (s : State) (n : Fin 24) (rs1 : BitVec 5) (imm : BitVec 15), RookIssues s n.val
      ∧ BitVec.toNat ((rookNow s n.val).getW rs1.toNat + BitVec.signExtend 64 imm) = 72) ∧
    (∃ (s : State) (n : Fin 24) (rs1 : BitVec 5) (imm : BitVec 15), RookIssues s n.val
      ∧ BitVec.toNat ((rookNow s n.val).getW rs1.toNat + BitVec.signExtend 64 imm) = 264) ∧
    (∃ (s : State) (n : Fin 24) (rs1 : BitVec 5) (imm : BitVec 15) (w : Word), RookIssues s n.val
      ∧ (BitVec.toNat ((rookNow s n.val).getW rs1.toNat + BitVec.signExtend 64 imm) % 8 = 0 ∧ 2147483648 ≤
        BitVec.toNat ((rookNow s n.val).getW rs1.toNat + BitVec.signExtend 64 imm) ∧ BitVec.toNat ((rookNow s
        n.val).getW rs1.toNat + BitVec.signExtend 64 imm) < 2151677952)
      ∧ (rookNow s n.val).ioIssue = none ∧ (rookNow s n.val).drains = []
      ∧ s.piInOk n.val (BitVec.toNat ((rookNow s n.val).getW rs1.toNat + BitVec.signExtend 64 imm) - 2147483648) = true
      ∧ s.piRead n.val (BitVec.toNat ((rookNow s n.val).getW rs1.toNat + BitVec.signExtend 64 imm) - 2147483648) = (w,
        s)) ∧
    (∃ (s : State) (n : Fin 24) (rs1 : BitVec 5) (imm : BitVec 15), RookIssues s n.val
      ∧ BitVec.toNat ((rookNow s n.val).getW rs1.toNat + BitVec.signExtend 64 imm) = 72) ∧
    (∃ (s : State) (n : Fin 24) (rs1 : BitVec 5) (imm : BitVec 15), RookIssues s n.val
      ∧ (BitVec.toNat ((rookNow s n.val).getW rs1.toNat + BitVec.signExtend 64 imm) % 8 = 0 ∧ 2147483648 ≤
        BitVec.toNat ((rookNow s n.val).getW rs1.toNat + BitVec.signExtend 64 imm) ∧ BitVec.toNat ((rookNow s
        n.val).getW rs1.toNat + BitVec.signExtend 64 imm) < 2151677952)
      ∧ (rookNow s n.val).spec.isSome = true ∧ (rookNow s n.val).commit.length < 32
      ∧ s.piOutOk n.val (BitVec.toNat ((rookNow s n.val).getW rs1.toNat + BitVec.signExtend 64 imm) - 2147483648) true
        = true) ∧
    (∃ (s : State) (n : Fin 24) (rs1 : BitVec 5) (imm : BitVec 15), RookIssues s n.val
      ∧ (BitVec.toNat ((rookNow s n.val).getW rs1.toNat + BitVec.signExtend 64 imm) % 8 = 0 ∧ 2147483648 ≤
        BitVec.toNat ((rookNow s n.val).getW rs1.toNat + BitVec.signExtend 64 imm) ∧ BitVec.toNat ((rookNow s
        n.val).getW rs1.toNat + BitVec.signExtend 64 imm) < 2151677952)
      ∧ (rookNow s n.val).spec = none ∧ (rookNow s n.val).drains = []
      ∧ s.piOutOk n.val (BitVec.toNat ((rookNow s n.val).getW rs1.toNat + BitVec.signExtend 64 imm) - 2147483648)
        false = true
      ∧ s.bankState ((s.fillBase + (BitVec.toNat ((rookNow s n.val).getW rs1.toNat + BitVec.signExtend 64 imm) -
        2147483648)) / 524288) = 1
      ∧ s.fillBase ≤ 1048576) :=
  ⟨⟨rookIn rook0, 0, 1, 8, by unfold RookIssues; decide +kernel⟩,
   ⟨rookIn ({ rook0 with flight := [⟨1, 0x20, 200⟩, ⟨33, 1, 201⟩, ⟨2, 3, 206⟩] }), 0, 1, 0,
     by unfold RookIssues; decide +kernel⟩,
   ⟨rookIn rook0, 0, 7, 0, by unfold RookIssues; decide +kernel⟩,
   ⟨rookIn rook0, 0, 0, 264, by unfold RookIssues; decide +kernel⟩,
   ⟨((rookIn rook0).wr (PEA_Rn_PIWR_HI 0) 0x8000).wr (PEA_Rn_PIRD_HI 0) 0x8000, 0, 5, 0, 0,
     by unfold RookIssues; decide +kernel⟩,
   ⟨rookIn rook0, 0, 7, 0, by unfold RookIssues; decide +kernel⟩,
   ⟨((rookIn { rook0 with spec := some region0 }).wr (PEA_Rn_PIWR_HI 0) 0x8000).wr (PEA_Rn_PIRD_HI 0) 0x8000, 0, 5, 0,
     by unfold RookIssues; decide +kernel⟩,
   ⟨((rookIn rook0).wr (PEA_Rn_PIWR_HI 0) 0x8000).wr (PEA_Rn_PIRD_HI 0) 0x8000, 0, 5, 0,
     by unfold RookIssues; decide +kernel⟩⟩

theorem witness_engineStatesAndEvents :
    (∃ (s : State) (n : Fin 24), s.domOn (engDom n.val) = true ∧ s.rd (PEA_Rn_STAT_STATE n.val) = 0
      ∧ s.engHeld n.val = false) ∧
    (∃ (s : State) (n : Fin 24), s.domOn (engDom n.val) = true ∧ s.rd (PEA_Rn_STAT_STATE n.val) = 0
      ∧ s.engHeld n.val = true) ∧
    (∃ (s : State) (n : Fin 24), s.domOn (engDom n.val) = true ∧ s.rd (PEA_Rn_STAT_STATE n.val) = 1) ∧
    (∃ (s : State) (n : Fin 24), s.domOn (engDom n.val) = true
      ∧ (s.rd (PEA_Rn_STAT_STATE n.val) = 1 ∨ s.rd (PEA_Rn_STAT_STATE n.val) = 2 ∨ s.rd (PEA_Rn_STAT_STATE n.val) = 3)) ∧
    (∃ (s : State) (n : Fin 24), s.domOn (engDom n.val) = true ∧ s.rd (PEA_Rn_STAT_STATE n.val) = 4
      ∧ s.bit (PEA_Rn_STAT_PENDING n.val) = false) ∧
    (∃ (s : State) (n : Fin 24), s.rookRunning n.val = true ∧ ((s.rook n.val).rx (s.rook n.val).cur).held = true) ∧
    (∃ (s : State) (n : Fin 24), s.rookRunning n.val = true ∧ ((s.rook n.val).rx (s.rook n.val).cur).held = false) ∧
    (∃ (s : State) (n : Fin 24), s.rookRunning n.val = true ∧ bitsOf (s.rook n.val).pcrc.cfg 26 26 = 0) :=
  ⟨⟨peaIn peaRook 0 0, 0, by decide +kernel⟩,
   ⟨peaIn peaRook 0 0 3, 0, by decide +kernel⟩,
   ⟨peaIn peaRook 0 1, 0, by decide +kernel⟩,
   ⟨peaIn peaRook 0 1, 0, by decide +kernel⟩,
   ⟨peaIn peaRook 0 4, 0, by decide +kernel⟩,
   ⟨peaIn { peaRook with rx0 := rxHeld }, 0, by decide +kernel⟩,
   ⟨peaIn peaRook, 0, by decide +kernel⟩,
   ⟨peaIn peaRook, 0, by decide +kernel⟩⟩

theorem witness_engineFrames :
    (∃ (s : State) (n : Fin 24) (b : Fin 2), s.rookRunning n.val = true ∧ ((s.rook n.val).tx b.val).busy = true) ∧
    (∃ (s : State) (n : Fin 24) (b : Fin 2) (cmd : BitVec 64), s.rookRunning n.val = true
      ∧ ((s.rook n.val).tx b.val).busy = false ∧ 60 ≤ bitsOf cmd 13 0 ∧ bitsOf cmd 13 0 ≤ 9212 ∧ bitsOf cmd 62 62 = 1
      ∧ s.rd (PEA_Rn_CTL_BIND n.val) < 4) ∧
    (∃ (s : State) (n : Fin 24) (b : Fin 2) (cmd : BitVec 64), s.rookRunning n.val = true
      ∧ ((s.rook n.val).tx b.val).busy = false ∧ 60 ≤ bitsOf cmd 13 0 ∧ bitsOf cmd 13 0 ≤ 9212
      ∧ 4 ≤ s.rd (PEA_Rn_CTL_BIND n.val)) ∧
    (∃ (s : State) (n : Fin 24) (b : Fin 2) (e : Nat × Bool), s.rookRunning n.val = true
      ∧ (List.find? (fun e => e.fst == 2 * n.val + b.val) s.swc.txDone = some e)
      ∧ ((s.rook n.val).tx b.val).state = 2) ∧
    (∃ (s : State) (k : Fin 4) (f : EthFrame) (id : Nat) (n : Nat) (b : Nat), s.domOn 6 = true
      ∧ s.txCur (10 + k.val) = none ∧ s.classReady (10 + k.val) 7 = true ∧ (s.queue (10 + k.val) 7).head? = some id
      ∧ s.frame id = some f ∧ s.epEngine k.val f = some n ∧ (s.rook n).freeBuf = some b ∧ f.rtag = none) ∧
    (∃ (s : State) (n : Fin 24) (v : VerdictAt), s.domOn (engDom n.val) = true
      ∧ ((s.swc.epRx.any fun e => e.snd == some (2 * n.val + ↑v.b)) = false) ∧ ((s.rook n.val).rx ↑v.b).data ≠ []
      ∧ ((s.rook n.val).rx ↑v.b).verdict = 0 ∧ (s.rook n.val).spec = none) ∧
    (∃ (s : State) (n : Fin 24) (v : VerdictAt) (p : SpecRec), s.domOn (engDom n.val) = true
      ∧ ((s.swc.epRx.any fun e => e.snd == some (2 * n.val + ↑v.b)) = false) ∧ ((s.rook n.val).rx ↑v.b).data ≠ []
      ∧ ((s.rook n.val).rx ↑v.b).verdict = 0 ∧ (s.rook n.val).spec = some p ∧ p.buf = ↑v.b
      ∧ s.rookRunning n.val = true ∧ v.atIssue = false) ∧
    (∃ (s : State) (n : Fin 24) (d : List (Nat × Word)) (l : List (List (Nat × Word))), s.domOn (engDom n.val) = true
      ∧ (s.rook n.val).drains = d :: l ∧ s.rookRunning n.val = true) :=
  ⟨⟨peaIn { peaRook with tx0 := { peaRook.tx0 with state := 1 }, tx1 := { peaRook.tx1 with state := 2 } }, 0, 0,
     by decide +kernel⟩,
   ⟨epSending, 0, 0, 2 ^ 62 + 60, by decide +kernel⟩,
   ⟨peaIn peaRook, 0, 0, 60, by decide +kernel⟩,
   ⟨let s := peaIn { peaRook with tx0 := { peaRook.tx0 with state := 2 }, tx1 := { peaRook.tx1 with state := 2 } };
     s.setSwc { s.swc with txDone := [(1, true), (0, false)] }, 0, 0, (0, false), by decide +kernel⟩,
   ⟨epSending, 0, frame64, 7, 0, 0, by decide +kernel⟩,
   ⟨peaIn { peaRook with rx0 := rxHeld }, 0, ⟨0, 5, false⟩, by decide +kernel⟩,
   ⟨peaIn { peaRook with spec := some ⟨[], 0, 0⟩, rx0 := rxHeld, rsp := 0x35 }, 0, ⟨0, 5, false⟩, ⟨[], 0, 0⟩,
     by decide +kernel⟩,
   ⟨peaIn peaRook, 0, [(0x100, 5)], [[(0x108, 6), (0x110, 7)]], by decide +kernel⟩⟩

theorem witness_cycleBoundaryFalls :
    ∃ (s : State), s.domOn 6 = true ∧ s.cycRun = true ∧ s.ntu.cyc.act.src = 0 ∧ s.castling = false ∧ s.pendMode = none
      ∧ 0 ≤ ↑s.ntu.cyc.nominal + (↑s.ntu.cyc.act.len + s.ntu.cyc.corr) * 2 ^ 32 :=
  ⟨live 4, by decide +kernel⟩

theorem witness_cyclePhasesAndControl_1 :
    (∃ (s : State), s.cycLive = true ∧ phaseAlone s 0) ∧
    (∃ (s : State), s.cycLive = true ∧ phaseAlone s 1) ∧
    (∃ (s : State), s.cycLive = true ∧ phaseAlone s 2) ∧
    (∃ (s : State), s.cycLive = true ∧ phaseAlone s 3) ∧
    (∃ (s : State), s.cycLive = true ∧ phaseAlone s 4) ∧
    (∃ (s : State), s.cycLive = true ∧ phaseAlone s 5) ∧
    (∃ (s : State), s.cycLive = true ∧ phaseAlone s 6) :=
  ⟨⟨live 4, by unfold phaseAlone; decide +kernel⟩,
   ⟨live 4, by unfold phaseAlone; decide +kernel⟩,
   ⟨live 4, by unfold phaseAlone; decide +kernel⟩,
   ⟨live 4, by unfold phaseAlone; decide +kernel⟩,
   ⟨live 4, by unfold phaseAlone; decide +kernel⟩,
   ⟨live 4, by unfold phaseAlone; decide +kernel⟩,
   ⟨live 4, by unfold phaseAlone; decide +kernel⟩⟩

theorem witness_cyclePhasesAndControl_2 :
    (∃ (s : State), s.cycLive = true ∧ phaseAlone s 7) ∧
    (∃ (s : State), s.cycLive = true ∧ bitAt s.ntu.cyc.phased 0 = true) ∧
    (∃ (s : State), s.cycLive = true ∧ bitAt s.ntu.cyc.phased 1 = true) ∧
    (∃ (s : State), s.cycLive = true ∧ bitAt s.ntu.cyc.phased 2 = true) ∧
    (∃ (s : State), s.cycLive = true ∧ bitAt s.ntu.cyc.phased 3 = true) ∧
    (∃ (s : State), s.cycLive = true ∧ bitAt s.ntu.cyc.phased 4 = true) ∧
    (∃ (s : State), s.cycLive = true ∧ bitAt s.ntu.cyc.phased 5 = true) :=
  ⟨⟨live 4, by unfold phaseAlone; decide +kernel⟩,
   ⟨ntuOf (fun n => { n with cyc := { n.cyc with phased := 0xFF } }) (live 7), by decide +kernel⟩,
   ⟨ntuOf (fun n => { n with cyc := { n.cyc with phased := 0xFF } }) (live 7), by decide +kernel⟩,
   ⟨ntuOf (fun n => { n with cyc := { n.cyc with phased := 0xFF } }) (live 7), by decide +kernel⟩,
   ⟨ntuOf (fun n => { n with cyc := { n.cyc with phased := 0xFF } }) (live 7), by decide +kernel⟩,
   ⟨ntuOf (fun n => { n with cyc := { n.cyc with phased := 0xFF } }) (live 7), by decide +kernel⟩,
   ⟨ntuOf (fun n => { n with cyc := { n.cyc with phased := 0xFF } }) (live 7), by decide +kernel⟩⟩

theorem witness_cyclePhasesAndControl_3 :
    (∃ (s : State), s.cycLive = true ∧ bitAt s.ntu.cyc.phased 6 = true) ∧
    (∃ (s : State), s.cycLive = true ∧ bitAt s.ntu.cyc.phased 7 = true) ∧
    (∃ (s : State), s.cycLive = true ∧ bitAt s.ntu.cyc.phased 6 = false
      ∧ s.ntu.cyc.act.phases.getD 3 0 = s.ntu.cyc.act.phases.getD 6 0
      ∧ (∀ (j : Nat), j ∈ [0, 1, 2, 4, 5] → s.ntu.cyc.act.phases.getD j 0 ≠ s.ntu.cyc.act.phases.getD 6 0)) ∧
    (∃ (s : State), s.domOn 6 = true ∧ s.bit NTU_CYC_STAT_APPLY_PENDING = false
      ∧ cycBankOk s.cycShadow s.ntu.cyc.act s.cyclicMode = true) ∧
    (∃ (s : State), s.domOn 6 = true ∧ s.bit NTU_CYC_STAT_APPLY_PENDING = false
      ∧ cycBankOk s.cycShadow s.ntu.cyc.act s.cyclicMode = false) ∧
    (∃ (s : State), s.domOn 6 = true ∧ s.cyclicMode = false ∧ s.cycRun = false) ∧
    (∃ (s : State), s.domOn 6 = true ∧ s.cyclicMode = false ∧ s.cycRun = true) :=
  ⟨⟨ntuOf (fun n => { n with cyc := { n.cyc with phased := 0xFF } }) (live 7), by decide +kernel⟩,
   ⟨ntuOf (fun n => { n with cyc := { n.cyc with phased := 0xFF } }) (live 7), by decide +kernel⟩,
   ⟨ntuOf (fun n => { n with cyc :=
     { n.cyc with phased := 0x37, act := { n.cyc.act with phases := [0, 1000, 2000, 9000, 3000, 4000, 9000, 9000] } }
     }) (withRook (live 7)), by decide +kernel⟩,
   ⟨inMode 5, by decide +kernel⟩,
   ⟨((inMode 3).wr NTU_CYC_LEN_LEN 5).wr NTU_CYC_LEN_LEN 100, by decide +kernel⟩,
   ⟨inMode 5, by decide +kernel⟩,
   ⟨live 4, by decide +kernel⟩⟩

theorem witness_cyclePhasesAndControl_4 :
    (∃ (s : State) (b : Bool), s.domOn 6 = true ∧ s.cyclicMode = true ∧ s.cycRun ≠ b) ∧
    (∃ (s : State) (e : SyncEdge), s.domOn 6 = true ∧ e.rising = !s.bit NTU_SYNCIN_CFG_EDGE
      ∧ s.rd NTU_SYNCIN_CFG_FILT ≤ e.held) ∧
    (∃ (s : State) (e : SyncEdge), s.domOn 6 = true
      ∧ (e.rising = s.bit NTU_SYNCIN_CFG_EDGE ∨ e.held < s.rd NTU_SYNCIN_CFG_FILT)) ∧
    (∃ (s : State), s.domOn 6 = true ∧ s.cycLive = true ∧ s.ntu.cyc.closed = false ∧ s.castling = false) :=
  ⟨⟨inMode 7, true, by decide +kernel⟩,
   ⟨inMode 5, ⟨2000, true, 7⟩, by decide +kernel⟩,
   ⟨inMode 5, ⟨2000, false, 0⟩, by decide +kernel⟩,
   ⟨live 4, by decide +kernel⟩⟩

theorem witness_timeDomains :
    (∃ (s : State) (trim : BitVec 32), s.domOn 6 = true
      ∧ (s.bit NTU_LT_TRIM_LOCK = false ∧ s.bit (cUCTL_LOCK uNTU) = false) ∧ trim.toInt.natAbs ≤ 1073742) ∧
    (∃ (s : State) (trim : BitVec 32), s.domOn 6 = true
      ∧ (s.bit NTU_LT_TRIM_LOCK = false ∧ s.bit (cUCTL_LOCK uNTU) = false) ∧ 1073742 < trim.toInt.natAbs) ∧
    (∃ (s : State), s.domOn 6 = true ∧ (¬(s.bit NTU_LT_TRIM_LOCK = false ∧ s.bit (cUCTL_LOCK uNTU) = false))) ∧
    (∃ (s : State) (x : Fin 2), s.domOn 6 = true ∧ (s.td x.val).meas = none) ∧
    (∃ (s : State) (x : Fin 2), s.domOn 6 = true ∧ (s.td x.val).meas ≠ none) ∧
    (∃ (s : State) (x : Fin 2) (m : Int), s.domOn 6 = true ∧ (s.td x.val).meas = some m ∧ s.tdState x.val ≠ 0) ∧
    (∃ (s : State) (x : Fin 2) (l : Nat), s.domOn 6 = true ∧ s.tdState x.val = 2 ∧ (s.td x.val).lastAt = some l
      ∧ (s.td x.val).interval ≠ 0) ∧
    (∃ (s : State) (x : Fin 2), s.domOn 6 = true ∧ s.tdState x.val = 3) :=
  ⟨⟨inMode 5, 0, by decide +kernel⟩,
   ⟨inMode 5, 1073743, by decide +kernel⟩,
   ⟨(live 7).wrB NTU_LT_TRIM_LOCK true, by decide +kernel⟩,
   ⟨inMode 5, 0, by decide +kernel⟩,
   ⟨tdMeasured (tdIn 0 2 (tdIn 1 3 (live 7))), 0, by decide +kernel⟩,
   ⟨tdMeasured (tdIn 0 2 (tdIn 1 3 (live 7))), 0, 70000, by decide +kernel⟩,
   ⟨tdMeasured (tdIn 0 2 (tdIn 1 3 (live 7))), 0, 4000000, by decide +kernel⟩,
   ⟨tdMeasured (tdIn 0 2 (tdIn 1 3 (live 7))), 1, by decide +kernel⟩⟩

theorem witness_castlingAndTimePins :
    (∃ (s : State), s.domOn 6 = true
      ∧ (s.castling = false ∧ (s.ntu.cyc.act.src = 1 ∨ s.ntu.cyc.act.src = 2) ∧ s.tdState (if s.ntu.cyc.act.src = 1
        then 1 else 0) = 2)) ∧
    (∃ (s : State), s.domOn 6 = true
      ∧ (¬(s.castling = false ∧ (s.ntu.cyc.act.src = 1 ∨ s.ntu.cyc.act.src = 2) ∧ s.tdState (if s.ntu.cyc.act.src = 1
        then 1 else 0) = 2))) ∧
    (∃ (s : State), s.domOn 6 = true ∧ s.castling = true ∧ (s.ltEdges 1).castGap.natAbs ≤ s.castStep.natAbs) ∧
    (∃ (s : State) (p : Fin 10), s.domOn 6 = true ∧ s.txts p.val = []) ∧
    (∃ (s : State) (p : Fin 10) (r : TxTs) (l : List TxTs), s.domOn 6 = true ∧ s.txts p.val = r :: l) ∧
    (∃ (s : State), s.domOn 6 = true ∧ s.castling = false ∧ s.cycLive = true ∧ bitsOf s.ntu.syncOut 0 0 = 1
      ∧ s.ntu.cyc.nominal + bitsOf s.ntu.syncOut 63 32 * 2 ^ 31 < s.nextNominal) ∧
    (∃ (s : State), s.domOn 6 = true ∧ s.castling = false ∧ s.ntu.syncOutOn = true) ∧
    (∃ (s : State), s.domOn 6 = true ∧ s.castling = false ∧ s.bit NTU_PPS_CFG_EN = true ∧ s.rd NTU_PPS_CFG_SRC = 0
      ∧ s.ntu.ppsLast = none) ∧
    (∃ (s : State) (l : Nat), s.domOn 6 = true ∧ s.castling = false ∧ s.ntu.ppsOn = true ∧ s.ntu.ppsLast = some l) :=
  ⟨⟨txStamps (cycSource 1 (tdIn 0 2 (tdIn 1 2 (live 7)))), by decide +kernel⟩,
   ⟨inMode 5, by decide +kernel⟩,
   ⟨castling (live 7) 3, by decide +kernel⟩,
   ⟨inMode 5, 0, by decide +kernel⟩,
   ⟨txStamps (cycSource 1 (tdIn 0 2 (tdIn 1 2 (live 7)))), 0, ⟨0x12345, 2 ^ 64 + 77, 0x5FFFF⟩, [⟨1, 2, 3⟩],
     by decide +kernel⟩,
   ⟨ntuOf (fun n => { n with syncOut := 0x10000000A01 }) (live 7), by decide +kernel⟩,
   ⟨ntuOf (fun n => { n with syncOutOn := true }) (live 7), by decide +kernel⟩,
   ⟨(live 7).wrB NTU_PPS_CFG_EN true, by decide +kernel⟩,
   ⟨ntuOf (fun n => { n with ppsOn := true, ppsLast := some 4999900 }) (live 7), 4999900, by decide +kernel⟩⟩

theorem witness_ethernetPorts_1 :
    (∃ (s : State) (p : Fin 10), s.domOn 6 = true ∧ s.portDesignated p.val = true ∧ s.epcState p.val = 0) ∧
    (∃ (s : State) (p : Fin 10), s.domOn 6 = true ∧ s.portDesignated p.val = true ∧ s.epcState p.val = 4) ∧
    (∃ (s : State) (p : Fin 10), s.domOn 6 = true ∧ s.portDesignated p.val = false) ∧
    (∃ (s : State) (p : Fin 10), s.domOn 6 = true ∧ 1 ≤ s.epcState p.val ∧ s.epcState p.val ≤ 3) ∧
    (∃ (s : State) (p : Fin 10), s.domOn 6 = true ∧ s.epcState p.val = 4 ∧ s.txCur p.val = none
      ∧ s.txHeld p.val = none) ∧
    (∃ (s : State) (p : Fin 10), s.domOn 6 = true ∧ s.epcState p.val = 1) :=
  ⟨⟨portsIn 0 (inMode 4), 0, by decide +kernel⟩,
   ⟨portsIn 4 (live 7), 0, by decide +kernel⟩,
   ⟨portsIn 0 (inMode 8), 0, by decide +kernel⟩,
   ⟨portsIn 1 (live 7), 0, by decide +kernel⟩,
   ⟨portsIn 4 (live 7), 0, by decide +kernel⟩,
   ⟨portsIn 1 (live 7), 0, by decide +kernel⟩⟩

theorem witness_ethernetPorts_2 :
    (∃ (s : State) (p : Fin 10), s.domOn 6 = true ∧ s.epcState p.val = 2 ∧ s.bit (EPC_PORTp_CTL_AN_EN p.val) = true
      ∧ s.rd (EPC_PORTp_CTL_IF p.val) ∈ [0, 1, 2, 4]) ∧
    (∃ (s : State) (p : Fin 10), s.domOn 6 = true ∧ s.epcState p.val = 3
      ∧ s.bit (EPC_PORTp_CTL_PREEMPT_EN p.val) = true) ∧
    (∃ (s : State) (p : Fin 10), s.domOn 6 = true ∧ s.epcState p.val = 2 ∧ (s.epcPort p.val).stepOn = true
      ∧ s.rd (EPC_PORTp_CTL_IF p.val) = 4
      ∧ (s.rd (EPC_PORTp_STAT_CUR_SPEED p.val) = 4 ∨ s.rd (EPC_PORTp_STAT_CUR_SPEED p.val) = 5)) ∧
    (∃ (s : State) (p : Fin 10), s.domOn 6 = true ∧ s.bit (EPC_PORTp_STAT_PAUSED p.val) = true
      ∧ (s.epcPort p.val).pauseHold = none) ∧
    (∃ (s : State) (p : Fin 10) (cur : TxCur) (f : EthFrame), s.domOn 6 = true ∧ s.txCur p.val = some cur
      ∧ s.frame cur.frame = some f ∧ s.epcState p.val = 3 ∧ s.rd (EPC_PORTp_CTL_MAX_LEN p.val) ≤ 9216) :=
  ⟨⟨queued (portsIn 2 (live 7)), 0, by decide +kernel⟩,
   ⟨onPorts EPC_PORTp_CTL_PREEMPT_EN 1 (portsIn 3 (live 7)), 0, by decide +kernel⟩,
   ⟨onPorts EPC_PORTp_CTL_IF 4 (onPorts EPC_PORTp_STAT_CUR_SPEED 5 (onEpc (fun e => { e with stepOn := true }) (portsIn 2
     (live 7)))), 0, by decide +kernel⟩,
   ⟨sending (onPorts EPC_PORTp_STAT_PAUSED 1 (portsIn 3 (live 7))), 0, by decide +kernel⟩,
   ⟨sending (portsIn 3 (live 7)), 0, ⟨7, 1, false, 0, 0, 0, 0, 0⟩, frame64, by decide +kernel⟩⟩

theorem witness_portReceives :
    (∃ (s : State) (p : Fin 10) (frags : List (List Byte)), s.domOn 6 = true ∧ s.epcState p.val = 3 ∧ 2 ≤ frags.length
      ∧ s.bit (EPC_PORTp_CTL_PREEMPT_EN p.val) = false ∧ s.bit (SWC_PORTp_CTL_CT_EN p.val) = false) ∧
    (∃ (s : State) (p : Fin 10) (frags : List (List Byte)), s.domOn 6 = true ∧ s.epcState p.val = 3
      ∧ (frags.length ≤ 1 ∨ s.bit (EPC_PORTp_CTL_PREEMPT_EN p.val) = true) ∧ 60 ≤ frags.flatten.length
      ∧ frags.flatten.length + 4 ≤ s.rd (EPC_PORTp_CTL_MAX_LEN p.val) ∧ ¬beAt frags.flatten 12 2 = 34824
      ∧ s.swc.recovering = false) ∧
    (∃ (s : State) (p : Fin 10) (frags : List (List Byte)), s.domOn 6 = true ∧ s.epcState p.val = 3
      ∧ (frags.length ≤ 1 ∨ s.bit (EPC_PORTp_CTL_PREEMPT_EN p.val) = true) ∧ frags.flatten.length < 60) ∧
    (∃ (s : State) (p : Fin 10) (frags : List (List Byte)), s.domOn 6 = true ∧ s.epcState p.val = 3
      ∧ (frags.length ≤ 1 ∨ s.bit (EPC_PORTp_CTL_PREEMPT_EN p.val) = true) ∧ s.bit (SWC_PORTp_CTL_CT_EN p.val) = false
      ∧ 60 ≤ frags.flatten.length ∧ s.rd (EPC_PORTp_CTL_MAX_LEN p.val) < frags.flatten.length + 4) ∧
    (∃ (s : State) (p : Fin 10) (frags : List (List Byte)), s.domOn 6 = true ∧ s.epcState p.val = 3
      ∧ (frags.length ≤ 1 ∨ s.bit (EPC_PORTp_CTL_PREEMPT_EN p.val) = true) ∧ 60 ≤ frags.flatten.length
      ∧ frags.flatten.length + 4 ≤ s.rd (EPC_PORTp_CTL_MAX_LEN p.val) ∧ beAt frags.flatten 12 2 = 34824
      ∧ s.bit (EPC_PORTp_CTL_PAUSE_EN p.val) = false) ∧
    (∃ (s : State) (p : Fin 10) (frags : List (List Byte)), s.domOn 6 = true ∧ s.epcState p.val = 3
      ∧ (frags.length ≤ 1 ∨ s.bit (EPC_PORTp_CTL_PREEMPT_EN p.val) = true) ∧ 60 ≤ frags.flatten.length
      ∧ frags.flatten.length + 4 ≤ s.rd (EPC_PORTp_CTL_MAX_LEN p.val) ∧ beAt frags.flatten 12 2 = 34824
      ∧ s.bit (EPC_PORTp_CTL_PAUSE_EN p.val) = true ∧ beAt frags.flatten 14 2 = 1
      ∧ frDa frags.flatten = 1652522221569) :=
  ⟨⟨sending (portsIn 3 (live 7)), 0, [List.replicate 60 1, List.replicate 60 1], by decide +kernel⟩,
   ⟨sending (portsIn 3 (live 7)), 0, [List.replicate 60 1], by decide +kernel⟩,
   ⟨sending (portsIn 3 (live 7)), 0, [List.replicate 59 1], by decide +kernel⟩,
   ⟨sending (portsIn 3 (live 7)), 0, [List.replicate 2000 3], by decide +kernel⟩,
   ⟨sending (portsIn 3 (live 7)), 0, [[1, 0x80, 0xC2, 0, 0, 1] ++ List.replicate 6 2 ++ [0x88, 0x08, 0, 1, 0, 7] ++
     List.replicate 50 0], by decide +kernel⟩,
   ⟨onPorts EPC_PORTp_CTL_PAUSE_EN 1 (portsIn 3 (live 7)), 0, [[1, 0x80, 0xC2, 0, 0, 1] ++ List.replicate 6 2 ++ [0x88,
     0x08, 0, 1, 0, 7] ++ List.replicate 50 0], by decide +kernel⟩⟩

theorem witness_switchTables_1 :
    (∃ (s : State) (tab : BitVec 4) (op : BitVec 4), s.domOn 6 = true ∧ tab.toNat ≤ 6 ∧ op.toNat ≤ 3
      ∧ s.swc.batch.length < 64) ∧
    (∃ (s : State) (tab : BitVec 4) (op : BitVec 4), s.domOn 6 = true ∧ tab.toNat ≤ 6 ∧ op.toNat ≤ 3
      ∧ 64 ≤ s.swc.batch.length) ∧
    (∃ (s : State) (tab : BitVec 4) (i : BitVec 14), s.domOn 6 = true ∧ tab.toNat = 3 ∧ i.toNat < 1024) ∧
    (∃ (s : State) (tab : BitVec 4), s.domOn 6 = true ∧ tab.toNat = 0) ∧
    (∃ (s : State), s.domOn 6 = true ∧ s.bit SWC_GEN_STAT_BUSY = false ∧ (s.swc.tables.applyAll s.swc.batch 0).fst = 0
      ∧ s.batchHeld = false) ∧
    (∃ (s : State), s.domOn 6 = true ∧ s.bit SWC_GEN_STAT_BUSY = false
      ∧ (s.swc.tables.applyAll s.swc.batch 0).fst ≠ 0) :=
  ⟨⟨withBatch [updOp 3 1 5, updOp 3 1 6] (((live 7).wrB SWC_GEN_STAT_HOLD_WAIT true).wrB SWC_GEN_STAT_BUSY true), 0, 0,
     by decide +kernel⟩,
   ⟨withBatch (List.replicate 64 (updOp 3 0 5)) (live 7), 0, 0, by decide +kernel⟩,
   ⟨withBatch [updOp 3 1 5, updOp 3 1 6] (((live 7).wrB SWC_GEN_STAT_HOLD_WAIT true).wrB SWC_GEN_STAT_BUSY true), 3, 0,
     by decide +kernel⟩,
   ⟨withBatch [updOp 3 1 5, updOp 3 1 6] (((live 7).wrB SWC_GEN_STAT_HOLD_WAIT true).wrB SWC_GEN_STAT_BUSY true), 0,
     by decide +kernel⟩,
   ⟨withBatch [updOp 3 1 5] (live 7), by decide +kernel⟩,
   ⟨withBatch [updOp 3 2 5] (live 7), by decide +kernel⟩⟩

theorem witness_switchTables_2 :
    (∃ (s : State), s.domOn 6 = true ∧ s.bit SWC_GEN_STAT_BUSY = false ∧ (s.swc.tables.applyAll s.swc.batch 0).fst = 0
      ∧ s.batchHeld = true) ∧
    (∃ (s : State), s.domOn 6 = true ∧ s.bit SWC_GEN_STAT_HOLD_WAIT = true
      ∧ (s.swc.tables.applyAll s.swc.batch 0).fst = 0 ∧ s.batchHeld = false) ∧
    (∃ (s : State) (p : Fin 16), s.domOn 6 = true ∧ s.bit (SWC_PORTp_GCL_CTL_APPLY_PENDING p.val) = false
      ∧ s.gclOk p.val = true) ∧
    (∃ (s : State) (p : Fin 16), s.domOn 6 = true ∧ s.bit (SWC_PORTp_GCL_CTL_APPLY_PENDING p.val) = false
      ∧ s.gclOk p.val = false) ∧
    (∃ (s : State) (p : Fin 16), s.domOn 6 = true ∧ s.gclRuns p.val = true ∧ s.gclIdx p.val + 1 < s.gclLen p.val
      ∧ s.ntu.cyc.edge + s.gclStart p.val (s.gclIdx p.val + 1) * 2 ^ 32 < s.nextNominal) ∧
    (∃ (s : State) (g : Fin 64), s.domOn 6 = true ∧ s.cycLive = true ∧ s.sgIdx s.swc.tables g.val < 15
      ∧ bitsOf (s.swc.tables.gateAt (16 * g.val + s.sgIdx s.swc.tables g.val)) 31 0 ≠ 0
      ∧ bitsOf (s.swc.tables.gateAt (16 * g.val + (s.sgIdx s.swc.tables g.val + 1))) 31 0 ≠ 0
      ∧ (s.ntu.cyc.edge + sumNat (List.map (fun j => bitsOf (s.swc.tables.gateAt (16 * g.val + j)) 31 0) (List.range
        (s.sgIdx s.swc.tables g.val + 1))) * 2 ^ 32 < s.nextNominal)) :=
  ⟨⟨heldList, by decide +kernel⟩,
   ⟨withBatch [updOp 3 1 5, updOp 3 1 6] (((live 7).wrB SWC_GEN_STAT_HOLD_WAIT true).wrB SWC_GEN_STAT_BUSY true),
     by decide +kernel⟩,
   ⟨((live 7).wr (SWC_PORTp_GCL_CTL_LEN 0) 2).setReg (SWC_GCLp 0 0) 800 |>.setReg (SWC_GCLp 0 1) 1600, 0,
     by decide +kernel⟩,
   ⟨withBatch [updOp 3 1 5, updOp 3 1 6] (((live 7).wrB SWC_GEN_STAT_HOLD_WAIT true).wrB SWC_GEN_STAT_BUSY true), 0,
     by decide +kernel⟩,
   ⟨(((live 7).wr (SWC_PORTp_GCL_CTL_ACTIVE_LEN 0) 2).wrB (SWC_PORTp_GCL_CTL_ACTIVE_EN 0) true).setSwc
     { (live 7).swc with gcl := [(0, 800), (1, 1600)] }, 0, by decide +kernel⟩,
   ⟨ntuOf (fun n => { n with lt := 4900100 * nsU }) (withTables (fun x =>
     { x with gate := [(0, 800), (1, 1600), (2, 500)] }) (live 7)), 0, by decide +kernel⟩⟩

theorem witness_switchTables_3 :
    (∃ (s : State) (f : Fin 1024), s.domOn 6 = true ∧ 2 ≤ bitsOf (s.swc.tables.frerAt f.val) 63 62
      ∧ ((mapGet (fun x => FrerSt.reset) s.swc.frers f.val).takeAny = false)) ∧
    (∃ (s : State) (v : BitVec 32), s.domOn 6 = true
      ∧ (v.toNat + 2 ^ 32 - s.rd SWC_MIR_CONS_COUNT) % 2 ^ 32 ≤ s.mirUsed) ∧
    (∃ (s : State) (v : BitVec 32), s.domOn 6 = true
      ∧ s.mirUsed < (v.toNat + 2 ^ 32 - s.rd SWC_MIR_CONS_COUNT) % 2 ^ 32) ∧
    (∃ (s : State), s.domOn 6 = true ∧ s.rd SWC_GEN_CTL_AGE_S = 0) ∧
    (∃ (s : State) (e : Word × Word) (h : Nat), s.domOn 6 = true ∧ s.rd SWC_GEN_CTL_AGE_S ≠ 0
      ∧ s.swc.tables.fst = [(h, e)] ∧ bitsOf e.fst 63 62 = 2 ∧ bitsOf e.snd 48 48 = 0) ∧
    (∃ (s : State) (e : Word × Word) (h : Nat), s.domOn 6 = true ∧ s.rd SWC_GEN_CTL_AGE_S ≠ 0
      ∧ s.swc.tables.fst = [(h, e)] ∧ bitsOf e.fst 63 62 = 2 ∧ bitsOf e.snd 48 48 = 1) :=
  ⟨⟨let s := withTables (fun x => { x with frer := [(0, BitVec.ofNat 64 (2 * 2 ^ 62 + 5 * 2 ^ 39))] }) (live 7); s.setSwc
     { s.swc with frers := [(0, { FrerSt.reset with takeAny := false, last := 4999999 })] }, 0, by decide +kernel⟩,
   ⟨withBatch [updOp 3 1 5, updOp 3 1 6] (((live 7).wrB SWC_GEN_STAT_HOLD_WAIT true).wrB SWC_GEN_STAT_BUSY true), 0,
     by decide +kernel⟩,
   ⟨withBatch [updOp 3 1 5, updOp 3 1 6] (((live 7).wrB SWC_GEN_STAT_HOLD_WAIT true).wrB SWC_GEN_STAT_BUSY true), 1,
     by decide +kernel⟩,
   ⟨(live 7).wr SWC_GEN_CTL_AGE_S 0, by decide +kernel⟩,
   ⟨withTables (fun x => { x with fst := fdbEntry 0, filter := [(3, 77)] }) ((live 7).wr SWC_GEN_CTL_AGE_S 5),
     (BitVec.ofNat 64 (2 * 2 ^ 62 + 0x112233), BitVec.ofNat 64 (3)), 5, by decide +kernel⟩,
   ⟨withTables (fun x => { x with fst := [(5, (BitVec.ofNat 64 (2 ^ 63 + 0x112233), BitVec.ofNat 64 (2 ^ 48 + 3)))] })
     ((live 7).wr SWC_GEN_CTL_AGE_S 5), (BitVec.ofNat 64 (2 * 2 ^ 62 + 0x112233), BitVec.ofNat 64 (2 ^ 48 + 3)), 5,
     by decide +kernel⟩⟩

theorem witness_switchFrames :
    (∃ (s : State) (x : EthFrame) (l : List EthFrame), s.domOn 6 = true ∧ s.swc.arrived = x :: l) ∧
    (∃ (s : State) (p : Fin 16) (c : Fin 8) (id : Nat) (q : List Nat), s.domOn 6 = true ∧ (p.val < 10 ∨ 14 ≤ p.val)
      ∧ s.txCur p.val = none ∧ s.txHeld p.val = none ∧ s.classReady p.val c.val = true
      ∧ (s.creditPort p.val).classReady p.val c.val = true
      ∧ (∀ (d : Fin 8), c < d → (s.creditPort p.val).classReady p.val ↑d = false) ∧ s.queue p.val c.val = id :: q) ∧
    (∃ (s : State) (p : Fin 16) (id : Nat) (f : EthFrame) (y : TxCur), s.domOn 6 = true ∧ p.val < 10
      ∧ s.txCur p.val = some y ∧ y.frame = id ∧ s.preemptable p.val y.cls = false ∧ s.frame id = some f
      ∧ f.egress = 2 ^ p.val ∧ s.bit SWC_MIR_CTL_DROPS = false) ∧
    (∃ (s : State) (p : Fin 16) (y : TxCur), s.domOn 6 = true ∧ s.txCur p.val = some y ∧ s.frame y.frame = none) ∧
    (∃ (s : State) (p : Fin 16) (id : Nat) (f : EthFrame) (y : TxCur), s.domOn 6 = true ∧ p.val = 15
      ∧ s.txCur p.val = some y ∧ y.frame = id ∧ s.frame id = some f ∧ f.rtag = none
      ∧ bitAt (s.rd SWC_MIR_CTL_EG_MASK) p.val = false) ∧
    (∃ (s : State) (p : Fin 16) (id : Nat) (f : EthFrame) (y : TxCur), s.domOn 6 = true ∧ p.val < 10
      ∧ s.txCur p.val = some y ∧ y.frame = id ∧ s.frame id = some f ∧ ptpAny (f.copyBytes p.val) = none
      ∧ y.stomp = false ∧ bitAt (s.rd SWC_MIR_CTL_EG_MASK) p.val = false) ∧
    (∃ (s : State) (p : Fin 16) (c : Fin 8) (id : Nat) (q : List Nat), s.domOn 6 = true
      ∧ s.queue p.val c.val = id :: q ∧ q.contains id = false
      ∧ (p.val < 10 → s.bit (EPC_PORTp_STAT_PAUSED p.val) = false) ∧ (s.frame id).isSome = true) ∧
    (∃ (s : State), s.domOn 6 = true ∧ s.swc.recovering = false) :=
  ⟨⟨withBatch [updOp 2 0 5] (queued (live 7)), frame64, [multicast], by decide +kernel⟩,
   ⟨withBatch [updOp 2 0 5] (queued (live 7)), 15, 2, 7, [], by decide +kernel⟩,
   ⟨let s := sending (portsIn 3 (live 7)); s.setSwc { s.swc with frames := [(7, some { frame64 with egress := 1 })] }, 0,
     7, { frame64 with egress := 1 }, ⟨7, 1, false, 0, 0, 0, 0, 0⟩, by decide +kernel⟩,
   ⟨sending (portsIn 3 (live 7)), 3, ⟨9, 1, false, 0, 0, 0, 0, 0⟩, by decide +kernel⟩,
   ⟨sending (portsIn 3 (live 7)), 15, 7, frame64, ⟨7, 2, false, 0, 0, 0, 0, 0⟩, by decide +kernel⟩,
   ⟨sending (portsIn 3 (live 7)), 0, 7, frame64, ⟨7, 1, false, 0, 0, 0, 0, 0⟩, by decide +kernel⟩,
   ⟨withBatch [updOp 2 0 5] (queued (live 7)), 0, 1, 7, [8], by decide +kernel⟩,
   ⟨withBatch [updOp 3 1 5, updOp 3 1 6] (((live 7).wrB SWC_GEN_STAT_HOLD_WAIT true).wrB SWC_GEN_STAT_BUSY true),
     by decide +kernel⟩⟩

theorem witness_segmentStart_1 :
    (∃ (s : State) (g : Fin 4), s.domOn 8 = true ∧ s.segState g.val = 0 ∧ (s.mode = 5 ∨ s.cyclicMode = true)) ∧
    (∃ (s : State) (g : Fin 4), s.domOn 8 = true ∧ s.segState g.val ≠ 0 ∧ s.segState g.val ≠ 7 ∧ s.mode ≠ 11) ∧
    (∃ (s : State) (g : Fin 4), s.domOn 8 = true ∧ s.segState g.val = 7 ∧ s.mode ≠ 11) ∧
    (∃ (s : State) (g : Fin 4) (f : ForeignFrame), s.domOn 8 = true
      ∧ (s.segListens g.val = true ∨ s.segState g.val = 5) ∧ (f.id.toNat = 0 ∨ 17 < f.id.toNat)) ∧
    (∃ (s : State) (g : Fin 4) (f : ForeignFrame), s.domOn 8 = true
      ∧ (s.segListens g.val = true ∨ s.segState g.val = 5) ∧ 1 ≤ f.id.toNat ∧ f.id.toNat ≤ 17
      ∧ f.what = ForeignKind.csf) ∧
    (∃ (s : State) (g : Fin 4) (f : ForeignFrame) (hop : BitVec 8) (att : BitVec 8), s.domOn 8 = true
      ∧ (s.segListens g.val = true ∨ s.segState g.val = 5) ∧ 1 ≤ f.id.toNat ∧ f.id.toNat ≤ 17
      ∧ f.what = ForeignKind.startup hop att) :=
  ⟨⟨live 5, 0, by decide +kernel⟩,
   ⟨segIn 1 (fun x => { x with since := 4000000 * nsU }) (live 7), 0, by decide +kernel⟩,
   ⟨segIn 7 (fun x => { x with since := 4999999 * nsU, nodes := [(3, node0)] }) (live 7), 0, by decide +kernel⟩,
   ⟨segIn 1 (fun x => { x with since := 4000000 * nsU }) (live 7), 0, ⟨0, .csf⟩, by decide +kernel⟩,
   ⟨segIn 1 (fun x => { x with since := 4000000 * nsU }) (live 7), 0, ⟨3, .csf⟩, by decide +kernel⟩,
   ⟨segIn 1 (fun x => { x with since := 4000000 * nsU }) (live 7), 0, ⟨3, .startup 2 0⟩, 2, 0, by decide +kernel⟩⟩

theorem witness_segmentStart_2 :
    (∃ (s : State) (g : Fin 4) (f : ForeignFrame) (spacing : BitVec 16), s.domOn 8 = true
      ∧ (s.segListens g.val = true ∨ s.segState g.val = 5) ∧ 1 ≤ f.id.toNat ∧ f.id.toNat ≤ 17
      ∧ f.what = ForeignKind.enum spacing ∧ s.segState g.val = 5) ∧
    (∃ (s : State) (g : Fin 4), s.domOn 8 = true ∧ s.domOn 6 = true ∧ s.segListens g.val = true
      ∧ (s.seg g.val).backoff = false) ∧
    (∃ (s : State) (g : Fin 4), s.domOn 8 = true ∧ s.domOn 6 = true ∧ s.segListens g.val = true
      ∧ (s.seg g.val).backoff = true) ∧
    (∃ (s : State) (g : Fin 4) (ns : Nat), s.domOn 8 = true ∧ s.domOn 6 = true
      ∧ (s.segState g.val = 2 ∧ (s.seg g.val).stage = 0) ∧ ns ≤ 10000) ∧
    (∃ (s : State) (g : Fin 4), s.domOn 8 = true ∧ s.domOn 6 = true ∧ (s.segState g.val = 2 ∧ (s.seg g.val).stage = 0)
      ∧ (s.seg g.val).attempt < 8) ∧
    (∃ (s : State) (g : Fin 4), s.domOn 8 = true ∧ s.domOn 6 = true ∧ (s.segState g.val = 2 ∧ (s.seg g.val).stage = 0)
      ∧ 8 ≤ (s.seg g.val).attempt) :=
  ⟨⟨segIn 5 id (live 7), 0, ⟨3, .enum 2⟩, 2, by decide +kernel⟩,
   ⟨segIn 1 (fun x => { x with since := 4000000 * nsU }) (live 7), 0, by decide +kernel⟩,
   ⟨segIn 1 (fun x => { x with backoff := true, attempt := 3 }) (live 7), 0, by decide +kernel⟩,
   ⟨segIn 2 (fun x => { x with attempt := 7, nodes := [(4, node0)] }) (live 7), 0, 0, by decide +kernel⟩,
   ⟨segIn 2 (fun x => { x with attempt := 7, nodes := [(4, node0)] }) (live 7), 0, by decide +kernel⟩,
   ⟨segIn 2 (fun x => { x with attempt := 8, signal := true }) (live 7), 0, by decide +kernel⟩⟩

theorem witness_segmentDevices :
    (∃ (s : State) (g : Fin 4) (id : BitVec 5) (hop : BitVec 8) (kind : BitVec 8) (caps : BitVec 16) (rx2 : Nat),
      s.domOn 8 = true ∧ s.segState g.val = 2 ∧ (s.seg g.val).stage = 1
      ∧ ((1 ≤ id.toNat ∧ id.toNat ≤ 17) ∧ (1 ≤ hop.toNat ∧ hop.toNat ≤ 17) ∧ (kind = 1 ∨ kind = 2) ∧ caps.toNat ≤ 1)
      ∧ rx2 ≤ enumLimit2 (s.rd (CBC_SEGs_STAT_LINE_HOPS g.val)) ∧ ((s.seg g.val).node id.toNat).hop = 0) ∧
    (∃ (s : State) (g : Fin 4) (id : BitVec 5) (hop : BitVec 8) (kind : BitVec 8) (caps : BitVec 16) (rx2 : Nat),
      s.domOn 8 = true ∧ s.segState g.val = 2 ∧ (s.seg g.val).stage = 1
      ∧ ((1 ≤ id.toNat ∧ id.toNat ≤ 17) ∧ (1 ≤ hop.toNat ∧ hop.toNat ≤ 17) ∧ (kind = 1 ∨ kind = 2) ∧ caps.toNat ≤ 1)
      ∧ rx2 ≤ enumLimit2 (s.rd (CBC_SEGs_STAT_LINE_HOPS g.val)) ∧ ((s.seg g.val).node id.toNat).hop ≠ 0
      ∧ ((s.seg g.val).node id.toNat).hop ≠ hop.toNat) ∧
    (∃ (s : State) (g : Fin 4) (id : BitVec 5) (hop : BitVec 8) (kind : BitVec 8) (caps : BitVec 16), s.domOn 8 = true
      ∧ s.segState g.val = 2 ∧ (s.seg g.val).stage = 1
      ∧ (¬((1 ≤ id.toNat ∧ id.toNat ≤ 17) ∧ (1 ≤ hop.toNat ∧ hop.toNat ≤ 17) ∧ (kind = 1 ∨ kind = 2) ∧ caps.toNat ≤ 1))) ∧
    (∃ (s : State) (g : Fin 4) (id : BitVec 5) (c : CbConf) (q : List CbConf), s.domOn 8 = true
      ∧ (((s.seg g.val).confq = c :: q ∧ c.sent = true) ∧ c.node = id.toNat ∧ c.sgen < 65536) ∧ s.segState g.val ≠ 2
      ∧ c.tries < 3) ∧
    (∃ (s : State) (g : Fin 4) (c : CbConf) (q : List CbConf), s.domOn 8 = true
      ∧ ((s.seg g.val).confq = c :: q ∧ c.sent = true) ∧ s.segState g.val ≠ 2 ∧ c.tries < 3) ∧
    (∃ (s : State) (g : Fin 4) (c : CbConf) (q : List CbConf), s.domOn 8 = true
      ∧ ((s.seg g.val).confq = c :: q ∧ c.sent = true) ∧ s.segState g.val ≠ 2 ∧ 3 ≤ c.tries) ∧
    (∃ (s : State) (g : Fin 4) (c : CbConf) (q : List CbConf), s.domOn 8 = true
      ∧ ((s.seg g.val).confq = c :: q ∧ c.sent = true) ∧ s.segState g.val = 2 ∧ 3 ≤ c.tries
      ∧ s.segRequired g.val c.node = true) ∧
    (∃ (s : State) (g : Fin 4), s.domOn 8 = true ∧ s.segState g.val = 2 ∧ (s.seg g.val).stage = 3
      ∧ (∀ (i : Nat), i < 17 → s.segRequired g.val (i + 1) = true → ((s.seg g.val).node (i + 1)).present = true)
      ∧ s.cycRun = true) ∧
    (∃ (s : State), s.domOn 8 = true ∧ s.bit CBC_SCHED_STAT_APPLY_PENDING = false
      ∧ s.schedCheck (s.schedValid schedShadowBase) = none) ∧
    (∃ (s : State) (r : Nat) (e : Option Nat), s.domOn 8 = true ∧ s.bit CBC_SCHED_STAT_APPLY_PENDING = false
      ∧ s.schedCheck (s.schedValid schedShadowBase) = some (r, e)) :=
  ⟨⟨segIn 2 (fun x =>
     { x with stage := 1, since := 4990000 * nsU, nodes := [(3, node0), (4, { node0 with dup := true })] }) ((live
     7).wr (CBC_SEGs_STAT_LINE_HOPS 0) 9), 0, 17, 1, 1, 1, 0, by decide +kernel⟩,
   ⟨segIn 2 (fun x =>
     { x with stage := 1, since := 4990000 * nsU, nodes := [(3, node0), (4, { node0 with dup := true })] }) ((live
     7).wr (CBC_SEGs_STAT_LINE_HOPS 0) 9), 0, 3, 1, 1, 1, 0, by decide +kernel⟩,
   ⟨segIn 2 (fun x =>
     { x with stage := 1, since := 4990000 * nsU, nodes := [(3, node0), (4, { node0 with dup := true })] }) ((live
     7).wr (CBC_SEGs_STAT_LINE_HOPS 0) 9), 0, 0, 0, 0, 1, by decide +kernel⟩,
   ⟨segIn 4 (fun x => { x with confq := [conf1, conf3], nodes := [(3, node0)] }) ((live 7).wrB
     CBC_SCHED_STAT_APPLY_PENDING true), 0, 3, conf1, [conf3], by decide +kernel⟩,
   ⟨segIn 4 (fun x => { x with confq := [conf1, conf3], nodes := [(3, node0)] }) ((live 7).wrB
     CBC_SCHED_STAT_APPLY_PENDING true), 0, conf1, [conf3], by decide +kernel⟩,
   ⟨segIn 4 (fun x => { x with confq := [conf3, conf1], nodes := [(3, node0)] }) (live 7), 0, conf3, [conf1],
     by decide +kernel⟩,
   ⟨segIn 2 (fun x => { x with stage := 2, confq := [conf3, conf1], nodes := [(3, node0)] }) ((live 7).wr
     (CBC_SEGs_NODES_REQUIRED 0) 0xFF), 0, conf3, [conf1], by decide +kernel⟩,
   ⟨segIn 2 (fun x => { x with stage := 3 }) (live 7), 0, by decide +kernel⟩,
   ⟨live 5, by decide +kernel⟩,
   ⟨withSched schedShadowBase [slotWord 0 0 3 16 1000, slotWord 1 1 3 32 1001] (live 3), 4, some 0, by decide +kernel⟩⟩

theorem witness_segmentTraffic :
    (∃ (s : State) (g : Fin 4) (e : Fin 4096) (d2 : Int) (bytes : List Byte) (x : SchedEnt), s.domOn 8 = true
      ∧ s.openSlot g.val e.val = some x ∧ x.type = 0 ∧ bytes.length = x.plen ∧ s.slotClass x d2 = some 0) ∧
    (∃ (s : State) (g : Fin 4) (e : Fin 4096) (d2 : Int) (x : SchedEnt), s.domOn 8 = true
      ∧ s.openSlot g.val e.val = some x ∧ x.type = 0 ∧ s.slotClass x d2 = some 1) ∧
    (∃ (s : State) (g : Fin 4) (e : Fin 4096) (d2 : Int) (x : SchedEnt), s.domOn 8 = true
      ∧ s.openSlot g.val e.val = some x ∧ x.type = 0 ∧ s.slotClass x d2 = some 2) ∧
    (∃ (s : State) (g : Fin 4) (e : Fin 4096) (d2 : Int) (x : SchedEnt), s.domOn 8 = true
      ∧ s.openSlot g.val e.val = some x ∧ x.type = 0 ∧ s.slotClass x d2 = none) ∧
    (∃ (s : State) (g : Fin 4), s.domOn 8 = true ∧ s.segState g.val ≠ 0 ∧ s.mode ≠ 11 ∧ (s.seg g.val).babbled = false) ∧
    (∃ (s : State) (g : Fin 4), s.domOn 8 = true ∧ (s.seg g.val).babbled = true) ∧
    (∃ (s : State) (g : Fin 4), s.domOn 8 = true ∧ (s.segState g.val = 1 ∨ s.segState g.val = 5)) ∧
    (∃ (s : State) (g : Fin 4) (e : Fin 4096) (y : SchedEnt) (r : CbReq), (s.seg g.val).reqs = [r] ∧ s.domOn 8 = true
      ∧ s.segRuns g.val = true ∧ (s.seg g.val).csfSent = true ∧ r.sent = false ∧ r.node = y.node
      ∧ (List.find? (fun z => z.idx == e.val && z.type == 2) (s.segEnts schedActiveBase g.val) = some y)) ∧
    (∃ (s : State) (g : Fin 4) (e : Fin 4096) (y : SchedEnt) (r : CbReq) (d2 : Int) (bytes : List Byte),
      (s.seg g.val).reqs = [r] ∧ s.openSlot g.val e.val = some y ∧ y.type = 1 ∧ s.slotClass y d2 = some 0
      ∧ 4 ≤ bytes.length ∧ bytes.length ≤ min y.plen 128 ∧ r.node = y.node ∧ r.sent = true
      ∧ r.tag = natOfBE (List.take 2 bytes) ∧ r.tag ≠ 0) ∧
    (∃ (s : State) (g : Fin 4) (r : CbReq) (node : BitVec 5), (s.seg g.val).reqs = [r] ∧ r.node = node.toNat
      ∧ 64 ≤ r.age) :=
  ⟨⟨cyclicSeg 7 4, 0, 0, 0, List.replicate 16 1, ⟨0, slotWord 0 0 3 16 1000 |>.2, 0⟩, by decide +kernel⟩,
   ⟨cyclicSeg 7 4, 0, 0, -3000, ⟨0, slotWord 0 0 3 16 1000 |>.2, 0⟩, by decide +kernel⟩,
   ⟨cyclicSeg 7 4, 0, 0, 300, ⟨0, slotWord 0 0 3 16 1000 |>.2, 0⟩, by decide +kernel⟩,
   ⟨cyclicSeg 7 4, 0, 0, 100000, ⟨0, slotWord 0 0 3 16 1000 |>.2, 0⟩, by decide +kernel⟩,
   ⟨segIn 1 (fun x => { x with since := 4000000 * nsU }) (live 7), 0, by decide +kernel⟩,
   ⟨segIn 4 (fun x => { x with babbled := true }) (live 7), 0, by decide +kernel⟩,
   ⟨segIn 1 (fun x => { x with since := 4000000 * nsU }) (live 7), 0, by decide +kernel⟩,
   ⟨acyclicSeg, 0, 2, ⟨2, slotWord 2 2 3 20 500 |>.2, 0⟩, ⟨2, 3, 0x1234, [0x12, 0x34, 0, 1], false, 3⟩,
     by decide +kernel⟩,
   ⟨cyclicSeg 7 4, 0, 1, ⟨1, slotWord 1 1 3 32 2000 |>.2, 0⟩, ⟨2, 3, 0x1234, [0x12, 0x34, 0, 1], true, 64⟩, 0, [0x12,
     0x34, 7, 8], by decide +kernel⟩,
   ⟨cyclicSeg 7 4, 0, ⟨2, 3, 0x1234, [0x12, 0x34, 0, 1], true, 64⟩, 3, by decide +kernel⟩⟩

theorem witness_canStatesAndQueues_1 :
    (∃ (s : State) (n : Fin 6), s.domOn 8 = true ∧ s.bit (CANn_CTL_EN n.val) = false ∧ s.canBitsOk n.val = true
      ∧ s.canState n.val = 0 ∧ s.canAllowed = true) ∧
    (∃ (s : State) (n : Fin 6), s.domOn 8 = true ∧ s.bit (CANn_CTL_EN n.val) = false ∧ s.canBitsOk n.val = true
      ∧ s.canState n.val = 4) ∧
    (∃ (s : State) (n : Fin 6), s.domOn 8 = true ∧ s.bit (CANn_CTL_EN n.val) = false ∧ s.canBitsOk n.val = false) ∧
    (∃ (s : State) (n : Fin 6), s.domOn 8 = true ∧ s.canState n.val = 1) ∧
    (∃ (s : State) (n : Fin 6), s.domOn 8 = true ∧ s.canState n.val ≠ 0) ∧
    (∃ (s : State) (n : Fin 6), s.domOn 8 = true ∧ s.canState n.val = 4 ∧ s.bit (CANn_TXQ_HEAD_TX n.val) = false) ∧
    (∃ (s : State) (n : Fin 6), s.domOn 8 = true ∧ s.canState n.val = 3 ∧ (s.can_ n.val).recovering = true) :=
  ⟨⟨timed (inMode 5), 0, by decide +kernel⟩,
   ⟨timed (canIn 4 id (inMode 7)), 0, by decide +kernel⟩,
   ⟨inMode 5, 0, by decide +kernel⟩,
   ⟨canIn 1 id (live 7), 0, by decide +kernel⟩,
   ⟨timed (canIn 4 id (inMode 7)), 0, by decide +kernel⟩,
   ⟨timed (canIn 4 id (inMode 7)), 0, by decide +kernel⟩,
   ⟨canIn 3 (fun x => { x with recovering := true }) (((live 7).wr (CANn_STAT_TEC 0) 300).wr (CANn_STAT_ERR_STATE 0) 3),
     0, by decide +kernel⟩⟩

theorem witness_canStatesAndQueues_2 :
    (∃ (s : State) (n : Fin 6), s.domOn 8 = true ∧ 64 ≤ (s.can_ n.val).queue.length) ∧
    (∃ (s : State) (who : Fin 33) (n : Fin 6) (w2 : Word), s.domOn 8 = true ∧ (s.can_ n.val).queue.length < 64
      ∧ (¬(s.canDescOk n.val (mapGet (fun x => (0, 0)) (s.can_ n.val).stage who.val).fst (mapGet (fun x => (0, 0))
        (s.can_ n.val).stage who.val).snd = true ∧ bitsOf w2 47 32 = 0 ∧ bitsOf w2 2 0 = 0))) ∧
    (∃ (s : State) (who : Fin 33) (n : Fin 6) (w2 : Word), s.domOn 8 = true ∧ (s.can_ n.val).queue.length < 64
      ∧ (s.canDescOk n.val (mapGet (fun x => (0, 0)) (s.can_ n.val).stage who.val).fst (mapGet (fun x => (0, 0))
        (s.can_ n.val).stage who.val).snd = true ∧ bitsOf w2 47 32 = 0 ∧ bitsOf w2 2 0 = 0)
      ∧ s.canListen n.val = true) ∧
    (∃ (s : State) (who : Fin 33) (n : Fin 6) (w2 : Word), s.domOn 8 = true ∧ (s.can_ n.val).queue.length < 64
      ∧ (s.canDescOk n.val (mapGet (fun x => (0, 0)) (s.can_ n.val).stage who.val).fst (mapGet (fun x => (0, 0))
        (s.can_ n.val).stage who.val).snd = true ∧ bitsOf w2 47 32 = 0 ∧ bitsOf w2 2 0 = 0)
      ∧ s.canListen n.val = false) ∧
    (∃ (s : State) (n : Fin 6), s.domOn 8 = true ∧ s.bit (CANn_TXQ_HEAD_TX n.val) = false) ∧
    (∃ (s : State) (n : Fin 6) (h : CanEnt) (l : List CanEnt), s.domOn 8 = true ∧ (s.can_ n.val).queue = h :: l
      ∧ s.bit (CANn_TXQ_HEAD_TX n.val) = true) :=
  ⟨⟨canIn 2 (fun x => { x with queue := List.replicate 64 canE0, stage := [(0, (canE0.w0, 0))] }) (live 7), 0,
     by decide +kernel⟩,
   ⟨inMode 5, 0, 0, 2 ^ 40, by decide +kernel⟩,
   ⟨(canIn 2 (fun x => { x with queue := [canE0], stage := [(0, (canE0.w0, 0))] }) (live 7)).wrB (CANn_CTL_LOM 0) true,
     0, 0, 0, by decide +kernel⟩,
   ⟨inMode 5, 0, 0, 0, by decide +kernel⟩,
   ⟨inMode 5, 0, by decide +kernel⟩,
   ⟨canBank ((canIn 2 (fun x => { x with queue := [canE0, canE1] }) (live 7)).wrB (CANn_TXQ_HEAD_TX 0) true), 0, canE0,
     [canE1], by decide +kernel⟩⟩

theorem witness_canFrames_1 :
    (∃ (s : State) (n : Fin 6) (h : CanEnt) (l : List CanEnt) (d : List Byte), s.domOn 8 = true
      ∧ (s.can_ n.val).queue = h :: l ∧ s.canState n.val = 2 ∧ s.bit (CANn_TXQ_HEAD_TX n.val) = false
      ∧ s.canListen n.val = false ∧ h.data = some d) ∧
    (∃ (s : State) (n : Fin 6) (h : CanEnt) (l : List CanEnt), s.domOn 8 = true ∧ (s.can_ n.val).queue = h :: l
      ∧ s.bit (CANn_TXQ_HEAD_TX n.val) = true ∧ h.late = false ∧ bitsOf h.w0 63 63 = 0
      ∧ s.rd (CANn_STAT_TEC n.val) < 256) ∧
    (∃ (s : State) (n : Fin 6) (h : CanEnt) (l : List CanEnt), s.domOn 8 = true ∧ (s.can_ n.val).queue = h :: l
      ∧ s.bit (CANn_TXQ_HEAD_TX n.val) = true ∧ h.late = false ∧ bitsOf h.w0 63 63 = 1) ∧
    (∃ (s : State) (n : Fin 6) (k : Fin 32), s.domOn 8 = true
      ∧ (s.cycLive = true ∧ s.cyclicMode = true ∧ s.canState n.val ≠ 0 ∧ s.canState n.val ≠ 4 ∧ bitsOf (mapGet (fun x
        => 0) (s.can_ n.val).cyc k.val) 63 63 = 1 ∧ ¬k.val ∈ (s.can_ n.val).fired ∧ s.rd NTU_CYC_COUNT_CYCLE % (bitsOf
        (mapGet (fun x => 0) (s.can_ n.val).cyc k.val) 61 52 + 1) = 0 ∧ s.ntu.cyc.edge + bitsOf (mapGet (fun x => 0)
        (s.can_ n.val).cyc k.val) 31 0 * 2 ^ 32 < s.nextNominal)
      ∧ ((s.can_ n.val).queue.length < 64 ∧ (∀ (e : CanEnt), e ∈ (s.can_ n.val).queue → e.cyc ≠ some k.val) ∧
        s.canDescOk n.val ((s.sramReadWords false (s.canBase n.val + 34816 + 32 * k.val) 3).fst.getD 0 0)
        ((s.sramReadWords false (s.canBase n.val + 34816 + 32 * k.val) 3).fst.getD 1 0) = true ∧ bitsOf
        ((s.sramReadWords false (s.canBase n.val + 34816 + 32 * k.val) 3).fst.getD 0 0) 40 29 ≤ 64)) ∧
    (∃ (s : State) (n : Fin 6) (k : Fin 32), s.domOn 8 = true
      ∧ (s.cycLive = true ∧ s.cyclicMode = true ∧ s.canState n.val ≠ 0 ∧ s.canState n.val ≠ 4 ∧ bitsOf (mapGet (fun x
        => 0) (s.can_ n.val).cyc k.val) 63 63 = 1 ∧ ¬k.val ∈ (s.can_ n.val).fired ∧ s.rd NTU_CYC_COUNT_CYCLE % (bitsOf
        (mapGet (fun x => 0) (s.can_ n.val).cyc k.val) 61 52 + 1) = 0 ∧ s.ntu.cyc.edge + bitsOf (mapGet (fun x => 0)
        (s.can_ n.val).cyc k.val) 31 0 * 2 ^ 32 < s.nextNominal)
      ∧ (¬((s.can_ n.val).queue.length < 64 ∧ (∀ (e : CanEnt), e ∈ (s.can_ n.val).queue → e.cyc ≠ some k.val) ∧
        s.canDescOk n.val ((s.sramReadWords false (s.canBase n.val + 34816 + 32 * k.val) 3).fst.getD 0 0)
        ((s.sramReadWords false (s.canBase n.val + 34816 + 32 * k.val) 3).fst.getD 1 0) = true ∧ bitsOf
        ((s.sramReadWords false (s.canBase n.val + 34816 + 32 * k.val) 3).fst.getD 0 0) 40 29 ≤ 64))) ∧
    (∃ (s : State) (n : Fin 6) (f : CanFrame) (age : CanAge), s.domOn 8 = true ∧ s.canHears n.val = true
      ∧ s.canFmtOn n.val f = true
      ∧ bitsOf (s.canElem n.val (Option.elim ((s.can_ n.val).switched) (s.rd (CANn_FLT_ACTIVE n.val)) fun w => if
        s.ltNs - age.eval < w then 1 - s.rd (CANn_FLT_ACTIVE n.val) else s.rd (CANn_FLT_ACTIVE n.val)) 0).fst 63 61 ≠
        0
      ∧ elemMatch (s.canElem n.val (Option.elim ((s.can_ n.val).switched) (s.rd (CANn_FLT_ACTIVE n.val)) fun w => if
        s.ltNs - age.eval < w then 1 - s.rd (CANn_FLT_ACTIVE n.val) else s.rd (CANn_FLT_ACTIVE n.val)) 0).fst
        (s.canElem n.val (Option.elim ((s.can_ n.val).switched) (s.rd (CANn_FLT_ACTIVE n.val)) fun w => if s.ltNs -
        age.eval < w then 1 - s.rd (CANn_FLT_ACTIVE n.val) else s.rd (CANn_FLT_ACTIVE n.val)) 0).snd.fst f = true
      ∧ bitsOf (s.canElem n.val (Option.elim ((s.can_ n.val).switched) (s.rd (CANn_FLT_ACTIVE n.val)) fun w => if
        s.ltNs - age.eval < w then 1 - s.rd (CANn_FLT_ACTIVE n.val) else s.rd (CANn_FLT_ACTIVE n.val)) 0).fst 60 58 =
        1
      ∧ dist128 (s.rd (CANn_IDX_F0_PUT n.val)) (s.rd (CANn_IDX_F0_GET n.val)) < 64) ∧
    (∃ (s : State) (n : Fin 6) (f : CanFrame) (age : CanAge), s.domOn 8 = true ∧ s.canHears n.val = true
      ∧ s.canFmtOn n.val f = true
      ∧ bitsOf (s.canElem n.val (Option.elim ((s.can_ n.val).switched) (s.rd (CANn_FLT_ACTIVE n.val)) fun w => if
        s.ltNs - age.eval < w then 1 - s.rd (CANn_FLT_ACTIVE n.val) else s.rd (CANn_FLT_ACTIVE n.val)) 0).fst 63 61 ≠
        0
      ∧ elemMatch (s.canElem n.val (Option.elim ((s.can_ n.val).switched) (s.rd (CANn_FLT_ACTIVE n.val)) fun w => if
        s.ltNs - age.eval < w then 1 - s.rd (CANn_FLT_ACTIVE n.val) else s.rd (CANn_FLT_ACTIVE n.val)) 0).fst
        (s.canElem n.val (Option.elim ((s.can_ n.val).switched) (s.rd (CANn_FLT_ACTIVE n.val)) fun w => if s.ltNs -
        age.eval < w then 1 - s.rd (CANn_FLT_ACTIVE n.val) else s.rd (CANn_FLT_ACTIVE n.val)) 0).snd.fst f = true
      ∧ bitsOf (s.canElem n.val (Option.elim ((s.can_ n.val).switched) (s.rd (CANn_FLT_ACTIVE n.val)) fun w => if
        s.ltNs - age.eval < w then 1 - s.rd (CANn_FLT_ACTIVE n.val) else s.rd (CANn_FLT_ACTIVE n.val)) 0).fst 60 58 =
        1
      ∧ 64 ≤ dist128 (s.rd (CANn_IDX_F0_PUT n.val)) (s.rd (CANn_IDX_F0_GET n.val))) :=
  ⟨⟨canBank (canIn 2 (fun x =>
     { x with queue := [canE0, canE1], stage := [(0, (canE0.w0, 0)), (1, (canE1.w0, 0)), (32, (BitVec.ofNat 64 (3 * 2 ^ 61), 0))] })
     (live 7)), 0, canE0, [canE1], [1, 2, 3, 4, 5, 6, 7, 8], by decide +kernel⟩,
   ⟨canBank ((canIn 2 (fun x => { x with queue := [canE0, canE1] }) (live 7)).wrB (CANn_TXQ_HEAD_TX 0) true), 0, canE0,
     [canE1], by decide +kernel⟩,
   ⟨canBank ((canIn 2 (fun x => { x with queue := [canE1, canE0] }) ((live 7).wr (CANn_STAT_TEC 0) 250)).wrB
     (CANn_TXQ_HEAD_TX 0) true), 0, canE1, [canE0], by decide +kernel⟩,
   ⟨pokeWord 0x408800 canE0.w0.toNat (canBank (canIn 2 (fun x => { x with cyc := [(0, cycWord)] }) (live 7))), 0, 0,
     by decide +kernel⟩,
   ⟨pokeWord 0x408800 canE0.w0.toNat (canBank (canIn 2 (fun x =>
     { x with cyc := [(0, cycWord)], queue := [{ canE0 with cyc := some 0 }] }) (live 7))), 0, 0, by decide +kernel⟩,
   ⟨pokeWord 0x400000 filterWord (canBank (canIn 2 id (live 7))), 0, ⟨0, false, false, false, false, 0, 8, 0,
     List.replicate 8 1⟩, ⟨0, 0⟩, by decide +kernel⟩,
   ⟨(pokeWord 0x400000 filterWord (canBank (canIn 2 id (live 7)))).wr (CANn_IDX_F0_PUT 0) 64, 0, ⟨0, false, false, false,
     false, 0, 8, 0, List.replicate 8 1⟩, ⟨0, 0⟩, by decide +kernel⟩⟩

theorem witness_canFrames_2 :
    (∃ (s : State) (n : Fin 6), s.domOn 8 = true ∧ s.canHears n.val = true ∧ s.canListen n.val = false) ∧
    (∃ (s : State) (n : Fin 6), s.domOn 8 = true ∧ s.canHears n.val = true ∧ s.canListen n.val = true) ∧
    (∃ (s : State) (n : Fin 6), s.domOn 8 = true
      ∧ (s.canBankBad n.val (1 - s.rd (CANn_FLT_ACTIVE n.val)) 0 1024).fst = none) ∧
    (∃ (s : State) (n : Fin 6) (i : Nat), s.domOn 8 = true
      ∧ (s.canBankBad n.val (1 - s.rd (CANn_FLT_ACTIVE n.val)) 0 1024).fst = some i) ∧
    (∃ (s : State) (n : Fin 6), s.domOn 8 = true ∧ s.bit (CANn_FLT_APPLY_PENDING n.val) = true) ∧
    (∃ (s : State) (n : Fin 6), s.domOn 8 = true ∧ s.bit (CANn_FLT_APPLY_PENDING n.val) = false) :=
  ⟨⟨timed (canIn 4 id (inMode 7)), 0, by decide +kernel⟩,
   ⟨(canIn 2 (fun x => { x with queue := [canE0], stage := [(0, (canE0.w0, 0))] }) (live 7)).wrB (CANn_CTL_LOM 0) true,
     0, by decide +kernel⟩,
   ⟨inMode 5, 0, by decide +kernel⟩,
   ⟨(pokeWord 0x404010 (7 * 2 ^ 61) (pokeWord 0x404000 filterWord (canBank (canIn 2 id (live 7))))).wrB
     (CANn_FLT_APPLY_PENDING 0) true, 0, 1, by decide +kernel⟩,
   ⟨(pokeWord 0x404010 (7 * 2 ^ 61) (pokeWord 0x404000 filterWord (canBank (canIn 2 id (live 7))))).wrB
     (CANn_FLT_APPLY_PENDING 0) true, 0, by decide +kernel⟩,
   ⟨inMode 5, 0, by decide +kernel⟩⟩

theorem witness_pawnEngines :
    (∃ (s : State) (n : Fin 32), s.domOn 8 = true ∧ (((s.outPins n.val).all fun i => s.ownsPin n.val i) = true)
      ∧ s.pawnState n.val = 0 ∧ s.pawnAllowed = true) ∧
    (∃ (s : State) (n : Fin 32), s.domOn 8 = true ∧ (((s.outPins n.val).all fun i => s.ownsPin n.val i) = true)
      ∧ s.pawnState n.val = 4) ∧
    (∃ (s : State) (n : Fin 32), s.domOn 8 = true ∧ (((s.outPins n.val).all fun i => s.ownsPin n.val i) = false)) ∧
    (∃ (s : State) (n : Fin 32), s.domOn 8 = true ∧ s.pawnState n.val = 1 ∧ s.bit (PIA_Pn_STAT_READY n.val) = false) ∧
    (∃ (s : State) (n : Fin 32), s.domOn 8 = true ∧ s.pawnState n.val ≠ 0 ∧ s.pawnState n.val ≠ 4) ∧
    (∃ (s : State) (g : Fin 4) (mask : BitVec 8), s.domOn 8 = true ∧ mask ≠ 0 ∧ s.bit (PIA_Gg_CTL_MODE g.val) = false) ∧
    (∃ (s : State) (g : Fin 4) (mask : BitVec 8), s.domOn 8 = true ∧ mask ≠ 0 ∧ s.bit (PIA_Gg_CTL_MODE g.val) = true) :=
  ⟨⟨live 5, 0, by decide +kernel⟩,
   ⟨pawn0Pins 2 (pawnIn 4 pawn0 (live 7)), 0, by decide +kernel⟩,
   ⟨pawn0Pins 3 (pawnIn 0 pawn0 (live 5)), 0, by decide +kernel⟩,
   ⟨pawnIn 1 pawn0 (live 7), 0, by decide +kernel⟩,
   ⟨pawnIn 1 pawn0 (live 7), 0, by decide +kernel⟩,
   ⟨live 5, 0, 3, by decide +kernel⟩,
   ⟨(pawnIn 1 pawn0 (live 7)).wrB (PIA_Gg_CTL_MODE 0) true, 0, 3, by decide +kernel⟩⟩

theorem witness_pawnRegistersAndControl_1 :
    (∃ (s : State) (n : Fin 32) (imm : BitVec 8), PawnTicks s n.val ∧ s.bit (PIA_Pn_PROG_ARM n.val) = false
      ∧ imm.toNat ≤ 32) ∧
    (∃ (s : State) (n : Fin 32) (src : BitVec 3), PawnTicks s n.val ∧ s.bit (PIA_Pn_PROG_ARM n.val) = false ∧ src ≠ 7) ∧
    (∃ (s : State) (n : Fin 32) (pads : BitVec 8) (pol : Bool) (arg : BitVec 4), PawnTicks s n.val
      ∧ s.bit (PIA_Pn_PROG_ARM n.val) = false ∧ arg.toNat < 8 ∧ (s.inGroup n.val pads).getLsbD arg.toNat = pol) ∧
    (∃ (s : State) (n : Fin 32) (pads : BitVec 8) (pol : Bool) (arg : BitVec 4), PawnTicks s n.val
      ∧ s.bit (PIA_Pn_PROG_ARM n.val) = false ∧ arg.toNat < 8 ∧ ¬(s.inGroup n.val pads).getLsbD arg.toNat = pol) ∧
    (∃ (s : State) (n : Fin 32) (pads : BitVec 8) (pol : Bool) (arg : BitVec 4), PawnTicks s n.val
      ∧ s.bit (PIA_Pn_PROG_ARM n.val) = false ∧ arg.toNat < 8
      ∧ ((s.inGroup n.val pads).getLsbD arg.toNat = pol ∧ ((s.pawn n.val).prev.getD (s.inGroup n.val pads)).getLsbD
        arg.toNat ≠ pol)) ∧
    (∃ (s : State) (n : Fin 32) (pads : BitVec 8) (pol : Bool) (arg : BitVec 4), PawnTicks s n.val
      ∧ s.bit (PIA_Pn_PROG_ARM n.val) = false ∧ arg.toNat < 8
      ∧ (¬((s.inGroup n.val pads).getLsbD arg.toNat = pol ∧ ((s.pawn n.val).prev.getD (s.inGroup n.val pads)).getLsbD
        arg.toNat ≠ pol))) ∧
    (∃ (s : State) (n : Fin 32) (pol : Bool) (arg : BitVec 4), PawnTicks s n.val
      ∧ s.bit (PIA_Pn_PROG_ARM n.val) = false ∧ s.pawnFlags n.val = true
      ∧ bitAt (s.rd PIA_FLAG_SET_FLAGS) arg.toNat = pol) ∧
    (∃ (s : State) (n : Fin 32) (pol : Bool) (arg : BitVec 4), PawnTicks s n.val
      ∧ s.bit (PIA_Pn_PROG_ARM n.val) = false ∧ s.pawnFlags n.val = true
      ∧ ¬bitAt (s.rd PIA_FLAG_SET_FLAGS) arg.toNat = pol) :=
  ⟨⟨pawnIn 2 pawn0 (live 7), 0, 0, by unfold PawnTicks; decide +kernel⟩,
   ⟨pawnIn 2 pawn0 (live 7), 0, 0, by unfold PawnTicks; decide +kernel⟩,
   ⟨pawnIn 2 pawn0 (live 7), 0, 0, false, 0, by unfold PawnTicks; decide +kernel⟩,
   ⟨pawnIn 2 pawn0 (live 7), 0, 0, true, 0, by unfold PawnTicks; decide +kernel⟩,
   ⟨pawnIn 2 pawn0 (live 7), 0, 0, false, 0, by unfold PawnTicks; decide +kernel⟩,
   ⟨pawnIn 2 pawn0 (live 7), 0, 0, false, 3, by unfold PawnTicks; decide +kernel⟩,
   ⟨(pawnAt 5 6 2 (pawn0Pins 2 (pawnIn 2 { pawn0 with a := 1, b := 5, prev := none } (live 7)))).wrB (PIA_Gg_CTL_MODE 0)
     true |>.wr PIA_FLAG_SET_FLAGS 0x28, 0, false, 0, by unfold PawnTicks; decide +kernel⟩,
   ⟨(pawnAt 5 6 2 (pawn0Pins 2 (pawnIn 2 { pawn0 with a := 1, b := 5, prev := none } (live 7)))).wrB (PIA_Gg_CTL_MODE 0)
     true |>.wr PIA_FLAG_SET_FLAGS 0x28, 0, false, 3, by unfold PawnTicks; decide +kernel⟩⟩

theorem witness_pawnRegistersAndControl_2 :
    (∃ (s : State) (n : Fin 32), PawnTicks s n.val ∧ s.bit (PIA_Pn_PROG_ARM n.val) = false ∧ (s.pawn n.val).a = 0) ∧
    (∃ (s : State) (n : Fin 32), PawnTicks s n.val ∧ s.bit (PIA_Pn_PROG_ARM n.val) = false ∧ (s.pawn n.val).tx ≠ []) ∧
    (∃ (s : State) (n : Fin 32), PawnTicks s n.val ∧ s.bit (PIA_Pn_PROG_ARM n.val) = false ∧ ¬(s.pawn n.val).tx ≠ []) ∧
    (∃ (s : State) (n : Fin 32), PawnTicks s n.val ∧ s.bit (PIA_Pn_PROG_ARM n.val) = false
      ∧ ¬(s.pawn n.val).rx.length < 8) ∧
    (∃ (s : State) (n : Fin 32) (cond : BitVec 3), PawnTicks s n.val ∧ s.bit (PIA_Pn_PROG_ARM n.val) = false
      ∧ (cond = 0 ∨ cond = 1 ∧ (s.pawn n.val).a = 0 ∨ cond = 2 ∧ (s.pawn n.val).a ≠ 0 ∨ cond = 3 ∧ (s.pawn n.val).b =
        0 ∨ cond = 4 ∧ (s.pawn n.val).bc ≠ 0 ∨ cond = 5 ∧ (s.pawn n.val).bc = 0 ∨ cond = 6 ∧ (s.pawn n.val).a.toNat <
        (s.pawn n.val).b.toNat ∨ cond = 7 ∧ (s.pawn n.val).tx = [])) ∧
    (∃ (s : State) (n : Fin 32) (cond : BitVec 3), PawnTicks s n.val ∧ s.bit (PIA_Pn_PROG_ARM n.val) = false
      ∧ (¬(cond = 0 ∨ cond = 1 ∧ (s.pawn n.val).a = 0 ∨ cond = 2 ∧ (s.pawn n.val).a ≠ 0 ∨ cond = 3 ∧ (s.pawn n.val).b
        = 0 ∨ cond = 4 ∧ (s.pawn n.val).bc ≠ 0 ∨ cond = 5 ∧ (s.pawn n.val).bc = 0 ∨ cond = 6 ∧ (s.pawn n.val).a.toNat
        < (s.pawn n.val).b.toNat ∨ cond = 7 ∧ (s.pawn n.val).tx = []))) ∧
    (∃ (s : State) (n : Fin 32), PawnTicks s n.val ∧ s.bit (PIA_Pn_PROG_ARM n.val) = false ∧ (s.pawn n.val).a = 1) ∧
    (∃ (s : State) (n : Fin 32), PawnTicks s n.val ∧ s.bit (PIA_Pn_PROG_ARM n.val) = false ∧ (s.pawn n.val).a ≠ 0
      ∧ (s.pawn n.val).a ≠ 1) :=
  ⟨⟨pawnAt 63 5 2 (pawn0Pins 8 (pawnIn 2 { pawn0 with a := 0, b := 0, tx := [], rx := List.replicate 8 5, bc := 0 } (live
     7))), 0, by unfold PawnTicks; decide +kernel⟩,
   ⟨pawnIn 2 pawn0 (live 7), 0, by unfold PawnTicks; decide +kernel⟩,
   ⟨pawnAt 63 5 2 (pawn0Pins 8 (pawnIn 2 { pawn0 with a := 0, b := 0, tx := [], rx := List.replicate 8 5, bc := 0 } (live
     7))), 0, by unfold PawnTicks; decide +kernel⟩,
   ⟨pawnAt 63 5 2 (pawn0Pins 8 (pawnIn 2 { pawn0 with a := 0, b := 0, tx := [], rx := List.replicate 8 5, bc := 0 } (live
     7))), 0, by unfold PawnTicks; decide +kernel⟩,
   ⟨pawnIn 2 pawn0 (live 7), 0, 0, by unfold PawnTicks; decide +kernel⟩,
   ⟨pawnIn 2 pawn0 (live 7), 0, 1, by unfold PawnTicks; decide +kernel⟩,
   ⟨(pawnAt 5 6 2 (pawn0Pins 2 (pawnIn 2 { pawn0 with a := 1, b := 5, prev := none } (live 7)))).wrB (PIA_Gg_CTL_MODE 0)
     true |>.wr PIA_FLAG_SET_FLAGS 0x28, 0, by unfold PawnTicks; decide +kernel⟩,
   ⟨pawnIn 2 pawn0 (live 7), 0, by unfold PawnTicks; decide +kernel⟩⟩

theorem witness_pawnRegistersAndControl_3 :
    (∃ (s : State) (n : Fin 32), PawnTicks s n.val ∧ s.bit (PIA_Pn_PROG_ARM n.val) = false ∧ (s.pawn n.val).b = 0) ∧
    (∃ (s : State) (n : Fin 32), PawnTicks s n.val ∧ s.bit (PIA_Pn_PROG_ARM n.val) = false ∧ (s.pawn n.val).b = 1) ∧
    (∃ (s : State) (n : Fin 32), PawnTicks s n.val ∧ s.bit (PIA_Pn_PROG_ARM n.val) = false ∧ (s.pawn n.val).b ≠ 0
      ∧ (s.pawn n.val).b ≠ 1) ∧
    (∃ (s : State) (n : Fin 32) (w : BitVec 32) (l : List (BitVec 32)), PawnTicks s n.val
      ∧ s.bit (PIA_Pn_PROG_ARM n.val) = false ∧ (s.pawn n.val).tx = w :: l) ∧
    (∃ (s : State) (n : Fin 32), PawnTicks s n.val ∧ s.bit (PIA_Pn_PROG_ARM n.val) = false ∧ (s.pawn n.val).tx = []) ∧
    (∃ (s : State) (n : Fin 32), PawnTicks s n.val ∧ s.bit (PIA_Pn_PROG_ARM n.val) = false
      ∧ (s.pawn n.val).rx.length < 8 ∧ s.bit (PIA_Pn_PIIN_EN n.val) = false) ∧
    (∃ (s : State) (n : Fin 32), PawnTicks s n.val ∧ s.bit (PIA_Pn_PROG_ARM n.val) = false
      ∧ 8 ≤ (s.pawn n.val).rx.length) :=
  ⟨⟨pawnAt 63 5 2 (pawn0Pins 8 (pawnIn 2 { pawn0 with a := 0, b := 0, tx := [], rx := List.replicate 8 5, bc := 0 } (live
     7))), 0, by unfold PawnTicks; decide +kernel⟩,
   ⟨pawnIn 2 pawn0 (live 7), 0, by unfold PawnTicks; decide +kernel⟩,
   ⟨(pawnAt 5 6 2 (pawn0Pins 2 (pawnIn 2 { pawn0 with a := 1, b := 5, prev := none } (live 7)))).wrB (PIA_Gg_CTL_MODE 0)
     true |>.wr PIA_FLAG_SET_FLAGS 0x28, 0, by unfold PawnTicks; decide +kernel⟩,
   ⟨pawnIn 2 pawn0 (live 7), 0, 7, [8], by unfold PawnTicks; decide +kernel⟩,
   ⟨pawnAt 63 5 2 (pawn0Pins 8 (pawnIn 2 { pawn0 with a := 0, b := 0, tx := [], rx := List.replicate 8 5, bc := 0 } (live
     7))), 0, by unfold PawnTicks; decide +kernel⟩,
   ⟨pawnIn 2 pawn0 (live 7), 0, by unfold PawnTicks; decide +kernel⟩,
   ⟨pawnAt 63 5 2 (pawn0Pins 8 (pawnIn 2 { pawn0 with a := 0, b := 0, tx := [], rx := List.replicate 8 5, bc := 0 } (live
     7))), 0, by unfold PawnTicks; decide +kernel⟩⟩

theorem witness_pawnAccesses_1 :
    (∃ (s : State) (n : Fin 32), s.domOn 8 = true ∧ PawnTicks s n.val ∧ s.bit (PIA_Pn_PROG_ARM n.val) = true
      ∧ s.rd (PIA_Pn_STAT_PC n.val) = s.rd (PIA_Pn_PROG_A_WRAP_TOP n.val)) ∧
    (∃ (s : State) (n : Fin 32), s.domOn 8 = true ∧ s.pawnState n.val = 0) ∧
    (∃ (s : State) (n : Fin 32), s.domOn 8 = true ∧ s.pawnState n.val ≠ 0) ∧
    (∃ (s : State) (n : Fin 32), s.domOn 8 = true ∧ s.pawnState n.val = 2) ∧
    (∃ (s : State) (n : Fin 32), s.domOn 8 = true ∧ s.pawnState n.val ≠ 2) ∧
    (∃ (s : State) (n : Fin 32), s.domOn 8 = true ∧ s.bit (PIA_Pn_PIOUT_EN n.val) = false
      ∧ (s.pawn n.val).tx.length < 8) :=
  ⟨⟨(pawnAt 5 5 2 (pawn0Pins 2 (pawnIn 2 pawn0 (live 7)))).wrB (PIA_Pn_PROG_ARM 0) true, 0,
     by unfold PawnTicks; decide +kernel⟩,
   ⟨live 5, 0, by decide +kernel⟩,
   ⟨pawn0Pins 2 (pawnIn 4 pawn0 (live 7)), 0, by decide +kernel⟩,
   ⟨pawnIn 2 { pawn0 with swapNow := true } (live 7), 0, by decide +kernel⟩,
   ⟨live 5, 0, by decide +kernel⟩,
   ⟨live 5, 0, by decide +kernel⟩⟩

theorem witness_pawnAccesses_2 :
    (∃ (s : State) (n : Fin 32), s.domOn 8 = true
      ∧ (s.bit (PIA_Pn_PIOUT_EN n.val) = true ∨ 8 ≤ (s.pawn n.val).tx.length)) ∧
    (∃ (s : State) (n : Fin 32) (w : BitVec 32) (l : List (BitVec 32)), s.domOn 8 = true ∧ (s.pawn n.val).rx = w :: l
      ∧ s.bit (PIA_Pn_PIIN_EN n.val) = false) ∧
    (∃ (s : State) (n : Fin 32), s.domOn 8 = true ∧ ((s.pawn n.val).rx = [] ∨ s.bit (PIA_Pn_PIIN_EN n.val) = true)) ∧
    (∃ (s : State) (n : Fin 32), s.domOn 8 = true ∧ s.linkDue n.val = true) ∧
    (∃ (s : State) (n : Fin 32), s.domOn 8 = true ∧ s.linkDue n.val = false) :=
  ⟨⟨pawnIn 2 { pawn0 with tx := List.replicate 8 3 } (live 7), 0, by decide +kernel⟩,
   ⟨pawn0Pins 2 (pawnIn 0 pawn0 (live 5)), 0, 9, [], by decide +kernel⟩,
   ⟨live 5, 0, by decide +kernel⟩,
   ⟨(pawnIn 2 pawn0 (live 7)).wrB (PIA_Pn_PIOUT_EN 0) true, 0, by decide +kernel⟩,
   ⟨live 5, 0, by decide +kernel⟩⟩

theorem witness_axisControl :
    (∃ (s : State) (k : Fin 64), s.aceLive = true ∧ s.axisOn k.val = true ∧ (s.axis k.val).phase = 0
      ∧ (s.axis k.val).land = none ∧ (s.axis k.val).ext = false) ∧
    (∃ (s : State) (k : Fin 64) (m : AxSample), s.aceLive = true ∧ (s.axis k.val).sample = some m
      ∧ (s.axis k.val).phase = 1 ∧ m.ends ≤ s.dlEdge) ∧
    (∃ (s : State) (k : Fin 64) (lane : Fin 4) (r : Nat), s.aceLive = true ∧ s.rd (ACE_AXk_CFG_LANE k.val) = lane.val
      ∧ s.axisReadyAt k.val = some r
      ∧ (∀ (j : Fin 64), j ≠ k → s.rd (ACE_AXk_CFG_LANE ↑j) = lane.val → s.axisReadyAt ↑j = none)
      ∧ s.ace.dlDone = false
      ∧ (max s.ntu.lt (max (Option.elim ((mapGet (fun x => LaneSt.reset) s.ace.lanes lane.val).last) 0 fun a => a + 60
        * s.ltStep) r) ≤ s.dlEdge)) ∧
    (∃ (s : State) (a : Nat), s.domOn 7 = true ∧ s.regsOk = true ∧ s.bit ACE_BANK_STAT_APPLY_PENDING = true
      ∧ s.ace.checked = false ∧ (List.find? (fun a => s.bankCheck a != 0) (maskAxes s.ace.mask) = some a)) ∧
    (∃ (s : State), s.domOn 7 = true ∧ s.regsOk = true ∧ s.bit ACE_BANK_STAT_APPLY_PENDING = true
      ∧ s.ace.checked = false ∧ (List.find? (fun a => s.bankCheck a != 0) (maskAxes s.ace.mask) = none)
      ∧ s.cycRun = true) ∧
    (∃ (s : State) (k : Fin 64), s.domOn 7 = true ∧ s.regsOk = true ∧ s.bit ACE_BANK_STAT_APPLY_PENDING = true
      ∧ s.ace.checked = false ∧ (List.find? (fun a => s.bankCheck a != 0) (maskAxes s.ace.mask) = none)
      ∧ s.cycRun = false ∧ bitAt s.ace.mask k.val = true) ∧
    (∃ (s : State), s.domOn 7 = true ∧ s.regsOk = true ∧ s.bit ACE_BANK_STAT_COPY_BUSY = false
      ∧ s.bit ACE_BANK_STAT_APPLY_PENDING = false) ∧
    (∃ (s : State) (k : Fin 64), s.domOn 7 = true ∧ s.regsOk = true ∧ s.bit ACE_BANK_STAT_COPY_BUSY = true
      ∧ s.ace.copyAxis = k.val) :=
  ⟨⟨axisIn axis0 (live 7), 0, by decide +kernel⟩,
   ⟨axisIn { axis0 with phase := 1, sample := some sample0 } (live 7), 0, sample0, by decide +kernel⟩,
   ⟨otherLanes (axisIn { axis0 with ext := true } (live 7)), 0, 0, (4900000 + 300000) * nsU, by decide +kernel⟩,
   ⟨applying ((inMode 7).wrB ACE_BANK_STAT_APPLY_PENDING true), 0, by decide +kernel⟩,
   ⟨someGains (applying (((inMode 7).wrB ACE_BANK_STAT_APPLY_PENDING true).wrB NTU_CYC_CTL_RUN true)), by decide +kernel⟩,
   ⟨someGains (applying ((inMode 7).wrB ACE_BANK_STAT_APPLY_PENDING true)), 0, by decide +kernel⟩,
   ⟨axisIn axis0 (live 7), by decide +kernel⟩,
   ⟨applying (((inMode 7).wrB ACE_BANK_STAT_COPY_BUSY true) |>.setReg (ACE_COEF_ACTIVE 0 1) 77|>.setReg (ACE_COEF_SHADOW
     0 0) 77), 0, by decide +kernel⟩⟩

theorem witness_safetyFaultsAndTicks :
    (∃ (s : State) (e : SfiFinding) (c : Nat), causeOf e = some c ∧ s.sfiOn = true ∧ s.sfi.st ≠ 0 ∧ s.sfi.st ≠ 5) ∧
    (∃ (e : SfiFinding), causeOf e = none) ∧
    (∃ (s : State), s.sfi.st = 5) ∧
    (∃ (s : State), s.sfiRuns = true ∧ s.sfi.due = true) ∧
    (∃ (s : State), s.sfiTicks = true ∧ s.sfi.due = true) ∧
    (∃ (s : State) (rb : BitVec 8) (cut : Bool) (q : Fin 4) (b : Fin 2) (at_ : Nat), s.sfiRuns = true
      ∧ bitAt s.sfi.on q.val = true ∧ s.sfi.pulseDue q.val b.val s.ntu.lt = some at_ ∧ cut = true
      ∧ (bitAt rb.toNat (2 * q.val + b.val) = true ∨ bitAt rb.toNat (2 * q.val + 1 - b.val) = false)) ∧
    (∃ (s : State) (rb : BitVec 8) (cut : Bool) (q : Fin 4) (b : Fin 2) (at_ : Nat), s.sfiRuns = true
      ∧ bitAt s.sfi.on q.val = true ∧ s.sfi.pulseDue q.val b.val s.ntu.lt = some at_ ∧ cut = true
      ∧ bitAt rb.toNat (2 * q.val + b.val) = false ∧ bitAt rb.toNat (2 * q.val + 1 - b.val) = true) ∧
    (∃ (s : State) (cut : Bool) (q : Fin 4) (b : Fin 2) (at_ : Nat), s.sfiRuns = true ∧ bitAt s.sfi.on q.val = true
      ∧ s.sfi.pulseDue q.val b.val s.ntu.lt = some at_ ∧ cut = false) :=
  ⟨⟨sfiIn 4 id, .compare true 250, 1, by decide +kernel⟩,
   ⟨.clock 20000, by decide +kernel⟩,
   ⟨sfiIn 5 id, by decide +kernel⟩,
   ⟨sfiIn 4 id, by decide +kernel⟩,
   ⟨sfiIn 4 id, by decide +kernel⟩,
   ⟨sfiIn 4 id, 0, true, 0, 0, 5000000 * nsU, by decide +kernel⟩,
   ⟨sfiIn 4 id, 2, true, 0, 0, 5000000 * nsU, by decide +kernel⟩,
   ⟨sfiIn 4 id, false, 0, 0, 5000000 * nsU, by decide +kernel⟩⟩

theorem witness_safetyTimers :
    (∃ (s : State) (c : Fin 512), s.sfiRuns = true ∧ s.sfi.st = 4 ∧ s.sfi.isInput c.val = true
      ∧ ((s.sfi.conn c.val).st = 1 ∨ (s.sfi.conn c.val).st = 2)) ∧
    (∃ (s : State) (k : Fin 64) (n : Nat), s.sfiRuns = true ∧ (s.sfi.axis k.val).ackFrom = some n
      ∧ (s.sfi.axis k.val).st = 4 ∧ (s.sfi.axis k.val).acked = false) ∧
    (∃ (s : State) (k : Fin 64), s.sfiRuns = true ∧ (s.sfi.axis k.val).st = 1) ∧
    (∃ (s : State) (k : Fin 64), s.sfiRuns = true ∧ (s.sfi.axis k.val).st = 2) ∧
    (∃ (s : State) (k : Fin 64) (n : Nat), s.sfiRuns = true ∧ (s.sfi.axis k.val).stoAt = some n
      ∧ bitAt (s.sfi.get 1539 k.val) 31 = true) :=
  ⟨⟨sfiIn 4 (fun x => { x with conns := [(0, conn0)] }), 0, by decide +kernel⟩,
   ⟨sfiIn 4 (sfiAxes { SfiAxis.reset with st := 4, ackFrom := some 90, stoAt := some 90 }), 0, 90, by decide +kernel⟩,
   ⟨sfiIn 4 (sfiAxes { SfiAxis.reset with st := 1, ent := 90 }), 0, by decide +kernel⟩,
   ⟨sfiIn 4 (sfiAxes { SfiAxis.reset with st := 2, ent := 90 }), 0, by decide +kernel⟩,
   ⟨sfiIn 4 (sfiAxes { SfiAxis.reset with st := 4, ackFrom := some 90, stoAt := some 90 }), 0, 90, by decide +kernel⟩⟩

theorem witness_partitionSlicesAndResets :
    (∃ (s : State) (p : Fin 6) (off : BitVec 8) (len : Fin 257), s.domOn 3 = true
      ∧ (s.rd (HIC_PARTp_SLICE_OFF p.val) = off.toNat ∧ s.rd (HIC_PARTp_SLICE_LEN p.val) = len.val)) ∧
    (∃ (s : State) (p : Fin 6) (off : BitVec 8) (len : Fin 257), s.domOn 3 = true
      ∧ (¬(s.rd (HIC_PARTp_SLICE_OFF p.val) = off.toNat ∧ s.rd (HIC_PARTp_SLICE_LEN p.val) = len.val))
      ∧ (s.mode = 3 ∧ off.toNat + len.val ≤ 256 ∧ s.sliceFits p.val off.toNat len.val = true)) ∧
    (∃ (s : State) (p : Fin 6) (off : BitVec 8) (len : Fin 257), s.domOn 3 = true
      ∧ (¬(s.rd (HIC_PARTp_SLICE_OFF p.val) = off.toNat ∧ s.rd (HIC_PARTp_SLICE_LEN p.val) = len.val))
      ∧ (¬(s.mode = 3 ∧ off.toNat + len.val ≤ 256 ∧ s.sliceFits p.val off.toNat len.val = true))) ∧
    (∃ (s : State) (p : Fin 6), s.domOn 3 = true ∧ s.pcieDead p.val = false) ∧
    (∃ (s : State) (p : Fin 6), s.domOn 3 = true ∧ (s.part p.val).commitAsked = true) ∧
    (∃ (s : State) (p : Fin 6), s.domOn 3 = true ∧ s.liveMode = true ∧ (s.part p.val).committed = false
      ∧ (s.part p.val).wdCount < s.rd (HIC_PARTp_CTL_WD_CYC p.val)) ∧
    (∃ (s : State) (f : Fin 4), s.domOn 3 = true ∧ s.pcieDead f.val = false) :=
  ⟨⟨inMode 3, 0, 0, 0, by decide +kernel⟩,
   ⟨inMode 3, 0, 0, 1, by decide +kernel⟩,
   ⟨inMode 3, 0, 15, 256, by decide +kernel⟩,
   ⟨inMode 3, 0, by decide +kernel⟩,
   ⟨onPart 0 (fun x => { x with commitAsked := true }) (inMode 3), 0, by decide +kernel⟩,
   ⟨(inMode 7).wr (HIC_PARTp_CTL_WD_CYC 0) 5, 0, by decide +kernel⟩,
   ⟨inMode 3, 0, by decide +kernel⟩⟩

theorem witness_hostFrames :
    (∃ (s : State) (f : EthFrame) (rest : List EthFrame), s.domOn 3 = true ∧ s.swc.hp = f :: rest
      ∧ s.hpTargets f = []) ∧
    (∃ (s : State) (p : Fin 6) (f : EthFrame) (rest : List EthFrame), s.domOn 3 = true ∧ s.swc.hp = f :: rest
      ∧ s.hpTargets f = [p.val] ∧ s.bit (HIC_PARTp_RING_RX_EN p.val) = false ∧ s.bit SWC_MIR_CTL_DROPS = false) ∧
    (∃ (s : State) (p : Fin 6) (f : EthFrame) (rest : List EthFrame) (d : HostDesc), s.domOn 3 = true
      ∧ s.swc.hp = f :: rest ∧ s.hpTargets f = [p.val] ∧ s.bit (HIC_PARTp_RING_RX_EN p.val) = true ∧ p.val < 4
      ∧ d.part = p ∧ s.rd (HIC_PARTp_IDX_RX_HEAD p.val) ≠ s.rd (HIC_PARTp_IDX_RX_TAIL p.val) ∧ f.bytes ≠ []
      ∧ f.bytes.length ≤ bitsOf d.w1 13 0) ∧
    (∃ (s : State) (p : Fin 6) (tail : BitVec 16), s.domOn 3 = true ∧ s.pcieDead p.val = false
      ∧ (s.bit (HIC_PARTp_RING_TX_EN p.val) = false ∨ 2 ^ s.rd (HIC_PARTp_RING_TX_SIZE p.val) ≤ tail.toNat)) ∧
    (∃ (s : State) (p : Fin 6) (d : HostDesc) (tail : BitVec 16), s.domOn 3 = true ∧ s.pcieDead p.val = false
      ∧ s.bit (HIC_PARTp_RING_TX_EN p.val) = true ∧ p.val < 4 ∧ d.part = p ∧ (s.part p.val).txq = []
      ∧ s.rd (HIC_PARTp_IDX_TX_HEAD p.val) < 2 ^ s.rd (HIC_PARTp_RING_TX_SIZE p.val)
      ∧ 2 ≤ 2 ^ s.rd (HIC_PARTp_RING_TX_SIZE p.val)
      ∧ tail.toNat = (s.rd (HIC_PARTp_IDX_TX_HEAD p.val) + 1) % 2 ^ s.rd (HIC_PARTp_RING_TX_SIZE p.val)
      ∧ bitsOf d.w1 62 61 = 3 ∧ d.bytes.length = bitsOf d.w1 13 0
      ∧ (frSa d.bytes = s.rd (HIC_PARTp_MAC_MAC p.val) ∧ frPcp d.bytes (s.rd (SWC_PORTp_CTL_DEF_PCP 14)) ≤ s.rd
        (HIC_PARTp_CTL_TX_PCP_MAX p.val))
      ∧ 60 ≤ bitsOf d.w1 13 0 ∧ bitsOf d.w1 13 0 ≤ 9212 ∧ s.domOn 6 = true ∧ s.swc.recovering = false) ∧
    (∃ (s : State) (p : Fin 6) (d : HostDesc) (tail : BitVec 16), s.domOn 3 = true ∧ s.pcieDead p.val = false
      ∧ s.bit (HIC_PARTp_RING_TX_EN p.val) = true ∧ p.val < 4 ∧ d.part = p ∧ (s.part p.val).txq = []
      ∧ s.rd (HIC_PARTp_IDX_TX_HEAD p.val) < 2 ^ s.rd (HIC_PARTp_RING_TX_SIZE p.val)
      ∧ 2 ≤ 2 ^ s.rd (HIC_PARTp_RING_TX_SIZE p.val)
      ∧ tail.toNat = (s.rd (HIC_PARTp_IDX_TX_HEAD p.val) + 1) % 2 ^ s.rd (HIC_PARTp_RING_TX_SIZE p.val)
      ∧ bitsOf d.w1 62 61 = 3 ∧ d.bytes.length = bitsOf d.w1 13 0
      ∧ (¬(frSa d.bytes = s.rd (HIC_PARTp_MAC_MAC p.val) ∧ frPcp d.bytes (s.rd (SWC_PORTp_CTL_DEF_PCP 14)) ≤ s.rd
        (HIC_PARTp_CTL_TX_PCP_MAX p.val)))) ∧
    (∃ (s : State) (p : Fin 6) (x : HicTx), s.domOn 3 = true ∧ (s.part p.val).txq = [x]) :=
  ⟨⟨atHp [ethOf (hostBytes 3 50)] (ringOn 0 (inMode 7)), ethOf (hostBytes 3 50), [], by decide +kernel⟩,
   ⟨atHp [ethOf (hostBytes 2 50)] ((ringOn 0 (inMode 7)).wrB (HIC_PARTp_RING_RX_EN 0) false), 0, ethOf (hostBytes 2 50),
     [], by decide +kernel⟩,
   ⟨atHp [ethOf (hostBytes 2 50)] (ringOn 0 (inMode 7)), 0, ethOf (hostBytes 2 50), [], ⟨0, 0x1000, BitVec.ofNat 64 (2 ^
     62 + 2 ^ 61 + 64), hostBytes 2 50⟩, by decide +kernel⟩,
   ⟨inMode 3, 0, 0, by decide +kernel⟩,
   ⟨withSems (ringOn 0 (ringOn 1 (inMode 3))), 0, ⟨0, 0x1000, BitVec.ofNat 64 (2 ^ 62 + 2 ^ 61 + 64), hostBytes 2 50⟩, 1,
     by decide +kernel⟩,
   ⟨withSems (ringOn 0 (ringOn 1 (inMode 3))), 0, ⟨0, 0x1000, BitVec.ofNat 64 (3 * 2 ^ 61 + 63), [2, 2, 2, 2, 2, 2, 9] ++
     (hostBytes 2 50).take 56⟩, 1, by decide +kernel⟩,
   ⟨onPart 0 (fun x => { x with txq := [⟨[5], false⟩] }) (ringOn 0 (inMode 7)), 0, ⟨[5], false⟩, by decide +kernel⟩⟩

theorem witness_hostPorts_1 :
    (∃ (s : State) (p : Fin 6) (a : BitVec 27), s.domOn 3 = true ∧ s.pcieDead p.val = false ∧ s.barClosed = false
      ∧ s.memDenied p.val a.toNat 8 true = true) ∧
    (∃ (s : State) (p : Fin 6) (a : BitVec 27), s.domOn 3 = true ∧ s.pcieDead p.val = false ∧ s.barClosed = false
      ∧ s.memDenied p.val a.toNat 8 true = false ∧ stagingOff a.toNat = true
      ∧ s.bit (HIC_PARTp_COMMIT_PENDING p.val) = true) ∧
    (∃ (s : State) (p : Fin 6) (a : BitVec 27), s.domOn 3 = true ∧ s.pcieDead p.val = false ∧ s.barClosed = false
      ∧ s.memDenied p.val a.toNat 8 true = false
      ∧ (¬(stagingOff a.toNat = true ∧ s.bit (HIC_PARTp_COMMIT_PENDING p.val) = true)) ∧ BarHere s a.toNat) ∧
    (∃ (s : State) (p : Fin 6) (h : Fin 2) (a : BitVec 27), s.domOn 3 = true ∧ s.pcieDead p.val = false
      ∧ s.barClosed = false ∧ s.memDenied (4 + h.val) a.toNat 8 true = true) ∧
    (∃ (s : State) (p : Fin 6) (h : Fin 2) (a : BitVec 27), s.domOn 3 = true ∧ s.pcieDead p.val = false
      ∧ s.barClosed = false ∧ s.memDenied (4 + h.val) a.toNat 8 true = false ∧ stagingOff a.toNat = true
      ∧ s.bit (HIC_PARTp_COMMIT_PENDING (4 + h.val)) = true) ∧
    (∃ (s : State) (p : Fin 6) (h : Fin 2) (a : BitVec 27), s.domOn 3 = true ∧ s.pcieDead p.val = false
      ∧ s.barClosed = false ∧ s.memDenied (4 + h.val) a.toNat 8 true = false
      ∧ (¬(stagingOff a.toNat = true ∧ s.bit (HIC_PARTp_COMMIT_PENDING (4 + h.val)) = true)) ∧ BarHere s a.toNat) ∧
    (∃ (s : State) (p : Fin 6) (a : BitVec 27) (n : BitVec 13), s.domOn 3 = true ∧ s.pcieDead p.val = false
      ∧ s.barClosed = false ∧ n = 8 ∧ s.memDenied p.val a.toNat 8 false = true) :=
  ⟨⟨inMode 3, 0, 0x20000, by decide +kernel⟩,
   ⟨(banksOn (inMode 7)).wrB (HIC_PARTp_COMMIT_PENDING 0) true, 0, 0x300008, by decide +kernel⟩,
   ⟨inMode 3, 0, 0x400008, by unfold BarHere; decide +kernel⟩,
   ⟨inMode 3, 0, 0, 0x20000, by decide +kernel⟩,
   ⟨(List.range 6).foldl (fun s p => s.wrB (HIC_PARTp_COMMIT_PENDING p) true) (memWindow 0 (banksOn (inMode 7))), 0, 0,
     0x304008, by decide +kernel⟩,
   ⟨onPart 4 (fun x => { x with txq := [⟨[5, 6], true⟩] }) (banksOn (ringOn 4 (inMode 7))), 0, 0, 0x304008,
     by unfold BarHere; decide +kernel⟩,
   ⟨inMode 3, 0, 0x20000, 8, by decide +kernel⟩⟩

theorem witness_hostPorts_2 :
    (∃ (s : State) (p : Fin 6) (a : BitVec 27) (n : BitVec 13), s.domOn 3 = true ∧ s.pcieDead p.val = false
      ∧ s.barClosed = false ∧ n = 8 ∧ s.memDenied p.val a.toNat 8 false = false ∧ BarHere s a.toNat) ∧
    (∃ (s : State) (p : Fin 6) (h : Fin 2) (a : BitVec 27), s.domOn 3 = true ∧ s.pcieDead p.val = false
      ∧ s.barClosed = false ∧ s.memDenied (4 + h.val) a.toNat 8 false = true) ∧
    (∃ (s : State) (p : Fin 6) (h : Fin 2) (a : BitVec 27), s.domOn 3 = true ∧ s.pcieDead p.val = false
      ∧ s.barClosed = false ∧ s.memDenied (4 + h.val) a.toNat 8 false = false ∧ BarHere s a.toNat) ∧
    (∃ (s : State) (p : Fin 6) (a : BitVec 27), s.domOn 3 = true ∧ s.pcieDead p.val = false ∧ s.barClosed = false
      ∧ a.toNat % 8 = 0 ∧ s.regDenied p.val a.toNat true = false) ∧
    (∃ (s : State) (h : Fin 2), s.domOn 3 = true ∧ (s.port h).busy = true) ∧
    (∃ (s : State) (h : Fin 2), s.domOn 3 = true ∧ (s.port h).busy = false) :=
  ⟨⟨inMode 3, 0, 0x100008, 8, by unfold BarHere; decide +kernel⟩,
   ⟨inMode 3, 0, 0, 0x20000, by decide +kernel⟩,
   ⟨onPart 4 (fun x => { x with txq := [⟨[5, 6], true⟩] }) (banksOn (ringOn 4 (inMode 7))), 0, 0, 0x304008,
     by unfold BarHere; decide +kernel⟩,
   ⟨inMode 3, 0, 0x20000, by decide +kernel⟩,
   ⟨onXspi (fun x => { x with busy := true }) (inMode 7), 0, by decide +kernel⟩,
   ⟨inMode 3, 0, by decide +kernel⟩⟩

theorem witness_registerWrites :
    (∃ (s : State) (who : Fin 33), s.pcieDead who.val = false ∧ s.domOn 8 = false) ∧
    (∃ (s : State) (who : Fin 33) (v : BitVec 64) (lo : Bool), s.pcieDead who.val = false ∧ s.domOn 8 = true
      ∧ lo = true ∧ bitsOf v 15 0 = 0) ∧
    (∃ (s : State) (who : Fin 33), s.pcieDead who.val = false ∧ s.domOn 3 = true ∧ 1 ≤ who.val ∧ who.val ≤ 5) ∧
    (∃ (s : State) (who : Fin 33) (v : BitVec 64), s.pcieDead who.val = false ∧ s.domOn 6 = true
      ∧ s.bit (cUCTL_LOCK uNTU) = true ∧ bitsOf v 31 0 ≤ 1073742 ∧ s.rd NTU_LT_TRIM_TRIM ≤ 1073742) :=
  ⟨⟨(inMode 3).setDom 8 0, 0, by decide +kernel⟩,
   ⟨inMode 3, 0, 0xFFFFFFFF00010000, true, by decide +kernel⟩,
   ⟨inMode 3, 1, by decide +kernel⟩,
   ⟨(inMode 3).wrB (cUCTL_LOCK uNTU) true, 0, 0xFFFFFFFF00010000, by decide +kernel⟩⟩

theorem witness_mailboxesAndSemaphores_1 :
    (∃ (s : State) (who : Fin 33) (m : Fin 128),
      (s.bit (MQF_MBm_CFG_EN m.val) = false ∨ s.rd (MQF_MBm_CFG_SENDER m.val) ≠ who.val)) ∧
    (∃ (s : State) (who : Fin 33) (m : Fin 128) (len : BitVec 9), s.bit (MQF_MBm_CFG_EN m.val) = true
      ∧ s.rd (MQF_MBm_CFG_SENDER m.val) = who.val ∧ (len = 0 ∨ 256 < len.toNat)) ∧
    (∃ (s : State) (who : Fin 33) (m : Fin 128) (len : BitVec 9), s.bit (MQF_MBm_CFG_EN m.val) = true
      ∧ s.rd (MQF_MBm_CFG_SENDER m.val) = who.val ∧ 0 < len.toNat ∧ len.toNat ≤ 256) ∧
    (∃ (s : State) (who : Fin 33) (m : Fin 128) (code : BitVec 16), s.bit (MQF_MBm_CFG_EN m.val) = true
      ∧ s.rd (MQF_MBm_CFG_RECEIVER m.val) = who.val ∧ 65520 ≤ code.toNat) ∧
    (∃ (s : State) (who : Fin 33) (m : Fin 128) (seq : BitVec 16) (code : BitVec 16),
      s.bit (MQF_MBm_CFG_EN m.val) = true ∧ s.rd (MQF_MBm_CFG_RECEIVER m.val) = who.val ∧ code.toNat < 65520
      ∧ (s.bit (MQF_MBm_STAT_FULL m.val) = false ∨ s.rd (MQF_MBm_STAT_SEQ m.val) ≠ seq.toNat)) ∧
    (∃ (s : State) (who : Fin 33) (m : Fin 128) (epoch : BitVec 16) (seq : BitVec 16) (code : BitVec 16),
      s.bit (MQF_MBm_CFG_EN m.val) = true ∧ s.rd (MQF_MBm_CFG_RECEIVER m.val) = who.val ∧ code.toNat < 65520
      ∧ s.bit (MQF_MBm_STAT_FULL m.val) = true ∧ s.rd (MQF_MBm_STAT_SEQ m.val) = seq.toNat
      ∧ epoch.toNat = s.epoch (s.rd (MQF_MBm_CFG_SENDER m.val))) :=
  ⟨⟨mailbox0 (inMode 3), 0, 0, by decide +kernel⟩,
   ⟨mailbox0 (inMode 3), 1, 0, 0, by decide +kernel⟩,
   ⟨mailbox0 (inMode 3), 1, 0, 1, by decide +kernel⟩,
   ⟨mailbox0 (inMode 3), 6, 0, 0xFFF0, by decide +kernel⟩,
   ⟨mailbox0 (inMode 3), 6, 0, 0, 0, by decide +kernel⟩,
   ⟨fullBox (inMode 3), 6, 0, 0, 1, 0, by decide +kernel⟩⟩

theorem witness_mailboxesAndSemaphores_2 :
    (∃ (s : State) (m : Fin 128), s.bit (MQF_MBm_CFG_EN m.val) = true
      ∧ (mapGet (fun x => false) s.mqf.timing m.val = true)) ∧
    (∃ (s : State) (who : Fin 33) (n : Fin 64), s.domOn 2 = true ∧ who.val ≠ 7
      ∧ (s.semHolder n.val = 0 ∨ s.semHolder n.val = who.val + 1)) ∧
    (∃ (s : State) (who : Fin 33) (n : Fin 64), s.domOn 2 = true ∧ who.val ≠ 7 ∧ s.semHolder n.val ≠ 0
      ∧ s.semHolder n.val ≠ who.val + 1 ∧ s.semHolder n.val ≤ 33) ∧
    (∃ (s : State) (who : Fin 33) (n : Fin 64), s.domOn 2 = true ∧ (s.semHolder n.val = who.val + 1 ∨ who = 0)) ∧
    (∃ (s : State) (who : Fin 33) (n : Fin 64), s.domOn 2 = true ∧ s.semHolder n.val ≠ who.val + 1 ∧ who ≠ 0) :=
  ⟨⟨timedBox (inMode 7), 0, by decide +kernel⟩,
   ⟨mailbox0 (inMode 3), 0, 0, by decide +kernel⟩,
   ⟨mqfOf (fun x => { x with sems := [(0, 2), (9, 7)] }) (inMode 3), 0, 0, by decide +kernel⟩,
   ⟨mailbox0 (inMode 3), 0, 0, by decide +kernel⟩,
   ⟨mailbox0 (inMode 3), 1, 0, by decide +kernel⟩⟩

theorem witness_queueUnits :
    (∃ (s : State) (who : Fin 33) (k : Fin 64), s.pqRunning k.val = true ∧ s.rd (PQk_CFG_WRITER k.val) = who.val
      ∧ (s.pq k.val).cur = none ∧ s.pqRoom k.val 1 = true) ∧
    (∃ (s : State) (who : Fin 33) (k : Fin 64) (vb : BitVec 2), s.pqRunning k.val = true
      ∧ s.rd (PQk_CFG_WRITER k.val) = who.val ∧ vb ≠ 0) ∧
    (∃ (s : State) (who : Fin 33) (k : Fin 64) (p : Packet), s.pqRunning k.val = true
      ∧ s.rd (PQk_CFG_WRITER k.val) = who.val ∧ s.inRegion who.val = false ∧ (s.pq k.val).cur = some p
      ∧ p.dropped = false ∧ p.counted = false ∧ s.rd (PQk_STAT_GAP_COUNT k.val) = 0) ∧
    (∃ (s : State) (who : Fin 33) (k : Fin 64), s.pqRunning k.val = true ∧ s.rd (PQk_CFG_WRITER k.val) = who.val
      ∧ (s.pq k.val).cur ≠ none) ∧
    (∃ (s : State) (who : Fin 33) (k : Fin 64), s.pqRunning k.val = true
      ∧ (s.rd (PQk_CFG_WRITER k.val) = who.val ∨ s.rd (PQk_CFG_READER k.val) = who.val ∨ who = 0)) ∧
    (∃ (s : State) (who : Fin 33) (k : Fin 64), s.pqRunning k.val = true ∧ s.rd (PQk_CFG_READER k.val) = who.val
      ∧ who ≠ 7 ∧ s.rd (PQk_IDX_PUT k.val) ≠ s.rd (PQk_IDX_GET k.val)
      ∧ (s.rd (PQk_CFG_BASE k.val) % 16 = 0 ∧ s.rd (PQk_CFG_BASE k.val) + 16 * 2 ^ s.rd (PQk_CFG_SIZE k.val) ≤
        39845888 ∧ 1 ≤ s.rd (PQk_CFG_SIZE k.val) ∧ (∀ (b : Fin 76), s.bankState ↑b = 1) ∧ s.mem.badWords = [])) ∧
    (∃ (s : State) (who : Fin 33) (k : Fin 64), s.pqRunning k.val = true ∧ s.rd (PQk_CFG_READER k.val) = who.val
      ∧ who ≠ 7 ∧ s.rd (PQk_IDX_PUT k.val) = s.rd (PQk_IDX_GET k.val)) ∧
    (∃ (s : State) (k : Fin 64), s.domOn 2 = true ∧ s.rd (PQk_STAT_STATE k.val) = 0 ∧ s.domOn 9 = true) ∧
    (∃ (s : State) (k : Fin 64), s.domOn 2 = true ∧ s.rd (PQk_STAT_STATE k.val) = 3) ∧
    (∃ (s : State) (k : Fin 64), s.domOn 2 = true ∧ s.rd (PQk_STAT_STATE k.val) = 2) :=
  ⟨⟨queueIn id (banksOn (inMode 7)), 1, 0, by decide +kernel⟩,
   ⟨queueIn id (banksOn (inMode 7)), 1, 0, 1, by decide +kernel⟩,
   ⟨queueIn (fun q => { q with cur := some packet0 }) (banksOn (inMode 7)), 1, 0, packet0, by decide +kernel⟩,
   ⟨queueIn (fun q => { q with cur := some packet0 }) (banksOn (inMode 7)), 1, 0, by decide +kernel⟩,
   ⟨queueIn id (banksOn (inMode 7)), 0, 0, by decide +kernel⟩,
   ⟨(queueIn (fun q => { q with cur := some ⟨7, (List.range 16).map (BitVec.ofNat 8), false, false⟩, flushed := true })
     (banksOn (inMode 7))).wr (PQk_IDX_PUT 0) 15 |>.wr (PQk_IDX_GET 0) 3, 6, 0, by decide +kernel⟩,
   ⟨queueIn id (banksOn (inMode 7)), 6, 0, by decide +kernel⟩,
   ⟨mailbox0 (inMode 3), 0, by decide +kernel⟩,
   ⟨queueState 3 (inMode 7), 0, by decide +kernel⟩,
   ⟨queueIn id (banksOn (inMode 7)), 0, by decide +kernel⟩⟩

theorem witness_commandQueues :
    (∃ (s : State) (p : Fin 6) (q : Fin 4) (tail : BitVec 16), s.domOn 3 = true ∧ s.pcieDead p.val = false
      ∧ tail.toNat < 2 ^ s.rd (HIC_PARTp_Qq_CTL_SIZE p.val q.val)) ∧
    (∃ (s : State) (p : Fin 6) (q : Fin 4) (tail : BitVec 16), s.domOn 3 = true ∧ s.pcieDead p.val = false
      ∧ 2 ^ s.rd (HIC_PARTp_Qq_CTL_SIZE p.val q.val) ≤ tail.toNat) ∧
    (∃ (s : State) (p : Fin 6) (q : Fin 4) (entry : List Byte), s.domOn 3 = true ∧ p.val < 4 ∧ s.dcpServes = true
      ∧ s.qNext = some (4 * p.val + q.val) ∧ s.dcp.runs = [] ∧ s.pendMode = none ∧ byteAt entry 2 ≤ 1
      ∧ (∀ (i : Nat), 10 ≤ i → i < 16 → byteAt entry i = 0) ∧ leAt entry 6 2 ≤ 4096 ∧ 32 ≤ entry.length
      ∧ opDefined (leAt entry 0 2) = false) ∧
    (∃ (s : State) (p : Fin 6) (q : Fin 4) (entry : List Byte), s.domOn 3 = true ∧ p.val < 4 ∧ s.dcpServes = true
      ∧ s.qNext = some (4 * p.val + q.val) ∧ s.dcp.runs = [] ∧ s.pendMode = none ∧ byteAt entry 2 ≤ 1
      ∧ (∀ (i : Nat), 10 ≤ i → i < 16 → byteAt entry i = 0) ∧ leAt entry 6 2 ≤ 4096 ∧ 32 ≤ entry.length
      ∧ leAt entry 0 2 = 0 ∧ leAt entry 6 2 = 0 ∧ s.bit (HIC_PARTp_Qq_CTL_SEQ_VALID p.val q.val) = false
      ∧ s.boot.lifeCycle ≠ 5) ∧
    (∃ (s : State) (p : Fin 6) (q : Fin 4) (r : DcpRun), s.domOn 3 = true ∧ s.dcpServes = true
      ∧ s.rd (HIC_PARTp_Qq_CTL_TMO p.val q.val) ≠ 0 ∧ s.runAt (4 * p.val + q.val) = some r ∧ r.started = false) ∧
    (∃ (s : State) (p : Fin 6) (q : Fin 4) (r : DcpRun) (x : DcpResult) (k : Fin 25), s.domOn 3 = true
      ∧ k.val = 4 * p.val + q.val ∧ s.runAt (4 * p.val + q.val) = some r ∧ r.part = p.val ∧ r.result = some x
      ∧ s.dcp.restarting = false ∧ r.silent = true) ∧
    (∃ (s : State) (p : Fin 6) (q : Fin 4) (r : DcpRun) (x : DcpResult) (k : Fin 25), s.domOn 3 = true
      ∧ k.val = 4 * p.val + q.val ∧ s.runAt (4 * p.val + q.val) = some r ∧ r.part = p.val ∧ r.result = some x
      ∧ s.dcp.restarting = false ∧ r.silent = false ∧ p.val < 4 ∧ r.raddr = 0) :=
  ⟨⟨serving 3, 0, 0, 0, by decide +kernel⟩,
   ⟨serving 3, 0, 0, 16, by decide +kernel⟩,
   ⟨serving 3, 0, 0, sqEntry 0x999 0, by decide +kernel⟩,
   ⟨serving 3, 0, 0, sqEntry 0 0, by decide +kernel⟩,
   ⟨withRun (serving 7) ({ dcpRun 0 [] with started := false }), 0, 0, { dcpRun 0 [] with started := false },
     by decide +kernel⟩,
   ⟨withRun (serving 7) ({ answered 0 (dcpRun 0 []) with silent := true }), 0, 0,
     { answered 0 (dcpRun 0 []) with silent := true }, ⟨0, []⟩, 0, by decide +kernel⟩,
   ⟨withRun (serving 7) (answered 0 (dcpRun 0 [])), 0, 0, answered 0 (dcpRun 0 []), ⟨0, []⟩, 0, by decide +kernel⟩⟩

theorem witness_commandFramesAndRestarts :
    (∃ (s : State) (f : EthFrame) (rest : List EthFrame), s.domOn 2 = true ∧ s.swc.mp = f :: rest
      ∧ isCommandFrame f = true ∧ s.mode = 8 ∧ s.dcp.restarting = false ∧ s.dcp.frames.length < 4
      ∧ (s.runAt 24).isSome = true) ∧
    (∃ (s : State) (f : EthFrame) (rest : List EthFrame), s.domOn 2 = true ∧ s.swc.mp = f :: rest
      ∧ isCommandFrame f = true ∧ s.mode = 8 ∧ s.dcp.restarting = false ∧ s.dcp.frames = [] ∧ s.runAt 24 = none) ∧
    (∃ (s : State) (f : EthFrame) (rest : List EthFrame), s.domOn 2 = true ∧ s.swc.mp = f :: rest
      ∧ isCommandFrame f = true ∧ s.mode ≠ 8) ∧
    (∃ (s : State) (f : EthFrame) (rest : List EthFrame), s.domOn 2 = true ∧ s.swc.mp = f :: rest
      ∧ isCommandFrame f = false ∧ s.dcp.restarting = false ∧ (etherType f.bytes ≠ 34997 ∨ s.relayOf f = none)) ∧
    (∃ (s : State) (f : EthFrame) (rest : List EthFrame) (c : Nat), s.domOn 2 = true ∧ s.swc.mp = f :: rest
      ∧ isCommandFrame f = false ∧ s.dcp.restarting = false ∧ etherType f.bytes = 34997 ∧ s.relayOf f = some c
      ∧ s.sfiOn = true ∧ s.sfi.rx.length < 64) ∧
    (∃ (s : State), s.domOn 2 = true ∧ s.boot.running = false ∧ s.boot.halted = none
      ∧ ((List.filter (fun e => decide (s.ltNs < e + 60000000000)) s.dcp.expiries).length < 2)) ∧
    (∃ (s : State), s.domOn 2 = true ∧ s.boot.running = false ∧ s.boot.halted = none
      ∧ (2 ≤ (List.filter (fun e => decide (s.ltNs < e + 60000000000)) s.dcp.expiries).length)) ∧
    (∃ (s : State), s.dcp.restarting = true) :=
  ⟨⟨atMp [commandFrame] (withRun (serving 8) (dcpRun 1 [] 24)), commandFrame, [], by decide +kernel⟩,
   ⟨atMp [commandFrame] (serving 8), commandFrame, [], by decide +kernel⟩,
   ⟨atMp [commandFrame, safetyFrame] (serving 3), commandFrame, [safetyFrame], by decide +kernel⟩,
   ⟨atMp [safetyFrame] (serving 7), safetyFrame, [], by decide +kernel⟩,
   ⟨atMp [safetyFrame] (relayOn (sfiRunning (serving 7))), safetyFrame, [], 5, by decide +kernel⟩,
   ⟨atMp [commandFrame] (serving 8), by decide +kernel⟩,
   ⟨dcpOf (fun x => { x with expiries := [1, 2] }) (serving 7), by decide +kernel⟩,
   ⟨dcpOf (fun x => { x with restarting := true }) (withRun (withRun (serving 7) (dcpRun 0 [])) (answered 3 (dcpRun 5 []
     4))), by decide +kernel⟩⟩

theorem witness_commandsThatRead_1 :
    (∃ (s : State) (slot : Fin 25) (r : DcpRun), DcpRuns s slot.val 0 r) ∧
    (∃ (s : State) (slot : Fin 25) (r : DcpRun), DcpRuns s slot.val 1 r) ∧
    (∃ (s : State) (slot : Fin 25) (r : DcpRun), DcpRuns s slot.val 256 r) ∧
    (∃ (s : State) (slot : Fin 25) (r : DcpRun) (y : ConnRec), s.connRec (leAt r.payload 0 2) = some y
      ∧ DcpRuns s slot.val 514 r) ∧
    (∃ (s : State) (slot : Fin 25) (r : DcpRun), s.connRec (leAt r.payload 0 2) = none ∧ DcpRuns s slot.val 514 r) ∧
    (∃ (s : State) (slot : Fin 25) (r : DcpRun), s.dcp.conns = [] ∧ s.connUses = [] ∧ s.connReplies = []
      ∧ s.failedAreas = [] ∧ DcpRuns s slot.val 520 r) ∧
    (∃ (s : State) (slot : Fin 25) (r : DcpRun), leAt r.payload 0 2 < 24 ∧ s.engState (leAt r.payload 0 2) = 2
      ∧ DcpRuns s slot.val 771 r) :=
  ⟨⟨withRun (readBase 7) (dcpRun 0 []), 0, dcpRun 0 [], by unfold DcpRuns; decide +kernel⟩,
   ⟨withRun (readBase 7) (dcpRun 1 []), 0, dcpRun 1 [], by unfold DcpRuns; decide +kernel⟩,
   ⟨withRun (readBase 7) (dcpRun 0x100 []), 0, dcpRun 0x100 [], by unfold DcpRuns; decide +kernel⟩,
   ⟨withRun (readBase 7) (dcpRun 0x202 (leBytes 4 1)), 0, dcpRun 0x202 (leBytes 4 1), ⟨1, 0, 2, 3, 0x100⟩,
     by unfold DcpRuns; decide +kernel⟩,
   ⟨withRun (serving 3) (dcpRun 0x202 (leBytes 4 1)), 0, dcpRun 0x202 (leBytes 4 1), by unfold DcpRuns; decide +kernel⟩,
   ⟨withRun (serving 3) (dcpRun 0x208 []), 0, dcpRun 0x208 [], by unfold DcpRuns; decide +kernel⟩,
   ⟨withRun (readBase 7) (dcpRun 0x303 (leBytes 2 3 ++ List.replicate 10 1)), 0, dcpRun 0x303 (leBytes 2 3 ++
     List.replicate 10 1), by unfold DcpRuns; decide +kernel⟩⟩

theorem witness_commandsThatRead_2 :
    (∃ (s : State) (slot : Fin 25) (r : DcpRun), DcpRuns s slot.val 774 r) ∧
    (∃ (s : State) (slot : Fin 25) (r : DcpRun), s.domOn 7 = true ∧ byteAt r.payload 0 < 64
      ∧ DcpRuns s slot.val 1025 r) ∧
    (∃ (s : State) (slot : Fin 25) (r : DcpRun), s.domOn 7 = true ∧ 64 ≤ byteAt r.payload 0
      ∧ DcpRuns s slot.val 1025 r) ∧
    (∃ (s : State) (slot : Fin 25) (r : DcpRun), s.domOn 7 = false ∧ DcpRuns s slot.val 1025 r) ∧
    (∃ (s : State) (slot : Fin 25) (r : DcpRun), s.domOn 1 = true ∧ DcpRuns s slot.val 1281 r) ∧
    (∃ (s : State) (slot : Fin 25) (r : DcpRun), DcpRuns s slot.val 1539 r) ∧
    (∃ (s : State) (slot : Fin 25) (r : DcpRun), DcpRuns s slot.val 1792 r) :=
  ⟨⟨withRun (readBase 7) (dcpRun 0x306 []), 0, dcpRun 0x306 [], by unfold DcpRuns; decide +kernel⟩,
   ⟨withRun (readBase 7) (dcpRun 0x401 (toBytes [2, 0, 0, 0])), 0, dcpRun 0x401 (toBytes [2, 0, 0, 0]),
     by unfold DcpRuns; decide +kernel⟩,
   ⟨withRun (readBase 7) (dcpRun 0x401 (toBytes [64, 0, 0, 0])), 0, dcpRun 0x401 (toBytes [64, 0, 0, 0]),
     by unfold DcpRuns; decide +kernel⟩,
   ⟨withRun ((readBase 7).setDom 7 0) (dcpRun 0x401 (toBytes [2, 0, 0, 0])), 0, dcpRun 0x401 (toBytes [2, 0, 0, 0]),
     by unfold DcpRuns; decide +kernel⟩,
   ⟨withRun (readBase 7) (dcpRun 0x501 []), 0, dcpRun 0x501 [], by unfold DcpRuns; decide +kernel⟩,
   ⟨withRun (readBase 7) (dcpRun 0x603 []), 0, dcpRun 0x603 [], by unfold DcpRuns; decide +kernel⟩,
   ⟨withRun (readBase 7) (dcpRun 0x700 (leBytes 8 0) 24), 24, dcpRun 0x700 (leBytes 8 0) 24,
     by unfold DcpRuns; decide +kernel⟩⟩

theorem witness_commandsThatRead_3 :
    (∃ (s : State) (slot : Fin 25) (r : DcpRun), DcpRuns s slot.val 1793 r) ∧
    (∃ (s : State) (slot : Fin 25) (r : DcpRun), DcpRuns s slot.val 1796 r) ∧
    (∃ (s : State) (slot : Fin 25) (r : DcpRun) (v : Nat), calReg (leAt r.payload 0 2) (byteAt r.payload 2) ≠ none
      ∧ s.userCal (leAt r.payload 0 2) (byteAt r.payload 2) = some v ∧ byteAt r.payload 3 ≠ 1
      ∧ DcpRuns s slot.val 2048 r) ∧
    (∃ (s : State) (slot : Fin 25) (r : DcpRun), calReg (leAt r.payload 0 2) (byteAt r.payload 2) ≠ none
      ∧ byteAt r.payload 3 = 1 ∧ DcpRuns s slot.val 2048 r) ∧
    (∃ (s : State) (slot : Fin 25) (r : DcpRun), calReg (leAt r.payload 0 2) (byteAt r.payload 2) = none
      ∧ DcpRuns s slot.val 2048 r) :=
  ⟨⟨withRun (readBase 7) (dcpRun 0x701 []), 0, dcpRun 0x701 [], by unfold DcpRuns; decide +kernel⟩,
   ⟨withRun (readBase 7) (dcpRun 0x704 []), 0, dcpRun 0x704 [], by unfold DcpRuns; decide +kernel⟩,
   ⟨withRun (readBase 7) (dcpRun 0x800 (toBytes [2, 0, 3, 0])), 0, dcpRun 0x800 (toBytes [2, 0, 3, 0]), 77,
     by unfold DcpRuns; decide +kernel⟩,
   ⟨withRun (readBase 7) (dcpRun 0x800 (toBytes [2, 0, 3, 1])), 0, dcpRun 0x800 (toBytes [2, 0, 3, 1]),
     by unfold DcpRuns; decide +kernel⟩,
   ⟨withRun (readBase 7) (dcpRun 0x800 (toBytes [1, 0, 3, 1])), 0, dcpRun 0x800 (toBytes [1, 0, 3, 1]),
     by unfold DcpRuns; decide +kernel⟩⟩

theorem witness_commandsThatConfigure_1 :
    (∃ (s : State) (slot : Fin 25) (r : DcpRun), DcpRuns s slot.val 2 r) ∧
    (∃ (s : State) (slot : Fin 25) (r : DcpRun) (p : Fin 6), s.domOn 3 = true ∧ r.part = 0 ∧ r.len ≠ 0
      ∧ byteAt r.payload 0 = p.val ∧ p ≠ 0 ∧ DcpRuns s slot.val 3 r) ∧
    (∃ (s : State) (slot : Fin 25) (r : DcpRun), slot.val ≠ 24 ∧ r.part ≠ 0 ∧ r.len ≠ 0 ∧ byteAt r.payload 0 ≠ r.part
      ∧ DcpRuns s slot.val 3 r) ∧
    (∃ (s : State) (slot : Fin 25) (r : DcpRun), s.crp.mramStop = false ∧ DcpRuns s slot.val 4 r) ∧
    (∃ (s : State) (slot : Fin 25) (r : DcpRun), s.crp.mramStop = true ∧ DcpRuns s slot.val 4 r) ∧
    (∃ (s : State) (slot : Fin 25) (r : DcpRun), lifeCycleOk s.boot.lifeCycle s.mode (leAt r.payload 0 4) = true
      ∧ DcpRuns s slot.val 5 r) ∧
    (∃ (s : State) (slot : Fin 25) (r : DcpRun), lifeCycleOk s.boot.lifeCycle s.mode (leAt r.payload 0 4) = false
      ∧ DcpRuns s slot.val 5 r) ∧
    (∃ (s : State) (slot : Fin 25) (r : DcpRun), s.pendMode = none
      ∧ s.modeAnswer (leAt r.payload 0 4) = ModeAnswer.noTransition ∧ DcpRuns s slot.val 257 r) :=
  ⟨⟨withRun (registry 3) (dcpRun 2 []), 0, dcpRun 2 [], by unfold DcpRuns; decide +kernel⟩,
   ⟨withRun (registry 3) (dcpRun 3 (toBytes [2, 0, 0, 0, 0, 0, 0, 0])), 0, dcpRun 3 (toBytes [2, 0, 0, 0, 0, 0, 0, 0]),
     2, by unfold DcpRuns; decide +kernel⟩,
   ⟨withRun (registry 3) (dcpRun 3 (toBytes [2, 0, 0, 0]) 0 1), 0, dcpRun 3 (toBytes [2, 0, 0, 0]) 0 1,
     by unfold DcpRuns; decide +kernel⟩,
   ⟨withRun (registry 3) (dcpRun 4 []), 0, dcpRun 4 [], by unfold DcpRuns; decide +kernel⟩,
   ⟨withRun ((registry 7).putCrp { (registry 7).crp with mramStop := true }) (dcpRun 4 []), 0, dcpRun 4 [],
     by unfold DcpRuns; decide +kernel⟩,
   ⟨withRun (registry 3) (dcpRun 5 (leBytes 8 3)), 0, dcpRun 5 (leBytes 8 3), by unfold DcpRuns; decide +kernel⟩,
   ⟨withRun (registry 3) (dcpRun 5 (leBytes 8 2)), 0, dcpRun 5 (leBytes 8 2), by unfold DcpRuns; decide +kernel⟩,
   ⟨withRun (registry 3) (dcpRun 0x101 (leBytes 8 7)), 0, dcpRun 0x101 (leBytes 8 7), by unfold DcpRuns; decide +kernel⟩⟩

theorem witness_commandsThatConfigure_2 :
    (∃ (s : State) (slot : Fin 25) (r : DcpRun) (q : PendMode), s.pendMode = some q ∧ q.reply ≠ some slot.val
      ∧ DcpRuns s slot.val 257 r) ∧
    (∃ (s : State) (slot : Fin 25) (r : DcpRun), s.pendMode = none ∧ s.modeAnswer (leAt r.payload 0 4) = ModeAnswer.go
      ∧ waitsBoundary s.mode (leAt r.payload 0 4) = true ∧ DcpRuns s slot.val 257 r) ∧
    (∃ (s : State) (slot : Fin 25) (r : DcpRun), s.pendMode = none ∧ s.modeAnswer (leAt r.payload 0 4) = ModeAnswer.go
      ∧ waitsBoundary s.mode (leAt r.payload 0 4) = false ∧ DcpRuns s slot.val 257 r) ∧
    (∃ (s : State) (slot : Fin 25) (r : DcpRun), bitsOf (BitVec.ofNat 64 (leAt r.payload 0 8)) 39 32 ≠ 0
      ∧ degPortsSame (BitVec.ofNat 64 (leAt r.payload 0 8)) = false ∧ s.bit SYSCTL_MODE_CFG_LOCK = false
      ∧ s.bit (cUCTL_LOCK uSYSCTL) = false ∧ s.crp.mramStop = false ∧ DcpRuns s slot.val 258 r) ∧
    (∃ (s : State) (slot : Fin 25) (r : DcpRun),
      (bitsOf (BitVec.ofNat 64 (leAt r.payload 0 8)) 39 32 = 0 ∨ degPortsSame (BitVec.ofNat 64 (leAt r.payload 0 8)) =
        true)
      ∧ DcpRuns s slot.val 258 r) ∧
    (∃ (s : State) (slot : Fin 25) (r : DcpRun),
      (leAt r.payload 0 2 ≤ 4095 ∧ agentExists (byteAt r.payload 2) (byteAt r.payload 4) = true ∧ 0 < leAt r.payload 6
        2 ∧ (leAt r.payload 6 2 ≤ if byteAt r.payload 2 = 1 then 32 else 64) ∧ (byteAt r.payload 3 = 0 → 128 ≤ leAt
        r.payload 8 4) ∧ leAt r.payload 8 4 + leAt r.payload 6 2 ≤ 131072)
      ∧ (∀ (e : Nat × Option ConnRec), e ∈ s.dcp.conns → e.fst ≠ leAt r.payload 0 2 → ∀ (y : ConnRec), e.snd = some y
        → (⟨byteAt r.payload 2, byteAt r.payload 3, byteAt r.payload 4, leAt r.payload 6 2, leAt r.payload 8 4⟩ :
        ConnRec).overlaps y = false)
      ∧ s.axisClash (leAt r.payload 0 2) (⟨byteAt r.payload 2, byteAt r.payload 3, byteAt r.payload 4, leAt r.payload
        6 2, leAt r.payload 8 4⟩ : ConnRec) = none
      ∧ DcpRuns s slot.val 512 r) ∧
    (∃ (s : State) (slot : Fin 25) (r : DcpRun),
      (leAt r.payload 0 2 ≤ 4095 ∧ agentExists (byteAt r.payload 2) (byteAt r.payload 4) = true ∧ 0 < leAt r.payload 6
        2 ∧ (leAt r.payload 6 2 ≤ if byteAt r.payload 2 = 1 then 32 else 64) ∧ (byteAt r.payload 3 = 0 → 128 ≤ leAt
        r.payload 8 4) ∧ leAt r.payload 8 4 + leAt r.payload 6 2 ≤ 131072)
      ∧ (∃ e, e ∈ s.dcp.conns ∧ e.fst ≠ leAt r.payload 0 2 ∧ ∃ y, e.snd = some y ∧ (⟨byteAt r.payload 2, byteAt
        r.payload 3, byteAt r.payload 4, leAt r.payload 6 2, leAt r.payload 8 4⟩ : ConnRec).overlaps y = true)
      ∧ DcpRuns s slot.val 512 r) ∧
    (∃ (s : State) (slot : Fin 25) (r : DcpRun) (j : Nat),
      (leAt r.payload 0 2 ≤ 4095 ∧ agentExists (byteAt r.payload 2) (byteAt r.payload 4) = true ∧ 0 < leAt r.payload 6
        2 ∧ (leAt r.payload 6 2 ≤ if byteAt r.payload 2 = 1 then 32 else 64) ∧ (byteAt r.payload 3 = 0 → 128 ≤ leAt
        r.payload 8 4) ∧ leAt r.payload 8 4 + leAt r.payload 6 2 ≤ 131072)
      ∧ (∀ (e : Nat × Option ConnRec), e ∈ s.dcp.conns → e.fst ≠ leAt r.payload 0 2 → ∀ (y : ConnRec), e.snd = some y
        → (⟨byteAt r.payload 2, byteAt r.payload 3, byteAt r.payload 4, leAt r.payload 6 2, leAt r.payload 8 4⟩ :
        ConnRec).overlaps y = false)
      ∧ s.axisClash (leAt r.payload 0 2) (⟨byteAt r.payload 2, byteAt r.payload 3, byteAt r.payload 4, leAt r.payload
        6 2, leAt r.payload 8 4⟩ : ConnRec) = some j
      ∧ DcpRuns s slot.val 512 r) :=
  ⟨⟨{ withRun (registry 7) (dcpRun 0x101 (leBytes 8 7)) with pendMode := some ⟨5, 0, 6, none, 0⟩ }, 0, dcpRun 0x101
     (leBytes 8 7), ⟨5, 0, 6, none, 0⟩, by unfold DcpRuns; decide +kernel⟩,
   ⟨withRun ((registry 7).putCrp { (registry 7).crp with mramStop := true }) (dcpRun 0x101 (leBytes 8 6)), 0, dcpRun
     0x101 (leBytes 8 6), by unfold DcpRuns; decide +kernel⟩,
   ⟨withRun (registry 3) (dcpRun 0x101 (leBytes 8 4)), 0, dcpRun 0x101 (leBytes 8 4), by unfold DcpRuns; decide +kernel⟩,
   ⟨withRun (registry 3) (dcpRun 0x102 (leBytes 8 0x0000003200010000)), 0, dcpRun 0x102 (leBytes 8 0x0000003200010000),
     by unfold DcpRuns; decide +kernel⟩,
   ⟨withRun (registry 3) (dcpRun 0x102 (leBytes 8 0)), 0, dcpRun 0x102 (leBytes 8 0), by unfold DcpRuns; decide +kernel⟩,
   ⟨withRun (registry 3) (dcpRun 0x200 (connPay 1 1 0 2 3 0x200)), 0, dcpRun 0x200 (connPay 1 1 0 2 3 0x200),
     by unfold DcpRuns; decide +kernel⟩,
   ⟨withRun (registry 3) (dcpRun 0x200 (connPay 2 1 0 2 3 0x101)), 0, dcpRun 0x200 (connPay 2 1 0 2 3 0x101),
     by unfold DcpRuns; decide +kernel⟩,
   ⟨withRun ((registry 3).wrB (ACE_AXk_CFG_EN 0) true) (dcpRun 0x200 (connPay 0 1 0 2 3 0x300)), 0, dcpRun 0x200 (connPay
     0 1 0 2 3 0x300), 0, by unfold DcpRuns; decide +kernel⟩⟩

theorem witness_commandsThatConfigure_3 :
    (∃ (s : State) (slot : Fin 25) (r : DcpRun), (4095 < leAt r.payload 0 2 ∨ leAt r.payload 6 2 = 0)
      ∧ DcpRuns s slot.val 512 r) ∧
    (∃ (s : State) (slot : Fin 25) (r : DcpRun), s.connRec (leAt r.payload 0 2) = none ∧ DcpRuns s slot.val 513 r) ∧
    (∃ (s : State) (slot : Fin 25) (r : DcpRun), s.connRec (leAt r.payload 0 2) ≠ none
      ∧ (∀ (u : Nat × Nat), u ∈ s.connUses → u.fst ≠ leAt r.payload 0 2) ∧ DcpRuns s slot.val 513 r) ∧
    (∃ (s : State) (slot : Fin 25) (r : DcpRun), s.connRec (leAt r.payload 0 2) = none ∧ DcpRuns s slot.val 515 r) ∧
    (∃ (s : State) (slot : Fin 25) (r : DcpRun) (y : ConnRec), s.connRec (leAt r.payload 0 2) = some y
      ∧ (r.len - 8) / 8 = y.len ∧ y.unit ≠ 6 ∧ DcpRuns s slot.val 515 r) ∧
    (∃ (s : State) (slot : Fin 25) (r : DcpRun), byteAt r.payload 0 = 2 ∧ 1 ≤ byteAt r.payload 1
      ∧ byteAt r.payload 1 ≤ 5 ∧ DcpRuns s slot.val 516 r) ∧
    (∃ (s : State) (slot : Fin 25) (r : DcpRun), byteAt r.payload 0 ≤ 1 ∧ 1 ≤ byteAt r.payload 1
      ∧ byteAt r.payload 1 ≤ 5 ∧ leAt r.payload 8 8 % 8 = 0 ∧ leAt r.payload 16 8 % 8 = 0
      ∧ leAt r.payload 8 8 < 2 ^ 32 ∧ leAt r.payload 16 8 < 2 ^ 32
      ∧ (List.find? (fun w => !s.bit (HIC_FWw_BASE_EN w)) (List.range 64) = none) ∧ DcpRuns s slot.val 516 r) ∧
    (∃ (s : State) (slot : Fin 25) (r : DcpRun) (n : Nat), byteAt r.payload 0 ≤ 1 ∧ 1 ≤ byteAt r.payload 1
      ∧ byteAt r.payload 1 ≤ 5 ∧ leAt r.payload 8 8 % 8 = 0 ∧ leAt r.payload 16 8 % 8 = 0
      ∧ leAt r.payload 8 8 < 2 ^ 32 ∧ leAt r.payload 16 8 < 2 ^ 32
      ∧ (List.find? (fun w => !s.bit (HIC_FWw_BASE_EN w)) (List.range 64) = some n) ∧ DcpRuns s slot.val 516 r) :=
  ⟨⟨withRun (registry 3) (dcpRun 0x200 (connPay 0x1001 1 0 2 3 0x101)), 0, dcpRun 0x200 (connPay 0x1001 1 0 2 3 0x101),
     by unfold DcpRuns; decide +kernel⟩,
   ⟨withRun (registry 3) (dcpRun 0x201 (leBytes 4 9)), 0, dcpRun 0x201 (leBytes 4 9), by unfold DcpRuns; decide +kernel⟩,
   ⟨withRun (registry 3) (dcpRun 0x201 (leBytes 4 1)), 0, dcpRun 0x201 (leBytes 4 1), by unfold DcpRuns; decide +kernel⟩,
   ⟨withRun (registry 3) (dcpRun 0x203 (leBytes 2 9 ++ leBytes 6 0 ++ List.replicate 8 9)), 0, dcpRun 0x203 (leBytes 2 9
     ++ leBytes 6 0 ++ List.replicate 8 9), by unfold DcpRuns; decide +kernel⟩,
   ⟨withRun (registry 3) (dcpRun 0x203 (leBytes 2 1 ++ leBytes 6 0 ++ List.replicate 24 9)), 0, dcpRun 0x203 (leBytes 2 1
     ++ leBytes 6 0 ++ List.replicate 24 9), ⟨1, 0, 2, 3, 0x100⟩, by unfold DcpRuns; decide +kernel⟩,
   ⟨withRun (registry 3) (dcpRun 0x204 (grantPay 2 1 0 0)), 0, dcpRun 0x204 (grantPay 2 1 0 0),
     by unfold DcpRuns; decide +kernel⟩,
   ⟨withRun (allWindows (registry 3)) (dcpRun 0x204 (grantPay 1 5 0x400000 0x500000)), 0, dcpRun 0x204 (grantPay 1 5
     0x400000 0x500000), by unfold DcpRuns; decide +kernel⟩,
   ⟨withRun (registry 3) (dcpRun 0x204 (grantPay 1 5 0x400000 0x500000)), 0, dcpRun 0x204 (grantPay 1 5 0x400000
     0x500000), 1, by unfold DcpRuns; decide +kernel⟩⟩

theorem witness_commandsThatConfigure_4 :
    (∃ (s : State) (slot : Fin 25) (r : DcpRun), leAt r.payload 0 4 < 64
      ∧ s.bit (HIC_FWw_BASE_EN (leAt r.payload 0 4)) = true ∧ DcpRuns s slot.val 517 r) ∧
    (∃ (s : State) (slot : Fin 25) (r : DcpRun), leAt r.payload 0 4 < 64
      ∧ s.bit (HIC_FWw_BASE_EN (leAt r.payload 0 4)) = false ∧ DcpRuns s slot.val 517 r) ∧
    (∃ (s : State) (slot : Fin 25) (r : DcpRun) (p : Fin 6), byteAt r.payload 0 = p.val ∧ leAt r.payload 2 2 ≤ 255
      ∧ leAt r.payload 2 2 + leAt r.payload 4 2 ≤ 256
      ∧ s.sliceFits p.val (leAt r.payload 2 2) (leAt r.payload 4 2) = true ∧ s.mode = 3 ∧ DcpRuns s slot.val 518 r) ∧
    (∃ (s : State) (slot : Fin 25) (r : DcpRun) (p : Fin 6), byteAt r.payload 0 = p.val ∧ leAt r.payload 2 2 ≤ 255
      ∧ leAt r.payload 2 2 + leAt r.payload 4 2 ≤ 256
      ∧ s.sliceFits p.val (leAt r.payload 2 2) (leAt r.payload 4 2) = false ∧ DcpRuns s slot.val 518 r) ∧
    (∃ (s : State) (slot : Fin 25) (r : DcpRun), s.crp.mramStop = true ∧ DcpRuns s slot.val 519 r) ∧
    (∃ (s : State) (slot : Fin 25) (r : DcpRun), s.crp.mramStop = false ∧ DcpRuns s slot.val 519 r) :=
  ⟨⟨withRun (registry 3) (dcpRun 0x205 (leBytes 8 0)), 0, dcpRun 0x205 (leBytes 8 0), by unfold DcpRuns; decide +kernel⟩,
   ⟨withRun (registry 3) (dcpRun 0x205 (leBytes 8 63)), 0, dcpRun 0x205 (leBytes 8 63),
     by unfold DcpRuns; decide +kernel⟩,
   ⟨withRun (registry 3) (dcpRun 0x206 (toBytes [1, 0] ++ leBytes 2 255 ++ leBytes 4 1)), 0, dcpRun 0x206 (toBytes [1, 0]
     ++ leBytes 2 255 ++ leBytes 4 1), 1, by unfold DcpRuns; decide +kernel⟩,
   ⟨withRun (registry 3) (dcpRun 0x206 (toBytes [0, 0] ++ leBytes 2 3 ++ leBytes 4 5)), 0, dcpRun 0x206 (toBytes [0, 0]
     ++ leBytes 2 3 ++ leBytes 4 5), 0, by unfold DcpRuns; decide +kernel⟩,
   ⟨withRun ((registry 7).putCrp { (registry 7).crp with mramStop := true }) (dcpRun 0x207 []), 0, dcpRun 0x207 [],
     by unfold DcpRuns; decide +kernel⟩,
   ⟨withRun (registry 3) (dcpRun 0x207 []), 0, dcpRun 0x207 [], by unfold DcpRuns; decide +kernel⟩⟩

theorem witness_commandsOfUnits_1 :
    (∃ (s : State) (slot : Fin 25) (r : DcpRun), s.domOn 6 = false ∧ DcpRuns s slot.val 768 r) ∧
    (∃ (s : State) (slot : Fin 25) (r : DcpRun), s.domOn 6 = true
      ∧ (((batchOps r.payload).all fun o => o.fst == 0 && decide (o.snd.table ≤ 6) && decide (o.snd.op ≤ 3)) = true)
      ∧ ((s.swc.tables.applyAll (List.map (fun o => o.snd) (batchOps r.payload)) 0).fst ≠ 0)
      ∧ DcpRuns s slot.val 768 r) ∧
    (∃ (s : State) (slot : Fin 25) (r : DcpRun), s.domOn 6 = true
      ∧ (((batchOps r.payload).all fun o => o.fst == 0 && decide (o.snd.table ≤ 6) && decide (o.snd.op ≤ 3)) = true)
      ∧ ((s.swc.tables.applyAll (List.map (fun o => o.snd) (batchOps r.payload)) 0).fst = 0)
      ∧ ((s.setSwc { s.swc with batch := List.map (fun o => o.snd) (batchOps r.payload) }).batchHeld = true)
      ∧ DcpRuns s slot.val 768 r) ∧
    (∃ (s : State) (slot : Fin 25) (r : DcpRun), s.domOn 6 = true
      ∧ (((batchOps r.payload).all fun o => o.fst == 0 && decide (o.snd.table ≤ 6) && decide (o.snd.op ≤ 3)) = true)
      ∧ ((s.swc.tables.applyAll (List.map (fun o => o.snd) (batchOps r.payload)) 0).fst = 0)
      ∧ (¬(s.setSwc { s.swc with batch := List.map (fun o => o.snd) (batchOps r.payload) }).batchHeld = true)
      ∧ DcpRuns s slot.val 768 r) ∧
    (∃ (s : State) (slot : Fin 25) (r : DcpRun) (n : Fin 24), s.domOn (engDom n.val) = true ∧ s.domOn 2 = true
      ∧ byteAt r.payload 0 = n.val ∧ s.engState n.val ≠ 0 ∧ DcpRuns s slot.val 769 r) ∧
    (∃ (s : State) (slot : Fin 25) (r : DcpRun) (n : Fin 24), s.domOn (engDom n.val) = true ∧ s.domOn 2 = true
      ∧ byteAt r.payload 0 = n.val ∧ s.engState n.val = 0 ∧ s.bit (PEA_Rn_CTL_EN n.val) = false
      ∧ byteAt r.payload 1 ≤ 3 ∧ byteAt r.payload 20 + byteAt r.payload 21 ≤ 64
      ∧ (∀ (o : Nat), o ∈ [4, 8, 12, 16] → leAt r.payload o 4 % 8 = 0 ∧ leAt r.payload o 4 < 2 ^ 22)
      ∧ leAt r.payload 16 4 ≤ 1048576 ∧ DcpRuns s slot.val 769 r) ∧
    (∃ (s : State) (slot : Fin 25) (r : DcpRun) (g : Fin 4), s.domOn 8 = true ∧ byteAt r.payload 0 = g.val
      ∧ 1 ≤ byteAt r.payload 1 ∧ byteAt r.payload 1 ≤ 31 ∧ beAt r.payload 4 2 ≠ 0
      ∧ (∀ (q : CbReq), q ∈ (s.seg g.val).reqs → q.slot ≠ slot.val) ∧ DcpRuns s slot.val 770 r) :=
  ⟨⟨withRun (netOff) (dcpRun 0x300 (swcBatch [swcOp 0 1 3 [1, 2], swcOp 2 1 7 [9]])), 0, dcpRun 0x300 (swcBatch [swcOp 0
     1 3 [1, 2], swcOp 2 1 7 [9]]), by unfold DcpRuns; decide +kernel⟩,
   ⟨withRun (heldBatch) (dcpRun 0x300 (swcBatch [swcOp 2 1 5000 [1]])), 0, dcpRun 0x300 (swcBatch [swcOp 2 1 5000 [1]]),
     by unfold DcpRuns; decide +kernel⟩,
   ⟨withRun (heldBatch) (dcpRun 0x300 (swcBatch [swcOp 0 1 3 [1, 2], swcOp 2 1 7 [9]])), 0, dcpRun 0x300 (swcBatch [swcOp
     0 1 3 [1, 2], swcOp 2 1 7 [9]]), by unfold DcpRuns; decide +kernel⟩,
   ⟨withRun (serving 3) (dcpRun 0x300 (swcBatch [swcOp 0 1 3 [1, 2], swcOp 2 1 7 [9]])), 0, dcpRun 0x300 (swcBatch [swcOp
     0 1 3 [1, 2], swcOp 2 1 7 [9]]), by unfold DcpRuns; decide +kernel⟩,
   ⟨withRun (((serving 7).wr (PEA_Rn_STAT_STATE 0) 2).setDom 7 0) (dcpRun 0x301 (rookPay 0 2)), 0, dcpRun 0x301 (rookPay
     0 2), 0, by unfold DcpRuns; decide +kernel⟩,
   ⟨withRun (heldBatch) (dcpRun 0x301 (rookPay 0 2)), 0, dcpRun 0x301 (rookPay 0 2), 0,
     by unfold DcpRuns; decide +kernel⟩,
   ⟨withRun (heldBatch) (dcpRun 0x302 (toBytes [0, 1, 0, 0, 5, 6, 7, 8])), 0, dcpRun 0x302 (toBytes [0, 1, 0, 0, 5, 6, 7,
     8]), 0, by unfold DcpRuns; decide +kernel⟩⟩

theorem witness_commandsOfUnits_2 :
    (∃ (s : State) (slot : Fin 25) (r : DcpRun), s.domOn 8 = true
      ∧ (3 < byteAt r.payload 0 ∨ byteAt r.payload 1 = 0 ∨ 31 < byteAt r.payload 1 ∨ beAt r.payload 4 2 = 0)
      ∧ DcpRuns s slot.val 770 r) ∧
    (∃ (s : State) (slot : Fin 25) (r : DcpRun), byteAt r.payload 0 ≤ 1 ∧ DcpRuns s slot.val 772 r) ∧
    (∃ (s : State) (slot : Fin 25) (r : DcpRun), 1 < byteAt r.payload 0 ∧ DcpRuns s slot.val 772 r) ∧
    (∃ (s : State) (slot : Fin 25) (r : DcpRun), byteAt r.payload 0 ≤ 63 ∧ byteAt r.payload 1 ≤ 15
      ∧ leAt r.payload 16 2 ≤ 4094 ∧ DcpRuns s slot.val 773 r) ∧
    (∃ (s : State) (slot : Fin 25) (r : DcpRun) (k : Fin 64), s.domOn 7 = true ∧ byteAt r.payload 0 = k.val
      ∧ s.mode ≠ 3 ∧ BitVec.ofNat 64 (leAt r.payload 8 8) ≠ s.reg (ACE_AXk_CFG k.val) ∧ DcpRuns s slot.val 1024 r) ∧
    (∃ (s : State) (slot : Fin 25) (r : DcpRun) (k : Fin 64) (i : Nat), s.domOn 7 = true ∧ byteAt r.payload 0 = k.val
      ∧ s.mode = 3
      ∧ (bitsOf (BitVec.ofNat 64 (leAt r.payload 24 8)) 31 0 % 8 = 0 ∧ 128 ≤ bitsOf (BitVec.ofNat 64 (leAt r.payload 8
        8)) 16 0 ∧ 128 ≤ bitsOf (BitVec.ofNat 64 (leAt r.payload 16 8)) 48 32 ∧ regTakes (ACE_AXk_CFG k.val)
        (BitVec.ofNat 64 (leAt r.payload 8 8)) = true ∧ regTakes (ACE_AXk_IO k.val) (BitVec.ofNat 64 (leAt r.payload
        16 8)) = true ∧ regTakes (ACE_AXk_TIME k.val) (BitVec.ofNat 64 (leAt r.payload 24 8)) = true ∧ regTakes
        (ACE_AXk_STOP k.val) (BitVec.ofNat 64 (leAt r.payload 32 8)) = true)
      ∧ bitsOf (BitVec.ofNat 64 (leAt r.payload 8 8)) 63 63 = 1
      ∧ (BitVec.ofNat 64 (leAt r.payload 8 8) ≠ s.reg (ACE_AXk_CFG k.val) ∨ BitVec.ofNat 64 (leAt r.payload 16 8) ≠
        s.reg (ACE_AXk_IO k.val))
      ∧ s.itemConflict k.val (BitVec.ofNat 64 (leAt r.payload 16 8)) = some i ∧ DcpRuns s slot.val 1024 r) ∧
    (∃ (s : State) (slot : Fin 25) (r : DcpRun) (k : Fin 64), s.domOn 7 = true ∧ byteAt r.payload 0 = k.val
      ∧ s.mode = 3
      ∧ (bitsOf (BitVec.ofNat 64 (leAt r.payload 24 8)) 31 0 % 8 = 0 ∧ 128 ≤ bitsOf (BitVec.ofNat 64 (leAt r.payload 8
        8)) 16 0 ∧ 128 ≤ bitsOf (BitVec.ofNat 64 (leAt r.payload 16 8)) 48 32 ∧ regTakes (ACE_AXk_CFG k.val)
        (BitVec.ofNat 64 (leAt r.payload 8 8)) = true ∧ regTakes (ACE_AXk_IO k.val) (BitVec.ofNat 64 (leAt r.payload
        16 8)) = true ∧ regTakes (ACE_AXk_TIME k.val) (BitVec.ofNat 64 (leAt r.payload 24 8)) = true ∧ regTakes
        (ACE_AXk_STOP k.val) (BitVec.ofNat 64 (leAt r.payload 32 8)) = true)
      ∧ (bitsOf (BitVec.ofNat 64 (leAt r.payload 8 8)) 63 63 = 0 ∨ s.bit (ACE_AXk_CFG_EN k.val) = true ∧
        s.itemConflict k.val (BitVec.ofNat 64 (leAt r.payload 16 8)) = none)
      ∧ DcpRuns s slot.val 1024 r) :=
  ⟨⟨withRun (heldBatch) (dcpRun 0x302 (toBytes [4, 31, 0, 0, 5, 6, 7, 8])), 0, dcpRun 0x302 (toBytes [4, 31, 0, 0, 5, 6,
     7, 8]), by unfold DcpRuns; decide +kernel⟩,
   ⟨withRun (heldBatch) (dcpRun 0x304 (toBytes [1] ++ List.replicate 31 7)), 0, dcpRun 0x304 (toBytes [1] ++
     List.replicate 31 7), by unfold DcpRuns; decide +kernel⟩,
   ⟨withRun (heldBatch) (dcpRun 0x304 (toBytes [2] ++ List.replicate 31 7)), 0, dcpRun 0x304 (toBytes [2] ++
     List.replicate 31 7), by unfold DcpRuns; decide +kernel⟩,
   ⟨withRun (heldBatch) (dcpRun 0x305 (toBytes [63, 15] ++ List.replicate 22 7)), 0, dcpRun 0x305 (toBytes [63, 15] ++
     List.replicate 22 7), by unfold DcpRuns; decide +kernel⟩,
   ⟨withRun (heldBatch) (dcpRun 0x400 (axisPay 0 0x123)), 0, dcpRun 0x400 (axisPay 0 0x123), 0,
     by unfold DcpRuns; decide +kernel⟩,
   ⟨withRun ((serving 3).putDcp { (serving 3).dcp with conns := [(1, some ⟨1, 0, 2, 3, 0x100⟩)] }) (dcpRun 0x400 (axisPay
     0 0x8000000000000123)), 0, dcpRun 0x400 (axisPay 0 0x8000000000000123), 0, 1, by unfold DcpRuns; decide +kernel⟩,
   ⟨withRun (serving 3) (dcpRun 0x400 (axisPay 0 0x123)), 0, dcpRun 0x400 (axisPay 0 0x123), 0,
     by unfold DcpRuns; decide +kernel⟩⟩

theorem witness_commandsOfUnits_3 :
    (∃ (s : State) (slot : Fin 25) (r : DcpRun) (k : Fin 64) (first : Nat) (count : Nat), s.domOn 7 = true
      ∧ byteAt r.payload 0 = k.val ∧ byteAt r.payload 1 = 0 ∧ leAt r.payload 4 4 = first
      ∧ r.payload.length = 8 + 8 * count ∧ first + count ≤ 49 ∧ s.bankLocked k.val = true ∧ DcpRuns s slot.val 1026 r) ∧
    (∃ (s : State) (slot : Fin 25) (r : DcpRun) (k : Fin 64) (first : Nat) (count : Nat), s.domOn 7 = true
      ∧ byteAt r.payload 0 = k.val ∧ byteAt r.payload 1 = 0 ∧ leAt r.payload 4 4 = first
      ∧ r.payload.length = 8 + 8 * count ∧ first + count ≤ 49 ∧ s.bankLocked k.val = false
      ∧ DcpRuns s slot.val 1026 r) ∧
    (∃ (s : State) (slot : Fin 25) (r : DcpRun), s.domOn 7 = true ∧ s.bit ACE_BANK_STAT_APPLY_PENDING = false
      ∧ DcpRuns s slot.val 1027 r) ∧
    (∃ (s : State) (slot : Fin 25) (r : DcpRun), s.domOn 7 = true ∧ s.bit ACE_BANK_STAT_APPLY_PENDING = true
      ∧ s.ace.applyReply ≠ some slot.val ∧ DcpRuns s slot.val 1027 r) ∧
    (∃ (s : State) (slot : Fin 25) (r : DcpRun) (k : Fin 64), s.domOn 7 = true ∧ byteAt r.payload 0 = k.val
      ∧ s.bit ACE_BANK_STAT_COPY_BUSY = false ∧ s.bit ACE_BANK_STAT_APPLY_PENDING = false ∧ DcpRuns s slot.val 1028 r) ∧
    (∃ (s : State) (slot : Fin 25) (r : DcpRun), s.domOn 1 = true ∧ s.sfiRuns = false ∧ DcpRuns s slot.val 1280 r) :=
  ⟨⟨withRun (((serving 7).wrB ACE_BANK_STAT_APPLY_PENDING true).putAce
     { (serving 7).ace with mask := 1, applyReply := some 3 }) (dcpRun 0x402 (toBytes [0, 0, 0, 0] ++ leBytes 4 47 ++
     leBytes 8 9 ++ leBytes 8 (2 ^ 64-1))), 0, dcpRun 0x402 (toBytes [0, 0, 0, 0] ++ leBytes 4 47 ++ leBytes 8 9 ++
     leBytes 8 (2 ^ 64-1)), 0, 47, 2, by unfold DcpRuns; decide +kernel⟩,
   ⟨withRun (heldBatch) (dcpRun 0x402 (toBytes [0, 0, 0, 0] ++ leBytes 4 47 ++ leBytes 8 9 ++ leBytes 8 (2 ^ 64-1))), 0,
     dcpRun 0x402 (toBytes [0, 0, 0, 0] ++ leBytes 4 47 ++ leBytes 8 9 ++ leBytes 8 (2 ^ 64-1)), 0, 47, 2,
     by unfold DcpRuns; decide +kernel⟩,
   ⟨withRun (heldBatch) (dcpRun 0x403 (leBytes 8 5)), 0, dcpRun 0x403 (leBytes 8 5), by unfold DcpRuns; decide +kernel⟩,
   ⟨withRun (((serving 7).wrB ACE_BANK_STAT_APPLY_PENDING true).putAce
     { (serving 7).ace with mask := 1, applyReply := some 3 }) (dcpRun 0x403 (leBytes 8 5)), 0, dcpRun 0x403 (leBytes
     8 5), by unfold DcpRuns; decide +kernel⟩,
   ⟨withRun (heldBatch) (dcpRun 0x404 (leBytes 4 0)), 0, dcpRun 0x404 (leBytes 4 0), 0,
     by unfold DcpRuns; decide +kernel⟩,
   ⟨withRun (heldBatch) (dcpRun 0x500 (toBytes [1, 2, 3, 4, 5, 6, 7])), 0, dcpRun 0x500 (toBytes [1, 2, 3, 4, 5, 6, 7]),
     by unfold DcpRuns; decide +kernel⟩⟩

theorem witness_commandsOfMaintenance_1 :
    (∃ (s : State) (slot : Fin 25) (r : DcpRun) (n : Fin 24), leAt r.payload 0 4 + leAt r.payload 4 4 ≤ 41943040
      ∧ engineList (leAt r.payload 8 3) = [n.val] ∧ s.engState n.val ≠ 0 ∧ DcpRuns s slot.val 1536 r) ∧
    (∃ (s : State) (slot : Fin 25) (r : DcpRun) (n : Fin 24) (signed : Bool) (h : List Byte),
      leAt r.payload 0 4 + leAt r.payload 4 4 ≤ 41943040 ∧ engineList (leAt r.payload 8 3) = [n.val]
      ∧ s.engState n.val = 0 ∧ s.domOn (engDom n.val) = true
      ∧ s.sramReadBytes true (leAt r.payload 0 4) (leAt r.payload 4 4) = (h, false, s)
      ∧ s.sporeVerify h (leAt r.payload 4 4) signed ≠ 0 ∧ DcpRuns s slot.val 1536 r) ∧
    (∃ (s : State) (slot : Fin 25) (r : DcpRun) (n : Fin 24) (signed : Bool) (h : List Byte),
      leAt r.payload 0 4 + leAt r.payload 4 4 ≤ 41943040 ∧ engineList (leAt r.payload 8 3) = [n.val]
      ∧ s.engState n.val = 0 ∧ s.domOn (engDom n.val) = true
      ∧ s.sramReadBytes true (leAt r.payload 0 4) (leAt r.payload 4 4) = (h, false, s)
      ∧ s.sporeVerify h (leAt r.payload 4 4) signed = 0 ∧ sporeRooks h = 1 ∧ DcpRuns s slot.val 1536 r) ∧
    (∃ (s : State) (slot : Fin 25) (r : DcpRun), leAt r.payload 0 4 ≤ 1 ∧ leAt r.payload 12 4 ≤ 65536
      ∧ leAt r.payload 4 4 + leAt r.payload 12 4 ≤ 6291456 ∧ leAt r.payload 8 4 + leAt r.payload 12 4 ≤ 41943040
      ∧ leAt r.payload 0 4 = s.boot.active ∧ DcpRuns s slot.val 1537 r) ∧
    (∃ (s : State) (slot : Fin 25) (r : DcpRun), leAt r.payload 0 4 ≤ 1 ∧ leAt r.payload 12 4 ≤ 65536
      ∧ leAt r.payload 4 4 + leAt r.payload 12 4 ≤ 6291456 ∧ leAt r.payload 8 4 + leAt r.payload 12 4 ≤ 41943040
      ∧ leAt r.payload 0 4 ≠ s.boot.active ∧ s.crp.mramStop = true ∧ DcpRuns s slot.val 1537 r) ∧
    (∃ (s : State) (slot : Fin 25) (r : DcpRun) (b : List Byte), leAt r.payload 0 4 ≤ 1 ∧ leAt r.payload 12 4 ≤ 65536
      ∧ leAt r.payload 4 4 + leAt r.payload 12 4 ≤ 6291456 ∧ leAt r.payload 8 4 + leAt r.payload 12 4 ≤ 41943040
      ∧ leAt r.payload 0 4 ≠ s.boot.active ∧ s.crp.mramStop = false
      ∧ s.sramReadBytes true (leAt r.payload 8 4) (leAt r.payload 12 4) = (b, false, s) ∧ DcpRuns s slot.val 1537 r) ∧
    (∃ (s : State) (slot : Fin 25) (r : DcpRun) (signed : Bool), leAt r.payload 0 4 ≤ 1
      ∧ s.imageVerify (memBytes s.mram (leAt r.payload 0 4 * 6291456) 512) signed ≠ 0 ∧ DcpRuns s slot.val 1538 r) :=
  ⟨⟨withRun ((withImages ((serving 3).wr (PEA_Rn_STAT_STATE 0) 2)).setDom 5 0) (dcpRun 0x600 (leBytes 4 0x1000 ++ leBytes
     4 sporeImage.length ++ leBytes 4 1)), 0, dcpRun 0x600 (leBytes 4 0x1000 ++ leBytes 4 sporeImage.length ++ leBytes
     4 1), 0, by unfold DcpRuns; decide +kernel⟩,
   ⟨withRun (withImages (serving 3)) (dcpRun 0x600 (leBytes 4 0x1000 ++ leBytes 4 sporeImage.length ++ leBytes 4 1)), 0,
     dcpRun 0x600 (leBytes 4 0x1000 ++ leBytes 4 sporeImage.length ++ leBytes 4 1), 0, false, sporeImage,
     by unfold DcpRuns; decide +kernel⟩,
   ⟨withRun (withImages (serving 3)) (dcpRun 0x600 (leBytes 4 0x1000 ++ leBytes 4 sporeImage.length ++ leBytes 4 1)), 0,
     dcpRun 0x600 (leBytes 4 0x1000 ++ leBytes 4 sporeImage.length ++ leBytes 4 1), 0, true, sporeImage,
     by unfold DcpRuns; decide +kernel⟩,
   ⟨withRun (withImages (serving 3)) (dcpRun 0x601 (leBytes 4 0 ++ leBytes 4 0x100 ++ leBytes 4 0x1000 ++ leBytes 4 16)),
     0, dcpRun 0x601 (leBytes 4 0 ++ leBytes 4 0x100 ++ leBytes 4 0x1000 ++ leBytes 4 16),
     by unfold DcpRuns; decide +kernel⟩,
   ⟨withRun (withImages ((serving 3).putCrp { (serving 3).crp with mramStop := true })) (dcpRun 0x601 (leBytes 4 1 ++
     leBytes 4 0x100 ++ leBytes 4 0x1000 ++ leBytes 4 16)), 0, dcpRun 0x601 (leBytes 4 1 ++ leBytes 4 0x100 ++ leBytes
     4 0x1000 ++ leBytes 4 16), by unfold DcpRuns; decide +kernel⟩,
   ⟨withRun (withImages (serving 3)) (dcpRun 0x601 (leBytes 4 1 ++ leBytes 4 0x100 ++ leBytes 4 0x1000 ++ leBytes 4 16)),
     0, dcpRun 0x601 (leBytes 4 1 ++ leBytes 4 0x100 ++ leBytes 4 0x1000 ++ leBytes 4 16), sporeImage.take 16,
     by unfold DcpRuns; decide +kernel⟩,
   ⟨withRun (withImages (serving 3)) (dcpRun 0x602 (leBytes 4 1)), 0, dcpRun 0x602 (leBytes 4 1), false,
     by unfold DcpRuns; decide +kernel⟩⟩

theorem witness_commandsOfMaintenance_2 :
    (∃ (s : State) (slot : Fin 25) (r : DcpRun) (signed : Bool), leAt r.payload 0 4 ≤ 1
      ∧ s.imageVerify (memBytes s.mram (leAt r.payload 0 4 * 6291456) 512) signed = 0 ∧ DcpRuns s slot.val 1538 r) ∧
    (∃ (s : State) (slot : Fin 25) (r : DcpRun), bistUnit (leAt r.payload 0 4) = none ∧ DcpRuns s slot.val 1794 r) ∧
    (∃ (s : State) (slot : Fin 25) (r : DcpRun) (nf : BitVec 32), 1 ≤ leAt r.payload 0 4 ∧ leAt r.payload 0 4 ≤ 6
      ∧ nf = 0 ∧ DcpRuns s slot.val 1794 r) ∧
    (∃ (s : State) (slot : Fin 25) (r : DcpRun) (nf : BitVec 32), 1 ≤ leAt r.payload 0 4 ∧ leAt r.payload 0 4 ≤ 6
      ∧ nf ≠ 0 ∧ DcpRuns s slot.val 1794 r) ∧
    (∃ (s : State) (slot : Fin 25) (r : DcpRun), 256 ≤ leAt r.payload 0 4 ∧ bistUnit (leAt r.payload 0 4) ≠ none
      ∧ s.mode ≠ 11 ∧ DcpRuns s slot.val 1794 r) ∧
    (∃ (s : State) (slot : Fin 25) (r : DcpRun), byteAt r.payload 0 ≤ byteAt r.payload 1 ∧ byteAt r.payload 1 < 76
      ∧ byteAt r.payload 3 = 0 ∧ s.cyclicMode = false
      ∧ (∀ (b : Nat), byteAt r.payload 0 ≤ b → b ≤ byteAt r.payload 1 → s.bankState b = 1)
      ∧ DcpRuns s slot.val 1795 r) ∧
    (∃ (s : State) (slot : Fin 25) (r : DcpRun), s.domOn 6 = true
      ∧ (calReg (leAt r.payload 0 2) (byteAt r.payload 2) = none ∨ calFits (leAt r.payload 0 2) (leAt r.payload 8 8) =
        false)
      ∧ DcpRuns s slot.val 2049 r) :=
  ⟨⟨withRun (withImages (serving 3)) (dcpRun 0x602 (leBytes 4 1)), 0, dcpRun 0x602 (leBytes 4 1), true,
     by unfold DcpRuns; decide +kernel⟩,
   ⟨withRun (withImages (serving 3)) (dcpRun 0x702 (leBytes 4 0)), 0, dcpRun 0x702 (leBytes 4 0),
     by unfold DcpRuns; decide +kernel⟩,
   ⟨withRun (withImages (serving 3)) (dcpRun 0x702 (leBytes 4 3)), 0, dcpRun 0x702 (leBytes 4 3), 0,
     by unfold DcpRuns; decide +kernel⟩,
   ⟨withRun (withImages (serving 3)) (dcpRun 0x702 (leBytes 4 3)), 0, dcpRun 0x702 (leBytes 4 3), 5,
     by unfold DcpRuns; decide +kernel⟩,
   ⟨withRun (withImages (serving 3)) (dcpRun 0x702 (leBytes 4 0x101)), 0, dcpRun 0x702 (leBytes 4 0x101),
     by unfold DcpRuns; decide +kernel⟩,
   ⟨withRun (withImages (serving 3)) (dcpRun 0x703 (toBytes [3, 7, 0, 0])), 0, dcpRun 0x703 (toBytes [3, 7, 0, 0]),
     by unfold DcpRuns; decide +kernel⟩,
   ⟨withRun (withImages (serving 3)) (dcpRun 0x801 (leBytes 2 1 ++ toBytes [0, 0, 0, 0, 0, 0] ++ leBytes 8 1073743)), 0,
     dcpRun 0x801 (leBytes 2 1 ++ toBytes [0, 0, 0, 0, 0, 0] ++ leBytes 8 1073743), by unfold DcpRuns; decide +kernel⟩⟩

theorem witness_commandsOfMaintenance_3 :
    (∃ (s : State) (slot : Fin 25) (r : DcpRun), s.domOn 6 = true
      ∧ calReg (leAt r.payload 0 2) (byteAt r.payload 2) ≠ none
      ∧ calFits (leAt r.payload 0 2) (leAt r.payload 8 8) = true ∧ s.calLocked (leAt r.payload 0 2) = true
      ∧ DcpRuns s slot.val 2049 r) ∧
    (∃ (s : State) (slot : Fin 25) (r : DcpRun) (a : Nat), s.domOn 6 = true
      ∧ calReg (leAt r.payload 0 2) (byteAt r.payload 2) = some a
      ∧ calFits (leAt r.payload 0 2) (leAt r.payload 8 8) = true ∧ s.calLocked (leAt r.payload 0 2) = false
      ∧ s.crp.mramStop = false ∧ DcpRuns s slot.val 2049 r) ∧
    (∃ (s : State) (slot : Fin 25) (r : DcpRun), s.domOn 6 = true ∧ s.crp.mramStop = false
      ∧ DcpRuns s slot.val 2050 r) ∧
    (∃ (s : State) (slot : Fin 25) (r : DcpRun), leAt r.payload 0 4 % 4096 = 0 ∧ leAt r.payload 0 4 < 1048576
      ∧ s.factoryMay (leAt r.payload 0 4) = true ∧ s.boot.factoryWritten.contains (leAt r.payload 0 4 / 4096) = true
      ∧ DcpRuns s slot.val 2051 r) ∧
    (∃ (s : State) (slot : Fin 25) (r : DcpRun), leAt r.payload 0 4 % 4096 = 0 ∧ leAt r.payload 0 4 < 1048576
      ∧ s.factoryMay (leAt r.payload 0 4) = true ∧ s.boot.factoryWritten.contains (leAt r.payload 0 4 / 4096) = false
      ∧ s.crp.mramStop = false ∧ DcpRuns s slot.val 2051 r) ∧
    (∃ (s : State) (slot : Fin 25) (r : DcpRun), leAt r.payload 0 4 % 4096 ≠ 0 ∧ DcpRuns s slot.val 2051 r) :=
  ⟨⟨withRun (withImages (((serving 3).putBoot { (serving 3).boot with factoryWritten := [0x84] }).wrB (cUCTL_LOCK uNTU)
     true)) (dcpRun 0x801 (leBytes 2 2 ++ toBytes [3, 0, 0, 0, 0, 0] ++ leBytes 8 77)), 0, dcpRun 0x801 (leBytes 2 2
     ++ toBytes [3, 0, 0, 0, 0, 0] ++ leBytes 8 77), by unfold DcpRuns; decide +kernel⟩,
   ⟨withRun (withImages (serving 3)) (dcpRun 0x801 (leBytes 2 2 ++ toBytes [3, 0, 0, 0, 0, 0] ++ leBytes 8 77)), 0,
     dcpRun 0x801 (leBytes 2 2 ++ toBytes [3, 0, 0, 0, 0, 0] ++ leBytes 8 77), NTU_PORTp_LAT 3,
     by unfold DcpRuns; decide +kernel⟩,
   ⟨withRun (withImages (serving 3)) (dcpRun 0x802 []), 0, dcpRun 0x802 [], by unfold DcpRuns; decide +kernel⟩,
   ⟨withRun (withImages (((serving 3).putBoot { (serving 3).boot with factoryWritten := [0x84] }).wrB (cUCTL_LOCK uNTU)
     true)) (dcpRun 0x803 (leBytes 8 0x84000 ++ toBytes [1, 2, 3, 4])), 0, dcpRun 0x803 (leBytes 8 0x84000 ++ toBytes
     [1, 2, 3, 4]), by unfold DcpRuns; decide +kernel⟩,
   ⟨withRun (withImages (serving 3)) (dcpRun 0x803 (leBytes 8 0x84000 ++ toBytes [1, 2, 3, 4])), 0, dcpRun 0x803 (leBytes
     8 0x84000 ++ toBytes [1, 2, 3, 4]), by unfold DcpRuns; decide +kernel⟩,
   ⟨withRun (withImages (serving 3)) (dcpRun 0x803 (leBytes 8 0x84001 ++ toBytes [1, 2, 3, 4])), 0, dcpRun 0x803 (leBytes
     8 0x84001 ++ toBytes [1, 2, 3, 4]), by unfold DcpRuns; decide +kernel⟩⟩

theorem witness_resets :
    (∃ (s : State), s.boot.porHeld = true) ∧
    (∃ (s : State), s.boot.porHeld = false ∧ s.boot.sysrstHeld = false ∧ s.bit SYSCTL_RST_STAT_SYSRST_MASKED = false) ∧
    (∃ (s : State), s.bit SYSCTL_RST_STAT_SYSRST_MASKED = true) ∧
    (∃ (s : State), s.boot.porHeld = false ∧ s.boot.sysrstHeld = true) ∧
    (∃ (s : State) (last : Nat), last < 8 ∧ s.boot.resetDue = some last) :=
  ⟨⟨bootOf (fun b => { b with porHeld := true }) (commissioned 3), by decide +kernel⟩,
   ⟨commissioned 4, by decide +kernel⟩,
   ⟨(commissioned 7).wrB SYSCTL_RST_STAT_SYSRST_MASKED true, by decide +kernel⟩,
   ⟨bootOf (fun b => { b with sysrstHeld := true }) (commissioned 3), by decide +kernel⟩,
   ⟨bootOf (fun b => { b with resetDue := some 5 }) (regsSet (commissioned 7)), 5, by decide +kernel⟩⟩

theorem witness_starts :
    (∃ (s : State), (s.boot.nextKind = none ∨ s.boot.porHeld = true ∨ s.boot.sysrstHeld = true)) ∧
    (∃ (s : State) (k : Nat), s.boot.nextKind = some k
      ∧ (s.boot.porHeld = false ∧ s.boot.sysrstHeld = false ∧ s.boot.running = false ∧ s.boot.romServes = false)
      ∧ k ≤ 4) ∧
    (∃ (s : State), s.boot.nextKind = some 0
      ∧ (s.boot.porHeld = false ∧ s.boot.sysrstHeld = false ∧ s.boot.running = false ∧ s.boot.romServes = false)
      ∧ (s.boot.lifeCycle = 2 ∨ s.boot.lifeCycle = 3) ∧ s.boot.journal = [] ∧ s.slotState s.boot.preferred = 2
      ∧ s.slotVerify s.boot.preferred = 0 ∧ s.dcp.stored = none) ∧
    (∃ (s : State), s.boot.running = true ∧ s.boot.step = 1 ∧ s.boot.kind = 0) ∧
    (∃ (s : State), s.boot.running = true ∧ s.boot.step = 1 ∧ s.boot.kind = 3) ∧
    (∃ (s : State), s.boot.halted ≠ none) :=
  ⟨⟨commissioned 4, by decide +kernel⟩,
   ⟨State.reset, 0, by decide +kernel⟩,
   ⟨bootOf (fun b => { b with lifeCycle := 2, slotA := 2 }) State.reset, by decide +kernel⟩,
   ⟨bootOf (fun b => { b with running := true, step := 1, kind := 0 }) State.reset, by decide +kernel⟩,
   ⟨bootOf (fun b => { b with running := true, step := 1, kind := 3, failCount := 2 }) State.reset, by decide +kernel⟩,
   ⟨bootOf (fun b => { b with halted := some 1 }) (commissioned 1), by decide +kernel⟩⟩

theorem witness_modesClocksAndPower_1 :
    (∃ (s : State), s.mode = 4 ∧ s.startupDone = true ∧ s.pendMode = none) ∧
    (∃ (s : State), (s.mode ≠ 4 ∨ s.startupDone = false)) ∧
    (∃ (s : State), s.mode = 4 ∧ s.startupDone = false ∧ s.pendMode = none) ∧
    (∃ (s : State), (s.mode ≠ 4 ∨ s.startupDone = true)) ∧
    (∃ (s : State) (c0 : BitVec 32) (c1 : BitVec 32) (c2 : BitVec 32) (c3 : BitVec 32) (c4 : BitVec 32) (c5 : BitVec
        32),
      s.domOn 2 = true ∧ s.mode ≠ 1 ∧ s.mode ≠ 10 ∧ s.crp.relocking = false
      ∧ clockMask [c0.toNat, c1.toNat, c2.toNat, c3.toNat, c4.toNat, c5.toNat] = 0) ∧
    (∃ (s : State) (c0 : BitVec 32) (c1 : BitVec 32) (c2 : BitVec 32) (c3 : BitVec 32) (c4 : BitVec 32) (c5 : BitVec
        32),
      s.domOn 2 = true ∧ s.mode ≠ 1 ∧ s.mode ≠ 10 ∧ s.crp.relocking = false
      ∧ clockMask [c0.toNat, c1.toNat, c2.toNat, c3.toNat, c4.toNat, c5.toNat] ≠ 0) ∧
    (∃ (s : State), s.crp.relocking = true ∧ s.mode = 3 ∧ s.pendMode = none) :=
  ⟨⟨commissioned 4, by decide +kernel⟩,
   ⟨(commissioned 4).wrB (CBC_SEGs_CTL_EN 0) true, by decide +kernel⟩,
   ⟨(commissioned 4).wrB (CBC_SEGs_CTL_EN 0) true, by decide +kernel⟩,
   ⟨commissioned 4, by decide +kernel⟩,
   ⟨commissioned 4, 32768, 20480, 16384, 10240, 8192, 3276, by decide +kernel⟩,
   ⟨commissioned 4, 0, 0, 0, 0, 0, 0, by decide +kernel⟩,
   ⟨crpOf (fun x => { x with relocking := true }) (commissioned 3), by decide +kernel⟩⟩

theorem witness_modesClocksAndPower_2 :
    (∃ (s : State) (d : Fin 10), d ≠ 0 ∧ s.domState d.val = 1
      ∧ (∀ (r : Nat), r ∈ domRequires d.val → s.domOn r = true)) ∧
    (∃ (s : State) (d : Fin 10), s.domState d.val ≠ 1) ∧
    (∃ (s : State) (d : Fin 10), d ≠ 0 ∧ s.domState d.val = 3 ∧ s.crp.entering = false) ∧
    (∃ (s : State) (d : Fin 10), d ≠ 0 ∧ d ≠ 1 ∧ d ≠ 2 ∧ d ≠ 6 ∧ s.domState d.val = 2 ∧ s.boot.running = false
      ∧ s.mode = 3 ∧ s.pendMode = none) ∧
    (∃ (s : State) (mask : BitVec 5) (pins : WakePins),
      ((((mask.toNat &&& 25) + if bitAt mask.toNat 1 = true ∧ pins.rising ≠ s.crp.wakeFall then 2 else 0) + if
        pins.energy.toNat &&& bitsOf (↑s.crp.wakeCfg) 11 8 = 0 then 0 else 4) &&& bitsOf (↑s.crp.wakeCfg) 4 0 ≠ 0)
      ∧ s.crp.armed = true ∧ s.crp.entering = false) ∧
    (∃ (s : State) (mask : BitVec 5) (pins : WakePins),
      ((((mask.toNat &&& 25) + if bitAt mask.toNat 1 = true ∧ pins.rising ≠ s.crp.wakeFall then 2 else 0) + if
        pins.energy.toNat &&& bitsOf (↑s.crp.wakeCfg) 11 8 = 0 then 0 else 4) &&& bitsOf (↑s.crp.wakeCfg) 4 0 ≠ 0)
      ∧ s.crp.entering = true) ∧
    (∃ (s : State), bitsOf (↑s.crp.wakeCfg) 0 0 = 1 ∧ s.crp.armed = true ∧ s.crp.entering = false) :=
  ⟨⟨(commissioned 3).setDom 8 1, 8, by decide +kernel⟩,
   ⟨commissioned 4, 0, by decide +kernel⟩,
   ⟨regsSet ((commissioned 3).setDom 8 3), 8, by decide +kernel⟩,
   ⟨commissioned 3, 3, by decide +kernel⟩,
   ⟨crpOf (fun x => { x with armed := true, wakeCfg := 0xF1F, wakeMs := 5 }) (commissioned 10), 0, ⟨5, false⟩,
     by decide +kernel⟩,
   ⟨crpOf (fun x => { x with entering := true, wakeCfg := 0xF1F, wakeFall := true }) ((commissioned 10).setDom 8 3), 0,
     ⟨5, false⟩, by decide +kernel⟩,
   ⟨crpOf (fun x => { x with armed := true, wakeCfg := 0xF1F, wakeMs := 5 }) (commissioned 10), by decide +kernel⟩⟩

theorem witness_memoryBanks :
    (∃ (s : State) (b : Fin 80) (target : BitVec 2), s.powered (MEM_BANK_CFGr 0) = true
      ∧ s.rd (bankTargetFld b.val) = target.toNat) ∧
    (∃ (s : State) (b : Fin 80) (target : BitVec 2), s.powered (MEM_BANK_CFGr 0) = true
      ∧ s.rd (bankTargetFld b.val) ≠ target.toNat ∧ (target = 3 ∨ bankFixed b.val = true ∧ target ≠ 1)) ∧
    (∃ (s : State) (b : Fin 80) (target : BitVec 2), s.powered (MEM_BANK_CFGr 0) = true
      ∧ s.rd (bankTargetFld b.val) ≠ target.toNat ∧ (target = 0 ∨ target = 2) ∧ bankFixed b.val = false
      ∧ s.domOn 9 = true ∧ s.bankRun b.val = none ∧ s.rd (bankStatFld b.val) = 1 ∧ s.bit (bankFailFld b.val) = false) ∧
    (∃ (s : State) (b : Fin 80) (r : BankRun), s.bankRun b.val = some r ∧ r.target = r.dest ∧ r.dest ≤ 2) ∧
    (∃ (s : State) (line : Fin 1310720) (syn : BitVec 8), s.rd MEM_SCRUB_SCRUB_S ≠ 0
      ∧ s.bankState (line.val / 16384) = 1 ∧ syndromeKind syn.toNat = 0) ∧
    (∃ (s : State) (line : Fin 1310720) (syn : BitVec 8), s.rd MEM_SCRUB_SCRUB_S ≠ 0
      ∧ s.bankState (line.val / 16384) = 1 ∧ syndromeKind syn.toNat = 1) ∧
    (∃ (s : State) (line : Fin 1310720) (syn : BitVec 8), s.rd MEM_SCRUB_SCRUB_S ≠ 0
      ∧ s.bankState (line.val / 16384) = 1 ∧ syndromeKind syn.toNat = 2) :=
  ⟨⟨commissioned 4, 0, 1, by decide +kernel⟩,
   ⟨commissioned 4, 0, 0, by decide +kernel⟩,
   ⟨commissioned 4, 40, 0, by decide +kernel⟩,
   ⟨memOf (fun m => { m with runs := [(2, some ⟨0, 0⟩)] }) ((commissioned 3).putSram [(0x100008, 7), (0x200000, 1)]), 2,
     ⟨0, 0⟩, by decide +kernel⟩,
   ⟨commissioned 4, 0, 0, by decide +kernel⟩,
   ⟨commissioned 4, 0, 0xC1, by decide +kernel⟩,
   ⟨commissioned 4, 0, 1, by decide +kernel⟩⟩

theorem witness_tamperAndDebug_1 :
    (∃ (s : State), s.bit SEC_TAMPER_CFG_PIN_EN = true ∧ s.boot.porHeld = false) ∧
    (∃ (s : State), s.bit SEC_TAMPER_CFG_PIN_EN = false) ∧
    (∃ (s : State), s.bit SEC_TAMPER_CFG_MESH_EN = true ∧ s.boot.porHeld = false) ∧
    (∃ (s : State), s.bit SEC_TAMPER_CFG_MESH_EN = false) ∧
    (∃ (p : Fin 6), p ≠ 0) ∧
    (∃ (s : State) (p : Fin 6), p = 0 ∧ s.powered MEM_VAULT_CTL = true) ∧
    (∃ (s : State), s.bit MEM_VAULT_STAT_WIPING = true) :=
  ⟨⟨(((commissioned 7).wrB SEC_TAMPER_CFG_PIN_EN true).wrB SEC_TAMPER_CFG_MESH_EN true).putSram [(0x2600008, 5)],
     by decide +kernel⟩,
   ⟨commissioned 4, by decide +kernel⟩,
   ⟨(((commissioned 7).wrB SEC_TAMPER_CFG_PIN_EN true).wrB SEC_TAMPER_CFG_MESH_EN true).putSram [(0x2600008, 5)],
     by decide +kernel⟩,
   ⟨commissioned 4, by decide +kernel⟩,
   ⟨1, by decide +kernel⟩,
   ⟨commissioned 4, 0, by decide +kernel⟩,
   ⟨(commissioned 3).wrB MEM_VAULT_STAT_WIPING true, by decide +kernel⟩⟩

theorem witness_tamperAndDebug_2 :
    (∃ (s : State), (s.inReset = false ∧ s.domOn 2 = true ∧ s.boot.resetDue = none ∧ bitAt s.keyRevoked 0 = false)
      ∧ (s.boot.lifeCycle = 1 ∨ s.boot.lifeCycle = 4)) ∧
    (∃ (s : State), (s.inReset = false ∧ s.domOn 2 = true ∧ s.boot.resetDue = none ∧ bitAt s.keyRevoked 0 = false)
      ∧ (s.boot.lifeCycle = 2 ∨ s.boot.lifeCycle = 3)) ∧
    (∃ (s : State), (s.inReset = false ∧ s.domOn 2 = true ∧ s.boot.resetDue = none ∧ bitAt s.keyRevoked 0 = false)
      ∧ s.boot.lifeCycle = 4) ∧
    (∃ (s : State) (n : Fin 24) (target : Fin 25), target.val = n.val ∧ s.rookDebug = true
      ∧ s.domOn (engDom n.val) = true ∧ s.engState n.val = 2) ∧
    (∃ (s : State) (n : Fin 24) (target : Fin 25), target.val = n.val ∧ s.rookDebug = false) ∧
    (∃ (s : State) (target : Fin 25), target.val = 24 ∧ s.sfiDebug = false) :=
  ⟨⟨bootOf (fun b => { b with lifeCycle := 4 }) (commissioned 3), by decide +kernel⟩,
   ⟨commissioned 4, by decide +kernel⟩,
   ⟨bootOf (fun b => { b with lifeCycle := 4 }) (commissioned 3), by decide +kernel⟩,
   ⟨bootOf (fun b => { b with lifeCycle := 1 }) ((commissioned 3).wr (PEA_Rn_STAT_STATE 0) 2), 0, 0, by decide +kernel⟩,
   ⟨bootOf (fun b => { b with nextKind := some 3, lifeCycle := 5 }) State.reset, 0, 0, by decide +kernel⟩,
   ⟨commissioned 4, 24, by decide +kernel⟩⟩

theorem witness_fieldsPastTheTop :
    ∃ (s : State) (n : Fin 24) (pos : BitVec 6) (len1 : BitVec 6), RookIssues s n.val
      ∧ 64 < pos.toNat + (len1.toNat + 1) :=
  ⟨rookIn rook0, 0, 1, 63, by unfold RookIssues; decide +kernel⟩

theorem witness_transfersThatTrap :
    (∃ (s : State) (n : Fin 24), RookIssues s n.val ∧ (rookNow s n.val).spec = none ∧ (rookNow s n.val).tin = false
      ∧ (rookNow s n.val).slot ≠ 0) ∧
    (∃ (s : State) (n : Fin 24) (rs1 : BitVec 5), RookIssues s n.val ∧ (rookNow s n.val).spec = none
      ∧ (rookNow s n.val).tin = false ∧ (rookNow s n.val).slot = 0
      ∧ BitVec.toNat ((rookNow s n.val).getW rs1.toNat) % 4 ≠ 0) ∧
    (∃ (s : State) (n : Fin 24) (far : BitVec 25), RookIssues s n.val ∧ (rookNow s n.val).spec = none
      ∧ (rookNow s n.val).tin = false ∧ (rookNow s n.val).slot = 0
      ∧ ((((rookNow s n.val).pc : Int) + 4 * far.toInt) % 2 ^ 64).toNat % 4 ≠ 0) :=
  ⟨⟨rookIn ({ rook0 with slot := 1, tgt := 0x80 }), 0, by unfold RookIssues; decide +kernel⟩,
   ⟨rookIn rook0, 0, 3, by unfold RookIssues; decide +kernel⟩,
   ⟨rookIn ({ rook0 with pc := 0x42 }), 0, 0, by unfold RookIssues; decide +kernel⟩⟩

theorem witness_returnStackInTrapMode :
    (∃ (s : State) (n : Fin 24) (far : BitVec 25), RookIssues s n.val ∧ (rookNow s n.val).slot = 0
      ∧ (rookNow s n.val).spec = none ∧ (rookNow s n.val).esrBit 4 = true
      ∧ ((((rookNow s n.val).pc : Int) + 4 * far.toInt) % 2 ^ 64).toNat % 4 = 0
      ∧ bitsOf (rookNow s n.val).rsp 8 4 = 16 ∧ (rookNow s n.val).tin = false) ∧
    (∃ (s : State) (n : Fin 24) (far : BitVec 25), RookIssues s n.val ∧ (rookNow s n.val).slot = 0
      ∧ (rookNow s n.val).spec = none ∧ (rookNow s n.val).esrBit 4 = true
      ∧ ((((rookNow s n.val).pc : Int) + 4 * far.toInt) % 2 ^ 64).toNat % 4 = 0
      ∧ bitsOf (rookNow s n.val).rsp 8 4 < 16) ∧
    (∃ (s : State) (n : Fin 24) (rs1 : BitVec 5), RookIssues s n.val ∧ (rookNow s n.val).slot = 0
      ∧ (rookNow s n.val).spec = none ∧ (rookNow s n.val).esrBit 4 = true
      ∧ BitVec.toNat ((rookNow s n.val).getW rs1.toNat) % 4 = 0 ∧ bitsOf (rookNow s n.val).rsp 8 4 = 16
      ∧ (rookNow s n.val).tin = false) ∧
    (∃ (s : State) (n : Fin 24) (rs1 : BitVec 5), RookIssues s n.val ∧ (rookNow s n.val).slot = 0
      ∧ (rookNow s n.val).spec = none ∧ (rookNow s n.val).esrBit 4 = true
      ∧ BitVec.toNat ((rookNow s n.val).getW rs1.toNat) % 4 = 0 ∧ bitsOf (rookNow s n.val).rsp 8 4 < 16) ∧
    (∃ (s : State) (n : Fin 24), RookIssues s n.val ∧ (rookNow s n.val).slot = 0 ∧ (rookNow s n.val).spec = none
      ∧ (rookNow s n.val).esrBit 4 = true ∧ bitsOf (rookNow s n.val).rsp 8 4 = 0 ∧ (rookNow s n.val).tin = false) ∧
    (∃ (s : State) (n : Fin 24), RookIssues s n.val ∧ (rookNow s n.val).slot = 0 ∧ (rookNow s n.val).spec = none
      ∧ (rookNow s n.val).esrBit 4 = true
      ∧ (BitVec.toNat (mapGet (fun x => 0) (rookNow s n.val).rstk ((bitsOf (rookNow s n.val).rsp 3 0 + 15) % 16)) % 4
        = 0)
      ∧ 0 < bitsOf (rookNow s n.val).rsp 8 4) :=
  ⟨⟨rookIn ({ rook0 with esr := 0x10, rsp := 0x105 }), 0, 0, by unfold RookIssues; decide +kernel⟩,
   ⟨rookIn ({ rook0 with esr := 0x10 }), 0, 0, by unfold RookIssues; decide +kernel⟩,
   ⟨rookIn ({ rook0 with esr := 0x10, rsp := 0x105 }), 0, 0, by unfold RookIssues; decide +kernel⟩,
   ⟨rookIn ({ rook0 with esr := 0x10 }), 0, 0, by unfold RookIssues; decide +kernel⟩,
   ⟨rookIn ({ rook0 with esr := 0x10 }), 0, by unfold RookIssues; decide +kernel⟩,
   ⟨rookIn ({ rook0 with esr := 0x10, rsp := 0x105 }), 0, by unfold RookIssues; decide +kernel⟩⟩

theorem witness_vaultDenies :
    ∃ (off : Nat), 39845888 ≤ off ∧ off < 41943040 :=
  ⟨0x2600000, by decide +kernel⟩

end Sys2Proof.Tests
end

section
/-! SUPPORT. Which registers an operation leaves alone (RegsBut): one rule for a write of a register or a field, one for
two operations in a row, and what a refused write does. -/

namespace Sys2Proof.Machine

theorem regsBut_setReg (s : State) (a : Nat) (v : Word) : RegsBut [a] s (s.setReg a v) := by
  intro b hb
  exact State.reg_setReg_ne s v (by simpa using hb)

theorem regsBut_wr (s : State) (f : Fld) (v : Nat) : RegsBut [f.addr] s (s.wr f v) := regsBut_setReg s _ _

theorem RegsBut.trans {l : List Nat} {s t u : State} (h : RegsBut l s t) (g : RegsBut l t u) : RegsBut l s u :=
  fun a ha => (g a ha).trans (h a ha)

theorem RegsBut.mono {l m : List Nat} {s t : State} (h : RegsBut l s t) (hm : l ⊆ m) : RegsBut m s t :=
  fun a ha => h a fun hl => ha (hm hl)

theorem RegsBut.rd_eq {l : List Nat} {s t : State} (h : RegsBut l s t) {f : Fld} (hf : f.addr ∉ l) :
    t.rd f = s.rd f := by
  simp [State.rd, h _ hf]

/-! ## A refused write (R551) -/

theorem cfgErr_sets {s : State} {a : Nat} {u : UnitDef} (h : unitAt a = some u) :
    (s.cfgErr a).bit (cUSTAT_CFG_ERR u.base) = true := by
  simp only [State.cfgErr, h]
  exact State.bit_wrB_same _ _ rfl

theorem regsBut_cfgErr {s : State} {a : Nat} {u : UnitDef} (h : unitAt a = some u) :
    RegsBut [(cUSTAT_CFG_ERR u.base).addr] s (s.cfgErr a) := by
  simp only [State.cfgErr, h]
  split
  · exact regsBut_wr _ _ _
  · exact RegsBut.trans (regsBut_wr s (cUSTAT_CFG_ERR_OFF u.base) _) (regsBut_wr _ _ _)

end Sys2Proof.Machine
end

section
/-! SUPPORT. Network time: what the operations of Machine/Ntu.lean do to LT, to the record and the state of a time
domain, and which registers they leave alone. -/

namespace Sys2Proof.Machine

/-! ## The record of a time domain -/

@[simp] theorem State.td_setTd (s : State) (x : Nat) (t : TdSt) : (s.setTd x t).td x = t := by
  unfold State.td State.setTd
  split <;> rfl

@[simp] theorem State.setTd_lt (s : State) (x : Nat) (t : TdSt) : (s.setTd x t).ntu.lt = s.ntu.lt := by
  unfold State.setTd
  split <;> rfl

@[simp] theorem State.reg_setTd (s : State) (x : Nat) (t : TdSt) (a : Nat) : (s.setTd x t).reg a = s.reg a := by
  unfold State.setTd
  split <;> rfl

/-- LT, the records of both domains, and every register outside `l` are in `t` what they were in `s`. -/
structure TimeKept (l : List Nat) (s t : State) : Prop where
  lt : t.ntu.lt = s.ntu.lt
  td : ∀ x, t.td x = s.td x
  regs : RegsBut l s t

theorem TimeKept.refl {l : List Nat} {s : State} : TimeKept l s s := ⟨rfl, fun _ => rfl, fun _ _ => rfl⟩

theorem TimeKept.wr {l : List Nat} {s t : State} (h : TimeKept l s t) {f : Fld} (hf : f.addr ∈ l) (v : Nat) :
    TimeKept l s (t.wr f v) :=
  ⟨h.lt, h.td, h.regs.trans ((regsBut_wr t f v).mono (by simpa using hf))⟩

theorem TimeKept.wrB {l : List Nat} {s t : State} (h : TimeKept l s t) {f : Fld} (hf : f.addr ∈ l) (b : Bool) :
    TimeKept l s (t.wrB f b) := h.wr hf _

theorem TimeKept.wrI {l : List Nat} {s t : State} (h : TimeKept l s t) {f : Fld} (hf : f.addr ∈ l) (v : Int) :
    TimeKept l s (t.wrI f v) := h.wr hf _

/-- What castling and the cycle generator note for themselves is no part of the time. -/
theorem TimeKept.putNtu {l : List Nat} {s t : State} (h : TimeKept l s t) {n : NtuSt} (hl : n.lt = t.ntu.lt)
    (ha : n.tdA = t.ntu.tdA) (hb : n.tdB = t.ntu.tdB) : TimeKept l s (t.putNtu n) :=
  ⟨hl.trans h.lt, fun x => (by simp [State.td, ha, hb] : (t.putNtu n).td x = t.td x).trans (h.td x), h.regs⟩

theorem timeKept_castStart (s : State) (d : Nat) : TimeKept [NTU_CAST_STAT] s (s.castStart d) := by
  have hm : NTU_CAST_STAT ∈ [NTU_CAST_STAT] := List.mem_singleton_self _
  unfold State.castStart
  extract_lets src old s1 s2
  have h1 : TimeKept [NTU_CAST_STAT] s s1 := by
    refine .putNtu .refl ?_ ?_ ?_ <;> rfl
  clear_value s1
  have h2 : TimeKept [NTU_CAST_STAT] s s2 := by
    refine .wrB (.wr h1 ?_ _) ?_ _ <;> exact hm
  clear_value s2
  split
  · exact TimeKept.refl.wrB hm _
  · exact h2.wrI hm _

theorem timeKept_castEdge (s : State) : TimeKept [NTU_CAST_STAT, NTU_CYC_CTL] s s.castEdge := by
  have hs : NTU_CAST_STAT ∈ [NTU_CAST_STAT, NTU_CYC_CTL] := List.mem_cons_self
  have hc : NTU_CYC_CTL ∈ [NTU_CAST_STAT, NTU_CYC_CTL] := List.mem_cons_of_mem _ List.mem_cons_self
  unfold State.castEdge
  split
  · exact TimeKept.refl
  · extract_lets g st old cyc act done1 done2 done3 moved
    have hd : TimeKept [NTU_CAST_STAT, NTU_CYC_CTL] s done1 := by
      refine .putNtu .refl ?_ ?_ ?_ <;> rfl
    have hv : TimeKept [NTU_CAST_STAT, NTU_CYC_CTL] s moved := by
      refine .putNtu .refl ?_ ?_ ?_ <;> rfl
    split
    · exact (((hd.wr hc _).wrB hs _).wrB hs _).wr hs _
    · exact hv.wrI hs _

/-! ## A domain enters a state (R73) -/

/-- The entry itself, before AUTO looks at it. -/
def State.tdEntered (s : State) (x st : Nat) : State :=
  let s1 := s.wr (NTU_TDx_STAT_STATE x) st
  s1.setTd x { s1.td x with outRun := 0, inRun := 0, holdAt := s1.ltNs }

/-- AUTO may start castling upon the entry. -/
theorem timeKept_tdEnter (s : State) (x st : Nat) : TimeKept [NTU_CAST_STAT] (s.tdEntered x st) (s.tdEnter x st) := by
  unfold State.tdEnter
  extract_lets s1 s2
  split
  · exact timeKept_castStart _ _
  · exact TimeKept.refl

theorem State.td_tdEnter (s : State) (x st : Nat) :
    (s.tdEnter x st).td x = { s.td x with outRun := 0, inRun := 0, holdAt := s.ltNs } :=
  ((timeKept_tdEnter s x st).td x).trans (State.td_setTd ..)

@[simp] theorem State.tdEnter_lt (s : State) (x st : Nat) : (s.tdEnter x st).ntu.lt = s.ntu.lt :=
  (timeKept_tdEnter s x st).lt.trans (State.setTd_lt ..)

theorem NTU_TDx_STAT_ne_CAST_STAT (x : Nat) : NTU_TDx_STAT x ≠ NTU_CAST_STAT := by
  simp only [NTU_TDx_STAT, NTU_CAST_STAT]
  omega

theorem State.tdState_tdEnter (s : State) (x st : Nat) : (s.tdEnter x st).tdState x = st % 8 := by
  have hne : (NTU_TDx_STAT_STATE x).addr ∉ [NTU_CAST_STAT] := by simpa using! NTU_TDx_STAT_ne_CAST_STAT x
  calc (s.tdEnter x st).tdState x = (s.tdEntered x st).tdState x := (timeKept_tdEnter s x st).regs.rd_eq hne
    _ = (s.wr (NTU_TDx_STAT_STATE x) st).tdState x := by
      simp only [State.tdEntered, State.tdState, State.rd, State.reg_setTd]
    _ = st % 8 := State.rd_wr_same s st rfl

/-- HOLDOVER, or FREE at once where HOLD_MS is 0. -/
theorem State.tdState_tdHoldover (s : State) (x : Nat) :
    (s.tdHoldover x).tdState x = if s.rd (NTU_TDx_CTL_HOLD_MS x) = 0 then 4 else 3 := by
  simp only [State.tdHoldover, State.tdState_tdEnter, beq_iff_eq]
  split <;> rfl

/-! ## CLK_TIME edges (R69, R70) -/

theorem signed_ge (n v : Nat) (h : 0 < n) : -((2 ^ (n - 1) : Nat) : Int) ≤ signed n v := by
  obtain ⟨m, rfl⟩ : ∃ m, n = m + 1 := ⟨n - 1, by omega⟩
  simp only [signed, Nat.add_sub_cancel, Nat.pow_succ]
  split <;> omega

/-- LT moves at every edge, however slow TRIM makes it. -/
theorem State.ltStep_pos (s : State) : 0 < s.ltStep := by
  have h : -((2 ^ 31 : Nat) : Int) ≤ s.rdI NTU_LT_TRIM_TRIM := signed_ge 32 _ (by decide)
  simp only [State.ltStep, nsU]
  omega

/-- `t` comes `n` edges after `s`, as far as LT and the registers that castling does not write can tell. -/
structure Edged (n : Nat) (s t : State) : Prop where
  lt : t.ntu.lt = s.ntu.lt + n * s.ltStep
  regs : RegsBut [NTU_CAST_STAT, NTU_CYC_CTL] s t

theorem Edged.ltStep_eq {n : Nat} {s t : State} (h : Edged n s t) : t.ltStep = s.ltStep := by
  simp only [State.ltStep, State.rdI, h.regs.rd_eq (f := NTU_LT_TRIM_TRIM) (by decide)]

theorem Edged.domOn_eq {n : Nat} {s t : State} (h : Edged n s t) : t.domOn 6 = s.domOn 6 := by
  simp only [State.domOn, State.domState, h.regs.rd_eq (f := CRP_PD_STAT_STATE 6) (by decide)]

theorem Edged.trans {m n : Nat} {s t u : State} (h : Edged m s t) (g : Edged n t u) : Edged (m + n) s u where
  lt := by rw [g.lt, h.lt, h.ltStep_eq]; ring
  regs := h.regs.trans g.regs

theorem edged_ltEdges (s : State) (n : Nat) : Edged n s (s.ltEdges n) := ⟨rfl, fun _ _ => rfl⟩

theorem edged_edge1 {s : State} (h : s.domOn 6 = true) : Edged 1 s s.edge1 := by
  have hc := timeKept_castEdge (s.ltEdges 1)
  have h0 : Edged 0 (s.ltEdges 1) (s.ltEdges 1).castEdge := ⟨by rw [hc.lt]; omega, hc.regs⟩
  simp only [State.edge1, h, if_true]
  exact (edged_ltEdges s 1).trans h0

theorem edged_edges {s : State} (h : s.domOn 6 = true) (n : Nat) : Edged n s (s.edges n) := by
  induction n generalizing s with
  | zero => exact ⟨by simp [State.edges], fun _ _ => rfl⟩
  | succ n ih =>
    simp only [State.edges, h, if_true]
    split
    · have h1 := edged_edge1 h
      exact Nat.add_comm 1 n ▸ h1.trans (ih (h1.domOn_eq.trans h))
    · exact edged_ltEdges s (n + 1)

theorem edged_advanceTo {s : State} (h : s.domOn 6 = true) (t : Nat) : Edged (s.edgesTo t) s (s.advanceTo t) :=
  edged_edges h _

/-- Time does reach the instant. -/
theorem State.le_advanceTo_lt {s : State} (h : s.domOn 6 = true) (t : Nat) : t ≤ (s.advanceTo t).ntu.lt := by
  rw [(edged_advanceTo h t).lt, State.edgesTo]
  have h1 := s.ltStep_pos
  have h2 := Nat.lt_div_mul_add h1 (a := t - s.ntu.lt + s.ltStep - 1)
  omega

/-! ## The measurement that waits, and when the latest one was consumed (R74) -/

/-- What the servo sees of a domain's record: the waiting measurement and the instant of the latest one consumed. -/
def State.measured (s : State) (x : Nat) : Option Int × Option Nat := ((s.td x).meas, (s.td x).lastAt)

theorem TimeKept.measured_eq {l : List Nat} {s t : State} (h : TimeKept l s t) (x : Nat) :
    t.measured x = s.measured x := by
  simp only [State.measured, h.td]

theorem State.measured_setTd (s : State) (x : Nat) (t : TdSt) : (s.setTd x t).measured x = (t.meas, t.lastAt) := by
  simp only [State.measured, State.td_setTd]

theorem State.measured_wr (s : State) (f : Fld) (v x : Nat) : (s.wr f v).measured x = s.measured x := rfl

theorem State.measured_tdEnter (s : State) (x st : Nat) : (s.tdEnter x st).measured x = s.measured x := by
  simp only [State.measured, State.td_tdEnter]

theorem State.measured_tdJudge (s : State) (x : Nat) (good : Bool) : (s.tdJudge x good).measured x = s.measured x := by
  unfold State.tdJudge
  extract_lets t s1 st
  have h1 : s1.measured x = s.measured x := by
    simp only [s1, State.measured_setTd]
    split <;> rfl
  clear_value s1
  split
  · rw [State.measured_tdEnter, h1]
  · split
    · rw [State.measured_tdEnter, h1]
    · split
      · rw [State.measured_tdEnter, h1]
      · exact h1

theorem State.measured_tdStep (s : State) (x : Nat) (e : Int) : (s.tdStep x e).measured x = s.measured x := by
  unfold State.tdStep
  extract_lets old s1
  have h1 : s1.measured x = s.measured x := (State.measured_wr ..).trans (State.measured_setTd ..)
  clear_value s1
  split
  · exact ((TimeKept.refl (l := [])).putNtu rfl rfl rfl).measured_eq x |>.trans h1
  · exact h1

theorem State.measured_servoErr (s : State) (e dt : Int) (x : Nat) :
    (s.servoErr e dt).2.measured x = s.measured x := by
  unfold State.servoErr
  split <;> rfl

/-- The servo takes the measurement and notes when. -/
theorem State.measured_servo (s : State) (x : Nat) (e : Int) : (s.servo x e).measured x = (none, some s.ltNs) := by
  unfold State.servo
  extract_lets now t dt s1 s2 s3 beyond s4
  have h3 : s3.measured x = (none, some s.ltNs) := by
    rw [State.measured_tdJudge]
    exact (State.measured_wr ..).trans (State.measured_setTd ..)
  clear_value s3
  have h4 : s4.measured x = (none, some s.ltNs) := by
    simp only [s4]
    split
    · exact (State.measured_wr ..).trans h3
    · exact h3
  clear_value s4 dt
  split
  · rw [State.measured_tdStep, h3]
  · cases dt with
    | none => exact h4
    | some d =>
      have h5 := (State.measured_servoErr s4 e d x).trans h4
      exact (State.measured_wr ..).trans ((State.measured_setTd ..).trans h5)

end Sys2Proof.Machine
end

section
/-! PROOF of TimeDomains (R10, R70, R73, R74): what its commands come to under the hypotheses of each clause, then the
clauses from the laws of network time. -/

namespace Sys2Proof.Machine

/-! ## What the commands come to -/

theorem exec_tdHold {s : State} {x : Fin 2} (h : s.domOn 6 = true) :
    exec (.tdHold x) s = .next (s.tdHold x) := by
  show execTdHold x s = _
  simp only [execTdHold, h, if_true]

theorem exec_tdMeasWrite {s : State} {x : Fin 2} {e : Word} (h : s.domOn 6 = true) :
    exec (.tdMeasWrite x e) s = .next (s.tdMeas x e.toInt) := by
  show execTdMeasWrite x e s = _
  simp only [execTdMeasWrite, h, if_true]

theorem exec_servoConsume {s : State} {x : Fin 2} {e : Int} (h : s.domOn 6 = true) (hm : (s.td x).meas = some e)
    (hx : s.tdState x ≠ 0) : exec (.servoConsume x) s = .next (s.servo x e) := by
  show execServoConsume x s = _
  simp [execServoConsume, hm, h, hx]

/-- Four intervals after the latest measurement (R73). -/
theorem exec_tdHoldoverTimeout {s : State} {x : Fin 2} {l : Nat} (h : s.domOn 6 = true) (hx : s.tdState x = 2)
    (hl : (s.td x).lastAt = some l) (hi : (s.td x).interval ≠ 0) :
    exec (.tdHoldoverTimeout x) s =
      .next ((s.advanceTo ((l + 4 * (s.td x).interval) * 2 ^ 32)).tdHoldover x) := by
  show execTdHoldoverTimeout x s = _
  simp only [execTdHoldoverTimeout, hl, h, State.tdLocked, hx, nsU]
  simp [hi]

theorem exec_tdFreeTimeout {s : State} {x : Fin 2} (h : s.domOn 6 = true) (hx : s.tdState x = 3) :
    exec (.tdFreeTimeout x) s =
      .next ((s.advanceTo (((s.td x).holdAt + s.rd (NTU_TDx_CTL_HOLD_MS x) * 1000000) * 2 ^ 32)).tdEnter x 4) := by
  show execTdFreeTimeout x s = _
  simp [execTdFreeTimeout, h, hx, nsU]

/-- A TRIM of the range, read back as the value written (R70). -/
theorem signed_toNat (v : BitVec 32) : signed 32 (v.toNat % 2 ^ 32) = v.toInt := by
  have h := v.isLt
  rw [BitVec.toInt_eq_toNat_cond]
  simp only [signed]
  split <;> split <;> omega

theorem exec_ltTrimWrite {s : State} {trim : BitVec 32} (h : s.domOn 6 = true) (hf : s.bit NTU_LT_TRIM_LOCK = false)
    (hu : s.bit (cUCTL_LOCK uNTU) = false) :
    exec (.ltTrimWrite trim) s = .next (if 1073742 < trim.toInt.natAbs then s.cfgErr NTU_LT_TRIM
      else s.wr NTU_LT_TRIM_TRIM trim.toNat) := by
  show execLtTrimWrite trim s = _
  simp only [execLtTrimWrite, h, hf, hu, Bool.not_true, Bool.or_self, Bool.false_eq_true, if_false, decide_eq_true_eq]
  split <;> rfl

theorem exec_ltTrimWrite_locked {s : State} {trim : BitVec 32}
    (hf : ¬(s.bit NTU_LT_TRIM_LOCK = false ∧ s.bit (cUCTL_LOCK uNTU) = false)) :
    exec (.ltTrimWrite trim) s = .next s := by
  show execLtTrimWrite trim s = _
  have hl : (!s.domOn 6 || s.bit NTU_LT_TRIM_LOCK || s.bit (cUCTL_LOCK uNTU)) = true := by
    cases h1 : s.bit NTU_LT_TRIM_LOCK <;> cases h2 : s.bit (cUCTL_LOCK uNTU) <;> simp_all
  simp only [execLtTrimWrite, hl, if_true]

theorem unitAt_NTU_LT_TRIM : unitAt NTU_LT_TRIM = some ⟨uNTU, 0x027FFFFF, uNTU, 6⟩ := rfl

/-- An edge writes no HOLD_MS: castling has its status and SRC elsewhere. -/
theorem HOLD_MS_apart_of_castling :
    ∀ x : Fin 2, (NTU_TDx_CTL_HOLD_MS x).addr ∉ [NTU_CAST_STAT, NTU_CYC_CTL] := by
  decide

theorem timeDomainStates : Sys2Proof.Rules.timeDomainStates := by
  intro s x h
  refine ⟨fun hx => ?_, fun l hx hl hi => ?_, fun hx => ?_⟩
  · have e : s.tdHold x = s.tdHoldover x := by simp [State.tdHold, State.tdLocked, hx]
    exact ⟨_, exec_tdHold h, e ▸ s.tdState_tdHoldover x, (State.tdHold_keeps s x).changes rfl⟩
  · have ht := edged_advanceTo h ((l + 4 * (s.td x).interval) * 2 ^ 32)
    refine ⟨_, exec_tdHoldoverTimeout h hx hl hi, ?_, ?_, ?_⟩
    · exact (State.tdState_tdHoldover ..).trans (by rw [ht.regs.rd_eq (HOLD_MS_apart_of_castling x)])
    · rw [State.tdHoldover, State.tdEnter_lt]
      exact State.le_advanceTo_lt h _
    · exact ((State.tdHoldover_keeps ..).comp (by rfl) (State.advanceTo_keeps ..)).changes rfl
  · refine ⟨_, exec_tdFreeTimeout h hx, State.tdState_tdEnter .., ?_, ?_⟩
    · rw [State.tdEnter_lt]
      exact State.le_advanceTo_lt h _
    · exact ((State.tdEnter_keeps ..).comp (by rfl) (State.advanceTo_keeps ..)).changes rfl

theorem timeMeasurements : Sys2Proof.Rules.timeMeasurements := by
  intro s x trim e h free
  refine ⟨fun hf hr => ?_, fun hf hr => ?_, fun hf => ?_, fun hm => ?_, fun hm => ?_, fun m hm hx => ?_⟩
  · obtain ⟨hl, hu⟩ := hf
    refine ⟨_, exec_ltTrimWrite h hl hu, ?_⟩
    rw [if_neg (by omega)]
    refine ⟨?_, regsBut_wr s NTU_LT_TRIM_TRIM _, (State.wr_keeps ..).changes rfl⟩
    rw [State.rdI, State.rd_wr_same _ _ rfl]
    exact signed_toNat trim
  · obtain ⟨hl, hu⟩ := hf
    refine ⟨_, exec_ltTrimWrite h hl hu, ?_⟩
    rw [if_pos hr]
    exact ⟨regsBut_cfgErr unitAt_NTU_LT_TRIM _ (by decide), cfgErr_sets unitAt_NTU_LT_TRIM,
      (State.cfgErr_keeps ..).changes rfl⟩
  · exact ⟨s, exec_ltTrimWrite_locked hf, rfl⟩
  · have e1 : s.tdMeas x e.toInt = s.setTd x { s.td x with meas := some e.toInt } := by simp [State.tdMeas, hm]
    refine ⟨_, e1 ▸ exec_tdMeasWrite h, ?_⟩
    simp only [State.td_setTd, true_and]
    exact ⟨fun a _ => State.reg_setTd .., (State.setTd_keeps ..).changes rfl⟩
  · obtain ⟨m, hm⟩ := Option.ne_none_iff_exists'.1 hm
    let u := s.inc (NTU_TDx_STAT_MEAS_OVERRUN x)
    have e1 : s.tdMeas x e.toInt = u.setTd x { u.td x with meas := some e.toInt } := by simp [State.tdMeas, hm, u]
    refine ⟨_, exec_tdMeasWrite h, ?_, ?_, (State.tdMeas_keeps ..).changes rfl, ?_⟩
    · rw [e1, State.td_setTd]
    · rw [e1]
      exact fun a ha => (State.reg_setTd ..).trans (regsBut_wr s (NTU_TDx_STAT_MEAS_OVERRUN x) _ a ha)
    · rw [e1, State.rd, State.reg_setTd]
      exact State.rd_incBy s 1 rfl
  · have hs := State.measured_servo s x m
    simp only [State.measured, Prod.mk.injEq] at hs
    exact ⟨_, exec_servoConsume h hm hx, hs.1, hs.2, (State.servo_keeps ..).changes rfl⟩

/-- Settles O13: the commands of the time domains, clause by clause. -/
theorem timeDomains : Obligations.TimeDomains := ⟨timeMeasurements, timeDomainStates⟩

end Sys2Proof.Machine
end

section
/-! SUPPORT. The way of a register write (Machine/RegWrite.lean): what the address map says of a register, what a write
carries and leaves there, and that a write of a register without a rule of its own is stored. -/

namespace Sys2Proof.Machine

/-! ## The address map -/

/-- What the write path asks the address map about `a` (R547, R548): it is a word of the 32-bit space outside the engine
windows, with the register `r` of the unit `u`, in that unit's power domain. -/
structure RegHere (a : Nat) (r : RegDef) (u : UnitDef) : Prop where
  aligned : a % 8 = 0
  lt : a < 2 ^ 32
  notMap : a ≠ PEA_CMAP_DATA
  window : engWindow a = none
  reg : regAt a = some r
  unit : unitAt a = some u
  dom : domOf a = u.dom

/-- The same as one proposition that evaluates. -/
theorem RegHere.of {a : Nat} {r : RegDef} {u : UnitDef} (h : a % 8 = 0 ∧ a < 2 ^ 32 ∧ a ≠ PEA_CMAP_DATA ∧
    engWindow a = none ∧ regAt a = some r ∧ unitAt a = some u ∧ domOf a = u.dom) : RegHere a r u :=
  let ⟨aligned, lt, notMap, window, reg, unit, dom⟩ := h
  { aligned, lt, notMap, window, reg, unit, dom }

theorem regIdx_none {base stride count a : Nat} (h : a < base ∨ base + stride * count ≤ a) :
    regIdx base stride count a = none := by
  have : ¬(base ≤ a ∧ a < base + stride * count) := by omega
  simpa [regIdx] using this

theorem regIdx_some {base stride count i o : Nat} (hi : i < count) (ho : o < stride) :
    regIdx base stride count (base + stride * i + o) = some (i, o) := by
  have h1 : stride * (i + 1) ≤ stride * count := Nat.mul_le_mul_left _ hi
  have h2 : base + stride * i + o < base + stride * count := by rw [Nat.mul_add] at h1; omega
  have h3 : base + stride * i + o - base = o + stride * i := by omega
  have h4 : 0 < stride := by omega
  simp [regIdx, h2, h3, Nat.add_mul_div_left _ _ h4, Nat.div_eq_of_lt ho, Nat.mod_eq_of_lt ho]
  omega

/-! ## A write on its way -/

/-- The write of `v` to the halves `m` of the register `r` at `a`, as it reaches the unit `u`. -/
def State.writeOf (s : State) (who a : Nat) (r : RegDef) (u : UnitDef) (v m : Word) : RegW :=
  let c := r.carried who (s.reg a) v m
  ⟨who, a, m, s.reg a, c, r.stored (s.regLocked u.base a (s.reg a)) (s.reg a) c⟩

section Write

variable {s : State} {who : Fin 33} {a : Nat} {r : RegDef} {u : UnitDef} {v : Word} {lo hi : Bool} {pins : AccPins}

theorem exec_registerWrite (ha : RegHere a r u) (hp : s.pcieDead who = false) :
    exec (.registerWrite who (BitVec.ofNat 32 a) v lo hi pins) s = .next (s.regWrite who a v lo hi pins) := by
  have e : (BitVec.ofNat 32 a).toNat / 8 * 8 = a := by
    rw [BitVec.toNat_ofNat, Nat.mod_eq_of_lt ha.lt]
    exact Nat.div_mul_cancel (Nat.dvd_of_mod_eq_zero ha.aligned)
  show execRegisterWrite who _ v lo hi pins s = _
  rw [execRegisterWrite, hp, if_neg Bool.false_ne_true, e]

/-- A register whose domain is not ON takes no write (R548). -/
theorem regWrite_off (ha : RegHere a r u) (hd : s.domOn u.dom = false) : s.regWrite who a v lo hi pins = s := by
  simp [State.regWrite, State.powered, ha.dom, hd]

theorem regWrite_on (ha : RegHere a r u) (hd : s.domOn u.dom = true) :
    s.regWrite who a v lo hi pins =
      if r.bad (r.carried who (s.reg a) v (halfBits lo hi)) then s.cfgErr a
      else (s.writeOf who a r u v (halfBits lo hi)).apply u pins s := by
  simp [State.regWrite, State.powered, State.regNow, State.writeOf, ha.notMap, ha.window, ha.reg, ha.unit, ha.dom, hd]

/-- A reserved value is refused (R12, R551). -/
theorem regWrite_bad (ha : RegHere a r u) (hd : s.domOn u.dom = true)
    (hb : r.bad (r.carried who (s.reg a) v (halfBits lo hi)) = true) : s.regWrite who a v lo hi pins = s.cfgErr a := by
  rw [regWrite_on ha hd, if_pos hb]

/-- A value that the table accepts is stored where the unit has no rule of its own for the register. -/
theorem regWrite_put (ha : RegHere a r u) (hd : s.domOn u.dom = true)
    (hb : r.bad (r.carried who (s.reg a) v (halfBits lo hi)) = false)
    (hput : ∀ w : RegW, w.a = a → w.apply u pins s = w.put s) :
    s.regWrite who a v lo hi pins =
      s.setReg a (r.stored (s.regLocked u.base a (s.reg a)) (s.reg a)
        (r.carried who (s.reg a) v (halfBits lo hi))) := by
  rw [regWrite_on ha hd, hb, if_neg Bool.false_ne_true, hput _ rfl]
  rfl

end Write

/-! ## The registers of the clauses

Their rows of the register tables and of Table R547; `regHere_…` finds them in the address map. -/

def unitPIA : UnitDef := ⟨uPIA, 0x02FFFFFF, uPIA, 8⟩
def unitHIC : UnitDef := ⟨uHIC, 0x003FFFFF, uHIC, 3⟩
def unitNTU : UnitDef := ⟨uNTU, 0x027FFFFF, uNTU, 6⟩

def defSAFE : RegDef := ⟨0x02A04080, [(32, 0x200), (4, 0x8)], [⟨63, 0, .rw, 0x0, [], false⟩]⟩
def defISTAT : RegDef := ⟨0, [], [⟨63, 0, .w1c, 0, [], false⟩]⟩
def defCLKDIV : RegDef :=
  ⟨0x02A04010, [(32, 0x200)],
    [⟨47, 32, .rw, 0x1, [(1, 65535)], false⟩, ⟨15, 0, .rw, 0x1, [(1, 65535)], false⟩]⟩
def defFW_BASE : RegDef :=
  ⟨0x00302000, [(64, 0x10)],
    [⟨63, 63, .rw, 0x0, [], true⟩, ⟨62, 62, .rw, 0x0, [], true⟩, ⟨31, 3, .rw, 0x0, [], true⟩]⟩
def defLT_TRIM : RegDef :=
  ⟨0x02401000, [], [⟨63, 63, .w1s, 0x0, [], true⟩,
    ⟨31, 0, .rwl, 0x0, [(0, 1073742), (4293893554, 4294967295)], false⟩]⟩

theorem regHere_PIA_SAFE (n : Fin 32) (j : Fin 4) : RegHere (PIA_SAFE n j) defSAFE unitPIA :=
  .of (by revert n j; decide)

theorem regHere_PIA_ISTAT : RegHere (cISTAT uPIA).addr defISTAT unitPIA := .of (by decide)

theorem regHere_PIA_CLKDIV (n : Fin 32) : RegHere (PIA_Pn_CLKDIV n) defCLKDIV unitPIA := .of (by revert n; decide)

theorem regHere_HIC_FW_BASE (w : Fin 64) : RegHere (HIC_FWw_BASE w) defFW_BASE unitHIC := .of (by revert w; decide)

theorem regHere_NTU_LT_TRIM : RegHere NTU_LT_TRIM defLT_TRIM unitNTU := .of (by decide)

/-! ## Writes that their unit stores as they come -/

section Apply

variable {w : RegW} {s : State} {pins : AccPins}

/-- Outside its common block a unit's own rules take the write. -/
theorem apply_outside_common {u : UnitDef} (h : u.common + 0x30 ≤ w.a) :
    w.apply u pins s =
      if u.base == uSYSCTL then w.sysctl s else if u.base == uSEC then w.sec pins s else w.unitB u.base s := by
  have : ¬(w.a < u.common + 0x30) := by omega
  simp [RegW.apply, this]

/-- In the common block only a write of IMASK does more than store. -/
theorem apply_common {u : UnitDef} (h : u.common ≤ w.a) (h' : w.a < u.common + 0x28) :
    w.apply u pins s = w.put s := by
  have h1 : w.a < u.common + 0x30 := by omega
  have h2 : w.a ≠ u.common + 0x28 := by omega
  simp [RegW.apply, RegW.common, h, h1, h2]

/-- The registers of a Pawn engine behind PIA_Pn_PIOUT have no rule of their own. -/
theorem pawnReg_put {n o : Nat} (h : 0x40 < o) : w.pawnReg n o s = w.put s := by
  have hne : ∀ k ≤ 0x40, (o == k) = false := fun k hk => by simp; omega
  simp [RegW.pawnReg, hne]

theorem pia_engine {n o : Nat} (hn : n < 32) (ho : o < 0x200) (h : w.a = PIA_Pn_CTL 0 + 0x200 * n + o) :
    w.pia s = w.pawnReg n o s := by
  have hlow : 0x02A04000 ≤ w.a := by simp only [h, PIA_Pn_CTL]; omega
  have hset : (w.a == PIA_FLAG_SET) = false := by simp only [PIA_FLAG_SET, beq_eq_false_iff_ne]; omega
  have hclr : (w.a == PIA_FLAG_CLR) = false := by simp only [PIA_FLAG_CLR, beq_eq_false_iff_ne]; omega
  have hgrp : regIdx (PIA_Gg_CTL 0) 0x40 4 w.a = none := regIdx_none (by simp only [PIA_Gg_CTL]; omega)
  have hpin : regIdx (PIA_PIOi_CFG 0) 8 96 w.a = none := regIdx_none (by simp only [PIA_PIOi_CFG]; omega)
  have heng : regIdx (PIA_Pn_CTL 0) 0x200 32 w.a = some (n, o) := h ▸ regIdx_some hn ho
  simp [RegW.pia, hset, hclr, hgrp, hpin, heng]

theorem apply_PIA_SAFE {n : Fin 32} {j : Fin 4} (h : w.a = PIA_SAFE n j) : w.apply unitPIA pins s = w.put s := by
  have hn := n.isLt
  have hj := j.isLt
  have ha : w.a = PIA_Pn_CTL 0 + 0x200 * n + (0x80 + 8 * j) := by rw [h]; simp only [PIA_SAFE, PIA_Pn_CTL]; omega
  have hc : unitPIA.common + 0x30 ≤ w.a := by rw [h]; simp only [PIA_SAFE, unitPIA, uPIA]; omega
  calc w.apply unitPIA pins s = w.pia s := apply_outside_common hc
    _ = w.pawnReg n (0x80 + 8 * j) s := pia_engine hn (by omega) ha
    _ = w.put s := pawnReg_put (by omega)

theorem apply_HIC_FW_BASE {k : Fin 64} (h : w.a = HIC_FWw_BASE k) : w.apply unitHIC pins s = w.put s := by
  have hk := k.isLt
  have hc : unitHIC.common + 0x30 ≤ w.a := by rw [h]; simp only [HIC_FWw_BASE, unitHIC, uHIC]; omega
  have hpart : regIdx (HIC_PARTp_SLICE 0) 0x100 6 w.a = none :=
    regIdx_none (by rw [h]; simp only [HIC_FWw_BASE, HIC_PARTp_SLICE]; omega)
  calc w.apply unitHIC pins s = w.hic s := apply_outside_common hc
    _ = w.put s := by simp only [RegW.hic, hpart]

theorem apply_NTU_LT_TRIM (h : w.a = NTU_LT_TRIM) : w.apply unitNTU pins s = w.put s := by
  have hc : unitNTU.common + 0x30 ≤ w.a := by rw [h]; decide
  calc w.apply unitNTU pins s = w.ntu s := apply_outside_common hc
    _ = w.put s := by
      unfold RegW.ntu
      rw [h]
      rfl

end Apply

/-! ## Words by their bits -/

/-- Two words agree in a field where they agree in its bits. -/
theorem bitsOf_congr {w w' : Word} {hi lo : Nat} (h : ∀ i, lo ≤ i → i ≤ hi → w.getLsbD i = w'.getLsbD i) :
    bitsOf w hi lo = bitsOf w' hi lo := by
  have e : w.extractLsb' lo (hi + 1 - lo) = w'.extractLsb' lo (hi + 1 - lo) := by
    ext i hi'
    simpa [hi'] using h (lo + i) (by omega) (by omega)
  simpa [bitsOf, BitVec.extractLsb'_toNat, Nat.shiftRight_eq_div_pow] using congrArg BitVec.toNat e

theorem getLsbD_bits {f : FieldDef} (h : f.lo ≤ f.hi) (h64 : f.hi < 64) (i : Nat) :
    f.bits.getLsbD i = decide (f.lo ≤ i ∧ i ≤ f.hi) := by
  have hm : (2 ^ 64 - 1) % 2 ^ (f.hi + 1 - f.lo) = 2 ^ (f.hi + 1 - f.lo) - 1 := by
    refine Nat.eq_of_testBit_eq fun j => ?_
    rw [Nat.testBit_mod_two_pow, Nat.testBit_two_pow_sub_one, Nat.testBit_two_pow_sub_one, ← Bool.decide_and,
      decide_eq_decide]
    omega
  have e : f.bits.toNat = 2 ^ f.lo * (2 ^ (f.hi + 1 - f.lo) - 1) := by
    rw [FieldDef.bits, putBits_toNat _ _ h h64, hm]
    simp
  rw [BitVec.getLsbD, e, Nat.testBit_two_pow_mul, Nat.testBit_two_pow_sub_one, ← Bool.decide_and, decide_eq_decide]
  omega

theorem getLsbD_halfBits (lo hi : Bool) {i : Nat} (h : i < 64) :
    (halfBits lo hi).getLsbD i = if i < 32 then lo else hi := by
  have hl : (0x00000000FFFFFFFF : Word) = FieldDef.bits ⟨31, 0, .ro, 0, [], false⟩ := by decide
  have hh : (0xFFFFFFFF00000000 : Word) = FieldDef.bits ⟨63, 32, .ro, 0, [], false⟩ := by decide
  rw [halfBits, hl, hh]
  by_cases h32 : i < 32
  · have h1 : i ≤ 31 := by omega
    have h2 : ¬32 ≤ i := by omega
    cases lo <;> cases hi <;> simp [getLsbD_bits, h32, h1, h2]
  · have h1 : ¬i ≤ 31 := by omega
    have h2 : 32 ≤ i ∧ i ≤ 63 := by omega
    cases lo <;> cases hi <;> simp [getLsbD_bits, h32, h1, h2]

/-- A merge by halves, seen in a field of the lower one (R13). -/
theorem bitsOf_merge_low (cur v : Word) (lo hi : Bool) {h l : Nat} (hh : h < 32) :
    bitsOf ((cur &&& ~~~halfBits lo hi) ||| (v &&& halfBits lo hi)) h l = bitsOf (if lo then v else cur) h l := by
  refine bitsOf_congr fun i _ hi' => ?_
  have h32 : i < 32 := by omega
  have h64 : i < 64 := by omega
  cases lo <;> simp [-BitVec.getLsbD_eq_getElem, getLsbD_halfBits _ _ h64, h32, h64]

/-! ## What a write carries and leaves in a field -/

/-- A register's fields lie in its 64 bits and share none. -/
abbrev NeatFields (l : List FieldDef) : Prop :=
  (∀ f ∈ l, f.lo ≤ f.hi ∧ f.hi < 64) ∧ ∀ f ∈ l, ∀ g ∈ l, g = f ∨ g.hi < f.lo ∨ f.hi < g.lo

theorem getLsbD_foldl_or (part : FieldDef → Word) (l : List FieldDef) (w : Word) (i : Nat) :
    (l.foldl (fun w f => w ||| part f) w).getLsbD i = (w.getLsbD i || l.any fun f => (part f).getLsbD i) := by
  induction l generalizing w with
  | nil => simp
  | cons f l ih => rw [List.foldl_cons, ih, BitVec.getLsbD_or, List.any_cons, Bool.or_assoc]

/-- A word put together from a value for each field: a field holds its own value. -/
theorem bitsOf_foldl_or (val : FieldDef → Word) {l : List FieldDef} (hl : NeatFields l) {f : FieldDef}
    (hf : f ∈ l) :
    bitsOf (l.foldl (fun w g => w ||| (val g &&& g.bits)) 0) f.hi f.lo = bitsOf (val f) f.hi f.lo := by
  obtain ⟨hok, hap⟩ := hl
  have hbits : ∀ g ∈ l, ∀ i, g.bits.getLsbD i = decide (g.lo ≤ i ∧ i ≤ g.hi) :=
    fun g hg => getLsbD_bits (hok g hg).1 (hok g hg).2
  refine bitsOf_congr fun i hlo hhi => ?_
  have hany : (l.any fun g => (val g &&& g.bits).getLsbD i) = (val f).getLsbD i := by
    rw [Bool.eq_iff_iff, List.any_eq_true]
    refine ⟨fun ⟨g, hg, h⟩ => ?_, fun h => ⟨f, hf, ?_⟩⟩
    · rw [BitVec.getLsbD_and, hbits g hg, Bool.and_eq_true, decide_eq_true_eq] at h
      obtain ⟨hv, hgi⟩ := h
      have e : g = f := (hap f hf g hg).resolve_right (by omega)
      exact e ▸ hv
    · rw [BitVec.getLsbD_and, h, hbits f hf, decide_eq_true ⟨hlo, hhi⟩, Bool.and_self]
  rw [getLsbD_foldl_or, hany]
  simp

/-- What a write carries in one field (R9, R13, R376). -/
def FieldDef.carriedVal (who : Nat) (cur v m : Word) (f : FieldDef) : Word :=
  let off := f.owner && foreign who
  match f.acc with
  | .rw | .rwl => if off then cur else (cur &&& ~~~m) ||| (v &&& m)
  | .wo | .w1c | .w1s => if off then 0 else v &&& m
  | .ro | .rc => 0

/-- What a write that carries `c` leaves in one field (R9, R10). -/
def FieldDef.storedVal (locked : Bool) (cur c : Word) (f : FieldDef) : Word :=
  match f.acc with
  | .rw => c
  | .rwl => if locked then cur else c
  | .w1c => cur &&& ~~~c
  | .w1s => cur ||| c
  | .ro | .rc => cur
  | .wo => 0

theorem carried_eq_foldl (r : RegDef) (who : Nat) (cur v m : Word) :
    r.carried who cur v m = r.fields.foldl (fun w f => w ||| (f.carriedVal who cur v m &&& f.bits)) 0 := by
  unfold RegDef.carried
  congr 1
  funext w f
  have comm : ∀ x y : Word, x &&& f.bits &&& y = x &&& y &&& f.bits := fun x y => by ac_rfl
  have dist : ∀ x y : Word, (x &&& f.bits) ||| (y &&& f.bits) = (x ||| y) &&& f.bits := fun x y => by
    ext i
    simp [Bool.and_or_distrib_right]
  cases hf : f.acc <;> cases ho : f.owner && foreign who <;>
    simp [FieldDef.carriedVal, hf, ho, comm, dist]

theorem stored_eq_foldl (r : RegDef) (locked : Bool) (cur c : Word) :
    r.stored locked cur c = r.fields.foldl (fun w f => w ||| (f.storedVal locked cur c &&& f.bits)) 0 := by
  unfold RegDef.stored
  congr 1
  funext w f
  have comm : cur &&& f.bits &&& ~~~c = cur &&& ~~~c &&& f.bits := by ac_rfl
  cases hf : f.acc <;> simp [FieldDef.storedVal, hf, comm]

theorem bitsOf_carried {r : RegDef} (hr : NeatFields r.fields) {f : FieldDef} (hf : f ∈ r.fields) (who : Nat)
    (cur v m : Word) :
    bitsOf (r.carried who cur v m) f.hi f.lo = bitsOf (f.carriedVal who cur v m) f.hi f.lo := by
  rw [carried_eq_foldl, bitsOf_foldl_or _ hr hf]

theorem bitsOf_stored {r : RegDef} (hr : NeatFields r.fields) {f : FieldDef} (hf : f ∈ r.fields) (locked : Bool)
    (cur c : Word) : bitsOf (r.stored locked cur c) f.hi f.lo = bitsOf (f.storedVal locked cur c) f.hi f.lo := by
  rw [stored_eq_foldl, bitsOf_foldl_or _ hr hf]

/-- A field of the owner keeps its value when another partition writes the register (R376). -/
theorem bitsOf_stored_foreign {r : RegDef} (hr : NeatFields r.fields) {f : FieldDef} (hf : f ∈ r.fields) {who : Nat}
    (hw : foreign who = true) (ho : f.owner = true) (ha : f.acc = .rw) (locked : Bool) (cur v m : Word) :
    bitsOf (r.stored locked cur (r.carried who cur v m)) f.hi f.lo = bitsOf cur f.hi f.lo := by
  have hs : ∀ c, f.storedVal locked cur c = c := fun c => by simp only [FieldDef.storedVal, ha]
  have hc : f.carriedVal who cur v m = cur := by simp [FieldDef.carriedVal, ha, ho, hw]
  rw [bitsOf_stored hr hf, hs, bitsOf_carried hr hf, hc]

/-- A locked field keeps its value (R10, R555). -/
theorem bitsOf_stored_locked {r : RegDef} (hr : NeatFields r.fields) {f : FieldDef} (hf : f ∈ r.fields)
    (ha : f.acc = .rwl) (cur c : Word) : bitsOf (r.stored true cur c) f.hi f.lo = bitsOf cur f.hi f.lo := by
  rw [bitsOf_stored hr hf]
  simp only [FieldDef.storedVal, ha, if_true]

/-- A stored field of the lower half carries the value written where that half is addressed, else the one held (R13). -/
theorem bitsOf_carried_low {r : RegDef} (hr : NeatFields r.fields) {f : FieldDef} (hf : f ∈ r.fields)
    (ha : f.acc = .rw ∨ f.acc = .rwl) (ho : f.owner = false) (hh : f.hi < 32) (who : Nat) (cur v : Word)
    (lo hi : Bool) :
    bitsOf (r.carried who cur v (halfBits lo hi)) f.hi f.lo = bitsOf (if lo then v else cur) f.hi f.lo := by
  have hc : f.carriedVal who cur v (halfBits lo hi) = (cur &&& ~~~halfBits lo hi) ||| (v &&& halfBits lo hi) := by
    rcases ha with ha | ha <;> simp only [FieldDef.carriedVal, ha, ho, Bool.false_and, Bool.false_eq_true, if_false]
  rw [bitsOf_carried hr hf, hc, bitsOf_merge_low _ _ _ _ hh]

/-- The one field of a register without gaps. -/
theorem and_bits_full (x : Word) (acc : Acc) (reset : Nat) (ok : List (Nat × Nat)) (owner : Bool) :
    x &&& FieldDef.bits ⟨63, 0, acc, reset, ok, owner⟩ = x := by
  refine BitVec.eq_of_getLsbD_eq fun i hi => ?_
  rw [BitVec.getLsbD_and, getLsbD_bits (Nat.zero_le _) (Nat.lt_succ_self 63),
    decide_eq_true ⟨Nat.zero_le i, Nat.le_of_lt_succ hi⟩, Bool.and_true]

end Sys2Proof.Machine
end

section
/-! PROOF of RegisterWrites (R9, R12, R13, R376, R548, R551, R555): what a write carries and leaves in the five kinds of
registers that the clauses name, then the clauses from the way of a register write. -/

namespace Sys2Proof.Machine

theorem neat_CLKDIV : NeatFields defCLKDIV.fields := by decide
theorem neat_FW_BASE : NeatFields defFW_BASE.fields := by decide
theorem neat_LT_TRIM : NeatFields defLT_TRIM.fields := by decide

theorem carried_SAFE (who : Nat) (cur v m : Word) : defSAFE.carried who cur v m = (cur &&& ~~~m) ||| (v &&& m) := by
  simp [RegDef.carried, defSAFE, and_bits_full]

theorem stored_SAFE (locked : Bool) (cur c : Word) : defSAFE.stored locked cur c = c := by
  simp [RegDef.stored, defSAFE, and_bits_full]

theorem carried_ISTAT (who : Nat) (cur v m : Word) : defISTAT.carried who cur v m = v &&& m := by
  simp [RegDef.carried, defISTAT, and_bits_full]

theorem stored_ISTAT (locked : Bool) (cur c : Word) : defISTAT.stored locked cur c = cur &&& ~~~c := by
  simp [RegDef.stored, defISTAT, and_bits_full]

/-- SAFE, ISTAT and the windows take every value. -/
theorem not_bad_SAFE (c : Word) : defSAFE.bad c = false := rfl
theorem not_bad_ISTAT (c : Word) : defISTAT.bad c = false := rfl
theorem not_bad_FW_BASE (c : Word) : defFW_BASE.bad c = false := rfl

/-- NUM of PIA_Pn_CLKDIV is 1 to 65535. -/
theorem bad_CLKDIV {c : Word} (h : bitsOf c 15 0 = 0) : defCLKDIV.bad c = true := by
  simp [RegDef.bad, defCLKDIV, FieldDef.accepts, h]

/-- TRIM up to 1073742 is in range. -/
theorem not_bad_LT_TRIM {c : Word} (h : bitsOf c 31 0 ≤ 1073742) : defLT_TRIM.bad c = false := by
  simp [RegDef.bad, defLT_TRIM, FieldDef.accepts, h]

/-! ## The clauses -/

section Clauses

variable {s : State} {who : Fin 33} {v : Word} {lo hi : Bool} {pins : AccPins}

/-- A write that stores changes one register. -/
theorem gives_setReg {o : Host.Outcome State Fault Refusal} {a : Nat} {x : Word} (h : o = .next (s.setReg a x)) :
    Gives o fun t => t.reg a = x ∧ RegsBut [a] s t ∧ Changes [.regs] s t :=
  ⟨_, h, State.reg_setReg_same .., regsBut_setReg s a x, (State.setReg_keeps ..).changes rfl⟩

/-- A write of a reserved value sets CFG_ERR. -/
theorem gives_cfgErr {o : Host.Outcome State Fault Refusal} {a : Nat} {u : UnitDef} (hu : unitAt a = some u)
    (h : o = .next (s.cfgErr a)) :
    Gives o fun t => t.bit (cUSTAT_CFG_ERR u.base) = true ∧ RegsBut [(cUSTAT_CFG_ERR u.base).addr] s t ∧
      Changes [.regs] s t :=
  ⟨_, h, cfgErr_sets hu, regsBut_cfgErr hu, (State.cfgErr_keeps ..).changes rfl⟩

theorem exec_write_SAFE (n : Fin 32) (j : Fin 4) (hp : s.pcieDead who = false) (hd : s.domOn 8 = true) :
    exec (.registerWrite who (BitVec.ofNat 32 (PIA_SAFE n j)) v lo hi pins) s =
      .next (s.setReg (PIA_SAFE n j)
        ((s.reg (PIA_SAFE n j) &&& ~~~halfBits lo hi) ||| (v &&& halfBits lo hi))) := by
  have ha := regHere_PIA_SAFE n j
  rw [exec_registerWrite ha hp, regWrite_put ha hd (not_bad_SAFE _) fun w hw => apply_PIA_SAFE hw, stored_SAFE,
    carried_SAFE]

theorem exec_write_ISTAT (hp : s.pcieDead who = false) (hd : s.domOn 8 = true) :
    exec (.registerWrite who (BitVec.ofNat 32 (cISTAT uPIA).addr) v lo hi pins) s =
      .next (s.setReg (cISTAT uPIA).addr (s.reg (cISTAT uPIA).addr &&& ~~~(v &&& halfBits lo hi))) := by
  have ha := regHere_PIA_ISTAT
  have hput : ∀ w : RegW, w.a = (cISTAT uPIA).addr → w.apply unitPIA pins s = w.put s := fun w hw =>
    apply_common (by rw [hw]; decide) (by rw [hw]; decide)
  rw [exec_registerWrite ha hp, regWrite_put ha hd (not_bad_ISTAT _) hput, stored_ISTAT, carried_ISTAT]

theorem exec_write_CLKDIV (n : Fin 32) (hp : s.pcieDead who = false) (hd : s.domOn 8 = true) (h : bitsOf v 15 0 = 0) :
    exec (.registerWrite who (BitVec.ofNat 32 (PIA_Pn_CLKDIV n)) v true hi pins) s =
      .next (s.cfgErr (PIA_Pn_CLKDIV n)) := by
  have ha := regHere_PIA_CLKDIV n
  have hc := bitsOf_carried_low neat_CLKDIV (f := ⟨15, 0, .rw, 0x1, [(1, 65535)], false⟩) (by decide) (.inl rfl) rfl
    (by decide) who (s.reg (PIA_Pn_CLKDIV n)) v true hi
  rw [exec_registerWrite ha hp, regWrite_bad ha hd (bad_CLKDIV (hc.trans h))]

theorem exec_write_FW_BASE (k : Fin 64) (hp : s.pcieDead who = false) (hd : s.domOn 3 = true) :
    exec (.registerWrite who (BitVec.ofNat 32 (HIC_FWw_BASE k)) v lo hi pins) s =
      .next (s.setReg (HIC_FWw_BASE k) (defFW_BASE.stored (s.regLocked uHIC (HIC_FWw_BASE k) (s.reg (HIC_FWw_BASE k)))
        (s.reg (HIC_FWw_BASE k)) (defFW_BASE.carried who (s.reg (HIC_FWw_BASE k)) v (halfBits lo hi)))) := by
  have ha := regHere_HIC_FW_BASE k
  rw [exec_registerWrite ha hp, regWrite_put ha hd (not_bad_FW_BASE _) fun w hw => apply_HIC_FW_BASE hw]
  rfl

theorem exec_write_LT_TRIM (hp : s.pcieDead who = false) (hd : s.domOn 6 = true)
    (hl : s.bit (cUCTL_LOCK uNTU) = true) (hv : bitsOf v 31 0 ≤ 1073742) (hs : s.rd NTU_LT_TRIM_TRIM ≤ 1073742) :
    exec (.registerWrite who (BitVec.ofNat 32 NTU_LT_TRIM) v lo hi pins) s =
      .next (s.setReg NTU_LT_TRIM (defLT_TRIM.stored true (s.reg NTU_LT_TRIM)
        (defLT_TRIM.carried who (s.reg NTU_LT_TRIM) v (halfBits lo hi)))) := by
  have ha := regHere_NTU_LT_TRIM
  have hc := bitsOf_carried_low neat_LT_TRIM
    (f := ⟨31, 0, .rwl, 0x0, [(0, 1073742), (4293893554, 4294967295)], false⟩) (by decide) (.inr rfl) rfl
    (by decide) who (s.reg NTU_LT_TRIM) v lo hi
  have hr : bitsOf (if lo then v else s.reg NTU_LT_TRIM) 31 0 ≤ 1073742 := by
    cases lo
    · exact hs
    · exact hv
  have hk : s.regLocked unitNTU.base NTU_LT_TRIM (s.reg NTU_LT_TRIM) = true := by
    simp only [State.regLocked, unitNTU, hl, Bool.true_or]
  rw [exec_registerWrite ha hp,
    regWrite_put ha hd (not_bad_LT_TRIM (hc.trans_le hr)) fun w hw => apply_NTU_LT_TRIM hw, hk]

end Clauses

/-- Settles O33: one clause for each rule of a register write. -/
theorem registerWrites : Obligations.RegisterWrites := by
  intro s who n j w v lo hi pins hp m write only err
  refine ⟨fun hd => ?_, fun hd => ?_, fun hd => ?_, fun hd hlo h0 => ?_, fun hd h1 h5 => ?_, fun hd hl hv hs => ?_⟩
  · exact gives_setReg (exec_write_SAFE n j hp hd)
  · have ha := regHere_PIA_SAFE n j
    exact ⟨_, exec_registerWrite ha hp, regWrite_off ha hd⟩
  · exact gives_setReg (exec_write_ISTAT hp hd)
  · subst hlo
    exact gives_cfgErr (regHere_PIA_CLKDIV n).unit (exec_write_CLKDIV n hp hd h0)
  · obtain ⟨t, ht, hx, hr, hc⟩ := gives_setReg (exec_write_FW_BASE w hp hd)
    have hw : foreign who = true := by simp [foreign, h1, h5]
    have hk : ∀ f ∈ defFW_BASE.fields, bitsOf (t.reg (HIC_FWw_BASE w)) f.hi f.lo =
        bitsOf (s.reg (HIC_FWw_BASE w)) f.hi f.lo := by
      intro f hf
      have hall : ∀ f ∈ defFW_BASE.fields, f.owner = true ∧ f.acc = .rw := by decide
      obtain ⟨howner, hacc⟩ := hall f hf
      rw [hx, bitsOf_stored_foreign neat_FW_BASE hf hw howner hacc]
    refine ⟨t, ht, ?_, ?_, ?_, hr, hc⟩
    · exact congrArg (· == 1) (hk ⟨63, 63, .rw, 0x0, [], true⟩ (by decide))
    · exact congrArg (· == 1) (hk ⟨62, 62, .rw, 0x0, [], true⟩ (by decide))
    · exact hk ⟨31, 3, .rw, 0x0, [], true⟩ (by decide)
  · obtain ⟨t, ht, hx, hr, hc⟩ := gives_setReg (exec_write_LT_TRIM hp hd hl hv hs)
    refine ⟨t, ht, ?_, hr, hc⟩
    have hk := bitsOf_stored_locked neat_LT_TRIM
      (f := ⟨31, 0, .rwl, 0x0, [(0, 1073742), (4293893554, 4294967295)], false⟩) (by decide) rfl (s.reg NTU_LT_TRIM)
    exact (congrArg (bitsOf · 31 0) hx).trans (hk _)

end Sys2Proof.Machine
end

section
/-! REFUTATION of CyclePhasesAndControl (R39, R508): CB_OUT reads the slices of its SUM in the filling copy, and an uncorrectable
word met there marks the image of the cycle ECC_UE, where the clause of CB_OUT leaves the image out of what changes. -/

namespace Sys2Proof.Machine

/-- OP, at the edge of CB_OUT, which no phase of lower index shares: segment 0 is CYCLIC, has sent its CSF and sends a
SUM whose slice 0 is taken from word 0 of the filling copy, and that word is uncorrectable. -/
def sumReadsBadWord : State :=
  let s := [6, 8, 9].foldl (fun s d => s.wr (CRP_PD_STAT_STATE d) 2) State.reset
  let s := ((s.wr (MEM_BANK_STATr_STATE 0 0) 1).wr SYSCTL_MODE_MODE 7).wrB NTU_CYC_CTL_RUN true
  let s := (s.setSegState 0 4).setSeg 0 { CbSeg.reset with csfSent := true }
  let s := (s.wrB (CBC_SEGs_SLICEk_EN 0 0) true).putMem { s.mem with badWords := [(0, 1)] }
  s.putNtu { s.ntu with
    lt := 8 * nsU
    cyc := { s.ntu.cyc with
      started := true
      act := { s.ntu.cyc.act with phases := [0, 0, 0, 0, 8, 16, 16, 16] } } }

/-- The read of the slice marks the image ECC_UE. -/
theorem cbOut_marks_image : (sumReadsBadWord.phaseAct 4).image.reasons = 4 := by decide +kernel

theorem image_reasons_before : sumReadsBadWord.image.reasons = 0 := rfl

theorem cbOut_due : sumReadsBadWord.cycLive = true ∧ phaseAlone sumReadsBadWord 4 := by unfold phaseAlone; decide +kernel

/-- What the clause of CB_OUT says of the image, which is none of the parts it lists. -/
theorem image_phaseAct_cbOut (h : Rules.cyclePhases) {s : State} (live : s.cycLive = true) (alone : phaseAlone s 4) :
    (s.phaseAct 4).image = s.image := by
  obtain ⟨-, -, -, -, cbOut, -⟩ := h s live
  obtain ⟨t, ht, -, same⟩ := cbOut alone
  cases ht
  exact same .image (by decide)

/-- Refutes O12: the SUM of CB_OUT meets an uncorrectable word of the filling copy, and the image is marked (R39). -/
theorem not_cyclePhasesAndControl : ¬ Obligations.CyclePhasesAndControl := by
  rintro ⟨phases, -⟩
  obtain ⟨live, alone⟩ := cbOut_due
  have same := congrArg ImageSt.reasons (image_phaseAct_cbOut phases live alone)
  rw [cbOut_marks_image, image_reasons_before] at same
  exact absurd same (by decide)

end Sys2Proof.Machine
end

section
/-! SUPPORT. Bytes and words of memory, and one aligned word on the fabric: what is read there and what is stored
(Machine/Ops.lean). -/

namespace Sys2Proof.Machine

/-! ## Bytes -/

@[simp] theorem length_bytesLE (n v : Nat) : (bytesLE n v).length = n := by
  induction n generalizing v with
  | zero => rfl
  | succ n ih => simp [bytesLE, ih]

@[simp] theorem length_memBytes (m : List Host.Cell) (a n : Nat) : (memBytes m a n).length = n := by
  induction n generalizing a with
  | zero => rfl
  | succ n ih => simp [memBytes, ih]

theorem natOfLE_lt (b : List Byte) : natOfLE b < 256 ^ b.length := by
  induction b with
  | nil => exact Nat.one_pos
  | cons x t ih =>
    have hx : x.toNat < 256 := x.isLt
    simp only [natOfLE, List.length_cons, Nat.pow_succ]
    omega

theorem bytesLE_natOfLE (b : List Byte) : bytesLE b.length (natOfLE b) = b := by
  induction b with
  | nil => rfl
  | cons x t ih =>
    have hx : x.toNat < 256 := x.isLt
    have hm : (x.toNat + 256 * natOfLE t) % 256 = x.toNat := by omega
    have hd : (x.toNat + 256 * natOfLE t) / 256 = natOfLE t := by omega
    simp only [natOfLE, List.length_cons, bytesLE, hm, hd, ih, BitVec.ofNat_toNat, BitVec.setWidth_eq]

theorem natOfLE_bytesLE (n v : Nat) : natOfLE (bytesLE n v) = v % 256 ^ n := by
  induction n generalizing v with
  | zero => simp [bytesLE, natOfLE, Nat.mod_one]
  | succ n ih =>
    simp only [bytesLE, natOfLE, ih, BitVec.toNat_ofNat]
    have e : 256 ^ (n + 1) = 256 * 256 ^ n := Nat.pow_succ'
    rw [e, Nat.mod_mul, Nat.mod_mod_of_dvd _ (by decide)]

theorem natOfLE_word (w : Word) : natOfLE (bytesLE 8 w.toNat) = w.toNat := by
  rw [natOfLE_bytesLE]
  exact Nat.mod_eq_of_lt w.isLt

/-- The bytes of a word of memory are the bytes at its address. -/
theorem bytesLE_memWord (m : List Host.Cell) (a : Nat) : bytesLE 8 (memWord m a).toNat = memBytes m a 8 := by
  have hl : natOfLE (memBytes m a 8) < 2 ^ 64 := by
    have h := natOfLE_lt (memBytes m a 8)
    rwa [length_memBytes] at h
  have hb := bytesLE_natOfLE (memBytes m a 8)
  rw [length_memBytes] at hb
  rw [memWord, BitVec.toNat_ofNat, Nat.mod_eq_of_lt hl, hb]

/-! ## A run of bytes in a memory -/

theorem memByte_memPutBytes_outside (m : List Host.Cell) (a : Nat) (b : List Byte) {x : Nat}
    (h : x < a ∨ a + b.length ≤ x) : memByte (memPutBytes m a b) x = memByte m x := by
  induction b generalizing m a with
  | nil => rfl
  | cons y t ih =>
    rw [List.length_cons] at h
    rw [memPutBytes, ih _ _ (by omega)]
    exact mapGet_put_other _ _ _ (by omega)

theorem memBytes_memPutBytes (m : List Host.Cell) (a : Nat) (b : List Byte) :
    memBytes (memPutBytes m a b) a b.length = b := by
  induction b generalizing m a with
  | nil => rfl
  | cons y t ih =>
    have hy : memByte (memPutBytes (memPut m a y) (a + 1) t) a = y :=
      (memByte_memPutBytes_outside _ _ _ (.inl (Nat.lt_succ_self a))).trans (mapGet_put_same _ _ _ _)
    rw [List.length_cons, memPutBytes, memBytes, hy, ih]

/-! ## One aligned word on the fabric (R499, R505, R508) -/

/-- The word at `off` is aligned, in a bank that is ON and outside the vault, and no word is uncorrectable. -/
structure SramHere (s : State) (off : Nat) : Prop where
  aligned : off % 8 = 0
  on : s.bankState (off / 0x80000) = 1
  unvaulted : off < 0x2600000
  clean : s.mem.badWords = []

theorem SramHere.notVault {s : State} {off : Nat} (h : SramHere s off) : vaultOff off = false :=
  decide_eq_false (Nat.not_le.2 h.unvaulted)

theorem sramWriteWord_here {s : State} {off : Nat} (h : SramHere s off) (b : List Byte) :
    s.sramWriteWord false off b = s.putSram (memPutBytes s.sram off b) := by
  simp [State.sramWriteWord, h.notVault, h.on, h.clean, mapGet]

theorem sramWrite_here {s : State} {off : Nat} (h : SramHere s off) {b : List Byte} (hb : b.length = 8) :
    s.sramWrite false off b = s.putSram (memPutBytes s.sram off b) := by
  have hne : b.isEmpty = false := by
    rw [List.isEmpty_eq_false_iff]
    exact List.ne_nil_of_length_pos (by omega)
  simp [State.sramWrite, hb, State.sramWriteN, hne, h.aligned, List.take_of_length_le, List.drop_of_length_le,
    sramWriteWord_here h]

theorem sramRead_here {s : State} {off : Nat} (h : SramHere s off) :
    s.sramRead false off = (memWord s.sram off, false, s) := by
  have ha : off / 8 * 8 = off := Nat.div_mul_cancel (Nat.dvd_of_mod_eq_zero h.aligned)
  simp [State.sramRead, h.notVault, h.on, h.clean, mapGet, ha]

theorem sramReadBytes_here {s : State} {off : Nat} (h : SramHere s off) :
    s.sramReadBytes false off 8 = (memBytes s.sram off 8, false, s) := by
  have ha : off / 8 * 8 = off := Nat.div_mul_cancel (Nat.dvd_of_mod_eq_zero h.aligned)
  simp [State.sramReadBytes, h.aligned, ha, State.sramReadWords, sramRead_here h, wordsBytes, bytesLE_memWord,
    List.take_of_length_le]

end Sys2Proof.Machine
end

section
/-! SUPPORT. Denials of the firewall (R383): what one counts, latches and raises (Machine/Hic.lean). -/

namespace Sys2Proof.Machine

/-! ## Events and denials (R383, R394) -/

theorem RegsBut.refl {l : List Nat} {s : State} : RegsBut l s s := fun _ _ => rfl

/-- A further write inside the list. -/
theorem RegsBut.wr {l : List Nat} {s t : State} (h : RegsBut l s t) {f : Fld} (hf : f.addr ∈ l) (v : Nat) :
    RegsBut l s (t.wr f v) :=
  h.trans ((regsBut_wr t f v).mono (by simpa using hf))

theorem RegsBut.wrB {l : List Nat} {s t : State} (h : RegsBut l s t) {f : Fld} (hf : f.addr ∈ l) (b : Bool) :
    RegsBut l s (t.wrB f b) := h.wr hf _

/-- An event writes no register but the one that shows it. -/
theorem regsBut_raiseEvent (s : State) (p src : Nat) : RegsBut [HIC_PARTp_IRQ p] s (s.raiseEvent p src) := by
  have h : RegsBut [HIC_PARTp_IRQ p] s (s.orF (HIC_PARTp_IRQ_PEND p) (2 ^ src)) := regsBut_wr s (HIC_PARTp_IRQ_PEND p) _
  unfold State.raiseEvent
  split
  · exact RegsBut.refl
  · extract_lets was s1
    split
    · exact h
    · exact h

/-- The latch of a denial, which holds the first one. -/
def State.latchDenial (s : State) (q : Nat) (mem write : Bool) (addr : Nat) : State :=
  if s.bit HIC_STAT_VALID then s
  else ((((s.wrB HIC_STAT_VALID true).wrB HIC_STAT_DENY_SPACE mem).wr HIC_STAT_DENY_PART q).wrB
    HIC_STAT_DENY_WR write).wr HIC_STAT_DENY_ADDR addr

theorem regsBut_latchDenial (s : State) (q : Nat) (mem write : Bool) (addr : Nat) :
    RegsBut [HIC_STAT] s (s.latchDenial q mem write addr) := by
  have hm : HIC_STAT ∈ [HIC_STAT] := List.mem_singleton_self _
  unfold State.latchDenial
  split
  · exact RegsBut.refl
  · exact ((((RegsBut.refl.wrB hm true).wrB hm mem).wr hm q).wrB hm write).wr hm addr

/-- A denial is counted, latched, and raised at the partition and at partition 0. -/
theorem regsBut_fwDeny (s : State) (q : Nat) (mem write : Bool) (addr : Nat) :
    RegsBut [HIC_PARTp_IRQ q, HIC_PARTp_IRQ 0] ((s.inc (HIC_PARTp_CNT_FW_DENY q)).latchDenial q mem write addr)
      (s.fwDeny q mem write addr) := by
  unfold State.fwDeny
  extract_lets s1 s2 s3
  have hq : RegsBut [HIC_PARTp_IRQ q, HIC_PARTp_IRQ 0] s2 s3 := (regsBut_raiseEvent s2 q 10).mono (by simp)
  split
  · exact hq
  · exact hq.trans ((regsBut_raiseEvent s3 0 10).mono (by simp))

theorem HIC_PARTp_CNT_ne_IRQ (q p : Nat) : HIC_PARTp_CNT q ≠ HIC_PARTp_IRQ p := by
  simp only [HIC_PARTp_CNT, HIC_PARTp_IRQ]
  omega

theorem HIC_STAT_ne_IRQ (p : Nat) : HIC_STAT ≠ HIC_PARTp_IRQ p := by
  simp only [HIC_STAT, HIC_PARTp_IRQ]
  omega

theorem HIC_PARTp_CNT_ne_STAT (q : Nat) : HIC_PARTp_CNT q ≠ HIC_STAT := by
  simp only [HIC_STAT, HIC_PARTp_CNT]
  omega

theorem countsOne_inc (s : State) {f : Fld} (h : f.ok = true) : CountsOne f s (s.inc f) := s.rd_incBy 1 h

theorem countsOne_fwDeny (s : State) (q : Nat) (mem write : Bool) (addr : Nat) :
    CountsOne (HIC_PARTp_CNT_FW_DENY q) s (s.fwDeny q mem write addr) := by
  have hirq : (HIC_PARTp_CNT_FW_DENY q).addr ∉ [HIC_PARTp_IRQ q, HIC_PARTp_IRQ 0] := by
    simp [HIC_PARTp_CNT_FW_DENY, HIC_PARTp_CNT_ne_IRQ]
  have hstat : (HIC_PARTp_CNT_FW_DENY q).addr ∉ [HIC_STAT] := by
    simp [HIC_PARTp_CNT_FW_DENY, HIC_PARTp_CNT_ne_STAT]
  rw [CountsOne, (regsBut_fwDeny s q mem write addr).rd_eq hirq, (regsBut_latchDenial _ q mem write addr).rd_eq hstat]
  exact countsOne_inc s rfl

/-- Of the first denial the latch shows the partition, the direction, the space and the address. -/
structure DenialShown (q : Nat) (mem write : Bool) (addr : Nat) (t : State) : Prop where
  valid : t.bit HIC_STAT_VALID = true
  part : t.rd HIC_STAT_DENY_PART = q
  write : t.bit HIC_STAT_DENY_WR = write
  space : t.bit HIC_STAT_DENY_SPACE = mem
  addr : t.rd HIC_STAT_DENY_ADDR = addr

theorem State.rd_congr {s t : State} {f : Fld} (h : t.reg f.addr = s.reg f.addr) : t.rd f = s.rd f := by
  simp only [State.rd, h]

theorem State.bit_congr {s t : State} {f : Fld} (h : t.reg f.addr = s.reg f.addr) : t.bit f = s.bit f := by
  simp only [State.bit, State.rd_congr h]

theorem DenialShown.congr {q : Nat} {mem write : Bool} {addr : Nat} {s t : State} (h : t.reg HIC_STAT = s.reg HIC_STAT)
    (hs : DenialShown q mem write addr s) : DenialShown q mem write addr t where
  valid := (State.bit_congr h).trans hs.valid
  part := (State.rd_congr h).trans hs.part
  write := (State.bit_congr h).trans hs.write
  space := (State.bit_congr h).trans hs.space
  addr := (State.rd_congr h).trans hs.addr

theorem denialShown_latchDenial {s : State} (h : s.bit HIC_STAT_VALID = false) {q : Nat} (hq : q < 8)
    (mem write : Bool) {addr : Nat} (ha : addr < 2 ^ 32) :
    DenialShown q mem write addr (s.latchDenial q mem write addr) := by
  simp only [State.latchDenial, h, Bool.false_eq_true, if_false]
  constructor
  case valid =>
    simp (disch := decide) only [State.wrB, State.bit_wr_apart]
    exact State.bit_wrB_same _ true rfl
  case part =>
    simp (disch := decide) only [State.wrB, State.rd_wr_apart]
    exact (State.rd_wr_same _ q rfl).trans (Nat.mod_eq_of_lt hq)
  case write =>
    simp (disch := decide) only [State.wrB, State.bit_wr_apart]
    exact State.bit_wrB_same _ write rfl
  case space =>
    simp (disch := decide) only [State.wrB, State.bit_wr_apart]
    exact State.bit_wrB_same _ mem rfl
  case addr => exact (State.rd_wr_same _ addr rfl).trans (Nat.mod_eq_of_lt ha)

theorem denialShown_fwDeny {s : State} (h : s.bit HIC_STAT_VALID = false) {q : Nat} (hq : q < 8)
    (mem write : Bool) {addr : Nat} (ha : addr < 2 ^ 32) : DenialShown q mem write addr (s.fwDeny q mem write addr) := by
  have hirq : HIC_STAT ∉ [HIC_PARTp_IRQ q, HIC_PARTp_IRQ 0] := by simp [HIC_STAT_ne_IRQ]
  have hi : (s.inc (HIC_PARTp_CNT_FW_DENY q)).bit HIC_STAT_VALID = false :=
    (State.bit_congr (State.reg_wr_ne s _ (HIC_PARTp_CNT_ne_STAT q).symm)).trans h
  exact (denialShown_latchDenial hi hq mem write ha).congr (regsBut_fwDeny s q mem write addr HIC_STAT hirq)

end Sys2Proof.Machine
end

section
/-! PROOF of HostPorts (R32, R378, R380 to R383): what the accesses come to under the hypotheses of each clause, then the
clauses from the laws of memory and of denials. -/

namespace Sys2Proof.Machine

/-! ## BAR2 (R207, R378) -/

theorem State.hostActive_aligned (s : State) {off : Nat} (h : off % 8 = 0) : s.hostActive off % 8 = 0 := by
  unfold State.hostActive
  split <;> omega

theorem State.hostStaging_aligned (s : State) {off : Nat} (h : off % 8 = 0) : s.hostStaging off % 8 = 0 := by
  unfold State.hostStaging
  split <;> omega

theorem State.roleAddr_aligned {s : State} {off x : Nat} (h : off % 8 = 0) (hx : s.roleAddr off = some x) :
    x % 8 = 0 := by
  unfold State.roleAddr at hx
  split at hx
  · rw [← Option.some.inj hx, State.fillBase]
    omega
  split at hx
  · rw [← Option.some.inj hx, State.pubBase]
    omega
  split at hx
  · have hx := Option.some.inj hx
    have ho : (off - 0x200000) % 8 = 0 := by omega
    exact hx ▸ s.hostActive_aligned ho
  · cases hx

/-- A word of BAR2 is a word of memory, whichever copy the role view resolves it to. -/
theorem State.barAddr_aligned (s : State) {a : Nat} (h : a % 8 = 0) : s.barAddr a % 8 = 0 := by
  unfold State.barAddr
  split
  · split
    next hx => exact State.roleAddr_aligned h hx
    next =>
      have ho : (a - 0x300000) % 8 = 0 := by omega
      exact s.hostStaging_aligned ho
  · exact h

theorem BarHere.sramHere {s : State} {a : Nat} (h : BarHere s a) : SramHere s (s.barAddr a) := by
  obtain ⟨aligned, on, unvaulted, clean⟩ := h
  exact ⟨s.barAddr_aligned aligned, on, unvaulted, clean⟩

theorem barStore_here {s : State} {a : Nat} (h : BarHere s a) {b : List Byte} (hb : b.length = 8) :
    s.barStore a b 9 = s.putSram (memPutBytes s.sram (s.barAddr a) b) := by
  have hne : b.isEmpty = false := by
    rw [List.isEmpty_eq_false_iff]
    exact List.ne_nil_of_length_pos (by omega)
  have ha : a % 8 = 0 := h.1
  simp [State.barStore, hne, ha, List.take_of_length_le, List.drop_of_length_le, hb, sramWrite_here h.sramHere hb]

theorem barStored_barStore {s : State} {a : Nat} (h : BarHere s a) {b : List Byte} (hb : b.length = 8) :
    BarStored s a b (s.barStore a b 9) := by
  rw [barStore_here h hb]
  refine ⟨?_, fun x hx => memByte_memPutBytes_outside _ _ _ (by rwa [hb]), ?_⟩
  · exact hb ▸ memBytes_memPutBytes _ _ _
  · exact (State.putSram_keeps s (memPutBytes_wf _ _ _)).changes rfl

theorem barLoad_here {s : State} {a : Nat} (h : BarHere s a) (hsp : Bool) :
    s.barLoad hsp a 8 9 = (memBytes s.sram (s.barAddr a) 8, false, s) := by
  have ha : a % 8 = 0 := h.1
  simp [State.barLoad, ha, sramReadBytes_here h.sramHere]

section Memory

variable {s : State} {q a : Nat} {b : List Byte}

theorem hostMemWrite_denied (hd : s.memDenied q a b.length true = true) :
    s.hostMemWrite q a b = s.fwDeny q true true a := by
  simp only [State.hostMemWrite, hd, Bool.or_true, if_true]

/-- The staging copy takes no write while a commit waits (R32). -/
theorem hostMemWrite_discarded (hc : s.barClosed = false) (hd : s.memDenied q a b.length true = false)
    (hs : stagingOff a = true) (hp : s.bit (HIC_PARTp_COMMIT_PENDING q) = true) :
    s.hostMemWrite q a b = s.inc (HIC_PARTp_CNT_DISCARDS q) := by
  simp only [State.hostMemWrite, hc, hd, hs, hp, Bool.or_self, Bool.and_self, Bool.false_eq_true, if_false, if_true]

theorem hostMemWrite_stored (hc : s.barClosed = false) (hd : s.memDenied q a b.length true = false)
    (hs : ¬(stagingOff a = true ∧ s.bit (HIC_PARTp_COMMIT_PENDING q) = true)) :
    s.hostMemWrite q a b = s.barStore a b (b.length + 1) := by
  simp only [State.hostMemWrite, hc, hd, Bool.or_self, Bool.false_eq_true, if_false, Bool.and_eq_true, if_neg hs]

theorem hostMemRead_denied {n : Nat} (hd : s.memDenied q a n false = true) :
    s.hostMemRead q a n = (List.replicate n 0, true, (s.putReadPoison false).fwDeny q true false a) := by
  have hd' : (s.putReadPoison false).memDenied q a n false = true := hd
  simp only [State.hostMemRead, hd', Bool.or_true, if_true]

theorem hostMemRead_here (hc : s.barClosed = false) (hd : s.memDenied q a 8 false = false) (h : BarHere s a) :
    s.hostMemRead q a 8 = (memBytes s.sram (s.barAddr a) 8, false, (s.putReadPoison false).putReadPoison false) := by
  have hc' : (s.putReadPoison false).barClosed = false := hc
  have hd' : (s.putReadPoison false).memDenied q a 8 false = false := hd
  have h' : BarHere (s.putReadPoison false) a := h
  simp only [State.hostMemRead, hc', hd', Bool.or_self, Bool.false_eq_true, if_false, barLoad_here h', Bool.false_and]
  rfl

end Memory

/-! ## What the commands come to -/

section Commands

variable {s : State} (hd : s.domOn 3 = true)
include hd

theorem exec_hostAccess_memWrite {p : Fin 6} (hp : s.pcieDead p = false) (a : BitVec 27) (n : BitVec 13) (b : List Byte)
    (pins : AccPins) : exec (.hostAccess p true true a n b pins) s = .next (s.hostMemWrite p a.toNat b) := by
  show execHostAccess p true true a n b pins s = _
  simp [execHostAccess, hd, hp]

theorem exec_hostAccess_memRead {p : Fin 6} (hp : s.pcieDead p = false) (a : BitVec 27) (n : BitVec 13) (b : List Byte)
    (pins : AccPins) : exec (.hostAccess p true false a n b pins) s =
      .next ((s.hostMemRead p a.toNat n.toNat).2.2.answer (s.hostMemRead p a.toNat n.toNat).1) := by
  show execHostAccess p true false a n b pins s = _
  simp [execHostAccess, hd, hp]

theorem exec_hostAccess_regWrite {p : Fin 6} (hp : s.pcieDead p = false) (a : BitVec 27) (n : BitVec 13) (b : List Byte)
    (pins : AccPins) : exec (.hostAccess p false true a n b pins) s = .next (s.hostRegWrite p a.toNat b pins) := by
  show execHostAccess p false true a n b pins s = _
  simp [execHostAccess, hd, hp]

theorem exec_memWrite (h : Fin 2) (a : BitVec 27) (w : Word) :
    exec (.memWrite h (a.zeroExtend 32) [w]) s = .next (s.hostMemWrite (4 + h.val) a.toNat (bytesLE 8 w.toNat)) := by
  have ha : (a.zeroExtend 32).toNat = a.toNat := by simp; omega
  show execMemWrite h _ [w] s = _
  simp [execMemWrite, hd, wordsBytes, ha]

/-- A denied read sets DENIED of the port. -/
theorem exec_memRead (h : Fin 2) (a : BitVec 27) :
    exec (.memRead h (a.zeroExtend 32) 8) s =
      let r := s.hostMemRead (4 + h.val) a.toNat 8
      .next (if r.2.1 then (r.2.2.answer r.1).portUpd h fun x => { x with denied := true } else r.2.2.answer r.1) := by
  have ha : (a.zeroExtend 32).toNat = a.toNat := by simp; omega
  show execMemRead h _ 8 s = _
  simp [execMemRead, hd, ha]

end Commands

/-! ## BAR0 (R376, R378) -/

/-- The register that a partition's slice stands for is aligned as the slice's is. -/
theorem aliasTo_aligned {p a : Nat} (h : a % 8 = 0) : aliasTo p a % 8 = 0 := by
  unfold aliasTo regIdx HIC_PARTp_SLICE
  split
  next heq =>
    split at heq
    · have ho := congrArg Prod.snd (Option.some.inj heq)
      simp only at ho
      omega
    · cases heq
  next => exact h

/-- A permitted write of a whole word through BAR0 is one of the register, by that partition. -/
theorem hostRegWrite_word {s : State} {p a : Nat} (hc : s.barClosed = false) (ha : a % 8 = 0)
    (hd : s.regDenied p a true = false) (w : Word) (pins : AccPins) :
    s.hostRegWrite p a (bytesLE 8 w.toNat) pins = s.regWrite p (aliasTo p a) w true true pins := by
  have haligned : aliasTo p a / 8 * 8 = aliasTo p a :=
    Nat.div_mul_cancel (Nat.dvd_of_mod_eq_zero (aliasTo_aligned ha))
  simp [State.hostRegWrite, hc, hd, bar0Fits, ha, haligned, natOfLE_word]

theorem exec_registerWrite_aligned {s : State} {who : Fin 33} {r : BitVec 32} (hp : s.pcieDead who = false)
    (hr : r.toNat % 8 = 0) (w : Word) (pins : AccPins) :
    exec (.registerWrite who r w true true pins) s = .next (s.regWrite who r.toNat w true true pins) := by
  have haligned : r.toNat / 8 * 8 = r.toNat := Nat.div_mul_cancel (Nat.dvd_of_mod_eq_zero hr)
  show execRegisterWrite who r w true true pins s = _
  simp [execRegisterWrite, hp, haligned]

/-! ## The xSPI ports (R381) -/

@[simp] theorem State.port_portUpd (s : State) (h : Fin 2) (f : XspiPort → XspiPort) :
    (s.portUpd h f).port h = f (s.port h) := mapGet_put_same _ _ _ _

theorem State.port_congr {s t : State} (h : Fin 2) (e : t.xspi = s.xspi) : t.port h = s.port h := by
  simp only [State.port, e]

section Ports

variable {s : State} {h : Fin 2} {a : BitVec 32} {v : Word} {pins : AccPins} (hd : s.domOn 3 = true)
include hd

theorem exec_regWrite_busy (hb : (s.port h).busy = true) :
    exec (.regWrite h a v pins) s = .next (s.portUpd h fun x => { x with overlap := true }) := by
  show execRegWrite h a v pins s = _
  simp [execRegWrite, hd, hb]

theorem exec_regRead_busy (hb : (s.port h).busy = true) :
    exec (.regRead h a) s = .next (s.portUpd h fun x => { x with overlap := true }) := by
  show execRegRead h a s = _
  simp [execRegRead, hd, hb]

theorem exec_regWrite_free (hb : (s.port h).busy = false) :
    exec (.regWrite h a v pins) s = .next ((s.hostRegWrite (4 + h.val) a.toNat (bytesLE 8 v.toNat) pins).portUpd h
      fun x => { x with busy := true, reading := false }) := by
  show execRegWrite h a v pins s = _
  simp [execRegWrite, hd, hb]

theorem exec_regRead_free (hb : (s.port h).busy = false) :
    exec (.regRead h a) s =
      let r := s.hostRegRead (4 + h.val) a.toNat 8
      .next (r.2.2.portUpd h fun x =>
        { ready := false, busy := true, denied := x.denied || r.2.1, overlap := x.overlap,
          reading := true, data := BitVec.ofNat 64 (natOfLE r.1) }) := by
  show execRegRead h a s = _
  simp [execRegRead, hd, hb]

theorem exec_result : exec (.result h) s =
    .next (((s.putReadData (s.port h).data).putReadBytes (wordsBytes [(s.port h).status, (s.port h).data])).portUpd h
      fun x => { x with denied := false, overlap := false }) := by
  show execResult h s = _
  simp [execResult, hd]

end Ports

/-! ## The clauses -/

section Clauses

variable {s : State}

/-- A denied write: counted, latched, no memory changed. -/
theorem gives_writeDenied {o : Host.Outcome State Fault Refusal} {q a : Nat} {b : List Byte} (hq : q < 8)
    (ha : a < 2 ^ 32) (ho : o = .next (s.hostMemWrite q a b)) (hd : s.memDenied q a b.length true = true) :
    Gives o fun t =>
      CountsOne (HIC_PARTp_CNT_FW_DENY q) s t ∧ Changes [.regs, .msix] s t ∧
        (s.bit HIC_STAT_VALID = false → t.bit HIC_STAT_VALID = true ∧ t.rd HIC_STAT_DENY_PART = q ∧
          t.bit HIC_STAT_DENY_WR = true ∧ t.bit HIC_STAT_DENY_SPACE = true ∧ t.rd HIC_STAT_DENY_ADDR = a) := by
  refine ⟨_, ho, ?_⟩
  rw [hostMemWrite_denied hd]
  refine ⟨countsOne_fwDeny .., (State.fwDeny_keeps ..).changes rfl, fun hv => ?_⟩
  obtain ⟨valid, part, write, space, addr⟩ := denialShown_fwDeny hv hq true true ha
  exact ⟨valid, part, write, space, addr⟩

theorem gives_writeDiscarded {o : Host.Outcome State Fault Refusal} {q a : Nat} {b : List Byte}
    (ho : o = .next (s.hostMemWrite q a b)) (hc : s.barClosed = false) (hd : s.memDenied q a b.length true = false)
    (hs : stagingOff a = true) (hp : s.bit (HIC_PARTp_COMMIT_PENDING q) = true) :
    Gives o fun t => CountsOne (HIC_PARTp_CNT_DISCARDS q) s t ∧ RegsBut [HIC_PARTp_CNT q] s t ∧ Changes [.regs] s t := by
  refine ⟨_, ho, ?_⟩
  rw [hostMemWrite_discarded hc hd hs hp]
  exact ⟨countsOne_inc s rfl, regsBut_wr s (HIC_PARTp_CNT_DISCARDS q) _, (State.inc_keeps ..).changes rfl⟩

theorem gives_writeStored {o : Host.Outcome State Fault Refusal} {q a : Nat} {b : List Byte}
    (ho : o = .next (s.hostMemWrite q a b)) (hc : s.barClosed = false) (hb : b.length = 8)
    (hd : s.memDenied q a b.length true = false)
    (hs : ¬(stagingOff a = true ∧ s.bit (HIC_PARTp_COMMIT_PENDING q) = true)) (h : BarHere s a) :
    Gives o (BarStored s a b) := by
  refine ⟨_, ho, ?_⟩
  rw [hostMemWrite_stored hc hd hs, hb]
  exact barStored_barStore h hb

/-- What a denied read leaves: zeros for the data, the count, and no memory changed. -/
def ReadDenied (s : State) (q : Nat) (t : State) : Prop :=
  t.readBytes = List.replicate 8 0 ∧ t.readData = 0 ∧ CountsOne (HIC_PARTp_CNT_FW_DENY q) s t ∧
    Changes [.regs, .xspi, .msix, .readData, .readBytes, .readPoison] s t

theorem readDenied_answer (s : State) (q a : Nat) :
    ReadDenied s q (((s.putReadPoison false).fwDeny q true false a).answer (List.replicate 8 0)) := by
  refine ⟨rfl, rfl, countsOne_fwDeny (s.putReadPoison false) q true false a, ?_⟩
  have hp := (State.putReadPoison_keeps s false).mono
    (M := partMask [.regs, .xspi, .msix, .readData, .readBytes, .readPoison]) rfl
  exact ((State.answer_keeps _ _).comp rfl ((State.fwDeny_keeps _ q true false a).comp rfl hp)).changes (sub_self _)

theorem ReadDenied.portUpd {q : Nat} {t : State} (ht : ReadDenied s q t) (h : Fin 2) (f : XspiPort → XspiPort) :
    ReadDenied s q (t.portUpd h f) := by
  obtain ⟨bytes, data, count, same⟩ := ht
  refine ⟨bytes, data, count, fun p hp => Part.same_trans (same p hp) ?_⟩
  have hk := (State.portUpd_keeps t h f).changes (l := [.regs, .xspi, .msix, .readData, .readBytes, .readPoison]) rfl
  exact hk p hp

/-- What a permitted read of the word at `a` leaves. -/
theorem readHere_answer {a : Nat} :
    let t := ((s.putReadPoison false).putReadPoison false).answer (memBytes s.sram (s.barAddr a) 8)
    t.readBytes = memBytes s.sram (s.barAddr a) 8 ∧ t.readPoison = false ∧
      Changes [.readData, .readBytes, .readPoison] s t := by
  refine ⟨rfl, rfl, ?_⟩
  have hp := (State.putReadPoison_keeps s false).mono (M := partMask [.readData, .readBytes, .readPoison]) rfl
  exact ((State.answer_keeps _ _).comp rfl ((State.putReadPoison_keeps _ false).comp rfl hp)).changes (sub_self _)

end Clauses

theorem hostAccesses : Rules.hostAccesses := by
  intro s p h a n w pins hd hp hc b at27 put got
  have hb : b.length = 8 := length_bytesLE 8 w.toNat
  have hat : at27 < 2 ^ 32 := a.isLt.trans (by decide)
  have hput : ∀ (q : Nat) (o : Host.Outcome State Fault Refusal), q < 8 → o = .next (s.hostMemWrite q at27 b) →
      put q o := by
    intro q o hq ho
    have hden : s.memDenied q at27 8 true = s.memDenied q at27 b.length true := by rw [hb]
    refine ⟨fun hx => ?_, fun hx => ?_, fun hx => ?_⟩
    · exact gives_writeDenied hq hat ho (hden ▸ hx)
    · exact gives_writeDiscarded ho hc (hden ▸ hx)
    · exact gives_writeStored ho hc hb (hden ▸ hx)
  refine ⟨hput p _ (by omega) (exec_hostAccess_memWrite hd hp a n b pins),
    hput _ _ (by omega) (exec_memWrite hd h a w), fun hn => ?_, ?_, fun ha hx => ?_⟩
  · have hr := exec_hostAccess_memRead hd hp a n b pins
    have h8 : (8 : BitVec 13).toNat = 8 := rfl
    subst hn
    refine ⟨fun hx => ⟨_, hr, ?_⟩, fun hx hh => ⟨_, hr, ?_⟩⟩
    · rw [h8, hostMemRead_denied hx]
      exact readDenied_answer s p at27
    · rw [h8, hostMemRead_here hc hx hh]
      exact readHere_answer
  · have hr := exec_memRead hd h a
    refine ⟨fun hx => ⟨_, hr, ?_⟩, fun hx hh => ⟨_, hr, ?_⟩⟩
    · rw [hostMemRead_denied hx, if_pos rfl]
      exact (readDenied_answer s (4 + h.val) at27).portUpd h _
    · rw [hostMemRead_here hc hx hh]
      exact readHere_answer
  · refine ⟨_, exec_hostAccess_regWrite hd hp a n b pins, fun who r hw hr => ?_⟩
    have hwho : s.pcieDead who = false := by rw [hw, hp]
    have hra : r.toNat % 8 = 0 := hr ▸ aliasTo_aligned ha
    rw [exec_registerWrite_aligned hwho hra, hr, hw, hostRegWrite_word hc ha hx]

theorem xspiRegisters : Rules.xspiRegisters := by
  intro s h a v pins hd x
  refine ⟨fun hb c hmem => ?_, fun hb => ?_, fun hb => ?_, ?_⟩
  · have he : exec c s = .next (s.portUpd h fun x => { x with overlap := true }) := by
      rcases List.mem_pair.1 hmem with rfl | rfl
      · exact exec_regWrite_busy hd hb
      · exact exec_regRead_busy hd hb
    exact ⟨_, he, State.port_portUpd .., (State.portUpd_keeps ..).changes rfl⟩
  · have hk := State.hostRegWrite_keeps s (4 + h.val) a.toNat (bytesLE 8 v.toNat) pins
    refine ⟨_, exec_regWrite_free hd hb, ?_, hk.same .readData rfl, hk.same .readBytes rfl⟩
    rw [State.port_portUpd, State.port_congr h (hk.same .xspi rfl)]
  · have hk := State.hostRegRead_keeps s (4 + h.val) a.toNat 8
    refine ⟨_, exec_regRead_free hd hb, ?_⟩
    have hx : (s.hostRegRead (4 + h.val) a.toNat 8).2.2.port h = x := State.port_congr h (hk.same .xspi rfl)
    simp only [State.port_portUpd, hx]
    refine ⟨trivial, trivial, trivial, trivial, fun hden => by rw [hden, Bool.true_or], ?_⟩
    have hk' := hk.mono (M := partMask [.regs, .evlog, .evLost, .xspi, .msix, .ntu, .image, .pawns, .mqf]) rfl
    exact ((State.portUpd_keeps ..).comp rfl hk').changes (sub_self _)
  · refine ⟨_, exec_result hd, rfl, rfl, State.port_portUpd .., ?_⟩
    have hk := (State.putReadData_keeps s x.data).mono (M := partMask [.xspi, .readData, .readBytes]) rfl
    exact ((State.portUpd_keeps ..).comp rfl ((State.putReadBytes_keeps ..).comp rfl hk)).changes (sub_self _)

/-- Settles O32: each access comes to one of the model's two ways, through memory or through a register. -/
theorem hostPorts : Obligations.HostPorts := ⟨hostAccesses, xspiRegisters⟩

end Sys2Proof.Machine
end

section
/-! SUPPORT. The registers of the time unit (Machine/Ntu.lean): the operations of the other units at a boundary that
leave them alone. -/

namespace Sys2Proof.Machine

/-- Address `a` lies outside the block of the time unit (Table R547). -/
def OutsideNtu (a : Nat) : Prop := a < uNTU ∨ uCBC ≤ a

/-- The registers of the time unit are in `t` what they were in `s`. -/
structure NtuRegs (s t : State) : Prop where
  reg_eq : ∀ a, ¬OutsideNtu a → t.reg a = s.reg a

theorem NtuRegs.refl {s : State} : NtuRegs s s := ⟨fun _ _ => rfl⟩

theorem NtuRegs.trans {s t u : State} (h : NtuRegs s t) (g : NtuRegs t u) : NtuRegs s u :=
  ⟨fun a ha => (g.reg_eq a ha).trans (h.reg_eq a ha)⟩


/-- An operation whose mask leaves the registers out. -/
theorem NtuRegs.of_keeps {m : Nat} {s t : State} (h : Keeps m s t) (hm : m.testBit Part.regs.ix = false) :
    NtuRegs s t where
  reg_eq a _ := by
    have hr : t.regs = s.regs := h.same .regs hm
    simp only [State.reg, hr]

theorem NtuRegs.keeps {m : Nat} {s t u : State} (h : NtuRegs s t) (k : Keeps m t u)
    (hm : m.testBit Part.regs.ix = false) : NtuRegs s u := h.trans (.of_keeps k hm)

theorem NtuRegs.setReg {s t : State} (h : NtuRegs s t) {a : Nat} (ha : OutsideNtu a) (v : Word) :
    NtuRegs s (t.setReg a v) where
  reg_eq b hb := by
    have hne : b ≠ a := fun e => hb (e ▸ ha)
    exact (State.reg_setReg_ne t v hne).trans (h.reg_eq b hb)

theorem NtuRegs.wr {s t : State} (h : NtuRegs s t) {f : Fld} (hf : OutsideNtu f.addr) (v : Nat) :
    NtuRegs s (t.wr f v) := h.setReg hf _

theorem NtuRegs.wrB {s t : State} (h : NtuRegs s t) {f : Fld} (hf : OutsideNtu f.addr) (b : Bool) :
    NtuRegs s (t.wrB f b) := h.wr hf _

theorem NtuRegs.inc {s t : State} (h : NtuRegs s t) {f : Fld} (hf : OutsideNtu f.addr) : NtuRegs s (t.inc f) :=
  h.wr hf _

theorem NtuRegs.incWrap {s t : State} (h : NtuRegs s t) {f : Fld} (hf : OutsideNtu f.addr) :
    NtuRegs s (t.incWrap f) := h.wr hf _

theorem NtuRegs.orF {s t : State} (h : NtuRegs s t) {f : Fld} (hf : OutsideNtu f.addr) (m : Nat) :
    NtuRegs s (t.orF f m) := h.wr hf _

theorem NtuRegs.ite {s t u : State} {c : Prop} [Decidable c] (h : NtuRegs s t) (g : NtuRegs s u) :
    NtuRegs s (if c then t else u) := by split <;> assumption

theorem NtuRegs.foldl {α : Type} {f : State → α → State} {l : List α} (hf : ∀ s, ∀ x ∈ l, NtuRegs s (f s x)) {s : State} :
    NtuRegs s (l.foldl f s) := by
  induction l generalizing s with
  | nil => exact .refl
  | cons x l ih =>
    exact (hf s x List.mem_cons_self).trans (ih fun s y hy => hf s y (List.mem_cons_of_mem _ hy))

theorem mapGet_filter_key {α : Type} (d : Nat → α) (p : Nat → Bool) (m : List (Nat × α)) {k : Nat} (hk : p k = true) :
    mapGet d (m.filter fun e => p e.1) k = mapGet d m k := by
  induction m with
  | nil => rfl
  | cons e t ih =>
    by_cases hp : p e.1 = true
    · simp only [List.filter_cons, hp, if_true, mapGet, ih]
    · have hne : e.1 ≠ k := fun h => hp (h ▸ hk)
      simp only [List.filter_cons, if_neg hp, ih, mapGet, hne, if_false]

/-- Registers that are reset are all outside the time unit. -/
theorem NtuRegs.resetRegs {s t : State} (h : NtuRegs s t) {p : Nat → Bool} (hp : ∀ a, p a = true → OutsideNtu a) :
    NtuRegs s (t.resetRegs p) where
  reg_eq a ha := by
    have hpa : (!p a) = true := by
      rw [Bool.not_eq_true', ← Bool.not_eq_true]
      exact fun h => ha (hp a h)
    exact (mapGet_filter_key regReset (fun a => !p a) t.regs hpa).trans (h.reg_eq a ha)

/-! ## Shared operations -/

theorem NtuRegs.raiseEvent {s t : State} (h : NtuRegs s t) (src : Nat) : NtuRegs s (t.raiseEvent 0 src) := by
  have ho : NtuRegs s (t.orF (HIC_PARTp_IRQ_PEND 0) (2 ^ src)) := h.orF (.inl (by decide)) _
  unfold State.raiseEvent
  extract_lets was s1
  exact .ite h (.ite (ho.keeps (State.putMsix_keeps ..) rfl) ho)

theorem NtuRegs.setIstat_ACE {s t : State} (h : NtuRegs s t) (m : Nat) : NtuRegs s (t.setIstat uACE m) := by
  have ho : NtuRegs s (t.orF (cISTAT uACE) m) := h.orF (.inr (by decide)) _
  unfold State.setIstat
  exact .ite (ho.raiseEvent 12) ho

theorem NtuRegs.logPush {s t : State} (h : NtuRegs s t) (code unit cls detail time : Nat) :
    NtuRegs s (t.logPush code unit cls detail time) :=
  (h.wr (f := SYSCTL_EVLOG_NEXT_SEQ) (.inl (by decide)) _).keeps (State.putEvlog_keeps ..) rfl

theorem NtuRegs.logRec {s t : State} (h : NtuRegs s t) (code unit cls detail time : Nat) :
    NtuRegs s (t.logRec code unit cls detail time) := by
  unfold State.logRec
  extract_lets same recent s1
  have h1 : NtuRegs s s1 := .ite h ((h.logPush ..).keeps (State.putEvLost_keeps ..) rfl)
  refine .ite (h.inc (.inl (by decide))) (.ite ?_ (h1.logPush ..))
  exact (h.inc (f := SYSCTL_EVLOG_OVERFLOW) (.inl (by decide))).keeps (State.putEvLost_keeps ..) rfl

theorem NtuRegs.acceptMode {s t : State} (h : NtuRegs s t) (target cause rank : Nat) (reply : Option Nat) :
    NtuRegs s (t.acceptMode target cause rank reply) := by
  unfold State.acceptMode
  extract_lets go
  have h0 : NtuRegs s (t.putPendMode (some ⟨target, cause, rank, reply, t.ltNs⟩)) :=
    h.keeps (State.putPendMode_keeps ..) rfl
  have hgo : NtuRegs s go :=
    (h0.wr (f := SYSCTL_MODE_TARGET) (.inl (by decide)) _).wrB (f := SYSCTL_MODE_PENDING) (.inl (by decide)) _
  split
  · exact hgo
  · refine .ite ?_ h
    split
    · exact hgo
    · exact hgo.keeps (State.dcpResult_keeps ..) rfl

theorem NtuRegs.safeStopFault {s t : State} (h : NtuRegs s t) (src : Nat) : NtuRegs s (t.safeStopFault src) := by
  unfold State.safeStopFault
  extract_lets s1 s2
  have h1 : NtuRegs s s1 := h.orF (.inl (by decide)) _
  have h2 : NtuRegs s s2 := (h1.wr (.inl (by decide)) _).inc (.inl (by decide))
  exact .ite h1 (.ite ((h2.logRec ..).acceptMode ..) (h1.logRec ..))

/-! ## The SWC and the CBC at a boundary -/

theorem OutsideNtu.swcPort {p b : Nat} (hp : p < 16) (hb : b < 0x100) : OutsideNtu (0x02104000 + b + 0x100 * p) := by
  left
  simp only [uNTU]
  omega

theorem ntuRegs_gclHold (s : State) {p : Nat} (hp : p < 16) : NtuRegs s (s.gclHold p) := by
  have hout : OutsideNtu (SWC_PORTp_PRE_HOLD p).addr := .swcPort hp (b := 0x30) (by decide)
  unfold State.gclHold
  extract_lets op
  exact .ite (NtuRegs.refl.wrB hout _) (.ite (NtuRegs.refl.wrB hout _) (.ite (NtuRegs.refl.wrB hout _) .refl))

theorem ntuRegs_gclBoundary (s : State) {p : Nat} (hp : p < 16) : NtuRegs s (s.gclBoundary p) := by
  have hctl : OutsideNtu (SWC_PORTp_GCL_CTL p) := .swcPort hp (b := 0x38) (by decide)
  have hpre : OutsideNtu (SWC_PORTp_PRE p) := .swcPort hp (b := 0x30) (by decide)
  unfold State.gclBoundary
  extract_lets n bank old s1 s2 s3
  have h1 : NtuRegs s s1 := .of_keeps (State.setSwc_keeps ..) rfl
  have h2 : NtuRegs s s2 := .ite .refl (((h1.wr hctl _).wrB hctl _).wrB hctl _)
  have h3 : NtuRegs s s3 := h2.keeps (State.setGclIdx_keeps ..) rfl
  exact .ite (h3.trans (ntuRegs_gclHold s3 hp)) (h3.wrB hpre _)

theorem ntuRegs_swcBoundary (s : State) : NtuRegs s s.swcBoundary := by
  refine NtuRegs.foldl fun s p hp => ?_
  have h1 : NtuRegs s (s.creditPort p) := .of_keeps (State.creditPort_keeps ..) rfl
  have h2 := h1.trans (ntuRegs_gclBoundary _ (List.mem_range.1 hp))
  exact h2.keeps (State.preemptNow_keeps ..) rfl

theorem ntuRegs_segBoundary (s : State) (g : Nat) : NtuRegs s (s.segBoundary g) := by
  unfold State.segBoundary
  extract_lets x s1 run
  have h1 : NtuRegs s s1 := .ite (NtuRegs.refl.wr (.inr (Nat.le_add_right_of_le (by decide))) _) .refl
  exact h1.keeps (State.setSeg_keeps ..) rfl

/-- The active bank of the schedule lies in the CBC. -/
theorem ntuRegs_schedCopy (s : State) : NtuRegs s s.schedCopy := by
  have hbase : uCBC ≤ schedActiveBase := by decide
  unfold State.schedCopy
  extract_lets sh s1
  have h1 : NtuRegs s s1 := NtuRegs.refl.resetRegs fun a ha => by
    simp only [Bool.and_eq_true, decide_eq_true_eq] at ha
    exact .inr (hbase.trans ha.1)
  refine h1.trans (NtuRegs.foldl fun s e _ => NtuRegs.refl.setReg (.inr ?_) _)
  exact Nat.le_add_left_of_le hbase

theorem ntuRegs_schedSwap (s : State) : NtuRegs s s.schedSwap := by
  unfold State.schedSwap
  refine .ite .refl ?_
  extract_lets s1
  have h1 : NtuRegs s s1 := ((ntuRegs_schedCopy s).incWrap (.inr (by decide))).wrB (.inr (by decide)) _
  refine h1.trans (NtuRegs.foldl fun s g _ => ?_)
  extract_lets s2
  have h2 : NtuRegs s s2 := .of_keeps (State.segUpd_keeps ..) rfl
  exact .ite (h2.keeps (State.confBegin_keeps ..) rfl) h2

theorem ntuRegs_cbcBoundary (s : State) : NtuRegs s s.cbcBoundary := by
  unfold State.cbcBoundary
  exact .ite .refl ((NtuRegs.foldl fun s g _ => ntuRegs_segBoundary s g).trans (ntuRegs_schedSwap _))

/-! ## The ACE at a boundary -/

/-- The registers of an axis lie in the ACE, above the time unit. -/
theorem OutsideNtu.axis {b k : Nat} (hb : uCBC ≤ b) : OutsideNtu (b + 0x80 * k) := .inr (Nat.le_add_right_of_le hb)

theorem ntuRegs_axisShift (s : State) (k : Nat) : NtuRegs s (s.axisShift k) := by
  unfold State.axisShift
  extract_lets x hist late s1 used
  have h1 : NtuRegs s s1 := by
    clear_value late
    cases late with
    | none => exact .refl
    | some p => exact .ite (NtuRegs.refl.wrB (.axis (by decide)) _) .refl
  clear_value s1
  split
  · exact h1
  · exact (h1.keeps (State.setAxis_keeps ..) rfl).wr (.axis (by decide)) _

theorem ntuRegs_axisClose (s : State) (k : Nat) : NtuRegs s (s.axisClose k) := by
  unfold State.axisClose
  extract_lets x s1 s2 s3 s4 s5 s6
  have h1 : NtuRegs s s1 := .ite (ntuRegs_axisShift s k) (.of_keeps (State.axisUpd_keeps ..) rfl)
  have h2 : NtuRegs s s2 := h1.wr (.axis (by decide)) _
  have h3 : NtuRegs s s3 := .ite (h2.wr (.axis (by decide)) _) h2
  have h4 : NtuRegs s s4 := h3.inc (.axis (by decide))
  have h5 : NtuRegs s s5 := (h4.wrB (.axis (by decide)) _).setIstat_ACE 4
  have h6 : NtuRegs s s6 := .ite (h5.wr (.axis (by decide)) _) h5
  exact .ite h3 (.ite h4 (h6.safeStopFault 3))

theorem ntuRegs_aceClose (s : State) : NtuRegs s s.aceClose := by
  unfold State.aceClose
  exact .ite .refl (NtuRegs.foldl fun s k _ => .ite (ntuRegs_axisClose s k) .refl)

theorem NtuRegs.setWindow {s t : State} (h : NtuRegs s t) {base : Nat} (hb : uCBC ≤ base) (len : Nat)
    (w : List (Nat × Word)) : NtuRegs s (t.setWindow base len w) := by
  unfold State.setWindow
  refine (h.resetRegs fun a ha => ?_).trans
    (NtuRegs.foldl fun s e _ => NtuRegs.refl.setReg (.inr (Nat.le_add_right_of_le hb)) _)
  simp only [Bool.and_eq_true, decide_eq_true_eq] at ha
  exact .inr (hb.trans ha.1)

theorem NtuRegs.swapWindow {s t : State} (h : NtuRegs s t) {a b : Nat} (ha : uCBC ≤ a) (hb : uCBC ≤ b) (len : Nat) :
    NtuRegs s (t.swapWindow a b len) := (h.setWindow ha ..).setWindow hb ..

theorem ntuRegs_applyEnd (s : State) (status : Nat) (reply : List Byte) : NtuRegs s (s.applyEnd status reply) := by
  unfold State.applyEnd
  extract_lets r s1 old s2
  have h1 : NtuRegs s s1 := (NtuRegs.refl.wrB (.inr (by decide)) _).setIstat_ACE 1
  clear_value s1
  have h2 : NtuRegs s s2 := h1.keeps (State.putAce_keeps ..) rfl
  clear_value r s2
  cases r with
  | none => exact h2
  | some slot => exact h2.keeps (State.dcpResult_keeps ..) rfl

theorem ntuRegs_bankSwapDue (s : State) : NtuRegs s s.bankSwapDue := by
  have hbank : ∀ b k, uCBC ≤ b → uCBC ≤ b + k + 0x8 * 0 := fun b k h => by omega
  unfold State.bankSwapDue State.bankSwap
  refine .ite ?_ .refl
  extract_lets one s1
  have h1 : NtuRegs s s1 := NtuRegs.foldl fun s k _ =>
    ((NtuRegs.refl.swapWindow (hbank _ _ (by decide)) (hbank _ _ (by decide)) _).swapWindow
      (hbank _ _ (by decide)) (hbank _ _ (by decide)) _).keeps (State.axisUpd_keeps ..) rfl
  exact ((h1.incWrap (.inr (by decide))).wrB (.inr (by decide)) _).trans (ntuRegs_applyEnd ..)

theorem ntuRegs_aceOpen (s : State) : NtuRegs s s.aceOpen := by
  unfold State.aceOpen
  extract_lets old s1 s2 one s3 ace
  have h1 : NtuRegs s s1 := .of_keeps (State.putImage_keeps ..) rfl
  have h2 : NtuRegs s s2 := h1.trans (ntuRegs_bankSwapDue s1)
  clear_value s1 s2
  have h3 : NtuRegs s s3 := h2.trans (NtuRegs.foldl fun s k _ =>
    (NtuRegs.of_keeps (State.axisUpd_keeps ..) rfl).wrB (.axis (by decide)) _)
  exact .ite h1 (h3.keeps (State.putAce_keeps ..) rfl)

end Sys2Proof.Machine
end

section
/-! PROOF of CycleBoundaryFalls (R21, R37, R48): the time unit's part makes the boundary fall, no transition is due, and
the other units at the boundary leave the time unit alone. -/

namespace Sys2Proof.Machine

/-! ## No transition is due (R48) -/

/-- A transition that waits, if there is one, has been accepted less than 2 µs ago. -/
structure State.NoneDue (s : State) : Prop where
  recent : ∀ p, s.pendMode = some p → s.ltNs < p.acceptedNs + 2000

theorem State.ltNs_congr {s t : State} (h : t.ntu = s.ntu) : t.ltNs = s.ltNs := by
  simp only [State.ltNs, h]

theorem State.noneDue_of_none {s : State} (h : s.pendMode = none) : s.NoneDue where
  recent p hp := by
    rw [h] at hp
    cases hp

/-- A transition accepted at the present LT. -/
theorem State.noneDue_of_accepted {s : State} {p : PendMode} (h : s.pendMode = some p) (hn : s.ltNs = p.acceptedNs) :
    s.NoneDue where
  recent q hq := by
    obtain rfl := Option.some.inj (h.symm.trans hq)
    omega

/-- An operation that changes neither the time nor what waits. -/
theorem State.NoneDue.keeps {m : Nat} {s t : State} (h : s.NoneDue) (k : Keeps m s t)
    (hp : m.testBit Part.pendMode.ix = false) (hn : m.testBit Part.ntu.ix = false) : t.NoneDue := by
  have hpend : t.pendMode = s.pendMode := k.same .pendMode hp
  refine ⟨fun p e => ?_⟩
  rw [State.ltNs_congr (k.same .ntu hn)]
  exact h.recent p (hpend ▸ e)

theorem State.NoneDue.ite {s t : State} {c : Prop} [Decidable c] (h : s.NoneDue) (g : t.NoneDue) :
    (if c then s else t).NoneDue := by split <;> assumption

theorem State.NoneDue.foldl {α : Type} {f : State → α → State} {l : List α} (hf : ∀ s x, s.NoneDue → (f s x).NoneDue)
    {s : State} (h : s.NoneDue) : (l.foldl f s).NoneDue := by
  induction l generalizing s with
  | nil => exact h
  | cons x l ih => exact ih (hf s x h)

theorem State.noneDue_putPendMode (s : State) {p : PendMode} (hp : p.acceptedNs = s.ltNs) :
    (s.putPendMode (some p)).NoneDue :=
  State.noneDue_of_accepted (State.putPendMode_pendMode ..) ((State.ltNs_congr (State.putPendMode_ntu ..)).trans hp.symm)

/-- A trigger accepted now is not due now. -/
theorem State.NoneDue.acceptMode {s : State} (h : s.NoneDue) (target cause rank : Nat) (reply : Option Nat) :
    (s.acceptMode target cause rank reply).NoneDue := by
  unfold State.acceptMode
  extract_lets go
  have hgo : go.NoneDue :=
    ((s.noneDue_putPendMode (p := ⟨target, cause, rank, reply, s.ltNs⟩) rfl).keeps (State.wr_keeps ..) rfl rfl).keeps
      (State.wrB_keeps ..) rfl rfl
  clear_value go
  split
  · exact hgo
  · refine .ite ?_ h
    split
    · exact hgo
    · exact hgo.keeps (State.dcpResult_keeps ..) rfl rfl

theorem State.NoneDue.safeStopFault {s : State} (h : s.NoneDue) (src : Nat) : (s.safeStopFault src).NoneDue := by
  unfold State.safeStopFault
  extract_lets s1 s2
  have h1 : s1.NoneDue := h.keeps (State.orF_keeps ..) rfl rfl
  have h2 : s2.NoneDue := (h1.keeps (State.wr_keeps ..) rfl rfl).keeps (State.inc_keeps ..) rfl rfl
  exact .ite h1 (.ite ((h2.keeps (State.logEvent_keeps ..) rfl rfl).acceptMode ..)
    (h1.keeps (State.logEvent_keeps ..) rfl rfl))

theorem State.NoneDue.axisClose {s : State} (h : s.NoneDue) (k : Nat) : (s.axisClose k).NoneDue := by
  unfold State.axisClose
  extract_lets x s1 s2 s3 s4 s5 s6
  have h1 : s1.NoneDue := .ite (h.keeps (State.axisShift_keeps ..) rfl rfl) (h.keeps (State.axisUpd_keeps ..) rfl rfl)
  have h2 : s2.NoneDue := h1.keeps (State.wr_keeps ..) rfl rfl
  have h3 : s3.NoneDue := .ite (h2.keeps (State.wr_keeps ..) rfl rfl) h2
  have h4 : s4.NoneDue := h3.keeps (State.inc_keeps ..) rfl rfl
  have h5 : s5.NoneDue := (h4.keeps (State.wrB_keeps ..) rfl rfl).keeps (State.setIstat_keeps ..) rfl rfl
  have h6 : s6.NoneDue := .ite (h5.keeps (State.wr_keeps ..) rfl rfl) h5
  exact .ite h3 (.ite h4 (h6.safeStopFault 3))

theorem State.NoneDue.aceClose {s : State} (h : s.NoneDue) : s.aceClose.NoneDue := by
  unfold State.aceClose
  exact .ite h (.foldl (fun s k hs => .ite (hs.axisClose k) hs) h)

theorem modeBoundary_of_noneDue {s : State} (h : s.NoneDue) : s.modeBoundary = s := by
  unfold State.modeBoundary
  split
  · rfl
  next p hp =>
    have hlt := h.recent p hp
    simp only [decide_eq_true_eq]
    exact if_neg (by omega)

/-! ## The time unit's part of a boundary -/

theorem timeKept_windowClose (s : State) : TimeKept [NTU_CYC_STAT] s s.windowClose := by
  have hm : NTU_CYC_STAT ∈ [NTU_CYC_STAT] := List.mem_singleton_self _
  unfold State.windowClose
  extract_lets c ok good s1
  have h1 : TimeKept [NTU_CYC_STAT] s s1 := TimeKept.refl.putNtu rfl rfl rfl
  split
  · exact .refl
  · exact (h1.wrB hm _).wrB hm _

/-- The window that closes leaves the bank, the nominal instant and the correction. -/
theorem windowClose_cyc (s : State) :
    ∃ closed good, s.windowClose.ntu.cyc = { s.ntu.cyc with closed := closed, good := good } := by
  unfold State.windowClose
  extract_lets c ok good s1
  split
  · exact ⟨_, _, rfl⟩
  · exact ⟨true, good, rfl⟩

theorem timeKept_cycSwap (s : State) : TimeKept [NTU_CYC_STAT, NTU_CAST_STAT] s s.cycSwap := by
  have hm : NTU_CYC_STAT ∈ [NTU_CYC_STAT, NTU_CAST_STAT] := List.mem_cons_self
  unfold State.cycSwap
  extract_lets b old cast s1 c s2
  have h2 : TimeKept [NTU_CYC_STAT, NTU_CAST_STAT] s s2 := (TimeKept.refl.wrB hm _).putNtu rfl rfl rfl
  clear_value s2 cast
  split
  · exact .refl
  · split
    · have hc := timeKept_castStart s2 (b.src - 1)
      exact ⟨hc.lt.trans h2.lt, fun x => (hc.td x).trans (h2.td x), h2.regs.trans (hc.regs.mono (by simp))⟩
    · exact h2

theorem State.rd_incWrap_same (s : State) {f : Fld} (h : f.ok = true) :
    (s.incWrap f).rd f = (s.rd f + 1) % 2 ^ f.width := s.rd_wr_same _ h

/-- A boundary with the nominal instant `nom` takes effect at the present edge, the banks having swapped. -/
def State.boundaryOpened (s : State) (nom : Nat) : State :=
  let c := s.ntu.cyc
  let nomServed := s.served - ((s.ntu.lt : Int) - nom)
  let s := s.setCyc { c with
    nominal := nom, edge := s.ntu.lt, started := true, closed := false, stepNom := none, phased := 0
    used := c.usedNext, usedNext := none
    corr := match c.usedNext with | none => 0 | some e => pullCorr c.act e
    srcNom := if s.cycLocal then nomServed else ((nomServed + nsU / 2) / nsU) * nsU }
  let s := s.incWrap NTU_CYC_COUNT_CYCLE
  s.putNtu { s.ntu with syncOut := s.reg NTU_SYNCOUT_CFG, syncOutOn := false }

section BoundaryOpened

variable (s : State) (nom : Nat)

theorem boundaryOpened_nominal : (s.boundaryOpened nom).ntu.cyc.nominal = nom := rfl

theorem boundaryOpened_started : (s.boundaryOpened nom).ntu.cyc.started = true := rfl

theorem boundaryOpened_lt : (s.boundaryOpened nom).ntu.lt = s.ntu.lt := by
  unfold State.boundaryOpened
  extract_lets c nomServed s1 s2 old
  have h1 : s1.ntu.lt = s.ntu.lt := rfl
  have h2 : s2.ntu = s1.ntu := State.incWrap_ntu ..
  clear_value s2 s1
  rw [State.putNtu_ntu, ← h1, ← h2]

theorem boundaryOpened_count :
    (s.boundaryOpened nom).rd NTU_CYC_COUNT_CYCLE = (s.rd NTU_CYC_COUNT_CYCLE + 1) % 2 ^ 64 := by
  unfold State.boundaryOpened
  extract_lets c nomServed s1 s2 old
  have h1 : s1.rd NTU_CYC_COUNT_CYCLE = s.rd NTU_CYC_COUNT_CYCLE := State.rd_putNtu ..
  have h2 : s2.rd NTU_CYC_COUNT_CYCLE = (s1.rd NTU_CYC_COUNT_CYCLE + 1) % 2 ^ 64 := State.rd_incWrap_same s1 (by decide)
  clear_value s2 s1
  rw [State.rd_putNtu, h2, h1]

end BoundaryOpened

theorem ntuBoundary_of_local {s : State} (h : s.windowClose.cycLocal = true) :
    s.ntuBoundary =
      (s.windowClose.advanceTo s.windowClose.nextNominal).cycSwap.boundaryOpened s.windowClose.nextNominal := by
  have ht : s.windowClose.toBoundary = (s.windowClose.nextNominal, s.windowClose.advanceTo s.windowClose.nextNominal) :=
    if_pos h
  show (match s.windowClose.toBoundary with | (nom, s) => s.cycSwap.boundaryOpened nom) = _
  rw [ht]

/-- The boundary of the local base: at its nominal instant, and in effect at an edge at or after it. -/
structure BoundaryFell (s t : State) : Prop where
  nominal : (t.ntu.cyc.nominal : Int) = s.ntu.cyc.nominal + ((s.ntu.cyc.act.len : Int) + s.ntu.cyc.corr) * 2 ^ 32
  reached : t.ntu.cyc.nominal ≤ t.ntu.lt
  started : t.ntu.cyc.started = true
  count : t.rd NTU_CYC_COUNT_CYCLE = (s.rd NTU_CYC_COUNT_CYCLE + 1) % 2 ^ 64

theorem boundaryFell_ntuBoundary {s : State} (hd : s.domOn 6 = true) (hsrc : s.ntu.cyc.act.src = 0)
    (hnom : 0 ≤ s.ntu.cyc.nominal + ((s.ntu.cyc.act.len : Int) + s.ntu.cyc.corr) * 2 ^ 32) :
    BoundaryFell s s.ntuBoundary := by
  have hw := timeKept_windowClose s
  obtain ⟨closed, good, hcyc⟩ := windowClose_cyc s
  have hlocal : s.windowClose.cycLocal = true := by simp [State.cycLocal, hcyc, hsrc]
  have hdom : s.windowClose.domOn 6 = true := by
    simpa only [State.domOn, State.domState, hw.regs.rd_eq (f := CRP_PD_STAT_STATE 6) (by decide)] using hd
  have hnext : s.windowClose.nextNominal =
      (s.ntu.cyc.nominal + ((s.ntu.cyc.act.len : Int) + s.ntu.cyc.corr) * 2 ^ 32).toNat := by
    simp only [State.nextNominal, hlocal, if_true, State.cycLen, hcyc, nsU]
    rfl
  have hadv := edged_advanceTo hdom s.windowClose.nextNominal
  have hswap := timeKept_cycSwap (s.windowClose.advanceTo s.windowClose.nextNominal)
  rw [ntuBoundary_of_local hlocal]
  constructor
  case nominal => rw [boundaryOpened_nominal, hnext, Int.toNat_of_nonneg hnom]
  case reached =>
    rw [boundaryOpened_nominal, boundaryOpened_lt, hswap.lt]
    exact State.le_advanceTo_lt hdom _
  case started => exact boundaryOpened_started ..
  case count =>
    rw [boundaryOpened_count, hswap.regs.rd_eq (by decide), hadv.regs.rd_eq (by decide), hw.regs.rd_eq (by decide)]

/-! ## The other units at the boundary -/

theorem BoundaryFell.keeps {m : Nat} {s t u : State} (h : BoundaryFell s t) (k : Keeps m t u)
    (hn : m.testBit Part.ntu.ix = false) (hr : NtuRegs t u) : BoundaryFell s u := by
  have hntu : u.ntu = t.ntu := k.same .ntu hn
  have hcount : u.rd NTU_CYC_COUNT_CYCLE = t.rd NTU_CYC_COUNT_CYCLE :=
    State.rd_congr (hr.reg_eq _ (by unfold OutsideNtu; decide))
  exact ⟨hntu ▸ h.nominal, hntu ▸ h.reached, hntu ▸ h.started, hcount.trans h.count⟩

/-- Settles O11: the NTU's part of the boundary makes it fall, and the other units leave the time unit alone. -/
theorem cycleBoundaryFalls : Obligations.CycleBoundaryFalls := by
  intro s hd hrun hsrc _ hpend hnom
  have hexec : exec .cycleBoundary s =
      .next s.ntuBoundary.swcBoundary.cbcBoundary.canBoundary.piaBoundary.aceClose.modeBoundary.aceOpen := by
    show execCycleBoundary s = _
    simp [execCycleBoundary, hd, hrun]
  have h1 := boundaryFell_ntuBoundary hd hsrc hnom
  have h2 := h1.keeps (State.swcBoundary_keeps _) rfl (ntuRegs_swcBoundary _)
  have h3 := h2.keeps (State.cbcBoundary_keeps _) rfl (ntuRegs_cbcBoundary _)
  have h4 := h3.keeps (State.canBoundary_keeps _) rfl (.of_keeps (State.canBoundary_keeps _) rfl)
  have h5 := h4.keeps (State.piaBoundary_keeps _) rfl (.of_keeps (State.piaBoundary_keeps _) rfl)
  have h6 := h5.keeps (State.aceClose_keeps _) rfl (ntuRegs_aceClose _)
  have hnone : s.ntuBoundary.swcBoundary.cbcBoundary.canBoundary.piaBoundary.NoneDue := by
    refine State.noneDue_of_none (Eq.trans ?_ hpend)
    calc s.ntuBoundary.swcBoundary.cbcBoundary.canBoundary.piaBoundary.pendMode
        = s.ntuBoundary.swcBoundary.cbcBoundary.canBoundary.pendMode := (State.piaBoundary_keeps _).same .pendMode rfl
      _ = s.ntuBoundary.swcBoundary.cbcBoundary.pendMode := (State.canBoundary_keeps _).same .pendMode rfl
      _ = s.ntuBoundary.swcBoundary.pendMode := (State.cbcBoundary_keeps _).same .pendMode rfl
      _ = s.ntuBoundary.pendMode := (State.swcBoundary_keeps _).same .pendMode rfl
      _ = s.pendMode := (State.ntuBoundary_keeps s).same .pendMode rfl
  rw [modeBoundary_of_noneDue hnone.aceClose] at hexec
  obtain ⟨nominal, reached, started, count⟩ := h6.keeps (State.aceOpen_keeps _) rfl (ntuRegs_aceOpen _)
  exact ⟨_, hexec, nominal, reached, started, count⟩

end Sys2Proof.Machine
end

section
/-! SUPPORT. The effect point of a command (R402, R403, R406): a command that runs waits, fails with an error and
changes nothing else, or ends with what it did (Machine/Dcp.lean). -/

namespace Sys2Proof.Machine

/-! ## The outcome of a command (R403) -/

theorem State.dcpResult_eq (s : State) (slot : Nat) {status : Nat} {reply : List Byte} (h : status = 0 ∨ reply ≠ []) :
    s.dcpResult slot status reply = s.putDcp { s.dcp with runs := s.dcp.runs.map fun r =>
      if r.slot = slot ∧ r.result = none then { r with result := some ⟨status, reply⟩ } else r } := by
  have hd : (status != 0 && reply.isEmpty) = false := by
    rcases h with rfl | h
    · rfl
    · simp [h]
  unfold State.dcpResult
  rw [hd]
  rfl

@[simp] theorem State.reg_dcpResult (s : State) (slot status : Nat) (reply : List Byte) (a : Nat) :
    (s.dcpResult slot status reply).reg a = s.reg a := rfl
@[simp] theorem State.rd_dcpResult (s : State) (slot status : Nat) (reply : List Byte) (f : Fld) :
    (s.dcpResult slot status reply).rd f = s.rd f := rfl
@[simp] theorem State.bit_dcpResult (s : State) (slot status : Nat) (reply : List Byte) (f : Fld) :
    (s.dcpResult slot status reply).bit f = s.bit f := rfl

@[simp] theorem State.dcpResult_ace (s : State) (slot status : Nat) (reply : List Byte) :
    (s.dcpResult slot status reply).ace = s.ace := rfl

theorem answered_dcpResult {s u : State} (hu : u.dcp.runs = s.dcp.runs) (slot : Nat) {status : Nat} {reply : List Byte}
    (h : status = 0 ∨ reply ≠ []) : Answered slot status reply s (u.dcpResult slot status reply) := by
  rw [State.dcpResult_eq u slot h, Answered, State.putDcp_dcp, hu]

theorem onlyAnswered_dcpResult (s : State) (slot : Nat) {status : Nat} {reply : List Byte}
    (h : status = 0 ∨ reply ≠ []) : OnlyAnswered slot status reply s (s.dcpResult slot status reply) :=
  ⟨answered_dcpResult rfl slot h, rfl, (State.dcpResult_keeps ..).changes rfl⟩

theorem dcpDetail_ne_nil (off reason index : Nat) : dcpDetail off reason index ≠ [] := by
  simp [dcpDetail, bytesLE]

theorem Changes.dcpResult {l : List Part} {s u : State} (h : Changes l s u) (hd : Part.dcp ∈ l) {slot status : Nat}
    {reply : List Byte} : Changes l s (u.dcpResult slot status reply) := fun p hp =>
  Part.same_trans (h p hp) (((State.dcpResult_keeps u slot status reply).changes (l := [.dcp]) rfl) p
    fun hm => hp (List.mem_singleton.1 hm ▸ hd))

/-! ## The effect point (R406) -/

section Effect

variable {s u : State} {slot : Fin 25} {op : Nat} {r : DcpRun} {f : State → DcpRun → DcpAns × State}

/-- A started command is not started again. -/
theorem DcpRuns.runTry (h : DcpRuns s slot op r) : s.runTry slot = s := by
  obtain ⟨_, hrun, hstarted, _, _⟩ := h
  simp [State.runTry, hrun, hstarted]

theorem dcpDo_wait (h : DcpRuns s slot op r) (hf : f s r = (.wait, u)) : s.dcpDo slot op f = u := by
  have htry := h.runTry
  obtain ⟨hserves, hrun, hstarted, hresult, hop⟩ := h
  simp [State.dcpDo, hserves, htry, hrun, hstarted, hresult, hop, hf]

theorem dcpDo_done {status : Nat} {reply : List Byte} (h : DcpRuns s slot op r) (hf : f s r = (.done status reply, u)) :
    s.dcpDo slot op f = u.dcpResult slot status reply := by
  have htry := h.runTry
  obtain ⟨hserves, hrun, hstarted, hresult, hop⟩ := h
  simp [State.dcpDo, hserves, htry, hrun, hstarted, hresult, hop, hf]

/-- The command of `op` that runs in `slot` ends with `status` and `reply`, and `P` holds of what it left. -/
def DcpDoes (s : State) (slot : Fin 25) (r : DcpRun) (i : Instr) (op status : Nat) (reply : List Byte)
    (P : State → Prop) : Prop :=
  DcpRuns s slot op r → Gives (exec i s) fun t => Answered slot status reply s t ∧ P t

/-- It ends with `status` and changes nothing else. -/
def DcpFails (s : State) (slot : Fin 25) (r : DcpRun) (i : Instr) (op status : Nat) (reply : List Byte) : Prop :=
  DcpRuns s slot op r → Gives (exec i s) (OnlyAnswered slot status reply s)

/-- It waits, and `P` holds of what it left. -/
def DcpWaits (s : State) (slot : Fin 25) (r : DcpRun) (i : Instr) (op : Nat) (P : State → Prop) : Prop :=
  DcpRuns s slot op r → Gives (exec i s) fun t => t.dcp = s.dcp ∧ P t

variable {i : Instr}

theorem dcpFails_detail {status off reason index : Nat} (he : exec i s = .next (s.dcpDo slot op f))
    (hf : f s r = (.done status (dcpDetail off reason index), s)) :
    DcpFails s slot r i op status (dcpDetail off reason index) := fun h =>
  ⟨_, he.trans (congrArg _ (dcpDo_done h hf)), onlyAnswered_dcpResult s slot (.inr (dcpDetail_ne_nil _ _ _))⟩

theorem dcpFails {status : Nat} (he : exec i s = .next (s.dcpDo slot op f)) (hf : f s r = (dcpFail status, s)) :
    DcpFails s slot r i op status noDetail := dcpFails_detail he hf

theorem dcpDoes {reply : List Byte} {P : State → Prop} (he : exec i s = .next (s.dcpDo slot op f))
    (hf : f s r = (.done 0 reply, u)) (hu : u.dcp.runs = s.dcp.runs) (hP : P (u.dcpResult slot 0 reply)) :
    DcpDoes s slot r i op 0 reply P := fun h =>
  ⟨_, he.trans (congrArg _ (dcpDo_done h hf)), answered_dcpResult hu slot (.inl rfl), hP⟩

theorem dcpWaits {P : State → Prop} (he : exec i s = .next (s.dcpDo slot op f)) (hf : f s r = (.wait, u))
    (hu : u.dcp = s.dcp) (hP : P u) : DcpWaits s slot r i op P := fun h =>
  ⟨_, he.trans (congrArg _ (dcpDo_wait h hf)), hu, hP⟩

end Effect

end Sys2Proof.Machine
end

section
/-! SUPPORT. A run of registers stored one after another: what each of them holds in the end, and that the others hold
what they held. -/

namespace Sys2Proof.Machine

theorem Fld.ok_iff {f : Fld} : f.ok = true ↔ f.lo ≤ f.hi ∧ f.hi < 64 := by
  simp [Fld.ok]

theorem Fld.apart_iff {f g : Fld} : f.apart g = true ↔ f.addr ≠ g.addr ∨ f.hi < g.lo ∨ g.hi < f.lo := by
  simp [Fld.apart, or_assoc]

theorem Fld.apart_of_addr {f g : Fld} (h : f.addr ≠ g.addr) : f.apart g = true := Fld.apart_iff.2 (.inl h)
theorem Fld.apart_of_below {f g : Fld} (h : f.hi < g.lo) : f.apart g = true := Fld.apart_iff.2 (.inr (.inl h))
theorem Fld.apart_of_above {f g : Fld} (h : g.hi < f.lo) : f.apart g = true := Fld.apart_iff.2 (.inr (.inr h))

/-- A value that fits its field reads back whole. -/
theorem State.rd_wr_fits (s : State) {f : Fld} {v : Nat} (h : f.ok = true) (hv : v < 2 ^ f.width) :
    (s.wr f v).rd f = v := by
  rw [State.rd_wr_same s v h, Nat.mod_eq_of_lt hv]

/-- What one step of a fold brings about and no other step undoes holds at its end. -/
theorem foldl_establishes {α : Type} {f : State → α → State} {Q : State → Prop} {l : List α} {x : α} (hx : x ∈ l)
    (hself : ∀ s, Q (f s x)) (hkeep : ∀ s, ∀ y ∈ l, Q s → Q (f s y)) (s : State) : Q (l.foldl f s) := by
  induction l generalizing s with
  | nil => cases hx
  | cons y l ih =>
    by_cases hl : x ∈ l
    · exact ih hl (fun s z hz => hkeep s z (List.mem_cons_of_mem _ hz)) _
    · obtain rfl : x = y := (List.mem_cons.1 hx).resolve_right hl
      exact List.foldlRecOn l f (hself s) fun t ht z hz => hkeep t z (List.mem_cons_of_mem _ hz) ht

theorem reg_foldl_setReg {α : Type} {a : α → Nat} {v : α → Word} {l : List α} {x : α} (hx : x ∈ l)
    (h : ∀ y ∈ l, a y = a x → v y = v x) (s : State) :
    (l.foldl (fun s y => s.setReg (a y) (v y)) s).reg (a x) = v x := by
  refine foldl_establishes (Q := fun t => t.reg (a x) = v x) hx (fun s => State.reg_setReg_same ..) (fun s y hy hs => ?_) s
  by_cases e : a x = a y
  · rw [e, State.reg_setReg_same, h y hy e.symm]
  · rw [State.reg_setReg_ne _ _ e, hs]

theorem regsBut_foldl_setReg {α : Type} (a : α → Nat) (v : α → Word) (l : List α) (s : State) :
    RegsBut (l.map a) s (l.foldl (fun s y => s.setReg (a y) (v y)) s) :=
  List.foldlRecOn l _ RegsBut.refl fun t ht y hy =>
    ht.trans ((regsBut_setReg t (a y) (v y)).mono (List.cons_subset.2 ⟨List.mem_map_of_mem hy, List.nil_subset _⟩))

end Sys2Proof.Machine
end

section
/-! PROOF of CommandsOfUnits (R60, R125, R126, R216, R220, R240, R330, R331, R333, R360, R362, R411, R587): what each
command does at its effect point, then the clauses. -/

namespace Sys2Proof.Machine

section Units

variable {s : State} {slot : Fin 25} {r : DcpRun}

theorem State.needs_on {d : Nat} (h : s.domOn d = true) (x : DcpAns × State) : s.needs d x = x := by
  simp [State.needs, h]

theorem State.needs_off {d : Nat} (h : s.domOn d = false) (x : DcpAns × State) : s.needs d x = (dcpFail 0x203, s) := by
  simp [State.needs, h]

/-! ## SWC_LOAD (R125, R126) -/

/-- The operations of the batch carry nothing undefined. -/
def BatchDefined (l : List Byte) : Prop :=
  (batchOps l).all (fun o => o.1 == 0 && decide (o.2.table ≤ 6) && decide (o.2.op ≤ 3)) = true

def payBatch (l : List Byte) : List UpdOp := (batchOps l).map fun o => o.2

/-- What the tables make of the batch: code and position of the first failure, and the tables after it. -/
def State.batchOutcome (s : State) (l : List Byte) : Nat × Nat × SwTables := s.swc.tables.applyAll (payBatch l) 0

/-- The batch replaces a version that a frame still holds (R126). -/
def State.payHeld (s : State) (l : List Byte) : Bool := (s.setSwc { s.swc with batch := payBatch l }).batchHeld

theorem BatchDefined.none_bad {l : List Byte} (h : BatchDefined l) :
    ((batchOps l).any fun o => o.1 != 0 || decide (6 < o.2.table) || decide (3 < o.2.op)) = false := by
  rw [List.any_eq_false]
  intro o ho
  have := List.all_eq_true.1 h o ho
  simp only [Bool.and_eq_true, beq_iff_eq, decide_eq_true_eq] at this
  simp only [Bool.or_eq_true, bne_iff_ne, decide_eq_true_eq]
  omega

/-- What a batch leaves alone while it stages resets. -/
theorem opReset_swc (u : State) (o : UpdOp) :
    (u.opReset o).swc.tables = u.swc.tables ∧ (u.opReset o).swc.genAbs = u.swc.genAbs ∧
      (u.opReset o).swc.batch = u.swc.batch := by
  have hrun : (u.runReset o).swc.tables = u.swc.tables ∧ (u.runReset o).swc.genAbs = u.swc.genAbs ∧
      (u.runReset o).swc.batch = u.swc.batch := by
    unfold State.runReset
    extract_lets w
    split <;> exact ⟨rfl, rfl, rfl⟩
  unfold State.opReset
  extract_lets w g
  split
  · exact ⟨rfl, rfl, rfl⟩
  · split
    · exact ⟨rfl, rfl, rfl⟩
    · split
      · split
        · exact hrun
        · exact ⟨rfl, rfl, rfl⟩
      · exact ⟨rfl, rfl, rfl⟩

theorem foldl_opReset_swc (b : List UpdOp) (u : State) :
    (b.foldl (fun u o => u.opReset o) u).swc.genAbs = u.swc.genAbs ∧
      (b.foldl (fun u o => u.opReset o) u).swc.batch = u.swc.batch := by
  induction b generalizing u with
  | nil => exact ⟨rfl, rfl⟩
  | cons o b ih =>
    obtain ⟨_, hgen, hbatch⟩ := opReset_swc u o
    exact ⟨(ih _).1.trans hgen, (ih _).2.trans hbatch⟩

theorem loadBatch_refused {b : List UpdOp} (h : (s.swc.tables.applyAll b 0).1 ≠ 0) :
    s.loadBatch b = (dcpFailAt 0x305 (s.swc.tables.applyAll b 0).1 (s.swc.tables.applyAll b 0).2.1, s) := by
  unfold State.loadBatch
  simp [State.setSwc, h]

theorem loadBatch_held {b : List UpdOp} (h : (s.swc.tables.applyAll b 0).1 = 0)
    (hh : (s.setSwc { s.swc with batch := b }).batchHeld = true) : s.loadBatch b = (.wait, s) := by
  unfold State.loadBatch
  rw [if_neg (by simpa [State.setSwc] using h), if_pos hh]

theorem loadBatch_taken {b : List UpdOp} (h : (s.swc.tables.applyAll b 0).1 = 0)
    (hh : ¬(s.setSwc { s.swc with batch := b }).batchHeld = true) :
    s.loadBatch b = (dcpOk, (b.foldl (fun u o => u.opReset o) s).newGen (s.swc.tables.applyAll b 0).2.2) := by
  unfold State.loadBatch
  rw [if_neg (by simpa [State.setSwc] using h), if_neg hh]
  rfl

theorem exec_swcLoad_off (hd : s.domOn 6 = false) : DcpFails s slot r (.swcLoad slot) 0x300 0x203 noDetail :=
  dcpFails rfl (State.needs_off hd _)

theorem swcLoad_effect (hd : s.domOn 6 = true) (hok : BatchDefined r.payload) :
    s.needs 6 (if (batchOps r.payload).any fun o => o.1 != 0 || decide (6 < o.2.table) || decide (3 < o.2.op) then
      (dcpFail 0x104, s) else s.loadBatch (payBatch r.payload)) = s.loadBatch (payBatch r.payload) := by
  rw [State.needs_on hd, hok.none_bad]
  rfl

theorem exec_swcLoad_refused (hd : s.domOn 6 = true) (hok : BatchDefined r.payload)
    (h : (s.batchOutcome r.payload).1 ≠ 0) : DcpFails s slot r (.swcLoad slot) 0x300 0x305
      (dcpDetail 0xFFFF (s.batchOutcome r.payload).1 (s.batchOutcome r.payload).2.1) :=
  dcpFails_detail rfl ((swcLoad_effect hd hok).trans (loadBatch_refused h))

theorem exec_swcLoad_held (hd : s.domOn 6 = true) (hok : BatchDefined r.payload)
    (h : (s.batchOutcome r.payload).1 = 0) (hh : s.payHeld r.payload = true) :
    DcpWaits s slot r (.swcLoad slot) 0x300 fun t => t = s :=
  dcpWaits rfl ((swcLoad_effect hd hok).trans (loadBatch_held h hh)) rfl rfl

theorem exec_swcLoad_taken (hd : s.domOn 6 = true) (hok : BatchDefined r.payload)
    (h : (s.batchOutcome r.payload).1 = 0) (hh : ¬s.payHeld r.payload = true) :
    DcpDoes s slot r (.swcLoad slot) 0x300 0 [] fun t =>
      t.swc.tables = (s.batchOutcome r.payload).2.2 ∧ t.swc.genAbs = s.swc.genAbs + 1 ∧ t.swc.batch = s.swc.batch ∧
        Changes [.regs, .swc, .dcp] s t := by
  obtain ⟨hgen, hbatch⟩ := foldl_opReset_swc (payBatch r.payload) s
  have hk := State.loadBatch_keeps s (payBatch r.payload)
  rw [loadBatch_taken h hh] at hk
  refine dcpDoes rfl ((swcLoad_effect hd hok).trans (loadBatch_taken h hh)) (congrArg DcpSt.runs (hk.same .dcp rfl))
    ⟨rfl, ?_, hbatch, ?_⟩
  · exact congrArg (· + 1) hgen
  · exact Changes.dcpResult (hk.changes rfl) (by decide)

/-! ## ROOK_SETUP (R220) -/

/-- The entry `e` of the dispatch map of engine port `b` names engine `n` (R220). -/
def DispatchNames (b e n : Nat) (t : State) : Prop :=
  t.rd (PEA_EPk_DISPj_ENGINE b (e / 8) (e % 8)) = n ∧ t.bit (PEA_EPk_DISPj_VALID b (e / 8) (e % 8)) = true

/-- One entry of a dispatch map. -/
def State.dispatchTo (s : State) (b e n : Nat) : State :=
  (s.wr (PEA_EPk_DISPj_ENGINE b (e / 8) (e % 8)) n).wrB (PEA_EPk_DISPj_VALID b (e / 8) (e % 8)) true

/-- The window registers of an engine as ROOK_SETUP leaves them. -/
def State.rookWindows (s : State) (n bind rdLo rdHi wrLo wrHi : Nat) : State :=
  let s := (s.wr (PEA_Rn_CTL_BIND n) bind)
  let s := (s.wr (PEA_Rn_PIRD_LO n) rdLo).wr (PEA_Rn_PIRD_HI n) rdHi
  (s.wr (PEA_Rn_PIWR_LO n) wrLo).wr (PEA_Rn_PIWR_HI n) wrHi

theorem ok_DISPj_ENGINE (b e : Nat) : (PEA_EPk_DISPj_ENGINE b (e / 8) (e % 8)).ok = true :=
  Fld.ok_iff.2 (by simp only [PEA_EPk_DISPj_ENGINE]; omega)

theorem ok_DISPj_VALID (b e : Nat) : (PEA_EPk_DISPj_VALID b (e / 8) (e % 8)).ok = true :=
  Fld.ok_iff.2 (by simp only [PEA_EPk_DISPj_VALID]; omega)

theorem dispatchNames_dispatchTo (t : State) (b e : Nat) {n : Nat} (hn : n < 2 ^ 5) :
    DispatchNames b e n (t.dispatchTo b e n) := by
  have hw : (PEA_EPk_DISPj_ENGINE b (e / 8) (e % 8)).width = 5 := by
    simp only [Fld.width, PEA_EPk_DISPj_ENGINE]
    omega
  refine ⟨?_, State.bit_wrB_same _ _ (ok_DISPj_VALID b e)⟩
  rw [State.dispatchTo, State.wrB, State.rd_wr_apart _ _ (ok_DISPj_VALID b e) (ok_DISPj_ENGINE b e),
    State.rd_wr_fits _ (ok_DISPj_ENGINE b e) (hw ▸ hn)]
  exact Fld.apart_iff.2 (by simp only [PEA_EPk_DISPj_ENGINE, PEA_EPk_DISPj_VALID]; omega)

/-- Another entry of the map is left alone. -/
theorem DispatchNames.dispatchTo {b e n : Nat} {t : State} (h : DispatchNames b e n t) {e' : Nat} (hne : e ≠ e') (n' : Nat) :
    DispatchNames b e n (t.dispatchTo b e' n') := by
  obtain ⟨hengine, hvalid⟩ := h
  have h1 := ok_DISPj_ENGINE b e
  have h2 := ok_DISPj_VALID b e
  have h1' := ok_DISPj_ENGINE b e'
  have h2' := ok_DISPj_VALID b e'
  have apart : ∀ f ∈ [PEA_EPk_DISPj_ENGINE b (e / 8) (e % 8), PEA_EPk_DISPj_VALID b (e / 8) (e % 8)],
      ∀ g ∈ [PEA_EPk_DISPj_ENGINE b (e' / 8) (e' % 8), PEA_EPk_DISPj_VALID b (e' / 8) (e' % 8)], f.apart g = true := by
    simp only [List.mem_pair, Fld.apart_iff, PEA_EPk_DISPj_ENGINE, PEA_EPk_DISPj_VALID, PEA_EPk_DISPj]
    rintro f (rfl | rfl) g (rfl | rfl) <;> simp only <;> omega
  constructor
  · rw [State.dispatchTo, State.wrB, State.rd_wr_apart _ _ h2' h1 (apart _ (by simp) _ (by simp)),
      State.rd_wr_apart _ _ h1' h1 (apart _ (by simp) _ (by simp)), hengine]
  · rw [State.dispatchTo, State.wrB, State.bit_wr_apart _ _ h2' h2 (apart _ (by simp) _ (by simp)),
      State.bit_wr_apart _ _ h1' h2 (apart _ (by simp) _ (by simp)), hvalid]

/-- The registers below the dispatch maps are left alone. -/
theorem rd_dispatchTo (t : State) (b e n : Nat) {f : Fld} (hf : f.addr < 0x01601010) :
    (t.dispatchTo b e n).rd f = t.rd f := by
  have hne : f.addr ≠ PEA_EPk_DISPj b (e / 8) := by
    simp only [PEA_EPk_DISPj]
    omega
  refine State.rd_congr ?_
  rw [State.dispatchTo, State.wrB, State.reg_wr_ne _ _ hne, State.reg_wr_ne _ _ hne]

/-- Entries `first` to `first + count − 1` of a dispatch map name engine `n`. -/
def State.dispatchAll (s : State) (b first count n : Nat) : State :=
  (List.range count).foldl (fun s i => s.dispatchTo b (first + i) n) s

theorem rd_dispatchAll (s : State) (b first count n : Nat) {f : Fld} (hf : f.addr < 0x01601010) :
    (s.dispatchAll b first count n).rd f = s.rd f :=
  List.foldlRecOn (motive := fun t => t.rd f = s.rd f) _ _ rfl fun t ht _ _ => (rd_dispatchTo t b _ n hf).trans ht

theorem dispatchNames_dispatchAll (s : State) (b : Nat) {first count e n : Nat} (hn : n < 2 ^ 5) (h : first ≤ e)
    (h' : e < first + count) : DispatchNames b e n (s.dispatchAll b first count n) := by
  have he : first + (e - first) = e := by omega
  refine foldl_establishes (x := e - first) (List.mem_range.2 (by omega)) (fun t => ?_) (fun t i _ ht => ?_) s
  · rw [he]
    exact dispatchNames_dispatchTo t b e hn
  · by_cases hi : e = first + i
    · rw [← hi]
      exact dispatchNames_dispatchTo t b e hn
    · exact ht.dispatchTo hi n

/-- What ROOK_SETUP asks of its operands. -/
structure SetupOk (l : List Byte) : Prop where
  bind : byteAt l 1 ≤ 3
  entries : byteAt l 20 + byteAt l 21 ≤ 64
  windows : ∀ o ∈ [4, 8, 12, 16], leAt l o 4 % 8 = 0 ∧ leAt l o 4 < 2 ^ 22
  outputs : leAt l 16 4 ≤ 0x100000

theorem rookSetup_busy {l : List Byte} (hn : byteAt l 0 ≤ 23) (h : s.engState (byteAt l 0) ≠ 0) :
    s.rookSetup l = (dcpFailAt 0x205 0 (byteAt l 0), s) := by
  unfold State.rookSetup
  simp only [decide_eq_true_eq]
  rw [if_neg (by omega), if_pos (by simp [h])]

theorem rookSetup_taken {l : List Byte} (hl : SetupOk l) (hn : byteAt l 0 ≤ 23) (h : s.engState (byteAt l 0) = 0)
    (hen : s.bit (PEA_Rn_CTL_EN (byteAt l 0)) = false) :
    s.rookSetup l = (dcpOk, (s.rookWindows (byteAt l 0) (byteAt l 1) (leAt l 4 4) (leAt l 8 4) (leAt l 12 4)
      (leAt l 16 4)).dispatchAll (byteAt l 1) (byteAt l 20) (byteAt l 21) (byteAt l 0)) := by
  obtain ⟨hbind, hentries, hwindows, houtputs⟩ := hl
  have hwin : [leAt l 4 4, leAt l 8 4, leAt l 12 4, leAt l 16 4].any (fun v => v % 8 != 0 || decide (2 ^ 22 ≤ v)) = false := by
    simp only [List.forall_mem_cons] at hwindows
    obtain ⟨⟨a1, a2⟩, ⟨b1, b2⟩, ⟨c1, c2⟩, ⟨d1, d2⟩, -⟩ := hwindows
    simp [a1, b1, c1, d1]
    omega
  unfold State.rookSetup
  simp only [hwin, h, hen]
  rw [if_neg (by simpa using hn), if_neg (by simp), if_neg (by simp; omega), if_neg (by simp; omega)]
  rfl

theorem rd_rookWindows (s : State) {n bind rdLo rdHi wrLo wrHi : Nat} (hb : bind < 2 ^ 3) (h1 : rdLo < 2 ^ 22)
    (h2 : rdHi < 2 ^ 22) (h3 : wrLo < 2 ^ 22) (h4 : wrHi < 2 ^ 22) :
    let t := s.rookWindows n bind rdLo rdHi wrLo wrHi
    t.rd (PEA_Rn_CTL_BIND n) = bind ∧ t.rd (PEA_Rn_PIRD_LO n) = rdLo ∧ t.rd (PEA_Rn_PIRD_HI n) = rdHi ∧
      t.rd (PEA_Rn_PIWR_LO n) = wrLo ∧ t.rd (PEA_Rn_PIWR_HI n) = wrHi := by
  have c1 : PEA_Rn_CTL n ≠ PEA_Rn_PIRD n := by simp [PEA_Rn_CTL, PEA_Rn_PIRD]
  have c2 : PEA_Rn_CTL n ≠ PEA_Rn_PIWR n := by simp [PEA_Rn_CTL, PEA_Rn_PIWR]
  have c3 : PEA_Rn_PIRD n ≠ PEA_Rn_PIWR n := by simp [PEA_Rn_PIRD, PEA_Rn_PIWR]
  refine ⟨?_, ?_, ?_, ?_, ?_⟩
  · simp only [State.rookWindows]
    rw [State.rd_wr_apart _ _ rfl rfl (Fld.apart_of_addr c2), State.rd_wr_apart _ _ rfl rfl (Fld.apart_of_addr c2),
      State.rd_wr_apart _ _ rfl rfl (Fld.apart_of_addr c1), State.rd_wr_apart _ _ rfl rfl (Fld.apart_of_addr c1),
      State.rd_wr_fits _ rfl hb]
  · simp only [State.rookWindows]
    rw [State.rd_wr_apart _ _ rfl rfl (Fld.apart_of_addr c3), State.rd_wr_apart _ _ rfl rfl (Fld.apart_of_addr c3),
      State.rd_wr_apart _ _ rfl rfl (Fld.apart_of_below (by decide : 21 < 32)), State.rd_wr_fits _ rfl h1]
  · simp only [State.rookWindows]
    rw [State.rd_wr_apart _ _ rfl rfl (Fld.apart_of_addr c3), State.rd_wr_apart _ _ rfl rfl (Fld.apart_of_addr c3),
      State.rd_wr_fits _ rfl h2]
  · simp only [State.rookWindows]
    rw [State.rd_wr_apart _ _ rfl rfl (Fld.apart_of_below (by decide : 21 < 32)), State.rd_wr_fits _ rfl h3]
  · exact State.rd_wr_fits _ rfl h4

theorem rookSetup_effect (hd : s.domOn (engDom (byteAt r.payload 0)) = true) (h2 : s.domOn 2 = true) :
    s.needs (if decide (byteAt r.payload 0 < 12) then 4 else 5) (s.needs 2 (s.rookSetup r.payload)) =
      s.rookSetup r.payload := by
  have hdom : (if decide (byteAt r.payload 0 < 12) then 4 else 5) = engDom (byteAt r.payload 0) := by
    simp [engDom]
  rw [hdom, State.needs_on hd, State.needs_on h2]

theorem exec_rookSetup_busy {n : Nat} (hb : byteAt r.payload 0 = n) (hn : n ≤ 23) (hd : s.domOn (engDom n) = true)
    (h2 : s.domOn 2 = true) (h : s.engState n ≠ 0) :
    DcpFails s slot r (.rookSetup slot) 0x301 0x205 (dcpDetail 0xFFFF 0 n) := by
  subst hb
  exact dcpFails_detail rfl ((rookSetup_effect hd h2).trans (rookSetup_busy hn h))

theorem exec_rookSetup_taken {n : Nat} (hb : byteAt r.payload 0 = n) (hn : n ≤ 23) (hd : s.domOn (engDom n) = true)
    (h2 : s.domOn 2 = true) (h : s.engState n = 0) (hen : s.bit (PEA_Rn_CTL_EN n) = false) (hl : SetupOk r.payload) :
    DcpDoes s slot r (.rookSetup slot) 0x301 0 [] fun t =>
      t.rd (PEA_Rn_CTL_BIND n) = byteAt r.payload 1 ∧ t.rd (PEA_Rn_PIRD_LO n) = leAt r.payload 4 4 ∧
        t.rd (PEA_Rn_PIRD_HI n) = leAt r.payload 8 4 ∧ t.rd (PEA_Rn_PIWR_LO n) = leAt r.payload 12 4 ∧
        t.rd (PEA_Rn_PIWR_HI n) = leAt r.payload 16 4 ∧
        (∀ e, byteAt r.payload 20 ≤ e → e < byteAt r.payload 20 + byteAt r.payload 21 →
          DispatchNames (byteAt r.payload 1) e n t) ∧ Changes [.regs, .dcp] s t := by
  subst hb
  have hk := State.rookSetup_keeps s r.payload
  rw [rookSetup_taken hl hn h hen] at hk
  have hfit : ∀ o ∈ [4, 8, 12, 16], leAt r.payload o 4 < 2 ^ 22 := fun o ho => (hl.windows o ho).2
  obtain ⟨w1, w2, w3, w4, w5⟩ := rd_rookWindows s (n := byteAt r.payload 0) (Nat.lt_of_le_of_lt hl.bind (by decide))
    (hfit 4 (by decide)) (hfit 8 (by decide)) (hfit 12 (by decide)) (hfit 16 (by decide))
  refine dcpDoes rfl ((rookSetup_effect hd h2).trans (rookSetup_taken hl hn h hen)) (congrArg DcpSt.runs (hk.same .dcp rfl))
    ⟨?_, ?_, ?_, ?_, ?_, fun e he he' => dispatchNames_dispatchAll _ _ (Nat.lt_of_le_of_lt hn (by decide)) he he',
      Changes.dcpResult (hk.changes rfl) (by decide)⟩
  · exact (rd_dispatchAll _ _ _ _ _ (by simp only [PEA_Rn_CTL_BIND, PEA_Rn_CTL]; omega)).trans w1
  · exact (rd_dispatchAll _ _ _ _ _ (by simp only [PEA_Rn_PIRD_LO, PEA_Rn_PIRD]; omega)).trans w2
  · exact (rd_dispatchAll _ _ _ _ _ (by simp only [PEA_Rn_PIRD_HI, PEA_Rn_PIRD]; omega)).trans w3
  · exact (rd_dispatchAll _ _ _ _ _ (by simp only [PEA_Rn_PIWR_LO, PEA_Rn_PIWR]; omega)).trans w4
  · exact (rd_dispatchAll _ _ _ _ _ (by simp only [PEA_Rn_PIWR_HI, PEA_Rn_PIWR]; omega)).trans w5

/-! ## CB_AREQ, PTP_SET and RELAY_SET (R240, R360, R411) -/

/-- The operands name no node of a segment, or carry no TAG (R231, R240). -/
def AreqBad (l : List Byte) : Prop := 3 < byteAt l 0 ∨ byteAt l 1 = 0 ∨ 31 < byteAt l 1 ∨ beAt l 4 2 = 0

/-- The request queued for a node. -/
def areqOf (slot : Fin 25) (l : List Byte) : CbReq :=
  ⟨slot.val, byteAt l 1, natOfBE ((l.drop 4).take 2), l.drop 4, false, 0⟩

theorem cbAreq_bad_iff (l : List Byte) :
    (decide (3 < byteAt l 0) || byteAt l 1 == 0 || decide (31 < byteAt l 1) || beAt l 4 2 == 0) = true ↔ AreqBad l := by
  simp only [Bool.or_eq_true, decide_eq_true_eq, beq_iff_eq, AreqBad, or_assoc]

theorem exec_cbAreq_queued {g : Nat} (hd : s.domOn 8 = true) (hb : byteAt r.payload 0 = g) (hok : ¬AreqBad r.payload)
    (hfree : ∀ q ∈ (s.seg g).reqs, q.slot ≠ slot.val) :
    DcpWaits s slot r (.cbAreq slot) 0x302 fun t =>
      (t.seg g).reqs = (s.seg g).reqs ++ [areqOf slot r.payload] ∧ Changes [.cbc] s t := by
  subst hb
  have hnone : ((s.seg (byteAt r.payload 0)).reqs.any fun q => q.slot == slot.val) = false := by
    simpa [List.any_eq_false] using hfree
  have hk := State.cbQueue_keeps s (byteAt r.payload 0) (byteAt r.payload 1) slot.val (r.payload.drop 4)
  refine dcpWaits (u := s.cbQueue (byteAt r.payload 0) (byteAt r.payload 1) slot.val (r.payload.drop 4)) rfl
    ?_ (hk.same .dcp rfl) ⟨?_, hk.changes rfl⟩
  · rw [State.needs_on hd, if_neg ((cbAreq_bad_iff _).not.2 hok), hnone]
    rfl
  · simp only [State.cbQueue, State.segUpd, State.setSeg, State.seg, State.putCbc_cbc, mapGet_put_same]
    rfl

theorem exec_cbAreq_refused (hd : s.domOn 8 = true) (hbad : AreqBad r.payload) :
    DcpFails s slot r (.cbAreq slot) 0x302 0x301 noDetail :=
  dcpFails rfl (by rw [State.needs_on hd, if_pos ((cbAreq_bad_iff _).2 hbad)])

theorem exec_ptpSet (h : byteAt r.payload 0 ≤ 1) : DcpDoes s slot r (.ptpSet slot) 0x304 0 [] fun t =>
    mapGet (fun _ => []) t.dcp.ptp (byteAt r.payload 0) = r.payload.take 32 ∧ Changes [.dcp] s t := by
  refine dcpDoes (u := s.putDcp { s.dcp with ptp := mapPut (fun _ => []) s.dcp.ptp (byteAt r.payload 0) (r.payload.take 32) })
    rfl (by rw [if_neg (by simpa using h)]; rfl) rfl
    ⟨?_, Changes.dcpResult ((State.putDcp_keeps ..).changes rfl) (by decide)⟩
  simp [State.dcpResult]

theorem exec_ptpSet_refused (h : 1 < byteAt r.payload 0) : DcpFails s slot r (.ptpSet slot) 0x304 0x301 noDetail :=
  dcpFails rfl (by rw [if_pos (by simpa using h)])

theorem exec_relaySet (h0 : byteAt r.payload 0 ≤ 63) (h1 : byteAt r.payload 1 ≤ 15) (h2 : leAt r.payload 16 2 ≤ 4094) :
    DcpDoes s slot r (.relaySet slot) 0x305 0 [] fun t =>
      mapGet (fun _ => []) t.dcp.relay (byteAt r.payload 0) = r.payload.take 24 ∧ Changes [.dcp] s t := by
  refine dcpDoes (u := s.putDcp { s.dcp with relay := mapPut (fun _ => []) s.dcp.relay (byteAt r.payload 0) (r.payload.take 24) })
    rfl (by rw [if_neg (by simp; omega)]; rfl) rfl
    ⟨?_, Changes.dcpResult ((State.putDcp_keeps ..).changes rfl) (by decide)⟩
  simp [State.dcpResult]

/-! ## AXIS_SET (R309, R587) -/

/-- The four register values that an AXIS_SET carries. -/
abbrev axisCfg (l : List Byte) : Word := BitVec.ofNat 64 (leAt l 8 8)
abbrev axisIo (l : List Byte) : Word := BitVec.ofNat 64 (leAt l 16 8)
abbrev axisTime (l : List Byte) : Word := BitVec.ofNat 64 (leAt l 24 8)
abbrev axisStopWord (l : List Byte) : Word := BitVec.ofNat 64 (leAt l 32 8)

/-- The registers of axis `k` take the values (R12, R587). -/
def AxisTakes (k : Nat) (l : List Byte) : Prop :=
  bitsOf (axisTime l) 31 0 % 8 = 0 ∧ 0x80 ≤ bitsOf (axisCfg l) 16 0 ∧ 0x80 ≤ bitsOf (axisIo l) 48 32 ∧
    regTakes (ACE_AXk_CFG k) (axisCfg l) = true ∧ regTakes (ACE_AXk_IO k) (axisIo l) = true ∧
    regTakes (ACE_AXk_TIME k) (axisTime l) = true ∧ regTakes (ACE_AXk_STOP k) (axisStopWord l) = true

/-- The four registers of axis `k` with the values written, and READY shown anew. -/
def State.axisWritten (s : State) (k : Nat) (l : List Byte) : State :=
  ((((s.setReg (ACE_AXk_CFG k) (axisCfg l)).setReg (ACE_AXk_IO k) (axisIo l)).setReg (ACE_AXk_TIME k) (axisTime l)).setReg
    (ACE_AXk_STOP k) (axisStopWord l)).axisReadyBit k

theorem axisSet_wrongMode {l : List Byte} (hk : byteAt l 0 ≤ 63) (hm : s.mode ≠ 3)
    (hmoved : axisCfg l ≠ s.reg (ACE_AXk_CFG (byteAt l 0))) :
    s.axisSet l = (dcpFailAt 0x203 0 (byteAt l 0), s) := by
  have hmoved' : (axisCfg l != s.reg (ACE_AXk_CFG (byteAt l 0))) = true := by simpa using hmoved
  unfold State.axisSet
  simp only [axisCfg] at hmoved'
  simp only [hmoved']
  rw [if_neg (by simpa using hk), if_pos (by simpa using hm)]

/-- The check of the values that AXIS_SET makes in CONFIG (R12, R587). -/
theorem axisTakes_check {k : Nat} {l : List Byte} (ht : AxisTakes k l) :
    (!(regTakes (ACE_AXk_CFG k) (axisCfg l) && regTakes (ACE_AXk_IO k) (axisIo l) &&
      regTakes (ACE_AXk_TIME k) (axisTime l) && regTakes (ACE_AXk_STOP k) (axisStopWord l)) ||
      bitsOf (axisTime l) 31 0 % 8 != 0 || decide (bitsOf (axisCfg l) 16 0 < 0x80) ||
      decide (bitsOf (axisIo l) 48 32 < 0x80)) = false := by
  obtain ⟨htime, hcfg, hio, h1, h2, h3, h4⟩ := ht
  simp only [h1, h2, h3, h4, htime]
  simp only [Bool.and_self, Bool.not_true, bne_self_eq_false, Bool.or_self, Bool.false_or, Bool.or_eq_false_iff,
    decide_eq_false_iff_not]
  omega

theorem axisSet_conflict {l : List Byte} {i : Nat} (hk : byteAt l 0 ≤ 63) (hm : s.mode = 3) (ht : AxisTakes (byteAt l 0) l)
    (hen : bitsOf (axisCfg l) 63 63 = 1)
    (hmoved : axisCfg l ≠ s.reg (ACE_AXk_CFG (byteAt l 0)) ∨ axisIo l ≠ s.reg (ACE_AXk_IO (byteAt l 0)))
    (hi : s.itemConflict (byteAt l 0) (axisIo l) = some i) : s.axisSet l = (dcpFailAt 0x302 0 i, s) := by
  have hdo : (bitsOf (axisCfg l) 63 63 == 1 && (axisCfg l != s.reg (ACE_AXk_CFG (byteAt l 0)) ||
      axisIo l != s.reg (ACE_AXk_IO (byteAt l 0)))) = true := by
    simpa [hen] using hmoved
  have hcheck := axisTakes_check ht
  unfold State.axisSet
  extract_lets k cfg io time stop en moved
  rw [if_neg (by simpa [k] using hk), if_neg (by simp [hm]), if_neg (Bool.eq_false_iff.1 hcheck), if_pos hdo, hi]

theorem axisSet_taken {l : List Byte} (hk : byteAt l 0 ≤ 63) (hm : s.mode = 3) (ht : AxisTakes (byteAt l 0) l)
    (hfree : bitsOf (axisCfg l) 63 63 = 0 ∨
      s.bit (ACE_AXk_CFG_EN (byteAt l 0)) = true ∧ s.itemConflict (byteAt l 0) (axisIo l) = none) :
    s.axisSet l = (dcpOk, s.axisWritten (byteAt l 0) l) := by
  have hnone : (if (bitsOf (axisCfg l) 63 63 == 1 && (axisCfg l != s.reg (ACE_AXk_CFG (byteAt l 0)) ||
      axisIo l != s.reg (ACE_AXk_IO (byteAt l 0)))) = true then s.itemConflict (byteAt l 0) (axisIo l) else none) = none := by
    rcases hfree with h0 | ⟨-, hc⟩
    · simp [h0]
    · simp [hc]
  have hwas : (bitsOf (axisCfg l) 63 63 == 1 && !s.bit (ACE_AXk_CFG_EN (byteAt l 0))) = false := by
    rcases hfree with h0 | ⟨hb, -⟩
    · simp [h0]
    · simp [hb]
  have hcheck := axisTakes_check ht
  unfold State.axisSet
  extract_lets k cfg io time stop en moved
  rw [if_neg (by simpa [k] using hk), if_neg (by simp [hm]), if_neg (Bool.eq_false_iff.1 hcheck), hnone]
  show (dcpOk, State.axisReadyBit (if _ then _ else _) _) = _
  rw [if_neg (Bool.eq_false_iff.1 hwas)]
  rfl

theorem regsBut_axisWritten (s : State) (k : Nat) (l : List Byte) :
    RegsBut [ACE_AXk_CFG k, ACE_AXk_IO k, ACE_AXk_TIME k, ACE_AXk_STOP k, ACE_AXk_STAT k] s (s.axisWritten k l) := by
  have one {u t : State} (h : RegsBut [ACE_AXk_CFG k, ACE_AXk_IO k, ACE_AXk_TIME k, ACE_AXk_STOP k, ACE_AXk_STAT k] u t)
      {a : Nat} (ha : a ∈ [ACE_AXk_CFG k, ACE_AXk_IO k, ACE_AXk_TIME k, ACE_AXk_STOP k, ACE_AXk_STAT k]) (v : Word) :=
    h.trans ((regsBut_setReg t a v).mono (List.cons_subset.2 ⟨ha, List.nil_subset _⟩))
  exact one (a := ACE_AXk_STAT k) (one (one (one (one RegsBut.refl (by simp) _) (by simp) _) (by simp) _) (by simp) _)
    (by simp) _

theorem reg_axisWritten (s : State) (k : Nat) (l : List Byte) :
    (s.axisWritten k l).reg (ACE_AXk_CFG k) = axisCfg l ∧ (s.axisWritten k l).reg (ACE_AXk_IO k) = axisIo l ∧
      (s.axisWritten k l).reg (ACE_AXk_TIME k) = axisTime l ∧ (s.axisWritten k l).reg (ACE_AXk_STOP k) = axisStopWord l := by
  have hready : ∀ (t : State) (a : Nat), a ≠ ACE_AXk_STAT k → (t.axisReadyBit k).reg a = t.reg a := fun t a h =>
    State.reg_wr_ne _ _ h
  refine ⟨?_, ?_, ?_, ?_⟩ <;> rw [State.axisWritten, hready _ _ (by simp [ACE_AXk_CFG, ACE_AXk_IO, ACE_AXk_TIME, ACE_AXk_STOP, ACE_AXk_STAT])]
  · rw [State.reg_setReg_ne _ _ (by simp [ACE_AXk_CFG, ACE_AXk_STOP]), State.reg_setReg_ne _ _ (by simp [ACE_AXk_CFG, ACE_AXk_TIME]),
      State.reg_setReg_ne _ _ (by simp [ACE_AXk_CFG, ACE_AXk_IO]), State.reg_setReg_same]
  · rw [State.reg_setReg_ne _ _ (by simp [ACE_AXk_IO, ACE_AXk_STOP]), State.reg_setReg_ne _ _ (by simp [ACE_AXk_IO, ACE_AXk_TIME]),
      State.reg_setReg_same]
  · rw [State.reg_setReg_ne _ _ (by simp [ACE_AXk_TIME, ACE_AXk_STOP]), State.reg_setReg_same]
  · exact State.reg_setReg_same ..

theorem exec_axisSet_wrongMode {k : Nat} (hd : s.domOn 7 = true) (hb : byteAt r.payload 0 = k) (hk : k ≤ 63)
    (hm : s.mode ≠ 3) (hmoved : axisCfg r.payload ≠ s.reg (ACE_AXk_CFG k)) :
    DcpFails s slot r (.axisSet slot) 0x400 0x203 (dcpDetail 0xFFFF 0 k) := by
  subst hb
  exact dcpFails_detail rfl ((State.needs_on hd _).trans (axisSet_wrongMode hk hm hmoved))

theorem exec_axisSet_conflict {k i : Nat} (hd : s.domOn 7 = true) (hb : byteAt r.payload 0 = k) (hk : k ≤ 63)
    (hm : s.mode = 3) (ht : AxisTakes k r.payload) (hen : bitsOf (axisCfg r.payload) 63 63 = 1)
    (hmoved : axisCfg r.payload ≠ s.reg (ACE_AXk_CFG k) ∨ axisIo r.payload ≠ s.reg (ACE_AXk_IO k))
    (hi : s.itemConflict k (axisIo r.payload) = some i) :
    DcpFails s slot r (.axisSet slot) 0x400 0x302 (dcpDetail 0xFFFF 0 i) := by
  subst hb
  exact dcpFails_detail rfl ((State.needs_on hd _).trans (axisSet_conflict hk hm ht hen hmoved hi))

theorem exec_axisSet_taken {k : Nat} (hd : s.domOn 7 = true) (hb : byteAt r.payload 0 = k) (hk : k ≤ 63) (hm : s.mode = 3)
    (ht : AxisTakes k r.payload) (hfree : bitsOf (axisCfg r.payload) 63 63 = 0 ∨
      s.bit (ACE_AXk_CFG_EN k) = true ∧ s.itemConflict k (axisIo r.payload) = none) :
    DcpDoes s slot r (.axisSet slot) 0x400 0 [] fun t =>
      t.reg (ACE_AXk_CFG k) = axisCfg r.payload ∧ t.reg (ACE_AXk_IO k) = axisIo r.payload ∧
        t.reg (ACE_AXk_TIME k) = axisTime r.payload ∧ t.reg (ACE_AXk_STOP k) = axisStopWord r.payload ∧
        RegsBut [ACE_AXk_CFG k, ACE_AXk_IO k, ACE_AXk_TIME k, ACE_AXk_STOP k, ACE_AXk_STAT k] s t ∧
        Changes [.regs, .dcp] s t := by
  subst hb
  have heff := axisSet_taken hk hm ht hfree
  have hk' : Keeps 8 s (s.axisWritten (byteAt r.payload 0) r.payload) :=
    (State.axisReadyBit_keeps ..).comp rfl ((State.setReg_keeps ..).comp rfl ((State.setReg_keeps ..).comp rfl
      ((State.setReg_keeps ..).comp rfl (State.setReg_keeps ..))))
  obtain ⟨h1, h2, h3, h4⟩ := reg_axisWritten s (byteAt r.payload 0) r.payload
  exact dcpDoes rfl ((State.needs_on hd _).trans heff) rfl ⟨h1, h2, h3, h4, regsBut_axisWritten s _ r.payload,
    Changes.dcpResult (hk'.changes rfl) (by decide)⟩

/-! ## The commands of the coefficient banks (R330, R331, R333) -/

/-- The coefficients of a BANK_WRITE, `count` of them from `first` on. -/
structure CoefsOf (l : List Byte) (first count : Nat) : Prop where
  area : byteAt l 1 = 0
  start : leAt l 4 4 = first
  length : l.length = 8 + 8 * count
  fits : first + count ≤ 49

theorem leAt_drop (l : List Byte) (d o n : Nat) : leAt (l.drop d) o n = leAt l (d + o) n := by
  simp only [leAt, List.drop_drop]

/-- Coefficient `i` of the payload goes to shadow register `first + i`. -/
def State.coefsWritten (s : State) (k first count : Nat) (l : List Byte) : State :=
  (List.range count).foldl (fun s i => s.setReg (ACE_COEF_SHADOW k (first + i)) (BitVec.ofNat 64 (leAt l (8 + 8 * i) 8))) s

section Coefs

variable {l : List Byte} {first count : Nat} (hl : CoefsOf l first count) (hk : byteAt l 0 ≤ 63)
include hl hk

theorem bankWrite_locked (h : s.bankLocked (byteAt l 0) = true) : s.bankWrite l = (dcpFailAt 0x205 0 (byteAt l 0), s) := by
  obtain ⟨harea, rfl, hlength, hfits⟩ := hl
  unfold State.bankWrite
  simp only [harea, h, List.length_drop, hlength]
  rw [if_neg (by simp), if_neg (by simp; omega)]
  rfl

theorem bankWrite_taken (h : s.bankLocked (byteAt l 0) = false) :
    s.bankWrite l = (dcpOk, s.coefsWritten (byteAt l 0) first count l) := by
  obtain ⟨harea, rfl, hlength, hfits⟩ := hl
  unfold State.bankWrite
  simp only [harea, h, List.length_drop, hlength]
  rw [if_neg (by simp), if_neg (by simp; omega)]
  simp [State.coefsWritten, leAt_drop]

end Coefs

theorem reg_coefsWritten (s : State) (k first : Nat) {count i : Nat} (l : List Byte) (hi : i < count) :
    (s.coefsWritten k first count l).reg (ACE_COEF_SHADOW k (first + i)) = BitVec.ofNat 64 (leAt l (8 + 8 * i) 8) := by
  refine reg_foldl_setReg (a := fun i => ACE_COEF_SHADOW k (first + i)) (v := fun i => BitVec.ofNat 64 (leAt l (8 + 8 * i) 8))
    (List.mem_range.2 hi) (fun j _ hj => ?_) s
  obtain rfl : j = i := by
    simp only [ACE_COEF_SHADOW] at hj
    omega
  rfl

theorem regsBut_coefsWritten (s : State) (k first count : Nat) (l : List Byte) :
    RegsBut ((List.range count).map fun i => ACE_COEF_SHADOW k (first + i)) s (s.coefsWritten k first count l) :=
  regsBut_foldl_setReg _ _ _ s

theorem exec_bankWrite_locked {k first count : Nat} (hd : s.domOn 7 = true) (hb : byteAt r.payload 0 = k) (hk : k ≤ 63)
    (hl : CoefsOf r.payload first count) (h : s.bankLocked k = true) :
    DcpFails s slot r (.bankWrite slot) 0x402 0x205 (dcpDetail 0xFFFF 0 k) := by
  subst hb
  exact dcpFails_detail rfl ((State.needs_on hd _).trans (bankWrite_locked hl hk h))

theorem exec_bankWrite_taken {k first count : Nat} (hd : s.domOn 7 = true) (hb : byteAt r.payload 0 = k) (hk : k ≤ 63)
    (hl : CoefsOf r.payload first count) (h : s.bankLocked k = false) :
    DcpDoes s slot r (.bankWrite slot) 0x402 0 [] fun t =>
      (∀ i, i < count → t.reg (ACE_COEF_SHADOW k (first + i)) = BitVec.ofNat 64 (leAt r.payload (8 + 8 * i) 8)) ∧
        RegsBut ((List.range count).map fun i => ACE_COEF_SHADOW k (first + i)) s t ∧ Changes [.regs, .dcp] s t := by
  subst hb
  have heff := bankWrite_taken hl hk h
  have hkeeps := State.bankWrite_keeps s r.payload
  rw [heff] at hkeeps
  exact dcpDoes rfl ((State.needs_on hd _).trans heff) (congrArg DcpSt.runs (hkeeps.same .dcp rfl))
    ⟨fun i hi => reg_coefsWritten s _ first r.payload hi, regsBut_coefsWritten s _ first count r.payload,
      Changes.dcpResult (hkeeps.changes rfl) (by decide)⟩

/-- The registers of the banks when APPLY has been asked for. -/
def State.applyRegs (s : State) (mask : Nat) : State :=
  (s.wr ACE_APPLY_MASK_VALUE mask).wrB ACE_BANK_STAT_APPLY_PENDING true

theorem bankApply_asked (h : s.bit ACE_BANK_STAT_APPLY_PENDING = false) (mask : Nat) (reply : Option Nat) :
    (s.wr ACE_APPLY_MASK_VALUE mask).bankApply reply = (s.applyRegs mask).putAce
      { s.ace with mask := mask % 2 ^ 64, checked := false, applyReply := reply } := by
  have hpend : (s.wr ACE_APPLY_MASK_VALUE mask).bit ACE_BANK_STAT_APPLY_PENDING = false :=
    (State.bit_wr_apart s _ rfl rfl rfl).trans h
  have hmask : (s.applyRegs mask).rd ACE_APPLY_MASK_VALUE = mask % 2 ^ 64 := by
    rw [State.applyRegs, State.wrB, State.rd_wr_apart _ _ rfl rfl rfl, State.rd_wr_same _ _ rfl,
      show ACE_APPLY_MASK_VALUE.width = 64 from rfl]
  have hace : (s.applyRegs mask).ace = s.ace := by rw [State.applyRegs, State.wrB_ace, State.wr_ace]
  rw [State.bankApply, if_neg (Bool.eq_false_iff.1 hpend)]
  show (s.applyRegs mask).putAce { (s.applyRegs mask).ace with
    mask := (s.applyRegs mask).rd ACE_APPLY_MASK_VALUE, checked := false, applyReply := reply } = _
  rw [hmask, hace]

theorem regsBut_applyRegs (s : State) (mask : Nat) : RegsBut [ACE_BANK_STAT, ACE_APPLY_MASK] s (s.applyRegs mask) :=
  (RegsBut.refl.wr (f := ACE_APPLY_MASK_VALUE) (by decide) _).wrB (f := ACE_BANK_STAT_APPLY_PENDING) (by decide) _

/-- The axis mask is written and APPLY set (R331). -/
theorem exec_bankApply_asked (hd : s.domOn 7 = true) (h : s.bit ACE_BANK_STAT_APPLY_PENDING = false) :
    DcpWaits s slot r (.bankApply slot) 0x403 fun t =>
      t.bit ACE_BANK_STAT_APPLY_PENDING = true ∧ t.ace.mask = leAt r.payload 0 8 % 2 ^ 64 ∧
        t.ace.applyReply = some slot.val ∧ RegsBut [ACE_BANK_STAT, ACE_APPLY_MASK] s t ∧ Changes [.regs, .ace] s t := by
  have hk : Keeps 8 s (s.applyRegs (leAt r.payload 0 8)) := (State.wrB_keeps ..).comp rfl (State.wr_keeps ..)
  have hku := (State.putAce_keeps (s.applyRegs (leAt r.payload 0 8)) { s.ace with
    mask := leAt r.payload 0 8 % 2 ^ 64, checked := false, applyReply := some slot.val }).comp (M := 134217736) rfl
    (hk.mono rfl)
  refine dcpWaits rfl (u := (s.applyRegs (leAt r.payload 0 8)).putAce _)
    (by rw [State.needs_on hd, if_neg (Bool.eq_false_iff.1 h), bankApply_asked h]) (hku.same .dcp rfl)
    ⟨?_, ?_, ?_, fun a ha => ?_, hku.changes rfl⟩
  · rw [State.bit_putAce]
    exact State.bit_wrB_same _ _ rfl
  · rw [State.putAce_ace]
  · rw [State.putAce_ace]
  · rw [State.reg_putAce]
    exact regsBut_applyRegs s _ a ha

theorem exec_bankApply_refused (hd : s.domOn 7 = true) (h : s.bit ACE_BANK_STAT_APPLY_PENDING = true)
    (hr : s.ace.applyReply ≠ some slot.val) : DcpFails s slot r (.bankApply slot) 0x403 0x305 noDetail :=
  dcpFails rfl (by rw [State.needs_on hd, if_pos h, if_neg (by simpa using hr)])

/-- The registers of the banks when a copy has been asked for. -/
def State.copyRegs (s : State) (k : Nat) : State :=
  (s.wr ACE_BANK_CTL_COPY_AXIS k).wrB ACE_BANK_STAT_COPY_BUSY true

theorem bankCopy_started (hbusy : s.bit ACE_BANK_STAT_COPY_BUSY = false)
    (hpend : s.bit ACE_BANK_STAT_APPLY_PENDING = false) (k : Nat) :
    s.bankCopy k = (true, (s.copyRegs k).putAce { s.ace with copyAxis := k }) := by
  have hace : (s.copyRegs k).ace = s.ace := by rw [State.copyRegs, State.wrB_ace, State.wr_ace]
  rw [State.bankCopy, hbusy, hpend, ← hace]
  rfl

theorem regsBut_copyRegs (s : State) (k : Nat) : RegsBut [ACE_BANK_CTL, ACE_BANK_STAT] s (s.copyRegs k) :=
  (RegsBut.refl.wr (f := ACE_BANK_CTL_COPY_AXIS) (by decide) _).wrB (f := ACE_BANK_STAT_COPY_BUSY) (by decide) _

theorem exec_bankCopy_started {k : Nat} (hd : s.domOn 7 = true) (hb : byteAt r.payload 0 = k) (hk : k ≤ 63)
    (hbusy : s.bit ACE_BANK_STAT_COPY_BUSY = false) (hpend : s.bit ACE_BANK_STAT_APPLY_PENDING = false) :
    DcpDoes s slot r (.bankCopy slot) 0x404 0 [] fun t =>
      t.bit ACE_BANK_STAT_COPY_BUSY = true ∧ t.ace.copyAxis = k ∧ RegsBut [ACE_BANK_CTL, ACE_BANK_STAT] s t ∧
        Changes [.regs, .ace, .dcp] s t := by
  subst hb
  have hkeeps : Keeps 8 s (s.copyRegs (byteAt r.payload 0)) := (State.wrB_keeps ..).comp rfl (State.wr_keeps ..)
  have hku := (State.putAce_keeps (s.copyRegs (byteAt r.payload 0)) { s.ace with copyAxis := byteAt r.payload 0 }).comp
    (M := 134217736) rfl (hkeeps.mono rfl)
  refine dcpDoes (u := (s.copyRegs (byteAt r.payload 0)).putAce { s.ace with copyAxis := byteAt r.payload 0 })
    rfl ?_ (congrArg DcpSt.runs (hku.same .dcp rfl))
    ⟨?_, ?_, fun a ha => ?_, Changes.dcpResult (hku.changes rfl) (by decide)⟩
  · rw [State.needs_on hd, if_neg (by simpa using hk), if_neg (by simp [hbusy, hpend]), bankCopy_started hbusy hpend]
    rfl
  · rw [State.bit_dcpResult, State.bit_putAce]
    exact State.bit_wrB_same _ _ rfl
  · rw [State.dcpResult_ace, State.putAce_ace]
  · rw [State.reg_dcpResult, State.reg_putAce]
    exact regsBut_copyRegs s _ a ha

/-! ## SAFE_PDU (R360, R362) -/

theorem exec_safePdu_unanswered (hd : s.domOn 1 = true) (h : s.sfiRuns = false) :
    DcpFails s slot r (.safePdu slot) 0x500 0x209 noDetail :=
  dcpFails rfl (by simp [State.needs_on hd, State.sfiParamPdu, h])

/-- The island keeps a committed set with the MGP, and touches no command that runs there (R363). -/
theorem runs_sfiCommit (t : State) (d : List Byte) : (t.sfiCommit d).2.dcp.runs = t.dcp.runs := by
  unfold State.sfiCommit
  extract_lets x
  split
  · rfl
  · split
    · rfl
    · extract_lets crc
      repeat' split
      all_goals rfl

theorem runs_sfiParamPdu (s : State) (p : List Byte) : (s.sfiParamPdu p).2.dcp.runs = s.dcp.runs := by
  unfold State.sfiParamPdu
  extract_lets y o y' x s1 d isParam r first
  split
  · rfl
  · split
    · rfl
    · split
      · rfl
      · have hr : r.2.dcp.runs = s.dcp.runs := by
          simp only [r]
          split
          · exact congrArg DcpSt.runs ((State.sfiParam_keeps s1 d).same .dcp rfl)
          · exact runs_sfiCommit s1 d
        exact (congrArg DcpSt.runs ((State.sfiNextSeq_keeps _ y').same .dcp rfl)).trans hr

theorem exec_safePdu_answered {a : List Byte} {u : State} (hd : s.domOn 1 = true)
    (h : s.sfiParamPdu r.payload = (some a, u)) : DcpDoes s slot r (.safePdu slot) 0x500 0 a fun t =>
      t.sfi = u.sfi ∧ Changes [.free, .sfi, .dcp] s t := by
  have hk := State.sfiParamPdu_keeps s r.payload
  rw [h] at hk
  exact dcpDoes (u := u) rfl (by rw [State.needs_on hd, h]) ((congrArg (fun x => x.2.dcp.runs) h).symm.trans (runs_sfiParamPdu s r.payload))
    ⟨rfl, Changes.dcpResult (hk.changes rfl) (by decide)⟩

end Units

/-! ## The clauses -/

/-- Settles O40: each command at its effect point. -/
theorem commandsOfUnits : Obligations.CommandsOfUnits := by
  intro s slot r n k g pay ops batch ap opsOk held does fails waits
  have hn : n.val ≤ 23 := Nat.le_of_lt_succ n.isLt
  have hk : k.val ≤ 63 := Nat.le_of_lt_succ k.isLt
  refine ⟨exec_swcLoad_off, fun hd hok => ⟨exec_swcLoad_refused hd hok, exec_swcLoad_held hd hok, exec_swcLoad_taken hd hok⟩,
    fun hd h2 hb => ⟨exec_rookSetup_busy hb hn hd h2, fun h hen hbind hentries hwindows houtputs =>
      exec_rookSetup_taken hb hn hd h2 h hen ⟨hbind, hentries, hwindows, houtputs⟩⟩,
    fun hd hb h1 h31 htag hfree hr => ?_, exec_cbAreq_refused, exec_ptpSet, exec_ptpSet_refused, exec_relaySet,
    fun hd hb => ⟨exec_axisSet_wrongMode hd hb hk, fun hm ht hen hmoved i => exec_axisSet_conflict hd hb hk hm ht hen hmoved,
      exec_axisSet_taken hd hb hk⟩,
    fun first count hd hb harea hfirst hlen hfits => ?_, exec_bankApply_asked, exec_bankApply_refused,
    fun hd hb => exec_bankCopy_started hd hb hk, exec_safePdu_unanswered, fun a u => exec_safePdu_answered⟩
  · have hok : ¬AreqBad pay := by
      have hg : g.val ≤ 3 := Nat.le_of_lt_succ g.isLt
      simp only [AreqBad]
      omega
    obtain ⟨t, he, hdcp, hreqs, hch⟩ := exec_cbAreq_queued hd hb hok hfree hr
    exact ⟨t, he, hdcp, ⟨_, hreqs, rfl, rfl, rfl⟩, hch⟩
  · have hl : CoefsOf pay first count := ⟨harea, hfirst, hlen, hfits⟩
    exact ⟨exec_bankWrite_locked hd hb hk hl, exec_bankWrite_taken hd hb hk hl⟩

end Sys2Proof.Machine
end

section
/-! PROOF of CommandsThatConfigure, first part (R385, R413, R415, R420, R421, R587, R588): the commands that change one
record of their own. -/

namespace Sys2Proof.Machine

section Records

variable {s : State} {slot : Fin 25} {r : DcpRun}

/-! ## DEVICE_RESET, RESTORE_FACTORY, MODE_CFG_SET, CFG_STORE -/

theorem exec_deviceReset : DcpDoes s slot r (.deviceReset slot) 0x002 0 [] fun t =>
    t.boot = { s.boot with resetDue := some 3 } ∧ Changes [.boot, .dcp] s t :=
  dcpDoes (u := s.setBoot fun b => { b with resetDue := some 3 }) rfl rfl rfl
    ⟨rfl, Changes.dcpResult (l := [.boot, .dcp]) ((State.setBoot_keeps (f := fun b => { b with resetDue := some 3 })
      (fun _ => rfl) s).changes rfl) (by decide)⟩

theorem exec_restoreFactory (h : s.crp.mramStop = false) : DcpDoes s slot r (.restoreFactory slot) 0x004 0 [] fun t =>
    t.dcp.stored = none ∧ t.dcp.storedMode = none ∧ t.dcp.storedSafe = none ∧ t.dcp.cal = [] ∧
      t.mem.sealedCopy = false ∧ Changes [.mem, .dcp] s t :=
  dcpDoes (u := s.eraseConfig) rfl (if_neg (by simp [h])) rfl
    ⟨rfl, rfl, rfl, rfl, rfl, Changes.dcpResult ((State.eraseConfig_keeps s).changes rfl) (by decide)⟩

theorem exec_restoreFactory_stopped (h : s.crp.mramStop = true) :
    DcpFails s slot r (.restoreFactory slot) 0x004 0x308 noDetail :=
  dcpFails rfl (if_pos h)

/-- The word of a MODE_CFG_SET. -/
abbrev payWord (l : List Byte) : Word := BitVec.ofNat 64 (leAt l 0 8)

/-- The state that a MODE_CFG_SET of `w` leaves (R588). -/
def State.modeCfgSet (s : State) (w : Word) : State :=
  (s.setReg SYSCTL_MODE_CFG w).putDcp { s.dcp with
    storedMode := some (w, (s.dcp.storedMode.getD (0, s.reg SYSCTL_FAULT_CFG, s.reg SEC_TAMPER_CFG)).2) }

theorem exec_modeCfgSet (htmo : bitsOf (payWord r.payload) 39 32 ≠ 0) (hports : degPortsSame (payWord r.payload) = false)
    (hlock : s.bit SYSCTL_MODE_CFG_LOCK = false) (hctl : s.bit (cUCTL_LOCK uSYSCTL) = false)
    (hm : s.crp.mramStop = false) : DcpDoes s slot r (.modeCfgSet slot) 0x102 0 [] fun t =>
      t.reg SYSCTL_MODE_CFG = payWord r.payload ∧ (t.dcp.storedMode.map fun x => x.1) = some (payWord r.payload) ∧
        RegsBut [SYSCTL_MODE_CFG] s t ∧ Changes [.regs, .dcp] s t := by
  have hk : Keeps 1073741832 s (s.modeCfgSet (payWord r.payload)) :=
    (State.putDcp_keeps ..).comp rfl ((State.setReg_keeps ..).mono rfl)
  refine dcpDoes (u := s.modeCfgSet (payWord r.payload)) rfl ?_ rfl
    ⟨State.reg_setReg_same .., rfl, regsBut_setReg s SYSCTL_MODE_CFG _, ?_⟩
  · dsimp only
    rw [if_neg (by simp [htmo, hports]), if_neg (by simp [hlock, hctl]), if_neg (by simp [hm])]
    rfl
  · exact Changes.dcpResult (hk.changes rfl) (by decide)

theorem exec_modeCfgSet_range (h : bitsOf (payWord r.payload) 39 32 = 0 ∨ degPortsSame (payWord r.payload) = true) :
    DcpFails s slot r (.modeCfgSet slot) 0x102 0x301 noDetail :=
  dcpFails rfl (if_pos (by simpa using h))

theorem exec_cfgStore_stopped (h : s.crp.mramStop = true) : DcpFails s slot r (.cfgStore slot) 0x207 0x308 noDetail :=
  dcpFails rfl (if_pos h)

/-- The configuration that CFG_STORE stores. -/
def State.storeCfg (s : State) : StoredCfg := ⟨s.storeRegs, s.dcp.conns, s.dcp.relay, s.swc.tables⟩

/-- The state with its configuration stored, and the reply's CRC drawn. -/
def State.cfgStored (s : State) : Word × State := (s.putDcp { s.dcp with stored := some s.storeCfg }).takeFree

theorem exec_cfgStore (h : s.crp.mramStop = false) (hr : DcpRuns s slot 0x207 r) :
    Gives (exec (.cfgStore slot) s) fun t => (∃ b, Answered slot 0 b s t ∧ b.length = 4) ∧
      (∃ x, t.dcp.stored = some x ∧ x.conns = s.dcp.conns ∧ x.relay = s.dcp.relay ∧ x.tables = s.swc.tables) ∧
        Changes [.free, .dcp] s t := by
  have hk : Keeps 1073741828 s s.cfgStored.2 :=
    (State.takeFree_keeps _).comp rfl ((State.putDcp_keeps ..).mono rfl)
  have hdoes : DcpDoes s slot r (.cfgStore slot) 0x207 0 (bytesLE 4 s.cfgStored.1.toNat) fun t =>
      (∃ x, t.dcp.stored = some x ∧ x.conns = s.dcp.conns ∧ x.relay = s.dcp.relay ∧ x.tables = s.swc.tables) ∧
        Changes [.free, .dcp] s t :=
    dcpDoes (u := s.cfgStored.2) rfl (if_neg (by simp [h])) rfl
      ⟨⟨s.storeCfg, rfl, rfl, rfl, rfl⟩, Changes.dcpResult (hk.changes rfl) (by decide)⟩
  obtain ⟨t, ht, ha, hP⟩ := hdoes hr
  exact ⟨t, ht, ⟨_, ha, length_bytesLE ..⟩, hP⟩

/-! ## CONN_SET and CONN_CLEAR (R309, R413) -/

/-- The connection that a payload names. -/
abbrev payConn (l : List Byte) : Nat := leAt l 0 2

/-- The record that CONN_SET takes from its payload. -/
abbrev payRec (l : List Byte) : ConnRec := ⟨byteAt l 2, byteAt l 3, byteAt l 4, leAt l 6 2, leAt l 8 4⟩

/-- Record and connection are in range. -/
def RecInRange (c : Nat) (x : ConnRec) : Prop :=
  c ≤ 0xFFF ∧ agentExists x.unit x.agent = true ∧ 0 < x.len ∧ x.len ≤ (if x.unit = 1 then 32 else 64) ∧
    (x.dir = 0 → 0x80 ≤ x.off) ∧ x.off + x.len ≤ 0x20000

/-- Another registered item overlaps that of `x`. -/
def ConnRec.hits (x : ConnRec) (c : Nat) (e : Nat × Option ConnRec) : Bool :=
  e.1 != c && (match e.2 with | none => false | some y => x.overlaps y)

theorem ConnRec.hits_iff {x : ConnRec} {c : Nat} {e : Nat × Option ConnRec} :
    x.hits c e = true ↔ e.1 ≠ c ∧ ∃ y, e.2 = some y ∧ x.overlaps y = true := by
  unfold ConnRec.hits
  cases e.2 <;> simp

/-- The state with record `x` of connection `c` registered. -/
def State.connPut (s : State) (c : Nat) (x : ConnRec) : State :=
  let s := s.putDcp { s.dcp with conns := mapPut (fun _ => none) s.dcp.conns c (some x) }
  if x.unit == 1 then s.putCmap (mapPut (fun _ => 0) s.cmap c (cmapWord x)) else s

/-- CONN_SET of an item in range. -/
def State.connSetDo (s : State) (c : Nat) (x : ConnRec) : DcpAns × State :=
  match s.dcp.conns.find? fun e => x.hits c e with
  | some e => (dcpFailAt 0x302 0 e.1, s)
  | none => match s.axisClash c x with
    | some j => (dcpFailAt 0x302 0 j, s)
    | none => (dcpOk, s.connPut c x)

theorem RecInRange.not_bad {c : Nat} {x : ConnRec} (h : RecInRange c x) :
    (decide (0xFFF < c) || !agentExists x.unit x.agent || x.len == 0 ||
      decide ((if x.unit == 1 then 32 else 64) < x.len) || (x.dir == 0 && decide (x.off < 0x80)) ||
        decide (0x20000 < x.off + x.len)) = false := by
  obtain ⟨hc, hagent, hpos, hlen, hoff, hend⟩ := h
  simp only [hagent, Bool.not_true, Bool.or_false, Bool.or_eq_false_iff, Bool.and_eq_false_iff, beq_eq_false_iff_ne,
    decide_eq_false_iff_not, beq_iff_eq]
  refine ⟨⟨⟨⟨by omega, by omega⟩, by omega⟩, ?_⟩, by omega⟩
  by_cases h0 : x.dir = 0
  · exact .inr (by have := hoff h0; omega)
  · exact .inl h0

theorem connSet_effect (h : RecInRange (payConn r.payload) (payRec r.payload)) :
    (if decide (0xFFF < payConn r.payload) || !agentExists (payRec r.payload).unit (payRec r.payload).agent ||
        (payRec r.payload).len == 0 || decide ((if (payRec r.payload).unit == 1 then 32 else 64) < (payRec r.payload).len) ||
        ((payRec r.payload).dir == 0 && decide ((payRec r.payload).off < 0x80)) ||
        decide (0x20000 < (payRec r.payload).off + (payRec r.payload).len) then
      (dcpFailAt 0x301 0 (payConn r.payload), s) else s.connSetDo (payConn r.payload) (payRec r.payload)) =
      s.connSetDo (payConn r.payload) (payRec r.payload) :=
  if_neg (by rw [h.not_bad]; decide)

/-- No other registered item overlaps that of `x`. -/
def State.noOverlap (s : State) (c : Nat) (x : ConnRec) : Prop :=
  ∀ e ∈ s.dcp.conns, e.1 ≠ c → ∀ y, e.2 = some y → x.overlaps y = false

theorem connSetDo_hit {c : Nat} {x : ConnRec} {e : Nat × Option ConnRec} (h : s.dcp.conns.find? (fun e => x.hits c e) = some e) :
    s.connSetDo c x = (dcpFailAt 0x302 0 e.1, s) := by
  simp only [State.connSetDo, h]

theorem find_hits_none {c : Nat} {x : ConnRec} (h : s.noOverlap c x) :
    s.dcp.conns.find? (fun e => x.hits c e) = none := by
  rw [List.find?_eq_none]
  intro e he hit
  obtain ⟨hne, y, hy, hov⟩ := ConnRec.hits_iff.1 hit
  simp [h e he hne y hy] at hov

theorem connSetDo_clash {c j : Nat} {x : ConnRec} (h : s.noOverlap c x) (hj : s.axisClash c x = some j) :
    s.connSetDo c x = (dcpFailAt 0x302 0 j, s) := by
  simp only [State.connSetDo, find_hits_none h, hj]

theorem connSetDo_go {c : Nat} {x : ConnRec} (h : s.noOverlap c x) (hj : s.axisClash c x = none) :
    s.connSetDo c x = (dcpOk, s.connPut c x) := by
  simp only [State.connSetDo, find_hits_none h, hj]

theorem connPut_dcp (s : State) (c : Nat) (x : ConnRec) :
    (s.connPut c x).dcp = { s.dcp with conns := mapPut (fun _ => none) s.dcp.conns c (some x) } := by
  unfold State.connPut
  extract_lets u
  split <;> rfl

theorem changes_connPut (s : State) (c : Nat) (x : ConnRec) : Changes [.cmap, .dcp] s (s.connPut c x) := by
  have hk : Keeps 1082130432 s (s.putDcp { s.dcp with conns := mapPut (fun _ => none) s.dcp.conns c (some x) }) :=
    (State.putDcp_keeps ..).mono rfl
  refine Keeps.changes (m := 1082130432) ?_ rfl
  unfold State.connPut
  exact Keeps.ite ((State.putCmap_keeps ..).comp rfl hk) hk

theorem connRec_connPut (s : State) (c d : Nat) (x : ConnRec) :
    (s.connPut c x).connRec d = if d = c then some x else s.connRec d := by
  rw [State.connRec, connPut_dcp, mapGet_put]
  rfl

theorem exec_connSet (h : RecInRange (payConn r.payload) (payRec r.payload))
    (hfree : s.noOverlap (payConn r.payload) (payRec r.payload))
    (hj : s.axisClash (payConn r.payload) (payRec r.payload) = none) :
    DcpDoes s slot r (.connSet slot) 0x200 0 [] fun t =>
      t.connRec (payConn r.payload) = some (payRec r.payload) ∧
        (∀ d, d ≠ payConn r.payload → t.connRec d = s.connRec d) ∧ Changes [.cmap, .dcp] s t := by
  refine dcpDoes (u := s.connPut (payConn r.payload) (payRec r.payload)) rfl
    ((connSet_effect h).trans (connSetDo_go hfree hj)) (by rw [connPut_dcp]) ⟨?_, fun d hd => ?_, ?_⟩
  · exact (connRec_connPut ..).trans (if_pos rfl)
  · exact (connRec_connPut ..).trans (if_neg hd)
  · exact Changes.dcpResult (changes_connPut s _ _) (by decide)

theorem exec_connSet_overlap (h : RecInRange (payConn r.payload) (payRec r.payload))
    (hhit : ∃ e ∈ s.dcp.conns, e.1 ≠ payConn r.payload ∧ ∃ y, e.2 = some y ∧ (payRec r.payload).overlaps y = true)
    (hr : DcpRuns s slot 0x200 r) :
    Gives (exec (.connSet slot) s) fun t => ∃ d, OnlyAnswered slot 0x302 (dcpDetail 0xFFFF 0 d) s t := by
  obtain ⟨e, he, hit⟩ := hhit
  obtain ⟨e', he'⟩ := Option.isSome_iff_exists.1 (List.find?_isSome.2 ⟨e, he, ConnRec.hits_iff.2 hit⟩)
  obtain ⟨t, ht, ha⟩ := dcpFails_detail (i := .connSet slot) rfl ((connSet_effect h).trans (connSetDo_hit he')) hr
  exact ⟨t, ht, e'.1, ha⟩

theorem exec_connSet_clash {j : Nat} (h : RecInRange (payConn r.payload) (payRec r.payload))
    (hfree : s.noOverlap (payConn r.payload) (payRec r.payload))
    (hj : s.axisClash (payConn r.payload) (payRec r.payload) = some j) :
    DcpFails s slot r (.connSet slot) 0x200 0x302 (dcpDetail 0xFFFF 0 j) :=
  dcpFails_detail rfl ((connSet_effect h).trans (connSetDo_clash hfree hj))

theorem exec_connSet_range (h : 0xFFF < payConn r.payload ∨ (payRec r.payload).len = 0) :
    DcpFails s slot r (.connSet slot) 0x200 0x301 (dcpDetail 0xFFFF 0 (payConn r.payload)) :=
  dcpFails_detail rfl (if_pos (by
    simp only [Bool.or_eq_true, decide_eq_true_eq, beq_iff_eq]
    tauto))

theorem exec_connClear_unknown (h : s.connRec (payConn r.payload) = none) :
    DcpFails s slot r (.connClear slot) 0x201 0x304 (dcpDetail 0xFFFF 0 (payConn r.payload)) :=
  dcpFails_detail rfl (by simp only [h]; rfl)

/-- The state with connection `c` cleared; `x` was its record. -/
def State.connDrop (s : State) (c : Nat) (x : ConnRec) : State :=
  (s.putDcp { s.dcp with conns := mapPut (fun _ => none) s.dcp.conns c none }).putCmap
    (if x.unit == 1 then mapPut (fun _ => 0) s.cmap c 0 else s.cmap)

theorem connRec_connDrop (s : State) (c d : Nat) (x : ConnRec) :
    (s.connDrop c x).connRec d = if d = c then none else s.connRec d :=
  mapGet_put (fun _ => none) s.dcp.conns c d none

theorem exec_connClear (h : s.connRec (payConn r.payload) ≠ none) (hu : ∀ u ∈ s.connUses, u.1 ≠ payConn r.payload) :
    DcpDoes s slot r (.connClear slot) 0x201 0 [] fun t => t.connRec (payConn r.payload) = none ∧
      (∀ d, d ≠ payConn r.payload → t.connRec d = s.connRec d) ∧ Changes [.cmap, .dcp] s t := by
  obtain ⟨x, hx⟩ := Option.ne_none_iff_exists'.1 h
  have hany : ¬(s.connUses.any fun u => u.1 == payConn r.payload && !(u.2 == 1 && x.unit == 1)) = true := by
    rw [Bool.not_eq_true, List.any_eq_false]
    intro u hmem
    simp [hu u hmem]
  have hk : Keeps 1082130432 s (s.connDrop (payConn r.payload) x) :=
    (State.putCmap_keeps ..).comp rfl ((State.putDcp_keeps ..).mono rfl)
  refine dcpDoes (u := s.connDrop (payConn r.payload) x) rfl ?_ rfl ⟨?_, fun d hd => ?_, ?_⟩
  · simp only [hx]
    exact if_neg hany
  · exact (connRec_connDrop s _ _ x).trans (if_pos rfl)
  · exact (connRec_connDrop s _ d x).trans (if_neg hd)
  · exact Changes.dcpResult (hk.changes rfl) (by decide)

/-! ## GRANT and REVOKE (R415) -/

theorem bitAt_setBitAt_true (v n : Nat) : bitAt (setBitAt v n true) n = true := by
  by_cases h : bitAt v n = true
  · simp [setBitAt, h]
  · have hlow : v / 2 ^ n % 2 = 0 := by simpa [bitAt] using h
    have hup : (v + 2 ^ n) / 2 ^ n = v / 2 ^ n + 1 := Nat.add_div_right v (Nat.two_pow_pos n)
    rw [setBitAt, if_neg h, if_pos rfl, bitAt, hup, beq_iff_eq]
    omega

theorem exec_grant_doorbell (hk : byteAt r.payload 0 = 2) (hp : 1 ≤ byteAt r.payload 1) (hp5 : byteAt r.payload 1 ≤ 5) :
    DcpDoes s slot r (.grant slot) 0x204 0 (bytesLE 4 0xFF) fun t =>
      bitAt t.dcp.grants (byteAt r.payload 1) = true ∧ Changes [.dcp] s t := by
  refine dcpDoes (u := s.putDcp { s.dcp with grants := setBitAt s.dcp.grants (byteAt r.payload 1) true }) rfl ?_ rfl
    ⟨bitAt_setBitAt_true .., Changes.dcpResult ((State.putDcp_keeps ..).changes rfl) (by decide)⟩
  dsimp only
  rw [if_neg (by simp; omega), if_pos (by simp [hk])]

/-- The state with window `w` granted from byte `base` to byte `lim`. -/
def State.grantWindow (s : State) (w base lim rd wr : Nat) (space : Bool) : State :=
  let s := ((s.wr (HIC_FWw_LIM_LIMIT w) (lim / 8)).wr (HIC_FWw_LIM_RD w) rd).wr (HIC_FWw_LIM_WR w) wr
  ((s.wr (HIC_FWw_BASE_BASE w) (base / 8)).wrB (HIC_FWw_BASE_SPACE w) space).wrB (HIC_FWw_BASE_EN w) true

theorem base_ne_lim (w : Nat) : HIC_FWw_BASE w ≠ HIC_FWw_LIM w := by
  simp only [HIC_FWw_BASE, HIC_FWw_LIM]
  omega

section Window

variable {w base lim rd wr : Nat} {space : Bool}

theorem grantWindow_en : (s.grantWindow w base lim rd wr space).bit (HIC_FWw_BASE_EN w) = true :=
  State.bit_wrB_same _ _ rfl

theorem grantWindow_space : (s.grantWindow w base lim rd wr space).bit (HIC_FWw_BASE_SPACE w) = space :=
  (State.bit_wr_apart _ _ rfl rfl (Fld.apart_of_below (by decide : 62 < 63))).trans (State.bit_wrB_same _ _ rfl)

theorem grantWindow_base (h : base < 2 ^ 32) : (s.grantWindow w base lim rd wr space).rd (HIC_FWw_BASE_BASE w) = base / 8 := by
  unfold State.grantWindow State.wrB
  rw [State.rd_wr_apart _ _ rfl rfl (Fld.apart_of_below (by decide : 31 < 63)),
    State.rd_wr_apart _ _ rfl rfl (Fld.apart_of_below (by decide : 31 < 62))]
  exact State.rd_wr_fits _ rfl (show base / 8 < 2 ^ 29 by omega)

/-- The base word of a window, written. -/
def State.wrBase (s : State) (w v : Nat) (space : Bool) : State :=
  ((s.wr (HIC_FWw_BASE_BASE w) v).wrB (HIC_FWw_BASE_SPACE w) space).wrB (HIC_FWw_BASE_EN w) true

/-- Its limit word, written. -/
def State.wrLim (s : State) (w v rd wr : Nat) : State :=
  ((s.wr (HIC_FWw_LIM_LIMIT w) v).wr (HIC_FWw_LIM_RD w) rd).wr (HIC_FWw_LIM_WR w) wr

theorem regsBut_wrBase (t : State) (v : Nat) : RegsBut [HIC_FWw_BASE w] t (t.wrBase w v space) :=
  have h1 := regsBut_wr t (HIC_FWw_BASE_BASE w) v
  have h2 := h1.wrB (f := HIC_FWw_BASE_SPACE w) (.head _) space
  h2.wrB (f := HIC_FWw_BASE_EN w) (.head _) true

theorem regsBut_wrLim (t : State) (v : Nat) : RegsBut [HIC_FWw_LIM w] t (t.wrLim w v rd wr) :=
  have h1 := regsBut_wr t (HIC_FWw_LIM_LIMIT w) v
  have h2 := h1.wr (f := HIC_FWw_LIM_RD w) (.head _) rd
  h2.wr (f := HIC_FWw_LIM_WR w) (.head _) wr

theorem grantWindow_lim (h : lim < 2 ^ 32) : (s.grantWindow w base lim rd wr space).rd (HIC_FWw_LIM_LIMIT w) = lim / 8 := by
  have hb : (HIC_FWw_LIM_LIMIT w).addr ∉ [HIC_FWw_BASE w] := fun h => base_ne_lim w (List.mem_singleton.1 h).symm
  refine ((regsBut_wrBase (s.wrLim w (lim / 8) rd wr) (base / 8)).rd_eq hb).trans ?_
  unfold State.wrLim
  rw [State.rd_wr_apart _ _ rfl rfl (Fld.apart_of_below (by decide : 31 < 52)),
    State.rd_wr_apart _ _ rfl rfl (Fld.apart_of_below (by decide : 31 < 58))]
  exact State.rd_wr_fits _ rfl (show lim / 8 < 2 ^ 29 by omega)

theorem regsBut_grantWindow : RegsBut [HIC_FWw_BASE w, HIC_FWw_LIM w] s (s.grantWindow w base lim rd wr space) :=
  ((regsBut_wrLim s (lim / 8)).mono (by simp)).trans ((regsBut_wrBase (s.wrLim w (lim / 8) rd wr) (base / 8)).mono (by simp))

theorem grantWindow_keeps : Keeps 8 s (s.grantWindow w base lim rd wr space) :=
  (State.wrB_keeps ..).comp rfl ((State.wrB_keeps ..).comp rfl ((State.wr_keeps ..).comp rfl ((State.wr_keeps ..).comp rfl
    ((State.wr_keeps ..).comp rfl (State.wr_keeps ..)))))

end Window

/-- The first window that is free. -/
def State.freeWindow (s : State) : Option Nat := (List.range 64).find? fun w => !s.bit (HIC_FWw_BASE_EN w)

/-- What GRANT does with a window of aligned bounds. -/
def State.grantDo (s : State) (l : List Byte) : DcpAns × State :=
  match s.freeWindow with
  | none => (dcpFail 0x303, s)
  | some w => (.done 0 (bytesLE 4 w), s.grantWindow w (leAt l 8 8) (leAt l 16 8) (byteAt l 2 % 2 * 2 ^ byteAt l 1)
      (byteAt l 2 / 2 * 2 ^ byteAt l 1) (byteAt l 0 == 1))

/-- A GRANT asks for a window with aligned bounds below 4 GiB for partition 1 to 5. -/
def GrantsWindow (l : List Byte) : Prop :=
  byteAt l 0 ≤ 1 ∧ 1 ≤ byteAt l 1 ∧ byteAt l 1 ≤ 5 ∧ leAt l 8 8 % 8 = 0 ∧ leAt l 16 8 % 8 = 0 ∧ leAt l 8 8 < 2 ^ 32 ∧
    leAt l 16 8 < 2 ^ 32

/-- The command's effect on a record, and its outcome. -/
def grantEffect (s : State) (r : DcpRun) : DcpAns × State :=
  if byteAt r.payload 1 == 0 || decide (5 < byteAt r.payload 1) then (.done 0x301 (dcpDetail 1 0 noIndex), s)
  else if byteAt r.payload 0 == 2 then
    (.done 0 (bytesLE 4 0xFF), s.putDcp { s.dcp with grants := setBitAt s.dcp.grants (byteAt r.payload 1) true })
  else if leAt r.payload 8 8 % 8 != 0 || leAt r.payload 16 8 % 8 != 0 || decide (2 ^ 32 ≤ leAt r.payload 8 8) ||
      decide (2 ^ 32 ≤ leAt r.payload 16 8) then (.done 0x301 (dcpDetail 8 0 noIndex), s)
  else s.grantDo r.payload

theorem exec_grant_eq : exec (.grant slot) s = .next (s.dcpDo slot 0x204 grantEffect) := rfl

theorem grantEffect_window (h : GrantsWindow r.payload) : grantEffect s r = s.grantDo r.payload := by
  obtain ⟨hkind, hp, hp5, hb, hl, hb32, hl32⟩ := h
  unfold grantEffect
  rw [if_neg (by simp; omega), if_neg (by simp; omega), if_neg (by simp; omega)]

theorem exec_grant_full (h : GrantsWindow r.payload) (hw : s.freeWindow = none) :
    DcpFails s slot r (.grant slot) 0x204 0x303 noDetail :=
  dcpFails exec_grant_eq ((grantEffect_window h).trans (by simp only [State.grantDo, hw]))

theorem exec_grant_window {n : Nat} (h : GrantsWindow r.payload) (hw : s.freeWindow = some n) :
    DcpDoes s slot r (.grant slot) 0x204 0 (bytesLE 4 n) fun t =>
      t.bit (HIC_FWw_BASE_EN n) = true ∧ 8 * t.rd (HIC_FWw_BASE_BASE n) = leAt r.payload 8 8 ∧
        8 * t.rd (HIC_FWw_LIM_LIMIT n) = leAt r.payload 16 8 ∧ t.bit (HIC_FWw_BASE_SPACE n) = (byteAt r.payload 0 == 1) ∧
          RegsBut [HIC_FWw_BASE n, HIC_FWw_LIM n] s t ∧ Changes [.regs, .dcp] s t := by
  have hdo : s.grantDo r.payload = (.done 0 (bytesLE 4 n), s.grantWindow n (leAt r.payload 8 8) (leAt r.payload 16 8)
      (byteAt r.payload 2 % 2 * 2 ^ byteAt r.payload 1) (byteAt r.payload 2 / 2 * 2 ^ byteAt r.payload 1)
        (byteAt r.payload 0 == 1)) := by simp only [State.grantDo, hw]
  obtain ⟨hkind, hp, hp5, hb, hl, hb32, hl32⟩ := id h
  refine dcpDoes exec_grant_eq ((grantEffect_window h).trans hdo) ?_ ⟨?_, ?_, ?_, ?_, ?_, ?_⟩
  · exact congrArg DcpSt.runs (grantWindow_keeps.same .dcp rfl)
  · exact (State.bit_dcpResult ..).trans grantWindow_en
  · rw [State.rd_dcpResult, grantWindow_base hb32]
    omega
  · rw [State.rd_dcpResult, grantWindow_lim hl32]
    omega
  · exact (State.bit_dcpResult ..).trans grantWindow_space
  · exact fun a ha => (State.reg_dcpResult ..).trans (regsBut_grantWindow a ha)
  · exact Changes.dcpResult (grantWindow_keeps.changes rfl) (by decide)

theorem exec_revoke (h : leAt r.payload 0 4 < 64) (hen : s.bit (HIC_FWw_BASE_EN (leAt r.payload 0 4)) = true) :
    DcpDoes s slot r (.revoke slot) 0x205 0 [] fun t => t.bit (HIC_FWw_BASE_EN (leAt r.payload 0 4)) = false ∧
      RegsBut [HIC_FWw_BASE (leAt r.payload 0 4)] s t ∧ Changes [.regs, .dcp] s t := by
  have hk := State.wrB_keeps s (HIC_FWw_BASE_EN (leAt r.payload 0 4)) false
  refine dcpDoes (u := s.wrB (HIC_FWw_BASE_EN (leAt r.payload 0 4)) false) rfl ?_
    (congrArg DcpSt.runs (hk.same .dcp rfl))
    ⟨(State.bit_dcpResult ..).trans (State.bit_wrB_same _ _ rfl), ?_, Changes.dcpResult (hk.changes rfl) (by decide)⟩
  · dsimp only
    rw [if_pos (decide_eq_true h), if_pos hen]
    rfl
  · exact fun a ha => (State.reg_dcpResult ..).trans (regsBut_wr s (HIC_FWw_BASE_EN (leAt r.payload 0 4)) _ a ha)

theorem exec_revoke_unknown (h : leAt r.payload 0 4 < 64) (hen : s.bit (HIC_FWw_BASE_EN (leAt r.payload 0 4)) = false) :
    DcpFails s slot r (.revoke slot) 0x205 0x304 (dcpDetail 0xFFFF 0 (leAt r.payload 0 4)) :=
  dcpFails_detail rfl (by
    dsimp only
    rw [if_pos (decide_eq_true h), if_neg (Bool.eq_false_iff.1 hen)]
    rfl)

/-! ## SLICE_SET (R385, R587) -/

@[simp] theorem State.rd_partUpd (s : State) (p : Nat) (g : PartSt → PartSt) (f : Fld) :
    (s.partUpd p g).rd f = s.rd f := rfl

theorem slice_ne_commit (p : Nat) : HIC_PARTp_SLICE p ≠ HIC_PARTp_COMMIT p := by
  simp only [HIC_PARTp_SLICE, HIC_PARTp_COMMIT]
  omega

theorem setSlice_values (s : State) {p off len : Nat} (ho : off < 2 ^ 8) (hl : len < 2 ^ 9) :
    (s.setSlice p off len).rd (HIC_PARTp_SLICE_OFF p) = off ∧ (s.setSlice p off len).rd (HIC_PARTp_SLICE_LEN p) = len := by
  have hpend : ∀ (t : State) (f : Fld), f.ok = true → f.addr = HIC_PARTp_SLICE p →
      (t.wrB (HIC_PARTp_COMMIT_PENDING p) false).rd f = t.rd f := fun t f hf ha =>
    State.rd_wr_apart t _ rfl hf (Fld.apart_of_addr (ha ▸ slice_ne_commit p))
  unfold State.setSlice
  rw [State.rd_partUpd, State.rd_partUpd, hpend _ _ rfl rfl, hpend _ _ rfl rfl,
    State.rd_wr_apart _ _ rfl rfl (Fld.apart_of_below (by decide : 7 < 32))]
  exact ⟨State.rd_wr_fits _ rfl ho, State.rd_wr_fits _ rfl hl⟩

/-- A slice that fits takes effect in CONFIG (R385). -/
theorem sliceWrite_takes {p off len : Nat} (hm : s.mode = 3) (hfit : s.sliceFits p off len = true) (ho : off ≤ 255)
    (hl : off + len ≤ 256) :
    (s.sliceWrite p off len).rd (HIC_PARTp_SLICE_OFF p) = off ∧ (s.sliceWrite p off len).rd (HIC_PARTp_SLICE_LEN p) = len ∧
      Keeps 32776 s (s.sliceWrite p off len) := by
  unfold State.sliceWrite
  extract_lets same
  by_cases h : same = true
  · rw [if_pos h]
    simp only [same, Bool.and_eq_true, beq_iff_eq] at h
    exact ⟨h.1, h.2, Keeps.refl⟩
  · rw [if_neg h, if_neg (by simp [hm, hfit]; omega)]
    obtain ⟨hoff, hlen⟩ := setSlice_values s (p := p) (off := off) (len := len) (by omega) (by omega)
    exact ⟨hoff, hlen, State.setSlice_keeps ..⟩

section Slice

variable {p : Nat} (hb : byteAt r.payload 0 = p) (ho : leAt r.payload 2 2 ≤ 255)
  (hl : leAt r.payload 2 2 + leAt r.payload 4 2 ≤ 256) (hp : p ≤ 5)
include hb ho hl hp

theorem exec_sliceSet (hfit : s.sliceFits p (leAt r.payload 2 2) (leAt r.payload 4 2) = true) (hm : s.mode = 3) :
    DcpDoes s slot r (.sliceSet slot) 0x206 0 [] fun t =>
      t.rd (HIC_PARTp_SLICE_OFF p) = leAt r.payload 2 2 ∧ t.rd (HIC_PARTp_SLICE_LEN p) = leAt r.payload 4 2 ∧
        Changes [.regs, .parts, .dcp] s t := by
  obtain ⟨hoff, hlen, hk⟩ := sliceWrite_takes hm hfit ho hl
  subst hb
  refine dcpDoes (u := s.sliceWrite (byteAt r.payload 0) (leAt r.payload 2 2) (leAt r.payload 4 2)) rfl ?_
    (congrArg DcpSt.runs (hk.same .dcp rfl)) ⟨hoff, hlen, Changes.dcpResult (hk.changes rfl) (by decide)⟩
  dsimp only
  rw [if_neg (by simp; omega), if_neg (by simp [hfit])]
  rfl

theorem exec_sliceSet_overlap (hfit : s.sliceFits p (leAt r.payload 2 2) (leAt r.payload 4 2) = false) :
    DcpFails s slot r (.sliceSet slot) 0x206 0x302 (dcpDetail 0xFFFF 0 p) := by
  subst hb
  refine dcpFails_detail rfl ?_
  dsimp only
  rw [if_neg (by simp; omega), if_pos (by simp [hfit])]
  rfl

end Slice

end Records

end Sys2Proof.Machine
end

section
/-! SUPPORT. Which registers an operation can change: the operations that a mode change, a domain that goes off and a
partition reset share, each with the registers it writes. -/

namespace Sys2Proof.Machine

/-- Only registers of `W` differ between `s` and `t`. -/
structure Writes (W : Nat → Prop) (s t : State) : Prop where
  reg_eq : ∀ a, ¬W a → t.reg a = s.reg a

section Frame

variable {W V : Nat → Prop} {s t u : State}

theorem Writes.refl : Writes W s s := ⟨fun _ _ => rfl⟩

theorem Writes.trans (h : Writes W s t) (g : Writes W t u) : Writes W s u :=
  ⟨fun a ha => (g.reg_eq a ha).trans (h.reg_eq a ha)⟩

theorem Writes.mono (h : Writes W s t) (hV : ∀ a, W a → V a) : Writes V s t :=
  ⟨fun a ha => h.reg_eq a fun hw => ha (hV a hw)⟩

theorem Writes.rd_eq (h : Writes W s t) {f : Fld} (hf : ¬W f.addr) : t.rd f = s.rd f := by
  simp only [State.rd, h.reg_eq _ hf]

theorem Writes.bit_eq (h : Writes W s t) {f : Fld} (hf : ¬W f.addr) : t.bit f = s.bit f := by
  simp only [State.bit, h.rd_eq hf]

/-- An operation whose mask leaves the registers out. -/
theorem Writes.of_keeps {m : Nat} (h : Keeps m s t) (hm : m.testBit Part.regs.ix = false) : Writes W s t where
  reg_eq a _ := by
    have hr : t.regs = s.regs := h.same .regs hm
    simp only [State.reg, hr]

theorem Writes.keeps {m : Nat} (h : Writes W s t) (k : Keeps m t u) (hm : m.testBit Part.regs.ix = false) :
    Writes W s u := h.trans (.of_keeps k hm)

theorem Writes.setReg (h : Writes W s t) {a : Nat} (ha : W a) (v : Word) : Writes W s (t.setReg a v) where
  reg_eq b hb := by
    have hne : b ≠ a := fun e => hb (e ▸ ha)
    exact (State.reg_setReg_ne t v hne).trans (h.reg_eq b hb)

theorem Writes.wr (h : Writes W s t) {f : Fld} (hf : W f.addr) (v : Nat) : Writes W s (t.wr f v) := h.setReg hf _
theorem Writes.wrB (h : Writes W s t) {f : Fld} (hf : W f.addr) (b : Bool) : Writes W s (t.wrB f b) := h.wr hf _
theorem Writes.incBy (h : Writes W s t) {f : Fld} (hf : W f.addr) (n : Nat) : Writes W s (t.incBy f n) := h.wr hf _
theorem Writes.inc (h : Writes W s t) {f : Fld} (hf : W f.addr) : Writes W s (t.inc f) := h.wr hf _
theorem Writes.incWrap (h : Writes W s t) {f : Fld} (hf : W f.addr) : Writes W s (t.incWrap f) := h.wr hf _
theorem Writes.orF (h : Writes W s t) {f : Fld} (hf : W f.addr) (m : Nat) : Writes W s (t.orF f m) := h.wr hf _

theorem Writes.ite {c : Prop} [Decidable c] (h : Writes W s t) (g : Writes W s u) : Writes W s (if c then t else u) := by
  split <;> assumption

theorem Writes.foldl {α : Type} {f : State → α → State} {l : List α} (hf : ∀ s, ∀ x ∈ l, Writes W s (f s x)) :
    Writes W s (l.foldl f s) := by
  induction l generalizing s with
  | nil => exact .refl
  | cons x l ih =>
    exact (hf s x List.mem_cons_self).trans (ih fun s y hy => hf s y (List.mem_cons_of_mem _ hy))

/-- Registers that are reset are all of `W`. -/
theorem Writes.resetRegs (h : Writes W s t) {p : Nat → Bool} (hp : ∀ a, p a = true → W a) : Writes W s (t.resetRegs p) where
  reg_eq a ha := by
    have hpa : (!p a) = true := by
      rw [Bool.not_eq_true', ← Bool.not_eq_true]
      exact fun h => ha (hp a h)
    exact (mapGet_filter_key regReset (fun a => !p a) t.regs hpa).trans (h.reg_eq a ha)

/-! ## Events, the log, requests (R49, R394, R541) -/

theorem Writes.raiseEvent (h : Writes W s t) {p : Nat} (hp : W (HIC_PARTp_IRQ p)) (src : Nat) :
    Writes W s (t.raiseEvent p src) := by
  have ho : Writes W s (t.orF (HIC_PARTp_IRQ_PEND p) (2 ^ src)) := h.orF hp _
  unfold State.raiseEvent
  extract_lets was s1
  exact .ite h (.ite (ho.keeps (State.putMsix_keeps ..) rfl) ho)

theorem Writes.setIstat (h : Writes W s t) {base : Nat} (hb : W (cISTAT base).addr) (h0 : W (HIC_PARTp_IRQ 0)) (m : Nat) :
    Writes W s (t.setIstat base m) := by
  have ho : Writes W s (t.orF (cISTAT base) m) := h.orF hb _
  unfold State.setIstat
  exact .ite (ho.raiseEvent h0 12) ho

theorem Writes.logEvent (h : Writes W s t) (hl : W SYSCTL_EVLOG) (code base cls detail : Nat) :
    Writes W s (t.logEvent code base cls detail) := by
  have hpush : ∀ {s t : State} (c n l d x : Nat), Writes W s t → Writes W s (t.logPush c n l d x) := fun _ _ _ _ _ h =>
    (h.wr (f := SYSCTL_EVLOG_NEXT_SEQ) hl _).keeps (State.putEvlog_keeps ..) rfl
  unfold State.logEvent State.logRec
  extract_lets same recent s1
  have h1 : Writes W s s1 := .ite h ((hpush _ _ _ _ _ h).keeps (State.putEvLost_keeps ..) rfl)
  refine .ite (h.inc (f := SYSCTL_EVLOG_MERGED) hl) (.ite ?_ (hpush _ _ _ _ _ h1))
  exact (h.inc (f := SYSCTL_EVLOG_OVERFLOW) hl).keeps (State.putEvLost_keeps ..) rfl

theorem Writes.dcpResult (h : Writes W s t) (slot status : Nat) (reply : List Byte) :
    Writes W s (t.dcpResult slot status reply) := h.keeps (State.dcpResult_keeps ..) rfl

theorem Writes.acceptMode (h : Writes W s t) (hm : W SYSCTL_MODE) (target cause rank : Nat) (reply : Option Nat) :
    Writes W s (t.acceptMode target cause rank reply) := by
  unfold State.acceptMode
  extract_lets go
  have h0 : Writes W s (t.putPendMode (some ⟨target, cause, rank, reply, t.ltNs⟩)) :=
    h.keeps (State.putPendMode_keeps ..) rfl
  have hgo : Writes W s go :=
    (h0.wr (f := SYSCTL_MODE_TARGET) hm _).wrB (f := SYSCTL_MODE_PENDING) hm _
  split
  · exact hgo
  · refine .ite ?_ h
    split
    · exact hgo
    · exact hgo.dcpResult ..

/-! ## Shared SRAM -/

theorem writes_sramWriteWord (s : State) (mgp : Bool) (off : Nat) (b : List Byte) :
    Writes (· = MEM_ECC_CNT) s (s.sramWriteWord mgp off b) := by
  unfold State.sramWriteWord
  extract_lets bad s1
  have h1 : Writes (· = MEM_ECC_CNT) s s1 := ⟨fun _ _ => rfl⟩
  exact .ite (Writes.refl.inc rfl) (.ite (Writes.refl.inc rfl) (.ite .refl (.ite h1
    (.ite (h1.keeps (State.putMem_keeps ..) rfl) (h1.inc rfl)))))

theorem writes_sramWriteN (n : Nat) (s : State) (mgp : Bool) (off : Nat) (b : List Byte) :
    Writes (· = MEM_ECC_CNT) s (s.sramWriteN mgp off b n) := by
  induction n generalizing s off b with
  | zero => exact .refl
  | succ n ih => exact .ite .refl ((writes_sramWriteWord ..).trans (ih ..))

theorem writes_sramWrite (s : State) (mgp : Bool) (off : Nat) (b : List Byte) :
    Writes (· = MEM_ECC_CNT) s (s.sramWrite mgp off b) := writes_sramWriteN ..

end Frame

/-! ## Agents, mailboxes and packet queues (R425 to R446) -/

/-- The registers that a reset of an agent can change: those of the mailboxes and queues, and the events of a
partition. -/
def Queueing (a : Nat) : Prop := (∃ p, p < 6 ∧ a = HIC_PARTp_IRQ p) ∨ (uMQF ≤ a ∧ a < 0x00600000)

theorem queueing_MBm_STAT {m : Nat} (h : m < 128) : Queueing (MQF_MBm_STAT m) :=
  .inr (by simp only [uMQF, MQF_MBm_STAT]; omega)
theorem queueing_MBm_ACK {m : Nat} (h : m < 128) : Queueing (MQF_MBm_ACK m) :=
  .inr (by simp only [uMQF, MQF_MBm_ACK]; omega)
theorem queueing_STAGING {m w : Nat} (h : m < 128) (hw : w < 32) : Queueing (MQF_STAGING m w) :=
  .inr (by simp only [uMQF, MQF_STAGING]; omega)
theorem queueing_DBa_PEND {a : Nat} (h : a < 64) : Queueing (MQF_DBa_PEND a) :=
  .inr (by simp only [uMQF, MQF_DBa_PEND]; omega)
theorem queueing_EPOCHa {a : Nat} (h : a < 64) : Queueing (MQF_EPOCHa a) :=
  .inr (by simp only [uMQF, MQF_EPOCHa]; omega)
theorem queueing_PQk_STAT {k : Nat} (h : k < 64) : Queueing (PQk_STAT k) :=
  .inr (by simp only [uMQF, PQk_STAT]; omega)
theorem queueing_PQk_IDX {k : Nat} (h : k < 64) : Queueing (PQk_IDX k) :=
  .inr (by simp only [uMQF, PQk_IDX]; omega)
theorem queueing_PQk_CNT {k : Nat} (h : k < 64) : Queueing (PQk_CNT k) :=
  .inr (by simp only [uMQF, PQk_CNT]; omega)
theorem queueing_PQk_RD1 {k : Nat} (h : k < 64) : Queueing (PQk_RD1 k) :=
  .inr (by simp only [uMQF, PQk_RD1]; omega)

theorem writes_ring (s : State) {a : Nat} (ha : a < 64) (b : Nat) : Writes Queueing s (s.ring a b) := by
  have h1 : Writes Queueing s (s.orF (MQF_DBa_PEND_PEND a) (2 ^ b)) := Writes.refl.orF (queueing_DBa_PEND ha) _
  unfold State.ring
  extract_lets s1
  split
  · next hc =>
    have ha6 : a < 6 := of_decide_eq_true (Bool.and_eq_true_iff.1 hc).1
    exact h1.raiseEvent (.inl ⟨a, ha6, rfl⟩) 9
  · exact h1

theorem rd_SENDER_lt (s : State) (m : Nat) : s.rd (MQF_MBm_CFG_SENDER m) < 64 := State.rd_lt ..

theorem writes_ringAck (s : State) (m : Nat) : Writes Queueing s (s.ringAck m) := by
  unfold State.ringAck
  exact .ite (writes_ring s (rd_SENDER_lt s m) _) .refl

theorem writes_mbSenderReset (s : State) {m : Nat} (hm : m < 128) : Writes Queueing s (s.mbSenderReset m) := by
  unfold State.mbSenderReset
  extract_lets s1 s2
  have h1 : Writes Queueing s s1 := .foldl fun t w hw =>
    Writes.refl.setReg (queueing_STAGING hm (List.mem_range.1 hw)) _
  have h2 : Writes Queueing s s2 :=
    (h1.keeps (State.setTiming_keeps ..) rfl).wrB (f := MQF_MBm_STAT_TIMEOUT m) (queueing_MBm_STAT hm) _
  exact (h2.wrB (f := MQF_MBm_STAT_COLLISION m) (queueing_MBm_STAT hm) _).wrB (f := MQF_MBm_STAT_ACK_LATE m)
    (queueing_MBm_STAT hm) _

theorem writes_mbReceiverReset (s : State) {m : Nat} (hm : m < 128) : Writes Queueing s (s.mbReceiverReset m) := by
  unfold State.mbReceiverReset
  extract_lets s1 s2 s3
  have h1 : Writes Queueing s s1 := (Writes.refl.wrB (f := MQF_MBm_STAT_FULL m) (queueing_MBm_STAT hm) _).keeps
    (State.setTiming_keeps ..) rfl
  have h2 : Writes Queueing s s2 := (h1.wrB (f := MQF_MBm_STAT_TIMEOUT m) (queueing_MBm_STAT hm) _).wr
    (f := MQF_MBm_STAT_REASON m) (queueing_MBm_STAT hm) _
  have h3 : Writes Queueing s s3 := (h2.wr (f := MQF_MBm_ACK_CODE m) (queueing_MBm_ACK hm) _).wrB
    (f := MQF_MBm_ACK_VALID m) (queueing_MBm_ACK hm) _
  exact h3.trans (writes_ringAck ..)

theorem writes_pqShow (s : State) {k : Nat} (hk : k < 64) : Writes Queueing s (s.pqShow k) := by
  have h : ∀ o d n, Writes Queueing s (((s.wrB (PQk_STAT_OPEN k) o).wrB (PQk_STAT_DROPPING k) d).wr (PQk_STAT_OPEN_LEN k) n) :=
    fun o d n => ((Writes.refl.wrB (f := PQk_STAT_OPEN k) (queueing_PQk_STAT hk) o).wrB (f := PQk_STAT_DROPPING k)
      (queueing_PQk_STAT hk) d).wr (f := PQk_STAT_OPEN_LEN k) (queueing_PQk_STAT hk) n
  unfold State.pqShow
  extract_lets q
  split
  exact h ..

theorem writes_pqDiscardOpen (s : State) {k : Nat} (hk : k < 64) : Writes Queueing s (s.pqDiscardOpen k) := by
  unfold State.pqDiscardOpen
  extract_lets q
  have h : Writes Queueing s (s.setPq k { q with cur := none }) := .of_keeps (State.setPq_keeps ..) rfl
  exact .ite .refl ((h.inc (f := PQk_CNT_REWINDS k) (queueing_PQk_CNT hk)).trans (writes_pqShow _ hk))

theorem writes_pqOff (s : State) {k : Nat} (hk : k < 64) : Writes Queueing s (s.pqOff k) := by
  have h : Writes Queueing s (s.setPq k PqSt.reset) := .of_keeps (State.setPq_keeps ..) rfl
  unfold State.pqOff
  exact (((h.setReg (queueing_PQk_IDX hk) _).setReg (queueing_PQk_STAT hk) _).setReg (queueing_PQk_CNT hk) _).setReg
    (queueing_PQk_RD1 hk) _

theorem writes_pqHold (s : State) : Writes Queueing s s.pqHold :=
  .foldl fun t _ hk => .ite .refl (writes_pqOff t (List.mem_range.1 hk))

theorem writes_pqRegionSquash (s : State) (e : Nat) : Writes Queueing s (s.pqRegionSquash e) := by
  unfold State.pqRegionSquash
  refine .foldl fun t k hk => ?_
  have hk := List.mem_range.1 hk
  extract_lets q
  have h : Writes Queueing t (t.setPq k { q with cur := none, deferred := [] }) := .of_keeps (State.setPq_keeps ..) rfl
  exact .ite ((h.incBy (f := PQk_CNT_REWINDS k) (queueing_PQk_CNT hk) _).trans (writes_pqShow _ hk)) .refl

theorem writes_agentReset (s : State) {a : Nat} (ha : a < 64) : Writes Queueing s (s.agentReset a) := by
  unfold State.agentReset
  extract_lets s1 s2 s3 q s4
  have h1 : Writes Queueing s s1 := Writes.refl.incWrap (f := MQF_EPOCHa_EPOCH a) (queueing_EPOCHa ha)
  have h2 : Writes Queueing s s2 := h1.trans (.foldl fun t m hm => by
    have hm := List.mem_range.1 hm
    extract_lets t1
    have ht : Writes Queueing t t1 := .ite (writes_mbSenderReset t hm) .refl
    exact .ite .refl (.ite (ht.trans (writes_mbReceiverReset _ hm)) ht))
  have h3 : Writes Queueing s s3 := h2.wr (f := MQF_DBa_PEND_PEND a) (queueing_DBa_PEND ha) _
  have h4 : Writes Queueing s s4 := h3.keeps (State.putMqf_keeps ..) rfl
  exact h4.trans (.foldl fun t k hk => .ite (writes_pqDiscardOpen t (List.mem_range.1 hk)) .refl)

end Sys2Proof.Machine
end

section
/-! SUPPORT. The registers that the switch, the command queues, the engines and the power domains can change when a mode
or a domain ends (R145, R194, R402, R488). -/

namespace Sys2Proof.Machine

/-- The registers of every unit but SYSCTL and CRP (Table R547). -/
def Beyond (a : Nat) : Prop := uMEM ≤ a

theorem beyond_index {b x : Nat} (h : uMEM ≤ b) : Beyond (b + x) := Nat.le_add_right_of_le h
theorem beyond_indices {b x y : Nat} (h : uMEM ≤ b) : Beyond (b + x + y) := beyond_index (beyond_index h)

theorem Queueing.beyond {a : Nat} (h : Queueing a) : Beyond a := by
  rcases h with ⟨p, _, rfl⟩ | ⟨h, _⟩
  · exact beyond_index (by decide)
  · exact Nat.le_trans (by decide) h

/-! ## The switch: an egress that goes down (R145) -/

/-- The registers of the SWC and of the units behind it, and the ECC counters. -/
def Switching (a : Nat) : Prop := a = MEM_ECC_CNT ∨ uSWC ≤ a

theorem Switching.beyond {a : Nat} (h : Switching a) : Beyond a := by
  rcases h with rfl | h
  · exact (by decide : uMEM ≤ MEM_ECC_CNT)
  · exact Nat.le_trans (by decide) h

theorem switching_index {b x : Nat} (h : uSWC ≤ b) : Switching (b + x) := .inr (Nat.le_add_right_of_le h)

theorem writes_mirror (s : State) (f : EthFrame) (reason time : Nat) : Writes Switching s (s.mirror f reason time) := by
  unfold State.mirror
  extract_lets n s1 s2
  have h1 : Writes Switching s s1 := (writes_sramWrite ..).mono fun _ h => .inl h
  have h2 : Writes Switching s s2 := h1.incWrap (f := SWC_MIR_PROD_COUNT) (.inr (by decide))
  exact .ite .refl (.ite (Writes.refl.inc (f := SWC_MIR_STAT_LOST) (.inr (by decide)))
    (h2.wrB (f := SWC_MIR_STAT_FULL) (.inr (by decide)) _))

theorem writes_mirDropOnce (s : State) (id reason : Nat) : Writes Switching s (s.mirDropOnce id reason) := by
  have h : Writes Switching s (s.mirrorOnce id reason) := by
    unfold State.mirrorOnce
    split
    · exact .refl
    · exact .ite .refl ((writes_mirror ..).keeps (State.putFrame_keeps ..) rfl)
  exact .ite h .refl

theorem writes_freeUpdate (s : State) : Writes Switching s s.freeUpdate := by
  unfold State.freeUpdate
  extract_lets fr s1
  have h1 : Writes Switching s s1 := Writes.refl.wr (f := SWC_BUF_STAT_FREE) (.inr (by decide)) _
  exact .ite (h1.wr (f := SWC_BUF_STAT_LOW_WATER) (.inr (by decide)) _) h1

theorem writes_frameRelease (s : State) (id : Nat) : Writes Switching s (s.frameRelease id) := by
  have hfree : ∀ t : State, Writes Switching t (t.frameFree id) := fun t => by
    unfold State.frameFree
    split
    · exact .refl
    · extract_lets t1 w t2
      have h1 : Writes Switching t t1 := .of_keeps (State.putFrame_keeps ..) rfl
      have h2 : Writes Switching t t2 := by
        simp only [t2]
        split
        · exact h1
        · exact h1.keeps (State.setSwc_keeps ..) rfl
      exact h2.trans (writes_freeUpdate _)
  have h : Writes Switching s (s.stampSettle id) := .of_keeps (State.stampSettle_keeps ..) rfl
  unfold State.frameRelease
  extract_lets s1
  exact .ite h (h.trans (hfree _))

theorem writes_discardCopy (s : State) (reason id : Nat) : Writes Switching s (s.discardCopy reason id) := by
  unfold State.discardCopy
  split
  · exact .refl
  · next f _ =>
    have h : Writes Switching s (s.inc (SWC_PORTp_CNT_IN_DROP f.ingress)) :=
      Writes.refl.inc (switching_index (by decide))
    exact (h.trans (writes_mirDropOnce ..)).trans (writes_frameRelease ..)

theorem writes_swFlush (s : State) (p : Nat) : Writes Switching s (s.swFlush p) := by
  unfold State.swFlush
  extract_lets ids s1
  have h1 : Writes Switching s s1 := .foldl fun t c _ => .of_keeps (State.setQueue_keeps ..) rfl
  exact h1.trans (.foldl fun t i _ => writes_discardCopy ..)

theorem writes_swPortDown (s : State) (p : Nat) : Writes Switching s (s.swPortDown p) := by
  unfold State.swPortDown
  extract_lets s1 txs s2
  have h1 : Writes Switching s s1 := (writes_swFlush s p).keeps (State.epCut_keeps ..) rfl
  have h2 : Writes Switching s s2 := (h1.keeps (State.setTx_keeps ..) rfl).keeps (State.setHeld_keeps ..) rfl
  exact h2.trans (.foldl fun t i _ => writes_discardCopy ..)

theorem writes_portsLost (s was : State) : Writes Switching s (s.portsLost was) :=
  .ite .refl (.foldl fun t p _ => writes_swPortDown t p)

theorem writes_portDisable (s : State) (p : Nat) : Writes Beyond s (s.portDisable p) := by
  have hstat : Beyond (EPC_PORTp_STAT p) := beyond_index (by decide)
  have hpre : Beyond (SWC_PORTp_PRE p) := beyond_index (by decide)
  unfold State.portDisable State.preOff
  extract_lets s1 s2 s3
  have h1 : Writes Beyond s s1 := Writes.refl.wrB (f := EPC_PORTp_CTL_EN p) (beyond_index (by decide)) _
  have h2 : Writes Beyond s s2 := h1.wr (f := EPC_PORTp_STAT_STATE p) hstat _
  have h3 : Writes Beyond s s3 := ((h2.wrB (f := EPC_PORTp_STAT_PAUSED p) hstat _).wrB (f := SWC_PORTp_PRE_ACTIVE p)
    hpre _).wrB (f := SWC_PORTp_PRE_HOLD p) hpre _
  have h4 : Writes Beyond s (s3.rxDiscard p) := h3.keeps (State.rxDiscard_keeps ..) rfl
  exact .ite (h1.wrB (f := EPC_PORTp_STAT_PENDING p) hstat _) (.ite h1
    (h4.trans ((writes_swFlush ..).mono fun _ => Switching.beyond)))

/-! ## Completions (R402 to R404) -/

theorem writes_hostWrite (s : State) (p addr : Nat) (b : List Byte) : Writes Beyond s (s.hostWrite p addr b) :=
  .ite (.of_keeps (State.putDma_keeps ..) rfl)
    ((writes_sramWrite ..).mono fun _ h => h ▸ (by decide : uMEM ≤ MEM_ECC_CNT))

theorem Writes.raise {s t : State} (h : Writes Beyond s t) (p src : Nat) : Writes Beyond s (t.raiseEvent p src) :=
  h.raiseEvent (beyond_index (by decide)) src

theorem writes_fwDeny (s : State) (p : Nat) (mem write : Bool) (addr : Nat) : Writes Beyond s (s.fwDeny p mem write addr) := by
  have hstat : Beyond HIC_STAT := (by decide : uMEM ≤ HIC_STAT)
  unfold State.fwDeny
  extract_lets s1 s2 s3
  have h1 : Writes Beyond s s1 := Writes.refl.inc (f := HIC_PARTp_CNT_FW_DENY p) (beyond_index (by decide))
  have h2 : Writes Beyond s s2 := .ite h1 (((((h1.wrB (f := HIC_STAT_VALID) hstat _).wrB (f := HIC_STAT_DENY_SPACE)
    hstat _).wr (f := HIC_STAT_DENY_PART) hstat _).wrB (f := HIC_STAT_DENY_WR) hstat _).wr (f := HIC_STAT_DENY_ADDR) hstat _)
  exact .ite (h2.raise ..) ((h2.raise ..).raise ..)

theorem writes_qFault (s : State) (p q addr : Nat) (write : Bool) : Writes Beyond s (s.qFault p q addr write) := by
  have hctl : Beyond (HIC_PARTp_Qq_CTL p q) := beyond_indices (by decide)
  exact ((Writes.refl.wrB (f := HIC_PARTp_Qq_CTL_EN p q) hctl _).wrB (f := HIC_PARTp_Qq_CTL_FAULT p q) hctl _).trans
    (writes_fwDeny ..)

theorem writes_seqRecord (s : State) (r : DcpRun) (status : Nat) : Writes Beyond s (s.seqRecord r status) := by
  have hctl : ∀ q, Beyond (HIC_PARTp_Qq_CTL r.part q) := fun _ => beyond_indices (by decide)
  unfold State.seqRecord
  extract_lets q
  exact .ite .refl (((Writes.refl.wr (f := HIC_PARTp_Qq_CTL_LAST_SEQ r.part q) (hctl q) _).wrB
    (f := HIC_PARTp_Qq_CTL_SEQ_VALID r.part q) (hctl q) _).wrB (f := HIC_PARTp_Qq_CTL_LAST_OK r.part q) (hctl q) _)

theorem writes_qComplete (s : State) (r : DcpRun) (x : DcpResult) : Writes Beyond s (s.qComplete r x) := by
  unfold State.qComplete
  extract_lets p q s1 pay tail addr s2 pass phase s3 s4 next s5 d s6
  have h1 : Writes Beyond s s1 := (Writes.of_keeps (State.dropRun_keeps ..) rfl).trans (writes_seqRecord ..)
  have h2 : Writes Beyond s s2 := .ite h1 (h1.trans (writes_hostWrite ..))
  have h3 : Writes Beyond s s3 := h2.trans (writes_hostWrite ..)
  have h4 : Writes Beyond s s4 := h3.trans (writes_hostWrite ..)
  have h5 : Writes Beyond s s5 := h4.wr (f := HIC_PARTp_Qq_IDX_CQ_TAIL p q) (beyond_indices (by decide)) _
  have h6 : Writes Beyond s s6 := .ite (h5.keeps (State.putDcp_keeps ..) rfl) h5
  exact .ite h1 (.ite (h2.trans (writes_qFault ..)) (.ite h6 (h6.raise ..)))

theorem writes_postAll (s : State) : Writes Beyond s s.postAll := by
  refine .ite .refl (.foldl fun t r _ => ?_)
  split
  · exact .refl
  · exact .ite .refl (writes_qComplete ..)

/-! ## The units at the entry of a mode (R194, R288, R326) -/

theorem writes_setSpeca (s : State) (n : Nat) (v : Bool) : Writes Beyond s (s.setSpeca n v) := by
  have h : Writes Beyond s (s.rookUpd n fun r => r.setEsr 9 v) := .of_keeps (State.rookUpd_keeps ..) rfl
  exact h.wrB (f := PEA_Rn_STAT_SPECA n) (beyond_index (by decide)) v

theorem writes_rookSquash (s : State) (n : Nat) : Writes Beyond s (s.rookSquash n) := by
  have h : ∀ r, Writes Beyond s (s.setRook n r) := fun _ => .of_keeps (State.setRook_keeps ..) rfl
  unfold State.rookSquash
  extract_lets r
  split
  · exact h _
  · exact ((h _).trans (writes_setSpeca ..)).trans ((writes_pqRegionSquash ..).mono fun _ => Queueing.beyond)

theorem writes_epCheck (s : State) (n : Nat) : Writes Beyond s (s.epCheck n) :=
  .ite ((writes_swPortDown ..).mono fun _ => Switching.beyond) .refl

theorem writes_engStop (s : State) {n : Nat} (hn : n < 24) : Writes Beyond s (s.engStop n) := by
  unfold State.engStop
  extract_lets s1 drop s2
  have h1 : Writes Beyond s s1 := (writes_rookSquash s n).wr (f := PEA_Rn_STAT_STATE n) (beyond_index (by decide)) _
  have h2 : Writes Beyond s s2 := h1.keeps (State.rookUpd_keeps ..) rfl
  have hag : agRook n < 64 := by
    simp only [agRook]
    omega
  exact (h2.trans (writes_epCheck ..)).trans ((writes_agentReset _ hag).mono fun _ => Queueing.beyond)

theorem writes_engEnable (s : State) (n : Nat) : Writes Beyond s (s.engEnable n) := by
  have hstat : Beyond (PEA_Rn_STAT n) := beyond_index (by decide)
  unfold State.engEnable State.engStart
  extract_lets s1
  have h1 : Writes Beyond s s1 := Writes.refl.wrB (f := PEA_Rn_CTL_EN n) (beyond_index (by decide)) _
  have h2 : Writes Beyond s (s1.engClear n) := h1.keeps (State.rookUpd_keeps ..) rfl
  exact .ite (h1.wrB (f := PEA_Rn_STAT_PENDING n) hstat _) (.ite ((h2.wr (f := PEA_Rn_STAT_STATE n) hstat _).wrB
    (f := PEA_Rn_STAT_NET_UP n) hstat _) h1)

theorem writes_engMode (s : State) {n : Nat} (hn : n < 24) : Writes Beyond s (s.engMode n) :=
  .ite .refl (.ite (.ite (Writes.refl.wrB (f := PEA_Rn_STAT_PENDING n) (beyond_index (by decide)) _) (writes_engStop s hn))
    (.ite (writes_engEnable s n) .refl))

theorem writes_enginesMode (s : State) : Writes Beyond s s.enginesMode :=
  .foldl fun t _ hn => writes_engMode t (List.mem_range.1 hn)

theorem writes_modeEvents (s : State) : Writes Beyond s s.modeEvents :=
  .foldl fun _ p _ => .ite (Writes.refl.raise p 1) .refl

theorem writes_pawnStart (s : State) (n : Nat) : Writes Beyond s (s.pawnStart n) := by
  have hstat : Beyond (PIA_Pn_STAT n) := beyond_index (by decide)
  unfold State.pawnStart
  extract_lets idle bits s1 s2
  have h1 : Writes Beyond s s1 := .of_keeps (State.pawnUpd_keeps ..) rfl
  have h2 : Writes Beyond s s2 := (h1.wr (f := PIA_Pn_STAT_PC n) hstat _).wrB (f := PIA_Pn_STAT_READY n) hstat _
  exact h2.wr (f := PIA_Pn_STAT_STATE n) hstat _

theorem writes_axisClear (s : State) (k : Nat) : Writes Beyond s (s.axisClear k) := by
  have hstat : Beyond (ACE_AXk_STAT k) := beyond_index (by decide)
  unfold State.axisClear
  extract_lets x s1 s2
  have h1 : Writes Beyond s s1 := .of_keeps (State.axisUpd_keeps ..) rfl
  have h2 : Writes Beyond s s2 := (h1.wr (f := ACE_AXk_STAT_HIST k) hstat _).wr (f := ACE_AXk_STAT_STOP_STATE k) hstat _
  exact ((h2.wr (f := ACE_AXk_STAT_ONTIME_RUN k) hstat _).wr (f := ACE_AXk_STAT_EXTRAP_RUN k) hstat _).wrB
    (f := ACE_AXk_STAT_READY k) hstat _

end Sys2Proof.Machine
end

section
/-! SUPPORT. The power domains: which registers a domain that changes its state resets and which it leaves (R486 to
R490, R548, R553). -/

namespace Sys2Proof.Machine

/-! ## The domain of a register (Table R547) -/

theorem unitAt_mem {a : Nat} {u : UnitDef} (h : unitAt a = some u) : u ∈ unitTable ∧ u.base ≤ a ∧ a ≤ u.last := by
  refine ⟨List.mem_of_find?_eq_some h, ?_⟩
  simpa using List.find?_some h

/-- A register outside PD_AON lies in a unit of its domain, or in the block of a Rook. -/
theorem domOf_unit {a d : Nat} (hd : d ≠ 0) (h : domOf a = d) :
    (∃ u ∈ unitTable, u.dom = d ∧ u.base ≤ a ∧ a ≤ u.last) ∨ ((d = 4 ∨ d = 5) ∧ uPEA ≤ a ∧ a < 0x01600000) := by
  unfold domOf at h
  split at h
  · exact absurd h.symm hd
  · split at h
    · exact absurd h.symm hd
    · split at h
      · exact absurd h.symm hd
      · next u hu =>
        obtain ⟨hmem, hlo, hhi⟩ := unitAt_mem hu
        split at h
        · next hp =>
          refine .inr ⟨?_, hp.1 ▸ hlo, hp.2⟩
          split at h <;> omega
        · exact .inl ⟨u, hmem, h, hlo, hhi⟩

theorem beyond_of_domOf {a d : Nat} (h0 : d ≠ 0) (h2 : d ≠ 2) (h : domOf a = d) : Beyond a := by
  rcases domOf_unit h0 h with ⟨u, hu, rfl, hlo, _⟩ | ⟨_, hlo, _⟩
  · exact Nat.le_trans ((by decide : ∀ u ∈ unitTable, u.dom ≠ 0 → u.dom ≠ 2 → uMEM ≤ u.base) u hu h0 h2) hlo
  · exact Nat.le_trans (by decide) hlo

theorem hic_of_domOf {a : Nat} (h : domOf a = 3) : uHIC ≤ a ∧ a < uMQF := by
  rcases domOf_unit (by decide) h with ⟨u, hu, hdom, hlo, hhi⟩ | ⟨h45, _⟩
  · obtain ⟨hb, hl⟩ := (by decide : ∀ u ∈ unitTable, u.dom = 3 → uHIC ≤ u.base ∧ u.last < uMQF) u hu hdom
    omega
  · omega

theorem not_queueing_of_domOf {a d : Nat} (h0 : d ≠ 0) (h2 : d ≠ 2) (h3 : d ≠ 3) (h : domOf a = d) : ¬Queueing a := by
  have hlo : 0x00600000 ≤ a := by
    rcases domOf_unit h0 h with ⟨u, hu, rfl, hlo, _⟩ | ⟨_, hlo, _⟩
    · exact Nat.le_trans ((by decide : ∀ u ∈ unitTable, u.dom ≠ 0 → u.dom ≠ 2 → u.dom ≠ 3 → 0x00600000 ≤ u.base)
        u hu h0 h2 h3) hlo
    · exact Nat.le_trans (by decide) hlo
  rintro (⟨p, hp, rfl⟩ | ⟨_, hhi⟩)
  · simp only [HIC_PARTp_IRQ] at hlo
    omega
  · omega

theorem pea_of_domOf {a d : Nat} (hd : d = 4 ∨ d = 5) (h : domOf a = d) : uPEA ≤ a ∧ a < 0x01600000 := by
  rcases domOf_unit (by omega) h with ⟨u, hu, hdom, _⟩ | ⟨_, hlo⟩
  · have := (by decide : ∀ u ∈ unitTable, u.dom ≠ 4 ∧ u.dom ≠ 5) u hu
    omega
  · exact hlo

theorem not_switching_of_domOf {a d : Nat} (hd : d = 3 ∨ d = 4 ∨ d = 5) (h : domOf a = d) : ¬Switching a := by
  have hlt : uHIC ≤ a ∧ a < uSWC := by
    rcases hd with rfl | hd
    · obtain ⟨hlo, hhi⟩ := hic_of_domOf h
      exact ⟨hlo, Nat.lt_trans hhi (by decide)⟩
    · obtain ⟨hlo, hhi⟩ := pea_of_domOf hd h
      exact ⟨Nat.le_trans (by decide) hlo, Nat.lt_trans hhi (by decide)⟩
  rintro (rfl | hsw)
  · exact absurd hlt.1 (by decide)
  · omega

theorem domOf_PEA_Rn : ∀ n < 24, domOf (PEA_Rn_STAT n) = engDom n ∧ domOf (PEA_Rn_CTL n) = engDom n := by decide

/-! ## The states of the domains (R486) -/

theorem ok_PD_STATE {d : Nat} (h : d < 10) : (CRP_PD_STAT_STATE d).ok = true :=
  Fld.ok_iff.2 (by simp only [CRP_PD_STAT_STATE]; omega)

theorem setDom_same (s : State) {d st : Nat} (hd : d < 10) (hst : st < 8) : (s.setDom d st).domState d = st := by
  have hw : (CRP_PD_STAT_STATE d).width = 3 := by
    simp only [Fld.width, CRP_PD_STAT_STATE]
    omega
  exact State.rd_wr_fits s (ok_PD_STATE hd) (by rw [hw]; exact hst)

theorem setDom_other (s : State) {d e st : Nat} (hd : d < 10) (he : e < 10) (h : e ≠ d) :
    (s.setDom d st).domState e = s.domState e :=
  State.rd_wr_apart s st (ok_PD_STATE hd) (ok_PD_STATE he)
    (Fld.apart_iff.2 (by simp only [CRP_PD_STAT_STATE]; omega))

theorem Writes.domState_eq {W : Nat → Prop} {s t : State} (h : Writes W s t) (hW : ¬W CRP_PD_STAT) (d : Nat) :
    t.domState d = s.domState d := h.rd_eq hW

theorem not_beyond_crp : ¬Beyond CRP_PD_STAT := by
  simp only [Beyond]
  decide

/-! ## Contents lost (R553) -/

theorem mapGet_filter_gone {α : Type} (d : Nat → α) (p : Nat → Bool) (m : List (Nat × α)) {k : Nat} (hk : p k = false) :
    mapGet d (m.filter fun e => p e.1) k = d k := by
  induction m with
  | nil => rfl
  | cons e t ih =>
    by_cases hp : p e.1 = true
    · have hne : e.1 ≠ k := fun h => by simp [h, hk] at hp
      simp only [List.filter_cons, hp, if_true, mapGet, hne, if_false, ih]
    · simp only [List.filter_cons, if_neg hp, ih]

theorem regs_domainLost (s : State) (d a : Nat) : (s.domainLost d).reg a = (s.resetDomRegs d).reg a := by
  unfold State.domainLost
  extract_lets t
  split <;> rfl

theorem writes_domainLost (s : State) (d : Nat) : Writes (domOf · = d) s (s.domainLost d) := by
  have h : Writes (domOf · = d) s (s.resetDomRegs d) := Writes.refl.resetRegs fun a ha => by simpa using ha
  exact ⟨fun a ha => (regs_domainLost s d a).trans (h.reg_eq a ha)⟩

theorem domainLost_reset (s : State) {d a : Nat} (h : domOf a = d) : (s.domainLost d).reg a = regReset a :=
  (regs_domainLost s d a).trans (mapGet_filter_gone regReset (fun a => !(domOf a == d)) s.regs (by simp [h]))

/-- The registers of domain `d` and the state of the domains. -/
def DomainRegs (d a : Nat) : Prop := domOf a = d ∨ a = CRP_PD_STAT

theorem not_domOf_pd {d : Nat} (hd : d ≠ 0) : domOf CRP_PD_STAT ≠ d := fun h => hd (h ▸ by decide)

theorem setDom_reset {d a : Nat} {t : State} (hd : d ≠ 0) (st : Nat) (h : domOf a = d) :
    (t.setDom d st).reg a = t.reg a :=
  State.reg_setReg_ne _ _ fun (e : a = CRP_PD_STAT) => not_domOf_pd hd (e ▸ h)

theorem domainOn_domState (s : State) {d e : Nat} (hd : d < 10) (h0 : d ≠ 0) (he : e < 10) (hne : e ≠ d) :
    (s.domainOn d).domState e = s.domState e := by
  unfold State.domainOn
  split
  · rfl
  · exact (setDom_other _ hd he hne).trans ((writes_domainLost s d).domState_eq (not_domOf_pd h0) e)

theorem domainOff_eq (s : State) {d : Nat} (h0 : d ≠ 0) : s.domainOff d = (s.domainLost d).setDom d 0 :=
  if_neg (by simpa using h0)

theorem writes_domainOff (s : State) (d : Nat) : Writes (DomainRegs d) s (s.domainOff d) := by
  have h : Writes (DomainRegs d) s (s.domainLost d) := (writes_domainLost s d).mono fun _ => .inl
  exact .ite .refl (h.wr (f := CRP_PD_STAT_STATE d) (.inr rfl) 0)

theorem domainOff_same (s : State) {d : Nat} (hd : d < 10) (h0 : d ≠ 0) : (s.domainOff d).domState d = 0 := by
  rw [domainOff_eq s h0]
  exact setDom_same _ hd (by decide)

theorem domainOff_other (s : State) {d e : Nat} (hd : d < 10) (h0 : d ≠ 0) (he : e < 10) (hne : e ≠ d) :
    (s.domainOff d).domState e = s.domState e := by
  rw [domainOff_eq s h0]
  exact (setDom_other _ hd he hne).trans ((writes_domainLost s d).domState_eq (not_domOf_pd h0) e)

theorem domainOff_reset (s : State) {d a : Nat} (h0 : d ≠ 0) (h : domOf a = d) : (s.domainOff d).reg a = regReset a := by
  rw [domainOff_eq s h0, setDom_reset h0 0 h]
  exact domainLost_reset s h

/-! ## A domain goes off (R145, R196, R425, R488) -/

theorem domAgents_lt (d : Nat) : ∀ a ∈ domAgents d, a < 64 := by
  unfold domAgents
  split
  · decide
  · split
    · decide
    · split
      · decide
      · simp

/-- What a domain does beyond losing its contents. -/
theorem domainDown_after (s : State) (d : Nat) :
    Writes (fun a => Switching a ∨ Queueing a) (s.domainOff d) (s.domainDown d) := by
  unfold State.domainDown
  extract_lets t
  have ht : Writes (fun a => Switching a ∨ Queueing a) (s.domainOff d) t := (writes_portsLost ..).mono fun _ => .inl
  refine .ite ht (.ite (ht.trans ((writes_pqHold t).mono fun _ => .inr)) (ht.trans (.foldl fun u a ha => ?_)))
  exact (writes_agentReset u (domAgents_lt d a ha)).mono fun _ => .inr

theorem after_beyond {a : Nat} (h : Switching a ∨ Queueing a) : Beyond a := h.elim Switching.beyond Queueing.beyond

theorem domainDown_domState (s : State) (d e : Nat) : (s.domainDown d).domState e = (s.domainOff d).domState e :=
  (domainDown_after s d).domState_eq (fun h => not_beyond_crp (after_beyond h)) e

theorem domainDown_other (s : State) {d e : Nat} (hd : d < 10) (h0 : d ≠ 0) (he : e < 10) (hne : e ≠ d) :
    (s.domainDown d).domState e = s.domState e :=
  (domainDown_domState s d e).trans (domainOff_other s hd h0 he hne)

theorem domainDown_same (s : State) {d : Nat} (hd : d < 10) (h0 : d ≠ 0) : (s.domainDown d).domState d = 0 :=
  (domainDown_domState s d d).trans (domainOff_same s hd h0)

/-- A domain above PD_MGT leaves SYSCTL alone, and of CRP all but the states of the domains. -/
theorem writes_domainDown (s : State) {d : Nat} (h0 : d ≠ 0) (h2 : d ≠ 2) :
    Writes (fun a => a = CRP_PD_STAT ∨ Beyond a) s (s.domainDown d) :=
  ((writes_domainOff s d).mono fun _ h => h.elim (fun h => .inr (beyond_of_domOf h0 h2 h)) .inl).trans
    ((domainDown_after s d).mono fun _ h => .inr (after_beyond h))

section Quiet

variable {s : State} {d : Nat} (hd : d < 10) (h0 : d ≠ 0) (h3 : d ≠ 3) (h4 : d ≠ 4) (h5 : d ≠ 5)
include hd h0 h3 h4 h5

omit h3 in
theorem rook_domainOff {n : Nat} (hn : n < 24) : (s.domainOff d).rookRunning n = s.rookRunning n ∧
    (s.domainOff d).rd (PEA_Rn_CTL_BIND n) = s.rd (PEA_Rn_CTL_BIND n) := by
  have hw := writes_domainOff s d
  obtain ⟨hstat, hctl⟩ := domOf_PEA_Rn n hn
  have heng : engDom n < 10 ∧ engDom n ≠ d := by
    simp only [engDom]
    split <;> omega
  have hns : ¬DomainRegs d (PEA_Rn_STAT n) := by
    rintro (h | h)
    · exact heng.2 (hstat ▸ h)
    · simp only [PEA_Rn_STAT, CRP_PD_STAT] at h
      omega
  have hnc : ¬DomainRegs d (PEA_Rn_CTL n) := by
    rintro (h | h)
    · exact heng.2 (hctl ▸ h)
    · simp only [PEA_Rn_CTL, CRP_PD_STAT] at h
      omega
  have hon : (s.domainOff d).domOn (engDom n) = s.domOn (engDom n) := by
    simp only [State.domOn, domainOff_other s hd h0 heng.1 heng.2]
  refine ⟨?_, hw.rd_eq hnc⟩
  exact congrArg₂ (· && ·) hon (congrArg (· == 2) (hw.rd_eq (f := PEA_Rn_STAT_STATE n) hns))

theorem swPortUp_domainOff {p : Nat} (hp : 10 ≤ p) : (s.domainOff d).swPortUp p = s.swPortUp p := by
  have hany : ((List.range 24).any fun n => (s.domainOff d).rookRunning n &&
      (s.domainOff d).rd (PEA_Rn_CTL_BIND n) == p - 10) =
      (List.range 24).any fun n => s.rookRunning n && s.rd (PEA_Rn_CTL_BIND n) == p - 10 := by
    rw [Bool.eq_iff_iff, List.any_eq_true, List.any_eq_true]
    refine exists_congr fun n => and_congr_right fun hn => ?_
    obtain ⟨hrun, hbind⟩ := rook_domainOff (s := s) hd h0 h4 h5 (List.mem_range.1 hn)
    rw [hrun, hbind]
  have hhost : (s.domainOff d).domOn 3 = s.domOn 3 := by
    simp only [State.domOn, domainOff_other s hd h0 (by decide : 3 < 10) h3.symm]
  simp only [State.swPortUp, if_neg (Nat.not_lt.2 hp), hany, hhost]

/-- Only the host and the engines carry an internal port. -/
theorem portsLost_none : (s.domainOff d).portsLost s = s.domainOff d := by
  have hnone : ([10, 11, 12, 13, 14].filter fun p => s.swPortUp p && !(s.domainOff d).swPortUp p) = [] := by
    rw [List.filter_eq_nil_iff]
    intro p hp
    have hge : 10 ≤ p := (by decide : ∀ p ∈ [10, 11, 12, 13, 14], 10 ≤ p) p hp
    simp [swPortUp_domainOff hd h0 h3 h4 h5 hge]
  unfold State.portsLost
  rw [hnone]
  exact ite_self _

theorem domainDown_quiet : Writes Queueing (s.domainOff d) (s.domainDown d) := by
  unfold State.domainDown
  rw [portsLost_none hd h0 h3 h4 h5]
  exact .ite .refl (.ite (writes_pqHold _) (.foldl fun u a ha => writes_agentReset u (domAgents_lt d a ha)))

end Quiet

theorem domainDown_mgt (s : State) : s.domainDown 2 = s.domainOff 2 := by
  have hoff : (s.domainOff 2).domOn 2 = false := by
    simp [State.domOn, domainOff_same s (by decide : 2 < 10) (by decide)]
  unfold State.domainDown
  rw [portsLost_none (by decide) (by decide) (by decide) (by decide) (by decide)]
  exact if_pos (by rw [hoff]; rfl)

theorem domainDown_host (s : State) : Writes Switching (s.domainOff 3) (s.domainDown 3) := by
  unfold State.domainDown
  extract_lets t
  exact .ite (writes_portsLost ..) (writes_portsLost ..)

/-- The registers of a domain that went off are at reset: nothing that follows writes one of them. -/
theorem domainDown_reset (s : State) {d a : Nat} (hd : d < 10) (h0 : d ≠ 0) (h : domOf a = d) :
    (s.domainDown d).reg a = regReset a := by
  have hoff := domainOff_reset s h0 h
  by_cases h2 : d = 2
  · subst h2
    rwa [domainDown_mgt]
  by_cases h3 : d = 3
  · subst h3
    exact ((domainDown_host s).reg_eq a (not_switching_of_domOf (.inl rfl) h)).trans hoff
  have hq := not_queueing_of_domOf h0 h2 h3 h
  by_cases h45 : d = 4 ∨ d = 5
  · exact ((domainDown_after s d).reg_eq a fun hw => hw.elim (not_switching_of_domOf (.inr h45) h) hq).trans hoff
  · exact ((domainDown_quiet hd h0 h3 (by omega) (by omega)).reg_eq a hq).trans hoff

end Sys2Proof.Machine
end

section
/-! SUPPORT. A mode change (R45, R49, R51): what SYSCTL_MODE shows after it, and which registers the units' reactions
and the entry into DEGRADED can change. -/

namespace Sys2Proof.Machine

/-! ## The request (R49) -/

section Accept

variable {s : State} {target cause rank : Nat} {reply : Option Nat}

/-- The state with a request accepted. -/
def State.modeAsked (s : State) (target cause rank : Nat) (reply : Option Nat) : State :=
  ((s.putPendMode (some ⟨target, cause, rank, reply, s.ltNs⟩)).wr SYSCTL_MODE_TARGET target).wrB SYSCTL_MODE_PENDING true

theorem acceptMode_free (h : s.pendMode = none) : s.acceptMode target cause rank reply = s.modeAsked target cause rank reply := by
  unfold State.acceptMode
  rw [h]
  rfl

theorem modeAsked_mode : (s.modeAsked target cause rank reply).mode = s.mode := by
  unfold State.mode State.modeAsked State.wrB
  rw [State.rd_wr_apart _ _ rfl rfl rfl, State.rd_wr_apart _ _ rfl rfl rfl]
  rfl

theorem modeAsked_pending : (s.modeAsked target cause rank reply).bit SYSCTL_MODE_PENDING = true :=
  State.bit_wrB_same _ _ rfl

theorem modeAsked_target (h : target < 16) : (s.modeAsked target cause rank reply).rd SYSCTL_MODE_TARGET = target := by
  unfold State.modeAsked State.wrB
  rw [State.rd_wr_apart _ _ rfl rfl rfl]
  exact State.rd_wr_fits _ rfl h

theorem regsBut_modeAsked : RegsBut [SYSCTL_MODE] s (s.modeAsked target cause rank reply) :=
  have h1 := regsBut_wr (s.putPendMode (some ⟨target, cause, rank, reply, s.ltNs⟩)) SYSCTL_MODE_TARGET target
  h1.wrB (f := SYSCTL_MODE_PENDING) (.head _) true

theorem modeAsked_keeps : Keeps 136 s (s.modeAsked target cause rank reply) :=
  (State.wrB_keeps ..).comp rfl ((State.wr_keeps ..).comp rfl ((State.putPendMode_keeps ..).mono rfl))

theorem modeGo_waits {always : Bool} (h : s.pendMode = none) (hw : (waitsBoundary s.mode target && !always) = true) :
    s.modeGo target cause rank reply always = s.modeAsked target cause rank reply := by
  unfold State.modeGo
  rw [h, acceptMode_free h]
  exact if_pos (by rw [modeAsked_mode, hw, Bool.or_true])

theorem modeGo_enters {always : Bool} (h : s.pendMode = none) (hw : (waitsBoundary s.mode target && !always) = false) :
    s.modeGo target cause rank reply always = (s.modeAsked target cause rank reply).enterMode target cause := by
  unfold State.modeGo
  rw [h, acceptMode_free h]
  exact if_neg (by rw [modeAsked_mode, hw]; simp)

end Accept

/-! ## The entry, in steps (R51) -/

/-- The units of PD_FIELD and PD_AXIS act on mode `m` before SYSCTL_MODE shows it. -/
def State.unitsMode (s : State) (m : Nat) : State := (((s.cbcMode m).canMode m).piaMode m).aceMode m

/-- SYSCTL_MODE after the transition from `old` to `m`. -/
def State.modeFields (s : State) (old m cause : Nat) : State :=
  let s := ((s.wr SYSCTL_MODE_PREV old).wr SYSCTL_MODE_MODE m).wr SYSCTL_MODE_CAUSE cause
  ((s.inc SYSCTL_MODE_TRANSITIONS).wrB SYSCTL_MODE_PENDING false).wr SYSCTL_MODE_TARGET m

/-- The engines, the commands that run, the hosts and the log react. -/
def State.modeReact (s : State) (old m cause : Nat) : State :=
  let s := (s.putPendMode none).putModeAt s.ntu.lt
  let s := (s.enginesMode.runsMode m).modeEvents
  s.logEvent 0x0010 uSYSCTL (if m == 8 then 4 else if m == 9 then 3 else 0) (old + m * 2 ^ 8 + cause * 2 ^ 16)

/-- The reply of a MODE_SET whose transition has taken effect. -/
def State.modeReply (s : State) : Option Nat → State
  | none => s
  | some slot => s.dcpResult slot 0 []

/-- The command whose transition is pending. -/
def State.askedReply (s : State) : Option Nat := match s.pendMode with | none => none | some p => p.reply

/-- The entry but for what DEGRADED, STANDBY and the live modes add. -/
def State.modeEntered (s : State) (m cause : Nat) : State :=
  (((s.unitsMode m).modeFields s.mode m cause).modeReact s.mode m cause).modeReply s.askedReply

theorem enterMode_eq (s : State) (m cause : Nat) : s.enterMode m cause =
    if m == 8 then (s.modeEntered m cause).degraded else if m == 10 then (s.modeEntered m cause).standbyBegin
    else if (m == 6 || m == 7) && (s.modeEntered m cause).safetyDemand then (s.modeEntered m cause).sfiDemand
    else s.modeEntered m cause := by
  unfold State.enterMode State.modeEntered State.askedReply
  cases s.pendMode with
  | none => rfl
  | some p =>
    obtain ⟨target, cause', rank, reply, since⟩ := p
    cases reply with
    | none => rfl
    | some slot => rfl

section Fields

variable {s : State} {old m cause : Nat}

theorem modeFields_mode (h : m < 16) : (s.modeFields old m cause).mode = m := by
  unfold State.mode State.modeFields State.inc State.incBy State.wrB
  rw [State.rd_wr_apart _ _ rfl rfl rfl, State.rd_wr_apart _ _ rfl rfl rfl, State.rd_wr_apart _ _ rfl rfl rfl,
    State.rd_wr_apart _ _ rfl rfl rfl]
  exact State.rd_wr_fits _ rfl h

theorem modeFields_cause (h : cause < 256) : (s.modeFields old m cause).rd SYSCTL_MODE_CAUSE = cause := by
  unfold State.modeFields State.inc State.incBy State.wrB
  rw [State.rd_wr_apart _ _ rfl rfl rfl, State.rd_wr_apart _ _ rfl rfl rfl, State.rd_wr_apart _ _ rfl rfl rfl]
  exact State.rd_wr_fits _ rfl h

theorem modeFields_prev (h : old < 16) : (s.modeFields old m cause).rd SYSCTL_MODE_PREV = old := by
  unfold State.modeFields State.inc State.incBy State.wrB
  rw [State.rd_wr_apart _ _ rfl rfl rfl, State.rd_wr_apart _ _ rfl rfl rfl, State.rd_wr_apart _ _ rfl rfl rfl,
    State.rd_wr_apart _ _ rfl rfl rfl, State.rd_wr_apart _ _ rfl rfl rfl]
  exact State.rd_wr_fits _ rfl h

theorem writes_modeFields : Writes (· = SYSCTL_MODE) s (s.modeFields old m cause) := by
  unfold State.modeFields
  extract_lets s1
  have h1 : Writes (· = SYSCTL_MODE) s s1 := (((Writes.refl : Writes (· = SYSCTL_MODE) s s).wr (f := SYSCTL_MODE_PREV) rfl _).wr (f := SYSCTL_MODE_MODE)
    rfl _).wr (f := SYSCTL_MODE_CAUSE) rfl _
  exact ((h1.inc (f := SYSCTL_MODE_TRANSITIONS) rfl).wrB (f := SYSCTL_MODE_PENDING) rfl _).wr (f := SYSCTL_MODE_TARGET)
    rfl _

end Fields

/-- What the reactions to a mode can change: the log, the states of the domains, the units. -/
def Reacting (a : Nat) : Prop := a = SYSCTL_EVLOG ∨ a = CRP_PD_STAT ∨ Beyond a

theorem Beyond.reacting {a : Nat} (h : Beyond a) : Reacting a := .inr (.inr h)

/-- The log and the units: what a reaction changes that leaves the domains alone. -/
def Reporting (a : Nat) : Prop := a = SYSCTL_EVLOG ∨ Beyond a

theorem Reporting.reacting {a : Nat} (h : Reporting a) : Reacting a := h.elim .inl Beyond.reacting

theorem writes_modeReact (s : State) (old m cause : Nat) : Writes Reporting s (s.modeReact old m cause) := by
  unfold State.modeReact
  extract_lets s1 s2
  have h1 : Writes Reporting s s1 := (Writes.of_keeps (State.putPendMode_keeps ..) rfl).keeps (State.putModeAt_keeps ..) rfl
  have h2 : Writes Reporting s s2 :=
    ((h1.trans ((writes_enginesMode s1).mono fun _ => .inr)).keeps (State.runsMode_keeps ..) rfl).trans
      ((writes_modeEvents _).mono fun _ => .inr)
  exact h2.logEvent (.inl rfl) ..

theorem writes_modeReply (s : State) (o : Option Nat) : Writes Reporting s (s.modeReply o) := by
  cases o with
  | none => exact .refl
  | some slot => exact Writes.refl.dcpResult ..

theorem writes_modeEntered (s : State) (m cause : Nat) :
    Writes Reporting ((s.unitsMode m).modeFields s.mode m cause) (s.modeEntered m cause) :=
  (writes_modeReact ..).trans (writes_modeReply ..)

theorem writes_standbyBegin (s : State) : Writes (· = CRP_PD_STAT) s s.standbyBegin := by
  unfold State.standbyBegin
  extract_lets c s1
  have h1 : Writes (· = CRP_PD_STAT) s s1 := .of_keeps (State.putCrp_keeps ..) rfl
  split
  · exact h1
  · next d _ => exact h1.wr (f := CRP_PD_STAT_STATE d) rfl 3

/-! ## DEGRADED (R58, R59, R490) -/

/-- The domains that the entry into DEGRADED takes down, in order. -/
def degradedDown : List Nat := [7, 8, 5, 4, 3, 9]

theorem degradedDown_dom : ∀ d ∈ degradedDown, d < 10 ∧ d ≠ 0 ∧ d ≠ 2 := by decide

/-- The domains but those off or failed go down. -/
def State.outerDown (s : State) : State :=
  degradedDown.foldl (fun s d => if s.domState d == 0 || s.domState d == 6 then s else s.domainDown d) s

/-- The ports that DEGRADED does not keep are disabled, and the commands of queues go. -/
def State.portsDown (s : State) : State :=
  let s := (List.range 10).foldl (fun s p => if s.portDesignated p then s else s.portDisable p) s
  s.putDcp { s.dcp with runs := s.dcp.runs.filter (fun r => r.slot == 24), pass := [] }

theorem writes_outerDown (s : State) : Writes (fun a => a = CRP_PD_STAT ∨ Beyond a) s s.outerDown :=
  .foldl fun t d hd => .ite .refl (writes_domainDown t (degradedDown_dom d hd).2.1 (degradedDown_dom d hd).2.2)

theorem writes_portsDown (s : State) : Writes Beyond s s.portsDown := by
  unfold State.portsDown
  extract_lets s1
  have h1 : Writes Beyond s s1 := .foldl fun t p _ => .ite .refl (writes_portDisable t p)
  exact h1.keeps (State.putDcp_keeps ..) rfl

theorem writes_degraded (s : State) : Writes (fun a => a = CRP_PD_STAT ∨ Beyond a) s s.degraded :=
  (((writes_postAll s).mono fun _ => .inr).trans (writes_outerDown _)).trans ((writes_portsDown _).mono fun _ => .inr)

/-- A failed domain stays so. -/
theorem degraded_failed (s : State) {d : Nat} (hd : d < 10) (h : s.domState d = 6) : s.degraded.domState d = 6 := by
  have hpost : s.postAll.domState d = 6 := ((writes_postAll s).domState_eq not_beyond_crp d).trans h
  have hdown : s.postAll.outerDown.domState d = 6 :=
    List.foldlRecOn (motive := fun t => State.domState t d = 6) degradedDown _ hpost fun t ht k hk => by
      obtain ⟨hk10, hk0, _⟩ := degradedDown_dom k hk
      split
      · exact ht
      · next hc =>
        have hne : d ≠ k := fun e => hc (by simp [← e, ht])
        exact (domainDown_other t hk10 hk0 hd hne).trans ht
  exact ((writes_portsDown _).domState_eq not_beyond_crp d).trans hdown

/-! ## What SYSCTL_MODE shows -/

theorem writes_enterMode (s : State) {m : Nat} (cause : Nat) (hm : m ≠ 6 ∧ m ≠ 7) :
    Writes Reacting ((s.unitsMode m).modeFields s.mode m cause) (s.enterMode m cause) := by
  have h : Writes Reacting ((s.unitsMode m).modeFields s.mode m cause) (s.modeEntered m cause) :=
    (writes_modeEntered s m cause).mono fun _ => Reporting.reacting
  rw [enterMode_eq]
  refine .ite (h.trans ((writes_degraded _).mono fun _ => .inr)) (.ite (h.trans ((writes_standbyBegin _).mono fun _ => ?_)) ?_)
  · exact fun e => .inr (.inl e)
  · rw [if_neg (by simp [hm])]
    exact h

theorem not_reacting_mode : ¬Reacting SYSCTL_MODE := by
  simp only [Reacting, Beyond]
  decide

theorem mode_lt (s : State) : s.mode < 16 := State.rd_lt s SYSCTL_MODE_MODE

theorem enterMode_shows (s : State) {m cause : Nat} (hm : m ≠ 6 ∧ m ≠ 7) (h16 : m < 16) (hc : cause < 256) :
    (s.enterMode m cause).mode = m ∧ (s.enterMode m cause).rd SYSCTL_MODE_PREV = s.mode ∧
      (s.enterMode m cause).rd SYSCTL_MODE_CAUSE = cause := by
  have h := writes_enterMode s cause hm
  exact ⟨(h.rd_eq not_reacting_mode).trans (modeFields_mode h16), (h.rd_eq not_reacting_mode).trans (modeFields_prev (mode_lt s)),
    (h.rd_eq not_reacting_mode).trans (modeFields_cause hc)⟩

/-- A transition that waits for no boundary leads to its mode. -/
theorem modeGo_shows {s : State} {m cause : Nat} (rank : Nat) (reply : Option Nat) {always : Bool} (hp : s.pendMode = none)
    (hw : (waitsBoundary s.mode m && !always) = false) (hm : m ≠ 6 ∧ m ≠ 7) (h16 : m < 16) (hc : cause < 256) :
    (s.modeGo m cause rank reply always).mode = m ∧ (s.modeGo m cause rank reply always).rd SYSCTL_MODE_PREV = s.mode ∧
      (s.modeGo m cause rank reply always).rd SYSCTL_MODE_CAUSE = cause := by
  obtain ⟨hmode, hprev, hcause⟩ := enterMode_shows (s.modeAsked m cause rank reply) hm h16 hc
  rw [modeGo_enters hp hw]
  exact ⟨hmode, hprev.trans modeAsked_mode, hcause⟩

end Sys2Proof.Machine
end

section
/-! PROOF of ModesClocksAndPower, first part (R45, R52, R53, R475, R476, R529, R562): the end of start-up, the clock
monitor and the relocking of the PLL. -/

namespace Sys2Proof.Machine

/-! ## The entry into DEGRADED from CONFIG (R45, R490) -/

section FromConfig

variable {s : State}

theorem cbcMode_degraded (s : State) : s.cbcMode 8 = s := by
  unfold State.cbcMode
  split
  · rfl
  · exact List.foldl_fixed' (fun _ => rfl) _

theorem canMode_degraded (h : s.mode = 3) : s.canMode 8 = s := by
  unfold State.canMode
  split
  · rfl
  · exact List.foldl_fixed' (fun n => by simp [State.canMode1, h]) _

theorem writes_piaMode_degraded (s : State) : Writes Beyond s (s.piaMode 8) := by
  refine .ite .refl (.foldl fun t n _ => ?_)
  rw [if_neg (by decide)]
  exact .ite (writes_pawnStart t n) .refl

theorem writes_aceMode_degraded (s : State) : Writes Beyond s (s.aceMode 8) := by
  have h : Writes Beyond s ((List.range 64).foldl (fun s k => s.axisClear k) s) := .foldl fun t k _ => writes_axisClear t k
  exact .ite .refl h

theorem writes_unitsMode_degraded (h : s.mode = 3) : Writes Beyond s (s.unitsMode 8) := by
  unfold State.unitsMode
  rw [cbcMode_degraded, canMode_degraded h]
  exact (writes_piaMode_degraded s).trans (writes_aceMode_degraded _)

/-- SYSCTL_MODE and what a reaction can change. -/
def Changing (a : Nat) : Prop := a = SYSCTL_MODE ∨ Reacting a

theorem changing_crp {a : Nat} (h : uCRP ≤ a) (hm : a < uMEM) (hp : a ≠ CRP_PD_STAT) : ¬Changing a := by
  have hlog : SYSCTL_EVLOG < uCRP ∧ SYSCTL_MODE < uCRP := by decide
  rintro (rfl | rfl | rfl | hb)
  · omega
  · omega
  · exact hp rfl
  · exact Nat.not_le.2 hm hb

/-- What comes before the reactions. -/
def State.degradedFields (s : State) (cause : Nat) : State := (s.unitsMode 8).modeFields s.mode 8 cause

theorem writes_degradedFields {cause : Nat} (h : s.mode = 3) :
    Writes (fun a => a = SYSCTL_MODE ∨ Beyond a) s (s.degradedFields cause) :=
  ((writes_unitsMode_degraded h).mono fun _ => .inr).trans (writes_modeFields.mono fun _ => .inl)

theorem not_crp_pd {a : Nat} (h : a = SYSCTL_MODE ∨ Beyond a) : a ≠ CRP_PD_STAT := by
  rintro rfl
  exact h.elim (by decide) not_beyond_crp

/-- A state with a request accepted that leaves CONFIG for DEGRADED. -/
def State.leavesConfig (s : State) (cause : Nat) : State := s.modeAsked 8 cause 3 none

theorem leavesConfig_mode {cause : Nat} (h : s.mode = 3) : (s.leavesConfig cause).mode = 3 := modeAsked_mode.trans h

theorem goDegraded_eq {cause : Nat} (h : s.mode = 3) (hp : s.pendMode = none) :
    s.goDegraded cause = (s.leavesConfig cause).enterMode 8 cause := by
  unfold State.goDegraded
  rw [h]
  exact modeGo_enters hp (by rw [h]; rfl)

theorem writes_leavesConfig (cause : Nat) : Writes (· = SYSCTL_MODE) s (s.leavesConfig cause) :=
  ⟨fun a ha => regsBut_modeAsked a fun hm => ha (List.mem_singleton.1 hm)⟩

theorem goDegraded_shows {cause : Nat} (h : s.mode = 3) (hp : s.pendMode = none) (hc : cause < 256) :
    (s.goDegraded cause).mode = 8 ∧ (s.goDegraded cause).rd SYSCTL_MODE_CAUSE = cause := by
  obtain ⟨hmode, _, hcause⟩ := enterMode_shows (s.leavesConfig cause) (m := 8) (by decide) (by decide) hc
  rw [goDegraded_eq h hp]
  exact ⟨hmode, hcause⟩

theorem writes_goDegraded {cause : Nat} (h : s.mode = 3) (hp : s.pendMode = none) :
    Writes Changing s (s.goDegraded cause) := by
  rw [goDegraded_eq h hp]
  refine (((writes_leavesConfig cause).mono fun _ => .inl).trans ((writes_degradedFields (leavesConfig_mode h)).mono fun a ha =>
    ha.imp id Beyond.reacting)).trans ((writes_enterMode _ cause (by decide)).mono fun _ => .inr)

/-- A failed domain stays so. -/
theorem goDegraded_failed {cause d : Nat} (h : s.mode = 3) (hp : s.pendMode = none) (hd : d < 10) (hf : s.domState d = 6) :
    (s.goDegraded cause).domState d = 6 := by
  have hask : (s.leavesConfig cause).domState d = 6 :=
    ((writes_leavesConfig cause).domState_eq (by decide) d).trans hf
  have hfld : ((s.leavesConfig cause).degradedFields cause).domState d = 6 :=
    ((writes_degradedFields (leavesConfig_mode h)).domState_eq (fun hw => not_crp_pd hw rfl) d).trans hask
  have hent : ((s.leavesConfig cause).modeEntered 8 cause).domState d = 6 :=
    ((writes_modeEntered _ 8 cause).domState_eq (fun hw => hw.elim (by decide) not_beyond_crp) d).trans hfld
  rw [goDegraded_eq h hp, enterMode_eq]
  exact degraded_failed _ hd hent

end FromConfig

/-! ## What the entry leaves of the other parts -/

theorem unitsMode_keeps (s : State) (m : Nat) : Keeps 251725848 s (s.unitsMode m) :=
  (State.aceMode_keeps ..).comp rfl ((State.piaMode_keeps ..).comp rfl ((State.canMode_keeps ..).comp rfl
    ((State.cbcMode_keeps ..).mono rfl)))

theorem modeFields_keeps (s : State) (old m cause : Nat) : Keeps 8 s (s.modeFields old m cause) :=
  (State.wr_keeps ..).comp rfl ((State.wrB_keeps ..).comp rfl ((State.inc_keeps ..).comp rfl ((State.wr_keeps ..).comp rfl
    ((State.wr_keeps ..).comp rfl (State.wr_keeps ..)))))

theorem modeReact_keeps (s : State) (old m cause : Nat) : Keeps 1616984472 s (s.modeReact old m cause) := by
  have h0 : Keeps 384 s ((s.putPendMode none).putModeAt s.ntu.lt) :=
    (State.putModeAt_keeps ..).comp rfl ((State.putPendMode_keeps ..).mono rfl)
  exact (State.logEvent_keeps ..).comp rfl ((State.modeEvents_keeps ..).comp rfl ((State.runsMode_keeps ..).comp rfl
    ((State.enginesMode_keeps ..).comp rfl (h0.mono rfl))))

/-- The time unit, CRP and the SFI among others are left alone. -/
theorem modeEntered_keeps (s : State) (m cause : Nat) : Keeps 1868642712 s (s.modeEntered m cause) := by
  have hreply : ∀ (t : State) o, Keeps 1073741824 t (t.modeReply o) := fun t o => by
    cases o with
    | none => exact .refl
    | some slot => exact State.dcpResult_keeps ..
  exact (hreply ..).comp rfl ((modeReact_keeps ..).comp rfl ((modeFields_keeps ..).comp rfl ((unitsMode_keeps ..).mono rfl)))

theorem goDegraded_crp {s : State} {cause : Nat} (h : s.mode = 3) (hp : s.pendMode = none) :
    (s.goDegraded cause).crp = s.crp := by
  rw [goDegraded_eq h hp, enterMode_eq]
  have hk := (State.degraded_keeps ((s.leavesConfig cause).modeEntered 8 cause)).same .crp rfl
  exact (hk.trans ((modeEntered_keeps ..).same .crp rfl)).trans (modeAsked_keeps.same .crp rfl)

/-! ## The end of start-up (R52, R53) -/

section StartUp

variable {s : State}

theorem execStartupComplete_go (hm : s.mode = 4) (hd : s.startupDone = true) :
    exec .startupComplete s = .next (s.modeGo 5 0x08 5 none false) :=
  congrArg _ (if_pos (by simp [hm, hd]))

theorem execStartupComplete_idle (h : s.mode ≠ 4 ∨ s.startupDone = false) : exec .startupComplete s = .next s :=
  congrArg _ (if_neg (by rcases h with h | h <;> simp [h]))

/-- The instant at which STARTUP times out (R52). -/
def State.startupEnds (s : State) : Nat := s.modeAt + s.rd SYSCTL_MODE_CFG_STARTUP_TMO * 10000000 * nsU

theorem execStartupTimeout_go (hm : s.mode = 4) (hd : s.startupDone = false) :
    exec .startupTimeout s = .next ((s.advanceTo s.startupEnds).modeGo 3 0x09 5 none false) :=
  if_neg (by simp [hm, hd])

theorem execStartupTimeout_idle (h : s.mode ≠ 4 ∨ s.startupDone = true) : exec .startupTimeout s = .next s :=
  if_pos (by rcases h with h | h <;> simp [h])

theorem edges_off (h : s.domOn 6 = false) (n : Nat) : s.edges n = s := by
  have hone : s.edge1 = s := if_neg (Bool.eq_false_iff.1 h)
  induction n with
  | zero => rfl
  | succ n ih =>
    unfold State.edges
    rw [hone, ih, if_neg (Bool.eq_false_iff.1 h), ite_self]

/-- Time moves no register but those of castling. -/
theorem regsBut_advanceTo (s : State) (t : Nat) : RegsBut [NTU_CAST_STAT, NTU_CYC_CTL] s (s.advanceTo t) := by
  cases h : s.domOn 6 with
  | true => exact (edged_advanceTo h t).regs
  | false =>
    unfold State.advanceTo
    rw [edges_off h]
    exact RegsBut.refl

theorem advanceTo_mode (s : State) (t : Nat) : (s.advanceTo t).mode = s.mode := (regsBut_advanceTo s t).rd_eq (by decide)

/-- A transition out of STARTUP leaves LT where it was. -/
theorem modeGo_ntu {s : State} {m cause rank : Nat} (hp : s.pendMode = none) (hw : waitsBoundary s.mode m = false)
    (h8 : m ≠ 8) (h10 : m ≠ 10) (h67 : m ≠ 6 ∧ m ≠ 7) : (s.modeGo m cause rank none false).ntu = s.ntu := by
  rw [modeGo_enters hp (by rw [hw]; rfl), enterMode_eq, if_neg (by simpa using h8), if_neg (by simpa using h10),
    if_neg (by simp [h67])]
  exact ((modeEntered_keeps ..).same .ntu rfl).trans (modeAsked_keeps.same .ntu rfl)

theorem startUpEnds : Rules.startUpEnds := by
  intro s
  refine ⟨fun hm hd hp => ?_, fun h => ⟨s, execStartupComplete_idle h, rfl⟩, fun hm hd hp => ?_,
    fun h => ⟨s, execStartupTimeout_idle h, rfl⟩⟩
  · obtain ⟨hmode, hprev, hcause⟩ := modeGo_shows (m := 5) (cause := 0x08) 5 none (always := false) hp (by rw [hm]; rfl)
      (by decide) (by decide) (by decide)
    exact ⟨_, execStartupComplete_go hm hd, hmode, hprev.trans hm, hcause⟩
  · have hm' : (s.advanceTo s.startupEnds).mode = 4 := (advanceTo_mode ..).trans hm
    have hp' : (s.advanceTo s.startupEnds).pendMode = none :=
      ((State.advanceTo_keeps ..).same .pendMode rfl).trans hp
    obtain ⟨hmode, hprev, hcause⟩ := modeGo_shows (m := 3) (cause := 0x09) 5 none (always := false) hp' (by rw [hm']; rfl)
      (by decide) (by decide) (by decide)
    refine ⟨_, execStartupTimeout_go hm hd, hmode, hprev.trans hm', hcause, fun h6 => ?_⟩
    rw [modeGo_ntu hp' (by rw [hm']; rfl) (by decide) (by decide) (by decide)]
    exact State.le_advanceTo_lt h6 _

end StartUp

end Sys2Proof.Machine
end

section
/-! PROOF of ModesClocksAndPower, second part (R475, R476, R529, R562): clock faults and the relocking of the PLL. -/

namespace Sys2Proof.Machine

section Clocks

variable {s : State}

/-! ## A clock fault (R475) -/

/-- What a clock fault can change: the log, a request, the interrupt word of CRP, the units. -/
def Faulting (a : Nat) : Prop := a = SYSCTL_EVLOG ∨ a = SYSCTL_MODE ∨ a = (cISTAT uCRP).addr ∨ Beyond a

theorem writes_sfiDemand (s : State) : Writes Faulting s s.sfiDemand :=
  .ite (Writes.refl.acceptMode (.inr (.inl rfl)) ..) .refl

theorem writes_sfiFault (s : State) (cause : Nat) : Writes Faulting s (s.sfiFault cause) := by
  have hstat : Faulting SFI_STAT := .inr (.inr (.inr (by simp only [Beyond]; decide)))
  unfold State.sfiFault
  extract_lets x s1 s2
  have h1 : Writes Faulting s s1 := .of_keeps (State.setSfi_keeps ..) rfl
  have h2 : Writes Faulting s s2 := ((h1.wr (f := SFI_STAT_STATE) hstat _).wr (f := SFI_STAT_FAULT_CAUSE) hstat _).wrB
    (f := SFI_STAT_GSTOP) hstat _
  exact .ite .refl ((h2.logEvent (.inl rfl) ..).trans (writes_sfiDemand _))

theorem writes_clockFault (s : State) (mask : Nat) : Writes Faulting s (s.clockFault mask) := by
  unfold State.clockFault
  extract_lets s1
  have h1 : Writes Faulting s s1 := (Writes.refl.setIstat (.inr (.inr (.inl rfl)))
    (.inr (.inr (.inr (beyond_index (by decide))))) 1).logEvent (.inl rfl) ..
  exact (h1.keeps (State.setCrp_keeps ..) rfl).trans (writes_sfiFault ..)

theorem clockFault_relocks (s : State) (mask : Nat) : (s.clockFault mask).crp.relocking = true := by
  unfold State.clockFault
  extract_lets s1
  exact congrArg CrpSt.relocking ((State.sfiFault_keeps ..).same .crp rfl)

theorem not_faulting_crp {a : Nat} (h : uCRP + 0x1000 ≤ a) (hm : a < uMEM) : ¬Faulting a := by
  have hlow : SYSCTL_EVLOG < uCRP ∧ SYSCTL_MODE < uCRP ∧ (cISTAT uCRP).addr < uCRP + 0x1000 := by decide
  rintro (rfl | rfl | rfl | hb)
  · omega
  · omega
  · omega
  · exact Nat.not_le.2 hm hb

theorem clockMask_lt (l : List Nat) : clockMask l < 2 ^ 6 := by
  have hb : ∀ b, b2n b ≤ 1 := by decide
  have h := fun i => hb (clockBad (l.getD i 0) (clockExpect.getD i 0))
  have h0 := h 0
  have h1 := h 1
  have h2 := h 2
  have h3 := h 3
  have h4 := h 4
  have h5 := h 5
  simp only [clockMask, (by decide : List.range 6 = [0, 1, 2, 3, 4, 5]), List.foldl]
  omega

/-! ## The windows (R475) -/

/-- The clocks that fail over a window. -/
abbrev windowMask (c0 c1 c2 c3 c4 c5 : BitVec 32) : Nat :=
  clockMask [c0.toNat, c1.toNat, c2.toNat, c3.toNat, c4.toNat, c5.toNat]

/-- The state with a lock lost. -/
def State.lockLost (s : State) : State := (s.wrB CRP_PLL_STAT_LOCKED false).inc CRP_PLL_STAT_LOL_COUNT

/-- The state with the clocks of `mask` latched; `count` is the first one's. -/
def State.clocksLatched (s : State) (mask count : Nat) : State :=
  (s.orF CRP_CLKMON_FAULT mask).wr CRP_CLKMON_LAST_COUNT count

variable {c0 c1 c2 c3 c4 c5 : BitVec 32}

/-- A window is judged: PD_MGT is on, the mode has clocks to watch, and no relocking runs. -/
def State.clocksWatched (s : State) : Prop := s.domOn 2 = true ∧ s.mode ≠ 1 ∧ s.mode ≠ 10 ∧ s.crp.relocking = false

theorem clocksWatched_guard (h : s.clocksWatched) :
    ¬(!s.domOn 2 || s.mode == 1 || s.mode == 10 || s.crp.relocking) = true := by
  obtain ⟨hon, h1, h10, hr⟩ := h
  simp [hon, h1, h10, hr]

theorem exec_window_good (h : s.clocksWatched) (hm : windowMask c0 c1 c2 c3 c4 c5 = 0) :
    exec (.clockMonitorWindow c0 c1 c2 c3 c4 c5 true) s = .next s :=
  (if_neg (clocksWatched_guard h)).trans (if_pos (by simpa using hm))

theorem exec_window_unlocked (h : s.clocksWatched) (hm : windowMask c0 c1 c2 c3 c4 c5 = 0) :
    exec (.clockMonitorWindow c0 c1 c2 c3 c4 c5 false) s = .next (s.lockLost.clockFault 0) := by
  refine (if_neg (clocksWatched_guard h)).trans ((if_pos (by simpa using hm)).trans ?_)
  simp only [Bool.false_eq_true, if_false]
  rfl

theorem exec_window_bad (h : s.clocksWatched) (hm : windowMask c0 c1 c2 c3 c4 c5 ≠ 0) :
    ∃ count, exec (.clockMonitorWindow c0 c1 c2 c3 c4 c5 true) s =
      .next ((s.clocksLatched (windowMask c0 c1 c2 c3 c4 c5) count).clockFault (windowMask c0 c1 c2 c3 c4 c5)) :=
  ⟨_, (if_neg (clocksWatched_guard h)).trans (if_neg (by simpa using hm))⟩

theorem clocksLatched_fault {mask : Nat} (h : mask < 2 ^ 6) (count : Nat) :
    (s.clocksLatched mask count).rd CRP_CLKMON_FAULT = s.rd CRP_CLKMON_FAULT ||| mask :=
  (State.rd_wr_apart _ _ rfl rfl rfl).trans
    (State.rd_wr_fits s rfl (Nat.or_lt_two_pow (State.rd_lt s CRP_CLKMON_FAULT) h))

theorem lockLost_locked : s.lockLost.bit CRP_PLL_STAT_LOCKED = false :=
  (State.bit_wr_apart _ _ rfl rfl rfl).trans (State.bit_wrB_same s false rfl)

theorem lockLost_counts : CountsOne CRP_PLL_STAT_LOL_COUNT s s.lockLost := by
  have h := countsOne_inc (s.wrB CRP_PLL_STAT_LOCKED false) (f := CRP_PLL_STAT_LOL_COUNT) rfl
  unfold CountsOne at h
  rwa [State.wrB, State.rd_wr_apart _ _ rfl rfl rfl] at h

/-- A fault after `u` is left by the window. -/
theorem clockFault_parts {u : State} (hk : Keeps 8 s u) (mask : Nat) :
    Changes [.regs, .pendMode, .crp, .evlog, .evLost, .msix, .sfi, .dcp] s (u.clockFault mask) :=
  (Keeps.comp (State.clockFault_keeps u mask) (sub_self _) (hk.mono rfl)).changes rfl

theorem window_good (h : s.clocksWatched) (hm : windowMask c0 c1 c2 c3 c4 c5 = 0) :
    Gives (exec (.clockMonitorWindow c0 c1 c2 c3 c4 c5 true) s) fun t => t = s := ⟨s, exec_window_good h hm, rfl⟩

theorem window_bad (h : s.clocksWatched) (hm : windowMask c0 c1 c2 c3 c4 c5 ≠ 0) :
    Gives (exec (.clockMonitorWindow c0 c1 c2 c3 c4 c5 true) s) fun t =>
      t.rd CRP_CLKMON_FAULT = s.rd CRP_CLKMON_FAULT ||| windowMask c0 c1 c2 c3 c4 c5 ∧ t.crp.relocking = true ∧
        Changes [.regs, .pendMode, .crp, .evlog, .evLost, .msix, .sfi, .dcp] s t := by
  obtain ⟨count, he⟩ := exec_window_bad h hm
  have hk : Keeps 8 s (s.clocksLatched (windowMask c0 c1 c2 c3 c4 c5) count) :=
    (State.wr_keeps ..).comp rfl (State.orF_keeps ..)
  exact ⟨_, he, ((writes_clockFault ..).rd_eq (not_faulting_crp (by decide) (by decide))).trans
    (clocksLatched_fault (clockMask_lt _) count), clockFault_relocks .., clockFault_parts hk _⟩

theorem window_unlocked (h : s.clocksWatched) (hm : windowMask c0 c1 c2 c3 c4 c5 = 0) :
    Gives (exec (.clockMonitorWindow c0 c1 c2 c3 c4 c5 false) s) fun t =>
      t.bit CRP_PLL_STAT_LOCKED = false ∧ CountsOne CRP_PLL_STAT_LOL_COUNT s t ∧ t.crp.relocking = true ∧
        Changes [.regs, .pendMode, .crp, .evlog, .evLost, .msix, .sfi, .dcp] s t := by
  have hw := writes_clockFault s.lockLost 0
  have hpll : ¬Faulting CRP_PLL_STAT := not_faulting_crp (by decide) (by decide)
  have hk : Keeps 8 s s.lockLost := (State.inc_keeps ..).comp rfl (State.wrB_keeps ..)
  exact ⟨_, exec_window_unlocked h hm, (hw.bit_eq hpll).trans lockLost_locked,
    (hw.rd_eq hpll).trans lockLost_counts, clockFault_relocks .., clockFault_parts hk _⟩

/-! ## Relocking (R476) -/

/-- The settings that an attempt uses: wide and narrow in turn after a failure. -/
def State.wideNext (s : State) : Bool := s.crp.relockFailed && !s.bit CRP_PLL_STAT_WIDE

theorem exec_relock_fails (h : s.crp.relocking = true) : exec (.pllRelockAttempt false) s =
    .next ((s.wrB CRP_PLL_STAT_WIDE s.wideNext).setCrp fun c => { c with relockFailed := true }) :=
  if_neg (by simp [h])

/-- The state with the lock regained. -/
def State.relocked (s : State) : State :=
  ((s.wrB CRP_PLL_STAT_WIDE s.wideNext).wrB CRP_PLL_STAT_LOCKED true).setCrp fun c =>
    { c with relocking := false, relockFailed := false }

theorem exec_relock_succeeds (h : s.crp.relocking = true) :
    exec (.pllRelockAttempt true) s = .next (s.relocked.goDegraded 0x0C) :=
  if_neg (by simp [h])

theorem relocked_keeps : Keeps 1032 s s.relocked :=
  (State.setCrp_keeps ..).comp rfl (Keeps.mono ((State.wrB_keeps ..).comp rfl (State.wrB_keeps ..)) rfl)

theorem relocked_locked : s.relocked.bit CRP_PLL_STAT_LOCKED = true := by
  have hcrp : ∀ (u : State) f, Writes (fun _ => False) u (u.setCrp f) := fun u f => .of_keeps (State.setCrp_keeps ..) rfl
  exact ((hcrp _ _).bit_eq id).trans (State.bit_wrB_same _ true rfl)

theorem writes_relocked : Writes (· = CRP_PLL_STAT) s s.relocked :=
  (((Writes.refl : Writes (· = CRP_PLL_STAT) s s).wrB (f := CRP_PLL_STAT_WIDE) rfl _).wrB (f := CRP_PLL_STAT_LOCKED)
    rfl _).keeps (State.setCrp_keeps ..) rfl

theorem relock_fails (h : s.crp.relocking = true) : Gives (exec (.pllRelockAttempt false) s) fun t =>
    t.crp = { s.crp with relockFailed := true } ∧ t.bit CRP_PLL_STAT_WIDE = s.wideNext ∧ Changes [.regs, .crp] s t := by
  have hk : Keeps 1032 s ((s.wrB CRP_PLL_STAT_WIDE s.wideNext).setCrp fun c => { c with relockFailed := true }) :=
    (State.setCrp_keeps ..).comp rfl ((State.wrB_keeps ..).mono rfl)
  exact ⟨_, exec_relock_fails h, rfl, State.bit_wrB_same s _ rfl, hk.changes rfl⟩

theorem relock_succeeds (h : s.crp.relocking = true) (hm : s.mode = 3) (hp : s.pendMode = none) :
    Gives (exec (.pllRelockAttempt true) s) fun t =>
      t.bit CRP_PLL_STAT_LOCKED = true ∧ t.crp.relocking = false ∧ t.mode = 8 ∧ t.rd SYSCTL_MODE_CAUSE = 0x0C := by
  have hm' : s.relocked.mode = 3 := (writes_relocked.rd_eq (by decide)).trans hm
  have hp' : s.relocked.pendMode = none := (relocked_keeps.same .pendMode rfl).trans hp
  obtain ⟨hmode, hcause⟩ := goDegraded_shows hm' hp' (cause := 0x0C) (by decide)
  have hpll : ¬Changing CRP_PLL_STAT := changing_crp (by decide) (by decide) (by decide)
  exact ⟨_, exec_relock_succeeds h, ((writes_goDegraded hm' hp').bit_eq hpll).trans relocked_locked,
    congrArg CrpSt.relocking (goDegraded_crp hm' hp'), hmode, hcause⟩

theorem clocks : Rules.clocks := by
  intro s c0 c1 c2 c3 c4 c5
  refine ⟨fun hon h1 h10 hr => ?_, relock_fails, relock_succeeds, ?_⟩
  · have h : s.clocksWatched := ⟨hon, h1, h10, hr⟩
    exact ⟨window_good h, window_bad h, window_unlocked h⟩
  · exact ⟨_, rfl, rfl, (State.setCrp_keeps ..).changes rfl⟩

end Clocks

end Sys2Proof.Machine
end

section
/-! PROOF of ModesClocksAndPower, third part (R486, R487, R488, R490, R492, R494, R495, R496): the power domains and the
wake. -/

namespace Sys2Proof.Machine

theorem bitAt_eq_testBit (v i : Nat) : bitAt v i = v.testBit i := by
  rw [bitAt, Nat.testBit_eq_decide_div_mod_eq]
  rfl

theorem bitAt_or_self (v i : Nat) : bitAt (v ||| 2 ^ i) i = true := by
  simp [bitAt_eq_testBit]

theorem bitAt_or_of (v m : Nat) {i : Nat} (h : bitAt v i = true) : bitAt (v ||| m) i = true := by
  rw [bitAt_eq_testBit] at h ⊢
  simp [h]

/-- Bits added to a field that holds them. -/
theorem State.rd_orF_fits (s : State) {f : Fld} {m : Nat} (h : f.ok = true) (hm : m < 2 ^ f.width) :
    (s.orF f m).rd f = s.rd f ||| m :=
  State.rd_wr_fits s h (Nat.or_lt_two_pow (State.rd_lt s f) hm)

section Domains

variable {s : State}

/-! ## Power-up and power-down (R487, R488, R492) -/

theorem exec_powerUp {d : Fin 10} (h : s.domState d = 1) (hr : ∀ r ∈ domRequires d, s.domOn r = true) :
    exec (.domainPowerUpDone d) s = .next (s.domainOn d) :=
  congrArg _ (if_pos (by simpa [h] using hr))

theorem exec_powerUp_idle {d : Fin 10} (h : s.domState d ≠ 1) : exec (.domainPowerUpDone d) s = .next s :=
  congrArg _ (if_neg (by simp [h]))

/-- A domain that was starting is on, at reset. -/
theorem domainOn_started {d : Nat} (hd : d < 10) (h0 : d ≠ 0) (h : s.domState d = 1) : (s.domainOn d).domOn d = true ∧
    ∀ a, domOf a = d → (s.domainOn d).reg a = regReset a := by
  have heq : s.domainOn d = (s.domainLost d).setDom d 2 := if_neg (by simp [State.domOn, h])
  rw [heq]
  refine ⟨?_, fun a ha => (setDom_reset h0 2 ha).trans (domainLost_reset s ha)⟩
  simp [State.domOn, setDom_same (s.domainLost d) hd (by decide : 2 < 8)]

/-- A domain that went off with a request waiting starts again. -/
def State.domainRestarts (s : State) (d : Nat) : State :=
  (s.wr CRP_PD_STAT_PENDING (s.rd CRP_PD_STAT_PENDING - 2 ^ d)).setDom d 1

theorem exec_powerDown {d : Fin 10} (h : s.domState d = 3) (he : s.crp.entering = false) :
    exec (.domainPowerDownDone d) s = .next (if bitAt (s.rd CRP_PD_STAT_PENDING) d then
      (s.domainDown d).domainRestarts d else s.domainDown d) := by
  have hcrp : (s.domainDown d).crp.entering = false :=
    (congrArg CrpSt.entering ((State.domainDown_keeps ..).same .crp rfl)).trans he
  refine (if_neg (by simp [h])).trans ((if_neg (by rw [hcrp]; decide)).trans ?_)
  split <;> rfl

theorem domState_wr_pending (v : Nat) {e : Nat} (he : e < 10) :
    (s.wr CRP_PD_STAT_PENDING v).domState e = s.domState e :=
  State.rd_wr_apart s v rfl (ok_PD_STATE he)
    (Fld.apart_of_below (by simp only [CRP_PD_STAT_STATE, CRP_PD_STAT_PENDING]; omega))

theorem powerDown_state {d : Nat} (hd : d < 10) (h0 : d ≠ 0) (b : Bool) :
    (if b then (s.domainDown d).domainRestarts d else s.domainDown d).domState d = (if b then 1 else 0) := by
  cases b with
  | false => exact domainDown_same s hd h0
  | true => exact setDom_same _ hd (by decide)

theorem powerDown_reset {d a : Nat} (hd : d < 10) (h0 : d ≠ 0) (ha : domOf a = d) (b : Bool) :
    (if b then (s.domainDown d).domainRestarts d else s.domainDown d).reg a = regReset a := by
  have hdown := domainDown_reset s hd h0 ha
  cases b with
  | false => exact hdown
  | true =>
    refine (setDom_reset h0 1 ha).trans ((State.reg_setReg_ne _ _ ?_).trans hdown)
    exact fun (e : a = CRP_PD_STAT) => not_domOf_pd h0 (e ▸ ha)

theorem powerDown_others {d e : Nat} (hd : d < 10) (h0 : d ≠ 0) (he : e < 10) (hne : e ≠ d) (b : Bool) :
    (if b then (s.domainDown d).domainRestarts d else s.domainDown d).domState e = s.domState e := by
  have hdown := domainDown_other s hd h0 he hne
  cases b with
  | false => exact hdown
  | true => exact (setDom_other _ hd he hne).trans ((domState_wr_pending _ he).trans hdown)

/-! ## A domain fails (R490) -/

/-- What the note of a failure can change. -/
def Noting (a : Nat) : Prop := a = CRP_PD_FAIL ∨ a = (cISTAT uCRP).addr ∨ a = SYSCTL_EVLOG ∨ Beyond a

theorem writes_pdFailNote (s : State) (d cause : Nat) : Writes Noting s (s.pdFailNote d cause) := by
  unfold State.pdFailNote
  extract_lets s1 s2
  have h1 : Writes Noting s s1 := .ite ((Writes.refl.wr (f := CRP_PD_FAIL_CAUSE) (.inl rfl) _).wr (f := CRP_PD_FAIL_FIRST)
    (.inl rfl) _) .refl
  have h2 : Writes Noting s s2 := (h1.orF (f := CRP_PD_FAIL_FAILED) (.inl rfl) _).setIstat (.inr (.inl rfl))
    (.inr (.inr (.inr (beyond_index (by decide))))) 2
  exact h2.logEvent (.inr (.inr (.inl rfl))) ..

theorem pdFailNote_failed {d cause : Nat} (hd : d < 10) : bitAt ((s.pdFailNote d cause).rd CRP_PD_FAIL_FAILED) d = true := by
  have hout : ¬(fun a => a = (cISTAT uCRP).addr ∨ a = SYSCTL_EVLOG ∨ Beyond a) CRP_PD_FAIL := by
    simp only [Beyond]
    decide
  have hafter : ∀ t : State, Writes (fun a => a = (cISTAT uCRP).addr ∨ a = SYSCTL_EVLOG ∨ Beyond a) t
      ((t.setIstat uCRP 2).logEvent 0x0201 uCRP 4 (d + cause * 2 ^ 8)) := fun t =>
    (Writes.refl.setIstat (.inl rfl) (.inr (.inr (beyond_index (by decide)))) 2).logEvent (.inr (.inl rfl)) ..
  unfold State.pdFailNote
  extract_lets s1 s2
  rw [(hafter _).rd_eq hout, State.rd_orF_fits s1 rfl (Nat.pow_lt_pow_right (by decide) hd)]
  exact bitAt_or_self ..

/-- The domains that depend on `d` go down, but for those off or failed. -/
def State.dependantsDown (s : State) (d : Nat) : State :=
  (domDependants d).foldl (fun s k => if s.domState k == 0 || s.domState k == 6 then s else s.domainDown k) s

theorem domainOpen_eq (s : State) (d cause : Nat) :
    s.domainOpen d cause = (((s.pdFailNote d cause).dependantsDown d).domainDown d).setDom d 6 := rfl

theorem domDependants_dom {d : Nat} (h0 : d ≠ 0) : ∀ k ∈ domDependants d, k ≠ 0 ∧ k ≠ 2 := by
  unfold domDependants
  split
  · exact absurd rfl h0
  · decide
  · decide
  · decide
  · simp

section Opened

variable {d : Nat} (hd : d < 10) (h0 : d ≠ 0) (h2 : d ≠ 2)
include h0 h2

/-- What opening a domain above PD_MGT leaves of SYSCTL and CRP. -/
theorem writes_opened (cause : Nat) : Writes (fun a => a = CRP_PD_STAT ∨ Beyond a) (s.pdFailNote d cause)
    (s.domainOpen d cause) := by
  have hdeps : Writes (fun a => a = CRP_PD_STAT ∨ Beyond a) (s.pdFailNote d cause)
      ((s.pdFailNote d cause).dependantsDown d) := .foldl fun t k hk =>
    .ite .refl (writes_domainDown t (domDependants_dom h0 k hk).1 (domDependants_dom h0 k hk).2)
  rw [domainOpen_eq]
  exact (hdeps.trans (writes_domainDown _ h0 h2)).wr (f := CRP_PD_STAT_STATE d) (.inl rfl) 6

theorem domainOpen_mode (cause : Nat) : (s.domainOpen d cause).mode = s.mode := by
  have hn : ¬Noting SYSCTL_MODE := by
    simp only [Noting, Beyond]
    decide
  have ho : ¬(fun a => a = CRP_PD_STAT ∨ Beyond a) SYSCTL_MODE := by
    simp only [Beyond]
    decide
  exact ((writes_opened h0 h2 cause).rd_eq ho).trans ((writes_pdFailNote s d cause).rd_eq hn)

include hd in
theorem domainOpen_failed (cause : Nat) : (s.domainOpen d cause).domState d = 6 ∧
    bitAt ((s.domainOpen d cause).rd CRP_PD_FAIL_FAILED) d = true := by
  have ho : ¬(fun a => a = CRP_PD_STAT ∨ Beyond a) CRP_PD_FAIL := by
    simp only [Beyond]
    decide
  refine ⟨setDom_same _ hd (by decide), ?_⟩
  rw [(writes_opened h0 h2 cause).rd_eq ho]
  exact pdFailNote_failed hd

end Opened

theorem domainLost_pendMode {d : Nat} (h : s.pendMode = none) : (s.domainLost d).pendMode = none := by
  have hreset : (s.resetDomRegs d).pendMode = none := ((State.resetDomRegs_keeps ..).same .pendMode rfl).trans h
  unfold State.domainLost
  generalize s.resetDomRegs d = t at hreset
  split
  case h_2 => rfl
  all_goals exact hreset

theorem domainOff_pendMode {d : Nat} (h : s.pendMode = none) : (s.domainOff d).pendMode = none := by
  unfold State.domainOff
  split
  · exact h
  · exact ((State.setDom_keeps ..).same .pendMode rfl).trans (domainLost_pendMode h)

/-- A domain that goes off asks for no mode. -/
theorem domainDown_pendMode {d : Nat} (h : s.pendMode = none) : (s.domainDown d).pendMode = none := by
  have hlost : ((s.domainOff d).portsLost s).pendMode = none :=
    ((State.portsLost_keeps ..).same .pendMode rfl).trans (domainOff_pendMode h)
  unfold State.domainDown
  generalize (s.domainOff d).portsLost s = t at hlost
  dsimp only
  split
  · exact hlost
  split
  · exact ((State.pqHold_keeps t).same .pendMode rfl).trans hlost
  · have hk : Keeps 536936456 t ((domAgents d).foldl (fun s a => s.agentReset a) t) :=
      .foldl (fun _ _ h => (State.agentReset_keeps ..).comp rfl h) .refl
    exact (hk.same .pendMode rfl).trans hlost

theorem domainOpen_pendMode {d cause : Nat} (h : s.pendMode = none) : (s.domainOpen d cause).pendMode = none := by
  have hnote : (s.pdFailNote d cause).pendMode = none := ((State.pdFailNote_keeps ..).same .pendMode rfl).trans h
  have hdeps : ((s.pdFailNote d cause).dependantsDown d).pendMode = none :=
    List.foldlRecOn (motive := fun u => State.pendMode u = none) _ _ hnote fun u hu k _ => by
      split
      · exact hu
      · exact domainDown_pendMode hu
  rw [domainOpen_eq]
  exact ((State.setDom_keeps ..).same .pendMode rfl).trans (domainDown_pendMode hdeps)

/-- The state whose domain fails: a write that the loss cuts short marks the image (R39). -/
def State.lossNoted (s : State) (d : Nat) (f : PowerLoss) : State :=
  if f.aborting && (d == 4 || d == 5 || d == 7 || d == 8) && s.domOn d then s.imageReason 16 else s

theorem lossNoted_keeps (d : Nat) (f : PowerLoss) : Keeps 524288 s (s.lossNoted d f) :=
  .ite (State.imageReason_keeps ..) .refl

theorem lossNoted_mode (d : Nat) (f : PowerLoss) : (s.lossNoted d f).mode = s.mode :=
  (Writes.of_keeps (W := fun _ => False) (lossNoted_keeps d f) rfl).rd_eq id

theorem exec_powerFail {d : Fin 10} {f : PowerLoss} (h0 : d.val ≠ 0) (h1 : d.val ≠ 1) (h2 : d.val ≠ 2) (h6 : d.val ≠ 6)
    (hon : s.domState d = 2) (hrun : s.boot.running = false) (hm : s.mode = 3) :
    exec (.domainPowerFail d f) s =
      .next (((s.lossNoted d f).domainOpen d (if f.reached then 1 else 2)).goDegraded 0x0C) := by
  have e0 : (d.val == 0) = false := by simpa using h0
  have e1 : (d.val == 1) = false := by simpa using h1
  have e26 : (d.val == 2 || d.val == 6) = false := by simp [h2, h6]
  have e9 : (d.val == 9 && s.domState 9 == 4) = false := by
    by_cases h : d.val = 9
    · rw [h] at hon
      simp [hon]
    · simp [h]
  have eon : (s.domState d.val != 1 && s.domState d.val != 2) = false := by simp [hon]
  have erun : (s.lossNoted d f).boot.running = false := (congrArg BootSt.running (by unfold State.lossNoted; split <;> rfl)).trans hrun
  have emode : (((s.lossNoted d f).domainOpen d (if f.reached then 1 else 2)).mode == 10) = false := by
    rw [domainOpen_mode h0 h2, lossNoted_mode, hm]
    rfl
  unfold State.lossNoted at erun emode ⊢
  show execDomainPowerFail d f s = _
  simp only [execDomainPowerFail, e0, e1, e26, e9, eon, erun, emode, Bool.false_eq_true, if_false]

theorem powerFail {d : Fin 10} {f : PowerLoss} (h0 : d ≠ 0) (h1 : d ≠ 1) (h2 : d ≠ 2) (h6 : d ≠ 6)
    (hon : s.domState d = 2) (hrun : s.boot.running = false) (hm : s.mode = 3) (hp : s.pendMode = none) :
    Gives (exec (.domainPowerFail d f) s) fun t => t.domState d = 6 ∧ t.mode = 8 ∧ t.rd SYSCTL_MODE_CAUSE = 0x0C ∧
      bitAt (t.rd CRP_PD_FAIL_FAILED) d = true := by
  have hv0 : d.val ≠ 0 := Fin.val_ne_of_ne h0
  have hv2 : d.val ≠ 2 := Fin.val_ne_of_ne h2
  have hk := lossNoted_keeps (s := s) d f
  refine ⟨_, exec_powerFail hv0 (Fin.val_ne_of_ne h1) hv2 (Fin.val_ne_of_ne h6) hon hrun hm, ?_⟩
  generalize (if f.reached then 1 else 2) = cause
  have hm' : ((s.lossNoted d f).domainOpen d cause).mode = 3 :=
    (domainOpen_mode hv0 hv2 cause).trans ((lossNoted_mode d f).trans hm)
  have hp' : ((s.lossNoted d f).domainOpen d cause).pendMode = none :=
    domainOpen_pendMode ((hk.same .pendMode rfl).trans hp)
  obtain ⟨hfail, hbit⟩ := domainOpen_failed (s := s.lossNoted d f) d.isLt hv0 hv2 cause
  obtain ⟨hmode, hcause⟩ := goDegraded_shows hm' hp' (cause := 0x0C) (by decide)
  refine ⟨goDegraded_failed hm' hp' d.isLt hfail, hmode, hcause, ?_⟩
  rw [(writes_goDegraded hm' hp').rd_eq (changing_crp (by decide) (by decide) (by decide))]
  exact hbit

/-! ## Wake (R494, R495, R496) -/

theorem exec_wakeEvent (mask : BitVec 5) (pins : WakePins) (ms : BitVec 32) : exec (.wakeEvent mask pins ms) s =
    .next (s.wakeEvent (s.wakeSources mask.toNat pins.energy.toNat pins.rising) ms.toNat) := rfl

/-- The enabled sources among those of `mask`. -/
def State.wakeEnabled (s : State) (mask : Nat) : Nat := mask &&& bitsOf s.crp.wakeCfg 4 0

theorem wakeEnabled_lt (mask : Nat) : s.wakeEnabled mask < 2 ^ 5 :=
  Nat.and_lt_two_pow _ (bitsOf_lt ..)

theorem wakeEvent_armed {mask ms : Nat} (h : s.wakeEnabled mask ≠ 0) (ha : s.crp.armed = true)
    (he : s.crp.entering = false) : s.wakeEvent mask ms = s.wake (s.wakeEnabled mask) false ms :=
  (if_neg (by simpa [State.wakeEnabled] using h)).trans ((if_neg (by rw [he]; decide)).trans (if_pos ha))

/-- The domains that are going off take a request. -/
def State.askStopping (s : State) : State :=
  ((List.range 10).filter fun d => s.domState d == 3).foldl (fun s d => s.orF CRP_PD_STAT_PENDING (2 ^ d)) s

theorem wakeEvent_entering {mask ms : Nat} (h : s.wakeEnabled mask ≠ 0) (he : s.crp.entering = true) :
    s.wakeEvent mask ms = s.askStopping.setCrp fun c => { c with latched := c.latched ||| s.wakeEnabled mask } :=
  (if_neg (by simpa [State.wakeEnabled] using h)).trans (if_pos he)

/-- What a start that becomes due adds to a wake. -/
def Waking (a : Nat) : Prop := a = (cISTAT uCRP).addr ∨ a = SYSCTL_RST_STAT ∨ Beyond a

/-- The registers of a wake. -/
def State.wakeShown (s : State) (mask : Nat) (during : Bool) (ms : Nat) : State :=
  ((s.wr CRP_WAKE_STAT_SOURCE mask).wrB CRP_WAKE_STAT_DURING_ENTRY during).wr CRP_WAKE_STAT_ENTRY_MS (min ms (2 ^ 32 - 1))

theorem writes_wake (mask : Nat) (during : Bool) (ms : Nat) :
    Writes Waking (s.wakeShown mask during ms) (s.wake mask during ms) := by
  unfold State.wake State.startDue
  extract_lets s1 s2 lost s3
  have h2 : Writes Waking s1 s2 := Writes.refl.setIstat (.inl rfl) (.inr (.inr (beyond_index (by decide)))) 4
  have h3 : Writes Waking s1 s3 := h2.keeps (State.setCrp_keeps ..) rfl
  have h4 := h3.wr (f := SYSCTL_RST_STAT_LAST_RESET) (.inr (.inl rfl)) 6
  exact h4.keeps (State.setBoot_keeps (f := fun b =>
    { b with nextKind := some (if lost then 0 else 1), nextCause := 0x0D }) (fun _ => rfl) _) rfl

theorem not_waking : ¬Waking CRP_WAKE_STAT := by
  simp only [Waking, Beyond]
  decide

theorem wake_source {mask : Nat} (h : mask < 2 ^ 5) (during : Bool) (ms : Nat) :
    (s.wake mask during ms).rd CRP_WAKE_STAT_SOURCE = mask := by
  rw [(writes_wake mask during ms).rd_eq not_waking, State.wakeShown, State.wrB, State.rd_wr_apart _ _ rfl rfl rfl,
    State.rd_wr_apart _ _ rfl rfl rfl]
  exact State.rd_wr_fits s rfl h

theorem wake_during (mask : Nat) (during : Bool) (ms : Nat) :
    (s.wake mask during ms).bit CRP_WAKE_STAT_DURING_ENTRY = during := by
  rw [(writes_wake mask during ms).bit_eq not_waking]
  exact (State.bit_wr_apart _ _ rfl rfl rfl).trans (State.bit_wrB_same _ _ rfl)

theorem startDue_shows (s : State) (kind cause : Nat) {last : Nat} (h : last < 16) :
    (s.startDue kind cause last).boot.nextKind = some kind ∧ (s.startDue kind cause last).boot.nextCause = cause ∧
      (s.startDue kind cause last).rd SYSCTL_RST_STAT_LAST_RESET = last :=
  ⟨rfl, rfl, State.rd_wr_fits s rfl h⟩

/-- A wake, up to the start that becomes due. -/
def State.wakeTaken (s : State) (mask : Nat) (during : Bool) (ms : Nat) : State :=
  ((s.wakeShown mask during ms).setIstat uCRP 4).setCrp fun c => { c with armed := false, entering := false, latched := 0 }

theorem wakeShown_keeps (mask : Nat) (during : Bool) (ms : Nat) : Keeps 8 s (s.wakeShown mask during ms) :=
  (State.wr_keeps ..).comp rfl ((State.wrB_keeps ..).comp rfl (State.wr_keeps ..))

theorem wake_eq (mask : Nat) (during : Bool) (ms : Nat) :
    s.wake mask during ms = (s.wakeTaken mask during ms).startDue (if s.crp.memLost then 0 else 1) 0x0D 6 := by
  have hcrp : ((s.wakeShown mask during ms).setIstat uCRP 4).crp = s.crp :=
    ((State.setIstat_keeps ..).same .crp rfl).trans ((wakeShown_keeps ..).same .crp rfl)
  rw [← hcrp]
  rfl

/-- What a wake of an armed device leaves (R494 to R496). -/
theorem wake_starts {mask ms : Nat} (h : mask < 2 ^ 5) : (s.wake mask false ms).rd CRP_WAKE_STAT_SOURCE = mask ∧
    (s.wake mask false ms).bit CRP_WAKE_STAT_DURING_ENTRY = false ∧ (s.wake mask false ms).crp.armed = false ∧
      (s.wake mask false ms).boot.nextKind = some (if s.crp.memLost then 0 else 1) ∧
        (s.wake mask false ms).boot.nextCause = 0x0D ∧ (s.wake mask false ms).rd SYSCTL_RST_STAT_LAST_RESET = 6 ∧
          Changes [.regs, .boot, .crp, .msix] s (s.wake mask false ms) := by
  obtain ⟨hkind, hcause, hlast⟩ := startDue_shows (s.wakeTaken mask false ms) (if s.crp.memLost then 0 else 1) 0x0D
    (last := 6) (by decide)
  refine ⟨wake_source h .., wake_during .., ?_, ?_, ?_, ?_, (State.wake_keeps ..).changes rfl⟩
  · rw [wake_eq]
    exact congrArg CrpSt.armed ((State.startDue_keeps ..).same .crp rfl)
  · rw [wake_eq, hkind]
  · rw [wake_eq, hcause]
  · rw [wake_eq, hlast]

/-! ## A wake during entry (R495) -/

theorem askStopping_keeps : Keeps 8 s s.askStopping := .foldl (fun _ _ h => (State.orF_keeps ..).comp rfl h) .refl

theorem askStopping_asked {d : Nat} (hd : d < 10) (h : s.domState d = 3) :
    bitAt (s.askStopping.rd CRP_PD_STAT_PENDING) d = true := by
  have hfit : ∀ (t : State) k, k < 10 → (t.orF CRP_PD_STAT_PENDING (2 ^ k)).rd CRP_PD_STAT_PENDING =
      t.rd CRP_PD_STAT_PENDING ||| 2 ^ k := fun t k hk =>
    State.rd_orF_fits t rfl (Nat.pow_lt_pow_right (by decide) hk)
  have hmem : d ∈ (List.range 10).filter fun d => s.domState d == 3 :=
    List.mem_filter.2 ⟨List.mem_range.2 hd, by simp [h]⟩
  refine foldl_establishes (f := fun s d => s.orF CRP_PD_STAT_PENDING (2 ^ d))
    (Q := fun t => bitAt (t.rd CRP_PD_STAT_PENDING) d = true) hmem (fun t => ?_) (fun t k hk ht => ?_) s
  · rw [hfit t d hd]
    exact bitAt_or_self ..
  · rw [hfit t k (List.mem_range.1 (List.mem_filter.1 hk).1)]
    exact bitAt_or_of _ _ ht

theorem wake_entering {mask ms : Nat} (h : s.wakeEnabled mask ≠ 0) (he : s.crp.entering = true) :
    (s.wakeEvent mask ms).crp = { s.crp with latched := s.crp.latched ||| s.wakeEnabled mask } ∧
      (∀ d, d < 10 → s.domState d = 3 → bitAt ((s.wakeEvent mask ms).rd CRP_PD_STAT_PENDING) d = true) ∧
        Changes [.regs, .crp] s (s.wakeEvent mask ms) := by
  have hk := askStopping_keeps (s := s)
  rw [wakeEvent_entering h he]
  refine ⟨?_, fun d hd hs => ?_, ?_⟩
  · have hcrp : s.askStopping.crp = s.crp := hk.same .crp rfl
    simp only [State.setCrp, State.putCrp_crp, hcrp]
  · exact askStopping_asked hd hs
  · exact ((State.setCrp_keeps ..).comp (M := 1032) rfl (hk.mono rfl)).changes rfl

/-! ## The clauses -/

/-- The sources of a WAKE_EVENT, in the words of R494. -/
theorem wakeSources_eq (mask : BitVec 5) (pins : WakePins) :
    s.wakeEnabled (s.wakeSources mask.toNat pins.energy.toNat pins.rising) =
      ((mask.toNat &&& 25) + (if bitAt mask.toNat 1 = true ∧ pins.rising ≠ s.crp.wakeFall then 2 else 0) +
        if pins.energy.toNat &&& bitsOf s.crp.wakeCfg 11 8 = 0 then 0 else 4) &&& bitsOf s.crp.wakeCfg 4 0 := by
  simp [State.wakeEnabled, State.wakeSources]

theorem exec_wakeTimer (h : s.crp.armed = true) : exec .wakeTimerExpire s = .next (s.wakeEvent 1 s.crp.wakeMs) :=
  congrArg _ (if_pos h)

theorem wakeEnabled_timer (h : bitsOf s.crp.wakeCfg 0 0 = 1) : s.wakeEnabled 1 = 1 := by
  simp only [bitsOf] at h
  simp only [State.wakeEnabled, bitsOf, Nat.one_and_eq_mod_two]
  omega

theorem domains : Rules.domains := by
  intro s d f mask pins ms phy edge m due reset
  have hm : s.wakeEnabled (s.wakeSources mask.toNat pins.energy.toNat pins.rising) = m := wakeSources_eq mask pins
  refine ⟨fun h0 h hr => ?_, fun h => ⟨s, exec_powerUp_idle h, rfl⟩, fun h0 h he => ?_, powerFail, fun hn ha he => ?_,
    fun hn he => ?_, fun hc ha he => ?_⟩
  · have hv0 : d.val ≠ 0 := Fin.val_ne_of_ne h0
    obtain ⟨hon, hreset⟩ := domainOn_started d.isLt hv0 h
    exact ⟨_, exec_powerUp h hr, hon, hreset, fun e hne => domainOn_domState s d.isLt hv0 e.isLt (Fin.val_ne_of_ne hne)⟩
  · have hv0 : d.val ≠ 0 := Fin.val_ne_of_ne h0
    exact ⟨_, exec_powerDown h he, powerDown_state d.isLt hv0 _, fun a ha => powerDown_reset d.isLt hv0 ha _,
      fun e hne => powerDown_others d.isLt hv0 e.isLt (Fin.val_ne_of_ne hne) _⟩
  · refine ⟨_, exec_wakeEvent mask pins ms, ?_⟩
    rw [wakeEvent_armed (hm ▸ hn) ha he, hm]
    exact wake_starts (hm ▸ wakeEnabled_lt _)
  · obtain ⟨hcrp, hpend, hparts⟩ := wake_entering (ms := ms.toNat) (hm ▸ hn) he
    exact ⟨_, exec_wakeEvent mask pins ms, hm ▸ hcrp, hpend d d.isLt, hparts⟩
  · have hen : s.wakeEnabled 1 = 1 := wakeEnabled_timer hc
    refine ⟨_, exec_wakeTimer ha, ?_⟩
    rw [wakeEvent_armed (by rw [hen]; decide) ha he, hen]
    obtain ⟨hsource, _, _, hkind, _, _, hparts⟩ := wake_starts (s := s) (mask := 1) (ms := s.crp.wakeMs) (by decide)
    exact ⟨hsource, hkind, hparts⟩

end Domains

/-- Settles O44: the end of start-up, the clock monitor and the power domains, each through the registers that what
follows cannot change. -/
theorem modesClocksAndPower : Obligations.ModesClocksAndPower := ⟨startUpEnds, clocks, domains⟩

end Sys2Proof.Machine
end

section
/-! PROOF of CommandsThatConfigure, second part (R45, R49, R414, R419, R464, R465): the commands that reach other units. -/

namespace Sys2Proof.Machine

@[simp] theorem State.dcpResult_sram (s : State) (slot status : Nat) (reply : List Byte) :
    (s.dcpResult slot status reply).sram = s.sram := rfl
@[simp] theorem State.dcpResult_boot (s : State) (slot status : Nat) (reply : List Byte) :
    (s.dcpResult slot status reply).boot = s.boot := rfl

section Configure

variable {s : State} {slot : Fin 25} {r : DcpRun}

/-! ## LIFECYCLE_ADVANCE (R464, R465) -/

theorem sramClear_zero (s : State) {lo hi a : Nat} (h1 : lo ≤ a) (h2 : a < hi) : memByte (s.sramClear lo hi).sram a = 0 :=
  mapGet_filter_gone (fun _ => 0) (fun a => !(decide (lo ≤ a) && decide (a < hi))) s.sram (by simp [h1, h2])

theorem vaultWipe_sram (s : State) (trig : Nat) : (s.vaultWipe trig).sram = (s.sramClear 0x2600000 0x2800000).sram := by
  have hseal : ((s.sramClear 0x2600000 0x2800000).wrB MEM_VAULT_STAT_SEALED false).sram =
      (s.sramClear 0x2600000 0x2800000).sram := (State.wrB_keeps ..).same .sram rfl
  unfold State.vaultWipe
  generalize (s.sramClear 0x2600000 0x2800000).wrB MEM_VAULT_STAT_SEALED false = t at hseal
  extract_lets t1 w u v
  split
  · exact hseal
  · have hk : Keeps 8 u v := (State.inc_keeps ..).comp rfl ((State.wr_keeps ..).comp rfl (State.wrB_keeps ..))
    exact ((State.logEvent_keeps ..).same .sram rfl).trans ((hk.same .sram rfl).trans hseal)

/-- The fuses' new state, the vault wiped. -/
def State.fusesSet (s : State) (m : Nat) : State :=
  (vaultWipeDone (s.vaultWipe 2)).setBoot fun b => { b with lifeCycle := m, resetDue := some 5 }

theorem lifeCycleGo_eq {m : Nat} (h : m ≠ 4) : s.lifeCycleGo m = (s.fusesSet m).secShow := by
  unfold State.lifeCycleGo
  exact congrArg State.secShow (if_neg (by simpa using h))

theorem fusesSet_sram (m : Nat) : (s.fusesSet m).sram = (s.sramClear 0x2600000 0x2800000).sram :=
  ((vaultWipeDone_keeps (s.vaultWipe 2)).same .sram rfl).trans (vaultWipe_sram s 2)

theorem lifeCycleOk_target {c k m : Nat} (h : lifeCycleOk c k m = true) : m ≠ 4 := by
  rintro rfl
  simp [lifeCycleOk] at h

theorem exec_lifecycleAdvance (h : lifeCycleOk s.boot.lifeCycle s.mode (leAt r.payload 0 4) = true) :
    DcpDoes s slot r (.lifecycleAdvance slot) 0x005 0 [] fun t =>
      t.boot.lifeCycle = leAt r.payload 0 4 ∧ t.boot.resetDue = some 5 ∧
        (∀ a, 0x2600000 ≤ a → a < 0x2800000 → memByte t.sram a = 0) ∧
          Changes [.regs, .sram, .boot, .mem, .evlog, .evLost, .msix, .dcp, .lifeCycle] s t := by
  have hk := State.secShow_keeps (s.fusesSet (leAt r.payload 0 4))
  have hgo := State.lifeCycleGo_keeps s (leAt r.payload 0 4)
  rw [lifeCycleGo_eq (lifeCycleOk_target h)] at hgo
  have hdcp : (s.fusesSet (leAt r.payload 0 4)).dcp = s.dcp :=
    ((vaultWipeDone_keeps (s.vaultWipe 2)).same .dcp rfl).trans ((State.vaultWipe_keeps s 2).same .dcp rfl)
  have hlife : (s.fusesSet (leAt r.payload 0 4)).secShow.boot.lifeCycle = (s.fusesSet (leAt r.payload 0 4)).boot.lifeCycle :=
    hk.same .lifeCycle rfl
  have hdue : (s.fusesSet (leAt r.payload 0 4)).secShow.boot.resetDue = (s.fusesSet (leAt r.payload 0 4)).boot.resetDue :=
    congrArg BootSt.resetDue (hk.same .boot rfl)
  refine dcpDoes (u := (s.fusesSet (leAt r.payload 0 4)).secShow) rfl ?_
    (congrArg DcpSt.runs ((hk.same .dcp rfl).trans hdcp)) ⟨(congrArg BootSt.lifeCycle (State.dcpResult_boot ..)).trans hlife,
      (congrArg BootSt.resetDue (State.dcpResult_boot ..)).trans hdue, fun a h1 h2 => ?_, ?_⟩
  · dsimp only
    rw [if_pos h, lifeCycleGo_eq (lifeCycleOk_target h)]
    rfl
  · rw [State.dcpResult_sram, (hk.same .sram rfl : _ = _), fusesSet_sram]
    exact sramClear_zero s h1 h2
  · exact Changes.dcpResult (hgo.changes rfl) (by decide)

theorem exec_lifecycleAdvance_refused (h : lifeCycleOk s.boot.lifeCycle s.mode (leAt r.payload 0 4) = false) :
    DcpFails s slot r (.lifecycleAdvance slot) 0x005 0x208 noDetail :=
  dcpFails rfl (if_neg (Bool.eq_false_iff.1 h))

/-! ## MODE_SET (R45, R49) -/

/-- The mode that a MODE_SET asks for. -/
abbrev payMode (l : List Byte) : Nat := leAt l 0 4

theorem modeSetWaits_free (h : s.pendMode = none) : s.modeSetWaits slot = false := by
  simp only [State.modeSetWaits, h]

theorem exec_modeSet_unknown (h : s.pendMode = none) (hm : s.modeAnswer (payMode r.payload) = .noTransition) :
    DcpFails s slot r (.modeSet slot) 0x101 0x204 noDetail :=
  dcpFails rfl (by simp only [modeSetWaits_free h, h, hm]; rfl)

theorem exec_modeSet_pending {q : PendMode} (h : s.pendMode = some q) (hq : q.reply ≠ some slot.val) :
    DcpFails s slot r (.modeSet slot) 0x101 0x205 noDetail := by
  have hw : s.modeSetWaits slot = false := by simp [State.modeSetWaits, h, hq]
  exact dcpFails rfl (by simp only [hw, h]; rfl)

/-- An accepted MODE_SET waits for its transition. -/
theorem exec_modeSet_go (h : s.pendMode = none) (hm : s.modeAnswer (payMode r.payload) = .go) (hr : DcpRuns s slot 0x101 r) :
    exec (.modeSet slot) s = .next (s.modeGo (payMode r.payload) 0 6 (some slot.val) false) := by
  have hf := dcpDo_wait (f := fun s r =>
    if s.modeSetWaits slot then (.wait, s)
    else if s.pendMode.isSome then (dcpFail 0x205, s)
    else match s.modeAnswer (payMode r.payload) with
      | .go => (.wait, s.modeGo (payMode r.payload) 0 6 (some slot.val) false)
      | .noTransition => (dcpFail 0x204, s)
      | .refused i => (dcpFailAt 0x305 0 i, s)
      | .busy => (dcpFail 0x205, s)) hr (by simp only [modeSetWaits_free h, h, hm]; rfl)
  exact congrArg _ hf

/-- MODE_SET asks for a mode of Table R45 only. -/
theorem modeAnswer_lt {m : Nat} (h : s.modeAnswer m = .go) : m < 16 := by
  by_contra hge
  have hne : m ≠ 3 ∧ m ≠ 4 ∧ m ≠ 5 ∧ m ≠ 6 ∧ m ≠ 7 ∧ m ≠ 8 ∧ m ≠ 9 ∧ m ≠ 10 ∧ m ≠ 11 := by omega
  obtain ⟨h3, h4, h5, h6, h7, h8, h9, h10, h11⟩ := hne
  simp [State.modeAnswer, h3, h4, h5, h6, h7, h8, h9, h10, h11] at h

theorem modeAnswer_immediate {m : Nat} (h : s.modeAnswer m = .go) (hw : waitsBoundary s.mode m = false) :
    m ≠ 6 ∧ m ≠ 7 := by
  constructor <;> rintro rfl <;> simp [waitsBoundary] at hw

theorem exec_modeSet_waits (h : s.pendMode = none) (hm : s.modeAnswer (payMode r.payload) = .go)
    (hw : waitsBoundary s.mode (payMode r.payload) = true) (hr : DcpRuns s slot 0x101 r) :
    Gives (exec (.modeSet slot) s) fun t => t.pendMode = some ⟨payMode r.payload, 0, 6, some slot.val, s.ltNs⟩ ∧
      t.bit SYSCTL_MODE_PENDING = true ∧ t.rd SYSCTL_MODE_TARGET = payMode r.payload ∧ t.mode = s.mode ∧
        RegsBut [SYSCTL_MODE] s t ∧ Changes [.regs, .pendMode] s t := by
  refine ⟨_, exec_modeSet_go h hm hr, ?_⟩
  rw [modeGo_waits h (by rw [hw]; rfl)]
  exact ⟨rfl, modeAsked_pending, modeAsked_target (modeAnswer_lt hm), modeAsked_mode, regsBut_modeAsked,
    modeAsked_keeps.changes rfl⟩

theorem exec_modeSet_enters (h : s.pendMode = none) (hm : s.modeAnswer (payMode r.payload) = .go)
    (hw : waitsBoundary s.mode (payMode r.payload) = false) (hr : DcpRuns s slot 0x101 r) :
    Gives (exec (.modeSet slot) s) fun t =>
      t.mode = payMode r.payload ∧ t.rd SYSCTL_MODE_PREV = s.mode ∧ t.rd SYSCTL_MODE_CAUSE = 0 :=
  ⟨_, exec_modeSet_go h hm hr, modeGo_shows 6 (some slot.val) h (by rw [hw]; rfl) (modeAnswer_immediate hm hw)
    (modeAnswer_lt hm) (by decide)⟩

end Configure

end Sys2Proof.Machine
end

section
/-! SUPPORT. The reset of a partition (R396, R419, R425): what its rings, queues, commits, semaphores and commands are
after it. -/

namespace Sys2Proof.Machine

theorem mapGet_default_or_mem {α : Type} (d : Nat → α) (m : List (Nat × α)) (k : Nat) :
    mapGet d m k = d k ∨ (k, mapGet d m k) ∈ m := by
  induction m with
  | nil => exact .inl rfl
  | cons e m ih =>
    by_cases h : e.1 = k
    · simp only [mapGet, h, if_true]
      exact .inr (h ▸ List.mem_cons_self)
    · simp only [mapGet, h, if_false]
      exact ih.imp id (List.mem_cons_of_mem _)

theorem writes_setReg (s : State) (a : Nat) (v : Word) : Writes (· = a) s (s.setReg a v) :=
  Writes.setReg (W := (· = a)) .refl rfl v

section Partition

variable {s : State} {p : Nat}

/-! ## Rings and commits (R396) -/

/-- The rings, events and commits of partition `p` after its reset, before its agent and its queues. -/
def State.ringsReset (s : State) (p : Nat) : State :=
  let s := (s.wrB (HIC_PARTp_RING_TX_EN p) false).wrB (HIC_PARTp_RING_RX_EN p) false
  let s := s.setReg (HIC_PARTp_IDX p) 0
  let s := s.wr (HIC_PARTp_IRQ_PEND p) 0
  let s := (s.wrB (HIC_PARTp_COMMIT_PENDING p) false).wrB (HIC_PARTp_COMMIT_HOST_LOST p) false
  s.partUpd p fun x => { x with txq := [], commitAsked := false, committed := false }

theorem partitionReset_eq (h : s.domOn 3 = true) : s.partitionReset p = ((s.ringsReset p).agentReset p).queuesReset p :=
  if_neg (by rw [h]; decide)

/-- The rings are off, their indices and commits cleared. -/
def RingsOff (p : Nat) (t : State) : Prop :=
  t.bit (HIC_PARTp_RING_TX_EN p) = false ∧ t.bit (HIC_PARTp_RING_RX_EN p) = false ∧ t.reg (HIC_PARTp_IDX p) = 0 ∧
    t.bit (HIC_PARTp_COMMIT_PENDING p) = false ∧ t.bit (HIC_PARTp_COMMIT_HOST_LOST p) = false

theorem ringsOff_ringsReset : RingsOff p (s.ringsReset p) := by
  have hupd : ∀ (t : State) f, Writes (fun _ => False) t (t.partUpd p f) := fun t f => .of_keeps (State.partUpd_keeps ..) rfl
  have hirq : HIC_PARTp_IRQ p ≠ HIC_PARTp_RING p ∧ HIC_PARTp_IRQ p ≠ HIC_PARTp_IDX p := by
    simp only [HIC_PARTp_IRQ, HIC_PARTp_RING, HIC_PARTp_IDX]
    omega
  have hcommit : HIC_PARTp_COMMIT p ≠ HIC_PARTp_RING p ∧ HIC_PARTp_COMMIT p ≠ HIC_PARTp_IDX p := by
    simp only [HIC_PARTp_COMMIT, HIC_PARTp_RING, HIC_PARTp_IDX]
    omega
  have hring : HIC_PARTp_IDX p ≠ HIC_PARTp_RING p := by
    simp only [HIC_PARTp_RING, HIC_PARTp_IDX]
    omega
  unfold State.ringsReset
  extract_lets s1 s2 s3 s4
  have h4 : Writes (· = HIC_PARTp_COMMIT p) s3 s4 := ((Writes.refl : Writes (· = HIC_PARTp_COMMIT p) s3 s3).wrB
    (f := HIC_PARTp_COMMIT_PENDING p) rfl _).wrB (f := HIC_PARTp_COMMIT_HOST_LOST p) rfl _
  have h3 : Writes (· = HIC_PARTp_IRQ p) s2 s3 := writes_setReg ..
  have h2 : Writes (· = HIC_PARTp_IDX p) s1 s2 := writes_setReg ..
  have hbit : ∀ f : Fld, f.addr = HIC_PARTp_RING p → s4.bit f = s1.bit f := fun f hf =>
    ((h4.bit_eq (hf ▸ hcommit.1.symm)).trans (h3.bit_eq (hf ▸ hirq.1.symm))).trans (h2.bit_eq (hf ▸ hring.symm))
  refine ⟨((hupd ..).bit_eq id).trans ((hbit _ rfl).trans ?_), ((hupd ..).bit_eq id).trans ((hbit _ rfl).trans ?_),
    ((hupd ..).reg_eq _ id).trans (((h4.reg_eq _ hcommit.2.symm).trans (h3.reg_eq _ hirq.2.symm)).trans ?_),
    ((hupd ..).bit_eq id).trans ?_, ((hupd ..).bit_eq id).trans ?_⟩
  · exact (State.bit_wr_apart _ _ rfl rfl (Fld.apart_of_above (by decide : 0 < 1))).trans (State.bit_wrB_same _ _ rfl)
  · exact State.bit_wrB_same _ _ rfl
  · exact State.reg_setReg_same ..
  · exact (State.bit_wr_apart _ _ rfl rfl (Fld.apart_of_below (by decide : 1 < 2))).trans (State.bit_wrB_same _ _ rfl)
  · exact State.bit_wrB_same _ _ rfl

/-! ## Semaphores (R425) -/

theorem pqDiscardOpen_sems (t : State) (k : Nat) : (t.pqDiscardOpen k).mqf.sems = t.mqf.sems := by
  unfold State.pqDiscardOpen
  extract_lets q
  split
  · rfl
  · have hk : Keeps 8 (t.setPq k { q with cur := none }) (((t.setPq k { q with cur := none }).inc
        (PQk_CNT_REWINDS k)).pqShow k) := (State.pqShow_keeps ..).comp rfl (State.inc_keeps ..)
    exact (congrArg MqfSt.sems (hk.same .mqf rfl : _ = _)).trans rfl

theorem discard_sems (a : Nat) (l : List Nat) (t : State) :
    (l.foldl (fun t k => if t.rd (PQk_CFG_WRITER k) = a then t.pqDiscardOpen k else t) t).mqf.sems = t.mqf.sems := by
  induction l generalizing t with
  | nil => rfl
  | cons k l ih =>
    rw [List.foldl_cons, ih]
    split
    · exact pqDiscardOpen_sems ..
    · rfl

theorem holder_released (m : List (Nat × Nat)) (a n : Nat) :
    mapGet (fun _ => 0) (m.filter fun e => e.2 != a + 1) n ≠ a + 1 := by
  intro h
  rcases mapGet_default_or_mem (fun _ => 0) (m.filter fun e => e.2 != a + 1) n with h0 | hmem
  · omega
  · rw [h] at hmem
    simp at hmem

/-- The epoch, mailboxes and doorbell of agent `a` after its reset, before its semaphores. -/
def State.agentCut (s : State) (a : Nat) : State :=
  let s := s.incWrap (MQF_EPOCHa_EPOCH a)
  let s := (List.range 128).foldl (fun t m =>
    if !t.bit (MQF_MBm_CFG_EN m) then t
    else
      let t := if t.rd (MQF_MBm_CFG_SENDER m) = a then t.mbSenderReset m else t
      if t.rd (MQF_MBm_CFG_RECEIVER m) = a then t.mbReceiverReset m else t) s
  s.wr (MQF_DBa_PEND_PEND a) 0

theorem agentReset_eq (s : State) (a : Nat) : s.agentReset a =
    (List.range 64).foldl (fun t k => if t.rd (PQk_CFG_WRITER k) = a then t.pqDiscardOpen k else t)
      ((s.agentCut a).putMqf { (s.agentCut a).mqf with
        sems := (s.agentCut a).mqf.sems.filter fun e => e.2 != a + 1 }) := rfl

/-- An agent that is reset holds no semaphore. -/
theorem agentReset_holder (s : State) (a n : Nat) : (s.agentReset a).semHolder n ≠ a + 1 := by
  rw [agentReset_eq, State.semHolder, discard_sems, State.putMqf_mqf]
  exact holder_released (s.agentCut a).mqf.sems a n

/-! ## Queues (R419) -/

/-- The registers of the queues of partition `p`. -/
def QueueRegs (p a : Nat) : Prop := ∃ q, a = HIC_PARTp_Qq_CTL p q ∨ a = HIC_PARTp_Qq_IDX p q

/-- Queue `q` is off. -/
def State.queueOff (s : State) (p q : Nat) : State :=
  ((s.wrB (HIC_PARTp_Qq_CTL_EN p q) false).wrB (HIC_PARTp_Qq_CTL_FAULT p q) false).setReg (HIC_PARTp_Qq_IDX p q) 0

/-- The commands of partition `p` after its reset: those not started are gone, the others end in silence. -/
def silenced (p : Nat) (l : List DcpRun) : List DcpRun :=
  (l.filter fun r => r.started || r.slot == 24 || r.part != p).map fun r =>
    if r.slot != 24 && r.part == p then { r with silent := true } else r

theorem queuesReset_eq (s : State) (p : Nat) : s.queuesReset p =
    (List.range 4).foldl (fun s q => s.queueOff p q) (s.putDcp { s.dcp with runs := silenced p s.dcp.runs }) := rfl

theorem writes_queueOff (s : State) (p q : Nat) : Writes (QueueRegs p) s (s.queueOff p q) :=
  ((Writes.refl.wrB (f := HIC_PARTp_Qq_CTL_EN p q) ⟨q, .inl rfl⟩ _).wrB (f := HIC_PARTp_Qq_CTL_FAULT p q)
    ⟨q, .inl rfl⟩ _).setReg ⟨q, .inr rfl⟩ _

theorem writes_queuesReset (s : State) (p : Nat) : Writes (QueueRegs p) s (s.queuesReset p) := by
  rw [queuesReset_eq]
  exact (Writes.of_keeps (State.putDcp_keeps ..) rfl).trans (.foldl fun t q _ => writes_queueOff t p q)

theorem Qq_CTL_ne_IDX (p q k : Nat) : HIC_PARTp_Qq_CTL p q ≠ HIC_PARTp_Qq_IDX p k := by
  simp only [HIC_PARTp_Qq_CTL, HIC_PARTp_Qq_IDX]
  omega

/-- Queue `q` is disabled and its indices are 0. -/
def QueueIsOff (p q : Nat) (t : State) : Prop :=
  t.bit (HIC_PARTp_Qq_CTL_EN p q) = false ∧ t.reg (HIC_PARTp_Qq_IDX p q) = 0

theorem queueOff_same (t : State) (p q : Nat) : QueueIsOff p q (t.queueOff p q) := by
  refine ⟨?_, State.reg_setReg_same ..⟩
  have hidx : ∀ u : State, Writes (· = HIC_PARTp_Qq_IDX p q) u (u.setReg (HIC_PARTp_Qq_IDX p q) 0) := fun u =>
    writes_setReg ..
  refine ((hidx _).bit_eq (Qq_CTL_ne_IDX p q q)).trans ?_
  exact (State.bit_wr_apart _ _ rfl rfl (Fld.apart_of_below (by decide : 0 < 1))).trans (State.bit_wrB_same _ _ rfl)

/-- Another queue is left alone. -/
theorem queueOff_other {t : State} {q k : Nat} (hne : k ≠ q) (h : QueueIsOff p q t) : QueueIsOff p q (t.queueOff p k) := by
  have hw : Writes (fun a => a = HIC_PARTp_Qq_CTL p k ∨ a = HIC_PARTp_Qq_IDX p k) t (t.queueOff p k) :=
    ((Writes.refl.wrB (f := HIC_PARTp_Qq_CTL_EN p k) (.inl rfl) _).wrB (f := HIC_PARTp_Qq_CTL_FAULT p k)
      (.inl rfl) _).setReg (.inr rfl) _
  obtain ⟨hen, hidx⟩ := h
  refine ⟨(hw.bit_eq ?_).trans hen, (hw.reg_eq _ ?_).trans hidx⟩
  · rintro (h | h)
    · simp only [HIC_PARTp_Qq_CTL, HIC_PARTp_Qq_CTL_EN] at h
      omega
    · exact Qq_CTL_ne_IDX p q k h
  · rintro (h | h)
    · exact Qq_CTL_ne_IDX p k q h.symm
    · simp only [HIC_PARTp_Qq_IDX] at h
      omega

theorem queueIsOff_queuesReset (s : State) (p : Nat) {q : Nat} (hq : q < 4) : QueueIsOff p q (s.queuesReset p) := by
  rw [queuesReset_eq]
  refine foldl_establishes (f := fun s q => s.queueOff p q) (Q := QueueIsOff p q) (List.mem_range.2 hq)
    (fun t => queueOff_same t p q) (fun t k _ ht => ?_) _
  by_cases h : k = q
  · exact h ▸ queueOff_same t p q
  · exact queueOff_other h ht

theorem queuesReset_runs (s : State) (p : Nat) : (s.queuesReset p).dcp.runs = silenced p s.dcp.runs := by
  have hk : Keeps 8 (s.putDcp { s.dcp with runs := silenced p s.dcp.runs }) (s.queuesReset p) := by
    rw [queuesReset_eq]
    exact .foldl (fun _ _ h => (State.setReg_keeps ..).comp rfl ((State.wrB_keeps ..).comp rfl
      ((State.wrB_keeps ..).comp rfl h))) .refl
  exact congrArg DcpSt.runs (hk.same .dcp rfl)

/-- A started command of another partition stays. -/
theorem find_silenced {l : List DcpRun} {slot : Nat} {r : DcpRun} (h : l.find? (fun r => r.slot == slot) = some r)
    (hs : r.started = true) (hp : r.part ≠ p) : (silenced p l).find? (fun r => r.slot == slot) = some r := by
  induction l with
  | nil => cases h
  | cons x l ih =>
    simp only [silenced, List.filter_cons] at ih ⊢
    rw [List.find?_cons] at h
    split at h
    · obtain rfl : x = r := Option.some.inj h
      next hx => simp [hs, hp, hx]
    · next hx =>
      have hrest := ih h
      split
      · simp only [List.map_cons]
        rw [List.find?_cons_of_neg]
        · exact hrest
        · split
          · simpa using hx
          · simpa using hx
      · exact hrest

/-! ## The whole reset -/

theorem not_queueing_hic {a : Nat} (h : a < uMQF) (hirq : ∀ q, a ≠ HIC_PARTp_IRQ q) : ¬Queueing a := by
  rintro (⟨q, _, rfl⟩ | ⟨h', _⟩)
  · exact hirq q rfl
  · omega

/-- What the agent and the queues leave of the rings and commits. -/
theorem writes_after_ringsReset (s : State) {p : Nat} (hp : p < 6) :
    Writes (fun a => Queueing a ∨ QueueRegs p a) s ((s.agentReset p).queuesReset p) :=
  ((writes_agentReset s (by omega)).mono fun _ => .inl).trans ((writes_queuesReset ..).mono fun _ => .inr)

theorem ringsOff_after {t : State} (hp : p < 6) (h : RingsOff p t) : RingsOff p ((t.agentReset p).queuesReset p) := by
  have hw := writes_after_ringsReset t hp
  have hout : ∀ c, c = 0x30 ∨ c = 0x38 ∨ c = 0x10 → ¬(Queueing (0x00301000 + c + 0x100 * p) ∨ QueueRegs p (0x00301000 + c + 0x100 * p)) := by
    intro c hc h
    rcases h with h | ⟨q, h⟩
    · refine not_queueing_hic ?_ (fun q => ?_) h
      · simp only [uMQF]
        omega
      · simp only [HIC_PARTp_IRQ]
        omega
    · simp only [HIC_PARTp_Qq_CTL, HIC_PARTp_Qq_IDX] at h
      omega
  obtain ⟨htx, hrx, hidx, hpend, hlost⟩ := h
  have hring := hout 0x30 (.inl rfl)
  have hcommit := hout 0x10 (.inr (.inr rfl))
  exact ⟨(hw.bit_eq hring).trans htx, (hw.bit_eq hring).trans hrx, (hw.reg_eq _ (hout 0x38 (.inr (.inl rfl)))).trans hidx,
    (hw.bit_eq hcommit).trans hpend, (hw.bit_eq hcommit).trans hlost⟩

theorem part_ringsReset (s : State) (p : Nat) :
    ((s.ringsReset p).part p).txq = [] ∧ ((s.ringsReset p).part p).commitAsked = false := by
  have hpart : ∀ (t : State) f, (t.partUpd p f).part p = f (t.part p) := fun t f => mapGet_put_same ..
  unfold State.ringsReset
  extract_lets s1 s2 s3 s4
  rw [hpart]
  exact ⟨rfl, rfl⟩

/-- The reset of a partition, its outcome not yet recorded. -/
theorem partReset_partitionReset (h : s.domOn 3 = true) (hp : p < 6) : PartReset p (s.partitionReset p) := by
  rw [partitionReset_eq h]
  obtain ⟨htx, hrx, hidx, hpend, hlost⟩ := ringsOff_after hp (ringsOff_ringsReset (s := s))
  have hag := State.agentReset_keeps (s.ringsReset p) p
  have hqu := State.queuesReset_keeps ((s.ringsReset p).agentReset p) p
  have hparts := (hqu.same .parts rfl).trans (hag.same .parts rfl)
  have hpart : (((s.ringsReset p).agentReset p).queuesReset p).part p = (s.ringsReset p).part p :=
    congrArg (mapGet _ · p) hparts
  obtain ⟨htxq, hask⟩ := part_ringsReset s p
  refine ⟨htx, hrx, hidx, hpend, hlost, hpart ▸ htxq, hpart ▸ hask, fun n => ?_, fun q => queueIsOff_queuesReset _ p q.isLt⟩
  have hsem : (((s.ringsReset p).agentReset p).queuesReset p).semHolder n = ((s.ringsReset p).agentReset p).semHolder n :=
    congrArg (fun m : MqfSt => mapGet _ m.sems n) (hqu.same .mqf rfl)
  rw [hsem]
  exact agentReset_holder _ p n

theorem partitionReset_runs (h : s.domOn 3 = true) : (s.partitionReset p).dcp.runs = silenced p s.dcp.runs := by
  have hring : (s.ringsReset p).dcp = s.dcp := by
    unfold State.ringsReset
    extract_lets s1 s2 s3 s4
    have hk : Keeps 8 s s4 := (State.wrB_keeps ..).comp rfl ((State.wrB_keeps ..).comp rfl ((State.wr_keeps ..).comp rfl
      ((State.setReg_keeps ..).comp rfl ((State.wrB_keeps ..).comp rfl (State.wrB_keeps ..)))))
    exact ((State.partUpd_keeps ..).same .dcp rfl).trans (hk.same .dcp rfl)
  rw [partitionReset_eq h, queuesReset_runs]
  exact congrArg (fun d : DcpSt => silenced p d.runs) (((State.agentReset_keeps ..).same .dcp rfl).trans hring)

end Partition

section Command

variable {s : State} {slot : Fin 25} {r : DcpRun}

/-- A command that runs has its outcome. -/
theorem runAt_dcpResult {t : State} {slot : Nat} (h : t.runAt slot = some r) (hr : r.result = none) :
    (t.dcpResult slot 0 []).runAt slot = some { r with result := some ⟨0, []⟩ } := by
  have hslot : r.slot = slot := by simpa using List.find?_some h
  have hcomp : ((fun q : DcpRun => q.slot == slot) ∘ fun q : DcpRun =>
      if q.slot = slot ∧ q.result = none then { q with result := some ⟨0, []⟩ } else q) = fun q => q.slot == slot := by
    funext q
    simp only [Function.comp]
    split <;> rfl
  rw [State.runAt, State.dcpResult_eq t slot (.inl rfl), State.putDcp_dcp, List.find?_map, hcomp]
  exact (congrArg (Option.map _) h).trans (congrArg some (if_pos ⟨hslot, hr⟩))

/-- PARTITION_RESET in a frame discards the frames that wait. -/
def State.framesDropped (s : State) (slot : Fin 25) : State :=
  if slot.val == 24 then s.putDcp { s.dcp with frames := [] } else s

theorem framesDropped_keeps (s : State) (slot : Fin 25) : Keeps 1073741824 s (s.framesDropped slot) :=
  .ite (State.putDcp_keeps ..) .refl

theorem framesDropped_runs (s : State) (slot : Fin 25) : (s.framesDropped slot).dcp.runs = s.dcp.runs := by
  unfold State.framesDropped
  split <;> rfl

/-- What PARTITION_RESET does at its effect point. -/
def partitionResetEffect (slot : Fin 25) (s : State) (r : DcpRun) : DcpAns × State :=
  let p := if r.len == 0 then r.part else byteAt r.payload 0
  if p != r.part && r.part != 0 then (.done 0x201 (dcpDetail 0 0 noIndex), s.framesDropped slot)
  else if decide (5 < p) then (.done 0x301 (dcpDetail 0 0 noIndex), s.framesDropped slot)
  else (dcpOk, (s.framesDropped slot).partitionReset p)

theorem exec_partitionReset_eq :
    exec (.partitionReset slot) s = .next (s.dcpDo slot 0x003 (partitionResetEffect slot)) := rfl

theorem exec_partitionReset_foreign (h24 : slot.val ≠ 24) (hp : r.part ≠ 0) (hl : r.len ≠ 0)
    (hne : byteAt r.payload 0 ≠ r.part) :
    DcpFails s slot r (.partitionReset slot) 0x003 0x201 (dcpDetail 0 0 noIndex) := by
  refine dcpFails_detail exec_partitionReset_eq ?_
  have hs : s.framesDropped slot = s := if_neg (by simpa using h24)
  simp [partitionResetEffect, hs, hp, hl, hne]

theorem exec_partitionReset {p : Nat} (hd : s.domOn 3 = true) (hpart : r.part = 0) (hl : r.len ≠ 0)
    (hb : byteAt r.payload 0 = p) (h0 : p ≠ 0) (hp : p < 6) (hr : DcpRuns s slot 0x003 r) :
    Gives (exec (.partitionReset slot) s) fun t => PartReset p t ∧
      t.runAt slot = some { r with result := some ⟨0, []⟩ } ∧ Changes [.regs, .parts, .msix, .mqf, .dcp] s t := by
  have hf : partitionResetEffect slot s r = (.done 0 [], (s.framesDropped slot).partitionReset p) := by
    have h5 : ¬5 < p := by omega
    simp [partitionResetEffect, hpart, hl, hb, h5, dcpOk]
  have hk := framesDropped_keeps s slot
  have hd' : (s.framesDropped slot).domOn 3 = true :=
    (congrArg (· == 2) ((Writes.of_keeps (W := fun _ => False) hk rfl).domState_eq id 3)).trans hd
  refine ⟨_, exec_partitionReset_eq.trans (congrArg _ (dcpDo_done hr hf)), ?_, ?_, ?_⟩
  · exact partReset_partitionReset hd' hp
  · obtain ⟨_, hrun, hstarted, hresult, _⟩ := hr
    refine runAt_dcpResult ?_ hresult
    rw [State.runAt, partitionReset_runs hd', framesDropped_runs]
    exact find_silenced hrun hstarted (by omega)
  · have hu : Keeps 1610711048 s ((s.framesDropped slot).partitionReset p) :=
      (State.partitionReset_keeps ..).comp rfl (hk.mono rfl)
    exact Changes.dcpResult (hu.changes rfl) (by decide)

end Command

end Sys2Proof.Machine
end

section
/-! PROOF of CommandsThatConfigure, third part (R385, R413 to R415, R419 to R421, R464, R465, R587, R588): SAFEVAL_SET,
then the clauses. -/

namespace Sys2Proof.Machine

section Safe

variable {s : State} {slot : Fin 25} {r : DcpRun}

/-! ## SAFEVAL_SET (R414) -/

/-- The words of a SAFEVAL_SET. -/
abbrev safeWords (r : DcpRun) : List Word := payWords r.payload 8 ((r.len - 8) / 8)

theorem payWords_getD (l : List Byte) (o : Nat) {n j : Nat} (h : j < n) :
    (payWords l o n).getD j 0 = BitVec.ofNat 64 (leAt l (o + 8 * j) 8) := by
  simp [payWords, h]

/-- A safe value of zeros is the one of a connection that has none. -/
theorem getD_safeEntry (w : List Word) (j : Nat) :
    (if w.all fun v => v == 0 then ([] : List Word) else w).getD j 0 = w.getD j 0 := by
  split
  · next h =>
    have hz : w.getD j 0 = 0 := by
      rw [List.getD_eq_getElem?_getD]
      cases hj : w[j]? with
      | none => rfl
      | some v => simpa using List.all_eq_true.1 h v (List.mem_of_getElem? hj)
    rw [hz]
    rfl
  · rfl

/-- The registry of safe values with `w` for connection `c`. -/
def State.safePut (s : State) (c : Nat) (w : List Word) : State :=
  s.putDcp { s.dcp with safe := mapPut (fun _ => []) s.dcp.safe c (if w.all fun v => v == 0 then [] else w) }

/-- The safe value in one slice. -/
def State.safeToSlice (s : State) (w : List Word) (e : Nat × Nat) : State :=
  (List.range 8).foldl (fun s j => s.setReg (CBC_SAFE e.1 e.2 j) (w.getD j 0)) s

/-- The safe value in the slices of `l`. -/
def State.safeToSlices (s : State) (w : List Word) (l : List (Nat × Nat)) : State :=
  l.foldl (fun s e => s.safeToSlice w e) s

/-- The safe value in the CAN messages of `l`. -/
def State.safeToMsgs (s : State) (w : List Word) (l : List (Nat × Nat)) : State :=
  l.foldl (fun s e => s.sramWrite true (s.canBase e.1 + 0x8000 + 64 * e.2) (wordsBytes (wordsTo 8 w))) s

/-- The safe value in the output links of `l`. -/
def State.safeToLinks (s : State) (w : List Word) (l : List Nat) : State :=
  l.foldl (fun s n => (List.range 4).foldl (fun s j => s.setReg (PIA_SAFE n j) (w.getD j 0)) s) s

/-- The state with the registry and the slices written. -/
def State.safeSliced (s : State) (c : Nat) (w : List Word) : State :=
  (s.safePut c w).safeToSlices w ((s.safePut c w).safeSlices c)

/-- The messages too. -/
def State.safeMessaged (s : State) (c : Nat) (x : ConnRec) (w : List Word) : State :=
  (s.safeSliced c w).safeToMsgs w ((s.safeSliced c w).safeMsgs x)

theorem safeStore_eq (c : Nat) (x : ConnRec) (w : List Word) :
    s.safeStore c x w = (s.safeMessaged c x w).safeToLinks w ((s.safeMessaged c x w).safeLinks x) := rfl

theorem safeToSlice_keeps (w : List Word) (e : Nat × Nat) : Keeps 8 s (s.safeToSlice w e) :=
  .foldl (fun _ _ h => (State.setReg_keeps ..).comp rfl h) .refl

theorem safeToSlices_keeps (w : List Word) (l : List (Nat × Nat)) : Keeps 8 s (s.safeToSlices w l) :=
  .foldl (fun _ _ h => (safeToSlice_keeps ..).comp rfl h) .refl

theorem safeToMsgs_keeps (w : List Word) (l : List (Nat × Nat)) : Keeps 2072 s (s.safeToMsgs w l) :=
  .foldl (fun _ _ h => (State.sramWrite_keeps ..).comp rfl h) .refl

theorem safeToLinks_keeps (w : List Word) (l : List Nat) : Keeps 8 s (s.safeToLinks w l) :=
  .foldl (fun _ _ h => .foldl (fun _ _ h => (State.setReg_keeps ..).comp rfl h) h) .refl

theorem safeStore_keeps_put (c : Nat) (x : ConnRec) (w : List Word) : Keeps 2072 (s.safePut c w) (s.safeStore c x w) :=
  (safeToLinks_keeps ..).comp rfl ((safeToMsgs_keeps ..).comp rfl ((safeToSlices_keeps ..).mono rfl))

/-- Equal addresses in the store of the slices hold the same word of an item. -/
theorem CBC_SAFE_word {g k i g' k' j : Nat} (hi : i < 8) (hj : j < 8) (h : CBC_SAFE g k i = CBC_SAFE g' k' j) : i = j := by
  simp only [CBC_SAFE] at h
  omega

theorem safeToSlice_word (w : List Word) {g k j : Nat} (hj : j < 8) (s : State) :
    (s.safeToSlice w (g, k)).reg (CBC_SAFE g k j) = w.getD j 0 :=
  reg_foldl_setReg (a := fun i => CBC_SAFE g k i) (v := fun i => w.getD i 0) (List.mem_range.2 hj)
    (fun i hi he => by rw [CBC_SAFE_word (List.mem_range.1 hi) hj he]) s

/-- Another slice keeps the word: where the stores overlap, it is the same word of the value. -/
theorem safeToSlice_keeps_word (w : List Word) {g k j : Nat} (hj : j < 8) (e : Nat × Nat) {s : State}
    (h : s.reg (CBC_SAFE g k j) = w.getD j 0) : (s.safeToSlice w e).reg (CBC_SAFE g k j) = w.getD j 0 := by
  unfold State.safeToSlice
  generalize hl : List.range 8 = l
  have hlt : ∀ i ∈ l, i < 8 := fun i hi => List.mem_range.1 (hl ▸ hi)
  clear hl
  induction l generalizing s with
  | nil => exact h
  | cons i l ih =>
    refine ih ?_ fun i' hi' => hlt i' (List.mem_cons_of_mem _ hi')
    by_cases he : CBC_SAFE g k j = CBC_SAFE e.1 e.2 i
    · rw [he, State.reg_setReg_same, CBC_SAFE_word hj (hlt i List.mem_cons_self) he]
    · rw [State.reg_setReg_ne _ _ he, h]

theorem safeToSlices_word (w : List Word) {l : List (Nat × Nat)} {g k j : Nat} (hj : j < 8) (hmem : (g, k) ∈ l) :
    (s.safeToSlices w l).reg (CBC_SAFE g k j) = w.getD j 0 :=
  foldl_establishes (f := fun s e => s.safeToSlice w e) (Q := fun t => State.reg t (CBC_SAFE g k j) = w.getD j 0) hmem
    (fun t => safeToSlice_word w hj t) (fun _ e _ ht => safeToSlice_keeps_word w hj e ht) s

theorem writes_safeToMsgs (w : List Word) (l : List (Nat × Nat)) : Writes (· = MEM_ECC_CNT) s (s.safeToMsgs w l) :=
  Writes.foldl (f := fun (s : State) (e : Nat × Nat) =>
    s.sramWrite true (s.canBase e.1 + 0x8000 + 64 * e.2) (wordsBytes (wordsTo 8 w)))
    fun t _ _ => writes_sramWrite t true _ _

theorem writes_safeToLinks (w : List Word) (l : List Nat) : Writes (fun a => ∃ n j, a = PIA_SAFE n j) s (s.safeToLinks w l) :=
  Writes.foldl (f := fun (s : State) (n : Nat) => (List.range 4).foldl (fun s j => s.setReg (PIA_SAFE n j) (w.getD j 0)) s)
    fun _ n _ => Writes.foldl (f := fun (s : State) (j : Nat) => s.setReg (PIA_SAFE n j) (w.getD j 0))
      fun _ j _ => Writes.refl.setReg ⟨n, j, rfl⟩ _

theorem safeStore_word (c : Nat) (x : ConnRec) (w : List Word) {g k j : Nat} (hg : g < 4) (hk : k < 16) (hj : j < 8)
    (hen : s.bit (CBC_SEGs_SLICEk_EN g k) = true) (hc : s.rd (CBC_SEGs_SLICEk_CONN g k) = c) :
    (s.safeStore c x w).reg (CBC_SAFE g k j) = w.getD j 0 := by
  have hmem : (g, k) ∈ (s.safePut c w).safeSlices c := by
    simp only [State.safeSlices, List.mem_flatMap, List.mem_map, List.mem_filter, List.mem_range]
    refine ⟨g, hg, k, ⟨hk, ?_⟩, rfl⟩
    have hbit : (s.safePut c w).bit (CBC_SEGs_SLICEk_EN g k) = s.bit (CBC_SEGs_SLICEk_EN g k) := rfl
    have hrd : (s.safePut c w).rd (CBC_SEGs_SLICEk_CONN g k) = s.rd (CBC_SEGs_SLICEk_CONN g k) := rfl
    rw [hbit, hrd, hen, hc]
    simp
  rw [safeStore_eq, (writes_safeToLinks ..).reg_eq _ ?_, State.safeMessaged, (writes_safeToMsgs ..).reg_eq _ ?_]
  · exact safeToSlices_word w hj hmem
  · simp only [CBC_SAFE, MEM_ECC_CNT]
    omega
  · rintro ⟨n, i, h⟩
    simp only [CBC_SAFE, PIA_SAFE] at h
    omega

theorem safeStore_dcp (c : Nat) (x : ConnRec) (w : List Word) : (s.safeStore c x w).dcp = (s.safePut c w).dcp :=
  (safeStore_keeps_put ..).same .dcp rfl

theorem safeStore_runs (c : Nat) (x : ConnRec) (w : List Word) : (s.safeStore c x w).dcp.runs = s.dcp.runs :=
  (congrArg DcpSt.runs (safeStore_dcp c x w)).trans rfl

theorem safeStore_safeOf (c : Nat) (x : ConnRec) (w : List Word) (j : Nat) :
    ((s.safeStore c x w).safeOf c).getD j 0 = w.getD j 0 := by
  rw [State.safeOf, safeStore_dcp, ← getD_safeEntry w j]
  exact congrArg (fun l : List Word => l.getD j 0) (mapGet_put_same ..)

theorem exec_safevalSet_unknown (h : s.connRec (payConn r.payload) = none) :
    DcpFails s slot r (.safevalSet slot) 0x203 0x304 (dcpDetail 0xFFFF 0 (payConn r.payload)) := by
  refine dcpFails_detail rfl ?_
  dsimp only
  rw [h]
  rfl

/-- The state that a SAFEVAL_SET of a connection with record `y` leaves. -/
def State.safevalSet (s : State) (r : DcpRun) (y : ConnRec) : State := s.safeStore (payConn r.payload) y (safeWords r)

theorem exec_safevalSet {y : ConnRec} (hy : s.connRec (payConn r.payload) = some y) (hlen : (r.len - 8) / 8 = y.len)
    (hunit : y.unit ≠ 6) : DcpDoes s slot r (.safevalSet slot) 0x203 0 [] fun t =>
      (∀ j, j < y.len → (t.safeOf (payConn r.payload)).getD j 0 = BitVec.ofNat 64 (leAt r.payload (8 + 8 * j) 8)) ∧
        (∀ (g : Fin 4) (k : Fin 16) (j : Fin 8), s.bit (CBC_SEGs_SLICEk_EN g k) = true →
          s.rd (CBC_SEGs_SLICEk_CONN g k) = payConn r.payload → j.val < y.len →
          t.reg (CBC_SAFE g k j) = BitVec.ofNat 64 (leAt r.payload (8 + 8 * j) 8)) ∧
        Changes [.regs, .sram, .mem, .dcp] s t := by
  have hk : Keeps 1073743896 s (s.safevalSet r y) := State.safeStore_keeps ..
  have hruns : (s.safevalSet r y).dcp.runs = s.dcp.runs := safeStore_runs ..
  have hword : ∀ j, j < y.len → (safeWords r).getD j 0 = BitVec.ofNat 64 (leAt r.payload (8 + 8 * j) 8) :=
    fun j hj => payWords_getD _ _ (hlen ▸ hj)
  refine dcpDoes (u := s.safevalSet r y) rfl ?_ hruns ⟨fun j hj => ?_, fun g k j hen hc hj => ?_, ?_⟩
  · dsimp only
    rw [hy]
    exact if_neg (by simp [hlen, hunit])
  · rw [State.safeOf, State.dcpResult_eq _ slot (.inl rfl), State.putDcp_dcp]
    exact (safeStore_safeOf ..).trans (hword j hj)
  · rw [State.dcpResult_eq _ slot (.inl rfl)]
    exact (safeStore_word _ _ _ g.isLt k.isLt j.isLt hen hc).trans (hword j hj)
  · exact Changes.dcpResult (hk.changes rfl) (by decide)

end Safe

/-- Settles O39: each clause is the law of one command's effect point. -/
theorem commandsThatConfigure : Obligations.CommandsThatConfigure := by
  intro s slot r p pay c w m rec_ recOk free win does fails
  exact ⟨exec_deviceReset,
    fun hd hpart hl hb h0 => exec_partitionReset hd hpart hl hb (Fin.val_ne_of_ne h0) p.isLt,
    exec_partitionReset_foreign, exec_restoreFactory, exec_restoreFactory_stopped,
    exec_lifecycleAdvance, exec_lifecycleAdvance_refused,
    exec_modeSet_unknown, fun _ => exec_modeSet_pending, exec_modeSet_waits, exec_modeSet_enters,
    exec_modeCfgSet, exec_modeCfgSet_range,
    exec_connSet, exec_connSet_overlap, fun _ => exec_connSet_clash, exec_connSet_range,
    exec_connClear_unknown, exec_connClear,
    exec_safevalSet_unknown, fun _ => exec_safevalSet,
    exec_grant_doorbell,
    fun h0 h1 h5 hb hl hbase hlim => ⟨exec_grant_full ⟨h0, h1, h5, hb, hl, hbase, hlim⟩,
      fun _ => exec_grant_window ⟨h0, h1, h5, hb, hl, hbase, hlim⟩⟩,
    exec_revoke, exec_revoke_unknown,
    fun hb ho hl => ⟨exec_sliceSet hb ho hl (Nat.le_of_lt_succ p.isLt),
      exec_sliceSet_overlap hb ho hl (Nat.le_of_lt_succ p.isLt)⟩,
    exec_cfgStore_stopped, exec_cfgStore⟩

end Sys2Proof.Machine
end

section
/-! PROOF of CastlingAndTimePins (R72, R77, R78, R85, R91, R92): the start of castling and its completion at an edge, what
a snapshot and a read of a timestamp FIFO leave, and the pins while no castling moves the registers. -/

namespace Sys2Proof.Machine

/-! ## Castling (R77, R78) -/

section Castling

variable {s : State} {dest : Nat}

theorem castGo_eq (hdest : dest = if s.ntu.cyc.act.src = 1 then 1 else 0) : s.castGo = s.castStart dest := by
  simp only [State.castGo, hdest, beq_iff_eq]

/-- Castling to `dest` may start, which is a domain that SRC does not name. -/
def State.castMay (s : State) (dest : Nat) : Prop :=
  s.castling = false ∧ (s.ntu.cyc.act.src = 1 ∨ s.ntu.cyc.act.src = 2) ∧ s.tdState dest = 2

/-- What castling notes as it starts from SRC to `dest`, up to REMAIN. -/
def State.castNoted (s : State) (dest : Nat) : State :=
  ((s.putNtu { s.ntu with castFrom := s.ntu.cyc.act.src - 1, castR := 0 }).wr NTU_CAST_STAT_TARGET dest).wrB
    NTU_CAST_STAT_CASTLING true

theorem castStart_starts (h : s.castMay dest) (hne : s.ntu.cyc.act.src ≠ dest + 1) :
    ∃ r, s.castStart dest = (s.castNoted dest).wrI NTU_CAST_STAT_REMAIN r := by
  obtain ⟨hc, hsrc, hlock⟩ := h
  refine ⟨_, if_neg ?_⟩
  rcases hsrc with h1 | h2
  · simpa [hc, State.tdLocked, hlock, h1] using hne
  · simpa [hc, State.tdLocked, hlock, h2] using hne

theorem castStart_refused (h : ¬s.castMay dest) : s.castStart dest = s.wrB NTU_CAST_STAT_REFUSED true := by
  refine if_pos ?_
  by_contra hf
  simp only [Bool.or_eq_true, Bool.not_eq_true', beq_iff_eq, not_or, Bool.not_eq_true, Bool.not_eq_false,
    State.tdLocked] at hf
  obtain ⟨⟨⟨hc, hsrc⟩, _⟩, hlock⟩ := hf
  exact h ⟨hc, by simpa using hsrc, hlock⟩

theorem castNoted_castling (s : State) (dest : Nat) (r : Int) :
    ((s.castNoted dest).wrI NTU_CAST_STAT_REMAIN r).castling = true :=
  (State.bit_wr_apart _ _ rfl rfl rfl).trans (State.bit_wrB_same _ true rfl)

theorem castNoted_target (s : State) (h : dest < 2) (r : Int) :
    ((s.castNoted dest).wrI NTU_CAST_STAT_REMAIN r).castTarget = dest :=
  (State.rd_wr_apart _ _ rfl rfl rfl).trans ((State.rd_wr_apart _ _ rfl rfl rfl).trans (State.rd_wr_fits _ rfl h))

theorem exec_castlingGo (h : s.domOn 6 = true) : exec .castlingGo s = .next s.castGo := congrArg _ (if_pos h)

theorem castlingGo_starts (hd : s.domOn 6 = true) (hdest : dest = if s.ntu.cyc.act.src = 1 then 1 else 0)
    (h : s.castMay dest) : Gives (exec .castlingGo s) fun t =>
      t.castling = true ∧ t.castTarget = dest ∧ t.ntu.castFrom = s.ntu.cyc.act.src - 1 ∧ t.ntu.castR = 0 ∧
        RegsBut [NTU_CAST_STAT] s t ∧ Changes [.regs, .ntu] s t := by
  obtain ⟨hlt, hne⟩ : dest < 2 ∧ s.ntu.cyc.act.src ≠ dest + 1 := by
    have ⟨_, hsrc, _⟩ := h
    split at hdest <;> omega
  obtain ⟨r, hr⟩ := castStart_starts h hne
  refine ⟨s.castStart dest, castGo_eq hdest ▸ exec_castlingGo hd, ?_, ?_, ?_, ?_, (timeKept_castStart s dest).regs,
    (State.castStart_keeps ..).changes rfl⟩
  · rw [hr, castNoted_castling]
  · rw [hr, castNoted_target s hlt]
  · rw [hr]; rfl
  · rw [hr]; rfl

theorem castlingGo_refused (hd : s.domOn 6 = true) (hdest : dest = if s.ntu.cyc.act.src = 1 then 1 else 0)
    (h : ¬s.castMay dest) : Gives (exec .castlingGo s) fun t =>
      t.castling = s.castling ∧ t.bit NTU_CAST_STAT_REFUSED = true ∧ RegsBut [NTU_CAST_STAT] s t ∧
        Changes [.regs] s t := by
  refine ⟨s.wrB NTU_CAST_STAT_REFUSED true, ?_, State.bit_wr_apart s _ rfl rfl rfl, State.bit_wrB_same s true rfl,
    regsBut_wr s NTU_CAST_STAT_REFUSED _, (State.wrB_keeps ..).changes rfl⟩
  rw [exec_castlingGo hd, castGo_eq hdest, castStart_refused h]

/-! ## Castling completes (R78) -/

/-- The edge at which the gap is within a step. -/
theorem castEdge_completes (hc : s.castling = true) (hg : s.castGap.natAbs ≤ s.castStep.natAbs) :
    s.castEdge.castling = false ∧ s.castEdge.bit NTU_CAST_STAT_DONE = true ∧
      s.castEdge.ntu.cyc.act.src = s.castTarget + 1 := by
  unfold State.castEdge
  extract_lets g st old cyc act done1 done2 done3 moved
  have hsrc : done2.ntu.cyc.act.src = s.castTarget + 1 := rfl
  have hcast : done3.bit NTU_CAST_STAT_CASTLING = false :=
    (State.bit_wr_apart _ _ rfl rfl rfl).trans (State.bit_wrB_same _ false rfl)
  have hdone : done3.bit NTU_CAST_STAT_DONE = true := State.bit_wrB_same _ true rfl
  have hntu : done3.ntu = done2.ntu := rfl
  clear_value done3 done2
  rw [if_neg (by rw [hc]; decide), if_pos (decide_eq_true hg)]
  exact ⟨(State.bit_wr_apart _ _ rfl rfl rfl).trans hcast, (State.bit_wr_apart _ _ rfl rfl rfl).trans hdone,
    hntu ▸ hsrc⟩

theorem untilCast_stopped (h : s.castling = false) (n : Nat) : s.untilCast n = s := by
  cases n with
  | zero => rfl
  | succ n => exact if_neg (by rw [h]; decide)

/-- Castling that completes at the next edge needs no other. -/
theorem untilCast_completes (hc : s.castling = true) (he : s.edge1.castling = false) (n : Nat) :
    s.untilCast (n + 1) = s.edge1 :=
  (if_pos hc).trans (untilCast_stopped he n)

theorem castlingDone_completes (hd : s.domOn 6 = true) (hc : s.castling = true)
    (hg : (s.ltEdges 1).castGap.natAbs ≤ s.castStep.natAbs) : Gives (exec .castlingDone s) fun t =>
    t.castling = false ∧ t.bit NTU_CAST_STAT_DONE = true ∧ t.ntu.cyc.act.src = s.castTarget + 1 ∧
      t.ntu.lt = s.ntu.lt + s.ltStep ∧ RegsBut [NTU_CAST_STAT, NTU_CYC_CTL] s t := by
  have hone : s.edge1 = (s.ltEdges 1).castEdge := if_pos hd
  have hedge := edged_edge1 hd
  obtain ⟨hcast, hdone, hsrc⟩ := castEdge_completes (s := s.ltEdges 1) hc hg
  rw [← hone] at hcast hdone hsrc
  have hlt : s.edge1.ntu.lt = s.ntu.lt + s.ltStep := by rw [hedge.lt, Nat.one_mul]
  refine ⟨s.edge1, ?_, hcast, hdone, hsrc, hlt, hedge.regs⟩
  show execCastlingDone s = _
  rw [execCastlingDone, if_pos hd]
  exact congrArg _ (untilCast_completes hc hcast _)

end Castling

/-! ## Snapshots (R72) -/

theorem timeFrac_nat (n : Nat) : timeFrac n = n / 2 ^ 16 % 2 ^ 16 := by
  have hdiv : (n : Int).fdiv (2 ^ 16) = ((n / 2 ^ 16 : Nat) : Int) := by
    rw [Int.fdiv_eq_ediv_of_nonneg _ (by decide)]
    norm_cast
  rw [timeFrac, hdiv, unsign, ← Int.natCast_mod, Int.toNat_natCast]

theorem snapTime_seq (s : State) : s.snapTime.rd NTU_SNAP_SEQ_VALUE = (s.rd NTU_SNAP_SEQ_VALUE + 1) % 2 ^ 64 := by
  simp (disch := decide) only [State.snapTime, State.rd_wr_apart]
  exact State.rd_incWrap_same s rfl

theorem ltNs_incWrap (s : State) (f : Fld) : (s.incWrap f).ltNs = s.ltNs := by
  rw [State.ltNs, State.ltNs, State.incWrap_ntu]

theorem snapTime_lt (s : State) : s.snapTime.rd NTU_SNAP_LT_VALUE = s.ltNs % 2 ^ 64 := by
  simp (disch := decide) only [State.snapTime, State.rd_wr_apart]
  rw [State.rd_wr_same _ _ rfl, ltNs_incWrap]
  rfl

theorem snapTime_frac (s : State) : s.snapTime.rd NTU_SNAP_FRAC_LT_FRAC = s.ntu.lt / 2 ^ 16 % 2 ^ 16 := by
  simp (disch := decide) only [State.snapTime, State.rd_wr_apart]
  rw [State.rd_wr_same _ _ rfl, timeFrac_nat, State.wr_ntu, State.wr_ntu, State.wr_ntu, State.incWrap_ntu]
  exact Nat.mod_mod _ _

theorem regsBut_snapTime (s : State) :
    RegsBut [NTU_SNAP_SEQ, NTU_SNAP_LT, NTU_SNAP_TDA, NTU_SNAP_TDB, NTU_SNAP_FRAC] s s.snapTime := by
  unfold State.snapTime
  extract_lets s1 s2
  have h1 : RegsBut [NTU_SNAP_SEQ] s s1 := regsBut_wr s NTU_SNAP_SEQ_VALUE _
  have h2 : RegsBut [NTU_SNAP_SEQ, NTU_SNAP_LT, NTU_SNAP_TDA, NTU_SNAP_TDB] s s2 :=
    (((h1.mono (by decide)).wr (f := NTU_SNAP_LT_VALUE) (by decide) _).wr (f := NTU_SNAP_TDA_VALUE) (by decide) _).wr
      (f := NTU_SNAP_TDB_VALUE) (by decide) _
  exact (((h2.mono (by decide)).wr (f := NTU_SNAP_FRAC_LT_FRAC) (by decide) _).wr (f := NTU_SNAP_FRAC_TDA_FRAC)
    (by decide) _).wr (f := NTU_SNAP_FRAC_TDB_FRAC) (by decide) _

theorem exec_snapTake {s : State} (h : s.domOn 6 = true) : exec .snapTake s = .next s.snapTime := congrArg _ (if_pos h)

/-! ## Transmit timestamp FIFOs (R85) -/

section Fifo

variable {s : State} {p : Fin 10} {r : TxTs} {l : List TxTs}

/-- What a read of the oldest record answers. -/
def TxTs.word (r : TxTs) : Word := BitVec.ofNat 64 (2 ^ 63 + r.tag % 65536 * 2 ^ 32 + r.frac % 65536)

theorem TxTs.word_toNat (r : TxTs) : r.word.toNat = 2 ^ 63 + r.tag % 65536 * 2 ^ 32 + r.frac % 65536 := by
  rw [TxTs.word, BitVec.toNat_ofNat]
  omega

theorem TxTs.word_valid (r : TxTs) : r.word.getLsbD 63 = true := by
  have h := r.word_toNat
  rw [BitVec.getLsbD, Nat.testBit_eq_decide_div_mod_eq, decide_eq_true_eq]
  omega

theorem TxTs.word_tag (r : TxTs) : bitsOf r.word 47 32 = r.tag % 65536 := by
  have h := r.word_toNat
  unfold bitsOf
  omega

theorem TxTs.word_frac (r : TxTs) : bitsOf r.word 15 0 = r.frac % 65536 := by
  have h := r.word_toNat
  unfold bitsOf
  omega

theorem exec_txtsPop (h : s.domOn 6 = true) :
    exec (.txtsPop p) s = .next ((s.txtsPop p).2.putReadData (s.txtsPop p).1) := if_neg (by rw [h]; decide)

theorem txtsPop_nil (h : s.txts p = []) : s.txtsPop p = (0, s) := by
  simp only [State.txtsPop, h]

/-- The state whose FIFO of port `p` has given its oldest record `r`. -/
def State.txtsPopped (s : State) (p : Nat) (r : TxTs) (l : List TxTs) : State :=
  (s.setTxts p l).setReg (NTU_TXTSp_NS p) (BitVec.ofNat 64 r.ns)

theorem txtsPop_cons (h : s.txts p = r :: l) : s.txtsPop p = (r.word, s.txtsPopped p r l) := by
  simp only [State.txtsPop, h, TxTs.word, State.txtsPopped]

theorem txtsPop_empty (hd : s.domOn 6 = true) (h : s.txts p = []) : Gives (exec (.txtsPop p) s) fun t =>
    t.readData = 0 ∧ RegsBut [] s t ∧ Changes [.readData] s t := by
  refine ⟨s.putReadData 0, ?_, rfl, RegsBut.refl, (State.putReadData_keeps ..).changes rfl⟩
  rw [exec_txtsPop hd, txtsPop_nil h]

theorem txtsPopped_ns (s : State) (p : Nat) (r : TxTs) (l : List TxTs) :
    ((s.txtsPopped p r l).reg (NTU_TXTSp_NS p)).toNat = r.ns % 2 ^ 64 := by
  rw [State.txtsPopped, State.reg_setReg_same, BitVec.toNat_ofNat]

theorem txtsPopped_txts (s : State) (p : Nat) (r : TxTs) (l : List TxTs) : (s.txtsPopped p r l).txts p = l :=
  mapGet_put_same _ s.ntu.txts p l

/-- What a read of `w` in the state `u` shows, once for all words. -/
theorem txtsPop_gives {w : Word} {u : State} (he : exec (.txtsPop p) s = .next (u.putReadData w))
    (hvalid : w.getLsbD 63 = true) (htag : bitsOf w 47 32 = r.tag % 65536) (hfrac : bitsOf w 15 0 = r.frac % 65536)
    (htxts : u.txts p = l) (hns : (u.reg (NTU_TXTSp_NS p)).toNat = r.ns % 2 ^ 64) (hregs : RegsBut [NTU_TXTSp_NS p] s u)
    (hk : Keeps 262152 s u) : Gives (exec (.txtsPop p) s) fun t =>
      t.readData.getLsbD 63 = true ∧ bitsOf t.readData 47 32 = r.tag % 65536 ∧
        bitsOf t.readData 15 0 = r.frac % 65536 ∧ t.txts p = l ∧ (t.reg (NTU_TXTSp_NS p)).toNat = r.ns % 2 ^ 64 ∧
        RegsBut [NTU_TXTSp_NS p] s t ∧ Changes [.regs, .ntu, .readData] s t :=
  ⟨_, he, hvalid, htag, hfrac, htxts, hns, hregs,
    ((State.putReadData_keeps ..).comp (M := 2147745800) rfl (hk.mono rfl)).changes rfl⟩

theorem txtsPop_oldest (hd : s.domOn 6 = true) (h : s.txts p = r :: l) : Gives (exec (.txtsPop p) s) fun t =>
    t.readData.getLsbD 63 = true ∧ bitsOf t.readData 47 32 = r.tag % 65536 ∧ bitsOf t.readData 15 0 = r.frac % 65536 ∧
      t.txts p = l ∧ (t.reg (NTU_TXTSp_NS p)).toNat = r.ns % 2 ^ 64 ∧ RegsBut [NTU_TXTSp_NS p] s t ∧
      Changes [.regs, .ntu, .readData] s t := by
  have he := exec_txtsPop (p := p) hd
  rw [txtsPop_cons h] at he
  exact txtsPop_gives he r.word_valid r.word_tag r.word_frac (txtsPopped_txts s p r l) (txtsPopped_ns s p r l)
    (regsBut_setReg (s.setTxts p l) _ _) ((State.setReg_keeps ..).comp rfl ((State.setTxts_keeps ..).mono rfl))

end Fifo

theorem castlingAndStamps : Sys2Proof.Rules.castlingAndStamps := by
  intro s hd src dest ok
  refine ⟨castlingGo_starts hd rfl, castlingGo_refused hd rfl, castlingDone_completes hd, ?_,
    fun p => ⟨txtsPop_empty hd, fun r l => txtsPop_oldest hd⟩⟩
  exact ⟨_, exec_snapTake hd, snapTime_seq s, snapTime_lt s, snapTime_frac s, regsBut_snapTime s,
    (State.snapTime_keeps s).changes rfl⟩

/-! ## The pins (R91, R92) -/

section Pins

variable {s : State}

/-- While no castling runs the edges move LT and the offsets alone. -/
theorem edges_eq_ltEdges (hd : s.domOn 6 = true) (hc : s.castling = false) (n : Nat) : s.edges n = s.ltEdges n := by
  cases n with
  | zero => simp [State.edges, State.ltEdges, State.putNtu]
  | succ n => exact (if_neg (by rw [hc]; decide)).trans (if_pos hd)

/-- `t` comes edges after `s`, and nothing beyond the time unit has changed. -/
def Ticked (s t : State) : Prop := RegsBut [] s t ∧ Changes [.regs, .ntu] s t

theorem ticked_edges (hd : s.domOn 6 = true) (hc : s.castling = false) (n : Nat) : Ticked s (s.edges n) := by
  rw [edges_eq_ltEdges hd hc]
  exact ⟨RegsBut.refl, (State.ltEdges_keeps s n).changes rfl⟩

theorem ticked_advanceTo (hd : s.domOn 6 = true) (hc : s.castling = false) (t : Nat) : Ticked s (s.advanceTo t) :=
  ticked_edges hd hc _

/-- What a pin notes at the edge stays within the time unit. -/
theorem Ticked.putNtu {t : State} (h : Ticked s t) (x : NtuSt) : Ticked s (t.putNtu x) :=
  ⟨h.1, fun p hp => Part.same_trans (h.2 p hp) ((State.putNtu_keeps t x).changes (l := [.regs, .ntu]) rfl p hp)⟩

/-- The pulse of SYNC_OUT is on or off. -/
def State.setSyncOut (s : State) (on : Bool) : State := s.putNtu { s.ntu with syncOutOn := on }

/-- PPS_OUT falls. -/
def State.ppsFall (s : State) : State := s.putNtu { s.ntu with ppsOn := false }

/-- A pulse of PPS_OUT begins. -/
def State.ppsRise (s : State) : State := s.putNtu { s.ntu with ppsOn := true, ppsLast := some s.ltNs }

theorem exec_syncOutAssert {rise : Nat} (hrise : rise = s.ntu.cyc.nominal + bitsOf s.ntu.syncOut 63 32 * 2 ^ 31)
    (hl : s.cycLive = true) (he : bitsOf s.ntu.syncOut 0 0 = 1) (hr : rise < s.nextNominal) :
    exec .syncOutAssert s = .next ((s.advanceTo rise).setSyncOut true) := by
  subst hrise
  refine if_neg ?_
  rw [hl, he, decide_eq_false (Nat.not_le.2 hr)]
  decide

theorem syncOutAssert_rises {rise : Nat} {u : State} (he : exec .syncOutAssert s = .next (u.setSyncOut true))
    (hlt : rise ≤ u.ntu.lt) (ht : Ticked s u) : Gives (exec .syncOutAssert s) fun t =>
      t.ntu.syncOutOn = true ∧ rise ≤ t.ntu.lt ∧ RegsBut [] s t ∧ Changes [.regs, .ntu] s t :=
  ⟨_, he, rfl, hlt, ht.putNtu _⟩

theorem exec_syncOutDeassert (hd : s.domOn 6 = true) (ho : s.ntu.syncOutOn = true) :
    ∃ i, exec .syncOutDeassert s = .next ((s.advanceTo i).setSyncOut false) :=
  ⟨_, if_neg (by rw [hd, ho]; decide)⟩

theorem syncOutDeassert_falls (hd : s.domOn 6 = true) (hc : s.castling = false) (ho : s.ntu.syncOutOn = true) :
    Gives (exec .syncOutDeassert s) fun t =>
      t.ntu.syncOutOn = false ∧ RegsBut [] s t ∧ Changes [.regs, .ntu] s t := by
  obtain ⟨i, hi⟩ := exec_syncOutDeassert hd ho
  exact ⟨_, hi, rfl, (ticked_advanceTo hd hc i).putNtu _⟩

theorem edges_ppsLast (hd : s.domOn 6 = true) (hc : s.castling = false) (n : Nat) :
    (s.edges n).ntu.ppsLast = s.ntu.ppsLast := by
  rw [edges_eq_ltEdges hd hc]
  rfl

/-- PPS_OUT follows LT and has had no pulse: nothing holds the next one back. -/
theorem exec_ppsAssert (hd : s.domOn 6 = true) (hc : s.castling = false) (he : s.bit NTU_PPS_CFG_EN = true)
    (hsrc : s.rd NTU_PPS_CFG_SRC = 0) (hl : s.ntu.ppsLast = none) :
    ∃ n, exec .ppsAssert s = .next (s.edges n).ppsRise := by
  have hdead : s.ppsDead = false := by simp [State.ppsDead, hsrc]
  have hfirst : ∀ n, (s.edges n).ntu.ppsLast = none := fun n => (edges_ppsLast hd hc n).trans hl
  have h3 : ((0 : Nat) == 3) = false := rfl
  refine ⟨?edges, ?answer⟩
  case answer =>
    refine (if_neg (by rw [hd, he, hdead]; decide)).trans ?_
    simp only [hsrc, h3, Bool.false_eq_true, if_false, hfirst]
    rfl

theorem ppsAssert_rises (hd : s.domOn 6 = true) (hc : s.castling = false) (he : s.bit NTU_PPS_CFG_EN = true)
    (hsrc : s.rd NTU_PPS_CFG_SRC = 0) (hl : s.ntu.ppsLast = none) : Gives (exec .ppsAssert s) fun t =>
      t.ntu.ppsOn = true ∧ t.ntu.ppsLast = some t.ltNs ∧ s.ntu.lt ≤ t.ntu.lt ∧ RegsBut [] s t ∧
        Changes [.regs, .ntu] s t := by
  obtain ⟨n, hn⟩ := exec_ppsAssert hd hc he hsrc hl
  have hlt : s.ntu.lt ≤ (s.edges n).ntu.lt := (edged_edges hd n).lt ▸ Nat.le_add_right ..
  exact ⟨_, hn, rfl, rfl, hlt, (ticked_edges hd hc n).putNtu _⟩

theorem exec_ppsDeassert {l : Nat} (hd : s.domOn 6 = true) (ho : s.ntu.ppsOn = true) (hl : s.ntu.ppsLast = some l) :
    exec .ppsDeassert s = .next (s.advanceTo ((l + s.rd NTU_PPS_CFG_WIDTH * 1000) * 2 ^ 32)).ppsFall := by
  show execPpsDeassert s = _
  unfold execPpsDeassert
  rw [hl]
  exact if_neg (by rw [hd, ho]; decide)

theorem ppsDeassert_falls {fall : Nat} {u : State} (he : exec .ppsDeassert s = .next u.ppsFall) (hlt : fall ≤ u.ntu.lt)
    (ht : Ticked s u) : Gives (exec .ppsDeassert s) fun t =>
      t.ntu.ppsOn = false ∧ fall ≤ t.ntu.lt ∧ RegsBut [] s t ∧ Changes [.regs, .ntu] s t :=
  ⟨_, he, rfl, hlt, ht.putNtu _⟩

end Pins

theorem timePins : Sys2Proof.Rules.timePins := by
  intro s hd hc w rise
  have hlt := fun i => State.le_advanceTo_lt hd i
  have ht := fun i => ticked_advanceTo hd hc i
  exact ⟨fun hl he hr => syncOutAssert_rises (exec_syncOutAssert rfl hl he hr) (hlt _) (ht _),
    syncOutDeassert_falls hd hc, ppsAssert_rises hd hc,
    fun l ho hl => ppsDeassert_falls (exec_ppsDeassert hd ho hl) (hlt _) (ht _)⟩

/-- Settles O14: castling, snapshots and timestamps by what each leaves in the registers, the pins by the edges that
bring LT to their instants. -/
theorem castlingAndTimePins : Obligations.CastlingAndTimePins := ⟨castlingAndStamps, timePins⟩

end Sys2Proof.Machine
end

section
/-! SUPPORT. The epoch of an agent that is reset (R425), and what a failed start leaves (R456, R528). -/

namespace Sys2Proof.Machine

/-! ## The epoch of an agent that is reset (R425) -/

/-- Address `a` is not that of an epoch. -/
def OutsideEpochs (a : Nat) : Prop := a < MQF_EPOCHa 0 ∨ MQF_CNT ≤ a

theorem outsideEpochs_MBm {m : Nat} (h : m < 128) : OutsideEpochs (MQF_MBm_STAT m) ∧ OutsideEpochs (MQF_MBm_ACK m) := by
  simp only [OutsideEpochs, MQF_MBm_STAT, MQF_MBm_ACK, MQF_EPOCHa]
  omega

theorem outsideEpochs_DBa_PEND {a : Nat} (h : a < 64) : OutsideEpochs (MQF_DBa_PEND a) := by
  simp only [OutsideEpochs, MQF_DBa_PEND, MQF_EPOCHa]
  omega

theorem outsideEpochs_high {b x : Nat} (h : MQF_CNT ≤ b) : OutsideEpochs (b + x) := .inr (Nat.le_add_right_of_le h)

theorem outsideEpochs_STAGING (m w : Nat) : OutsideEpochs (MQF_STAGING m w) := by
  simp only [OutsideEpochs, MQF_STAGING, MQF_CNT]
  omega

theorem outsideEpochs_IRQ {p : Nat} (h : p < 6) : OutsideEpochs (HIC_PARTp_IRQ p) := by
  simp only [OutsideEpochs, HIC_PARTp_IRQ, MQF_EPOCHa]
  omega

theorem not_outsideEpochs {a : Nat} (h : a < 64) : ¬OutsideEpochs (MQF_EPOCHa a) := by
  simp only [OutsideEpochs, MQF_CNT, MQF_EPOCHa]
  omega

theorem epochs_ring (s : State) {a : Nat} (ha : a < 64) (b : Nat) : Writes OutsideEpochs s (s.ring a b) := by
  have h1 : Writes OutsideEpochs s (s.orF (MQF_DBa_PEND_PEND a) (2 ^ b)) := Writes.refl.orF (outsideEpochs_DBa_PEND ha) _
  unfold State.ring
  extract_lets s1
  split
  case isTrue hc => exact h1.raiseEvent (outsideEpochs_IRQ (of_decide_eq_true (Bool.and_eq_true_iff.1 hc).1)) 9
  case isFalse => exact h1

theorem epochs_mbSenderReset (s : State) {m : Nat} (hm : m < 128) : Writes OutsideEpochs s (s.mbSenderReset m) := by
  obtain ⟨hstat, _⟩ := outsideEpochs_MBm hm
  unfold State.mbSenderReset
  extract_lets s1 s2
  have h1 : Writes OutsideEpochs s s1 := .foldl fun _ _ _ => Writes.refl.setReg (outsideEpochs_STAGING ..) _
  have h2 : Writes OutsideEpochs s s2 :=
    (h1.keeps (State.setTiming_keeps ..) rfl).wrB (f := MQF_MBm_STAT_TIMEOUT m) hstat _
  exact (h2.wrB (f := MQF_MBm_STAT_COLLISION m) hstat _).wrB (f := MQF_MBm_STAT_ACK_LATE m) hstat _

theorem epochs_mbReceiverReset (s : State) {m : Nat} (hm : m < 128) : Writes OutsideEpochs s (s.mbReceiverReset m) := by
  obtain ⟨hstat, hack⟩ := outsideEpochs_MBm hm
  unfold State.mbReceiverReset State.ringAck
  extract_lets s1 s2 s3
  have h1 : Writes OutsideEpochs s s1 :=
    (Writes.refl.wrB (f := MQF_MBm_STAT_FULL m) hstat _).keeps (State.setTiming_keeps ..) rfl
  have h2 : Writes OutsideEpochs s s2 :=
    (h1.wrB (f := MQF_MBm_STAT_TIMEOUT m) hstat _).wr (f := MQF_MBm_STAT_REASON m) hstat _
  have h3 : Writes OutsideEpochs s s3 := (h2.wr (f := MQF_MBm_ACK_CODE m) hack _).wrB (f := MQF_MBm_ACK_VALID m) hack _
  exact .ite (h3.trans (epochs_ring _ (rd_SENDER_lt ..) _)) h3

theorem epochs_pqDiscardOpen (s : State) (k : Nat) : Writes OutsideEpochs s (s.pqDiscardOpen k) := by
  have hstat : OutsideEpochs (PQk_STAT k) := outsideEpochs_high (by decide)
  unfold State.pqDiscardOpen
  extract_lets q
  have h0 : Writes OutsideEpochs s (s.setPq k { q with cur := none }) := .of_keeps (State.setPq_keeps ..) rfl
  refine .ite .refl ((h0.inc (f := PQk_CNT_REWINDS k) (outsideEpochs_high (by decide))).trans ?_)
  unfold State.pqShow
  extract_lets
  split
  exact ((Writes.refl.wrB (f := PQk_STAT_OPEN k) hstat _).wrB (f := PQk_STAT_DROPPING k) hstat _).wr
    (f := PQk_STAT_OPEN_LEN k) hstat _

/-- A reset writes no epoch but that of its agent. -/
theorem epochs_agentReset (s : State) {a : Nat} (ha : a < 64) :
    Writes OutsideEpochs (s.incWrap (MQF_EPOCHa_EPOCH a)) (s.agentReset a) := by
  unfold State.agentReset
  extract_lets s1 s2 s3 q s4
  have h2 : Writes OutsideEpochs s1 s2 := .foldl fun t m hm => by
    have hm := List.mem_range.1 hm
    extract_lets t1
    have ht : Writes OutsideEpochs t t1 := .ite (epochs_mbSenderReset t hm) .refl
    exact .ite .refl (.ite (ht.trans (epochs_mbReceiverReset _ hm)) ht)
  have h4 : Writes OutsideEpochs s1 s4 :=
    (h2.wr (f := MQF_DBa_PEND_PEND a) (outsideEpochs_DBa_PEND ha) _).keeps (State.putMqf_keeps ..) rfl
  exact h4.trans (.foldl fun t k _ => .ite (epochs_pqDiscardOpen t k) .refl)

theorem agentReset_epoch (s : State) {a : Nat} (ha : a < 64) :
    (s.agentReset a).rd (MQF_EPOCHa_EPOCH a) = (s.rd (MQF_EPOCHa_EPOCH a) + 1) % 2 ^ 16 :=
  ((epochs_agentReset s ha).rd_eq (not_outsideEpochs ha)).trans (State.rd_incWrap_same s rfl)

/-! ## A failed start (R456, R528) -/

theorem domState_setBoot (s : State) (f : BootSt → BootSt) (d : Nat) : (s.setBoot f).domState d = s.domState d := rfl

theorem domState_putCrp (s : State) (x : CrpSt) (d : Nat) : (s.putCrp x).domState d = s.domState d := rfl

theorem domState_wrB {f : Fld} (h : f.addr ≠ CRP_PD_STAT) (s : State) (b : Bool) (d : Nat) :
    (s.wrB f b).domState d = s.domState d := (regsBut_wr s f (b2n b)).rd_eq (by simpa using! h.symm)

/-- The domains above PD_AON are off after a reset of the device. -/
theorem resetAll_domState (s : State) {d : Nat} (h0 : d ≠ 0) (hd : d < 10) : s.resetAll.domState d = 0 := by
  have hl : ∀ e, e ∈ [1, 2, 3, 4, 5, 6, 7, 8, 9] ↔ e ≠ 0 ∧ e < 10 := fun e => by
    simp only [List.mem_cons, List.not_mem_nil, or_false]
    omega
  have hoff : ([1, 2, 3, 4, 5, 6, 7, 8, 9].foldl (fun s d => (s.domainLost d).setDom d 0) s).domState d = 0 := by
    refine foldl_establishes (f := fun s d => (s.domainLost d).setDom d 0) (Q := fun t => t.domState d = 0) (x := d)
      ((hl d).2 ⟨h0, hd⟩) (fun t => setDom_same _ hd (by decide)) (fun t e he ht => ?_) s
    obtain ⟨he0, he⟩ := (hl e).1 he
    by_cases hne : d = e
    · exact hne ▸ setDom_same _ hd (by decide)
    · exact (setDom_other _ he hd hne).trans (((writes_domainLost t e).domState_eq (not_domOf_pd he0) d).trans ht)
  have hlow : (CRP_PD_STAT_STATE d).hi < CRP_PD_STAT_PENDING.lo := by
    simp only [CRP_PD_STAT_STATE, CRP_PD_STAT_PENDING]
    omega
  unfold State.resetAll
  extract_lets deg s1 s2 s3 s4
  have h2 : (s1.wr CRP_PD_STAT_PENDING 0).domState d = 0 :=
    (State.rd_wr_apart s1 0 rfl (ok_PD_STATE hd) (Fld.apart_of_below hlow)).trans hoff
  rw [domState_setBoot, domState_putCrp, domState_wrB (by decide), domState_wrB (by decide), h2]

section StartFail

variable (s : State) (cause : Option Nat)

/-- The device as a failed start leaves it, before the start that follows is due. -/
def State.startFailed (s : State) : State :=
  let n := min 3 (s.boot.failCount + 1)
  (if s.boot.running then s.journal 0xFF 0 1 s.boot.micros n else s).resetAll.setBoot fun b => { b with failCount := n }

theorem startFail_eq : s.startFail cause = if 2 ≤ s.boot.failCount
    then s.startFailed.setBoot fun b => { b with nextKind := some 3, nextCause := 7 }
    else s.startFailed.startDue 2 (cause.getD s.boot.cause) 4 := by
  have hn : (min 3 (s.boot.failCount + 1) == 3) = decide (2 ≤ s.boot.failCount) := by
    rw [Bool.eq_iff_iff, beq_iff_eq, decide_eq_true_eq]
    omega
  unfold State.startFail
  simp only [hn, decide_eq_true_eq]
  rfl

theorem startFailed_domState {d : Nat} (h0 : d ≠ 0) (hd : d < 10) : s.startFailed.domState d = 0 := by
  unfold State.startFailed
  rw [domState_setBoot, resetAll_domState _ h0 hd]

theorem startFail_domState {d : Nat} (h0 : d ≠ 0) (hd : d < 10) : (s.startFail cause).domState d = 0 := by
  have hdue : ∀ t : State, (t.wr SYSCTL_RST_STAT_LAST_RESET 4).domState d = t.domState d := fun t =>
    (regsBut_wr t SYSCTL_RST_STAT_LAST_RESET 4).rd_eq
      (by simp [SYSCTL_RST_STAT_LAST_RESET, SYSCTL_RST_STAT, CRP_PD_STAT_STATE, CRP_PD_STAT])
  rw [startFail_eq]
  split
  · rw [domState_setBoot, startFailed_domState s h0 hd]
  · rw [State.startDue, domState_setBoot, hdue, startFailed_domState s h0 hd]

/-- FAIL_COUNT moves on, and the third failed start in a row makes a DEGRADED one due. -/
theorem startFail_boot : (s.startFail cause).boot.failCount = min 3 (s.boot.failCount + 1) ∧
    (s.startFail cause).boot.nextKind = some (if 2 ≤ s.boot.failCount then 3 else 2) ∧
    (s.startFail cause).boot.nextCause = if 2 ≤ s.boot.failCount then 7 else cause.getD s.boot.cause := by
  have hcount : s.startFailed.boot.failCount = min 3 (s.boot.failCount + 1) := rfl
  rw [startFail_eq]
  generalize s.startFailed = t at hcount
  split
  · exact ⟨hcount, rfl, rfl⟩
  · exact ⟨hcount, rfl, rfl⟩

end StartFail

end Sys2Proof.Machine
end

section
/-! PROOF of CommandFramesAndRestarts (R89, R360, R410, R529): the frames that the MGP takes at MP, and the restart of its
firmware. -/

namespace Sys2Proof.Machine

section Frames

variable {s : State} {f : EthFrame} {rest : List EthFrame}

/-! ## Commands in frames (R410) -/

/-- What waits of a command frame. -/
def EthFrame.command (f : EthFrame) : DcpFrame :=
  ⟨frSa f.bytes, (f.bytes.drop 12).take (4 * tagCount f.bytes), f.bytes.drop (etOff f.bytes + 2)⟩

/-- The frame waits behind those that wait. -/
def State.frameQueued (s : State) (c : DcpFrame) : State := s.putDcp { s.dcp with frames := s.dcp.frames ++ [c] }

theorem frameCommand_discarded (h : s.mode ≠ 8) : s.frameCommand f = s := if_pos (by simp [h])

theorem frameCommand_taken (hm : s.mode = 8) (hr : s.dcp.restarting = false) (hl : s.dcp.frames.length < 4) :
    s.frameCommand f = if (s.runAt 24).isSome then s.frameQueued f.command else (s.frameQueued f.command).frameNext :=
  if_neg (by simp [hm, hr, hl])

theorem runAt_setRun (t : State) (r : DcpRun) : (t.setRun r).runAt r.slot = some r := List.find?_cons_of_pos (by simp)

/-- The oldest waiting frame runs in slot 24, for partition 0. -/
theorem frameNext_runs {c : DcpFrame} {rest : List DcpFrame} (h : s.dcp.frames = c :: rest) :
    ∃ r, s.frameNext = (s.putDcp { s.dcp with frames := rest, frameOf := some c }).setRun r ∧ r.slot = 24 ∧
      r.started = true ∧ r.opcode = beAt (c.body.take 16) 0 2 ∧ r.part = 0 := by
  unfold State.frameNext
  rw [h]
  exact ⟨_, rfl, rfl, rfl, rfl, rfl⟩

/-- The oldest frame has left MP. -/
def State.mpRest (s : State) (rest : List EthFrame) : State := s.setSwc { s.swc with mp := rest }

theorem exec_dcpFrameCommand (hd : s.domOn 2 = true) (hmp : s.swc.mp = f :: rest) (hf : isCommandFrame f = true) :
    exec .dcpFrameCommand s = .next ((s.mpRest rest).frameCommand f) := by
  show execDcpFrameCommand s = _
  unfold execDcpFrameCommand
  rw [hmp]
  exact if_neg (by rw [hd, hf]; decide)

theorem frameCommand_changes : Changes [.swc, .dcp] s ((s.mpRest rest).frameCommand f) :=
  ((State.frameCommand_keeps ..).comp (M := 1075838976) rfl ((State.setSwc_keeps ..).mono rfl)).changes rfl

theorem dcpFrameCommand_waits (hd : s.domOn 2 = true) (hmp : s.swc.mp = f :: rest) (hf : isCommandFrame f = true)
    (hm : s.mode = 8) (hr : s.dcp.restarting = false) (hl : s.dcp.frames.length < 4) (hrun : (s.runAt 24).isSome = true) :
    Gives (exec .dcpFrameCommand s) fun t => t.swc.mp = rest ∧
      (∃ c, t.dcp.frames = s.dcp.frames ++ [c] ∧ c.src = frSa f.bytes ∧ c.body = f.bytes.drop (etOff f.bytes + 2)) ∧
        t.dcp.runs = s.dcp.runs ∧ Changes [.swc, .dcp] s t := by
  have hq : (s.mpRest rest).frameCommand f = (s.mpRest rest).frameQueued f.command :=
    (frameCommand_taken (s := s.mpRest rest) hm hr hl).trans (if_pos hrun)
  exact ⟨_, (exec_dcpFrameCommand hd hmp hf).trans (congrArg _ hq), rfl, ⟨f.command, rfl, rfl, rfl⟩, rfl,
    hq ▸ frameCommand_changes⟩

theorem dcpFrameCommand_runs (hd : s.domOn 2 = true) (hmp : s.swc.mp = f :: rest) (hf : isCommandFrame f = true)
    (hm : s.mode = 8) (hr : s.dcp.restarting = false) (hl : s.dcp.frames = []) (hrun : s.runAt 24 = none) :
    Gives (exec .dcpFrameCommand s) fun t => t.swc.mp = rest ∧ t.dcp.frames = [] ∧
      (∃ r, t.runAt 24 = some r ∧ r.started = true ∧
        r.opcode = beAt ((f.bytes.drop (etOff f.bytes + 2)).take 16) 0 2 ∧ r.part = 0) ∧ Changes [.swc, .dcp] s t := by
  have hlen : s.dcp.frames.length < 4 := by simp [hl]
  have hidle : ¬((s.mpRest rest).runAt 24).isSome = true := by simpa using! hrun
  have hone : ((s.mpRest rest).frameQueued f.command).dcp.frames = f.command :: [] := congrArg (· ++ [f.command]) hl
  obtain ⟨r, hnext, hslot, hstart, hop, hpart⟩ := frameNext_runs hone
  have hq := ((frameCommand_taken (s := s.mpRest rest) (f := f) hm hr hlen).trans (if_neg hidle)).trans hnext
  refine ⟨_, (exec_dcpFrameCommand hd hmp hf).trans (congrArg _ hq), rfl, rfl, ⟨r, ?_, hstart, hop, hpart⟩,
    hq ▸ frameCommand_changes⟩
  rw [← hslot]
  exact runAt_setRun ..

theorem dcpFrameCommand_discards (hd : s.domOn 2 = true) (hmp : s.swc.mp = f :: rest) (hf : isCommandFrame f = true)
    (hm : s.mode ≠ 8) : Gives (exec .dcpFrameCommand s) fun t => t.swc.mp = rest ∧ Changes [.swc] s t :=
  ⟨_, (exec_dcpFrameCommand hd hmp hf).trans (congrArg _ (frameCommand_discarded (s := s.mpRest rest) hm)), rfl,
    (State.setSwc_keeps ..).changes rfl⟩

/-! ## Other frames at MP (R89, R360) -/

theorem mpStamp_software (h : tsClass f.cls f.bytes = false) : s.mpStamp f = BitVec.ofNat 64 (s.ltNs - 2100) := by
  rw [State.mpStamp, h]
  rfl

theorem mpStamp_mac (h : tsClass f.cls f.bytes = true) : s.mpStamp f = BitVec.ofNat 64 (f.ts.getD 0 / 65536) := by
  rw [State.mpStamp, h]
  rfl

/-- The MGP has taken the frame `f` and reads its timestamp. -/
def State.mpTaken (s : State) (f : EthFrame) (rest : List EthFrame) : State := (s.mpRest rest).putReadData (s.mpStamp f)

theorem mpTaken_shows : (s.mpTaken f rest).swc.mp = rest ∧
    (tsClass f.cls f.bytes = false → (s.mpTaken f rest).readData = BitVec.ofNat 64 (s.ltNs - 2100)) ∧
      (¬tsClass f.cls f.bytes = false → (s.mpTaken f rest).readData = BitVec.ofNat 64 (f.ts.getD 0 / 65536)) := by
  rw [State.mpTaken, State.putReadData_readData]
  exact ⟨rfl, mpStamp_software, fun h => mpStamp_mac (Bool.eq_true_of_not_eq_false h)⟩

theorem mpTaken_keeps : Keeps 2149580800 s (s.mpTaken f rest) :=
  (State.putReadData_keeps ..).comp rfl ((State.setSwc_keeps ..).mono rfl)

section Receive

variable (hd : s.domOn 2 = true) (hmp : s.swc.mp = f :: rest) (hf : isCommandFrame f = false)
  (hr : s.dcp.restarting = false)
include hd hmp hf hr

theorem exec_mpFrameReceive_plain (hn : etherType f.bytes ≠ 0x88B5 ∨ s.relayOf f = none) :
    exec .mpFrameReceive s = .next (s.mpTaken f rest) := by
  show execMpFrameReceive s = _
  unfold execMpFrameReceive
  rw [hmp]
  refine (if_neg (by rw [hd, hr]; decide)).trans ((if_neg (by rw [hf]; decide)).trans ?_)
  by_cases ht : etherType f.bytes = 0x88B5
  · have hrel : (s.mpTaken f rest).relayOf f = none := hn.resolve_left (not_not_intro ht)
    refine (if_pos (by simpa using ht)).trans ?_
    split
    case h_1 => rfl
    case h_2 c hc => cases hrel.symm.trans hc
  · exact if_neg (by simpa using ht)

theorem exec_mpFrameReceive_relay {c : Nat} (ht : etherType f.bytes = 0x88B5) (hc : s.relayOf f = some c) :
    exec .mpFrameReceive s = .next ((s.mpTaken f rest).sfiReceive c (f.bytes.drop (etOff f.bytes + 2))) := by
  have hrel : (s.mpTaken f rest).relayOf f = some c := hc
  show execMpFrameReceive s = _
  unfold execMpFrameReceive
  rw [hmp]
  refine (if_neg (by rw [hd, hr]; decide)).trans ((if_neg (by rw [hf]; decide)).trans
    ((if_pos (by simpa using ht)).trans ?_))
  split
  case h_1 hnone => cases hrel.symm.trans hnone
  case h_2 c' hc' =>
    obtain rfl : c = c' := Option.some.inj (hrel.symm.trans hc')
    rfl

theorem mpFrameReceive_plain (hn : etherType f.bytes ≠ 0x88B5 ∨ s.relayOf f = none) :
    Gives (exec .mpFrameReceive s) fun t => t.swc.mp = rest ∧
      (tsClass f.cls f.bytes = false → t.readData = BitVec.ofNat 64 (s.ltNs - 2100)) ∧
        (¬tsClass f.cls f.bytes = false → t.readData = BitVec.ofNat 64 (f.ts.getD 0 / 65536)) ∧
          Changes [.swc, .readData] s t := by
  obtain ⟨hrest, hsoft, hmac⟩ := mpTaken_shows (s := s) (f := f) (rest := rest)
  exact ⟨_, exec_mpFrameReceive_plain hd hmp hf hr hn, hrest, hsoft, hmac, mpTaken_keeps.changes rfl⟩

theorem mpFrameReceive_relay {c : Nat} (ht : etherType f.bytes = 0x88B5) (hc : s.relayOf f = some c)
    (hon : s.sfiOn = true) (hl : s.sfi.rx.length < 64) : Gives (exec .mpFrameReceive s) fun t => t.swc.mp = rest ∧
      (tsClass f.cls f.bytes = false → t.readData = BitVec.ofNat 64 (s.ltNs - 2100)) ∧
        t.sfi = { s.sfi with rx := s.sfi.rx ++ [(c, (f.bytes.drop (etOff f.bytes + 2)).take 126)] } ∧
          Changes [.swc, .sfi, .readData] s t := by
  obtain ⟨hrest, hsoft, _⟩ := mpTaken_shows (s := s) (f := f) (rest := rest)
  have hkeep := mpTaken_keeps (s := s) (f := f) (rest := rest)
  have hsfi : (s.mpTaken f rest).sfi = s.sfi := hkeep.same .sfi rfl
  have hfree : ¬(!(s.mpTaken f rest).sfiOn || decide (64 ≤ (s.mpTaken f rest).sfi.rx.length)) = true := by
    have hsame : (s.mpTaken f rest).sfiOn = s.sfiOn := rfl
    simp [hsame, hsfi, hon, hl]
  have he := exec_mpFrameReceive_relay hd hmp hf hr ht hc
  rw [State.sfiReceive, if_neg hfree, hsfi] at he
  exact ⟨_, he, hrest, hsoft, rfl, ((State.setSfi_keeps ..).comp (M := 2418016256) rfl (hkeep.mono rfl)).changes rfl⟩

end Receive

end Frames

/-! ## The watchdog of the MGP (R529) -/

section Watchdog

variable {s : State}

/-- An expiry is counted and logged; `n` expiries lie within 60 s. -/
def State.expiryNoted (s : State) (n : Nat) : State :=
  (s.inc SYSCTL_FAULT_STAT_MGP_RESTARTS).logEvent 0x0202 uSYSCTL 2 (min 255 n)

/-- The firmware is being restarted, with the expiries of `l` within 60 s. -/
def State.restartBegun (s : State) (l : List Nat) : State :=
  s.putDcp { s.dcp with restarting := true, expiries := l }

/-- The restart that an expiry brings about. -/
def State.mgpRestarted (s : State) (l : List Nat) : State :=
  ((s.expiryNoted l.length).agentReset agMGP).restartBegun l

/-- A watchdog that expires while no start runs and none has halted. -/
theorem exec_mgpWatchdogExpire {before : List Nat} (hd : s.domOn 2 = true) (hrun : s.boot.running = false)
    (hhalt : s.boot.halted = none) (hb : before = s.dcp.expiries.filter fun e => decide (s.ltNs < e + 60000000000)) :
    exec .mgpWatchdogExpire s = if 2 ≤ before.length
      then .next ((s.expiryNoted (before.length + 1)).startFail (some 0x0B))
      else .next (s.mgpRestarted (s.ltNs :: before)) := by
  subst hb
  refine (if_neg (by rw [hd, hrun, hhalt]; decide)).trans ?_
  simp only [List.length_cons, decide_eq_true_eq, Nat.succ_le_succ_iff]
  rfl

theorem writes_expiryNoted (s : State) (n : Nat) :
    Writes (· = SYSCTL_EVLOG) (s.inc SYSCTL_FAULT_STAT_MGP_RESTARTS) (s.expiryNoted n) :=
  Writes.logEvent (W := (· = SYSCTL_EVLOG)) .refl rfl _ _ _ _

theorem expiryNoted_keeps (s : State) (n : Nat) : Keeps 12296 s (s.expiryNoted n) :=
  (State.logEvent_keeps ..).comp rfl ((State.inc_keeps ..).mono rfl)

theorem expiryNoted_failCount (s : State) (n : Nat) : (s.expiryNoted n).boot.failCount = s.boot.failCount := by
  have h : { (s.expiryNoted n).boot with lifeCycle := s.boot.lifeCycle } = s.boot :=
    (expiryNoted_keeps s n).same .boot rfl
  exact (congrArg BootSt.failCount h :)

theorem expiryNoted_counts (s : State) (n : Nat) : CountsOne SYSCTL_FAULT_STAT_MGP_RESTARTS s (s.expiryNoted n) :=
  ((writes_expiryNoted s n).rd_eq (by decide)).trans (countsOne_inc s rfl)

theorem expiryNoted_epoch (s : State) (n : Nat) :
    (s.expiryNoted n).rd (MQF_EPOCHa_EPOCH 6) = s.rd (MQF_EPOCHa_EPOCH 6) :=
  ((writes_expiryNoted s n).rd_eq (by decide)).trans ((regsBut_wr s SYSCTL_FAULT_STAT_MGP_RESTARTS _).rd_eq (by decide))

theorem not_queueing_FAULT_STAT : ¬Queueing SYSCTL_FAULT_STAT := fun h => by
  have hb := h.beyond
  revert hb
  simp only [Beyond]
  decide

/-- The reset of agent 6 counts its epoch, releases its semaphores and leaves SYSCTL. -/
theorem agentReset_mgp (u : State) :
    (u.agentReset agMGP).rd SYSCTL_FAULT_STAT_MGP_RESTARTS = u.rd SYSCTL_FAULT_STAT_MGP_RESTARTS ∧
      (u.agentReset agMGP).rd (MQF_EPOCHa_EPOCH 6) = (u.rd (MQF_EPOCHa_EPOCH 6) + 1) % 2 ^ 16 ∧
      (∀ n, (u.agentReset agMGP).semHolder n ≠ 7) ∧ (u.agentReset agMGP).dcp = u.dcp :=
  ⟨(writes_agentReset u (by decide)).rd_eq not_queueing_FAULT_STAT, agentReset_epoch u (by decide),
    agentReset_holder u agMGP, (State.agentReset_keeps ..).same .dcp rfl⟩

theorem rd_restartBegun (u : State) (l : List Nat) (f : Fld) : (u.restartBegun l).rd f = u.rd f := rfl

theorem semHolder_restartBegun (u : State) (l : List Nat) (n : Nat) :
    (u.restartBegun l).semHolder n = u.semHolder n := rfl

theorem runs_restartBegun (u : State) (l : List Nat) : (u.restartBegun l).dcp.runs = u.dcp.runs := rfl

theorem mgpRestarted_keeps (s : State) (l : List Nat) : Keeps 1610690568 s (s.mgpRestarted l) :=
  (State.putDcp_keeps ..).comp rfl ((State.agentReset_keeps ..).comp rfl ((expiryNoted_keeps ..).mono rfl))

theorem mgpRestarted_shows (s : State) (l : List Nat) :
    (s.mgpRestarted l).dcp.restarting = true ∧ CountsOne SYSCTL_FAULT_STAT_MGP_RESTARTS s (s.mgpRestarted l) ∧
      (s.mgpRestarted l).rd (MQF_EPOCHa_EPOCH 6) = (s.rd (MQF_EPOCHa_EPOCH 6) + 1) % 2 ^ 16 ∧
      (∀ n, (s.mgpRestarted l).semHolder n ≠ 7) ∧ (s.mgpRestarted l).dcp.runs = s.dcp.runs ∧
      Changes [.regs, .evlog, .evLost, .msix, .mqf, .dcp] s (s.mgpRestarted l) := by
  have hdcp0 : (s.expiryNoted l.length).dcp = s.dcp := (expiryNoted_keeps ..).same .dcp rfl
  obtain ⟨hstat, hnext, hsem, hdcp⟩ := agentReset_mgp (s.expiryNoted l.length)
  refine ⟨rfl, ?_, ?_, fun n => ?_, ?_, (mgpRestarted_keeps s l).changes rfl⟩
  · rw [CountsOne, State.mgpRestarted, rd_restartBegun, hstat]
    exact expiryNoted_counts ..
  · rw [State.mgpRestarted, rd_restartBegun, hnext, expiryNoted_epoch]
  · rw [State.mgpRestarted, semHolder_restartBegun]
    exact hsem n
  · rw [State.mgpRestarted, runs_restartBegun, hdcp, hdcp0]

theorem watchdog_restarts {before : List Nat} (hd : s.domOn 2 = true) (hrun : s.boot.running = false)
    (hhalt : s.boot.halted = none) (hb : before = s.dcp.expiries.filter fun e => decide (s.ltNs < e + 60000000000))
    (hl : before.length < 2) : Gives (exec .mgpWatchdogExpire s) fun t =>
      t.dcp.restarting = true ∧ CountsOne SYSCTL_FAULT_STAT_MGP_RESTARTS s t ∧
        t.rd (MQF_EPOCHa_EPOCH 6) = (s.rd (MQF_EPOCHa_EPOCH 6) + 1) % 2 ^ 16 ∧ (∀ n, t.semHolder n ≠ 7) ∧
        t.dcp.runs = s.dcp.runs ∧ Changes [.regs, .evlog, .evLost, .msix, .mqf, .dcp] s t :=
  ⟨_, (exec_mgpWatchdogExpire hd hrun hhalt hb).trans (if_neg (Nat.not_le.2 hl)), mgpRestarted_shows ..⟩

/-- The third expiry within 60 s. -/
theorem watchdog_fails {before : List Nat} (hd : s.domOn 2 = true) (hrun : s.boot.running = false)
    (hhalt : s.boot.halted = none) (hb : before = s.dcp.expiries.filter fun e => decide (s.ltNs < e + 60000000000))
    (hl : 2 ≤ before.length) : Gives (exec .mgpWatchdogExpire s) fun t =>
      t.boot.failCount = min 3 (s.boot.failCount + 1) ∧ t.domOn 2 = false ∧
        t.boot.nextKind = some (if 2 ≤ s.boot.failCount then 3 else 2) ∧
        t.boot.nextCause = if 2 ≤ s.boot.failCount then 7 else 0x0B := by
  obtain ⟨hcount, hkind, hcause⟩ := startFail_boot (s.expiryNoted (before.length + 1)) (some 0x0B)
  have hoff := startFail_domState (s.expiryNoted (before.length + 1)) (some 0x0B) (d := 2) (by decide) (by decide)
  rw [expiryNoted_failCount] at hcount hkind hcause
  refine ⟨_, (exec_mgpWatchdogExpire hd hrun hhalt hb).trans (if_pos hl), hcount, ?_, hkind, hcause⟩
  rw [State.domOn, hoff]
  rfl

theorem mgpRestartDone_ends (h : s.dcp.restarting = true) : Gives (exec .mgpRestartDone s) fun t =>
    t.dcp = { s.dcp with restarting := false, runs := s.dcp.runs.map fun r =>
      if r.result = none then { r with result := some ⟨0x403, []⟩ } else r } ∧ Changes [.dcp] s t := by
  refine ⟨_, if_neg (by rw [h]; decide), ?_, (State.putDcp_keeps ..).changes rfl⟩
  simp only [State.putDcp_dcp, beq_iff_eq]

end Watchdog

/-- Settles O37: each clause is the law of one command. -/
theorem commandFramesAndRestarts : Obligations.CommandFramesAndRestarts := by
  intro s f rest body ns software before
  exact ⟨fun hd hmp hf => ⟨dcpFrameCommand_waits hd hmp hf, dcpFrameCommand_runs hd hmp hf,
      dcpFrameCommand_discards hd hmp hf⟩,
    fun hd hmp hf hr => ⟨mpFrameReceive_plain hd hmp hf hr, fun c => mpFrameReceive_relay hd hmp hf hr⟩,
    fun hd hrun hhalt => watchdog_restarts hd hrun hhalt rfl, fun hd hrun hhalt => watchdog_fails hd hrun hhalt rfl,
    mgpRestartDone_ends⟩

end Sys2Proof.Machine
end

section
/-! SUPPORT. What the switch's operations leave of the queues, the transmitters and the frames sent (R104, R145), and an
Ethernet port's registers and its record beyond them (R97 to R100). -/

namespace Sys2Proof.Machine

/-! ## Queues, transmitters and the frame output -/

/-- The queues, the frames in transmission, those interrupted and those sent are in `t` what they were in `s`. -/
structure LinesKept (s t : State) : Prop where
  queues : t.swc.queues = s.swc.queues
  tx : t.swc.tx = s.swc.tx
  held : t.swc.held = s.swc.held
  wire : t.swc.wire = s.swc.wire

section Lines

variable {s t u : State}

theorem LinesKept.refl : LinesKept s s := ⟨rfl, rfl, rfl, rfl⟩

theorem LinesKept.trans (h : LinesKept s t) (g : LinesKept t u) : LinesKept s u :=
  ⟨g.queues.trans h.queues, g.tx.trans h.tx, g.held.trans h.held, g.wire.trans h.wire⟩

/-- An operation whose mask leaves the switch out. -/
theorem LinesKept.of_keeps {m : Nat} (h : Keeps m s t) (hm : m.testBit Part.swc.ix = false) : LinesKept s t := by
  have hs : t.swc = s.swc := h.same .swc hm
  constructor <;> rw [hs]

theorem LinesKept.keeps {m : Nat} (h : LinesKept s t) (k : Keeps m t u) (hm : m.testBit Part.swc.ix = false) :
    LinesKept s u := h.trans (.of_keeps k hm)

theorem LinesKept.ite {c : Prop} [Decidable c] (h : LinesKept s t) (g : LinesKept s u) :
    LinesKept s (if c then t else u) := by split <;> assumption

theorem LinesKept.foldl {α : Type} {f : State → α → State} (hf : ∀ s x, LinesKept s (f s x)) (l : List α) :
    LinesKept s (l.foldl f s) :=
  List.foldlRecOn l f .refl fun t ht x _ => ht.trans (hf t x)

theorem LinesKept.queue_eq (h : LinesKept s t) (p c : Nat) : t.queue p c = s.queue p c := by
  simp only [State.queue, h.queues]

theorem LinesKept.txCur_eq (h : LinesKept s t) (p : Nat) : t.txCur p = s.txCur p := by
  simp only [State.txCur, h.tx]

theorem LinesKept.txHeld_eq (h : LinesKept s t) (p : Nat) : t.txHeld p = s.txHeld p := by
  simp only [State.txHeld, h.held]

theorem linesKept_putFrame (s : State) (id : Nat) (f : Option EthFrame) : LinesKept s (s.putFrame id f) :=
  ⟨rfl, rfl, rfl, rfl⟩

/-- The credit of a class changes, and nothing else. -/
theorem creditClass_eq (s : State) (p k : Nat) :
    ∃ c a, s.creditClass p k = s.setSwc { s.swc with credit := c, creditAt := a } := ⟨_, _, rfl⟩

theorem creditPort_eq (s : State) (p : Nat) :
    ∃ c a, s.creditPort p = s.setSwc { s.swc with credit := c, creditAt := a } := by
  obtain ⟨c, a, h⟩ := creditClass_eq s p 4
  obtain ⟨c', a', h'⟩ := creditClass_eq (s.creditClass p 4) p 5
  refine ⟨c', a', h'.trans ?_⟩
  rw [h]
  rfl

theorem linesKept_creditPort (s : State) (p : Nat) : LinesKept s (s.creditPort p) := by
  obtain ⟨c, a, h⟩ := creditPort_eq s p
  rw [h]
  exact ⟨rfl, rfl, rfl, rfl⟩

theorem frame_congr {s t : State} (h : t.swc = s.swc) (id : Nat) : t.frame id = s.frame id := by
  simp only [State.frame, h]

theorem frame_creditPort (s : State) (p id : Nat) : (s.creditPort p).frame id = s.frame id := by
  obtain ⟨c, a, h⟩ := creditPort_eq s p
  rw [h]
  rfl

theorem reg_creditPort (s : State) (p a : Nat) : (s.creditPort p).reg a = s.reg a := by
  have h : (s.creditPort p).regs = s.regs := (State.creditPort_keeps s p).same .regs rfl
  rw [State.reg, h, State.reg]

theorem linesKept_rxDiscard (s : State) (p : Nat) : LinesKept s (s.rxDiscard p) := ⟨rfl, rfl, rfl, rfl⟩

theorem linesKept_mirDropOnce (s : State) (id reason : Nat) : LinesKept s (s.mirDropOnce id reason) := by
  have h : LinesKept s (s.mirrorOnce id reason) := by
    unfold State.mirrorOnce
    split
    · exact .refl
    · exact .ite .refl ((LinesKept.of_keeps (State.mirror_keeps ..) rfl).trans (linesKept_putFrame ..))
  exact .ite h .refl

theorem linesKept_stampSettle (s : State) (id : Nat) : LinesKept s (s.stampSettle id) := by
  unfold State.stampSettle
  split
  · exact .refl
  · split
    · exact .ite .refl ((linesKept_putFrame ..).keeps (State.rookTxStamp_keeps ..) rfl)
    · exact .refl

theorem linesKept_frameFree (s : State) (id : Nat) : LinesKept s (s.frameFree id) := by
  unfold State.frameFree
  split
  · exact .refl
  · extract_lets s1 w s2
    have h1 : LinesKept s s1 := linesKept_putFrame ..
    have h2 : LinesKept s s2 := by
      simp only [s2]
      split
      · exact h1
      · exact h1.trans ⟨rfl, rfl, rfl, rfl⟩
    exact h2.keeps (State.freeUpdate_keeps _) rfl

theorem linesKept_frameRelease (s : State) (id : Nat) : LinesKept s (s.frameRelease id) := by
  have h := linesKept_stampSettle s id
  unfold State.frameRelease
  extract_lets s1
  exact .ite h (h.trans (linesKept_frameFree ..))

theorem linesKept_discardCopy (s : State) (reason id : Nat) : LinesKept s (s.discardCopy reason id) := by
  unfold State.discardCopy
  split
  · exact .refl
  · exact ((LinesKept.of_keeps (State.inc_keeps ..) rfl).trans (linesKept_mirDropOnce ..)).trans
      (linesKept_frameRelease ..)

theorem linesKept_epCut (s : State) (p : Nat) : LinesKept s (s.epCut p) := by
  unfold State.epCut
  split
  · exact .refl
  · refine LinesKept.keeps ?_ (State.rxCut_keeps ..) rfl
    exact ⟨rfl, rfl, rfl, rfl⟩

/-! ## An egress that is emptied or goes down (R145) -/

/-- Only the queues of egress `p` change, and all eight are empty. -/
structure Emptied (p : Nat) (s t : State) : Prop where
  queue : ∀ c < 8, t.queue p c = []
  tx : t.swc.tx = s.swc.tx
  held : t.swc.held = s.swc.held

theorem Emptied.lines {p : Nat} (h : Emptied p s t) (g : LinesKept t u) : Emptied p s u where
  queue c hc := (g.queue_eq p c).trans (h.queue c hc)
  tx := g.tx.trans h.tx
  held := g.held.trans h.held

theorem queue_setQueue_nil (s : State) (p c d : Nat) :
    (s.setQueue p d []).queue p c = if c = d then [] else s.queue p c := by
  simp only [State.queue, State.setQueue, State.setSwc, State.putSwc_swc, mapGet_put, Nat.add_left_cancel_iff]

theorem emptied_queues (s : State) (p : Nat) : Emptied p s ((List.range 8).foldl (fun t c => t.setQueue p c []) s) where
  queue c hc := foldl_establishes (Q := fun t => t.queue p c = []) (List.mem_range.2 hc)
    (fun t => by rw [queue_setQueue_nil, if_pos rfl])
    (fun t d _ ht => by rw [queue_setQueue_nil, ht, ite_self]) s
  tx := List.foldlRecOn (motive := fun t : State => t.swc.tx = s.swc.tx) _ _ rfl fun _ ht _ _ => ht
  held := List.foldlRecOn (motive := fun t : State => t.swc.held = s.swc.held) _ _ rfl fun _ ht _ _ => ht

theorem emptied_swFlush (s : State) (p : Nat) : Emptied p s (s.swFlush p) :=
  (emptied_queues s p).lines (.foldl (fun t i => linesKept_discardCopy t 0x1A i) _)

/-- Nothing is queued for egress `p`, and nothing is sent there. -/
structure Silent (p : Nat) (s : State) : Prop where
  queue : ∀ c < 8, s.queue p c = []
  tx : s.txCur p = none

theorem txCur_setTx (s : State) (p : Nat) (t : Option TxCur) : (s.setTx p t).txCur p = t := mapGet_put_same _ _ _ _

theorem wire_setTx (s : State) (p : Nat) (t : Option TxCur) : (s.setTx p t).swc.wire = s.swc.wire := rfl

theorem txCur_setHeld (s : State) (p q : Nat) (t : Option TxCur) : (s.setHeld p t).txCur q = s.txCur q := rfl

theorem silent_swPortDown (s : State) (p : Nat) : Silent p (s.swPortDown p) := by
  unfold State.swPortDown
  extract_lets s1 txs s2
  have h1 : Emptied p s s1 := (emptied_swFlush s p).lines (linesKept_epCut ..)
  clear_value s1
  have h2 : Silent p s2 := ⟨h1.queue, (txCur_setHeld ..).trans (txCur_setTx ..)⟩
  have h3 : LinesKept s2 (txs.foldl (fun t i => t.discardCopy 0x1A i) s2) :=
    .foldl (fun t i => linesKept_discardCopy t 0x1A i) _
  exact ⟨fun c hc => (h3.queue_eq p c).trans (h2.queue c hc), (h3.txCur_eq p).trans h2.tx⟩

end Lines

/-! ## The registers and the record of a port -/

/-- No register of an EPC port is among those that the switch changes. -/
theorem not_switching_epc {p b : Nat} (hp : p < 10) (hb : 0x02001000 ≤ b) (hb' : b ≤ 0x02001018) :
    ¬Switching (b + 0x40 * p) := by
  simp only [Switching, MEM_ECC_CNT, uSWC]
  omega

theorem EPC_PORTp_STAT_ne_CTL (p : Nat) : EPC_PORTp_STAT p ≠ EPC_PORTp_CTL p := by
  simp only [EPC_PORTp_CTL, EPC_PORTp_STAT]
  omega

theorem EPC_PORTp_CTL_ne_CNT (p : Nat) : EPC_PORTp_CTL p ≠ EPC_PORTp_CNT p := by
  simp only [EPC_PORTp_CTL, EPC_PORTp_CNT]
  omega

theorem EPC_PORTp_STAT_ne_CNT (p : Nat) : EPC_PORTp_STAT p ≠ EPC_PORTp_CNT p := by
  simp only [EPC_PORTp_STAT, EPC_PORTp_CNT]
  omega

@[simp] theorem State.epcPort_setEpcPort (s : State) (p : Nat) (e : EpcPort) : (s.setEpcPort p e).epcPort p = e :=
  mapGet_put_same _ _ _ _

@[simp] theorem State.reg_setEpcPort (s : State) (p : Nat) (e : EpcPort) (a : Nat) :
    (s.setEpcPort p e).reg a = s.reg a := rfl
@[simp] theorem State.rd_setEpcPort (s : State) (p : Nat) (e : EpcPort) (f : Fld) :
    (s.setEpcPort p e).rd f = s.rd f := rfl
@[simp] theorem State.bit_setEpcPort (s : State) (p : Nat) (e : EpcPort) (f : Fld) :
    (s.setEpcPort p e).bit f = s.bit f := rfl

/-- The state that a command answers is one that its mask relates to `s`. -/
theorem OKeeps.keeps_of_eq {m : Nat} {s t : State} {o : Host.Outcome State Fault Refusal} (h : OKeeps m s o)
    (he : o = .next t) : Keeps m s t := by
  obtain ⟨u, hu, hk⟩ := h
  cases hu.symm.trans he
  exact hk

end Sys2Proof.Machine
end

section
/-! PROOF of EthernetPorts, first part (R96 to R100, R139, R145): what each command that moves a port from state to state
comes to under the hypotheses of its clause, and what the state that it answers shows. -/

namespace Sys2Proof.Machine

section Ports

variable {s : State} {p : Fin 10}

/-! ## Starting (R98, R100) -/

theorem EPC_PORTp_STAT_mem (p : Nat) : EPC_PORTp_STAT p ∈ [EPC_PORTp_STAT p] := List.mem_singleton_self _

/-- What a port that starts shows: STARTING at SPEED, with PENDING as it was. -/
theorem portStart_shows (s : State) (p : Nat) :
    (s.portStart p).epcState p = 1 ∧
      (s.portStart p).rd (EPC_PORTp_STAT_CUR_SPEED p) = s.rd (EPC_PORTp_CTL_SPEED p) ∧
      (s.portStart p).bit (EPC_PORTp_STAT_PENDING p) = s.bit (EPC_PORTp_STAT_PENDING p) := by
  unfold State.portStart State.epcState
  extract_lets s1
  rw [State.rd_setEpcPort, State.rd_setEpcPort, State.bit_setEpcPort]
  refine ⟨?_, State.rd_wr_fits _ rfl (State.rd_lt ..), ?_⟩
  · exact (State.rd_wr_apart _ _ rfl rfl (Fld.apart_of_below (by decide : 2 < 20))).trans
      (State.rd_wr_fits _ rfl (by decide : 1 < 8))
  · exact (State.bit_wr_apart _ _ rfl rfl (Fld.apart_of_below (by decide : 7 < 20))).trans
      (State.bit_wr_apart _ _ rfl rfl (Fld.apart_of_above (by decide : 2 < 7)))

theorem regsBut_portStart (s : State) (p : Nat) : RegsBut [EPC_PORTp_STAT p] s (s.portStart p) := by
  unfold State.portStart
  extract_lets s1
  have h : RegsBut [EPC_PORTp_STAT p] s s1 :=
    (RegsBut.refl.wr (f := EPC_PORTp_STAT_STATE p) (EPC_PORTp_STAT_mem p) 1).wr
      (f := EPC_PORTp_STAT_CUR_SPEED p) (EPC_PORTp_STAT_mem p) _
  exact h.trans fun _ _ => State.reg_setEpcPort ..

theorem exec_portEnable (hd : s.domOn 6 = true) : exec (.portEnable p) s = .next (s.portEnable p) :=
  congrArg Host.Outcome.next (if_pos hd)

/-- EN by itself moves no state. -/
theorem epcState_wrEN (s : State) (p : Nat) (b : Bool) : (s.wrB (EPC_PORTp_CTL_EN p) b).epcState p = s.epcState p :=
  State.rd_congr (State.reg_wr_ne s _ (EPC_PORTp_STAT_ne_CTL p))

theorem portEnable_off (hp : s.portDesignated p = true) (h : s.epcState p = 0) :
    s.portEnable p = (s.wrB (EPC_PORTp_CTL_EN p) true).portStart p := by
  simp [State.portEnable, hp, epcState_wrEN, h]

theorem portEnable_stopping (hp : s.portDesignated p = true) (h : s.epcState p = 4) :
    s.portEnable p = (s.wrB (EPC_PORTp_CTL_EN p) true).wrB (EPC_PORTp_STAT_PENDING p) true := by
  simp [State.portEnable, hp, epcState_wrEN, h]

theorem portEnable_starts (hd : s.domOn 6 = true) (hp : s.portDesignated p = true) (h : s.epcState p = 0) :
    Gives (exec (.portEnable p) s) fun t =>
      t.epcState p = 1 ∧ t.bit (EPC_PORTp_CTL_EN p) = true ∧
        t.rd (EPC_PORTp_STAT_CUR_SPEED p) = s.rd (EPC_PORTp_CTL_SPEED p) ∧
        RegsBut [EPC_PORTp_CTL p, EPC_PORTp_STAT p] s t ∧ Changes [.regs, .epc] s t := by
  have he := portEnable_off hp h
  obtain ⟨hst, hspeed, _⟩ := portStart_shows (s.wrB (EPC_PORTp_CTL_EN p) true) p
  have hregs := regsBut_portStart (s.wrB (EPC_PORTp_CTL_EN p) true) p
  have hctl : EPC_PORTp_CTL p ∉ [EPC_PORTp_STAT p] := by simp [(EPC_PORTp_STAT_ne_CTL p).symm]
  have hch : Changes [.regs, .epc] s (s.portEnable p) := (State.portEnable_keeps ..).changes rfl
  rw [he] at hch
  refine ⟨_, (exec_portEnable hd).trans (congrArg Host.Outcome.next he), hst, ?_, ?_, ?_, hch⟩
  · exact (State.bit_congr (hregs _ hctl)).trans (State.bit_wrB_same s true rfl)
  · exact hspeed.trans (State.rd_wr_apart s _ rfl rfl (Fld.apart_of_above (by decide : 0 < 4)))
  · exact ((regsBut_wr s (EPC_PORTp_CTL_EN p) _).mono (by simp [EPC_PORTp_CTL_EN])).trans (hregs.mono (by simp))

theorem portEnable_pending (hd : s.domOn 6 = true) (hp : s.portDesignated p = true) (h : s.epcState p = 4) :
    Gives (exec (.portEnable p) s) fun t =>
      t.epcState p = 4 ∧ t.bit (EPC_PORTp_STAT_PENDING p) = true ∧
        RegsBut [EPC_PORTp_CTL p, EPC_PORTp_STAT p] s t ∧ Changes [.regs] s t := by
  refine ⟨_, (exec_portEnable hd).trans (congrArg Host.Outcome.next (portEnable_stopping hp h)), ?_,
    State.bit_wrB_same _ true rfl, ?_, ((State.wrB_keeps ..).comp rfl (State.wrB_keeps ..)).changes rfl⟩
  · exact (State.rd_wr_apart _ _ rfl rfl (Fld.apart_of_below (by decide : 2 < 7))).trans
      ((epcState_wrEN s p true).trans h)
  · exact (RegsBut.refl.wrB (f := EPC_PORTp_CTL_EN p) List.mem_cons_self true).wrB (f := EPC_PORTp_STAT_PENDING p)
      (List.mem_cons_of_mem _ List.mem_cons_self) true

theorem portEnable_undesignated (hd : s.domOn 6 = true) (hp : s.portDesignated p = false) :
    Gives (exec (.portEnable p) s) fun t => t = s :=
  ⟨_, exec_portEnable hd, if_pos (by rw [hp]; rfl)⟩

/-! ## Stopping (R99, R100) -/

theorem exec_portDisable (hd : s.domOn 6 = true) : exec (.portDisable p) s = .next (s.portDisable p) :=
  congrArg Host.Outcome.next (if_pos hd)

theorem portDisable_stopping (h : s.epcState p = 4) :
    s.portDisable p = (s.wrB (EPC_PORTp_CTL_EN p) false).wrB (EPC_PORTp_STAT_PENDING p) false := by
  simp [State.portDisable, epcState_wrEN, h]

/-- What EPC_PORTp_CTL and _STAT show of a port that begins to stop. -/
def State.portStopped (s : State) (p : Nat) : State :=
  ((s.wrB (EPC_PORTp_CTL_EN p) false).wr (EPC_PORTp_STAT_STATE p) 4).wrB (EPC_PORTp_STAT_PAUSED p) false

theorem portDisable_running (h1 : 1 ≤ s.epcState p) (h3 : s.epcState p ≤ 3) :
    s.portDisable p = (((s.portStopped p).preOff p).rxDiscard p).swFlush p := by
  have h4 : s.epcState p ≠ 4 := by omega
  have h0 : s.epcState p ≠ 0 := by omega
  simp [State.portDisable, epcState_wrEN, h4, h0, State.portStopped]

theorem portStopped_keeps (s : State) (p : Nat) : Keeps 8 s (s.portStopped p) :=
  (State.wrB_keeps ..).comp rfl ((State.wr_keeps ..).comp rfl (State.wrB_keeps ..))

theorem portStopped_shows (s : State) (p : Nat) :
    (s.portStopped p).epcState p = 4 ∧ (s.portStopped p).bit (EPC_PORTp_CTL_EN p) = false ∧
      (s.portStopped p).bit (EPC_PORTp_STAT_PAUSED p) = false := by
  have hctl := (EPC_PORTp_STAT_ne_CTL p).symm
  refine ⟨?_, ?_, State.bit_wrB_same _ false rfl⟩
  · exact (State.rd_wr_apart _ _ rfl rfl (Fld.apart_of_below (by decide : 2 < 16))).trans
      (State.rd_wr_fits _ rfl (by decide : 4 < 8))
  · calc (s.portStopped p).bit (EPC_PORTp_CTL_EN p)
        = ((s.wrB (EPC_PORTp_CTL_EN p) false).wr (EPC_PORTp_STAT_STATE p) 4).bit (EPC_PORTp_CTL_EN p) :=
          State.bit_congr (State.reg_wr_ne _ _ hctl)
      _ = (s.wrB (EPC_PORTp_CTL_EN p) false).bit (EPC_PORTp_CTL_EN p) := State.bit_congr (State.reg_wr_ne _ _ hctl)
      _ = false := State.bit_wrB_same s false rfl

theorem writes_preOff (s : State) (p : Nat) : Writes Switching s (s.preOff p) :=
  (Writes.refl.wrB (f := SWC_PORTp_PRE_ACTIVE p) (switching_index (by decide)) _).wrB (f := SWC_PORTp_PRE_HOLD p)
    (switching_index (by decide)) _

theorem portDisable_pending (hd : s.domOn 6 = true) (h : s.epcState p = 4) :
    Gives (exec (.portDisable p) s) fun t =>
      t.epcState p = 4 ∧ t.bit (EPC_PORTp_STAT_PENDING p) = false ∧
        RegsBut [EPC_PORTp_CTL p, EPC_PORTp_STAT p] s t ∧ Changes [.regs] s t := by
  refine ⟨_, (exec_portDisable hd).trans (congrArg Host.Outcome.next (portDisable_stopping h)), ?_,
    State.bit_wrB_same _ false rfl, ?_, ((State.wrB_keeps ..).comp rfl (State.wrB_keeps ..)).changes rfl⟩
  · exact (State.rd_wr_apart _ _ rfl rfl (Fld.apart_of_below (by decide : 2 < 7))).trans
      ((epcState_wrEN s p false).trans h)
  · exact (RegsBut.refl.wrB (f := EPC_PORTp_CTL_EN p) List.mem_cons_self false).wrB (f := EPC_PORTp_STAT_PENDING p)
      (List.mem_cons_of_mem _ List.mem_cons_self) false

theorem portDisable_stops (hd : s.domOn 6 = true) (h1 : 1 ≤ s.epcState p) (h3 : s.epcState p ≤ 3) :
    Gives (exec (.portDisable p) s) fun t =>
      t.epcState p = 4 ∧ t.bit (EPC_PORTp_CTL_EN p) = false ∧ t.bit (EPC_PORTp_STAT_PAUSED p) = false ∧
        t.txCur p = s.txCur p ∧ t.txHeld p = s.txHeld p ∧ (∀ c < 8, t.queue p c = []) ∧
        Changes [.regs, .sram, .mem, .swc, .rooks] s t := by
  have he := portDisable_running h1 h3
  have hctl : ¬Switching (EPC_PORTp_CTL p) := not_switching_epc p.isLt (by decide) (by decide)
  have hstat : ¬Switching (EPC_PORTp_STAT p) := not_switching_epc p.isLt (by decide) (by decide)
  obtain ⟨hst, hen, hpaused⟩ := portStopped_shows s p
  have hw : Writes Switching (s.portStopped p) (s.portDisable p) := he ▸
    ((writes_preOff ..).keeps (State.rxDiscard_keeps ..) rfl).trans (writes_swFlush ..)
  have hpre : LinesKept s (((s.portStopped p).preOff p).rxDiscard p) :=
    ((LinesKept.of_keeps (portStopped_keeps s p) rfl).keeps (State.preOff_keeps ..) rfl).trans (linesKept_rxDiscard ..)
  have hq := emptied_swFlush (((s.portStopped p).preOff p).rxDiscard p) p
  rw [← he] at hq
  have htx : (s.portDisable p).txCur p = s.txCur p := by simp only [State.txCur, hq.tx, hpre.tx]
  have hheld : (s.portDisable p).txHeld p = s.txHeld p := by simp only [State.txHeld, hq.held, hpre.held]
  exact ⟨s.portDisable p, exec_portDisable hd, (hw.rd_eq hstat).trans hst, (hw.bit_eq hctl).trans hen,
    (hw.bit_eq hstat).trans hpaused, htx, hheld, hq.queue, (State.portDisable_keeps ..).changes rfl⟩

/-- OFF: the registers of the port but CTL and TXTHR, and its record, are cleared. -/
def State.portOff (s : State) (p : Nat) : State :=
  ((s.setReg (EPC_PORTp_STAT p) 0).setReg (EPC_PORTp_CNT p) 0).setEpcPort p EpcPort.reset

theorem exec_portStopDone (hd : s.domOn 6 = true) (h : s.epcState p = 4) (htx : s.txCur p = none)
    (hheld : s.txHeld p = none) : exec (.portStopDone p) s =
      .next (if s.bit (EPC_PORTp_STAT_PENDING p) then (s.portOff p).portStart p else s.portOff p) :=
  if_neg (by simp [hd, h, State.macBusy, htx, hheld])

theorem portOff_stat (s : State) (p : Nat) : (s.portOff p).reg (EPC_PORTp_STAT p) = 0 :=
  (State.reg_setReg_ne _ _ (EPC_PORTp_STAT_ne_CNT p)).trans (State.reg_setReg_same ..)

theorem portOff_shows (s : State) (p : Nat) :
    (s.portOff p).epcState p = 0 ∧ (s.portOff p).reg (EPC_PORTp_CNT p) = 0 ∧
      (s.portOff p).bit (EPC_PORTp_STAT_PENDING p) = false := by
  have h : ∀ f : Fld, f.addr = EPC_PORTp_STAT p → (s.portOff p).rd f = 0 := fun f hf => by
    simp [State.rd, hf, portOff_stat, bitsOf]
  refine ⟨h _ rfl, State.reg_setReg_same .., ?_⟩
  rw [State.bit, h _ rfl]
  rfl

theorem regsBut_portOff (s : State) (p : Nat) : RegsBut [EPC_PORTp_STAT p, EPC_PORTp_CNT p] s (s.portOff p) := by
  have h1 : RegsBut [EPC_PORTp_STAT p, EPC_PORTp_CNT p] s (s.setReg (EPC_PORTp_STAT p) 0) :=
    (regsBut_setReg _ _ _).mono (by simp)
  exact (h1.trans ((regsBut_setReg _ _ _).mono (by simp))).trans fun _ _ => State.reg_setEpcPort ..

theorem portStopDone_ends (hd : s.domOn 6 = true) (h : s.epcState p = 4) (htx : s.txCur p = none)
    (hheld : s.txHeld p = none) : Gives (exec (.portStopDone p) s) fun t =>
      t.epcState p = b2n (s.bit (EPC_PORTp_STAT_PENDING p)) ∧ t.reg (EPC_PORTp_CNT p) = 0 ∧
        t.bit (EPC_PORTp_STAT_PENDING p) = false ∧
        RegsBut [EPC_PORTp_STAT p, EPC_PORTp_CNT p] s t ∧ Changes [.regs, .epc] s t := by
  have he := exec_portStopDone hd h htx hheld
  have hch := ((execPortStopDone_keeps p s).keeps_of_eq he).changes (l := [.regs, .epc]) rfl
  obtain ⟨hst, hcnt, hpend⟩ := portOff_shows s p
  have hregs := regsBut_portOff s p
  refine ⟨_, he, ?_⟩
  cases hb : s.bit (EPC_PORTp_STAT_PENDING p) with
  | false =>
    rw [hb] at hch
    exact ⟨hst, hcnt, hpend, hregs, hch⟩
  | true =>
    rw [hb] at hch
    have hstart := regsBut_portStart (s.portOff p) p
    obtain ⟨hst', _, hpend'⟩ := portStart_shows (s.portOff p) p
    have hne : EPC_PORTp_CNT p ∉ [EPC_PORTp_STAT p] := by simp [(EPC_PORTp_STAT_ne_CNT p).symm]
    exact ⟨hst', (hstart _ hne).trans hcnt, hpend'.trans hpend, hregs.trans (hstart.mono (by simp)), hch⟩

/-! ## The link (R96 to R98, R139) -/

theorem exec_portCalibrationDone (hd : s.domOn 6 = true) (h : s.epcState p = 1) : exec (.portCalibrationDone p) s =
    .next ((s.wr (EPC_PORTp_STAT_STATE p) 2).setEpcPort p { s.epcPort p with waitSince := s.ltNs }) :=
  if_neg (by simp [hd, h])

theorem portCalibrationDone_waits (hd : s.domOn 6 = true) (h : s.epcState p = 1) :
    Gives (exec (.portCalibrationDone p) s) fun t =>
      t.epcState p = 2 ∧ (t.epcPort p).waitSince = s.ltNs ∧ RegsBut [EPC_PORTp_STAT p] s t ∧
        Changes [.regs, .epc] s t := by
  have he := exec_portCalibrationDone hd h
  refine ⟨_, he, State.rd_wr_fits s rfl (by decide : 2 < 8), ?_, regsBut_wr s (EPC_PORTp_STAT_STATE p) 2,
    ((execPortCalibrationDone_keeps p s).keeps_of_eq he).changes rfl⟩
  rw [State.epcPort_setEpcPort]

/-- The port UP, with no failed negotiation to show. -/
def State.linkedUp (s : State) (p : Nat) : State :=
  (s.wr (EPC_PORTp_STAT_STATE p) 3).wrB (EPC_PORTp_STAT_NEG_FAIL p) false

theorem linkedUp_shows (s : State) (p : Nat) :
    (s.linkedUp p).epcState p = 3 ∧ (s.linkedUp p).bit (EPC_PORTp_STAT_NEG_FAIL p) = false ∧
      RegsBut [EPC_PORTp_STAT p] s (s.linkedUp p) := by
  refine ⟨?_, State.bit_wrB_same _ false rfl, ?_⟩
  · exact (State.rd_wr_apart _ _ rfl rfl (Fld.apart_of_below (by decide : 2 < 8))).trans
      (State.rd_wr_fits s rfl (by decide : 3 < 8))
  · exact (RegsBut.refl.wr (f := EPC_PORTp_STAT_STATE p) (EPC_PORTp_STAT_mem p) 3).wrB (f := EPC_PORTp_STAT_NEG_FAIL p)
      (EPC_PORTp_STAT_mem p) false

theorem exec_linkUp (hd : s.domOn 6 = true) (h : s.epcState p = 2) :
    ∃ e, exec (.linkUp p) s = .next ((s.linkedUp p).setEpcPort p e) :=
  ⟨_, if_neg (by simp [hd, h])⟩

theorem linkUp_up (hd : s.domOn 6 = true) (h : s.epcState p = 2) : Gives (exec (.linkUp p) s) fun t =>
    t.epcState p = 3 ∧ t.bit (EPC_PORTp_STAT_NEG_FAIL p) = false ∧ RegsBut [EPC_PORTp_STAT p] s t ∧
      Changes [.regs, .epc] s t := by
  obtain ⟨e, he⟩ := exec_linkUp hd h
  obtain ⟨hst, hneg, hregs⟩ := linkedUp_shows s p
  exact ⟨_, he, hst, hneg, hregs, ((execLinkUp_keeps p s).keeps_of_eq he).changes rfl⟩

/-- LINK_WAIT after a drop that LINK_DOWN has counted. -/
def State.linkLost (s : State) (p : Nat) : State :=
  ((s.wr (EPC_PORTp_STAT_STATE p) 2).inc (EPC_PORTp_CNT_LINK_DOWN p)).wrB (EPC_PORTp_STAT_PAUSED p) false

theorem linkLost_shows (s : State) (p : Nat) :
    (s.linkLost p).epcState p = 2 ∧ CountsOne (EPC_PORTp_CNT_LINK_DOWN p) s (s.linkLost p) := by
  have hne := EPC_PORTp_STAT_ne_CNT p
  constructor
  · calc (s.linkLost p).epcState p
        = ((s.wr (EPC_PORTp_STAT_STATE p) 2).inc (EPC_PORTp_CNT_LINK_DOWN p)).epcState p :=
          State.rd_wr_apart _ _ rfl rfl (Fld.apart_of_below (by decide : 2 < 16))
      _ = (s.wr (EPC_PORTp_STAT_STATE p) 2).epcState p := State.rd_congr (State.reg_wr_ne _ _ hne)
      _ = 2 := State.rd_wr_fits s rfl (by decide : 2 < 8)
  · calc (s.linkLost p).rd (EPC_PORTp_CNT_LINK_DOWN p)
        = ((s.wr (EPC_PORTp_STAT_STATE p) 2).inc (EPC_PORTp_CNT_LINK_DOWN p)).rd (EPC_PORTp_CNT_LINK_DOWN p) :=
          State.rd_congr (State.reg_wr_ne _ _ hne.symm)
      _ = satUnsigned 8 ((s.wr (EPC_PORTp_STAT_STATE p) 2).rd (EPC_PORTp_CNT_LINK_DOWN p) + 1) := countsOne_inc _ rfl
      _ = satUnsigned 8 (s.rd (EPC_PORTp_CNT_LINK_DOWN p) + 1) := by
          rw [State.rd_congr (State.reg_wr_ne s _ hne.symm)]

theorem exec_linkDown (hd : s.domOn 6 = true) (h : s.epcState p = 3) :
    ∃ e, exec (.linkDown p) s = .next ((((s.linkLost p).preOff p).setEpcPort p e).swPortDown p) :=
  ⟨_, congrArg Host.Outcome.next (if_pos (by simp [hd, h]))⟩

theorem linkDown_waits (hd : s.domOn 6 = true) (h : s.epcState p = 3) : Gives (exec (.linkDown p) s) fun t =>
    t.epcState p = 2 ∧ CountsOne (EPC_PORTp_CNT_LINK_DOWN p) s t ∧ t.txCur p = none ∧
      (∀ c < 8, t.queue p c = []) ∧ Changes [.regs, .sram, .mem, .epc, .swc, .rooks] s t := by
  obtain ⟨e, he⟩ := exec_linkDown hd h
  have hstat : ¬Switching (EPC_PORTp_STAT p) := not_switching_epc p.isLt (by decide) (by decide)
  have hcnt : ¬Switching (EPC_PORTp_CNT p) := not_switching_epc p.isLt (by decide) (by decide)
  obtain ⟨hst, hcount⟩ := linkLost_shows s p
  have hdown := silent_swPortDown (((s.linkLost p).preOff p).setEpcPort p e) p
  have hw := ((writes_preOff (s.linkLost p) p).keeps (State.setEpcPort_keeps _ p e) rfl).trans (writes_swPortDown _ p)
  exact ⟨_, he, (hw.rd_eq hstat).trans hst, (hw.rd_eq hcnt).trans hcount, hdown.tx, hdown.queue,
    ((execLinkDown_keeps p s).keeps_of_eq he).changes rfl⟩

theorem portAdvert_isSome (h : s.bit (EPC_PORTp_CTL_AN_EN p) = true)
    (hif : s.rd (EPC_PORTp_CTL_IF p) ∈ [0, 1, 2, 4]) : (s.portAdvert p).isSome = true := by
  have hif' : s.rd (EPC_PORTp_CTL_IF p) < 3 ∨ s.rd (EPC_PORTp_CTL_IF p) = 4 := by
    simp only [List.mem_cons, List.not_mem_nil, or_false] at hif
    omega
  simp [State.portAdvert, h, hif']

theorem exec_negotiationFail (hd : s.domOn 6 = true) (h : s.epcState p = 2) (hadv : (s.portAdvert p).isSome = true) :
    exec (.negotiationFail p) s = .next (s.wrB (EPC_PORTp_STAT_NEG_FAIL p) true) :=
  congrArg Host.Outcome.next (if_pos (by simp [hd, h, hadv]))

theorem negotiationFail_shows (hd : s.domOn 6 = true) (h : s.epcState p = 2)
    (han : s.bit (EPC_PORTp_CTL_AN_EN p) = true) (hif : s.rd (EPC_PORTp_CTL_IF p) ∈ [0, 1, 2, 4]) :
    Gives (exec (.negotiationFail p) s) fun t =>
      t.epcState p = 2 ∧ t.bit (EPC_PORTp_STAT_NEG_FAIL p) = true ∧ RegsBut [EPC_PORTp_STAT p] s t ∧
        Changes [.regs] s t :=
  ⟨_, exec_negotiationFail hd h (portAdvert_isSome han hif),
    (State.rd_wr_apart s _ rfl rfl (Fld.apart_of_below (by decide : 2 < 8))).trans h, State.bit_wrB_same s true rfl,
    regsBut_wr s (EPC_PORTp_STAT_NEG_FAIL p) _, (State.wrB_keeps ..).changes rfl⟩

theorem exec_preemptVerifyDone (hd : s.domOn 6 = true) (h : s.epcState p = 3)
    (hpre : s.bit (EPC_PORTp_CTL_PREEMPT_EN p) = true) :
    exec (.preemptVerifyDone p) s = .next (s.wrB (SWC_PORTp_PRE_ACTIVE p) true) :=
  congrArg Host.Outcome.next (if_pos (by simp [hd, h, hpre]))

theorem preemptVerifyDone_activates (hd : s.domOn 6 = true) (h : s.epcState p = 3)
    (hpre : s.bit (EPC_PORTp_CTL_PREEMPT_EN p) = true) : Gives (exec (.preemptVerifyDone p) s) fun t =>
      t.bit (SWC_PORTp_PRE_ACTIVE p) = true ∧ RegsBut [SWC_PORTp_PRE p] s t ∧ Changes [.regs] s t :=
  ⟨_, exec_preemptVerifyDone hd h hpre, State.bit_wrB_same s true rfl, regsBut_wr s (SWC_PORTp_PRE_ACTIVE p) _,
    (State.wrB_keeps ..).changes rfl⟩

end Ports

theorem portStates : Sys2Proof.Rules.portStates := by
  intro s p hd st two
  exact ⟨portEnable_starts hd, portEnable_pending hd, portEnable_undesignated hd, portDisable_pending hd,
    portDisable_stops hd, portStopDone_ends hd, portCalibrationDone_waits hd, linkUp_up hd, linkDown_waits hd,
    negotiationFail_shows hd, preemptVerifyDone_activates hd⟩

end Sys2Proof.Machine
end

section
/-! PROOF of EthernetPorts, second part (R104, R106, R109, R111): a speed step, the end of a pause, an underrun and a
read of the counters. That a pause waits for the frame in transmission, and that the count of drops starts anew with each
step, are the model's choices (logs 34 and 89). -/

namespace Sys2Proof.Machine

section Events

variable {s : State} {p : Fin 10}

/-! ## Speed stepping (R111) -/

/-- When the port steps: at once after three drops, otherwise when LINK_WAIT has lasted 2 s. -/
def State.stepAt (s : State) (p : Nat) : State :=
  if threeDrops (s.epcPort p) s.ltNs then s else s.advanceTo (((s.epcPort p).waitSince + 2000000000) * nsU)

theorem regsBut_stepAt (s : State) (p : Nat) : RegsBut [NTU_CAST_STAT, NTU_CYC_CTL] s (s.stepAt p) := by
  unfold State.stepAt
  split
  · exact RegsBut.refl
  · exact regsBut_advanceTo s _

theorem le_stepAt_lt (hd : s.domOn 6 = true) (h : threeDrops (s.epcPort p) s.ltNs = false) :
    ((s.epcPort p).waitSince + 2000000000) * 2 ^ 32 ≤ (s.stepAt p).ntu.lt := by
  rw [State.stepAt, if_neg (Bool.eq_false_iff.1 h)]
  exact State.le_advanceTo_lt hd _

theorem EPC_PORTp_STAT_not_time (p : Fin 10) : EPC_PORTp_STAT p ∉ [NTU_CAST_STAT, NTU_CYC_CTL] := by
  simp only [List.mem_cons, List.not_mem_nil, or_false, EPC_PORTp_STAT, NTU_CAST_STAT, NTU_CYC_CTL]
  omega

/-- The rate `n` in use, and the step counted. -/
def State.stepped (s : State) (p n : Nat) : State :=
  (s.wr (EPC_PORTp_STAT_CUR_SPEED p) n).inc (EPC_PORTp_STAT_STEPS p)

theorem stepped_shows (s : State) (p : Nat) {n : Nat} (hn : n < 16) :
    (s.stepped p n).rd (EPC_PORTp_STAT_CUR_SPEED p) = n ∧ CountsOne (EPC_PORTp_STAT_STEPS p) s (s.stepped p n) ∧
      (s.stepped p n).epcState p = s.epcState p := by
  refine ⟨?_, ?_, ?_⟩
  · exact (State.rd_wr_apart _ _ rfl rfl (Fld.apart_of_below (by decide : 23 < 24))).trans (State.rd_wr_fits s rfl hn)
  · have h := countsOne_inc (s.wr (EPC_PORTp_STAT_CUR_SPEED p) n) (f := EPC_PORTp_STAT_STEPS p) rfl
    rwa [CountsOne, State.rd_wr_apart s n rfl rfl (Fld.apart_of_above (by decide : 23 < 24))] at h
  · exact (State.rd_wr_apart _ _ rfl rfl (Fld.apart_of_below (by decide : 2 < 24))).trans
      (State.rd_wr_apart s n rfl rfl (Fld.apart_of_below (by decide : 2 < 20)))

/-- The step once it is due, at which the port goes down for the switch. -/
def State.steppedDown (s : State) (p n : Nat) (e : EpcPort) : State :=
  ((s.stepped p n).setEpcPort p { e with waitSince := (s.stepped p n).ltNs, drops := [] }).swPortDown p

theorem writes_steppedDown (s : State) (p n : Nat) (e : EpcPort) :
    Writes Switching (s.stepped p n) (s.steppedDown p n e) :=
  (Writes.of_keeps (State.setEpcPort_keeps ..) rfl).trans (writes_swPortDown ..)

theorem steppedDown_keeps (s : State) (p n : Nat) (e : EpcPort) : Keeps 7342104 s (s.steppedDown p n e) :=
  (State.swPortDown_keeps ..).comp rfl ((State.setEpcPort_keeps ..).comp rfl ((State.inc_keeps ..).comp rfl
    ((State.wr_keeps ..).mono rfl)))

theorem exec_speedStep (hd : s.domOn 6 = true) (h : s.epcState p = 2) (hon : (s.epcPort p).stepOn = true)
    (hif : s.rd (EPC_PORTp_CTL_IF p) = 4)
    (hcur : s.rd (EPC_PORTp_STAT_CUR_SPEED p) = 4 ∨ s.rd (EPC_PORTp_STAT_CUR_SPEED p) = 5) :
    exec (.speedStep p) s =
      .next ((s.stepAt p).steppedDown p (s.rd (EPC_PORTp_STAT_CUR_SPEED p) - 1) (s.epcPort p)) := by
  have hc : (!s.domOn 6 || s.epcState p != 2 || !(s.epcPort p).stepOn || s.rd (EPC_PORTp_CTL_IF p) != 4 ||
      !(s.rd (EPC_PORTp_STAT_CUR_SPEED p) == 5 || s.rd (EPC_PORTp_STAT_CUR_SPEED p) == 4)) = false := by
    rcases hcur with hc | hc <;> simp [hd, h, hon, hif, hc]
  show execSpeedStep p s = _
  unfold execSpeedStep
  extract_lets e cur
  rw [if_neg (Bool.eq_false_iff.1 hc)]
  rfl

theorem speedStep_steps (hd : s.domOn 6 = true) (h : s.epcState p = 2) (hon : (s.epcPort p).stepOn = true)
    (hif : s.rd (EPC_PORTp_CTL_IF p) = 4)
    (hcur : s.rd (EPC_PORTp_STAT_CUR_SPEED p) = 4 ∨ s.rd (EPC_PORTp_STAT_CUR_SPEED p) = 5) :
    Gives (exec (.speedStep p) s) fun t =>
      t.rd (EPC_PORTp_STAT_CUR_SPEED p) = s.rd (EPC_PORTp_STAT_CUR_SPEED p) - 1 ∧
        CountsOne (EPC_PORTp_STAT_STEPS p) s t ∧ t.epcState p = 2 ∧
        (threeDrops (s.epcPort p) s.ltNs = false →
          ((s.epcPort p).waitSince + 2000000000) * 2 ^ 32 ≤ t.ntu.lt) ∧
        Changes [.regs, .sram, .mem, .ntu, .epc, .swc, .rooks] s t := by
  have he := exec_speedStep hd h hon hif hcur
  have hch := ((execSpeedStep_keeps p s).keeps_of_eq he).changes
    (l := [.regs, .sram, .mem, .ntu, .epc, .swc, .rooks]) rfl
  have hstat : ¬Switching (EPC_PORTp_STAT p) := not_switching_epc p.isLt (by decide) (by decide)
  have hwait : ∀ f : Fld, f.addr = EPC_PORTp_STAT p → (s.stepAt p).rd f = s.rd f := fun f hf =>
    (regsBut_stepAt s p).rd_eq (hf ▸ EPC_PORTp_STAT_not_time p)
  have hreach := le_stepAt_lt hd (p := p)
  generalize s.stepAt p = u at *
  obtain ⟨hspeed, hsteps, hst⟩ := stepped_shows u p (n := s.rd (EPC_PORTp_STAT_CUR_SPEED p) - 1) (by omega)
  have hw := writes_steppedDown u p (s.rd (EPC_PORTp_STAT_CUR_SPEED p) - 1) (s.epcPort p)
  have htime : (u.steppedDown p (s.rd (EPC_PORTp_STAT_CUR_SPEED p) - 1) (s.epcPort p)).ntu = u.ntu :=
    (steppedDown_keeps ..).same .ntu rfl
  rw [CountsOne, hwait _ rfl] at hsteps
  exact ⟨_, he, (hw.rd_eq hstat).trans hspeed, (hw.rd_eq hstat).trans hsteps,
    (hw.rd_eq hstat).trans (hst.trans ((hwait _ rfl).trans h)), fun hdrops => htime.symm ▸ hreach hdrops, hch⟩

/-! ## A pause ends (R106) -/

theorem bit_shiftHeads (s : State) (p t0 : Nat) (f : Fld) : (s.shiftHeads p t0).bit f = s.bit f := rfl

theorem pauseEnd_paused (s : State) (p : Nat) : (s.pauseEnd p).bit (EPC_PORTp_STAT_PAUSED p) = false := by
  unfold State.pauseEnd
  split
  · exact (bit_shiftHeads ..).trans (State.bit_wrB_same _ false rfl)
  · next h => exact Bool.eq_false_iff.2 h

theorem exec_pauseExpire (hd : s.domOn 6 = true) (h : s.bit (EPC_PORTp_STAT_PAUSED p) = true)
    (hh : (s.epcPort p).pauseHold = none) :
    exec (.pauseExpire p) s = .next ((s.advanceTo ((s.epcPort p).pauseUntil * nsU)).pauseEnd p) :=
  if_neg (by simp [hd, h, hh])

theorem pauseExpire_ends (hd : s.domOn 6 = true) (h : s.bit (EPC_PORTp_STAT_PAUSED p) = true)
    (hh : (s.epcPort p).pauseHold = none) : Gives (exec (.pauseExpire p) s) fun t =>
      t.bit (EPC_PORTp_STAT_PAUSED p) = false ∧ (s.epcPort p).pauseUntil * 2 ^ 32 ≤ t.ntu.lt ∧
        Changes [.regs, .ntu, .swc] s t := by
  have he := exec_pauseExpire hd h hh
  refine ⟨_, he, pauseEnd_paused .., ?_, ((execPauseExpire_keeps p s).keeps_of_eq he).changes rfl⟩
  rw [(State.pauseEnd_keeps _ _).same .ntu rfl]
  exact State.le_advanceTo_lt hd _

/-! ## Underrun (R104) -/

section Underrun

variable {cur : TxCur} {f : EthFrame} {n : Nat}

/-- The bytes `l` and an inverted FCS over them go out on port `p`. -/
def State.sentBad (s : State) (p : Nat) (l : List Byte) : State :=
  s.setSwc { s.swc with wire := (p, l ++ fcsBytes l true) :: s.swc.wire }

theorem wireCut_eq (hf : s.frame cur.frame = some f) :
    s.wireCut p cur.frame n = s.sentBad p ((f.copyBytes p).take n) := by
  simp only [State.wireCut, hf, State.sentBad]

/-- The underrun counted and the credits brought up to it, a frame of which `l` has gone out ends with an inverted
FCS. -/
def State.cutShort (s : State) (p : Nat) (l : List Byte) : State :=
  ((s.inc (EPC_PORTp_CNT_TX_UNDERRUN p)).creditPort p).sentBad p l

theorem cutShort_eq (hf : s.frame cur.frame = some f) :
    ((s.inc (EPC_PORTp_CNT_TX_UNDERRUN p)).creditPort p).wireCut p cur.frame n =
      s.cutShort p ((f.copyBytes p).take n) :=
  wireCut_eq ((frame_creditPort ..).trans ((frame_congr (State.inc_swc ..) _).trans hf))

theorem exec_txUnderrun (hd : s.domOn 6 = true) (h : s.epcState p = 3) (hcur : s.txCur p = some cur)
    (hf : s.frame cur.frame = some f) : exec (.txUnderrun ⟨p, n⟩) s =
      .next (((((s.cutShort p ((f.copyBytes p).take n)).thrRaise p).setTx p none).frameRelease cur.frame).pauseArm p) := by
  show execTxUnderrun ⟨p, n⟩ s = _
  simp only [execTxUnderrun, hcur, cutShort_eq hf]
  exact if_neg (by simp [hd, h])

theorem reg_sentBad (s : State) (p : Nat) (l : List Byte) (a : Nat) : (s.sentBad p l).reg a = s.reg a := rfl

theorem wire_sentBad (s : State) (p : Nat) (l : List Byte) :
    (s.sentBad p l).swc.wire = (p, l ++ fcsBytes l true) :: s.swc.wire := rfl

theorem reg_cutShort (s : State) (p : Nat) (l : List Byte) (a : Nat) :
    (s.cutShort p l).reg a = (s.inc (EPC_PORTp_CNT_TX_UNDERRUN p)).reg a := by
  rw [State.cutShort, reg_sentBad, reg_creditPort]

theorem regsBut_cutShort (s : State) (p : Nat) (l : List Byte) : RegsBut [EPC_PORTp_CNT p] s (s.cutShort p l) :=
  fun a ha => (reg_cutShort s p l a).trans (regsBut_wr s (EPC_PORTp_CNT_TX_UNDERRUN p) _ a ha)

theorem countsOne_cutShort (s : State) (p : Nat) (l : List Byte) :
    CountsOne (EPC_PORTp_CNT_TX_UNDERRUN p) s (s.cutShort p l) :=
  (State.rd_congr (reg_cutShort s p l _)).trans (countsOne_inc s rfl)

theorem wire_cutShort (s : State) (p : Nat) (l : List Byte) :
    (s.cutShort p l).swc.wire = (p, l ++ fcsBytes l true) :: s.swc.wire := by
  rw [State.cutShort, wire_sentBad, (linesKept_creditPort _ p).wire, State.inc_swc]

theorem EPC_PORTp_TXTHR_ne_CNT (p : Nat) : EPC_PORTp_TXTHR p ≠ EPC_PORTp_CNT p := by
  simp only [EPC_PORTp_TXTHR, EPC_PORTp_CNT]
  omega

theorem regsBut_thrRaise (s : State) (p : Nat) : RegsBut [EPC_PORTp_TXTHR p] s (s.thrRaise p) := by
  unfold State.thrRaise
  extract_lets thr
  split
  · exact regsBut_wr s (EPC_PORTp_TXTHR_THR p) _
  · exact RegsBut.refl

/-- THR stays within its field, since it rises below MAX_LEN only. -/
theorem thrRaise_thr (hmax : s.rd (EPC_PORTp_CTL_MAX_LEN p) ≤ 9216) : (s.thrRaise p).rd (EPC_PORTp_TXTHR_THR p) =
    if s.rd (EPC_PORTp_TXTHR_THR p) * 64 < s.rd (EPC_PORTp_CTL_MAX_LEN p) then s.rd (EPC_PORTp_TXTHR_THR p) + 1
    else s.rd (EPC_PORTp_TXTHR_THR p) := by
  simp only [State.thrRaise, decide_eq_true_eq]
  split
  · exact State.rd_wr_fits s rfl (show _ < 256 by omega)
  · rfl

theorem txUnderrun_ends (hd : s.domOn 6 = true) (hcur : s.txCur p = some cur) (hf : s.frame cur.frame = some f)
    (h : s.epcState p = 3) (hmax : s.rd (EPC_PORTp_CTL_MAX_LEN p) ≤ 9216) {l : List Byte}
    (hl : l = (f.copyBytes p).take n) : Gives (exec (.txUnderrun ⟨p, n⟩) s) fun t =>
      CountsOne (EPC_PORTp_CNT_TX_UNDERRUN p) s t ∧ t.txCur p = none ∧
        t.swc.wire = (p.val, l ++ fcsBytes l true) :: s.swc.wire ∧
        t.rd (EPC_PORTp_TXTHR_THR p) = (if s.rd (EPC_PORTp_TXTHR_THR p) * 64 < s.rd (EPC_PORTp_CTL_MAX_LEN p)
          then s.rd (EPC_PORTp_TXTHR_THR p) + 1 else s.rd (EPC_PORTp_TXTHR_THR p)) ∧
        Changes [.regs, .epc, .swc, .rooks] s t := by
  subst hl
  have he := exec_txUnderrun (n := n) hd h hcur hf
  have hcnt : ¬Switching (EPC_PORTp_CNT p) := not_switching_epc p.isLt (by decide) (by decide)
  have hthr : ¬Switching (EPC_PORTp_TXTHR p) := not_switching_epc p.isLt (by decide) (by decide)
  have hne := EPC_PORTp_TXTHR_ne_CNT p
  have hcut := regsBut_cutShort s p ((f.copyBytes p).take n)
  have hcount := countsOne_cutShort s p ((f.copyBytes p).take n)
  have hwire := wire_cutShort s p ((f.copyBytes p).take n)
  generalize s.cutShort p ((f.copyBytes p).take n) = u at *
  have hraise := regsBut_thrRaise u p
  have hw : Writes Switching (u.thrRaise p) ((((u.thrRaise p).setTx p none).frameRelease cur.frame).pauseArm p) :=
    ((Writes.of_keeps (State.setTx_keeps ..) rfl).trans (writes_frameRelease ..)).keeps (State.pauseArm_keeps ..) rfl
  have hk : LinesKept ((u.thrRaise p).setTx p none)
      ((((u.thrRaise p).setTx p none).frameRelease cur.frame).pauseArm p) :=
    (linesKept_frameRelease ..).keeps (State.pauseArm_keeps ..) rfl
  have hmax' : u.rd (EPC_PORTp_CTL_MAX_LEN p) = s.rd (EPC_PORTp_CTL_MAX_LEN p) :=
    hcut.rd_eq (by simpa using! EPC_PORTp_CTL_ne_CNT p)
  have hthr' : u.rd (EPC_PORTp_TXTHR_THR p) = s.rd (EPC_PORTp_TXTHR_THR p) := hcut.rd_eq (by simpa using! hne)
  refine ⟨_, he, ?_, (hk.txCur_eq p).trans (txCur_setTx ..), ?_, ?_,
    ((execTxUnderrun_keeps _ s).keeps_of_eq he).changes rfl⟩
  · exact ((hw.rd_eq hcnt).trans (hraise.rd_eq (by simpa using! hne.symm))).trans hcount
  · rw [hk.wire, wire_setTx, (LinesKept.of_keeps (State.thrRaise_keeps ..) rfl).wire, hwire]
  · rw [hw.rd_eq hthr, thrRaise_thr (hmax'.trans_le hmax), hthr', hmax']

end Underrun

/-! ## A read of the counters (R109) -/

theorem epcCntRead_clears (hd : s.domOn 6 = true) : Gives (exec (.epcCntRead p) s) fun t =>
    t.readData = s.reg (EPC_PORTp_CNT p) ∧ t.reg (EPC_PORTp_CNT p) = 0 ∧ RegsBut [EPC_PORTp_CNT p] s t ∧
      Changes [.regs, .readData] s t := by
  have he : exec (.epcCntRead p) s = .next ((s.setReg (EPC_PORTp_CNT p) 0).putReadData (s.reg (EPC_PORTp_CNT p))) :=
    if_neg (by simp [hd])
  exact ⟨_, he, rfl, State.reg_setReg_same .., regsBut_setReg s (EPC_PORTp_CNT p) 0,
    ((execEpcCntRead_keeps p s).keeps_of_eq he).changes rfl⟩

end Events

theorem portEvents : Sys2Proof.Rules.portEvents := by
  intro s p hd e cur thr
  exact ⟨speedStep_steps hd, pauseExpire_ends hd, fun cur f n hcur hf h hmax => txUnderrun_ends hd hcur hf h hmax rfl,
    epcCntRead_clears hd⟩

/-- Settles O15: the states of a port and its events, each clause by what its command comes to. -/
theorem ethernetPorts : Obligations.EthernetPorts := ⟨portStates, portEvents⟩

end Sys2Proof.Machine
end

section
/-! PROOF of PortReceives (R102, R106, R124): what the MAC sees of a frame, what becomes of a faulty one, a good one and
a MAC control frame, then the clauses. The length with the FCS (log 27), a pause that waits for the frame in transmission
(log 34) and fragments at a port without PREEMPT_EN (log 88) are the model's choices. -/

namespace Sys2Proof.Machine

section Receive

variable {s : State} {p : Fin 10} {frags : List (List Byte)} {raw2 raw : Nat} {bytes : List Byte} {fault : MacFault}
  {f : EthFrame}

/-! ## What the MAC sees -/

theorem fragFault_refused (h : 2 ≤ frags.length) (hpre : s.bit (EPC_PORTp_CTL_PREEMPT_EN p) = false) :
    s.fragFault p frags.length fault = .code :=
  if_pos (by rw [hpre, decide_eq_true (by omega : 1 < frags.length)]; rfl)

theorem fragFault_taken (h : frags.length ≤ 1 ∨ s.bit (EPC_PORTp_CTL_PREEMPT_EN p) = true) :
    s.fragFault p frags.length fault = fault :=
  if_neg (by
    rcases h with h | h
    · simp [Nat.not_lt.2 h]
    · simp [h])

theorem exec_macFrameReceive (hd : s.domOn 6 = true) (h : s.epcState p = 3) :
    exec (.macFrameReceive p frags fault raw2) s =
      .next (s.macReceive p frags.flatten (s.fragFault p frags.length fault) (raw2 * 2 ^ 15)) :=
  congrArg Host.Outcome.next (if_pos (by simp [hd, h]))

/-! ## Frames that only count (R102) -/

/-- The command counts one frame in `f` and does nothing else. -/
theorem gives_inc {o : Host.Outcome State Fault Refusal} {c : Fld} (hc : c.ok = true) (ho : o = .next (s.inc c)) :
    Gives o fun t => CountsOne c s t ∧ RegsBut [c.addr] s t ∧ Changes [.regs] s t :=
  ⟨_, ho, countsOne_inc s hc, regsBut_wr s c _, (State.inc_keeps ..).changes rfl⟩

theorem SWC_PORTp_CTL_ne_EPC_CNT (p : Fin 10) : SWC_PORTp_CTL p ≠ EPC_PORTp_CNT p := by
  simp only [SWC_PORTp_CTL, EPC_PORTp_CNT]
  omega

/-- With cut-through off nothing of a faulty frame goes on. -/
theorem macBad_counted (hct : s.bit (SWC_PORTp_CTL_CT_EN p) = false) {c : Fld} (hc : c.addr = EPC_PORTp_CNT p)
    (f : EthFrame) (cut : Bool) : (s.inc c).macBad p f cut = s.inc c := by
  have h : (s.inc c).bit (SWC_PORTp_CTL_CT_EN p) = false :=
    (State.bit_congr (State.reg_wr_ne s _ (hc ▸ SWC_PORTp_CTL_ne_EPC_CNT p))).trans hct
  exact if_neg (by simp [h])

theorem portMaxLen_external (s : State) (p : Fin 10) : s.portMaxLen p = s.rd (EPC_PORTp_CTL_MAX_LEN p) :=
  if_neg (by omega)

/-- A good frame as the MAC hands it on. -/
def State.macFrame (s : State) (p : Nat) (bytes : List Byte) (raw : Nat) : EthFrame :=
  { EthFrame.blank with bytes := bytes, ingress := p, ts := some (s.rxStamp p raw) }

/-- Without a fault the lengths decide, then whether it is a MAC control frame. -/
theorem macReceive_none : s.macReceive p bytes .none raw =
    if bytes.length + 4 < 64 then s.inc (EPC_PORTp_CNT_RX_RUNT p)
    else if s.rd (EPC_PORTp_CTL_MAX_LEN p) < bytes.length + 4 then
      (s.inc (EPC_PORTp_CNT_RX_OVERSIZE p)).macBad p (s.macFrame p bytes raw) false
    else if macControl bytes then s.macCtrl p bytes
    else (s.rxAsym p bytes).2.swArrive (s.macFrame p (s.rxAsym p bytes).1 raw) := by
  simp [State.macReceive, State.macFrame, portMaxLen_external]

section CutThroughOff

variable (hct : s.bit (SWC_PORTp_CTL_CT_EN p) = false)
include hct

theorem macReceive_fcs : s.macReceive p bytes .fcs raw = s.inc (EPC_PORTp_CNT_RX_FCS_ERR p) := by
  simp [State.macReceive, macBad_counted hct (c := EPC_PORTp_CNT_RX_FCS_ERR p) rfl]

theorem macReceive_assembly : s.macReceive p bytes .assembly raw = s.inc (EPC_PORTp_CNT_RX_FCS_ERR p) := by
  simp [State.macReceive, macBad_counted hct (c := EPC_PORTp_CNT_RX_FCS_ERR p) rfl]

theorem macReceive_cut : s.macReceive p bytes .cut raw = s.inc (EPC_PORTp_CNT_RX_FCS_ERR p) := by
  simp [State.macReceive, macBad_counted hct (c := EPC_PORTp_CNT_RX_FCS_ERR p) rfl]

theorem macReceive_code : s.macReceive p bytes .code raw = s.inc (EPC_PORTp_CNT_RX_CODE_ERR p) := by
  simp [State.macReceive, macBad_counted hct (c := EPC_PORTp_CNT_RX_CODE_ERR p) rfl]

theorem macReceive_oversize (h60 : 60 ≤ bytes.length) (hmax : s.rd (EPC_PORTp_CTL_MAX_LEN p) < bytes.length + 4) :
    s.macReceive p bytes .none raw = s.inc (EPC_PORTp_CNT_RX_OVERSIZE p) := by
  rw [macReceive_none, if_neg (by omega), if_pos hmax, macBad_counted hct rfl]

end CutThroughOff

theorem macReceive_runt (h : bytes.length < 60) :
    s.macReceive p bytes .none raw = s.inc (EPC_PORTp_CNT_RX_RUNT p) := by
  rw [macReceive_none, if_pos (by omega)]

/-! ## A good frame (R102, R124) -/

/-- The lengths that R102 passes on. -/
def LengthOk (s : State) (p : Nat) (bytes : List Byte) : Prop :=
  60 ≤ bytes.length ∧ bytes.length + 4 ≤ s.rd (EPC_PORTp_CTL_MAX_LEN p)

theorem macReceive_fits (h : LengthOk s p bytes) : s.macReceive p bytes .none raw =
    if macControl bytes then s.macCtrl p bytes
    else (s.rxAsym p bytes).2.swArrive (s.macFrame p (s.rxAsym p bytes).1 raw) := by
  obtain ⟨h60, hmax⟩ := h
  rw [macReceive_none, if_neg (by omega), if_neg (by omega)]

theorem macControl_iff : macControl bytes = true ↔ beAt bytes 12 2 = 0x8808 := beq_iff_eq

theorem rxAsym_off (h : s.bit (NTU_PORTp_CFG_ASYM_EN p) = false) : s.rxAsym p bytes = (bytes, s) := by
  unfold State.rxAsym
  split
  · rfl
  · exact if_neg (by simp [h])

theorem regsBut_rxAsym (s : State) (p : Nat) (bytes : List Byte) :
    RegsBut [NTU_PORTp_STAT p] s (s.rxAsym p bytes).2 := by
  unfold State.rxAsym
  split
  · exact RegsBut.refl
  · extract_lets r
    split
    · dsimp only
      split
      · exact regsBut_wr s (NTU_PORTp_STAT_CF_SAT p) _
      · exact RegsBut.refl
    · exact RegsBut.refl

/-- A frame as it waits for its decision, with what the switch notes at its first byte. -/
def State.tagged (s : State) (f : EthFrame) : EthFrame :=
  { f with
    gen := s.swc.genAbs, born := s.ltNs, bt := s.byteTime10 f.ingress, pgen := s.swc.pgen
    ct := s.bit (SWC_PORTp_CTL_CT_EN f.ingress)
    tc := decide (f.ingress < 10) && s.bit (NTU_PORTp_CFG_TC_EN f.ingress) }

/-- Frame `f` joins those that wait for their decision. -/
def State.arrives (s : State) (f : EthFrame) : State :=
  s.setSwc { s.swc with arrived := s.swc.arrived ++ [s.tagged f] }

theorem swArrive_waits (hd : s.domOn 6 = true) (hr : s.swc.recovering = false) : s.swArrive f = s.arrives f :=
  (if_neg (by simp [hd])).trans (if_neg (by simp [hr]))

theorem CRP_PD_STAT_not_port (p : Nat) : CRP_PD_STAT ∉ [NTU_PORTp_STAT p] := by
  simp only [List.mem_singleton, CRP_PD_STAT, NTU_PORTp_STAT]
  omega

theorem macReceive_good (hd : s.domOn 6 = true) (hr : s.swc.recovering = false) (h : LengthOk s p bytes)
    (hctl : ¬beAt bytes 12 2 = 0x8808) :
    s.macReceive p bytes .none raw = (s.rxAsym p bytes).2.arrives (s.macFrame p (s.rxAsym p bytes).1 raw) := by
  have hsame : (s.rxAsym p bytes).2.swc = s.swc := (State.rxAsym_keeps ..).same .swc rfl
  have hdom : (s.rxAsym p bytes).2.domOn 6 = true := by
    rw [State.domOn, State.domState, (regsBut_rxAsym s p bytes).rd_eq (CRP_PD_STAT_not_port p)]
    exact hd
  rw [macReceive_fits h, if_neg (mt macControl_iff.1 hctl), swArrive_waits hdom (hsame ▸ hr)]

/-- What the arrival of `f` in `u`, which the correction for asymmetry has left, shows of `s`. -/
theorem arrives_shows {u : State} (hf : f.ingress = p ∧ f.bad = false) (hk : Keeps 8 s u)
    (hregs : RegsBut [NTU_PORTp_STAT p] s u) :
    ∃ g : EthFrame, (u.arrives f).swc.arrived = s.swc.arrived ++ [g] ∧ g.ingress = p.val ∧ g.gen = s.swc.genAbs ∧
      g.born = s.ltNs ∧ g.bad = false ∧ RegsBut [NTU_PORTp_STAT p] s (u.arrives f) ∧
      Changes [.regs, .swc] s (u.arrives f) ∧ g.bytes = f.bytes := by
  have hswc : u.swc = s.swc := hk.same .swc rfl
  have hntu : u.ntu = s.ntu := hk.same .ntu rfl
  exact ⟨u.tagged f, by rw [← hswc]; rfl, hf.1, by rw [← hswc]; rfl, State.ltNs_congr hntu, hf.2, hregs,
    ((State.setSwc_keeps ..).comp (M := 2097160) rfl (hk.mono rfl)).changes rfl, rfl⟩

/-! ## A MAC control frame (R106) -/

theorem macReceive_control (h : LengthOk s p bytes) (hctl : beAt bytes 12 2 = 0x8808) :
    s.macReceive p bytes .none raw = s.macCtrl p bytes := by
  rw [macReceive_fits h, if_pos (macControl_iff.2 hctl)]

theorem macCtrl_dropped (h : s.bit (EPC_PORTp_CTL_PAUSE_EN p) = false) :
    s.macCtrl p bytes = s.inc (EPC_PORTp_CNT_RX_CTRL_DROP p) :=
  if_neg (by simp [h])

theorem macCtrl_obeyed (h : s.bit (EPC_PORTp_CTL_PAUSE_EN p) = true) (hop : beAt bytes 14 2 = 1)
    (hda : frDa bytes = 0x0180C2000001) : s.macCtrl p bytes = s.pauseRx p (beAt bytes 16 2) :=
  if_pos (by simp [h, hop, hda])

/-- A PAUSE that is obeyed has been counted, and the credits of the port brought up to it. -/
def State.pauseCounted (s : State) (p : Nat) : State := (s.inc (EPC_PORTp_CNT_TX_PAUSED p)).creditPort p

theorem reg_pauseCounted (s : State) (p a : Nat) :
    (s.pauseCounted p).reg a = (s.inc (EPC_PORTp_CNT_TX_PAUSED p)).reg a := reg_creditPort ..

theorem stat_pauseCounted (s : State) (p : Nat) :
    (s.pauseCounted p).reg (EPC_PORTp_STAT p) = s.reg (EPC_PORTp_STAT p) :=
  (reg_pauseCounted ..).trans (State.reg_wr_ne s _ (EPC_PORTp_STAT_ne_CNT p))

theorem countsOne_pauseCounted (s : State) (p : Nat) :
    CountsOne (EPC_PORTp_CNT_TX_PAUSED p) s (s.pauseCounted p) :=
  (State.rd_congr (reg_pauseCounted ..)).trans (countsOne_inc s rfl)

theorem linesKept_pauseCounted (s : State) (p : Nat) : LinesKept s (s.pauseCounted p) :=
  (LinesKept.of_keeps (State.inc_keeps ..) rfl).trans (linesKept_creditPort ..)

theorem macBusy_pauseCounted (s : State) (p : Nat) : (s.pauseCounted p).macBusy p = s.macBusy p := by
  have h := linesKept_pauseCounted s p
  simp only [State.macBusy, h.txCur_eq, h.txHeld_eq]

theorem ltNs_pauseCounted (s : State) (p : Nat) : (s.pauseCounted p).ltNs = s.ltNs :=
  State.ltNs_congr (((State.creditPort_keeps ..).comp (M := 2097160) rfl ((State.inc_keeps ..).mono rfl)).same .ntu rfl)

theorem quantaNs_pauseCounted (s : State) (p q : Nat) : (s.pauseCounted p).quantaNs p q = s.quantaNs p q := by
  have h : (s.pauseCounted p).rd (EPC_PORTp_STAT_CUR_SPEED p) = s.rd (EPC_PORTp_STAT_CUR_SPEED p) :=
    State.rd_congr (stat_pauseCounted s p)
  simp only [State.quantaNs, State.byteTime10, h]

theorem arrived_creditPort (s : State) (p : Nat) : (s.creditPort p).swc.arrived = s.swc.arrived := by
  obtain ⟨c, a, h⟩ := creditPort_eq s p
  rw [h]
  rfl

theorem arrived_pauseCounted (s : State) (p : Nat) : (s.pauseCounted p).swc.arrived = s.swc.arrived := by
  rw [State.pauseCounted, arrived_creditPort, State.inc_swc]

theorem arrived_shiftHeads (s : State) (p t0 : Nat) : (s.shiftHeads p t0).swc.arrived = s.swc.arrived := rfl

theorem arrived_pauseEnd (s : State) (p : Nat) : (s.pauseEnd p).swc.arrived = s.swc.arrived := by
  unfold State.pauseEnd
  split
  · rw [arrived_shiftHeads, State.wrB_swc, arrived_creditPort]
  · rfl

theorem reg_shiftHeads (s : State) (p t0 a : Nat) : (s.shiftHeads p t0).reg a = s.reg a := rfl

theorem regsBut_pauseEnd (s : State) (p : Nat) : RegsBut [EPC_PORTp_STAT p] s (s.pauseEnd p) := by
  unfold State.pauseEnd
  split
  · exact fun a ha => (reg_shiftHeads ..).trans
      ((regsBut_wr _ (EPC_PORTp_STAT_PAUSED p) _ a ha).trans (reg_creditPort ..))
  · exact RegsBut.refl

theorem EPC_PORTp_CNT_not_STAT (p : Nat) : EPC_PORTp_CNT p ∉ [EPC_PORTp_STAT p] := by
  simp [(EPC_PORTp_STAT_ne_CNT p).symm]

theorem arrived_setEpcPort (s : State) (p : Nat) (e : EpcPort) :
    (s.setEpcPort p e).swc.arrived = s.swc.arrived := rfl

/-- Quanta 0 ends the pause. -/
theorem pauseRx_zero (s : State) (p : Nat) :
    ∃ e, s.pauseRx p 0 = ((s.pauseCounted p).pauseEnd p).setEpcPort p e := ⟨_, rfl⟩

theorem pauseRx_zero_shows (s : State) (p : Nat) : (s.pauseRx p 0).bit (EPC_PORTp_STAT_PAUSED p) = false ∧
    CountsOne (EPC_PORTp_CNT_TX_PAUSED p) s (s.pauseRx p 0) ∧ (s.pauseRx p 0).swc.arrived = s.swc.arrived := by
  obtain ⟨e, he⟩ := pauseRx_zero s p
  have hcnt := (regsBut_pauseEnd (s.pauseCounted p) p).rd_eq (f := EPC_PORTp_CNT_TX_PAUSED p) (EPC_PORTp_CNT_not_STAT p)
  rw [he, State.bit_setEpcPort, CountsOne, State.rd_setEpcPort, hcnt, arrived_setEpcPort, arrived_pauseEnd,
    arrived_pauseCounted]
  exact ⟨pauseEnd_paused .., countsOne_pauseCounted s p, rfl⟩

/-- What the port notes of a pause of `q` quanta: they count from now, or from the end of what the MAC sends. -/
def State.pauseNoted (s : State) (p q : Nat) : EpcPort :=
  let e := s.epcPort p
  let t0 := if s.bit (EPC_PORTp_STAT_PAUSED p) then e.pauseFrom else s.ltNs
  if s.macBusy p then { e with pauseFrom := t0, pauseHold := some (s.quantaNs p q) }
  else { e with pauseFrom := t0, pauseHold := none, pauseUntil := s.ltNs + s.quantaNs p q }

theorem pauseRx_quanta {q : Nat} (hq : q ≠ 0) : s.pauseRx p q =
    ((s.pauseCounted p).setEpcPort p ((s.pauseCounted p).pauseNoted p q)).wrB (EPC_PORTp_STAT_PAUSED p) true :=
  if_neg (by simp [hq])

theorem epcPort_wrB (s : State) (f : Fld) (b : Bool) (p : Nat) : (s.wrB f b).epcPort p = s.epcPort p := rfl

theorem pauseRx_quanta_port {q : Nat} (hq : q ≠ 0) :
    (s.pauseRx p q).epcPort p = (s.pauseCounted p).pauseNoted p q := by
  rw [pauseRx_quanta hq, epcPort_wrB, State.epcPort_setEpcPort]

theorem pauseRx_quanta_shows {q : Nat} (hq : q ≠ 0) : (s.pauseRx p q).bit (EPC_PORTp_STAT_PAUSED p) = true ∧
    CountsOne (EPC_PORTp_CNT_TX_PAUSED p) s (s.pauseRx p q) ∧ (s.pauseRx p q).swc.arrived = s.swc.arrived := by
  have hcnt : ∀ t : State, (t.wrB (EPC_PORTp_STAT_PAUSED p) true).rd (EPC_PORTp_CNT_TX_PAUSED p) =
      t.rd (EPC_PORTp_CNT_TX_PAUSED p) := fun t => State.rd_congr (State.reg_wr_ne t _ (EPC_PORTp_STAT_ne_CNT p).symm)
  rw [pauseRx_quanta hq, CountsOne, hcnt, State.rd_setEpcPort, State.wrB_swc, arrived_setEpcPort, arrived_pauseCounted]
  exact ⟨State.bit_wrB_same _ true rfl, countsOne_pauseCounted s p, rfl⟩

theorem pauseRx_shows (s : State) (p : Fin 10) (q : Nat) :
    (s.pauseRx p q).bit (EPC_PORTp_STAT_PAUSED p) = decide (q ≠ 0) ∧
      CountsOne (EPC_PORTp_CNT_TX_PAUSED p) s (s.pauseRx p q) ∧ (s.pauseRx p q).swc.arrived = s.swc.arrived := by
  by_cases hq : q = 0
  · subst hq
    exact pauseRx_zero_shows s p
  · rw [decide_eq_true hq]
    exact pauseRx_quanta_shows hq

theorem pauseRx_now {q : Nat} (hq : q ≠ 0) (htx : s.txCur p = none) (hheld : s.txHeld p = none) :
    ((s.pauseRx p q).epcPort p).pauseUntil = s.ltNs + s.quantaNs p q := by
  have hbusy : (s.pauseCounted p).macBusy p = false := by
    rw [macBusy_pauseCounted, State.macBusy, htx, hheld]
    rfl
  simp [pauseRx_quanta_port hq, State.pauseNoted, hbusy, ltNs_pauseCounted, quantaNs_pauseCounted]

theorem pauseRx_later {q : Nat} (hq : q ≠ 0) (htx : s.txCur p ≠ none) :
    ((s.pauseRx p q).epcPort p).pauseHold = some (s.quantaNs p q) := by
  have hbusy : (s.pauseCounted p).macBusy p = true := by
    rw [macBusy_pauseCounted, State.macBusy, Option.isSome_iff_ne_none.2 htx, Bool.true_or]
  simp [pauseRx_quanta_port hq, State.pauseNoted, hbusy, quantaNs_pauseCounted]

end Receive

/-- Settles O16: the fault that the MAC sees decides which of the equations of a received frame its clause uses. -/
theorem portReceives : Obligations.PortReceives := by
  intro s p frags raw2 hd h3 rx only bytes ctl quanta
  have hseen : ∀ fault, rx fault = .next (s.macReceive p bytes (s.fragFault p frags.length fault) (raw2 * 2 ^ 15)) :=
    fun fault => exec_macFrameReceive hd h3
  refine ⟨fun hn hpre hct => gives_inc rfl ?_, fun hwhole => ?_⟩
  · rw [hseen, fragFault_refused hn hpre, macReceive_code hct]
  have hx : ∀ fault, rx fault = .next (s.macReceive p bytes fault (raw2 * 2 ^ 15)) := fun fault => by
    rw [hseen, fragFault_taken hwhole]
  refine ⟨fun h60 hmax hctl hr => ?good, fun h60 => gives_inc rfl ?runt,
    fun hct => ⟨gives_inc rfl ?fcs, gives_inc rfl ?cut, gives_inc rfl ?code, gives_inc rfl ?assembly,
      fun h60 hmax => gives_inc rfl ?oversize⟩,
    fun h60 hmax hctl => ⟨fun hen => gives_inc rfl ?dropped, fun hen hop hda => ?paused⟩⟩
  case good =>
    have hrx := macReceive_good (raw := raw2 * 2 ^ 15) hd hr ⟨h60, hmax⟩ hctl
    obtain ⟨g, harr, hin, hgen, hborn, hbad, hregs, hch, hbytes⟩ := arrives_shows (p := p)
      (f := s.macFrame p (s.rxAsym p bytes).1 (raw2 * 2 ^ 15)) ⟨rfl, rfl⟩ (State.rxAsym_keeps ..)
      (regsBut_rxAsym s p bytes)
    refine ⟨_, (hx _).trans (congrArg Host.Outcome.next hrx), g, harr, hin, hgen, hborn, hbad, hregs, hch,
      fun hasym => ?_⟩
    rw [rxAsym_off hasym] at hbytes ⊢
    exact ⟨hbytes, (State.setSwc_keeps ..).changes rfl⟩
  case runt => rw [hx, macReceive_runt h60]
  case fcs => rw [hx, macReceive_fcs hct]
  case cut => rw [hx, macReceive_cut hct]
  case code => rw [hx, macReceive_code hct]
  case assembly => rw [hx, macReceive_assembly hct]
  case oversize => rw [hx, macReceive_oversize hct h60 hmax]
  case dropped => rw [hx, macReceive_control ⟨h60, hmax⟩ hctl, macCtrl_dropped hen]
  case paused =>
    obtain ⟨hpaused, hcount, harr⟩ := pauseRx_shows s p quanta
    have hrx : s.macReceive p bytes .none (raw2 * 2 ^ 15) = s.pauseRx p quanta := by
      rw [macReceive_control ⟨h60, hmax⟩ hctl, macCtrl_obeyed hen hop hda]
    exact ⟨_, (hx _).trans (congrArg Host.Outcome.next hrx), hpaused, hcount, pauseRx_now, pauseRx_later, harr,
      (State.pauseRx_keeps ..).changes rfl⟩

end Sys2Proof.Machine
end

section
/-! REFUTATION of SwitchFrames (R142, R215): an uncorrectable cell error ends with a release of the frame, at which a
transmit timestamp that is noted and due returns to the buffer of the Rook that sent the frame. The clause admits any
origin and stamp of the frame, and leaves the Rooks out of what changes. -/

namespace Sys2Proof.Machine

/-- PD_NET is ON, and port 0 sends frame 7, which came from buffer 0 of Rook 0 and goes to port 0 alone; the transmit
timestamp of a copy on port 0 is noted and has not been returned. -/
def stampedInTransmission : State :=
  let s := State.reset.wr (CRP_PD_STAT_STATE 6) 2
  s.setSwc { s.swc with
    frames := [(7, some { EthFrame.blank with egress := 1, origin := some 0, stamp := some (0, 0) })]
    tx := [(0, some ⟨7, 0, false, 0, 0, 0, 0, 0⟩)] }

/-- The state after a start on port 0 that meets an uncorrectable error in a cell of the frame it sends. -/
def stampedThenFaulty : State := (stampedInTransmission.portStartFrame 0).cellRead 0 0 true

/-- The timestamp has returned to the buffer. -/
theorem stamp_returned : (stampedThenFaulty.rook 0).tx0.tsV = true := by decide +kernel

theorem stamp_not_returned_before : (stampedInTransmission.rook 0).tx0.tsV = false := rfl

theorem stampedInTransmission_on : stampedInTransmission.domOn 6 = true := by decide +kernel

/-- What the clause of an uncorrectable error says of the Rooks, which are none of the parts it lists. -/
theorem rooks_stampedThenFaulty (h : Obligations.SwitchFrames) :
    stampedThenFaulty.rooks = stampedInTransmission.rooks := by
  obtain ⟨-, -, faulty, -⟩ := h stampedInTransmission 0 0 0 0 EthFrame.blank [] 7 [] stampedInTransmission_on
  obtain ⟨t, ht, -, -, -, -, same⟩ := faulty _ _ (by decide) rfl rfl (by decide +kernel) rfl rfl (by decide +kernel)
  cases (congrArg Host.Outcome.next (if_pos stampedInTransmission_on)).symm.trans ht
  exact same .rooks (by decide)

/-- Refutes O18: the timestamp of a copy returns to its Rook when the frame's cells turn out bad (R142, R215). -/
theorem not_switchFrames : ¬ Obligations.SwitchFrames := by
  intro h
  have same : stampedThenFaulty.rook 0 = stampedInTransmission.rook 0 := by
    rw [State.rook, State.rook, rooks_stampedThenFaulty h]
  have hts := stamp_returned
  rw [same, stamp_not_returned_before] at hts
  exact Bool.false_ne_true hts

end Sys2Proof.Machine
end

section
/-! PROOF of SwitchTables, first part (R125 to R127): what the update window, COMMIT and ABORT come to under the hypotheses
of each clause, and what the states that they answer show. -/

namespace Sys2Proof.Machine

section Updates

variable {s : State} {tab op : BitVec 4} {i : BitVec 14}

theorem SWC_GEN_STAT_mem : SWC_GEN_STAT ∈ [SWC_GEN_STAT] := List.mem_singleton_self _

/-! ## Staging (R125) -/

theorem exec_updOp (hd : s.domOn 6 = true) :
    exec (.updOp tab op i) s = .next (s.updOp tab.toNat op.toNat i.toNat) :=
  congrArg Host.Outcome.next (if_pos hd)

/-- Operation `o` joins the batch. -/
def State.opStaged (s : State) (o : UpdOp) : State :=
  (s.setSwc { s.swc with batch := s.swc.batch ++ [o] }).wr SWC_GEN_STAT_STAGED (s.swc.batch ++ [o]).length

/-- No TABLE and no OP of a change is reserved, and it is no READ. -/
theorem updOp_changes {table o : Nat} (ht : table ≤ 6) (ho : o ≤ 3) :
    (decide (6 < table) || !(decide (o < 4) || o == 8)) = false ∧ (o == 8) = false := by
  simp only [Bool.or_eq_false_iff, Bool.not_eq_false', Bool.or_eq_true, decide_eq_false_iff_not, decide_eq_true_eq,
    beq_iff_eq, beq_eq_false_iff_ne]
  omega

theorem updOp_room {table o k : Nat} (ht : table ≤ 6) (ho : o ≤ 3) (h : s.swc.batch.length < 64) :
    s.updOp table o k = s.opStaged ⟨table, o, k, s.updData.take (updWords table)⟩ := by
  obtain ⟨hres, hread⟩ := updOp_changes ht ho
  exact (if_neg (ne_true_of_eq_false hres)).trans ((if_neg (ne_true_of_eq_false hread)).trans (if_neg (by simpa using h)))

theorem updOp_no_room {table o k : Nat} (ht : table ≤ 6) (ho : o ≤ 3) (h : 64 ≤ s.swc.batch.length) :
    s.updOp table o k = (s.wrB SWC_GEN_STAT_FAIL true).wr SWC_GEN_STAT_RESULT 4 := by
  obtain ⟨hres, hread⟩ := updOp_changes ht ho
  exact (if_neg (ne_true_of_eq_false hres)).trans ((if_neg (ne_true_of_eq_false hread)).trans (if_pos (by simpa using h)))

theorem updOp_staged (hd : s.domOn 6 = true) (ht : tab.toNat ≤ 6) (ho : op.toNat ≤ 3) (h : s.swc.batch.length < 64) :
    Gives (exec (.updOp tab op i) s) fun t =>
      t.swc.batch = s.swc.batch ++ [⟨tab.toNat, op.toNat, i.toNat, s.updData.take (updWords tab.toNat)⟩] ∧
        t.rd SWC_GEN_STAT_STAGED = s.swc.batch.length + 1 ∧ t.swc.tables = s.swc.tables ∧
        RegsBut [SWC_GEN_STAT] s t ∧ Changes [.regs, .swc] s t := by
  have he := updOp_room (s := s) (k := i.toNat) ht ho h
  have hch : Changes [.regs, .swc] s (s.updOp tab.toNat op.toNat i.toNat) := (State.updOp_keeps ..).changes rfl
  rw [he] at hch
  refine ⟨_, (exec_updOp hd).trans (congrArg Host.Outcome.next he), rfl, ?_, rfl,
    regsBut_wr (s.setSwc _) SWC_GEN_STAT_STAGED _, hch⟩
  have hfit : s.swc.batch.length + 1 < 2 ^ SWC_GEN_STAT_STAGED.width :=
    Nat.lt_trans (by omega : _ < 65) (by decide)
  rw [State.opStaged, List.length_append]
  exact State.rd_wr_fits _ rfl hfit

theorem updOp_full (hd : s.domOn 6 = true) (ht : tab.toNat ≤ 6) (ho : op.toNat ≤ 3) (h : 64 ≤ s.swc.batch.length) :
    Gives (exec (.updOp tab op i) s) fun t =>
      t.bit SWC_GEN_STAT_FAIL = true ∧ t.rd SWC_GEN_STAT_RESULT = 4 ∧ RegsBut [SWC_GEN_STAT] s t ∧
        Changes [.regs] s t := by
  refine ⟨_, (exec_updOp hd).trans (congrArg Host.Outcome.next (updOp_no_room ht ho h)), ?_,
    State.rd_wr_fits _ rfl (by decide), ?_, ((State.wr_keeps ..).comp rfl (State.wrB_keeps ..)).changes rfl⟩
  · exact (State.bit_wr_apart _ _ rfl rfl rfl).trans (State.bit_wrB_same _ true rfl)
  · exact (RegsBut.refl.wrB (f := SWC_GEN_STAT_FAIL) SWC_GEN_STAT_mem true).wr (f := SWC_GEN_STAT_RESULT)
      SWC_GEN_STAT_mem 4

/-! ## READ (R127) -/

/-- The words of an entry stand in the update window. -/
def State.entryShown (s : State) (d : List Word) : State :=
  (List.range 5).foldl (fun u k => u.setReg (SWC_UPD_DATAk k) (d.getD k 0)) s

theorem reg_entryShown (s : State) (d : List Word) {k : Nat} (hk : k < 5) :
    (s.entryShown d).reg (SWC_UPD_DATAk k) = d.getD k 0 := by
  refine reg_foldl_setReg (a := SWC_UPD_DATAk) (v := fun k => d.getD k 0) (List.mem_range.2 hk) (fun j _ hj => ?_) s
  rw [show j = k by simp only [SWC_UPD_DATAk] at hj; omega]

theorem exec_updRead (hd : s.domOn 6 = true) (ht : tab.toNat ≤ 6) :
    exec (.updRead tab i) s = .next (s.updRead tab.toNat i.toNat) := by
  refine congrArg Host.Outcome.next ((if_pos hd).trans ?_)
  simp [State.updOp, Nat.not_lt.2 ht]

/-- A READ of an entry whose index is in range. -/
theorem updRead_shows {table k : Nat} {d : List Word} (hd : s.domOn 6 = true) (ht : tab.toNat = table) (h6 : table ≤ 6)
    (hi : i.toNat = k) (he : s.updRead table k = s.entryShown d) :
    Gives (exec (.updRead tab i) s) fun t =>
      (∀ j, j < 5 → t.reg (SWC_UPD_DATAk j) = d.getD j 0) ∧ Changes [.regs] s t := by
  subst ht hi
  have hch : Changes [.regs] s (s.updRead tab.toNat i.toNat) := (State.updRead_keeps ..).changes rfl
  rw [he] at hch
  exact ⟨_, (exec_updRead hd h6).trans (congrArg Host.Outcome.next he), fun j => reg_entryShown s d, hch⟩

theorem updRead_filter {k : Nat} (hk : k < 1024) : s.updRead 3 k =
    s.entryShown [putBits (s.swc.tables.filterAt k) 61 61 (b2n (s.sfBlocked s.swc.tables k))] :=
  if_neg (by simp [updIndexOk, hk])

theorem updRead_fst {k : Nat} (hk : k < 16384) :
    s.updRead 0 k = s.entryShown [(s.swc.tables.fstAt k).1, (s.swc.tables.fstAt k).2] :=
  if_neg (by simp [updIndexOk, hk])

/-! ## ABORT (R125) -/

theorem exec_swcAbort (hd : s.domOn 6 = true) : exec .swcAbort s = .next s.swAbort :=
  congrArg Host.Outcome.next (if_pos hd)

theorem regsBut_swAbort (s : State) : RegsBut [SWC_GEN_STAT] s s.swAbort :=
  ((RegsBut.refl.wr (s := s.setSwc _) (f := SWC_GEN_STAT_STAGED) SWC_GEN_STAT_mem 0).wrB
    (f := SWC_GEN_STAT_HOLD_WAIT) SWC_GEN_STAT_mem false).wrB (f := SWC_GEN_STAT_BUSY) SWC_GEN_STAT_mem false

/-- No batch is staged, none waits, and no table has changed. -/
structure BatchGone (s t : State) : Prop where
  batch : t.swc.batch = []
  staged : t.rd SWC_GEN_STAT_STAGED = 0
  busy : t.bit SWC_GEN_STAT_BUSY = false
  waits : t.bit SWC_GEN_STAT_HOLD_WAIT = false
  tables : t.swc.tables = s.swc.tables
  genAbs : t.swc.genAbs = s.swc.genAbs

theorem batchGone_swAbort (s : State) : BatchGone s s.swAbort where
  batch := rfl
  staged := (State.rd_wr_apart _ _ rfl rfl rfl).trans
    ((State.rd_wr_apart _ _ rfl rfl rfl).trans (State.rd_wr_same _ 0 rfl))
  busy := State.bit_wrB_same _ false rfl
  waits := (State.bit_wr_apart _ _ rfl rfl rfl).trans (State.bit_wrB_same _ false rfl)
  tables := rfl
  genAbs := rfl

theorem swcAbort_discards (hd : s.domOn 6 = true) : Gives (exec .swcAbort s) fun t =>
    t.swc.batch = [] ∧ t.rd SWC_GEN_STAT_STAGED = 0 ∧ t.bit SWC_GEN_STAT_BUSY = false ∧
      t.bit SWC_GEN_STAT_HOLD_WAIT = false ∧ t.swc.tables = s.swc.tables ∧ RegsBut [SWC_GEN_STAT] s t ∧
      Changes [.regs, .swc] s t := by
  have h := batchGone_swAbort s
  exact ⟨_, exec_swcAbort hd, h.batch, h.staged, h.busy, h.waits, h.tables, regsBut_swAbort s,
    (State.swAbort_keeps s).changes rfl⟩

/-! ## COMMIT (R125, R126) -/

theorem exec_swcCommit (hd : s.domOn 6 = true) (hb : s.bit SWC_GEN_STAT_BUSY = false) :
    exec .swcCommit s = .next s.swCommit :=
  congrArg Host.Outcome.next (if_neg (by simp [hd, hb]))

theorem exec_commitHoldRelease (hd : s.domOn 6 = true) (hw : s.bit SWC_GEN_STAT_HOLD_WAIT = true) :
    exec .commitHoldRelease s = .next s.swCommit :=
  congrArg Host.Outcome.next (if_pos (by simp [hd, hw]))

/-- What the staged batch makes of the tables: the code and the position of a failure, or the tables after it. -/
abbrev State.batchResult (s : State) : Nat × Nat × SwTables := s.swc.tables.applyAll s.swc.batch 0

/-- The batch has failed: it is discarded, and the failure named. -/
def State.batchFailed (s : State) : State :=
  ((s.swAbort.wrB SWC_GEN_STAT_FAIL true).wr SWC_GEN_STAT_RESULT s.batchResult.1).wr SWC_GEN_STAT_FAIL_INDEX
    s.batchResult.2.1

/-- The tables that the batch makes of the present ones, with the new life of the filters it writes (R129). -/
abbrev State.batchTables (s : State) : SwTables := s.batchResult.2.2.stampFilters (s.swc.genAbs + 1) s.swc.batch

/-- The batch applies: the tables it makes are the next generation. -/
def State.batchApplied (s : State) : State :=
  (((s.swc.batch.foldl State.opReset s).newGen s.batchTables).swAbort.wr SWC_GEN_STAT_RESULT 0).wrB
    SWC_GEN_STAT_DONE true

theorem swCommit_fails (h : s.batchResult.1 ≠ 0) : s.swCommit = s.batchFailed :=
  if_pos (by simpa using h)

theorem swCommit_waits (h : s.batchResult.1 = 0) (hh : s.batchHeld = true) :
    s.swCommit = (s.wrB SWC_GEN_STAT_HOLD_WAIT true).wrB SWC_GEN_STAT_BUSY true :=
  (if_neg (by simpa using h)).trans (if_pos hh)

theorem swCommit_applies (h : s.batchResult.1 = 0) (hh : s.batchHeld = false) : s.swCommit = s.batchApplied :=
  (if_neg (by simpa using h)).trans (if_neg (by simp [hh]))

/-- What a batch starts anew leaves the count of generations. -/
theorem genAbs_opReset (s : State) (o : UpdOp) : (s.opReset o).swc.genAbs = s.swc.genAbs := by
  have hrun : (s.runReset o).swc.genAbs = s.swc.genAbs := by
    unfold State.runReset
    extract_lets w
    split <;> rfl
  unfold State.opReset
  extract_lets w g
  split
  · rfl
  · split
    · rfl
    · split
      · split
        · exact hrun
        · rfl
      · rfl

theorem genAbs_foldl_opReset (l : List UpdOp) (s : State) : (l.foldl State.opReset s).swc.genAbs = s.swc.genAbs :=
  List.foldlRecOn (motive := fun t : State => t.swc.genAbs = s.swc.genAbs) l _ rfl
    fun t ht o _ => (genAbs_opReset t o).trans ht

theorem regsBut_foldl_opReset (l : List UpdOp) (s : State) : RegsBut [SWC_GEN_STAT] s (l.foldl State.opReset s) :=
  List.foldlRecOn l _ RegsBut.refl fun t ht o _ =>
    ht.trans fun _ _ => congrArg (fun r => mapGet regReset r _) ((State.opReset_keeps t o).same .regs rfl)

theorem regsBut_batchApplied (s : State) : RegsBut [SWC_GEN_STAT] s s.batchApplied := by
  have hreset := regsBut_foldl_opReset s.swc.batch s
  have hgen : RegsBut [SWC_GEN_STAT] s ((s.swc.batch.foldl State.opReset s).newGen s.batchTables) :=
    RegsBut.wr (f := SWC_GEN_STAT_GEN) (t := (s.swc.batch.foldl State.opReset s).setSwc _) hreset SWC_GEN_STAT_mem _
  exact ((hgen.trans (regsBut_swAbort _)).wr (f := SWC_GEN_STAT_RESULT) SWC_GEN_STAT_mem 0).wrB
    (f := SWC_GEN_STAT_DONE) SWC_GEN_STAT_mem true

/-- The generation `g` with tables `T` is in force, and no batch is staged. -/
structure Committed (g : Nat) (T : SwTables) (t : State) : Prop where
  tables : t.swc.tables = T
  genAbs : t.swc.genAbs = g
  batch : t.swc.batch = []
  done : t.bit SWC_GEN_STAT_DONE = true
  result : t.rd SWC_GEN_STAT_RESULT = 0
  gen : t.rd SWC_GEN_STAT_GEN = g % 65536
  waits : t.bit SWC_GEN_STAT_HOLD_WAIT = false
  busy : t.bit SWC_GEN_STAT_BUSY = false

theorem gen_newGen (s : State) (T : SwTables) : (s.newGen T).rd SWC_GEN_STAT_GEN = (s.swc.genAbs + 1) % 65536 :=
  State.rd_wr_same _ _ rfl

theorem gen_swAbort (s : State) : s.swAbort.rd SWC_GEN_STAT_GEN = s.rd SWC_GEN_STAT_GEN := by
  simp (disch := decide) only [State.swAbort, State.wrB, State.rd_wr_apart]
  rfl

theorem committed_batchApplied (s : State) : Committed (s.swc.genAbs + 1) s.batchTables s.batchApplied := by
  have hgone := batchGone_swAbort ((s.swc.batch.foldl State.opReset s).newGen s.batchTables)
  have hgenAbs := genAbs_foldl_opReset s.swc.batch s
  constructor
  case tables => rfl
  case genAbs => exact congrArg (· + 1) hgenAbs
  case batch => rfl
  case done => exact State.bit_wrB_same _ true rfl
  case result => exact (State.rd_wr_apart _ _ rfl rfl rfl).trans (State.rd_wr_same _ 0 rfl)
  case gen =>
    refine (State.rd_wr_apart _ _ rfl rfl rfl).trans ((State.rd_wr_apart _ _ rfl rfl rfl).trans ?_)
    rw [gen_swAbort, gen_newGen, hgenAbs]
  case waits => exact (State.bit_wr_apart _ _ rfl rfl rfl).trans ((State.bit_wr_apart _ _ rfl rfl rfl).trans hgone.waits)
  case busy => exact (State.bit_wr_apart _ _ rfl rfl rfl).trans ((State.bit_wr_apart _ _ rfl rfl rfl).trans hgone.busy)

theorem changes_batchApplied (h : s.batchResult.1 = 0) (hh : s.batchHeld = false) :
    Changes [.regs, .swc] s s.batchApplied := by
  rw [← swCommit_applies h hh]
  exact (State.swCommit_keeps s).changes rfl

theorem swcCommit_applied (hd : s.domOn 6 = true) (hb : s.bit SWC_GEN_STAT_BUSY = false) (h : s.batchResult.1 = 0)
    (hh : s.batchHeld = false) : Gives (exec .swcCommit s) fun t =>
      t.swc.tables = s.batchTables ∧ t.swc.genAbs = s.swc.genAbs + 1 ∧ t.swc.batch = [] ∧
        t.bit SWC_GEN_STAT_DONE = true ∧ t.rd SWC_GEN_STAT_RESULT = 0 ∧
        t.rd SWC_GEN_STAT_GEN = (s.swc.genAbs + 1) % 65536 ∧ RegsBut [SWC_GEN_STAT] s t ∧
        Changes [.regs, .swc] s t := by
  have hc := committed_batchApplied s
  exact ⟨_, (exec_swcCommit hd hb).trans (congrArg Host.Outcome.next (swCommit_applies h hh)), hc.tables, hc.genAbs,
    hc.batch, hc.done, hc.result, hc.gen, regsBut_batchApplied s, changes_batchApplied h hh⟩

theorem commitHoldRelease_applied (hd : s.domOn 6 = true) (hw : s.bit SWC_GEN_STAT_HOLD_WAIT = true)
    (h : s.batchResult.1 = 0) (hh : s.batchHeld = false) : Gives (exec .commitHoldRelease s) fun t =>
      t.swc.tables = s.batchTables ∧ t.bit SWC_GEN_STAT_HOLD_WAIT = false ∧ t.bit SWC_GEN_STAT_BUSY = false ∧
        t.bit SWC_GEN_STAT_DONE = true ∧ RegsBut [SWC_GEN_STAT] s t ∧ Changes [.regs, .swc] s t := by
  have hc := committed_batchApplied s
  exact ⟨_, (exec_commitHoldRelease hd hw).trans (congrArg Host.Outcome.next (swCommit_applies h hh)), hc.tables,
    hc.waits, hc.busy, hc.done, regsBut_batchApplied s, changes_batchApplied h hh⟩

theorem batchFailed_swc (s : State) : s.batchFailed.swc = s.swAbort.swc := by
  rw [State.batchFailed, State.wr_swc, State.wr_swc, State.wrB_swc]

/-- The failure shows, with its code and its position. -/
theorem batchFailed_shows (s : State) : s.batchFailed.bit SWC_GEN_STAT_FAIL = true ∧
    s.batchFailed.rd SWC_GEN_STAT_RESULT = s.batchResult.1 % 16 ∧
    s.batchFailed.rd SWC_GEN_STAT_FAIL_INDEX = s.batchResult.2.1 % 64 := by
  unfold State.batchFailed
  generalize s.batchResult.1 = code
  generalize s.batchResult.2.1 = index
  refine ⟨?_, ?_, State.rd_wr_same _ _ rfl⟩
  · exact (State.bit_wr_apart _ _ rfl rfl rfl).trans
      ((State.bit_wr_apart _ _ rfl rfl rfl).trans (State.bit_wrB_same _ true rfl))
  · exact (State.rd_wr_apart _ _ rfl rfl rfl).trans (State.rd_wr_same _ _ rfl)

theorem regsBut_batchFailed (s : State) : RegsBut [SWC_GEN_STAT] s s.batchFailed :=
  (((regsBut_swAbort s).wrB (f := SWC_GEN_STAT_FAIL) SWC_GEN_STAT_mem true).wr (f := SWC_GEN_STAT_RESULT)
    SWC_GEN_STAT_mem _).wr (f := SWC_GEN_STAT_FAIL_INDEX) SWC_GEN_STAT_mem _

theorem swcCommit_failed (hd : s.domOn 6 = true) (hb : s.bit SWC_GEN_STAT_BUSY = false) (h : s.batchResult.1 ≠ 0) :
    Gives (exec .swcCommit s) fun t =>
      t.swc.tables = s.swc.tables ∧ t.swc.genAbs = s.swc.genAbs ∧ t.swc.batch = [] ∧ t.bit SWC_GEN_STAT_FAIL = true ∧
        t.rd SWC_GEN_STAT_RESULT = s.batchResult.1 % 16 ∧ t.rd SWC_GEN_STAT_FAIL_INDEX = s.batchResult.2.1 % 64 ∧
        RegsBut [SWC_GEN_STAT] s t ∧ Changes [.regs, .swc] s t := by
  have hch : Changes [.regs, .swc] s s.swCommit := (State.swCommit_keeps s).changes rfl
  rw [swCommit_fails h] at hch
  obtain ⟨hfail, hcode, hindex⟩ := batchFailed_shows s
  have hgone := batchGone_swAbort s
  have hswc := batchFailed_swc s
  exact ⟨_, (exec_swcCommit hd hb).trans (congrArg Host.Outcome.next (swCommit_fails h)), by rw [hswc, hgone.tables],
    by rw [hswc, hgone.genAbs], by rw [hswc, hgone.batch], hfail, hcode, hindex, regsBut_batchFailed s, hch⟩

theorem swcCommit_held (hd : s.domOn 6 = true) (hb : s.bit SWC_GEN_STAT_BUSY = false) (h : s.batchResult.1 = 0)
    (hh : s.batchHeld = true) : Gives (exec .swcCommit s) fun t =>
      t.bit SWC_GEN_STAT_HOLD_WAIT = true ∧ t.bit SWC_GEN_STAT_BUSY = true ∧ RegsBut [SWC_GEN_STAT] s t ∧
        Changes [.regs] s t :=
  ⟨_, (exec_swcCommit hd hb).trans (congrArg Host.Outcome.next (swCommit_waits h hh)),
    (State.bit_wr_apart _ _ rfl rfl rfl).trans (State.bit_wrB_same _ true rfl), State.bit_wrB_same _ true rfl,
    (RegsBut.refl.wrB (f := SWC_GEN_STAT_HOLD_WAIT) SWC_GEN_STAT_mem true).wrB (f := SWC_GEN_STAT_BUSY)
      SWC_GEN_STAT_mem true, ((State.wrB_keeps ..).comp rfl (State.wrB_keeps ..)).changes rfl⟩

end Updates

/-- The update window, COMMIT and ABORT. -/
theorem tableUpdates : Sys2Proof.Rules.tableUpdates := by
  intro s tab op i hd
  refine ⟨updOp_staged hd, updOp_full hd, fun ht hi => ?_, fun ht => ?_, swcCommit_applied hd, swcCommit_failed hd,
    swcCommit_held hd, commitHoldRelease_applied hd, swcAbort_discards hd⟩
  · obtain ⟨t, he, hdata, hch⟩ := updRead_shows hd ht (by decide) rfl (updRead_filter hi)
    exact ⟨t, he, hdata 0 (by decide), hch⟩
  · obtain ⟨t, he, hdata, hch⟩ := updRead_shows hd ht (by decide) rfl (updRead_fst i.isLt)
    exact ⟨t, he, Prod.ext (hdata 0 (by decide)) (hdata 1 (by decide)), hch⟩

end Sys2Proof.Machine
end

section
/-! SUPPORT. The cycle generator under CLK_TIME edges (R22, R69, R78): an advance of time leaves the latest boundary and
RUN alone, and the switch altogether. -/

namespace Sys2Proof.Machine

/-- The latest boundary, whether one has fallen, and RUN are in `t` what they were in `s`. -/
structure CycleKept (s t : State) : Prop where
  edge : t.ntu.cyc.edge = s.ntu.cyc.edge
  started : t.ntu.cyc.started = s.ntu.cyc.started
  run : t.cycRun = s.cycRun

theorem CycleKept.refl {s : State} : CycleKept s s := ⟨rfl, rfl, rfl⟩

theorem CycleKept.trans {s t u : State} (h : CycleKept s t) (g : CycleKept t u) : CycleKept s u :=
  ⟨g.edge.trans h.edge, g.started.trans h.started, g.run.trans h.run⟩

theorem CycleKept.wr {s t : State} (h : CycleKept s t) {f : Fld} (hf : f.ok = true)
    (ha : NTU_CYC_CTL_RUN.apart f = true) (v : Nat) : CycleKept s (t.wr f v) :=
  h.trans ⟨rfl, rfl, State.bit_wr_apart t v hf rfl ha⟩

theorem cycleKept_castEdge (s : State) : CycleKept s s.castEdge := by
  unfold State.castEdge
  split
  · exact .refl
  · extract_lets g st old cyc act done1 done2 done3 moved
    have hd : CycleKept s done1 := ⟨rfl, rfl, rfl⟩
    have hm : CycleKept s moved := ⟨rfl, rfl, rfl⟩
    split
    · exact (((hd.wr rfl rfl _).wr (f := NTU_CAST_STAT_CASTLING) rfl rfl _).wr (f := NTU_CAST_STAT_DONE) rfl rfl _).wr
        rfl rfl _
    · exact hm.wr (f := NTU_CAST_STAT_REMAIN) rfl rfl _

theorem cycleKept_edges (s : State) (n : Nat) : CycleKept s (s.edges n) := by
  induction n generalizing s with
  | zero => exact .refl
  | succ n ih =>
    have h1 : CycleKept s s.edge1 := by
      unfold State.edge1
      split
      · have h0 : CycleKept s (s.ltEdges 1) := ⟨rfl, rfl, rfl⟩
        exact h0.trans (cycleKept_castEdge _)
      · exact .refl
    unfold State.edges
    split
    · exact h1.trans (ih _)
    · split
      · exact ⟨rfl, rfl, rfl⟩
      · exact .refl

theorem cycleKept_advanceTo (s : State) (t : Nat) : CycleKept s (s.advanceTo t) := cycleKept_edges s _

theorem domOn_of_cycLive {s : State} (h : s.cycLive = true) : s.domOn 6 = true := by
  simp only [State.cycLive, Bool.and_eq_true] at h
  exact h.1.1

theorem cycLive_advanceTo {s : State} (h : s.cycLive = true) (t : Nat) : (s.advanceTo t).cycLive = true := by
  have hk := cycleKept_advanceTo s t
  rw [State.cycLive, (edged_advanceTo (domOn_of_cycLive h) t).domOn_eq, hk.run, hk.started]
  exact h

theorem advanceTo_swc (s : State) (t : Nat) : (s.advanceTo t).swc = s.swc := (State.advanceTo_keeps s t).same .swc rfl

end Sys2Proof.Machine
end

section
/-! PROOF of SwitchTables, second part (R122, R130, R132, R134, R135, R146): gate lists, stream gates, the reset of a FRER
function, the consumer count of the mirror ring and ageing. -/

namespace Sys2Proof.Machine

section Lists

variable {s : State}

/-! ## Gate lists (R134, R135) -/

section GateList

variable {p : Fin 16}

theorem SWC_PORTp_GCL_CTL_mem (p : Nat) : SWC_PORTp_GCL_CTL p ∈ [SWC_PORTp_GCL_CTL p] := List.mem_singleton_self _

theorem exec_gclApply (hd : s.domOn 6 = true) : exec (.gclApply p) s = .next (s.gclApply p) :=
  congrArg Host.Outcome.next (if_pos hd)

theorem gclApply_pends (hd : s.domOn 6 = true) (hp : s.bit (SWC_PORTp_GCL_CTL_APPLY_PENDING p) = false)
    (hok : s.gclOk p = true) : Gives (exec (.gclApply p) s) fun t =>
      t.bit (SWC_PORTp_GCL_CTL_APPLY_PENDING p) = true ∧ RegsBut [SWC_PORTp_GCL_CTL p] s t ∧ Changes [.regs] s t := by
  have he : s.gclApply p = s.wrB (SWC_PORTp_GCL_CTL_APPLY_PENDING p) true :=
    (if_neg (ne_true_of_eq_false hp)).trans (if_pos hok)
  exact ⟨_, (exec_gclApply hd).trans (congrArg Host.Outcome.next he), State.bit_wrB_same _ true rfl,
    RegsBut.refl.wrB (f := SWC_PORTp_GCL_CTL_APPLY_PENDING p) (SWC_PORTp_GCL_CTL_mem p) true,
    (State.wrB_keeps ..).changes rfl⟩

theorem gclApply_refuses (hd : s.domOn 6 = true) (hp : s.bit (SWC_PORTp_GCL_CTL_APPLY_PENDING p) = false)
    (hok : s.gclOk p = false) : Gives (exec (.gclApply p) s) fun t =>
      t.bit (SWC_PORTp_GCL_CTL_APPLY_PENDING p) = false ∧ t.bit (SWC_PORTp_GCL_CTL_APPLY_REFUSED p) = true ∧
        RegsBut [SWC_PORTp_GCL_CTL p] s t ∧ Changes [.regs] s t := by
  have he : s.gclApply p = s.wrB (SWC_PORTp_GCL_CTL_APPLY_REFUSED p) true :=
    (if_neg (ne_true_of_eq_false hp)).trans (if_neg (ne_true_of_eq_false hok))
  exact ⟨_, (exec_gclApply hd).trans (congrArg Host.Outcome.next he),
    (State.bit_wr_apart s _ rfl rfl (Fld.apart_of_below (by decide : 2 < 3))).trans hp, State.bit_wrB_same _ true rfl,
    RegsBut.refl.wrB (f := SWC_PORTp_GCL_CTL_APPLY_REFUSED p) (SWC_PORTp_GCL_CTL_mem p) true,
    (State.wrB_keeps ..).changes rfl⟩

/-- Entry `i` of the gate list comes into force: the credits are brought up to now first. -/
def State.gclEnter (s : State) (p i : Nat) : State := (((s.creditPort p).setGclIdx p i).gclHold p).preemptNow p

theorem gclIdx_preemptNow (s : State) (p q : Nat) : (s.preemptNow p).gclIdx q = s.gclIdx q := by
  unfold State.preemptNow
  split
  · rfl
  · split <;> rfl

theorem gclIdx_gclEnter (s : State) (p i : Nat) : (s.gclEnter p i).gclIdx p = i := by
  have hhold : ∀ t : State, (t.gclHold p).gclIdx p = t.gclIdx p := fun t =>
    congrArg (fun w : SwcSt => mapGet (fun _ => 0) w.gclPos p) ((State.gclHold_keeps t p).same .swc rfl)
  rw [State.gclEnter, gclIdx_preemptNow, hhold]
  exact mapGet_put_same _ _ _ _

theorem gclEnter_keeps (s : State) (p i : Nat) : Keeps 2097160 s (s.gclEnter p i) :=
  (State.preemptNow_keeps ..).comp rfl ((State.gclHold_keeps ..).comp rfl
    ((State.setGclIdx_keeps ..).comp rfl ((State.creditPort_keeps ..).mono rfl)))

/-- LT at which entry `i` of the list starts. -/
abbrev State.gclStartsAt (s : State) (p i : Nat) : Nat := s.ntu.cyc.edge + s.gclStart p i * 2 ^ 32

theorem exec_gclEntryAdvance (hd : s.domOn 6 = true) (hr : s.gclRuns p = true) (hi : s.gclIdx p + 1 < s.gclLen p)
    (hn : s.gclStartsAt p (s.gclIdx p + 1) < s.nextNominal) : exec (.gclEntryAdvance p) s =
      .next ((s.advanceTo (s.gclStartsAt p (s.gclIdx p + 1))).gclEnter p (s.gclIdx p + 1)) :=
  if_neg (by
    simp only [hd, hr, Bool.not_true, Bool.false_or, Bool.or_eq_true, decide_eq_true_eq, not_or, Nat.not_le]
    exact ⟨hi, hn⟩)

theorem gclEntryAdvance_enters (hd : s.domOn 6 = true) (hr : s.gclRuns p = true) (hi : s.gclIdx p + 1 < s.gclLen p)
    (hn : s.gclStartsAt p (s.gclIdx p + 1) < s.nextNominal) : Gives (exec (.gclEntryAdvance p) s) fun t =>
      t.gclIdx p = s.gclIdx p + 1 ∧ s.gclStartsAt p (s.gclIdx p + 1) ≤ t.ntu.lt ∧ Changes [.regs, .ntu, .swc] s t := by
  have hk := gclEnter_keeps (s.advanceTo (s.gclStartsAt p (s.gclIdx p + 1))) p (s.gclIdx p + 1)
  refine ⟨_, exec_gclEntryAdvance hd hr hi hn, gclIdx_gclEnter .., ?_,
    (hk.comp (M := 2359304) rfl ((State.advanceTo_keeps ..).mono rfl)).changes rfl⟩
  rw [hk.same .ntu rfl]
  exact State.le_advanceTo_lt hd _

end GateList

/-! ## Stream gates (R130) -/

section StreamGate

variable {T : SwTables} {g : Nat}

/-- ns from the boundary at which entry `i` of a stream gate begins. -/
def SwTables.sgStart (T : SwTables) (g i : Nat) : Nat := sumNat ((List.range i).map fun j => T.sgInterval g j)

theorem sgStart_succ (T : SwTables) (g i : Nat) : T.sgStart g (i + 1) = T.sgStart g i + T.sgInterval g i := by
  simp [SwTables.sgStart, sumNat, List.range_succ]

theorem sgStart_mono (T : SwTables) (g : Nat) {i j : Nat} (h : i ≤ j) : T.sgStart g i ≤ T.sgStart g j :=
  monotone_nat_of_le_succ (fun k => by rw [sgStart_succ]; omega) h

theorem le_sgWalk (T : SwTables) (g n i off : Nat) : i ≤ T.sgWalk g n i off := by
  induction n generalizing i off with
  | zero => exact Nat.le_refl i
  | succ n ih =>
    unfold SwTables.sgWalk
    extract_lets v
    split
    · exact Nat.le_refl i
    · exact Nat.le_of_succ_le (ih (i + 1) (off - v))

/-- The walk passes no entry of INTERVAL 0. -/
theorem sgInterval_ne_zero_of_lt_sgWalk {n i off k : Nat} (hi : i ≤ k) (hk : k < T.sgWalk g n i off) :
    T.sgInterval g k ≠ 0 := by
  induction n generalizing i off with
  | zero => exact absurd (Nat.lt_of_le_of_lt hi hk) (Nat.lt_irrefl i)
  | succ n ih =>
    unfold SwTables.sgWalk at hk
    extract_lets v at hk
    split at hk
    · omega
    · next hgo =>
      rcases Nat.eq_or_lt_of_le hi with rfl | hlt
      · simp only [Bool.or_eq_true, beq_iff_eq, not_or] at hgo
        exact hgo.1.1
      · exact ih hlt hk

/-- From an entry `i` whose offset reaches past entry `j`, with none of INTERVAL 0 up to `j + 1`, the walk does too. -/
theorem lt_sgWalk {n i off j : Nat} (hne : ∀ k, k ≤ j + 1 → T.sgInterval g k ≠ 0) (hn : j < i + n)
    (hoff : T.sgStart g (j + 1) ≤ T.sgStart g i + off) : j < T.sgWalk g n i off := by
  induction n generalizing i off with
  | zero => exact hn
  | succ n ih =>
    by_cases hij : i ≤ j
    · have hmono := sgStart_mono T g (by omega : i + 1 ≤ j + 1)
      have hsucc := sgStart_succ T g i
      have hi := hne i (by omega)
      have hi1 := hne (i + 1) (by omega)
      have hgo : ¬(T.sgInterval g i == 0 || decide (off < T.sgInterval g i) || T.sgInterval g (i + 1) == 0) = true := by
        simp only [Bool.or_eq_true, beq_iff_eq, decide_eq_true_eq, hi, hi1, or_false, false_or]
        omega
      rw [SwTables.sgWalk, if_neg hgo]
      exact ih (by omega) (by omega)
    · exact Nat.lt_of_lt_of_le (Nat.not_le.1 hij) (le_sgWalk T g (n + 1) i off)

/-- LT at which the entry after the one in force begins. -/
abbrev State.sgNextAt (s : State) (g : Nat) : Nat :=
  s.ntu.cyc.edge + s.swc.tables.sgStart g (s.sgIdx s.swc.tables g + 1) * 2 ^ 32

theorem exec_streamGateAdvance {g : Fin 64} (hl : s.cycLive = true) (h15 : s.sgIdx s.swc.tables g < 15)
    (h : s.swc.tables.sgInterval g (s.sgIdx s.swc.tables g) ≠ 0)
    (h1 : s.swc.tables.sgInterval g (s.sgIdx s.swc.tables g + 1) ≠ 0) (hn : s.sgNextAt g < s.nextNominal) :
    exec (.streamGateAdvance g) s = .next (s.advanceTo (s.sgNextAt g)) := by
  have hd := domOn_of_cycLive hl
  refine if_neg ?_
  simp only [hd, hl, Bool.not_true, Bool.false_or, Bool.or_eq_true, decide_eq_true_eq, beq_iff_eq, h, h1, or_false, not_or,
    Nat.not_le]
  exact ⟨h15, hn⟩

theorem sgIdx_live {t : State} (h : t.cycLive = true) (T : SwTables) (g : Nat) :
    t.sgIdx T g = T.sgWalk g 15 0 t.cycNow := if_pos h

/-- At that instant the entry in force is a later one. -/
theorem sgIdx_advanceTo {g : Nat} (hl : s.cycLive = true) (h15 : s.sgIdx s.swc.tables g < 15)
    (h : s.swc.tables.sgInterval g (s.sgIdx s.swc.tables g) ≠ 0)
    (h1 : s.swc.tables.sgInterval g (s.sgIdx s.swc.tables g + 1) ≠ 0) :
    s.sgIdx s.swc.tables g < (s.advanceTo (s.sgNextAt g)).sgIdx s.swc.tables g := by
  have hd := domOn_of_cycLive hl
  have hnow : s.swc.tables.sgStart g (s.sgIdx s.swc.tables g + 1) ≤ (s.advanceTo (s.sgNextAt g)).cycNow := by
    rw [State.cycNow, (cycleKept_advanceTo s _).edge, Nat.le_div_iff_mul_le (by decide)]
    exact Nat.le_sub_of_add_le' (State.le_advanceTo_lt hd _)
  rw [sgIdx_live (cycLive_advanceTo hl _)]
  refine lt_sgWalk (fun k hk => ?_) (by omega) (Nat.le_add_left_of_le hnow)
  rcases Nat.lt_or_ge k (s.sgIdx s.swc.tables g) with hlt | hge
  · rw [sgIdx_live hl] at hlt
    exact sgInterval_ne_zero_of_lt_sgWalk (Nat.zero_le k) hlt
  · rcases Nat.eq_or_lt_of_le hge with rfl | hgt
    · exact h
    · rwa [show k = s.sgIdx s.swc.tables g + 1 by omega]

theorem streamGateAdvance_enters {g : Fin 64} (hd : s.domOn 6 = true) (hl : s.cycLive = true)
    (h15 : s.sgIdx s.swc.tables g < 15) (h : s.swc.tables.sgInterval g (s.sgIdx s.swc.tables g) ≠ 0)
    (h1 : s.swc.tables.sgInterval g (s.sgIdx s.swc.tables g + 1) ≠ 0) (hn : s.sgNextAt g < s.nextNominal) :
    Gives (exec (.streamGateAdvance g) s) fun t => s.sgIdx s.swc.tables g + 1 ≤ t.sgIdx t.swc.tables g ∧
      s.sgNextAt g ≤ t.ntu.lt ∧ Changes [.regs, .ntu] s t := by
  refine ⟨_, exec_streamGateAdvance hl h15 h h1 hn, ?_, State.le_advanceTo_lt hd _, (State.advanceTo_keeps ..).changes rfl⟩
  rw [advanceTo_swc]
  exact sgIdx_advanceTo hl h15 h h1

end StreamGate

/-! ## The reset of a FRER function (R132) -/

/-- Recovery function `n`. -/
abbrev State.frerSt (s : State) (n : Nat) : FrerSt := mapGet (fun _ => FrerSt.reset) s.swc.frers n

/-- LT at which RESET_MS has passed since function `n` accepted a frame. -/
abbrev State.frerResetAt (s : State) (n : Nat) : Nat :=
  ((s.frerSt n).last + bitsOf (s.swc.tables.frerAt n) 54 39 * 1000000) * 2 ^ 32

/-- Function `n` takes any frame next. -/
def State.frerTakeAny (s : State) (n : Nat) (r : FrerSt) : State :=
  s.setSwc { s.swc with
    frers := mapPut (fun _ => FrerSt.reset) s.swc.frers n { r with takeAny := true, hist := [] } }

theorem frerTakeAny_keeps (s : State) (n : Nat) (r : FrerSt) : Keeps 2097152 s (s.frerTakeAny n r) :=
  State.setSwc_keeps ..

theorem takeAny_frerTakeAny (s : State) (n : Nat) (r : FrerSt) : ((s.frerTakeAny n r).frerSt n).takeAny = true :=
  congrArg FrerSt.takeAny (mapGet_put_same ..)

theorem exec_frerRecoveryReset {f : Fin 1024} (hd : s.domOn 6 = true) (hf : 2 ≤ bitsOf (s.swc.tables.frerAt f) 63 62)
    (h : (s.frerSt f).takeAny = false) : exec (.frerRecoveryReset f) s =
      .next ((s.advanceTo (s.frerResetAt f)).frerTakeAny f (s.frerSt f)) :=
  if_neg (by simp only [hd, h, Bool.not_true, Bool.false_or, Bool.or_false, decide_eq_true_eq, Nat.not_lt]; exact hf)

theorem frerRecoveryReset_takes {f : Fin 1024} (hd : s.domOn 6 = true) (hf : 2 ≤ bitsOf (s.swc.tables.frerAt f) 63 62)
    (h : (s.frerSt f).takeAny = false) : Gives (exec (.frerRecoveryReset f) s) fun t =>
      (t.frerSt f).takeAny = true ∧ s.frerResetAt f ≤ t.ntu.lt ∧ Changes [.regs, .ntu, .swc] s t := by
  have hk := frerTakeAny_keeps (s.advanceTo (s.frerResetAt f)) f (s.frerSt f)
  refine ⟨_, exec_frerRecoveryReset hd hf h, takeAny_frerTakeAny .., ?_,
    (hk.comp (M := 2359304) rfl ((State.advanceTo_keeps ..).mono rfl)).changes rfl⟩
  rw [hk.same .ntu rfl]
  exact State.le_advanceTo_lt hd _

/-! ## The mirror ring (R146) -/

section Mirror

variable {v : BitVec 32}

theorem exec_mirConsWrite (hd : s.domOn 6 = true) : exec (.mirConsWrite v) s = .next (s.mirCons v.toNat) :=
  congrArg Host.Outcome.next (if_pos hd)

/-- The state with the consumer count `n`. -/
def State.mirTaken (s : State) (n : Nat) : State :=
  (s.wr SWC_MIR_CONS_COUNT n).wrB SWC_MIR_STAT_FULL ((s.wr SWC_MIR_CONS_COUNT n).mirUsed == 2048)

/-- The counts that the consumer writes, as a distance from the one that stands. -/
abbrev State.mirAhead (s : State) (n : Nat) : Nat := (n + 2 ^ 32 - s.rd SWC_MIR_CONS_COUNT) % 2 ^ 32

theorem mirCons_taken {n : Nat} (h : s.mirAhead n ≤ s.mirUsed) : s.mirCons n = s.mirTaken n :=
  if_pos (decide_eq_true h)

theorem mirCons_refused {n : Nat} (h : s.mirUsed < s.mirAhead n) : s.mirCons n = s.cfgErr SWC_MIR_CONS :=
  if_neg (by rw [decide_eq_true_eq]; exact Nat.not_le.2 h)

theorem mirUsed_wr_FULL (s : State) (n : Nat) : (s.wr SWC_MIR_STAT_FULL n).mirUsed = s.mirUsed := by
  simp (disch := decide) only [State.mirUsed, State.rd_wr_apart]

theorem mirConsWrite_taken (hd : s.domOn 6 = true) (h : s.mirAhead v.toNat ≤ s.mirUsed) :
    Gives (exec (.mirConsWrite v) s) fun t =>
      t.rd SWC_MIR_CONS_COUNT = v.toNat ∧ t.bit SWC_MIR_STAT_FULL = decide (t.mirUsed = 2048) ∧
        RegsBut [SWC_MIR_CONS, SWC_MIR_STAT] s t ∧ Changes [.regs] s t := by
  refine ⟨s.mirTaken v.toNat, (exec_mirConsWrite hd).trans (congrArg Host.Outcome.next (mirCons_taken h)), ?_, ?_, ?_,
    ((State.wrB_keeps ..).comp rfl (State.wr_keeps ..)).changes rfl⟩
  · exact (State.rd_wr_apart _ _ rfl rfl rfl).trans (State.rd_wr_fits s rfl v.isLt)
  · rw [State.mirTaken, State.bit_wrB_same _ _ rfl, State.wrB, mirUsed_wr_FULL]
    rfl
  · exact (RegsBut.refl.wr (f := SWC_MIR_CONS_COUNT) List.mem_cons_self v.toNat).wrB (f := SWC_MIR_STAT_FULL)
      (List.mem_cons_of_mem _ List.mem_cons_self) _

theorem unitAt_SWC_MIR_CONS : ∃ u, unitAt SWC_MIR_CONS = some u ∧ u.base = uSWC := ⟨_, rfl, rfl⟩

theorem mirConsWrite_refused (hd : s.domOn 6 = true) (h : s.mirUsed < s.mirAhead v.toNat) :
    Gives (exec (.mirConsWrite v) s) fun t =>
      t.reg SWC_MIR_CONS = s.reg SWC_MIR_CONS ∧ t.bit (cUSTAT_CFG_ERR uSWC) = true ∧ Changes [.regs] s t := by
  obtain ⟨u, hu, hbase⟩ := unitAt_SWC_MIR_CONS
  have hregs := regsBut_cfgErr (s := s) hu
  have hset := cfgErr_sets (s := s) hu
  rw [hbase] at hregs hset
  exact ⟨_, (exec_mirConsWrite hd).trans (congrArg Host.Outcome.next (mirCons_refused h)), hregs _ (by decide), hset,
    (State.cfgErr_keeps ..).changes rfl⟩

end Mirror

/-! ## Ageing (R122) -/

section Ageing

variable {h : Nat} {e : Word × Word}

theorem agingSweep_disabled (hz : s.rd SWC_GEN_CTL_AGE_S = 0) : Gives (exec .agingSweep s) fun t => t = s :=
  ⟨s, congrArg Host.Outcome.next (if_pos (by simp [hz])), rfl⟩

/-- LT at which the sweep is due. -/
abbrev State.sweepAt (s : State) : Nat := (s.swc.ageAt + s.rd SWC_GEN_CTL_AGE_S * 1000000000) * 2 ^ 32

theorem exec_agingSweep (hd : s.domOn 6 = true) (hz : s.rd SWC_GEN_CTL_AGE_S ≠ 0) :
    exec .agingSweep s = .next (s.advanceTo s.sweepAt).ageAll :=
  congrArg Host.Outcome.next (if_neg (by simp [hd, hz]))

/-- The state in which a sweep begins. -/
def State.sweepBegun (s : State) : State := s.setSwc { s.swc with ageAt := s.ltNs }

theorem sweepBegun_tables (s : State) : s.sweepBegun.swc.tables = s.swc.tables := rfl
theorem sweepBegun_genAbs (s : State) : s.sweepBegun.swc.genAbs = s.swc.genAbs := rfl

theorem ageAll_one (hfst : s.swc.tables.fst = [(h, e)]) : s.ageAll = s.sweepBegun.ageEntry (h, e) := by
  have hs : s.sweepBegun.swc.tables.fst = [(h, e)] := by rw [sweepBegun_tables, hfst]
  exact congrArg (fun l => l.foldl (fun t e => State.ageEntry t e) s.sweepBegun) hs

/-- A valid entry that is not STATIC, by its two bits. -/
theorem learned_bits (hv : bitsOf e.1 63 62 = 2) : bitsOf e.1 63 63 = 1 ∧ bitsOf e.1 62 62 = 0 := by
  simp only [bitsOf] at hv ⊢
  omega

theorem ageEntry_unhit (hv : bitsOf e.1 63 62 = 2) (hh : bitsOf e.2 48 48 = 0) :
    s.ageEntry (h, e) = s.newGen (s.swc.tables.setFst h (0, 0)) := by
  obtain ⟨hvalid, hstatic⟩ := learned_bits hv
  exact (if_neg (by simp [hvalid])).trans (if_pos (by simp [hstatic, hh]))

theorem ageEntry_hit (hv : bitsOf e.1 63 62 = 2) (hh : bitsOf e.2 48 48 = 1) : s.ageEntry (h, e) =
    s.setSwc { s.swc with tables := s.swc.tables.setFst h (e.1, putBits e.2 48 48 0) } := by
  obtain ⟨hvalid, -⟩ := learned_bits hv
  exact (if_neg (by simp [hvalid])).trans (if_neg (by simp [hh]))

theorem fst_setFst_only {T : SwTables} (hfst : T.fst = [(h, e)]) : (T.setFst h (0, 0)).fst = [] := by
  simp [SwTables.setFst, hfst, mapPut, mapErase]

theorem fstAt_setFst (T : SwTables) (h : Nat) (e : Word × Word) : (T.setFst h e).fstAt h = e := mapGet_put_same _ _ _ _

/-- What a sweep answers when the state it ends in is known. -/
theorem agingSweep_shows {P : State → Prop} {w : State → State} (hd : s.domOn 6 = true)
    (hz : s.rd SWC_GEN_CTL_AGE_S ≠ 0) (he : (s.advanceTo s.sweepAt).ageAll = w (s.advanceTo s.sweepAt).sweepBegun)
    (hP : ∀ t : State, t.swc.tables = s.swc.tables → t.swc.genAbs = s.swc.genAbs → P (w t)) :
    Gives (exec .agingSweep s) fun t => P t ∧ s.sweepAt ≤ t.ntu.lt ∧ Changes [.regs, .ntu, .swc] s t := by
  have hswc := advanceTo_swc s s.sweepAt
  have hk := State.ageAll_keeps (s.advanceTo s.sweepAt)
  refine ⟨_, exec_agingSweep hd hz, ?_, ?_,
    (hk.comp (M := 2359304) rfl ((State.advanceTo_keeps ..).mono rfl)).changes rfl⟩
  · rw [he]
    exact hP _ ((sweepBegun_tables _).trans (by rw [hswc])) ((sweepBegun_genAbs _).trans (by rw [hswc]))
  · rw [hk.same .ntu rfl]
    exact State.le_advanceTo_lt hd _

theorem agingSweep_removes (hd : s.domOn 6 = true) (hz : s.rd SWC_GEN_CTL_AGE_S ≠ 0)
    (hfst : s.swc.tables.fst = [(h, e)]) (hv : bitsOf e.1 63 62 = 2) (hh : bitsOf e.2 48 48 = 0) :
    Gives (exec .agingSweep s) fun t => t.swc.tables.fst = [] ∧ t.swc.genAbs = s.swc.genAbs + 1 ∧
      s.sweepAt ≤ t.ntu.lt ∧ Changes [.regs, .ntu, .swc] s t := by
  have hadv : (s.advanceTo s.sweepAt).swc.tables.fst = [(h, e)] := by rw [advanceTo_swc, hfst]
  have hsweep := agingSweep_shows (w := fun t => t.newGen (t.swc.tables.setFst h (0, 0)))
    (P := fun t => t.swc.tables.fst = [] ∧ t.swc.genAbs = s.swc.genAbs + 1) hd hz
    ((ageAll_one hadv).trans (ageEntry_unhit hv hh)) fun t htab hgen =>
      ⟨fst_setFst_only (htab ▸ hfst), congrArg (· + 1) hgen⟩
  simpa only [and_assoc] using hsweep

theorem agingSweep_clears (hd : s.domOn 6 = true) (hz : s.rd SWC_GEN_CTL_AGE_S ≠ 0)
    (hfst : s.swc.tables.fst = [(h, e)]) (hv : bitsOf e.1 63 62 = 2) (hh : bitsOf e.2 48 48 = 1) :
    Gives (exec .agingSweep s) fun t => bitsOf (t.swc.tables.fstAt h).2 48 48 = 0 ∧ t.swc.genAbs = s.swc.genAbs ∧
      s.sweepAt ≤ t.ntu.lt ∧ Changes [.regs, .ntu, .swc] s t := by
  have hadv : (s.advanceTo s.sweepAt).swc.tables.fst = [(h, e)] := by rw [advanceTo_swc, hfst]
  have hclear : bitsOf (putBits e.2 48 48 0) 48 48 = 0 := bitsOf_putBits_same _ 0 (by decide) (by decide)
  have hsweep := agingSweep_shows
    (w := fun t => t.setSwc { t.swc with tables := t.swc.tables.setFst h (e.1, putBits e.2 48 48 0) })
    (P := fun t => bitsOf (t.swc.tables.fstAt h).2 48 48 = 0 ∧ t.swc.genAbs = s.swc.genAbs) hd hz
    ((ageAll_one hadv).trans (ageEntry_hit hv hh)) fun t _ hgen =>
      ⟨(congrArg (fun x : Word × Word => bitsOf x.2 48 48) (fstAt_setFst ..)).trans hclear, hgen⟩
  simpa only [and_assoc] using hsweep

end Ageing

end Lists

/-- Gate lists, FRER, the mirror ring and ageing. -/
theorem switchLists : Sys2Proof.Rules.switchLists := by
  intro s p g f v hd
  exact ⟨gclApply_pends hd, gclApply_refuses hd, gclEntryAdvance_enters hd, streamGateAdvance_enters hd,
    frerRecoveryReset_takes hd, mirConsWrite_taken hd, mirConsWrite_refused hd, agingSweep_disabled,
    fun hz e h hfst hv => ⟨agingSweep_removes hd hz hfst hv, agingSweep_clears hd hz hfst hv⟩⟩

/-- Settles O17: update batches clause by clause, then the lists of the switch. -/
theorem switchTables : Obligations.SwitchTables := ⟨tableUpdates, switchLists⟩

end Sys2Proof.Machine
end

section
/-! PROOF of DecodeAndEncodeAgree and WordsSpell (R155, R156, R174, R291, R293): a word is put together from its fields exactly
when these are the fields it reads as. For each format of Table R155 that is one equivalence, which counts the reserved
fields of the opcode among the conditions; the formats of Table R291 have the same. Both directions of the round trip are
these equivalences, instruction by instruction. -/

namespace Sys2Proof.Machine

/-! ## Fields of a word -/

theorem append_eq_iff {n m : Nat} {x : BitVec n} {y : BitVec m} {z : BitVec (n + m)} :
    x ++ y = z ↔ z.extractLsb' m n = x ∧ z.extractLsb' 0 m = y := by
  constructor
  · rintro rfl
    exact ⟨BitVec.extractLsb'_append_eq_left, BitVec.extractLsb'_append_eq_right⟩
  · rintro ⟨rfl, rfl⟩
    rw [BitVec.extractLsb'_append_extractLsb'_eq_extractLsb' (Nat.zero_add m).symm, BitVec.extractLsb'_eq_self]

theorem extractLsb'_part {k lo n i m : Nat} {w : BitVec k} (h : i + m ≤ n) :
    (w.extractLsb' lo n).extractLsb' i m = w.extractLsb' (lo + i) m := by
  ext j hj
  simp [show i + j < n by omega, Nat.add_assoc]

theorem extractLsb'_eq_append {k lo n m : Nat} {w : BitVec k} {x : BitVec n} {y : BitVec m} :
    w.extractLsb' lo (n + m) = x ++ y ↔ w.extractLsb' (lo + m) n = x ∧ w.extractLsb' lo m = y := by
  rw [eq_comm, append_eq_iff, extractLsb'_part (by omega), extractLsb'_part (by omega), Nat.add_zero]

/-- The bits of a mask of one field, in a word, are that field's. -/
theorem and_field_eq_zero {w : BitVec 32} {lo len : Nat} :
    w.toNat &&& (2 ^ len - 1) * 2 ^ lo = 0 ↔ w.extractLsb' lo len = 0#len := by
  have hand : w.toNat &&& (2 ^ len - 1) * 2 ^ lo = (w.toNat >>> lo &&& (2 ^ len - 1)) <<< lo := by
    rw [← Nat.shiftLeft_eq]
    refine Nat.eq_of_testBit_eq fun i => ?_
    by_cases h : lo ≤ i <;> simp [h, Bool.and_comm]
  rw [hand, Nat.shiftLeft_eq_zero_iff, Nat.and_two_pow_sub_one_eq_mod, ← BitVec.toNat_inj, BitVec.extractLsb'_toNat,
    BitVec.toNat_ofNat, Nat.zero_mod]

theorem and_fields_eq_zero {w : BitVec 32} {m k : Nat} :
    w.toNat &&& (m ||| k) = 0 ↔ w.toNat &&& m = 0 ∧ w.toNat &&& k = 0 := by
  rw [Nat.and_or_distrib_left, Nat.or_eq_zero_iff]

/-! ## Words of a Rook program (Tables R155 and R174) -/

section RookWords

variable {op : BitVec 7} {d a b : BitVec 5} {w : BitVec 32}

theorem opcode_eq (w : BitVec 32) : w.toNat / 2 ^ 25 % 128 = (w.extractLsb' 25 7).toNat := by
  rw [BitVec.extractLsb'_toNat, Nat.shiftRight_eq_div_pow]

/-- The word has opcode `op` and no non-zero reserved field (R156). -/
def Spells (op : BitVec 7) (w : BitVec 32) : Prop := w.extractLsb' 25 7 = op ∧ rookUndefined w.toNat = false

theorem spells_iff {m : Nat} (hm : rookReserved op.toNat = some m) :
    Spells op w ↔ w.extractLsb' 25 7 = op ∧ w.toNat &&& m = 0 := by
  refine and_congr_right fun hop => ?_
  rw [rookUndefined, opcode_eq, hop, hm]
  exact bne_eq_false_iff_eq

theorem spells_field {lo len : Nat} (hm : rookReserved op.toNat = some ((2 ^ len - 1) * 2 ^ lo)) :
    Spells op w ↔ w.extractLsb' 25 7 = op ∧ w.extractLsb' lo len = 0#len := by
  rw [spells_iff hm, and_field_eq_zero]

theorem spells_fields {lo len lo' len' : Nat}
    (hm : rookReserved op.toNat = some ((2 ^ len - 1) * 2 ^ lo ||| (2 ^ len' - 1) * 2 ^ lo')) :
    Spells op w ↔ w.extractLsb' 25 7 = op ∧ w.extractLsb' lo len = 0#len ∧ w.extractLsb' lo' len' = 0#len' := by
  rw [spells_iff hm, and_fields_eq_zero, and_field_eq_zero, and_field_eq_zero]

theorem rookR_eq_iff : rookR op d a b = w ↔ w.extractLsb' 25 7 = op ∧ w.extractLsb' 20 5 = d ∧ w.extractLsb' 15 5 = a ∧
    w.extractLsb' 10 5 = b ∧ w.extractLsb' 0 10 = 0#10 := by
  change @Eq (BitVec (7 + 5 + 5 + 5 + 10)) (op ++ d ++ a ++ b ++ 0#10) w ↔ _
  simp only [append_eq_iff, extractLsb'_eq_append, and_assoc]

theorem rookI_eq_iff {imm : BitVec 15} : rookI op d a imm = w ↔ w.extractLsb' 25 7 = op ∧ w.extractLsb' 20 5 = d ∧
    w.extractLsb' 15 5 = a ∧ w.extractLsb' 0 15 = imm := by
  change @Eq (BitVec (7 + 5 + 5 + 15)) (op ++ d ++ a ++ imm) w ↔ _
  simp only [append_eq_iff, extractLsb'_eq_append, and_assoc]

theorem rookJ_eq_iff {off : BitVec 25} : rookJ op off = w ↔ w.extractLsb' 25 7 = op ∧ w.extractLsb' 0 25 = off :=
  append_eq_iff (n := 7) (m := 25)

theorem rookR_iff (hm : rookReserved op.toNat = some 0x3FF) : rookR op d a b = w ↔
    Spells op w ∧ w.extractLsb' 20 5 = d ∧ w.extractLsb' 15 5 = a ∧ w.extractLsb' 10 5 = b := by
  rw [rookR_eq_iff, spells_field (lo := 0) (len := 10) hm]
  tauto

theorem rookU_iff (hm : rookReserved op.toNat = some 0x7FFF) : rookR op d a 0 = w ↔
    Spells op w ∧ w.extractLsb' 20 5 = d ∧ w.extractLsb' 15 5 = a := by
  rw [rookR_eq_iff, spells_fields (lo := 10) (len := 5) (lo' := 0) (len' := 10) hm]
  tauto

theorem rookI_iff {imm : BitVec 15} (hm : rookReserved op.toNat = some 0) : rookI op d a imm = w ↔
    Spells op w ∧ w.extractLsb' 20 5 = d ∧ w.extractLsb' 15 5 = a ∧ w.extractLsb' 0 15 = imm := by
  rw [rookI_eq_iff, spells_iff hm, Nat.and_zero]
  tauto

theorem rookSh_iff {count : BitVec 8} (hm : rookReserved op.toNat = some 0x7F00) : rookSh op d a count = w ↔
    Spells op w ∧ w.extractLsb' 20 5 = d ∧ w.extractLsb' 15 5 = a ∧ w.extractLsb' 0 8 = count := by
  rw [spells_field (lo := 8) (len := 7) hm]
  change @Eq (BitVec (7 + 5 + 5 + 7 + 8)) (op ++ d ++ a ++ 0#7 ++ count) w ↔ _
  simp only [append_eq_iff, extractLsb'_eq_append]
  tauto

theorem rookBf_iff {pos len1 : BitVec 6} (hm : rookReserved op.toNat = some 0x7000) : rookBf op d a pos len1 = w ↔
    Spells op w ∧ w.extractLsb' 20 5 = d ∧ w.extractLsb' 15 5 = a ∧ w.extractLsb' 6 6 = pos ∧
      w.extractLsb' 0 6 = len1 := by
  rw [spells_field (lo := 12) (len := 3) hm]
  change @Eq (BitVec (7 + 5 + 5 + 3 + 6 + 6)) (op ++ d ++ a ++ 0#3 ++ pos ++ len1) w ↔ _
  simp only [append_eq_iff, extractLsb'_eq_append]
  tauto

theorem rookM_iff {hw : BitVec 2} {imm : BitVec 16} (hm : rookReserved op.toNat = some 0x30000) :
    rookM op d hw imm = w ↔
      Spells op w ∧ w.extractLsb' 20 5 = d ∧ w.extractLsb' 18 2 = hw ∧ w.extractLsb' 0 16 = imm := by
  rw [spells_field (lo := 16) (len := 2) hm]
  change @Eq (BitVec (7 + 5 + 2 + 2 + 16)) (op ++ d ++ hw ++ 0#2 ++ imm) w ↔ _
  simp only [append_eq_iff, extractLsb'_eq_append]
  tauto

theorem rookJ_iff {off : BitVec 25} (hm : rookReserved op.toNat = some 0) : rookJ op off = w ↔
    Spells op w ∧ w.extractLsb' 0 25 = off := by
  rw [rookJ_eq_iff, spells_iff hm, Nat.and_zero]
  tauto

theorem rookJ_zero_iff (hm : rookReserved op.toNat = some 0x1FFFFFF) : rookJ op 0 = w ↔ Spells op w := by
  rw [rookJ_eq_iff, spells_field (lo := 0) (len := 25) hm]
  rfl

theorem rookI_wait_iff {imm : BitVec 15} (hm : rookReserved op.toNat = some 0xF8000) : rookI op d 0 imm = w ↔
    Spells op w ∧ w.extractLsb' 20 5 = d ∧ w.extractLsb' 0 15 = imm := by
  rw [rookI_eq_iff, spells_field (lo := 15) (len := 5) hm]
  tauto

theorem rookI_jr_iff (hm : rookReserved op.toNat = some 0x1F07FFF) : rookI op 0 a 0 = w ↔
    Spells op w ∧ w.extractLsb' 15 5 = a := by
  rw [rookI_eq_iff, spells_fields (lo := 20) (len := 5) (lo' := 0) (len' := 15) hm]
  tauto

theorem rookI_mfs_iff {sr : BitVec 5} (hm : rookReserved op.toNat = some 0xFFFE0) : rookI op d 0 (0#10 ++ sr) = w ↔
    Spells op w ∧ w.extractLsb' 20 5 = d ∧ w.extractLsb' 0 5 = sr := by
  rw [rookI_eq_iff, spells_fields (lo := 15) (len := 5) (lo' := 5) (len' := 10) hm]
  simp only [extractLsb'_eq_append (n := 10) (m := 5)]
  tauto

theorem rookI_mts_iff {sr : BitVec 5} (hm : rookReserved op.toNat = some 0x1F07FE0) : rookI op 0 a (0#10 ++ sr) = w ↔
    Spells op w ∧ w.extractLsb' 15 5 = a ∧ w.extractLsb' 0 5 = sr := by
  rw [rookI_eq_iff, spells_fields (lo := 20) (len := 5) (lo' := 5) (len' := 10) hm]
  simp only [extractLsb'_eq_append (n := 10) (m := 5)]
  tauto

theorem rookI_svc_iff {code : BitVec 15} (hm : rookReserved op.toNat = some 0x1FF8000) : rookI op 0 0 code = w ↔
    Spells op w ∧ w.extractLsb' 0 15 = code := by
  rw [rookI_eq_iff, spells_fields (lo := 20) (len := 5) (lo' := 15) (len' := 5) hm]
  tauto

theorem spells_of_opcode (hu : ¬rookUndefined w.toNat = true) (hop : (w.extractLsb' 25 7).toNat = op.toNat) :
    Spells op w := ⟨BitVec.eq_of_toNat_eq hop, Bool.eq_false_iff.2 hu⟩

theorem rookDecode_of_rookEncode {i : Instr} {n : Fin 24} {w : BitVec 32} :
    rookEncode i = some (n, w) → rookDecode n w = some i := by
  fun_cases rookEncode i
  case case79 => exact nofun
  case case71 | case74 | case75 | case77 | case78 =>
    rw [Option.some_inj, Prod.mk_inj, rookJ_zero_iff (by decide)]
    rintro ⟨rfl, hop, hu⟩
    rw [rookDecode, hu, hop]
    rfl
  all_goals
    rw [Option.some_inj, Prod.mk_inj]
    rintro ⟨rfl, h⟩
    simp (disch := decide) only [rookR_iff, rookU_iff, rookI_iff, rookSh_iff, rookBf_iff, rookM_iff, rookJ_iff,
      rookI_wait_iff, rookI_jr_iff, rookI_mfs_iff, rookI_mts_iff, rookI_svc_iff] at h
    obtain ⟨⟨hop, hu⟩, hfields⟩ := h
    simp only [← hfields]
    rw [rookDecode, hu, hop]
    rfl

theorem rookEncode_of_rookDecode {i : Instr} {n : Fin 24} {w : BitVec 32} :
    rookDecode n w = some i → rookEncode i = some (n, w) := by
  fun_cases rookDecode n w
  case case1 | case80 => exact nofun
  all_goals
    rintro ⟨⟩
    simp +zetaDelta (disch := decide) only [rookEncode, rookR_iff, rookU_iff, rookI_iff, rookSh_iff, rookBf_iff,
      rookM_iff, rookJ_iff, rookJ_zero_iff, rookI_wait_iff, rookI_jr_iff, rookI_mfs_iff, rookI_mts_iff, rookI_svc_iff,
      Option.some_inj, Prod.mk_inj, and_true, true_and]
    exact spells_of_opcode ‹_› ‹_›

theorem rookDecode_eq_none_iff {n : Fin 24} {w : BitVec 32} :
    rookDecode n w = none ↔ rookUndefined w.toNat = true := by
  fun_cases rookDecode n w
  case case1 h => exact iff_of_true rfl h
  case case80 =>
    refine iff_of_true rfl ?_
    rw [rookUndefined, opcode_eq]
    have hlt := (w.extractLsb' 25 7).isLt
    generalize (w.extractLsb' 25 7).toNat = op at *
    interval_cases op <;> trivial
  all_goals exact iff_of_false nofun ‹_›

end RookWords

/-! ## Words of a Pawn program (Table R291) -/

section PawnWords

variable {w : BitVec 16} {op : BitVec 4}

theorem pawnPins_eq_iff {fn tgt : BitVec 2} {m : BitVec 8} : op ++ fn ++ tgt ++ m = w ↔
    w.extractLsb' 12 4 = op ∧ w.extractLsb' 10 2 = fn ∧ w.extractLsb' 8 2 = tgt ∧ w.extractLsb' 0 8 = m := by
  simp only [append_eq_iff, extractLsb'_eq_append, and_assoc]

theorem pawnShift_eq_iff {p q r : BitVec 1} {obit ibit pad : BitVec 3} : op ++ p ++ q ++ r ++ obit ++ ibit ++ pad = w ↔
    w.extractLsb' 12 4 = op ∧ w.extractLsb' 11 1 = p ∧ w.extractLsb' 10 1 = q ∧ w.extractLsb' 9 1 = r ∧
      w.extractLsb' 6 3 = obit ∧ w.extractLsb' 3 3 = ibit ∧ w.extractLsb' 0 3 = pad := by
  simp only [append_eq_iff, extractLsb'_eq_append, and_assoc]

theorem pawnWait_eq_iff {cond : BitVec 3} {p : BitVec 1} {pad arg : BitVec 4} : op ++ cond ++ p ++ pad ++ arg = w ↔
    w.extractLsb' 12 4 = op ∧ w.extractLsb' 9 3 = cond ∧ w.extractLsb' 8 1 = p ∧ w.extractLsb' 4 4 = pad ∧
      w.extractLsb' 0 4 = arg := by
  simp only [append_eq_iff, extractLsb'_eq_append, and_assoc]

theorem pawnMov_eq_iff {dst src : BitVec 3} {xf : BitVec 2} {pad : BitVec 4} : op ++ dst ++ src ++ xf ++ pad = w ↔
    w.extractLsb' 12 4 = op ∧ w.extractLsb' 9 3 = dst ∧ w.extractLsb' 6 3 = src ∧ w.extractLsb' 4 2 = xf ∧
      w.extractLsb' 0 4 = pad := by
  simp only [append_eq_iff, extractLsb'_eq_append, and_assoc]

theorem pawnFifo_eq_iff {p : BitVec 1} {pad : BitVec 11} : op ++ p ++ pad = w ↔
    w.extractLsb' 12 4 = op ∧ w.extractLsb' 11 1 = p ∧ w.extractLsb' 0 11 = pad := by
  simp only [append_eq_iff, extractLsb'_eq_append, and_assoc]

theorem pawnJmp_eq_iff {cond pad : BitVec 3} {target : BitVec 6} : op ++ cond ++ pad ++ target = w ↔
    w.extractLsb' 12 4 = op ∧ w.extractLsb' 9 3 = cond ∧ w.extractLsb' 6 3 = pad ∧ w.extractLsb' 0 6 = target := by
  simp only [append_eq_iff, extractLsb'_eq_append, and_assoc]

theorem pawnDjnz_eq_iff {reg : BitVec 1} {pad : BitVec 5} {target : BitVec 6} : op ++ reg ++ pad ++ target = w ↔
    w.extractLsb' 12 4 = op ∧ w.extractLsb' 11 1 = reg ∧ w.extractLsb' 6 5 = pad ∧ w.extractLsb' 0 6 = target := by
  simp only [append_eq_iff, extractLsb'_eq_append, and_assoc]

theorem pawnFlag_eq_iff {fn : BitVec 2} {pad : BitVec 6} {idx : BitVec 4} : op ++ fn ++ pad ++ idx = w ↔
    w.extractLsb' 12 4 = op ∧ w.extractLsb' 10 2 = fn ∧ w.extractLsb' 4 6 = pad ∧ w.extractLsb' 0 4 = idx := by
  simp only [append_eq_iff, extractLsb'_eq_append, and_assoc]


theorem extractLsb'_bit {i : Nat} {b : Bool} : w.extractLsb' i 1 = BitVec.ofBool b ↔ w.getLsbD i = b := by
  have h : w.extractLsb' i 1 = BitVec.ofBool (w.getLsbD i) := by
    ext j hj
    obtain rfl : j = 0 := by omega
    simp
  rw [h]
  cases b <;> cases w.getLsbD i <;> decide

theorem pawnDecode_of_pawnEncode {i : Instr} {n : Fin 32} {pads : BitVec 8} {w : BitVec 16} :
      pawnEncode i = some (n, pads, w) → pawnDecode n pads w = i := by
  fun_cases pawnEncode i
  case case16 => exact nofun
  case case9 | case10 | case15 =>
    rintro ⟨⟩
    rfl
  all_goals
    rw [Option.some_inj, Prod.mk_inj, Prod.mk_inj]
    rintro ⟨rfl, rfl, h⟩
    simp only [pawnPins_eq_iff, pawnShift_eq_iff, pawnWait_eq_iff, pawnMov_eq_iff, pawnJmp_eq_iff, pawnDjnz_eq_iff,
      pawnFlag_eq_iff, extractLsb'_bit] at h
    simp [pawnDecode, -BitVec.getLsbD_eq_getElem, h]

theorem eq_three_of_toNat {x : BitVec 2} (h0 : ¬x.toNat = 0) (h1 : ¬x.toNat = 1) (h2 : ¬x.toNat = 2) : x = 3#2 := by
  have hx := x.isLt
  refine BitVec.eq_of_toNat_eq ?_
  change x.toNat = 3
  omega

theorem eq_zero_of_not_bne {k : Nat} {x : BitVec k} (h : ¬(x != 0) = true) : x = 0#k := by simpa using h

theorem pawnWord_congr {n : Fin 32} {pads : BitVec 8} {v : BitVec 16} (h : v = w) :
    some (n, pads, v) = some (n, pads, w) := by rw [h]

theorem pawnEncode_pawnDecode {n : Fin 32} {pads : BitVec 8} {w : BitVec 16} :
    pawnDecode n pads w ≠ .pawnUndefined n pads → pawnEncode (pawnDecode n pads w) = some (n, pads, w) := by
  fun_cases pawnDecode n pads w
  case case1 hop hfn | case2 hop hfn | case3 hop hfn =>
    exact fun _ => pawnWord_congr (pawnPins_eq_iff.2 ⟨BitVec.eq_of_toNat_eq hop, BitVec.eq_of_toNat_eq hfn, rfl, rfl⟩)
  case case4 hop h0 h1 h2 =>
    exact fun _ => pawnWord_congr (pawnPins_eq_iff.2 ⟨BitVec.eq_of_toNat_eq hop, eq_three_of_toNat h0 h1 h2, rfl, rfl⟩)
  case case6 hop hr =>
    exact fun _ => pawnWord_congr (pawnShift_eq_iff.2 ⟨BitVec.eq_of_toNat_eq hop, extractLsb'_bit.2 rfl,
      extractLsb'_bit.2 rfl, extractLsb'_bit.2 rfl, rfl, rfl, eq_zero_of_not_bne hr⟩)
  case case8 hop hr =>
    exact fun _ => pawnWord_congr (pawnWait_eq_iff.2 ⟨BitVec.eq_of_toNat_eq hop, rfl, extractLsb'_bit.2 rfl,
      eq_zero_of_not_bne hr, rfl⟩)
  case case9 hop => exact fun _ => pawnWord_congr (pawnPins_eq_iff.2 ⟨BitVec.eq_of_toNat_eq hop, rfl, rfl, rfl⟩)
  case case11 hop hr =>
    exact fun _ => pawnWord_congr (pawnMov_eq_iff.2 ⟨BitVec.eq_of_toNat_eq hop, rfl, rfl, rfl, eq_zero_of_not_bne hr⟩)
  case case13 hop hr hb =>
    exact fun _ => pawnWord_congr ((pawnFifo_eq_iff (op := 6)).2 ⟨BitVec.eq_of_toNat_eq hop, extractLsb'_bit.2 hb,
      eq_zero_of_not_bne hr⟩)
  case case14 hop hr hb =>
    exact fun _ => pawnWord_congr ((pawnFifo_eq_iff (op := 6)).2 ⟨BitVec.eq_of_toNat_eq hop,
      extractLsb'_bit.2 (Bool.eq_false_iff.2 hb), eq_zero_of_not_bne hr⟩)
  case case16 hop hr =>
    exact fun _ => pawnWord_congr (pawnJmp_eq_iff.2 ⟨BitVec.eq_of_toNat_eq hop, rfl, eq_zero_of_not_bne hr, rfl⟩)
  case case18 hop hr =>
    exact fun _ => pawnWord_congr (pawnDjnz_eq_iff.2 ⟨BitVec.eq_of_toNat_eq hop, rfl, eq_zero_of_not_bne hr, rfl⟩)
  case case20 hop hr hfn | case21 hop hr hfn =>
    exact fun _ => pawnWord_congr (pawnFlag_eq_iff.2 ⟨BitVec.eq_of_toNat_eq hop, BitVec.eq_of_toNat_eq hfn,
      eq_zero_of_not_bne hr, rfl⟩)
  case case23 hop hr hfn hi =>
    exact fun _ => pawnWord_congr ((pawnFlag_eq_iff (op := 9) (fn := 2)).2 ⟨BitVec.eq_of_toNat_eq hop,
      BitVec.eq_of_toNat_eq hfn, eq_zero_of_not_bne hr, eq_zero_of_not_bne hi⟩)
  all_goals exact fun h => absurd rfl h

end PawnWords

/-! ## The statements -/

/-- Settles O60: the words of the formats read as they are put together, reserved fields included. -/
theorem decodeAndEncodeAgree : Obligations.DecodeAndEncodeAgree :=
  ⟨fun _ _ _ => rookDecode_of_rookEncode, fun _ _ _ => rookEncode_of_rookDecode, fun _ _ => rookDecode_eq_none_iff,
    fun _ _ _ _ => pawnDecode_of_pawnEncode, fun _ _ _ => pawnEncode_pawnDecode⟩

/-- Settles O59: each word that stands for an instruction is the one that its fields are put together to. -/
theorem wordsSpell : Obligations.WordsSpell := fun _ _ _ =>
  ⟨rookDecode_of_rookEncode rfl, rookDecode_of_rookEncode rfl, rookDecode_of_rookEncode rfl,
    rookDecode_of_rookEncode rfl, rookDecode_of_rookEncode rfl, rookDecode_of_rookEncode rfl,
    rookDecode_of_rookEncode rfl, rookDecode_eq_none_iff.2 rfl, rookDecode_eq_none_iff.2 rfl,
    pawnDecode_of_pawnEncode rfl, pawnDecode_of_pawnEncode rfl, pawnDecode_of_pawnEncode rfl,
    pawnDecode_of_pawnEncode rfl, rfl, rfl⟩

end Sys2Proof.Machine
end

section
/-! SUPPORT. The issue of a Rook instruction (R160, R206): what an engine that issues does with a body that computes,
and the parts of the engine that applying the writes in flight leaves alone. -/

namespace Sys2Proof.Machine

/-! ## One engine at a time -/

section Engine

variable {s : State} {n : Nat}

theorem rookBecomes_setRook (s : State) (n : Nat) (r : RookSt) : RookBecomes s n r (s.setRook n r) :=
  ⟨State.rook_setRook_same s n r, fun _ hm => State.rook_setRook_ne s r hm, (State.setRook_keeps ..).changes rfl⟩

theorem RookBecomes.setRook {t : State} {q : RookSt} (h : RookBecomes s n q t) (r : RookSt) :
    RookBecomes s n r (t.setRook n r) := by
  obtain ⟨-, hothers, hparts⟩ := h
  refine ⟨State.rook_setRook_same t n r, fun m hm => (State.rook_setRook_ne t r hm).trans (hothers m hm),
    fun p hp => ?_⟩
  exact Part.same_trans (hparts p hp) ((State.setRook_keeps ..).changes (l := [.rooks]) rfl p hp)

theorem RookBecomes.rookUpd {t : State} {q : RookSt} (h : RookBecomes s n q t) (f : RookSt → RookSt) :
    RookBecomes s n (f q) (t.rookUpd n f) := by
  have hq : t.rook n = q := h.1
  rw [State.rookUpd, hq]
  exact h.setRook (f q)

theorem rookIssue_eq (h : RookIssues s n) (body : State → RookSt → State) :
    s.rookIssue n body = body (s.setRook n (rookNow s n)) (rookNow s n) := by
  obtain ⟨hrun, hwait, hdbg, hpc, hdue⟩ := h
  exact State.rookIssue_runs s n body hrun hwait hdbg hpc hdue

theorem gives_next {t : State} {P : State → Prop} (h : P t) : Gives (.next t) P := ⟨t, rfl, h⟩

theorem gives_rookIssue (h : RookIssues s n) {body : State → RookSt → State} {P : State → Prop}
    (hb : P (body (s.setRook n (rookNow s n)) (rookNow s n))) : Gives (.next (s.rookIssue n body)) P := by
  rw [rookIssue_eq h]
  exact gives_next hb

/-- An instruction that changes nothing but its engine. -/
theorem gives_rookBecomes (h : RookIssues s n) {body : State → RookSt → State} {r : RookSt}
    (hb : body (s.setRook n (rookNow s n)) (rookNow s n) = (s.setRook n (rookNow s n)).setRook n r) :
    Gives (.next (s.rookIssue n body)) (RookBecomes s n r) := by
  refine gives_rookIssue h ?_
  rw [hb]
  exact (rookBecomes_setRook s n _).setRook r

/-- A computing instruction (R163 to R166): its value and its flags. -/
theorem gives_rookAlu (h : RookIssues s n) {rd d : Nat} {f : RookSt → Word × Nat} {v : Word} {fl : Nat}
    (hv : (f (rookNow s n)).1 = v) (hfl : (f (rookNow s n)).2 = fl) :
    Gives (.next (s.rookAlu n rd d f)) (RookComputes s n rd d v fl) := by
  subst hv hfl
  exact gives_rookBecomes h rfl

end Engine

/-! ## What the writes in flight leave alone (R160, R161) -/

/-- The engine without what a write in flight can reach: the registers, REM, the special registers and the queue
itself. -/
def RookSt.beyondFlight (r : RookSt) : RookSt :=
  { r with w := [], rem := 0, esr := 0, tpc := 0, tbt := 0, tvb := 0, rsp := 0, flight := [] }

theorem RookSt.beyondFlight_applyFlight (r : RookSt) (f : Flight) :
    (r.applyFlight f).beyondFlight = r.beyondFlight := by
  unfold RookSt.applyFlight RookSt.putW RookSt.putSr
  repeat' split
  all_goals rfl

theorem RookSt.beyondFlight_applyTo (r : RookSt) (c : Nat) : (r.applyTo c).beyondFlight = r.beyondFlight :=
  RookSt.foldFlight_inv RookSt.beyondFlight RookSt.beyondFlight_applyFlight _ _

theorem RookSt.beyondFlight_drainAll (r : RookSt) : r.drainAll.beyondFlight = r.beyondFlight :=
  r.beyondFlight_applyTo _

theorem beyondFlight_rookNow (s : State) (n : Nat) : (rookNow s n).beyondFlight = (s.rook n).beyondFlight :=
  RookSt.beyondFlight_applyTo _ _

end Sys2Proof.Machine
end

section
/-! SUPPORT. The values that the computing instructions of a Rook put together (Machine/Operands.lean), in the terms
of the rules: R163 to R166 and R173. -/

namespace Sys2Proof.Machine

/-! ## Flags and comparisons (R163, R173) -/

theorem ofB_decide (p : Prop) [Decidable p] : ofB (decide p) = flag p := by
  by_cases h : p <;> simp [ofB, flag, b2n, h]

theorem eq_minWord_iff (a : Word) : a = minWord ↔ a.toInt = -(2 ^ 63) := by
  rw [← BitVec.toInt_inj]
  rfl

theorem ovFlag_ovNeg (a : Word) : ovFlag (ovNeg a) = ov (-a.toInt) := by
  have hlo := BitVec.le_toInt a
  have hhi := BitVec.toInt_lt (x := a)
  by_cases h : a = minWord
  · subst h
    rfl
  · have hne := mt (eq_minWord_iff a).2 h
    have hov : ¬(-a.toInt < -(2 ^ 63) ∨ 2 ^ 63 - 1 < -a.toInt) := by omega
    rw [ov, if_neg hov, ovNeg, beq_eq_false_iff_ne.2 h]
    rfl

theorem ovFlag_ovSat (x : Int) : ovFlag (ovSat x) = ov x := by
  have hsat : x = sat64 x ↔ ¬(x < -(2 ^ 63) ∨ 2 ^ 63 - 1 < x) := by
    unfold sat64 clampInt
    split <;> [skip; split] <;> omega
  rw [ov, ovSat, bne]
  by_cases h : x = sat64 x
  · rw [if_neg (hsat.1 h), beq_iff_eq.2 h]
    rfl
  · rw [if_pos (not_not.1 (mt hsat.2 h)), beq_eq_false_iff_ne.2 h]
    rfl

section Order

variable {α : Type} [LinearOrder α] {x y : α} {u v : Word}

theorem ite_lt_eq_ite_le : (if y < x then v else u) = if x ≤ y then u else v := by
  simp only [← not_le, ite_not]

theorem ite_lt_eq_ite_le_of_eq (h : x = y → u = v) : (if x < y then v else u) = if x ≤ y then v else u := by
  rcases lt_trichotomy x y with hlt | heq | hgt
  · rw [if_pos hlt, if_pos hlt.le]
  · rw [h heq, ite_self, ite_self]
  · rw [if_neg hgt.asymm, if_neg hgt.not_ge]

end Order

/-! ## Shifts (R173) -/

theorem shl64_eq (a : Word) (k : Nat) : shl64 a k = BitVec.ofNat 64 (a.toNat * 2 ^ k) := by
  refine BitVec.eq_of_toNat_eq ?_
  unfold shl64
  split
  · next h =>
    have hd : 2 ^ 64 ∣ a.toNat * 2 ^ k := Dvd.dvd.mul_left (Nat.pow_dvd_pow 2 h) _
    rw [BitVec.toNat_ofNat, Nat.mod_eq_zero_of_dvd hd]
    rfl
  · rw [BitVec.toNat_shiftLeft, Nat.shiftLeft_eq, BitVec.toNat_ofNat]

theorem shr64_eq (a : Word) (k : Nat) : shr64 a k = BitVec.ofNat 64 (a.toNat / 2 ^ k) := by
  refine BitVec.eq_of_toNat_eq ?_
  have hlt : a.toNat / 2 ^ k < 2 ^ 64 := Nat.lt_of_le_of_lt (Nat.div_le_self ..) a.isLt
  rw [BitVec.toNat_ofNat, Nat.mod_eq_of_lt hlt]
  unfold shr64
  split
  · next h =>
    exact (Nat.div_eq_of_lt (Nat.lt_of_lt_of_le a.isLt (Nat.pow_le_pow_right (by decide) h))).symm
  · rw [BitVec.toNat_ushiftRight, Nat.shiftRight_eq_div_pow]

theorem sar64_eq (a : Word) (k : Nat) : sar64 a k = BitVec.ofInt 64 (a.toInt / 2 ^ k) := by
  have h : (sar64 a k).toInt = a.toInt / 2 ^ k := by
    rw [sar64, BitVec.toInt_sshiftRight, Int.shiftRight_eq_div_pow, Nat.cast_pow, Nat.cast_ofNat]
    split
    · next h =>
      have hlo := BitVec.le_toInt a
      have hhi := BitVec.toInt_lt (x := a)
      have hp : (2 : Int) ^ 63 ≤ 2 ^ k := pow_le_pow_right₀ (by decide) (by omega)
      rcases lt_or_ge a.toInt 0 with hneg | hpos
      · have hdiv : ∀ d : Int, 2 ^ 63 ≤ d → a.toInt / d = -1 := fun d hd =>
          (Int.ediv_eq_iff_of_pos (by omega)).2 (by omega)
        rw [hdiv _ hp, hdiv _ (le_refl _)]
      · rw [Int.ediv_eq_zero_of_lt hpos (by omega), Int.ediv_eq_zero_of_lt hpos (by omega)]
    · rfl
  rw [← h, BitVec.ofInt_toInt]

/-! ## Counts (R163) -/

theorem find_range (p : Nat → Bool) (k : Nat) : ∃ c ≤ k, (∀ i < c, p i = false) ∧ (c < k → p c = true) ∧
    ((List.range k).find? p).getD k = c := by
  cases h : (List.range k).find? p with
  | none =>
    have hno : ∀ i < k, p i = false := by simpa using h
    exact ⟨k, le_refl k, hno, fun hk => absurd hk (lt_irrefl k), rfl⟩
  | some c =>
    obtain ⟨hc, hk, hno⟩ := List.find?_range_eq_some.1 h
    exact ⟨c, (List.mem_range.1 hk).le, fun i hi => by simpa using hno i hi, fun _ => hc, rfl⟩

theorem popc64_eq (a : Word) : popc64 a = (List.range 64).countP fun i => a.getLsbD i :=
  List.countP_eq_length_filter.symm

/-- Bit `i` of a number is bit `i % 8` of its byte `i / 8` (R7). -/
theorem testBit_natOfLE (l : List Byte) (i : Nat) : (natOfLE l).testBit i = (l.getD (i / 8) 0).getLsbD (i % 8) := by
  induction l generalizing i with
  | nil => simp [natOfLE]
  | cons b l ih =>
    have hb : natOfLE (b :: l) = 2 ^ 8 * natOfLE l + b.toNat := Nat.add_comm ..
    rw [hb, Nat.testBit_two_pow_mul_add _ b.isLt]
    split
    · next h =>
      rw [Nat.div_eq_of_lt h, Nat.mod_eq_of_lt h]
      rfl
    · next h =>
      obtain ⟨j, rfl⟩ : ∃ j, i = j + 8 := ⟨i - 8, by omega⟩
      rw [Nat.add_sub_cancel, ih, Nat.add_div_right _ (by decide), Nat.add_mod_right]
      rfl

theorem getD_bytesLE {n i : Nat} (v : Nat) (hi : i < n) : (bytesLE n v).getD i 0 = BitVec.ofNat 8 (v / 256 ^ i) := by
  induction n generalizing v i with
  | zero => exact absurd hi (Nat.not_lt_zero i)
  | succ n ih =>
    cases i with
    | zero =>
      refine BitVec.eq_of_toNat_eq ?_
      simp [bytesLE]
    | succ i =>
      rw [Nat.pow_succ', ← Nat.div_div_eq_div_mul, ← ih _ (Nat.lt_of_succ_lt_succ hi)]
      rfl

theorem getLsbD_bytesLE {n i j : Nat} (v : Nat) (hi : i < n) (hj : j < 8) :
    ((bytesLE n v).getD i 0).getLsbD j = v.testBit (8 * i + j) := by
  have hp : 256 ^ i = 2 ^ (8 * i) := (Nat.pow_mul 2 8 i).symm
  rw [getD_bytesLE v hi, BitVec.getLsbD_ofNat, decide_eq_true hj, Bool.true_and, hp, Nat.testBit_div_two_pow,
    Nat.add_comm]

theorem natOfBE_eq (l : List Byte) : natOfBE l = natOfLE l.reverse := by
  induction l using List.reverseRecOn with
  | nil => rfl
  | append_singleton l b ih =>
    rw [List.reverse_append, List.reverse_singleton, List.singleton_append, natOfLE, ← ih, natOfBE, List.foldl_append,
      List.foldl_cons, List.foldl_nil, natOfBE]
    omega

theorem getLsbD_bswap64 (a : Word) {i : Nat} (hi : i < 64) :
    (bswap64 a).getLsbD i = a.getLsbD (8 * (7 - i / 8) + i % 8) := by
  have hlen : i / 8 < (bytesLE 8 a.toNat).length := by
    rw [length_bytesLE]
    omega
  have hrev : (bytesLE 8 a.toNat).reverse.getD (i / 8) 0 = (bytesLE 8 a.toNat).getD (7 - i / 8) 0 := by
    rw [List.getD_reverse _ hlen, length_bytesLE]
  rw [bswap64, BitVec.getLsbD_ofNat, decide_eq_true hi, Bool.true_and, natOfBE_eq, testBit_natOfLE, hrev,
    getLsbD_bytesLE _ (by omega) (by omega)]
  rfl

end Sys2Proof.Machine
end

section
/-! PROOF of RookAlu (R163, R173): each instruction computes (gives_rookAlu), and its value is the one of its rule. -/

namespace Sys2Proof.Machine

theorem rookAluValues : Rules.rookAluValues := by
  intro s n rd rs1 rs2 h a b
  simp only [List.forall_mem_cons]
  exact ⟨gives_rookAlu h rfl rfl, gives_rookAlu h rfl rfl, gives_rookAlu h rfl rfl, gives_rookAlu h rfl rfl,
    gives_rookAlu h rfl rfl, gives_rookAlu h rfl rfl, gives_rookAlu h (BitVec.zero_sub _).symm (ovFlag_ovNeg _),
    gives_rookAlu h rfl (ovFlag_ovSat _), gives_rookAlu h rfl (ovFlag_ovSat _), gives_rookAlu h rfl (ovFlag_ovSat _),
    gives_rookAlu h ite_lt_eq_ite_le rfl, gives_rookAlu h (ite_lt_eq_ite_le_of_eq BitVec.eq_of_toInt_eq) rfl,
    gives_rookAlu h ite_lt_eq_ite_le rfl, gives_rookAlu h (ite_lt_eq_ite_le_of_eq BitVec.eq_of_toNat_eq) rfl,
    gives_rookAlu h (ofB_decide _) rfl, gives_rookAlu h (ofB_decide _) rfl, gives_rookAlu h (ofB_decide (a = b)) rfl,
    nofun⟩

theorem rookShiftsAndCounts : Rules.rookShiftsAndCounts := by
  intro s n rd rs1 rs2 h a k
  refine ⟨?_, ?_, ?_, ?_, bswap64 a, fun i hi => getLsbD_bswap64 a hi, gives_rookAlu h rfl rfl⟩
  · simp only [List.forall_mem_cons]
    exact ⟨gives_rookAlu h (shl64_eq a k) rfl, gives_rookAlu h (shr64_eq a k) rfl, gives_rookAlu h (sar64_eq a k) rfl,
      gives_rookAlu h rfl rfl, gives_rookAlu h rfl rfl, nofun⟩
  · obtain ⟨c, hc, hno, hyes, hclz⟩ := find_range (fun i => a.getLsbD (63 - i)) 64
    exact ⟨c, hc, hno, hyes, gives_rookAlu h (congrArg (BitVec.ofNat 64) hclz) rfl⟩
  · obtain ⟨c, hc, hno, hyes, hctz⟩ := find_range (fun i => a.getLsbD i) 64
    exact ⟨c, hc, hno, hyes, gives_rookAlu h (congrArg (BitVec.ofNat 64) hctz) rfl⟩
  · exact gives_rookAlu h (congrArg (BitVec.ofNat 64) (popc64_eq a)) rfl

/-- Settles O1: the values of the register-register instructions, then shifts, rotates and counts. -/
theorem rookAlu : Obligations.RookAlu := ⟨rookAluValues, rookShiftsAndCounts⟩

end Sys2Proof.Machine
end

section
/-! SUPPORT. Fields, products and quotients of a Rook (R164 to R166, R173), in the terms of the rules. -/

namespace Sys2Proof.Machine

/-! ## Fields (R164, R165) -/

theorem getLsbD_putBits (w : Word) {hi lo : Nat} (v : Nat) (h : lo ≤ hi) (h64 : hi < 64) (i : Nat) :
    (putBits w hi lo v).getLsbD i = if lo ≤ i ∧ i ≤ hi then v.testBit (i - lo) else w.getLsbD i := by
  have hm : w.toNat % 2 ^ lo < 2 ^ lo := Nat.mod_lt _ (Nat.two_pow_pos _)
  have hv : v % 2 ^ (hi + 1 - lo) < 2 ^ (hi + 1 - lo) := Nat.mod_lt _ (Nat.two_pow_pos _)
  rw [BitVec.getLsbD, putBits_toNat w v h h64, Nat.add_comm, Nat.testBit_two_pow_mul_add _ hm]
  split
  · next hl =>
    rw [if_neg (by omega), Nat.testBit_mod_two_pow, decide_eq_true hl, Bool.true_and]
    rfl
  rw [Nat.add_comm, Nat.testBit_two_pow_mul_add _ hv]
  split
  · next hl hi' =>
    rw [if_pos (by omega), Nat.testBit_mod_two_pow, decide_eq_true hi', Bool.true_and]
  · next hl hi' =>
    rw [if_neg (by omega), Nat.testBit_div_two_pow]
    congr 1
    omega

/-- INS replaces the bits of the field up to bit 63. -/
theorem insField_eq_putBits (d a : Word) {pos len : Nat} (hpos : pos < 64) (hlen : 0 < len) :
    insField d a pos len = putBits d (min 64 (pos + len) - 1) pos a.toNat := by
  have h : min 64 (pos + len) - 1 + 1 = min 64 (pos + len) := by omega
  rw [insField, putBits, h]

theorem getLsbD_insField (d a : Word) {pos len i : Nat} (hpos : pos < 64) (hlen : 0 < len) (hi : i < 64) :
    (insField d a pos len).getLsbD i =
      if pos ≤ i ∧ i < pos + len then a.getLsbD (i - pos) else d.getLsbD i := by
  rw [insField_eq_putBits d a hpos hlen, getLsbD_putBits _ _ (by omega) (by omega)]
  refine if_congr ?_ rfl rfl
  omega

theorem getLsbD_movkField (d : Word) (hw : BitVec 2) (imm : BitVec 16) (i : Nat) :
    (movkField d hw.toNat imm.toNat).getLsbD i =
      if 16 * hw.toNat ≤ i ∧ i < 16 * hw.toNat + 16 then imm.getLsbD (i - 16 * hw.toNat) else d.getLsbD i := by
  have hlt := hw.isLt
  rw [movkField, getLsbD_putBits _ _ (by omega) (by omega)]
  exact if_congr (by omega) rfl rfl

/-- The value of a field of `k + 1` bits with its sign. -/
theorem signed_of_lt {k f : Nat} (hf : f < 2 ^ (k + 1)) :
    signed (k + 1) f = if f < 2 ^ k then (f : Int) else f - 2 ^ (k + 1) := by
  rw [signed, Nat.mod_eq_of_lt hf, Nat.cast_pow]
  rfl

theorem extField_lt (a : Word) (pos len : Nat) : extField a pos len < 2 ^ len := Nat.mod_lt _ (Nat.two_pow_pos _)

/-! ## Products and quotients (R166, R173) -/

theorem mulHigh_eq (a b : Word) : mulHigh a b = BitVec.ofInt 64 (a.toInt * b.toInt / 2 ^ 64) := by
  rw [mulHigh, ofI, Int.fdiv_eq_ediv_of_nonneg _ (by decide)]

theorem divUnsigned_eq (a b : Word) : divUnsigned a b = (a / b, a % b) := by
  rw [divUnsigned, ← BitVec.toNat_udiv, ← BitVec.toNat_umod]
  simp only [BitVec.ofNat_toNat, BitVec.setWidth_eq]

theorem eq_allOnes_iff (b : Word) : b = 0xFFFFFFFFFFFFFFFF ↔ b.toInt = -1 := by
  rw [← BitVec.toInt_inj]
  rfl

theorem ovDiv_iff (a b : Word) : ovDiv a b = true ↔ a.toInt = -(2 ^ 63) ∧ b.toInt = -1 := by
  rw [ovDiv, Bool.and_eq_true, beq_iff_eq, beq_iff_eq, eq_minWord_iff, eq_allOnes_iff]

/-- MIN by −1 gives MIN and 0. -/
theorem divSigned_overflow {a b : Word} (ha : a.toInt = -(2 ^ 63)) (hb : b.toInt = -1) : divSigned a b = (a, 0) := by
  rw [← eq_minWord_iff] at ha
  rw [← eq_allOnes_iff] at hb
  subst ha hb
  rfl

end Sys2Proof.Machine
end

section
/-! PROOF of RookImmediatesAndProducts (R164 to R166, R173): the values of the immediate, field and constant
instructions, the products, and the three outcomes of a division. -/

namespace Sys2Proof.Machine

theorem rookImmediates : Rules.rookImmediates := by
  intro s n rd rs1 imm count pos len1 hw imm16 h a d k sx zx f
  have hf : f < 2 ^ (len1.toNat + 1) := extField_lt ..
  refine ⟨?_, ⟨insField d a pos.toNat (len1.toNat + 1), fun i hi =>
    getLsbD_insField d a pos.isLt (Nat.succ_pos _) hi, gives_rookAlu h rfl rfl⟩,
    ⟨movkField d hw.toNat imm16.toNat, fun i _ => getLsbD_movkField d hw imm16 i, gives_rookAlu h rfl rfl⟩⟩
  simp only [List.forall_mem_cons]
  exact ⟨gives_rookAlu h rfl rfl, gives_rookAlu h rfl rfl, gives_rookAlu h rfl rfl, gives_rookAlu h rfl rfl,
    gives_rookAlu h (ofB_decide _) rfl, gives_rookAlu h (ofB_decide _) rfl, gives_rookAlu h (shl64_eq a k) rfl,
    gives_rookAlu h (shr64_eq a k) rfl, gives_rookAlu h (sar64_eq a k) rfl, gives_rookAlu h rfl rfl,
    gives_rookAlu h rfl rfl, gives_rookAlu h (congrArg ofI (signed_of_lt hf)) rfl, gives_rookAlu h rfl rfl, nofun⟩

section Divide

variable {s : State} {n rd rs1 rs2 : Nat} {sgn : Bool}

/-- The engine after a division: quotient and REM at distance 18, with the flags `fl`. -/
def RookSt.divided (r : RookSt) (rd : Nat) (q m : Word) (fl : Nat) : RookSt :=
  (((r.produce rd q 18).produce 32 m 18).produceFlags fl 18).next

theorem gives_rookDivide (h : RookIssues s n) {q m : Word} {fl : Nat}
    (hb : (rookNow s n).getW rs2 ≠ 0)
    (hv : (if sgn then divSigned ((rookNow s n).getW rs1) ((rookNow s n).getW rs2)
      else divUnsigned ((rookNow s n).getW rs1) ((rookNow s n).getW rs2)) = (q, m))
    (hfl : ovFlag (sgn && ovDiv ((rookNow s n).getW rs1) ((rookNow s n).getW rs2)) = fl) :
    Gives (.next (s.rookDivide n rd rs1 rs2 sgn)) (RookBecomes s n ((rookNow s n).divided rd q m fl)) := by
  refine gives_rookBecomes h ?_
  simp only [dzDiv, beq_eq_false_iff_ne.2 hb, Bool.false_eq_true, if_false, hv, hfl]
  rfl

theorem gives_rookDivide_zero (h : RookIssues s n) (hb : (rookNow s n).getW rs2 = 0)
    (hdzt : (rookNow s n).esrBit 3 = false) :
    Gives (.next (s.rookDivide n rd rs1 rs2 sgn))
      (RookBecomes s n ((rookNow s n).divided rd (BitVec.allOnes 64) ((rookNow s n).getW rs1) 2)) := by
  refine gives_rookBecomes h ?_
  simp only [dzDiv, beq_iff_eq.2 hb, hdzt, Bool.false_eq_true, if_false, if_true]
  rfl

theorem rookMultiplyDivide : Rules.rookMultiplyDivide := by
  intro s n rd rs1 rs2 h r a b quot
  refine ⟨gives_rookAlu h rfl rfl, gives_rookAlu h (mulHigh_eq a b) rfl, gives_rookAlu h rfl rfl, fun hb => ?_,
    fun hb hov => ?_, fun ha hb => ?_,
    fun hb hdzt => ⟨gives_rookDivide_zero h hb hdzt, gives_rookDivide_zero h hb hdzt⟩⟩
  · exact gives_rookDivide h hb (divUnsigned_eq a b) rfl
  · have hno : ovDiv a b = false := by
      rw [Bool.eq_false_iff, Ne, ovDiv_iff]
      omega
    exact gives_rookDivide h hb rfl (congrArg ovFlag hno)
  · have hne : b ≠ 0 := fun h0 => by
      rw [h0] at hb
      exact absurd hb (by decide)
    exact gives_rookDivide h hne (divSigned_overflow ha hb) (congrArg ovFlag ((ovDiv_iff a b).2 ⟨ha, hb⟩))

end Divide

/-- Settles O2: the immediate and field instructions, then products and divisions. -/
theorem rookImmediatesAndProducts : Obligations.RookImmediatesAndProducts := ⟨rookImmediates, rookMultiplyDivide⟩

/-! ## Fields that reach past bit 63 (R165) -/

/-- Above bit 63 a field has no bit, so its highest one is 0. -/
theorem extField_past (a : Word) {pos k : Nat} (h : 64 < pos + (k + 1)) :
    extField a pos (k + 1) = (a >>> pos).toNat ∧ extField a pos (k + 1) < 2 ^ k := by
  have hlt : a.toNat / 2 ^ pos < 2 ^ k := by
    refine Nat.div_lt_of_lt_mul ?_
    rw [← Nat.pow_add]
    exact Nat.lt_of_lt_of_le a.isLt (Nat.pow_le_pow_right (by decide) (by omega))
  have he : extField a pos (k + 1) = a.toNat / 2 ^ pos :=
    Nat.mod_eq_of_lt (Nat.lt_trans hlt (Nat.pow_lt_pow_right (by decide) (Nat.lt_succ_self k)))
  rw [he, BitVec.toNat_ushiftRight, Nat.shiftRight_eq_div_pow]
  exact ⟨rfl, hlt⟩

/-- Settles O54: the field is the word shifted down, its sign bit is 0, and INS ends at bit 63. -/
theorem fieldsPastTheTop : Obligations.FieldsPastTheTop := by
  intro s n rd rs1 pos len1 h a d hpast
  obtain ⟨hval, hsign⟩ := extField_past a hpast
  refine ⟨?_, insField d a pos.toNat (len1.toNat + 1), fun i hi => ?_, gives_rookAlu h rfl rfl⟩
  · simp only [List.forall_mem_cons]
    refine ⟨gives_rookAlu h ?_ rfl, gives_rookAlu h ?_ rfl, nofun⟩
    · change BitVec.ofNat 64 (extField a _ _) = _
      rw [hval, BitVec.ofNat_toNat, BitVec.setWidth_eq]
    · change ofI (signed _ (extField a _ _)) = _
      rw [signed_of_lt (extField_lt ..), if_pos hsign, hval, ofI, BitVec.ofInt_natCast, BitVec.ofNat_toNat,
        BitVec.setWidth_eq]
  · rw [getLsbD_insField d a pos.isLt (Nat.succ_pos _) hi]
    by_cases hl : i < pos.toNat
    · rw [if_neg (by omega), if_pos hl]
    · rw [if_pos (by omega), if_neg hl]

end Sys2Proof.Machine
end

section
/-! PROOF of RookLoadsAndStores (R167, R180): what a load returns, which bytes a store writes in D-space, and what
goes into the commit buffer. -/

namespace Sys2Proof.Machine

section Dspace

variable {s : State} {n : Nat}

/-! ## Bytes of D-space -/

theorem commit_rookNow (s : State) (n : Nat) : (rookNow s n).commit = (s.rook n).commit :=
  (congrArg RookSt.commit (beyondFlight_rookNow s n) :)

/-- The writes in flight are none of the buffered stores. -/
theorem dRead_now (s : State) (n a w : Nat) : (s.setRook n (rookNow s n)).dRead n a w = s.dRead n a w := by
  unfold State.dRead State.dByte
  rw [State.rook_setRook_same, commit_rookNow]
  rfl

theorem ofI_signed (k v : Nat) : ofI (signed (k + 1) v) = (BitVec.ofNat (k + 1) v).signExtend 64 := by
  have hp : 2 ^ (k + 1) = 2 * 2 ^ k := Nat.pow_succ'
  rw [BitVec.signExtend, BitVec.toInt_eq_toNat_cond, BitVec.toNat_ofNat, ofI, signed, Nat.add_sub_cancel]
  congr 1
  exact if_congr (by omega) rfl rfl

theorem memByte_memBytes (m : List Host.Cell) (a : Nat) {k i : Nat} (hi : i < k) :
    (memBytes m a k).getD i 0 = memByte m (a + i) := by
  induction k generalizing a i with
  | zero => exact absurd hi (Nat.not_lt_zero i)
  | succ k ih =>
    cases i with
    | zero => rfl
    | succ i =>
      rw [Nat.add_comm i 1, ← Nat.add_assoc, ← ih (a + 1) (Nat.lt_of_succ_lt_succ hi), Nat.add_comm 1 i]
      rfl

/-- A byte of a number that was stored (R7). -/
theorem memByte_memPutBytes_bytesLE (m : List Host.Cell) (a v : Nat) {k i : Nat} (hi : i < k) :
    (memByte (memPutBytes m a (bytesLE k v)) (a + i)).toNat = v / 256 ^ i % 256 := by
  have hrun := memBytes_memPutBytes m a (bytesLE k v)
  rw [length_bytesLE] at hrun
  rw [← memByte_memBytes _ a hi, hrun, getD_bytesLE v hi, BitVec.toNat_ofNat]

/-! ## A load, a store outside a region, a store inside one -/

theorem gives_rookLoad (h : RookIssues s n) {rd rs1 w : Nat} {imm : BitVec 15} {sign : Bool} {a : Nat} {v : Word}
    (ha : ((rookNow s n).getW rs1 + imm15s imm).toNat = a) (hlt : a < 0x20000) (hal : a % w = 0)
    (hv : (if sign then ofI (signed (8 * w) (s.dRead n a w)) else BitVec.ofNat 64 (s.dRead n a w)) = v) :
    Gives (.next (s.rookLoad n rd rs1 w imm sign)) (RookComputes s n rd 3 v 0) := by
  refine gives_rookBecomes h ?_
  subst hv
  simp only [ha, hal, dRead_now, bne_self_eq_false, Bool.false_eq_true, if_false, if_neg (Nat.not_le.2 hlt)]
  rfl

variable {rs2 rs1 w a : Nat} {imm : BitVec 15}

theorem rookStore_taken (h : RookIssues s n) (ha : ((rookNow s n).getW rs1 + imm15s imm).toNat = a)
    (hlt : a < 0x20000) (hal : a % w = 0) {v : Word} (hv : (rookNow s n).getW rs2 = v) : s.rookStore n rs2 rs1 w imm =
      (if (rookNow s n).spec.isSome then (s.setRook n (rookNow s n)).rookBuffer n ⟨a, w, v⟩
        else (s.setRook n (rookNow s n)).dWrite n a w v).rookUpd n RookSt.next := by
  subst hv
  refine (rookIssue_eq h _).trans ?_
  simp only [ha, hal, bne_self_eq_false, Bool.false_eq_true, if_false, if_neg (Nat.not_le.2 hlt)]

theorem rookBuffer_taken {r : RookSt} (hr : s.rook n = r) (hroom : r.commit.length < 32) (c : CommitEnt) :
    s.rookBuffer n c = s.setRook n { r with commit := r.commit ++ [c] } := by
  subst hr
  exact if_neg (by simpa using hroom)

theorem gives_rookStore (h : RookIssues s n) (ha : ((rookNow s n).getW rs1 + imm15s imm).toNat = a)
    (hlt : a < 0x20000) (hal : a % w = 0) {v : Word} (hv : (rookNow s n).getW rs2 = v)
    (hspec : (rookNow s n).spec = none) :
    Gives (.next (s.rookStore n rs2 rs1 w imm)) fun t =>
        t.rook n = (rookNow s n).next ∧ Changes [.rooks, .pmem] s t ∧
        (∀ i < w, (memByte t.pmem (dspaceAddr n a + i)).toNat = v.toNat / 256 ^ i % 256) ∧
        ∀ x, x < dspaceAddr n a ∨ dspaceAddr n a + w ≤ x → memByte t.pmem x = memByte s.pmem x := by
  rw [rookStore_taken h ha hlt hal hv, hspec]
  refine gives_next ⟨?_, ?_, fun i hi => memByte_memPutBytes_bytesLE _ _ _ hi, fun x hx => ?_⟩
  · exact (State.rook_setRook_same ..).trans (congrArg RookSt.next (State.rook_setRook_same ..))
  · have hnow : Keeps (partMask [.rooks, .pmem]) s (s.setRook n (rookNow s n)) := (State.setRook_keeps ..).mono rfl
    exact ((State.rookUpd_keeps ..).comp rfl ((State.dWrite_keeps ..).comp rfl hnow)).changes rfl
  · refine memByte_memPutBytes_outside _ _ _ ?_
    rwa [length_bytesLE]

theorem gives_rookStore_buffered (h : RookIssues s n) (ha : ((rookNow s n).getW rs1 + imm15s imm).toNat = a)
    (hlt : a < 0x20000) (hal : a % w = 0) {v : Word} (hv : (rookNow s n).getW rs2 = v)
    (hspec : (rookNow s n).spec.isSome = true) (hroom : (rookNow s n).commit.length < 32) :
    Gives (.next (s.rookStore n rs2 rs1 w imm)) (RookBecomes s n
      ({ rookNow s n with commit := (rookNow s n).commit ++ [⟨a, w, v⟩] } : RookSt).next) := by
  rw [rookStore_taken h ha hlt hal hv, hspec, if_pos rfl, rookBuffer_taken (State.rook_setRook_same ..) hroom]
  exact gives_next (((rookBecomes_setRook s n _).setRook _).rookUpd _)

end Dspace

theorem rookLoads : Rules.rookLoads := by
  intro s n rd rs1 imm h a u x hlt
  simp only [List.forall_mem_cons]
  exact ⟨fun hal => gives_rookLoad h rfl hlt hal rfl, fun hal => gives_rookLoad h rfl hlt hal rfl,
    fun hal => gives_rookLoad h rfl hlt hal rfl, fun hal => gives_rookLoad h rfl hlt hal rfl,
    fun hal => gives_rookLoad h rfl hlt hal (ofI_signed 7 _), fun hal => gives_rookLoad h rfl hlt hal (ofI_signed 15 _),
    fun hal => gives_rookLoad h rfl hlt hal (ofI_signed 31 _), nofun⟩

theorem rookStores : Rules.rookStores := by
  intro s n rs2 rs1 imm h r a v hlt
  simp only [List.forall_mem_cons]
  exact ⟨fun hal => ⟨gives_rookStore h rfl hlt hal rfl, gives_rookStore_buffered h rfl hlt hal rfl⟩,
    fun hal => ⟨gives_rookStore h rfl hlt hal rfl, gives_rookStore_buffered h rfl hlt hal rfl⟩,
    fun hal => ⟨gives_rookStore h rfl hlt hal rfl, gives_rookStore_buffered h rfl hlt hal rfl⟩,
    fun hal => ⟨gives_rookStore h rfl hlt hal rfl, gives_rookStore_buffered h rfl hlt hal rfl⟩, nofun⟩

/-- Settles O3: loads, then stores outside a region and inside one. -/
theorem rookLoadsAndStores : Obligations.RookLoadsAndStores := ⟨rookLoads, rookStores⟩

end Sys2Proof.Machine
end

section
/-! PROOF of RookTransfers (R157, R170, R175): where a control transfer outside a delay slot goes on, and what the
return stack holds after a push and after a pop. -/

namespace Sys2Proof.Machine

section Transfers

variable {s : State} {n word : Nat}

theorem relative_eq (r : RookSt) (off : Int) : r.relative off = (((r.pc : Int) + 4 * off) % 2 ^ 64).toNat := by
  rw [RookSt.relative, unsign, Nat.cast_pow, Nat.cast_ofNat]

theorem gives_rookBranch (h : RookIssues s n) {target : RookSt → Option Nat} {t : Nat}
    (hslot : (rookNow s n).slot = 0) (ht : target (rookNow s n) = some t) (hal : t % 4 = 0) :
    Gives (.next (s.rookBranch n word target)) (RookBecomes s n (rookGoes (rookNow s n) t)) := by
  refine gives_rookBecomes h ?_
  simp only [hslot, ht, hal, bne_self_eq_false, Bool.false_eq_true, if_false]
  rfl

theorem gives_rookBranch_not_taken (h : RookIssues s n) {target : RookSt → Option Nat}
    (hslot : (rookNow s n).slot = 0) (ht : target (rookNow s n) = none) :
    Gives (.next (s.rookBranch n word target))
      (RookBecomes s n (rookGoes (rookNow s n) ((rookNow s n).pc + 12))) := by
  refine gives_rookBecomes h ?_
  simp only [hslot, ht, bne_self_eq_false, Bool.false_eq_true, if_false]
  rfl

/-- A compare-and-branch whose condition is `c`. -/
theorem gives_compareBranch (h : RookIssues s n) {target : RookSt → Option Nat} {c : Bool} {off : Int} {t : Nat}
    (hslot : (rookNow s n).slot = 0) (hrel : (rookNow s n).relative off = t)
    (ht : target (rookNow s n) = if c then some ((rookNow s n).relative off) else none) :
    (c = true → t % 4 = 0 → Gives (.next (s.rookBranch n word target)) (RookBecomes s n (rookGoes (rookNow s n) t))) ∧
    (c = false → Gives (.next (s.rookBranch n word target))
      (RookBecomes s n (rookGoes (rookNow s n) ((rookNow s n).pc + 12)))) := by
  rw [hrel] at ht
  exact ⟨fun hc => gives_rookBranch h hslot (by rw [ht, hc, if_pos rfl]),
    fun hc => gives_rookBranch_not_taken h hslot (by rw [ht, hc]; rfl)⟩

/-- A push outside a region that is not a trap of TRAP mode at COUNT = 16 (R175, R176). -/
theorem gives_rookCall (h : RookIssues s n) {target : RookSt → Nat} {t : Nat} {r : RookSt} (hr : rookNow s n = r)
    (hslot : r.slot = 0) (hspec : r.spec = none) (ht : target r = t) (hal : t % 4 = 0)
    (hroom : (r.count == 16 && r.esrBit 4) = false) :
    Gives (.next (s.rookCall n word target)) (RookBecomes s n (rookGoes { r with
      rstk := mapPut (fun _ => 0) r.rstk r.top (BitVec.ofNat 64 (r.pc + 12))
      rsp := rspWord (r.top + 1) (min 16 (r.count + 1)) } t)) := by
  subst hr
  refine gives_rookBecomes h ?_
  simp only [hslot, hspec, ht, hal, hroom, bne_self_eq_false, Option.isSome_none, Bool.and_false, Bool.false_eq_true,
    if_false]
  rfl

/-- The engine after a pop: TOP one entry lower, COUNT one less (R175). -/
def RookSt.popped (r : RookSt) : RookSt :=
  { r with rsp := BitVec.ofNat 64 ((r.count - 1) * 16 + (r.top + 15) % 16) }

section Pop

variable {r : RookSt} {t : Nat}

/-- A pop outside a region (R175). -/
theorem gives_rookRet (h : RookIssues s n) (hr : rookNow s n = r) (hslot : r.slot = 0) (hspec : r.spec = none)
    (ht : (mapGet (fun _ => (0 : Word)) r.rstk ((r.top + 15) % 16)).toNat = t) (hal : t % 4 = 0)
    (hcount : 0 < r.count) :
    Gives (.next (s.rookRet n word)) (RookBecomes s n (rookGoes r.popped t)) := by
  subst hr
  have hrec : ((none : Option Nat) == some (rookNow s n).count) = false := rfl
  have hsome : ((rookNow s n).count == 0) = false := beq_eq_false_iff_ne.2 hcount.ne'
  refine gives_rookBecomes h ?_
  simp only [hslot, hspec, ht, hal, hrec, hsome, RookSt.popped, rspWord, Nat.mod_mod, bne_self_eq_false, Bool.false_and,
    Bool.false_eq_true, if_false]
  rfl

/-- A pop at COUNT = 0 in WRAP mode, outside a region: RSE is set with it (R175). -/
theorem gives_rookRet_empty (h : RookIssues s n) (hr : rookNow s n = r) (hslot : r.slot = 0) (hspec : r.spec = none)
    (ht : (mapGet (fun _ => (0 : Word)) r.rstk ((r.top + 15) % 16)).toNat = t) (hal : t % 4 = 0) (hcount : r.count = 0)
    (hwrap : r.esrBit 4 = false) :
    Gives (.next (s.rookRet n word)) (RookBecomes s n (rookGoes (r.popped.produceFlags flRSE 1) t)) := by
  subst hr
  have hrec : ((none : Option Nat) == some (rookNow s n).count) = false := rfl
  refine gives_rookBecomes h ?_
  simp only [hslot, hspec, ht, hal, hrec, beq_iff_eq.2 hcount, hwrap, RookSt.popped, rspWord, Nat.mod_mod,
    bne_self_eq_false, Bool.and_false, Bool.false_eq_true, if_false, if_true]
  rfl

end Pop

end Transfers

theorem rookBranches : Rules.rookBranches := by
  intro s n rs1 rs2 off far h r a b t15 t25 hslot
  have h15 : r.relative (off15 off) = t15 := relative_eq ..
  have h25 : r.relative (off25 far) = t25 := relative_eq ..
  have hne : (a != b) = decide (a ≠ b) := by rw [decide_not]; rfl
  simp only [List.forall_mem_cons]
  refine ⟨⟨gives_compareBranch h hslot h15 rfl, gives_compareBranch h hslot h15 ?_, gives_compareBranch h hslot h15 rfl,
    gives_compareBranch h hslot h15 rfl, gives_compareBranch h hslot h15 rfl, gives_compareBranch h hslot h15 rfl,
    nofun⟩,
    gives_rookBranch h hslot (congrArg some h25), gives_rookBranch h hslot rfl⟩
  rw [← hne]

theorem rookReturnStack : Rules.rookReturnStack := by
  intro s n rs1 far h r a t25 top count pushed popTop entry popped hslot hspec hwrap
  have h25 : r.relative (off25 far) = t25 := relative_eq ..
  have hroom : (r.count == 16 && r.esrBit 4) = false := by rw [hwrap, Bool.and_false]
  exact ⟨fun hal => gives_rookCall h rfl hslot hspec h25 hal hroom,
    fun hal => gives_rookCall h rfl hslot hspec rfl hal hroom,
    fun hal hcount => gives_rookRet h rfl hslot hspec rfl hal hcount,
    fun hal hcount => gives_rookRet_empty h rfl hslot hspec rfl hal hcount hwrap⟩

/-- Settles O4: branches and jumps, then calls and returns. -/
theorem rookTransfers : Obligations.RookTransfers := ⟨rookBranches, rookReturnStack⟩

end Sys2Proof.Machine
end

section
/-! SUPPORT. The trap of a Rook (R181, R184, R185): what a squash makes of the engine, the engine at the vector, and
that it goes on running. -/

namespace Sys2Proof.Machine

/-! ## Bits of ESR (Table R190) -/

theorem esrBit_eq (r : RookSt) (b : Nat) : r.esrBit b = (bitsOf r.esr b b == 1) := by
  rw [RookSt.esrBit, bitAt, bitsOf, Nat.add_sub_cancel_left, Nat.pow_one]

/-- ESR at the entry of a trap of cause `c` in slot `k`: the slot in SLOT, the cause in CAUSE, TIN set. -/
def trapEsr (w : Word) (k c : Nat) : Word := putBits (putBits (putBits w 17 16 k) 31 24 c) 8 8 1

theorem trapEsr_cause (w : Word) (k : Nat) {c : Nat} (hc : c < 256) : bitsOf (trapEsr w k c) 31 24 = c := by
  rw [trapEsr, bitsOf_putBits_other _ _ (by decide) (by decide) (by decide) (.inr (by decide)),
    bitsOf_putBits_same _ _ (by decide) (by decide)]
  exact Nat.mod_eq_of_lt hc

theorem trapEsr_slot (w : Word) (k c : Nat) : bitsOf (trapEsr w k c) 17 16 = k % 4 := by
  rw [trapEsr, bitsOf_putBits_other _ _ (by decide) (by decide) (by decide) (.inr (by decide)),
    bitsOf_putBits_other _ _ (by decide) (by decide) (by decide) (.inl (by decide))]
  exact bitsOf_putBits_same _ _ (by decide) (by decide)

theorem trapEsr_tin (w : Word) (k c : Nat) : bitsOf (trapEsr w k c) 8 8 = 1 :=
  bitsOf_putBits_same _ _ (by decide) (by decide)

/-! ## The engine after a squash and at the vector -/

/-- The writes in flight applied and an open region squashed: its registers and RSP restored, its stores discarded
(R181). -/
def RookSt.squashed (r : RookSt) : RookSt :=
  match r.spec with
  | none => r.drainAll
  | some p =>
    (RookSt.setEsr { r.drainAll with
      w := (r.drainAll.w.filter fun e => decide (e.1 < 8)) ++ p.regs
      rsp := p.rsp
      commit := []
      spec := none } 10 false).setEsr 9 false

/-- The engine at the vector of cause `c` (R185). -/
def RookSt.trapped (r : RookSt) (c : Nat) (val : Word) : RookSt :=
  let q := if r.spec.isSome then r.squashed.setEsr 5 true else r.squashed
  { q with
    esr := trapEsr q.esr r.slot c
    tpc := BitVec.ofNat 64 (r.pc % 65536 / 4 * 4)
    tbt := if r.slot == 0 then q.tbt else BitVec.ofNat 64 (r.tgt % 65536 / 4 * 4)
    tval := val
    pc := bitsOf q.tvb 15 0 + 32 * c
    slot := 0
    rte := false
    cyc := max (r.cyc + 6) (r.lastReady + 1) }

theorem RookSt.squashed_of_none {r : RookSt} (h : r.spec = none) : r.squashed = r.drainAll := by
  rw [RookSt.squashed, h]

theorem RookSt.spec_drainAll (r : RookSt) : r.drainAll.spec = r.spec :=
  (congrArg RookSt.spec r.beyondFlight_drainAll :)

theorem RookSt.commit_drainAll (r : RookSt) : r.drainAll.commit = r.commit :=
  (congrArg RookSt.commit r.beyondFlight_drainAll :)

theorem RookSt.spec_squashed (r : RookSt) : r.squashed.spec = none := by
  cases h : r.spec with
  | none => rw [r.squashed_of_none h, r.spec_drainAll, h]
  | some p =>
    rw [RookSt.squashed, h]
    rfl

theorem RookSt.commit_squashed (r : RookSt) : r.squashed.commit = if r.spec.isSome then [] else r.commit := by
  cases h : r.spec with
  | none => rw [r.squashed_of_none h, r.commit_drainAll]; rfl
  | some p =>
    rw [RookSt.squashed, h]
    rfl

/-- The vector's address is in the cause's slot of the table, and the entry keeps of the engine what the squash left. -/
theorem RookSt.trapped_shows (r : RookSt) (c : Nat) (val : Word) :
    let t := r.trapped c val
    t.pc = bitsOf t.tvb 15 0 + 32 * c ∧ t.spec = none ∧ t.commit = (if r.spec.isSome then [] else r.commit) ∧
      t.w = r.squashed.w ∧ t.rsp = r.squashed.rsp ∧ t.rstk = r.squashed.rstk ∧ t.rem = r.squashed.rem := by
  unfold RookSt.trapped
  rw [← r.commit_squashed, ← r.spec_squashed]
  split <;> exact ⟨rfl, rfl, rfl, rfl, rfl, rfl, rfl⟩

section Trap

variable {s t : State} {n : Nat} {r : RookSt}

/-! ## The state after a squash and at the vector -/

theorem rook_of_keeps {m : Nat} (k : Keeps m s t) (hm : m.testBit Part.rooks.ix = false) (n : Nat) :
    t.rook n = s.rook n := by
  have h : t.rooks = s.rooks := k.same .rooks hm
  rw [State.rook, h, State.rook]

theorem rook_setSpeca (s : State) (n : Nat) (v : Bool) : (s.setSpeca n v).rook n = (s.rook n).setEsr 9 v :=
  (rook_of_keeps (State.wrB_keeps ..) rfl n).trans (State.rook_setRook_same ..)

theorem rook_rookSquash (hr : s.rook n = r) : (s.rookSquash n).rook n = r.squashed := by
  subst hr
  unfold State.rookSquash RookSt.squashed
  extract_lets q
  cases h : q.spec with
  | none => exact State.rook_setRook_same ..
  | some p =>
    refine (rook_of_keeps (State.pqRegionSquash_keeps ..) rfl n).trans ?_
    rw [rook_setSpeca, State.rook_setRook_same]

theorem rook_rookSquashCnt (hr : s.rook n = r) : (s.rookSquashCnt n).rook n = r.squashed := by
  unfold State.rookSquashCnt
  split
  · exact (rook_of_keeps (State.inc_keeps ..) rfl n).trans (rook_rookSquash hr)
  · exact rook_rookSquash hr

theorem rookTrap_eq (hr : s.rook n = r) (htin : r.tin = false) (c : Nat) (val : Word) :
    s.rookTrap n c val = (s.rookSquashCnt n).setRook n (r.trapped c val) := by
  have hq := rook_rookSquashCnt hr
  subst hr
  unfold State.rookTrap RookSt.trapped
  simp only [htin, hq, Bool.false_eq_true, if_false]
  rfl

theorem rookRunning_of_writes {W : Nat → Prop} (h : Writes W s t) (hstat : ¬W (PEA_Rn_STAT n)) (hpd : ¬W CRP_PD_STAT) :
    t.rookRunning n = s.rookRunning n := by
  have hd : ∀ d, t.rd (CRP_PD_STAT_STATE d) = s.rd (CRP_PD_STAT_STATE d) := fun d => h.rd_eq hpd
  simp only [State.rookRunning, State.domOn, State.domState, hd, h.rd_eq (f := PEA_Rn_STAT_STATE n) hstat]

theorem not_queueing_of_le {a : Nat} (h : 0x00600000 ≤ a) : ¬Queueing a := by
  rintro (⟨p, hp, rfl⟩ | ⟨-, hlt⟩)
  · simp only [HIC_PARTp_IRQ] at h
    omega
  · omega

theorem not_queueing_PD_STAT : ¬Queueing CRP_PD_STAT := fun h => absurd h.beyond (by decide : ¬uMEM ≤ CRP_PD_STAT)

theorem rookRunning_setSpeca (s : State) (n : Nat) (v : Bool) : (s.setSpeca n v).rookRunning n = s.rookRunning n := by
  have hd : ∀ d, (s.setSpeca n v).rd (CRP_PD_STAT_STATE d) = s.rd (CRP_PD_STAT_STATE d) := fun d =>
    (writes_setSpeca s n v).rd_eq (by decide : ¬uMEM ≤ CRP_PD_STAT)
  have hstate : (s.setSpeca n v).rd (PEA_Rn_STAT_STATE n) = s.rd (PEA_Rn_STAT_STATE n) :=
    State.rd_wr_apart _ (b2n v) rfl rfl (by simp [Fld.apart, PEA_Rn_STAT_STATE, PEA_Rn_STAT_SPECA])
  simp only [State.rookRunning, State.domOn, State.domState, hd, hstate]

theorem rookRunning_rookSquash (s : State) (n : Nat) : (s.rookSquash n).rookRunning n = s.rookRunning n := by
  unfold State.rookSquash
  extract_lets q
  cases q.spec with
  | none => rfl
  | some p =>
    have hstat : 0x00600000 ≤ PEA_Rn_STAT n := by
      simp only [PEA_Rn_STAT]
      omega
    exact (rookRunning_of_writes (writes_pqRegionSquash ..) (not_queueing_of_le hstat) not_queueing_PD_STAT).trans
      (rookRunning_setSpeca ..)

theorem rookRunning_rookSquashCnt (s : State) (n : Nat) : (s.rookSquashCnt n).rookRunning n = s.rookRunning n := by
  have hinc : ∀ t : State, Writes (· = PEA_Rn_CNT n) t (t.inc (PEA_Rn_CNT_SQUASHES n)) := fun t => Writes.refl.inc rfl
  unfold State.rookSquashCnt
  split
  · refine (rookRunning_of_writes (hinc _) ?_ ?_).trans (rookRunning_rookSquash s n)
    · simp only [PEA_Rn_STAT, PEA_Rn_CNT]
      omega
    · simp only [CRP_PD_STAT, PEA_Rn_CNT]
      omega
  · exact rookRunning_rookSquash s n

theorem rookRunning_rookTrap (hr : s.rook n = r) (htin : r.tin = false) (c : Nat) (val : Word) :
    (s.rookTrap n c val).rookRunning n = s.rookRunning n := by
  rw [rookTrap_eq hr htin, State.rookRunning_setRook, rookRunning_rookSquashCnt]

/-! ## An instruction that traps -/

theorem beyondFlight_spec (s : State) (n : Nat) : (rookNow s n).spec = (s.rook n).spec :=
  (congrArg RookSt.spec (beyondFlight_rookNow s n) :)

/-- A trap with TIN = 0 in an issue cycle (R184, R185). -/
theorem rookTrapped_rookTrap (hrun : s.rookRunning n = true) (htin : (rookNow s n).tin = false) {c : Nat} (hc : c < 256)
    (val : Word) : RookTrapped s n c val ((s.setRook n (rookNow s n)).rookTrap n c val) := by
  have hr : (s.setRook n (rookNow s n)).rook n = rookNow s n := State.rook_setRook_same ..
  have hrook : ((s.setRook n (rookNow s n)).rookTrap n c val).rook n = (rookNow s n).trapped c val := by
    rw [rookTrap_eq hr htin, State.rook_setRook_same]
  have hslot : (rookNow s n).slot = (s.rook n).slot := RookSt.applyTo_slot ..
  have hpc : (rookNow s n).pc = (s.rook n).pc := RookSt.applyTo_pc ..
  obtain ⟨hvector, hspec, hcommit, -⟩ := (rookNow s n).trapped_shows c val
  unfold RookTrapped
  rw [hrook]
  refine ⟨trapEsr_cause _ _ hc, ?_, rfl, ?_, ?_, hvector, rfl, hspec, ?_, ?_, ?_⟩
  · rw [RookSt.tin, esrBit_eq]
    exact beq_iff_eq.2 (trapEsr_tin ..)
  · rw [← hslot]
    exact trapEsr_slot ..
  · rw [← hpc]
    exact (BitVec.toNat_ofNat ..).trans (Nat.mod_eq_of_lt (by omega))
  · rw [hcommit, beyondFlight_spec, commit_rookNow]
  · rw [rookRunning_rookTrap hr htin]
    exact hrun
  · rw [rookTrap_eq hr htin]
    have hnow : Keeps (partMask [.regs, .rooks, .mqf]) s (s.setRook n (rookNow s n)) :=
      (State.setRook_keeps ..).mono rfl
    exact ((State.setRook_keeps ..).comp rfl ((State.rookSquashCnt_keeps ..).comp rfl hnow)).changes rfl

theorem rookUntouched_rookTrap (htin : (rookNow s n).tin = false) (hspec : (rookNow s n).spec = none) (c : Nat)
    (val : Word) : RookUntouched s n ((s.setRook n (rookNow s n)).rookTrap n c val) := by
  obtain ⟨-, -, -, hw, hrsp, hrstk, hrem⟩ := (rookNow s n).trapped_shows c val
  rw [RookSt.squashed_of_none hspec] at hw hrsp hrstk hrem
  unfold RookUntouched
  rw [rookTrap_eq (State.rook_setRook_same ..) htin, State.rook_setRook_same]
  exact ⟨hw, hrsp, hrstk, hrem⟩

/-- An instruction whose body is a trap. -/
theorem gives_trap (h : RookIssues s n) (htin : (rookNow s n).tin = false) {body : State → RookSt → State} {c : Nat}
    (hc : c < 256) {val : Word}
    (hb : body (s.setRook n (rookNow s n)) (rookNow s n) = (s.setRook n (rookNow s n)).rookTrap n c val) :
    Gives (.next (s.rookIssue n body)) (RookTrapped s n c val) := by
  refine gives_rookIssue h ?_
  rw [hb]
  exact rookTrapped_rookTrap h.1 htin hc val

/-- Outside a region it leaves the registers and the return stack alone. -/
theorem gives_trap_untouched (h : RookIssues s n) (htin : (rookNow s n).tin = false) (hspec : (rookNow s n).spec = none)
    {body : State → RookSt → State} {c : Nat} (hc : c < 256) {val : Word}
    (hb : body (s.setRook n (rookNow s n)) (rookNow s n) = (s.setRook n (rookNow s n)).rookTrap n c val) :
    Gives (.next (s.rookIssue n body)) fun t => RookTrapped s n c val t ∧ RookUntouched s n t := by
  refine gives_rookIssue h ?_
  rw [hb]
  exact ⟨rookTrapped_rookTrap h.1 htin hc val, rookUntouched_rookTrap htin hspec c val⟩

end Trap

end Sys2Proof.Machine
end

section
/-! PROOF of RookTraps, TransfersThatTrap and ReturnStackInTrapMode (R156, R170 to R172, R176, R184, R185): the body
of each instruction that traps comes to the trap of its cause. -/

namespace Sys2Proof.Machine

section Bodies

variable {s : State} {n : Nat} {r : RookSt}

/-- The fetch outside I-space traps whatever the instruction is (R184). -/
theorem gives_ispace (hrun : s.rookRunning n = true) (hwait : (s.rook n).wait = none) (hdbg : (s.rook n).dbg = false)
    (hdue : (s.rook n).squashDue = false) (htin : (rookNow s n).tin = false) (hpc : 0x10000 ≤ (rookNow s n).pc)
    (body : State → RookSt → State) :
    Gives (.next (s.rookIssue n body)) (RookTrapped s n 0x08 (BitVec.ofNat 64 (rookNow s n).pc)) := by
  have hdue' : (rookNow s n).squashDue = false := (RookSt.applyTo_squashDue ..).trans hdue
  have hissue : s.rookIssue n body =
      (s.setRook n (rookNow s n)).rookTrap n 0x08 (BitVec.ofNat 64 (rookNow s n).pc) := by
    unfold State.rookIssue
    simp only [hrun, hwait, hdbg, Bool.not_true, Option.isSome_none, Bool.or_self, Bool.false_eq_true, if_false]
    exact (if_neg (ne_true_of_eq_false hdue')).trans (if_pos hpc)
  rw [hissue]
  exact gives_next (rookTrapped_rookTrap hrun htin (by decide) _)

/-! ## Transfers that trap (R170, R171, R176) -/

section Untouched

variable {word t : Nat} (h : RookIssues s n) (htin : (rookNow s n).tin = false) (hspec : (rookNow s n).spec = none)
include h htin hspec

theorem branch_traps_slot {target : RookSt → Option Nat} (hslot : (rookNow s n).slot ≠ 0) :
    Gives (.next (s.rookBranch n word target)) fun t =>
      RookTrapped s n 0x03 (BitVec.ofNat 64 word) t ∧ RookUntouched s n t :=
  gives_trap_untouched h htin hspec (by decide) (if_pos (bne_iff_ne.2 hslot))

theorem branch_traps_align {target : RookSt → Option Nat} (hslot : (rookNow s n).slot = 0)
    (ht : target (rookNow s n) = some t) (hal : t % 4 ≠ 0) :
    Gives (.next (s.rookBranch n word target)) fun u =>
      RookTrapped s n 0x05 (BitVec.ofNat 64 t) u ∧ RookUntouched s n u := by
  refine gives_trap_untouched h htin hspec (by decide) ?_
  simp only [hslot, ht, bne_self_eq_false, Bool.false_eq_true, if_false, bne_iff_ne.2 hal, if_true]

theorem call_traps_slot {target : RookSt → Nat} (hslot : (rookNow s n).slot ≠ 0) :
    Gives (.next (s.rookCall n word target)) fun t =>
      RookTrapped s n 0x03 (BitVec.ofNat 64 word) t ∧ RookUntouched s n t :=
  gives_trap_untouched h htin hspec (by decide) (if_pos (bne_iff_ne.2 hslot))

theorem call_traps_align {target : RookSt → Nat} (hslot : (rookNow s n).slot = 0) (ht : target (rookNow s n) = t)
    (hal : t % 4 ≠ 0) : Gives (.next (s.rookCall n word target)) fun u =>
      RookTrapped s n 0x05 (BitVec.ofNat 64 t) u ∧ RookUntouched s n u := by
  refine gives_trap_untouched h htin hspec (by decide) ?_
  simp only [hslot, ht, bne_self_eq_false, Bool.false_eq_true, if_false, bne_iff_ne.2 hal, if_true]

/-- A push at COUNT = 16 in TRAP mode. -/
theorem call_traps_over {target : RookSt → Nat} (hslot : (rookNow s n).slot = 0) (ht : target (rookNow s n) = t)
    (hal : t % 4 = 0) (hcount : (rookNow s n).count = 16) (hmode : (rookNow s n).esrBit 4 = true) :
    Gives (.next (s.rookCall n word target)) fun u =>
      RookTrapped s n 0x09 (BitVec.ofNat 64 ((rookNow s n).pc + 12)) u ∧ RookUntouched s n u := by
  refine gives_trap_untouched h htin hspec (by decide) ?_
  simp only [hslot, hspec, ht, hal, hcount, hmode, bne_self_eq_false, Option.isSome_none, Bool.and_false, BEq.rfl,
    Bool.and_self, Bool.false_eq_true, if_false, if_true]

theorem ret_traps_slot (hslot : (rookNow s n).slot ≠ 0) :
    Gives (.next (s.rookRet n word)) fun t =>
      RookTrapped s n 0x03 (BitVec.ofNat 64 word) t ∧ RookUntouched s n t :=
  gives_trap_untouched h htin hspec (by decide) (if_pos (bne_iff_ne.2 hslot))

/-- A pop at COUNT = 0 in TRAP mode. -/
theorem ret_traps_under (hslot : (rookNow s n).slot = 0) (hcount : (rookNow s n).count = 0)
    (hmode : (rookNow s n).esrBit 4 = true) :
    Gives (.next (s.rookRet n word)) fun u => RookTrapped s n 0x0A 0 u ∧ RookUntouched s n u := by
  have hrec : ((none : Option Nat) == some 0) = false := rfl
  refine gives_trap_untouched h htin hspec (by decide) ?_
  simp only [hslot, hspec, hcount, hmode, hrec, bne_self_eq_false, BEq.rfl, Bool.and_self, Bool.false_eq_true, if_false,
    if_true]

end Untouched

end Bodies

/-- Settles O55: in a delay slot every transfer comes to the trap SLOT; RTE traps ILLEGAL with TIN = 0, the others
ALIGN. -/
theorem transfersThatTrap : Obligations.TransfersThatTrap := by
  intro s n rs1 rs2 off far h r a t25 traps hspec htin
  have h25 : r.relative (off25 far) = t25 := relative_eq ..
  refine ⟨fun hslot => ?_,
    fun hslot hal => ⟨⟨_, branch_traps_align h htin hspec hslot rfl hal⟩,
      ⟨_, call_traps_align h htin hspec hslot rfl hal⟩⟩,
    fun hslot hal => ⟨⟨_, branch_traps_align h htin hspec hslot (congrArg some h25) hal⟩,
      ⟨_, call_traps_align h htin hspec hslot h25 hal⟩⟩,
    fun hslot => ⟨BitVec.ofNat 64 (wordJ 0x75 0), ?_⟩⟩
  · have hbranch : ∀ {word : Nat} {target : RookSt → Option Nat}, ∃ v, Gives (.next (s.rookBranch n word target))
      fun t =>
        RookTrapped s n 0x03 v t ∧ RookUntouched s n t := ⟨_, branch_traps_slot h htin hspec hslot⟩
    have hcall : ∀ {word : Nat} {target : RookSt → Nat}, ∃ v, Gives (.next (s.rookCall n word target)) fun t =>
        RookTrapped s n 0x03 v t ∧ RookUntouched s n t := ⟨_, call_traps_slot h htin hspec hslot⟩
    simp only [List.forall_mem_cons]
    exact ⟨hbranch, hbranch, hbranch, hbranch, hbranch, hbranch, hbranch, hbranch, hcall, hcall,
      ⟨_, ret_traps_slot h htin hspec hslot⟩,
      ⟨_, gives_trap_untouched h htin hspec (by decide) (if_pos (bne_iff_ne.2 hslot))⟩, nofun⟩
  · refine gives_trap_untouched h htin hspec (by decide) ((if_neg ?_).trans (if_pos ?_))
    · exact fun hne => bne_iff_ne.1 hne hslot
    · rw [htin]
      rfl

/-- Settles O56: at the bound of the stack a push or a pop is the trap, else it is the push or the pop of WRAP mode. -/
theorem returnStackInTrapMode : Obligations.ReturnStackInTrapMode := by
  intro s n rs1 far h r a t25 top count pushed popTop entry popped traps hslot hspec hmode
  have h25 : r.relative (off25 far) = t25 := relative_eq ..
  have hroom : count < 16 → (r.count == 16 && r.esrBit 4) = false := fun hlt => by
    have hne : (r.count == 16) = false := beq_eq_false_iff_ne.2 (Nat.ne_of_lt hlt)
    rw [hne, Bool.false_and]
  have hpush : count < 16 → { r with
      rstk := mapPut (fun _ => 0) r.rstk r.top (BitVec.ofNat 64 (r.pc + 12))
      rsp := rspWord (r.top + 1) (min 16 (r.count + 1)) } = pushed := fun hlt => by
    have hmin : min 16 (r.count + 1) = count + 1 := Nat.min_eq_right hlt
    rw [hmin]
    rfl
  have hcall : ∀ {word t : Nat} {target : RookSt → Nat}, target r = t → t % 4 = 0 →
      (count = 16 → r.tin = false → ∃ v, Gives (.next (s.rookCall n word target)) fun t =>
        RookTrapped s n 0x09 v t ∧ RookUntouched s n t) ∧
      (count < 16 → Gives (.next (s.rookCall n word target)) (RookBecomes s n (rookGoes pushed t))) :=
    fun ht hal => ⟨fun hcount htin => ⟨_, call_traps_over h htin hspec hslot ht hal hcount hmode⟩, fun hlt =>
      hpush hlt ▸ gives_rookCall h rfl hslot hspec ht hal (hroom hlt)⟩
  exact ⟨hcall h25, hcall rfl, fun hcount htin => ⟨_, ret_traps_under h htin hspec hslot hcount hmode⟩,
    fun hal hcount => gives_rookRet h rfl hslot hspec rfl hal hcount⟩

/-- Settles O6: each body is the trap of its cause. -/
theorem rookTraps : Obligations.RookTraps := by
  intro s n rd rs1 rs2 code imm word hrun hwait hdbg hdue htin r a
  refine ⟨fun hpc => ?_, fun hpc => gives_ispace hrun hwait hdbg hdue htin hpc _⟩
  have h : RookIssues s n := ⟨hrun, hwait, hdbg, lt_of_eq_of_lt (RookSt.applyTo_pc ..).symm hpc, hdue⟩
  refine ⟨gives_trap h htin (by decide) rfl,
    gives_trap h htin (by decide) (congrArg (State.rookTrap _ _ _) (BitVec.ofNat_toNat 64 code)), fun hu => ?_,
    fun hal => ?_, fun hal hle => ?_,
    fun hslot => ⟨_, gives_trap h htin (by decide) (if_pos (bne_iff_ne.2 hslot))⟩⟩
  · obtain ⟨t, ht, htrap⟩ := gives_trap h htin (by decide)
      (body := fun u _ => u.rookTrap n 0x02 (BitVec.ofNat 64 word.toNat))
      (congrArg (State.rookTrap _ _ _) (BitVec.ofNat_toNat 64 word))
    exact ⟨t, (congrArg Host.Outcome.next (if_pos hu)).trans ht, htrap⟩
  · simp only [List.forall_mem_cons]
    have hal' := bne_iff_ne.2 hal
    exact ⟨gives_trap h htin (by decide) (if_pos hal'), gives_trap h htin (by decide) (if_pos hal'),
      gives_trap h htin (by decide) (if_pos hal'), gives_trap h htin (by decide) (if_pos hal'), nofun⟩
  · simp only [List.forall_mem_cons]
    have hal' : ¬(a % 8 != 0) = true := fun hne => bne_iff_ne.1 hne hal
    exact ⟨gives_trap h htin (by decide) ((if_neg hal').trans (if_pos hle)),
      gives_trap h htin (by decide) ((if_neg hal').trans (if_pos hle)), nofun⟩

end Sys2Proof.Machine
end

section
/-! PROOF of RookSystem (R154, R160, R161, R169, R172, R188): special registers, WAIT and its wake, RTE, and the
writes whose ready cycle has come. -/

namespace Sys2Proof.Machine

/-- The writes in flight raise no event (R199). -/
theorem rookEvents_now (s : State) (n : Nat) : (s.setRook n (rookNow s n)).rookEvents n = s.rookEvents n := by
  have h := beyondFlight_rookNow s n
  have hev : (rookNow s n).ev = (s.rook n).ev := (congrArg RookSt.ev h :)
  have hcur : (rookNow s n).cur = (s.rook n).cur := (congrArg RookSt.cur h :)
  have hthr : (rookNow s n).rxThr = (s.rook n).rxThr := (congrArg RookSt.rxThr h :)
  have hrx : ∀ b, (rookNow s n).rx b = (s.rook n).rx b := fun b => (congrArg (RookSt.rx · b) h :)
  unfold State.rookEvents
  simp only [State.rook_setRook_same, hev, hcur, hthr, hrx]
  rfl

section System

variable {s : State} {n : Fin 24}

theorem gives_mfs (h : RookIssues s n) {rd sr : BitVec 5} {v : Word} (hv : (rookNow s n).getSr sr.toNat = some v) :
    Gives (exec (.mfs n rd sr) s) (RookComputes s n rd.toNat 1 v 0) := by
  refine gives_rookBecomes h ?_
  simp only [hv]
  rfl

theorem gives_mts (h : RookIssues s n) {rs1 sr : BitVec 5}
    (hok : mtsOk sr.toNat ((rookNow s n).getW rs1.toNat) = true) : Gives (exec (.mts n rs1 sr) s)
      (RookComputes s n (64 + sr.toNat) 1 ((rookNow s n).getW rs1.toNat) 0) :=
  gives_rookBecomes h (if_pos hok)

/-- The values that an MTS may write (Table R154, R177, R190). -/
theorem mtsOk_of {sr : BitVec 5} {v : Word}
    (h : sr = 1 ∨ sr = 2 ∨ sr = 4 ∨ sr = 0 ∧ bitsOf v 17 16 ≠ 3 ∨ sr = 5 ∧ bitsOf v 8 4 ≤ 16) :
    mtsOk sr.toNat v = true := by
  rcases h with rfl | rfl | rfl | ⟨rfl, hv⟩ | ⟨rfl, hv⟩
  · rfl
  · rfl
  · rfl
  · exact bne_iff_ne.2 hv
  · exact decide_eq_true hv

section Wait

variable {rd : BitVec 5} {imm : BitVec 15} (h : RookIssues s n)
include h

theorem gives_wait_at_once (hev : s.rookEvents n &&& (imm15s imm).toNat ≠ 0) : Gives (exec (.wait n rd imm) s)
    (RookComputes s n rd.toNat 1 (BitVec.ofNat 64 (s.rookEvents n &&& (imm15s imm).toNat)) 0) := by
  have hm : ((imm15s imm).toNat == 0) = false := beq_eq_false_iff_ne.2 fun hm => hev (by rw [hm, Nat.and_zero])
  refine gives_rookBecomes h ?_
  simp only [hm, rookEvents_now, bne_iff_ne.2 hev, Bool.false_eq_true, if_false, if_true]
  rfl

theorem gives_wait_pauses (hev : s.rookEvents n &&& (imm15s imm).toNat = 0) (hm : (imm15s imm).toNat ≠ 0) :
    Gives (exec (.wait n rd imm) s)
      (RookBecomes s n { (rookNow s n).next with wait := some (rd.toNat, (imm15s imm).toNat) }) := by
  refine gives_rookBecomes h ?_
  simp only [beq_eq_false_iff_ne.2 hm, rookEvents_now, hev, bne_self_eq_false, Bool.false_eq_true, if_false]

end Wait

theorem gives_waitWake (hrun : s.rookRunning n = true) {d k : Nat} (hwait : (s.rook n).wait = some (d, k))
    (hev : s.rookEvents n &&& k ≠ 0) (c : Nat) : Gives (exec (.waitWake n c) s) fun t =>
      (t.rook n).wait = none ∧ (t.rook n).cyc = (s.rook n).cyc + c + 1 ∧ Changes [.rooks] s t := by
  have hgo : (!s.rookRunning n || s.rookEvents n &&& k == 0) = false := by simp [hrun, hev]
  simp only [exec, execWaitWake, hwait, hgo, Bool.false_eq_true, if_false]
  refine gives_next ⟨?_, ?_, (State.setRook_keeps ..).changes rfl⟩ <;> rw [State.rook_setRook_same]
  rfl

theorem gives_rte (h : RookIssues s n) (hslot : (rookNow s n).slot = 0) (htin : (rookNow s n).tin = true) :
    Gives (exec (.rte n) s) (RookBecomes s n { rookGoes (rookNow s n) 0 with rte := true }) := by
  refine gives_rookBecomes h ?_
  simp only [hslot, htin, bne_self_eq_false, Bool.not_true, Bool.false_eq_true, if_false]
  rfl

theorem gives_pipelineWriteReady (hrun : s.rookRunning n = true) :
    Gives (exec (.pipelineWriteReady n) s) (RookBecomes s n (rookNow s n)) :=
  ⟨_, congrArg Host.Outcome.next (if_pos hrun), rookBecomes_setRook s n _⟩

end System

/-- Settles O5, instruction by instruction. -/
theorem rookSystem : Obligations.RookSystem := by
  intro s n rd rs1 sr imm k h r v m ev
  refine ⟨?_, fun hsr => gives_mts h (mtsOk_of hsr), gives_wait_at_once h, gives_wait_pauses h, gives_rte h,
    gives_pipelineWriteReady h.1, fun s' d hrun hwait hev c => gives_waitWake hrun hwait hev c⟩
  have hmfs : ∀ p : Nat × Word, r.getSr p.1 = some p.2 → sr.toNat = p.1 →
      Gives (exec (.mfs n rd sr) s) (RookComputes s n rd.toNat 1 p.2 0) := fun p hp hsr => gives_mfs h (hsr ▸ hp)
  simp only [List.forall_mem_cons]
  exact ⟨hmfs (0, _) rfl, hmfs (1, _) rfl, hmfs (2, _) rfl, hmfs (3, _) rfl, hmfs (4, _) rfl, hmfs (5, _) rfl,
    hmfs (6, _) rfl, hmfs (7, _) rfl, nofun⟩

end Sys2Proof.Machine
end

section
/-! REFUTATION of RookHaltsAndRegions (R145, R189, R196): a HALT of the last RUNNING engine bound to an engine port
takes the port down, which discards the frames queued for it. The clause of HALT leaves the switch core out of what
changes. -/

namespace Sys2Proof.Machine

/-- PD_PEA0 is ON, engine 0 is RUNNING and alone bound to engine port 10, and frame 7 is queued for the port in class
0. -/
def frameForHaltingEngine : State :=
  let s := ((State.reset.wr (CRP_PD_STAT_STATE 4) 2).wr (PEA_Rn_STAT_STATE 0) 2).wr (PEA_Rn_CTL_BIND 0) 0
  (s.setSwc { s.swc with frames := [(7, some { EthFrame.blank with egress := 2 ^ 10 })] }).setQueue 10 0 [7]

theorem frameForHaltingEngine_issues : RookIssues frameForHaltingEngine 0 := by unfold RookIssues; decide +kernel

theorem frameForHaltingEngine_queue : frameForHaltingEngine.queue 10 0 = [7] := by decide +kernel

/-- The state in which a HALT of engine 0 ends. -/
def frameDiscardedByHalt : State := frameForHaltingEngine.rookIssue 0 fun s r => (s.rookSquash 0).rookHalt 0 1 0 r.pc

/-- The port is down and its queue is empty. -/
theorem frameDiscardedByHalt_queue : frameDiscardedByHalt.queue 10 0 = [] := by decide +kernel

/-- What the clause of HALT outside a region says of the switch core, which is none of the parts it lists. -/
theorem swc_frameDiscardedByHalt (h : Obligations.RookHaltsAndRegions) :
    frameDiscardedByHalt.swc = frameForHaltingEngine.swc := by
  obtain ⟨halt, -⟩ := h frameForHaltingEngine 0 0 frameForHaltingEngine_issues
  obtain ⟨t, ht, -, -, same⟩ := halt rfl
  cases ht
  exact same .swc (by decide)

/-- Refutes O7: HALT empties the queue of the engine port that goes down with the engine (R145, R196). -/
theorem not_rookHaltsAndRegions : ¬ Obligations.RookHaltsAndRegions := by
  intro h
  have same : frameDiscardedByHalt.queue 10 0 = frameForHaltingEngine.queue 10 0 := by
    rw [State.queue, State.queue, swc_frameDiscardedByHalt h]
  rw [frameDiscardedByHalt_queue, frameForHaltingEngine_queue] at same
  exact absurd same (by decide)

end Sys2Proof.Machine
end

section
/-! SUPPORT. A read on the fabric and the engines of the PEA (R207, R499, R508): what the engines hold is neither
looked at nor changed, so a read answers the same with other engines in the state. -/

namespace Sys2Proof.Machine

section Engines

variable (s : State) (v : List (Nat × RookSt))

/-! ## Reads and single writes -/

@[simp] theorem wr_putRooks (f : Fld) (x : Nat) : (s.putRooks v).wr f x = (s.wr f x).putRooks v := rfl
@[simp] theorem wrB_putRooks (f : Fld) (b : Bool) : (s.putRooks v).wrB f b = (s.wrB f b).putRooks v := rfl
@[simp] theorem inc_putRooks (f : Fld) : (s.putRooks v).inc f = (s.inc f).putRooks v := rfl
@[simp] theorem orF_putRooks (f : Fld) (m : Nat) : (s.putRooks v).orF f m = (s.orF f m).putRooks v := rfl
@[simp] theorem putMsix_putRooks (l : List (Nat × Nat)) : (s.putRooks v).putMsix l = (s.putMsix l).putRooks v := rfl
@[simp] theorem putEvLost_putRooks (k : Nat) : (s.putRooks v).putEvLost k = (s.putEvLost k).putRooks v := rfl
@[simp] theorem domOn_putRooks (d : Nat) : (s.putRooks v).domOn d = s.domOn d := rfl
@[simp] theorem ltNs_putRooks : (s.putRooks v).ltNs = s.ltNs := rfl

@[simp] theorem imageReason_putRooks (m : Nat) : (s.putRooks v).imageReason m = (s.imageReason m).putRooks v := rfl

@[simp] theorem loggedWithin_putRooks (e : EventRec) (time ns : Nat) :
    (s.putRooks v).loggedWithin e time ns = s.loggedWithin e time ns := rfl

@[simp] theorem signalled_putRooks (p src : Nat) : (s.putRooks v).signalled p src = s.signalled p src := rfl

@[simp] theorem pcieDead_putRooks (p : Nat) : (s.putRooks v).pcieDead p = s.pcieDead p := rfl

@[simp] theorem vecOf_putRooks (p src : Nat) : (s.putRooks v).vecOf p src = s.vecOf p src := rfl

@[simp] theorem logPush_putRooks (code unit cls detail time : Nat) :
    (s.putRooks v).logPush code unit cls detail time = (s.logPush code unit cls detail time).putRooks v := rfl

/-! ## What an uncorrectable word raises -/

/-- A branch that both sides take for the same reason. -/
theorem ite_putRooks {c d : Prop} [Decidable c] [Decidable d] (h : c = d) {a b t u : State} (ha : a = t.putRooks v)
    (hb : b = u.putRooks v) : (if c then a else b) = (if d then t else u).putRooks v := by
  subst h ha hb
  split <;> rfl

@[simp] theorem raiseEvent_putRooks (p src : Nat) :
    (s.putRooks v).raiseEvent p src = (s.raiseEvent p src).putRooks v := by
  unfold State.raiseEvent
  refine ite_putRooks v (by rw [domOn_putRooks]) rfl (ite_putRooks v ?_ ?_ ?_) <;>
  simp only [orF_putRooks, signalled_putRooks, pcieDead_putRooks, vecOf_putRooks, State.putRooks_msix, putMsix_putRooks]

@[simp] theorem setIstat_putRooks (base m : Nat) : (s.putRooks v).setIstat base m = (s.setIstat base m).putRooks v := by
  unfold State.setIstat
  refine ite_putRooks v ?_ ?_ ?_ <;> simp only [orF_putRooks, State.rd_putRooks, raiseEvent_putRooks]

@[simp] theorem logRec_putRooks (code unit cls detail time : Nat) :
    (s.putRooks v).logRec code unit cls detail time = (s.logRec code unit cls detail time).putRooks v := by
  have hlost : (if (s.putRooks v).evLost = 0 then s.putRooks v
      else ((s.putRooks v).logPush 0x0FFF (unitCode uSYSCTL) 0 (s.putRooks v).evLost time).putEvLost 0) =
      (if s.evLost = 0 then s else (s.logPush 0x0FFF (unitCode uSYSCTL) 0 s.evLost time).putEvLost 0).putRooks v :=
    ite_putRooks v rfl rfl (by rw [logPush_putRooks, putEvLost_putRooks, State.putRooks_evLost])
  unfold State.logRec
  extract_lets same recent s1 same' recent' s1'
  have hs1 : s1 = s1'.putRooks v := hlost
  clear_value s1
  have hsame : same = same' := by simp only [same, same', State.putRooks_evlog, loggedWithin_putRooks]
  have hrecent : recent = recent' := by simp only [recent, recent', State.putRooks_evlog, loggedWithin_putRooks]
  rw [hsame, hrecent, hs1]
  refine ite_putRooks v rfl (inc_putRooks ..) (ite_putRooks v rfl ?_ (logPush_putRooks ..))
  rw [inc_putRooks, putEvLost_putRooks, State.putRooks_evLost]

@[simp] theorem eccLog_putRooks (ue : Bool) (word syndrome : Nat) :
    (s.putRooks v).eccLog ue word syndrome = (s.eccLog ue word syndrome).putRooks v := by
  unfold State.eccLog
  refine ite_putRooks v (by rw [State.bit_putRooks, State.bit_putRooks]) rfl ?_
  rw [wrB_putRooks, wrB_putRooks, wr_putRooks, wr_putRooks, wr_putRooks]

@[simp] theorem eccUe_putRooks (word syndrome : Nat) :
    (s.putRooks v).eccUe word syndrome = (s.eccUe word syndrome).putRooks v := by
  have himage :
      (if word / 0x20000 == (s.putRooks v).image.filling then (s.putRooks v).imageReason 4 else s.putRooks v) =
      (if word / 0x20000 == s.image.filling then s.imageReason 4 else s).putRooks v :=
    ite_putRooks v (by rw [State.putRooks_image]) (imageReason_putRooks ..) rfl
  unfold State.eccUe State.logEvent
  extract_lets s1 s1'
  have hs1 : s1 = s1'.putRooks v := himage
  clear_value s1
  rw [hs1, inc_putRooks, eccLog_putRooks, setIstat_putRooks, ltNs_putRooks, logRec_putRooks]

/-! ## The read -/

theorem sramRead_putRooks (mgp : Bool) (off : Nat) : (s.putRooks v).sramRead mgp off =
    ((s.sramRead mgp off).1, (s.sramRead mgp off).2.1, (s.sramRead mgp off).2.2.putRooks v) := by
  have hon : (s.putRooks v).bankState (off / 0x80000) = s.bankState (off / 0x80000) := rfl
  unfold State.sramRead
  simp only [hon, State.bit_putRooks, eccUe_putRooks, inc_putRooks, State.putRooks_sram, State.putRooks_mem]
  split
  · rfl
  split
  · rfl
  split
  · rfl
  split <;> rfl

theorem piRead_putRooks (n off : Nat) :
    (s.putRooks v).piRead n off = ((s.piRead n off).1, (s.piRead n off).2.putRooks v) := by
  have hmode : (s.putRooks v).mode = s.mode := rfl
  have hconn : (s.putRooks v).connRole n off = s.connRole n off := rfl
  have haddr : (s.putRooks v).roleAddr off = s.roleAddr off := rfl
  unfold State.piRead
  simp only [hmode, hconn, haddr, sramRead_putRooks]
  split
  · rfl
  split <;> rfl

end Engines

end Sys2Proof.Machine
end

section
/-! PROOF of RookIo (R168, R180, R198, R200, R208, R209): an access of the local window and one of the process image
port, each first brought to the operation that it is in an issue cycle. -/

namespace Sys2Proof.Machine

section Access

variable {s : State} {n rd rs1 rs2 a : Nat} {imm : BitVec 15}

/-! ## Where the address lies (R168) -/

theorem ioPort_local {a : Nat} (hlo : ioPiBase ≤ a) : ioLocal a = false :=
  decide_eq_false (Nat.not_lt.2 (Nat.le_trans (by decide) hlo))

theorem rookIn_local (h : RookIssues s n) (ha : ((rookNow s n).getW rs1 + imm15s imm).toNat = a) (hal : a % 8 = 0)
    (hlt : a < 0x10000) : s.rookIn n rd rs1 imm = (s.setRook n (rookNow s n)).rookLioIn n rd a := by
  refine (rookIssue_eq h _).trans ?_
  have hlocal : ioLocal a = true := decide_eq_true hlt
  simp only [ha, hal, hlocal, bne_self_eq_false, Bool.false_eq_true, if_false, if_true]

theorem rookIn_port (h : RookIssues s n) (ha : ((rookNow s n).getW rs1 + imm15s imm).toNat = a)
    (hport : a % 8 = 0 ∧ 0x80000000 ≤ a ∧ a < 0x80400000) (hok : s.piInOk n (a - 0x80000000) = true) :
    s.rookIn n rd rs1 imm = (s.setRook n (rookNow s n)).rookPiIn n rd (a - 0x80000000) := by
  obtain ⟨hal, hlo, hhi⟩ := hport
  refine (rookIssue_eq h _).trans ?_
  have hat : ioPiAt a = true := Bool.and_eq_true_iff.2 ⟨decide_eq_true hlo, decide_eq_true hhi⟩
  have hin : (s.setRook n (rookNow s n)).piInOk n (ioPiOff a) = true := hok
  simp only [ha, hal, ioPort_local hlo, hat, hin, bne_self_eq_false, Bool.not_true, Bool.false_eq_true, if_false]
  rfl

theorem rookOut_local (h : RookIssues s n) (ha : ((rookNow s n).getW rs1 + imm15s imm).toNat = a) (hal : a % 8 = 0)
    (hlt : a < 0x10000) : s.rookOut n rs2 rs1 imm =
      ((s.setRook n (rookNow s n)).lioOut n a ((rookNow s n).getW rs2)).rookUpd n RookSt.next := by
  refine (rookIssue_eq h _).trans ?_
  have hlocal : ioLocal a = true := decide_eq_true hlt
  simp only [ha, hal, hlocal, bne_self_eq_false, Bool.false_eq_true, if_false, if_true]

theorem rookOut_port (h : RookIssues s n) (ha : ((rookNow s n).getW rs1 + imm15s imm).toNat = a)
    (hport : a % 8 = 0 ∧ 0x80000000 ≤ a ∧ a < 0x80400000)
    (hok : s.piOutOk n (a - 0x80000000) (rookNow s n).spec.isSome = true) : s.rookOut n rs2 rs1 imm =
      if (rookNow s n).spec.isSome then
        ((s.setRook n (rookNow s n)).rookBuffer n ⟨a - 0x80000000, 0, (rookNow s n).getW rs2⟩).rookUpd n RookSt.next
      else (s.setRook n (rookNow s n)).rookPiOut n (a - 0x80000000) ((rookNow s n).getW rs2) := by
  obtain ⟨hal, hlo, hhi⟩ := hport
  refine (rookIssue_eq h _).trans ?_
  have hat : ioPiAt a = true := Bool.and_eq_true_iff.2 ⟨decide_eq_true hlo, decide_eq_true hhi⟩
  have hout : (s.setRook n (rookNow s n)).piOutOk n (ioPiOff a) (rookNow s n).spec.isSome = true := hok
  simp only [ha, hal, ioPort_local hlo, hat, hout, bne_self_eq_false, Bool.not_true, Bool.false_eq_true, if_false]
  rfl

/-! ## The local window (R198, R200) -/

/-- A register of the window that holds `f` of the engine. -/
theorem gives_rookIn_local (h : RookIssues s n) (ha : ((rookNow s n).getW rs1 + imm15s imm).toNat = a) (hal : a % 8 = 0)
    (hlt : a < 0x10000) {f : RookSt → Word} (hf : ∀ t : State, t.lioIn n a = (f (t.rook n), t)) :
    Gives (.next (s.rookIn n rd rs1 imm)) (RookComputes s n rd 4 (f (rookNow s n)) 0) := by
  rw [rookIn_local h ha hal hlt]
  simp only [State.rookLioIn, hf, State.rook_setRook_same]
  exact gives_next ((rookBecomes_setRook s n _).setRook _)

theorem gives_rookOut_rxThr (h : RookIssues s n) (ha : ((rookNow s n).getW rs1 + imm15s imm).toNat = 0x48) :
    Gives (.next (s.rookOut n rs2 rs1 imm)) (RookBecomes s n
      ({ rookNow s n with rxThr := bitsOf ((rookNow s n).getW rs2) 13 0 } : RookSt).next) := by
  have hout : ∀ (t : State) (v : Word), t.lioOut n 0x48 v = t.rookUpd n fun r => { r with rxThr := bitsOf v 13 0 } :=
    fun _ _ => rfl
  rw [rookOut_local h ha (by decide) (by decide), hout]
  exact gives_next (((rookBecomes_setRook s n _).rookUpd _).rookUpd _)

/-! ## The process image port (R180, R208, R209) -/

/-- With no drain handed over before it, an access of the port waits for none. -/
theorem portOrder_of_none (h : (s.rook n).drains = []) : s.portOrder n = s := by
  rw [State.portOrder, h, State.drainsLand]

theorem piRead_setRook {off : Nat} {w : Word} (h : s.piRead n off = (w, s)) (r : RookSt) :
    (s.setRook n r).piRead n off = (w, s.setRook n r) := by
  rw [State.setRook, piRead_putRooks, h]

theorem gives_rookIn_port (h : RookIssues s n) (ha : ((rookNow s n).getW rs1 + imm15s imm).toNat = a)
    (hport : a % 8 = 0 ∧ 0x80000000 ≤ a ∧ a < 0x80400000) (hfree : (rookNow s n).ioIssue = none)
    (hdrains : (rookNow s n).drains = []) (hok : s.piInOk n (a - 0x80000000) = true) {w : Word}
    (hread : s.piRead n (a - 0x80000000) = (w, s)) :
    Gives (.next (s.rookIn n rd rs1 imm)) (RookBecomes s n
      (({ rookNow s n with ioIssue := some (rookNow s n).cyc, ioSlot := (rookNow s n).cyc } : RookSt).produce rd w
        12).next) := by
  have hr : (s.setRook n (rookNow s n)).rook n = rookNow s n := State.rook_setRook_same ..
  have htake : (rookNow s n).ioTake =
      (false, { rookNow s n with ioIssue := some (rookNow s n).cyc, ioSlot := (rookNow s n).cyc }) := by
    rw [RookSt.ioTake, hfree]
    rfl
  rw [rookIn_port h ha hport hok, State.rookPiIn, portOrder_of_none (hr.symm ▸ hdrains), piRead_setRook hread]
  simp only [hr, htake, Nat.add_sub_cancel_left, Bool.false_eq_true, if_false]
  exact gives_next ((rookBecomes_setRook s n _).setRook _)

theorem gives_rookOut_buffered (h : RookIssues s n) (ha : ((rookNow s n).getW rs1 + imm15s imm).toNat = a)
    (hport : a % 8 = 0 ∧ 0x80000000 ≤ a ∧ a < 0x80400000) (hspec : (rookNow s n).spec.isSome = true)
    (hroom : (rookNow s n).commit.length < 32) (hok : s.piOutOk n (a - 0x80000000) true = true) :
    Gives (.next (s.rookOut n rs2 rs1 imm)) (RookBecomes s n
      ({ rookNow s n with
        commit := (rookNow s n).commit ++ [⟨a - 0x80000000, 0, (rookNow s n).getW rs2⟩] } : RookSt).next) := by
  rw [rookOut_port h ha hport (by rw [hspec, hok]), hspec, if_pos rfl,
    rookBuffer_taken (State.rook_setRook_same ..) hroom]
  exact gives_next (((rookBecomes_setRook s n _).setRook _).rookUpd _)

/-- A whole word written in a bank that is ON, whether or not the word was uncorrectable. -/
theorem sram_sramWrite {off : Nat} (hal : off % 8 = 0) (hon : s.bankState (off / 0x80000) = 1) (hlt : off < 0x2600000)
    {b : List Byte} (hb : b.length = 8) : (s.sramWrite false off b).sram = memPutBytes s.sram off b := by
  have hne : b.isEmpty = false := List.isEmpty_eq_false_iff.2 (List.ne_nil_of_length_pos (by omega))
  have hvault : vaultOff off = false := decide_eq_false (Nat.not_le.2 hlt)
  have hword : (s.sramWriteWord false off b).sram = memPutBytes s.sram off b := by
    simp only [State.sramWriteWord, hvault, hon, hb, Bool.false_and, Bool.false_eq_true, if_false, ne_eq,
      not_true_eq_false, Nat.le_refl, decide_true, if_true]
    split <;> rfl
  simpa [State.sramWrite, hb, State.sramWriteN, hne, hal, List.take_of_length_le, List.drop_of_length_le] using hword

/-- The port's slot taken (R209): a late one is counted. -/
theorem slotTaken_shows (u : State) (n : Nat) (q : RookSt) (late : Bool) {t : State}
    (ht : t = if late then (u.setRook n q).inc (PEA_Rn_CNT_PI_LATE n) else u.setRook n q) :
    (∀ m, m ≠ n → t.rook m = u.rook m) ∧ Keeps (partMask [.regs, .rooks]) u t := by
  have hset : Keeps (partMask [.regs, .rooks]) u (u.setRook n q) := (State.setRook_keeps ..).mono rfl
  have hothers : ∀ m, m ≠ n → (u.setRook n q).rook m = u.rook m := fun m hm => State.rook_setRook_ne u q hm
  have hinc := State.inc_keeps (u.setRook n q) (PEA_Rn_CNT_PI_LATE n)
  cases late with
  | false => exact ht ▸ ⟨hothers, hset⟩
  | true => exact ht ▸ ⟨fun m hm => (rook_of_keeps hinc rfl m).trans (hothers m hm), hinc.comp rfl hset⟩

theorem rookPiOut_shows {off x : Nat} {v : Word} {t : State} (ht : s.rookPiOut n off v = t)
    (hdrains : (s.rook n).drains = []) (hx : s.fillBase + off = x) (hal : x % 8 = 0)
    (hon : s.bankState (x / 0x80000) = 1) (hlt : x < 0x2600000) :
    t.sram = memPutBytes s.sram x (bytesLE 8 v.toNat) ∧ (∀ m, m ≠ n → t.rook m = s.rook m) ∧
      Keeps (partMask [.regs, .sram, .mem, .rooks]) s t := by
  have hwrite := State.sramWrite_keeps s false x (bytesLE 8 v.toNat)
  rw [State.rookPiOut, portOrder_of_none hdrains, hx] at ht
  obtain ⟨hothers, hslot⟩ := slotTaken_shows _ _ _ _ ht.symm
  refine ⟨?_, fun m hm => (hothers m hm).trans (rook_of_keeps hwrite rfl m), hslot.comp rfl (hwrite.mono rfl)⟩
  exact (hslot.same .sram rfl).trans (sram_sramWrite hal hon hlt (length_bytesLE ..))

theorem gives_rookOut_port {n : Fin 24} (h : RookIssues s n)
    (ha : ((rookNow s n).getW rs1 + imm15s imm).toNat = a) (hport : a % 8 = 0 ∧ 0x80000000 ≤ a ∧ a < 0x80400000)
    (hspec : (rookNow s n).spec = none) (hdrains : (rookNow s n).drains = [])
    (hok : s.piOutOk n (a - 0x80000000) false = true) {x : Nat} (hx : s.fillBase + (a - 0x80000000) = x)
    (hon : s.bankState (x / 0x80000) = 1) (hbase : s.fillBase ≤ 0x100000) :
    Gives (.next (s.rookOut n rs2 rs1 imm)) fun t =>
      (∀ i < 8, (memByte t.sram (x + i)).toNat = ((rookNow s n).getW rs2).toNat / 256 ^ i % 256) ∧
      (∀ y, y < x ∨ x + 8 ≤ y → memByte t.sram y = memByte s.sram y) ∧
      (∀ m : Fin 24, m ≠ n → t.rook m = s.rook m) ∧ Changes [.regs, .sram, .mem, .rooks] s t := by
  have hoff : a - 0x80000000 < 0x100000 := by
    rw [State.piOutOk, Bool.and_eq_true, decide_eq_true_eq] at hok
    exact hok.1
  have hal : x % 8 = 0 := by
    rw [← hx, State.fillBase]
    omega
  rw [rookOut_port h ha hport (by rw [hspec]; exact hok), hspec, if_neg (by decide)]
  generalize ht : (s.setRook n (rookNow s n)).rookPiOut n (a - 0x80000000) ((rookNow s n).getW rs2) = t
  obtain ⟨hsram, hothers, hkeeps⟩ := rookPiOut_shows ht (State.rook_setRook_same s n _ ▸ hdrains) hx hal hon (by omega)
  refine gives_next ⟨fun i hi => ?_, fun y hy => ?_, fun m hm => ?_, ?_⟩
  · rw [hsram]
    exact memByte_memPutBytes_bytesLE _ _ _ hi
  · rw [hsram]
    exact memByte_memPutBytes_outside _ _ _ (by rwa [length_bytesLE])
  · have hm' := Fin.val_ne_of_ne hm
    exact (hothers m hm').trans (State.rook_setRook_ne s _ hm')
  · have hnow : Keeps (partMask [.regs, .sram, .mem, .rooks]) s (s.setRook n (rookNow s n)) :=
      (State.setRook_keeps ..).mono rfl
    exact (hkeeps.comp rfl hnow).changes rfl

end Access

/-- Settles O8: the local window, then the process image port. -/
theorem rookIo : Obligations.RookIo := by
  intro s n rd rs1 rs2 imm w h r a off v port free
  refine ⟨?_, fun hport hfree hdrains hok hread => gives_rookIn_port h rfl hport hfree hdrains hok hread,
    gives_rookOut_rxThr h, gives_rookOut_buffered h rfl, fun hport hspec hdrains hok hon hbase =>
      gives_rookOut_port h rfl hport hspec hdrains hok rfl hon hbase⟩
  simp only [List.forall_mem_cons]
  exact ⟨fun ha => gives_rookIn_local h ha (by decide) (by decide) fun _ => rfl,
    fun ha => gives_rookIn_local h ha (by decide) (by decide) fun _ => rfl,
    fun ha => gives_rookIn_local h ha (by decide) (by decide) (f := fun r => BitVec.ofNat 64 r.rxThr) fun _ => rfl,
    fun ha => gives_rookIn_local h ha (by decide) (by decide) (f := fun r => r.pcrc.range) fun _ => rfl, nofun⟩

end Sys2Proof.Machine
end

section
/-! SUPPORT. A Rook's buffers and events (R199, R201, R213): a buffer reads what was put there, and a sticky event sets
in an engine that runs. -/

namespace Sys2Proof.Machine

@[simp] theorem RookSt.tx_setTxb (r : RookSt) (b : Nat) (x : TxBuf) : (r.setTxb b x).tx b = x := by
  by_cases h : (b == 0) = true <;> simp [RookSt.tx, RookSt.setTxb, h]

@[simp] theorem RookSt.rx_setRx (r : RookSt) (b : Nat) (x : RxBuf) : (r.setRx b x).rx b = x := by
  by_cases h : (b == 0) = true <;> simp [RookSt.rx, RookSt.setRx, h]

section Event

variable {s : State} {n : Nat}

theorem rook_rookUpd (s : State) (n : Nat) (f : RookSt → RookSt) : (s.rookUpd n f).rook n = f (s.rook n) :=
  State.rook_setRook_same ..

theorem rook_rookEvent (h : s.rookRunning n = true) (k : Nat) :
    (s.rookEvent n k).rook n = { s.rook n with ev := (s.rook n).ev ||| 2 ^ k } := by
  rw [State.rookEvent, if_pos h, rook_rookUpd]

/-- The event sets, and the buffers are left alone. -/
theorem rookEvent_shows (h : s.rookRunning n = true) (k : Nat) :
    bitAt ((s.rookEvent n k).rook n).ev k = true ∧ (∀ b, ((s.rookEvent n k).rook n).tx b = (s.rook n).tx b) ∧
      ((s.rookEvent n k).rook n).drains = (s.rook n).drains := by
  rw [rook_rookEvent h]
  exact ⟨bitAt_or_self .., fun _ => rfl, rfl⟩

end Event

end Sys2Proof.Machine
end

section
/-! PROOF of EngineFrames, first part (R197, R199, R213): what a command of a transmit buffer comes to, and the end of its
frame. -/

namespace Sys2Proof.Machine

section Transmit

variable {s : State} {n : Fin 24} {b : Fin 2} {cmd : BitVec 64}

/-- The frame of a buffer has ended: DONE or DROPPED, with TX_DONE. -/
def State.txEnded (s : State) (n b state : Nat) : State :=
  (s.rookUpd n fun r => r.setTxb b { r.tx b with state := state }).rookEvent n 5

theorem txEnded_shows {n : Nat} (h : s.rookRunning n = true) (b state : Nat) :
    let t := s.txEnded n b state
    ((t.rook n).tx b).state = state ∧ bitAt (t.rook n).ev 5 = true ∧ Keeps (partMask [.rooks]) s t := by
  obtain ⟨hev, htx, -⟩ := rookEvent_shows (s := s.rookUpd n fun r => r.setTxb b { r.tx b with state := state }) h 5
  refine ⟨(congrArg TxBuf.state (htx b)).trans ?_, hev,
    (State.rookEvent_keeps ..).comp rfl ((State.rookUpd_keeps ..).mono rfl)⟩
  rw [rook_rookUpd, RookSt.tx_setTxb]

theorem txEnter_unbound {n : Nat} (h : 4 ≤ s.rd (PEA_Rn_CTL_BIND n)) (b : Nat) : s.txEnter n b = s.txEnded n b 4 :=
  if_pos h

theorem txFinish_sending {n b : Nat} (h : ((s.rook n).tx b).state = 2) (sent : Bool) :
    s.txFinish n b sent = s.txEnded n b (if sent then 3 else 4) :=
  if_pos (beq_iff_eq.2 h)

/-- The word that a TX_GO stores. -/
def goWord (cmd : BitVec 64) : Word := putBits cmd 63 63 1

theorem goWord_go (cmd : BitVec 64) : bitsOf (goWord cmd) 63 63 = 1 := bitsOf_putBits_same _ _ (by decide) (by decide)

theorem goWord_below (cmd : BitVec 64) {hi lo : Nat} (h : lo ≤ hi) (hh : hi < 63) :
    bitsOf (goWord cmd) hi lo = bitsOf cmd hi lo :=
  bitsOf_putBits_other _ _ (by decide) (by decide) h (.inl hh)

theorem exec_txGo (h : s.rookRunning n = true) : exec (.txGo n b cmd) s = .next (s.txCmd n b (goWord cmd)) :=
  congrArg Host.Outcome.next (if_pos h)

/-- The buffer as TX_GO takes it: it belongs to the hardware, and what its last frame left is cleared. -/
def State.txTaken (s : State) (n b : Nat) (v : Word) : State :=
  (s.rookUpd n fun r => r.setTxb b { (s.rook n).tx b with cmd := v &&& 0xE000FFFF00003FFF }).rookUpd n fun r =>
    r.setTxb b { r.tx b with wrIgn := false, tsV := false, tsPort := 15, state := 1 }

theorem txTaken_shows (s : State) (n b : Nat) (v : Word) :
    let t := s.txTaken n b v
    ((t.rook n).tx b).state = 1 ∧ ((t.rook n).tx b).wrIgn = false ∧ ((t.rook n).tx b).tsV = false ∧
      Keeps (partMask [.rooks]) s t := by
  have h : ((s.txTaken n b v).rook n).tx b =
      { ((s.rook n).tx b) with cmd := v &&& 0xE000FFFF00003FFF, wrIgn := false, tsV := false, tsPort := 15, state := 1 } := by
    rw [State.txTaken, rook_rookUpd, RookSt.tx_setTxb, rook_rookUpd, RookSt.tx_setTxb]
  dsimp only
  rw [h]
  exact ⟨rfl, rfl, rfl, (State.rookUpd_keeps ..).comp rfl ((State.rookUpd_keeps ..).mono rfl)⟩

/-- A frame of legal length in a free buffer: a cyclic one of a bound engine is held, any other enters its port. -/
theorem txCmd_free (hfree : ((s.rook n).tx b).busy = false) (hmin : 60 ≤ bitsOf cmd 13 0) (hmax : bitsOf cmd 13 0 ≤ 9212) :
    s.txCmd n b (goWord cmd) =
      if bitsOf cmd 62 62 == 1 && decide (s.rd (PEA_Rn_CTL_BIND n) < 4) then s.txTaken n b (goWord cmd)
      else (s.txTaken n b (goWord cmd)).txEnter n b := by
  unfold State.txCmd
  simp only [hfree, goWord_go, goWord_below cmd (Nat.zero_le 13) (by decide), goWord_below cmd (Nat.le_refl 62) (by decide),
    Nat.not_lt.2 hmin, Nat.not_lt.2 hmax, decide_false, Bool.or_self, Bool.and_false, Bool.false_eq_true, if_false,
    beq_self_eq_true, Bool.not_true]
  rfl

theorem gives_txGo_busy (hrun : s.rookRunning n = true) (h : ((s.rook n).tx b).busy = true) :
    Gives (exec (.txGo n b cmd) s) fun t =>
      ((t.rook n).tx b).wrIgn = true ∧ ((t.rook n).tx b).state = ((s.rook n).tx b).state ∧
        t.rd (PEA_Rn_CNT_TX_IGNORED n) = satUnsigned (PEA_Rn_CNT_TX_IGNORED n).width (s.rd (PEA_Rn_CNT_TX_IGNORED n) + 1) ∧
        RegsBut [(PEA_Rn_CNT_TX_IGNORED n).addr] s t ∧ Changes [.regs, .rooks] s t := by
  have hcmd : s.txCmd n b (goWord cmd) = s.txIgnored n b := if_pos h
  have htx : ((s.txIgnored n b).rook n).tx b = { (s.rook n).tx b with wrIgn := true } := by
    rw [State.txIgnored, rook_of_keeps (State.inc_keeps ..) rfl, rook_rookUpd, RookSt.tx_setTxb]
  rw [exec_txGo hrun, hcmd]
  refine gives_next ⟨congrArg TxBuf.wrIgn htx, (congrArg TxBuf.state htx :),
    countsOne_inc (s.rookUpd n _) (f := PEA_Rn_CNT_TX_IGNORED n) rfl, regsBut_wr (s.rookUpd n _) _ _, ?_⟩
  have hk : Keeps (partMask [.regs, .rooks]) s (s.txIgnored n b) :=
    (State.inc_keeps ..).comp rfl ((State.rookUpd_keeps ..).mono rfl)
  exact hk.changes rfl

theorem gives_txGo_held (hrun : s.rookRunning n = true) (hfree : ((s.rook n).tx b).busy = false)
    (hmin : 60 ≤ bitsOf cmd 13 0) (hmax : bitsOf cmd 13 0 ≤ 9212) (hcyc : bitsOf cmd 62 62 = 1)
    (hbind : s.rd (PEA_Rn_CTL_BIND n) < 4) : Gives (exec (.txGo n b cmd) s) fun t =>
      ((t.rook n).tx b).state = 1 ∧ ((t.rook n).tx b).wrIgn = false ∧ ((t.rook n).tx b).tsV = false ∧
        Changes [.rooks] s t := by
  obtain ⟨hstate, hign, hts, hk⟩ := txTaken_shows s n b (goWord cmd)
  rw [exec_txGo hrun, txCmd_free hfree hmin hmax, if_pos (by simp [hcyc, hbind])]
  exact gives_next ⟨hstate, hign, hts, hk.changes rfl⟩

theorem gives_txGo_unbound (hrun : s.rookRunning n = true) (hfree : ((s.rook n).tx b).busy = false)
    (hmin : 60 ≤ bitsOf cmd 13 0) (hmax : bitsOf cmd 13 0 ≤ 9212) (hbind : 4 ≤ s.rd (PEA_Rn_CTL_BIND n)) :
    Gives (exec (.txGo n b cmd) s) fun t =>
      ((t.rook n).tx b).state = 4 ∧ bitAt (t.rook n).ev 5 = true ∧ Changes [.rooks] s t := by
  obtain ⟨-, -, -, htaken⟩ := txTaken_shows s n b (goWord cmd)
  obtain ⟨hstate, hev, hk⟩ := txEnded_shows (s := s.txTaken n b (goWord cmd)) hrun b 4
  rw [exec_txGo hrun, txCmd_free hfree hmin hmax, if_neg (by simp [Nat.not_lt.2 hbind]), txEnter_unbound (s := s.txTaken n b _) hbind]
  exact gives_next ⟨hstate, hev, (hk.comp rfl htaken).changes rfl⟩

/-- The report of a frame that has gone is taken from the switch. -/
def State.reportTaken (s : State) (e : Nat × Bool) : State := s.setSwc { s.swc with txDone := s.swc.txDone.erase e }

theorem exec_txBufferDone {e : Nat × Bool}
    (he : s.swc.txDone.find? (fun e => e.1 == 2 * n.val + b.val) = some e) :
    exec (.txBufferDone n b) s = .next ((s.reportTaken e).txFinish n b e.2) := by
  change execTxBufferDone n b s = _
  unfold execTxBufferDone
  rw [he]
  rfl

theorem gives_txBufferDone (hrun : s.rookRunning n = true) {e : Nat × Bool}
    (he : s.swc.txDone.find? (fun e => e.1 == 2 * n.val + b.val) = some e) (hst : ((s.rook n).tx b).state = 2) :
    Gives (exec (.txBufferDone n b) s) fun t =>
      ((t.rook n).tx b).state = (if e.2 then 3 else 4) ∧ bitAt (t.rook n).ev 5 = true ∧
        t.swc.txDone = s.swc.txDone.erase e ∧ Changes [.swc, .rooks] s t := by
  have htaken : Keeps (partMask [.swc, .rooks]) s (s.reportTaken e) := (State.setSwc_keeps ..).mono rfl
  obtain ⟨hstate, hev, hk⟩ := txEnded_shows (s := s.reportTaken e) hrun b (if e.2 then 3 else 4)
  rw [exec_txBufferDone he, txFinish_sending (s := s.reportTaken e) hst]
  exact gives_next ⟨hstate, hev, congrArg SwcSt.txDone (hk.same .swc rfl), (hk.comp rfl htaken).changes rfl⟩

end Transmit

/-- R213, R197, R199: the commands of a transmit buffer, case by case. -/
theorem engineTransmit : Rules.engineTransmit := by
  intro s n b cmd hrun tx len
  exact ⟨gives_txGo_busy hrun, gives_txGo_held hrun, gives_txGo_unbound hrun, fun _ => gives_txBufferDone hrun⟩

end Sys2Proof.Machine
end

section
/-! PROOF of EngineFrames, second part (R197, R201, R202, R204, R205, R211): dispatch, verdicts and drains. -/

namespace Sys2Proof.Machine

section Dispatch

variable {s : State} {n b id : Nat} {f : EthFrame}

/-! ## Dispatch (R197, R201) -/

/-- Other credits on the shaped classes. -/
def State.credited (s : State) (c : List (Nat × Int)) (a : List (Nat × Nat)) : State :=
  s.setSwc { s.swc with credit := c, creditAt := a }

theorem gclCloses_credited (s : State) (c a) (p q i m : Nat) :
    (s.credited c a).gclCloses p q i m = s.gclCloses p q i m := by
  induction m generalizing i with
  | zero => rfl
  | succ m ih =>
    rw [State.gclCloses, ih, State.gclCloses]
    rfl

theorem guardOk_credited (s : State) (c a) (p q len : Nat) : (s.credited c a).guardOk p q len = s.guardOk p q len := by
  unfold State.guardOk State.gateLeft
  simp only [gclCloses_credited]
  rfl

theorem creditOk_unshaped (s : State) (p : Nat) {q : Nat} (h4 : q ≠ 4) (h5 : q ≠ 5) : s.creditOk p q = true := by
  simp [State.creditOk, h4, h5]

/-- Credits bear on the shaped classes alone. -/
theorem classReady_creditPort (s : State) (p : Nat) : (s.creditPort p).classReady p 7 = s.classReady p 7 := by
  obtain ⟨c, a, h⟩ := creditPort_eq s p
  have hc : s.creditPort p = s.credited c a := h
  rw [hc]
  unfold State.classReady
  simp only [guardOk_credited, creditOk_unshaped _ p (by decide : 7 ≠ 4) (by decide : 7 ≠ 5)]
  rfl

/-- The state in which engine port `k` has taken frame `id` from class queue `c` for buffer `b` of engine `n`. -/
def State.epTaken (s : State) (k c id n b : Nat) (f : EthFrame) : State :=
  (((s.creditPort (10 + k)).unqueue (10 + k) c id).setTx (10 + k) (some (s.txOpen (10 + k) id f false))).epBegin k n b f
    false

theorem epDispatch_takes {k c : Nat} (hready : s.classReady (10 + k) c = true)
    (hhead : (s.queue (10 + k) c).head? = some id) (hf : s.frame id = some f) (hn : s.epEngine k f = some n)
    (hb : (s.rook n).freeBuf = some b) : s.epDispatch k (c + 1) = s.epTaken k c id n b f := by
  unfold State.epDispatch
  simp only [hready, hhead, hf, hn, hb]
  rfl

/-- The buffer holds the frame and its FCS, of which no byte is readable yet and no verdict known. -/
theorem rx_epBegin (s : State) (k n b : Nat) {f : EthFrame} (h : f.rtag = none) :
    let x := ((s.epBegin k n b f false).rook n).rx b
    x.held = true ∧ x.data = f.bytes ++ fcsBytes f.bytes false ∧ x.bytes = 0 ∧ x.verdict = 0 := by
  have hcopy : f.copyBytes (10 + k) = f.bytes := by
    unfold EthFrame.copyBytes
    rw [h]
  have hmoved : ∀ (r : RookSt) (i j : Nat), ({ r with fill := i, cur := j } : RookSt).rx b = r.rx b := fun _ _ _ => rfl
  unfold State.epBegin State.rxBegin
  rw [hcopy, rook_rookUpd]
  dsimp only
  rw [hmoved, RookSt.rx_setRx]
  exact ⟨rfl, rfl, rfl, rfl⟩

theorem rx_epTaken (s : State) (k c id n b : Nat) {f : EthFrame} (h : f.rtag = none) :
    let x := ((s.epTaken k c id n b f).rook n).rx b
    x.held = true ∧ x.data = f.bytes ++ fcsBytes f.bytes false ∧ x.bytes = 0 ∧ x.verdict = 0 := rx_epBegin _ k n b h

theorem txCur_epBegin (s : State) (k n b : Nat) (f : EthFrame) (bad : Bool) (p : Nat) :
    (s.epBegin k n b f bad).txCur p = s.txCur p := rfl

theorem txCur_epTaken (s : State) (k c id n b : Nat) (f : EthFrame) :
    (s.epTaken k c id n b f).txCur (10 + k) = some (s.txOpen (10 + k) id f false) := by
  rw [State.epTaken, txCur_epBegin, txCur_setTx]

theorem epTaken_keeps (s : State) (k c id n b : Nat) (f : EthFrame) :
    Keeps (partMask [.swc, .rooks]) s (s.epTaken k c id n b f) :=
  (State.epBegin_keeps ..).comp rfl ((State.setTx_keeps ..).comp rfl ((State.unqueue_keeps ..).comp rfl
    ((State.creditPort_keeps ..).mono rfl)))

theorem gives_epDispatch {k : Fin 4} (hd : s.domOn 6 = true) (hidle : s.txCur (10 + k) = none)
    (hready : s.classReady (10 + k) 7 = true) (hhead : (s.queue (10 + k) 7).head? = some id)
    (hf : s.frame id = some f) (hn : s.epEngine k f = some n) (hb : (s.rook n).freeBuf = some b)
    (htag : f.rtag = none) : Gives (exec (.epDispatch k) s) fun t =>
      ((t.rook n).rx b).held = true ∧ ((t.rook n).rx b).data = f.bytes ++ fcsBytes f.bytes false ∧
        ((t.rook n).rx b).bytes = 0 ∧ ((t.rook n).rx b).verdict = 0 ∧
        (∃ x, t.txCur (10 + k) = some x ∧ x.frame = id ∧ x.cls = f.cls ∧ x.stomp = false) ∧
        Changes [.swc, .rooks] s t := by
  have hcredit := State.creditPort_keeps s (10 + k)
  have hstart : s.epStart k = (s.creditPort (10 + k)).epTaken k 7 id n b f := by
    have hrook : (s.creditPort (10 + k)).rook n = s.rook n := rook_of_keeps hcredit rfl n
    have hqueue : (s.creditPort (10 + k)).queue (10 + k) 7 = s.queue (10 + k) 7 := (linesKept_creditPort ..).queue_eq ..
    have hengine : (s.creditPort (10 + k)).epEngine k f = s.epEngine k f := by
      obtain ⟨c, a, h⟩ := creditPort_eq s (10 + k)
      rw [h]
      rfl
    unfold State.epStart
    rw [hidle]
    exact epDispatch_takes (by rw [classReady_creditPort, hready]) (by rw [hqueue, hhead])
      (by rw [frame_creditPort, hf]) (by rw [hengine, hn]) (by rw [hrook, hb])
  have hexec : exec (.epDispatch k) s = .next ((s.creditPort (10 + k)).epTaken k 7 id n b f) :=
    congrArg Host.Outcome.next ((if_pos hd).trans hstart)
  obtain ⟨hheld, hdata, hbytes, hverdict⟩ := rx_epTaken (s.creditPort (10 + k)) k 7 id n b htag
  have hk : Keeps (partMask [.swc, .rooks]) s ((s.creditPort (10 + k)).epTaken k 7 id n b f) :=
    (epTaken_keeps ..).comp rfl (hcredit.mono rfl)
  exact ⟨_, hexec, hheld, hdata, hbytes, hverdict, ⟨_, txCur_epTaken .., rfl, rfl, rfl⟩, hk.changes rfl⟩

end Dispatch

section Verdict

variable {s : State} {n : Fin 24} {v : VerdictAt}

/-! ## The end of a region (R181, R204) -/

theorem PEA_CNT_ne_STAT (n : Nat) : PEA_Rn_STAT n ≠ PEA_Rn_CNT n := by
  simp only [PEA_Rn_STAT, PEA_Rn_CNT]
  omega

theorem not_queueing_STAT (n : Nat) : ¬Queueing (PEA_Rn_STAT n) := not_queueing_of_le (by simp only [PEA_Rn_STAT]; omega)

theorem not_queueing_CNT (n : Nat) : ¬Queueing (PEA_Rn_CNT n) := not_queueing_of_le (by simp only [PEA_Rn_CNT]; omega)

theorem speca_setSpeca (s : State) (n : Nat) (v : Bool) : (s.setSpeca n v).bit (PEA_Rn_STAT_SPECA n) = v :=
  State.bit_wrB_same _ _ rfl

theorem speca_inc_CNT (s : State) (n : Nat) {f : Fld} (hf : f.addr = PEA_Rn_CNT n) :
    (s.inc f).bit (PEA_Rn_STAT_SPECA n) = s.bit (PEA_Rn_STAT_SPECA n) :=
  State.bit_congr (State.reg_wr_ne s _ (hf ▸ PEA_CNT_ne_STAT n))

theorem speca_rookSquash {n : Nat} {p : SpecRec} (h : (s.rook n).spec = some p) :
    (s.rookSquash n).bit (PEA_Rn_STAT_SPECA n) = false := by
  unfold State.rookSquash
  simp only [h]
  exact ((writes_pqRegionSquash ..).bit_eq (f := PEA_Rn_STAT_SPECA n) (not_queueing_STAT n)).trans (speca_setSpeca ..)

/-- A squash at frame end closes the region (R181): its stores are discarded, and the engine is at the vector. -/
theorem rookSquashVector_shows {n : Nat} {p : SpecRec} (h : (s.rook n).spec = some p) :
    let t := s.rookSquashVector n
    (t.rook n).spec = none ∧ (t.rook n).commit = [] ∧ t.bit (PEA_Rn_STAT_SPECA n) = false ∧
      (t.rook n).pc = bitsOf (t.rook n).tvb 15 0 + 32 * 0x10 := by
  have hsq : (s.rookSquashCnt n).rook n = (s.rook n).squashed := rook_rookSquashCnt rfl
  have hspeca : (s.rookSquashCnt n).bit (PEA_Rn_STAT_SPECA n) = false := by
    rw [State.rookSquashCnt, if_pos (by rw [h]; rfl), speca_inc_CNT _ _ rfl, speca_rookSquash h]
  unfold State.rookSquashVector
  simp only [State.rook_setRook_same, hsq]
  exact ⟨RookSt.spec_squashed _, by rw [RookSt.commit_squashed, h]; rfl, hspeca, trivial⟩

/-- Deferred packets that are published write their queue's registers and shared SRAM (R440, R441). -/
def Publishing (a : Nat) : Prop := Queueing a ∨ a = MEM_ECC_CNT

theorem writes_pqPutItem (s : State) (k i : Nat) (l : List Byte) : Writes Publishing s (s.pqPutItem k i l) :=
  (writes_sramWrite ..).mono fun _ => .inr

theorem writes_pqPutData (m : Nat) (s : State) (k i : Nat) (l : List Byte) : Writes Publishing s (s.pqPutData k i l m) := by
  induction m generalizing s i l with
  | zero => exact .refl
  | succ m ih => exact .ite .refl ((writes_pqPutItem ..).trans (ih ..))

theorem writes_pqCountDrop (s : State) {k : Nat} (hk : k < 64) (seq : Nat) : Writes Publishing s (s.pqCountDrop k seq) := by
  unfold State.pqCountDrop
  extract_lets q s1
  have h1 : Writes Publishing s s1 := .ite (.of_keeps (State.setPq_keeps ..) rfl) .refl
  exact (h1.inc (f := PQk_CNT_DROPS k) (.inl (queueing_PQk_CNT hk))).inc (f := PQk_STAT_GAP_COUNT k)
    (.inl (queueing_PQk_STAT hk))

theorem writes_pqPublish (s : State) {k : Nat} (hk : k < 64) (p : Packet) : Writes Publishing s (s.pqPublish k p) := by
  have hbody : ∀ (u : State) (put : Nat) (b : List Byte) (len : Nat) (q : PqSt), Writes Publishing s u →
      Writes Publishing s ((((u.pqPutItem k put b).pqPutData k (put + 1) p.bytes (pqItems len)).wr (PQk_IDX_PUT k)
        (put + 1 + pqItems len)).setPq k q) := fun u put b len q hu =>
    (((hu.trans (writes_pqPutItem ..)).trans (writes_pqPutData ..)).wr (f := PQk_IDX_PUT k)
      (.inl (queueing_PQk_IDX hk)) _).keeps (State.setPq_keeps ..) rfl
  unfold State.pqPublish
  refine .ite .refl (.ite (writes_pqCountDrop s hk _) ?_)
  dsimp only
  split
  · exact hbody _ _ _ _ _ .refl
  · exact hbody _ _ _ _ _ ((writes_pqPutItem ..).wr (f := PQk_STAT_GAP_COUNT k) (.inl (queueing_PQk_STAT hk)) 0)

theorem writes_pqRegionCommit (s : State) (e : Nat) : Writes Publishing s (s.pqRegionCommit e) := by
  unfold State.pqRegionCommit
  refine .foldl fun t k hk => ?_
  extract_lets ps
  have h : Writes Publishing t (t.setPq k { t.pq k with deferred := [] }) := .of_keeps (State.setPq_keeps ..) rfl
  exact .ite (h.trans (.foldl fun u p _ => writes_pqPublish u (List.mem_range.1 hk) p)) .refl

theorem not_publishing {a : Nat} (h : 0x00600000 ≤ a) : ¬Publishing a := by
  rintro (hq | rfl)
  · exact not_queueing_of_le h hq
  · exact absurd h (by decide)

theorem not_publishing_STAT (n : Nat) : ¬Publishing (PEA_Rn_STAT n) := not_publishing (by simp only [PEA_Rn_STAT]; omega)

theorem not_publishing_CNT (n : Nat) : ¬Publishing (PEA_Rn_CNT n) := not_publishing (by simp only [PEA_Rn_CNT]; omega)

/-- A commit closes the region (R204). -/
theorem rookCommit_shows (s : State) (n : Nat) :
    let t := s.rookCommit n
    (t.rook n).spec = none ∧ (t.rook n).commit = [] ∧ t.bit (PEA_Rn_STAT_SPECA n) = false := by
  unfold State.rookCommit
  extract_lets r stores drain s1 r1 s2 r2 s3
  have hr2 : r2.spec = none ∧ r2.commit = [] := by
    simp only [r2]
    split <;> exact ⟨rfl, rfl⟩
  have hrook : ((s3.inc (PEA_Rn_CNT_COMMITS n)).pqRegionCommit n).rook n = r2.setEsr 9 false := by
    rw [rook_of_keeps (State.pqRegionCommit_keeps ..) rfl, rook_of_keeps (State.inc_keeps ..) rfl, rook_setSpeca,
      State.rook_setRook_same]
  rw [hrook, (writes_pqRegionCommit ..).bit_eq (f := PEA_Rn_STAT_SPECA n) (not_publishing_STAT n), speca_inc_CNT _ _ rfl]
  exact ⟨hr2.1, hr2.2, speca_setSpeca ..⟩

/-- A region that has buffered nothing counts in COMMITS alone. -/
theorem rookCommit_counts {n : Nat} (h : (s.rook n).commit = []) : CountsOne (PEA_Rn_CNT_COMMITS n) s (s.rookCommit n) := by
  have hspeca : ∀ u : State, (u.setSpeca n false).rd (PEA_Rn_CNT_COMMITS n) = u.rd (PEA_Rn_CNT_COMMITS n) := fun u =>
    State.rd_congr (State.reg_wr_ne (u.rookUpd n fun r => r.setEsr 9 false) _ (PEA_CNT_ne_STAT n).symm)
  have hcount := fun u : State => countsOne_inc (u.setSpeca n false) (f := PEA_Rn_CNT_COMMITS n) rfl
  unfold State.rookCommit
  simp only [h, List.filter_nil, List.map_nil, List.foldl_nil, List.isEmpty_nil, Bool.not_true, Bool.false_and,
    Bool.false_eq_true, if_false, if_true]
  rw [CountsOne, (writes_pqRegionCommit ..).rd_eq (f := PEA_Rn_CNT_COMMITS n) (not_publishing_CNT n), hcount, hspeca]
  rfl

/-! ## The verdict (R202, R204) -/

/-- The engine once the verdict of the frame in buffer `v.b` is known. -/
def RookSt.judged (r : RookSt) (v : VerdictAt) : RookSt :=
  (r.setRx v.b { r.rx v.b with verdict := (r.rx v.b).judge, ended := true }).waited v.cycles

theorem RookSt.judged_shows (r : RookSt) (v : VerdictAt) :
    (r.judged v).spec = r.spec ∧ (r.judged v).commit = r.commit ∧ (r.judged v).esr = r.esr ∧
      (r.judged v).rx v.b = { r.rx v.b with verdict := (r.rx v.b).judge, ended := true } := by
  have hrx : ∀ x : RxBuf, (r.setRx v.b x).spec = r.spec ∧ (r.setRx v.b x).commit = r.commit ∧
      (r.setRx v.b x).esr = r.esr := fun x => by
    unfold RookSt.setRx
    split <;> exact ⟨rfl, rfl, rfl⟩
  obtain ⟨hspec, hcommit, hesr⟩ := hrx { r.rx v.b with verdict := (r.rx v.b).judge, ended := true }
  have hbuf := RookSt.rx_setRx r v.b { r.rx v.b with verdict := (r.rx v.b).judge, ended := true }
  unfold RookSt.judged RookSt.waited
  split <;> exact ⟨hspec, hcommit, hesr, hbuf⟩

/-- A verdict is due: the frame in the buffer has one, not known yet, and no engine port fills the buffer. -/
structure VerdictDue (s : State) (n : Fin 24) (v : VerdictAt) : Prop where
  on : s.domOn (engDom n) = true
  full : (s.swc.epRx.any fun e => e.2 == some (2 * n.val + v.b.val)) = false
  data : ((s.rook n).rx v.b).data ≠ []
  unknown : ((s.rook n).rx v.b).verdict = 0

theorem VerdictDue.not_skipped (h : VerdictDue s n v) :
    ((s.swc.epRx.any fun e => e.2 == some (2 * n.val + v.b.val)) ||
      ((s.rook n).rx v.b).data.isEmpty && !((s.rook n).rx v.b).aborted || ((s.rook n).rx v.b).verdict != 0 ||
        !s.domOn (engDom n)) = false := by
  simp [h.full, h.data, h.unknown, h.on]

theorem exec_frameVerdict_outside (h : VerdictDue s n v) (hspec : (s.rook n).spec = none) :
    exec (.frameVerdict n v) s = .next (s.setRook n ((s.rook n).judged v)) := by
  have hq : ((s.setRook n ((s.rook n).judged v)).rook n).spec = none := by
    rw [State.rook_setRook_same, (RookSt.judged_shows ..).1, hspec]
  change execFrameVerdict n v s = _
  unfold execFrameVerdict
  extract_lets b x filling j s1
  rw [if_neg (Bool.eq_false_iff.1 h.not_skipped), show (s1.rook n).spec = none from hq]
  rfl

theorem exec_frameVerdict_region (h : VerdictDue s n v) {p : SpecRec} (hspec : (s.rook n).spec = some p)
    (hbuf : p.buf = v.b.val) (hrun : s.rookRunning n = true) (hissue : v.atIssue = false) :
    exec (.frameVerdict n v) s =
      .next ((s.setRook n ((s.rook n).judged v)).rookVerdict n ((s.rook n).rx v.b).judge) := by
  have hq : ((s.setRook n ((s.rook n).judged v)).rook n).spec = some p := by
    rw [State.rook_setRook_same, (RookSt.judged_shows ..).1, hspec]
  have hends : ∀ u : State, u.verdictEnds n ((s.rook n).rx v.b).judge v.atIssue =
      u.rookVerdict n ((s.rook n).rx v.b).judge := fun u => if_neg (by simp [hissue])
  change execFrameVerdict n v s = _
  unfold execFrameVerdict
  extract_lets b x filling j s1
  rw [if_neg (Bool.eq_false_iff.1 h.not_skipped), show (s1.rook n).spec = some p from hq]
  have hbound : (p.buf == b.val && s1.rookRunning n) = true := by
    rw [hbuf, show s1.rookRunning n = true from hrun]
    exact Bool.and_eq_true_iff.2 ⟨beq_self_eq_true _, rfl⟩
  exact congrArg Host.Outcome.next ((if_pos hbound).trans (hends s1))

theorem gives_frameVerdict_outside (h : VerdictDue s n v) (hspec : (s.rook n).spec = none) :
    Gives (exec (.frameVerdict n v) s) fun t =>
      ((t.rook n).rx v.b).verdict = ((s.rook n).rx v.b).judge ∧ ((t.rook n).rx v.b).data = ((s.rook n).rx v.b).data ∧
        Changes [.rooks] s t := by
  obtain ⟨-, -, -, hrx⟩ := (s.rook n).judged_shows v
  rw [exec_frameVerdict_outside h hspec]
  refine gives_next ⟨?_, ?_, (State.setRook_keeps ..).changes rfl⟩ <;> rw [State.rook_setRook_same, hrx]

/-- The verdict ends the region: GOOD without an overflow commits it, anything else squashes it. -/
theorem gives_frameVerdict_region (h : VerdictDue s n v) {p : SpecRec} (hspec : (s.rook n).spec = some p)
    (hbuf : p.buf = v.b.val) (hrun : s.rookRunning n = true) (hissue : v.atIssue = false) :
    Gives (exec (.frameVerdict n v) s) fun t =>
      (t.rook n).spec = none ∧ (t.rook n).commit = [] ∧ t.bit (PEA_Rn_STAT_SPECA n) = false ∧
        (((s.rook n).rx v.b).judge = 1 → (s.rook n).esrBit 10 = false → (s.rook n).commit = [] →
          CountsOne (PEA_Rn_CNT_COMMITS n) s t) ∧
        (((s.rook n).rx v.b).judge ≠ 1 → (t.rook n).pc = bitsOf (t.rook n).tvb 15 0 + 32 * 0x10) := by
  obtain ⟨hs, hc, he, -⟩ := (s.rook n).judged_shows v
  rw [exec_frameVerdict_region h hspec hbuf hrun hissue]
  generalize hu : s.setRook n ((s.rook n).judged v) = u
  have hrook : u.rook n = (s.rook n).judged v := by rw [← hu, State.rook_setRook_same]
  have hesr : (u.rook n).esrBit 10 = (s.rook n).esrBit 10 := by rw [hrook, RookSt.esrBit, he, RookSt.esrBit]
  unfold State.rookVerdict
  split
  next hgood =>
    obtain ⟨hspec', hcommit', hspeca⟩ := rookCommit_shows u n
    have hj : ((s.rook n).rx v.b).judge = 1 := beq_iff_eq.1 (Bool.and_eq_true_iff.1 hgood).1
    refine gives_next ⟨hspec', hcommit', hspeca, fun _ _ hempty => ?_, fun hne => absurd hj hne⟩
    have hcount := rookCommit_counts (s := u) (n := n) (by rw [hrook, hc, hempty])
    subst hu
    exact hcount
  next hbad =>
    obtain ⟨hspec', hcommit', hspeca, hpc⟩ := rookSquashVector_shows (s := u) (n := n) (p := p) (by rw [hrook, hs, hspec])
    exact gives_next ⟨hspec', hcommit', hspeca, fun hj hsovf => absurd (by simp [hj, hesr, hsovf]) hbad, fun _ => hpc⟩

/-! ## Drains (R205, R211) -/

/-- The registers that a drain can change as it lands: the ECC counters, the engine's counters, the axes' states. -/
def Draining (n a : Nat) : Prop := a = MEM_ECC_CNT ∨ a = PEA_Rn_CNT n ∨ uACE ≤ a

theorem writes_aceLand (s : State) (n c : Nat) : Writes (Draining n) s (s.aceLand c) := by
  have haddr : ∀ k, uACE ≤ ACE_AXk_STAT k := fun k => by
    simp only [uACE, ACE_AXk_STAT]
    omega
  have haxis : ∀ (t : State) (k : Nat), Writes (Draining n) t (t.axisLand c k) := fun t k => by
    unfold State.axisLand
    extract_lets x
    have h : ∀ y, Writes (Draining n) t (t.setAxis k y) := fun _ => .of_keeps (State.setAxis_keeps ..) rfl
    exact .ite ((h _).wr (f := ACE_AXk_STAT_EXTRAP_RUN k) (.inr (.inr (haddr k))) 0) .refl
  exact .ite .refl (.foldl fun t k _ => haxis t k)

theorem writes_setFresh (s : State) (n c : Nat) : Writes (Draining n) s (s.setFresh c) :=
  (((writes_sramWrite ..).mono fun _ => .inl).trans (writes_aceLand _ n c)).keeps (State.sfiCapture_keeps ..) rfl

theorem writes_drainLand (s : State) (n : Nat) (d : List (Nat × Word)) : Writes (Draining n) s (s.drainLand n d) := by
  unfold State.drainLand
  extract_lets conns part whole keep s1 s2
  have h1 : Writes (Draining n) s s1 := .foldl fun t w _ => (writes_sramWrite ..).mono fun _ => .inl
  have h2 : Writes (Draining n) s s2 := h1.trans (.foldl fun t e _ => writes_setFresh t n e.1)
  exact h2.incBy (f := PEA_Rn_CNT_PARTIAL_ITEM n) (.inr (.inl rfl)) _

theorem not_draining_STAT (n : Fin 24) : ¬Draining n (PEA_Rn_STAT n) := by
  simp only [Draining, MEM_ECC_CNT, PEA_Rn_STAT, PEA_Rn_CNT, uACE]
  omega

theorem not_draining_PD_STAT (n : Nat) : ¬Draining n CRP_PD_STAT := by
  simp only [Draining, MEM_ECC_CNT, CRP_PD_STAT, PEA_Rn_CNT, uACE]
  omega

theorem gives_drainLand {d : List (Nat × Word)} {l : List (List (Nat × Word))} (hd : s.domOn (engDom n) = true)
    (hdrains : (s.rook n).drains = d :: l) (hrun : s.rookRunning n = true) :
    Gives (exec (.drainLand n) s) fun t => (t.rook n).drains = l ∧ bitAt (t.rook n).ev 8 = true := by
  have hexec : exec (.drainLand n) s =
      .next (((s.rookUpd n fun q => { q with drains := l }).drainLand n d).rookEvent n 8) := by
    change execDrainLand n s = _
    unfold execDrainLand
    simp [hdrains, hd]
  generalize hu : (s.rookUpd n fun q => { q with drains := l }).drainLand n d = u at hexec
  have hrun' : u.rookRunning n = true := by
    rw [← hu, rookRunning_of_writes (writes_drainLand ..) (not_draining_STAT n) (not_draining_PD_STAT n)]
    exact hrun
  have hleft : (u.rook n).drains = l := by
    rw [← hu, rook_of_keeps (State.drainLand_keeps ..) rfl, rook_rookUpd]
  obtain ⟨hev, -, hkept⟩ := rookEvent_shows hrun' 8
  exact ⟨_, hexec, hkept.trans hleft, hev⟩

end Verdict

/-- R197, R201, R202, R204, R205: dispatch, then the verdict outside a region and at the end of one, then drains. -/
theorem engineReceive : Rules.engineReceive := by
  refine ⟨fun s k f id n b => gives_epDispatch, ?_, fun s n d l => gives_drainLand⟩
  intro s n v hd x judged hfull hdata hunknown
  have hdue : VerdictDue s n v := ⟨hd, hfull, hdata, hunknown⟩
  exact ⟨gives_frameVerdict_outside hdue, fun p => gives_frameVerdict_region hdue⟩

/-- Settles O10: what an engine sends, then what it receives. -/
theorem engineFrames : Obligations.EngineFrames := ⟨engineTransmit, engineReceive⟩

end Sys2Proof.Machine
end

section
/-! SUPPORT. The effect point of a command that ends with an error after it has changed something, or with a reply and
no change; runs of bytes in a memory that is filled; what a field of a header can hold. -/

namespace Sys2Proof.Machine

section Effect

variable {s u : State} {slot : Fin 25} {op : Nat} {r : DcpRun} {f : State → DcpRun → DcpAns × State} {i : Instr}

/-- The command ends with `status` and `reply`, and leaves what `u` holds. -/
theorem dcpEnds {status : Nat} {reply : List Byte} {P : State → Prop} (he : exec i s = .next (s.dcpDo slot op f))
    (hf : f s r = (.done status reply, u)) (hr : status = 0 ∨ reply ≠ []) (hu : u.dcp.runs = s.dcp.runs)
    (hP : P (u.dcpResult slot status reply)) : DcpDoes s slot r i op status reply P := fun h =>
  ⟨_, he.trans (congrArg _ (dcpDo_done h hf)), answered_dcpResult hu slot hr, hP⟩

/-- The same of what `Q` says of `u`, where `Q` says nothing of the outcomes of commands. -/
theorem dcpEnds_stable {status : Nat} {reply : List Byte} {Q : State → Prop} {l : List Part}
    (he : exec i s = .next (s.dcpDo slot op f)) (hf : f s r = (.done status reply, u)) (hr : status = 0 ∨ reply ≠ [])
    (hu : u.dcp.runs = s.dcp.runs) (hc : Changes l s u) (hl : Part.dcp ∈ l) (hQ : Q u)
    (hstable : ∀ v, Q v → Q (v.dcpResult slot status reply)) :
    DcpDoes s slot r i op status reply fun t => Q t ∧ Changes l s t :=
  dcpEnds he hf hr hu ⟨hstable u hQ, hc.dcpResult hl⟩

/-- The command ends with a reply and changes nothing else. -/
theorem dcpReplies {reply : List Byte} (he : exec i s = .next (s.dcpDo slot op f)) (hf : f s r = (.done 0 reply, s)) :
    DcpFails s slot r i op 0 reply := fun h =>
  ⟨_, he.trans (congrArg _ (dcpDo_done h hf)), onlyAnswered_dcpResult s slot (.inl rfl)⟩

theorem DcpDoes.mono {status : Nat} {reply : List Byte} {P Q : State → Prop}
    (h : DcpDoes s slot r i op status reply P) (hPQ : ∀ t, P t → Q t) : DcpDoes s slot r i op status reply Q :=
  fun hr =>
    let ⟨t, ht, ha, hp⟩ := h hr
    ⟨t, ht, ha, hPQ t hp⟩

end Effect

theorem leAt_lt (h : List Byte) (o n : Nat) : leAt h o n < 256 ^ n :=
  Nat.lt_of_lt_of_le (natOfLE_lt _) (Nat.pow_le_pow_right (by decide) (List.length_take_le ..))

theorem getD_drop_take (h : List Byte) (o : Nat) {n i : Nat} (hi : i < n) :
    ((h.drop o).take n).getD i 0 = h.getD (o + i) 0 := by
  rw [List.getD_eq_getElem?_getD, List.getD_eq_getElem?_getD, List.getElem?_take_of_lt hi, List.getElem?_drop]

/-! ## A memory that is cleared and filled -/

/-- A byte of the memory: the one stored there, or 0. -/
theorem memByte_fillMem (m : List Host.Cell) (base : Nat) {size : Nat} (b : List Byte) {i : Nat} (hi : i < size) :
    memByte (fillMem m base size b) (base + i) = b.getD i 0 := by
  by_cases hb : i < b.length
  · have hrun := memBytes_memPutBytes (m.filter fun c => !(decide (base ≤ c.1) && decide (c.1 < base + size))) base b
    rw [fillMem, ← memByte_memBytes _ base hb, hrun]
  · have hzero := mapGet_filter_gone (fun _ => (0 : Byte)) (fun a => !(decide (base ≤ a) && decide (a < base + size))) m
      (k := base + i) (by simp [hi])
    rw [fillMem, memByte_memPutBytes_outside _ _ _ (by omega), List.getD_eq_default _ _ (Nat.le_of_not_lt hb)]
    exact hzero

theorem memByte_fillMem_below (m : List Host.Cell) {base x : Nat} (size : Nat) (b : List Byte) (h : x < base) :
    memByte (fillMem m base size b) x = memByte m x := by
  rw [fillMem, memByte_memPutBytes_outside _ _ _ (.inl h)]
  exact mapGet_filter_key (fun _ => (0 : Byte)) (fun a => !(decide (base ≤ a) && decide (a < base + size))) m
    (by simp [Nat.not_le.2 h])

end Sys2Proof.Machine
end

section
/-! PROOF of CommandsOfMaintenance (R216, R217, R411, R416, R417, R462, R463, R466, R515 to R517, R545, R562): what each
command does at its effect point, then the clauses. -/

namespace Sys2Proof.Machine

@[simp] theorem State.rd_rookUpd (s : State) (n : Nat) (g : RookSt → RookSt) (f : Fld) :
    (s.rookUpd n g).rd f = s.rd f := rfl
@[simp] theorem State.bit_rookUpd (s : State) (n : Nat) (g : RookSt → RookSt) (f : Fld) :
    (s.rookUpd n g).bit f = s.bit f := rfl

section Maintenance

variable {s : State} {slot : Fin 25} {r : DcpRun}

/-! ## SPORE_LOAD (R216, R217) -/

section Spore

variable {n : Fin 24} {h : List Byte} {signed : Bool}

/-- The payload names a range of shared SRAM and engine `n` alone. -/
structure SporeFor (l : List Byte) (n : Nat) : Prop where
  inside : leAt l 0 4 + leAt l 4 4 ≤ 0x2800000
  engine : engineList (leAt l 8 3) = [n]

/-- The engine is OFF and powered, and the bytes of the spore are read without an error. -/
structure SporeReady (s : State) (l : List Byte) (n : Nat) (h : List Byte) : Prop extends SporeFor l n where
  off : s.engState n = 0
  on : s.domOn (engDom n) = true
  read : s.sramReadBytes true (leAt l 0 4) (leAt l 4 4) = (h, false, s)

theorem sporeCommand_busy {l : List Byte} {n : Nat} (hl : SporeFor l n) (hst : s.engState n ≠ 0) (signed cut : Bool) :
    s.sporeCommand l signed cut = (dcpFailAt 0x205 0 n, s) := by
  unfold State.sporeCommand
  simp [Nat.not_lt.2 hl.inside, hl.engine, hst]

theorem sporeCommand_refused {l : List Byte} {n : Nat} (hl : SporeReady s l n h)
    (hc : s.sporeVerify h (leAt l 4 4) signed ≠ 0) (cut : Bool) : s.sporeCommand l signed cut =
      (dcpFailAt (if s.sporeVerify h (leAt l 4 4) signed ≤ 2 then 0x104 else 0x306)
        (s.sporeVerify h (leAt l 4 4) signed) noIndex, s) := by
  unfold State.sporeCommand
  simp [Nat.not_lt.2 hl.inside, hl.engine, hl.off, hl.on, hl.read, hc]

/-- The load that the payload asks for is recorded, in place of those whose engines it takes. -/
def BootSt.sporeNoted (b : BootSt) (l : List Byte) : BootSt :=
  { b with spores := b.spores.filter (fun x => x.2.2 &&& leAt l 8 3 == 0) ++ [(leAt l 0 4, leAt l 4 4, leAt l 8 3)] }

/-- The state after a load into engine `n` that passes every check. -/
def State.sporeLoaded (s : State) (l h : List Byte) (n : Nat) : State :=
  (s.sporeEngine h n n 0).setBoot fun b => b.sporeNoted l

theorem sporeCommand_taken {l : List Byte} {n : Nat} (hl : SporeReady s l n h)
    (hc : s.sporeVerify h (leAt l 4 4) signed = 0) (hr : sporeRooks h = 1) :
    s.sporeCommand l signed false = (dcpOk, s.sporeLoaded l h n) := by
  have hinstall : s.sporeInstall h (leAt l 8 3) = s.sporeEngine h n n 0 := by
    rw [State.sporeInstall, hl.engine]
    rfl
  unfold State.sporeCommand
  simp [Nat.not_lt.2 hl.inside, hl.engine, hl.off, hl.on, hl.read, hc, hr, hinstall, State.sporeLoaded,
    BootSt.sporeNoted]

/-- What check 2 says of the first engine's I-space. -/
theorem sporeVerify_ispace {len : Nat} (hc : s.sporeVerify h len signed = 0) : leAt h 0x63 3 ≤ 0x10000 := by
  have h2 : sporeCheck2 h len = true := by
    unfold State.sporeVerify at hc
    split at hc
    · exact absurd hc (by decide)
    · split at hc
      · exact absurd hc (by decide)
      · next hn => simpa using hn
  simp only [sporeCheck2, Bool.and_eq_true, decide_eq_true_eq, List.all_eq_true, List.mem_range] at h2
  obtain ⟨⟨⟨-, hone⟩, -⟩, hall⟩ := h2
  obtain ⟨⟨⟨⟨⟨hi, -⟩, -⟩, -⟩, -⟩, -⟩ := hall 0 hone
  exact hi

/-- D-space lies above I-space, which holds what was put there. -/
theorem memByte_ispace_filled (m : List Host.Cell) (n : Nat) (code data : List Byte) {i : Nat} (hi : i < 0x10000) :
    memByte (fillMem (fillMem m (ispaceAddr n 0) 0x10000 code) (dspaceAddr n 0) 0x20000 data) (ispaceAddr n i) =
      code.getD i 0 := by
  have haddr : ispaceAddr n i = ispaceAddr n 0 + i := by simp only [ispaceAddr, Nat.add_zero]
  have hbelow : ispaceAddr n i < dspaceAddr n 0 := by
    simp only [ispaceAddr, dspaceAddr]
    omega
  rw [memByte_fillMem_below _ _ _ hbelow, haddr, memByte_fillMem _ _ _ hi]

/-- Engine `n` holds the first program of the spore: its START, its I-space and the engine that the load began with; it
is not enabled. -/
structure HoldsSpore (h : List Byte) (n : Nat) (t : State) : Prop where
  start : t.rd (PEA_Rn_CTL_START n) = leAt h 0x6C 2
  disabled : t.bit (PEA_Rn_CTL_EN n) = false
  inst : (t.rook n).inst = some n
  code : ∀ i, i < leAt h 0x63 3 → memByte t.pmem (ispaceAddr n i) = h.getD (512 + leAt h 0x60 3 + i) 0

theorem HoldsSpore.setBoot {n : Nat} {t : State} (ht : HoldsSpore h n t) (f : BootSt → BootSt) :
    HoldsSpore h n (t.setBoot f) := ⟨ht.start, ht.disabled, ht.inst, ht.code⟩

theorem HoldsSpore.dcpResult {n : Nat} {t : State} (ht : HoldsSpore h n t) (slot status : Nat) (reply : List Byte) :
    HoldsSpore h n (t.dcpResult slot status reply) := ⟨ht.start, ht.disabled, ht.inst, ht.code⟩

theorem holdsSpore_sporeEngine (s : State) (n : Nat) (hi : leAt h 0x63 3 ≤ 0x10000) :
    HoldsSpore h n (s.sporeEngine h n n 0) := by
  unfold State.sporeEngine
  extract_lets o sec m1 m2 s1 s2
  have hstart : s2.rd (PEA_Rn_CTL_START n) = leAt h 0x6C 2 :=
    (State.rd_wr_apart _ (b2n false) rfl rfl (Fld.apart_of_above (Nat.zero_lt_succ _))).trans
      (State.rd_wr_fits s1 rfl (leAt_lt h 0x6C 2))
  have hen : s2.bit (PEA_Rn_CTL_EN n) = false := State.bit_wrB_same _ _ rfl
  exact ⟨(State.rd_rookUpd ..).trans hstart, (State.bit_rookUpd ..).trans hen, congrArg RookSt.inst (rook_rookUpd ..),
    fun i hlt => (memByte_ispace_filled s.pmem n _ _ (Nat.lt_of_lt_of_le hlt hi)).trans (getD_drop_take h _ hlt)⟩

theorem exec_sporeLoad_busy {cut : Bool} (hl : SporeFor r.payload n) (hst : s.engState n ≠ 0) :
    DcpFails s slot r (.sporeLoad slot signed cut) 0x600 0x205 (dcpDetail 0xFFFF 0 n) :=
  dcpFails_detail rfl (sporeCommand_busy hl hst signed cut)

theorem exec_sporeLoad_refused {cut : Bool} (hl : SporeReady s r.payload n h)
    (hc : s.sporeVerify h (leAt r.payload 4 4) signed ≠ 0) : DcpFails s slot r (.sporeLoad slot signed cut) 0x600
      (if s.sporeVerify h (leAt r.payload 4 4) signed ≤ 2 then 0x104 else 0x306)
      (dcpDetail 0xFFFF (s.sporeVerify h (leAt r.payload 4 4) signed) noIndex) :=
  dcpFails_detail rfl (sporeCommand_refused hl hc cut)

theorem sporeLoaded_shows (s : State) (l : List Byte) (n : Fin 24) (hi : leAt h 0x63 3 ≤ 0x10000) :
    let t := s.sporeLoaded l h n
    (HoldsSpore h n t ∧ (leAt l 0 4, leAt l 4 4, leAt l 8 3) ∈ t.boot.spores) ∧
      Keeps (partMask [.regs, .pmem, .boot, .rooks]) s t := by
  have hnoted (e : State) : (leAt l 0 4, leAt l 4 4, leAt l 8 3) ∈ (e.setBoot fun b => b.sporeNoted l).boot.spores :=
    List.mem_append_right _ (List.mem_singleton_self _)
  exact ⟨⟨(holdsSpore_sporeEngine s n hi).setBoot _, hnoted _⟩,
    (State.setBoot_keeps (f := fun b => b.sporeNoted l) (fun _ => rfl) _).comp rfl
      ((State.sporeEngine_keeps ..).mono rfl)⟩

theorem exec_sporeLoad (hl : SporeReady s r.payload n h) (hc : s.sporeVerify h (leAt r.payload 4 4) signed = 0)
    (hr : sporeRooks h = 1) : DcpDoes s slot r (.sporeLoad slot signed false) 0x600 0 [] fun t =>
      (HoldsSpore h n t ∧ (leAt r.payload 0 4, leAt r.payload 4 4, leAt r.payload 8 3) ∈ t.boot.spores) ∧
        Changes [.regs, .pmem, .boot, .rooks, .dcp] s t := by
  obtain ⟨hshows, hk⟩ := sporeLoaded_shows s r.payload n (sporeVerify_ispace hc)
  exact dcpEnds_stable rfl (sporeCommand_taken hl hc hr) (.inl rfl) (congrArg DcpSt.runs (hk.same .dcp rfl))
    (hk.changes rfl) (by decide) hshows fun v hv => ⟨hv.1.dcpResult .., hv.2⟩

end Spore

/-! ## IMAGE_WRITE, IMAGE_COMMIT (R416, R462, R463) -/

section Image

variable {signed : Bool} {b : List Byte}

theorem Keeps.boot_eq {m : Nat} {s t : State} (h : Keeps m s t) (hb : m.testBit Part.boot.ix = false)
    (hl : m.testBit Part.lifeCycle.ix = false) : t.boot = s.boot := by
  have hboot : { t.boot with lifeCycle := s.boot.lifeCycle } = s.boot := h.same .boot hb
  have hlife : t.boot.lifeCycle = s.boot.lifeCycle := h.same .lifeCycle hl
  rw [← hlife] at hboot
  exact hboot

theorem secShow_boot (s : State) : s.secShow.boot = s.boot := (State.secShow_keeps s).boot_eq rfl rfl

/-- The slot takes the state given. -/
theorem slot_setSlot (s : State) (w st : Nat) :
    (if w = 0 then (s.setSlot w st).boot.slotA else (s.setSlot w st).boot.slotB) = st := by
  by_cases h : w = 0 <;> simp [State.setSlot, State.setBoot, h]

/-- The payload names a slot, a block of it and a range of shared SRAM. -/
structure ImageRange (l : List Byte) : Prop where
  slot : leAt l 0 4 ≤ 1
  length : leAt l 12 4 ≤ 0x10000
  block : leAt l 4 4 + leAt l 12 4 ≤ 0x600000
  source : leAt l 8 4 + leAt l 12 4 ≤ 0x2800000

theorem ImageRange.accepted {l : List Byte} (h : ImageRange l) :
    (decide (1 < leAt l 0 4) || decide (0x10000 < leAt l 12 4) || decide (0x600000 < leAt l 4 4 + leAt l 12 4) ||
      decide (0x2800000 < leAt l 8 4 + leAt l 12 4)) = false := by
  simp [Nat.not_lt.2 h.slot, Nat.not_lt.2 h.length, Nat.not_lt.2 h.block, Nat.not_lt.2 h.source]

theorem imageWrite_active {l : List Byte} (h : ImageRange l) (ha : leAt l 0 4 = s.boot.active) :
    s.imageWrite l = (dcpFail 0x302, s) := by
  unfold State.imageWrite
  rw [if_neg (Bool.eq_false_iff.1 h.accepted), if_pos (beq_iff_eq.2 ha)]

theorem imageWrite_stopped {l : List Byte} (h : ImageRange l) (ha : leAt l 0 4 ≠ s.boot.active)
    (hm : s.crp.mramStop = true) : s.imageWrite l = (dcpFail 0x308, s) := by
  unfold State.imageWrite
  rw [if_neg (Bool.eq_false_iff.1 h.accepted), if_neg (mt beq_iff_eq.1 ha), if_pos hm]

/-- The state after bytes `b` went into the slot that the payload names. -/
def State.imageStored (s : State) (l b : List Byte) : State :=
  (s.setSlot (leAt l 0 4) 1).secShow.mramWrite (leAt l 0 4 * 0x600000 + leAt l 4 4) b

theorem imageStored_shows (s : State) (l b : List Byte) :
    let t := s.imageStored l b
    (if leAt l 0 4 = 0 then t.boot.slotA else t.boot.slotB) = 1 ∧
      t.mram = memPutBytes s.mram (leAt l 0 4 * 0x600000 + leAt l 4 4) b ∧
      Keeps (partMask [.regs, .mram, .boot]) s t := by
  have hset := State.setSlot_keeps s (leAt l 0 4) 1
  have hslot := slot_setSlot s (leAt l 0 4) 1
  unfold State.imageStored
  generalize s.setSlot (leAt l 0 4) 1 = e at *
  have hshow := State.secShow_keeps e
  have hboot := secShow_boot e
  generalize e.secShow = v at *
  refine ⟨?_, ?_, (State.mramWrite_keeps ..).comp rfl (hshow.comp rfl (hset.mono rfl))⟩
  · rw [State.mramWrite, State.putMram_boot, hboot, hslot]
  · rw [State.mramWrite, State.putMram_mram, (hshow.same .mram rfl : v.mram = e.mram),
      (hset.same .mram rfl : e.mram = s.mram)]

theorem imageWrite_stored {l : List Byte} (h : ImageRange l) (ha : leAt l 0 4 ≠ s.boot.active)
    (hm : s.crp.mramStop = false) (hb : s.sramReadBytes true (leAt l 8 4) (leAt l 12 4) = (b, false, s)) :
    s.imageWrite l = (dcpOk, s.imageStored l b) := by
  unfold State.imageWrite
  rw [if_neg (Bool.eq_false_iff.1 h.accepted), if_neg (mt beq_iff_eq.1 ha), if_neg (Bool.eq_false_iff.1 hm)]
  unfold State.imageStore
  rw [hb]
  rfl

theorem exec_imageWrite_active (h : ImageRange r.payload) (ha : leAt r.payload 0 4 = s.boot.active) :
    DcpFails s slot r (.imageWrite slot) 0x601 0x302 noDetail := dcpFails rfl (imageWrite_active h ha)

theorem exec_imageWrite_stopped (h : ImageRange r.payload) (ha : leAt r.payload 0 4 ≠ s.boot.active)
    (hm : s.crp.mramStop = true) : DcpFails s slot r (.imageWrite slot) 0x601 0x308 noDetail :=
  dcpFails rfl (imageWrite_stopped h ha hm)

theorem exec_imageWrite (h : ImageRange r.payload) (ha : leAt r.payload 0 4 ≠ s.boot.active)
    (hm : s.crp.mramStop = false)
    (hb : s.sramReadBytes true (leAt r.payload 8 4) (leAt r.payload 12 4) = (b, false, s)) :
    DcpDoes s slot r (.imageWrite slot) 0x601 0 [] fun t =>
      ((if leAt r.payload 0 4 = 0 then t.boot.slotA else t.boot.slotB) = 1 ∧
        memBytes t.mram (leAt r.payload 0 4 * 0x600000 + leAt r.payload 4 4) b.length = b ∧
        (∀ a, a < leAt r.payload 0 4 * 0x600000 + leAt r.payload 4 4 ∨
            leAt r.payload 0 4 * 0x600000 + leAt r.payload 4 4 + b.length ≤ a → memByte t.mram a = memByte s.mram a)) ∧
        Changes [.regs, .mram, .boot, .dcp] s t := by
  obtain ⟨hslot, hmram, hk⟩ := imageStored_shows s r.payload b
  refine dcpEnds_stable rfl (imageWrite_stored h ha hm hb) (.inl rfl) (congrArg DcpSt.runs (hk.same .dcp rfl))
    (hk.changes rfl) (by decide) ⟨hslot, ?_, fun a hout => ?_⟩ fun v hv => hv
  · rw [hmram]
    exact memBytes_memPutBytes ..
  · rw [hmram]
    exact memByte_memPutBytes_outside _ _ _ hout

/-- Checks 1 to 6 of R462 on slot `w`: the first that fails, 0 where it passes. -/
def State.slotCheck (s : State) (w : Nat) (signed : Bool) : Nat :=
  s.imageVerify (memBytes s.mram (w * 0x600000) 512) signed

/-- The slot is bootable and preferred. -/
def State.slotCommitted (s : State) (w : Nat) : State :=
  ((s.setSlot w 2).setBoot fun b => { b with preferred := w }).secShow

theorem slotCommitted_shows (s : State) (w : Nat) :
    let t := s.slotCommitted w
    (if w = 0 then t.boot.slotA else t.boot.slotB) = 2 ∧ t.boot.preferred = w ∧
      Keeps (partMask [.regs, .boot]) s t := by
  have hpref : ∀ e : State, (if w = 0 then e.boot.slotA else e.boot.slotB) = 2 →
      let t := e.setBoot fun b => { b with preferred := w }
      (if w = 0 then t.boot.slotA else t.boot.slotB) = 2 ∧ t.boot.preferred = w := fun e he => ⟨he, rfl⟩
  have hk := State.setBoot_keeps (f := fun b => { b with preferred := w }) (fun _ => rfl) (s.setSlot w 2)
  obtain ⟨hslot, hp⟩ := hpref _ (slot_setSlot s w 2)
  dsimp only
  rw [State.slotCommitted, secShow_boot]
  exact ⟨hslot, hp, (State.secShow_keeps _).comp rfl (hk.comp rfl ((State.setSlot_keeps ..).mono rfl))⟩

theorem imageCommit_eq {w : Nat} (hw : w ≤ 1) : s.imageCommit w signed =
    if s.slotCheck w signed != 0 then (dcpFailAt 0x306 (s.slotCheck w signed) w, s) else (dcpOk, s.slotCommitted w) :=
  if_neg (by simpa using hw)

theorem exec_imageCommit_refused (hw : leAt r.payload 0 4 ≤ 1) (hc : s.slotCheck (leAt r.payload 0 4) signed ≠ 0) :
    DcpFails s slot r (.imageCommit slot signed) 0x602 0x306
      (dcpDetail 0xFFFF (s.slotCheck (leAt r.payload 0 4) signed) (leAt r.payload 0 4)) :=
  dcpFails_detail rfl ((imageCommit_eq hw).trans (if_pos (bne_iff_ne.2 hc)))

theorem exec_imageCommit (hw : leAt r.payload 0 4 ≤ 1) (hc : s.slotCheck (leAt r.payload 0 4) signed = 0) :
    DcpDoes s slot r (.imageCommit slot signed) 0x602 0 [] fun t =>
      ((if leAt r.payload 0 4 = 0 then t.boot.slotA else t.boot.slotB) = 2 ∧ t.boot.preferred = leAt r.payload 0 4) ∧
        Changes [.regs, .boot, .dcp] s t := by
  obtain ⟨hslot, hpref, hk⟩ := slotCommitted_shows s (leAt r.payload 0 4)
  exact dcpEnds_stable rfl ((imageCommit_eq hw).trans (if_neg (by simpa using hc))) (.inl rfl)
    (congrArg DcpSt.runs (hk.same .dcp rfl)) (hk.changes rfl) (by decide) ⟨hslot, hpref⟩ fun v hv => hv

end Image

/-! ## BIST_RUN (R411, R545) -/

section Bist

variable {nf : BitVec 32} {first : BitVec 64}

/-- A code from 1 to 6 names a test. -/
theorem bistUnit_low {c : Nat} (h1 : 1 ≤ c) (h6 : c ≤ 6) : ∃ u, bistUnit c = some u := by
  interval_cases c <;> exact ⟨_, rfl⟩

/-- Such a test leaves nothing behind. -/
theorem bistMark_low {c : Nat} (h6 : c ≤ 6) : s.bistMark c = s := by
  have hswc : c ≠ 0x101 := by omega
  have hrook : c ≠ 0x102 := by omega
  simp [State.bistMark, hswc, hrook]

/-- Such a test runs in any mode, whatever the engines do. -/
theorem bistRuns_low {c : Nat} (h6 : c ≤ 6) (busy : Bool) (x y z : DcpAns × State) :
    (if (decide (0x100 ≤ c) && s.mode != 11) = true then x else if (c == 0x102 && busy) = true then y else z) = z := by
  have hmode : ¬ 0x100 ≤ c := by omega
  have hrook : c ≠ 0x102 := by omega
  simp [hmode, hrook]

theorem exec_bistRun_undefined (h : bistUnit (leAt r.payload 0 4) = none) :
    DcpFails s slot r (.bistRun slot nf first) 0x702 0x104 (dcpDetail 0 0 noIndex) :=
  dcpFails_detail rfl (by dsimp only; rw [h])

theorem exec_bistRun_mode (hc : 0x100 ≤ leAt r.payload 0 4) (h : bistUnit (leAt r.payload 0 4) ≠ none)
    (hm : s.mode ≠ 11) : DcpFails s slot r (.bistRun slot nf first) 0x702 0x203 noDetail := by
  obtain ⟨u, hu⟩ := Option.ne_none_iff_exists'.1 h
  exact dcpFails rfl (by dsimp only; rw [hu]; simp [hc, hm])

theorem exec_bistRun_passes (h1 : 1 ≤ leAt r.payload 0 4) (h6 : leAt r.payload 0 4 ≤ 6) (hn : nf = 0) :
    DcpFails s slot r (.bistRun slot nf first) 0x702 0
      (bytesLE 2 0 ++ bytesLE 2 (leAt r.payload 0 4) ++ bytesLE 4 0 ++ bytesLE 8 0) := by
  obtain ⟨u, hu⟩ := bistUnit_low h1 h6
  refine dcpReplies rfl ?_
  dsimp only
  rw [hu, bistMark_low h6]
  exact (bistRuns_low h6 _ _ _ _).trans (by simp [hn, b2n])

theorem exec_bistRun_finds (h1 : 1 ≤ leAt r.payload 0 4) (h6 : leAt r.payload 0 4 ≤ 6) (hn : nf ≠ 0) :
    DcpDoes s slot r (.bistRun slot nf first) 0x702 0x401
      (bytesLE 2 1 ++ bytesLE 2 (leAt r.payload 0 4) ++ bytesLE 4 nf.toNat ++ bytesLE 8 first.toNat) fun t =>
      Changes [.regs, .evlog, .evLost, .dcp] s t := by
  obtain ⟨u, hu⟩ := bistUnit_low h1 h6
  have hbad : ¬ nf = 0#32 := hn
  have hk := State.logEvent_keeps s 0x0800 u 2 (leAt r.payload 0 4 + nf.toNat * 2 ^ 16)
  refine dcpEnds (u := s.logEvent 0x0800 u 2 (leAt r.payload 0 4 + nf.toNat * 2 ^ 16)) rfl ?_
    (.inr (by simp [bytesLE])) (congrArg DcpSt.runs (hk.same .dcp rfl)) ((hk.changes rfl).dcpResult (by decide))
  dsimp only
  rw [hu, bistMark_low h6]
  exact (bistRuns_low h6 _ _ _ _).trans (by simp [hbad, b2n])

end Bist

/-! ## MARCH_RUN (R515 to R517) -/

section March

/-- A transparent march over banks of shared SRAM that are powered. -/
structure MarchTransparent (s : State) (l : List Byte) : Prop where
  order : byteAt l 0 ≤ byteAt l 1
  last : byteAt l 1 < 76
  mode : byteAt l 3 = 0
  idle : s.cyclicMode = false
  on : ∀ b, byteAt l 0 ≤ b → b ≤ byteAt l 1 → s.bankState b = 1

theorem marchRun_clean {l : List Byte} (h : MarchTransparent s l) : s.marchRun l [] =
    (.done 0 (List.replicate 16 0), s.marchStat (byteAt l 1) (byteAt l 2) 0 true) := by
  have hfree : (((List.range 80).filter fun b => decide (byteAt l 0 ≤ b) && decide (b ≤ byteAt l 1)).find? fun b =>
      s.bankState b != 1 || decide (76 ≤ b) || (!(byteAt l 3 == 1) && decide (b < 8) && s.cyclicMode)) = none := by
    rw [List.find?_eq_none]
    intro b hb
    simp only [List.mem_filter, Bool.and_eq_true, decide_eq_true_eq] at hb
    obtain ⟨-, hlo, hhi⟩ := hb
    simp [h.on b hlo hhi, h.idle, Nat.lt_of_le_of_lt hhi h.last]
  have hrange : (decide (79 < byteAt l 1) || decide (byteAt l 1 < byteAt l 0)) = false := by
    have := h.last
    simp [h.order, (by omega : byteAt l 1 ≤ 79)]
  have hmem (e : State) (bank algo fails : Nat) (tr : Bool) : (e.marchStat bank algo fails tr).mem = e.mem :=
    (State.marchStat_keeps ..).same .mem rfl
  unfold State.marchRun
  dsimp only
  rw [hfree, if_neg (Bool.eq_false_iff.1 hrange), h.mode]
  simp only [List.filter_nil, List.map_nil, List.foldl_nil, hmem, Nat.sub_self]
  rfl

theorem marchStat_shows (bank algo : Nat) (hb : bank < 256) :
    let t := s.marchStat bank algo 0 true
    (t.rd MEM_MARCH_STAT_BANK = bank ∧ t.bit MEM_MARCH_STAT_TRANSPARENT = true ∧ t.rd MEM_MARCH_STAT_FAILS = 0) ∧
      RegsBut [MEM_MARCH_STAT] s t := by
  have hin : MEM_MARCH_STAT ∈ [MEM_MARCH_STAT] := List.mem_singleton_self _
  refine ⟨⟨?_, ?_, State.rd_wr_fits _ rfl (by decide)⟩,
    (((((regsBut_setReg s MEM_MARCH_STAT 0).wr hin _).wr hin _).wrB hin _).wr hin _).wr hin _⟩
  · simp (disch := decide) only [State.marchStat, State.wrB, State.rd_wr_apart]
    exact State.rd_wr_fits _ rfl hb
  · simp (disch := decide) only [State.marchStat, State.bit_wr_apart]
    exact State.bit_wrB_same _ _ rfl

theorem exec_marchRun (h : MarchTransparent s r.payload) :
    DcpDoes s slot r (.marchRun slot []) 0x703 0 (List.replicate 16 0) fun t =>
      ((t.rd MEM_MARCH_STAT_BANK = byteAt r.payload 1 ∧ t.bit MEM_MARCH_STAT_TRANSPARENT = true ∧
        t.rd MEM_MARCH_STAT_FAILS = 0) ∧ RegsBut [MEM_MARCH_STAT] s t) ∧ Changes [.regs, .dcp] s t := by
  have hk := State.marchStat_keeps s (byteAt r.payload 1) (byteAt r.payload 2) 0 true
  exact dcpEnds_stable rfl (marchRun_clean h) (.inl rfl) (congrArg DcpSt.runs (hk.same .dcp rfl)) (hk.changes rfl)
    (by decide) (marchStat_shows _ _ (Nat.lt_trans h.last (by decide))) fun v hv => hv

end March

/-! ## CAL_SET, CAL_CLEAR (R417) -/

section Calibration

variable {item idx a : Nat}

theorem calWrite_of_calReg (s : State) (v : Nat) (h : calReg item idx = some a) :
    s.calWrite item idx v = s.setReg a (BitVec.ofNat 64 (calWord item v)) := by
  rw [State.calWrite, h]

theorem reg_calWrite_ne (s : State) (v : Nat) (h : calReg item idx ≠ some a) :
    (s.calWrite item idx v).reg a = s.reg a := by
  unfold State.calWrite
  split
  · rfl
  next b hb => exact State.reg_setReg_ne _ _ fun e => h (hb.trans (congrArg some e.symm))

theorem calReg_lat (p : Fin 10) : calReg 2 p = some (NTU_PORTp_LAT p) := by simp [calReg]

/-- No other item has the register of a port's latency. -/
theorem calReg_eq_lat {p : Nat} (h : calReg item idx = some (NTU_PORTp_LAT p)) : (item, idx) = (2, p) := by
  unfold calReg at h
  split_ifs at h with hTrim hLat hAsym <;>
    simp only [Option.some.injEq, NTU_LT_TRIM, NTU_PORTp_LAT, NTU_PORTp_ASYM] at h
  · omega
  · simp only [Bool.and_eq_true, beq_iff_eq] at hLat
    rw [hLat.1, (by omega : idx = p)]
  · omega

theorem mem_calItems_lat (p : Fin 10) : (2, p.val) ∈ calItems := by
  simp [calItems]

/-- The user value is kept, in the place of the one before. -/
def State.calNoted (s : State) (item idx v : Nat) : State :=
  s.putDcp { s.dcp with cal := mapPut (fun _ => none) s.dcp.cal (256 * item + idx) (some v) }

theorem calNoted_keeps (s : State) (item idx v : Nat) : Keeps (partMask [.dcp]) s (s.calNoted item idx v) :=
  State.putDcp_keeps ..

theorem userCal_calNoted (s : State) (item idx v : Nat) : (s.calNoted item idx v).userCal item idx = some v := by
  rw [State.userCal, State.calNoted, State.putDcp_dcp, mapGet_put_same]

/-- The state after a user value `v` of the item whose register is `a`. -/
def State.calStored (s : State) (item idx v a : Nat) : State :=
  (s.calNoted item idx v).setReg a (BitVec.ofNat 64 (calWord item v))

theorem calStored_shows (s : State) (item idx v a : Nat) :
    let t := s.calStored item idx v a
    (t.userCal item idx = some v ∧ t.reg a = BitVec.ofNat 64 (calWord item v) ∧ RegsBut [a] s t) ∧
      t.dcp.runs = s.dcp.runs ∧ Keeps (partMask [.regs, .dcp]) s t := by
  have huser := userCal_calNoted s item idx v
  have hruns : (s.calNoted item idx v).dcp.runs = s.dcp.runs := rfl
  have hk := calNoted_keeps s item idx v
  dsimp only
  unfold State.calStored
  generalize s.calNoted item idx v = e at *
  have hnoted : e.regs = s.regs := hk.same .regs rfl
  refine ⟨⟨huser, State.reg_setReg_same .., fun b hb => ?_⟩, hruns, (State.setReg_keeps ..).comp rfl (hk.mono rfl)⟩
  rw [regsBut_setReg e a _ b hb, State.reg, State.reg, hnoted]

theorem exec_calSet_undefined (hon : s.domOn 6 = true)
    (h : calReg (leAt r.payload 0 2) (byteAt r.payload 2) = none ∨
      calFits (leAt r.payload 0 2) (leAt r.payload 8 8) = false) :
    DcpFails s slot r (.calSet slot) 0x801 0x301 noDetail :=
  dcpFails rfl ((State.needs_on hon _).trans (if_pos (by simpa using h)))

theorem exec_calSet_locked (hon : s.domOn 6 = true) (hr : calReg (leAt r.payload 0 2) (byteAt r.payload 2) ≠ none)
    (hv : calFits (leAt r.payload 0 2) (leAt r.payload 8 8) = true) (hl : s.calLocked (leAt r.payload 0 2) = true) :
    DcpFails s slot r (.calSet slot) 0x801 0x305 noDetail :=
  dcpFails rfl ((State.needs_on hon _).trans ((if_neg (by simpa using ⟨hr, hv⟩)).trans (if_pos hl)))

theorem exec_calSet (hon : s.domOn 6 = true) (hr : calReg (leAt r.payload 0 2) (byteAt r.payload 2) = some a)
    (hv : calFits (leAt r.payload 0 2) (leAt r.payload 8 8) = true) (hl : s.calLocked (leAt r.payload 0 2) = false)
    (hm : s.crp.mramStop = false) : DcpDoes s slot r (.calSet slot) 0x801 0 [] fun t =>
      (t.userCal (leAt r.payload 0 2) (byteAt r.payload 2) = some (leAt r.payload 8 8) ∧
        t.reg a = BitVec.ofNat 64 (calWord (leAt r.payload 0 2) (leAt r.payload 8 8)) ∧ RegsBut [a] s t) ∧
        Changes [.regs, .dcp] s t := by
  obtain ⟨hshows, hruns, hk⟩ := calStored_shows s (leAt r.payload 0 2) (byteAt r.payload 2) (leAt r.payload 8 8) a
  have hok : ((calReg (leAt r.payload 0 2) (byteAt r.payload 2)).isNone ||
      !calFits (leAt r.payload 0 2) (leAt r.payload 8 8)) = false := by simp [hr, hv]
  refine dcpEnds_stable rfl ((State.needs_on hon _).trans ?_) (.inl rfl) hruns (hk.changes rfl)
    (by decide) hshows fun v hv => hv
  rw [if_neg (Bool.eq_false_iff.1 hok), if_neg (Bool.eq_false_iff.1 hl), if_neg (Bool.eq_false_iff.1 hm)]
  exact congrArg (Prod.mk dcpOk) (calWrite_of_calReg _ _ hr)

theorem calForget_dcp (s : State) : s.calForget.dcp = { s.dcp with cal := [] } :=
  have hk : Keeps 8 (s.putDcp { s.dcp with cal := [] }) s.calForget :=
    Keeps.foldl (fun _ _ h => (State.calWrite_keeps ..).comp rfl h) Keeps.refl
  (hk.same .dcp rfl).trans (State.putDcp_dcp ..)

theorem reg_calForget_lat (s : State) (p : Fin 10) :
    s.calForget.reg (NTU_PORTp_LAT p) = BitVec.ofNat 64 (factoryCal 2 p) := by
  have hself (t : State) :
      (t.calWrite 2 p (factoryCal 2 p)).reg (NTU_PORTp_LAT p) = BitVec.ofNat 64 (factoryCal 2 p) := by
    rw [calWrite_of_calReg t _ (calReg_lat p), State.reg_setReg_same]
    rfl
  refine foldl_establishes (Q := fun t => t.reg (NTU_PORTp_LAT p) = BitVec.ofNat 64 (factoryCal 2 p))
    (mem_calItems_lat p) hself (fun t y _ ht => ?_) _
  by_cases hy : calReg y.1 y.2 = some (NTU_PORTp_LAT p)
  · obtain rfl : y = (2, p.val) := calReg_eq_lat hy
    exact hself t
  · rw [reg_calWrite_ne t _ hy, ht]

theorem exec_calClear (hon : s.domOn 6 = true) (hm : s.crp.mramStop = false) :
    DcpDoes s slot r (.calClear slot) 0x802 0 [] fun t =>
      (t.dcp.cal = [] ∧ ∀ p : Fin 10, t.reg (NTU_PORTp_LAT p) = BitVec.ofNat 64 (factoryCal 2 p)) ∧
        Changes [.regs, .dcp] s t := by
  have hruns : s.calForget.dcp.runs = s.dcp.runs := by rw [calForget_dcp]
  have hcal : s.calForget.dcp.cal = [] := by rw [calForget_dcp]
  refine dcpEnds_stable rfl ((State.needs_on hon _).trans (if_neg (Bool.eq_false_iff.1 hm))) (.inl rfl) hruns
    ((State.calForget_keeps s).changes rfl) (by decide) ⟨hcal, reg_calForget_lat s⟩ fun v hv => hv

end Calibration

/-! ## FACTORY_WRITE (R417, R466) -/

section Factory

/-- The state after a block of the factory area is written. -/
def State.factoryStored (s : State) (l : List Byte) : State :=
  ((s.mramWrite (0xF00000 + leAt l 0 4) (l.drop 8)).setBoot
    fun b => { b with factoryWritten := leAt l 0 4 / 0x1000 :: b.factoryWritten }).secShow

theorem factoryStored_shows (s : State) (l : List Byte) :
    let t := s.factoryStored l
    t.boot.factoryWritten = leAt l 0 4 / 0x1000 :: s.boot.factoryWritten ∧
      t.mram = memPutBytes s.mram (0xF00000 + leAt l 0 4) (l.drop 8) ∧ Keeps (partMask [.regs, .mram, .boot]) s t := by
  have hk := State.mramWrite_keeps s (0xF00000 + leAt l 0 4) (l.drop 8)
  have hmram : (s.mramWrite (0xF00000 + leAt l 0 4) (l.drop 8)).mram =
      memPutBytes s.mram (0xF00000 + leAt l 0 4) (l.drop 8) := by rw [State.mramWrite, State.putMram_mram]
  dsimp only
  unfold State.factoryStored
  generalize s.mramWrite (0xF00000 + leAt l 0 4) (l.drop 8) = e at *
  have hboot : e.boot = s.boot := hk.boot_eq rfl rfl
  have hset := State.setBoot_keeps (f := fun b => { b with factoryWritten := leAt l 0 4 / 0x1000 :: b.factoryWritten })
    (fun _ => rfl) e
  have hsetBoot (f : BootSt → BootSt) : (e.setBoot f).boot = f e.boot := rfl
  refine ⟨?_, ?_, (State.secShow_keeps _).comp rfl (hset.comp rfl (hk.mono rfl))⟩
  · rw [secShow_boot, hsetBoot, hboot]
  · rw [((State.secShow_keeps _).same .mram rfl : (State.secShow _).mram = _),
      (hset.same .mram rfl : State.mram _ = _), hmram]

/-- The payload names a block of the area, and the life cycle lets it be written. -/
structure FactoryBlock (s : State) (l : List Byte) : Prop where
  whole : leAt l 0 4 % 0x1000 = 0
  inside : leAt l 0 4 < 0x100000
  may : s.factoryMay (leAt l 0 4) = true

theorem factoryWrite_block {l : List Byte} (h : FactoryBlock s l) : s.factoryWrite l =
    if s.boot.factoryWritten.contains (leAt l 0 4 / 0x1000) then (dcpFail 0x302, s)
    else if s.crp.mramStop then (dcpFail 0x308, s) else (dcpOk, s.factoryStored l) := by
  have hrange : (leAt l 0 4 % 0x1000 != 0 || decide (0x100000 ≤ leAt l 0 4)) = false := by
    simp [h.whole, h.inside]
  have hmay : (!s.factoryMay (leAt l 0 4)) = false := by simp [h.may]
  unfold State.factoryWrite
  rw [if_neg (Bool.eq_false_iff.1 hrange), if_neg (Bool.eq_false_iff.1 hmay)]
  rfl

theorem exec_factoryWrite_misaligned (h : leAt r.payload 0 4 % 0x1000 ≠ 0) :
    DcpFails s slot r (.factoryWrite slot) 0x803 0x301 noDetail := dcpFails rfl (if_pos (by simp [h]))

theorem exec_factoryWrite_again (h : FactoryBlock s r.payload)
    (hw : s.boot.factoryWritten.contains (leAt r.payload 0 4 / 0x1000) = true) :
    DcpFails s slot r (.factoryWrite slot) 0x803 0x302 noDetail :=
  dcpFails rfl ((factoryWrite_block h).trans (if_pos hw))

theorem exec_factoryWrite (h : FactoryBlock s r.payload)
    (hw : s.boot.factoryWritten.contains (leAt r.payload 0 4 / 0x1000) = false) (hm : s.crp.mramStop = false) :
    DcpDoes s slot r (.factoryWrite slot) 0x803 0 [] fun t =>
      (t.boot.factoryWritten = leAt r.payload 0 4 / 0x1000 :: s.boot.factoryWritten ∧
        memBytes t.mram (0xF00000 + leAt r.payload 0 4) (r.payload.drop 8).length = r.payload.drop 8) ∧
        Changes [.regs, .mram, .boot, .dcp] s t := by
  obtain ⟨hwritten, hmram, hk⟩ := factoryStored_shows s r.payload
  refine dcpEnds_stable rfl ((factoryWrite_block h).trans ?_) (.inl rfl) (congrArg DcpSt.runs (hk.same .dcp rfl))
    (hk.changes rfl) (by decide) ⟨hwritten, ?_⟩ fun v hv => hv
  · rw [if_neg (Bool.eq_false_iff.1 hw), if_neg (Bool.eq_false_iff.1 hm)]
    rfl
  · rw [hmram]
    exact memBytes_memPutBytes ..

end Factory

end Maintenance

/-- Settles O41: each clause is the lemma of its command, most of them the effect of one function on the state that the
outcome leaves alone. -/
theorem commandsOfMaintenance : Obligations.CommandsOfMaintenance := by
  unfold Obligations.CommandsOfMaintenance
  intro s slot r n signed nf first pay w0 does fails
  refine ⟨?spore, ?image, ?commit, exec_bistRun_undefined, exec_bistRun_passes,
    exec_bistRun_finds, exec_bistRun_mode, ?march, ?cal, ?clear,
    ?factory, exec_factoryWrite_misaligned⟩
  case spore =>
    intro h load len hin heng
    have hfor : SporeFor pay n := ⟨hin, heng⟩
    refine ⟨exec_sporeLoad_busy hfor, fun hoff hon hread => ?_⟩
    have hready : SporeReady s pay n h := ⟨hfor, hoff, hon, hread⟩
    refine ⟨exec_sporeLoad_refused hready, fun hc hr => (exec_sporeLoad hready hc hr).mono ?_⟩
    rintro t ⟨⟨⟨hstart, hen, hinst, hcode⟩, hnoted⟩, hch⟩
    exact ⟨hstart, hen, hinst, hnoted, hcode, hch⟩
  case image =>
    intro off src len hslot hlen hblock hsrc
    have hrange : ImageRange pay := ⟨hslot, hlen, hblock, hsrc⟩
    refine ⟨exec_imageWrite_active hrange, exec_imageWrite_stopped hrange, fun b ha hm hb =>
      (exec_imageWrite hrange ha hm hb).mono ?_⟩
    rintro t ⟨⟨hstate, hbytes, hrest⟩, hch⟩
    exact ⟨hstate, hbytes, hrest, hch⟩
  case commit =>
    intro c hw
    refine ⟨exec_imageCommit_refused hw, fun hc => (exec_imageCommit hw hc).mono ?_⟩
    rintro t ⟨⟨hstate, hpref⟩, hch⟩
    exact ⟨hstate, hpref, hch⟩
  case march =>
    intro horder hlast hmode hidle hon
    refine (exec_marchRun ⟨horder, hlast, hmode, hidle, hon⟩).mono ?_
    rintro t ⟨⟨⟨hbank, htr, hfails⟩, hregs⟩, hch⟩
    have hsram : t.sram = s.sram := hch .sram (by decide)
    exact ⟨hbank, htr, hfails, fun a => by rw [hsram], hregs⟩
  case cal =>
    intro item idx v
    refine ⟨exec_calSet_undefined, exec_calSet_locked, fun a hon hr hv hl hm =>
      (exec_calSet hon hr hv hl hm).mono ?_⟩
    rintro t ⟨⟨huser, hreg, hregs⟩, hch⟩
    exact ⟨huser, hreg, hregs, hch⟩
  case clear =>
    refine fun hon hm => (exec_calClear hon hm).mono ?_
    rintro t ⟨⟨hcal, hlat⟩, hch⟩
    exact ⟨hcal, hlat, hch⟩
  case factory =>
    intro b hwhole hin hmay
    have hblock : FactoryBlock s pay := ⟨hwhole, hin, hmay⟩
    refine ⟨exec_factoryWrite_again hblock, fun hw hm => (exec_factoryWrite hblock hw hm).mono ?_⟩
    rintro t ⟨⟨hwritten, hbytes⟩, hch⟩
    exact ⟨hwritten, hbytes, hch⟩

end Sys2Proof.Machine
end
